-- ==== Sys2Proof/Word.lean ====
section
/-! DEFINITION. The word types of the part (R12) and the identifiers of its blocks (R7, R8). -/

namespace Sys2Proof

/-- A word is 64 bits (R12). -/
abbrev Word := BitVec 64
/-- A byte. -/
abbrev Byte := BitVec 8
/-- The number of a Control Processor, CP0 to CP31 (R7). -/
abbrev CpId := Fin 32
/-- The number of one of sixteen registers G, K or D (R71). -/
abbrev Reg := Fin 16
/-- A partition PT0 to PT15. -/
abbrev PartId := Fin 16
/-- A cluster CL0 to CL15 (R7). -/
abbrev ClusterId := Fin 16
/-- A quadrant Q0 to Q3 (R7). -/
abbrev QuadId := Fin 4
/-- A near stack NS0 to NS15. -/
abbrev StackId := Fin 16
/-- A Cellar channel CC0 to CC7. -/
abbrev ChanId := Fin 8
/-- A DMA engine or CRC unit, 0 to 15. -/
abbrev EngId := Fin 16
/-- A port: 0 E0, 1 E1, 2 E2, 3 M0 (R478). -/
abbrev PortId := Fin 4
/-- A KWT session, 0 to 4,095 (R449). -/
abbrev SessId := Fin 4096

/-- The two memory tiers (R128). -/
inductive Tier where
  | near
  | cellar
  deriving DecidableEq, Repr

end Sys2Proof
end

