-- ==== Sys2Proof/Types.lean ====
section
/-! DEFINITION. The operands of the commands: the fields of a vector encoding, the frames and packets that reach
the part, and what the part measures at a time-driven step. -/

namespace Sys2Proof

/-- The fields of a four-parcel vector encoding beside its opcode (R170). -/
structure VecFields where
  dd : Reg
  da : Reg
  db : Reg
  dc : Reg
  msel : BitVec 5
  ty : BitVec 4
  rnd : BitVec 3
  ch : Bool
  tw : Bool
  imm : BitVec 14
  deriving DecidableEq, Repr

/-- A request of a master of the fast matrix (R409). -/
structure FabReq where
  m : Fin 37
  id : Fin 32
  addr : BitVec 32
  write : Bool
  data : Word
  part : Option PartId
  consume : Bool
  deriving DecidableEq, Repr

/-- A KWT datagram with the addresses it came from (R445). -/
structure KwtFrame where
  port : PortId
  sub : Fin 8
  srcMac : BitVec 48
  srcIp : BitVec 128
  srcUdp : BitVec 16
  ver : Byte
  op : Byte
  flags : BitVec 16
  session : BitVec 16
  len : BitVec 16
  seq : BitVec 32
  ack : BitVec 32
  token : BitVec 128
  offset : Word
  arg : Word
  payload : List Byte
  trailer : BitVec 32
  deriving DecidableEq, Repr

/-- What an Ethernet frame holds above the MAC (R438 to R443). -/
inductive EthBody where
  | arp (target : BitVec 32)
  | neighbour (target : BitVec 128)
  | echo (v6 : Bool)
  | udp (v6 : Bool) (plain : Bool) (dstPort : BitVec 16) (csumZero csumOk : Bool) (kwt : KwtFrame)
  | other
  deriving DecidableEq, Repr

/-- A frame as the MAC of a port delivers it (R438, R440, R442). -/
structure EthFrame where
  port : PortId
  sub : Fin 8
  size : BitVec 16
  tagged : Bool
  fcsOk : Bool
  fecOk : Bool
  secured : Bool
  icvOk : Bool
  srcMac : BitVec 48
  dstMac : BitVec 48
  dstIp : BitVec 128
  body : EthBody
  deriving DecidableEq, Repr

/-- A Ubori frame (R531). -/
structure UboriFrame where
  ver : Byte
  type : Byte
  flags : BitVec 16
  len : BitVec 16
  seq : BitVec 32
  ack : BitVec 32
  epoch : Word
  arg : Word
  body : List Byte
  crc : BitVec 32
  deriving DecidableEq, Repr

/-- The negotiation record of a HELLO frame (R535). -/
structure HelloRec where
  pairId : Word
  role : Byte
  prefer : Byte
  ckptMs : BitVec 16
  digest : BitVec 512
  proto : Byte
  epoch : Word
  ckptNo : BitVec 32
  lease : Bool
  idkHash : BitVec 256
  deriving DecidableEq, Repr

/-- What the partner sends to authenticate itself (R584). -/
structure PairAuth where
  idkPub : List Byte
  sig : List Byte
  kemKey : List Byte
  kemCt : List Byte
  deriving DecidableEq, Repr

/-- A reply of the witness service (R545). -/
structure WitnessReply where
  magic : BitVec 32
  grant : Bool
  pairId : Word
  holder : BitVec 128
  gen : Word
  reqNo : Word
  tag : BitVec 128
  deriving DecidableEq, Repr

/-- What the poll of the regulators reads (R489, R494): READ_IOUT of each quadrant in 0.1 A, whether each read
succeeded, and whether STATUS_WORD reports a fault. -/
structure Telemetry where
  iout : Vector (BitVec 16) 4
  ok : Vector Bool 4
  fault : Vector Bool 4
  deriving DecidableEq, Repr

/-- One 100 ns sample of the monitors (R505): the sag of Q0 to Q3 and of VSRAM in mV, and VINMON in 0.1 % of
nominal. -/
structure MonSample where
  sag : Vector (BitVec 12) 5
  vin : BitVec 12
  deriving DecidableEq, Repr

/-- A Two-Wire Debug packet as the target receives it (R593); data and crc are those of a write. -/
structure TwdPacket where
  header : BitVec 16
  addr : BitVec 32
  data : Word
  crc : BitVec 16
  deriving DecidableEq, Repr

/-- What SPD check and training find of one DIMM (R331, R332): whether it is present, a registered module with ECC and x4 devices,
passes its SPD check and its training; capacity, ranks, dies of a stack, density of a device in Gb, rated rate in MT/s, and the threshold
of refresh management. -/
structure Dimm where
  present : Bool
  x4 : Bool
  spdOk : Bool
  trainOk : Bool
  gib : BitVec 16
  ranks : BitVec 4
  dies : BitVec 4
  density : BitVec 8
  rate : BitVec 16
  raa : BitVec 16
  deriving DecidableEq, Repr

/-- How the probe of a sideband bus ends (R643, R645). -/
inductive ProbeOutcome where
  | normal
  | swapped
  | stuck
  | noPull
  | riseFail
  | short
  | noDevice
  deriving DecidableEq, Repr

/-- Whether the wrapper of a near stack answers, and whether every pseudo-channel of the stack trained (R317, R344). -/
structure StackResult where
  answers : Bool
  trainOk : Bool
  deriving DecidableEq, Repr

/-- The identity that a near stack gives (R317): its density in GiB, its height, its rated data rate in units of 0.1 Gb/s, and the identity
words. -/
structure StackIdent where
  gib : BitVec 8
  height : BitVec 8
  rate : BitVec 8
  id0 : Word
  id1 : Word
  deriving DecidableEq, Repr

/-- What the probe of a sideband bus measures (R655). -/
structure ProbeResult where
  outcome : ProbeOutcome
  riseNs : BitVec 16
  found : Byte
  idBad : Bool
  fru : Option (BitVec 16 × BitVec 48)
  deriving DecidableEq, Repr

/-- How a sideband transaction ends (R640, R645). -/
inductive SbOutcome where
  | acked
  | nacked
  | arbLost
  deriving DecidableEq, Repr

/-- The outputs that the part reads back (R645). -/
inductive OutputPin where
  | gpio (n : Fin 16)
  | evtOut (n : Fin 4)
  | pairHbOut
  | cpFault
  | thermTrip
  deriving DecidableEq, Repr

/-- What a local port of a mesh router joins (R22, R337): a cluster, its near-memory controller, a DMA engine, a CRC unit, a Cellar
controller, or an attachment of the I/O hub. -/
inductive MeshUnit where
  | cluster (n : ClusterId)
  | near (n : StackId)
  | de (n : EngId)
  | cu (n : EngId)
  | cc (n : ChanId)
  | hub (q : QuadId)
  deriving DecidableEq, Repr

/-- The inputs of a mesh router (R337): a unit at its local port, or the link from a neighbour. -/
inductive MeshPort where
  | unit (u : MeshUnit)
  | north
  | south
  | east
  | west
  deriving DecidableEq, Repr

/-- A flit of 64 bytes (R336): the units that it goes between, whether it brings data to memory, its payload, whether it is poisoned, and
the request that it belongs to. -/
structure Flit where
  src : MeshUnit
  dst : MeshUnit
  write : Bool
  data : BitVec 512
  poison : Bool
  id : Word
  deriving DecidableEq, Repr

/-- What goes on at a router on one of the eight channels of a direction (R336, R337): the channel, a flit that a unit puts into its
router's queue, and whether the unit of a local output takes the first flit that waits for it. -/
structure FlitMove where
  ch : Fin 8
  fresh : Option Flit
  taken : Bool
  deriving DecidableEq, Repr

/-- A dispatch override of a microcode patch set (R289): an opcode, its new entry, and the constants of R298 that the redirected
microprogram has. -/
structure UcOverride where
  op : BitVec 10
  entry : BitVec 16
  sbase : Byte
  e : BitVec 6
  deriving DecidableEq, Repr

/-- A writable on-die array of a cluster that its scrubber reads, with the CP of the cluster where each has its own (R347, R364). -/
inductive OnDie where
  | spad
  | spadTags
  | pram (n : Fin 2)
  | bitRam (n : Fin 2)
  | dRegs (n : Fin 2)
  | vectorQueue (n : Fin 2)
  | instrCache (n : Fin 2)
  | dataCache (n : Fin 2)
  | tlb
  | quarantine
  | nearTags
  deriving DecidableEq, Repr

/-- The word that the scrubber of a cluster's arrays reads (R364). -/
structure ScrubAt where
  array : OnDie
  word : BitVec 19
  deriving DecidableEq, Repr

/-- What a same-bank refresh names on a Cellar channel (R331): the sub-channel, the rank, and the bank of each bank group. -/
structure SameBank where
  sub : Fin 2
  rank : Fin 8
  bank : Fin 4
  deriving DecidableEq, Repr

/-- A microcode patch set (R289). -/
structure UcPatch where
  romId : BitVec 16
  set : BitVec 16
  rev : BitVec 16
  words : List (BitVec 32)
  ovr : List UcOverride
  deriving DecidableEq, Repr, Inhabited

end Sys2Proof
end

