-- ==== Sys2Proof/Syntax.lean ====
section
/-! DEFINITION. The commands of the block: one constructor for each row of the operation table, in the table's order,
each with its rule. A CP instruction carries the CP that executes it and every field of its encoding. -/

namespace Sys2Proof

/-- The commands that the block takes. -/
inductive Instr where
  /-- VAUX_POWER_UP (R614). -/
  | vauxPowerUp (straps : BitVec 5)
  /-- VAUX_POWER_LOSS (R614). -/
  | vauxPowerLoss
  /-- SYS_RST_L_ASSERT (R557). -/
  | sysRstLAssert
  /-- GLITCH_DETECTION (R564). -/
  | glitchDetection
  /-- CLOCK_MONITOR_TRIP (R648). -/
  | clockMonitorTrip
  /-- GLITCH_BACKOFF_EXPIRY (R564). -/
  | glitchBackoffExpiry
  /-- RIND_CLOCK_VALID (R648). -/
  | rindClockValid
  /-- RAIL_ENABLE (R488). -/
  | railEnable (pecOk : Bool) (cap : Vector Byte 6)
  /-- RAIL_NEVER_READY (R645). -/
  | railNeverReady
  /-- RAIL_POWER_UP_RETRY (R645). -/
  | railPowerUpRetry
  /-- NEAR_TRAINING_DONE (R344). -/
  | nearTrainingDone (res : Vector StackResult 16) (ids : Vector StackIdent 16)
  /-- CELLAR_TRAINING_DONE (R344). -/
  | cellarTrainingDone (dimms : Vector Dimm 16)
  /-- MODULE_WATCHDOG_WARNING (R558). -/
  | moduleWatchdogWarning
  /-- MODULE_WATCHDOG_EXPIRY (R558). -/
  | moduleWatchdogExpiry
  /-- FUSE_REREAD (R561). -/
  | fuseReread
  /-- STRUCT_DRAIN_WRITE (R65). -/
  | structDrainWrite (v : BitVec 16)
  /-- PARTITION_DRAINED (R65). -/
  | partitionDrained (p : PartId)
  /-- STRUCT_LIVE_APPLY (R66). -/
  | structLiveApply (cmd : BitVec 2)
  /-- LIVE_APPLY_FLASH_DONE (R67). -/
  | liveApplyFlashDone (ok : Bool)
  /-- MOV (R91). -/
  | mov (c : CpId) (d : Reg) (s : Reg)
  /-- ADD (R96). -/
  | add (c : CpId) (d : Reg) (s : Reg)
  /-- SUB (R96). -/
  | sub (c : CpId) (d : Reg) (s : Reg)
  /-- AND (R91). -/
  | and (c : CpId) (d : Reg) (s : Reg)
  /-- OR (R91). -/
  | or (c : CpId) (d : Reg) (s : Reg)
  /-- XOR (R91). -/
  | xor (c : CpId) (d : Reg) (s : Reg)
  /-- ADC (R91). -/
  | adc (c : CpId) (d : Reg) (s : Reg)
  /-- SBC (R91). -/
  | sbc (c : CpId) (d : Reg) (s : Reg)
  /-- CMP (R91). -/
  | cmp (c : CpId) (d : Reg) (s : Reg)
  /-- SHL (R91). -/
  | shl (c : CpId) (d : Reg) (s : Reg)
  /-- SHR (R91). -/
  | shr (c : CpId) (d : Reg) (s : Reg)
  /-- SAR (R91). -/
  | sar (c : CpId) (d : Reg) (s : Reg)
  /-- MVGF (R91). -/
  | mvgf (c : CpId) (d : Reg) (s : Reg)
  /-- MVFG (R91). -/
  | mvfg (c : CpId) (d : Reg) (s : Reg)
  /-- NOT (R91). -/
  | not (c : CpId) (r : Reg)
  /-- NEG (R96). -/
  | neg (c : CpId) (r : Reg)
  /-- DADJ (R98). -/
  | dadj (c : CpId) (r : Reg)
  /-- CLZ (R96). -/
  | clz (c : CpId) (r : Reg)
  /-- CTZ (R96). -/
  | ctz (c : CpId) (r : Reg)
  /-- POPC (R91). -/
  | popc (c : CpId) (r : Reg)
  /-- SEXTB (R91). -/
  | sextb (c : CpId) (r : Reg)
  /-- SEXTH (R91). -/
  | sexth (c : CpId) (r : Reg)
  /-- ZEXTH (R91). -/
  | zexth (c : CpId) (r : Reg)
  /-- BSWAP (R91). -/
  | bswap (c : CpId) (r : Reg)
  /-- NOP (R91). -/
  | nop (c : CpId)
  /-- SYNCC (R107). -/
  | syncc (c : CpId)
  /-- VSYNC (R108). -/
  | vsync (c : CpId)
  /-- VSYNC_COMPLETE (R108). -/
  | vsyncComplete (c : CpId)
  /-- RETX (R394). -/
  | retx (c : CpId)
  /-- CHKPT (R519). -/
  | chkpt (c : CpId)
  /-- WAIT (R402). -/
  | waitIrq (c : CpId)
  /-- WAIT_END (R402). -/
  | waitEnd (c : CpId)
  /-- LOCK (R106). -/
  | lock (c : CpId) (n : Fin 4)
  /-- LOCK_WINDOW_TIMEOUT (R106). -/
  | lockWindowTimeout (c : CpId)
  /-- SETB (R91). -/
  | setb (c : CpId) (bit : BitVec 10)
  /-- CLRB (R91). -/
  | clrb (c : CpId) (bit : BitVec 10)
  /-- TGLB (R91). -/
  | tglb (c : CpId) (bit : BitVec 10)
  /-- TSTB (R91). -/
  | tstb (c : CpId) (bit : BitVec 10)
  /-- ADD3 (R93). -/
  | add3 (c : CpId) (d : Reg) (a : Reg) (b : Reg) (fn : BitVec 8)
  /-- SUB3 (R93). -/
  | sub3 (c : CpId) (d : Reg) (a : Reg) (b : Reg) (fn : BitVec 8)
  /-- AND3 (R93). -/
  | and3 (c : CpId) (d : Reg) (a : Reg) (b : Reg) (fn : BitVec 8)
  /-- OR3 (R93). -/
  | or3 (c : CpId) (d : Reg) (a : Reg) (b : Reg) (fn : BitVec 8)
  /-- XOR3 (R93). -/
  | xor3 (c : CpId) (d : Reg) (a : Reg) (b : Reg) (fn : BitVec 8)
  /-- SHL3 (R93). -/
  | shl3 (c : CpId) (d : Reg) (a : Reg) (b : Reg) (fn : BitVec 8)
  /-- SHR3 (R93). -/
  | shr3 (c : CpId) (d : Reg) (a : Reg) (b : Reg) (fn : BitVec 8)
  /-- SAR3 (R93). -/
  | sar3 (c : CpId) (d : Reg) (a : Reg) (b : Reg) (fn : BitVec 8)
  /-- MUL (R93). -/
  | mul (c : CpId) (d : Reg) (a : Reg) (b : Reg) (fn : BitVec 8)
  /-- MULHU (R93). -/
  | mulhu (c : CpId) (d : Reg) (a : Reg) (b : Reg) (fn : BitVec 8)
  /-- MULHS (R93). -/
  | mulhs (c : CpId) (d : Reg) (a : Reg) (b : Reg) (fn : BitVec 8)
  /-- IDSTEP (R268). -/
  | idstep (c : CpId) (d : Reg) (a : Reg) (b : Reg) (fn : BitVec 8)
  /-- DADD (R99). -/
  | dadd (c : CpId) (d : Reg) (a : Reg) (b : Reg) (fn : BitVec 8)
  /-- DSUB (R99). -/
  | dsub (c : CpId) (d : Reg) (a : Reg) (b : Reg) (fn : BitVec 8)
  /-- PACK (R100). -/
  | pack (c : CpId) (d : Reg) (a : Reg) (b : Reg) (fn : BitVec 8)
  /-- UNPK (R100). -/
  | unpk (c : CpId) (d : Reg) (a : Reg) (b : Reg) (fn : BitVec 8)
  /-- ADDI (R93). -/
  | addi (c : CpId) (d : Reg) (imm : BitVec 16)
  /-- ANDI (R93). -/
  | andi (c : CpId) (d : Reg) (imm : BitVec 16)
  /-- ORI (R93). -/
  | ori (c : CpId) (d : Reg) (imm : BitVec 16)
  /-- XORI (R93). -/
  | xori (c : CpId) (d : Reg) (imm : BitVec 16)
  /-- MOVI (R93). -/
  | movi (c : CpId) (d : Reg) (imm : BitVec 16)
  /-- CMPI (R93). -/
  | cmpi (c : CpId) (d : Reg) (imm : BitVec 16)
  /-- SHI_SHL (R93). -/
  | shiShl (c : CpId) (d : Reg) (hi : BitVec 6) (mid : BitVec 2) (amt : BitVec 6)
  /-- SHI_SHR (R93). -/
  | shiShr (c : CpId) (d : Reg) (hi : BitVec 6) (mid : BitVec 2) (amt : BitVec 6)
  /-- SHI_SAR (R93). -/
  | shiSar (c : CpId) (d : Reg) (hi : BitVec 6) (mid : BitVec 2) (amt : BitVec 6)
  /-- SHI_ROR (R96). -/
  | shiRor (c : CpId) (d : Reg) (hi : BitVec 6) (mid : BitVec 2) (amt : BitVec 6)
  /-- LDB (R93). -/
  | ldb (c : CpId) (d : Reg) (k : Reg) (off : BitVec 12)
  /-- LDH (R93). -/
  | ldh (c : CpId) (d : Reg) (k : Reg) (off : BitVec 12)
  /-- LDHS (R93). -/
  | ldhs (c : CpId) (d : Reg) (k : Reg) (off : BitVec 12)
  /-- LDW (R93). -/
  | ldw (c : CpId) (d : Reg) (k : Reg) (off : BitVec 12)
  /-- STB (R93). -/
  | stb (c : CpId) (d : Reg) (k : Reg) (off : BitVec 12)
  /-- STH (R93). -/
  | sth (c : CpId) (d : Reg) (k : Reg) (off : BitVec 12)
  /-- STW (R93). -/
  | stw (c : CpId) (d : Reg) (k : Reg) (off : BitVec 12)
  /-- STORE_RELEASE (R218). -/
  | storeRelease (c : CpId)
  /-- LDF (R93). -/
  | ldf (c : CpId) (d : Reg) (k : Reg) (off : BitVec 12)
  /-- STF (R93). -/
  | stf (c : CpId) (d : Reg) (k : Reg) (off : BitVec 12)
  /-- LDK (R121). -/
  | ldk (c : CpId) (d : Reg) (k : Reg) (off : BitVec 12)
  /-- STK (R121). -/
  | stk (c : CpId) (d : Reg) (k : Reg) (off : BitVec 12)
  /-- LDL (R105). -/
  | ldl (c : CpId) (d : Reg) (k : Reg) (off : BitVec 12)
  /-- STC (R105). -/
  | stc (c : CpId) (d : Reg) (k : Reg) (off : BitVec 12)
  /-- LDD (R157). -/
  | ldd (c : CpId) (d : Reg) (k : Reg) (off : BitVec 12)
  /-- STD (R157). -/
  | std (c : CpId) (d : Reg) (k : Reg) (off : BitVec 12)
  /-- IN (R85). -/
  | inPort (c : CpId) (d : Reg) (a : Reg) (off : BitVec 12)
  /-- IN_RESPONSE (R85). -/
  | inResponse (c : CpId)
  /-- OUT (R85). -/
  | outPort (c : CpId) (d : Reg) (a : Reg) (off : BitVec 12)
  /-- MOVC (R74). -/
  | movc (c : CpId) (g : Reg) (num : BitVec 8) (low : BitVec 8)
  /-- MOVCR (R74). -/
  | movcr (c : CpId) (g : Reg) (num : BitVec 8) (low : BitVec 8)
  /-- KMOV (R125). -/
  | kmov (c : CpId) (d : Reg) (a : Reg) (b : Reg)
  /-- KADD (R125). -/
  | kadd (c : CpId) (d : Reg) (a : Reg) (b : Reg)
  /-- KBND (R117). -/
  | kbnd (c : CpId) (d : Reg) (a : Reg) (b : Reg)
  /-- KMASK (R125). -/
  | kmask (c : CpId) (d : Reg) (a : Reg) (b : Reg)
  /-- KLOCK (R125). -/
  | klock (c : CpId) (d : Reg) (a : Reg) (b : Reg)
  /-- KOPEN (R125). -/
  | kopen (c : CpId) (d : Reg) (a : Reg) (b : Reg)
  /-- KRDC (R125). -/
  | krdc (c : CpId) (d : Reg) (a : Reg) (b : Reg)
  /-- KRDB (R125). -/
  | krdb (c : CpId) (d : Reg) (a : Reg) (b : Reg)
  /-- KRDL (R125). -/
  | krdl (c : CpId) (d : Reg) (a : Reg) (b : Reg)
  /-- KRDP (R125). -/
  | krdp (c : CpId) (d : Reg) (a : Reg) (b : Reg)
  /-- KRDT (R125). -/
  | krdt (c : CpId) (d : Reg) (a : Reg) (b : Reg)
  /-- KRDV (R125). -/
  | krdv (c : CpId) (d : Reg) (a : Reg) (b : Reg)
  /-- CALLOC (R138). -/
  | calloc (c : CpId) (d : Reg) (a : Reg) (b : Reg)
  /-- CFREE (R139). -/
  | cfree (c : CpId) (d : Reg) (a : Reg) (b : Reg)
  /-- CFREE_RESUME (R140). -/
  | cfreeResume (c : CpId)
  /-- KPCC (R125). -/
  | kpcc (c : CpId) (d : Reg) (a : Reg) (b : Reg)
  /-- KDROP (R125). -/
  | kdrop (c : CpId) (d : Reg) (a : Reg) (b : Reg)
  /-- BAND (R93). -/
  | band (c : CpId) (dst : BitVec 10) (src : BitVec 10)
  /-- BOR (R93). -/
  | bor (c : CpId) (dst : BitVec 10) (src : BitVec 10)
  /-- BXOR (R93). -/
  | bxor (c : CpId) (dst : BitVec 10) (src : BitVec 10)
  /-- BMOV (R93). -/
  | bmov (c : CpId) (dst : BitVec 10) (src : BitVec 10)
  /-- LOOP (R102). -/
  | loopSetup (c : CpId) (a : Reg) (len : BitVec 16)
  /-- BR (R93). -/
  | br (c : CpId) (disp : BitVec 20)
  /-- BR_D (R101). -/
  | brD (c : CpId) (disp : BitVec 20)
  /-- CALL (R93). -/
  | call (c : CpId) (disp : BitVec 20)
  /-- CALL_D (R101). -/
  | callD (c : CpId) (disp : BitVec 20)
  /-- JR (R93). -/
  | jr (c : CpId) (d : Reg) (a : Reg) (b : Reg)
  /-- JR_D (R93). -/
  | jrD (c : CpId) (d : Reg) (a : Reg) (b : Reg)
  /-- CALLR (R93). -/
  | callr (c : CpId) (d : Reg) (a : Reg) (b : Reg)
  /-- CALLR_D (R93). -/
  | callrD (c : CpId) (d : Reg) (a : Reg) (b : Reg)
  /-- TRAP (R93). -/
  | trap (c : CpId) (d : Reg) (a : Reg) (b : Reg) (fn : BitVec 8)
  /-- BBC (R93). -/
  | bbc (c : CpId) (bit : BitVec 10) (disp : BitVec 10)
  /-- BBC_D (R93). -/
  | bbcD (c : CpId) (bit : BitVec 10) (disp : BitVec 10)
  /-- BBS (R93). -/
  | bbs (c : CpId) (bit : BitVec 10) (disp : BitVec 10)
  /-- BBS_D (R93). -/
  | bbsD (c : CpId) (bit : BitVec 10) (disp : BitVec 10)
  /-- MOVI32 (R95). -/
  | movi32 (c : CpId) (d : Reg) (a : Reg) (sub : BitVec 4) (imm : BitVec 32)
  /-- MOVHI32 (R95). -/
  | movhi32 (c : CpId) (d : Reg) (a : Reg) (sub : BitVec 4) (imm : BitVec 32)
  /-- ADDI32 (R95). -/
  | addi32 (c : CpId) (d : Reg) (a : Reg) (sub : BitVec 4) (imm : BitVec 32)
  /-- ANDI32 (R95). -/
  | andi32 (c : CpId) (d : Reg) (a : Reg) (sub : BitVec 4) (imm : BitVec 32)
  /-- ORI32 (R95). -/
  | ori32 (c : CpId) (d : Reg) (a : Reg) (sub : BitVec 4) (imm : BitVec 32)
  /-- XORI32 (R95). -/
  | xori32 (c : CpId) (d : Reg) (a : Reg) (sub : BitVec 4) (imm : BitVec 32)
  /-- CMPI32 (R95). -/
  | cmpi32 (c : CpId) (d : Reg) (a : Reg) (sub : BitVec 4) (imm : BitVec 32)
  /-- SETBX (R95). -/
  | setbx (c : CpId) (d : Reg) (a : Reg) (sub : BitVec 4) (imm : BitVec 32)
  /-- CLRBX (R95). -/
  | clrbx (c : CpId) (d : Reg) (a : Reg) (sub : BitVec 4) (imm : BitVec 32)
  /-- TGLBX (R95). -/
  | tglbx (c : CpId) (d : Reg) (a : Reg) (sub : BitVec 4) (imm : BitVec 32)
  /-- TSTBX (R95). -/
  | tstbx (c : CpId) (d : Reg) (a : Reg) (sub : BitVec 4) (imm : BitVec 32)
  /-- BANDX (R95). -/
  | bandx (c : CpId) (d : Reg) (a : Reg) (sub : BitVec 4) (imm : BitVec 32)
  /-- BORX (R95). -/
  | borx (c : CpId) (d : Reg) (a : Reg) (sub : BitVec 4) (imm : BitVec 32)
  /-- BXORX (R95). -/
  | bxorx (c : CpId) (d : Reg) (a : Reg) (sub : BitVec 4) (imm : BitVec 32)
  /-- BMOVX (R95). -/
  | bmovx (c : CpId) (d : Reg) (a : Reg) (sub : BitVec 4) (imm : BitVec 32)
  /-- BBCX (R95). -/
  | bbcx (c : CpId) (d : Reg) (a : Reg) (sub : BitVec 4) (imm : BitVec 32)
  /-- BBCX_D (R95). -/
  | bbcxD (c : CpId) (d : Reg) (a : Reg) (sub : BitVec 4) (imm : BitVec 32)
  /-- BBSX (R95). -/
  | bbsx (c : CpId) (d : Reg) (a : Reg) (sub : BitVec 4) (imm : BitVec 32)
  /-- BBSX_D (R95). -/
  | bbsxD (c : CpId) (d : Reg) (a : Reg) (sub : BitVec 4) (imm : BitVec 32)
  /-- JMPA (R95). -/
  | jmpa (c : CpId) (d : Reg) (a : Reg) (sub : BitVec 4) (imm : BitVec 32)
  /-- CALLA (R95). -/
  | calla (c : CpId) (d : Reg) (a : Reg) (sub : BitVec 4) (imm : BitVec 32)
  /-- MVGFX (R95). -/
  | mvgfx (c : CpId) (d : Reg) (a : Reg) (sub : BitVec 4) (imm : BitVec 32)
  /-- MVFGX (R95). -/
  | mvfgx (c : CpId) (d : Reg) (a : Reg) (sub : BitVec 4) (imm : BitVec 32)
  /-- INX (R95). -/
  | inx (c : CpId) (d : Reg) (a : Reg) (sub : BitVec 4) (imm : BitVec 32)
  /-- OUTX (R95). -/
  | outx (c : CpId) (d : Reg) (a : Reg) (sub : BitVec 4) (imm : BitVec 32)
  /-- PRAM_DATA_WRITE (R86). -/
  | pramDataWrite (c : CpId) (w : BitVec 56)
  /-- TIMER_MATCH (R87). -/
  | timerMatch (c : CpId) (n : Fin 4)
  /-- INTERRUPT_ACCEPT (R400). -/
  | interruptAccept (c : CpId)
  /-- ENTRY_TAKEOVER (R393). -/
  | entryTakeover (c : CpId)
  /-- CP_RESET (R397). -/
  | cpReset (c : CpId)
  /-- CP_DOORBELL (R397). -/
  | cpDoorbell (c : CpId) (ring : BitVec 4)
  /-- WDG_CTL_WRITE (R404). -/
  | wdgCtlWrite (c : CpId) (v : BitVec 3)
  /-- WDG_KICK (R404). -/
  | wdgKick (c : CpId) (key : BitVec 16)
  /-- WDG_WARNING (R404). -/
  | wdgWarning (c : CpId)
  /-- WDG_EXPIRY (R404). -/
  | wdgExpiry (c : CpId)
  /-- VFADD (R183). -/
  | vfadd (c : CpId) (v : VecFields)
  /-- VFSUB (R183). -/
  | vfsub (c : CpId) (v : VecFields)
  /-- VFMUL (R183). -/
  | vfmul (c : CpId) (v : VecFields)
  /-- VFMIN (R183). -/
  | vfmin (c : CpId) (v : VecFields)
  /-- VFMAX (R183). -/
  | vfmax (c : CpId) (v : VecFields)
  /-- VFABS (R183). -/
  | vfabs (c : CpId) (v : VecFields)
  /-- VFNEG (R183). -/
  | vfneg (c : CpId) (v : VecFields)
  /-- VFCPYS (R183). -/
  | vfcpys (c : CpId) (v : VecFields)
  /-- VFMA (R183). -/
  | vfma (c : CpId) (v : VecFields)
  /-- VFMS (R183). -/
  | vfms (c : CpId) (v : VecFields)
  /-- VFNMA (R183). -/
  | vfnma (c : CpId) (v : VecFields)
  /-- VFNMS (R183). -/
  | vfnms (c : CpId) (v : VecFields)
  /-- VFCVT (R183). -/
  | vfcvt (c : CpId) (v : VecFields)
  /-- VFCVTI (R183). -/
  | vfcvti (c : CpId) (v : VecFields)
  /-- VICVTF (R183). -/
  | vicvtf (c : CpId) (v : VecFields)
  /-- VADD (R184). -/
  | vadd (c : CpId) (v : VecFields)
  /-- VSUB (R184). -/
  | vsub (c : CpId) (v : VecFields)
  /-- VADDS (R184). -/
  | vadds (c : CpId) (v : VecFields)
  /-- VSUBS (R184). -/
  | vsubs (c : CpId) (v : VecFields)
  /-- VMUL (R184). -/
  | vmul (c : CpId) (v : VecFields)
  /-- VMULH (R184). -/
  | vmulh (c : CpId) (v : VecFields)
  /-- VMIN (R184). -/
  | vmin (c : CpId) (v : VecFields)
  /-- VMAX (R184). -/
  | vmax (c : CpId) (v : VecFields)
  /-- VAND (R184). -/
  | vand (c : CpId) (v : VecFields)
  /-- VOR (R184). -/
  | vor (c : CpId) (v : VecFields)
  /-- VXOR (R184). -/
  | vxor (c : CpId) (v : VecFields)
  /-- VANDN (R184). -/
  | vandn (c : CpId) (v : VecFields)
  /-- VNOT (R184). -/
  | vnot (c : CpId) (v : VecFields)
  /-- VSHL (R184). -/
  | vshl (c : CpId) (v : VecFields)
  /-- VSHR (R184). -/
  | vshr (c : CpId) (v : VecFields)
  /-- VSAR (R184). -/
  | vsar (c : CpId) (v : VecFields)
  /-- VABS (R184). -/
  | vabs (c : CpId) (v : VecFields)
  /-- VNEG (R184). -/
  | vneg (c : CpId) (v : VecFields)
  /-- VPOPC (R184). -/
  | vpopc (c : CpId) (v : VecFields)
  /-- VCLZ (R184). -/
  | vclz (c : CpId) (v : VecFields)
  /-- VSEL (R184). -/
  | vsel (c : CpId) (v : VecFields)
  /-- VCVTI (R184). -/
  | vcvti (c : CpId) (v : VecFields)
  /-- VMOV (R184). -/
  | vmov (c : CpId) (v : VecFields)
  /-- VFILL (R184). -/
  | vfill (c : CpId) (v : VecFields)
  /-- VIOTA (R184). -/
  | viota (c : CpId) (v : VecFields)
  /-- VWMUL (R185). -/
  | vwmul (c : CpId) (v : VecFields)
  /-- VWMA (R185). -/
  | vwma (c : CpId) (v : VecFields)
  /-- VDOT4 (R185). -/
  | vdot4 (c : CpId) (v : VecFields)
  /-- VDOT4SU (R185). -/
  | vdot4su (c : CpId) (v : VecFields)
  /-- VFDOT2 (R185). -/
  | vfdot2 (c : CpId) (v : VecFields)
  /-- VCMPEQ (R186). -/
  | vcmpeq (c : CpId) (v : VecFields)
  /-- VCMPNE (R186). -/
  | vcmpne (c : CpId) (v : VecFields)
  /-- VCMPLT (R186). -/
  | vcmplt (c : CpId) (v : VecFields)
  /-- VCMPLE (R186). -/
  | vcmple (c : CpId) (v : VecFields)
  /-- VCMPGT (R186). -/
  | vcmpgt (c : CpId) (v : VecFields)
  /-- VCMPGE (R186). -/
  | vcmpge (c : CpId) (v : VecFields)
  /-- VCMPUN (R186). -/
  | vcmpun (c : CpId) (v : VecFields)
  /-- VTEST (R186). -/
  | vtest (c : CpId) (v : VecFields)
  /-- VCOMPRESS (R187). -/
  | vcompress (c : CpId) (v : VecFields)
  /-- VEXPAND (R187). -/
  | vexpand (c : CpId) (v : VecFields)
  /-- VGATHER (R187). -/
  | vgather (c : CpId) (v : VecFields)
  /-- VSCATTER (R188). -/
  | vscatter (c : CpId) (v : VecFields)
  /-- VREV (R187). -/
  | vrev (c : CpId) (v : VecFields)
  /-- VLDS (R189). -/
  | vlds (c : CpId) (v : VecFields)
  /-- VSTS (R189). -/
  | vsts (c : CpId) (v : VecFields)
  /-- VRSUM (R192). -/
  | vrsum (c : CpId) (v : VecFields)
  /-- VRMIN (R192). -/
  | vrmin (c : CpId) (v : VecFields)
  /-- VRMAX (R192). -/
  | vrmax (c : CpId) (v : VecFields)
  /-- VRAND (R190). -/
  | vrand (c : CpId) (v : VecFields)
  /-- VROR (R190). -/
  | vror (c : CpId) (v : VecFields)
  /-- VRXOR (R190). -/
  | vrxor (c : CpId) (v : VecFields)
  /-- VRSUMO (R190). -/
  | vrsumo (c : CpId) (v : VecFields)
  /-- VRCNT (R190). -/
  | vrcnt (c : CpId) (v : VecFields)
  /-- VRFIRST (R190). -/
  | vrfirst (c : CpId) (v : VecFields)
  /-- VRSUMD (R193). -/
  | vrsumd (c : CpId) (v : VecFields)
  /-- VDADD (R195). -/
  | vdadd (c : CpId) (v : VecFields)
  /-- VDSUB (R195). -/
  | vdsub (c : CpId) (v : VecFields)
  /-- VDADDC (R195). -/
  | vdaddc (c : CpId) (v : VecFields)
  /-- VDSUBC (R195). -/
  | vdsubc (c : CpId) (v : VecFields)
  /-- VDSHL (R195). -/
  | vdshl (c : CpId) (v : VecFields)
  /-- VDSHR (R195). -/
  | vdshr (c : CpId) (v : VecFields)
  /-- VDMUL1 (R276). -/
  | vdmul1 (c : CpId) (v : VecFields)
  /-- VCVTBD (R277). -/
  | vcvtbd (c : CpId) (v : VecFields)
  /-- VCVTDB (R195). -/
  | vcvtdb (c : CpId) (v : VecFields)
  /-- VIDSTEP (R269). -/
  | vidstep (c : CpId) (v : VecFields)
  /-- VFRSEED (R260). -/
  | vfrseed (c : CpId) (v : VecFields)
  /-- VFRSTEP (R263). -/
  | vfrstep (c : CpId) (v : VecFields)
  /-- VFRSQSEED (R261). -/
  | vfrsqseed (c : CpId) (v : VecFields)
  /-- VFRSQSTEP (R264). -/
  | vfrsqstep (c : CpId) (v : VecFields)
  /-- VDDSTEP (R278). -/
  | vddstep (c : CpId) (v : VecFields)
  /-- VECTOR_ISSUE_RESUME (R217). -/
  | vectorIssueResume (c : CpId)
  /-- SVFADD (R200). -/
  | svfadd (c : CpId) (v : VecFields)
  /-- SVFSUB (R200). -/
  | svfsub (c : CpId) (v : VecFields)
  /-- SVFMUL (R200). -/
  | svfmul (c : CpId) (v : VecFields)
  /-- SVFMIN (R200). -/
  | svfmin (c : CpId) (v : VecFields)
  /-- SVFMAX (R200). -/
  | svfmax (c : CpId) (v : VecFields)
  /-- SVFABS (R200). -/
  | svfabs (c : CpId) (v : VecFields)
  /-- SVFNEG (R200). -/
  | svfneg (c : CpId) (v : VecFields)
  /-- SVFCPYS (R200). -/
  | svfcpys (c : CpId) (v : VecFields)
  /-- SVFMA (R200). -/
  | svfma (c : CpId) (v : VecFields)
  /-- SVFMS (R200). -/
  | svfms (c : CpId) (v : VecFields)
  /-- SVFNMA (R200). -/
  | svfnma (c : CpId) (v : VecFields)
  /-- SVFNMS (R200). -/
  | svfnms (c : CpId) (v : VecFields)
  /-- SVFCVT (R200). -/
  | svfcvt (c : CpId) (v : VecFields)
  /-- SVFCVTI (R200). -/
  | svfcvti (c : CpId) (v : VecFields)
  /-- SVICVTF (R200). -/
  | svicvtf (c : CpId) (v : VecFields)
  /-- SVADD (R200). -/
  | svadd (c : CpId) (v : VecFields)
  /-- SVSUB (R200). -/
  | svsub (c : CpId) (v : VecFields)
  /-- SVADDS (R200). -/
  | svadds (c : CpId) (v : VecFields)
  /-- SVSUBS (R200). -/
  | svsubs (c : CpId) (v : VecFields)
  /-- SVMUL (R200). -/
  | svmul (c : CpId) (v : VecFields)
  /-- SVMULH (R200). -/
  | svmulh (c : CpId) (v : VecFields)
  /-- SVMIN (R200). -/
  | svmin (c : CpId) (v : VecFields)
  /-- SVMAX (R200). -/
  | svmax (c : CpId) (v : VecFields)
  /-- SVAND (R200). -/
  | svand (c : CpId) (v : VecFields)
  /-- SVOR (R200). -/
  | svor (c : CpId) (v : VecFields)
  /-- SVXOR (R200). -/
  | svxor (c : CpId) (v : VecFields)
  /-- SVANDN (R200). -/
  | svandn (c : CpId) (v : VecFields)
  /-- SVNOT (R200). -/
  | svnot (c : CpId) (v : VecFields)
  /-- SVSHL (R200). -/
  | svshl (c : CpId) (v : VecFields)
  /-- SVSHR (R200). -/
  | svshr (c : CpId) (v : VecFields)
  /-- SVSAR (R200). -/
  | svsar (c : CpId) (v : VecFields)
  /-- SVABS (R200). -/
  | svabs (c : CpId) (v : VecFields)
  /-- SVNEG (R200). -/
  | svneg (c : CpId) (v : VecFields)
  /-- SVPOPC (R200). -/
  | svpopc (c : CpId) (v : VecFields)
  /-- SVCLZ (R200). -/
  | svclz (c : CpId) (v : VecFields)
  /-- SVSEL (R200). -/
  | svsel (c : CpId) (v : VecFields)
  /-- SVCVTI (R200). -/
  | svcvti (c : CpId) (v : VecFields)
  /-- SVMOV (R200). -/
  | svmov (c : CpId) (v : VecFields)
  /-- SVFILL (R200). -/
  | svfill (c : CpId) (v : VecFields)
  /-- SVIOTA (R200). -/
  | sviota (c : CpId) (v : VecFields)
  /-- SVCMPEQ (R200). -/
  | svcmpeq (c : CpId) (v : VecFields)
  /-- SVCMPNE (R200). -/
  | svcmpne (c : CpId) (v : VecFields)
  /-- SVCMPLT (R200). -/
  | svcmplt (c : CpId) (v : VecFields)
  /-- SVCMPLE (R200). -/
  | svcmple (c : CpId) (v : VecFields)
  /-- SVCMPGT (R200). -/
  | svcmpgt (c : CpId) (v : VecFields)
  /-- SVCMPGE (R200). -/
  | svcmpge (c : CpId) (v : VecFields)
  /-- SVCMPUN (R200). -/
  | svcmpun (c : CpId) (v : VecFields)
  /-- SVTEST (R200). -/
  | svtest (c : CpId) (v : VecFields)
  /-- SVRSUM (R200). -/
  | svrsum (c : CpId) (v : VecFields)
  /-- SVRMIN (R200). -/
  | svrmin (c : CpId) (v : VecFields)
  /-- SVRMAX (R200). -/
  | svrmax (c : CpId) (v : VecFields)
  /-- SVRAND (R200). -/
  | svrand (c : CpId) (v : VecFields)
  /-- SVROR (R200). -/
  | svror (c : CpId) (v : VecFields)
  /-- SVRXOR (R200). -/
  | svrxor (c : CpId) (v : VecFields)
  /-- SVRSUMO (R200). -/
  | svrsumo (c : CpId) (v : VecFields)
  /-- SVRCNT (R200). -/
  | svrcnt (c : CpId) (v : VecFields)
  /-- SVRFIRST (R200). -/
  | svrfirst (c : CpId) (v : VecFields)
  /-- SVRSUMD (R200). -/
  | svrsumd (c : CpId) (v : VecFields)
  /-- SVLD (R200). -/
  | svld (c : CpId) (v : VecFields)
  /-- SVST (R200). -/
  | svst (c : CpId) (v : VecFields)
  /-- SVPERM (R200). -/
  | svperm (c : CpId) (v : VecFields)
  /-- SVBCAST (R200). -/
  | svbcast (c : CpId) (v : VecFields)
  /-- SVDOT4 (R200). -/
  | svdot4 (c : CpId) (v : VecFields)
  /-- SVWMUL (R200). -/
  | svwmul (c : CpId) (v : VecFields)
  /-- DSETC (R197). -/
  | dsetc (c : CpId) (v : VecFields)
  /-- DSETO (R197). -/
  | dseto (c : CpId) (v : VecFields)
  /-- DSETS (R197). -/
  | dsets (c : CpId) (v : VecFields)
  /-- DSETF (R197). -/
  | dsetf (c : CpId) (v : VecFields)
  /-- DADV (R197). -/
  | dadv (c : CpId) (v : VecFields)
  /-- DGET (R197). -/
  | dget (c : CpId) (v : VecFields)
  /-- DGETC (R197). -/
  | dgetc (c : CpId) (v : VecFields)
  /-- DCOPY (R197). -/
  | dcopy (c : CpId) (v : VecFields)
  /-- CHAIN_WAIT_EXPIRY (R208). -/
  | chainWaitExpiry (c : CpId)
  /-- STRIP_DISPATCH (R224). -/
  | stripDispatch (p : PartId)
  /-- STEAL_WAIT_EXPIRY (R224). -/
  | stealWaitExpiry (c : CpId)
  /-- STRIP_COMMIT (R220). -/
  | stripCommit (c : CpId) (k : BitVec 30)
  /-- STRIP_FAULT (R232). -/
  | stripFault (c : CpId) (k : BitVec 30)
  /-- VECTOR_QUEUE_FREEZE (R232). -/
  | vectorQueueFreeze (c : CpId)
  /-- VQ_RESUME (R236). -/
  | vqResume (c : CpId)
  /-- VQ_FLUSH (R236). -/
  | vqFlush (c : CpId)
  /-- VQ_STOP (R236). -/
  | vqStop (c : CpId)
  /-- VQ_STOP_DONE (R236). -/
  | vqStopDone (c : CpId)
  /-- VQ_START (R236). -/
  | vqStart (c : CpId)
  /-- VSAVE (R237). -/
  | vsave (c : CpId) (slot : Fin 64)
  /-- VRESTORE (R236). -/
  | vrestore (c : CpId) (slot : Fin 64)
  /-- VQ_DISCARD (R236). -/
  | vqDiscard (c : CpId) (slot : Fin 64)
  /-- PIPE_PARK (R238). -/
  | pipePark (pipe : Fin 64)
  /-- LEAD_EXPIRY (R496). -/
  | leadExpiry (q : QuadId)
  /-- RAMP_END (R496). -/
  | rampEnd (q : QuadId)
  /-- LDADV_READBACK_FAULT (R498). -/
  | ldadvReadbackFault (q : QuadId)
  /-- GRANULE_ZEROED (R135). -/
  | granuleZeroed (tier : Tier)
  /-- SWEEP_EPOCH_CLOSE (R141). -/
  | sweepEpochClose
  /-- SWEEP_NOW (R141). -/
  | sweepNow
  /-- HEAT_PERIOD_END (R144). -/
  | heatPeriodEnd
  /-- MIGRATION_START (R147). -/
  | migrationStart (p : PartId) (page : BitVec 40)
  /-- MIGRATION_COPY_DONE (R147). -/
  | migrationCopyDone (p : PartId) (page : BitVec 40)
  /-- MIGRATION_RELEASE (R147). -/
  | migrationRelease (p : PartId) (page : BitVec 40)
  /-- PG_HINT_NEAR (R149). -/
  | pgHintNear (p : PartId)
  /-- PG_HINT_COLD (R149). -/
  | pgHintCold (p : PartId)
  /-- PG_HINT_NONE (R149). -/
  | pgHintNone (p : PartId)
  /-- PG_HINT_LAYOUT (R149). -/
  | pgHintLayout (p : PartId) (il : BitVec 2) (hash : BitVec 3) (size : BitVec 2)
  /-- PG_HINT_PREFAULT (R149). -/
  | pgHintPrefault (p : PartId)
  /-- PG_HINT_GUARD (R149). -/
  | pgHintGuard (p : PartId)
  /-- PG_HINT_UNGUARD (R149). -/
  | pgHintUnguard (p : PartId)
  /-- PG_HINT_COMPLETE (R153). -/
  | pgHintComplete (p : PartId)
  /-- SHOOTDOWN_COMPLETE (R150). -/
  | shootdownComplete (p : PartId)
  /-- HEAP_WINDOW_WRITE (R153). -/
  | heapWindowWrite (p : PartId) (top : Bool) (v : Word)
  /-- NEAR_REFRESH (R322). -/
  | nearRefresh (stack : StackId) (pc : Fin 32) (bank : Fin 48)
  /-- REFRESH_MANAGEMENT (R323). -/
  | refreshManagement (stack : StackId) (pc : Fin 32) (bank : Fin 48)
  /-- CALIBRATION_SLOT (R324). -/
  | calibrationSlot (stack : StackId) (pc : Fin 32) (eye : BitVec 8) (lane : BitVec 8)
  /-- WRITE_LEVELLING_TRIGGER (R326). -/
  | writeLevellingTrigger (stack : StackId)
  /-- WL_NOW (R326). -/
  | wlNow (stack : StackId)
  /-- STACK_TEMPERATURE_READ (R315). -/
  | stackTemperatureRead (stack : StackId) (temp : BitVec 8)
  /-- CAL_DEFER_LIMIT (R328). -/
  | calDeferLimit (stack : StackId) (pc : Fin 32)
  /-- CELLAR_CALIBRATION_SLOT (R335). -/
  | cellarCalibrationSlot (ch : ChanId) (sub : Fin 2)
  /-- DIMM_TEMPERATURE_READ (R640). -/
  | dimmTemperatureRead (ch : ChanId) (dimm : Fin 2) (temp : BitVec 8)
  /-- COMMAND_PARITY_REISSUE (R315). -/
  | commandParityReissue (tier : Tier) (unit : Fin 16)
  /-- FLIT_FORWARD (R337). -/
  | flitForward (router : ClusterId) (port : MeshPort) (x : FlitMove)
  /-- GRID_WRITEBACK (R351). -/
  | gridWriteback (key : BitVec 44)
  /-- SCRUB_STEP (R362). -/
  | scrubStep (tier : Tier)
  /-- ARRAY_SCRUB (R364). -/
  | arrayScrub (cl : ClusterId) (x : ScrubAt)
  /-- BUCKET_LEAK_TICK (R366). -/
  | bucketLeakTick (b : Fin 32)
  /-- BKT_CFG_WRITE (R366). -/
  | bktCfgWrite (b : Fin 32) (v : BitVec 32)
  /-- INJ_ARM (R370). -/
  | injArm
  /-- INJ_DISARM (R375). -/
  | injDisarm
  /-- INJECTION_FIRE (R370). -/
  | injectionFire
  /-- RAW_ACCESS (R374). -/
  | rawAccess
  /-- FABRIC_TRANSACTION (R409). -/
  | fabricTransaction (port : Fin 35) (fresh : Option FabReq)
  /-- FABRIC_RESPONSE (R410). -/
  | fabricResponse (m : Fin 37) (id : Fin 32)
  /-- FABRIC_TIMEOUT (R412). -/
  | fabricTimeout (m : Fin 37) (id : Fin 32)
  /-- RATE_GATE_REOPEN (R424). -/
  | rateGateReopen (k : Fin 64)
  /-- LATCH_DELIVERY (R423). -/
  | latchDelivery (consumer : BitVec 16)
  /-- EVT_SWTRIG (R434). -/
  | evtSwtrig (v : Word)
  /-- EVT_COMMIT_GO (R430). -/
  | evtCommitGo
  /-- EVT_COMMIT_DONE (R430). -/
  | evtCommitDone
  /-- EVT_OUT_PULSE_END (R421). -/
  | evtOutPulseEnd (n : Fin 4)
  /-- EVT_IN_EDGE (R420). -/
  | evtInEdge (n : Fin 4) (rising : Bool)
  /-- GPIO_EDGE (R639). -/
  | gpioEdge (n : Fin 16) (rising : Bool)
  /-- FRAME_RECEIVE (R438). -/
  | frameReceive (f : EthFrame)
  /-- ARP_REQUEST (R442). -/
  | arpRequest (f : EthFrame)
  /-- NEIGHBOUR_SOLICITATION (R442). -/
  | neighbourSolicitation (f : EthFrame)
  /-- ICMP_ECHO (R442). -/
  | icmpEcho (f : EthFrame)
  /-- PAUSE_FRAME (R439). -/
  | pauseFrame (port : PortId) (pfc : Bool) (mask : BitVec 8) (quanta : Vector (BitVec 16) 8)
  /-- RECEIVE_QUEUE_FLOW_CONTROL (R439). -/
  | receiveQueueFlowControl (port : PortId) (level : BitVec 7)
  /-- PTP_MESSAGE (R441). -/
  | ptpMessage (port : PortId) (offset : BitVec 64)
  /-- PTP_SECOND_BOUNDARY (R441). -/
  | ptpSecondBoundary
  /-- PTP_STEP (R479). -/
  | ptpStep (step : BitVec 32)
  /-- LINK_STATE_CHANGE (R478). -/
  | linkStateChange (port : PortId) (sub : Fin 8) (up : Bool) (lanes : BitVec 4) (reversed : Bool)
  /-- KWT_OPEN (R450). -/
  | kwtOpen (f : KwtFrame)
  /-- KWT_CLOSE (R450). -/
  | kwtClose (f : KwtFrame)
  /-- SESSION_CLOSE_COMPLETE (R450). -/
  | sessionCloseComplete (s : SessId)
  /-- KWT_WRITE (R456). -/
  | kwtWrite (f : KwtFrame)
  /-- KWT_READ (R456). -/
  | kwtRead (f : KwtFrame)
  /-- READ_RESP_PIECE (R456). -/
  | readRespPiece (s : SessId)
  /-- KWT_SUBMIT (R467). -/
  | kwtSubmit (f : KwtFrame)
  /-- KWT_MGMT (R475). -/
  | kwtMgmt (f : KwtFrame)
  /-- KWT_UPDATE (R579). -/
  | kwtUpdate (f : KwtFrame)
  /-- KWT_ACK (R453). -/
  | kwtAck (f : KwtFrame)
  /-- ACK_DELAY_EXPIRY (R452). -/
  | ackDelayExpiry (s : SessId)
  /-- RETRANSMISSION_TIMEOUT (R453). -/
  | retransmissionTimeout (s : SessId) (seq : BitVec 32)
  /-- SESS_CTL_WRITE (R450). -/
  | sessCtlWrite (s : SessId) (v : BitVec 2)
  /-- TOKEN_BIND (R461). -/
  | tokenBind (tp : Fin 17)
  /-- TOKEN_UNBIND (R461). -/
  | tokenUnbind (tp : Fin 17) (idx : BitVec 16)
  /-- NOTIFY_QUEUE (R469). -/
  | notifyQueue (qs : BitVec 8) (arg : Word)
  /-- NOTIFY_SEND (R469). -/
  | notifySend (qs : BitVec 8)
  /-- DMA_DESCRIPTOR_QUEUE (R472). -/
  | dmaDescriptorQueue (n : EngId) (w3 : Word)
  /-- DMA_DESCRIPTOR_START (R473). -/
  | dmaDescriptorStart (n : EngId)
  /-- DMA_DESCRIPTOR_COMPLETE (R473). -/
  | dmaDescriptorComplete (n : EngId)
  /-- DE_RESUME (R473). -/
  | deResume (n : EngId)
  /-- DE_FLUSH (R473). -/
  | deFlush (n : EngId)
  /-- CU_VAL_WRITE (R474). -/
  | cuValWrite (n : EngId) (v : Word)
  /-- MBX_REQUEST (R587). -/
  | mbxRequest
  /-- AUTO_CONFIRM_EXPIRY (R582). -/
  | autoConfirmExpiry
  /-- TELEMETRY_POLL (R489). -/
  | telemetryPoll (t : Telemetry)
  /-- ESTIMATOR_UPDATE (R494). -/
  | estimatorUpdate (q : QuadId) (sum : BitVec 32)
  /-- AVSBUS_SETPOINT_WRITE (R491). -/
  | avsbusSetpointWrite (q : QuadId) (mhz25 : BitVec 7) (acked : Bool)
  /-- CLOCK_RAISE (R491). -/
  | clockRaise (q : QuadId)
  /-- VRRDY_FALL (R492). -/
  | vrrdyFall (q : QuadId)
  /-- VRRDY_LOW_TIMEOUT (R492). -/
  | vrrdyLowTimeout (q : QuadId)
  /-- VRRDY_RISE (R488). -/
  | vrrdyRise (q : QuadId)
  /-- REMOTE_SENSE_OPEN (R493). -/
  | remoteSenseOpen (q : QuadId)
  /-- DROOP_TRIP (R499). -/
  | droopTrip (q : QuadId)
  /-- DROOP_HOLD_END (R499). -/
  | droopHoldEnd (q : QuadId)
  /-- POWER_ESTIMATE (R500). -/
  | powerEstimate (watts : BitVec 12)
  /-- POWER_CLOCK_STEP_DOWN (R500). -/
  | powerClockStepDown
  /-- POWER_CLOCK_STEP_UP (R500). -/
  | powerClockStepUp
  /-- EXCURSION_LIMIT (R500). -/
  | excursionLimit
  /-- THERMAL_CONVERSION (R501). -/
  | thermalConversion (temps : Vector (BitVec 8) 20)
  /-- THROTTLE_STEP_DOWN (R501). -/
  | throttleStepDown (q : QuadId)
  /-- THROTTLE_STEP_UP (R501). -/
  | throttleStepUp (q : QuadId)
  /-- MONITOR_SAMPLE (R505). -/
  | monitorSample (m : MonSample)
  /-- SHED_LEVEL_RISE (R505). -/
  | shedLevelRise
  /-- SHED_LEVEL_FALL (R506). -/
  | shedLevelFall
  /-- SHED7_EXIT (R506). -/
  | shed7Exit
  /-- FINAL_CHECKPOINT_ABANDON (R509). -/
  | finalCheckpointAbandon
  /-- SHED_FLOOR_WRITE (R505). -/
  | shedFloorWrite (level : BitVec 3)
  /-- SLEEP_REQUEST (R512). -/
  | sleepRequest (sramRet : Bool)
  /-- SLEEP_ENTRY_COMPLETE (R512). -/
  | sleepEntryComplete
  /-- WAKE (R513). -/
  | wake
  /-- WAKE_TIMER_EXPIRY (R513). -/
  | wakeTimerExpiry
  /-- UBORI_LINK_UP (R533). -/
  | uboriLinkUp (lanes : BitVec 4)
  /-- UBORI_LINK_DOWN (R533). -/
  | uboriLinkDown
  /-- UBORI_LINK_RETRAIN (R530). -/
  | uboriLinkRetrain (working : BitVec 8)
  /-- UBORI_RETRANSMIT (R533). -/
  | uboriRetransmit
  /-- HELLO (R535). -/
  | helloFrame (f : UboriFrame) (hello : HelloRec) (auth : PairAuth)
  /-- HEARTBEAT_SEND (R534). -/
  | heartbeatSend
  /-- HEARTBEAT (R532). -/
  | heartbeatFrame (f : UboriFrame)
  /-- PAIR_HB_OUT_TOGGLE (R534). -/
  | pairHbOutToggle
  /-- MIRROR_CHECKPOINT_CUT (R539). -/
  | mirrorCheckpointCut
  /-- CKPT_BEGIN (R540). -/
  | ckptBegin (f : UboriFrame)
  /-- PAGE (R541). -/
  | pageFrame (f : UboriFrame)
  /-- STATE (R541). -/
  | stateFrame (f : UboriFrame)
  /-- CKPT_END (R541). -/
  | ckptEnd (f : UboriFrame)
  /-- CKPT_DONE (R541). -/
  | ckptDone (f : UboriFrame)
  /-- CHECKPOINT_SHIP (R540). -/
  | checkpointShip
  /-- INPUT (R548). -/
  | inputFrame (f : UboriFrame)
  /-- SIG (R549). -/
  | sigFrame (f : UboriFrame)
  /-- VERDICT (R549). -/
  | verdictFrame (f : UboriFrame)
  /-- HOLD (R544). -/
  | holdFrame (f : UboriFrame)
  /-- RELEASE (R544). -/
  | releaseFrame (f : UboriFrame)
  /-- CTL_FAILOVER (R544). -/
  | ctlFailover (f : UboriFrame)
  /-- CTL_SLEEP_REQ (R628). -/
  | ctlSleepReq (f : UboriFrame)
  /-- CTL_SLEEP_ACK (R628). -/
  | ctlSleepAck (f : UboriFrame)
  /-- CTL_SLEEP_REFUSE (R628). -/
  | ctlSleepRefuse (f : UboriFrame)
  /-- CTL_WAKE (R628). -/
  | ctlWake (f : UboriFrame)
  /-- CTL_APPLY (R68). -/
  | ctlApply (f : UboriFrame)
  /-- LINKACK (R533). -/
  | linkack (f : UboriFrame)
  /-- HEARTBEAT_SUSPICION (R544). -/
  | heartbeatSuspicion
  /-- WITNESS_RENEW (R545). -/
  | witnessRenew
  /-- WITNESS_REPLY (R545). -/
  | witnessReply (r : WitnessReply)
  /-- FENCE (R546). -/
  | fence
  /-- FULL_RESYNC (R538). -/
  | fullResync
  /-- CKPT_NOW (R553). -/
  | ckptNow
  /-- RESYNC (R553). -/
  | resync
  /-- RESTART (R549). -/
  | restart
  /-- RELINQUISH (R553). -/
  | relinquish
  /-- TWD_PACKET (R593). -/
  | twdPacket (k : TwdPacket)
  /-- LINE_RESET (R594). -/
  | lineReset
  /-- TWD_ATTACH (R591). -/
  | twdAttach (on : Bool)
  /-- DEBUG_HALT (R600). -/
  | debugHalt (c : CpId)
  /-- DEBUG_RESUME (R600). -/
  | debugResume (c : CpId)
  /-- DEBUG_STEP (R601). -/
  | debugStep (c : CpId)
  /-- DBG_REGDATA_ACCESS (R605). -/
  | dbgRegdataAccess (c : CpId) (write : Bool) (v : Word)
  /-- TRACE_PACKET_OUT (R611). -/
  | tracePacketOut (cl : ClusterId)
  /-- TRACE_CFG_WRITE (R612). -/
  | traceCfgWrite (cl : ClusterId) (v : Word)
  /-- SIDEBAND_PROBE (R643). -/
  | sidebandProbe (bus : Fin 8) (r : ProbeResult)
  /-- SIDEBAND_TRANSACTION (R640). -/
  | sidebandTransaction (bus : Fin 8) (r : SbOutcome)
  /-- SB7_STATUS_BLOCK (R644). -/
  | sb7StatusBlock
  /-- SB7_IDK_HASH (R644). -/
  | sb7IdkHash
  /-- OUTPUT_READBACK_FAULT (R645). -/
  | outputReadbackFault (o : OutputPin)
  /-- VINMON_OPEN_DETECT (R645). -/
  | vinmonOpenDetect
  /-- READ_CLEAR (R13). -/
  | readClear (addr : BitVec 32) (m : Fin 37) (consume : Bool)
  /-- REGISTER_WRITE (R13). -/
  | registerWrite (addr : BitVec 32) (m : Fin 37) (v : Word)
  /-- SYS_RST_L_RELEASE (R614). -/
  | sysRstLRelease
  /-- PAIR_HB_IN_EDGE (R534). -/
  | pairHbInEdge
  /-- PARTNER_SILENT_SINCE_BOOT (R537). -/
  | partnerSilentSinceBoot
  /-- MODULE_WATCHDOG_RELOAD (R558). -/
  | moduleWatchdogReload
  /-- CP_WAIT_ON_VECTOR_END (R203). -/
  | cpWaitOnVectorEnd (c : CpId)
  /-- SAME_BANK_REFRESH (R331). -/
  | sameBankRefresh (ch : ChanId) (x : SameBank)
  /-- PAUSE_TIME_EXPIRY (R439). -/
  | pauseTimeExpiry (port : PortId) (prio : Fin 8)
  /-- LDADV_ZERO_HOLD_END (R496). -/
  | ldadvZeroHoldEnd (q : QuadId)
  deriving DecidableEq, Repr

end Sys2Proof
end

