-- ==== Sys2Proof/Decode.lean ====
section
/-! DEFINITION. Commands reach this part by name and by operands: no row of the operation table gives bits, so there is no
word that spells a command. -/

namespace Sys2Proof

/-- The command that a word spells by the table's bits: none, since no row of the table gives bits. -/
def decodeTableWord (_nbits _w : Nat) : Option Instr := none

end Sys2Proof
end

