-- ==== Sys2Proof/Machine/Aes.lean ====
section
/-! DEFINITION. AES-256 (FIPS 197) and the modes that the spec names: XTS (IEEE 1619) and GCM (SP 800-38D) (log entry 7, PRESUMED: taken from
the standards). -/

namespace Sys2Proof.Machine

/-! ### The cipher -/

/-- Multiplication by x in GF(2^8). -/
def xtime (b : Byte) : Byte := if b.getLsbD 7 then (b <<< 1) ^^^ 0x1B else b <<< 1

/-- Multiplication in GF(2^8). -/
def gf256Mul (a b : Byte) : Byte :=
  ((List.range 8).foldl (fun (r : Byte × Byte) i => (if b.getLsbD i then r.1 ^^^ r.2 else r.1, xtime r.2)) (0, a)).1

/-- The inverse in GF(2^8), 0 of 0: the power 254. -/
def gf256Inv (a : Byte) : Byte :=
  let a2 := gf256Mul a a
  let a4 := gf256Mul a2 a2
  let a8 := gf256Mul a4 a4
  let a16 := gf256Mul a8 a8
  let a32 := gf256Mul a16 a16
  let a64 := gf256Mul a32 a32
  let a128 := gf256Mul a64 a64
  gf256Mul a128 (gf256Mul a64 (gf256Mul a32 (gf256Mul a16 (gf256Mul a8 (gf256Mul a4 a2)))))

/-- The substitution box. -/
def aesSub (b : Byte) : Byte :=
  let v := gf256Inv b
  v ^^^ v.rotateLeft 1 ^^^ v.rotateLeft 2 ^^^ v.rotateLeft 3 ^^^ v.rotateLeft 4 ^^^ 0x63

/-- The inverse substitution box. -/
def aesUnsub (b : Byte) : Byte := gf256Inv (b.rotateLeft 1 ^^^ b.rotateLeft 3 ^^^ b.rotateLeft 6 ^^^ 0x05)

/-- The exclusive or of two byte strings. -/
def xorBytes (a b : List Byte) : List Byte := List.zipWith (· ^^^ ·) a b

/-- The next eight words of the key schedule from the last eight and the round constant. -/
def aesKeyStep (w : List (List Byte)) (rcon : Byte) : List (List Byte) :=
  let g (i : Nat) : List Byte := w.getD i []
  let t := ((g 7).drop 1 ++ (g 7).take 1).map aesSub
  let w0 := xorBytes (g 0) (xorBytes t [rcon, 0, 0, 0])
  let w1 := xorBytes (g 1) w0
  let w2 := xorBytes (g 2) w1
  let w3 := xorBytes (g 3) w2
  let w4 := xorBytes (g 4) (w3.map aesSub)
  let w5 := xorBytes (g 5) w4
  let w6 := xorBytes (g 6) w5
  [w0, w1, w2, w3, w4, w5, w6, xorBytes (g 7) w6]

/-- The fifteen round keys of 16 bytes of a 32-byte key. -/
def aesRoundKeys (key : List Byte) : List (List Byte) :=
  let w := (List.range 8).map (fun i => (key.drop (4 * i)).take 4)
  let r := (List.range 7).foldl (fun (r : List (List Byte) × List (List Byte) × Byte) _ =>
    let n := aesKeyStep r.2.1 r.2.2
    (r.1 ++ n, n, xtime r.2.2)) (w, w, 1)
  (List.range 15).map (fun i => ((r.1.drop (4 * i)).take 4).flatten)

/-- ShiftRows of a block in columns. -/
def aesShift (b : List Byte) : List Byte := (List.range 16).map (fun i => b.getD ((i + 4 * (i % 4)) % 16) 0)
/-- Its inverse. -/
def aesUnshift (b : List Byte) : List Byte := (List.range 16).map (fun i => b.getD ((i + 12 * (i % 4)) % 16) 0)

/-- Each column times a circulant matrix. -/
def aesMixBy (m : List Byte) (b : List Byte) : List Byte :=
  (List.range 16).map (fun i =>
    (List.range 4).foldl (fun (v : Byte) j => v ^^^ gf256Mul (m.getD ((j + 4 - i % 4) % 4) 0) (b.getD (i / 4 * 4 + j) 0)) 0)

/-- AES-256 of a block of 16 bytes. -/
@[irreducible] def aesEnc (key block : List Byte) : List Byte :=
  let ks := aesRoundKeys key
  let k (i : Nat) : List Byte := ks.getD i []
  let b := (List.range 13).foldl (fun b i => xorBytes (aesMixBy [2, 3, 1, 1] (aesShift (b.map aesSub))) (k (i + 1))) (xorBytes block (k 0))
  xorBytes (aesShift (b.map aesSub)) (k 14)

/-- The inverse of AES-256. -/
@[irreducible] def aesDec (key block : List Byte) : List Byte :=
  let ks := aesRoundKeys key
  let k (i : Nat) : List Byte := ks.getD i []
  let b := (aesUnshift (xorBytes block (k 14))).map aesUnsub
  let b := (List.range 13).foldl (fun b i =>
    (aesUnshift (aesMixBy [14, 11, 13, 9] (xorBytes b (k (13 - i))))).map aesUnsub) b
  xorBytes b (k 0)

/-! ### XTS -/

/-- A number as a block of 16 bytes, the first in the lowest place. -/
def leBlock (n : Nat) : List Byte := (List.range 16).map (fun i => BitVec.ofNat 8 (n / 256 ^ i))

/-- A block as a number, the first byte in the lowest place. -/
def blockLe (b : List Byte) : Nat := b.foldr (fun x n => x.toNat + 256 * n) 0

/-- A tweak times the primitive element. -/
def xtsNext (t : List Byte) : List Byte :=
  let n := 2 * blockLe t
  leBlock (if 2 ^ 128 ≤ n then (n - 2 ^ 128) ^^^ 0x87 else n)

/-- The tweaks of the blocks of a data unit. -/
def xtsTweaks (key2 : List Byte) (unit : Nat) : Nat → List (List Byte)
  | 0 => []
  | n + 1 => (List.range n).foldl (fun l _ => l ++ [xtsNext (l.getLastD [])]) [aesEnc key2 (leBlock unit)]

/-- A data unit of whole blocks under a key pair of 64 bytes, by a block function. -/
def xtsUnit (f : List Byte → List Byte → List Byte) (key : List Byte) (unit : Nat) (data : List Byte) : List Byte :=
  ((xtsTweaks (key.drop 32) unit (data.length / 16)).mapIdx (fun i t =>
    xorBytes (f (key.take 32) (xorBytes ((data.drop (16 * i)).take 16) t)) t)).flatten

/-- AES-256-XTS encryption of a data unit. -/
@[irreducible] def xtsEnc (key : List Byte) (unit : Nat) (plain : List Byte) : List Byte := xtsUnit aesEnc key unit plain
/-- AES-256-XTS decryption of a data unit. -/
@[irreducible] def xtsDec (key : List Byte) (unit : Nat) (cipher : List Byte) : List Byte := xtsUnit aesDec key unit cipher

/-! ### GCM -/

/-- A block as a number, the first byte in the highest place. -/
def blockBe (b : List Byte) : Nat := b.foldl (fun n x => 256 * n + x.toNat) 0

/-- A number as a block, the first byte in the highest place. -/
def beBlock (n : Nat) : List Byte := (leBlock n).reverse

/-- Multiplication in GF(2^128) with the reflected bit order of GCM. -/
def ghashMul (x y : Nat) : Nat :=
  ((List.range 128).foldl (fun (r : Nat × Nat) i =>
    (if x.testBit (127 - i) then r.1 ^^^ r.2 else r.1,
     if r.2 % 2 = 1 then (r.2 / 2) ^^^ (0xE1 * 2 ^ 120) else r.2 / 2)) (0, y)).1

/-- A byte string in blocks, the last filled with zeros. -/
def blocksOf (m : List Byte) : List (List Byte) :=
  (List.range ((m.length + 15) / 16)).map (fun i =>
    let b := (m.drop (16 * i)).take 16
    b ++ List.replicate (16 - b.length) 0)

/-- GHASH of additional data and a ciphertext under the hash key. -/
def ghash (h : Nat) (aad cipher : List Byte) : Nat :=
  (blocksOf aad ++ blocksOf cipher ++ [beBlock (8 * aad.length * 2 ^ 64 + 8 * cipher.length)]).foldl (fun y b => ghashMul (y ^^^ blockBe b) h) 0

/-- The counter mode of GCM under a 12-byte IV, from counter 2. -/
def gcmStream (key iv data : List Byte) : List Byte :=
  (List.range ((data.length + 15) / 16)).flatMap (fun i =>
    xorBytes ((data.drop (16 * i)).take 16) (aesEnc key (iv ++ ((leBlock (i + 2)).take 4).reverse)))

/-- The tag of a ciphertext. -/
@[irreducible] def gcmTag (key iv aad cipher : List Byte) : List Byte :=
  xorBytes (beBlock (ghash (blockBe (aesEnc key (List.replicate 16 0))) aad cipher)) (aesEnc key (iv ++ [0, 0, 0, 1]))

/-- AES-256-GCM decryption. -/
@[irreducible] def gcmDec (key iv cipher : List Byte) : List Byte := gcmStream key iv cipher
/-- AES-256-GCM authentication of a ciphertext with its tag. -/
@[irreducible] def gcmOk (key iv aad cipher tag : List Byte) : Bool := gcmTag key iv aad cipher == tag

end Sys2Proof.Machine
end

