-- ==== Sys2Proof/Config.lean ====
section
/-! DEFINITION. What an implementation fixes (fused constants, straps, identities) and the values the spec leaves open.
None has a body: nothing can be proved of its value. -/

namespace Sys2Proof

/-- The ROM identity of UCODE_VER, fused (R290). -/
opaque Config.romId : BitVec 16
/-- ID_PART.REV, the silicon revision, fused (R419). -/
opaque Config.fusedRev : Byte
/-- ID_PART.CEIL, the vector clock ceiling in 25 MHz units, fused: true 80, false 68 (R419). -/
opaque Config.ceil20 : Bool
/-- EST.PIPE_MA, fused for each quadrant (R514). -/
opaque Config.fusedPipeMa : BitVec 16
/-- SEC_STAT.DBG_CLOSED, fused (R587). -/
opaque Config.fusedDbgClosed : Bool
/-- SEC_STAT.SVN, fused (R587). -/
opaque Config.fusedSvn : BitVec 7
/-- The BMC address strap (R655). -/
opaque Config.strapBmcAddr : BitVec 2
/-- The M0 rate strap (R655). -/
opaque Config.strapM0Rate : Bool
/-- The heartbeat-wire strap (R655). -/
opaque Config.strapHbWire : Bool
/-- The test strap (R655). -/
opaque Config.strapTest : Bool

/-- PWR_LIMIT.TDP_W, fused: 1,250 W on the -20 part and 1,050 W on the -17 part (R2, R514). -/
def Config.fusedTdp : BitVec 12 := if Config.ceil20 then 1250 else 1050

/-- The vector clock ceiling as ID_PART.CEIL holds it (R419). -/
def Config.fusedCeil : Nat := if Config.ceil20 then 80 else 68

/-- The three copies of each fuse word as manufactured: 64 data bits and, in a value word, a CRC-8 above them (R560, R561). -/
opaque Config.fuseCopy : (word copy : Nat) → BitVec 72
/-- What the PUF gives for its helper data: the key, none where its own check fails (R563). -/
opaque Config.pufKey : (helper : List Byte) → Option (List Byte)
/-- The fused setpoint table of R491: mV for a quadrant and a clock in 25 MHz units. -/
opaque Config.fusedSetpoint : (quad clock : Nat) → Nat
/-- The size of the boot flash in MiB, as its SFDP table gives it (R565). -/
opaque Config.flashMib : BitVec 16

/-- The patch set that the bytes of a MICROCODE element hold: the spec gives its contents (R289), not its layout (log entry 11, DESIGN CHOICE). -/
opaque Config.patchSet : (bytes : List Byte) → UcPatch

/-- The words of the ROM control store: the spec gives their layout (R283), not the microprograms (log entry 111, DESIGN CHOICE). -/
opaque Config.ucRomWord : (addr : Nat) → BitVec 32
/-- START of an opcode's entry in the ROM dispatch table: an address of the ROM control store (R286; log entry 111, DESIGN CHOICE). -/
opaque Config.ucStart : (op : Nat) → BitVec 13
/-- SBASE and E of the ROM for an opcode that is no pipe instruction, to which R298 gives no constants (log entry 21, DESIGN CHOICE). -/
opaque Config.ucTime : (op : Nat) → BitVec 14

/-- SESSION and SEQ as the signature of a mailbox request covers them: six bytes (log entry 23, DESIGN CHOICE). -/
opaque Config.mbxHead : BitVec 48

/-- A value the spec leaves undefined: the k-th value that a step takes (log entry 8, DESIGN CHOICE). -/
opaque Config.freeWord : Nat → Word

/-- Byte i of the AES-256-XTS key pair of a partition, or of the module for 16, in a generation: the vault draws it (R151, R562; log entry
90, DESIGN CHOICE). -/
opaque Config.cellarKey : (part gen : Nat) → (i : Nat) → Byte
/-- Byte i of the randomness that an ML-DSA-65 signature takes (log entry 90, DESIGN CHOICE). -/
opaque Config.signRandom : (seed msg : List Byte) → (i : Nat) → Byte

end Sys2Proof
end

