-- ==== Sys2Proof/Machine/Map.lean ====
section
/-! DEFINITION. A sparse map from addresses: a list of pairs in one canonical form, addresses strictly rising and no entry
equal to what an unlisted address reads as. Memory, tags, check errors and the register file of the Control Space are
such maps. Also the small operations on vectors of like parts. -/

namespace Sys2Proof.Machine

/-- The entry at an address, none where the list has none. -/
def mapFind {α : Type} : List (Nat × α) → Nat → Option α
  | [], _ => none
  | (k, v) :: m, a => if a = k then some v else mapFind m a

/-- The entry at an address of a list in order, none where the list has none: the search ends at the first address past it. -/
def mapSeek {α : Type} : List (Nat × α) → Nat → Option α
  | [], _ => none
  | (k, v) :: m, a => if a < k then none else if a = k then some v else mapSeek m a

/-- What an address reads as: its entry, or what an unlisted address reads as. -/
def mapGet {α : Type} (d : Nat → α) (m : List (Nat × α)) (a : Nat) : α := (mapFind m a).getD (d a)

/-- Insert or replace an entry, in order of addresses. -/
def mapInsert {α : Type} : List (Nat × α) → Nat → α → List (Nat × α)
  | [], a, v => [(a, v)]
  | (k, w) :: m, a, v =>
    if a < k then (a, v) :: (k, w) :: m else if a = k then (a, v) :: m else (k, w) :: mapInsert m a v

/-- Remove what is listed for an address. -/
def mapErase {α : Type} : List (Nat × α) → Nat → List (Nat × α)
  | [], _ => []
  | (k, w) :: m, a => if a = k then mapErase m a else (k, w) :: mapErase m a

/-- Write a value: the entry is removed where the value is what the unlisted address reads as. -/
def mapPut {α : Type} [DecidableEq α] (d : Nat → α) (m : List (Nat × α)) (a : Nat) (v : α) : List (Nat × α) :=
  if v = d a then mapErase m a else mapInsert m a v

/-- Addresses above a bound, strictly rising, no entry equal to what the unlisted address reads as. -/
def mapWfFrom {α : Type} [DecidableEq α] (d : Nat → α) : Option Nat → List (Nat × α) → Bool
  | _, [] => true
  | lo, (k, v) :: m => (match lo with | none => true | some b => decide (b < k)) && decide (v ≠ d k) && mapWfFrom d (some k) m

/-- The canonical form of a sparse map. -/
def mapWf {α : Type} [DecidableEq α] (d : Nat → α) (m : List (Nat × α)) : Bool := mapWfFrom d none m

/-- Change one of n like parts. -/
def vecUpd {α : Type} {n : Nat} (v : Vector α n) (i : Fin n) (f : α → α) : Vector α n := v.set i.val (f v[i.val]) i.isLt

/-- One of n like parts by number, none past the end. -/
def vecAt? {α : Type} {n : Nat} (v : Vector α n) (i : Nat) : Option α := if h : i < n then some v[i] else none

end Sys2Proof.Machine
end

