-- ==== Sys2Proof/Machine/Regs.lean ====
section
/-! DEFINITION. The registers of the Control Space: the table of every register the chapters give, with its address,
its fields, how software may touch them (R13) and their values at reset, and a name for every field. A register that is
given once for each block has a base and the strides of its indices. -/

namespace Sys2Proof.Machine

/-- How software may touch a field (R13). -/
inductive Acc where
  | ro
  | rw
  | wo
  | rc
  | w1c
  | w1s
  deriving DecidableEq, Repr

/-- One field of a register: its place, its access and its value at reset. -/
structure FieldRow where
  lsb : Nat
  width : Nat
  acc : Acc
  reset : Nat
  deriving DecidableEq, Repr

/-- One row of the register table: base, up to two indices (count and stride) and the fields. -/
structure RegRow where
  base : Nat
  n1 : Nat
  s1 : Nat
  n2 : Nat
  s2 : Nat
  fields : List FieldRow
  deriving DecidableEq, Repr

/-- A field of one register: address, least significant bit, width. -/
structure Fld where
  adr : Nat
  lsb : Nat
  width : Nat
  deriving DecidableEq, Repr

/-- The mask of the bits below `w`. -/
def lowMask (w : Nat) : Word := BitVec.ofNat 64 (2 ^ w - 1)

/-- The value of a field in a register. -/
def Fld.ofWord (f : Fld) (v : Word) : Nat := ((v >>> f.lsb) &&& lowMask f.width).toNat

/-- A register with one field set to a value, cut to the field's width. -/
def Fld.setIn (f : Fld) (v : Word) (x : Nat) : Word :=
  (v &&& ~~~(lowMask f.width <<< f.lsb)) ||| ((BitVec.ofNat 64 x &&& lowMask f.width) <<< f.lsb)

/-- The registers of R70 (02_structure_image.md). -/
def regsR70 : List RegRow :=
  [⟨0x0B000000, 1, 0, 1, 0, [⟨0, 2, .ro, 0⟩, ⟨2, 1, .ro, 0⟩, ⟨8, 16, .ro, 0⟩]⟩,
   ⟨0x0B000008, 1, 0, 1, 0, [⟨0, 64, .ro, 0⟩]⟩,
   ⟨0x0B000010, 8, 8, 1, 0, [⟨0, 64, .ro, 0⟩]⟩,
   ⟨0x0B000050, 2, 8, 1, 0, [⟨0, 8, .ro, 0⟩, ⟨8, 1, .ro, 0⟩, ⟨9, 1, .ro, 0⟩, ⟨32, 32, .ro, 0⟩]⟩,
   ⟨0x0B000060, 1, 0, 1, 0, [⟨0, 64, .ro, 0⟩]⟩,
   ⟨0x0B000068, 1, 0, 1, 0, [⟨0, 16, .ro, 0⟩, ⟨16, 16, .ro, 0⟩]⟩,
   ⟨0x0B000070, 1, 0, 1, 0, [⟨0, 7, .ro, 0⟩, ⟨7, 1, .ro, 0⟩, ⟨8, 7, .ro, 0⟩, ⟨16, 7, .ro, 0⟩, ⟨23, 1, .ro, 0⟩, ⟨24, 7, .ro, 0⟩, ⟨32, 7, .ro, 0⟩, ⟨39, 1, .ro, 0⟩, ⟨40, 7, .ro, 0⟩, ⟨48, 7, .ro, 0⟩, ⟨55, 1, .ro, 0⟩, ⟨56, 7, .ro, 0⟩]⟩,
   ⟨0x0B000078, 1, 0, 1, 0, [⟨0, 1, .ro, 0⟩, ⟨1, 1, .ro, 0⟩, ⟨2, 1, .ro, 0⟩, ⟨3, 1, .ro, 0⟩, ⟨8, 8, .ro, 0⟩]⟩,
   ⟨0x0B000080, 1, 0, 1, 0, [⟨0, 64, .ro, 0⟩]⟩,
   ⟨0x0B000088, 1, 0, 1, 0, [⟨0, 16, .rw, 0⟩]⟩,
   ⟨0x0B000090, 1, 0, 1, 0, [⟨0, 16, .ro, 0⟩]⟩,
   ⟨0x0B000098, 1, 0, 1, 0, [⟨0, 2, .wo, 0⟩, ⟨8, 2, .ro, 0⟩, ⟨16, 8, .ro, 0⟩]⟩]

/-- STRUCT_SRC (R70). -/
def STRUCT_SRC.adr : Nat := 0x0B000000
/-- STRUCT_SRC.SOURCE. -/
def STRUCT_SRC.SOURCE : Fld := ⟨STRUCT_SRC.adr, 0, 2⟩
/-- STRUCT_SRC.OWNED. -/
def STRUCT_SRC.OWNED : Fld := ⟨STRUCT_SRC.adr, 2, 1⟩
/-- STRUCT_SRC.FMT_VER. -/
def STRUCT_SRC.FMT_VER : Fld := ⟨STRUCT_SRC.adr, 8, 16⟩
/-- STRUCT_SEQ (R70). -/
def STRUCT_SEQ.adr : Nat := 0x0B000008
/-- STRUCT_SEQ.SEQ. -/
def STRUCT_SEQ.SEQ : Fld := ⟨STRUCT_SEQ.adr, 0, 64⟩
/-- STRUCT_DIGEST (R70). -/
def STRUCT_DIGEST.adr (i : Nat) : Nat := 0x0B000010 + i * 8
/-- STRUCT_DIGEST.DIGEST. -/
def STRUCT_DIGEST.DIGEST (i : Nat) : Fld := ⟨STRUCT_DIGEST.adr i, 0, 64⟩
/-- STRUCT_COPY (R70). -/
def STRUCT_COPY.adr (i : Nat) : Nat := 0x0B000050 + i * 8
/-- STRUCT_COPY.FAIL. -/
def STRUCT_COPY.FAIL (i : Nat) : Fld := ⟨STRUCT_COPY.adr i, 0, 8⟩
/-- STRUCT_COPY.PRESENT. -/
def STRUCT_COPY.PRESENT (i : Nat) : Fld := ⟨STRUCT_COPY.adr i, 8, 1⟩
/-- STRUCT_COPY.CHOSEN. -/
def STRUCT_COPY.CHOSEN (i : Nat) : Fld := ⟨STRUCT_COPY.adr i, 9, 1⟩
/-- STRUCT_COPY.SEQ_LO. -/
def STRUCT_COPY.SEQ_LO (i : Nat) : Fld := ⟨STRUCT_COPY.adr i, 32, 32⟩
/-- STRUCT_ASSIGN (R70). -/
def STRUCT_ASSIGN.adr : Nat := 0x0B000060
/-- STRUCT_ASSIGN.PTIDS. -/
def STRUCT_ASSIGN.PTIDS : Fld := ⟨STRUCT_ASSIGN.adr, 0, 64⟩
/-- STRUCT_MAPVALID (R70). -/
def STRUCT_MAPVALID.adr : Nat := 0x0B000068
/-- STRUCT_MAPVALID.CLUSTERS. -/
def STRUCT_MAPVALID.CLUSTERS : Fld := ⟨STRUCT_MAPVALID.adr, 0, 16⟩
/-- STRUCT_MAPVALID.PARTS. -/
def STRUCT_MAPVALID.PARTS : Fld := ⟨STRUCT_MAPVALID.adr, 16, 16⟩
/-- STRUCT_CLOCK (R70). -/
def STRUCT_CLOCK.adr : Nat := 0x0B000070
/-- STRUCT_CLOCK.APPLIED0. -/
def STRUCT_CLOCK.APPLIED0 : Fld := ⟨STRUCT_CLOCK.adr, 0, 7⟩
/-- STRUCT_CLOCK.CLAMPED0. -/
def STRUCT_CLOCK.CLAMPED0 : Fld := ⟨STRUCT_CLOCK.adr, 7, 1⟩
/-- STRUCT_CLOCK.REQUESTED0. -/
def STRUCT_CLOCK.REQUESTED0 : Fld := ⟨STRUCT_CLOCK.adr, 8, 7⟩
/-- STRUCT_CLOCK.APPLIED1. -/
def STRUCT_CLOCK.APPLIED1 : Fld := ⟨STRUCT_CLOCK.adr, 16, 7⟩
/-- STRUCT_CLOCK.CLAMPED1. -/
def STRUCT_CLOCK.CLAMPED1 : Fld := ⟨STRUCT_CLOCK.adr, 23, 1⟩
/-- STRUCT_CLOCK.REQUESTED1. -/
def STRUCT_CLOCK.REQUESTED1 : Fld := ⟨STRUCT_CLOCK.adr, 24, 7⟩
/-- STRUCT_CLOCK.APPLIED2. -/
def STRUCT_CLOCK.APPLIED2 : Fld := ⟨STRUCT_CLOCK.adr, 32, 7⟩
/-- STRUCT_CLOCK.CLAMPED2. -/
def STRUCT_CLOCK.CLAMPED2 : Fld := ⟨STRUCT_CLOCK.adr, 39, 1⟩
/-- STRUCT_CLOCK.REQUESTED2. -/
def STRUCT_CLOCK.REQUESTED2 : Fld := ⟨STRUCT_CLOCK.adr, 40, 7⟩
/-- STRUCT_CLOCK.APPLIED3. -/
def STRUCT_CLOCK.APPLIED3 : Fld := ⟨STRUCT_CLOCK.adr, 48, 7⟩
/-- STRUCT_CLOCK.CLAMPED3. -/
def STRUCT_CLOCK.CLAMPED3 : Fld := ⟨STRUCT_CLOCK.adr, 55, 1⟩
/-- STRUCT_CLOCK.REQUESTED3. -/
def STRUCT_CLOCK.REQUESTED3 : Fld := ⟨STRUCT_CLOCK.adr, 56, 7⟩
/-- STRUCT_FLAGS (R70). -/
def STRUCT_FLAGS.adr : Nat := 0x0B000078
/-- STRUCT_FLAGS.QUOTA_SCALED. -/
def STRUCT_FLAGS.QUOTA_SCALED : Fld := ⟨STRUCT_FLAGS.adr, 0, 1⟩
/-- STRUCT_FLAGS.CLAMPED. -/
def STRUCT_FLAGS.CLAMPED : Fld := ⟨STRUCT_FLAGS.adr, 1, 1⟩
/-- STRUCT_FLAGS.DIDT_LIMITED. -/
def STRUCT_FLAGS.DIDT_LIMITED : Fld := ⟨STRUCT_FLAGS.adr, 2, 1⟩
/-- STRUCT_FLAGS.OWNER_PENDING. -/
def STRUCT_FLAGS.OWNER_PENDING : Fld := ⟨STRUCT_FLAGS.adr, 3, 1⟩
/-- STRUCT_FLAGS.SKIPPED. -/
def STRUCT_FLAGS.SKIPPED : Fld := ⟨STRUCT_FLAGS.adr, 8, 8⟩
/-- STRUCT_MIN_SEQ (R70). -/
def STRUCT_MIN_SEQ.adr : Nat := 0x0B000080
/-- STRUCT_MIN_SEQ.SEQ. -/
def STRUCT_MIN_SEQ.SEQ : Fld := ⟨STRUCT_MIN_SEQ.adr, 0, 64⟩
/-- STRUCT_DRAIN (R70). -/
def STRUCT_DRAIN.adr : Nat := 0x0B000088
/-- STRUCT_DRAIN.REQ. -/
def STRUCT_DRAIN.REQ : Fld := ⟨STRUCT_DRAIN.adr, 0, 16⟩
/-- STRUCT_DRAINED (R70). -/
def STRUCT_DRAINED.adr : Nat := 0x0B000090
/-- STRUCT_DRAINED.DONE. -/
def STRUCT_DRAINED.DONE : Fld := ⟨STRUCT_DRAINED.adr, 0, 16⟩
/-- STRUCT_LIVE (R70). -/
def STRUCT_LIVE.adr : Nat := 0x0B000098
/-- STRUCT_LIVE.CMD. -/
def STRUCT_LIVE.CMD : Fld := ⟨STRUCT_LIVE.adr, 0, 2⟩
/-- STRUCT_LIVE.STATE. -/
def STRUCT_LIVE.STATE : Fld := ⟨STRUCT_LIVE.adr, 8, 2⟩
/-- STRUCT_LIVE.RESULT. -/
def STRUCT_LIVE.RESULT : Fld := ⟨STRUCT_LIVE.adr, 16, 8⟩

/-- The registers of R153 (04_capabilities_and_paging.md). -/
def regsR153 : List RegRow :=
  [⟨0x03200000, 16, 0x1000, 1, 0, [⟨0, 64, .ro, 0⟩]⟩,
   ⟨0x03200008, 16, 0x1000, 1, 0, [⟨0, 32, .ro, 0⟩, ⟨32, 32, .ro, 0⟩]⟩,
   ⟨0x03200010, 16, 0x1000, 1, 0, [⟨16, 40, .rw, 0x8000000000⟩]⟩,
   ⟨0x03200018, 16, 0x1000, 1, 0, [⟨16, 40, .rw, 0xFFFFFFFFFF⟩]⟩,
   ⟨0x03200020, 16, 0x1000, 1, 0, [⟨16, 40, .rw, 0⟩]⟩,
   ⟨0x03200028, 16, 0x1000, 1, 0, [⟨16, 32, .rw, 0⟩]⟩,
   ⟨0x03200030, 16, 0x1000, 1, 0, [⟨0, 3, .wo, 0⟩, ⟨3, 2, .rw, 0⟩, ⟨5, 3, .rw, 0⟩, ⟨8, 2, .rw, 0⟩, ⟨16, 2, .ro, 0⟩, ⟨18, 1, .ro, 0⟩]⟩,
   ⟨0x03200038, 16, 0x1000, 1, 0, [⟨0, 32, .ro, 0⟩, ⟨32, 16, .rc, 0⟩, ⟨48, 1, .ro, 0⟩, ⟨49, 1, .w1c, 0⟩]⟩,
   ⟨0x03210000, 1, 0, 1, 0, [⟨0, 16, .rw, 100⟩, ⟨16, 8, .rw, 32⟩, ⟨24, 8, .rw, 2⟩, ⟨32, 16, .rw, 256⟩, ⟨48, 7, .rw, 5⟩]⟩,
   ⟨0x03210008, 1, 0, 1, 0, [⟨0, 1, .w1s, 0⟩]⟩,
   ⟨0x03210010, 1, 0, 1, 0, [⟨0, 32, .ro, 0⟩, ⟨32, 1, .ro, 0⟩, ⟨33, 1, .ro, 0⟩]⟩,
   ⟨0x03210018, 1, 0, 1, 0, [⟨0, 64, .ro, 0⟩]⟩,
   ⟨0x03210020, 1, 0, 1, 0, [⟨0, 64, .ro, 0⟩]⟩,
   ⟨0x03210028, 1, 0, 1, 0, [⟨0, 16, .rw, 1024⟩]⟩]

/-- PG_ROOT (R153). -/
def PG_ROOT.adr (i : Nat) : Nat := 0x03200000 + i * 0x1000
/-- PG_ROOT.PA. -/
def PG_ROOT.PA (i : Nat) : Fld := ⟨PG_ROOT.adr i, 0, 64⟩
/-- PG_HELD (R153). -/
def PG_HELD.adr (i : Nat) : Nat := 0x03200008 + i * 0x1000
/-- PG_HELD.NEAR. -/
def PG_HELD.NEAR (i : Nat) : Fld := ⟨PG_HELD.adr i, 0, 32⟩
/-- PG_HELD.CELLAR. -/
def PG_HELD.CELLAR (i : Nat) : Fld := ⟨PG_HELD.adr i, 32, 32⟩
/-- HEAP_BASE (R153). -/
def HEAP_BASE.adr (i : Nat) : Nat := 0x03200010 + i * 0x1000
/-- HEAP_BASE.ADDR. -/
def HEAP_BASE.ADDR (i : Nat) : Fld := ⟨HEAP_BASE.adr i, 16, 40⟩
/-- HEAP_TOP (R153). -/
def HEAP_TOP.adr (i : Nat) : Nat := 0x03200018 + i * 0x1000
/-- HEAP_TOP.ADDR. -/
def HEAP_TOP.ADDR (i : Nat) : Fld := ⟨HEAP_TOP.adr i, 16, 40⟩
/-- PG_HINT_BASE (R153). -/
def PG_HINT_BASE.adr (i : Nat) : Nat := 0x03200020 + i * 0x1000
/-- PG_HINT_BASE.ADDR. -/
def PG_HINT_BASE.ADDR (i : Nat) : Fld := ⟨PG_HINT_BASE.adr i, 16, 40⟩
/-- PG_HINT_LEN (R153). -/
def PG_HINT_LEN.adr (i : Nat) : Nat := 0x03200028 + i * 0x1000
/-- PG_HINT_LEN.PAGES. -/
def PG_HINT_LEN.PAGES (i : Nat) : Fld := ⟨PG_HINT_LEN.adr i, 16, 32⟩
/-- PG_HINT (R153). -/
def PG_HINT.adr (i : Nat) : Nat := 0x03200030 + i * 0x1000
/-- PG_HINT.CMD. -/
def PG_HINT.CMD (i : Nat) : Fld := ⟨PG_HINT.adr i, 0, 3⟩
/-- PG_HINT.IL. -/
def PG_HINT.IL (i : Nat) : Fld := ⟨PG_HINT.adr i, 3, 2⟩
/-- PG_HINT.HASH. -/
def PG_HINT.HASH (i : Nat) : Fld := ⟨PG_HINT.adr i, 5, 3⟩
/-- PG_HINT.SIZE. -/
def PG_HINT.SIZE (i : Nat) : Fld := ⟨PG_HINT.adr i, 8, 2⟩
/-- PG_HINT.STATE. -/
def PG_HINT.STATE (i : Nat) : Fld := ⟨PG_HINT.adr i, 16, 2⟩
/-- PG_HINT.PARTIAL. -/
def PG_HINT.PARTIAL (i : Nat) : Fld := ⟨PG_HINT.adr i, 18, 1⟩
/-- ALLOC_STAT (R153). -/
def ALLOC_STAT.adr (i : Nat) : Nat := 0x03200038 + i * 0x1000
/-- ALLOC_STAT.LIVE. -/
def ALLOC_STAT.LIVE (i : Nat) : Fld := ⟨ALLOC_STAT.adr i, 0, 32⟩
/-- ALLOC_STAT.FAILS. -/
def ALLOC_STAT.FAILS (i : Nat) : Fld := ⟨ALLOC_STAT.adr i, 32, 16⟩
/-- ALLOC_STAT.QFULL. -/
def ALLOC_STAT.QFULL (i : Nat) : Fld := ⟨ALLOC_STAT.adr i, 48, 1⟩
/-- ALLOC_STAT.HEAP_LOCKED. -/
def ALLOC_STAT.HEAP_LOCKED (i : Nat) : Fld := ⟨ALLOC_STAT.adr i, 49, 1⟩
/-- TURN_CFG (R153). -/
def TURN_CFG.adr : Nat := 0x03210000
/-- TURN_CFG.PERIOD_MS. -/
def TURN_CFG.PERIOD_MS : Fld := ⟨TURN_CFG.adr, 0, 16⟩
/-- TURN_CFG.UP. -/
def TURN_CFG.UP : Fld := ⟨TURN_CFG.adr, 16, 8⟩
/-- TURN_CFG.DOWN. -/
def TURN_CFG.DOWN : Fld := ⟨TURN_CFG.adr, 24, 8⟩
/-- TURN_CFG.RATE. -/
def TURN_CFG.RATE : Fld := ⟨TURN_CFG.adr, 32, 16⟩
/-- TURN_CFG.LOWATER. -/
def TURN_CFG.LOWATER : Fld := ⟨TURN_CFG.adr, 48, 7⟩
/-- REV_CTL (R153). -/
def REV_CTL.adr : Nat := 0x03210008
/-- REV_CTL.SWEEP_NOW. -/
def REV_CTL.SWEEP_NOW : Fld := ⟨REV_CTL.adr, 0, 1⟩
/-- REV_STAT (R153). -/
def REV_STAT.adr : Nat := 0x03210010
/-- REV_STAT.EPOCH. -/
def REV_STAT.EPOCH : Fld := ⟨REV_STAT.adr, 0, 32⟩
/-- REV_STAT.OPEN. -/
def REV_STAT.OPEN : Fld := ⟨REV_STAT.adr, 32, 1⟩
/-- REV_STAT.PAUSED. -/
def REV_STAT.PAUSED : Fld := ⟨REV_STAT.adr, 33, 1⟩
/-- FREE_NEAR (R153). -/
def FREE_NEAR.adr : Nat := 0x03210018
/-- FREE_NEAR.COUNT. -/
def FREE_NEAR.COUNT : Fld := ⟨FREE_NEAR.adr, 0, 64⟩
/-- FREE_CELLAR (R153). -/
def FREE_CELLAR.adr : Nat := 0x03210020
/-- FREE_CELLAR.COUNT. -/
def FREE_CELLAR.COUNT : Fld := ⟨FREE_CELLAR.adr, 0, 64⟩
/-- ZPOOL (R153). -/
def ZPOOL.adr : Nat := 0x03210028
/-- ZPOOL.TARGET. -/
def ZPOOL.TARGET : Fld := ⟨ZPOOL.adr, 0, 16⟩

/-- The registers of R241 (06_felting_and_scheduling.md). -/
def regsR241 : List RegRow :=
  [⟨0x02000000, 16, 0x10000, 1, 0, [⟨0, 16, .rw, 256⟩, ⟨16, 16, .rw, 20⟩, ⟨32, 8, .rw, 64⟩, ⟨40, 1, .rw, 1⟩, ⟨41, 1, .rw, 0⟩]⟩,
   ⟨0x02000008, 16, 0x10000, 1, 0, [⟨0, 64, .ro, 0⟩]⟩,
   ⟨0x02000010, 16, 0x10000, 1, 0, [⟨0, 8, .ro, 100⟩, ⟨8, 1, .ro, 0⟩, ⟨9, 1, .ro, 0⟩]⟩,
   ⟨0x02000018, 16, 0x10000, 1, 0, [⟨0, 64, .rc, 0⟩]⟩,
   ⟨0x02000020, 16, 0x10000, 1, 0, [⟨0, 64, .rc, 0⟩]⟩,
   ⟨0x02000028, 16, 0x10000, 1, 0, [⟨0, 64, .rc, 0⟩]⟩,
   ⟨0x02000030, 16, 0x10000, 1, 0, [⟨0, 64, .rc, 0⟩]⟩,
   ⟨0x02000038, 16, 0x10000, 1, 0, [⟨0, 64, .ro, 0⟩]⟩,
   ⟨0x02001000, 16, 0x10000, 32, 0x40, [⟨0, 4, .wo, 0⟩, ⟨8, 6, .rw, 0⟩, ⟨16, 2, .ro, 0⟩, ⟨20, 4, .ro, 0⟩]⟩,
   ⟨0x02001008, 16, 0x10000, 32, 0x40, [⟨0, 4, .rw, 4⟩, ⟨4, 1, .rw, 0⟩]⟩,
   ⟨0x02001010, 16, 0x10000, 32, 0x40, [⟨0, 64, .ro, 0⟩]⟩,
   ⟨0x02001018, 16, 0x10000, 32, 0x40, [⟨0, 40, .ro, 0⟩]⟩,
   ⟨0x02001020, 16, 0x10000, 32, 0x40, [⟨0, 64, .ro, 0⟩]⟩,
   ⟨0x02001028, 16, 0x10000, 32, 0x40, [⟨0, 64, .rc, 0⟩]⟩]

/-- SCHED_CFG (R241). -/
def SCHED_CFG.adr (i : Nat) : Nat := 0x02000000 + i * 0x10000
/-- SCHED_CFG.STEAL_WAIT. -/
def SCHED_CFG.STEAL_WAIT (i : Nat) : Fld := ⟨SCHED_CFG.adr i, 0, 16⟩
/-- SCHED_CFG.PARK_IDLE. -/
def SCHED_CFG.PARK_IDLE (i : Nat) : Fld := ⟨SCHED_CFG.adr i, 16, 16⟩
/-- SCHED_CFG.CHAIN_WAIT. -/
def SCHED_CFG.CHAIN_WAIT (i : Nat) : Fld := ⟨SCHED_CFG.adr i, 32, 8⟩
/-- SCHED_CFG.LOCAL. -/
def SCHED_CFG.LOCAL (i : Nat) : Fld := ⟨SCHED_CFG.adr i, 40, 1⟩
/-- SCHED_CFG.STATIC. -/
def SCHED_CFG.STATIC (i : Nat) : Fld := ⟨SCHED_CFG.adr i, 41, 1⟩
/-- SCHED_PIPES (R241). -/
def SCHED_PIPES.adr (i : Nat) : Nat := 0x02000008 + i * 0x10000
/-- SCHED_PIPES.LIT. -/
def SCHED_PIPES.LIT (i : Nat) : Fld := ⟨SCHED_PIPES.adr i, 0, 64⟩
/-- SCHED_STAT (R241). -/
def SCHED_STAT.adr (i : Nat) : Nat := 0x02000010 + i * 0x10000
/-- SCHED_STAT.ISSUE_PCT. -/
def SCHED_STAT.ISSUE_PCT (i : Nat) : Fld := ⟨SCHED_STAT.adr i, 0, 8⟩
/-- SCHED_STAT.LEAD_WAIT. -/
def SCHED_STAT.LEAD_WAIT (i : Nat) : Fld := ⟨SCHED_STAT.adr i, 8, 1⟩
/-- SCHED_STAT.PACING. -/
def SCHED_STAT.PACING (i : Nat) : Fld := ⟨SCHED_STAT.adr i, 9, 1⟩
/-- SCHED_STRIPS (R241). -/
def SCHED_STRIPS.adr (i : Nat) : Nat := 0x02000018 + i * 0x10000
/-- SCHED_STRIPS.COUNT. -/
def SCHED_STRIPS.COUNT (i : Nat) : Fld := ⟨SCHED_STRIPS.adr i, 0, 64⟩
/-- SCHED_LOCAL (R241). -/
def SCHED_LOCAL.adr (i : Nat) : Nat := 0x02000020 + i * 0x10000
/-- SCHED_LOCAL.COUNT. -/
def SCHED_LOCAL.COUNT (i : Nat) : Fld := ⟨SCHED_LOCAL.adr i, 0, 64⟩
/-- SCHED_SPLITS (R241). -/
def SCHED_SPLITS.adr (i : Nat) : Nat := 0x02000028 + i * 0x10000
/-- SCHED_SPLITS.COUNT. -/
def SCHED_SPLITS.COUNT (i : Nat) : Fld := ⟨SCHED_SPLITS.adr i, 0, 64⟩
/-- SCHED_ELIDED (R241). -/
def SCHED_ELIDED.adr (i : Nat) : Nat := 0x02000030 + i * 0x10000
/-- SCHED_ELIDED.COUNT. -/
def SCHED_ELIDED.COUNT (i : Nat) : Fld := ⟨SCHED_ELIDED.adr i, 0, 64⟩
/-- SCHED_SLOTS (R241). -/
def SCHED_SLOTS.adr (i : Nat) : Nat := 0x02000038 + i * 0x10000
/-- SCHED_SLOTS.VALID. -/
def SCHED_SLOTS.VALID (i : Nat) : Fld := ⟨SCHED_SLOTS.adr i, 0, 64⟩
/-- VQ_CTL (R241). -/
def VQ_CTL.adr (i0 : Nat) (i1 : Nat) : Nat := 0x02001000 + i0 * 0x10000 + i1 * 0x40
/-- VQ_CTL.CMD. -/
def VQ_CTL.CMD (i0 : Nat) (i1 : Nat) : Fld := ⟨VQ_CTL.adr i0 i1, 0, 4⟩
/-- VQ_CTL.SLOT. -/
def VQ_CTL.SLOT (i0 : Nat) (i1 : Nat) : Fld := ⟨VQ_CTL.adr i0 i1, 8, 6⟩
/-- VQ_CTL.STATE. -/
def VQ_CTL.STATE (i0 : Nat) (i1 : Nat) : Fld := ⟨VQ_CTL.adr i0 i1, 16, 2⟩
/-- VQ_CTL.RESULT. -/
def VQ_CTL.RESULT (i0 : Nat) (i1 : Nat) : Fld := ⟨VQ_CTL.adr i0 i1, 20, 4⟩
/-- VQ_WEIGHT (R241). -/
def VQ_WEIGHT.adr (i0 : Nat) (i1 : Nat) : Nat := 0x02001008 + i0 * 0x10000 + i1 * 0x40
/-- VQ_WEIGHT.WEIGHT. -/
def VQ_WEIGHT.WEIGHT (i0 : Nat) (i1 : Nat) : Fld := ⟨VQ_WEIGHT.adr i0 i1, 0, 4⟩
/-- VQ_WEIGHT.URGENT. -/
def VQ_WEIGHT.URGENT (i0 : Nat) (i1 : Nat) : Fld := ⟨VQ_WEIGHT.adr i0 i1, 4, 1⟩
/-- VQ_STAT (R241). -/
def VQ_STAT.adr (i0 : Nat) (i1 : Nat) : Nat := 0x02001010 + i0 * 0x10000 + i1 * 0x40
/-- VQ_STAT.VSTAT. -/
def VQ_STAT.VSTAT (i0 : Nat) (i1 : Nat) : Fld := ⟨VQ_STAT.adr i0 i1, 0, 64⟩
/-- VQ_PROG_LO (R241). -/
def VQ_PROG_LO.adr (i0 : Nat) (i1 : Nat) : Nat := 0x02001018 + i0 * 0x10000 + i1 * 0x40
/-- VQ_PROG_LO.LO. -/
def VQ_PROG_LO.LO (i0 : Nat) (i1 : Nat) : Fld := ⟨VQ_PROG_LO.adr i0 i1, 0, 40⟩
/-- VQ_PROG_MAP (R241). -/
def VQ_PROG_MAP.adr (i0 : Nat) (i1 : Nat) : Nat := 0x02001020 + i0 * 0x10000 + i1 * 0x40
/-- VQ_PROG_MAP.MAP. -/
def VQ_PROG_MAP.MAP (i0 : Nat) (i1 : Nat) : Fld := ⟨VQ_PROG_MAP.adr i0 i1, 0, 64⟩
/-- VQ_STRIPS (R241). -/
def VQ_STRIPS.adr (i0 : Nat) (i1 : Nat) : Nat := 0x02001028 + i0 * 0x10000 + i1 * 0x40
/-- VQ_STRIPS.COUNT. -/
def VQ_STRIPS.COUNT (i0 : Nat) (i1 : Nat) : Fld := ⟨VQ_STRIPS.adr i0 i1, 0, 64⟩

/-- The registers of R290 (08_microcode_and_timing.md). -/
def regsR290 : List RegRow :=
  [⟨0x0C000000, 1, 0, 1, 0, [⟨0, 16, .ro, Config.romId.toNat⟩, ⟨16, 16, .ro, 0⟩, ⟨32, 16, .ro, 0⟩, ⟨48, 11, .ro, 0⟩]⟩,
   ⟨0x0C000008, 1, 0, 1, 0, [⟨0, 1, .ro, 0⟩, ⟨1, 1, .ro, 0⟩, ⟨2, 1, .w1c, 0⟩, ⟨4, 6, .ro, 0⟩]⟩,
   ⟨0x0C000010, 1, 0, 1, 0, [⟨0, 10, .rw, 0⟩]⟩,
   ⟨0x0C000018, 1, 0, 1, 0, [⟨0, 8, .ro, 0⟩, ⟨8, 6, .ro, 0⟩, ⟨14, 2, .ro, 0⟩]⟩]

/-- UCODE_VER (R290). -/
def UCODE_VER.adr : Nat := 0x0C000000
/-- UCODE_VER.ROM_ID. -/
def UCODE_VER.ROM_ID : Fld := ⟨UCODE_VER.adr, 0, 16⟩
/-- UCODE_VER.PATCH_SET. -/
def UCODE_VER.PATCH_SET : Fld := ⟨UCODE_VER.adr, 16, 16⟩
/-- UCODE_VER.PATCH_REV. -/
def UCODE_VER.PATCH_REV : Fld := ⟨UCODE_VER.adr, 32, 16⟩
/-- UCODE_VER.OVR. -/
def UCODE_VER.OVR : Fld := ⟨UCODE_VER.adr, 48, 11⟩
/-- UC_STAT (R290). -/
def UC_STAT.adr : Nat := 0x0C000008
/-- UC_STAT.PATCHED. -/
def UC_STAT.PATCHED : Fld := ⟨UC_STAT.adr, 0, 1⟩
/-- UC_STAT.PATCH_REJ. -/
def UC_STAT.PATCH_REJ : Fld := ⟨UC_STAT.adr, 1, 1⟩
/-- UC_STAT.UERR. -/
def UC_STAT.UERR : Fld := ⟨UC_STAT.adr, 2, 1⟩
/-- UC_STAT.UERR_PIPE. -/
def UC_STAT.UERR_PIPE : Fld := ⟨UC_STAT.adr, 4, 6⟩
/-- UC_TIME_SEL (R290). -/
def UC_TIME_SEL.adr : Nat := 0x0C000010
/-- UC_TIME_SEL.OP. -/
def UC_TIME_SEL.OP : Fld := ⟨UC_TIME_SEL.adr, 0, 10⟩
/-- UC_TIME (R290). -/
def UC_TIME.adr : Nat := 0x0C000018
/-- UC_TIME.SBASE. -/
def UC_TIME.SBASE : Fld := ⟨UC_TIME.adr, 0, 8⟩
/-- UC_TIME.E. -/
def UC_TIME.E : Fld := ⟨UC_TIME.adr, 8, 6⟩
/-- UC_TIME.KIND. -/
def UC_TIME.KIND : Fld := ⟨UC_TIME.adr, 14, 2⟩

/-- The registers of R345 (09_memory_system.md). -/
def regsR345 : List RegRow :=
  [⟨0x03000000, 16, 0x10000, 1, 0, [⟨0, 8, .rw, 20⟩, ⟨8, 8, .rw, 12⟩, ⟨16, 8, .rw, 4⟩, ⟨24, 8, .rw, 8⟩, ⟨32, 16, .rw, 64⟩]⟩,
   ⟨0x03000008, 16, 0x10000, 1, 0, [⟨0, 1, .ro, 0⟩, ⟨1, 1, .ro, 0⟩, ⟨2, 1, .ro, 0⟩, ⟨3, 1, .ro, 0⟩, ⟨4, 1, .w1c, 0⟩, ⟨5, 1, .ro, 0⟩, ⟨8, 8, .ro, 0⟩, ⟨16, 8, .ro, 0⟩]⟩,
   ⟨0x03000010, 16, 0x10000, 2, 8, [⟨0, 64, .ro, 0⟩]⟩,
   ⟨0x03000020, 16, 0x10000, 1, 0, [⟨0, 8, .ro, 0⟩, ⟨8, 8, .ro, 0⟩]⟩,
   ⟨0x03000028, 16, 0x10000, 1, 0, [⟨0, 16, .rc, 0⟩, ⟨16, 16, .rc, 0⟩, ⟨32, 16, .rc, 0⟩, ⟨48, 1, .w1s, 0⟩]⟩,
   ⟨0x03000030, 16, 0x10000, 1, 0, [⟨0, 32, .rc, 0⟩]⟩,
   ⟨0x03000038, 16, 0x10000, 1, 0, [⟨0, 64, .rc, 0⟩]⟩,
   ⟨0x03000040, 16, 0x10000, 1, 0, [⟨0, 16, .rc, 0⟩]⟩,
   ⟨0x03000100, 16, 0x10000, 32, 8, [⟨0, 8, .ro, 0⟩, ⟨8, 8, .ro, 0⟩, ⟨16, 16, .rc, 0⟩]⟩,
   ⟨0x03100000, 8, 0x1000, 1, 0, [⟨0, 8, .rw, 20⟩, ⟨8, 8, .rw, 12⟩, ⟨16, 8, .rw, 4⟩, ⟨24, 8, .rw, 8⟩]⟩,
   ⟨0x03100008, 8, 0x1000, 1, 0, [⟨0, 1, .ro, 0⟩, ⟨1, 1, .ro, 0⟩, ⟨2, 1, .ro, 0⟩, ⟨3, 1, .ro, 0⟩, ⟨4, 1, .w1c, 0⟩, ⟨5, 1, .ro, 0⟩, ⟨8, 8, .ro, 0⟩, ⟨16, 8, .ro, 0⟩]⟩,
   ⟨0x03100010, 8, 0x1000, 2, 8, [⟨0, 16, .ro, 0⟩, ⟨16, 4, .ro, 0⟩, ⟨20, 12, .ro, 0⟩, ⟨32, 1, .ro, 0⟩]⟩,
   ⟨0x03100020, 8, 0x1000, 1, 0, [⟨0, 16, .rc, 0⟩, ⟨16, 16, .rc, 0⟩]⟩,
   ⟨0x03108000, 1, 0, 1, 0, [⟨0, 4, .ro, 0⟩, ⟨8, 8, .ro, 0⟩, ⟨16, 8, .ro, 0⟩, ⟨32, 16, .ro, 0⟩]⟩,
   ⟨0x03108008, 1, 0, 1, 0, [⟨0, 32, .rc, 0⟩, ⟨32, 32, .rc, 0⟩]⟩,
   ⟨0x01040000, 16, 0x100000, 1, 0, [⟨0, 1, .rw, 0⟩]⟩,
   ⟨0x01040008, 16, 0x100000, 1, 0, [⟨0, 48, .rc, 0⟩]⟩]

/-- NM_CFG (R345). -/
def NM_CFG.adr (i : Nat) : Nat := 0x03000000 + i * 0x10000
/-- NM_CFG.AGE_CAP. -/
def NM_CFG.AGE_CAP (i : Nat) : Fld := ⟨NM_CFG.adr i, 0, 8⟩
/-- NM_CFG.WR_HI. -/
def NM_CFG.WR_HI (i : Nat) : Fld := ⟨NM_CFG.adr i, 8, 8⟩
/-- NM_CFG.WR_LO. -/
def NM_CFG.WR_LO (i : Nat) : Fld := ⟨NM_CFG.adr i, 16, 8⟩
/-- NM_CFG.RH_THRESH. -/
def NM_CFG.RH_THRESH (i : Nat) : Fld := ⟨NM_CFG.adr i, 24, 8⟩
/-- NM_CFG.MARGIN_LIM. -/
def NM_CFG.MARGIN_LIM (i : Nat) : Fld := ⟨NM_CFG.adr i, 32, 16⟩
/-- NM_STAT (R345). -/
def NM_STAT.adr (i : Nat) : Nat := 0x03000008 + i * 0x10000
/-- NM_STAT.TRAINED. -/
def NM_STAT.TRAINED (i : Nat) : Fld := ⟨NM_STAT.adr i, 0, 1⟩
/-- NM_STAT.SELFREF. -/
def NM_STAT.SELFREF (i : Nat) : Fld := ⟨NM_STAT.adr i, 1, 1⟩
/-- NM_STAT.CAL_DEFER. -/
def NM_STAT.CAL_DEFER (i : Nat) : Fld := ⟨NM_STAT.adr i, 2, 1⟩
/-- NM_STAT.HOT. -/
def NM_STAT.HOT (i : Nat) : Fld := ⟨NM_STAT.adr i, 3, 1⟩
/-- NM_STAT.PARITY. -/
def NM_STAT.PARITY (i : Nat) : Fld := ⟨NM_STAT.adr i, 4, 1⟩
/-- NM_STAT.REPAIRED. -/
def NM_STAT.REPAIRED (i : Nat) : Fld := ⟨NM_STAT.adr i, 5, 1⟩
/-- NM_STAT.SPARES. -/
def NM_STAT.SPARES (i : Nat) : Fld := ⟨NM_STAT.adr i, 8, 8⟩
/-- NM_STAT.TRAIN_FAIL. -/
def NM_STAT.TRAIN_FAIL (i : Nat) : Fld := ⟨NM_STAT.adr i, 16, 8⟩
/-- NM_ID (R345). -/
def NM_ID.adr (i0 : Nat) (i1 : Nat) : Nat := 0x03000010 + i0 * 0x10000 + i1 * 8
/-- NM_ID.ID. -/
def NM_ID.ID (i0 : Nat) (i1 : Nat) : Fld := ⟨NM_ID.adr i0 i1, 0, 64⟩
/-- NM_TEMP (R345). -/
def NM_TEMP.adr (i : Nat) : Nat := 0x03000020 + i * 0x10000
/-- NM_TEMP.TEMP. -/
def NM_TEMP.TEMP (i : Nat) : Fld := ⟨NM_TEMP.adr i, 0, 8⟩
/-- NM_TEMP.WLTEMP. -/
def NM_TEMP.WLTEMP (i : Nat) : Fld := ⟨NM_TEMP.adr i, 8, 8⟩
/-- NM_CAL (R345). -/
def NM_CAL.adr (i : Nat) : Nat := 0x03000028 + i * 0x10000
/-- NM_CAL.SLOTS. -/
def NM_CAL.SLOTS (i : Nat) : Fld := ⟨NM_CAL.adr i, 0, 16⟩
/-- NM_CAL.DEFERRED. -/
def NM_CAL.DEFERRED (i : Nat) : Fld := ⟨NM_CAL.adr i, 16, 16⟩
/-- NM_CAL.WL_RUNS. -/
def NM_CAL.WL_RUNS (i : Nat) : Fld := ⟨NM_CAL.adr i, 32, 16⟩
/-- NM_CAL.WL_NOW. -/
def NM_CAL.WL_NOW (i : Nat) : Fld := ⟨NM_CAL.adr i, 48, 1⟩
/-- NM_RH (R345). -/
def NM_RH.adr (i : Nat) : Nat := 0x03000030 + i * 0x10000
/-- NM_RH.COUNT. -/
def NM_RH.COUNT (i : Nat) : Fld := ⟨NM_RH.adr i, 0, 32⟩
/-- NM_LINES (R345). -/
def NM_LINES.adr (i : Nat) : Nat := 0x03000038 + i * 0x10000
/-- NM_LINES.COUNT. -/
def NM_LINES.COUNT (i : Nat) : Fld := ⟨NM_LINES.adr i, 0, 64⟩
/-- NM_PARITY (R345). -/
def NM_PARITY.adr (i : Nat) : Nat := 0x03000040 + i * 0x10000
/-- NM_PARITY.COUNT. -/
def NM_PARITY.COUNT (i : Nat) : Fld := ⟨NM_PARITY.adr i, 0, 16⟩
/-- NM_MARGIN (R345). -/
def NM_MARGIN.adr (i0 : Nat) (i1 : Nat) : Nat := 0x03000100 + i0 * 0x10000 + i1 * 8
/-- NM_MARGIN.EYE_MIN. -/
def NM_MARGIN.EYE_MIN (i0 : Nat) (i1 : Nat) : Fld := ⟨NM_MARGIN.adr i0 i1, 0, 8⟩
/-- NM_MARGIN.LANE. -/
def NM_MARGIN.LANE (i0 : Nat) (i1 : Nat) : Fld := ⟨NM_MARGIN.adr i0 i1, 8, 8⟩
/-- NM_MARGIN.CORR. -/
def NM_MARGIN.CORR (i0 : Nat) (i1 : Nat) : Fld := ⟨NM_MARGIN.adr i0 i1, 16, 16⟩
/-- CC_CFG (R345). -/
def CC_CFG.adr (i : Nat) : Nat := 0x03100000 + i * 0x1000
/-- CC_CFG.AGE_CAP. -/
def CC_CFG.AGE_CAP (i : Nat) : Fld := ⟨CC_CFG.adr i, 0, 8⟩
/-- CC_CFG.WR_HI. -/
def CC_CFG.WR_HI (i : Nat) : Fld := ⟨CC_CFG.adr i, 8, 8⟩
/-- CC_CFG.WR_LO. -/
def CC_CFG.WR_LO (i : Nat) : Fld := ⟨CC_CFG.adr i, 16, 8⟩
/-- CC_CFG.RH_THRESH. -/
def CC_CFG.RH_THRESH (i : Nat) : Fld := ⟨CC_CFG.adr i, 24, 8⟩
/-- CC_STAT (R345). -/
def CC_STAT.adr (i : Nat) : Nat := 0x03100008 + i * 0x1000
/-- CC_STAT.TRAINED. -/
def CC_STAT.TRAINED (i : Nat) : Fld := ⟨CC_STAT.adr i, 0, 1⟩
/-- CC_STAT.SELFREF. -/
def CC_STAT.SELFREF (i : Nat) : Fld := ⟨CC_STAT.adr i, 1, 1⟩
/-- CC_STAT.CAL_DEFER. -/
def CC_STAT.CAL_DEFER (i : Nat) : Fld := ⟨CC_STAT.adr i, 2, 1⟩
/-- CC_STAT.HOT. -/
def CC_STAT.HOT (i : Nat) : Fld := ⟨CC_STAT.adr i, 3, 1⟩
/-- CC_STAT.PARITY. -/
def CC_STAT.PARITY (i : Nat) : Fld := ⟨CC_STAT.adr i, 4, 1⟩
/-- CC_STAT.REPAIRED. -/
def CC_STAT.REPAIRED (i : Nat) : Fld := ⟨CC_STAT.adr i, 5, 1⟩
/-- CC_STAT.SPARES. -/
def CC_STAT.SPARES (i : Nat) : Fld := ⟨CC_STAT.adr i, 8, 8⟩
/-- CC_STAT.TRAIN_FAIL. -/
def CC_STAT.TRAIN_FAIL (i : Nat) : Fld := ⟨CC_STAT.adr i, 16, 8⟩
/-- CC_DIMM (R345). -/
def CC_DIMM.adr (i0 : Nat) (i1 : Nat) : Nat := 0x03100010 + i0 * 0x1000 + i1 * 8
/-- CC_DIMM.GIB. -/
def CC_DIMM.GIB (i0 : Nat) (i1 : Nat) : Fld := ⟨CC_DIMM.adr i0 i1, 0, 16⟩
/-- CC_DIMM.RANKS. -/
def CC_DIMM.RANKS (i0 : Nat) (i1 : Nat) : Fld := ⟨CC_DIMM.adr i0 i1, 16, 4⟩
/-- CC_DIMM.RATE4. -/
def CC_DIMM.RATE4 (i0 : Nat) (i1 : Nat) : Fld := ⟨CC_DIMM.adr i0 i1, 20, 12⟩
/-- CC_DIMM.PRESENT. -/
def CC_DIMM.PRESENT (i0 : Nat) (i1 : Nat) : Fld := ⟨CC_DIMM.adr i0 i1, 32, 1⟩
/-- CC_CAL (R345). -/
def CC_CAL.adr (i : Nat) : Nat := 0x03100020 + i * 0x1000
/-- CC_CAL.SLOTS. -/
def CC_CAL.SLOTS (i : Nat) : Fld := ⟨CC_CAL.adr i, 0, 16⟩
/-- CC_CAL.DEFERRED. -/
def CC_CAL.DEFERRED (i : Nat) : Fld := ⟨CC_CAL.adr i, 16, 16⟩
/-- CELLAR_POP (R345). -/
def CELLAR_POP.adr : Nat := 0x03108000
/-- CELLAR_POP.POP. -/
def CELLAR_POP.POP : Fld := ⟨CELLAR_POP.adr, 0, 4⟩
/-- CELLAR_POP.USABLE. -/
def CELLAR_POP.USABLE : Fld := ⟨CELLAR_POP.adr, 8, 8⟩
/-- CELLAR_POP.DISABLED. -/
def CELLAR_POP.DISABLED : Fld := ⟨CELLAR_POP.adr, 16, 8⟩
/-- CELLAR_POP.RATE. -/
def CELLAR_POP.RATE : Fld := ⟨CELLAR_POP.adr, 32, 16⟩
/-- MEM_IL_FALLBACK (R345). -/
def MEM_IL_FALLBACK.adr : Nat := 0x03108008
/-- MEM_IL_FALLBACK.NEAR. -/
def MEM_IL_FALLBACK.NEAR : Fld := ⟨MEM_IL_FALLBACK.adr, 0, 32⟩
/-- MEM_IL_FALLBACK.CELLAR. -/
def MEM_IL_FALLBACK.CELLAR : Fld := ⟨MEM_IL_FALLBACK.adr, 32, 32⟩
/-- SPAD_CFG (R345). -/
def SPAD_CFG.adr (i : Nat) : Nat := 0x01040000 + i * 0x100000
/-- SPAD_CFG.TRACE. -/
def SPAD_CFG.TRACE (i : Nat) : Fld := ⟨SPAD_CFG.adr i, 0, 1⟩
/-- SPAD_DMA_WAIT (R345). -/
def SPAD_DMA_WAIT.adr (i : Nat) : Nat := 0x01040008 + i * 0x100000
/-- SPAD_DMA_WAIT.CYCLES. -/
def SPAD_DMA_WAIT.CYCLES (i : Nat) : Fld := ⟨SPAD_DMA_WAIT.adr i, 0, 48⟩

/-- The registers of R375 (10_data_integrity.md). -/
def regsR375 : List RegRow :=
  [⟨0x05200000, 1, 0, 1, 0, [⟨0, 16, .rw, 16⟩, ⟨16, 1, .rw, 0⟩]⟩,
   ⟨0x05200008, 1, 0, 1, 0, [⟨0, 32, .ro, 0⟩]⟩,
   ⟨0x05200100, 32, 8, 1, 0, [⟨0, 16, .rw, 0⟩, ⟨16, 16, .rw, 0⟩]⟩,
   ⟨0x05200200, 32, 8, 1, 0, [⟨0, 16, .ro, 0⟩, ⟨16, 1, .w1c, 0⟩, ⟨32, 16, .rc, 0⟩]⟩,
   ⟨0x05200300, 2, 0x10, 1, 0, [⟨0, 8, .ro, 0⟩, ⟨8, 8, .ro, 0⟩, ⟨16, 8, .ro, 0⟩, ⟨24, 1, .w1c, 0⟩, ⟨25, 1, .ro, 0⟩, ⟨26, 1, .ro, 0⟩]⟩,
   ⟨0x05200308, 2, 0x10, 1, 0, [⟨0, 43, .ro, 0⟩]⟩,
   ⟨0x05200340, 8, 8, 1, 0, [⟨0, 1, .ro, 0⟩, ⟨1, 4, .ro, 0⟩, ⟨5, 3, .ro, 0⟩, ⟨16, 1, .ro, 0⟩, ⟨17, 4, .ro, 0⟩, ⟨21, 3, .ro, 0⟩]⟩,
   ⟨0x05200400, 1, 0, 1, 0, [⟨0, 8, .rw, 0⟩, ⟨8, 8, .rw, 0⟩]⟩,
   ⟨0x05200408, 1, 0, 1, 0, [⟨0, 1, .w1s, 0⟩, ⟨1, 1, .wo, 0⟩, ⟨2, 3, .rw, 0⟩, ⟨5, 1, .rw, 0⟩, ⟨6, 4, .rw, 0⟩, ⟨10, 5, .rw, 0⟩]⟩,
   ⟨0x05200410, 1, 0, 1, 0, [⟨0, 64, .rw, 0⟩]⟩,
   ⟨0x05200418, 1, 0, 1, 0, [⟨0, 64, .rw, 0⟩]⟩,
   ⟨0x05200420, 1, 0, 1, 0, [⟨0, 1, .w1c, 0⟩, ⟨1, 1, .w1c, 0⟩, ⟨2, 1, .ro, 0⟩, ⟨32, 16, .rc, 0⟩]⟩,
   ⟨0x05200500, 1, 0, 1, 0, [⟨0, 2, .rw, 0⟩, ⟨2, 1, .rw, 0⟩, ⟨3, 1, .w1s, 0⟩, ⟨4, 1, .w1c, 0⟩]⟩,
   ⟨0x05200508, 1, 0, 1, 0, [⟨0, 43, .rw, 0⟩]⟩,
   ⟨0x05200510, 8, 8, 1, 0, [⟨0, 64, .rw, 0⟩]⟩,
   ⟨0x05200550, 2, 8, 1, 0, [⟨0, 64, .rw, 0⟩]⟩,
   ⟨0x05200600, 1, 0, 1, 0, [⟨0, 1, .rw, 1⟩, ⟨8, 8, .rw, 24⟩, ⟨16, 8, .rw, 24⟩]⟩,
   ⟨0x05200608, 1, 0, 1, 0, [⟨0, 16, .ro, 0⟩, ⟨16, 16, .ro, 0⟩, ⟨32, 1, .ro, 0⟩, ⟨33, 1, .ro, 0⟩]⟩]

/-- ERR_CTL (R375). -/
def ERR_CTL.adr : Nat := 0x05200000
/-- ERR_CTL.MARK_AT. -/
def ERR_CTL.MARK_AT : Fld := ⟨ERR_CTL.adr, 0, 16⟩
/-- ERR_CTL.RAW_EN. -/
def ERR_CTL.RAW_EN : Fld := ⟨ERR_CTL.adr, 16, 1⟩
/-- ERR_SUM (R375). -/
def ERR_SUM.adr : Nat := 0x05200008
/-- ERR_SUM.OVF. -/
def ERR_SUM.OVF : Fld := ⟨ERR_SUM.adr, 0, 32⟩
/-- BKT_CFG (R375). -/
def BKT_CFG.adr (i : Nat) : Nat := 0x05200100 + i * 8
/-- BKT_CFG.THRESH. -/
def BKT_CFG.THRESH (i : Nat) : Fld := ⟨BKT_CFG.adr i, 0, 16⟩
/-- BKT_CFG.LEAK_MS. -/
def BKT_CFG.LEAK_MS (i : Nat) : Fld := ⟨BKT_CFG.adr i, 16, 16⟩
/-- BKT_STAT (R375). -/
def BKT_STAT.adr (i : Nat) : Nat := 0x05200200 + i * 8
/-- BKT_STAT.COUNT. -/
def BKT_STAT.COUNT (i : Nat) : Fld := ⟨BKT_STAT.adr i, 0, 16⟩
/-- BKT_STAT.OVF. -/
def BKT_STAT.OVF (i : Nat) : Fld := ⟨BKT_STAT.adr i, 16, 1⟩
/-- BKT_STAT.OVFS. -/
def BKT_STAT.OVFS (i : Nat) : Fld := ⟨BKT_STAT.adr i, 32, 16⟩
/-- ERR_INFO (R375). -/
def ERR_INFO.adr (i : Nat) : Nat := 0x05200300 + i * 0x10
/-- ERR_INFO.BUCKET. -/
def ERR_INFO.BUCKET (i : Nat) : Fld := ⟨ERR_INFO.adr i, 0, 8⟩
/-- ERR_INFO.INST. -/
def ERR_INFO.INST (i : Nat) : Fld := ⟨ERR_INFO.adr i, 8, 8⟩
/-- ERR_INFO.SYND. -/
def ERR_INFO.SYND (i : Nat) : Fld := ⟨ERR_INFO.adr i, 16, 8⟩
/-- ERR_INFO.VALID. -/
def ERR_INFO.VALID (i : Nat) : Fld := ⟨ERR_INFO.adr i, 24, 1⟩
/-- ERR_INFO.MARKING. -/
def ERR_INFO.MARKING (i : Nat) : Fld := ⟨ERR_INFO.adr i, 25, 1⟩
/-- ERR_INFO.INJECTED. -/
def ERR_INFO.INJECTED (i : Nat) : Fld := ⟨ERR_INFO.adr i, 26, 1⟩
/-- ERR_ADDR (R375). -/
def ERR_ADDR.adr (i : Nat) : Nat := 0x05200308 + i * 0x10
/-- ERR_ADDR.ADDR. -/
def ERR_ADDR.ADDR (i : Nat) : Fld := ⟨ERR_ADDR.adr i, 0, 43⟩
/-- CEL_MARK (R375). -/
def CEL_MARK.adr (i : Nat) : Nat := 0x05200340 + i * 8
/-- CEL_MARK.VALID0. -/
def CEL_MARK.VALID0 (i : Nat) : Fld := ⟨CEL_MARK.adr i, 0, 1⟩
/-- CEL_MARK.DEV0. -/
def CEL_MARK.DEV0 (i : Nat) : Fld := ⟨CEL_MARK.adr i, 1, 4⟩
/-- CEL_MARK.RANK0. -/
def CEL_MARK.RANK0 (i : Nat) : Fld := ⟨CEL_MARK.adr i, 5, 3⟩
/-- CEL_MARK.VALID1. -/
def CEL_MARK.VALID1 (i : Nat) : Fld := ⟨CEL_MARK.adr i, 16, 1⟩
/-- CEL_MARK.DEV1. -/
def CEL_MARK.DEV1 (i : Nat) : Fld := ⟨CEL_MARK.adr i, 17, 4⟩
/-- CEL_MARK.RANK1. -/
def CEL_MARK.RANK1 (i : Nat) : Fld := ⟨CEL_MARK.adr i, 21, 3⟩
/-- INJ_SEL (R375). -/
def INJ_SEL.adr : Nat := 0x05200400
/-- INJ_SEL.POINT. -/
def INJ_SEL.POINT : Fld := ⟨INJ_SEL.adr, 0, 8⟩
/-- INJ_SEL.INST. -/
def INJ_SEL.INST : Fld := ⟨INJ_SEL.adr, 8, 8⟩
/-- INJ_CTL (R375). -/
def INJ_CTL.adr : Nat := 0x05200408
/-- INJ_CTL.ARM. -/
def INJ_CTL.ARM : Fld := ⟨INJ_CTL.adr, 0, 1⟩
/-- INJ_CTL.DISARM. -/
def INJ_CTL.DISARM : Fld := ⟨INJ_CTL.adr, 1, 1⟩
/-- INJ_CTL.WORD. -/
def INJ_CTL.WORD : Fld := ⟨INJ_CTL.adr, 2, 3⟩
/-- INJ_CTL.DEV_EN. -/
def INJ_CTL.DEV_EN : Fld := ⟨INJ_CTL.adr, 5, 1⟩
/-- INJ_CTL.DEV. -/
def INJ_CTL.DEV : Fld := ⟨INJ_CTL.adr, 6, 4⟩
/-- INJ_CTL.BANK. -/
def INJ_CTL.BANK : Fld := ⟨INJ_CTL.adr, 10, 5⟩
/-- INJ_MASK_D (R375). -/
def INJ_MASK_D.adr : Nat := 0x05200410
/-- INJ_MASK_D.MASK. -/
def INJ_MASK_D.MASK : Fld := ⟨INJ_MASK_D.adr, 0, 64⟩
/-- INJ_MASK_C (R375). -/
def INJ_MASK_C.adr : Nat := 0x05200418
/-- INJ_MASK_C.MASK. -/
def INJ_MASK_C.MASK : Fld := ⟨INJ_MASK_C.adr, 0, 64⟩
/-- INJ_STAT (R375). -/
def INJ_STAT.adr : Nat := 0x05200420
/-- INJ_STAT.FIRED. -/
def INJ_STAT.FIRED : Fld := ⟨INJ_STAT.adr, 0, 1⟩
/-- INJ_STAT.REFUSED. -/
def INJ_STAT.REFUSED : Fld := ⟨INJ_STAT.adr, 1, 1⟩
/-- INJ_STAT.ARMED. -/
def INJ_STAT.ARMED : Fld := ⟨INJ_STAT.adr, 2, 1⟩
/-- INJ_STAT.COUNT. -/
def INJ_STAT.COUNT : Fld := ⟨INJ_STAT.adr, 32, 16⟩
/-- RAW_CTL (R375). -/
def RAW_CTL.adr : Nat := 0x05200500
/-- RAW_CTL.TARGET. -/
def RAW_CTL.TARGET : Fld := ⟨RAW_CTL.adr, 0, 2⟩
/-- RAW_CTL.WRITE. -/
def RAW_CTL.WRITE : Fld := ⟨RAW_CTL.adr, 2, 1⟩
/-- RAW_CTL.GO. -/
def RAW_CTL.GO : Fld := ⟨RAW_CTL.adr, 3, 1⟩
/-- RAW_CTL.ERR. -/
def RAW_CTL.ERR : Fld := ⟨RAW_CTL.adr, 4, 1⟩
/-- RAW_ADDR (R375). -/
def RAW_ADDR.adr : Nat := 0x05200508
/-- RAW_ADDR.ADDR. -/
def RAW_ADDR.ADDR : Fld := ⟨RAW_ADDR.adr, 0, 43⟩
/-- RAW_DATA (R375). -/
def RAW_DATA.adr (i : Nat) : Nat := 0x05200510 + i * 8
/-- RAW_DATA.DATA. -/
def RAW_DATA.DATA (i : Nat) : Fld := ⟨RAW_DATA.adr i, 0, 64⟩
/-- RAW_CHECK (R375). -/
def RAW_CHECK.adr (i : Nat) : Nat := 0x05200550 + i * 8
/-- RAW_CHECK.CHECK. -/
def RAW_CHECK.CHECK (i : Nat) : Fld := ⟨RAW_CHECK.adr i, 0, 64⟩
/-- SCRUB_CFG (R375). -/
def SCRUB_CFG.adr : Nat := 0x05200600
/-- SCRUB_CFG.EN. -/
def SCRUB_CFG.EN : Fld := ⟨SCRUB_CFG.adr, 0, 1⟩
/-- SCRUB_CFG.NEAR_H. -/
def SCRUB_CFG.NEAR_H : Fld := ⟨SCRUB_CFG.adr, 8, 8⟩
/-- SCRUB_CFG.CELLAR_H. -/
def SCRUB_CFG.CELLAR_H : Fld := ⟨SCRUB_CFG.adr, 16, 8⟩
/-- SCRUB_STAT (R375). -/
def SCRUB_STAT.adr : Nat := 0x05200608
/-- SCRUB_STAT.NEAR_PASSES. -/
def SCRUB_STAT.NEAR_PASSES : Fld := ⟨SCRUB_STAT.adr, 0, 16⟩
/-- SCRUB_STAT.CELLAR_PASSES. -/
def SCRUB_STAT.CELLAR_PASSES : Fld := ⟨SCRUB_STAT.adr, 16, 16⟩
/-- SCRUB_STAT.PAUSED. -/
def SCRUB_STAT.PAUSED : Fld := ⟨SCRUB_STAT.adr, 32, 1⟩
/-- SCRUB_STAT.FAST. -/
def SCRUB_STAT.FAST : Fld := ⟨SCRUB_STAT.adr, 33, 1⟩

/-- The registers of R397 (11_pipeline_and_exceptions.md). -/
def regsR397 : List RegRow :=
  [⟨0x01050000, 16, 0x100000, 2, 0x100, [⟨0, 2, .wo, 0⟩]⟩,
   ⟨0x01050008, 16, 0x100000, 2, 0x100, [⟨0, 2, .ro, 0⟩, ⟨4, 4, .ro, 0⟩, ⟨8, 8, .ro, 0⟩, ⟨16, 1, .w1c, 0⟩]⟩,
   ⟨0x01050010, 16, 0x100000, 2, 0x100, [⟨0, 4, .wo, 0⟩]⟩]

/-- CP_CTL (R397). -/
def CP_CTL.adr (i0 : Nat) (i1 : Nat) : Nat := 0x01050000 + i0 * 0x100000 + i1 * 0x100
/-- CP_CTL.CMD. -/
def CP_CTL.CMD (i0 : Nat) (i1 : Nat) : Fld := ⟨CP_CTL.adr i0 i1, 0, 2⟩
/-- CP_STAT (R397). -/
def CP_STAT.adr (i0 : Nat) (i1 : Nat) : Nat := 0x01050008 + i0 * 0x100000 + i1 * 0x100
/-- CP_STAT.STATE. -/
def CP_STAT.STATE (i0 : Nat) (i1 : Nat) : Fld := ⟨CP_STAT.adr i0 i1, 0, 2⟩
/-- CP_STAT.LCAUSE. -/
def CP_STAT.LCAUSE (i0 : Nat) (i1 : Nat) : Fld := ⟨CP_STAT.adr i0 i1, 4, 4⟩
/-- CP_STAT.LCODE. -/
def CP_STAT.LCODE (i0 : Nat) (i1 : Nat) : Fld := ⟨CP_STAT.adr i0 i1, 8, 8⟩
/-- CP_STAT.WDG_RESET. -/
def CP_STAT.WDG_RESET (i0 : Nat) (i1 : Nat) : Fld := ⟨CP_STAT.adr i0 i1, 16, 1⟩
/-- CP_DOORBELL (R397). -/
def CP_DOORBELL.adr (i0 : Nat) (i1 : Nat) : Nat := 0x01050010 + i0 * 0x100000 + i1 * 0x100
/-- CP_DOORBELL.RING. -/
def CP_DOORBELL.RING (i0 : Nat) (i1 : Nat) : Fld := ⟨CP_DOORBELL.adr i0 i1, 0, 4⟩

/-- The registers of R418 (12_fabric_and_events.md). -/
def regsR418 : List RegRow :=
  [⟨0x05100000, 34, 0x20, 3, 8, [⟨0, 64, .rw, 0⟩]⟩,
   ⟨0x05101000, 1, 0, 1, 0, [⟨0, 16, .rw, 512⟩]⟩,
   ⟨0x05101008, 1, 0, 1, 0, [⟨0, 24, .rw, 65536⟩]⟩,
   ⟨0x05101010, 2, 8, 1, 0, [⟨0, 32, .ro, 0⟩, ⟨32, 6, .ro, 0⟩, ⟨38, 1, .ro, 0⟩, ⟨39, 1, .w1c, 0⟩, ⟨48, 16, .rc, 0⟩]⟩]

/-- FAB_PRIO (R418). -/
def FAB_PRIO.adr (i0 : Nat) (i1 : Nat) : Nat := 0x05100000 + i0 * 0x20 + i1 * 8
/-- FAB_PRIO.PRIO. -/
def FAB_PRIO.PRIO (i0 : Nat) (i1 : Nat) : Fld := ⟨FAB_PRIO.adr i0 i1, 0, 64⟩
/-- FAB_AGE (R418). -/
def FAB_AGE.adr : Nat := 0x05101000
/-- FAB_AGE.CYC. -/
def FAB_AGE.CYC : Fld := ⟨FAB_AGE.adr, 0, 16⟩
/-- FAB_TIMEOUT (R418). -/
def FAB_TIMEOUT.adr : Nat := 0x05101008
/-- FAB_TIMEOUT.CYC. -/
def FAB_TIMEOUT.CYC : Fld := ⟨FAB_TIMEOUT.adr, 0, 24⟩
/-- FAB_ERR (R418). -/
def FAB_ERR.adr (i : Nat) : Nat := 0x05101010 + i * 8
/-- FAB_ERR.ADDR. -/
def FAB_ERR.ADDR (i : Nat) : Fld := ⟨FAB_ERR.adr i, 0, 32⟩
/-- FAB_ERR.MASTER. -/
def FAB_ERR.MASTER (i : Nat) : Fld := ⟨FAB_ERR.adr i, 32, 6⟩
/-- FAB_ERR.WRITE. -/
def FAB_ERR.WRITE (i : Nat) : Fld := ⟨FAB_ERR.adr i, 38, 1⟩
/-- FAB_ERR.VALID. -/
def FAB_ERR.VALID (i : Nat) : Fld := ⟨FAB_ERR.adr i, 39, 1⟩
/-- FAB_ERR.COUNT. -/
def FAB_ERR.COUNT (i : Nat) : Fld := ⟨FAB_ERR.adr i, 48, 16⟩

/-- The registers of R419 (12_fabric_and_events.md). -/
def regsR419 : List RegRow :=
  [⟨0x0F000000, 1, 0, 1, 0, [⟨0, 16, .ro, 0x4816⟩, ⟨16, 8, .ro, Config.fusedRev.toNat⟩, ⟨24, 8, .ro, Config.fusedCeil⟩]⟩]

/-- ID_PART (R419). -/
def ID_PART.adr : Nat := 0x0F000000
/-- ID_PART.PART. -/
def ID_PART.PART : Fld := ⟨ID_PART.adr, 0, 16⟩
/-- ID_PART.REV. -/
def ID_PART.REV : Fld := ⟨ID_PART.adr, 16, 8⟩
/-- ID_PART.CEIL. -/
def ID_PART.CEIL : Fld := ⟨ID_PART.adr, 24, 8⟩

/-- The registers of R434 (12_fabric_and_events.md). -/
def regsR434 : List RegRow :=
  [⟨0x05000000, 1, 0, 1, 0, [⟨0, 16, .rc, 0⟩, ⟨16, 16, .rc, 0⟩, ⟨32, 8, .w1c, 0⟩]⟩,
   ⟨0x05000008, 1, 0, 1, 0, [⟨0, 64, .wo, 0⟩]⟩,
   ⟨0x05000010, 1, 0, 1, 0, [⟨0, 1, .w1s, 0⟩, ⟨8, 2, .ro, 0⟩, ⟨16, 8, .ro, 0⟩, ⟨32, 16, .ro, 0⟩]⟩,
   ⟨0x05000018, 1, 0, 1, 0, [⟨0, 32, .rw, 0⟩]⟩,
   ⟨0x05000020, 1, 0, 1, 0, [⟨0, 3, .rw, 1⟩]⟩,
   ⟨0x05000100, 8, 8, 1, 0, [⟨0, 1, .rw, 0⟩, ⟨16, 16, .rw, 0xFFFF⟩, ⟨32, 16, .rw, 0xFFFF⟩]⟩,
   ⟨0x05001000, 64, 16, 1, 0, [⟨0, 16, .rw, 0⟩, ⟨16, 16, .rw, 32⟩, ⟨32, 5, .rw, 16⟩]⟩,
   ⟨0x05001008, 64, 16, 1, 0, [⟨0, 16, .rw, 0xFFFF⟩, ⟨16, 16, .rw, 0xFFFF⟩, ⟨32, 16, .rw, 0xFFFF⟩, ⟨48, 16, .rw, 0xFFFF⟩]⟩,
   ⟨0x05002000, 64, 8, 1, 0, [⟨0, 16, .rc, 0⟩, ⟨16, 16, .rc, 0⟩, ⟨32, 16, .rc, 0⟩, ⟨48, 1, .ro, 0⟩]⟩,
   ⟨0x05004000, 1024, 8, 1, 0, [⟨0, 16, .rw, 32⟩]⟩,
   ⟨0x05008000, 8385, 8, 1, 0, [⟨0, 16, .rw, 0xFFFF⟩, ⟨16, 1, .ro, 0⟩]⟩,
   ⟨0x05030000, 8, 8, 1, 0, [⟨0, 32, .ro, 0⟩, ⟨32, 32, .ro, 0⟩]⟩]

/-- EVT_STAT (R434). -/
def EVT_STAT.adr : Nat := 0x05000000
/-- EVT_STAT.LOST. -/
def EVT_STAT.LOST : Fld := ⟨EVT_STAT.adr, 0, 16⟩
/-- EVT_STAT.REFRACT. -/
def EVT_STAT.REFRACT : Fld := ⟨EVT_STAT.adr, 16, 16⟩
/-- EVT_STAT.TSC_NEW. -/
def EVT_STAT.TSC_NEW : Fld := ⟨EVT_STAT.adr, 32, 8⟩
/-- EVT_SWTRIG (R434). -/
def EVT_SWTRIG.adr : Nat := 0x05000008
/-- EVT_SWTRIG.SW. -/
def EVT_SWTRIG.SW : Fld := ⟨EVT_SWTRIG.adr, 0, 64⟩
/-- EVT_COMMIT (R434). -/
def EVT_COMMIT.adr : Nat := 0x05000010
/-- EVT_COMMIT.GO. -/
def EVT_COMMIT.GO : Fld := ⟨EVT_COMMIT.adr, 0, 1⟩
/-- EVT_COMMIT.STATE. -/
def EVT_COMMIT.STATE : Fld := ⟨EVT_COMMIT.adr, 8, 2⟩
/-- EVT_COMMIT.RESULT. -/
def EVT_COMMIT.RESULT : Fld := ⟨EVT_COMMIT.adr, 16, 8⟩
/-- EVT_COMMIT.AT. -/
def EVT_COMMIT.AT : Fld := ⟨EVT_COMMIT.adr, 32, 16⟩
/-- EVT_STRIPGATE (R434). -/
def EVT_STRIPGATE.adr : Nat := 0x05000018
/-- EVT_STRIPGATE.GATE. -/
def EVT_STRIPGATE.GATE : Fld := ⟨EVT_STRIPGATE.adr, 0, 32⟩
/-- EVT_SHEDREQ (R434). -/
def EVT_SHEDREQ.adr : Nat := 0x05000020
/-- EVT_SHEDREQ.LEVEL. -/
def EVT_SHEDREQ.LEVEL : Fld := ⟨EVT_SHEDREQ.adr, 0, 3⟩
/-- EVT_GRP (R434). -/
def EVT_GRP.adr (i : Nat) : Nat := 0x05000100 + i * 8
/-- EVT_GRP.EN. -/
def EVT_GRP.EN (i : Nat) : Fld := ⟨EVT_GRP.adr i, 0, 1⟩
/-- EVT_GRP.ENABLE_SRC. -/
def EVT_GRP.ENABLE_SRC (i : Nat) : Fld := ⟨EVT_GRP.adr i, 16, 16⟩
/-- EVT_GRP.DISABLE_SRC. -/
def EVT_GRP.DISABLE_SRC (i : Nat) : Fld := ⟨EVT_GRP.adr i, 32, 16⟩
/-- EVT_CH_CFG (R434). -/
def EVT_CH_CFG.adr (i : Nat) : Nat := 0x05001000 + i * 16
/-- EVT_CH_CFG.RATE_GATE_NS. -/
def EVT_CH_CFG.RATE_GATE_NS (i : Nat) : Fld := ⟨EVT_CH_CFG.adr i, 0, 16⟩
/-- EVT_CH_CFG.REFRACT_NS. -/
def EVT_CH_CFG.REFRACT_NS (i : Nat) : Fld := ⟨EVT_CH_CFG.adr i, 16, 16⟩
/-- EVT_CH_CFG.OWNER. -/
def EVT_CH_CFG.OWNER (i : Nat) : Fld := ⟨EVT_CH_CFG.adr i, 32, 5⟩
/-- EVT_CH_IN (R434). -/
def EVT_CH_IN.adr (i : Nat) : Nat := 0x05001008 + i * 16
/-- EVT_CH_IN.IN0. -/
def EVT_CH_IN.IN0 (i : Nat) : Fld := ⟨EVT_CH_IN.adr i, 0, 16⟩
/-- EVT_CH_IN.IN1. -/
def EVT_CH_IN.IN1 (i : Nat) : Fld := ⟨EVT_CH_IN.adr i, 16, 16⟩
/-- EVT_CH_IN.IN2. -/
def EVT_CH_IN.IN2 (i : Nat) : Fld := ⟨EVT_CH_IN.adr i, 32, 16⟩
/-- EVT_CH_IN.IN3. -/
def EVT_CH_IN.IN3 (i : Nat) : Fld := ⟨EVT_CH_IN.adr i, 48, 16⟩
/-- EVT_CH_STAT (R434). -/
def EVT_CH_STAT.adr (i : Nat) : Nat := 0x05002000 + i * 8
/-- EVT_CH_STAT.DELIVERED. -/
def EVT_CH_STAT.DELIVERED (i : Nat) : Fld := ⟨EVT_CH_STAT.adr i, 0, 16⟩
/-- EVT_CH_STAT.COINCIDENT. -/
def EVT_CH_STAT.COINCIDENT (i : Nat) : Fld := ⟨EVT_CH_STAT.adr i, 16, 16⟩
/-- EVT_CH_STAT.DROPPED. -/
def EVT_CH_STAT.DROPPED (i : Nat) : Fld := ⟨EVT_CH_STAT.adr i, 32, 16⟩
/-- EVT_CH_STAT.HELD. -/
def EVT_CH_STAT.HELD (i : Nat) : Fld := ⟨EVT_CH_STAT.adr i, 48, 1⟩
/-- EVT_PROD (R434). -/
def EVT_PROD.adr (i : Nat) : Nat := 0x05004000 + i * 8
/-- EVT_PROD.REFRACT_NS. -/
def EVT_PROD.REFRACT_NS (i : Nat) : Fld := ⟨EVT_PROD.adr i, 0, 16⟩
/-- EVT_SEL (R434). -/
def EVT_SEL.adr (i : Nat) : Nat := 0x05008000 + i * 8
/-- EVT_SEL.SOURCE. -/
def EVT_SEL.SOURCE (i : Nat) : Fld := ⟨EVT_SEL.adr i, 0, 16⟩
/-- EVT_SEL.PEND. -/
def EVT_SEL.PEND (i : Nat) : Fld := ⟨EVT_SEL.adr i, 16, 1⟩
/-- EVT_TSC (R434). -/
def EVT_TSC.adr (i : Nat) : Nat := 0x05030000 + i * 8
/-- EVT_TSC.NS. -/
def EVT_TSC.NS (i : Nat) : Fld := ⟨EVT_TSC.adr i, 0, 32⟩
/-- EVT_TSC.SEC. -/
def EVT_TSC.SEC (i : Nat) : Fld := ⟨EVT_TSC.adr i, 32, 32⟩

/-- The registers of R478 (13_ethernet_and_kwt.md). -/
def regsR478 : List RegRow :=
  [⟨0x04000000, 4, 0x100000, 1, 0, [⟨0, 3, .rw, 0⟩, ⟨3, 1, .rw, 1⟩, ⟨4, 1, .rw, 0⟩, ⟨5, 1, .rw, 0⟩, ⟨8, 8, .rw, 0⟩, ⟨16, 3, .rw, 0⟩, ⟨24, 14, .rw, 9216⟩, ⟨38, 6, .rw, 0⟩]⟩,
   ⟨0x04000008, 4, 0x100000, 1, 0, [⟨0, 8, .ro, 0⟩, ⟨8, 8, .ro, 0⟩, ⟨16, 8, .ro, 0⟩, ⟨24, 1, .w1c, 0⟩, ⟨32, 4, .ro, 0⟩, ⟨36, 1, .ro, 0⟩]⟩,
   ⟨0x04000010, 4, 0x100000, 1, 0, [⟨0, 48, .rw, 0⟩]⟩,
   ⟨0x04000018, 4, 0x100000, 1, 0, [⟨0, 32, .rw, 0⟩]⟩,
   ⟨0x04000020, 4, 0x100000, 2, 8, [⟨0, 64, .rw, 0⟩]⟩,
   ⟨0x04000030, 4, 0x100000, 1, 0, [⟨0, 16, .rw, 47110⟩]⟩,
   ⟨0x04000038, 4, 0x100000, 1, 0, [⟨0, 1, .rw, 0⟩, ⟨1, 1, .rw, 0⟩, ⟨2, 1, .rw, 0⟩, ⟨8, 32, .rw, 0⟩, ⟨40, 1, .ro, 0⟩]⟩,
   ⟨0x04000040, 4, 0x100000, 1, 0, [⟨0, 32, .rc, 0⟩, ⟨32, 32, .rc, 0⟩]⟩,
   ⟨0x04000048, 4, 0x100000, 1, 0, [⟨0, 16, .rc, 0⟩, ⟨16, 16, .rc, 0⟩, ⟨32, 16, .rc, 0⟩, ⟨48, 16, .rc, 0⟩]⟩]

/-- ETH_CFG (R478). -/
def ETH_CFG.adr (i : Nat) : Nat := 0x04000000 + i * 0x100000
/-- ETH_CFG.MODE. -/
def ETH_CFG.MODE (i : Nat) : Fld := ⟨ETH_CFG.adr i, 0, 3⟩
/-- ETH_CFG.FEC25. -/
def ETH_CFG.FEC25 (i : Nat) : Fld := ⟨ETH_CFG.adr i, 3, 1⟩
/-- ETH_CFG.EN. -/
def ETH_CFG.EN (i : Nat) : Fld := ⟨ETH_CFG.adr i, 4, 1⟩
/-- ETH_CFG.PAUSE_EN. -/
def ETH_CFG.PAUSE_EN (i : Nat) : Fld := ⟨ETH_CFG.adr i, 5, 1⟩
/-- ETH_CFG.PFC_EN. -/
def ETH_CFG.PFC_EN (i : Nat) : Fld := ⟨ETH_CFG.adr i, 8, 8⟩
/-- ETH_CFG.KWT_PCP. -/
def ETH_CFG.KWT_PCP (i : Nat) : Fld := ⟨ETH_CFG.adr i, 16, 3⟩
/-- ETH_CFG.MAXFRAME. -/
def ETH_CFG.MAXFRAME (i : Nat) : Fld := ⟨ETH_CFG.adr i, 24, 14⟩
/-- ETH_CFG.DSCP. -/
def ETH_CFG.DSCP (i : Nat) : Fld := ⟨ETH_CFG.adr i, 38, 6⟩
/-- ETH_STAT (R478). -/
def ETH_STAT.adr (i : Nat) : Nat := 0x04000008 + i * 0x100000
/-- ETH_STAT.LINK. -/
def ETH_STAT.LINK (i : Nat) : Fld := ⟨ETH_STAT.adr i, 0, 8⟩
/-- ETH_STAT.FEC_LOCK. -/
def ETH_STAT.FEC_LOCK (i : Nat) : Fld := ⟨ETH_STAT.adr i, 8, 8⟩
/-- ETH_STAT.PAUSED. -/
def ETH_STAT.PAUSED (i : Nat) : Fld := ⟨ETH_STAT.adr i, 16, 8⟩
/-- ETH_STAT.LINKCHG. -/
def ETH_STAT.LINKCHG (i : Nat) : Fld := ⟨ETH_STAT.adr i, 24, 1⟩
/-- ETH_STAT.LANES. -/
def ETH_STAT.LANES (i : Nat) : Fld := ⟨ETH_STAT.adr i, 32, 4⟩
/-- ETH_STAT.REVERSED. -/
def ETH_STAT.REVERSED (i : Nat) : Fld := ⟨ETH_STAT.adr i, 36, 1⟩
/-- ETH_MAC (R478). -/
def ETH_MAC.adr (i : Nat) : Nat := 0x04000010 + i * 0x100000
/-- ETH_MAC.MAC. -/
def ETH_MAC.MAC (i : Nat) : Fld := ⟨ETH_MAC.adr i, 0, 48⟩
/-- ETH_IPV4 (R478). -/
def ETH_IPV4.adr (i : Nat) : Nat := 0x04000018 + i * 0x100000
/-- ETH_IPV4.ADDR. -/
def ETH_IPV4.ADDR (i : Nat) : Fld := ⟨ETH_IPV4.adr i, 0, 32⟩
/-- ETH_IPV6 (R478). -/
def ETH_IPV6.adr (i0 : Nat) (i1 : Nat) : Nat := 0x04000020 + i0 * 0x100000 + i1 * 8
/-- ETH_IPV6.ADDR. -/
def ETH_IPV6.ADDR (i0 : Nat) (i1 : Nat) : Fld := ⟨ETH_IPV6.adr i0 i1, 0, 64⟩
/-- ETH_KWTPORT (R478). -/
def ETH_KWTPORT.adr (i : Nat) : Nat := 0x04000030 + i * 0x100000
/-- ETH_KWTPORT.PORT. -/
def ETH_KWTPORT.PORT (i : Nat) : Fld := ⟨ETH_KWTPORT.adr i, 0, 16⟩
/-- ETH_MACSEC (R478). -/
def ETH_MACSEC.adr (i : Nat) : Nat := 0x04000038 + i * 0x100000
/-- ETH_MACSEC.EN. -/
def ETH_MACSEC.EN (i : Nat) : Fld := ⟨ETH_MACSEC.adr i, 0, 1⟩
/-- ETH_MACSEC.XPN. -/
def ETH_MACSEC.XPN (i : Nat) : Fld := ⟨ETH_MACSEC.adr i, 1, 1⟩
/-- ETH_MACSEC.REQUIRE. -/
def ETH_MACSEC.REQUIRE (i : Nat) : Fld := ⟨ETH_MACSEC.adr i, 2, 1⟩
/-- ETH_MACSEC.WINDOW. -/
def ETH_MACSEC.WINDOW (i : Nat) : Fld := ⟨ETH_MACSEC.adr i, 8, 32⟩
/-- ETH_MACSEC.KEYED. -/
def ETH_MACSEC.KEYED (i : Nat) : Fld := ⟨ETH_MACSEC.adr i, 40, 1⟩
/-- ETH_FEC (R478). -/
def ETH_FEC.adr (i : Nat) : Nat := 0x04000040 + i * 0x100000
/-- ETH_FEC.CORR. -/
def ETH_FEC.CORR (i : Nat) : Fld := ⟨ETH_FEC.adr i, 0, 32⟩
/-- ETH_FEC.UNCORR. -/
def ETH_FEC.UNCORR (i : Nat) : Fld := ⟨ETH_FEC.adr i, 32, 32⟩
/-- ETH_RXDROP (R478). -/
def ETH_RXDROP.adr (i : Nat) : Nat := 0x04000048 + i * 0x100000
/-- ETH_RXDROP.FCS. -/
def ETH_RXDROP.FCS (i : Nat) : Fld := ⟨ETH_RXDROP.adr i, 0, 16⟩
/-- ETH_RXDROP.MACSEC. -/
def ETH_RXDROP.MACSEC (i : Nat) : Fld := ⟨ETH_RXDROP.adr i, 16, 16⟩
/-- ETH_RXDROP.OTHER. -/
def ETH_RXDROP.OTHER (i : Nat) : Fld := ⟨ETH_RXDROP.adr i, 32, 16⟩
/-- ETH_RXDROP.OVERRUN. -/
def ETH_RXDROP.OVERRUN (i : Nat) : Fld := ⟨ETH_RXDROP.adr i, 48, 16⟩

/-- The registers of R479 (13_ethernet_and_kwt.md). -/
def regsR479 : List RegRow :=
  [⟨0x04400000, 1, 0, 1, 0, [⟨0, 8, .rw, 8⟩, ⟨8, 8, .rw, 10⟩, ⟨16, 16, .rw, 50⟩, ⟨32, 4, .rw, 6⟩, ⟨36, 1, .rw, 1⟩, ⟨37, 1, .rw, 1⟩]⟩,
   ⟨0x04400008, 1, 0, 1, 0, [⟨0, 16, .rc, 0⟩, ⟨16, 16, .rc, 0⟩, ⟨32, 16, .rc, 0⟩, ⟨48, 16, .rc, 0⟩]⟩,
   ⟨0x04400010, 1, 0, 1, 0, [⟨0, 32, .rc, 0⟩, ⟨32, 32, .rc, 0⟩]⟩,
   ⟨0x04400020, 1, 0, 1, 0, [⟨0, 32, .rw, 0⟩]⟩,
   ⟨0x04400028, 1, 0, 1, 0, [⟨0, 48, .rw, 0⟩]⟩,
   ⟨0x04400030, 1, 0, 1, 0, [⟨0, 32, .rw, 0⟩]⟩,
   ⟨0x04400038, 1, 0, 1, 0, [⟨0, 32, .wo, 0⟩]⟩]

/-- KWT_CFG (R479). -/
def KWT_CFG.adr : Nat := 0x04400000
/-- KWT_CFG.ACK_COAL. -/
def KWT_CFG.ACK_COAL : Fld := ⟨KWT_CFG.adr, 0, 8⟩
/-- KWT_CFG.ACK_DELAY_US. -/
def KWT_CFG.ACK_DELAY_US : Fld := ⟨KWT_CFG.adr, 8, 8⟩
/-- KWT_CFG.RTO_US. -/
def KWT_CFG.RTO_US : Fld := ⟨KWT_CFG.adr, 16, 16⟩
/-- KWT_CFG.RETRIES. -/
def KWT_CFG.RETRIES : Fld := ⟨KWT_CFG.adr, 32, 4⟩
/-- KWT_CFG.ICMP. -/
def KWT_CFG.ICMP : Fld := ⟨KWT_CFG.adr, 36, 1⟩
/-- KWT_CFG.MGMT_HOST. -/
def KWT_CFG.MGMT_HOST : Fld := ⟨KWT_CFG.adr, 37, 1⟩
/-- KWT_STAT (R479). -/
def KWT_STAT.adr : Nat := 0x04400008
/-- KWT_STAT.NOSESS. -/
def KWT_STAT.NOSESS : Fld := ⟨KWT_STAT.adr, 0, 16⟩
/-- KWT_STAT.BADSEQ. -/
def KWT_STAT.BADSEQ : Fld := ⟨KWT_STAT.adr, 16, 16⟩
/-- KWT_STAT.TOKFAIL. -/
def KWT_STAT.TOKFAIL : Fld := ⟨KWT_STAT.adr, 32, 16⟩
/-- KWT_STAT.CRCFAIL. -/
def KWT_STAT.CRCFAIL : Fld := ⟨KWT_STAT.adr, 48, 16⟩
/-- KWT_DUP (R479). -/
def KWT_DUP.adr : Nat := 0x04400010
/-- KWT_DUP.DUP. -/
def KWT_DUP.DUP : Fld := ⟨KWT_DUP.adr, 0, 32⟩
/-- KWT_DUP.REORDER_FULL. -/
def KWT_DUP.REORDER_FULL : Fld := ⟨KWT_DUP.adr, 32, 32⟩
/-- PTP_NS (R479). -/
def PTP_NS.adr : Nat := 0x04400020
/-- PTP_NS.NS. -/
def PTP_NS.NS : Fld := ⟨PTP_NS.adr, 0, 32⟩
/-- PTP_SEC (R479). -/
def PTP_SEC.adr : Nat := 0x04400028
/-- PTP_SEC.SEC. -/
def PTP_SEC.SEC : Fld := ⟨PTP_SEC.adr, 0, 48⟩
/-- PTP_RATE (R479). -/
def PTP_RATE.adr : Nat := 0x04400030
/-- PTP_RATE.TRIM. -/
def PTP_RATE.TRIM : Fld := ⟨PTP_RATE.adr, 0, 32⟩
/-- PTP_STEP (R479). -/
def PTP_STEP.adr : Nat := 0x04400038
/-- PTP_STEP.STEP. -/
def PTP_STEP.STEP : Fld := ⟨PTP_STEP.adr, 0, 32⟩

/-- The registers of R480 (13_ethernet_and_kwt.md). -/
def regsR480 : List RegRow :=
  [⟨0x04410000, 4096, 32, 1, 0, [⟨0, 1, .rw, 0⟩, ⟨1, 1, .rw, 1⟩]⟩,
   ⟨0x04410008, 4096, 32, 1, 0, [⟨0, 32, .ro, 0⟩, ⟨32, 32, .ro, 0⟩]⟩,
   ⟨0x04410010, 4096, 32, 1, 0, [⟨0, 32, .ro, 0⟩, ⟨32, 32, .ro, 0⟩]⟩,
   ⟨0x04410018, 4096, 32, 1, 0, [⟨0, 2, .ro, 0⟩, ⟨2, 1, .ro, 0⟩, ⟨8, 8, .ro, 0⟩, ⟨16, 8, .ro, 0⟩, ⟨24, 1, .ro, 0⟩]⟩]

/-- SESS_CTL (R480). -/
def SESS_CTL.adr (i : Nat) : Nat := 0x04410000 + i * 32
/-- SESS_CTL.EN. -/
def SESS_CTL.EN (i : Nat) : Fld := ⟨SESS_CTL.adr i, 0, 1⟩
/-- SESS_CTL.OUTCOMMIT. -/
def SESS_CTL.OUTCOMMIT (i : Nat) : Fld := ⟨SESS_CTL.adr i, 1, 1⟩
/-- SESS_SEQ (R480). -/
def SESS_SEQ.adr (i : Nat) : Nat := 0x04410008 + i * 32
/-- SESS_SEQ.RX_NEXT. -/
def SESS_SEQ.RX_NEXT (i : Nat) : Fld := ⟨SESS_SEQ.adr i, 0, 32⟩
/-- SESS_SEQ.TX_NEXT. -/
def SESS_SEQ.TX_NEXT (i : Nat) : Fld := ⟨SESS_SEQ.adr i, 32, 32⟩
/-- SESS_ACK (R480). -/
def SESS_ACK.adr (i : Nat) : Nat := 0x04410010 + i * 32
/-- SESS_ACK.DACK. -/
def SESS_ACK.DACK (i : Nat) : Fld := ⟨SESS_ACK.adr i, 0, 32⟩
/-- SESS_ACK.TX_UNA. -/
def SESS_ACK.TX_UNA (i : Nat) : Fld := ⟨SESS_ACK.adr i, 32, 32⟩
/-- SESS_STAT (R480). -/
def SESS_STAT.adr (i : Nat) : Nat := 0x04410018 + i * 32
/-- SESS_STAT.STATE. -/
def SESS_STAT.STATE (i : Nat) : Fld := ⟨SESS_STAT.adr i, 0, 2⟩
/-- SESS_STAT.NOPAIR. -/
def SESS_STAT.NOPAIR (i : Nat) : Fld := ⟨SESS_STAT.adr i, 2, 1⟩
/-- SESS_STAT.HELD. -/
def SESS_STAT.HELD (i : Nat) : Fld := ⟨SESS_STAT.adr i, 8, 8⟩
/-- SESS_STAT.TXOUT. -/
def SESS_STAT.TXOUT (i : Nat) : Fld := ⟨SESS_STAT.adr i, 16, 8⟩
/-- SESS_STAT.FROZEN. -/
def SESS_STAT.FROZEN (i : Nat) : Fld := ⟨SESS_STAT.adr i, 24, 1⟩

/-- The registers of R481 (13_ethernet_and_kwt.md). -/
def regsR481 : List RegRow :=
  [⟨0x04440000, 256, 64, 1, 0, [⟨0, 16, .rw, 0⟩, ⟨16, 8, .rw, 0⟩, ⟨24, 4, .rw, 0⟩, ⟨28, 4, .rw, 8⟩, ⟨32, 16, .rw, 1⟩, ⟨48, 16, .rw, 1⟩]⟩,
   ⟨0x04440008, 256, 64, 1, 0, [⟨0, 1, .rw, 0⟩, ⟨1, 1, .w1c, 0⟩, ⟨8, 8, .ro, 0⟩, ⟨16, 1, .w1c, 0⟩]⟩,
   ⟨0x04440010, 256, 64, 1, 0, [⟨0, 32, .ro, 0⟩]⟩,
   ⟨0x04440018, 256, 64, 1, 0, [⟨0, 32, .rw, 0⟩]⟩,
   ⟨0x04440020, 256, 64, 4, 8, [⟨0, 64, .wo, 0⟩]⟩]

/-- QS_CFG (R481). -/
def QS_CFG.adr (i : Nat) : Nat := 0x04440000 + i * 64
/-- QS_CFG.RING_IDX. -/
def QS_CFG.RING_IDX (i : Nat) : Fld := ⟨QS_CFG.adr i, 0, 16⟩
/-- QS_CFG.RING_GEN. -/
def QS_CFG.RING_GEN (i : Nat) : Fld := ⟨QS_CFG.adr i, 16, 8⟩
/-- QS_CFG.DE. -/
def QS_CFG.DE (i : Nat) : Fld := ⟨QS_CFG.adr i, 24, 4⟩
/-- QS_CFG.SLOTLOG. -/
def QS_CFG.SLOTLOG (i : Nat) : Fld := ⟨QS_CFG.adr i, 28, 4⟩
/-- QS_CFG.SLOTS_M1. -/
def QS_CFG.SLOTS_M1 (i : Nat) : Fld := ⟨QS_CFG.adr i, 32, 16⟩
/-- QS_CFG.THRESH. -/
def QS_CFG.THRESH (i : Nat) : Fld := ⟨QS_CFG.adr i, 48, 16⟩
/-- QS_CTL (R481). -/
def QS_CTL.adr (i : Nat) : Nat := 0x04440008 + i * 64
/-- QS_CTL.EN. -/
def QS_CTL.EN (i : Nat) : Fld := ⟨QS_CTL.adr i, 0, 1⟩
/-- QS_CTL.NFULL. -/
def QS_CTL.NFULL (i : Nat) : Fld := ⟨QS_CTL.adr i, 1, 1⟩
/-- QS_CTL.NERR. -/
def QS_CTL.NERR (i : Nat) : Fld := ⟨QS_CTL.adr i, 8, 8⟩
/-- QS_CTL.NERR_V. -/
def QS_CTL.NERR_V (i : Nat) : Fld := ⟨QS_CTL.adr i, 16, 1⟩
/-- QS_HEAD (R481). -/
def QS_HEAD.adr (i : Nat) : Nat := 0x04440010 + i * 64
/-- QS_HEAD.HEAD. -/
def QS_HEAD.HEAD (i : Nat) : Fld := ⟨QS_HEAD.adr i, 0, 32⟩
/-- QS_TAIL (R481). -/
def QS_TAIL.adr (i : Nat) : Nat := 0x04440018 + i * 64
/-- QS_TAIL.TAIL. -/
def QS_TAIL.TAIL (i : Nat) : Fld := ⟨QS_TAIL.adr i, 0, 32⟩
/-- QS_NOTIFY (R481). -/
def QS_NOTIFY.adr (i0 : Nat) (i1 : Nat) : Nat := 0x04440020 + i0 * 64 + i1 * 8
/-- QS_NOTIFY.DATA. -/
def QS_NOTIFY.DATA (i0 : Nat) (i1 : Nat) : Fld := ⟨QS_NOTIFY.adr i0 i1, 0, 64⟩

/-- The registers of R482 (13_ethernet_and_kwt.md). -/
def regsR482 : List RegRow :=
  [⟨0x04480000, 17, 0x100, 1, 0, [⟨0, 56, .rw, 0⟩]⟩,
   ⟨0x04480008, 17, 0x100, 1, 0, [⟨0, 3, .rw, 0⟩, ⟨8, 6, .rw, 0⟩, ⟨14, 2, .rw, 0⟩, ⟨16, 12, .rw, 0⟩, ⟨28, 1, .rw, 1⟩]⟩,
   ⟨0x04480010, 17, 0x100, 1, 0, [⟨0, 2, .wo, 0⟩, ⟨16, 16, .wo, 0⟩]⟩,
   ⟨0x04480018, 17, 0x100, 1, 0, [⟨0, 2, .ro, 0⟩, ⟨8, 8, .ro, 0⟩]⟩,
   ⟨0x04480020, 17, 0x100, 2, 8, [⟨0, 64, .ro, 0⟩]⟩]

/-- TOK_ADDR (R482). -/
def TOK_ADDR.adr (i : Nat) : Nat := 0x04480000 + i * 0x100
/-- TOK_ADDR.ADDR. -/
def TOK_ADDR.ADDR (i : Nat) : Fld := ⟨TOK_ADDR.adr i, 0, 56⟩
/-- TOK_CFG (R482). -/
def TOK_CFG.adr (i : Nat) : Nat := 0x04480008 + i * 0x100
/-- TOK_CFG.RIGHTS. -/
def TOK_CFG.RIGHTS (i : Nat) : Fld := ⟨TOK_CFG.adr i, 0, 3⟩
/-- TOK_CFG.QS. -/
def TOK_CFG.QS (i : Nat) : Fld := ⟨TOK_CFG.adr i, 8, 6⟩
/-- TOK_CFG.PORT. -/
def TOK_CFG.PORT (i : Nat) : Fld := ⟨TOK_CFG.adr i, 14, 2⟩
/-- TOK_CFG.SESSION. -/
def TOK_CFG.SESSION (i : Nat) : Fld := ⟨TOK_CFG.adr i, 16, 12⟩
/-- TOK_CFG.ANYSESS. -/
def TOK_CFG.ANYSESS (i : Nat) : Fld := ⟨TOK_CFG.adr i, 28, 1⟩
/-- TOK_CMD (R482). -/
def TOK_CMD.adr (i : Nat) : Nat := 0x04480010 + i * 0x100
/-- TOK_CMD.CMD. -/
def TOK_CMD.CMD (i : Nat) : Fld := ⟨TOK_CMD.adr i, 0, 2⟩
/-- TOK_CMD.IDX. -/
def TOK_CMD.IDX (i : Nat) : Fld := ⟨TOK_CMD.adr i, 16, 16⟩
/-- TOK_STAT (R482). -/
def TOK_STAT.adr (i : Nat) : Nat := 0x04480018 + i * 0x100
/-- TOK_STAT.STATE. -/
def TOK_STAT.STATE (i : Nat) : Fld := ⟨TOK_STAT.adr i, 0, 2⟩
/-- TOK_STAT.RESULT. -/
def TOK_STAT.RESULT (i : Nat) : Fld := ⟨TOK_STAT.adr i, 8, 8⟩
/-- TOK_OUT (R482). -/
def TOK_OUT.adr (i0 : Nat) (i1 : Nat) : Nat := 0x04480020 + i0 * 0x100 + i1 * 8
/-- TOK_OUT.DATA. -/
def TOK_OUT.DATA (i0 : Nat) (i1 : Nat) : Fld := ⟨TOK_OUT.adr i0 i1, 0, 64⟩

/-- The registers of R483 (13_ethernet_and_kwt.md). -/
def regsR483 : List RegRow :=
  [⟨0x04800000, 16, 0x1000, 1, 0, [⟨0, 2, .rw, 1⟩]⟩,
   ⟨0x04800008, 16, 0x1000, 1, 0, [⟨0, 64, .rw, 0⟩]⟩,
   ⟨0x04800010, 16, 0x1000, 1, 0, [⟨0, 64, .ro, 0xFFFFFFFF⟩]⟩,
   ⟨0x04800018, 16, 0x1000, 1, 0, [⟨0, 1, .w1c, 0⟩, ⟨1, 1, .w1c, 0⟩, ⟨32, 16, .rc, 0⟩]⟩]

/-- CU_CFG (R483). -/
def CU_CFG.adr (i : Nat) : Nat := 0x04800000 + i * 0x1000
/-- CU_CFG.POLY. -/
def CU_CFG.POLY (i : Nat) : Fld := ⟨CU_CFG.adr i, 0, 2⟩
/-- CU_VAL (R483). -/
def CU_VAL.adr (i : Nat) : Nat := 0x04800008 + i * 0x1000
/-- CU_VAL.VAL. -/
def CU_VAL.VAL (i : Nat) : Fld := ⟨CU_VAL.adr i, 0, 64⟩
/-- CU_RESULT (R483). -/
def CU_RESULT.adr (i : Nat) : Nat := 0x04800010 + i * 0x1000
/-- CU_RESULT.RESULT. -/
def CU_RESULT.RESULT (i : Nat) : Fld := ⟨CU_RESULT.adr i, 0, 64⟩
/-- CU_STAT (R483). -/
def CU_STAT.adr (i : Nat) : Nat := 0x04800018 + i * 0x1000
/-- CU_STAT.MISMATCH. -/
def CU_STAT.MISMATCH (i : Nat) : Fld := ⟨CU_STAT.adr i, 0, 1⟩
/-- CU_STAT.WRBUSY. -/
def CU_STAT.WRBUSY (i : Nat) : Fld := ⟨CU_STAT.adr i, 1, 1⟩
/-- CU_STAT.CHECKS. -/
def CU_STAT.CHECKS (i : Nat) : Fld := ⟨CU_STAT.adr i, 32, 16⟩

/-- The registers of R484 (13_ethernet_and_kwt.md). -/
def regsR484 : List RegRow :=
  [⟨0x04900000, 16, 0x1000, 4, 8, [⟨0, 64, .wo, 0⟩]⟩,
   ⟨0x04900020, 16, 0x1000, 1, 0, [⟨0, 2, .wo, 0⟩]⟩,
   ⟨0x04900028, 16, 0x1000, 1, 0, [⟨0, 5, .ro, 0⟩, ⟨5, 1, .ro, 0⟩, ⟨6, 1, .w1c, 0⟩, ⟨8, 8, .ro, 0⟩, ⟨32, 32, .ro, 0⟩]⟩]

/-- DE_DESC (R484). -/
def DE_DESC.adr (i0 : Nat) (i1 : Nat) : Nat := 0x04900000 + i0 * 0x1000 + i1 * 8
/-- DE_DESC.DATA. -/
def DE_DESC.DATA (i0 : Nat) (i1 : Nat) : Fld := ⟨DE_DESC.adr i0 i1, 0, 64⟩
/-- DE_CTL (R484). -/
def DE_CTL.adr (i : Nat) : Nat := 0x04900020 + i * 0x1000
/-- DE_CTL.CMD. -/
def DE_CTL.CMD (i : Nat) : Fld := ⟨DE_CTL.adr i, 0, 2⟩
/-- DE_STAT (R484). -/
def DE_STAT.adr (i : Nat) : Nat := 0x04900028 + i * 0x1000
/-- DE_STAT.COUNT. -/
def DE_STAT.COUNT (i : Nat) : Fld := ⟨DE_STAT.adr i, 0, 5⟩
/-- DE_STAT.HALTED. -/
def DE_STAT.HALTED (i : Nat) : Fld := ⟨DE_STAT.adr i, 5, 1⟩
/-- DE_STAT.OVF. -/
def DE_STAT.OVF (i : Nat) : Fld := ⟨DE_STAT.adr i, 6, 1⟩
/-- DE_STAT.STATUS. -/
def DE_STAT.STATUS (i : Nat) : Fld := ⟨DE_STAT.adr i, 8, 8⟩
/-- DE_STAT.DONE. -/
def DE_STAT.DONE (i : Nat) : Fld := ⟨DE_STAT.adr i, 32, 32⟩

/-- The registers of R514 (14_power_and_shedding.md). -/
def regsR514 : List RegRow :=
  [⟨0x06000000, 1, 0, 1, 0, [⟨0, 3, .ro, 0⟩, ⟨8, 3, .rc, 0⟩]⟩,
   ⟨0x06000008, 1, 0, 1, 0, [⟨0, 30, .ro, 0⟩]⟩,
   ⟨0x06000010, 1, 0, 1, 0, [⟨0, 3, .rw, 0⟩]⟩,
   ⟨0x06000018, 1, 0, 1, 0, [⟨0, 12, .ro, Config.fusedTdp.toNat⟩, ⟨16, 12, .rw, Config.fusedTdp.toNat⟩, ⟨32, 12, .rw, 1000⟩]⟩,
   ⟨0x06000020, 1, 0, 1, 0, [⟨0, 12, .ro, 0⟩, ⟨16, 12, .ro, 0⟩, ⟨28, 1, .ro, 0⟩, ⟨29, 1, .ro, 0⟩, ⟨32, 4, .ro, 0⟩]⟩,
   ⟨0x06000028, 1, 0, 1, 0, [⟨0, 12, .ro, 0⟩]⟩,
   ⟨0x06000030, 1, 0, 1, 0, [⟨0, 1, .w1s, 0⟩, ⟨1, 1, .rw, 1⟩, ⟨8, 2, .ro, 0⟩, ⟨12, 4, .ro, 0⟩]⟩,
   ⟨0x06000038, 1, 0, 1, 0, [⟨0, 32, .rw, 0⟩]⟩,
   ⟨0x06000100, 4, 0x40, 1, 0, [⟨0, 13, .rw, 2000⟩, ⟨16, 9, .rw, 0⟩]⟩,
   ⟨0x06000108, 4, 0x40, 1, 0, [⟨0, 9, .ro, 50⟩, ⟨9, 1, .ro, 0⟩, ⟨10, 1, .ro, 0⟩, ⟨11, 3, .ro, 0⟩, ⟨14, 1, .ro, 0⟩, ⟨15, 1, .ro, 0⟩, ⟨16, 10, .ro, 0⟩]⟩,
   ⟨0x06000110, 4, 0x40, 1, 0, [⟨0, 16, .ro, Config.fusedPipeMa.toNat⟩, ⟨16, 16, .ro, 4096⟩, ⟨32, 16, .ro, 0⟩, ⟨48, 1, .ro, 0⟩]⟩,
   ⟨0x06000118, 4, 0x40, 1, 0, [⟨0, 7, .rw, 60⟩, ⟨8, 8, .rw, 20⟩]⟩,
   ⟨0x06000120, 4, 0x40, 1, 0, [⟨0, 32, .rc, 0⟩, ⟨32, 1, .ro, 0⟩]⟩,
   ⟨0x06000128, 4, 0x40, 1, 0, [⟨0, 9, .ro, 0⟩, ⟨16, 13, .ro, 0⟩, ⟨32, 1, .ro, 0⟩]⟩,
   ⟨0x06000130, 4, 0x40, 1, 0, [⟨0, 6, .rw, 0⟩]⟩]

/-- SHED_LEVEL (R514). -/
def SHED_LEVEL.adr : Nat := 0x06000000
/-- SHED_LEVEL.LEVEL. -/
def SHED_LEVEL.LEVEL : Fld := ⟨SHED_LEVEL.adr, 0, 3⟩
/-- SHED_LEVEL.PEAK. -/
def SHED_LEVEL.PEAK : Fld := ⟨SHED_LEVEL.adr, 8, 3⟩
/-- SHED_SRC (R514). -/
def SHED_SRC.adr : Nat := 0x06000008
/-- SHED_SRC.DEMANDS. -/
def SHED_SRC.DEMANDS : Fld := ⟨SHED_SRC.adr, 0, 30⟩
/-- SHED_FLOOR (R514). -/
def SHED_FLOOR.adr : Nat := 0x06000010
/-- SHED_FLOOR.LEVEL. -/
def SHED_FLOOR.LEVEL : Fld := ⟨SHED_FLOOR.adr, 0, 3⟩
/-- PWR_LIMIT (R514). -/
def PWR_LIMIT.adr : Nat := 0x06000018
/-- PWR_LIMIT.TDP_W. -/
def PWR_LIMIT.TDP_W : Fld := ⟨PWR_LIMIT.adr, 0, 12⟩
/-- PWR_LIMIT.LIMIT_W. -/
def PWR_LIMIT.LIMIT_W : Fld := ⟨PWR_LIMIT.adr, 16, 12⟩
/-- PWR_LIMIT.WIN_MS. -/
def PWR_LIMIT.WIN_MS : Fld := ⟨PWR_LIMIT.adr, 32, 12⟩
/-- PWR_STAT (R514). -/
def PWR_STAT.adr : Nat := 0x06000020
/-- PWR_STAT.PKG_W. -/
def PWR_STAT.PKG_W : Fld := ⟨PWR_STAT.adr, 0, 12⟩
/-- PWR_STAT.AVG_W. -/
def PWR_STAT.AVG_W : Fld := ⟨PWR_STAT.adr, 16, 12⟩
/-- PWR_STAT.CAPPED. -/
def PWR_STAT.CAPPED : Fld := ⟨PWR_STAT.adr, 28, 1⟩
/-- PWR_STAT.CLK_LIMITED. -/
def PWR_STAT.CLK_LIMITED : Fld := ⟨PWR_STAT.adr, 29, 1⟩
/-- PWR_STAT.SENSE_OPEN. -/
def PWR_STAT.SENSE_OPEN : Fld := ⟨PWR_STAT.adr, 32, 4⟩
/-- VINMON_STAT (R514). -/
def VINMON_STAT.adr : Nat := 0x06000028
/-- VINMON_STAT.PCT. -/
def VINMON_STAT.PCT : Fld := ⟨VINMON_STAT.adr, 0, 12⟩
/-- PWR_SLEEP (R514). -/
def PWR_SLEEP.adr : Nat := 0x06000030
/-- PWR_SLEEP.REQ. -/
def PWR_SLEEP.REQ : Fld := ⟨PWR_SLEEP.adr, 0, 1⟩
/-- PWR_SLEEP.SRAM_RET. -/
def PWR_SLEEP.SRAM_RET : Fld := ⟨PWR_SLEEP.adr, 1, 1⟩
/-- PWR_SLEEP.STATE. -/
def PWR_SLEEP.STATE : Fld := ⟨PWR_SLEEP.adr, 8, 2⟩
/-- PWR_SLEEP.RESULT. -/
def PWR_SLEEP.RESULT : Fld := ⟨PWR_SLEEP.adr, 12, 4⟩
/-- PWR_WAKETMR (R514). -/
def PWR_WAKETMR.adr : Nat := 0x06000038
/-- PWR_WAKETMR.MS. -/
def PWR_WAKETMR.MS : Fld := ⟨PWR_WAKETMR.adr, 0, 32⟩
/-- LA_CFG (R514). -/
def LA_CFG.adr (i : Nat) : Nat := 0x06000100 + i * 0x40
/-- LA_CFG.LEAD_NS. -/
def LA_CFG.LEAD_NS (i : Nat) : Fld := ⟨LA_CFG.adr i, 0, 13⟩
/-- LA_CFG.DIDT_REQ. -/
def LA_CFG.DIDT_REQ (i : Nat) : Fld := ⟨LA_CFG.adr i, 16, 9⟩
/-- LA_STAT (R514). -/
def LA_STAT.adr (i : Nat) : Nat := 0x06000108 + i * 0x40
/-- LA_STAT.DIDT_USED. -/
def LA_STAT.DIDT_USED (i : Nat) : Fld := ⟨LA_STAT.adr i, 0, 9⟩
/-- LA_STAT.NOID. -/
def LA_STAT.NOID (i : Nat) : Fld := ⟨LA_STAT.adr i, 9, 1⟩
/-- LA_STAT.DRV_OFF. -/
def LA_STAT.DRV_OFF (i : Nat) : Fld := ⟨LA_STAT.adr i, 10, 1⟩
/-- LA_STAT.CODE. -/
def LA_STAT.CODE (i : Nat) : Fld := ⟨LA_STAT.adr i, 11, 3⟩
/-- LA_STAT.LEAD. -/
def LA_STAT.LEAD (i : Nat) : Fld := ⟨LA_STAT.adr i, 14, 1⟩
/-- LA_STAT.RAMP. -/
def LA_STAT.RAMP (i : Nat) : Fld := ⟨LA_STAT.adr i, 15, 1⟩
/-- LA_STAT.VSET_MV. -/
def LA_STAT.VSET_MV (i : Nat) : Fld := ⟨LA_STAT.adr i, 16, 10⟩
/-- EST (R514). -/
def EST.adr (i : Nat) : Nat := 0x06000110 + i * 0x40
/-- EST.PIPE_MA. -/
def EST.PIPE_MA (i : Nat) : Fld := ⟨EST.adr i, 0, 16⟩
/-- EST.GAIN. -/
def EST.GAIN (i : Nat) : Fld := ⟨EST.adr i, 16, 16⟩
/-- EST.IOUT. -/
def EST.IOUT (i : Nat) : Fld := ⟨EST.adr i, 32, 16⟩
/-- EST.STALE. -/
def EST.STALE (i : Nat) : Fld := ⟨EST.adr i, 48, 1⟩
/-- DROOP_CFG (R514). -/
def DROOP_CFG.adr (i : Nat) : Nat := 0x06000118 + i * 0x40
/-- DROOP_CFG.THRESH_MV. -/
def DROOP_CFG.THRESH_MV (i : Nat) : Fld := ⟨DROOP_CFG.adr i, 0, 7⟩
/-- DROOP_CFG.HOLD_NS. -/
def DROOP_CFG.HOLD_NS (i : Nat) : Fld := ⟨DROOP_CFG.adr i, 8, 8⟩
/-- DROOP_STAT (R514). -/
def DROOP_STAT.adr (i : Nat) : Nat := 0x06000120 + i * 0x40
/-- DROOP_STAT.COUNT. -/
def DROOP_STAT.COUNT (i : Nat) : Fld := ⟨DROOP_STAT.adr i, 0, 32⟩
/-- DROOP_STAT.ACTIVE. -/
def DROOP_STAT.ACTIVE (i : Nat) : Fld := ⟨DROOP_STAT.adr i, 32, 1⟩
/-- VR_ID (R514). -/
def VR_ID.adr (i : Nat) : Nat := 0x06000128 + i * 0x40
/-- VR_ID.DIDT_MAX. -/
def VR_ID.DIDT_MAX (i : Nat) : Fld := ⟨VR_ID.adr i, 0, 9⟩
/-- VR_ID.LEAD_MIN. -/
def VR_ID.LEAD_MIN (i : Nat) : Fld := ⟨VR_ID.adr i, 16, 13⟩
/-- VR_ID.VALID. -/
def VR_ID.VALID (i : Nat) : Fld := ⟨VR_ID.adr i, 32, 1⟩
/-- PWR_VOFF (R514). -/
def PWR_VOFF.adr (i : Nat) : Nat := 0x06000130 + i * 0x40
/-- PWR_VOFF.OFFS. -/
def PWR_VOFF.OFFS (i : Nat) : Fld := ⟨PWR_VOFF.adr i, 0, 6⟩

/-- The registers of R515 (14_power_and_shedding.md). -/
def regsR515 : List RegRow :=
  [⟨0x06100000, 1, 0, 1, 0, [⟨0, 8, .rw, 100⟩, ⟨8, 8, .rw, 3⟩]⟩,
   ⟨0x06100008, 1, 0, 1, 0, [⟨0, 8, .ro, 0⟩, ⟨8, 8, .ro, 0⟩, ⟨16, 1, .ro, 0⟩, ⟨17, 1, .ro, 0⟩, ⟨18, 1, .w1c, 0⟩, ⟨32, 16, .rc, 0⟩]⟩,
   ⟨0x06100010, 4, 8, 1, 0, [⟨0, 8, .ro, 0⟩, ⟨8, 7, .ro, 0⟩]⟩]

/-- THERM_CFG (R515). -/
def THERM_CFG.adr : Nat := 0x06100000
/-- THERM_CFG.THROTTLE_C. -/
def THERM_CFG.THROTTLE_C : Fld := ⟨THERM_CFG.adr, 0, 8⟩
/-- THERM_CFG.HYST_C. -/
def THERM_CFG.HYST_C : Fld := ⟨THERM_CFG.adr, 8, 8⟩
/-- THERM_STAT (R515). -/
def THERM_STAT.adr : Nat := 0x06100008
/-- THERM_STAT.TJ_MAX. -/
def THERM_STAT.TJ_MAX : Fld := ⟨THERM_STAT.adr, 0, 8⟩
/-- THERM_STAT.TLID. -/
def THERM_STAT.TLID : Fld := ⟨THERM_STAT.adr, 8, 8⟩
/-- THERM_STAT.THROTTLING. -/
def THERM_STAT.THROTTLING : Fld := ⟨THERM_STAT.adr, 16, 1⟩
/-- THERM_STAT.HOT110. -/
def THERM_STAT.HOT110 : Fld := ⟨THERM_STAT.adr, 17, 1⟩
/-- THERM_STAT.TRIPPED. -/
def THERM_STAT.TRIPPED : Fld := ⟨THERM_STAT.adr, 18, 1⟩
/-- THERM_STAT.ENTRIES. -/
def THERM_STAT.ENTRIES : Fld := ⟨THERM_STAT.adr, 32, 16⟩
/-- THERM_Q (R515). -/
def THERM_Q.adr (i : Nat) : Nat := 0x06100010 + i * 8
/-- THERM_Q.TJ. -/
def THERM_Q.TJ (i : Nat) : Fld := ⟨THERM_Q.adr i, 0, 8⟩
/-- THERM_Q.CLK. -/
def THERM_Q.CLK (i : Nat) : Fld := ⟨THERM_Q.adr i, 8, 7⟩

/-- The registers of R553 (15_redundancy_and_pair.md). -/
def regsR553 : List RegRow :=
  [⟨0x07000000, 1, 0, 1, 0, [⟨0, 16, .rw, 512⟩, ⟨16, 24, .rw, 16384⟩, ⟨40, 1, .rw, 1⟩]⟩,
   ⟨0x07000008, 1, 0, 1, 0, [⟨0, 3, .ro, 0⟩, ⟨4, 3, .ro, 0⟩, ⟨8, 8, .ro, 0⟩, ⟨16, 1, .ro, 0⟩, ⟨17, 1, .ro, 0⟩, ⟨18, 1, .ro, 0⟩, ⟨19, 1, .ro, 0⟩, ⟨20, 1, .ro, 0⟩, ⟨21, 1, .ro, 0⟩, ⟨32, 16, .rc, 0⟩]⟩,
   ⟨0x07000010, 1, 0, 1, 0, [⟨0, 3, .wo, 0⟩]⟩,
   ⟨0x07000018, 1, 0, 1, 0, [⟨0, 64, .ro, 0⟩]⟩,
   ⟨0x07000020, 1, 0, 1, 0, [⟨0, 32, .ro, 0⟩, ⟨32, 16, .ro, 0⟩, ⟨48, 16, .ro, 0⟩]⟩,
   ⟨0x07000028, 1, 0, 1, 0, [⟨0, 4, .ro, 0⟩, ⟨16, 16, .rc, 0⟩, ⟨32, 16, .rc, 0⟩]⟩,
   ⟨0x07000030, 1, 0, 1, 0, [⟨0, 16, .rc, 0⟩, ⟨16, 16, .rc, 0⟩, ⟨32, 1, .ro, 0⟩]⟩]

/-- PAIR_CFG (R553). -/
def PAIR_CFG.adr : Nat := 0x07000000
/-- PAIR_CFG.PRESS_MIB. -/
def PAIR_CFG.PRESS_MIB : Fld := ⟨PAIR_CFG.adr, 0, 16⟩
/-- PAIR_CFG.SHIPBUF. -/
def PAIR_CFG.SHIPBUF : Fld := ⟨PAIR_CFG.adr, 16, 24⟩
/-- PAIR_CFG.MEMSIG. -/
def PAIR_CFG.MEMSIG : Fld := ⟨PAIR_CFG.adr, 40, 1⟩
/-- PAIR_STAT (R553). -/
def PAIR_STAT.adr : Nat := 0x07000008
/-- PAIR_STAT.ROLE. -/
def PAIR_STAT.ROLE : Fld := ⟨PAIR_STAT.adr, 0, 3⟩
/-- PAIR_STAT.STATE. -/
def PAIR_STAT.STATE : Fld := ⟨PAIR_STAT.adr, 4, 3⟩
/-- PAIR_STAT.REFUSE. -/
def PAIR_STAT.REFUSE : Fld := ⟨PAIR_STAT.adr, 8, 8⟩
/-- PAIR_STAT.LINK. -/
def PAIR_STAT.LINK : Fld := ⟨PAIR_STAT.adr, 16, 1⟩
/-- PAIR_STAT.HB_ALIVE. -/
def PAIR_STAT.HB_ALIVE : Fld := ⟨PAIR_STAT.adr, 17, 1⟩
/-- PAIR_STAT.HBWIRE_FAULT. -/
def PAIR_STAT.HBWIRE_FAULT : Fld := ⟨PAIR_STAT.adr, 18, 1⟩
/-- PAIR_STAT.LEASE. -/
def PAIR_STAT.LEASE : Fld := ⟨PAIR_STAT.adr, 19, 1⟩
/-- PAIR_STAT.PRESSURE. -/
def PAIR_STAT.PRESSURE : Fld := ⟨PAIR_STAT.adr, 20, 1⟩
/-- PAIR_STAT.HOLD. -/
def PAIR_STAT.HOLD : Fld := ⟨PAIR_STAT.adr, 21, 1⟩
/-- PAIR_STAT.FAILOVERS. -/
def PAIR_STAT.FAILOVERS : Fld := ⟨PAIR_STAT.adr, 32, 16⟩
/-- PAIR_CTL (R553). -/
def PAIR_CTL.adr : Nat := 0x07000010
/-- PAIR_CTL.CMD. -/
def PAIR_CTL.CMD : Fld := ⟨PAIR_CTL.adr, 0, 3⟩
/-- PAIR_EPOCH (R553). -/
def PAIR_EPOCH.adr : Nat := 0x07000018
/-- PAIR_EPOCH.EPOCH. -/
def PAIR_EPOCH.EPOCH : Fld := ⟨PAIR_EPOCH.adr, 0, 64⟩
/-- PAIR_CKPT (R553). -/
def PAIR_CKPT.adr : Nat := 0x07000020
/-- PAIR_CKPT.COMPLETE. -/
def PAIR_CKPT.COMPLETE : Fld := ⟨PAIR_CKPT.adr, 0, 32⟩
/-- PAIR_CKPT.PAUSE_US. -/
def PAIR_CKPT.PAUSE_US : Fld := ⟨PAIR_CKPT.adr, 32, 16⟩
/-- PAIR_CKPT.SHIP_MS. -/
def PAIR_CKPT.SHIP_MS : Fld := ⟨PAIR_CKPT.adr, 48, 16⟩
/-- PAIR_LINK (R553). -/
def PAIR_LINK.adr : Nat := 0x07000028
/-- PAIR_LINK.LANES. -/
def PAIR_LINK.LANES : Fld := ⟨PAIR_LINK.adr, 0, 4⟩
/-- PAIR_LINK.RETX. -/
def PAIR_LINK.RETX : Fld := ⟨PAIR_LINK.adr, 16, 16⟩
/-- PAIR_LINK.CRCFAIL. -/
def PAIR_LINK.CRCFAIL : Fld := ⟨PAIR_LINK.adr, 32, 16⟩
/-- TWIN_STAT (R553). -/
def TWIN_STAT.adr : Nat := 0x07000030
/-- TWIN_STAT.COMPARES. -/
def TWIN_STAT.COMPARES : Fld := ⟨TWIN_STAT.adr, 0, 16⟩
/-- TWIN_STAT.MISMATCH. -/
def TWIN_STAT.MISMATCH : Fld := ⟨TWIN_STAT.adr, 16, 16⟩
/-- TWIN_STAT.ROLLBACK. -/
def TWIN_STAT.ROLLBACK : Fld := ⟨TWIN_STAT.adr, 32, 1⟩

/-- The registers of R554 (15_redundancy_and_pair.md). -/
def regsR554 : List RegRow :=
  [⟨0x01060000, 16, 0x100000, 1, 0, [⟨0, 4, .rw, 3⟩]⟩,
   ⟨0x01060008, 16, 0x100000, 1, 0, [⟨0, 1, .ro, 0⟩, ⟨1, 1, .ro, 0⟩, ⟨2, 9, .ro, 0⟩, ⟨16, 16, .rc, 0⟩, ⟨32, 32, .rc, 0⟩]⟩,
   ⟨0x01060010, 16, 0x100000, 1, 0, [⟨0, 56, .ro, 0⟩, ⟨56, 4, .ro, 0⟩]⟩]

/-- LSTEP_CFG (R554). -/
def LSTEP_CFG.adr (i : Nat) : Nat := 0x01060000 + i * 0x100000
/-- LSTEP_CFG.LIMIT. -/
def LSTEP_CFG.LIMIT (i : Nat) : Fld := ⟨LSTEP_CFG.adr i, 0, 4⟩
/-- LSTEP_STAT (R554). -/
def LSTEP_STAT.adr (i : Nat) : Nat := 0x01060008 + i * 0x100000
/-- LSTEP_STAT.ON. -/
def LSTEP_STAT.ON (i : Nat) : Fld := ⟨LSTEP_STAT.adr i, 0, 1⟩
/-- LSTEP_STAT.HARD. -/
def LSTEP_STAT.HARD (i : Nat) : Fld := ⟨LSTEP_STAT.adr i, 1, 1⟩
/-- LSTEP_STAT.UNDO. -/
def LSTEP_STAT.UNDO (i : Nat) : Fld := ⟨LSTEP_STAT.adr i, 2, 9⟩
/-- LSTEP_STAT.MISMATCH. -/
def LSTEP_STAT.MISMATCH (i : Nat) : Fld := ⟨LSTEP_STAT.adr i, 16, 16⟩
/-- LSTEP_STAT.CKPTS. -/
def LSTEP_STAT.CKPTS (i : Nat) : Fld := ⟨LSTEP_STAT.adr i, 32, 32⟩
/-- LSTEP_LAST (R554). -/
def LSTEP_LAST.adr (i : Nat) : Nat := 0x01060010 + i * 0x100000
/-- LSTEP_LAST.WHERE. -/
def LSTEP_LAST.WHERE (i : Nat) : Fld := ⟨LSTEP_LAST.adr i, 0, 56⟩
/-- LSTEP_LAST.KIND. -/
def LSTEP_LAST.KIND (i : Nat) : Fld := ⟨LSTEP_LAST.adr i, 56, 4⟩

/-- The registers of R555 (15_redundancy_and_pair.md). -/
def regsR555 : List RegRow :=
  [⟨0x02000040, 16, 0x10000, 1, 0, [⟨0, 4, .rw, 2⟩, ⟨16, 16, .rw, 1024⟩]⟩,
   ⟨0x02000048, 16, 0x10000, 1, 0, [⟨0, 1, .ro, 0⟩, ⟨1, 1, .ro, 0⟩, ⟨16, 16, .ro, 0⟩]⟩,
   ⟨0x02000050, 16, 0x10000, 1, 0, [⟨0, 32, .ro, 0⟩]⟩,
   ⟨0x02000058, 16, 0x10000, 1, 0, [⟨0, 32, .rc, 0⟩, ⟨32, 16, .rc, 0⟩]⟩]

/-- SHD_CFG (R555). -/
def SHD_CFG.adr (i : Nat) : Nat := 0x02000040 + i * 0x10000
/-- SHD_CFG.RETRY. -/
def SHD_CFG.RETRY (i : Nat) : Fld := ⟨SHD_CFG.adr i, 0, 4⟩
/-- SHD_CFG.COW_MAX. -/
def SHD_CFG.COW_MAX (i : Nat) : Fld := ⟨SHD_CFG.adr i, 16, 16⟩
/-- SHD_STAT (R555). -/
def SHD_STAT.adr (i : Nat) : Nat := 0x02000048 + i * 0x10000
/-- SHD_STAT.ON. -/
def SHD_STAT.ON (i : Nat) : Fld := ⟨SHD_STAT.adr i, 0, 1⟩
/-- SHD_STAT.UNSHADOWED. -/
def SHD_STAT.UNSHADOWED (i : Nat) : Fld := ⟨SHD_STAT.adr i, 1, 1⟩
/-- SHD_STAT.COW_PAGES. -/
def SHD_STAT.COW_PAGES (i : Nat) : Fld := ⟨SHD_STAT.adr i, 16, 16⟩
/-- SHD_RETIRED (R555). -/
def SHD_RETIRED.adr (i : Nat) : Nat := 0x02000050 + i * 0x10000
/-- SHD_RETIRED.PAIRS. -/
def SHD_RETIRED.PAIRS (i : Nat) : Fld := ⟨SHD_RETIRED.adr i, 0, 32⟩
/-- SHD_COUNT (R555). -/
def SHD_COUNT.adr (i : Nat) : Nat := 0x02000058 + i * 0x10000
/-- SHD_COUNT.COMPARES. -/
def SHD_COUNT.COMPARES (i : Nat) : Fld := ⟨SHD_COUNT.adr i, 0, 32⟩
/-- SHD_COUNT.MISMATCH. -/
def SHD_COUNT.MISMATCH (i : Nat) : Fld := ⟨SHD_COUNT.adr i, 32, 16⟩

/-- The registers of R587 (16_boot_security_update.md). -/
def regsR587 : List RegRow :=
  [⟨0x08000000, 1, 0, 1, 0, [⟨0, 1, .w1s, 0⟩, ⟨16, 15, .rw, 0⟩]⟩,
   ⟨0x08000008, 1, 0, 1, 0, [⟨0, 2, .ro, 0⟩, ⟨8, 8, .ro, 0⟩, ⟨32, 15, .ro, 0⟩]⟩,
   ⟨0x08000010, 1, 0, 1, 0, [⟨0, 2, .ro, 1⟩, ⟨8, 8, .ro, 1⟩, ⟨16, 8, .ro, 0⟩]⟩,
   ⟨0x08000018, 1, 0, 1, 0, [⟨0, 1, .ro, 0⟩, ⟨1, 1, .ro, Config.fusedDbgClosed.toNat⟩, ⟨2, 1, .ro, 0⟩, ⟨3, 1, .ro, 0⟩, ⟨8, 7, .ro, Config.fusedSvn.toNat⟩, ⟨16, 8, .ro, 0⟩]⟩,
   ⟨0x08000020, 1, 0, 1, 0, [⟨0, 1, .ro, 0⟩, ⟨1, 1, .ro, 0⟩, ⟨8, 8, .ro, 0⟩]⟩,
   ⟨0x08001000, 2048, 8, 1, 0, [⟨0, 64, .rw, 0⟩]⟩]

/-- MBX_CTL (R587). -/
def MBX_CTL.adr : Nat := 0x08000000
/-- MBX_CTL.GO. -/
def MBX_CTL.GO : Fld := ⟨MBX_CTL.adr, 0, 1⟩
/-- MBX_CTL.LEN. -/
def MBX_CTL.LEN : Fld := ⟨MBX_CTL.adr, 16, 15⟩
/-- MBX_STAT (R587). -/
def MBX_STAT.adr : Nat := 0x08000008
/-- MBX_STAT.STATE. -/
def MBX_STAT.STATE : Fld := ⟨MBX_STAT.adr, 0, 2⟩
/-- MBX_STAT.STATUS. -/
def MBX_STAT.STATUS : Fld := ⟨MBX_STAT.adr, 8, 8⟩
/-- MBX_STAT.RLEN. -/
def MBX_STAT.RLEN : Fld := ⟨MBX_STAT.adr, 32, 15⟩
/-- RST_CAUSE (R587). -/
def RST_CAUSE.adr : Nat := 0x08000010
/-- RST_CAUSE.KIND. -/
def RST_CAUSE.KIND : Fld := ⟨RST_CAUSE.adr, 0, 2⟩
/-- RST_CAUSE.SRC. -/
def RST_CAUSE.SRC : Fld := ⟨RST_CAUSE.adr, 8, 8⟩
/-- RST_CAUSE.RCAUSE. -/
def RST_CAUSE.RCAUSE : Fld := ⟨RST_CAUSE.adr, 16, 8⟩
/-- SEC_STAT (R587). -/
def SEC_STAT.adr : Nat := 0x08000018
/-- SEC_STAT.OWNED. -/
def SEC_STAT.OWNED : Fld := ⟨SEC_STAT.adr, 0, 1⟩
/-- SEC_STAT.DBG_CLOSED. -/
def SEC_STAT.DBG_CLOSED : Fld := ⟨SEC_STAT.adr, 1, 1⟩
/-- SEC_STAT.DBG_ATTACHED. -/
def SEC_STAT.DBG_ATTACHED : Fld := ⟨SEC_STAT.adr, 2, 1⟩
/-- SEC_STAT.SET_FRESH. -/
def SEC_STAT.SET_FRESH : Fld := ⟨SEC_STAT.adr, 3, 1⟩
/-- SEC_STAT.SVN. -/
def SEC_STAT.SVN : Fld := ⟨SEC_STAT.adr, 8, 7⟩
/-- SEC_STAT.GLITCHES. -/
def SEC_STAT.GLITCHES : Fld := ⟨SEC_STAT.adr, 16, 8⟩
/-- FUSE_STAT (R587). -/
def FUSE_STAT.adr : Nat := 0x08000020
/-- FUSE_STAT.WEAK. -/
def FUSE_STAT.WEAK : Fld := ⟨FUSE_STAT.adr, 0, 1⟩
/-- FUSE_STAT.BURN_DONE. -/
def FUSE_STAT.BURN_DONE : Fld := ⟨FUSE_STAT.adr, 1, 1⟩
/-- FUSE_STAT.WORD. -/
def FUSE_STAT.WORD : Fld := ⟨FUSE_STAT.adr, 8, 8⟩
/-- MBX_BUF (R587). -/
def MBX_BUF.adr (i : Nat) : Nat := 0x08001000 + i * 8
/-- MBX_BUF.DATA. -/
def MBX_BUF.DATA (i : Nat) : Fld := ⟨MBX_BUF.adr i, 0, 64⟩

/-- The registers of R588 (16_boot_security_update.md). -/
def regsR588 : List RegRow :=
  [⟨0x08100000, 1, 0, 1, 0, [⟨0, 3, .ro, 0⟩, ⟨3, 1, .ro, 0⟩, ⟨4, 1, .ro, 0⟩, ⟨5, 1, .ro, 0⟩, ⟨6, 2, .ro, 0⟩, ⟨8, 8, .ro, 0⟩, ⟨16, 14, .ro, 0⟩, ⟨32, 14, .ro, 0⟩]⟩,
   ⟨0x08100008, 1, 0, 1, 0, [⟨0, 8, .ro, 0⟩, ⟨8, 1, .w1c, 0⟩]⟩,
   ⟨0x08100010, 1, 0, 1, 0, [⟨0, 1, .w1s, 0⟩]⟩,
   ⟨0x08100018, 1, 0, 1, 0, [⟨0, 1, .rw, 0⟩, ⟨16, 16, .rw, 600⟩]⟩,
   ⟨0x08100020, 1, 0, 1, 0, [⟨0, 1, .ro, 0⟩, ⟨1, 1, .ro, 0⟩, ⟨8, 8, .ro, 0⟩, ⟨16, 8, .ro, 0⟩, ⟨24, 6, .ro, 0⟩]⟩,
   ⟨0x08100028, 1, 0, 1, 0, [⟨0, 64, .ro, 0⟩]⟩,
   ⟨0x08100030, 1, 0, 1, 0, [⟨0, 32, .ro, 0⟩, ⟨32, 16, .ro, 0⟩]⟩,
   ⟨0x08100038, 1, 0, 1, 0, [⟨0, 1, .ro, 0⟩, ⟨16, 16, .ro, 0⟩, ⟨32, 16, .rc, 0⟩]⟩]

/-- UPD_STAT (R588). -/
def UPD_STAT.adr : Nat := 0x08100000
/-- UPD_STAT.STATE. -/
def UPD_STAT.STATE : Fld := ⟨UPD_STAT.adr, 0, 3⟩
/-- UPD_STAT.KIND. -/
def UPD_STAT.KIND : Fld := ⟨UPD_STAT.adr, 3, 1⟩
/-- UPD_STAT.TRIAL. -/
def UPD_STAT.TRIAL : Fld := ⟨UPD_STAT.adr, 4, 1⟩
/-- UPD_STAT.FALLBACK. -/
def UPD_STAT.FALLBACK : Fld := ⟨UPD_STAT.adr, 5, 1⟩
/-- UPD_STAT.TRIES. -/
def UPD_STAT.TRIES : Fld := ⟨UPD_STAT.adr, 6, 2⟩
/-- UPD_STAT.SCODE. -/
def UPD_STAT.SCODE : Fld := ⟨UPD_STAT.adr, 8, 8⟩
/-- UPD_STAT.RECEIVED. -/
def UPD_STAT.RECEIVED : Fld := ⟨UPD_STAT.adr, 16, 14⟩
/-- UPD_STAT.TOTAL. -/
def UPD_STAT.TOTAL : Fld := ⟨UPD_STAT.adr, 32, 14⟩
/-- UPD_RESULT (R588). -/
def UPD_RESULT.adr : Nat := 0x08100008
/-- UPD_RESULT.CODE. -/
def UPD_RESULT.CODE : Fld := ⟨UPD_RESULT.adr, 0, 8⟩
/-- UPD_RESULT.NEW. -/
def UPD_RESULT.NEW : Fld := ⟨UPD_RESULT.adr, 8, 1⟩
/-- UPD_LOCK (R588). -/
def UPD_LOCK.adr : Nat := 0x08100010
/-- UPD_LOCK.LOCK. -/
def UPD_LOCK.LOCK : Fld := ⟨UPD_LOCK.adr, 0, 1⟩
/-- UPD_CFG (R588). -/
def UPD_CFG.adr : Nat := 0x08100018
/-- UPD_CFG.AUTO. -/
def UPD_CFG.AUTO : Fld := ⟨UPD_CFG.adr, 0, 1⟩
/-- UPD_CFG.CONFIRM_S. -/
def UPD_CFG.CONFIRM_S : Fld := ⟨UPD_CFG.adr, 16, 16⟩
/-- BOOT_STAT (R588). -/
def BOOT_STAT.adr : Nat := 0x08100020
/-- BOOT_STAT.BANK. -/
def BOOT_STAT.BANK : Fld := ⟨BOOT_STAT.adr, 0, 1⟩
/-- BOOT_STAT.CONF. -/
def BOOT_STAT.CONF : Fld := ⟨BOOT_STAT.adr, 1, 1⟩
/-- BOOT_STAT.FAIL_A. -/
def BOOT_STAT.FAIL_A : Fld := ⟨BOOT_STAT.adr, 8, 8⟩
/-- BOOT_STAT.FAIL_B. -/
def BOOT_STAT.FAIL_B : Fld := ⟨BOOT_STAT.adr, 16, 8⟩
/-- BOOT_STAT.SVN_IMAGE. -/
def BOOT_STAT.SVN_IMAGE : Fld := ⟨BOOT_STAT.adr, 24, 6⟩
/-- FW_SEQ (R588). -/
def FW_SEQ.adr : Nat := 0x08100028
/-- FW_SEQ.SEQ. -/
def FW_SEQ.SEQ : Fld := ⟨FW_SEQ.adr, 0, 64⟩
/-- FW_VER (R588). -/
def FW_VER.adr : Nat := 0x08100030
/-- FW_VER.VERSION. -/
def FW_VER.VERSION : Fld := ⟨FW_VER.adr, 0, 32⟩
/-- FW_VER.SET_FMT. -/
def FW_VER.SET_FMT : Fld := ⟨FW_VER.adr, 32, 16⟩
/-- FLASH_STAT (R588). -/
def FLASH_STAT.adr : Nat := 0x08100038
/-- FLASH_STAT.SFDP_OK. -/
def FLASH_STAT.SFDP_OK : Fld := ⟨FLASH_STAT.adr, 0, 1⟩
/-- FLASH_STAT.SIZE_MIB. -/
def FLASH_STAT.SIZE_MIB : Fld := ⟨FLASH_STAT.adr, 16, 16⟩
/-- FLASH_STAT.PROG_ERR. -/
def FLASH_STAT.PROG_ERR : Fld := ⟨FLASH_STAT.adr, 32, 16⟩

/-- The registers of R597 (17_debug.md). -/
def regsR597 : List RegRow :=
  [⟨0xF00000000, 1, 0, 1, 0, [⟨0, 16, .ro, 0x4816⟩, ⟨16, 8, .ro, Config.fusedRev.toNat⟩, ⟨24, 8, .ro, 1⟩]⟩,
   ⟨0xF00000008, 1, 0, 1, 0, [⟨0, 1, .w1c, 0⟩, ⟨1, 1, .w1c, 0⟩, ⟨2, 1, .w1c, 0⟩, ⟨8, 8, .ro, 0⟩, ⟨16, 1, .ro, 0⟩]⟩,
   ⟨0xF00000010, 1, 0, 1, 0, [⟨0, 1, .rw, 0⟩]⟩]

/-- TWD_ID (R597). -/
def TWD_ID.adr : Nat := 0xF00000000
/-- TWD_ID.PART. -/
def TWD_ID.PART : Fld := ⟨TWD_ID.adr, 0, 16⟩
/-- TWD_ID.REV. -/
def TWD_ID.REV : Fld := ⟨TWD_ID.adr, 16, 8⟩
/-- TWD_ID.PROTO. -/
def TWD_ID.PROTO : Fld := ⟨TWD_ID.adr, 24, 8⟩
/-- TWD_STAT (R597). -/
def TWD_STAT.adr : Nat := 0xF00000008
/-- TWD_STAT.PAR_ERR. -/
def TWD_STAT.PAR_ERR : Fld := ⟨TWD_STAT.adr, 0, 1⟩
/-- TWD_STAT.CRC_ERR. -/
def TWD_STAT.CRC_ERR : Fld := ⟨TWD_STAT.adr, 1, 1⟩
/-- TWD_STAT.FAB_ERR. -/
def TWD_STAT.FAB_ERR : Fld := ⟨TWD_STAT.adr, 2, 1⟩
/-- TWD_STAT.FSTATUS. -/
def TWD_STAT.FSTATUS : Fld := ⟨TWD_STAT.adr, 8, 8⟩
/-- TWD_STAT.SLEEP_EMU. -/
def TWD_STAT.SLEEP_EMU : Fld := ⟨TWD_STAT.adr, 16, 1⟩
/-- TWD_CTL (R597). -/
def TWD_CTL.adr : Nat := 0xF00000010
/-- TWD_CTL.ATTACH. -/
def TWD_CTL.ATTACH : Fld := ⟨TWD_CTL.adr, 0, 1⟩

/-- The registers of R612 (17_debug.md). -/
def regsR612 : List RegRow :=
  [⟨0x09000000, 32, 0x400, 1, 0, [⟨0, 2, .wo, 0⟩, ⟨2, 1, .rw, 0⟩, ⟨3, 1, .rw, 0⟩]⟩,
   ⟨0x09000008, 32, 0x400, 1, 0, [⟨0, 2, .ro, 0⟩, ⟨4, 3, .ro, 0⟩, ⟨8, 3, .ro, 0⟩, ⟨11, 1, .ro, 0⟩, ⟨12, 1, .w1c, 0⟩]⟩,
   ⟨0x09000010, 32, 0x400, 1, 0, [⟨0, 4, .rw, 0⟩]⟩,
   ⟨0x09000018, 32, 0x400, 1, 0, [⟨0, 6, .rw, 0⟩, ⟨8, 3, .rw, 0⟩, ⟨12, 2, .rw, 0⟩, ⟨16, 4, .rw, 0⟩, ⟨32, 16, .rw, 0⟩]⟩,
   ⟨0x09000020, 32, 0x400, 1, 0, [⟨0, 64, .rw, 0⟩]⟩,
   ⟨0x09000040, 32, 0x400, 8, 16, [⟨0, 24, .rw, 0⟩]⟩,
   ⟨0x09000048, 32, 0x400, 8, 16, [⟨0, 1, .rw, 0⟩, ⟨1, 1, .rw, 0⟩]⟩,
   ⟨0x090000C0, 32, 0x400, 4, 16, [⟨0, 56, .rw, 0⟩]⟩,
   ⟨0x090000C8, 32, 0x400, 4, 16, [⟨0, 1, .rw, 0⟩, ⟨1, 1, .rw, 0⟩, ⟨2, 2, .rw, 0⟩, ⟨8, 6, .rw, 0⟩]⟩,
   ⟨0x09010000, 16, 0x100, 1, 0, [⟨0, 1, .rw, 0⟩, ⟨1, 1, .rw, 0⟩, ⟨2, 1, .rw, 0⟩, ⟨32, 32, .rw, 0⟩]⟩,
   ⟨0x09010008, 16, 0x100, 1, 0, [⟨0, 16, .ro, 0⟩, ⟨16, 1, .ro, 0⟩, ⟨32, 16, .rc, 0⟩]⟩,
   ⟨0x09010010, 16, 0x100, 1, 0, [⟨0, 16, .rw, 0⟩]⟩,
   ⟨0x09010018, 16, 0x100, 2, 8, [⟨0, 64, .ro, 0⟩]⟩,
   ⟨0x09020000, 2, 8, 1, 0, [⟨0, 64, .rw, 0⟩]⟩,
   ⟨0x09020010, 1, 0, 1, 0, [⟨0, 16, .rw, 0⟩]⟩]

/-- DBG_CPCTL (R612). -/
def DBG_CPCTL.adr (i : Nat) : Nat := 0x09000000 + i * 0x400
/-- DBG_CPCTL.CMD. -/
def DBG_CPCTL.CMD (i : Nat) : Fld := ⟨DBG_CPCTL.adr i, 0, 2⟩
/-- DBG_CPCTL.STEP_IRQ. -/
def DBG_CPCTL.STEP_IRQ (i : Nat) : Fld := ⟨DBG_CPCTL.adr i, 2, 1⟩
/-- DBG_CPCTL.CATCH. -/
def DBG_CPCTL.CATCH (i : Nat) : Fld := ⟨DBG_CPCTL.adr i, 3, 1⟩
/-- DBG_CPSTAT (R612). -/
def DBG_CPSTAT.adr (i : Nat) : Nat := 0x09000008 + i * 0x400
/-- DBG_CPSTAT.STATE. -/
def DBG_CPSTAT.STATE (i : Nat) : Fld := ⟨DBG_CPSTAT.adr i, 0, 2⟩
/-- DBG_CPSTAT.REASON. -/
def DBG_CPSTAT.REASON (i : Nat) : Fld := ⟨DBG_CPSTAT.adr i, 4, 3⟩
/-- DBG_CPSTAT.INDEX. -/
def DBG_CPSTAT.INDEX (i : Nat) : Fld := ⟨DBG_CPSTAT.adr i, 8, 3⟩
/-- DBG_CPSTAT.LATE. -/
def DBG_CPSTAT.LATE (i : Nat) : Fld := ⟨DBG_CPSTAT.adr i, 11, 1⟩
/-- DBG_CPSTAT.REFUSED. -/
def DBG_CPSTAT.REFUSED (i : Nat) : Fld := ⟨DBG_CPSTAT.adr i, 12, 1⟩
/-- DBG_FREEZE (R612). -/
def DBG_FREEZE.adr (i : Nat) : Nat := 0x09000010 + i * 0x400
/-- DBG_FREEZE.OPT. -/
def DBG_FREEZE.OPT (i : Nat) : Fld := ⟨DBG_FREEZE.adr i, 0, 4⟩
/-- DBG_REGSEL (R612). -/
def DBG_REGSEL.adr (i : Nat) : Nat := 0x09000018 + i * 0x400
/-- DBG_REGSEL.NUM. -/
def DBG_REGSEL.NUM (i : Nat) : Fld := ⟨DBG_REGSEL.adr i, 0, 6⟩
/-- DBG_REGSEL.BANK. -/
def DBG_REGSEL.BANK (i : Nat) : Fld := ⟨DBG_REGSEL.adr i, 8, 3⟩
/-- DBG_REGSEL.WORD. -/
def DBG_REGSEL.WORD (i : Nat) : Fld := ⟨DBG_REGSEL.adr i, 12, 2⟩
/-- DBG_REGSEL.DEST. -/
def DBG_REGSEL.DEST (i : Nat) : Fld := ⟨DBG_REGSEL.adr i, 16, 4⟩
/-- DBG_REGSEL.BITADDR. -/
def DBG_REGSEL.BITADDR (i : Nat) : Fld := ⟨DBG_REGSEL.adr i, 32, 16⟩
/-- DBG_REGDATA (R612). -/
def DBG_REGDATA.adr (i : Nat) : Nat := 0x09000020 + i * 0x400
/-- DBG_REGDATA.DATA. -/
def DBG_REGDATA.DATA (i : Nat) : Fld := ⟨DBG_REGDATA.adr i, 0, 64⟩
/-- DBG_BP_ADDR (R612). -/
def DBG_BP_ADDR.adr (i0 : Nat) (i1 : Nat) : Nat := 0x09000040 + i0 * 0x400 + i1 * 16
/-- DBG_BP_ADDR.ADDR. -/
def DBG_BP_ADDR.ADDR (i0 : Nat) (i1 : Nat) : Fld := ⟨DBG_BP_ADDR.adr i0 i1, 0, 24⟩
/-- DBG_BP_CTL (R612). -/
def DBG_BP_CTL.adr (i0 : Nat) (i1 : Nat) : Nat := 0x09000048 + i0 * 0x400 + i1 * 16
/-- DBG_BP_CTL.EN. -/
def DBG_BP_CTL.EN (i0 : Nat) (i1 : Nat) : Fld := ⟨DBG_BP_CTL.adr i0 i1, 0, 1⟩
/-- DBG_BP_CTL.ACTION. -/
def DBG_BP_CTL.ACTION (i0 : Nat) (i1 : Nat) : Fld := ⟨DBG_BP_CTL.adr i0 i1, 1, 1⟩
/-- DBG_WP_ADDR (R612). -/
def DBG_WP_ADDR.adr (i0 : Nat) (i1 : Nat) : Nat := 0x090000C0 + i0 * 0x400 + i1 * 16
/-- DBG_WP_ADDR.ADDR. -/
def DBG_WP_ADDR.ADDR (i0 : Nat) (i1 : Nat) : Fld := ⟨DBG_WP_ADDR.adr i0 i1, 0, 56⟩
/-- DBG_WP_CTL (R612). -/
def DBG_WP_CTL.adr (i0 : Nat) (i1 : Nat) : Nat := 0x090000C8 + i0 * 0x400 + i1 * 16
/-- DBG_WP_CTL.EN. -/
def DBG_WP_CTL.EN (i0 : Nat) (i1 : Nat) : Fld := ⟨DBG_WP_CTL.adr i0 i1, 0, 1⟩
/-- DBG_WP_CTL.ACTION. -/
def DBG_WP_CTL.ACTION (i0 : Nat) (i1 : Nat) : Fld := ⟨DBG_WP_CTL.adr i0 i1, 1, 1⟩
/-- DBG_WP_CTL.KIND. -/
def DBG_WP_CTL.KIND (i0 : Nat) (i1 : Nat) : Fld := ⟨DBG_WP_CTL.adr i0 i1, 2, 2⟩
/-- DBG_WP_CTL.SIZE. -/
def DBG_WP_CTL.SIZE (i0 : Nat) (i1 : Nat) : Fld := ⟨DBG_WP_CTL.adr i0 i1, 8, 6⟩
/-- TRACE_CFG (R612). -/
def TRACE_CFG.adr (i : Nat) : Nat := 0x09010000 + i * 0x100
/-- TRACE_CFG.EN. -/
def TRACE_CFG.EN (i : Nat) : Fld := ⟨TRACE_CFG.adr i, 0, 1⟩
/-- TRACE_CFG.DEST. -/
def TRACE_CFG.DEST (i : Nat) : Fld := ⟨TRACE_CFG.adr i, 1, 1⟩
/-- TRACE_CFG.MODE. -/
def TRACE_CFG.MODE (i : Nat) : Fld := ⟨TRACE_CFG.adr i, 2, 1⟩
/-- TRACE_CFG.STIM_EN. -/
def TRACE_CFG.STIM_EN (i : Nat) : Fld := ⟨TRACE_CFG.adr i, 32, 32⟩
/-- TRACE_STAT (R612). -/
def TRACE_STAT.adr (i : Nat) : Nat := 0x09010008 + i * 0x100
/-- TRACE_STAT.WPTR. -/
def TRACE_STAT.WPTR (i : Nat) : Fld := ⟨TRACE_STAT.adr i, 0, 16⟩
/-- TRACE_STAT.FULL. -/
def TRACE_STAT.FULL (i : Nat) : Fld := ⟨TRACE_STAT.adr i, 16, 1⟩
/-- TRACE_STAT.LOST. -/
def TRACE_STAT.LOST (i : Nat) : Fld := ⟨TRACE_STAT.adr i, 32, 16⟩
/-- TRACE_RADDR (R612). -/
def TRACE_RADDR.adr (i : Nat) : Nat := 0x09010010 + i * 0x100
/-- TRACE_RADDR.SLOT. -/
def TRACE_RADDR.SLOT (i : Nat) : Fld := ⟨TRACE_RADDR.adr i, 0, 16⟩
/-- TRACE_RDATA (R612). -/
def TRACE_RDATA.adr (i0 : Nat) (i1 : Nat) : Nat := 0x09010018 + i0 * 0x100 + i1 * 8
/-- TRACE_RDATA.DATA. -/
def TRACE_RDATA.DATA (i0 : Nat) (i1 : Nat) : Fld := ⟨TRACE_RDATA.adr i0 i1, 0, 64⟩
/-- TRACE_DST (R612). -/
def TRACE_DST.adr (i : Nat) : Nat := 0x09020000 + i * 8
/-- TRACE_DST.ADDR. -/
def TRACE_DST.ADDR (i : Nat) : Fld := ⟨TRACE_DST.adr i, 0, 64⟩
/-- TRACE_PORT (R612). -/
def TRACE_PORT.adr : Nat := 0x09020010
/-- TRACE_PORT.PORT. -/
def TRACE_PORT.PORT : Fld := ⟨TRACE_PORT.adr, 0, 16⟩

/-- The registers of R630 (18_modes.md). -/
def regsR630 : List RegRow :=
  [⟨0x0B000100, 1, 0, 1, 0, [⟨0, 3, .ro, 2⟩, ⟨4, 3, .ro, 0⟩, ⟨7, 1, .ro, 0⟩, ⟨8, 3, .ro, 0⟩, ⟨32, 32, .ro, 0⟩]⟩,
   ⟨0x0B000108, 1, 0, 1, 0, [⟨0, 32, .ro, 0⟩, ⟨32, 32, .ro, 0⟩]⟩,
   ⟨0x0B000110, 1, 0, 1, 0, [⟨0, 4, .ro, 0⟩, ⟨32, 32, .w1c, 0⟩]⟩,
   ⟨0x0B000118, 1, 0, 1, 0, [⟨0, 1, .ro, 0⟩, ⟨1, 1, .ro, 0⟩, ⟨32, 32, .ro, 0⟩]⟩,
   ⟨0x0B000140, 16, 8, 1, 0, [⟨0, 16, .ro, 0⟩, ⟨16, 1, .ro, 0⟩, ⟨17, 1, .ro, 0⟩, ⟨18, 1, .ro, 0⟩, ⟨19, 1, .ro, 0⟩, ⟨20, 1, .ro, 0⟩, ⟨21, 1, .ro, 0⟩]⟩]

/-- SYS_STATE (R630). -/
def SYS_STATE.adr : Nat := 0x0B000100
/-- SYS_STATE.STATE. -/
def SYS_STATE.STATE : Fld := ⟨SYS_STATE.adr, 0, 3⟩
/-- SYS_STATE.SHED. -/
def SYS_STATE.SHED : Fld := ⟨SYS_STATE.adr, 4, 3⟩
/-- SYS_STATE.EMU. -/
def SYS_STATE.EMU : Fld := ⟨SYS_STATE.adr, 7, 1⟩
/-- SYS_STATE.LAST. -/
def SYS_STATE.LAST : Fld := ⟨SYS_STATE.adr, 8, 3⟩
/-- SYS_STATE.LOCKUP. -/
def SYS_STATE.LOCKUP : Fld := ⟨SYS_STATE.adr, 32, 32⟩
/-- MODE_CP (R630). -/
def MODE_CP.adr : Nat := 0x0B000108
/-- MODE_CP.CT. -/
def MODE_CP.CT : Fld := ⟨MODE_CP.adr, 0, 32⟩
/-- MODE_CP.DET. -/
def MODE_CP.DET : Fld := ⟨MODE_CP.adr, 32, 32⟩
/-- MODE_DETLOST (R630). -/
def MODE_DETLOST.adr : Nat := 0x0B000110
/-- MODE_DETLOST.CAUSE. -/
def MODE_DETLOST.CAUSE : Fld := ⟨MODE_DETLOST.adr, 0, 4⟩
/-- MODE_DETLOST.LOST. -/
def MODE_DETLOST.LOST : Fld := ⟨MODE_DETLOST.adr, 32, 32⟩
/-- MODE_DBG (R630). -/
def MODE_DBG.adr : Nat := 0x0B000118
/-- MODE_DBG.ATTACHED. -/
def MODE_DBG.ATTACHED : Fld := ⟨MODE_DBG.adr, 0, 1⟩
/-- MODE_DBG.HOLD_SENT. -/
def MODE_DBG.HOLD_SENT : Fld := ⟨MODE_DBG.adr, 1, 1⟩
/-- MODE_DBG.HALTED. -/
def MODE_DBG.HALTED : Fld := ⟨MODE_DBG.adr, 32, 32⟩
/-- MODE_PT (R630). -/
def MODE_PT.adr (i : Nat) : Nat := 0x0B000140 + i * 8
/-- MODE_PT.CLUSTERS. -/
def MODE_PT.CLUSTERS (i : Nat) : Fld := ⟨MODE_PT.adr i, 0, 16⟩
/-- MODE_PT.PRESENT. -/
def MODE_PT.PRESENT (i : Nat) : Fld := ⟨MODE_PT.adr i, 16, 1⟩
/-- MODE_PT.LOCKSTEP. -/
def MODE_PT.LOCKSTEP (i : Nat) : Fld := ⟨MODE_PT.adr i, 17, 1⟩
/-- MODE_PT.SHADOW. -/
def MODE_PT.SHADOW (i : Nat) : Fld := ⟨MODE_PT.adr i, 18, 1⟩
/-- MODE_PT.LIVE_SHD. -/
def MODE_PT.LIVE_SHD (i : Nat) : Fld := ⟨MODE_PT.adr i, 19, 1⟩
/-- MODE_PT.DET. -/
def MODE_PT.DET (i : Nat) : Fld := ⟨MODE_PT.adr i, 20, 1⟩
/-- MODE_PT.BOUND. -/
def MODE_PT.BOUND (i : Nat) : Fld := ⟨MODE_PT.adr i, 21, 1⟩

/-- The registers of R655 (19_pins_and_electrical.md). -/
def regsR655 : List RegRow :=
  [⟨0x0A000000, 8, 16, 1, 0, [⟨0, 2, .ro, 0⟩, ⟨2, 1, .ro, 0⟩, ⟨8, 7, .ro, 0⟩]⟩,
   ⟨0x0A000008, 8, 16, 1, 0, [⟨0, 2, .ro, 0⟩, ⟨2, 1, .ro, 0⟩, ⟨3, 1, .ro, 0⟩, ⟨4, 1, .ro, 0⟩, ⟨5, 1, .ro, 0⟩, ⟨6, 1, .ro, 0⟩, ⟨7, 1, .ro, 0⟩, ⟨8, 8, .ro, 0⟩, ⟨16, 16, .rc, 0⟩, ⟨32, 16, .ro, 0⟩]⟩,
   ⟨0x0A000100, 1, 0, 1, 0, [⟨0, 8, .ro, 0⟩, ⟨8, 4, .ro, 0⟩, ⟨12, 1, .ro, 0⟩, ⟨13, 1, .ro, 0⟩, ⟨14, 1, .ro, 0⟩, ⟨15, 1, .ro, 0⟩, ⟨16, 4, .ro, 0⟩, ⟨20, 16, .ro, 0⟩, ⟨40, 4, .ro, 0⟩]⟩,
   ⟨0x0A000108, 1, 0, 1, 0, [⟨0, 2, .ro, Config.strapBmcAddr.toNat⟩, ⟨2, 1, .ro, Config.strapM0Rate.toNat⟩, ⟨3, 1, .ro, Config.strapHbWire.toNat⟩, ⟨4, 1, .ro, Config.strapTest.toNat⟩]⟩,
   ⟨0x0A000110, 1, 0, 1, 0, [⟨0, 16, .ro, 0⟩]⟩,
   ⟨0x0A000118, 1, 0, 1, 0, [⟨0, 16, .rw, 0⟩]⟩,
   ⟨0x0A000120, 1, 0, 1, 0, [⟨0, 1, .ro, 0⟩, ⟨16, 16, .ro, 0⟩]⟩,
   ⟨0x0A000128, 1, 0, 1, 0, [⟨0, 48, .ro, 0⟩]⟩,
   ⟨0x0A000400, 64, 8, 1, 0, [⟨0, 8, .ro, 0⟩]⟩]

/-- SB_CFG (R655). -/
def SB_CFG.adr (i : Nat) : Nat := 0x0A000000 + i * 16
/-- SB_CFG.RATE. -/
def SB_CFG.RATE (i : Nat) : Fld := ⟨SB_CFG.adr i, 0, 2⟩
/-- SB_CFG.EN. -/
def SB_CFG.EN (i : Nat) : Fld := ⟨SB_CFG.adr i, 2, 1⟩
/-- SB_CFG.ADDR. -/
def SB_CFG.ADDR (i : Nat) : Fld := ⟨SB_CFG.adr i, 8, 7⟩
/-- SB_STAT (R655). -/
def SB_STAT.adr (i : Nat) : Nat := 0x0A000008 + i * 16
/-- SB_STAT.STATE. -/
def SB_STAT.STATE (i : Nat) : Fld := ⟨SB_STAT.adr i, 0, 2⟩
/-- SB_STAT.SWAPPED. -/
def SB_STAT.SWAPPED (i : Nat) : Fld := ⟨SB_STAT.adr i, 2, 1⟩
/-- SB_STAT.STUCK. -/
def SB_STAT.STUCK (i : Nat) : Fld := ⟨SB_STAT.adr i, 3, 1⟩
/-- SB_STAT.NOPULL. -/
def SB_STAT.NOPULL (i : Nat) : Fld := ⟨SB_STAT.adr i, 4, 1⟩
/-- SB_STAT.RISE_FAIL. -/
def SB_STAT.RISE_FAIL (i : Nat) : Fld := ⟨SB_STAT.adr i, 5, 1⟩
/-- SB_STAT.SHORT. -/
def SB_STAT.SHORT (i : Nat) : Fld := ⟨SB_STAT.adr i, 6, 1⟩
/-- SB_STAT.ID_BAD. -/
def SB_STAT.ID_BAD (i : Nat) : Fld := ⟨SB_STAT.adr i, 7, 1⟩
/-- SB_STAT.FOUND. -/
def SB_STAT.FOUND (i : Nat) : Fld := ⟨SB_STAT.adr i, 8, 8⟩
/-- SB_STAT.NACKS. -/
def SB_STAT.NACKS (i : Nat) : Fld := ⟨SB_STAT.adr i, 16, 16⟩
/-- SB_STAT.RISE_NS. -/
def SB_STAT.RISE_NS (i : Nat) : Fld := ⟨SB_STAT.adr i, 32, 16⟩
/-- SB_WIRE (R655). -/
def SB_WIRE.adr : Nat := 0x0A000100
/-- SB_WIRE.SB_OFF. -/
def SB_WIRE.SB_OFF : Fld := ⟨SB_WIRE.adr, 0, 8⟩
/-- SB_WIRE.VRRDY_BAD. -/
def SB_WIRE.VRRDY_BAD : Fld := ⟨SB_WIRE.adr, 8, 4⟩
/-- SB_WIRE.VINMON_OPEN. -/
def SB_WIRE.VINMON_OPEN : Fld := ⟨SB_WIRE.adr, 12, 1⟩
/-- SB_WIRE.HB_OUT_OFF. -/
def SB_WIRE.HB_OUT_OFF : Fld := ⟨SB_WIRE.adr, 13, 1⟩
/-- SB_WIRE.CPF_SHORT. -/
def SB_WIRE.CPF_SHORT : Fld := ⟨SB_WIRE.adr, 14, 1⟩
/-- SB_WIRE.TT_SHORT. -/
def SB_WIRE.TT_SHORT : Fld := ⟨SB_WIRE.adr, 15, 1⟩
/-- SB_WIRE.EVT_OUT_OFF. -/
def SB_WIRE.EVT_OUT_OFF : Fld := ⟨SB_WIRE.adr, 16, 4⟩
/-- SB_WIRE.GPIO_OFF. -/
def SB_WIRE.GPIO_OFF : Fld := ⟨SB_WIRE.adr, 20, 16⟩
/-- SB_WIRE.RAIL_FAIL. -/
def SB_WIRE.RAIL_FAIL : Fld := ⟨SB_WIRE.adr, 40, 4⟩
/-- SB_STRAP (R655). -/
def SB_STRAP.adr : Nat := 0x0A000108
/-- SB_STRAP.BMCADDR. -/
def SB_STRAP.BMCADDR : Fld := ⟨SB_STRAP.adr, 0, 2⟩
/-- SB_STRAP.M0RATE. -/
def SB_STRAP.M0RATE : Fld := ⟨SB_STRAP.adr, 2, 1⟩
/-- SB_STRAP.HBWIRE. -/
def SB_STRAP.HBWIRE : Fld := ⟨SB_STRAP.adr, 3, 1⟩
/-- SB_STRAP.TEST. -/
def SB_STRAP.TEST : Fld := ⟨SB_STRAP.adr, 4, 1⟩
/-- GPIO_IN (R655). -/
def GPIO_IN.adr : Nat := 0x0A000110
/-- GPIO_IN.IN. -/
def GPIO_IN.IN : Fld := ⟨GPIO_IN.adr, 0, 16⟩
/-- GPIO_OUT (R655). -/
def GPIO_OUT.adr : Nat := 0x0A000118
/-- GPIO_OUT.OUT. -/
def GPIO_OUT.OUT : Fld := ⟨GPIO_OUT.adr, 0, 16⟩
/-- FRU_INFO (R655). -/
def FRU_INFO.adr : Nat := 0x0A000120
/-- FRU_INFO.VALID. -/
def FRU_INFO.VALID : Fld := ⟨FRU_INFO.adr, 0, 1⟩
/-- FRU_INFO.BOARD_ID. -/
def FRU_INFO.BOARD_ID : Fld := ⟨FRU_INFO.adr, 16, 16⟩
/-- FRU_MAC (R655). -/
def FRU_MAC.adr : Nat := 0x0A000128
/-- FRU_MAC.MAC. -/
def FRU_MAC.MAC : Fld := ⟨FRU_MAC.adr, 0, 48⟩
/-- PIN_FUNC (R655). -/
def PIN_FUNC.adr (i : Nat) : Nat := 0x0A000400 + i * 8
/-- PIN_FUNC.SEL. -/
def PIN_FUNC.SEL (i : Nat) : Fld := ⟨PIN_FUNC.adr i, 0, 8⟩

/-- Every register of the Control Space. -/
def regTable : List RegRow :=
  regsR70 ++
  regsR153 ++
  regsR241 ++
  regsR290 ++
  regsR345 ++
  regsR375 ++
  regsR397 ++
  regsR418 ++
  regsR419 ++
  regsR434 ++
  regsR478 ++
  regsR479 ++
  regsR480 ++
  regsR481 ++
  regsR482 ++
  regsR483 ++
  regsR484 ++
  regsR514 ++
  regsR515 ++
  regsR553 ++
  regsR554 ++
  regsR555 ++
  regsR587 ++
  regsR588 ++
  regsR597 ++
  regsR612 ++
  regsR630 ++
  regsR655

/-- Whether the table's row holds the register at an address: the address is one of those that its indices give. -/
def RegRow.holds (r : RegRow) (a : Nat) : Bool :=
  let d := a - r.base
  let hi := if r.s1 = 0 then 0 else d / r.s1
  let rest := if r.s1 = 0 then d else d % r.s1
  let lo := if r.s2 = 0 then 0 else rest / r.s2
  let rest2 := if r.s2 = 0 then rest else rest % r.s2
  r.base ≤ a && hi < r.n1 && lo < r.n2 && rest2 = 0

/-- The row that holds the register at an address, none where no register is assigned. -/
def regRowAt (a : Nat) : Option RegRow := regTable.find? (fun r => r.holds a)

/-- The word that a row's fields give at reset. -/
def RegRow.resetWord (r : RegRow) : Word :=
  r.fields.foldl (fun w f => w ||| ((BitVec.ofNat 64 f.reset &&& lowMask f.width) <<< f.lsb)) 0


/-- THRESH and LEAK_MS of the buckets at reset (R368); buckets 22 to 31 are reserved. -/
def bucketDefaults : List (Nat × Nat) :=
  [(64, 1000), (1, 0), (256, 100), (1, 0), (256, 100), (1, 0), (1, 0), (1, 0), (16, 1000), (1, 0), (1, 0), (1, 0),
   (64, 1000), (1, 0), (1, 0), (1, 0), (1, 0), (64, 10), (1024, 1), (16, 1000), (1, 0), (16, 1000)]

/-- The reset priority of a master of the fast matrix (R406). -/
def masterPrio (m : Nat) : Nat :=
  if m < 16 then 8 else if m < 32 then 4 else if m = 32 then 10 else if m = 33 then 12 else if m = 34 then 15
  else if m = 35 then 14 else if m = 36 then 13 else 0

/-- The word of FAB_PRIO that holds masters 16w to 16w + 15 at reset (R418). -/
def fabPrioReset (w : Nat) : Word :=
  (List.range 16).foldl (fun v i => v ||| (BitVec.ofNat 64 (masterPrio (16 * w + i)) <<< (4 * i))) 0

/-- The registers whose reset value depends on the index: BKT_CFG (R368), FAB_PRIO (R406, R418), ETH_CFG (R478),
SESS_CTL (R480), SB_CFG and PIN_FUNC (R655). -/
def specialReset (a : Nat) : Option Word :=
  if 0x05200100 ≤ a ∧ a < 0x05200200 then
    let b := bucketDefaults.getD ((a - 0x05200100) / 8) (0, 0)
    some (BitVec.ofNat 64 (b.1 + b.2 * 65536))
  else if 0x05100000 ≤ a ∧ a < 0x05100440 then some (fabPrioReset ((a % 0x20) / 8))
  else if a = ETH_CFG.adr 3 then some ((ETH_CFG.MODE 3).setIn 0 4 ||| ((ETH_CFG.FEC25 3).setIn 0 1) ||| ((ETH_CFG.MAXFRAME 3).setIn 0 9216))
  else if SESS_CTL.adr 0 ≤ a ∧ a < SESS_CTL.adr 16 ∧ a % 32 = 0 then some 3
  else if SB_CFG.adr 0 ≤ a ∧ a < SB_CFG.adr 7 ∧ a % 16 = 0 then some 1
  else if (PIN_FUNC.adr 0x10 ≤ a ∧ a < PIN_FUNC.adr 0x18) ∨ (PIN_FUNC.adr 0x20 ≤ a ∧ a < PIN_FUNC.adr 0x26) then some 1
  else none

/-- What a register reads after reset: the value the chapters state, 0 for reserved bits (R13). -/
def regReset (a : Nat) : Word :=
  match specialReset a with
  | some v => v
  | none =>
    match regRowAt a with
    | some r => r.resetWord
    | none => 0

end Sys2Proof.Machine
end

