-- ==== Sys2Proof/Machine/State.lean ====
section
/-! DEFINITION. The state of the part: plain data. Registers of the Control Space stand in one sparse file (`csr`), memory,
tags and check errors in sparse maps, and what the chapters give the blocks beside registers in a structure for each. -/

namespace Sys2Proof.Machine

/-- Why the part stops. No command of this part stops it, so there is no reason: every command has an effect, or finds
that its moment has not come and leaves the state unchanged (log entry 5, DESIGN CHOICE). -/
inductive Fault where
  /-- Raised by nothing: the part has no fault outside its own exceptions. Safe. -/
  | none
  deriving DecidableEq, Repr

/-- Why a command has no meaning. -/
inductive Refusal where
  /-- Raised by an arm of `exec` that has no meaning yet; no arm does. Safe. -/
  | notModelled (mnemonic : String)
  deriving DecidableEq, Repr

/-- The bits that differ between what was stored and what the array holds: a 64-bit word and its check field (R371), and
whether an injection put them there (R369). -/
structure Err where
  d : Word
  c : BitVec 48
  inj : Bool
  deriving DecidableEq, Repr

/-- A capability: 128 bits and a tag (R114). -/
structure Cap where
  bits : BitVec 128
  tag : Bool
  deriving DecidableEq, Repr

/-- A stream descriptor (R156), with what an injection left in its check-coded word (R204). -/
structure DReg where
  cap : Cap
  offset : BitVec 48
  stride : BitVec 48
  etype : BitVec 4
  fields : BitVec 2
  space : Bool
  err : Err
  deriving DecidableEq, Repr

/-- How a CP runs (R397). -/
inductive CpRun where
  | inReset
  | running
  | lockup
  | halted
  deriving DecidableEq, Repr

/-- The CP stores that wait for vector work (R218). -/
inductive StoreKind where
  | b
  | h
  | w
  | f
  | k
  | c
  | d
  | v
  deriving DecidableEq, Repr

/-- What a stalled CP waits for. -/
inductive Stall where
  /-- Nothing: the CP issues. -/
  | none
  /-- A VSYNC (R108). -/
  | vsync
  /-- A WAIT (R402). -/
  | wait
  /-- A store that meets earlier vector work (R218), with the bytes that a masked SVST stores. -/
  | store (kind : StoreKind) (r : Reg) (k : Reg) (off : BitVec 12) (mask : Word)
  /-- A vector issue (R217, R203). -/
  | issue (op : BitVec 10) (v : VecFields)
  /-- A CFREE (R139, R140). -/
  | cfree (a : Reg)
  /-- A register or bit of an outstanding vector instruction (R203, R162). -/
  | vector
  /-- An IN that awaits its response (R85): destination register and port. -/
  | inPort (d : Reg) (port : BitVec 32) (len : Nat)
  /-- A page that waits for a zeroed granule (R135), a held write (R147) or a compare (R527). -/
  | page
  deriving DecidableEq, Repr

/-- The architectural state of a logical CP, which a CP checkpoint records (R71, R74, R89, R519). -/
structure CpArch where
  g : Vector Word 16
  k : Vector Cap 16
  f : Vector Word 64
  d : Vector DReg 16
  /-- The next instruction; 2^24 when it lies beyond the program space (R80). -/
  pc : BitVec 25
  /-- A delayed branch was taken or passed: the address after the slot, and the branch (R101). -/
  delay : Option (BitVec 25 × BitVec 24)
  /-- The program capability and the entry capability (R127, R387). -/
  pcc : Cap
  entryCap : Cap
  /-- Flags Z, N, C, V, T, DZ, OV, DI (R89). -/
  flags : Byte
  /-- MODE, XVEC and XFRAME as written, and as in force (R107). -/
  mode : BitVec 7
  modeOn : BitVec 7
  xvec : BitVec 24
  xvecOn : BitVec 24
  xvecPend : Bool
  xframe : BitVec 5
  xframeOn : BitVec 5
  /-- CCTL.IINV and DINV that await SYNCC. -/
  iinv : Bool
  dinv : Bool
  xcause : Word
  xpc : BitVec 24
  xinfo : Word
  xmask : BitVec 3
  vl : BitVec 40
  fpstat : BitVec 16
  ncy : BitVec 16
  loopcnt : Word
  loopbeg : BitVec 24
  loopend : BitVec 24
  deriving DecidableEq, Repr

/-- A timer (R87). -/
structure Timer where
  cnt : Word
  cmp : Word
  en : Bool
  periodic : Bool
  hit : Bool
  deriving DecidableEq, Repr

/-- The CP watchdog (R403). -/
structure Wdg where
  en : Bool
  action : Bool
  lock : Bool
  load : BitVec 32
  cnt : BitVec 32
  warn : BitVec 32
  grace : BitVec 32
  warned : Bool
  expired : Bool
  deriving DecidableEq, Repr

/-- A value in the tree of a reduction (R192): a hole or the bits of an element. -/
abbrev Leaf := Option Word

/-- An entry of a vector queue (R217): the instruction, what it sampled, and the partial results of its strips. -/
structure VEntry where
  op : BitVec 10
  v : VecFields
  pc : BitVec 24
  vl : BitVec 40
  ct : Bool
  det : Bool
  rnd : BitVec 3
  ftz : Bool
  daz : Bool
  scalar : Option Word
  dD : Option DReg
  dA : Option DReg
  dB : Option DReg
  dC : Option DReg
  dM : Option DReg
  ex : List DReg
  /-- The entry joined the group of its predecessor (R207). -/
  joins : Bool
  /-- The group was closed after this entry (R208). -/
  cut : Bool
  /-- Partial results of committed strips, one list of lanes for each strip (R222). -/
  partials : List (Nat × List Leaf)
  /-- IEEE and DZ, OV, DI flags collected by strips that a compare has not yet covered (R526). -/
  flags : Byte
  err : Err
  deriving DecidableEq, Repr

/-- A vector fault (R232): where, and what the underlying cause gives. -/
structure VFault where
  strip : Nat
  member : Nat
  elem : Nat
  cause : Byte
  info : Word
  deriving DecidableEq, Repr

/-- A strip in flight or in a Shadow window: its number, its pipe, and what an injection left in its dispatch (R242). -/
structure Flight where
  strip : Nat
  pipe : Nat
  err : Err
  deriving DecidableEq, Repr

/-- Copy-on-write pages of a Shadow window (R527): the first virtual page of a leaf, its pages, and the first granule of
the copy. -/
structure CowPage where
  page : Nat
  n : Nat
  copy : Nat
  deriving DecidableEq, Repr

/-- The vector queue of a logical CP (R217, R229, R231, R236). -/
structure VQueue where
  entries : List VEntry
  lo : BitVec 40
  map : Word
  flights : List Flight
  faults : List VFault
  flt : Bool
  pend : Bool
  stop : Bool
  member : BitVec 3
  fcause : Byte
  fpc : BitVec 24
  finfo : Word
  /-- A VSAVE that waits for its strips, with its slot (R236). -/
  saving : Option (Fin 64)
  /-- A STOP that waits for its strips. -/
  stopping : Bool
  /-- A command of VQ_CTL has ended the hold of the debug freeze in force (R236, R241). -/
  thaw : Bool
  /-- Strips dispatched to this CP in the current round (R227). -/
  turn : Nat
  /-- The strip that waits for a home pipe (R224). -/
  waiting : Option Nat
  /-- The wait for a home pipe has ended for this strip. -/
  stolen : Bool
  /-- The pipe that runs all strips of a VRSUMO (R222), and whether STRIP_GO released the oldest group (R422). -/
  onePipe : Option Nat
  go : Bool
  /-- Shadow: the strips committed since the last compare, retries of the window, and its copied pages (R526, R527). -/
  win : List Flight
  retries : Nat
  cow : List CowPage
  /-- Entries queued before the open sweep epoch that have not completed (R141). -/
  preSweep : Nat
  deriving DecidableEq, Repr

/-- A line of the data cache: virtual line number and partition, its bytes, and what an injection left in it. -/
structure DLine where
  line : Nat
  bytes : List Byte
  err : Err
  deriving DecidableEq, Repr

/-- An entry of the undo log (R520): a granule of the data space with its bytes and tag, or a bit address with its bit. -/
inductive Undo where
  | granule (key : Nat) (bytes : List Byte) (tag : Bool)
  | bit (addr : BitVec 16) (old : Bool)
  deriving DecidableEq, Repr

/-- An interrupt entry in its first 9 cycles, which a higher interrupt may take over (R393). -/
structure EntryWin where
  irq : BitVec 8
  deriving DecidableEq, Repr

/-- Why a halted CP halted (R612 gives the numbers). -/
structure DbgStop where
  reason : BitVec 3
  index : BitVec 3
  late : Bool
  deriving DecidableEq, Repr

/-- A program word in the instruction cache, with what an injection left in it (R79, R347). -/
structure IcWord where
  w : Nat
  bits : BitVec 56
  err : Err
  deriving DecidableEq, Repr

/-- A program word in the prefetch queue: its four parcels as they were read, and whether the read was uncorrectable (R378, R360). -/
structure PfWord where
  w : Nat
  bits : BitVec 56
  bad : Bool
  deriving DecidableEq, Repr

/-- A logical CP: architectural state and what stands around it. -/
structure Cp where
  a : CpArch
  run : CpRun
  stall : Stall
  /-- LCAUSE, LCODE and WDG_RESET of CP_STAT (R397). -/
  lcause : BitVec 4
  lcode : Byte
  wdgReset : Bool
  cycle : Word
  instret : Word
  /-- INSTRET as the last CP checkpoint recorded it (R519). -/
  ckRet : Word
  /-- Watch and COINCIDENT flags of EC0 to EC63 (R88). -/
  watch : Word
  coin : Word
  pendBits : BitVec 256
  enabBits : BitVec 256
  iprio : Vector Word 16
  /-- Bit-variable RAM: the bits that are 1. -/
  bitram : List (Nat × Bool)
  /-- The granule of an LDL reservation: its physical key div 64 (R105). -/
  resv : Option Nat
  /-- Instructions left in a LOCK window (R106). -/
  lock : Nat
  timers : Vector Timer 4
  wdg : Wdg
  pramAddr : BitVec 14
  dcache : List DLine
  /-- Program words that the instruction cache holds (R76, R79). -/
  icache : List IcWord
  /-- The prefetch queue: program words as they were read, the one of the next instruction first (R378). -/
  pf : List PfWord
  /-- The delayed branch whose slot comes next was taken (R101, R378). -/
  dtaken : Bool
  vq : VQueue
  entryWin : Option EntryWin
  dbg : DbgStop
  haltReq : Bool
  stepping : Bool
  /-- The instruction runs without matching its breakpoint again (R602). -/
  skipBp : Bool
  /-- A watchpoint that an access matched, and a breakpoint matched inside a LOCK window (R602, R603). -/
  wp : Option (Fin 4)
  lateBp : Option (Fin 8)
  /-- The CP was in lockup when it was halted (R608). -/
  fromLockup : Bool
  /-- MODE, XVEC, XFRAME and CCTL as a debugger wrote them, which the resume brings into force (R605). -/
  dbgWrote : BitVec 4
  /-- Lockstep: the last checkpoint, the undo log, rollbacks to it and interrupts accepted since (R519 to R522). -/
  ckpt : Option CpArch
  undo : List Undo
  rollbacks : Nat
  taken : List (BitVec 8)
  hard : Bool
  /-- Check errors of the bit-variable RAM, by word of 64 bits (R347). -/
  bitErr : List (Nat × Err)
  /-- Destination ranges of the vector instructions issued since the last VSYNC completed (R77). -/
  vext : List (Nat × Nat)
  deriving DecidableEq, Repr

/-- What a PARTITION and a QUOTA record give a partition, quotas after scaling (R41, R42, R56). -/
structure PartRec where
  mask : BitVec 16
  lockstep : Bool
  shadow : Bool
  det : Bool
  ct : Bool
  il : BitVec 2
  hash : BitVec 3
  rootTr : Bool
  rootPn : Bool
  rootCt : Bool
  progMib : BitVec 5
  entry : BitVec 24
  nearReserve : Nat
  nearLimit : Nat
  celReserve : Nat
  celLimit : Nat
  deriving DecidableEq, Repr

/-- What a PG_HINT command asks of a range of pages: placement, layout or guard (R149). -/
inductive HintKind where
  | near
  | cold
  | none
  | layout (il : BitVec 2) (hash : BitVec 3) (size : BitVec 2)
  | guard
  | unguard
  deriving DecidableEq, Repr

/-- A hint on `n` pages of 64 KiB from page number `base`. -/
structure Hint where
  base : Nat
  n : Nat
  kind : HintKind
  deriving DecidableEq, Repr

/-- The use of a taken granule: data at a virtual page, program region, page tables, or save slots. -/
inductive Use where
  | data
  | prog
  | table
  | slot
  | copy
  deriving DecidableEq, Repr

/-- A taken granule of either tier: its partition, its interleave and its hash, and its use (R130, R310). -/
structure Gran where
  owner : PartId
  il : BitVec 2
  hash : BitVec 3
  use : Use
  deriving DecidableEq, Repr

/-- A translation held in a cluster's unit (R131): the first page of 64 KiB of its leaf, how many such pages the leaf maps, and what an
injection left in the entry. -/
structure TlbEnt where
  cl : ClusterId
  part : PartId
  page : Nat
  pages : Nat
  err : Err
  deriving DecidableEq, Repr

/-- A migration in progress (R147): partition, page, the granule it goes to and, once the leaf is rewritten and writes are
held, the granule it leaves. -/
structure Migr where
  part : PartId
  page : Nat
  dst : Nat
  held : Bool
  deriving DecidableEq, Repr

/-- One sampled access (R144), with what an injection left in the sample (R154). -/
structure HeatSample where
  part : PartId
  page : Nat
  cl : ClusterId
  err : Err
  deriving DecidableEq, Repr

/-- A line of a tag cache (R330): its key, whether it differs from the tag store, whether it was fetched poisoned, and what an injection
left in its first word (R346). -/
structure TagLine where
  key : Nat
  dirty : Bool
  bad : Bool
  err : Err
  deriving DecidableEq, Repr

/-- The stream network (R18 to R22, R27, R336 to R338): the queue at each input of each router, the queue of each attached unit for what
reaches it, the input that each output channel served last, and units whose next access carries a poisoned flit. -/
structure MeshSt where
  inq : List (Nat × List Flit)
  outq : List (Nat × List Flit)
  last : List (Nat × Nat)
  bad : List (MeshUnit × Bool)
  deriving DecidableEq, Repr

/-- A saved vector queue (R237). -/
structure SlotImg where
  slot : Fin 64
  vq : VQueue
  deriving DecidableEq, Repr

/-- A partition: its records, its page tables and program region, its heap, hints and save slots. -/
structure Part where
  rcd : Option PartRec
  /-- Physical address of the L3 table (R656). -/
  root : Option Nat
  /-- The smaller tables: address and size. -/
  tables : List (Nat × Nat)
  /-- Granules of the program region in order. -/
  prog : List Nat
  bump : Nat
  reuse : List (Nat × Nat)
  qActive : List (Nat × Nat)
  qNext : List (Nat × Nat)
  /-- What injections left in ranges of the quarantine sets, by base (R154). -/
  qErr : List (Nat × Err)
  hints : List Hint
  slots : List SlotImg
  /-- The granules that hold save slots, by slot number div 4 (R237). -/
  slotGrans : List (Nat × Nat)
  /-- Pages of the windows written since the last checkpoint (R82, R541). -/
  winDirty : List Nat
  /-- A shootdown that awaits its acknowledgements (R150). -/
  shoot : Bool
  /-- The pages that Turning is asked to move by hints or pinned accesses (R149). -/
  moveQ : List Nat
  /-- Pages of the PG_HINT command in progress (R149, R153). -/
  hintBusy : Option (Nat × Nat)
  /-- Near granules that demotions have given up in exchange for hot Cellar pages (R145). -/
  exch : Nat
  /-- A heat period has ended since the partition's release: Turning may move its pages (R155). -/
  turnOn : Bool
  /-- Strip sharing: the CP that holds the turn, and the one that holds it among the urgent CPs (R227). -/
  turnCp : Nat
  turnUrg : Nat
  /-- Pipes that are lit, by pipe number. -/
  lit : Word
  deriving DecidableEq, Repr

/-- A channel of the event router: when an event last reached it and last passed it, in ns (R424, R425). -/
structure Chan where
  arrived : Option Nat
  passed : Option Nat
  deriving DecidableEq, Repr

/-- The event router beside its registers (R420 to R435). -/
structure EvtSt where
  /-- Settings in force, where they differ from reset: selectors, channels and group sources. -/
  on : List (Nat × Word)
  /-- The settings that the commit in progress checks. -/
  snap : Option (List (Nat × Word))
  /-- When each line last fired, in ns. -/
  fired : List (Nat × Nat)
  chans : Vector Chan 64
  /-- STRIP_GO events that await use, by CP (R422). -/
  stripGo : BitVec 32
  /-- EVT_OUTn pulses in progress. -/
  pulse : BitVec 4
  /-- Triggers of DE0 to DE15, checkpoint requests and the wake request that consumers raised. -/
  deTrig : BitVec 16
  mirrorReq : Bool
  wakeReq : Bool
  custIn : BitVec 16
  /-- A shed demand of SHED_REQ for this instant (R422). -/
  shedReq : BitVec 3
  /-- Engines that run a descriptor, a Mirror checkpoint in progress, and whether the main rails are off: the consumers
  that are busy (R421, R431). -/
  deRun : BitVec 16
  mirrorBusy : Bool
  dark : Bool
  /-- When each group was last disabled, in ns (R433). -/
  disAt : List (Nat × Nat)
  deriving DecidableEq, Repr

/-- Paging, revocation and upkeep of memory. -/
structure MemSt where
  granules : List (Nat × Gran)
  tlb : List TlbEnt
  migr : List Migr
  samples : List HeatSample
  /-- Accesses counted towards the next sample: stacks 0 to 15, then Cellar channels (R144). -/
  heatCnt : Vector Nat 24
  /-- The millisecond in which pages last moved, and how many did (R145). -/
  turned : Nat × Nat
  /-- The lines of the tag caches, the latest used first (R330). -/
  tagc : List TagLine
  zNear : Nat
  zCellar : Nat
  /-- Clusters whose taking part in the open epoch is not done, scrub positions, and the units the scrub found bad. -/
  nearPos : Nat
  celPos : Nat
  /-- Granules present in each tier after training. -/
  nearGran : Nat
  celGran : Nat
  /-- Key generation of each partition's Cellar key pair and of the module key pair (R151). -/
  keyGen : Vector Nat 16
  modKey : Nat
  /-- Upkeep: activations of banks since refresh and their open rows, near banks first (R323, R331), and the thresholds of refresh
  management that the DIMMs of each Cellar channel give, 0 for none (R331). -/
  celRaa : Vector Nat 8
  acts : List (Nat × Nat)
  openRow : List (Nat × Nat)
  /-- Symbols charged to lanes in the current calibration period (R325). -/
  lanes : List (Nat × Nat)
  /-- HASH entries in force: KIND, FOLD_LO and FOLD_WAYS by HASH_ID (R45). -/
  hashes : List (Nat × (Nat × Nat × Nat))
  /-- When a calibration slot last ran, in ns, and the slots that run again under shedding (R328): by pseudo-channel
  (32 × stack + number) and from 512 by sub-channel (2 × channel + number). -/
  slotLast : List (Nat × Nat)
  slotAgain : List Nat
  /-- Stacks whose write levelling waits for a slot, and the pseudo-channels that a running one has still to visit. -/
  wlPend : BitVec 16
  wlLeft : Vector (BitVec 32) 16
  /-- Byte groups whose spare lane is in use, by pseudo-channel (R325). -/
  spares : List (Nat × Nat)
  /-- DIMM sensors that read above 85 °C, by DIMM (R331). -/
  dimmHot : BitVec 16
  /-- Words of grid-coded arrays whose corrected byte waits to be written back (R351). -/
  wb : List Nat
  /-- Device corrections of the last second: unit, device, rank and times (R358). -/
  devCorr : List (Nat × Nat)
  /-- Lane margin streaks (R325). -/
  streak : List (Nat × Nat)
  deriving DecidableEq, Repr

/-- A trace packet before it has its sequence number (R610). -/
structure TracePkt where
  data : Word
  time : BitVec 40
  port : BitVec 5
  cp : BitVec 5
  kind : BitVec 4
  deriving DecidableEq, Repr

/-- The trace of a cluster: packets that wait, packets dropped per CP since the last overflow packet, and sequences. -/
structure Trc where
  queue : List TracePkt
  lost : Vector Nat 2
  seq : BitVec 10
  dgram : BitVec 32
  deriving DecidableEq, Repr

/-- The debug policy of the structure in force (R51): PORT_EN, TRACE_M0, PAIR_HOLD and HALT_MASK. -/
structure DbgPol where
  portEn : Bool
  traceM0 : Bool
  pairHold : Bool
  haltMask : BitVec 16
  deriving DecidableEq, Repr
/-- Load Advance of a quadrant (R495 to R498): the pipes of the announcement in progress and its step in mA, pipes that wait
for the next one, and the pins held at 0 after a ramp. -/
structure LaSt where
  pipes : List Nat
  step : Nat
  wait : List Nat
  hold0 : Bool
  deriving DecidableEq, Repr

/-- A level of the shed ladder: SAG_MV, ENTER_US, EXIT_MS and RET_MV (R48, R507). -/
structure Rung where
  sag : Nat
  enter : Nat
  exit : Nat
  ret : Nat
  deriving DecidableEq, Repr

/-- Power, clocks and the shed ladder beside their registers. Clocks are in steps of 25 MHz. -/
structure PwrSt where
  la : Vector LaSt 4
  /-- UNSHADOW_MASK of the structure in force (R48). -/
  unshadow : BitVec 16
  /-- The pacing rate that a quadrant's CLOCK record selects, 0 for the identity's own, none without a record (R49). -/
  didtSel : Vector (Option Nat) 4
  /-- Quadrants that use their on-die sense, since their remote sense was found open (R493). -/
  onDie : BitVec 4
  /-- The target clock of each quadrant in 25 MHz units (R49, R57). -/
  target : Vector Nat 4
  /-- Clocks as the power controller and throttling allow them, and the clock that the setpoint in force allows (R491, R500,
  R501). -/
  pwrClk : Vector Nat 4
  thermClk : Vector Nat 4
  setClk : Vector Nat 4
  /-- A setpoint that an acknowledged AVSBus write raised, and writes that failed in a row (R491). -/
  raise : Vector (Option Nat) 4
  avsFails : Vector Nat 4
  /-- Quadrants throttled (R501). -/
  throttled : BitVec 4
  /-- Rails enabled, in the order of R488, and VRRDY inputs: level, and low for 100 µs (R492). -/
  rails : Nat
  vrrdy : BitVec 4
  vrrdyLong : BitVec 4
  /-- Power estimates, newest first: watts and how many microseconds in a row (R500). -/
  watts : List (Nat × Nat)
  /-- Length in µs of the excursion in progress, and whether a new one may begin (R500). -/
  excUs : Nat
  excOk : Bool
  /-- The last five samples of the monitors, newest first (R505). -/
  mon : List MonSample
  /-- Samples in a row past a threshold: by 8 × source + level, sources as in SHED_SRC (R505, R508). -/
  pers : List (Nat × Nat)
  /-- The ladder in force for levels 1 to 6. -/
  ladder : Vector Rung 6
  /-- The last conversion of the sensors (R501); THERMTRIP_L driven low (R502). -/
  temps : Option (Vector (BitVec 8) 20)
  trip : Bool
  /-- The final checkpoint of shed level 6 is in progress (R509). -/
  final : Bool
  /-- SLEEP is emulated (R607); a wake event arrived during entry (R513); the partner agreed to sleep (R628). -/
  emu : Bool
  wakeLatch : Bool
  agreed : Bool
  /-- Sums and numbers of the estimates since the last telemetry poll, in mA (R494). -/
  estSum : Vector Nat 4
  estN : Vector Nat 4
  /-- The package average exceeds LIMIT_W (R500). -/
  pwrOver : Bool
  /-- VRRDY inputs that fell after their rail came up and are still low (R492). -/
  vrrdyLow : BitVec 4
  deriving DecidableEq, Repr

/-- A frame of a session that the part sends and that uses SEQ (R446). -/
structure OutFrame where
  op : Byte
  seq : BitVec 32
  flags : BitVec 16
  off : Word
  arg : Word
  payload : List Byte
  deriving DecidableEq, Repr

/-- A frame that awaits the host's ACK: when it was last sent, how often it was sent again, and whether the early
retransmission of R453 is spent. -/
structure TxRec where
  f : OutFrame
  last : Nat
  tries : Nat
  fast : Bool
  deriving DecidableEq, Repr

/-- A frame of a session that has not left: it waits for the window of 64 (R453), or for the checkpoint or compare of the
given number (R464). -/
structure WaitTx where
  f : OutFrame
  hold : Option Nat
  deriving DecidableEq, Repr

/-- A READ whose data follows (R456): SEQ, partition, first address, bytes, and bytes already sent. -/
structure ReadJob where
  seq : BitVec 32
  part : PartId
  base : Nat
  len : Nat
  pos : Nat
  deriving DecidableEq, Repr

/-- A held frame, with the status that its token check gave on arrival (R454). -/
structure HeldFrame where
  f : KwtFrame
  status : Byte
  deriving DecidableEq, Repr

/-- Where a session's frames go (R450). -/
structure Peer where
  port : PortId
  sub : Fin 8
  mac : BitVec 48
  ip : BitVec 128
  udp : BitVec 16
  deriving DecidableEq, Repr

/-- A session beside its registers (R450 to R453). -/
structure Sess where
  held : List HeldFrame
  out : List TxRec
  wait : List WaitTx
  reads : List ReadJob
  peer : Option Peer
  /-- Requests completed since the last ACK, the time of the first of them, and DUR requests not yet durable (R452). -/
  done : Nat
  firstAt : Option Nat
  dur : List (BitVec 32)
  /-- A CLOSE waits for earlier requests (R450). -/
  closing : Bool
  deriving DecidableEq, Repr

/-- An entry of the token table (R460). -/
structure TokEnt where
  valid : Bool
  gen : Byte
  /-- PT0 to PT15; 16 for the Custodian. -/
  part : Fin 17
  rights : BitVec 3
  cursor : Nat
  base : Nat
  top : Nat
  /-- The queue set, as 64 × port + number. -/
  qs : Byte
  sess : Option (BitVec 12)
  deriving DecidableEq, Repr

/-- A firmware descriptor of a DMA engine (R472). -/
structure Desc where
  w0 : Word
  w1 : Word
  w2 : Word
  w3 : Word
  deriving DecidableEq, Repr

/-- The firmware queue of a DMA engine; its head runs, with POLY as it stood at its start (R472, R473). -/
structure DeSt where
  queue : List Desc
  run : Bool
  poly : BitVec 2
  deriving DecidableEq, Repr

/-- A record of NETQ (R43). -/
structure NetqRec where
  part : PartId
  port : BitVec 2
  qsFirst : Nat
  qsCount : Nat
  sessFirst : Nat
  sessCount : Nat
  deriving DecidableEq, Repr

/-- What leaves the part on a port. -/
inductive NetTx where
  /-- A KWT frame of a session to its peer, with ACK and the trailer (R445, R448). -/
  | kwt (sess : Nat) (peer : Option Peer) (f : OutFrame) (ack : BitVec 32) (trailer : BitVec 32)
  /-- An answer to ARP, to a neighbour solicitation, to an echo request (R442). -/
  | arp (port : PortId) (sub : Fin 8) (mac : BitVec 48)
  | neighbour (port : PortId) (sub : Fin 8) (mac : BitVec 48)
  | echo (port : PortId) (sub : Fin 8) (mac : BitVec 48)
  /-- XOFF or XON for the enabled priorities, or PAUSE (R439). -/
  | pause (port : PortId) (xoff : Bool)
  /-- Gratuitous ARP and unsolicited neighbour advertisement (R547). -/
  | announce (port : PortId)
  /-- A request to the witness (R545). -/
  | witness (op : Byte) (epoch : Word) (reqNo : Word)
  /-- A trace datagram (R611). -/
  | trace (cl : ClusterId) (seq : BitVec 32) (pkts : List (Word × Word))
  /-- A frame of the Ubori Link (R531). -/
  | ubori (f : UboriFrame)
  deriving DecidableEq, Repr

/-- The transport engine, the token table and the DMA engines beside their registers. -/
structure NetSt where
  sess : List (Nat × Sess)
  tok : List (Nat × TokEnt)
  tokKey : List Byte
  /-- The incarnation of OPEN replies (R465). -/
  inc : BitVec 16
  /-- NOTIFYs queued, by queue set: the four words of R469. -/
  notify : List (Nat × List Desc)
  de : Vector DeSt 16
  /-- Frames that left, newest first, and frames that wait for a paused priority, oldest first. -/
  sent : List NetTx
  waiting : List NetTx
  /-- Ports that sent XOFF. -/
  xoff : BitVec 4
  /-- Entries in the receive queue of each port to the I/O hub (R27, R439). -/
  rxLevel : Vector (BitVec 7) 4
  /-- NETQ in force; none is the assignment of the factory structure (R43, R449). -/
  netq : Option (List NetqRec)
  /-- Sub-ports with a SAK installed, as 8 × port + sub-port (R440). -/
  keyed : BitVec 32
  /-- Units of 2^−40 ns by which the rate trim has moved the time base below a whole nanosecond (R441). -/
  ptpFrac : Nat
  /-- The port and addresses of E0 and E1 are silent: the side is a Standby, a Follower, fenced or divergent (R546 to R549). -/
  silent : Bool
  deriving DecidableEq, Repr

/-- The PAIR record in force (R44). -/
structure PairRec where
  kind : BitVec 2
  prefer : BitVec 2
  ckptMs : Nat
  pairId : Word
  wAddr : BitVec 128
  wPort : BitVec 16
  deriving DecidableEq, Repr

/-- A page that a checkpoint ships: partition, page, the granule that holds it, a ship copy, and the pieces sent (R540). -/
structure ShipPage where
  part : PartId
  page : Nat
  copy : Option Nat
  piece : Nat
  deriving DecidableEq, Repr

/-- What a checkpoint records of the part (R539): CPs with their vector queues, save slots, sessions and tokens; and of memory
the dirty pages with their bytes and tags. -/
structure PairSnap where
  cps : Vector Cp 32
  slots : List (Nat × List SlotImg)
  sess : List (Nat × Sess)
  sessReg : List (Nat × Word)
  tok : List (Nat × TokEnt)
  tokKey : List Byte
  evt : List (Nat × Word)
  deriving DecidableEq, Repr

/-- The checkpoint that the Active side ships (R540). -/
structure OpenCkpt where
  no : BitVec 32
  pages : List ShipPage
  snap : PairSnap
  rxNext : List (Nat × BitVec 32)
  /-- Bodies sent, and the CRC-64 of them. -/
  count : Nat
  crc : Word
  begun : Bool
  ended : Bool
  at_ : Nat
  deriving DecidableEq, Repr

/-- A page as a checkpoint carries it: partition, page, leaf bits, bytes and tag bytes. -/
structure PageImg where
  part : PartId
  page : Nat
  leaf : BitVec 16
  bytes : List Byte
  tagBytes : List Byte
  deriving DecidableEq, Repr

/-- A checkpoint that arrives in staging (R541). -/
structure Staging where
  no : BitVec 32
  pages : List PageImg
  objs : List Byte
  count : Nat
  npages : Nat
  crc : Word
  /-- The image of a live apply that the checkpoint carries (R68). -/
  img : List Byte
  deriving DecidableEq, Repr

/-- The checkpoint image that a Twin side keeps of itself: state and the memory maps at the cut (R548). -/
structure TwinImg where
  snap : PairSnap
  mem : List (Nat × Byte)
  tags : List (Nat × Bool)
  granules : List (Nat × Gran)
  parts : Vector Part 16
  deriving DecidableEq, Repr

/-- A sequenced Ubori frame that awaits LINKACK (R533). -/
structure UnackRec where
  f : UboriFrame
  last : Nat
  deriving DecidableEq, Repr

/-- The pair engine beside its registers. -/
structure PairSt where
  rec_ : PairRec
  txSeq : BitVec 32
  rxSeq : BitVec 32
  unacked : List UnackRec
  tries : Nat
  linkKey : List Byte
  /-- The fresh decapsulation key of a negotiation (R584). -/
  kem : List Byte
  /-- What the partner said last: its HELLO, its shed level, and when its last heartbeat came. -/
  hello : Option HelloRec
  pLevel : BitVec 3
  lastHb : Option Nat
  /-- The last edge of PAIR_HB_IN, and the level of PAIR_HB_OUT. -/
  hbIn : Option Nat
  hbOut : Bool
  /-- Witness: when the lease was granted, the number of the last request, and what it asked. -/
  grantAt : Option Nat
  reqNo : Word
  reqOp : Byte
  reqAt : Option Nat
  suspect : Bool
  /-- Negotiation made this side Active, and it asks the witness for the lease (R537). -/
  claim : Bool
  runAt : Nat
  /-- Checkpoints: the next number, when the last was cut, the one that ships, and whether a full copy is asked for. -/
  next : BitVec 32
  cutAt : Nat
  ship : Option OpenCkpt
  full : Bool
  /-- A cut that fell due while one ships (R539), and a RELINQUISH that waits for its checkpoint (R553). -/
  due : Bool
  giveUp : Bool
  staging : Option Staging
  image : Option (BitVec 32 × PairSnap)
  /-- Twin: the images of the last passing cut and of a cut whose compare is open, and the inputs forwarded since the former,
  each with the number of the next cut (R548, R549). -/
  twin : Option TwinImg
  twinNew : Option TwinImg
  inputs : List (Nat × KwtFrame)
  /-- Output frames created since the previous cut: session and frame (R549). -/
  outputs : List (Nat × OutFrame)
  /-- The signatures of this side and of the partner for an open compare. -/
  sig : Option (Nat × List Byte)
  psig : Option (Nat × List Byte)
  mismatches : Nat
  /-- Pages dirtied since the last cut, by partition and page. -/
  dirty : List (PartId × Nat)
  /-- Writers of groups are held until the dirty bytes fall (R542). -/
  pressHold : Bool
  fenced : Bool
  divergent : Bool
  /-- This side signalled failover at shed level 6 and its partner took over (R547). -/
  lost : Bool
  sleepAsk : Bool
  /-- A live apply that waits for a checkpoint: 0, or the number of the checkpoint that carries it (R68). -/
  apply : Option Nat
  deriving DecidableEq, Repr

/-- The states of the part (R613). -/
inductive Sys where
  | off
  | standby
  | boot
  | configure
  | run
  | sleep
  | recovery
  deriving DecidableEq, Repr

/-- What the sealed settings hold (R571). -/
structure Settings where
  minSeq : Word
  ownerKey : List Byte
  ownerHash : List Byte
  epoch : Word
  peerHash : List Byte
  witnessKey : List Byte
  /-- SAKs by KEY_ID. -/
  saks : List (Nat × List Byte)
  /-- Port addresses: IPv4 and IPv6 by port, and the PTP port. -/
  ipv4 : List (Nat × BitVec 32)
  ipv6 : List (Nat × BitVec 128)
  ptpPort : BitVec 2
  repairs : List (Nat × Nat)
  updLock : Bool
  auto : Bool
  confirmS : BitVec 16
  deriving DecidableEq, Repr

/-- A settings slot: whether it authenticates, its format and generation, the boot-control record and the settings. -/
structure SetSlot where
  ok : Bool
  fmt : BitVec 16
  gen : Word
  conf : BitVec 2
  trial : BitVec 2
  tries : BitVec 2
  body : Settings
  deriving DecidableEq, Repr

/-- A nonce of GETNONCE (R574). -/
structure Nonce where
  bytes : List Byte
  sess : Nat
  at_ : Nat
  deriving DecidableEq, Repr

/-- The download record (R565, R580). -/
structure Download where
  struct : Bool
  head : List Byte
  pieces : Nat
  held : List Nat
  deriving DecidableEq, Repr

/-- The Rind domain: reset, boot, keys, settings, flash and the structure in force. -/
structure SecSt where
  sys : Sys
  /-- SYS_RST_L high, and RIND_CLK_IN valid. -/
  rstHigh : Bool
  clkOk : Bool
  /-- Fuse bits burnt since manufacture, by 4 × word + copy (R560). -/
  burnt : List (Nat × Word)
  /-- Flash bytes that differ from 0xFF (R565). -/
  flash : List (Nat × Byte)
  /-- The 4 KiB sectors of the flash device that cannot be read; an erase mends one (R54, R568; log entry 98, DESIGN CHOICE). -/
  flashBad : List Nat
  /-- Settings slots S0 to S3; none is erased (R571). -/
  slots : Vector (Option SetSlot) 4
  set : Settings
  /-- The keys that live for one cold start: K_KEM, and the count that makes DRBG values differ. -/
  kem : List Byte
  nonces : List Nonce
  /-- The running structure image; empty for the factory structure (R64). Whether a slot was written since it was loaded. -/
  image : List Byte
  /-- Where the running structure comes from, as STRUCT_SRC.SOURCE shows it: Rind memory keeps it over a warm reset (R64). -/
  src : Nat
  slotWritten : Bool
  /-- Training that has ended in this start, and whether the rails are up. -/
  nearDone : Bool
  celDone : Bool
  /-- Glitch and clock resets in a row, when RUN was entered, whether the backoff of R564 runs, and cold resets so far. -/
  glitches : Nat
  runAt : Option Nat
  backoff : Bool
  colds : Nat
  attachedEver : Bool
  /-- The module watchdog: when it was last reloaded (R558). -/
  wdgAt : Nat
  dl : Option Download
  /-- A live apply in progress, with its staged image and the slot it writes (R66). -/
  live : Option (List Byte × Nat)
  /-- A drain request cleared while an apply is busy (R69). -/
  undrain : BitVec 16
  /-- BOOTPROG records of the structure in force (R53). -/
  progs : List (Nat × List Byte)
  /-- A warm start is running: training is replaced by reload and centring. -/
  warm : Bool
  deriving DecidableEq, Repr

/-- The Two-Wire Debug port (R595): the result that it keeps, and the response field of the last packet. -/
structure TwdSt where
  kept : Option (BitVec 16 × BitVec 32 × Nat × Word)
  resp : Option (BitVec 4 × BitVec 4 × Option (Word × BitVec 16))
  deriving DecidableEq, Repr

/-- Contacts and sideband buses beside their registers. -/
structure BoardSt where
  losses : Vector Nat 8
  /-- The last block that SB7 returned (R644). -/
  sb7 : List Byte
  /-- The LOAD_STEP_CAP of the VCORE regulators as last read, by quadrant; empty where the read failed (R490). -/
  vrCap : Vector (List Byte) 4
  /-- An armed INJ_SBWIRE makes the next rise-time check of a bus fail (R646). -/
  riseBad : BitVec 8
  deriving DecidableEq, Repr

/-- A transaction of the fast matrix that a target has accepted (R409, R410): its target port, and its answer. -/
structure FabTx where
  req : FabReq
  port : Nat
  status : Nat
  data : Word
  at_ : Nat
  deriving DecidableEq, Repr

/-- The fast matrix: requests that wait with their arrival, transactions whose response is due, responses delivered, and the
master last granted at each port. -/
structure FabSt where
  wait : List (FabReq × Nat)
  due : List FabTx
  got : List (Nat × Nat × Nat × Word)
  last : Vector Nat 35
  deriving DecidableEq, Repr

/-- The writable control store of the Stream Sequencers, the same in each (R282, R286): the words of the patch RAM from 0x2000 on, and the
dispatch entries that differ from the ROM table's, with their constants. -/
structure UcSt where
  words : List (BitVec 32)
  ovr : List UcOverride
  deriving DecidableEq, Repr

/-- The state of the part. -/
structure State where
  /-- Registers of the Control Space that differ from their reset values, by address. -/
  csr : List (Nat × Word)
  /-- Memory: near bytes at their physical address, Cellar bytes from 0x400_0000_0000, scratchpads from 0x800_0000_0000
  by window offset, Program RAM from 0x900_0000_0000 with eight bytes for each program word. Unlisted bytes read 0. -/
  mem : List (Nat × Byte)
  /-- Memory tags that are set, by granule of 16 bytes (R120). -/
  tags : List (Nat × Bool)
  /-- Check errors, by word of 8 bytes (R347 to R357). -/
  errs : List (Nat × Err)
  /-- Time since power-up in ns. -/
  now : Nat
  /-- The model's own count of the free values taken so far. -/
  free : Nat
  cps : Vector Cp 32
  parts : Vector Part 16
  mst : MemSt
  evt : EvtSt
  trc : Vector Trc 16
  dbgPol : DbgPol
  pwr : PwrSt
  net : NetSt
  pair : PairSt
  sec : SecSt
  twd : TwdSt
  board : BoardSt
  fab : FabSt
  mesh : MeshSt
  uc : UcSt
  /-- Commands that wait, first in, first out. -/
  pending : List Instr
  deriving DecidableEq, Repr


/-- No microcode patch: the patch RAM is empty and every dispatch entry is that of the ROM (R286). -/
def UcSt.reset : UcSt := ⟨[], []⟩

/-- No error in a word. -/
def Err.zero : Err := ⟨0, 0, false⟩

/-- The null capability: all bits 0, tag clear. -/
def Cap.null : Cap := ⟨0, false⟩

/-- A descriptor of zeros (R78). -/
def DReg.null : DReg := ⟨Cap.null, 0, 0, 0, 0, false, Err.zero⟩

/-- The registers of a CP before its first release (R78, R405); MODE as R75 gives it with DUAL, ICE, DCE and BPE at 1. -/
def CpArch.reset : CpArch :=
  { g := Vector.replicate 16 0, k := Vector.replicate 16 Cap.null, f := Vector.replicate 64 0,
    d := Vector.replicate 16 DReg.null, pc := 0, delay := none, pcc := Cap.null, entryCap := Cap.null, flags := 0,
    mode := 0x78, modeOn := 0x78, xvec := 0, xvecOn := 0, xvecPend := false, xframe := 0, xframeOn := 0, iinv := false,
    dinv := false, xcause := 0, xpc := 0, xinfo := 0, xmask := 0, vl := 0, fpstat := 0, ncy := 0, loopcnt := 0,
    loopbeg := 0, loopend := 0 }

/-- A timer after reset: CMP all ones (R87). -/
def Timer.reset : Timer := ⟨0, BitVec.allOnes 64, false, false, false⟩

/-- The CP watchdog after reset (R403). -/
def Wdg.reset : Wdg := ⟨false, false, false, 1000000, 0, 0, 1000, false, false⟩

/-- An empty vector queue (R243). -/
def VQueue.reset : VQueue :=
  { entries := [], lo := 0, map := 0, flights := [], faults := [], flt := false, pend := false, stop := false,
    member := 0, fcause := 0, fpc := 0, finfo := 0, saving := none, stopping := false, thaw := false, turn := 0,
    waiting := none, stolen := false, onePipe := none, go := false, win := [], retries := 0, cow := [], preSweep := 0 }

/-- A CP held in reset (R397). -/
def Cp.reset : Cp :=
  { a := CpArch.reset, run := .inReset, stall := .none, lcause := 0, lcode := 0, wdgReset := false, cycle := 0,
    instret := 0, ckRet := 0, watch := 0, coin := 0, pendBits := 0, enabBits := 0, iprio := Vector.replicate 16 0, bitram := [],
    resv := none, lock := 0, timers := Vector.replicate 4 Timer.reset, wdg := Wdg.reset, pramAddr := 0,
    dcache := [], icache := [], pf := [], dtaken := false, vq := VQueue.reset, entryWin := none, dbg := ⟨0, 0, false⟩, haltReq := false,
    stepping := false, skipBp := false, wp := none, lateBp := none, fromLockup := false, dbgWrote := 0, ckpt := none, undo := [], rollbacks := 0, taken := [], hard := false,
    bitErr := [], vext := [] }

/-- A partition that does not exist. -/
def Part.reset : Part :=
  { rcd := none, root := none, tables := [], prog := [], bump := 0x80000000000000, reuse := [], qActive := [],
    qNext := [], qErr := [], hints := [], slots := [], slotGrans := [], winDirty := [], shoot := false, moveQ := [], hintBusy := none, exch := 0, turnOn := false, turnCp := 0, turnUrg := 0,
    lit := 0 }

/-- The event router after a cold reset (R435). -/
def EvtSt.reset : EvtSt :=
  { on := [], snap := none, fired := [], chans := Vector.replicate 64 ⟨none, none⟩, stripGo := 0, pulse := 0,
    deTrig := 0, mirrorReq := false, wakeReq := false, custIn := 0, shedReq := 0, deRun := 0, mirrorBusy := false, dark := true, disAt := [] }

/-- Memory upkeep after a cold reset. -/
def MemSt.reset : MemSt :=
  { granules := [], tlb := [], migr := [], samples := [], heatCnt := Vector.replicate 24 0, turned := (0, 0), tagc := [], zNear := 0, zCellar := 0, nearPos := 0,
    celPos := 0, nearGran := 0, celGran := 0, keyGen := Vector.replicate 16 0, modKey := 0, celRaa := Vector.replicate 8 0, acts := [], openRow := [], lanes := [], hashes := [], slotLast := [],
    slotAgain := [], wlPend := 0, wlLeft := Vector.replicate 16 0, spares := [], dimmHot := 0, wb := [], devCorr := [], streak := [] }

/-- The trace of a cluster after reset. -/
def Trc.reset : Trc := ⟨[], Vector.replicate 2 0, 0, 0⟩

/-- The factory policy, in force until CONFIGURE applies the DEBUG record (R60, R590). -/
def DbgPol.reset : DbgPol := ⟨true, true, true, 0xFFFF⟩

/-- The policy once the debug fuse is blown: nothing is granted (R51, R578). -/
def DbgPol.closed : DbgPol := ⟨false, false, false, 0⟩
/-- Load Advance after reset. -/
def LaSt.reset : LaSt := ⟨[], 0, [], false⟩

/-- The ladder that holds where no record changes it (R507). -/
def ladderReset : Vector Rung 6 :=
  #v[⟨15, 100, 100, 10⟩, ⟨25, 50, 200, 10⟩, ⟨35, 50, 500, 15⟩, ⟨45, 20, 500, 15⟩, ⟨55, 10, 1000, 20⟩, ⟨70, 5, 2000, 20⟩]

/-- The power block after reset. -/
def PwrSt.reset : PwrSt :=
  { la := Vector.replicate 4 LaSt.reset, unshadow := 0, didtSel := Vector.replicate 4 none, onDie := 0, target := Vector.replicate 4 0, pwrClk := Vector.replicate 4 80,
    thermClk := Vector.replicate 4 80, setClk := Vector.replicate 4 0, raise := Vector.replicate 4 none,
    avsFails := Vector.replicate 4 0, throttled := 0, rails := 0, vrrdy := 0, vrrdyLong := 0, watts := [], excUs := 0,
    excOk := true, mon := [], pers := [], ladder := ladderReset, temps := none,
    trip := false, final := false, emu := false, wakeLatch := false, agreed := false,
    estSum := Vector.replicate 4 0, estN := Vector.replicate 4 0, pwrOver := false, vrrdyLow := 0 }

/-- A session with nothing held and nothing sent. -/
def Sess.reset : Sess :=
  { held := [], out := [], wait := [], reads := [], peer := none, done := 0, firstAt := none, dur := [], closing := false }

/-- An entry of the token table that was never bound. -/
def TokEnt.reset : TokEnt := ⟨false, 0, 0, 0, 0, 0, 0, 0, none⟩

/-- The transport engine after reset (R486). -/
def NetSt.reset : NetSt :=
  { sess := [], tok := [], tokKey := [], inc := 0, notify := [], de := Vector.replicate 16 ⟨[], false, 0⟩, sent := [],
    waiting := [], xoff := 0, rxLevel := Vector.replicate 4 0, netq := none, keyed := 0, ptpFrac := 0, silent := false }

/-- The pair engine after reset (R556). -/
def PairSt.reset : PairSt :=
  { rec_ := ⟨0, 0, 10, 0, 0, 0⟩, txSeq := 0, rxSeq := 0, unacked := [], tries := 0, linkKey := [], kem := [], hello := none, pLevel := 0,
    lastHb := none, hbIn := none, hbOut := false, grantAt := none, reqNo := 0, reqOp := 0, reqAt := none, suspect := false,
    runAt := 0, next := 1, cutAt := 0, ship := none, full := false, due := false, giveUp := false, staging := none,
    image := none, twin := none, twinNew := none, inputs := [], outputs := [], sig := none, psig := none, claim := false, mismatches := 0, dirty := [], pressHold := false,
    fenced := false, divergent := false, lost := false, sleepAsk := false, apply := none }

/-- Factory settings: no owner, all values 0, CONFIRM_S 600 (R571, R588). -/
def Settings.fresh : Settings :=
  { minSeq := 0, ownerKey := [], ownerHash := [], epoch := 0, peerHash := [], witnessKey := [], saks := [], ipv4 := [],
    ipv6 := [], ptpPort := 0, repairs := [], updLock := false, auto := false, confirmS := 600 }

/-- The Rind domain before power comes up: OFF, flash erased, no settings (R614). -/
def SecSt.reset : SecSt :=
  { sys := .off, rstHigh := true, clkOk := true, burnt := [], flash := [], flashBad := [], slots := Vector.replicate 4 none,
    set := Settings.fresh, kem := [], nonces := [], image := [], src := 0, slotWritten := false, nearDone := false, celDone := false,
    glitches := 0, runAt := none, backoff := false, colds := 0, attachedEver := false, wdgAt := 0, dl := none, live := none,
    undrain := 0, progs := [], warm := false }

/-- The contacts after reset. -/
def BoardSt.reset : BoardSt := { losses := Vector.replicate 8 0, sb7 := [], vrCap := Vector.replicate 4 [], riseBad := 0 }

/-- The fast matrix after reset. -/
def FabSt.reset : FabSt := { wait := [], due := [], got := [], last := Vector.replicate 35 0 }

/-- The stream network after reset: nothing under way. -/
def MeshSt.reset : MeshSt := { inq := [], outq := [], last := [], bad := [] }

/-- The part right after reset: every register at its reset value, memory with nothing listed, nothing waiting
(log entries 2 and 3 name what the spec leaves open). -/
def State.reset : State :=
  { csr := [], mem := [], tags := [], errs := [], now := 0, free := 0, cps := Vector.replicate 32 Cp.reset,
    parts := Vector.replicate 16 Part.reset, mst := MemSt.reset, evt := EvtSt.reset,
    trc := Vector.replicate 16 Trc.reset, dbgPol := DbgPol.reset, pwr := PwrSt.reset, net := NetSt.reset,
    pair := PairSt.reset, sec := SecSt.reset, twd := ⟨none, none⟩, board := BoardSt.reset, fab := FabSt.reset, mesh := MeshSt.reset, uc := UcSt.reset,
    pending := [] }

end Sys2Proof.Machine
end

