-- ==== Sys2Proof/Machine/Ops.lean ====
section
/-! DEFINITION. The named operations over the registers of the Control Space, the CPs and the partitions. -/

namespace Sys2Proof.Machine

/-- What every meaning answers: the next state. -/
abbrev Out := Host.Outcome State Fault Refusal

/-! ### The register file -/

/-- A register of the Control Space as it stands. -/
def State.reg (s : State) (a : Nat) : Word := mapGet regReset s.csr a

/-- Set a whole register of the Control Space. -/
def State.setReg (s : State) (a : Nat) (v : Word) : State := { s with csr := mapPut regReset s.csr a v }

/-- A field as it stands. -/
def State.rd (s : State) (f : Fld) : Nat := f.ofWord (s.reg f.adr)

/-- A one-bit field as it stands. -/
def State.rdB (s : State) (f : Fld) : Bool := s.rd f != 0

/-- Set a field, cut to its width. -/
def State.wr (s : State) (f : Fld) (v : Nat) : State := s.setReg f.adr (f.setIn (s.reg f.adr) v)

/-- Set a one-bit field. -/
def State.wrB (s : State) (f : Fld) (b : Bool) : State := s.wr f (if b then 1 else 0)

/-- A value that the spec leaves open: the next free value, and the count advances (log entry 8, DESIGN CHOICE). -/
def State.fresh (s : State) : Word × State := (Config.freeWord s.free, { s with free := s.free + 1 })

/-- Count events in a field that saturates. -/
def State.cntSat (s : State) (f : Fld) (n : Nat) : State := s.wr f (min (s.rd f + n) (2 ^ f.width - 1))

/-- Count events in a field. The spec does not say what a count past the field reads: a free value (log entry 12, DESIGN CHOICE). -/
def State.cnt (s : State) (f : Fld) (n : Nat) : State :=
  if s.rd f + n < 2 ^ f.width then s.wr f (s.rd f + n)
  else
    let r := s.fresh
    r.2.wr f r.1.toNat

/-- Clear the read-clear fields of a register, as a consuming read does (R13). -/
def clearRc (r : RegRow) (v : Word) : Word :=
  r.fields.foldl (fun w f => if f.acc = .rc then w &&& ~~~(lowMask f.width <<< f.lsb) else w) v

/-- A register after a plain write: RW fields take the value, W1C bits clear, W1S bits set, all else stays (R13, R14). -/
def plainWrite (r : RegRow) (old v : Word) : Word :=
  r.fields.foldl (fun w f =>
    let m := lowMask f.width <<< f.lsb
    match f.acc with
    | .rw => (w &&& ~~~m) ||| (v &&& m)
    | .w1c => w &&& ~~~(v &&& m)
    | .w1s => w ||| (v &&& m)
    | _ => w) old

/-! ### Bits and numbers -/

/-- A Boolean as a number. -/
def b2n (b : Bool) : Nat := if b then 1 else 0

/-- One bit of a vector by number, false past its end. -/
def bitOf {n : Nat} (v : BitVec n) (i : Nat) : Bool := v.getLsbD i

/-- A vector with one bit set to a value. -/
def setBitOf {n : Nat} (v : BitVec n) (i : Nat) (b : Bool) : BitVec n :=
  if b then v ||| (1#n <<< i) else v &&& ~~~(1#n <<< i)

/-- Bits [lsb + w - 1 : lsb] of a number. -/
def nbits (v lsb w : Nat) : Nat := v / 2 ^ lsb % 2 ^ w

/-- Sign extension of a number of w bits to an integer. -/
def sextN (w v : Nat) : Int := if v % 2 ^ w < 2 ^ (w - 1) then (v % 2 ^ w : Int) else (v % 2 ^ w : Int) - 2 ^ w

/-- The bytes of a number, lowest first (R9). -/
def leBytes : Nat → Nat → List Byte
  | 0, _ => []
  | n + 1, v => BitVec.ofNat 8 v :: leBytes n (v / 256)

/-- The number that bytes give, lowest first (R9). -/
def leNat : List Byte → Nat
  | [] => 0
  | b :: bs => b.toNat + 256 * leNat bs

/-! ### Control Processors, clusters, partitions -/

/-- The cluster of a CP (R7). -/
def clOf (c : CpId) : ClusterId := ⟨c.val / 2, by omega⟩

/-- The quadrant of a cluster (R7). -/
def quadOf (cl : ClusterId) : QuadId := ⟨cl.val / 4, by omega⟩

/-- The cluster of a pipe (R8). -/
def clOfPipe (p : Fin 64) : ClusterId := ⟨p.val / 4, by omega⟩

/-- The first CP of a cluster. -/
def cpOf (cl : ClusterId) : CpId := ⟨2 * cl.val, by omega⟩

/-- The numbers below n. -/
def fins (n : Nat) : List (Fin n) := List.finRange n

/-- A CP. -/
def State.cp (s : State) (c : CpId) : Cp := s.cps[c.val]

/-- Whether a debugger holds a CP: it is halted, or runs the instruction of a step (R600, R601). -/
def Cp.inDebug (p : Cp) : Bool := p.run == .halted || p.stepping

/-- Change a CP. -/
def State.modCp (s : State) (c : CpId) (f : Cp → Cp) : State := { s with cps := vecUpd s.cps c f }

/-- Change the architectural state of a CP. -/
def State.modA (s : State) (c : CpId) (f : CpArch → CpArch) : State := s.modCp c (fun p => { p with a := f p.a })

/-- Change the vector queue of a CP. -/
def State.modVq (s : State) (c : CpId) (f : VQueue → VQueue) : State := s.modCp c (fun p => { p with vq := f p.vq })

/-- A partition. -/
def State.part (s : State) (p : PartId) : Part := s.parts[p.val]

/-- Change a partition. -/
def State.modPart (s : State) (p : PartId) (f : Part → Part) : State := { s with parts := vecUpd s.parts p f }

/-- Change the memory upkeep state. -/
def State.modM (s : State) (f : MemSt → MemSt) : State := { s with mst := f s.mst }

/-- Change the event router. -/
def State.modE (s : State) (f : EvtSt → EvtSt) : State := { s with evt := f s.evt }

/-- Whether a partition's records put a cluster in it (R41). -/
def Part.hasCl (p : Part) (cl : Nat) : Bool := match p.rcd with | some r => bitOf r.mask cl | none => false

/-- The partition of a cluster, none where it is unassigned (R41). -/
def State.partOf (s : State) (cl : ClusterId) : Option PartId := (fins 16).find? (fun p => (s.part p).hasCl cl.val)

/-- Whether a cluster runs Lockstep (R41). -/
def State.lockstepCl (s : State) (cl : ClusterId) : Bool :=
  match s.partOf cl with
  | some p => match (s.part p).rcd with | some r => r.lockstep | none => false
  | none => false

/-- The CP that holds the state of a logical CP: in Lockstep the leading one (R71, R517). -/
def State.lead (s : State) (c : CpId) : CpId := if s.lockstepCl (clOf c) then cpOf (clOf c) else c

/-- The partition of a CP. -/
def State.cpPart (s : State) (c : CpId) : Option PartId := s.partOf (clOf c)

/-- The record of a CP's partition. -/
def State.cpRec (s : State) (c : CpId) : Option PartRec :=
  match s.cpPart c with | some p => (s.part p).rcd | none => none

/-- The logical CPs of a partition, in ascending number. -/
def State.cpsOf (s : State) (p : PartId) : List CpId :=
  (fins 32).filter (fun c => (s.part p).hasCl (c.val / 2) && decide (s.lead c = c))

/-- The shed level in force (R504). -/
def State.shed (s : State) : Nat := s.rd SHED_LEVEL.LEVEL

/-! ### Injection (R370 to R373) -/

/-- Whether an injection at a point and one of its parts is armed. -/
def State.armed (s : State) (point : Nat) (unit : Nat) : Bool :=
  s.rdB INJ_STAT.ARMED && s.rd INJ_SEL.POINT == point && s.rd INJ_SEL.INST == unit

/-- The armed injection fires and disarms. -/
def State.fired (s : State) : State :=
  ((s.wr INJ_STAT.ARMED 0).wr INJ_STAT.FIRED 1).cntSat INJ_STAT.COUNT 1

/-- Fire the injection at a point if it is armed: whether it fired, and the state. -/
def State.inject (s : State) (point unit : Nat) : Bool × State :=
  if s.armed point unit then (true, s.fired) else (false, s)

/-- The pattern of the injection masks (R371). -/
def State.injMask (s : State) : Err := ⟨s.reg INJ_MASK_D.adr, (s.reg INJ_MASK_C.adr).setWidth 48, true⟩

/-- The difference of two patterns laid over each other. -/
def Err.xor (a b : Err) : Err := ⟨a.d ^^^ b.d, a.c ^^^ b.c, a.inj || b.inj⟩

end Sys2Proof.Machine
end

