-- ==== Sys2Proof/Machine/Events.lean ====
section
/-! DEFINITION. The event router (R420 to R435), the leaky buckets (R366) and the capture of errors (R369). -/

namespace Sys2Proof.Machine

/-- A setting of the router in force (R430). -/
def State.evtOn (s : State) (f : Fld) : Nat := f.ofWord (mapGet regReset s.evt.on f.adr)

/-- Set pending bit n of a CP (R400). -/
def State.irq (s : State) (c : CpId) (n : Nat) : State :=
  s.modCp (s.lead c) (fun p => { p with pendBits := setBitOf p.pendBits n true })

/-- DET_LOST (R622): for each given CP with MODE.DET = 1, pending bit 1 and its LOST bit, in Lockstep those of both CPs; and
the cause code. -/
def State.detLost (s : State) (code : Nat) (cs : List CpId) : State :=
  cs.foldl (fun s c =>
    let l := s.lead c
    if bitOf (s.cp l).a.modeOn 2 then
      let s := s.irq l 1
      let bits := 1#64 <<< (32 + c.val)
      (s.setReg MODE_DETLOST.adr (s.reg MODE_DETLOST.adr ||| bits)).wr MODE_DETLOST.CAUSE code
    else s) s

/-- Whether the descriptor at the head of a DMA engine's firmware queue waits for its trigger (R472). -/
def State.deHolds (s : State) (n : Nat) : Bool :=
  match vecAt? s.net.de n with
  | some d => match d.queue with | x :: _ => bitOf x.w3 35 && !d.run | [] => false
  | none => false

/-- Whether a consumer input is busy (R421, R431). -/
def State.consumerBusy (s : State) (c : Nat) : Bool :=
  if h : c < 0x2000 then
    s.evt.dark || (s.cp (s.lead ⟨c / 256, by omega⟩)).run == .inReset
  else if c < 0x2020 then s.evt.dark || bitOf s.evt.stripGo (c - 0x2000)
  else if 0x2040 ≤ c ∧ c < 0x2050 then s.evt.dark || bitOf s.evt.deRun (c - 0x2040)
  else if 0x2050 ≤ c ∧ c < 0x2060 then s.evt.dark
  else if c = 0x2060 then s.evt.dark || s.evt.mirrorBusy
  else if 0x2090 ≤ c ∧ c < 0x2094 then bitOf s.evt.pulse (c - 0x2090)
  else if 0x2080 ≤ c ∧ c < 0x2088 then s.evt.dark
  else false

/-- What an event does at a consumer input that takes it (R421); `ck` takes the CP checkpoints of a partition. -/
def State.consume (ck : PartId → State → State) (s : State) (c : Nat) : State :=
  if h : c < 0x2000 then
    if c % 256 ≥ 32 then s.irq ⟨c / 256, by omega⟩ (c % 256) else s
  else if c < 0x2020 then s.modE (fun e => { e with stripGo := setBitOf e.stripGo (c - 0x2000) true })
  else if 0x2040 ≤ c ∧ c < 0x2050 then
    if s.deHolds (c - 0x2040) then s.modE (fun e => { e with deTrig := setBitOf e.deTrig (c - 0x2040) true }) else s
  else if h : 0x2050 ≤ c ∧ c < 0x2060 then ck ⟨c - 0x2050, by omega⟩ s
  else if c = 0x2060 then s.modE (fun e => { e with mirrorReq := true })
  else if c = 0x2070 then
    let l := s.rd EVT_SHEDREQ.LEVEL
    let l := if l = 0 ∨ l = 7 then 1 else l
    s.modE (fun e => { e with shedReq := if l > e.shedReq.toNat then BitVec.ofNat 3 l else e.shedReq })
  else if 0x2080 ≤ c ∧ c < 0x2088 then
    let n := c - 0x2080
    ((s.wr (EVT_TSC.NS n) (s.rd PTP_NS.NS)).wr (EVT_TSC.SEC n) (s.rd PTP_SEC.SEC)).setReg EVT_STAT.adr
      (s.reg EVT_STAT.adr ||| (1#64 <<< (32 + n)))
  else if 0x2090 ≤ c ∧ c < 0x2094 then s.modE (fun e => { e with pulse := setBitOf e.pulse (c - 0x2090) true })
  else if 0x20B0 ≤ c ∧ c < 0x20C0 then s.modE (fun e => { e with custIn := setBitOf e.custIn (c - 0x20B0) true })
  else if c = 0x20C0 then s.modE (fun e => { e with wakeReq := true })
  else s

/-- An event reaches a consumer input: taken at once, held in the latch, or lost (R423). -/
def State.deliver (ck : PartId → State → State) (s : State) (c : Nat) : State :=
  if s.consumerBusy c then
    if s.rdB (EVT_SEL.PEND c) then s.cnt EVT_STAT.LOST 1 else s.wr (EVT_SEL.PEND c) 1
  else s.consume ck c

/-- The consumer inputs whose selector in force names a source (R423). -/
def State.consumersOf (s : State) (src : Nat) : List Nat :=
  (s.evt.on.filter (fun e => EVT_SEL.adr 0 ≤ e.1 && e.1 < EVT_SEL.adr 8385 &&
    ((EVT_SEL.SOURCE 0).ofWord e.2 == src))).map (fun e => (e.1 - EVT_SEL.adr 0) / 8)

/-- The watch flags or the COINCIDENT flags of a channel set in every CP of its owner (R427). -/
def State.flagChan (s : State) (k : Nat) (coin : Bool) : State :=
  let owner := s.evtOn (EVT_CH_CFG.OWNER k)
  (fins 32).foldl (fun s c =>
    if owner = 16 ∨ (s.cpPart c).any (fun p => p.val == owner) then
      s.modCp c (fun p => if coin then { p with coin := setBitOf p.coin k true } else { p with watch := setBitOf p.watch k true })
    else s) s

/-- Whether a channel's in-force inputs name a line. -/
def State.chanTakes (s : State) (k line : Nat) : Bool :=
  s.evtOn (EVT_CH_IN.IN0 k) == line || s.evtOn (EVT_CH_IN.IN1 k) == line || s.evtOn (EVT_CH_IN.IN2 k) == line ||
    s.evtOn (EVT_CH_IN.IN3 k) == line

/-- Change one channel. -/
def State.modChan (s : State) (k : Fin 64) (f : Chan → Chan) : State :=
  s.modE (fun e => { e with chans := vecUpd e.chans k f })

/-- An event passes a channel: DELIVERED and the watch flags (R424, stage 4). -/
def State.chanPass (s : State) (k : Fin 64) : State :=
  ((s.cntSat (EVT_CH_STAT.DELIVERED k) 1).flagChan k.val false).modChan k (fun c => { c with passed := some s.now })

/-- Whether a halted CP's freeze holds a channel: the channel then acts as at a closed gate (R433, R606). -/
def State.chanFrozen (s : State) (k : Nat) : Bool :=
  let owner := s.evtOn (EVT_CH_CFG.OWNER k)
  (fins 32).any (fun c => (s.cp c).inDebug && bitOf (s.reg (DBG_FREEZE.adr c)) 3 &&
    (s.cpPart c).any (fun p => p.val == owner))

/-- An event reaches a channel: whether it passes, and the state (R424, R425). A REFRACT_NS below 16 is used as written (log entry 115, DESIGN CHOICE,
DESIGN CHOICE). -/
def State.chanEvent (s : State) (k : Fin 64) : Bool × State :=
  let ch := s.evt.chans[k.val]
  let near := match ch.arrived with | some t => decide (s.now ≤ t + 2) | none => false
  let s := s.modChan k (fun c => { c with arrived := some s.now })
  if near then (false, (s.cntSat (EVT_CH_STAT.COINCIDENT k) 1).flagChan k.val true)
  else if !s.rdB (EVT_GRP.EN (k.val / 8)) then (false, s)
  else
    let since := match ch.passed with | some t => some (s.now - t) | none => none
    let refr := match since with | some d => decide (d < s.evtOn (EVT_CH_CFG.REFRACT_NS k)) | none => false
    let gate := s.evtOn (EVT_CH_CFG.RATE_GATE_NS k)
    let shut := s.chanFrozen k.val || (match since with | some d => decide (gate ≠ 0) && decide (d < gate) | none => false)
    if refr then (false, s.cntSat (EVT_CH_STAT.DROPPED k) 1)
    else if shut ∨ s.rdB (EVT_CH_STAT.HELD k) then
      if s.rdB (EVT_CH_STAT.HELD k) then (false, s.cntSat (EVT_CH_STAT.DROPPED k) 1)
      else (false, s.wr (EVT_CH_STAT.HELD k) 1)
    else (true, s.chanPass k)

/-- The groups that the sources of an event enable or disable; disabling wins and discards held events (R428, R433). -/
def State.groupEvent (s : State) (srcs : List Nat) : State :=
  (fins 8).foldl (fun s (g : Fin 8) =>
    let en := srcs.contains (s.evtOn (EVT_GRP.ENABLE_SRC g))
    let dis := srcs.contains (s.evtOn (EVT_GRP.DISABLE_SRC g))
    let recent := match mapFind s.evt.disAt g.val with | some t => decide (s.now ≤ t + 2) | none => false
    if dis then
      let s := (s.wr (EVT_GRP.EN g) 0).modE (fun e => { e with disAt := mapInsert e.disAt g.val s.now })
      (List.range 8).foldl (fun s i => s.wr (EVT_CH_STAT.HELD (8 * g.val + i)) 0) s
    else if en && !recent then s.wr (EVT_GRP.EN g) 1
    else s) s

/-- Deliver an event of a channel that passed: its consumers and the groups it switches. -/
def State.chanOut (ck : PartId → State → State) (s : State) (k : Fin 64) : State :=
  ((s.consumersOf (0x8000 + k.val)).foldl (State.deliver ck) s).groupEvent [0x8000 + k.val]

/-- A producer line fires (R420, R423 to R428). -/
def State.route (ck : PartId → State → State) (s : State) (line : Nat) : State :=
  let refr := max 16 (s.rd (EVT_PROD.REFRACT_NS line))
  let again := match mapFind s.evt.fired line with | some t => decide (s.now < t + refr) | none => false
  if again then s.cnt EVT_STAT.REFRACT 1
  else
    let s := s.modE (fun e => { e with fired := mapInsert e.fired line s.now })
    let chs := (fins 64).filter (fun k => s.chanTakes k.val line)
    let r := chs.foldl (fun (r : List (Fin 64) × State) k =>
      let q := r.2.chanEvent k
      (if q.1 then r.1 ++ [k] else r.1, q.2)) ([], s)
    let s := (r.2.consumersOf line).foldl (State.deliver ck) r.2
    let s := r.1.foldl (fun s k => (s.consumersOf (0x8000 + k.val)).foldl (State.deliver ck) s) s
    s.groupEvent (line :: r.1.map (fun k => 0x8000 + k.val))

/-- A line fires from inside a CP checkpoint or a rollback: an event for a checkpoint finds its input busy (R421, R423). -/
def State.fire0 (s : State) (line : Nat) : State :=
  s.route (fun p s =>
    let c := 0x2050 + p.val
    if s.rdB (EVT_SEL.PEND c) then s.cnt EVT_STAT.LOST 1 else s.wr (EVT_SEL.PEND c) 1) line

/-- Add events to a bucket, with the threshold test (R366, R367). -/
def State.bucketWith (fire : State → Nat → State) (s : State) (b n : Nat) : State :=
  let s := s.cnt (BKT_STAT.COUNT b) n
  let th := s.rd (BKT_CFG.THRESH b)
  if th ≠ 0 ∧ s.rd (BKT_STAT.COUNT b) ≥ th then
    fire (((s.wr (BKT_STAT.COUNT b) 0).wr (BKT_STAT.OVF b) 1).cnt (BKT_STAT.OVFS b) 1) (0x1E0 + b)
  else s

/-- A bucket event from inside the handling of an event. -/
def State.bucket0 (s : State) (b n : Nat) : State := s.bucketWith State.fire0 b n

/-! ### Lockstep checkpoints and rollbacks (R519 to R522) -/

/-- The data-space granule key of an undo entry restored, newest first. -/
def undoMem (s : State) (u : Undo) (c : CpId) : State :=
  match u with
  | .granule key bytes tag =>
    { s with
      mem := (List.zip (List.range 16) bytes).foldl (fun m e => mapPut (fun _ => (0 : Byte)) m (16 * key + e.1) e.2) s.mem
      tags := mapPut (fun _ => false) s.tags key tag }
  | .bit a old => s.modCp c (fun p => { p with bitram := mapPut (fun _ => false) p.bitram a.toNat old })

/-- A CP checkpoint of a Lockstep CP records its state and empties the undo log (R519). -/
def State.lstepSave (s : State) (c : CpId) : State :=
  (s.modCp c (fun p => { p with ckpt := some p.a, ckRet := p.instret, undo := [], rollbacks := 0, taken := [] })).cnt
    (LSTEP_STAT.CKPTS (clOf c)) 1

/-- A queue after FLUSH: every entry discarded, progress and faults cleared (R236). -/
def VQueue.flushed (_q : VQueue) : VQueue := VQueue.reset

/-- A compare differed: roll the cluster's CPs back to the last checkpoint (R521, R522); `kind` is the row of R518, `wh` the
address, port or XPC (R554). -/
def State.rollback (bkt : State → Nat → Nat → State) (s : State) (c : CpId) (kind wh : Nat) : State :=
  let cl := clOf c
  let p := s.cp c
  let s := p.undo.foldl (fun s u => undoMem s u c) s
  let s := s.modCp c (fun p =>
    { p with a := p.ckpt.getD p.a, instret := if p.ckpt.isSome then p.ckRet else p.instret
             pf := [], dtaken := false, icache := [], dcache := [], undo := [], resv := none, lock := 0, stall := .none, rollbacks := p.rollbacks + 1,
             pendBits := p.taken.foldl (fun b n => setBitOf b n.toNat true) p.pendBits, taken := [], entryWin := none })
  let s := ((s.cnt (LSTEP_STAT.MISMATCH cl) 1).wr (LSTEP_LAST.WHERE cl) wh).wr (LSTEP_LAST.KIND cl) kind
  let s := (bkt s 14 1).detLost 5 ((fins 32).filter (fun x => s.lead x = s.lead c))
  if s.rd (LSTEP_CFG.LIMIT cl) ≤ (s.cp c).rollbacks then
    (s.modCp c (fun p => { p with run := .inReset, hard := true, vq := p.vq.flushed })).wr (LSTEP_STAT.HARD cl) 1
  else s

/-- A compare of R518: a mismatch, which the point INJ_LSTEP reports, rolls back and gives no state to go on with. -/
def State.compareWith (bkt : State → Nat → Nat → State) (s : State) (c : CpId) (kind wh : Nat) : Bool × State :=
  if s.lockstepCl (clOf c) then
    let r := s.inject 0x28 (clOf c).val
    if r.1 then (true, r.2.rollback bkt c kind wh) else (false, s)
  else (false, s)

/-- A CP checkpoint with its state-signature compare; nothing in Split (R519, R524). -/
def State.checkpointWith (bkt : State → Nat → Nat → State) (s : State) (c : CpId) : State :=
  if s.lockstepCl (clOf c) then
    let r := s.compareWith bkt c 5 (s.cp c).a.pc.toNat
    if r.1 then r.2 else r.2.lstepSave c
  else s

/-- The CP checkpoints of every CP of a partition, as CHKPT_PTp asks (R421). -/
def State.checkpointPart (p : PartId) (s : State) : State :=
  (s.cpsOf p).foldl (fun s c => s.checkpointWith State.bucket0 c) s

/-- A producer line fires (R420). -/
def State.fire (s : State) (line : Nat) : State := s.route State.checkpointPart line

/-- Add events to a bucket (R366). -/
def State.bucket (s : State) (b n : Nat) : State := s.bucketWith State.fire b n

/-- Capture an uncorrectable or poison event in ERR_LAST, and in ERR_FIRST when it holds none (R369). -/
def State.capture (s : State) (b inst synd : Nat) (marking inj : Bool) (addr : Nat) : State :=
  let put (s : State) (i : Nat) : State :=
    ((((((s.wr (ERR_INFO.BUCKET i) b).wr (ERR_INFO.INST i) inst).wr (ERR_INFO.SYND i) synd).wr (ERR_INFO.VALID i) 1).wrB
      (ERR_INFO.MARKING i) marking).wrB (ERR_INFO.INJECTED i) inj).wr (ERR_ADDR.ADDR i) addr
  let s := if s.rdB (ERR_INFO.VALID 0) then s else put s 0
  put s 1

/-- The latch of a consumer that is no longer busy delivers its event (R423). -/
def State.latchOut (s : State) (c : Nat) : State :=
  if s.rdB (EVT_SEL.PEND c) ∧ !s.consumerBusy c then (s.wr (EVT_SEL.PEND c) 0).consume State.checkpointPart c else s

/-- Every latch of a CP that was released delivers (R431). -/
def State.latchesOfCp (s : State) (c : CpId) : State :=
  (List.range 256).foldl (fun s n => s.latchOut (256 * c.val + n)) s

end Sys2Proof.Machine
end

