-- ==== Sys2Proof/Machine/Keccak.lean ====
section
/-! DEFINITION. The hash functions of FIPS 202 and SP 800-185 that the spec names: SHAKE128, SHAKE256, SHA3-256, SHA3-512 and KMAC256 (log
entry 7, PRESUMED: taken from the standards). -/

namespace Sys2Proof.Machine

/-! ### Keccak-f[1600] -/

/-- The round constants. -/
def keccakRc : List Word :=
  [0x0000000000000001, 0x0000000000008082, 0x800000000000808A, 0x8000000080008000, 0x000000000000808B, 0x0000000080000001,
   0x8000000080008081, 0x8000000000008009, 0x000000000000008A, 0x0000000000000088, 0x0000000080008009, 0x000000008000000A,
   0x000000008000808B, 0x800000000000008B, 0x8000000000008089, 0x8000000000008003, 0x8000000000008002, 0x8000000000000080,
   0x000000000000800A, 0x800000008000000A, 0x8000000080008081, 0x8000000000008080, 0x0000000080000001, 0x8000000080008008]

/-- The rotation of lane x + 5y. -/
def keccakRot : Array Nat :=
  #[0, 1, 62, 28, 27, 36, 44, 6, 55, 20, 3, 10, 43, 25, 39, 41, 45, 15, 21, 8, 18, 2, 61, 56, 14]

/-- Lane (x, y) of a state, indices modulo 5. -/
def keccakLane (a : Array Word) (x y : Nat) : Word := a.getD (x % 5 + 5 * (y % 5)) 0

/-- A state from its lanes. -/
def lanes (f : (x y : Nat) → Word) : Array Word := ((List.range 25).map (fun i => f (i % 5) (i / 5))).toArray

/-- One round: theta, rho with pi, chi and iota. -/
def keccakRound (a : Array Word) (rc : Word) : Array Word :=
  let c := ((List.range 5).map (fun x => keccakLane a x 0 ^^^ keccakLane a x 1 ^^^ keccakLane a x 2 ^^^ keccakLane a x 3 ^^^ keccakLane a x 4)).toArray
  let t := lanes (fun x y => keccakLane a x y ^^^ c.getD ((x + 4) % 5) 0 ^^^ (c.getD ((x + 1) % 5) 0).rotateLeft 1)
  let b := lanes (fun x y => (keccakLane t (x + 3 * y) x).rotateLeft (keccakRot.getD ((x + 3 * y) % 5 + 5 * x) 0))
  lanes (fun x y =>
    let v := keccakLane b x y ^^^ (~~~(keccakLane b (x + 1) y) &&& keccakLane b (x + 2) y)
    if x = 0 ∧ y = 0 then v ^^^ rc else v)

/-- The permutation. -/
def keccakF (a : Array Word) : Array Word := keccakRc.foldl keccakRound a

/-! ### The sponge -/

/-- The lane that eight bytes of a block give, the first in the lowest place. -/
def blockLane (bs : Array Byte) (i : Nat) : Word :=
  (List.range 8).foldl (fun (w : Word) j => w ||| ((bs.getD (8 * i + j) 0).setWidth 64 <<< (8 * j))) 0

/-- Absorb one block. -/
def absorbBlock (a : Array Word) (block : List Byte) : Array Word :=
  let bs := block.toArray
  keccakF (lanes (fun x y => keccakLane a x y ^^^ blockLane bs (x + 5 * y)))

/-- Absorb a padded message block by block. -/
def absorbAll (rate : Nat) : Nat → List Byte → Array Word → Array Word
  | 0, _, a => a
  | n + 1, m, a => absorbAll rate n (m.drop rate) (absorbBlock a (m.take rate))

/-- The bytes of a state's rate. -/
def squeezeBlock (rate : Nat) (a : Array Word) : List Byte :=
  (List.range rate).map (fun i => ((a.getD (i / 8) 0) >>> (8 * (i % 8))).setWidth 8)

/-- Squeeze blocks. -/
def squeezeAll (rate : Nat) : Nat → Array Word → List Byte
  | 0, _ => []
  | n + 1, a => squeezeBlock rate a ++ squeezeAll rate n (keccakF a)

/-- A message padded to whole blocks: the domain byte, zeros, and the last bit of the last byte. -/
def spongePad (rate : Nat) (domain : Byte) (m : List Byte) : List Byte :=
  let z := rate - 1 - m.length % rate
  if z = 0 then m ++ [domain ||| 0x80] else m ++ [domain] ++ List.replicate (z - 1) 0 ++ [0x80]

/-- The sponge over Keccak-f[1600] with a rate in bytes: n bytes of output. -/
@[irreducible] def sponge (rate : Nat) (domain : Byte) (m : List Byte) (n : Nat) : List Byte :=
  let p := spongePad rate domain m
  (squeezeAll rate ((n + rate - 1) / rate) (absorbAll rate (p.length / rate) p (lanes (fun _ _ => 0)))).take n

/-- SHAKE128 with n bytes of output. -/
@[irreducible] def shake128 (n : Nat) (m : List Byte) : List Byte := sponge 168 0x1F m n
/-- SHAKE256 with n bytes of output. -/
@[irreducible] def shake (n : Nat) (m : List Byte) : List Byte := sponge 136 0x1F m n
/-- SHA3-256. -/
@[irreducible] def sha3x256 (m : List Byte) : List Byte := sponge 136 0x06 m 32
/-- SHA3-512. -/
@[irreducible] def sha3x512 (m : List Byte) : List Byte := sponge 72 0x06 m 64

/-! ### KMAC256 (SP 800-185) -/

/-- The bytes of a number, most significant first, at least one. -/
def beBytes (n : Nat) : List Byte :=
  let k := (List.range 8).foldl (fun k i => if 256 ^ (i + 1) ≤ n then i + 2 else k) 1
  ((List.range k).map (fun i => BitVec.ofNat 8 (n / 256 ^ i))).reverse

/-- left_encode. -/
def leftEncode (n : Nat) : List Byte := BitVec.ofNat 8 (beBytes n).length :: beBytes n
/-- right_encode. -/
def rightEncode (n : Nat) : List Byte := beBytes n ++ [BitVec.ofNat 8 (beBytes n).length]
/-- encode_string. -/
def encodeString (m : List Byte) : List Byte := leftEncode (8 * m.length) ++ m
/-- bytepad. -/
def bytePad (m : List Byte) (w : Nat) : List Byte :=
  let x := leftEncode w ++ m
  x ++ List.replicate ((w - x.length % w) % w) 0

/-- KMAC256 with n bytes of output, under a key and a customisation string. -/
@[irreducible] def kmac256 (key m custom : List Byte) (n : Nat) : List Byte :=
  sponge 136 0x04 (bytePad (encodeString [0x4B, 0x4D, 0x41, 0x43] ++ encodeString custom) 136 ++ bytePad (encodeString key) 136 ++ m ++
    rightEncode (8 * n)) n

end Sys2Proof.Machine
end

