-- ==== Sys2Proof/Machine/Lattice.lean ====
section
/-! DEFINITION. What ML-KEM-768 (FIPS 203) and ML-DSA-65 (FIPS 204) share: polynomials of 256 coefficients modulo q, bit packing, the number
theoretic transform, and key encapsulation (log entry 7, PRESUMED: taken from the standards). -/

namespace Sys2Proof.Machine

/-- A polynomial of 256 coefficients, each less than its modulus q. -/
abbrev Poly := Array Nat

/-- Coefficient i. -/
def Poly.at_ (p : Poly) (i : Nat) : Nat := p.getD i 0

/-- A polynomial from its coefficients. -/
def polyOf (f : Nat → Nat) : Poly := ((List.range 256).map f).toArray

/-- The sum of two polynomials. -/
def polyAdd (q : Nat) (a b : Poly) : Poly := polyOf (fun i => (a.at_ i + b.at_ i) % q)
/-- The difference of two polynomials. -/
def polySub (q : Nat) (a b : Poly) : Poly := polyOf (fun i => (a.at_ i + q - b.at_ i) % q)
/-- The zero polynomial. -/
def polyZero : Poly := polyOf (fun _ => 0)
/-- The sum of a list of polynomials. -/
def polySum (q : Nat) (l : List Poly) : Poly := l.foldl (polyAdd q) polyZero

/-! ### Bits and bytes -/

/-- The bits of a byte string, the lowest of each byte first. -/
def bytesToBits (m : List Byte) : List Bool := m.flatMap (fun b => (List.range 8).map (fun i => b.getLsbD i))

/-- The number that bits give, the lowest first. -/
def bitsToNat (l : List Bool) : Nat := l.foldr (fun b n => (if b then 1 else 0) + 2 * n) 0

/-- Bytes from bits. -/
def bitsToBytes (l : List Bool) : List Byte :=
  (List.range (l.length / 8)).map (fun i => BitVec.ofNat 8 (bitsToNat ((l.drop (8 * i)).take 8)))

/-- 256 values of w bits each as bytes. -/
def packBits (w : Nat) (f : Nat → Nat) : List Byte :=
  (List.range 32).flatMap (fun g =>
    let n := (List.range 8).foldr (fun i n => f (8 * g + i) % 2 ^ w + 2 ^ w * n) 0
    (List.range w).map (fun i => BitVec.ofNat 8 (n / 256 ^ i)))

/-- The 256 values of w bits each that 32 w bytes hold. -/
def unpackBits (w : Nat) (m : List Byte) : Poly :=
  let a := m.toArray
  let groups := ((List.range 32).map (fun g =>
    (List.range w).foldr (fun i n => (a.getD (w * g + i) 0).toNat + 256 * n) 0)).toArray
  polyOf (fun i => groups.getD (i / 8) 0 / 2 ^ (w * (i % 8)) % 2 ^ w)

/-! ### The transform -/

/-- The bits of i below 2^w reversed. -/
def bitRev (w i : Nat) : Nat := (List.range w).foldl (fun n k => 2 * n + i / 2 ^ k % 2) 0

/-- A power modulo q, of an exponent below 2^12. -/
def powMod (q z e : Nat) : Nat :=
  ((List.range 12).foldl (fun (r : Nat × Nat) k => (if e.testBit k then r.1 * r.2 % q else r.1, r.2 * r.2 % q)) (1, z)).1

/-- One layer of the transform: pairs at distance len, block b with the root numbered 128 / len + b. -/
def nttLayer (q : Nat) (zeta : Array Nat) (w : Poly) (len : Nat) : Poly :=
  polyOf (fun i =>
    let z := zeta.getD (128 / len + i / (2 * len)) 0
    if i % (2 * len) < len then (w.at_ i + z * w.at_ (i + len)) % q else (w.at_ (i - len) + q * q - z * w.at_ i) % q)

/-- One layer of the inverse: block b with the root numbered 256 / len - 1 - b, negated. -/
def nttBack (q : Nat) (zeta : Array Nat) (w : Poly) (len : Nat) : Poly :=
  polyOf (fun i =>
    let z := zeta.getD (256 / len - 1 - i / (2 * len)) 0
    if i % (2 * len) < len then (w.at_ i + w.at_ (i + len)) % q else z * (w.at_ i + q - w.at_ (i - len)) % q)

/-! ### ML-KEM-768 -/

/-- The modulus of ML-KEM. -/
def kemQ : Nat := 3329

/-- Powers of 17 in bit-reversed order. -/
def kemZeta : Array Nat := ((List.range 128).map (fun i => powMod kemQ 17 (bitRev 7 i))).toArray

/-- NTT. -/
def kemNtt (f : Poly) : Poly := [128, 64, 32, 16, 8, 4, 2].foldl (nttLayer kemQ kemZeta) f

/-- The inverse NTT. -/
def kemUnntt (f : Poly) : Poly :=
  let g := [2, 4, 8, 16, 32, 64, 128].foldl (nttBack kemQ kemZeta) f
  polyOf (fun i => g.at_ i * 3303 % kemQ)

/-- The product of two transforms. -/
def kemMul (f g : Poly) : Poly :=
  polyOf (fun i =>
    let j := i / 2
    let z := powMod kemQ 17 (2 * bitRev 7 j + 1)
    let a0 := f.at_ (2 * j)
    let a1 := f.at_ (2 * j + 1)
    let b0 := g.at_ (2 * j)
    let b1 := g.at_ (2 * j + 1)
    if i % 2 = 0 then (a0 * b0 + a1 * b1 % kemQ * z) % kemQ else (a0 * b1 + a1 * b0) % kemQ)

/-- SampleNTT: a uniform transform from a stream of SHAKE128. -/
def kemSample (seed : List Byte) : Poly :=
  let b := (shake128 1344 seed).toArray
  let c (i : Nat) : Nat := (b.getD i 0).toNat
  let l := (List.range 448).flatMap (fun i =>
    let d1 := c (3 * i) + 256 * (c (3 * i + 1) % 16)
    let d2 := c (3 * i + 1) / 16 + 16 * c (3 * i + 2)
    (if d1 < kemQ then [d1] else []) ++ (if d2 < kemQ then [d2] else []))
  (l.take 256).toArray

/-- SamplePolyCBD with eta = 2. -/
def kemCbd (m : List Byte) : Poly :=
  let a := m.toArray
  polyOf (fun i =>
    let n := (a.getD (i / 2) 0).toNat / 16 ^ (i % 2) % 16
    (n % 2 + n / 2 % 2 + kemQ - n / 4 % 2 - n / 8 % 2) % kemQ)

/-- Compress to d bits. -/
def kemCompress (d x : Nat) : Nat := (x * 2 ^ (d + 1) + kemQ) / (2 * kemQ) % 2 ^ d
/-- Decompress from d bits. -/
def kemDecompress (d y : Nat) : Nat := (y * kemQ * 2 + 2 ^ d) / 2 ^ (d + 1)

/-- Entry (i, j) of the public matrix. -/
def kemMatrix (rho : List Byte) (i j : Nat) : Poly := kemSample (rho ++ [BitVec.ofNat 8 j, BitVec.ofNat 8 i])

/-- A noise polynomial. -/
def kemNoise (seed : List Byte) (n : Nat) : Poly := kemCbd (shake 128 (seed ++ [BitVec.ofNat 8 n]))

/-- The secret transforms of a seed d, with the public seed. -/
def kemSecretVec (d : List Byte) : List Byte × List Poly × List Byte :=
  let g := sha3x512 (d ++ [3])
  (g.take 32, (List.range 3).map (fun i => kemNtt (kemNoise (g.drop 32) i)), g.drop 32)

/-- The encapsulation key of a 64-byte seed d, z. -/
@[irreducible] def kemPub (key : List Byte) : List Byte :=
  let s := kemSecretVec (key.take 32)
  let t (i : Nat) : Poly :=
    polyAdd kemQ (polySum kemQ (s.2.1.mapIdx (fun j x => kemMul (kemMatrix s.1 i j) x))) (kemNtt (kemNoise s.2.2 (3 + i)))
  (List.range 3).flatMap (fun i => packBits 12 (t i).at_) ++ s.1

/-- K-PKE encryption of a 32-byte message under an encapsulation key. -/
def kemEncrypt (pub m r : List Byte) : List Byte :=
  let t (i : Nat) : Poly := polyOf (fun j => (unpackBits 12 ((pub.drop (384 * i)).take 384)).at_ j % kemQ)
  let rho := pub.drop 1152
  let y := (List.range 3).map (fun i => kemNtt (kemNoise r i))
  let u (i : Nat) : Poly :=
    polyAdd kemQ (kemUnntt (polySum kemQ (y.mapIdx (fun j x => kemMul (kemMatrix rho j i) x)))) (kemNoise r (3 + i))
  let mu := unpackBits 1 m
  let v := polyAdd kemQ (polyAdd kemQ (kemUnntt (polySum kemQ (y.mapIdx (fun j x => kemMul (t j) x)))) (kemNoise r 6))
    (polyOf (fun i => kemDecompress 1 (mu.at_ i)))
  (List.range 3).flatMap (fun i => let p := u i; packBits 10 (fun j => kemCompress 10 (p.at_ j))) ++
    packBits 4 (fun j => kemCompress 4 (v.at_ j))

/-- K-PKE decryption. -/
def kemDecrypt (key c : List Byte) : List Byte :=
  let s := kemSecretVec (key.take 32)
  let u (i : Nat) : Poly :=
    let p := unpackBits 10 ((c.drop (320 * i)).take 320)
    kemNtt (polyOf (fun j => kemDecompress 10 (p.at_ j)))
  let p := unpackBits 4 (c.drop 960)
  let v := polyOf (fun j => kemDecompress 4 (p.at_ j))
  let w := polySub kemQ v (kemUnntt (polySum kemQ (s.2.1.mapIdx (fun i x => kemMul x (u i)))))
  packBits 1 (fun j => kemCompress 1 (w.at_ j))

/-- ML-KEM-768 encapsulation to a key with 32 bytes of randomness: the shared secret and the ciphertext. -/
@[irreducible] def kemEncaps (pub m : List Byte) : List Byte × List Byte :=
  let g := sha3x512 (m ++ sha3x256 pub)
  (g.take 32, kemEncrypt pub m (g.drop 32))

/-- ML-KEM-768 decapsulation with a 64-byte seed d, z: the shared secret, a pseudorandom one for a ciphertext that does not encrypt again to
itself. -/
@[irreducible] def kemDecaps (key c : List Byte) : List Byte :=
  let pub := kemPub key
  let m := kemDecrypt key c
  let g := sha3x512 (m ++ sha3x256 pub)
  if kemEncrypt pub m (g.drop 32) = c then g.take 32 else shake 32 ((key.drop 32).take 32 ++ c)

end Sys2Proof.Machine
end

