-- ==== Sys2Proof/Machine/MlDsa.lean ====
section
/-! DEFINITION. ML-DSA-65 (FIPS 204): keys, signatures and their verification (log entry 7, PRESUMED: taken from the standard). -/

namespace Sys2Proof.Machine

/-- The modulus of ML-DSA. -/
def dsaQ : Nat := 8380417
/-- gamma1. -/
def dsaGamma1 : Nat := 524288
/-- gamma2 of ML-DSA-65. -/
def dsaGamma2 : Nat := 261888
/-- beta of ML-DSA-65. -/
def dsaBeta : Nat := 196
/-- omega of ML-DSA-65. -/
def dsaOmega : Nat := 55

/-! ### Polynomials -/

/-- Powers of 1753 in bit-reversed order. -/
def dsaZeta : Array Nat :=
  ((List.range 256).map (fun i =>
    (List.range 8).foldl (fun r k => if (bitRev 8 i).testBit k then r * powMod dsaQ 1753 (2 ^ k) % dsaQ else r) 1)).toArray

/-- NTT. -/
def dsaNtt (f : Poly) : Poly := [128, 64, 32, 16, 8, 4, 2, 1].foldl (nttLayer dsaQ dsaZeta) f

/-- The inverse NTT. -/
def dsaUnntt (f : Poly) : Poly :=
  let g := [1, 2, 4, 8, 16, 32, 64, 128].foldl (nttBack dsaQ dsaZeta) f
  polyOf (fun i => g.at_ i * 8347681 % dsaQ)

/-- The product of two transforms. -/
def dsaMul (f g : Poly) : Poly := polyOf (fun i => f.at_ i * g.at_ i % dsaQ)

/-- A transform applied to a vector by a row of the public matrix. -/
def dsaRow (row : List Poly) (v : List Poly) : Poly := polySum dsaQ (List.zipWith dsaMul row v)

/-- The representative of least absolute value modulo m, the positive one of two. -/
def centred (m x : Nat) : Int := if x % m ≤ m / 2 then (x % m : Nat) else (x % m : Nat) - (m : Int)

/-- Power2Round with d = 13. -/
def power2Round (r : Nat) : Nat × Int :=
  let r0 := centred 8192 r
  (((r : Int) - r0).toNat / 8192, r0)

/-- Decompose. -/
def dsaDecompose (r : Nat) : Nat × Int :=
  let r0 := centred (2 * dsaGamma2) r
  if (r : Int) - r0 = dsaQ - 1 then (0, r0 - 1) else (((r : Int) - r0).toNat / (2 * dsaGamma2), r0)

/-- UseHint. -/
def useHint (h : Bool) (r : Nat) : Nat :=
  let d := dsaDecompose r
  if h then (if 0 < d.2 then (d.1 + 1) % 16 else (d.1 + 15) % 16) else d.1

/-- The greatest absolute value of the coefficients. -/
def dsaNorm (l : List Poly) : Nat :=
  l.foldl (fun n p => (List.range 256).foldl (fun n i => max n (centred dsaQ (p.at_ i)).natAbs) n) 0

/-! ### Sampling -/

/-- RejNTTPoly: a uniform transform. -/
def dsaUniform (seed : List Byte) : Poly :=
  let b := (shake128 1344 seed).toArray
  let c (i : Nat) : Nat := (b.getD i 0).toNat
  (((List.range 448).filterMap (fun i =>
    let v := c (3 * i + 2) % 128 * 65536 + c (3 * i + 1) * 256 + c (3 * i)
    if v < dsaQ then some v else none)).take 256).toArray

/-- ExpandA: row r of the public matrix. -/
def dsaMatrixRow (rho : List Byte) (r : Nat) : List Poly :=
  (List.range 5).map (fun s => dsaUniform (rho ++ [BitVec.ofNat 8 s, BitVec.ofNat 8 r]))

/-- RejBoundedPoly with eta = 4. -/
def dsaBounded (seed : List Byte) (n : Nat) : Poly :=
  let b := shake 544 (seed ++ [BitVec.ofNat 8 n, BitVec.ofNat 8 (n / 256)])
  ((((b.flatMap (fun x => [x.toNat % 16, x.toNat / 16])).filter (fun h => decide (h < 9))).map (fun h => (dsaQ + 4 - h) % dsaQ)).take 256).toArray

/-- ExpandMask: one polynomial. -/
def dsaMask (seed : List Byte) (n : Nat) : Poly :=
  let v := unpackBits 20 (shake 640 (seed ++ [BitVec.ofNat 8 n, BitVec.ofNat 8 (n / 256)]))
  polyOf (fun i => (dsaQ + dsaGamma1 - v.at_ i) % dsaQ)

/-- The next byte of a stream that is at most i, and the rest. -/
def nextUpTo (i : Nat) : List Byte → Nat × List Byte
  | [] => (0, [])
  | b :: l => if b.toNat ≤ i then (b.toNat, l) else nextUpTo i l

/-- SampleInBall: 49 coefficients of 1 or -1. -/
def dsaBall (seed : List Byte) : Poly :=
  let b := shake 1088 seed
  let h := bytesToBits (b.take 8)
  ((List.range 49).foldl (fun (r : Poly × List Byte) k =>
    let i := 207 + k
    let n := nextUpTo i r.2
    ((r.1.setIfInBounds i (r.1.at_ n.1)).setIfInBounds n.1 (if h.getD k false then dsaQ - 1 else 1), n.2)) (polyZero, b.drop 8)).1

/-! ### Encodings -/

/-- w1Encode. -/
def w1Encode (w : List Poly) : List Byte := w.flatMap (fun p => packBits 4 p.at_)

/-- The hints of a polynomial as its list of positions. -/
def hintPositions (f : Nat → Bool) : List Nat := (List.range 256).filter f

/-- HintBitPack. -/
def hintPack (h : List (List Nat)) : List Byte :=
  let all := h.flatten
  all.map (BitVec.ofNat 8) ++ List.replicate (dsaOmega - all.length) 0 ++
    (List.range 6).map (fun i => BitVec.ofNat 8 ((h.take (i + 1)).flatten.length))

/-- HintBitUnpack: the positions of each polynomial, none where the encoding is malformed. -/
def hintUnpack (y : List Byte) : Option (List (List Nat)) :=
  let n (i : Nat) : Nat := (y.getD i 0).toNat
  let ends := (List.range 6).map (fun i => n (dsaOmega + i))
  let r := ends.foldl (fun (r : Option (List (List Nat) × Nat)) e =>
    r.bind (fun x =>
      let l := (List.range (e - x.2)).map (fun k => n (x.2 + k))
      if e < x.2 ∨ dsaOmega < e ∨ (List.range (l.length - 1)).any (fun k => decide (l.getD (k + 1) 0 ≤ l.getD k 0)) then none
      else some (x.1 ++ [l], e))) (some ([], 0))
  r.bind (fun x => if (List.range (dsaOmega - x.2)).all (fun k => n (x.2 + k) == 0) then some x.1 else none)

/-! ### Keys, signatures, verification -/

/-- What key generation expands from a 32-byte seed: rho, K, s1, s2 and t. -/
structure DsaKey where
  rho : List Byte
  k : List Byte
  s1 : List Poly
  s2 : List Poly
  t : List Poly
  deriving DecidableEq, Repr

/-- Key generation from a seed. -/
@[irreducible] def dsaKeyOf (seed : List Byte) : DsaKey :=
  let g := shake 128 (seed ++ [6, 5])
  let rho := g.take 32
  let rp := (g.drop 32).take 64
  let s1 := (List.range 5).map (dsaBounded rp)
  let s2 := (List.range 6).map (fun i => dsaBounded rp (5 + i))
  let v := s1.map dsaNtt
  ⟨rho, g.drop 96, s1, s2, s2.mapIdx (fun r x => polyAdd dsaQ (dsaUnntt (dsaRow (dsaMatrixRow rho r) v)) x)⟩

/-- The public key of 1,952 bytes. -/
@[irreducible] def DsaKey.pub (k : DsaKey) : List Byte := k.rho ++ k.t.flatMap (fun p => packBits 10 (fun i => (power2Round (p.at_ i)).1))

/-- One attempt at a signature with the mask counter kappa. -/
def DsaKey.attempt (key : DsaKey) (s1h s2h t0h : List Poly) (rows : Nat → List Poly) (mu r2 : List Byte) (kappa : Nat) :
    Option (List Byte) :=
  let y := (List.range 5).map (fun i => dsaMask r2 (kappa + i))
  let yh := y.map dsaNtt
  let w := key.s2.mapIdx (fun r _ => dsaUnntt (dsaRow (rows r) yh))
  let ct := shake 48 (mu ++ w1Encode (w.map (fun p => polyOf (fun i => (dsaDecompose (p.at_ i)).1))))
  let ch := dsaNtt (dsaBall ct)
  let z := List.zipWith (fun a b => polyAdd dsaQ a (dsaUnntt (dsaMul ch b))) y s1h
  let wc := List.zipWith (fun a b => polySub dsaQ a (dsaUnntt (dsaMul ch b))) w s2h
  let r0 := wc.foldl (fun n p => (List.range 256).foldl (fun n i => max n (dsaDecompose (p.at_ i)).2.natAbs) n) 0
  if dsaGamma1 - dsaBeta ≤ dsaNorm z ∨ dsaGamma2 - dsaBeta ≤ r0 then none
  else
    let c0 := t0h.map (fun b => dsaUnntt (dsaMul ch b))
    let h := List.zipWith (fun a b => hintPositions (fun i =>
      (dsaDecompose (a.at_ i)).1 != (dsaDecompose ((a.at_ i + b.at_ i) % dsaQ)).1)) wc c0
    if dsaGamma2 ≤ dsaNorm c0 ∨ dsaOmega < h.flatten.length then none
    else some (ct ++ z.flatMap (fun p => packBits 20 (fun i => (dsaGamma1 - centred dsaQ (p.at_ i)).toNat)) ++ hintPack h)

/-- The first attempt that is not rejected, of at most 814 (FIPS 204, appendix C). -/
def firstAttempt (f : Nat → Option (List Byte)) : Nat → Nat → List Byte
  | 0, _ => []
  | n + 1, k => match f k with | some x => x | none => firstAttempt f n (k + 5)

/-- The ML-DSA-65 signature of 3,309 bytes of a formatted message, with 32 bytes of randomness. -/
@[irreducible] def dsaSign (seed m rnd : List Byte) : List Byte :=
  let key := dsaKeyOf seed
  let mu := shake 64 (shake 64 key.pub ++ m)
  let r2 := shake 64 (key.k ++ rnd ++ mu)
  let rows := ((List.range 6).map (dsaMatrixRow key.rho)).toArray
  let t0h := key.t.map (fun p => dsaNtt (polyOf (fun i => ((power2Round (p.at_ i)).2 + dsaQ).toNat % dsaQ)))
  firstAttempt (key.attempt (key.s1.map dsaNtt) (key.s2.map dsaNtt) t0h (fun r => rows.getD r []) mu r2) 814 0

/-- ML-DSA-65 verification of a signature over a formatted message. -/
@[irreducible] def dsaVerify (pub m sig : List Byte) : Bool :=
  match hintUnpack (sig.drop 3248) with
  | none => false
  | some h =>
    let rho := pub.take 32
    let ct := sig.take 48
    let z := (List.range 5).map (fun i =>
      let v := unpackBits 20 ((sig.drop (48 + 640 * i)).take 640)
      polyOf (fun j => (dsaQ + dsaGamma1 - v.at_ j) % dsaQ))
    let ch := dsaNtt (dsaBall ct)
    let zh := z.map dsaNtt
    let w := h.mapIdx (fun r hs =>
      let t1 := unpackBits 10 ((pub.drop (32 + 320 * r)).take 320)
      let v := dsaUnntt (polySub dsaQ (dsaRow (dsaMatrixRow rho r) zh) (dsaMul ch (dsaNtt (polyOf (fun i => t1.at_ i * 8192)))))
      polyOf (fun i => useHint (hs.contains i) (v.at_ i)))
    pub.length == 1952 && sig.length == 3309 && decide (dsaNorm z < dsaGamma1 - dsaBeta) &&
      shake 48 (shake 64 (shake 64 pub ++ m) ++ w1Encode w) == ct

end Sys2Proof.Machine
end

