-- ==== Sys2Proof/Machine/Keys.lean ====
section
/-! DEFINITION. The vault: fuses (R560, R561), keys (R562), flash (R565) and the sealed settings (R571, R572). -/

namespace Sys2Proof.Machine

/-- The ASCII bytes of a string. -/
def ascii (t : String) : List Byte := t.toList.map (fun c => BitVec.ofNat 8 c.toNat)

/-- The message that pure ML-DSA signs under a context string. -/
def ctxMsg (ctx : String) (m : List Byte) : List Byte :=
  [0, BitVec.ofNat 8 (ascii ctx).length] ++ ascii ctx ++ m

/-- A signature of 3,309 bytes. -/
def mldsa (seed : List Byte) (ctx : String) (m : List Byte) : List Byte :=
  let x := ctxMsg ctx m
  dsaSign seed x ((List.range 32).map (Config.signRandom seed x))

/-- Change the Rind domain. -/
def State.modSec (s : State) (f : SecSt → SecSt) : State := { s with sec := f s.sec }

/-- Random bytes of the DRBG: free values (R562). -/
def State.rand (s : State) : Nat → List Byte × State
  | 0 => ([], s)
  | n + 1 =>
    let r := s.fresh
    let q := r.2.rand n
    (BitVec.ofNat 8 r.1.toNat :: q.1, q.2)

/-! ### Fuses -/

/-- The CRC-8 of a value word, polynomial 0x07. -/
def crc8 (v : Word) : Byte :=
  (leBytes 8 v.toNat).foldl (fun (c : Byte) b =>
    (List.range 8).foldl (fun (c : Byte) _ => if c.getLsbD 7 then (c <<< 1) ^^^ 0x07 else c <<< 1) (c ^^^ b)) 0

/-- The data bits of a copy, with what has been blown since manufacture. -/
def State.fuseData (s : State) (w c : Nat) : Word :=
  (Config.fuseCopy w c).setWidth 64 ||| mapGet (fun _ => (0 : Word)) s.sec.burnt (4 * w + c)

/-- The value of a counter word: the number of blown bits. -/
def popcount (v : Word) : Nat := ((List.range 64).filter (fun i => bitOf v i)).length

/-- Whether the word is a counter: VKEY_REVOKE, SVN and DBG_CLOSE (R561). -/
def fuseCounter (w : Nat) : Bool := w == 12 || w == 13 || w == 14

/-- The intact copies of a word. -/
def State.fuseIntact (s : State) (w : Nat) : List Word :=
  (List.range 3).filterMap (fun c =>
    let v := s.fuseData w c
    let ok := if fuseCounter w then v &&& (v + 1) == 0 else crc8 v == BitVec.ofNat 8 ((Config.fuseCopy w c).toNat / 2 ^ 64)
    if ok then some v else none)

/-- How a fuse word is decided. -/
inductive FuseOut where
  /-- A value, whether WEAK sets, and whether an interrupted burn has to be completed. -/
  | value (v : Word) (weak burn : Bool)
  | disagree
  | bad
  deriving DecidableEq, Repr

/-- The rows of a value word (R560). -/
def fuseDecide (l : List Word) : FuseOut :=
  match l with
  | [] => .bad
  | [a] => .value a true false
  | [a, b] => if a = b then .value a false false else .disagree
  | a :: b :: c :: _ =>
    if a = b then .value a (c ≠ a) false
    else if a = c ∨ b = c then .value c true false
    else .disagree

/-- The rows of a counter word with three intact copies. -/
def fuseCount (a b c : Word) : FuseOut :=
  let x := max (popcount a) (max (popcount b) (popcount c))
  let n := min (popcount a) (min (popcount b) (popcount c))
  if x = n then .value a false false
  else if x = n + 1 then .value (if popcount a = x then a else if popcount b = x then b else c) false true
  else .disagree

/-- The outcome of a fuse word. -/
def State.fuse (s : State) (w : Nat) : FuseOut :=
  match s.fuseIntact w with
  | [a, b, c] => if fuseCounter w then fuseCount a b c else fuseDecide [a, b, c]
  | l => fuseDecide l

/-- The value of a fuse word that the cold start accepted. -/
def State.fuseVal (s : State) (w : Nat) : Word := match s.fuse w with | .value v _ _ => v | _ => 0

/-- Blow bits of a counter word, in copies 0, 1 and 2. -/
def State.burn (s : State) (w : Nat) (v : Word) : State :=
  s.modSec (fun e => { e with burnt := (List.range 3).foldl (fun m c =>
    mapPut (fun _ => (0 : Word)) m (4 * w + c) (mapGet (fun _ => (0 : Word)) m (4 * w + c) ||| v)) e.burnt })

/-- The fused SVN value (R561, R570). -/
def State.svn (s : State) : Nat := popcount (s.fuseVal 13)

/-- Whether the debug fuse is blown (R578). -/
def State.dbgClosed (s : State) : Bool := s.fuseVal 14 != 0

/-! ### Flash (R565) -/

/-- A byte of flash. -/
def State.flashByte (s : State) (a : Nat) : Byte := mapGet (fun _ => (0xFF : Byte)) s.sec.flash a

/-- Bytes of flash. -/
def State.flashRead (s : State) (a n : Nat) : List Byte := (List.range n).map (fun i => s.flashByte (a + i))

/-- Whether a range of flash meets a 4 KiB sector that the device cannot read (R54, R568). -/
def State.flashDead (s : State) (a n : Nat) : Bool :=
  s.sec.flashBad.any (fun k => decide (4096 * k < a + n) && decide (a < 4096 * k + 4096) && n != 0)

/-- Whether bytes of an image cannot be read: of one in flash at an address; what is held in memory always can. -/
def State.unread (s : State) (a : Option Nat) (off n : Nat) : Bool := a.any (fun x => s.flashDead (x + off) n)

/-- Program bytes of flash. -/
def State.flashPut (s : State) (a : Nat) (bs : List Byte) : State :=
  s.modSec (fun e => { e with flash := (List.zip (List.range bs.length) bs).foldl (fun m x =>
    mapPut (fun _ => (0xFF : Byte)) m (a + x.1) x.2) e.flash })

/-- Erase a range of flash; an erased sector can be read. -/
def State.flashErase (s : State) (a n : Nat) : State :=
  s.modSec (fun e => { e with
    flash := e.flash.filter (fun x => !(decide (a ≤ x.1) && decide (x.1 < a + n)))
    flashBad := e.flashBad.filter (fun k => !(decide (a ≤ 4096 * k) && decide (4096 * k < a + n))) })

/-! ### Keys (R562) -/

/-- The device seed. -/
def State.devSeed (s : State) : List Byte := (List.range 4).foldl (fun l i => l ++ leBytes 8 (s.fuseVal i).toNat) []

/-- The PUF key, none where the helper data or the reconstruction fail (R563). -/
def State.puf (s : State) : Option (List Byte) :=
  let h := s.flashRead 0x0F000000 65536
  match Config.pufKey h with
  | none => none
  | some k => if shake 32 h = (List.range 4).foldl (fun l i => l ++ leBytes 8 (s.fuseVal (17 + i)).toNat) [] then some k else none

/-- K_ROOT. -/
def State.kRoot (s : State) : List Byte := shake 32 (s.devSeed ++ s.puf.getD [] ++ ascii "KORNOELM-ROOT")

/-- The key-generation seed of IDK, and of ATK under the SVN value. -/
def State.idkSeed (s : State) : List Byte := shake 32 (s.kRoot ++ ascii "IDK")
/-- The seed of ATK. -/
def State.atkSeed (s : State) : List Byte := shake 32 (s.kRoot ++ ascii "ATK" ++ [BitVec.ofNat 8 s.svn])

/-- An ML-DSA-65 public key. -/
def mldsaKey (seed : List Byte) : List Byte := (dsaKeyOf seed).pub

/-- IDK_HASH. -/
def State.idkHash (s : State) : List Byte := shake 32 (mldsaKey s.idkSeed)

/-- Verify a signature under a context string; INJ_SIGV makes the next verification fail (R373, R589). -/
def State.verify (s : State) (pub : List Byte) (ctx : String) (m sig : List Byte) : Bool × State :=
  let i := s.inject 0x45 (s.rd INJ_SEL.INST)
  (!i.1 && dsaVerify pub (ctxMsg ctx m) sig, i.2)

/-- Every key of the vault and of the engines is zeroised (R564). -/
def State.zeroise (s : State) : State :=
  { s with
    sec := { s.sec with kem := [], nonces := [], set := { s.sec.set with saks := [], witnessKey := [] } }
    net := { s.net with tokKey := [], keyed := 0 }
    pair := { s.pair with linkKey := [], kem := [] } }

/-! ### Sealed settings (R571, R572) -/

/-- The two slots of a pair as they authenticate: the one with the higher GEN. -/
def slotBest (a b : Option SetSlot) : Option SetSlot :=
  match a.filter (fun (x : SetSlot) => x.ok), b.filter (fun (x : SetSlot) => x.ok) with
  | some x, some y => if y.gen.toNat ≤ x.gen.toNat then some x else some y
  | some x, none => some x
  | none, y => y

/-- A write to a pair of slots: the one with the lower GEN takes it, at one above the higher. -/
def slotWrite (a b : Option SetSlot) (x : SetSlot) : Option SetSlot × Option SetSlot :=
  let g (o : Option SetSlot) : Nat := match o with | some y => if y.ok then y.gen.toNat else 0 | none => 0
  let y := { x with ok := true, gen := BitVec.ofNat 64 (max (g a) (g b) + 1) }
  if g a ≤ g b then (some y, b) else (a, some y)

/-- The boot-control record, and the settings format of the confirmed pair. -/
def State.bcr (s : State) : Option SetSlot := slotBest s.sec.slots[0] s.sec.slots[1]

/-- Whether a trial firmware writes both pairs: its settings stand converted in the trial pair (R572). -/
def State.bothPairs (s : State) : Bool := s.rdB UPD_STAT.TRIAL && (s.sec.slots[2].isSome || s.sec.slots[3].isSome)

/-- A sealed write: the boot-control record and the settings as they stand (R571, R572). -/
def State.sealAll (s : State) (conf trial tries : BitVec 2) : State :=
  let fmt := BitVec.ofNat 16 (s.rd FW_VER.SET_FMT)
  let old := match s.bcr with | some x => x.fmt | none => fmt
  let x : SetSlot := ⟨true, fmt, 0, conf, trial, tries, s.sec.set⟩
  if s.bothPairs then
    let c := slotWrite s.sec.slots[0] s.sec.slots[1] { x with fmt := old }
    let t := slotWrite s.sec.slots[2] s.sec.slots[3] x
    s.modSec (fun e => { e with slots := #v[c.1, c.2, t.1, t.2] })
  else
    let c := slotWrite s.sec.slots[0] s.sec.slots[1] x
    s.modSec (fun e => { e with slots := #v[c.1, c.2, e.slots[2], e.slots[3]] })

/-- A settings write (R571). -/
def State.seals (s : State) (f : Settings → Settings) : State :=
  let s := s.modSec (fun e => { e with set := f e.set })
  match s.bcr with
  | some x => s.sealAll x.conf x.trial x.tries
  | none => s.sealAll 0 0 0

end Sys2Proof.Machine
end

