-- ==== Sys2Proof/Machine/Codes.lean ====
section
/-! DEFINITION. The check codes of the part: the grid code (R347 to R350), the near code (R352 to R354) and the Cellar code
(R356 to R358), and the CRC and field arithmetic that they use. The codes are linear, so a decoder's answer follows from the
difference between what was stored and what is read; `Err` holds that difference. -/

namespace Sys2Proof.Machine

/-! ### The grid code -/

/-- The parity of a number's low n bits. -/
def parityN : Nat → Nat → Bool
  | 0, _ => false
  | n + 1, v => Bool.xor (v % 2 == 1) (parityN n (v / 2))

/-- The six check bits of a byte (R347). -/
def gridCheck (b : Byte) : BitVec 6 :=
  let v := b.toNat
  BitVec.ofNat 6 (b2n (parityN 4 (v % 16)) + 2 * b2n (parityN 4 (v / 16)) +
    4 * b2n (Bool.xor (bitOf b 0) (bitOf b 4)) + 8 * b2n (Bool.xor (bitOf b 1) (bitOf b 5)) +
    16 * b2n (Bool.xor (bitOf b 2) (bitOf b 6)) + 32 * b2n (Bool.xor (bitOf b 3) (bitOf b 7)))

/-- The check field of a 64-bit word: six bits for each byte (R347). -/
def gridCheckWord (w : Word) : BitVec 48 :=
  (List.range 8).foldl (fun c j => c ||| ((gridCheck (BitVec.ofNat 8 (w.toNat / 2 ^ (8 * j)))).setWidth 48 <<< (6 * j))) 0

/-- How the grid code decodes a read (R348). -/
inductive GridOut where
  | clean
  | marking
  | dataBit (i : Nat)
  | checkBit
  | bad
  deriving DecidableEq, Repr

/-- The decoding of a syndrome (R348). -/
def gridDecode (syn : BitVec 6) : GridOut :=
  let r := b2n (bitOf syn 0) + b2n (bitOf syn 1)
  let c := b2n (bitOf syn 2) + b2n (bitOf syn 3) + b2n (bitOf syn 4) + b2n (bitOf syn 5)
  if syn = 0 then .clean
  else if syn = 0x3F then .marking
  else if r = 1 ∧ c = 1 then
    let row := if bitOf syn 1 then 1 else 0
    let col := if bitOf syn 2 then 0 else if bitOf syn 3 then 1 else if bitOf syn 4 then 2 else 3
    .dataBit (4 * row + col)
  else if r + c = 1 then .checkBit
  else .bad

/-- What a read of a check-coded unit gives: the error left in the data, whether the read is poisoned, whether by a marking,
how many corrections were made, and the syndrome or count that INFO.SYND reports. -/
structure Decoded where
  left : Err
  poison : Bool
  marking : Bool
  fixed : Nat
  synd : Nat
  deriving DecidableEq, Repr

/-- Byte j of a pattern. -/
def Err.byte (e : Err) (j : Nat) : Byte := BitVec.ofNat 8 (e.d.toNat / 2 ^ (8 * j))

/-- The check bits of byte j of a pattern. -/
def Err.chk (e : Err) (j : Nat) : BitVec 6 := BitVec.ofNat 6 (e.c.toNat / 2 ^ (6 * j))

/-- A pattern with byte j and its check bits replaced. -/
def Err.setByte (e : Err) (j : Nat) (d : Byte) (c : BitVec 6) : Err :=
  { e with d := (e.d &&& ~~~(0xFF#64 <<< (8 * j))) ||| (d.setWidth 64 <<< (8 * j)),
           c := (e.c &&& ~~~(0x3F#48 <<< (6 * j))) ||| (c.setWidth 48 <<< (6 * j)) }

/-- A read of one grid-coded byte of a word: the pattern that a write-back leaves and what was decoded (R348, R351). -/
def gridByte (e : Err) (j : Nat) : GridOut × Err :=
  let d := e.byte j
  match gridDecode (gridCheck d ^^^ e.chk j) with
  | .dataBit i => (.dataBit i, e.setByte j (d ^^^ (1#8 <<< i)) (gridCheck (d ^^^ (1#8 <<< i))))
  | .checkBit => (.checkBit, e.setByte j d (gridCheck d))
  | o => (o, e)

/-- A read of the bytes of a grid-coded word that a mask of byte numbers names. -/
def gridRead (e : Err) (js : List Nat) : Decoded :=
  if e.d = 0 ∧ e.c = 0 then ⟨e, false, false, 0, 0⟩
  else
    js.foldl (fun r j =>
      let q := gridByte r.left j
      match q.1 with
      | .clean => r
      | .marking => { r with poison := true, marking := true, synd := 0x3F }
      | .bad => { r with poison := true, synd := (gridCheck (e.byte j) ^^^ e.chk j).toNat }
      | _ => { r with left := q.2, fixed := r.fixed + 1, synd := (gridCheck (e.byte j) ^^^ e.chk j).toNat })
      ⟨e, false, false, 0, 0⟩

/-- The pattern of a poisoned unit of grid-coded bytes: every check bit inverted (R350). -/
def gridPoison : Err := ⟨0, BitVec.allOnes 48, false⟩

/-! ### The field of the Reed–Solomon codes: x^8 + x^4 + x^3 + x^2 + 1 (R352) -/

/-- Twice an element of the field. -/
def gfDouble (a : Nat) : Nat := if a < 128 then 2 * a else (2 * a) ^^^ 0x11D

/-- The product of two elements, over the bits of the second. -/
def gfMulAux : Nat → Nat → Nat → Nat
  | 0, _, _ => 0
  | n + 1, a, b => (if b % 2 = 1 then a else 0) ^^^ gfMulAux n (gfDouble a) (b / 2)

/-- The product of two elements. -/
def gfMul (a b : Nat) : Nat := gfMulAux 8 a b

/-- A power of α = 0x02. -/
def gfAlpha : Nat → Nat
  | 0 => 1
  | n + 1 => gfDouble (gfAlpha n)

/-- An element to the power 2^n − 2 by squarings: its inverse for n = 8. -/
def gfInvAux : Nat → Nat → Nat
  | 0, _ => 1
  | n + 1, a => let b := gfMul a a; gfMul b (gfInvAux n b)

/-- The inverse of an element. -/
def gfInv (a : Nat) : Nat := gfInvAux 7 a

/-- The syndrome S_i of a pattern given as its coefficients from x^0 up. -/
def rsSyndrome (i : Nat) (coef : List Nat) : Nat :=
  (coef.foldl (fun (r : Nat × Nat) c => (r.1 ^^^ gfMul c r.2, gfMul r.2 (gfAlpha i))) (0, 1)).1

/-- A generator (x + α^0) … (x + α^(n−1)), coefficients from x^0 up. -/
def rsGen : Nat → List Nat
  | 0 => [1]
  | n + 1 =>
    let g := rsGen n
    List.zipWith (· ^^^ ·) (g.map (gfMul (gfAlpha n)) ++ [0]) (0 :: g)

/-- The n check symbols of data symbols given from the highest power down: the remainder of the data times x^n (R352). -/
def rsCheckRev (n : Nat) (g : List Nat) : List Nat → List Nat → List Nat
  | [], r => r
  | d :: ds, r =>
    let fb := d ^^^ r.getLastD 0
    rsCheckRev n g ds (List.zipWith (fun a b => a ^^^ gfMul fb b) (0 :: r.take (n - 1)) g)

/-- The n check symbols of data symbols given from the lowest power up, c0 first (R352, R356). -/
def rsCheck (n : Nat) (data : List Nat) : List Nat :=
  rsCheckRev n ((rsGen n).take n) data.reverse (List.replicate n 0)

/-! ### The near code (R352 to R354) -/

/-- The four syndromes of a pattern on a near line. -/
def nearSyndromes (coef : List Nat) : List Nat := (List.range 4).map (fun i => rsSyndrome i coef)

/-- The syndromes of the poison marking: 0x5A in each check byte (R354). -/
def nearMarking : List Nat := nearSyndromes [0x5A, 0x5A, 0x5A, 0x5A]

/-- The one symbol that explains the syndromes: position and magnitude. -/
def nearOne (s : List Nat) : Option (Nat × Nat) :=
  let s0 := s.getD 0 0
  (List.range 36).findSome? (fun p =>
    let a := gfAlpha p
    let v1 := gfMul s0 a
    let v2 := gfMul v1 a
    if s0 ≠ 0 ∧ v1 = s.getD 1 0 ∧ v2 = s.getD 2 0 ∧ gfMul v2 a = s.getD 3 0 then some (p, s0) else none)

/-- The two symbols that explain the syndromes: positions and magnitudes. -/
def nearTwo (s : List Nat) : Option ((Nat × Nat) × (Nat × Nat)) :=
  let s0 := s.getD 0 0
  let s1 := s.getD 1 0
  (List.range 36).findSome? (fun q => (List.range q).findSome? (fun p =>
    let a := gfAlpha p
    let b := gfAlpha q
    let v2 := gfMul (s1 ^^^ gfMul s0 a) (gfInv (a ^^^ b))
    let v1 := s0 ^^^ v2
    let t2 := gfMul (gfMul v1 a) a ^^^ gfMul (gfMul v2 b) b
    let t3 := gfMul (gfMul (gfMul v1 a) a) a ^^^ gfMul (gfMul (gfMul v2 b) b) b
    if t2 = s.getD 2 0 ∧ t3 = s.getD 3 0 then some ((p, v1), (q, v2)) else none))

/-- How a near line decodes (R353). -/
inductive NearOut where
  | clean
  | marking
  | fixed (syms : List (Nat × Nat))
  | bad
  deriving DecidableEq, Repr

/-- The decoding of a pattern of 36 coefficients, check bytes first. -/
def nearDecode (coef : List Nat) : NearOut :=
  let s := nearSyndromes coef
  if s = [0, 0, 0, 0] then .clean
  else if s = nearMarking then .marking
  else match nearOne s with
    | some x => .fixed [x]
    | none => match nearTwo s with
      | some (x, y) => .fixed [x, y]
      | none => .bad

/-! ### The Cellar code (R356 to R358) -/

/-- Position that a codeword of one unit locates: none clean, some none invalid (R357). -/
def celLocate (s0 s1 : Nat) : Option (Option Nat) :=
  if s0 = 0 ∧ s1 = 0 then none
  else if s0 = 0 ∨ s1 = 0 then some none
  else some ((List.range 10).find? (fun p => gfMul s0 (gfAlpha p) = s1))

/-- How a Cellar unit decodes. -/
inductive CelOut where
  | clean
  | marking
  /-- Corrected on one device: its position in the codewords. -/
  | fixed (pos : Nat)
  | bad
  deriving DecidableEq, Repr

/-- The decoding of the eight codewords of a unit, each as its ten coefficients, with the position of a mark in force. -/
def celDecode (words : List (List Nat)) (mark : Option Nat) : CelOut :=
  let syn := words.map (fun w => (rsSyndrome 0 w, rsSyndrome 1 w))
  if syn.all (fun x => x.1 = 0 ∧ x.2 = 0) then .clean
  else if syn.all (fun x => x.1 = 0 ∧ x.2 = rsSyndrome 1 [0x5A, 0x5A]) then .marking
  else match mark with
    | some p => if syn.all (fun x => x.2 = gfMul x.1 (gfAlpha p)) then .fixed p else .bad
    | none =>
      let locs := (syn.map (fun x => celLocate x.1 x.2)).filterMap id
      match locs with
      | some p :: rest => if rest.all (fun l => l = some p) then .fixed p else .bad
      | _ => .bad

/-! ### CRC -/

/-- One bit of a reflected CRC of n bits. -/
def crcStepR {n : Nat} (poly c : BitVec n) : BitVec n := if bitOf c 0 then (c >>> 1) ^^^ poly else c >>> 1

/-- A byte into a reflected CRC. -/
def crcByteR {n : Nat} (poly c : BitVec n) (b : Byte) : BitVec n :=
  let x := c ^^^ b.setWidth n
  (List.range 8).foldl (fun c _ => crcStepR poly c) x

/-- One bit of a most-significant-first CRC of n bits. -/
def crcStepL {n : Nat} (poly c : BitVec n) : BitVec n := if bitOf c (n - 1) then (c <<< 1) ^^^ poly else c <<< 1

/-- A byte into a most-significant-first CRC. -/
def crcByteL {n : Nat} (poly c : BitVec n) (b : Byte) : BitVec n :=
  let x := c ^^^ (b.setWidth n <<< (n - 8))
  (List.range 8).foldl (fun c _ => crcStepL poly c) x

end Sys2Proof.Machine
end

