-- ==== Sys2Proof/Machine/Memory.lean ====
section
/-! DEFINITION. Memory: where a physical address lies (R309 to R314, R333), reads under the check codes with their counts,
captures and write-backs (R347 to R361), writes with their tags, check bits and injections, and poison. -/

namespace Sys2Proof.Machine

/-! ### The keys of the byte map -/

/-- The Cellar's first key: its physical address (R128). -/
def celBase : Nat := 0x40000000000
/-- The first key of the scratchpads: window offset 0 (R339). -/
def spadBase : Nat := 0x80000000000
/-- The first key of the Program RAMs. -/
def pramBase : Nat := 0x90000000000
/-- The first keys of the near tier's reserved lines, which hold tags and calibration patterns (R329), and of the Cellar's tag units
(R330). -/
def tagBase : Nat := 0x10000000000
/-- The first key of the Cellar's tag units, one stretch of 2^32 for each channel (R330). -/
def celTagBase : Nat := 0x7F800000000
/-- The first key of the scratchpads' tag arrays: a byte holds the tags of eight granules (R340). -/
def spadTagBase : Nat := 0xA0000000000

/-- What an unlisted byte of memory reads as: 0 (log entry 2, DESIGN CHOICE). -/
def memDefault (_ : Nat) : Byte := 0

/-- What an unlisted granule's tag reads as: clear. -/
def tagDefault (_ : Nat) : Bool := false

/-- What an unlisted word's check error is: none. -/
def errDefault (_ : Nat) : Err := Err.zero

/-- The canonical form of memory, of its tags and of its check errors: addresses strictly rising, and no entry equal to what an
unlisted address reads as. -/
def Memory.wf (s : State) : Bool := mapWf memDefault s.mem && mapWf tagDefault s.tags && mapWf errDefault s.errs

/-- The kind of array that holds a key. -/
inductive Store where
  | near
  | cellar
  | spad
  | pram
  deriving DecidableEq, Repr

/-- The array of a key. -/
def storeOf (key : Nat) : Store :=
  if key < celBase then .near else if key < spadBase then .cellar else if key < pramBase then .spad else .pram

/-- The bytes of one unit of the array's code: a near line, a Cellar unit, or a word (R347, R352, R356). -/
def unitSize (st : Store) : Nat := match st with | .near => 32 | .cellar => 64 | _ => 8

/-- The stored byte, without any error. -/
def State.rawByte (s : State) (key : Nat) : Byte := mapGet memDefault s.mem key

/-- The error of a word. -/
def State.err (s : State) (w : Nat) : Err := mapGet errDefault s.errs w

/-- Set the error of a word. -/
def State.setErr (s : State) (w : Nat) (e : Err) : State := { s with errs := mapPut errDefault s.errs w e }

/-- A byte as the array holds it: the stored byte with the error laid over it. -/
def State.byteAt (s : State) (key : Nat) : Byte := s.rawByte key ^^^ (s.err (key / 8)).byte (key % 8)

/-- n bytes as the array holds them. -/
def State.bytesAt (s : State) (key n : Nat) : List Byte := (List.range n).map (fun i => s.byteAt (key + i))

/-- Store one byte, without any code. -/
def State.putByte (s : State) (key : Nat) (b : Byte) : State := { s with mem := mapPut memDefault s.mem key b }

/-- Store bytes, without any code. -/
def State.putBytes : List Byte → Nat → State → State
  | [], _, s => s
  | b :: bs, key, s => State.putBytes bs (key + 1) (s.putByte key b)

/-- The tag of a granule of 16 bytes. -/
def State.tagAt (s : State) (g : Nat) : Bool := mapGet tagDefault s.tags g

/-- Set the tag of a granule. -/
def State.setTag (s : State) (g : Nat) (b : Bool) : State := { s with tags := mapPut tagDefault s.tags g b }

/-! ### Where an address lies -/

/-- The fold of a hash entry over the select bits (R313). -/
def hashFold (b lo pa : Nat) : Nat → Nat → Nat
  | 0, c => c
  | n + 1, c => hashFold b (lo + b) pa n (c ^^^ nbits (pa % 2 ^ 43) lo b)

/-- The stack, the pseudo-channel and the line index of a near address with its interleave and hash (R313). -/
def nearPlace (hs : List (Nat × (Nat × Nat × Nat))) (il hash pa : Nat) : Nat × Nat × Nat :=
  let b := if il = 2 then 5 else if il = 1 then 7 else 9
  let c0 := nbits pa 5 b
  let c := if hash = 0 then c0 else match mapFind hs hash with
    | some (kind, lo, ways) => if kind = 1 then hashFold b (max lo (b + 5)) pa ways c0 else c0
    | none => c0
  let stack := if il = 2 then nbits pa 16 4 else if il = 1 then 4 * nbits pa 18 2 + nbits c 5 2 else nbits c 5 4
  (stack, c % 32, nbits pa 20 23 * 64 + nbits pa (b + 5) 6)

/-- The lines of the reserved region of a pseudo-channel, how many of them hold tags, and the first among the channel's lines: row 32,512
(R314, R329). -/
def resvLines : Nat := 393216
/-- The tag lines among the reserved ones (R329). -/
def tagLines : Nat := 390144
/-- The first reserved line of a pseudo-channel (R314). -/
def resvFirst : Nat := 49938432

/-- The key of a reserved line of a pseudo-channel (R329). -/
def resvKey (stack pc line : Nat) : Nat := tagBase + ((stack * 32 + pc) * resvLines + line) * 32

/-- Bank and row of a line of a pseudo-channel (R314). -/
def nearBankRow (w : Nat) : Nat × Nat := (w / 32 % 48, w / 1536)

/-- The channel and the unit index of a Cellar address with its interleave, for a population of 8 or 4 channels (R333). -/
def celPlace (pop il pa : Nat) : Nat × Nat :=
  let a := pa - celBase
  if pop = 4 then
    if il = 0 then (2 * nbits a 8 2, nbits a 18 25 * 1024 + nbits a 10 8 * 4 + nbits a 6 2)
    else (2 * nbits a 16 2, nbits a 18 25 * 1024 + nbits a 8 8 * 4 + nbits a 6 2)
  else
    if il = 0 then (nbits a 8 3, nbits a 19 24 * 1024 + nbits a 11 8 * 4 + nbits a 6 2)
    else if il = 1 then (2 * nbits a 17 2 + nbits a 8 1, nbits a 19 24 * 1024 + nbits a 9 8 * 4 + nbits a 6 2)
    else (nbits a 16 3, nbits a 19 24 * 1024 + nbits a 8 8 * 4 + nbits a 6 2)

/-- The interleave and the hash of the granule that holds an address; a free granule reads as global and identity. -/
def State.granLay (s : State) (key : Nat) : Nat × Nat :=
  match mapFind s.mst.granules (key / 65536) with
  | some g => (g.il.toNat, g.hash.toNat)
  | none => (0, 0)

/-- The stack, pseudo-channel and line index of a near key. -/
def State.nearAt (s : State) (key : Nat) : Nat × Nat × Nat :=
  if tagBase ≤ key then
    let i := (key - tagBase) / 32
    (i / resvLines / 32, i / resvLines % 32, resvFirst + i % resvLines)
  else
    let l := s.granLay key
    nearPlace s.mst.hashes l.1 l.2 key

/-- The units of a Cellar channel, tag units included (R330, R331). -/
def State.celUnits (s : State) (ch : Nat) : Nat := (s.rd (CC_DIMM.GIB ch 0) + s.rd (CC_DIMM.GIB ch 1)) * 2 ^ 24

/-- The channel and unit index of a Cellar key; the tag units are the top 1/128 of the channel (R330). -/
def State.celAt (s : State) (key : Nat) : Nat × Nat :=
  if celTagBase ≤ key then
    let o := key - celTagBase
    let ch := o / 2 ^ 32
    (ch, s.celUnits ch - s.celUnits ch / 128 + o % 2 ^ 32 / 64)
  else celPlace (s.rd CELLAR_POP.POP) (s.granLay key).1 key

/-- The line or unit that holds the tag of a key's granule, and the bit of it (R329, R330). -/
def State.tagPlace (s : State) (key : Nat) : Nat × Nat :=
  if key < celBase then
    let p := s.nearAt key
    (resvKey p.1 p.2.1 (p.2.2 / 128), 2 * (p.2.2 % 128) + key % 32 / 16)
  else
    let p := s.celAt key
    (celTagBase + p.1 * 2 ^ 32 + p.2 / 128 * 64, 4 * (p.2 % 128) + key % 64 / 16)

/-- The controller, cluster or CP that an error report names for a key (R369). -/
def State.instOf (s : State) (key : Nat) : Nat :=
  match storeOf key with
  | .near => (s.nearAt key).1
  | .cellar => (s.celAt key).1
  | .spad => (key - spadBase) / 0x400000
  | .pram => (key - pramBase) / 0x20000

/-- Where a unit lies in its channel: sub-channel, rank, bank group × 4 + bank, and row, for DIMMs of a number of ranks (R333, R358). -/
structure CelBank where
  sub : Nat
  rank : Nat
  bank : Nat
  row : Nat
  deriving DecidableEq, Repr

/-- Sub-channel, rank, bank and row of a unit (R333); the rank is numbered DIMM × 4 + rank (R358, R375). -/
def celBank (dimms ranks u : Nat) : CelBank :=
  let n := max 1 dimms * max 1 ranks
  let r := u / 8192 % n
  let row := u / 8192 / n
  ⟨u % 2, r / max 1 ranks * 4 + r % max 1 ranks, ((nbits u 1 3) ^^^ (row % 8)) * 4 + nbits u 4 2, row⟩

/-- Where a unit of a channel lies (R333). -/
def State.celBankOf (s : State) (ch u : Nat) : CelBank :=
  celBank (s.rd (CC_DIMM.PRESENT ch 0) + s.rd (CC_DIMM.PRESENT ch 1)) (s.rd (CC_DIMM.RANKS ch 0)) u

/-! ### Commands to stacks and DIMMs, and activations of their banks (R323, R331) -/

/-- The number of one near bank among all. -/
def bankKey (stack pc bank : Nat) : Nat := (stack * 32 + pc) * 48 + bank

/-- The number of one Cellar bank among all, after the near ones. -/
def celBankKey (ch : Nat) (b : CelBank) : Nat := 24576 + ((ch * 2 + b.sub) * 8 + b.rank) * 32 + b.bank

/-- A command that failed its parity check is sent again (R315, R331): the status, the count of a near stack, and the bucket. -/
def State.parityReissue (s : State) (near : Bool) (unit : Nat) : State :=
  if near then ((s.wr (NM_STAT.PARITY unit) 1).cnt (NM_PARITY.COUNT unit) 1).bucket 8 1
  else (s.wr (CC_STAT.PARITY unit) 1).bucket 8 1

/-- A command to a stack or a Cellar channel: INJ_NPAR and INJ_CPAR spoil its parity once (R346). -/
def State.sendCmd (s : State) (near : Bool) (unit : Nat) : State :=
  let r := s.inject (if near then 0x19 else 0x1A) unit
  if r.1 then r.2.parityReissue near unit else s

/-- The activations of banks since their refresh, with the rows that are open, and the banks that RFM went to on the way (R323). -/
structure Rows where
  acts : List (Nat × Nat)
  openRow : List (Nat × Nat)
  rfms : List Nat
  deriving DecidableEq, Repr

/-- Reach a row of a bank: nothing where it is open; else the row is activated, after RFM to a bank whose activations have reached the
limit, where there is one (R323). -/
def Rows.reach (lim : Nat → Nat) (r : Rows) (b : Nat × Nat) : Rows :=
  if mapSeek r.openRow b.1 = some b.2 then r
  else
    let n := (mapSeek r.acts b.1).getD 0
    let full := decide (n ≠ 0) && decide (lim b.1 ≠ 0) && decide (lim b.1 ≤ n)
    { acts := mapInsert r.acts b.1 (if full then 1 else n + 1), openRow := mapInsert r.openRow b.1 b.2,
      rfms := if full then b.1 :: r.rfms else r.rfms }

/-- The activations at which a bank gets RFM: NM_CFG.RH_THRESH × 64 of its stack (R323), or what the SPD of its DIMMs gives, 0 for none
(R331). -/
def State.rfmLimit (s : State) (bk : Nat) : Nat :=
  if bk < 24576 then 64 * max 4 (s.rd (NM_CFG.RH_THRESH (bk / 1536))) else (vecAt? s.mst.celRaa ((bk - 24576) / 512)).getD 0

/-- An RFM command to a bank: NM_RH counts those of a stack (R323). -/
def State.rfmSent (s : State) (bk : Nat) : State :=
  if bk < 24576 then (s.sendCmd true (bk / 1536)).cnt (NM_RH.COUNT (bk / 1536)) 1 else s.sendCmd false ((bk - 24576) / 512)

/-- Reach rows of banks, in order. -/
def State.reachRows (s : State) (bs : List (Nat × Nat)) : State :=
  let r := bs.foldl (Rows.reach s.rfmLimit) ⟨s.mst.acts, s.mst.openRow, []⟩
  r.rfms.foldr (fun bk s => s.rfmSent bk) (s.modM (fun m => { m with acts := r.acts, openRow := r.openRow }))

/-- RFM to a bank: its count restarts (R323, R331). -/
def State.rfm (s : State) (bk : Nat) : State := (s.modM (fun m => { m with acts := mapPut (fun _ => 0) m.acts bk 0 })).rfmSent bk

/-- A refresh of a bank: its row closes and its count restarts (R322, R323). -/
def State.refreshBank (s : State) (bk : Nat) : State :=
  s.modM (fun m => { m with acts := mapErase m.acts bk, openRow := mapErase m.openRow bk })

/-- A line of a stack moves: it is counted, and its row is reached (R323, R345). -/
def State.nearMove (s : State) (key : Nat) : State :=
  let pl := s.nearAt key
  let br := nearBankRow pl.2.2
  ((s.sendCmd true pl.1).cnt (NM_LINES.COUNT pl.1) 1).reachRows [(bankKey pl.1 pl.2.1 br.1, br.2)]

/-- A unit of a Cellar channel moves (R331, R333). -/
def State.celMove (s : State) (key : Nat) : State :=
  let p := s.celAt key
  let b := s.celBankOf p.1 p.2
  (s.sendCmd false p.1).reachRows [(celBankKey p.1 b, b.row)]

/-- A line or unit moves between its array and its controller. -/
def State.lineMove (s : State) (key : Nat) : State :=
  match storeOf key with | .near => s.nearMove key | .cellar => s.celMove key | _ => s

/-- The stacks that the lines of a near granule lie on, and the banks and rows of those lines and of their tags in each pseudo-channel,
for an interleave (R310, R313, R314, R329). -/
def granShape (il gran : Nat) : List Nat × List (Nat × Nat) :=
  let slot := gran / 16
  let i := gran % 16
  let row := slot / 24
  let tag := nearBankRow (resvFirst + slot / 2)
  if il = 2 then ([i], [(2 * slot % 48, row), ((2 * slot + 1) % 48, row), tag])
  else if il = 1 then ((List.range 4).map (fun k => i / 4 * 4 + k), [((2 * slot + i % 4 / 2) % 48, row), tag])
  else (List.range 16, [((2 * slot + i / 8) % 48, row), tag])

/-- Every line of a granule moves once, as its zeroing and its copying make them, with the lines that hold its tags, which are read,
merged and written back past the tag cache (R135, R147, R329; log entry 99, DESIGN CHOICE). -/
def State.granMove (s : State) (gran : Nat) : State :=
  if gran * 65536 < celBase then
    let sh := granShape (s.granLay (gran * 65536)).1 gran
    let s := sh.1.foldl (fun s k => (s.sendCmd true k).cnt (NM_LINES.COUNT k) (2048 / sh.1.length + 64)) s
    s.reachRows (sh.1.reverse.flatMap (fun k => (List.range 32).reverse.flatMap (fun pc => sh.2.map (fun b => (bankKey k pc b.1, b.2)))))
  else (List.range 1024).foldl (fun s i => s.celMove (gran * 65536 + 64 * i)) s

/-! ### Reads under the codes -/

/-- Make what the array now reads the stored data, and leave a given error. -/
def State.settle (s : State) (key n : Nat) (e : Err) : State :=
  let bs := s.bytesAt key n
  let s := (List.range (n / 8)).foldl (fun s i => s.setErr (key / 8 + i) Err.zero) s
  (State.putBytes bs key s).setErr (key / 8) e

/-- The 36 coefficients of a near line's error, check bytes first (R352). -/
def State.nearCoef (s : State) (key : Nat) : List Nat :=
  (leBytes 4 (s.err (key / 8)).c.toNat).map BitVec.toNat ++
    (List.range 4).flatMap (fun i => (leBytes 8 (s.err (key / 8 + i)).d.toNat).map BitVec.toNat)

/-- The ten coefficients of codeword k of a Cellar unit's error (R356). -/
def State.celCoef (s : State) (key k : Nat) : List Nat :=
  let e := s.err (key / 8 + k)
  (leBytes 2 e.c.toNat).map BitVec.toNat ++ (leBytes 8 e.d.toNat).map BitVec.toNat

/-- Whether an injection left an error among the words of a unit. -/
def State.errInj (s : State) (key n : Nat) : Bool := (List.range (n / 8)).any (fun i => (s.err (key / 8 + i)).inj)

/-- Whether the words of a unit hold any error. -/
def State.errAny (s : State) (key n : Nat) : Bool := (List.range (n / 8)).any (fun i => s.err (key / 8 + i) ≠ Err.zero)

/-- The poison marking of a unit: correct check bytes XOR 0x5A in the near and Cellar codes (R354, R357); the complement of
the check bits in the grid code (R350). -/
def State.poisonUnit (s : State) (key : Nat) : State :=
  match storeOf key with
  | .near => s.settle (key / 32 * 32) 32 ⟨0, 0x5A5A5A5A, (s.errInj (key / 32 * 32) 32)⟩
  | .cellar =>
    let k := key / 64 * 64
    let inj := s.errInj k 64
    (List.range 8).foldl (fun s i => s.setErr (k / 8 + i) ⟨0, 0x5A5A, inj⟩) (s.settle k 64 Err.zero)
  | _ => s.settle (key / 8 * 8) 8 { gridPoison with inj := s.errInj (key / 8 * 8) 8 }

/-- Charge a corrected symbol of a near line to its lane (R325). -/
def State.chargeLane (s : State) (stack pc sym n : Nat) : State :=
  let key := (stack * 32 + pc) * 64 + sym
  let s := s.modM (fun m => { m with lanes := mapInsert m.lanes key (mapGet (fun _ => 0) m.lanes key + n) })
  s.wr (NM_MARGIN.CORR stack pc) (min 0xFFFF (max (s.rd (NM_MARGIN.CORR stack pc)) (mapGet (fun _ => 0) s.mst.lanes key)))

/-- The mark in force on a Cellar unit, as a position in its codewords: data device j is position j + 2, check devices 8 and
9 are positions 0 and 1 (R356, R358). -/
def devPos (d : Nat) : Nat := if d < 8 then d + 2 else d - 8

/-- The device of a position. -/
def posDev (p : Nat) : Nat := if p < 2 then p + 8 else p - 2

/-- The sub-channel and the rank of a unit of a channel. -/
def State.celSubRank (s : State) (ch u : Nat) : Nat × Nat :=
  let b := s.celBankOf ch u
  (b.sub, b.rank)

/-- The position that a mark in force erases in a unit (R358). -/
def State.celMarkPos (s : State) (key : Nat) : Option Nat :=
  let p := s.celAt key
  let sr := s.celSubRank p.1 p.2
  if sr.1 = 0 then
    if s.rdB (CEL_MARK.VALID0 p.1) ∧ s.rd (CEL_MARK.RANK0 p.1) = sr.2 then some (devPos (s.rd (CEL_MARK.DEV0 p.1))) else none
  else
    if s.rdB (CEL_MARK.VALID1 p.1) ∧ s.rd (CEL_MARK.RANK1 p.1) = sr.2 then some (devPos (s.rd (CEL_MARK.DEV1 p.1))) else none

/-- A correction located on a device: when MARK_AT of them fall within 1 s in one rank the device is marked, or the refused
second mark feeds its bucket (R358). -/
def State.celCorrected (s : State) (key dev : Nat) : State :=
  let p := s.celAt key
  let sr := s.celSubRank p.1 p.2
  let id := ((p.1 * 2 + sr.1) * 8 + sr.2) * 16 + dev
  let s := s.modM (fun m => { m with devCorr := (id, s.now) :: m.devCorr.filter (fun e => s.now < e.2 + 1000000000) })
  if (s.mst.devCorr.filter (fun e => e.1 = id)).length < max 1 (s.rd ERR_CTL.MARK_AT) then s
  else
    let s := s.modM (fun m => { m with devCorr := m.devCorr.filter (fun e => e.1 ≠ id) })
    if sr.1 = 0 then
      if s.rdB (CEL_MARK.VALID0 p.1) then s.bucket 6 1
      else ((((s.wr (CEL_MARK.VALID0 p.1) 1).wr (CEL_MARK.DEV0 p.1) dev).wr (CEL_MARK.RANK0 p.1) sr.2).bucket 6 1)
    else
      if s.rdB (CEL_MARK.VALID1 p.1) then s.bucket 6 1
      else ((((s.wr (CEL_MARK.VALID1 p.1) 1).wr (CEL_MARK.DEV1 p.1) dev).wr (CEL_MARK.RANK1 p.1) sr.2).bucket 6 1)

/-- Read a near line under its code: whether it is poisoned, and the state with the line corrected or marked (R353, R355). -/
def State.readNear (s : State) (key : Nat) : Bool × State :=
  let k := key / 32 * 32
  if !s.errAny k 32 then (false, s)
  else
    let pl := s.nearAt k
    let inj := s.errInj k 32
    match nearDecode (s.nearCoef k) with
    | .clean => (false, s.settle k 32 Err.zero)
    | .marking => (true, s.capture 12 pl.1 0 true inj k)
    | .fixed syms =>
      let s := syms.foldl (fun s (x : Nat × Nat) =>
        let s := s.chargeLane pl.1 pl.2.1 x.1 1
        if x.1 < 4 then s
        else
          let i := x.1 - 4
          let e := s.err (k / 8 + i / 8)
          s.setErr (k / 8 + i / 8) { e with d := e.d ^^^ (BitVec.ofNat 64 x.2 <<< (8 * (i % 8))) }) s
      (false, (s.settle k 32 Err.zero).bucket 2 1)
    | .bad => (true, ((s.poisonUnit k).capture 3 pl.1 0xFF false inj k).bucket 3 1)

/-- Read a Cellar unit under its code (R357, R358); a unit of the pattern INJ_XTS is uncorrectable after decryption. -/
def State.readCel (s : State) (key : Nat) : Bool × State :=
  let k := key / 64 * 64
  let ch := (s.celAt k).1
  let r := s.inject 0x0D ch
  let s := r.2
  if r.1 then (true, ((s.poisonUnit k).capture 5 ch 0xFF false true k).bucket 5 1)
  else if !s.errAny k 64 then (false, s)
  else
    let inj := s.errInj k 64
    match celDecode ((List.range 8).map (fun i => s.celCoef k i)) (s.celMarkPos k) with
    | .clean => (false, s.settle k 64 Err.zero)
    | .marking => (true, s.capture 12 ch 0xFF true inj k)
    | .fixed pos =>
      let s := if pos < 2 then s else (List.range 8).foldl (fun s i =>
        let w := k / 8 + i
        let s0 := rsSyndrome 0 (s.celCoef k i)
        let e := s.err w
        s.setErr w { e with d := e.d ^^^ (BitVec.ofNat 64 s0 <<< (8 * (pos - 2))) }) s
      (false, ((s.settle k 64 Err.zero).celCorrected k (posDev pos)).bucket 4 1)
    | .bad => (true, ((s.poisonUnit k).capture 5 ch 0xFF false inj k).bucket 5 1)

/-- Read the bytes of a grid-coded word that lie in a range (R348, R351). -/
def State.readGrid (s : State) (w : Nat) (js : List Nat) : Bool × State :=
  let e := s.err w
  if e = Err.zero then (false, s)
  else
    let r := gridRead e js
    let inst := s.instOf (8 * w)
    let s := if r.fixed = 0 then s
      else ((s.setErr w (if r.left.d = 0 ∧ r.left.c = 0 then Err.zero else r.left)).modM (fun m =>
        { m with wb := w :: m.wb.filter (fun x => x ≠ w) })).bucket 0 r.fixed
    if r.poison then
      if r.marking then (true, s.capture 12 inst 0x3F true e.inj (8 * w))
      else (true, (s.capture 1 inst r.synd false e.inj (8 * w)).bucket 1 1)
    else (false, s)

/-- The controller of a near or Cellar key, as a unit of the mesh. -/
def State.ctlOf (s : State) (key : Nat) : MeshUnit :=
  if key < celBase then .near (Fin.ofNat 16 (s.nearAt key).1) else .cc (Fin.ofNat 8 (s.celAt key).1)

/-- Whether the next access at a unit carries a flit that its routers poisoned, which that access then uses up (R338). -/
def State.takeBad (s : State) (u : MeshUnit) (w : Bool) : Bool × State :=
  if s.mesh.bad.contains (u, w) then (true, { s with mesh := { s.mesh with bad := s.mesh.bad.erase (u, w) } }) else (false, s)

/-- Read a line of a stack or a unit of a channel under its code. -/
def State.readLine (s : State) (key : Nat) : Bool × State :=
  if key < celBase then (s.nearMove key).readNear key else (s.celMove key).readCel key

/-- The flip that an armed injection leaves in a line or unit just written (R371). -/
def State.flipLine (s : State) (key : Nat) : State :=
  if key < celBase then
    let r := s.inject 0x20 (s.nearAt key).1
    if r.1 then
      let k := key / 32 * 32
      let w := if s.rd INJ_CTL.WORD < 4 then s.rd INJ_CTL.WORD else 0
      let m := s.injMask
      let s := r.2.setErr (k / 8 + w) ((r.2.err (k / 8 + w)).xor ⟨m.d, 0, true⟩)
      s.setErr (k / 8) ((s.err (k / 8)).xor ⟨0, m.c &&& 0xFFFFFFFF, true⟩)
    else s
  else
    let r := s.inject 0x21 (s.celAt key).1
    if r.1 then
      let k := key / 64 * 64
      let s := r.2
      if s.rdB INJ_CTL.DEV_EN then
        let d := s.rd INJ_CTL.DEV
        (List.range 8).foldl (fun s i =>
          s.setErr (k / 8 + i) ((s.err (k / 8 + i)).xor
            (if d < 8 then ⟨0xFF#64 <<< (8 * d), 0, true⟩ else ⟨0, 0xFF#48 <<< (8 * (d - 8)), true⟩))) s
      else
        let w := s.rd INJ_CTL.WORD
        s.setErr (k / 8 + w) ((s.err (k / 8 + w)).xor ⟨s.injMask.d, s.injMask.c &&& 0xFFFF, true⟩)
    else s

/-! ### The tag caches (R330) -/

/-- The size of the unit of a near or Cellar key, in bytes. -/
def lineSize (key : Nat) : Nat := if key < celBase then 32 else 64

/-- The lines that the tag cache of a key's controller holds: 128 KiB of near lines, or 64 KiB of Cellar units (R330). -/
def tagWays (key : Nat) : Nat := if key < celBase then 4096 else 1024

/-- The number of the controller of a tag line among all. -/
def tagCtl (key : Nat) : Nat := if key < celBase then (key - tagBase) / 32 / resvLines / 32 else 16 + (key - celTagBase) / 2 ^ 32

/-- The byte of a line of a tag cache that holds a tag, under the grid code: whether it is poisoned, whether the tag reads inverted, the
syndrome, the line after the correction, and the corrections made (R346, R348). An injection reaches the first eight bytes. -/
def TagLine.read (t : TagLine) (bit : Nat) : Decoded :=
  if bit < 64 then gridRead t.err [bit / 8] else gridRead Err.zero []

/-- Write a changed line of a tag cache back under its code: a line with an uncorrectable byte, and one that was fetched poisoned, goes
back poisoned (R330, R360; log entry 99, DESIGN CHOICE). -/
def State.tagBack (s : State) (t : TagLine) : State :=
  if !t.dirty then s
  else
    let d := gridRead t.err (List.range 8)
    let s := (List.range (lineSize t.key / 8)).foldl (fun s i => s.setErr (t.key / 8 + i) Err.zero) (s.lineMove t.key)
    let s := if d.poison || t.bad then s.poisonUnit t.key else s
    (if d.fixed = 0 then s else s.bucket 0 d.fixed).flipLine t.key

/-- Fetch a line of tags into its cache, the line used least recently making room for it; INJ_TAGC flips the fill (R330, R346; log entry
99, DESIGN CHOICE: the replacement). -/
def State.tagFetch (s : State) (key : Nat) (dirty : Bool) : State :=
  match s.mst.tagc.find? (fun t => t.key == key) with
  | some t => s.modM (fun m => { m with tagc := { t with dirty := t.dirty || dirty } :: m.tagc.filter (fun x => x.key != key) })
  | none =>
    let own := s.mst.tagc.filter (fun t => tagCtl t.key == tagCtl key)
    let s := if own.length < tagWays key then s
      else match own.getLast? with
        | some t => (s.tagBack t).modM (fun m => { m with tagc := m.tagc.filter (fun x => x.key != t.key) })
        | none => s
    let r := s.readLine key
    let i := r.2.inject 0x18 (tagCtl key % 16)
    i.2.modM (fun m => { m with tagc := ⟨key, dirty, r.1, if i.1 then s.injMask else Err.zero⟩ :: m.tagc })

/-- Read the unit that holds a key, as far as it lies in [lo, hi): whether it is poisoned, and the state after. A line comes with its
tags, and over the mesh (R330, R338). -/
def State.readUnit (s : State) (key lo hi : Nat) : Bool × State :=
  match storeOf key with
  | .near | .cellar =>
    let r := (s.tagFetch (s.tagPlace key).1 false).readLine key
    let b := r.2.takeBad (s.ctlOf key) false
    (r.1 || b.1, b.2)
  | _ => s.readGrid (key / 8) ((List.range 8).filter (fun j => lo ≤ key / 8 * 8 + j ∧ key / 8 * 8 + j < hi))

/-- The units that a range of keys touches, by their first key. -/
def unitsOf (key n : Nat) : List Nat :=
  let u := unitSize (storeOf key)
  if n = 0 then [] else (List.range ((key + n - 1) / u - key / u + 1)).map (fun i => (key / u + i) * u)

/-- Read a range of keys of one array: the first poisoned key, and the state after. -/
def State.readRange (s : State) (key n : Nat) : Option Nat × State :=
  (unitsOf key n).foldl (fun (r : Option Nat × State) u =>
    let q := r.2.readUnit u key (key + n)
    (if r.1.isSome then r.1 else if q.1 then some (max u key) else none, q.2)) (none, s)

/-! ### Writes -/

/-- A write by any master clears the LDL reservations on its granules of 64 bytes (R105). -/
def State.dropResv (s : State) (key n : Nat) : State :=
  { s with cps := s.cps.map (fun p => match p.resv with
      | some g => if key / 64 ≤ g ∧ g ≤ (key + n - 1) / 64 then { p with resv := none } else p
      | none => p) }

/-- The flip that an armed injection leaves in a unit just written (R371). -/
def State.flipUnit (s : State) (key : Nat) : State :=
  match storeOf key with
  | .near | .cellar => s.flipLine key
  | .spad =>
    let off := key - spadBase
    if s.rd INJ_CTL.BANK = nbits off 17 5 then
      let r := s.inject 0x16 (off / 0x400000)
      if r.1 then r.2.setErr (key / 8) ((r.2.err (key / 8)).xor s.injMask) else s
    else s
  | .pram =>
    let r := s.inject 0x01 ((key - pramBase) / 0x20000)
    if r.1 then r.2.setErr (key / 8) ((r.2.err (key / 8)).xor s.injMask) else s

/-- Make a unit ready for a write of the bytes [lo, hi): a whole unit or whole bytes lose their errors and marking, and a
part of a line or unit is read, corrected and merged under R316, so a poisoned one stays poisoned (R355). -/
def State.prepUnit (s : State) (key lo hi : Nat) : State :=
  match storeOf key with
  | .near | .cellar =>
    let n := unitSize (storeOf key)
    if lo ≤ key ∧ key + n ≤ hi then
      (List.range (n / 8)).foldl (fun s i => s.setErr (key / 8 + i) Err.zero) s
    else (s.readUnit key lo hi).2
  | _ =>
    let e := (List.range 8).foldl (fun (e : Err) j =>
      if lo ≤ key + j ∧ key + j < hi then e.setByte j 0 0 else e) (s.err (key / 8))
    s.setErr (key / 8) (if e.d = 0 ∧ e.c = 0 then Err.zero else e)

/-- Write bytes into one array: check bits, injections and reservations. Tags are left to the callers. -/
def State.writeRange (s : State) (key : Nat) (bs : List Byte) : State :=
  if bs.isEmpty then s
  else
    let us := unitsOf key bs.length
    let s := us.foldl (fun s u => s.prepUnit u key (key + bs.length)) s
    let s := State.putBytes bs key s
    let s := us.foldl (fun s u => (match storeOf u with
      | .near | .cellar =>
        let b := (s.lineMove u).takeBad (s.ctlOf u) true
        if b.1 then b.2.poisonUnit u else b.2
      | _ => s).flipUnit u) s
    s.dropResv key bs.length

/-! ### Tags (R120, R121, R329, R330, R340) -/

/-- The number of the word of the scratchpad tag arrays that holds the tag of a granule, for check errors, and the byte of it. -/
def spadTagAt (g : Nat) : Nat × Nat := ((spadTagBase + (g - spadBase / 16) / 8) / 8, (g - spadBase / 16) / 8 % 8)

/-- Poison a granule of 16 bytes: its line or unit, or its words. -/
def State.poisonGranule (s : State) (g : Nat) : State :=
  match storeOf (16 * g) with
  | .near | .cellar => s.poisonUnit (16 * g)
  | _ => (s.poisonUnit (16 * g)).poisonUnit (16 * g + 8)

/-- An uncorrectable read of a tag: it reads clear and its granule is poisoned (R154, R346, R360). -/
def State.tagLost (s : State) (g synd : Nat) (inj : Bool) : Bool × State :=
  (false, ((s.poisonGranule g).capture 9 (s.instOf (16 * g)) synd false inj (16 * g)).bucket 9 1)

/-- Read the tag of a granule (R120, R330, R340), under the code of the tag store (INJ_TAGSTORE, R154), of the tag cache (INJ_TAGC) or of
the scratchpad's tag array (INJ_STAG, R346). -/
def State.readTag (s : State) (g : Nat) : Bool × State :=
  let key := 16 * g
  match storeOf key with
  | .near | .cellar =>
    let r := s.inject 0x0C (s.instOf key)
    if r.1 then r.2.tagLost g 0xFF true
    else
      let p := s.tagPlace key
      let s := s.tagFetch p.1 false
      match s.mst.tagc.find? (fun t => t.key == p.1) with
      | some t =>
        let d := t.read p.2
        if t.bad then s.tagLost g 0xFF false
        else if d.poison then s.tagLost g d.synd t.err.inj
        else
          let s := if d.fixed = 0 then s
            else (s.modM (fun m => { m with tagc := m.tagc.map (fun x => if x.key = p.1 then { x with err := d.left } else x) })).bucket 0 d.fixed
          (Bool.xor (s.tagAt g) (decide (p.2 < 64) && bitOf d.left.d p.2), s)
      | none => (s.tagAt g, s)
  | .spad =>
    let w := spadTagAt g
    let e := s.err w.1
    let d := gridRead e [w.2]
    if d.poison then s.tagLost g d.synd e.inj
    else
      let s := if d.fixed = 0 then s else (s.setErr w.1 d.left).bucket 0 d.fixed
      (Bool.xor (s.tagAt g) (bitOf d.left.d ((g - spadBase / 16) % 64)), s)
  | .pram => (s.tagAt g, s)

/-- Write the tag of a granule: near and Cellar tags go to the tag cache, and a scratchpad tag gets fresh check bits, which INJ_STAG may
flip (R121, R330, R346). -/
def State.writeTag (s : State) (g : Nat) (b : Bool) : State :=
  let key := 16 * g
  match storeOf key with
  | .near | .cellar => (s.tagFetch (s.tagPlace key).1 true).setTag g b
  | .spad =>
    let w := spadTagAt g
    let e := (s.err w.1).setByte w.2 0 0
    let s := (s.setErr w.1 (if e.d = 0 ∧ e.c = 0 then Err.zero else e)).setTag g b
    if s.rd INJ_CTL.BANK = nbits (key - spadBase) 17 5 then
      let r := s.inject 0x17 ((key - spadBase) / 0x400000)
      if r.1 then r.2.setErr w.1 ((r.2.err w.1).xor s.injMask) else s
    else s
  | .pram => s.setTag g b

/-- Clear the tags of the granules that a range touches (R121). -/
def State.clearTags (s : State) (key n : Nat) : State :=
  if n = 0 then s
  else (List.range ((key + n - 1) / 16 - key / 16 + 1)).foldl (fun s i => s.writeTag (key / 16 + i) false) s

/-- A plain data write: bytes, and the tags of its granules clear (R121). -/
def State.writeData (s : State) (key : Nat) (bs : List Byte) : State := (s.writeRange key bs).clearTags key bs.length

/-- Whether an access from a cluster, or from outside the clusters, reaches a scratchpad over the mesh (R22, R339). -/
def spadRemote (cl : Option ClusterId) (key : Nat) : Bool :=
  decide (storeOf key = .spad) && cl.all (fun c => c.val != (key - spadBase) / 0x400000)

/-- The cluster of a scratchpad key. -/
def spadCl (key : Nat) : MeshUnit := .cluster (Fin.ofNat 16 ((key - spadBase) / 0x400000))

/-- Read a range from a cluster or from outside the clusters: a poisoned flit on the way from another cluster's scratchpad poisons the
read (R338). -/
def State.readBy (s : State) (cl : Option ClusterId) (key n : Nat) : Option Nat × State :=
  let r := s.readRange key n
  if spadRemote cl key then
    let b := r.2.takeBad (spadCl key) false
    (if b.1 then some key else r.1, b.2)
  else r

/-- Write data from a cluster or from outside the clusters: a poisoned flit on the way to another cluster's scratchpad is written
poisoned (R338). -/
def State.writeBy (s : State) (cl : Option ClusterId) (key : Nat) (bs : List Byte) : State :=
  let s := s.writeData key bs
  if spadRemote cl key && !bs.isEmpty then
    let b := s.takeBad (spadCl key) true
    if b.1 then b.2.poisonUnit key else b.2
  else s

/-- Empty a granule of 64 KiB: its bytes, tags and markings. -/
def State.emptyGranule (s : State) (gran : Nat) : State :=
  { s with
    mem := s.mem.filter (fun e => e.1 / 65536 ≠ gran)
    tags := s.tags.filter (fun e => e.1 / 4096 ≠ gran)
    errs := s.errs.filter (fun e => e.1 / 8192 ≠ gran) }

/-- The first line or unit of a granule that lies on a stack or channel. -/
def State.granFirst (s : State) (gran unit : Nat) : Option Nat :=
  let key := gran * 65536
  (List.range (65536 / lineSize key)).findSome? (fun i =>
    let k := key + i * lineSize key
    if s.instOf k = unit then some k else none)

/-- What a write of every line of a granule gives an armed injection of its tier: the flip of its first line there (R373). -/
def State.granFlip (s : State) (gran : Nat) : State :=
  let u := s.rd INJ_SEL.INST
  if s.armed (if gran * 65536 < celBase then 0x20 else 0x21) u then
    match s.granFirst gran u with | some k => s.flipLine k | none => s
  else s

/-- Zero a granule of 64 KiB, tags and markings included (R135, R360): every line of it is written. -/
def State.zeroGranule (s : State) (gran : Nat) : State := ((s.emptyGranule gran).granMove gran).granFlip gran

/-- The number that XINFO gives for the source of poisoned data (R361). -/
def poisonSource (key : Nat) : Nat := match storeOf key with | .near => 0 | .cellar => 1 | .spad => 2 | .pram => 3

end Sys2Proof.Machine
end

