-- ==== Sys2Proof/Machine/Mesh.lean ====
section
/-! DEFINITION. The stream network (R18 to R22, R25 to R28, R336 to R338): a mesh of 4 × 4 routers whose inputs hold a queue for each
channel. A flit goes along its row and then along its column; credits are the free entries of the next queue. What the accesses of the
other commands move does not pass these queues: the commands FLIT_FORWARD bring their own flits (log entry 108, DESIGN CHOICE). -/

namespace Sys2Proof.Machine

/-! ### Routers and units -/

/-- Mesh column and row of a cluster and of its router (R19). -/
def meshXY (n : Nat) : Nat × Nat := (2 * (n / 4 % 2) + n % 2, 2 * (n / 4 / 2) + n % 4 / 2)

/-- The router at a column and a row (R19). -/
def routerAt (x y : Nat) : Nat := 4 * (2 * (y / 2) + x / 2) + 2 * (y % 2) + x % 2

/-- Mesh hops between two clusters. -/
def meshHops (a b : Nat) : Nat :=
  let x := meshXY a
  let y := meshXY b
  (max x.1 y.1 - min x.1 y.1) + (max x.2 y.2 - min x.2 y.2)

/-- The router that a unit is attached to (R18, R22). -/
def unitRouter : MeshUnit → Nat
  | .cluster n => n.val
  | .near n => n.val
  | .de n => n.val
  | .cu n => n.val
  | .cc n => 4 * (n.val / 2) + (if n.val % 2 = 0 then 0 else 3)
  | .hub q => 4 * q.val + 1

/-- The number of a unit among all. -/
def unitNo : MeshUnit → Nat
  | .cluster n => n.val
  | .near n => 16 + n.val
  | .de n => 32 + n.val
  | .cu n => 48 + n.val
  | .cc n => 64 + n.val
  | .hub q => 72 + q.val

/-- The entries of the queue between a unit and its router, for one channel and direction: those of R27, and 8 for a cluster, which has
its router's clock (R27, R337). -/
def unitEntries : MeshUnit → Nat
  | .cluster _ => 8
  | .near _ => 64
  | .cc _ => 32
  | _ => 16

/-- The units attached to a router, in the order of the round robin after the four links (log entry 108, DESIGN CHOICE). -/
def unitsAt (r : Nat) : List MeshUnit :=
  ([.cluster (Fin.ofNat 16 r), .near (Fin.ofNat 16 r), .de (Fin.ofNat 16 r), .cu (Fin.ofNat 16 r)] : List MeshUnit) ++
    (if r % 4 = 0 then [.cc (Fin.ofNat 8 (2 * (r / 4)))] else if r % 4 = 3 then [.cc (Fin.ofNat 8 (2 * (r / 4) + 1))]
     else if r % 4 = 1 then [.hub (Fin.ofNat 4 (r / 4))] else [])

/-- The number of a port among those of a router. -/
def portNo : MeshPort → Nat
  | .north => 0
  | .south => 1
  | .east => 2
  | .west => 3
  | .unit u => 4 + unitNo u

/-- The router on the other side of a link port, and the port of it that the link ends at; none at the edge and for a unit (R20). -/
def portOver (p : MeshPort) (r : Nat) : Option (Nat × MeshPort) :=
  let a := meshXY r
  match p with
  | .north => if a.2 = 0 then none else some (routerAt a.1 (a.2 - 1), .south)
  | .south => if a.2 = 3 then none else some (routerAt a.1 (a.2 + 1), .north)
  | .east => if a.1 = 3 then none else some (routerAt (a.1 + 1) a.2, .west)
  | .west => if a.1 = 0 then none else some (routerAt (a.1 - 1) a.2, .east)
  | .unit _ => none

/-- The entries of the queue at a link port of a router, for each channel: 16 where the link crosses quadrants, and 8 inside one
(R27, R337). -/
def linkEntries (r next : Nat) : Nat := if r / 4 = next / 4 then 8 else 16

/-- The output of a router that a flit takes: along the row to the column of its destination, then along the column (R21). -/
def flitOut (f : Flit) (r : Nat) : MeshPort :=
  let a := meshXY r
  let b := meshXY (unitRouter f.dst)
  if a.1 < b.1 then .east else if b.1 < a.1 then .west else if a.2 < b.2 then .south else if b.2 < a.2 then .north else .unit f.dst

/-! ### Queues -/

/-- The number of the queue at an input of a router, for a channel. -/
def inKey (r : Nat) (p : MeshPort) (ch : Nat) : Nat := (r * 128 + portNo p) * 8 + ch

/-- The number of the queue at a unit, for a channel. -/
def outKey (u : MeshUnit) (ch : Nat) : Nat := unitNo u * 8 + ch

/-- A queue of the network. -/
def qOf (m : List (Nat × List Flit)) (k : Nat) : List Flit := (mapFind m k).getD []

/-- Set a queue of the network; empty ones are not listed. -/
def qPut (m : List (Nat × List Flit)) (k : Nat) (l : List Flit) : List (Nat × List Flit) :=
  if l.isEmpty then mapErase m k else mapInsert m k l

/-- A unit puts a flit into its router's queue, when there is room (R26, R27). -/
def MeshSt.enter (m : MeshSt) (f : Flit) (ch : Nat) : MeshSt :=
  let k := inKey (unitRouter f.src) (.unit f.src) ch
  if (qOf m.inq k).length < unitEntries f.src then { m with inq := qPut m.inq k (qOf m.inq k ++ [f]) } else m

/-- A unit takes the first flit that waits for it: a poisoned one poisons the access that it belongs to, a write at its destination or a
read at its source (R338). -/
def MeshSt.take (m : MeshSt) (u : MeshUnit) (ch : Nat) : MeshSt :=
  match qOf m.outq (outKey u ch) with
  | [] => m
  | f :: rest =>
    { m with
      outq := qPut m.outq (outKey u ch) rest
      bad := if f.poison then m.bad ++ [if f.write then (f.dst, true) else (f.src, false)] else m.bad }

/-- Whether a router holds a credit for an output on a channel: the next queue has a free entry (R337). -/
def MeshSt.credit (m : MeshSt) (r : Nat) (out : MeshPort) (ch : Nat) : Bool :=
  match out with
  | .unit u => decide ((qOf m.outq (outKey u ch)).length < unitEntries u)
  | p => match portOver p r with
    | some (n, q) => decide ((qOf m.inq (inKey n q ch)).length < linkEntries r n)
    | none => false

/-- The inputs of a router. -/
def inputsAt (r : Nat) : List MeshPort := [.north, .south, .east, .west] ++ (unitsAt r).map .unit

/-- The input that an output of a router serves next on a channel: round robin among those whose first flit takes that output, from the
one after the input served last (R338). -/
def MeshSt.pick (m : MeshSt) (r : Nat) (out : MeshPort) (ch : Nat) : Option MeshPort :=
  let l := inputsAt r
  let i := match mapFind m.last (inKey r out ch) with
    | some n => (l.findIdx? (fun p => portNo p == n)).elim 0 (· + 1)
    | none => 0
  (l.drop i ++ l.take i).find? (fun p => ((qOf m.inq (inKey r p ch)).head?).any (fun f => flitOut f r == out))

/-- A flit leaves an input of a router for an output. -/
def MeshSt.move (m : MeshSt) (r : Nat) (inp out : MeshPort) (ch : Nat) (f : Flit) : MeshSt :=
  let m := { m with inq := qPut m.inq (inKey r inp ch) ((qOf m.inq (inKey r inp ch)).drop 1), last := mapInsert m.last (inKey r out ch) (portNo inp) }
  match out with
  | .unit u => { m with outq := qPut m.outq (outKey u ch) (qOf m.outq (outKey u ch) ++ [f]) }
  | p => match portOver p r with
    | some (n, q) => { m with inq := qPut m.inq (inKey n q ch) (qOf m.inq (inKey n q ch) ++ [f]) }
    | none => m

/-- The buffer of a router reads a flit under the grid code: INJ_MESH flips its first word; an error is corrected, or the flit goes on
poisoned (R338, R346). -/
def State.flitRead (s : State) (r : Nat) (f : Flit) : Flit × State :=
  let i := s.inject 0x1B r
  if !i.1 then (f, i.2)
  else
    let d := gridRead s.injMask (List.range 8)
    if d.poison then ({ f with poison := true }, (i.2.capture 13 r d.synd d.marking true 0).bucket 13 1)
    else ({ f with data := f.data ^^^ d.left.d.setWidth 512 }, if d.fixed = 0 then i.2 else i.2.bucket 0 d.fixed)

/-- FLIT_FORWARD: a unit may put a new flit into its router's queue, and the unit of a local output may take the first flit that waits for
it; then the router forwards a flit of the channel to the output, when it holds a credit (R336 to R338). -/
def execFlitForward (router : ClusterId) (port : MeshPort) (x : FlitMove) (s : State) : Out :=
  let ch := x.ch
  let m := match x.fresh with | some f => s.mesh.enter f ch.val | none => s.mesh
  let m := match port with | .unit u => if x.taken then m.take u ch.val else m | _ => m
  let s := { s with mesh := m }
  .next (match m.pick router.val port ch.val with
    | none => s
    | some inp =>
      match qOf m.inq (inKey router.val inp ch.val) with
      | [] => s
      | f :: _ =>
        if !m.credit router.val port ch.val then s
        else
          let r := s.flitRead router.val f
          { r.2 with mesh := m.move router.val inp port ch.val r.1 })

/-- Whether a queue into a quadrant from another clock holds entries: at a link from another quadrant, or from a unit whose clock is not
the quadrant's (R27, R28). -/
def MeshSt.crossing (m : MeshSt) (q : Nat) : Bool :=
  m.inq.any (fun e =>
    let r := e.1 / 8 / 128
    let p := e.1 / 8 % 128
    decide (r / 4 = q) && !e.2.isEmpty &&
      (if p < 4 then
        (match ([MeshPort.north, .south, .east, .west][p]?).bind (fun d => portOver d r) with
        | some (n, _) => decide (n / 4 ≠ q)
        | none => false)
       else decide (20 ≤ p)))

end Sys2Proof.Machine
end

