-- ==== Sys2Proof/Machine/Paging.lean ====
section
/-! DEFINITION. Paging: granules and quotas (R132 to R137, R310 to R312, R656), page tables (R129, R130), translation with
first-touch allocation (R131, R152, R339, R82) and shootdowns (R150). -/

namespace Sys2Proof.Machine

/-! ### Granules -/

/-- The first granule number of the Cellar. -/
def celGran0 : Nat := celBase / 65536

/-- The tier of a granule: 0 near, 1 Cellar. -/
def granTier (g : Nat) : Nat := if g < celGran0 then 0 else 1

/-- The number of granules in a slot, and in a quadrant group of it, for a tier and the Cellar population (R310, R333). -/
def slotShape (tier pop : Nat) : Nat × Nat := if tier = 0 then (16, 4) else if pop = 4 then (4, 1) else (8, 2)

/-- Whether a free granule is of an interleave kind, as the taken granules of its slot allow (R311, R312). -/
def kindOk (gs : List (Nat × Gran)) (pop g kind : Nat) : Bool :=
  let tier := granTier g
  let g0 := if tier = 0 then g else g - celGran0
  let base := g - g0
  let sh := slotShape tier pop
  let slot := base + g0 / sh.1 * sh.1
  let grp := base + g0 / sh.2 * sh.2
  let inSlot := (List.range sh.1).filterMap (fun i => mapFind gs (slot + i))
  let inGrp := (List.range sh.2).filterMap (fun i => mapFind gs (grp + i))
  (mapFind gs g).isNone &&
  (if kind = 0 then inSlot.all (fun x => x.il == 0)
   else inSlot.all (fun x => x.il != 0) && inGrp.all (fun x => x.il.toNat == kind))

/-- The lowest number from `g` on that satisfies a test, among the next `fuel`. -/
def lowest (test : Nat → Bool) : Nat → Nat → Option Nat
  | 0, _ => none
  | fuel + 1, g => if test g then some g else lowest test fuel (g + 1)

/-- The granules of a tier that are present: first and count. -/
def State.tierSpan (s : State) (tier : Nat) : Nat × Nat := if tier = 0 then (0, s.mst.nearGran) else (celGran0, s.mst.celGran)

/-- The lowest free granule of a kind in a tier. -/
def State.freeOfKind (s : State) (tier kind : Nat) : Option Nat :=
  let sp := s.tierSpan tier
  lowest (fun g => kindOk s.mst.granules (s.rd CELLAR_POP.POP) g kind) sp.2 sp.1

/-- The kinds tried for a request, in order (R312). -/
def kindOrder (kind : Nat) : List Nat := if kind = 0 then [0, 1, 2] else if kind = 1 then [1, 2, 0] else [2, 1, 0]

/-- The granules that a partition holds in a tier (R134). -/
def State.held (s : State) (p : PartId) (tier : Nat) : Nat :=
  (s.mst.granules.filter (fun e => e.2.owner = p && granTier e.1 == tier)).length

/-- The granules of a tier that are free. -/
def State.freeGran (s : State) (tier : Nat) : Nat :=
  (s.tierSpan tier).2 - (s.mst.granules.filter (fun e => granTier e.1 == tier)).length

/-- The reserve and the limit of a record in a tier; a limit of 0 is none (R42). -/
def PartRec.quota (r : PartRec) (tier : Nat) : Nat × Nat :=
  if tier = 0 then (r.nearReserve, r.nearLimit) else (r.celReserve, r.celLimit)

/-- Whether a partition's holding would pass its limit with n more granules (R134). -/
def State.overLimit (s : State) (p : PartId) (tier n : Nat) : Bool :=
  match (s.part p).rcd with
  | some r => (r.quota tier).2 != 0 && decide ((r.quota tier).2 < s.held p tier + n)
  | none => true

/-- Whether a tier can supply n granules to a partition (R134). -/
def State.canSupply (s : State) (p : PartId) (tier n : Nat) : Bool :=
  match (s.part p).rcd with
  | none => false
  | some r =>
    let others := (fins 16).foldl (fun k q =>
      if q = p then k else match (s.part q).rcd with
        | some rq => k + ((rq.quota tier).1 - s.held q tier)
        | none => k) 0
    !s.overLimit p tier n && decide (n ≤ s.freeGran tier) &&
      (decide (s.held p tier + n ≤ (r.quota tier).1) || decide (others + n ≤ s.freeGran tier))

/-- Mark granules as taken, zeroed (R135). -/
def State.takeSpan (s : State) (g n : Nat) (x : Gran) : State :=
  (List.range n).foldl (fun s i =>
    (s.modM (fun m => { m with
      granules := mapInsert m.granules (g + i) x
      zNear := if granTier g = 0 then m.zNear - 1 else m.zNear
      zCellar := if granTier g = 0 then m.zCellar else m.zCellar - 1 })).zeroGranule (g + i)) s

/-- Take one granule for a partition in a tier, of the requested kind or the kinds tried after it (R312). -/
def State.takeGranule (s : State) (p : PartId) (tier kind : Nat) (hash : BitVec 3) (use : Use) : Option (Nat × Nat × State) :=
  (kindOrder kind).findSome? (fun k =>
    match s.freeOfKind tier k with
    | some g =>
      let s := if k = kind then s else s.cnt (if tier = 0 then MEM_IL_FALLBACK.NEAR else MEM_IL_FALLBACK.CELLAR) 1
      some (g, k, s.takeSpan g 1 ⟨p, BitVec.ofNat 2 k, hash, use⟩)
    | none => none)

/-- The lowest aligned run of n free granules of a tier that whole slots make up, for a large page (R311). -/
def State.freeRun (s : State) (tier n : Nat) : Option Nat :=
  let sp := s.tierSpan tier
  (lowest (fun i => (sp.1 + i * n + n ≤ sp.1 + sp.2) && !s.mst.granules.any (fun e =>
    decide (sp.1 + i * n ≤ e.1) && decide (e.1 < sp.1 + i * n + n))) (sp.2 / n) 0).map (fun i => sp.1 + i * n)

/-- Give granules back to the free lists. -/
def State.freeSpan (s : State) (g n : Nat) : State :=
  s.modM (fun m => { m with granules := m.granules.filter (fun e => !(decide (g ≤ e.1) && decide (e.1 < g + n))) })

/-! ### Page tables -/

/-- Number of a table entry for a virtual address at a level (R129). -/
def ptIndex (level va : Nat) : Nat :=
  if level = 3 then nbits va 39 17 else if level = 2 then nbits va 30 9 else if level = 1 then nbits va 21 9 else nbits va 16 5

/-- The bytes of a table of a level (R129). -/
def tableSize (level : Nat) : Nat := if level = 3 then 0x100000 else if level = 0 then 256 else 4096

/-- Bytes that a leaf of a level maps. -/
def leafSpan (level : Nat) : Nat := if level = 2 then 0x40000000 else if level = 1 then 0x200000 else 0x10000

/-- A table entry as the array holds it. -/
def State.pte (s : State) (a : Nat) : Word := BitVec.ofNat 64 (leNat (s.bytesAt a 8))

/-- Write a table entry. -/
def State.setPte (s : State) (a : Nat) (e : Word) : State := s.writeRange a (leBytes 8 e.toNat)

/-- What a walk finds: a leaf with its address and level, or the level whose entry is missing, with the entry's address. -/
inductive Walk where
  | leaf (addr level : Nat) (e : Word)
  | missing (addr level : Nat)
  | noRoot
  deriving DecidableEq, Repr

/-- Walk down from a table (R129 to R131). -/
def State.walkFrom (s : State) (va : Nat) : Nat → Nat → Walk
  | table, 0 =>
    let a := table + 8 * ptIndex 0 va
    let e := s.pte a
    if bitOf e 0 then .leaf a 0 e else .missing a 0
  | table, level + 1 =>
    let a := table + 8 * ptIndex (level + 1) va
    let e := s.pte a
    if !bitOf e 0 then .missing a (level + 1)
    else if bitOf e 1 then .leaf a (level + 1) e
    else s.walkFrom va (nbits e.toNat 8 35 * 256) level

/-- Walk a partition's table. -/
def State.walk (s : State) (p : PartId) (va : Nat) : Walk :=
  match (s.part p).root with
  | some r => s.walkFrom va r 3
  | none => .noRoot

/-- The leaves that map pages of [va, hi): virtual address, entry address, level and entry. -/
def State.leavesIn (s : State) (p : PartId) (hi : Nat) : Nat → Nat → List (Nat × Nat × Nat × Word)
  | 0, _ => []
  | fuel + 1, va =>
    if hi ≤ va then []
    else match s.walk p va with
      | .noRoot => []
      | .leaf ea level e => (va, ea, level, e) :: s.leavesIn p hi fuel ((va / leafSpan level + 1) * leafSpan level)
      | .missing _ level =>
        let span := if level = 3 then 2 ^ 39 else leafSpan level
        s.leavesIn p hi fuel ((va / span + 1) * span)

/-- The entries that a walk reads, from L3 down: address and level. -/
def State.walkPath (s : State) (va : Nat) : Nat → Nat → List (Nat × Nat)
  | table, 0 => [(table + 8 * ptIndex 0 va, 0)]
  | table, level + 1 =>
    let a := table + 8 * ptIndex (level + 1) va
    let e := s.pte a
    (a, level + 1) :: (if bitOf e 0 && !bitOf e 1 then s.walkPath va (nbits e.toNat 8 35 * 256) level else [])

/-- Read the entries of a walk under the near code: the level of the first uncorrectable one (R152, R154). -/
def State.walkReads (s : State) (path : List (Nat × Nat)) : Option Nat × State :=
  path.foldl (fun (r : Option Nat × State) e =>
    if r.1.isSome then r
    else
      let i := r.2.inject 0x09 (r.2.nearAt e.1).1
      let st := (i.2.nearAt e.1).1
      if i.1 then
        let s := ((i.2.poisonUnit e.1).capture 3 st 0xFF false true (e.1 / 32 * 32)).bucket 3 1
        (some e.2, (s.capture 11 st 0xFF false true e.1).bucket 11 1)
      else
        let q := i.2.readRange e.1 8
        if q.1.isSome then (some e.2, (q.2.capture 11 (q.2.nearAt e.1).1 0xFF false false e.1).bucket 11 1)
        else (none, q.2)) (none, s)

/-- Take the L3 table of a partition when it has none: the 16 granules of one slot (R656). -/
def State.ensureRoot (s : State) (p : PartId) : State :=
  match (s.part p).root, (s.part p).rcd with
  | none, some r =>
    (match s.freeRun 0 16 with
    | some g => (s.takeSpan g 16 ⟨p, r.il, r.hash, .table⟩).modPart p (fun x => { x with root := some (g * 65536) })
    | none => s)
  | _, _ => s

/-- A place for a small table of a partition: the lowest free offset of a granule that holds its tables (R656). -/
def State.tableHole (s : State) (p : PartId) (size : Nat) : Option Nat :=
  let ts := (s.part p).tables
  let grans := (s.mst.granules.filter (fun e => e.2.owner = p && e.2.use == .table)).map (·.1)
  let root := (s.part p).root
  grans.findSome? (fun g =>
    let inRoot := match root with | some r => decide (r ≤ g * 65536) && decide (g * 65536 < r + 0x100000) | none => false
    if inRoot then none
    else (List.range ((65536 - size) / 256 + 1)).findSome? (fun i =>
      let a := g * 65536 + i * 256
      if ts.any (fun t => decide (t.1 < a + size) && decide (a < t.1 + t.2)) then none else some a))

/-- Take a table of a level for a partition (R132, R656): its address, none when no near granule can be taken. -/
def State.newTable (s : State) (p : PartId) (level : Nat) : Option (Nat × State) :=
  let size := tableSize level
  let note (a : Nat) (s : State) : Nat × State := (a, s.modPart p (fun x => { x with tables := x.tables ++ [(a, size)] }))
  match s.tableHole p size with
  | some a => some (note a s)
  | none =>
    match (s.part p).rcd with
    | none => none
    | some r =>
      if !s.canSupply p 0 1 then none
      else match s.takeGranule p 0 r.il.toNat r.hash .table with
        | some (g, _, s) => some (note (g * 65536) s)
        | none => none

/-- A non-leaf entry (R130). -/
def nodeEntry (a : Nat) : Word := BitVec.ofNat 64 (1 + a)

/-- The address of the entry of a level for a virtual address, none where a table above it is missing. -/
def State.entryAt (s : State) (p : PartId) (va level : Nat) : Option Nat :=
  match (s.part p).root with
  | some r => ((s.walkPath va r 3).find? (fun e => e.2 == level)).map (·.1)
  | none => none

/-- Make the tables that a leaf at a level needs (R132): the address of the leaf's entry, none when a table cannot be taken, and the
state with the tables made until then. -/
def State.ensureTables (s : State) (p : PartId) (va level : Nat) : Nat → Option Nat × State
  | 0 => (none, s)
  | fuel + 1 =>
    match s.entryAt p va level, s.walk p va with
    | some a, _ => (some a, s)
    | none, .missing a l =>
      (match s.newTable p (l - 1) with
      | none => (none, s)
      | some (t, s) => (s.setPte a (nodeEntry t)).ensureTables p va level fuel)
    | none, _ => (none, s)

/-- The tables under a non-leaf entry of a level: address and size. -/
def State.tablesUnder (s : State) (e : Word) : Nat → List (Nat × Nat)
  | 0 => []
  | level + 1 =>
    if !bitOf e 0 || bitOf e 1 then []
    else
      let t := nbits e.toNat 8 35 * 256
      (t, tableSize level) :: (if level = 0 then [] else (List.range 512).flatMap (fun i => s.tablesUnder (s.pte (t + 8 * i)) level))

/-- Take away the tables under an entry, which map nothing: they are emptied and their room is free (R656). -/
def State.dropTables (s : State) (p : PartId) (ea level : Nat) : State :=
  let ts := s.tablesUnder (s.pte ea) level
  let s := ts.foldl (fun s t => (List.range (t.2 / 8)).foldl (fun s i =>
    if s.pte (t.1 + 8 * i) = 0 then s else s.setPte (t.1 + 8 * i) 0) s) s
  if ts.isEmpty then s else s.modPart p (fun x => { x with tables := x.tables.filter (fun t => !ts.contains t) })

/-- A leaf entry (R130). -/
def leafEntry (pa tier il hash : Nat) (pin cold : Bool) : Word :=
  BitVec.ofNat 64 (3 + 4 * tier + 8 * il + 32 * hash + 256 * b2n pin + 512 * b2n cold + pa / 65536 * 65536)

/-- The physical address that a leaf gives for a virtual address. -/
def leafPa (e : Word) (level va : Nat) : Nat := nbits e.toNat 16 27 * 65536 + va % leafSpan level

/-! ### Hints and quarantine -/

/-- The newest hint on a page that a test selects (R149). -/
def Part.hint (x : Part) (page : Nat) (sel : HintKind → Bool) : Option HintKind :=
  (x.hints.find? (fun h => decide (h.base ≤ page) && decide (page < h.base + h.n) && sel h.kind)).map (·.kind)

/-- The placement hint on a page. -/
def Part.placeHint (x : Part) (page : Nat) : Option HintKind :=
  x.hint page (fun k => match k with | .near => true | .cold => true | .none => true | _ => false)

/-- Whether a page is guarded. -/
def Part.guarded (x : Part) (page : Nat) : Bool :=
  x.hint page (fun k => match k with | .guard => true | .unguard => true | _ => false) == some .guard

/-- The layout of a page: interleave, hash and page size code (R132, R149). -/
def Part.layout (x : Part) (page : Nat) : Nat × Nat × Nat :=
  match x.hint page (fun k => match k with | .layout .. => true | _ => false), x.rcd with
  | some (.layout il h sz), _ => (il.toNat, h.toNat, sz.toNat)
  | _, some r => (r.il.toNat, r.hash.toNat, 0)
  | _, none => (0, 0, 0)

/-- Whether two address ranges, given as base and length, meet. -/
def rangesMeet (a b : Nat × Nat) : Bool := decide (a.1 < b.1 + b.2) && decide (b.1 < a.1 + a.2)

/-- Whether a range meets a quarantine set of a partition (R139). -/
def Part.inQuarantine (x : Part) (r : Nat × Nat) : Bool := x.qActive.any (rangesMeet r) || x.qNext.any (rangesMeet r)

/-! ### Translation -/

/-- What a translation answers. -/
inductive Tr where
  /-- The key of the byte in the memory map. -/
  | ok (key : Nat)
  /-- A cause of R388 with its XINFO. -/
  | fault (cause : Byte) (info : Word)
  /-- The access waits (R147, R527). -/
  | wait
  deriving DecidableEq, Repr

/-- Who makes an access: partition, cluster, the number that XINFO names, whether it writes, whether through PINNED_NEAR,
and the vector queue whose Shadow window it belongs to. -/
structure Access where
  part : PartId
  cl : ClusterId
  num : Nat
  wr : Bool
  pin : Bool
  win : Option CpId
  deriving DecidableEq, Repr

/-- XINFO of a translation cause: the virtual address and bits [63:56] (R152). -/
def trInfo (va hi : Nat) : Word := BitVec.ofNat 64 (va % 2 ^ 56 + hi % 256 * 2 ^ 56)

/-- Count an ALLOC_FAIL and give its XINFO (R136, R153). -/
def State.allocFail (s : State) (p : PartId) (va tier reason : Nat) : Tr × State :=
  (.fault 0x0A (trInfo va (tier + 4 * reason)), s.cntSat (ALLOC_STAT.FAILS p) 1)

/-- Whether a tier can supply a page of n granules: a large page also needs an aligned run of them (R134, R311). -/
def State.canPlace (s : State) (p : PartId) (tier n : Nat) : Bool :=
  s.canSupply p tier n && (decide (n ≤ 1) || (s.freeRun tier n).isSome)

/-- The tier for a page, or the tier and the reason of the refusal (R133, R136). -/
def State.chooseTier (s : State) (a : Access) (page n : Nat) : Except (Nat × Nat) (Nat × Bool × Bool) :=
  let x := s.part a.part
  let det := x.rcd.any (·.det)
  let why (t : Nat) : Nat := if s.overLimit a.part t n then 0 else 1
  if x.placeHint page = some .cold then
    if s.canPlace a.part 1 n then .ok (1, false, true) else .error (1, why 1)
  else if a.pin ∨ x.placeHint page = some .near ∨ det then
    if s.canPlace a.part 0 n then .ok (0, true, false) else .error (0, why 0)
  else if s.canPlace a.part 0 n then .ok (0, false, false)
  else if s.canPlace a.part 1 n then .ok (1, false, false)
  else .error (2, why 1)

/-- The level of the leaf for an unmapped page whose entry is missing at a level: what the hint asks for, where nothing is mapped in a
page of that size yet; else 64 KiB (R132, R149). -/
def State.pageLevel (s : State) (p : PartId) (va missing : Nat) : Nat :=
  let want := ((s.part p).layout (va / 65536)).2.2
  if want ≤ missing then want
  else
    let first := va / leafSpan want * leafSpan want
    if (s.leavesIn p (first + leafSpan want) 0x1000000 first).isEmpty then want else 0

/-- First touch of an unmapped page: its tables, then its granules, then its leaf (R132 to R136). -/
def State.firstTouch (s : State) (a : Access) (va level0 : Nat) : Tr × State :=
  let page := va / 65536
  let lay := (s.part a.part).layout page
  let level := s.pageLevel a.part va level0
  let n := leafSpan level / 65536
  match s.ensureTables a.part va level 4 with
  | (none, s) => s.allocFail a.part va 0 2
  | (some ea, s) =>
    match s.chooseTier a page n with
    | .error e => s.allocFail a.part va e.1 e.2
    | .ok (tier, pin, cold) =>
      let s := s.dropTables a.part ea level
      let got : Option (Nat × Nat × State) :=
        if level = 0 then s.takeGranule a.part tier lay.1 (BitVec.ofNat 3 lay.2.1) .data
        else (s.freeRun tier n).map (fun g => (g, 0, s.takeSpan g n ⟨a.part, 0, BitVec.ofNat 3 lay.2.1, .data⟩))
      match got with
      | none => s.allocFail a.part va tier 1
      | some (g, il, s) =>
        let e := leafEntry (g * 65536) tier il lay.2.1 pin cold
        let e := setBitOf (setBitOf e 11 true) 10 a.wr
        (.ok (leafPa e level va), s.setPte ea e)

/-- Whether an entry of a translation unit maps a page of a partition in a cluster. -/
def TlbEnt.maps (t : TlbEnt) (cl : ClusterId) (p : PartId) (page : Nat) : Bool :=
  t.cl == cl && t.part == p && decide (t.page ≤ page) && decide (page < t.page + t.pages)

/-- Whether an entry maps any of n pages of a partition. -/
def TlbEnt.meets (t : TlbEnt) (p : PartId) (page n : Nat) : Bool :=
  t.part == p && decide (t.page < page + n) && decide (page < t.page + t.pages)

/-- Put a translation into a cluster's unit, which has 2,048 entries for pages of 64 KiB and 256 for large ones (R131): the one put in
first makes room (log entry 100, DESIGN CHOICE). -/
def tlbPut (l : List TlbEnt) (t : TlbEnt) : List TlbEnt :=
  let l := l.filter (fun u => !u.maps t.cl t.part t.page)
  let like (u : TlbEnt) : Bool := u.cl == t.cl && (u.pages == 1) == (t.pages == 1)
  if (l.filter like).length < (if t.pages = 1 then 2048 else 256) then t :: l else t :: (l.reverse.eraseP like).reverse

/-- Record the translation of a leaf of a level in a cluster's unit; INJ_TLB may flip the entry (R131, R154). -/
def State.tlbFill (s : State) (cl : ClusterId) (p : PartId) (page level : Nat) : State :=
  let r := s.inject 0x08 cl.val
  let n := leafSpan level / 65536
  r.2.modM (fun m => { m with tlb := tlbPut m.tlb ⟨cl, p, page / n * n, n, if r.1 then s.injMask else Err.zero⟩ })

/-- Look a page up in a cluster's unit: what the grid code corrects is a hit, and an entry that it cannot correct is dropped
(R347, R348). -/
def State.tlbHit (s : State) (cl : ClusterId) (p : PartId) (page : Nat) : Bool × State :=
  match s.mst.tlb.find? (fun t => t.maps cl p page) with
  | none => (false, s)
  | some t =>
    if t.err = Err.zero then (true, s)
    else
      let d := gridRead t.err (List.range 8)
      if d.poison then
        (false, ((s.modM (fun m => { m with tlb := m.tlb.filter (fun u => u ≠ t) })).capture 1 cl.val d.synd d.marking true page).bucket 1 1)
      else
        (true, (s.modM (fun m => { m with tlb := m.tlb.map (fun u => if u = t then { u with err := Err.zero } else u) })).bucket 0 d.fixed)

/-- One access at a controller sampled for Turning: HEAT of the page and the requesting cluster; INJ_HEAT flips the sample (R144, R154;
log entry 101, DESIGN CHOICE: its number is that cluster). -/
def State.sample (s : State) (a : Access) (page key : Nat) (ea : Nat) (e : Word) : State :=
  let i : Fin 24 := Fin.ofNat 24 (if key < celBase then s.instOf key else 16 + s.instOf key)
  let n := s.mst.heatCnt[i.val] + 1
  if n < 256 then s.modM (fun m => { m with heatCnt := vecUpd m.heatCnt i (fun _ => n) })
  else
    let r := (s.modM (fun m => { m with heatCnt := vecUpd m.heatCnt i (fun _ => 0) })).inject 0x0A a.cl.val
    let h := nbits e.toNat 48 8
    (r.2.setPte ea (e + BitVec.ofNat 64 ((min 255 (h + 1) - h) * 2 ^ 48))).modM (fun m =>
      { m with samples := ⟨a.part, page, a.cl, if r.1 then s.injMask else Err.zero⟩ :: m.samples })

/-- Copy granules with their tags and their errors: every line of both moves. -/
def State.moveGranules (s : State) (src dst n : Nat) : State :=
  let lo := src * 65536
  let hi := lo + n * 65536
  let d := dst * 65536
  let s := (List.range n).foldl (fun s i => ((s.granMove (src + i)).emptyGranule (dst + i)).granMove (dst + i)) s
  { s with
    mem := (s.mem.filter (fun e => decide (lo ≤ e.1) && decide (e.1 < hi))).foldl (fun m e =>
      mapPut memDefault m (d + (e.1 - lo)) e.2) s.mem
    tags := (s.tags.filter (fun e => decide (lo ≤ 16 * e.1) && decide (16 * e.1 < hi))).foldl (fun m e =>
      mapPut tagDefault m (d / 16 + (e.1 - lo / 16)) e.2) s.tags
    errs := (s.errs.filter (fun e => decide (lo ≤ 8 * e.1) && decide (8 * e.1 < hi))).foldl (fun m e =>
      mapPut errDefault m (d / 8 + (e.1 - lo / 8)) e.2) s.errs }

/-- Copy granules with their tags and their errors; an armed injection flips a line that is written. -/
def State.copyGranules (s : State) (src dst n : Nat) : State :=
  (List.range n).foldl (fun s i => s.granFlip (dst + i)) (s.moveGranules src dst n)

/-- The pages of 64 KiB that Mirror pressure counts: those dirtied since the last cut and those of the open checkpoint not yet
shipped (R542). -/
def State.pressPages (s : State) : Nat :=
  s.pair.dirty.length + (match s.pair.ship with | some o => o.pages.length | none => 0)

/-- PRESS_MIB in pages; 0 acts as 1 (R553). -/
def State.pressLimit (s : State) : Nat := 16 * max 1 (s.rd PAIR_CFG.PRESS_MIB)

/-- Mirror pressure after the pages it counts changed (R542). -/
def State.pressSettle (s : State) : State :=
  if s.rd PAIR_STAT.ROLE ≠ 1 then { s with pair := { s.pair with pressHold := false } }
  else
    { s with pair := { s.pair with
      pressHold := if 2 * s.pressLimit < s.pressPages then true else if s.pressPages ≤ s.pressLimit then false else s.pair.pressHold } }

/-- A write to a page: it is dirty for the next checkpoint of a paired side (R540, R549). -/
def State.noteDirty (s : State) (p : PartId) (page : Nat) : State :=
  let role := s.rd PAIR_STAT.ROLE
  if (role = 1 ∨ role = 3 ∨ role = 4) ∧ ¬ s.pair.dirty.contains (p, page) then
    { s with pair := { s.pair with dirty := s.pair.dirty ++ [(p, page)] } }.pressSettle
  else s

/-- The migration of a page. -/
def State.migrOf (s : State) (p : PartId) (page : Nat) : Option Migr :=
  s.mst.migr.find? (fun m => m.part == p && m.page == page)

/-- The Shadow copy of a page in the window of a queue (R527). -/
def State.cowOf (s : State) (c : CpId) (page : Nat) : Option CowPage :=
  (s.cp c).vq.cow.find? (fun w => decide (w.page ≤ page) && decide (page < w.page + w.n))

/-- Whether a Shadow window of a partition holds a copy of a page (R527). -/
def State.inWindow (s : State) (p : PartId) (page : Nat) : Bool := (s.cpsOf p).any (fun c => (s.cowOf c page).isSome)

/-- Whether a page of the checkpoint that ships awaits its copy or its turn (R540). -/
def State.listed (s : State) (p : PartId) (page : Nat) : Bool :=
  match s.pair.ship with
  | some o => o.pages.any (fun x => x.part == p && x.page == page && x.copy.isNone && decide (x.piece < 9))
  | none => false

/-- COW of a page's leaf after windows or listed pages changed: it is set while a Shadow window or the checkpoint that ships holds a page
of the leaf (R130). -/
def State.cowSettle (s : State) (p : PartId) (page : Nat) : State :=
  match s.walk p (page * 65536) with
  | .leaf ea level e =>
    let n := leafSpan level / 65536
    let b := (List.range n).any (fun i => s.listed p (page / n * n + i) || s.inWindow p (page / n * n + i))
    if bitOf e 12 = b then s else s.setPte ea (setBitOf e 12 b)
  | _ => s

/-- A write to a page that a checkpoint lists and has not shipped takes a ship copy of its granule first; none when the ship
buffer is empty: the writer waits, and DET_LOST is raised with code 8 (R540, R622). -/
def State.shipCopy (s : State) (p : PartId) (page gran : Nat) : Option State × State :=
  match s.pair.ship with
  | none => (some s, s)
  | some o =>
    if !s.listed p page then (some s, s)
    else
      let wait := (none, s.detLost 8 ((fins 32).filter (fun c => s.cpPart c = some p)))
      if s.rd PAIR_CFG.SHIPBUF ≤ (o.pages.filter (fun x => x.copy.isSome)).length then wait
      else match s.takeGranule p 0 0 0 .copy with
        | none => wait
        | some (g, _, s) =>
          let s := s.copyGranules gran g 1
          let s := { s with pair := { s.pair with ship := s.pair.ship.map (fun (o : OpenCkpt) => { o with
            pages := o.pages.map (fun (x : ShipPage) => if x.part == p && x.page == page then { x with copy := some g } else x) }) } }
          let s := s.cowSettle p page
          (some s, s)

/-- The scratchpad window and the program window start here (R82, R339). -/
def spadWin : Nat := 0x40000000000000
/-- The program window (R82). -/
def progWin : Nat := 0x41000000000000

/-- Note a write into a window block (R82). -/
def State.noteWin (s : State) (a : Access) (va : Nat) : State :=
  if a.wr ∧ ¬ (s.part a.part).winDirty.contains (va / 65536) then
    s.modPart a.part (fun x => { x with winDirty := x.winDirty ++ [va / 65536] })
  else s

/-- An access to a window reaches its key; a write takes a ship copy of a listed block first (R540). -/
def State.winOk (s : State) (a : Access) (va key : Nat) : Tr × State :=
  if a.wr then
    match s.shipCopy a.part (va / 65536) (key / 65536) with
    | (some s, _) => (.ok key, s.noteWin a va)
    | (none, s) => (.wait, s)
  else (.ok key, s)

/-- Translate one byte address of an access (R82, R131, R132, R139, R149, R152, R339, R343). Before a partition has its L3 table, which
no access that the spec names can meet, TRANSLATION is raised (log entry 109, DESIGN CHOICE). -/
def State.translate (s : State) (a : Access) (va : Nat) : Tr × State :=
  let x := s.part a.part
  if spadWin ≤ va ∧ va < spadWin + 0x4000000 then
    let off := va - spadWin
    let n := off / 0x400000
    if !x.hasCl n ∨ (s.rdB (SPAD_CFG.TRACE n) ∧ 24 ≤ nbits off 17 5) then (.fault 0x08 (trInfo va a.num), s)
    else s.winOk a va (spadBase + off)
  else if progWin ≤ va ∧ va < progWin + 0x2000000 then
    let off := va - progWin
    match x.prog[off / 65536]? with
    | some g => s.winOk a va (g * 65536 + off % 65536)
    | none => (.fault 0x08 (trInfo va a.num), s)
  else if va < 0x10000 ∨ x.guarded (va / 65536) then (.fault 0x08 (trInfo va a.num), s)
  else
    let page := va / 65536
    match s.walk a.part va with
    | .noRoot => (.fault 0x08 (trInfo va a.num), s)
    | .missing _ level =>
      let r := s.walkReads (s.walkPath va (x.root.getD 0) 3)
      match r.1 with
      | some l => (.fault 0x0B (trInfo va l), r.2)
      | none =>
        if x.inQuarantine (page * 65536, 65536) then (.fault 0x09 (trInfo va a.num), r.2)
        else
          let q := r.2.firstTouch a va level
          match q.1 with
          | .ok _ =>
            let s := if a.wr then q.2.noteDirty a.part page else q.2
            (q.1, match s.walk a.part va with | .leaf _ l _ => s.tlbFill a.cl a.part page l | _ => s)
          | _ => q
    | .leaf ea level e =>
      let hit := s.tlbHit a.cl a.part page
      let r := if hit.1 then (none, hit.2) else hit.2.walkReads (hit.2.walkPath va (x.root.getD 0) 3)
      let s := r.2
      match r.1 with
      | some l => (.fault 0x0B (trInfo va l), s)
      | none =>
        let held := (s.migrOf a.part page).any (·.held)
        if bitOf e 14 then (.fault 0x09 (trInfo va a.num), s)
        else if bitOf e 15 then (.fault 0x08 (trInfo va a.num), s)
        else if a.wr ∧ held then (.wait, s)
        else
          let own := match a.win with | some c => s.cowOf c page | none => none
          match own with
          | some w => (.ok (w.copy * 65536 + (va - w.page * 65536)), s)
          | none =>
            let sc := if a.wr then s.shipCopy a.part page (leafPa e level va / 65536) else (some s, s)
            if a.wr ∧ bitOf e 12 ∧ s.inWindow a.part page then (.wait, s)
            else if sc.1.isNone then (.wait, sc.2)
            else
              let s := if a.wr then sc.2.noteDirty a.part page else sc.2
              let e := s.pte ea
              let pinNow := a.pin && bitOf e 2 && !bitOf e 8
              let e2 := setBitOf (if a.wr then setBitOf e 10 true else e) 11 true
              let e2 := if pinNow then setBitOf e2 8 true else e2
              let s := if e2 = e then s else s.setPte ea e2
              let s := if pinNow then s.modPart a.part (fun x => { x with moveQ := page :: x.moveQ }) else s
              let s := if hit.1 || bitOf e 13 then s else s.tlbFill a.cl a.part page level
              (.ok (leafPa e level va), s.sample a page (leafPa e level va) ea e2)

/-- The key that a byte address has now, without any effect: none where an access would not simply reach memory. Placement
uses it (R223). -/
def State.peekKey (s : State) (p : PartId) (va : Nat) : Option Nat :=
  let x := s.part p
  if spadWin ≤ va ∧ va < spadWin + 0x4000000 then
    if x.hasCl ((va - spadWin) / 0x400000) then some (spadBase + (va - spadWin)) else none
  else if progWin ≤ va ∧ va < progWin + 0x2000000 then
    (x.prog[(va - progWin) / 65536]?).map (fun g => g * 65536 + (va - progWin) % 65536)
  else if va < 0x10000 ∨ x.guarded (va / 65536) then none
  else match s.walk p va with
    | .leaf _ level e => if bitOf e 14 || bitOf e 15 then none else some (leafPa e level va)
    | _ => none

/-- Invalidate pages of a partition in every unit, and clear reservations on them (R105, R150). -/
def State.shootdown (s : State) (p : PartId) (page n : Nat) : State :=
  let keys := (List.range (min n 16384)).filterMap (fun i => (s.peekKey p ((page + i) * 65536)).map (· / 65536))
  let s := s.modM (fun m => { m with tlb := m.tlb.filter (fun t => !t.meets p page n) })
  let s := { s with cps := s.cps.map (fun (c : Cp) =>
    if c.resv.any (fun g => keys.contains (g / 1024)) then { c with resv := none } else c) }
  s.modPart p (fun x => { x with shoot := true })

/-- Waiting accesses of every CP of a partition may run again. -/
def State.wakePage (s : State) (p : PartId) : State :=
  (s.cpsOf p).foldl (fun s c => s.modCp c (fun x => { x with stall := if x.stall = .page then .none else x.stall })) s

end Sys2Proof.Machine
end

