-- ==== Sys2Proof/Machine/Streams.lean ====
section
/-! DEFINITION. Stream descriptors: element addresses (R160, R161), extents (R178), which streams meet (R209), and the
streams of a queued vector instruction. -/

namespace Sys2Proof.Machine

/-! ### Capabilities (R114 to R118) -/

/-- CURSOR. -/
def Cap.cursor (c : Cap) : Nat := nbits c.bits.toNat 0 56
/-- PERMS. -/
def Cap.perms (c : Cap) : BitVec 16 := BitVec.ofNat 16 (nbits c.bits.toNat 56 16)
/-- OTYPE. -/
def Cap.otype (c : Cap) : Nat := nbits c.bits.toNat 72 18
/-- E. -/
def Cap.e (c : Cap) : Nat := nbits c.bits.toNat 90 6
/-- BM. -/
def Cap.bm (c : Cap) : Nat := nbits c.bits.toNat 96 16
/-- LM. -/
def Cap.lm (c : Cap) : Nat := nbits c.bits.toNat 112 16

/-- A capability from its fields (R114). -/
def mkCap (cursor perms otype e bm lm : Nat) (tag : Bool) : Cap :=
  ⟨BitVec.ofNat 128 (cursor % 2 ^ 56 + perms % 2 ^ 16 * 2 ^ 56 + otype % 2 ^ 18 * 2 ^ 72 + e % 64 * 2 ^ 90 +
    bm % 2 ^ 16 * 2 ^ 96 + lm % 2 ^ 16 * 2 ^ 112), tag⟩

/-- The first byte of the region (R115). -/
def Cap.base (c : Cap) : Nat := c.cursor / 2 ^ (c.e + 16) * 2 ^ (c.e + 16) + c.bm * 2 ^ c.e

/-- The first byte past the region (R115). -/
def Cap.top (c : Cap) : Nat := c.base + c.lm * 2 ^ c.e

/-- Permission bits (R118). -/
def permR : Nat := 0
/-- W. -/
def permW : Nat := 1
/-- X. -/
def permX : Nat := 2
/-- LOADCAP. -/
def permLoadCap : Nat := 3
/-- STORECAP. -/
def permStoreCap : Nat := 4
/-- SEAL. -/
def permSeal : Nat := 5
/-- UNSEAL. -/
def permUnseal : Nat := 6
/-- GLOBAL. -/
def permGlobal : Nat := 7
/-- SYSTEM. -/
def permSystem : Nat := 8
/-- TRANSIENT. -/
def permTransient : Nat := 9
/-- PINNED_NEAR. -/
def permPinned : Nat := 10
/-- CT. -/
def permCt : Nat := 11
/-- NETWORK. -/
def permNetwork : Nat := 12
/-- ALLOC. -/
def permAlloc : Nat := 13

/-- Whether a capability carries a permission. -/
def Cap.has (c : Cap) (p : Nat) : Bool := bitOf c.perms p

/-- A capability with its cursor at an exact result: the tag clears when the cursor leaves the block that holds the base,
or the address space (R116). -/
def Cap.move (c : Cap) (x : Int) : Cap :=
  let cur := (x % 2 ^ 56).toNat
  let ok := decide (0 ≤ x) && decide (x < 2 ^ 56) && cur / 2 ^ (c.e + 16) == c.cursor / 2 ^ (c.e + 16)
  mkCap cur c.perms.toNat c.otype c.e c.bm c.lm (c.tag && ok)

/-- A capability with its cursor at an address inside its block. -/
def Cap.at (c : Cap) (x : Nat) : Cap := c.move x

/-! ### Geometry -/

/-- The bytes of an element of a type, 0 for BIT (R158). -/
def etypeSize (t : Nat) : Nat :=
  if t = 0 ∨ t = 2 ∨ t = 3 ∨ t = 0xB ∨ t = 0xC then 8
  else if t = 1 ∨ t = 4 ∨ t = 5 then 4
  else if t = 6 ∨ t = 7 then 2
  else if t = 8 ∨ t = 9 then 1
  else 0

/-- STRIDE as a signed distance. -/
def DReg.strideInt (d : DReg) : Int := d.stride.toInt

/-- Byte address of field j of element i of a memory stream, exactly (R160). -/
def DReg.addr (d : DReg) (i : Int) (j : Nat) : Int :=
  (d.cap.cursor : Int) + ((d.offset.toNat : Int) + i) * d.strideInt + (j * etypeSize d.etype.toNat : Nat)

/-- Byte address and bit of element i of a BIT memory stream (R160). -/
def DReg.bitAddr (d : DReg) (i : Nat) : Nat × Nat :=
  (d.cap.cursor + (d.offset.toNat + i) / 8, (d.offset.toNat + i) % 8)

/-- What a stream can touch (R178). -/
inductive Extent where
  | none
  | mem (lo hi : Int)
  | bits (lo hi : Int)
  deriving DecidableEq, Repr

/-- The extent of a stream over its first n elements. -/
def DReg.extent (d : DReg) (n : Nat) : Extent :=
  if n = 0 then .none
  else if d.space then .bits d.offset.toNat (d.offset.toNat + n)
  else if d.etype = 0xA then .mem (d.bitAddr 0).1 ((d.bitAddr (n - 1)).1 + 1)
  else
    let a := d.addr 0 0
    let b := d.addr (n - 1) 0
    .mem (min a b) (max a b + (etypeSize d.etype.toNat * (d.fields.toNat + 1) : Nat))

/-- The extent of a gather or scatter table: its capability's bounds. -/
def DReg.tableExtent (d : DReg) : Extent := .mem d.cap.base d.cap.top

/-- Whether two extents share a byte or a bit address (R209). -/
def Extent.meets : Extent → Extent → Bool
  | .mem a b, .mem c d => decide (a < d) && decide (c < b) && decide (a < b) && decide (c < d)
  | .bits a b, .bits c d => decide (a < d) && decide (c < b)
  | _, _ => false

/-- How many elements of A and B an instruction reads for each element of D (R185). -/
def dotFactor (op : Nat) : Nat := if op = 0x082 ∨ op = 0x083 then 4 else if op = 0x084 then 2 else 1

/-- The destination extents of a queued instruction. -/
def VEntry.dests (e : VEntry) : List Extent :=
  let op := e.op.toNat
  let n := e.vl.toNat
  (match e.dD with
    | some d => if op = 0x0C3 then [d.tableExtent] else [d.extent n]
    | none => []) ++
  (if op = 0x0E1 then [] else e.ex.map (fun d => d.extent n))

/-- The source and mask extents of a queued instruction. -/
def VEntry.sources (e : VEntry) : List Extent :=
  let op := e.op.toNat
  let n := e.vl.toNat
  let f := dotFactor op
  (match e.dA with
    | some d => if op = 0x0C2 then [d.tableExtent] else [d.extent (f * n)]
    | none => []) ++
  (match e.dB with | some d => [d.extent (f * n)] | none => []) ++
  (match e.dC with | some d => [d.extent n] | none => []) ++
  (match e.dM with | some d => [d.extent n] | none => []) ++
  (if op = 0x0E1 then e.ex.map (fun d => d.extent n) else [])

/-- The register that a reduction or VCOMPRESS writes: kind 1 G, 2 F, 3 V, and its number (R171, R187, R190). -/
def VEntry.result (e : VEntry) : Option (Nat × Nat) :=
  let op := e.op.toNat
  if op = 0x0C0 ∨ (0x100 ≤ op ∧ op < 0x10A) then
    let k := nbits e.v.imm.toNat 12 2
    some (k, if k = 1 then nbits e.v.imm.toNat 8 4 else if k = 2 then nbits e.v.imm.toNat 6 6 else nbits e.v.imm.toNat 8 3)
  else none

/-- Whether an outstanding instruction of a queue will write a G register (R203). -/
def VQueue.writesG (q : VQueue) (n : Nat) : Bool := q.entries.any (fun e => e.result == some (1, n))

/-- Whether an outstanding instruction of a queue will write an F register, alone or inside a V register (R203). -/
def VQueue.writesF (q : VQueue) (n : Nat) : Bool :=
  q.entries.any (fun e => e.result == some (2, n) || e.result == some (3, n / 8))

/-- The last queued entry leaves its group open for a next member (R208). -/
def VQueue.isOpen (q : VQueue) : Bool := match q.entries.getLast? with | some e => e.v.ch && !e.cut | none => false

/-- The open group closes: its last entry ends it (R208). -/
def VQueue.close (q : VQueue) : VQueue :=
  match q.entries.getLast? with
  | some e => { q with entries := q.entries.dropLast ++ [{ e with cut := true }] }
  | none => q

/-- Whether a CP store of the bytes [lo, hi) waits for earlier vector work (R218). -/
def VQueue.holdsStore (q : VQueue) (lo hi : Int) : Bool :=
  !q.flt && q.entries.any (fun e => (e.dests ++ e.sources).any (Extent.meets (.mem lo hi)))

/-- Whether a CP instruction on a bit address waits: a write on an outstanding SPACE source, a read or write on an
outstanding SPACE destination (R162). -/
def VQueue.holdsBit (q : VQueue) (a : Nat) (wr : Bool) : Bool :=
  let r : Extent := .bits a (a + 1)
  q.entries.any (fun e => e.dests.any (Extent.meets r) || (wr && e.sources.any (Extent.meets r)))

end Sys2Proof.Machine
end

