-- ==== Sys2Proof/Machine/Link.lean ====
section
/-! DEFINITION. What leaves the part: the CRC algorithms (R448, R470), frames on the ports, the frames of the Ubori Link (R531 to
R533), and the HOLD that a halt sends to the partner (R544, R623). -/

namespace Sys2Proof.Machine

/-! ### CRC (R470) -/

/-- The bytes of a CRC of an algorithm. -/
def crcLen (poly : Nat) : Nat := if poly = 2 then 8 else if poly = 3 then 2 else 4

/-- Init of an algorithm. -/
def crcInit (poly : Nat) : Nat := if poly = 2 then 0 else if poly = 3 then 0xFFFF else 0xFFFFFFFF

/-- XorOut of an algorithm. -/
def crcXorOut (poly : Nat) : Nat := if poly < 2 then 0xFFFFFFFF else 0

/-- The running value after more bytes. -/
def crcRun (poly v : Nat) (bs : List Byte) : Nat :=
  if poly = 0 then (bs.foldl (crcByteR 0xEDB88320#32) (BitVec.ofNat 32 v)).toNat
  else if poly = 1 then (bs.foldl (crcByteR 0x82F63B78#32) (BitVec.ofNat 32 v)).toNat
  else if poly = 2 then (bs.foldl (crcByteL 0x42F0E1EBA9EA3693#64) (BitVec.ofNat 64 v)).toNat
  else (bs.foldl (crcByteL 0x1021#16) (BitVec.ofNat 16 v)).toNat

/-- The CRC of a message. -/
def crcOf (poly : Nat) (bs : List Byte) : Nat := crcRun poly (crcInit poly) bs ^^^ crcXorOut poly

/-- The bytes of a CRC as it is appended: least significant first for reflected algorithms, most significant first otherwise. -/
def crcBytes (poly v : Nat) : List Byte := if poly < 2 then leBytes 4 v else (leBytes (crcLen poly) v).reverse

/-- The trailer of a payload: CRC-32C, or zeros for an empty one (R448). -/
def trailerOf (bs : List Byte) : BitVec 32 := if bs.isEmpty then 0 else BitVec.ofNat 32 (crcOf 1 bs)

/-! ### Ports -/

/-- Change the transport engine. -/
def State.modN (s : State) (f : NetSt → NetSt) : State := { s with net := f s.net }

/-- Whether a port carries frames: enabled, and as the state of the part allows (R476, R477, R546, R586). -/
def State.portUp (s : State) (port : Nat) : Bool :=
  s.rdB (ETH_CFG.EN port) &&
    (if port = 3 then true
     else s.sec.sys == .run && decide (s.shed < (if port = 2 then 7 else 6)) && !(decide (port < 2) && s.net.silent))

/-- Whether the transmit priority of a port is paused (R439). -/
def State.portPaused (s : State) (port : Nat) : Bool :=
  bitOf (BitVec.ofNat 8 (s.rd (ETH_STAT.PAUSED port))) (s.rd (ETH_CFG.KWT_PCP port))

/-- The port that something leaves by. -/
def NetTx.port (t : NetTx) : Nat :=
  match t with
  | .kwt _ peer _ _ _ => match peer with | some p => p.port.val | none => 3
  | .arp p _ _ => p.val
  | .neighbour p _ _ => p.val
  | .echo p _ _ => p.val
  | .pause p _ => p.val
  | .announce p => p.val
  | .witness .. => 3
  | .trace .. => 3
  | .ubori _ => 2

/-- Something leaves the part; KWT frames wait while their priority is paused, and a port that is down loses them. -/
def State.leave (s : State) (t : NetTx) : State :=
  let k := match t with | .kwt .. => true | _ => false
  if !s.portUp t.port then s
  else if k && s.portPaused t.port then s.modN (fun e => { e with waiting := e.waiting ++ [t] })
  else s.modN (fun e => { e with sent := t :: e.sent })

/-! ### Ubori frames (R531 to R533) -/

/-- Change the pair engine. -/
def State.modPair (s : State) (f : PairSt → PairSt) : State := { s with pair := f s.pair }

/-- The pair epoch. -/
def State.epoch (s : State) : Word := s.reg PAIR_EPOCH.adr

/-- The header of a frame. -/
def uboriHead (f : UboriFrame) : List Byte :=
  [f.ver, f.type] ++ leBytes 2 f.flags.toNat ++ leBytes 2 f.len.toNat ++ [0, 0] ++ leBytes 4 f.seq.toNat ++ leBytes 4 f.ack.toNat ++
    leBytes 8 f.epoch.toNat ++ leBytes 8 f.arg.toNat

/-- A frame with its CRC-32C. -/
def uboriSeal (f : UboriFrame) : UboriFrame := { f with crc := BitVec.ofNat 32 (crcOf 1 (uboriHead f ++ f.body)) }

/-- A frame that the part forms. -/
def State.uboriFrame (s : State) (type : Byte) (seq : BitVec 32) (arg : Word) (body : List Byte) : UboriFrame :=
  uboriSeal ⟨1, type, 0, BitVec.ofNat 16 body.length, seq, s.pair.rxSeq, s.epoch, arg, body, 0⟩

/-- Send an unsequenced frame. -/
def State.uboriNow (s : State) (type : Byte) (arg : Word) (body : List Byte) : State :=
  if s.rdB PAIR_STAT.LINK then s.leave (.ubori (s.uboriFrame type 0 arg body)) else s

/-- Send a sequenced frame; beyond the window of 1,024 it waits (R533). -/
def State.uboriSeq (s : State) (type : Byte) (arg : Word) (body : List Byte) : State :=
  if !s.rdB PAIR_STAT.LINK then s
  else
    let f := s.uboriFrame type s.pair.txSeq arg body
    let n := s.pair.unacked.length
    let s := s.modPair (fun p => { p with txSeq := p.txSeq + 1, unacked := p.unacked ++ [⟨f, s.now⟩] })
    if n < 1024 then s.leave (.ubori f) else s

/-- HOLD and RELEASE (R544): while a CP of a Mirror-Active or Twin side is halted, its PAIR_HOLD is 1 and its debug fuse is intact,
HOLD is in force toward the partner; RELEASE follows when none is halted any more. -/
def State.holdSync (s : State) : State :=
  let role := s.rd PAIR_STAT.ROLE
  let side := role == 1 || role == 3 || role == 4
  let any := (fins 32).any (fun c => (s.cp c).inDebug)
  let sent := s.rdB MODE_DBG.HOLD_SENT
  if any && side && s.dbgPol.pairHold && !s.dbgClosed && !sent then (s.uboriSeq 0x0B 0 []).wr MODE_DBG.HOLD_SENT 1
  else if !any && sent then (s.uboriSeq 0x0C 0 []).wr MODE_DBG.HOLD_SENT 0
  else s

end Sys2Proof.Machine
end

