-- ==== Sys2Proof/Machine/Ucode.lean ====
section
/-! DEFINITION. The microcode of the Stream Sequencers: control store and microwords (R282 to R285), the dispatch table (R286, R287),
patch sets (R288, R289), and their errors (R291 to R294). The spec prints no microprogram: the ROM's words and its START values are
constants of Config, and its microprograms are taken to be free of the errors of R282 and R285 (log entry 111, DESIGN CHOICE). -/

namespace Sys2Proof.Machine

/-! ### The dispatch table (R286, R287) -/

/-- The opcodes of pipe instructions with SBASE and E, 63 for a formula entry (R290, R298). -/
def ucRom (op : Nat) : Option (Nat × Nat) :=
  let r (lo hi : Nat) : Bool := decide (lo ≤ op) && decide (op ≤ hi)
  if r 0x000 0x00B then some (6, 1)
  else if r 0x00C 0x00E then some (8, 1)
  else if op = 0x045 then some (4, 63)
  else if r 0x040 0x058 then some (4, 1)
  else if r 0x080 0x081 then some (6, 1)
  else if r 0x082 0x084 then some (8, 1)
  else if r 0x0A0 0x0A7 then some (4, 1)
  else if r 0x0C0 0x0C1 then some (10, 63)
  else if r 0x0C2 0x0C3 then some (10, 2)
  else if op = 0x0C4 then some (8, 1)
  else if r 0x0E0 0x0E1 then some (8, 63)
  else if op = 0x106 then some (8, 63)
  else if r 0x100 0x109 then some (20, 1)
  else if r 0x140 0x143 then some (6, 2)
  else if r 0x144 0x145 then some (6, 1)
  else if op = 0x146 then some (6, 2)
  else if r 0x147 0x148 then some (8, 5)
  else if op = 0x181 ∨ op = 0x183 then some (6, 1)
  else if op = 0x182 ∨ op = 0x184 then some (6, 2)
  else if op = 0x180 ∨ op = 0x185 then some (8, 63)
  else none

/-- KIND of an opcode in the ROM table: 1 for what the CP executes, 0 for a pipe instruction, 2 for any other (R287). -/
def romKind (op : Nat) : Nat := if 0x280 ≤ op then 1 else if (ucRom op).isSome then 0 else 2

/-- An opcode's entry in the ROM table (R286). -/
def romEntry (op : Nat) : BitVec 16 := BitVec.ofNat 16 ((Config.ucStart op).toNat + 2 ^ 14 * romKind op)

/-- The dispatch override in force for an opcode (R288). -/
def State.ucOver (s : State) (op : Nat) : Option UcOverride := s.uc.ovr.find? (fun o => o.op.toNat == op)

/-- KIND of an opcode in the dispatch RAM, 3 read as 2 (R286). -/
def State.dispKind (s : State) (op : Nat) : Nat :=
  match s.ucOver op with | some o => min 2 (o.entry.toNat / 2 ^ 14) | none => romKind op

/-- START of an opcode that a patch redirects to the patch RAM, none where the ROM's microprogram runs. -/
def State.dispStart (s : State) (op : Nat) : Option Nat := (s.ucOver op).map (fun o => o.entry.toNat % 2 ^ 14)

/-- The entry of an opcode in the dispatch RAM (R286). -/
def State.dispEntry (s : State) (op : Nat) : BitVec 16 := match s.ucOver op with | some o => o.entry | none => romEntry op

/-- UC_TIME of an opcode: SBASE, E and KIND in force (R290, R298). -/
def State.ucTimeOf (s : State) (op : Nat) : Word :=
  let se := match s.ucOver op, ucRom op with
    | some o, _ => o.sbase.toNat + 256 * o.e.toNat
    | none, some x => x.1 + 256 * x.2
    | none, none => (Config.ucTime op).toNat
  BitVec.ofNat 64 (se + 2 ^ 14 * s.dispKind op)

/-! ### Microwords (R283 to R285) -/

/-- CLASS of a microword. -/
def ucClass (w : BitVec 32) : Nat := nbits w.toNat 28 4
/-- OPND. -/
def ucOpnd (w : BitVec 32) : Nat := nbits w.toNat 12 16
/-- The cycles that a word occupies its sequencer: CYC + 1. -/
def ucCycles (w : BitVec 32) : Nat := nbits w.toNat 9 3 + 1
/-- KIND. -/
def ucKind (w : BitVec 32) : Nat := nbits w.toNat 7 2
/-- SEQ. -/
def ucSeq (w : BitVec 32) : Nat := w.toNat % 128
/-- The target of a CALL or JUMP: bits [27:14]. -/
def ucTarget (w : BitVec 32) : Nat := nbits w.toNat 14 14

/-- A word of the control store: the ROM below 0x2000, the patch RAM to 0x23FF, none above (R282). A word of the patch RAM that no set
holds reads 0 (log entry 111, DESIGN CHOICE). -/
def State.ucWord (s : State) (addr : Nat) : Option (BitVec 32) :=
  if addr < 0x2000 then some (Config.ucRomWord addr)
  else if addr < 0x2400 then some ((s.uc.words[addr - 0x2000]?).getD 0)
  else none

/-- A sequencer at a microword: its address and the return stack, at most two entries (R284). -/
structure UcSeqSt where
  addr : Nat
  ret : List Nat
  deriving DecidableEq, Repr

/-- What a microword makes of its sequencer. -/
inductive UcNext where
  /-- The word at the next address. -/
  | go (q : UcSeqSt)
  /-- The dispatch entry of the group's next member. -/
  | member (ret : List Nat)
  /-- The end of the strip's setup. -/
  | done
  /-- A control-store error (R285, R293). -/
  | bad
  deriving DecidableEq, Repr

/-- The address n words on. -/
def ucPlus (a : Nat) (n : Int) : Nat := (((a : Int) + n) % 0x4000).toNat

/-- A conditional branch's displacement: SEQ[3:0], signed. -/
def ucDisp (w : BitVec 32) : Int := sextN 4 (ucSeq w % 16)

/-- One microword (R284, R285): CALL and JUMP go to their target; the others go on by KIND. A reserved class, which no accepted set holds,
and a dispatch SEQ above 1 are errors. -/
def UcSeqSt.step (q : UcSeqSt) (w : BitVec 32) (cond : Bool) : UcNext :=
  let on := ucPlus q.addr 1
  if 9 ≤ ucClass w then .bad
  else if ucClass w = 7 then (if 2 ≤ q.ret.length then .bad else .go ⟨ucTarget w, on :: q.ret⟩)
  else if ucClass w = 8 then .go ⟨ucTarget w, q.ret⟩
  else match ucKind w with
    | 0 => .go ⟨on, q.ret⟩
    | 1 => .go ⟨if cond then ucPlus q.addr (ucDisp w) else on, q.ret⟩
    | 2 => if ucSeq w = 0 then .member q.ret else if ucSeq w = 1 then .done else .bad
    | _ => match q.ret with | r :: rs => .go ⟨r, rs⟩ | [] => .bad

/-- A condition of a branch (R285): last member, constant time and always are known; the others depend on the strip's progress in the
units, whose timing the spec leaves to the part: a free bit. -/
def ucCond (n : Nat) (last ct : Bool) (open_ : Word) : Bool :=
  if n = 1 then last else if n = 2 then ct else if n = 7 then true else bitOf open_ n

/-! ### Errors (R291 to R294) -/

/-- An uncorrectable control-store or dispatch error of a pipe: UERR and its record (R292). -/
def State.ucBad (s : State) (pipe synd : Nat) : State :=
  (((s.wr UC_STAT.UERR 1).wr UC_STAT.UERR_PIPE pipe).capture 10 pipe synd false true 0).bucket 10 1

/-- A read of the dispatch RAM of a pipe under its grid code (R291): whether it is uncorrectable. INJ_UDISP flips bits of it. -/
def State.dispRead (s : State) (pipe : Nat) : Bool × State :=
  let q := s.inject 0x15 pipe
  if q.1 then
    let d := gridRead s.injMask [0, 1]
    if d.poison then (true, q.2.ucBad pipe d.synd) else (false, q.2.bucket 0 d.fixed)
  else (false, q.2)

/-- The fetch of a microword (R282, R291, R293): none for an error. INJ_UROM spoils the next word, INJ_UPATCH flips bits of one of the
patch RAM. -/
def State.ucFetch (s : State) (pipe addr : Nat) : Option (BitVec 32) × State :=
  let r := s.inject 0x13 pipe
  if r.1 then (none, r.2.ucBad pipe 0xFF)
  else match r.2.ucWord addr with
    | none => (none, r.2.ucBad pipe 0)
    | some w =>
      if 0x2000 ≤ addr then
        let q := r.2.inject 0x14 pipe
        if q.1 then
          let d := gridRead s.injMask [0, 1, 2, 3]
          if d.poison then (none, q.2.ucBad pipe d.synd) else (some w, q.2.bucket 0 d.fixed)
        else (some w, q.2)
      else (some w, r.2)

/-- A sequencer runs patched microcode from an address until the member's microprogram hands over: the return stack then, none for the end
of the strip's setup, or an error. A microprogram that does not end in 4,096 words is left there (log entry 111, DESIGN CHOICE). -/
def State.ucRun (pipe : Nat) (last ct : Bool) : Nat → UcSeqSt → State → Except Unit (Option (List Nat)) × State
  | 0, _, s => (.ok none, s)
  | n + 1, q, s =>
    let r := s.ucFetch pipe q.addr
    match r.1 with
    | none => (.error (), r.2)
    | some w =>
      let f := if ucKind w = 1 then r.2.fresh else (0, r.2)
      match q.step w (ucCond (ucSeq w / 16) last ct f.1) with
      | .go q => State.ucRun pipe last ct n q f.2
      | .member ret => (.ok (some ret), f.2)
      | .done => (.ok none, f.2)
      | .bad => (.error (), f.2.ucBad pipe 0)

/-- The setup of a strip by a pipe's sequencer (R285, R292): for each member its dispatch entry is read and its microprogram runs, the
ROM's without the errors of R285. True for an error. -/
def State.ucStrip (pipe : Nat) : List (Nat × Bool) → List Nat → State → Bool × State
  | [], _, s => (false, s)
  | (op, ct) :: rest, ret, s =>
    let d := s.dispRead pipe
    if d.1 then d
    else match d.2.dispStart op with
      | none =>
        let r := d.2.inject 0x13 pipe
        if r.1 then (true, r.2.ucBad pipe 0xFF) else State.ucStrip pipe rest ret r.2
      | some a =>
        let r := State.ucRun pipe rest.isEmpty ct 4096 ⟨a, ret⟩ d.2
        match r.1 with
        | .error _ => (true, r.2)
        | .ok none => (false, r.2)
        | .ok (some ret) => State.ucStrip pipe rest ret r.2

/-! ### Patch sets (R288, R289) -/

/-- Whether a word of a patch set, at its address, has a reserved CLASS or targets an address above 0x23FF (R289). -/
def ucWordBad (addr : Nat) (w : BitVec 32) : Bool :=
  decide (9 ≤ ucClass w) || ((ucClass w == 7 || ucClass w == 8) && decide (0x23FF < ucTarget w)) ||
    (decide (ucClass w < 7) && ucKind w == 1 && decide (0x23FF < ucPlus addr (ucDisp w)))

/-- Whether R289 rejects a dispatch override. -/
def ucOverBad (o : UcOverride) : Bool :=
  let k := o.entry.toNat / 2 ^ 14
  let a := o.entry.toNat % 2 ^ 14
  romKind o.op.toNat == 1 || (romKind o.op.toNat == 2 && k == 0) || (k == 0 && (decide (a < 0x2000) || decide (0x23FF < a)))

/-- Whether R289 rejects a patch set, its readback apart. -/
def ucPatchBad (p : UcPatch) : Bool :=
  p.romId != Config.romId || decide (1024 < p.words.length) ||
    p.words.zipIdx.any (fun w => ucWordBad (0x2000 + w.2) w.1) || p.ovr.any ucOverBad

/-- Load a patch set into every sequencer (R288, R289, R290): the words, the overrides, and the registers that show them; a set that is bad,
or whose readback differs (a free value), is rejected whole. Of two overrides of one opcode the later stays (log entry 111, DESIGN CHOICE). -/
def State.takePatch (s : State) (p : UcPatch) : State :=
  let f := s.fresh
  if ucPatchBad p ∨ bitOf f.1 0 then f.2.wr UC_STAT.PATCH_REJ 1
  else
    let ovr := p.ovr.foldl (fun l o => o :: l.filter (fun x => x.op != o.op)) []
    let s := { f.2 with uc := ⟨p.words, ovr⟩ }
    let n := (ovr.filter (fun o => o.entry != romEntry o.op.toNat)).length
    (((s.wr UCODE_VER.PATCH_SET p.set.toNat).wr UCODE_VER.PATCH_REV p.rev.toNat).wr UCODE_VER.OVR n).wr UC_STAT.PATCHED 1

end Sys2Proof.Machine
end

