-- ==== Sys2Proof/Machine/CpCore.lean ====
section
/-! DEFINITION. What every CP instruction shares: data-space accesses (R83, R84, R122), exception entry and return (R387 to
R394), lockup, halts and trace packets (R600 to R611), fetch checks, and the retirement of an instruction (R101 to R104). -/

namespace Sys2Proof.Machine

/-! ### Causes (R388) -/

/-- ILLEGAL. -/
def cIllegal : Nat := 0x01
/-- RESERVED_OP. -/
def cReserved : Nat := 0x02
/-- TRAP. -/
def cTrap : Nat := 0x03
/-- FETCH_FAULT. -/
def cFetch : Nat := 0x04
/-- SYSTEM_REQUIRED. -/
def cSystem : Nat := 0x05
/-- BUS_ERROR. -/
def cBus : Nat := 0x06
/-- CAP_FAULT. -/
def cCap : Nat := 0x07
/-- ALLOC_FAIL. -/
def cAlloc : Nat := 0x0A
/-- POISON. -/
def cPoison : Nat := 0x0C
/-- VFORM. -/
def cVform : Nat := 0x0D
/-- VECTOR. -/
def cVector : Nat := 0x0E
/-- RETURN_AUTH. -/
def cReturn : Nat := 0x0F
/-- INTERRUPT. -/
def cInterrupt : Nat := 0x20

/-- XINFO of a CAP_FAULT: address, subcode and register (R124). -/
def capInfo (addr sub reg : Nat) : Word := BitVec.ofNat 64 (addr % 2 ^ 56 + sub * 2 ^ 56 + reg * 2 ^ 60)

/-- XINFO of a POISON: address and source (R361). -/
def poisonInfo (addr src : Nat) : Word := BitVec.ofNat 64 (addr % 2 ^ 56 + src * 2 ^ 56)

/-! ### Settings in force -/

/-- MODE.CT in force (R75). -/
def CpArch.ct (a : CpArch) : Bool := bitOf a.modeOn 0
/-- MODE.VFI in force. -/
def CpArch.vfi (a : CpArch) : Bool := bitOf a.modeOn 1
/-- MODE.DET in force. -/
def CpArch.det (a : CpArch) : Bool := bitOf a.modeOn 2
/-- The instruction cache is on: ICE at 1 and DET at 0 (R75). -/
def CpArch.ice (a : CpArch) : Bool := bitOf a.modeOn 4 && !a.det
/-- The data cache is on: DCE at 1 and DET at 0 (R75). -/
def CpArch.dce (a : CpArch) : Bool := bitOf a.modeOn 5 && !a.det
/-- The program capability carries SYSTEM (R118). -/
def CpArch.sys (a : CpArch) : Bool := a.pcc.has permSystem

/-- The program capability with its cursor at a parcel address, tag set (R125, R127). -/
def CpArch.pccAt (a : CpArch) (pc : Nat) : Cap := { (a.pcc.at pc) with tag := true }

/-- MODE, XVEC, XFRAME and CCTL as written come into force (R107, R387, R383): a new XVEC records the entry capability, CCTL or a DET that
rises invalidates the caches, and the prefetch queue is emptied (R378). -/
def Cp.sync (p : Cp) : Cp :=
  let rise := !bitOf p.a.modeOn 2 && bitOf p.a.mode 2
  { p with
    a := { p.a with
      modeOn := p.a.mode
      xvecOn := p.a.xvec
      entryCap := if p.a.xvecPend then p.a.pccAt p.a.xvec.toNat else p.a.entryCap
      xvecPend := false
      xframeOn := p.a.xframe
      iinv := false
      dinv := false }
    icache := if p.a.iinv || rise then [] else p.icache
    dcache := if p.a.dinv || rise then [] else p.dcache
    pf := [] }

/-! ### Trace packets and halts -/

/-- The time of a trace packet: IEEE 1588 nanoseconds, low 40 bits (R610). -/
def State.ptpNs (s : State) : Nat := (s.rd PTP_SEC.SEC * 1000000000 + s.rd PTP_NS.NS) % 2 ^ 40

/-- Queue a trace packet of a CP when its cluster traces (R610). -/
def State.tracePkt (s : State) (c : CpId) (kind port : Nat) (data : Word) : State :=
  if s.rdB (TRACE_CFG.EN (clOf c)) then
    { s with trc := vecUpd s.trc (clOf c) (fun t => { t with queue := t.queue ++
      [⟨data, BitVec.ofNat 40 s.ptpNs, BitVec.ofNat 5 port, BitVec.ofNat 5 c.val, BitVec.ofNat 4 kind⟩] }) }
  else s

/-- Whether the debug policy lets a CP halt (R599). -/
def State.haltable (s : State) (c : CpId) : Bool :=
  match s.cpPart c with | some p => bitOf s.dbgPol.haltMask p.val | none => false

/-- A CP halts (R600): reason and index of DBG_CPSTAT, and whether late. -/
def State.haltCp (s : State) (c : CpId) (reason index : Nat) (late : Bool) : State :=
  let s := s.modCp c (fun p => { p with
    run := .halted, fromLockup := p.run == .lockup, haltReq := false, stepping := false, resv := none, wp := none,
    lateBp := none, entryWin := none, dbg := ⟨BitVec.ofNat 3 reason, BitVec.ofNat 3 index, late⟩
    vq := { p.vq with thaw := false } })
  (s.tracePkt c 4 0 (BitVec.ofNat 64 (s.cp c).a.pc.toNat)).holdSync

/-- An instruction boundary of a CP: a watchpoint, a step, a late breakpoint or a requested halt takes effect, outside a LOCK
window and away from a delay slot (R600 to R603, R608). -/
def State.boundary (s : State) (c : CpId) : State :=
  let p := s.cp c
  if p.run ≠ .running ∨ p.a.delay.isSome ∨ p.lock ≠ 0 then s
  else match p.wp, p.lateBp with
    | some j, _ => s.haltCp c 4 j.val false
    | none, some i => s.haltCp c 3 i.val true
    | none, none => if p.stepping then s.haltCp c 2 0 false else if p.haltReq then s.haltCp c 1 0 false else s

/-- An access matches the watchpoints that select its kind and range: the first that halts is noted, one that traces emits
its packet (R603). -/
def State.watchAccess (s : State) (c : CpId) (wr : Bool) (addr n : Nat) : State :=
  (fins 4).foldl (fun s (j : Fin 4) =>
    let kind := s.rd (DBG_WP_CTL.KIND c j)
    let size := min 40 (s.rd (DBG_WP_CTL.SIZE c j))
    let a := s.rd (DBG_WP_ADDR.ADDR c j) / 2 ^ size * 2 ^ size
    if s.rdB (DBG_WP_CTL.EN c j) && bitOf (BitVec.ofNat 2 kind) (if wr then 1 else 0) && decide (addr < a + 2 ^ size) &&
        decide (a < addr + n) then
      if s.rdB (DBG_WP_CTL.ACTION c j) || !s.haltable c then s.tracePkt c 2 j.val (BitVec.ofNat 64 addr)
      else if (s.cp c).wp.isSome then s else s.modCp c (fun p => { p with wp := some j })
    else s) s

/-! ### Lockup (R396) -/

/-- A CP locks up: the reservation and any LOCK window end, and the lockup line fires; in Lockstep both physical CPs report
it. -/
def State.lockup (s : State) (c : CpId) (lcause lcode : Nat) : State :=
  let s := (s.modCp c (fun p => { p with
    run := .lockup, stall := .none, lcause := BitVec.ofNat 4 lcause, lcode := BitVec.ofNat 8 lcode, lock := 0,
    entryWin := none, stepping := false })).fire (0x080 + c.val)
  if s.lockstepCl (clOf c) then s.fire (0x081 + c.val) else s

/-! ### Data-space accesses -/

/-- The first check of R122 that fails: its subcode. -/
def Cap.check (k : Cap) (perms : List Nat) (addr : Int) (n align : Nat) : Option Nat :=
  if !k.tag then some 1
  else if k.otype ≠ 0 then some 2
  else if perms.any (fun p => !k.has p) then some 3
  else if addr < k.base ∨ (k.top : Int) < addr + n then some 4
  else if align ≠ 0 ∧ addr % align ≠ 0 then some 6
  else none

/-- What an access answers: the keys it reaches with their lengths, a fault, or a wait. -/
inductive AccOut where
  | ok (spans : List (Nat × Nat))
  | fault (cause : Nat) (info : Word)
  | wait
  deriving DecidableEq, Repr

/-- The parts of a range that do not cross a 64-byte boundary (R84). -/
def splitAt64 (va n : Nat) : List (Nat × Nat) :=
  if n = 0 then []
  else (List.range ((va + n - 1) / 64 - va / 64 + 1)).map (fun i =>
    let lo := max va ((va / 64 + i) * 64)
    (lo, min (va + n) ((va / 64 + i + 1) * 64) - lo))

/-- Translate every part of an access before any part takes effect (R84). -/
def State.spans (s : State) (a : Access) (va n : Nat) : AccOut × State :=
  (splitAt64 va n).foldl (fun (r : AccOut × State) p =>
    match r.1 with
    | .ok l =>
      let q := r.2.translate a p.1
      match q.1 with
      | .ok key => (.ok (l ++ [(key, p.2)]), q.2)
      | .fault c i => (.fault c.toNat i, q.2)
      | .wait => (.wait, q.2)
    | _ => r) (.ok [], s)

/-- The access of a CP through a K register. -/
def State.cpAccess (s : State) (c : CpId) (num : Nat) (k : Cap) (wr : Bool) : Access :=
  { part := (s.cpPart c).getD 0, cl := clOf c, num := num, wr := wr, pin := k.has permPinned, win := none }

/-- Fill a line of the data cache with what memory holds; INJ_DCACHE may flip it (R373). At most 512 lines of 64 bytes are
kept (log entry 13, DEDUCED). -/
def State.dFill (s : State) (c : CpId) (line key : Nat) : State :=
  let r := s.inject 0x03 c.val
  let e := if r.1 then s.injMask else Err.zero
  let bs := r.2.bytesAt (key / 64 * 64) 64
  r.2.modCp c (fun p => { p with dcache := (⟨line, bs, e⟩ :: p.dcache.filter (fun l => l.line ≠ line)).take 512 })

/-- Read one part of a load: bytes, or the offset and the source of the first poisoned byte. -/
def State.loadSpan (s : State) (c : CpId) (va key n : Nat) : (Except (Nat × Nat) (List Byte)) × State :=
  let p := s.cp c
  let cached := p.a.dce && storeOf key != .spad
  match if cached then p.dcache.find? (fun l => l.line == va / 64) else none with
  | some l =>
    let d := gridRead l.err (List.range 8)
    if d.poison then
      (.error (va, 3), (((s.capture 1 c.val d.synd d.marking true (va / 64)).bucket 1 1).bucket 12 1))
    else
      let s := if d.fixed = 0 then s else (s.modCp c (fun p => { p with dcache := p.dcache.map (fun m =>
        if m.line = l.line then { m with err := Err.zero } else m) })).bucket 0 d.fixed
      let w := leBytes 8 d.left.d.toNat
      let bs := l.bytes.mapIdx (fun i b => if i < 8 then b ^^^ w.getD i 0 else b)
      (.ok ((bs.drop (va % 64)).take n), s)
  | none =>
    let r := s.readBy (some (clOf c)) key n
    match r.1 with
    | some k => (.error (va + (k - key), poisonSource key), r.2.bucket 12 1)
    | none =>
      let bs := r.2.bytesAt key n
      if cached then
        let q := r.2.readRange (key / 64 * 64) 64
        (.ok bs, if q.1.isSome then q.2 else q.2.dFill c (va / 64) key)
      else (.ok bs, r.2)

/-- Read the parts of a load in order. -/
def State.loadSpans (s : State) (c : CpId) (va : Nat) (spans : List (Nat × Nat)) : (Except (Nat × Nat) (List Byte)) × State :=
  (spans.foldl (fun (r : Nat × (Except (Nat × Nat) (List Byte)) × State) sp =>
    match r.2.1 with
    | .error _ => r
    | .ok bs =>
      let q := r.2.2.loadSpan c r.1 sp.1 sp.2
      (r.1 + sp.2, (q.1.map (bs ++ ·)), q.2)) (va, .ok [], s)).2

/-- Bytes of a store enter the lines of the data cache that hold them, each with its own check bits: the cache is write-through (R77,
R347). -/
def State.dWrite (s : State) (c : CpId) (va : Nat) (bs : List Byte) : State :=
  s.modCp c (fun p => { p with dcache := p.dcache.map (fun l =>
    if va < 64 * l.line + 64 ∧ 64 * l.line < va + bs.length then
      { l with
        bytes := l.bytes.mapIdx (fun i b =>
          let a := 64 * l.line + i
          if va ≤ a ∧ a < va + bs.length then bs.getD (a - va) b else b)
        err := (List.range 8).foldl (fun (e : Err) i =>
          let a := 64 * l.line + i
          if va ≤ a ∧ a < va + bs.length then e.setByte i 0 0 else e) l.err }
    else l) })

/-- In Lockstep a released store first records each granule it touches in the undo log; at 384 entries a checkpoint is taken
before it (R519, R520). -/
def State.undoLog (s : State) (c : CpId) (spans : List (Nat × Nat)) : State :=
  if s.lockstepCl (clOf c) then
    let gs := spans.flatMap (fun sp => (List.range ((sp.1 + sp.2 - 1) / 16 - sp.1 / 16 + 1)).map (fun i => sp.1 / 16 + i))
    let s := if 384 ≤ (s.cp c).undo.length then s.checkpointWith State.bucket c else s
    s.modCp c (fun p => { p with undo := gs.map (fun g => Undo.granule g (s.bytesAt (16 * g) 16) (s.tagAt g)) ++ p.undo })
  else s

/-- Write the parts of a store: bytes, and tags clear (R84). -/
def State.storeSpans (s : State) (c : CpId) (va : Nat) (spans : List (Nat × Nat)) (bs : List Byte) : State :=
  let s := s.undoLog c spans
  let r := spans.foldl (fun (r : List Byte × State) sp => (r.1.drop sp.2, r.2.writeBy (some (clOf c)) sp.1 (r.1.take sp.2))) (bs, s)
  r.2.dWrite c va bs

/-! ### Exception entry (R387 to R393) -/

/-- A frame's seal word: OTYPE 0x3_FFFF, PERMS 0, bounds exactly the 128 bytes at f, cursor at f; none when no exponent gives
those bounds (R391). -/
def sealWord (f : Nat) : Option Cap :=
  (List.range 42).findSome? (fun e =>
    if f % 2 ^ e = 0 ∧ 128 % 2 ^ e = 0 ∧ f / 2 ^ (e + 16) = (f + 127) / 2 ^ (e + 16) then
      some (mkCap f 0 0x3FFFF e (f % 2 ^ (e + 16) / 2 ^ e) (128 / 2 ^ e) true)
    else none)

/-- The bytes of a frame from offset 0x10 on (R391). -/
def frameBytes (a : CpArch) (pc : Cap) : List Byte :=
  leBytes 16 pc.bits.toNat ++ leBytes 8 a.xpc.toNat ++ leBytes 8 a.xcause.toNat ++ leBytes 8 a.xinfo.toNat ++
  leBytes 8 a.xmask.toNat ++ leBytes 8 a.loopcnt.toNat ++ leBytes 8 (a.loopbeg.toNat + a.loopend.toNat * 2 ^ 32) ++
  leBytes 8 a.flags.toNat ++ leBytes 8 a.ncy.toNat ++ leBytes 8 (a.g[14]).toNat ++ leBytes 8 (a.g[15]).toNat ++ leBytes 16 0

/-- XCAUSE of an entry (R385). -/
def xcauseOf (code : Nat) (int ds esc : Bool) (irq : Nat) : Word :=
  BitVec.ofNat 64 (code + 256 * b2n int + 512 * b2n ds + 1024 * b2n esc + irq * 2 ^ 32)

/-- What an entry is for. -/
structure Cause where
  code : Nat
  int : Bool
  ds : Bool
  irq : Nat
  info : Word
  xpc : Nat
  deriving DecidableEq, Repr

/-- Whether a program word can be fetched: it lies in Program RAM or inside PROG_MIB (R80). -/
def State.wordPresent (s : State) (c : CpId) (w : Nat) : Bool :=
  match s.cpRec c with | some r => decide (7 * w + 6 < r.progMib.toNat * 2 ^ 20) || decide (w < 0x4000) | none => decide (w < 0x4000)

/-- The key of the first byte of a program word: Program RAM, or the program region (R79, R80). -/
def State.wordKey (s : State) (c : CpId) (w i : Nat) : Option Nat :=
  if w < 0x4000 then some (pramBase + c.val * 0x20000 + 8 * w + i)
  else
    let b := 7 * w + i
    match s.cpPart c with
    | some p => ((s.part p).prog[b / 65536]?).map (fun g => g * 65536 + b % 65536)
    | none => none

/-- A program word as memory holds it (R80). -/
def State.memWord (s : State) (c : CpId) (w : Nat) : BitVec 56 :=
  BitVec.ofNat 56 (leNat ((List.range 7).map (fun i => match s.wordKey c w i with | some k => s.byteAt k | none => 0)))

/-- A program word as the CP would execute it: from the prefetch queue, the instruction cache while it is on, or memory (R79, R110). -/
def State.peekWord (s : State) (c : CpId) (w : Nat) : BitVec 56 :=
  match (s.cp c).pf.find? (fun e => e.w == w) with
  | some e => e.bits
  | none =>
    match if 0x4000 ≤ w ∧ (s.cp c).a.ice = true then (s.cp c).icache.find? (fun e => e.w == w) else none with
    | some e => e.bits
    | none => s.memWord c w

/-- A parcel of the program space, none outside it (R80). -/
def State.parcel (s : State) (c : CpId) (pa : Nat) : Option (BitVec 14) :=
  if s.wordPresent c (pa / 4) then some (BitVec.ofNat 14 ((s.peekWord c (pa / 4)).toNat / 2 ^ (14 * (pa % 4)))) else none

/-- The parcels of an instruction from its first parcel (R90). -/
def parcelLen (x : BitVec 14) : Nat := match x.toNat / 4096 with | 2 => 2 | 3 => 4 | _ => 1

/-- Read a program word under its code: whether it is uncorrectable, its bits, and the state after. Words of the program region come through
the instruction cache while it is on (R79, R347, R360); INJ_ICACHE may flip a fill (R373). -/
def State.readWord (s : State) (c : CpId) (w : Nat) : (Bool × BitVec 56) × State :=
  if w < 0x4000 then
    let r := s.readGrid ((pramBase + c.val * 0x20000 + 8 * w) / 8) (List.range 7)
    ((r.1, r.2.memWord c w), r.2)
  else
    match if (s.cp c).a.ice then (s.cp c).icache.find? (fun e => e.w == w) else none with
    | some e =>
      if e.err = Err.zero then ((false, e.bits), s)
      else
        let d := gridRead e.err (List.range 7)
        if d.poison then ((true, e.bits), (s.capture 1 c.val d.synd d.marking true w).bucket 1 1)
        else
          let bits := e.bits ^^^ d.left.d.setWidth 56
          ((false, bits), (s.modCp c (fun p => { p with icache := p.icache.map (fun x => if x.w = w then ⟨w, bits, Err.zero⟩ else x) })).bucket 0 d.fixed)
    | none =>
      let r := (List.range 7).foldl (fun (r : Bool × State) i =>
        match r.2.wordKey c w i with
        | some k => let q := r.2.readRange k 1; (r.1 || q.1.isSome, q.2)
        | none => r) (false, s)
      let bits := r.2.memWord c w
      if r.1 ∨ !(s.cp c).a.ice then ((r.1, bits), r.2)
      else
        let i := r.2.inject 0x02 c.val
        ((false, bits), i.2.modCp c (fun p => { p with icache := (⟨w, bits, if i.1 then s.injMask else Err.zero⟩ :: p.icache).take 4096 }))

/-- Fill the prefetch queue with the words from w0 on, up to four: a word that it holds stays as it was read, and one outside the program
space or PROG_MIB is not fetched (R378, R110; that it is full at every instruction is log entry 117, DESIGN CHOICE). -/
def State.prefetch (s : State) (c : CpId) (w0 : Nat) : State :=
  let r := (List.range 4).foldl (fun (r : List PfWord × State) i =>
    match (s.cp c).pf.find? (fun e => e.w == w0 + i) with
    | some e => (r.1 ++ [e], r.2)
    | none =>
      if w0 + i < 0x400000 ∧ r.2.wordPresent c (w0 + i) = true then
        let q := r.2.readWord c (w0 + i)
        (r.1 ++ [⟨w0 + i, q.1.2, q.1.1⟩], q.2)
      else r) ([], s)
  r.2.modCp c (fun p => { p with pf := r.1 })

/-- The fault of a fetch of parcels [pc, pc + n): cause and XINFO, none when every word can be fetched (R80, R104, R360). -/
def State.fetchFault (s : State) (c : CpId) (pc n : Nat) : Option (Nat × Word) × State :=
  let words := (List.range ((pc + n - 1) / 4 - pc / 4 + 1)).map (pc / 4 + ·)
  if 0x1000000 < pc + n then
    (some (cFetch, BitVec.ofNat 64 (max pc 0x1000000 % 0x1000000 + 0x1000000)), s)
  else
    match words.find? (fun w => !s.wordPresent c w) with
    | some w => (some (cFetch, BitVec.ofNat 64 (max pc (4 * w))), s)
    | none =>
      let s := s.prefetch c (pc / 4)
      match words.find? (fun w => (s.cp c).pf.any (fun e => e.w == w && e.bad)) with
      | some w => (some (cPoison, poisonInfo (progWin + 7 * w) (if w < 0x4000 then 3 else 0)), s.bucket 12 1)
      | none => (none, s)

/-- The K register that XFRAME.FK names (R386). -/
def frameReg (a : CpArch) : Reg := ⟨a.xframeOn.toNat % 16, by omega⟩

/-- Store the frame of an entry (R391, R392): the state with the frame written, none when a check or a write fails. -/
def State.writeFrame (s : State) (c : CpId) (a : CpArch) (pc : Nat) : Option (Nat × State) :=
  let k := a.k[(frameReg a).val]
  let f := k.cursor - 128
  if !bitOf a.xframeOn 4 ∨ !k.tag ∨ k.otype ≠ 0 ∨ !k.has permW ∨ !k.has permStoreCap ∨ k.cursor % 16 ≠ 0 ∨
      k.cursor < k.base + 128 ∨ k.top < k.cursor then none
  else match sealWord f with
    | none => none
    | some sw =>
      let acc := s.cpAccess c (frameReg a).val k true
      let r := s.spans acc f 128
      match r.1 with
      | .ok sp =>
        let pcc := a.pccAt pc
        let s := r.2.storeSpans c f sp (leBytes 16 sw.bits.toNat ++ frameBytes a pcc)
        let keys := sp.flatMap (fun x => (List.range x.2).map (fun i => x.1 + i))
        let s := s.writeTag (keys.getD 16 0 / 16) pcc.tag
        some (f, s.writeTag (keys.getD 0 0 / 16) true)
      | _ => none

/-- Enter the handler for a cause at a new level (R392); a fault on the way locks the CP up. -/
def State.enter (s : State) (c : CpId) (x : Cause) (level : Nat) (esc : Bool) : State :=
  let s := s.modCp c (fun p => { p.sync with stall := .none, vq := p.vq.close })
  let cmp := s.compareWith State.bucket c 4 x.xpc
  if cmp.1 then cmp.2
  else
    let s := cmp.2
    let a := (s.cp c).a
    match s.writeFrame c a x.xpc with
    | none => s.lockup c 1 x.code
    | some (f, s) =>
      let fk := frameReg a
      let s := s.modCp c (fun p => { p with
        a := { p.a with
          k := vecUpd p.a.k fk (fun k => k.at f)
          xpc := BitVec.ofNat 24 x.xpc
          xcause := xcauseOf x.code x.int x.ds esc x.irq
          xinfo := x.info
          xmask := BitVec.ofNat 3 level
          pcc := p.a.entryCap
          loopcnt := 0
          delay := none
          pc := p.a.xvecOn.setWidth 25 }
        resv := none, lock := 0, skipBp := false,
        pendBits := if x.int then setBitOf p.pendBits x.irq false else p.pendBits
        taken := if x.int then BitVec.ofNat 8 x.irq :: p.taken else p.taken
        entryWin := if x.int then some ⟨BitVec.ofNat 8 x.irq⟩ else none })
      let r := s.fetchFault c (s.cp c).a.xvecOn.toNat 1
      if r.1.isSome then r.2.lockup c 1 x.code else r.2

/-- Raise a synchronous cause (R390): entry at level 6, an escalated entry from level 6, lockup at level 7; RETURN_AUTH always
escalates. -/
def State.raise (s : State) (c : CpId) (code : Nat) (info : Word) (xpc : Nat) : State :=
  let a := (s.cp c).a
  let level := a.xmask.toNat
  let ds := a.delay.isSome
  let xpc := match a.delay with | some d => d.2.toNat | none => xpc
  let x : Cause := ⟨code, false, ds, 0, info, xpc⟩
  if level = 7 then s.lockup c 2 code
  else if code = cReturn ∨ level = 6 then s.enter c x 7 true
  else s.enter c x 6 false

/-! ### Interrupts (R399, R400) -/

/-- The priority of an interrupt; that of interrupt 0 is 7 (R399, R401). -/
def Cp.prio (p : Cp) (n : Nat) : Nat := if n = 0 then 7 else nbits (p.iprio[n / 16]!).toNat (4 * (n % 16)) 3

/-- The acceptable interrupt of highest priority above a level, the lowest number on a tie (R400). -/
def Cp.topIrq (p : Cp) (level : Nat) : Option (Nat × Nat) :=
  (List.range 256).foldl (fun (r : Option (Nat × Nat)) n =>
    if bitOf (p.pendBits &&& p.enabBits) n && decide (level < p.prio n) && decide ((r.map (·.2)).getD 0 < p.prio n) then
      some (n, p.prio n)
    else r) none

/-- Accept interrupt n of priority q with the return point xpc: the VECTOR interrupt carries the fault (R233, R388). -/
def State.accept (s : State) (c : CpId) (n q xpc : Nat) : State :=
  let p := s.cp c
  if n = 8 ∧ p.a.vfi ∧ p.vq.pend then
    (s.modVq c (fun v => { v with pend := false })).enter c ⟨cVector, true, false, 8, p.vq.finfo, xpc⟩ q false
  else s.enter c ⟨cInterrupt, true, false, n, 0, xpc⟩ q false

/-- Deliver a pending vector fault as a VECTOR exception at an instruction (R233): PEND and pending bit 8 clear. -/
def State.deliverVector (s : State) (c : CpId) (xpc : Nat) : State :=
  let info := (s.cp c).vq.finfo
  (s.modCp c (fun p => { p with vq := { p.vq with pend := false }, pendBits := setBitOf p.pendBits 8 false })).raise c cVector info xpc

/-! ### Running an instruction -/

/-- What an instruction does to the flow of control. -/
inductive Flow where
  /-- It completes and execution goes on in sequence. -/
  | next (s : State)
  /-- A taken branch. -/
  | jump (s : State) (target : Nat)
  /-- A .D branch, taken or not, with the address after its slot's effect. -/
  | delayed (s : State) (target : Option Nat)
  /-- It raises a cause; XPC holds the instruction, or the next one. -/
  | trap (s : State) (code : Nat) (info : Word) (after : Bool)
  /-- It waits. -/
  | stall (s : State) (w : Stall)
  /-- It has set the flow itself. -/
  | done (s : State)

/-- The fixed facts of an instruction: parcels, its bits for XINFO (R111), whether it may not stand in a delay slot and
whether it is a .D branch (R101), the G and F registers it reads or writes (R203), whether a reserved field is not zero (R111) or it names a
control register that R74 does not list (R112), and the opcode whose dispatch entry the CP reads (R287). -/
structure Insn where
  len : Nat
  bits : Nat
  ctl : Bool
  dly : Bool
  gs : List Nat
  fs : List Nat
  rsv : Bool
  ill : Bool
  vop : Option Nat
  deriving DecidableEq, Repr

/-- An instruction with no reserved field set and no dispatch entry. -/
def mkInsn (len bits : Nat) (ctl dly : Bool) (gs fs : List Nat) : Insn := ⟨len, bits, ctl, dly, gs, fs, false, false, none⟩

/-- The instruction, reserved where a condition on its fields holds (R111). -/
def Insn.reserve (i : Insn) (b : Bool) : Insn := { i with rsv := i.rsv || b }

/-- The instruction, reserved unless a field is zero (R111). -/
def Insn.zero (i : Insn) (field : Nat) : Insn := i.reserve (field != 0)

/-- XINFO of RESERVED_OP and ILLEGAL (R111). -/
def Insn.info (i : Insn) : Word :=
  BitVec.ofNat 64 (i.bits % 2 ^ 56 + (if i.len = 1 then i.bits / 4096 % 4 else if i.len = 2 then 2 else 3) * 2 ^ 56)

/-- The address after n more parcels, at most one past the program space. -/
def pcPlus (pc n : Nat) : BitVec 25 := BitVec.ofNat 25 (min 0x1000000 (pc + n))

/-- The prefetch queue after an instruction with a taken branch to a target or none: every taken branch empties it, a delayed one with its
slot; the return to LOOPBEG does not (R378). -/
def Cp.flow (p : Cp) (target : Option Nat) : List PfWord :=
  if (match p.a.delay with | some _ => p.dtaken | none => target.isSome) then [] else p.pf

/-- An instruction completed: where the next one lies (R101, R102, R103), INSTRET and the LOCK window (R106), then the
boundary. -/
def State.retire (s : State) (c : CpId) (len : Nat) (target : Option Nat) : State :=
  let s := s.modCp c (fun p =>
    let a := p.a
    let here := a.pc.toNat
    let seq : CpArch := { a with pc := pcPlus here len }
    let a' : CpArch :=
      match a.delay with
      | some d => { a with pc := d.1, delay := none }
      | none =>
        match target with
        | some t => { a with pc := BitVec.ofNat 25 (min t 0x1000000) }
        | none =>
          if a.loopcnt ≠ 0 ∧ here = a.loopend.toNat then
            if 1 < a.loopcnt.toNat then { a with pc := a.loopbeg.setWidth 25, loopcnt := a.loopcnt - 1 }
            else { seq with loopcnt := 0 }
          else seq
    { p with a := a', pf := p.flow target, instret := p.instret + 1, lock := p.lock - 1, skipBp := false })
  s.boundary c

/-- A .D branch completed: its slot follows (R101). -/
def State.retireDelayed (s : State) (c : CpId) (len : Nat) (target : Option Nat) : State :=
  let here := (s.cp c).a.pc.toNat
  let slot := here + len
  let slotLen := match s.parcel c slot with | some x => parcelLen x | none => 1
  let after := match target with | some t => BitVec.ofNat 25 (min t 0x1000000) | none => pcPlus slot slotLen
  s.modCp c (fun p => { p with
    a := { p.a with pc := pcPlus here len, delay := some (after, BitVec.ofNat 24 here) }
    dtaken := target.isSome, instret := p.instret + 1, lock := p.lock - 1, skipBp := false })

/-- Carry out what an instruction answered. -/
def State.finish (s0 : State) (c : CpId) (i : Insn) (f : Flow) : State :=
  let here := (s0.cp c).a.pc.toNat
  match f with
  | .next s => s.retire c i.len none
  | .jump s t => s.retire c i.len (some t)
  | .delayed s t => s.retireDelayed c i.len t
  | .trap s code info after => (s.raise c code info (if after then (pcPlus here i.len).toNat else here)).boundary c
  | .stall s w =>
    let blocked := match w with | .none => false | .page => false | .wait => false | .inPort .. => false | _ => true
    let s := s.modCp c (fun p => { p with stall := w })
    if blocked && (s.cp c).stepping && bitOf (s.reg (DBG_FREEZE.adr c)) 0 then
      (s.modCp c (fun p => { p with stall := .none })).haltCp c 6 0 false
    else s
  | .done s => s.boundary c

/-- The breakpoints that match an instruction at an address (R602). -/
def State.breaksAt (s : State) (c : CpId) (pc : Nat) : List (Fin 8) :=
  (fins 8).filter (fun (i : Fin 8) => s.rdB (DBG_BP_CTL.EN c i) && s.rd (DBG_BP_ADDR.ADDR c i) == pc)

/-- The lowest of them, if any. -/
def State.breakAt (s : State) (c : CpId) (pc : Nat) : Option (Fin 8) := (s.breaksAt c pc).head?

/-- Whether a matching breakpoint halts rather than traces (R599, R602). -/
def State.breakHalts (s : State) (c : CpId) (i : Fin 8) : Bool := !s.rdB (DBG_BP_CTL.ACTION c i) && s.haltable c

/-- The breakpoints of an instruction (R602): the one that halts, on the instruction or on the delay slot of a .D branch, and those that
trace; none where the instruction runs without matching. -/
def State.breaks (s : State) (c : CpId) (i : Insn) : Option (Fin 8) × List (Fin 8) :=
  let p := s.cp c
  let pc := p.a.pc.toNat
  if p.skipBp then (none, [])
  else
    let here := s.breaksAt c pc
    let slot := if i.dly then s.breaksAt c (pc + i.len) else []
    ((here ++ slot).find? (fun b => s.breakHalts c b), here.filter (fun b => !s.breakHalts c b))

/-- A CP's turn at an instruction: whether it issues at all. -/
def Cp.issues (p : Cp) : Bool := p.run == .running && p.stall == .none

/-- Whether the CPs of the part run: in RUN below shed level 6, and not on a Standby or a divergent side (R509, R549, R616,
R624). -/
def State.cpsGo (s : State) : Bool :=
  s.sec.sys == .run && decide (s.shed < 6) && !s.pair.divergent && s.rd PAIR_STAT.ROLE != 2

/-- Whether SLEEP entry runs its steps: the request is accepted and the partner, where it is asked, has agreed (R512, R628). -/
def State.entering (s : State) : Bool :=
  s.rd PWR_SLEEP.STATE == 1 && !s.pair.sleepAsk && (s.pwr.agreed || s.rd PAIR_STAT.STATE != 3)

/-- Whether a cut that is due or SLEEP entry stops a CP: at an instruction boundary, after any LOCK window (R512, R539). -/
def State.cutStops (s : State) (c : CpId) : Bool :=
  ((s.pair.due && s.pair.ship.isNone) || s.entering) && (s.cp c).lock == 0

/-- Whether a LOCK window that was open at the entry to shed level 6 still runs (R509). -/
def State.lockGo (s : State) (c : CpId) : Bool :=
  s.sec.sys == .run && s.shed == 6 && (s.cp c).lock != 0 && !s.pair.divergent && s.rd PAIR_STAT.ROLE != 2

/-- The interrupt that is taken before the next instruction (R400, R601). -/
def State.irqBefore (s : State) (c : CpId) : Option (Nat × Nat) :=
  let p := s.cp c
  if p.lock ≠ 0 ∨ p.a.delay.isSome ∨ (p.stepping ∧ !s.rdB (DBG_CPCTL.STEP_IRQ c)) then none
  else p.topIrq p.a.xmask.toNat

/-- The pipe whose dispatch RAM a CP reads at decode: the first of its cluster (log entry 111, DESIGN CHOICE). -/
def cpPipe (c : CpId) : Nat := 4 * (clOf c).val

/-- The fault of decoding an instruction, none where it is defined and may stand where it is (R389): RESERVED_OP for a reserved encoding or
field and for a dispatch entry marked reserved (R111, R287), POISON for an uncorrectable entry (R292), then ILLEGAL (R101, R103, R112). -/
def State.decodeFault (s : State) (c : CpId) (i : Insn) : Option (Nat × Word) × State :=
  let p := s.cp c
  let atEnd := p.a.loopcnt != 0 && p.a.pc.toNat == p.a.loopend.toNat
  let ill := (p.a.delay.isSome && i.ctl) || (atEnd && (i.dly || p.a.delay.isSome)) || i.ill
  let late : Option (Nat × Word) := if i.rsv then some (cReserved, i.info) else if ill then some (cIllegal, i.info) else none
  match i.vop with
  | none => (late, s)
  | some op =>
    let r := s.dispRead (cpPipe c)
    if r.1 then
      let f := r.2.fresh
      (some (cPoison, poisonInfo f.1.toNat 3), f.2.bucket 12 1)
    else if s.dispKind op = 2 then (some (cReserved, i.info), r.2)
    else (late, r.2)

/-- Fetch and decode the instruction at the program counter: its first cause (R389). -/
def State.fetch (s : State) (c : CpId) (i : Insn) : Option (Nat × Word) × State :=
  let r := s.fetchFault c (s.cp c).a.pc.toNat i.len
  if r.1.isSome then r else r.2.decodeFault c i

/-- Run an instruction of a CP (R389): a CP that does not issue is left as it stands; an acceptable interrupt is taken
instead; a breakpoint halts; then the causes of fetch and decode, the wait for registers that vector work will write, or VECTOR where that
work has faulted and the instruction raises no cause before it (R203, R389), and the instruction itself. -/
def State.runInsn (s : State) (c0 : CpId) (i : Insn) (body : State → CpId → Flow) : State :=
  let c := s.lead c0
  if !((s.cpsGo || s.lockGo c) && (s.cp c).issues) || s.cutStops c then s
  else match s.irqBefore c with
  | some (n, q) => (s.accept c n q (s.cp c).a.pc.toNat).boundary c
  | none =>
    let s := s.modCp c (fun p => { p with entryWin := none })
    let p := s.cp c
    let pc := p.a.pc.toNat
    let hit := s.breaks c i
    let s := if hit.2 = [] then s else
      (hit.2.foldl (fun (s : State) b => s.tracePkt c 1 b.val (BitVec.ofNat 64 pc)) s).modCp c (fun p => { p with skipBp := true })
    if hit.1.isSome ∧ p.lock = 0 ∧ p.a.delay = none then s.haltCp c 3 (hit.1.getD 0).val false
    else
      let s := match hit.1 with
        | some b => if p.lock = 0 then s else s.modCp c (fun p => { p with lateBp := some b })
        | none => s
      let r := s.fetch c i
      match r.1 with
      | some (code, info) => (r.2.raise c code info pc).boundary c
      | none =>
        let s := r.2
        if i.gs.any (fun n => p.vq.writesG n) || i.fs.any (fun n => p.vq.writesF n) then
          if p.vq.pend then
            (match body s c with
              | .trap t code info after => s.finish c i (.trap t code info after)
              | _ => (s.deliverVector c pc).boundary c)
          else s.finish c i (.stall s .vector)
        else s.finish c i (body s c)

end Sys2Proof.Machine
end

