-- ==== Sys2Proof/Machine/Flags.lean ====
section
/-! DEFINITION. The flags of the CP (R89, R96) and NCY (R97): each computation once. -/

namespace Sys2Proof.Machine

/-- Bit numbers of the architectural flags in the bit space (R89): Z. -/
def flZ : Nat := 0
/-- N. -/
def flN : Nat := 1
/-- C. -/
def flC : Nat := 2
/-- V. -/
def flV : Nat := 3
/-- T. -/
def flT : Nat := 4
/-- DZ. -/
def flDZ : Nat := 5
/-- OV. -/
def flOV : Nat := 6
/-- DI. -/
def flDI : Nat := 7

/-- A flag of a CP. -/
def CpArch.flag (a : CpArch) (n : Nat) : Bool := bitOf a.flags n

/-- Set a flag. -/
def CpArch.setFlag (a : CpArch) (n : Nat) (b : Bool) : CpArch := { a with flags := setBitOf a.flags n b }

/-- Set a sticky flag where a condition holds (R89). -/
def CpArch.stick (a : CpArch) (n : Nat) (b : Bool) : CpArch := if b then a.setFlag n true else a

/-- Z of a result. -/
def CpArch.setZ (a : CpArch) (r : Word) : CpArch := a.setFlag flZ (r == 0)

/-- Z and N of a result (R96). -/
def CpArch.setZN (a : CpArch) (r : Word) : CpArch := (a.setZ r).setFlag flN (bitOf r 63)

/-- The nibble carries of a binary addition with carry-in (R97). -/
def nibbleCarries (x y : Word) (cin : Bool) : BitVec 16 :=
  (List.range 16).foldl (fun v i =>
    let m := 2 ^ (4 * i + 4)
    setBitOf v i (decide (m ≤ x.toNat % m + y.toNat % m + b2n cin))) 0

/-- Addition: Z, N, C, V and NCY (R96, R97). -/
def CpArch.flagsAdd (a : CpArch) (x y : Word) (cin : Bool) : Word × CpArch :=
  let r := x + y + BitVec.ofNat 64 (b2n cin)
  let a := (a.setZN r).setFlag flC (decide (2 ^ 64 ≤ x.toNat + y.toNat + b2n cin))
  let a := a.setFlag flV (bitOf x 63 == bitOf y 63 && bitOf r 63 != bitOf x 63)
  (r, { a with ncy := nibbleCarries x y cin })

/-- Subtraction: Z, N, V, and C when it borrows (R96). -/
def CpArch.flagsSub (a : CpArch) (x y : Word) (cin : Bool) : Word × CpArch :=
  let r := x - y - BitVec.ofNat 64 (b2n cin)
  let a := (a.setZN r).setFlag flC (decide (x.toNat < y.toNat + b2n cin))
  (r, a.setFlag flV (bitOf x 63 != bitOf y 63 && bitOf r 63 != bitOf x 63))

/-- A logic result: Z and N. -/
def CpArch.flagsLogic (a : CpArch) (r : Word) : Word × CpArch := (r, a.setZN r)

/-- The last bit that a shift moves out: C, unchanged for an amount of 0 (R96). -/
def CpArch.flagsShift (a : CpArch) (r : Word) (n : Nat) (out : Bool) : Word × CpArch :=
  let a := a.setZN r
  (r, if n = 0 then a else a.setFlag flC out)

/-- SHL by an amount of 0 to 63. -/
def CpArch.shl (a : CpArch) (x : Word) (n : Nat) : Word × CpArch := a.flagsShift (x <<< n) n (bitOf x (64 - n))
/-- SHR. -/
def CpArch.shr (a : CpArch) (x : Word) (n : Nat) : Word × CpArch := a.flagsShift (x >>> n) n (bitOf x (n - 1))
/-- SAR. -/
def CpArch.sar (a : CpArch) (x : Word) (n : Nat) : Word × CpArch := a.flagsShift (x.sshiftRight n) n (bitOf x (n - 1))
/-- ROR. -/
def CpArch.ror (a : CpArch) (x : Word) (n : Nat) : Word × CpArch := a.flagsShift (x.rotateRight n) n (bitOf x (n - 1))

/-- A result that sets Z alone. -/
def CpArch.flagsZ (a : CpArch) (r : Word) : Word × CpArch := (r, a.setZ r)

end Sys2Proof.Machine
end

