-- ==== Sys2Proof/Machine/Operands.lean ====
section
/-! DEFINITION. The operand forms of CP instructions: their encodings (R90 to R95, R170), the registers they name, and the
reserved fields they check (R111). -/

namespace Sys2Proof.Machine

/-! ### Encodings -/

/-- A register-form instruction of one parcel (R91). -/
def enc1 (op d s : Nat) : Nat := op * 256 + d * 16 + s

/-- A bit-form instruction of one parcel (R91). -/
def encBit (op bit : Nat) : Nat := 0x1000 + op * 1024 + bit

/-- A two-parcel instruction: major opcode and bits [19:0] (R92). -/
def enc2 (major low : Nat) : Nat := 0x8000000 + major * 2 ^ 20 + low

/-- The low bits of form RRR. -/
def lowRRR (d a b fn : Nat) : Nat := d * 2 ^ 16 + a * 2 ^ 12 + b * 256 + fn

/-- The low bits of form RI. -/
def lowRI (d imm : Nat) : Nat := d * 2 ^ 16 + imm

/-- The low bits of forms MEM and PORT. -/
def lowMem (d k off : Nat) : Nat := d * 2 ^ 16 + k * 2 ^ 12 + off

/-- An extended scalar instruction of four parcels (R95). -/
def enc4 (op d a sub imm : Nat) : Nat := 3 * 2 ^ 54 + op * 2 ^ 44 + d * 2 ^ 40 + a * 2 ^ 36 + sub * 2 ^ 32 + imm

/-- A vector instruction of four parcels (R170). -/
def encV (op : Nat) (v : VecFields) : Nat :=
  3 * 2 ^ 54 + op * 2 ^ 44 + v.dd.val * 2 ^ 40 + v.da.val * 2 ^ 36 + v.db.val * 2 ^ 32 + v.dc.val * 2 ^ 28 +
    v.msel.toNat * 2 ^ 23 + v.ty.toNat * 2 ^ 19 + v.rnd.toNat * 2 ^ 16 + b2n v.ch * 2 ^ 15 + b2n v.tw * 2 ^ 14 + v.imm.toNat

/-! ### Instruction facts -/

/-- One parcel, register form. -/
def i1 (op : Nat) (d s : Reg) : Insn := mkInsn 1 (enc1 op d s) false false [d.val, s.val] []
/-- One parcel, unary. -/
def iUnary (sel : Nat) (r : Reg) : Insn := mkInsn 1 (enc1 0xE sel r) false false [r.val] []
/-- One parcel, control. -/
def iCtl (sel : Nat) (ctl : Bool) : Insn := mkInsn 1 (0xF00 + sel) ctl false [] []
/-- One parcel, bit form. -/
def iBit (op : Nat) (bit : BitVec 10) : Insn := mkInsn 1 (encBit op bit.toNat) false false [] []
/-- Two parcels, form RRR on G registers. -/
def iRRR (major : Nat) (d a b : Reg) (fn : BitVec 8) : Insn :=
  mkInsn 2 (enc2 major (lowRRR d a b fn.toNat)) false false [d.val, a.val, b.val] []
/-- Two parcels, form RI. -/
def iRI (major : Nat) (d : Reg) (imm : BitVec 16) : Insn := mkInsn 2 (enc2 major (lowRI d imm.toNat)) false false [d.val] []
/-- Two parcels, form MEM with a G register as data. -/
def iMem (major : Nat) (d k : Reg) (off : BitVec 12) : Insn := mkInsn 2 (enc2 major (lowMem d k off.toNat)) false false [d.val] []
/-- Two parcels, form MEM with an F register as data. -/
def iMemF (major : Nat) (d k : Reg) (off : BitVec 12) : Insn := mkInsn 2 (enc2 major (lowMem d k off.toNat)) false false [] [d.val]
/-- Two parcels, form MEM with a K or D register as data. -/
def iMemK (major : Nat) (d k : Reg) (off : BitVec 12) : Insn := mkInsn 2 (enc2 major (lowMem d k off.toNat)) false false [] []
/-- Two parcels, form PORT. -/
def iPort (major : Nat) (d a : Reg) (off : BitVec 12) : Insn := mkInsn 2 (enc2 major (lowMem d a off.toNat)) false false [d.val, a.val] []
/-- Two parcels, form CREG. -/
def iCreg (major : Nat) (g : Reg) (num low : BitVec 8) : Insn :=
  mkInsn 2 (enc2 major (g.val * 2 ^ 16 + num.toNat * 256 + low.toNat)) false false [g.val] []
/-- Two parcels, a CAP operation with the G registers it uses. -/
def iCap (fn : Nat) (d a b : Reg) (gs : List Nat) : Insn := mkInsn 2 (enc2 0x2B (lowRRR d a b fn)) false false gs []
/-- Two parcels, form BL. -/
def iBL (major : Nat) (dst src : BitVec 10) : Insn := mkInsn 2 (enc2 major (dst.toNat * 1024 + src.toNat)) false false [] []
/-- Two parcels, a branch of form BR; CALL writes G15. -/
def iBr (major : Nat) (disp : BitVec 20) (dly call : Bool) : Insn :=
  mkInsn 2 (enc2 major disp.toNat) true dly (if call then [15] else []) []
/-- Two parcels, the JR group: fn selects the form (R93). -/
def iJr (fn : Nat) (d a b : Reg) : Insn :=
  mkInsn 2 (enc2 0x35 (lowRRR d a b fn)) true (fn % 2 == 1) (a.val :: (if 2 ≤ fn then [15] else [])) []
/-- Two parcels, form BB. -/
def iBB (major : Nat) (bit disp : BitVec 10) : Insn := mkInsn 2 (enc2 major (bit.toNat * 1024 + disp.toNat)) true (major % 2 == 1) [] []
/-- Four parcels, extended scalar, with the registers it uses; sub is zero (R95). -/
def iX (op : Nat) (d a : Reg) (sub : BitVec 4) (imm : BitVec 32) (gs fs : List Nat) : Insn :=
  { mkInsn 4 (enc4 op d a sub.toNat imm.toNat) false false gs fs with rsv := sub != 0, vop := some op }
/-- Four parcels, an extended branch. -/
def iXB (op : Nat) (d a : Reg) (sub : BitVec 4) (imm : BitVec 32) (dly : Bool) (gs : List Nat) : Insn :=
  { mkInsn 4 (enc4 op d a sub.toNat imm.toNat) true dly gs [] with rsv := sub != 0, vop := some op }

/-- Raise ILLEGAL (R112). -/
def illegal (s : State) (i : Insn) : Flow := .trap s cIllegal i.info false

/-! ### Registers -/

/-- A G register of a CP. -/
def State.g (s : State) (c : CpId) (r : Reg) : Word := (s.cp c).a.g[r.val]

/-- Write a G register. -/
def CpArch.setG (a : CpArch) (r : Reg) (v : Word) : CpArch := { a with g := a.g.set r.val v r.isLt }

/-- Write a G register of a CP. -/
def State.setG (s : State) (c : CpId) (r : Reg) (v : Word) : State := s.modA c (fun a => a.setG r v)

/-- An F register of a CP. -/
def State.f (s : State) (c : CpId) (n : Fin 64) : Word := (s.cp c).a.f[n.val]

/-- Write an F register (R72). -/
def State.setF (s : State) (c : CpId) (n : Fin 64) (v : Word) : State := s.modA c (fun a => { a with f := a.f.set n.val v n.isLt })

/-- F0 to F15 by a register field. -/
def f16 (r : Reg) : Fin 64 := ⟨r.val, by omega⟩

/-- An F register by six bits. -/
def f64 (n : BitVec 6) : Fin 64 := ⟨n.toNat, n.isLt⟩

/-- A K register of a CP. -/
def State.k (s : State) (c : CpId) (r : Reg) : Cap := (s.cp c).a.k[r.val]

/-- Write a K register. -/
def State.setK (s : State) (c : CpId) (r : Reg) (v : Cap) : State := s.modA c (fun a => { a with k := a.k.set r.val v r.isLt })

/-- A D register of a CP. -/
def State.d (s : State) (c : CpId) (r : Reg) : DReg := (s.cp c).a.d[r.val]

/-- Write a D register; INJ_DREG may flip its word 0 (R204). -/
def State.setD (s : State) (c : CpId) (r : Reg) (v : DReg) : State :=
  let i := s.inject 0x0E c.val
  let e := if i.1 then s.injMask else Err.zero
  i.2.modA c (fun a => { a with d := a.d.set r.val { v with err := e } r.isLt })

/-- Write fields other than CAP of a D register: what its word 0 holds of an error stays (R204). -/
def State.setDPart (s : State) (c : CpId) (r : Reg) (v : DReg) : State :=
  let e := (s.d c r).err
  (s.setD c r v).modA c (fun a => { a with d := vecUpd a.d r (fun x => { x with err := x.err.xor e }) })

/-- Read a D register under its grid code: none when it is poisoned (R347, R360, R361). -/
def State.readD (s : State) (c : CpId) (r : Reg) : Option DReg × State :=
  let d := s.d c r
  if d.err = Err.zero then (some d, s)
  else
    let q := gridRead d.err (List.range 8)
    if q.poison then
      (none, (((s.capture (if q.marking then 12 else 1) c.val q.synd q.marking true r.val).bucket 1 (b2n !q.marking)).bucket 12 1))
    else
      let v : DReg := { d with cap := { d.cap with bits := d.cap.bits ^^^ q.left.d.setWidth 128 }, err := Err.zero }
      (some v, (s.modA c (fun a => { a with d := a.d.set r.val v r.isLt })).bucket 0 q.fixed)

/-- POISON on a D register (R361). -/
def poisonD (s : State) (r : Reg) : Flow := .trap s cPoison (poisonInfo r.val 3) false

/-! ### Whole forms -/

/-- An instruction that computes a G register and flags from two words. -/
def aluTo (s : State) (c : CpId) (d : Reg) (f : CpArch → Word × CpArch) : Flow :=
  .next (s.modA c (fun a => let r := f a; r.2.setG d r.1))

/-- An instruction that sets flags alone. -/
def aluFlags (s : State) (c : CpId) (f : CpArch → Word × CpArch) : Flow := .next (s.modA c (fun a => (f a).2))

/-- sext of an immediate to a word. -/
def sextW {n : Nat} (x : BitVec n) : Word := x.signExtend 64

/-- zext of an immediate to a word. -/
def zextW {n : Nat} (x : BitVec n) : Word := x.setWidth 64

/-- A branch target: displacement from the first parcel of the branch; below 0 it is taken modulo 2^24, past the program
space it is the address after it (R93, R80; log entry 14, DEDUCED). -/
def target (pc : Nat) (disp : Int) : Nat :=
  let t : Int := pc + disp
  if t < 0 then (t % 0x1000000).toNat else min t.toNat 0x1000000

end Sys2Proof.Machine
end

