-- ==== Sys2Proof/Machine/CpAlu.lean ====
section
/-! DEFINITION. Integer and move instructions of the CP (R91, R93, R95, R96, R98, R100): one meaning for each row. -/

namespace Sys2Proof.Machine

/-- MOV (R91). -/
def execMov (c : CpId) (d s0 : Reg) (s : State) : Out :=
  .next (s.runInsn c (i1 0 d s0) (fun st c => .next (st.setG c d (st.g c s0))))

/-- ADD (R91, R96). -/
def execAdd (c : CpId) (d s0 : Reg) (s : State) : Out :=
  .next (s.runInsn c (i1 1 d s0) (fun st c => aluTo st c d (fun a => a.flagsAdd a.g[d.val] a.g[s0.val] false)))

/-- SUB (R91, R96). -/
def execSub (c : CpId) (d s0 : Reg) (s : State) : Out :=
  .next (s.runInsn c (i1 2 d s0) (fun st c => aluTo st c d (fun a => a.flagsSub a.g[d.val] a.g[s0.val] false)))

/-- AND (R91, R96). -/
def execAnd (c : CpId) (d s0 : Reg) (s : State) : Out :=
  .next (s.runInsn c (i1 3 d s0) (fun st c => aluTo st c d (fun a => a.flagsLogic (a.g[d.val] &&& a.g[s0.val]))))

/-- OR (R91, R96). -/
def execOr (c : CpId) (d s0 : Reg) (s : State) : Out :=
  .next (s.runInsn c (i1 4 d s0) (fun st c => aluTo st c d (fun a => a.flagsLogic (a.g[d.val] ||| a.g[s0.val]))))

/-- XOR (R91, R96). -/
def execXor (c : CpId) (d s0 : Reg) (s : State) : Out :=
  .next (s.runInsn c (i1 5 d s0) (fun st c => aluTo st c d (fun a => a.flagsLogic (a.g[d.val] ^^^ a.g[s0.val]))))

/-- ADC (R91, R96). -/
def execAdc (c : CpId) (d s0 : Reg) (s : State) : Out :=
  .next (s.runInsn c (i1 6 d s0) (fun st c => aluTo st c d (fun a => a.flagsAdd a.g[d.val] a.g[s0.val] (a.flag flC))))

/-- SBC (R91, R96). -/
def execSbc (c : CpId) (d s0 : Reg) (s : State) : Out :=
  .next (s.runInsn c (i1 7 d s0) (fun st c => aluTo st c d (fun a => a.flagsSub a.g[d.val] a.g[s0.val] (a.flag flC))))

/-- CMP (R91, R96). -/
def execCmp (c : CpId) (d s0 : Reg) (s : State) : Out :=
  .next (s.runInsn c (i1 8 d s0) (fun st c => aluFlags st c (fun a => a.flagsSub a.g[d.val] a.g[s0.val] false)))

/-- SHL (R91, R96). -/
def execShl (c : CpId) (d s0 : Reg) (s : State) : Out :=
  .next (s.runInsn c (i1 9 d s0) (fun st c => aluTo st c d (fun a => a.shl a.g[d.val] (a.g[s0.val].toNat % 64))))

/-- SHR (R91, R96). -/
def execShr (c : CpId) (d s0 : Reg) (s : State) : Out :=
  .next (s.runInsn c (i1 10 d s0) (fun st c => aluTo st c d (fun a => a.shr a.g[d.val] (a.g[s0.val].toNat % 64))))

/-- SAR (R91, R96). -/
def execSar (c : CpId) (d s0 : Reg) (s : State) : Out :=
  .next (s.runInsn c (i1 11 d s0) (fun st c => aluTo st c d (fun a => a.sar a.g[d.val] (a.g[s0.val].toNat % 64))))

/-- MVGF: F[d] := G[s] (R91). -/
def execMvgf (c : CpId) (d s0 : Reg) (s : State) : Out :=
  .next (s.runInsn c (mkInsn 1 (enc1 0xC d s0) false false [s0.val] [d.val]) (fun st c => .next (st.setF c (f16 d) (st.g c s0))))

/-- MVFG: G[d] := F[s] (R91). -/
def execMvfg (c : CpId) (d s0 : Reg) (s : State) : Out :=
  .next (s.runInsn c (mkInsn 1 (enc1 0xD d s0) false false [d.val] [s0.val]) (fun st c => .next (st.setG c d (st.f c (f16 s0)))))

/-- Leading zeros of a word, from bit n - 1 down. -/
def clzFrom (w : Nat) : Nat → Nat
  | 0 => 0
  | n + 1 => if w / 2 ^ n % 2 = 1 then 0 else 1 + clzFrom w n

/-- Trailing zeros of a word of n bits. -/
def ctzFrom (w : Nat) : Nat → Nat
  | 0 => 0
  | n + 1 => if w % 2 = 1 then 0 else 1 + ctzFrom (w / 2) n

/-- The 1 bits among the low n bits. -/
def popcN (w : Nat) : Nat → Nat
  | 0 => 0
  | n + 1 => w % 2 + popcN (w / 2) n

/-- The bytes of a word in the other order. -/
def bswapW (w : Word) : Word := BitVec.ofNat 64 (leNat (leBytes 8 w.toNat).reverse)

/-- DADJ on a word with its nibble carries: the corrected word and the decimal carry not made by the binary add (R98). -/
def dadjLoop (w : Nat) (ncy : BitVec 16) : Nat → Nat → Nat → Nat → Nat × Nat
  | 0, _, c, acc => (acc, c)
  | k + 1, i, c, acc =>
    let n := w / 16 ^ i % 16 + c
    let n := if bitOf ncy i || decide (9 < n) then n + 6 else n
    dadjLoop w ncy k (i + 1) (if 16 ≤ n then 1 else 0) (acc + n % 16 * 16 ^ i)

/-- DADJ with its flags Z and C (R98). -/
def CpArch.dadj (a : CpArch) (w : Word) : Word × CpArch :=
  let r := dadjLoop w.toNat a.ncy 16 0 0 0
  let v := BitVec.ofNat 64 r.1
  (v, (a.setZ v).setFlag flC (bitOf a.ncy 15 || r.2 == 1))

/-- NOT (R91, R96). -/
def execNot (c : CpId) (r : Reg) (s : State) : Out :=
  .next (s.runInsn c (iUnary 0 r) (fun st c => aluTo st c r (fun a => a.flagsLogic (~~~a.g[r.val]))))

/-- NEG (R91, R96). -/
def execNeg (c : CpId) (r : Reg) (s : State) : Out :=
  .next (s.runInsn c (iUnary 1 r) (fun st c => aluTo st c r (fun a => a.flagsSub 0 a.g[r.val] false)))

/-- DADJ (R91, R96). -/
def execDadj (c : CpId) (r : Reg) (s : State) : Out :=
  .next (s.runInsn c (iUnary 2 r) (fun st c => aluTo st c r (fun a => a.dadj a.g[r.val])))

/-- CLZ (R91, R96). -/
def execClz (c : CpId) (r : Reg) (s : State) : Out :=
  .next (s.runInsn c (iUnary 3 r) (fun st c => aluTo st c r (fun a => a.flagsZ (BitVec.ofNat 64 (clzFrom a.g[r.val].toNat 64)))))

/-- CTZ (R91, R96). -/
def execCtz (c : CpId) (r : Reg) (s : State) : Out :=
  .next (s.runInsn c (iUnary 4 r) (fun st c => aluTo st c r (fun a => a.flagsZ (BitVec.ofNat 64 (ctzFrom a.g[r.val].toNat 64)))))

/-- POPC (R91, R96). -/
def execPopc (c : CpId) (r : Reg) (s : State) : Out :=
  .next (s.runInsn c (iUnary 5 r) (fun st c => aluTo st c r (fun a => a.flagsZ (BitVec.ofNat 64 (popcN a.g[r.val].toNat 64)))))

/-- SEXTB (R91, R96). -/
def execSextb (c : CpId) (r : Reg) (s : State) : Out :=
  .next (s.runInsn c (iUnary 6 r) (fun st c => aluTo st c r (fun a => a.flagsZ ((a.g[r.val].setWidth 8).signExtend 64))))

/-- SEXTH (R91, R96). -/
def execSexth (c : CpId) (r : Reg) (s : State) : Out :=
  .next (s.runInsn c (iUnary 7 r) (fun st c => aluTo st c r (fun a => a.flagsZ ((a.g[r.val].setWidth 32).signExtend 64))))

/-- ZEXTH (R91, R96). -/
def execZexth (c : CpId) (r : Reg) (s : State) : Out :=
  .next (s.runInsn c (iUnary 8 r) (fun st c => aluTo st c r (fun a => a.flagsZ ((a.g[r.val].setWidth 32).setWidth 64))))

/-- BSWAP (R91, R96). -/
def execBswap (c : CpId) (r : Reg) (s : State) : Out :=
  .next (s.runInsn c (iUnary 9 r) (fun st c => aluTo st c r (fun a => a.flagsZ (bswapW a.g[r.val]))))

/-- ADD3 (R93, R96). -/
def execAdd3 (c : CpId) (d a0 b0 : Reg) (fn : BitVec 8) (s : State) : Out :=
  .next (s.runInsn c ((iRRR 0 d a0 b0 fn).zero fn.toNat) (fun st c =>
    (aluTo st c d (fun a => a.flagsAdd a.g[a0.val] a.g[b0.val] false))))

/-- SUB3 (R93, R96). -/
def execSub3 (c : CpId) (d a0 b0 : Reg) (fn : BitVec 8) (s : State) : Out :=
  .next (s.runInsn c ((iRRR 1 d a0 b0 fn).zero fn.toNat) (fun st c =>
    (aluTo st c d (fun a => a.flagsSub a.g[a0.val] a.g[b0.val] false))))

/-- AND3 (R93, R96). -/
def execAnd3 (c : CpId) (d a0 b0 : Reg) (fn : BitVec 8) (s : State) : Out :=
  .next (s.runInsn c ((iRRR 2 d a0 b0 fn).zero fn.toNat) (fun st c =>
    (aluTo st c d (fun a => a.flagsLogic (a.g[a0.val] &&& a.g[b0.val])))))

/-- OR3 (R93, R96). -/
def execOr3 (c : CpId) (d a0 b0 : Reg) (fn : BitVec 8) (s : State) : Out :=
  .next (s.runInsn c ((iRRR 3 d a0 b0 fn).zero fn.toNat) (fun st c =>
    (aluTo st c d (fun a => a.flagsLogic (a.g[a0.val] ||| a.g[b0.val])))))

/-- XOR3 (R93, R96). -/
def execXor3 (c : CpId) (d a0 b0 : Reg) (fn : BitVec 8) (s : State) : Out :=
  .next (s.runInsn c ((iRRR 4 d a0 b0 fn).zero fn.toNat) (fun st c =>
    (aluTo st c d (fun a => a.flagsLogic (a.g[a0.val] ^^^ a.g[b0.val])))))

/-- SHL3 (R93, R96). -/
def execShl3 (c : CpId) (d a0 b0 : Reg) (fn : BitVec 8) (s : State) : Out :=
  .next (s.runInsn c ((iRRR 5 d a0 b0 fn).zero fn.toNat) (fun st c =>
    (aluTo st c d (fun a => a.shl a.g[a0.val] (a.g[b0.val].toNat % 64)))))

/-- SHR3 (R93, R96). -/
def execShr3 (c : CpId) (d a0 b0 : Reg) (fn : BitVec 8) (s : State) : Out :=
  .next (s.runInsn c ((iRRR 6 d a0 b0 fn).zero fn.toNat) (fun st c =>
    (aluTo st c d (fun a => a.shr a.g[a0.val] (a.g[b0.val].toNat % 64)))))

/-- SAR3 (R93, R96). -/
def execSar3 (c : CpId) (d a0 b0 : Reg) (fn : BitVec 8) (s : State) : Out :=
  .next (s.runInsn c ((iRRR 7 d a0 b0 fn).zero fn.toNat) (fun st c =>
    (aluTo st c d (fun a => a.sar a.g[a0.val] (a.g[b0.val].toNat % 64)))))

/-- MUL (R93, R96). -/
def execMul (c : CpId) (d a0 b0 : Reg) (fn : BitVec 8) (s : State) : Out :=
  .next (s.runInsn c ((iRRR 8 d a0 b0 fn).zero fn.toNat) (fun st c =>
    (aluTo st c d (fun a => a.flagsLogic (a.g[a0.val] * a.g[b0.val])))))

/-- MULHU (R93, R96). -/
def execMulhu (c : CpId) (d a0 b0 : Reg) (fn : BitVec 8) (s : State) : Out :=
  .next (s.runInsn c ((iRRR 9 d a0 b0 fn).zero fn.toNat) (fun st c =>
    (aluTo st c d (fun a => a.flagsLogic (BitVec.ofNat 64 (a.g[a0.val].toNat * a.g[b0.val].toNat / 2 ^ 64))))))

/-- MULHS (R93, R96). -/
def execMulhs (c : CpId) (d a0 b0 : Reg) (fn : BitVec 8) (s : State) : Out :=
  .next (s.runInsn c ((iRRR 10 d a0 b0 fn).zero fn.toNat) (fun st c =>
    (aluTo st c d (fun a => a.flagsLogic (BitVec.ofInt 64 (a.g[a0.val].toInt * a.g[b0.val].toInt / 2 ^ 64))))))

/-- The low nibbles of eight bytes, byte 0 lowest. -/
def lowNibbles (w : Word) : Nat := (List.range 8).foldl (fun v j => v + w.toNat / 256 ^ j % 16 * 16 ^ j) 0

/-- Whether a nibble of a word is above 9. -/
def badDigits (w : Nat) : Bool := (List.range 16).any (fun i => decide (9 < w / 16 ^ i % 16))

/-- PACK of sixteen zoned bytes (R100). -/
def packW (x y : Word) : Word := BitVec.ofNat 64 (lowNibbles x + lowNibbles y * 2 ^ 32)

/-- UNPK of eight digits with a zone (R100). -/
def unpkW (x : Word) (high : Bool) (zone : Nat) : Word :=
  let w := if high then x.toNat / 2 ^ 32 else x.toNat
  BitVec.ofNat 64 ((List.range 8).foldl (fun v k => v + (w / 16 ^ k % 16 + zone * 16) * 256 ^ k) 0)

/-- PACK (R100). -/
def execPack (c : CpId) (d a0 b0 : Reg) (fn : BitVec 8) (s : State) : Out :=
  .next (s.runInsn c ((iRRR 14 d a0 b0 fn).zero fn.toNat) (fun st c =>
    (aluTo st c d (fun a => (packW a.g[a0.val] a.g[b0.val], a.stick flDI (badDigits (packW a.g[a0.val] a.g[b0.val]).toNat))))))

/-- UNPK (R100): fn[4] selects the digits and fn[3:0] is the zone. -/
def execUnpk (c : CpId) (d a0 b0 : Reg) (fn : BitVec 8) (s : State) : Out :=
  .next (s.runInsn c ((iRRR 0xF d a0 b0 fn).zero (fn.toNat / 32)) (fun st c =>
    (.next (st.setG c d (unpkW (st.g c a0) (bitOf fn 4) (fn.toNat % 16))))))

/-- ADDI (R93, R96). -/
def execAddi (c : CpId) (d : Reg) (imm : BitVec 16) (s : State) : Out :=
  .next (s.runInsn c (iRI 16 d imm) (fun st c => aluTo st c d (fun a => a.flagsAdd a.g[d.val] (sextW imm) false)))

/-- ANDI (R93, R96). -/
def execAndi (c : CpId) (d : Reg) (imm : BitVec 16) (s : State) : Out :=
  .next (s.runInsn c (iRI 17 d imm) (fun st c => aluTo st c d (fun a => a.flagsLogic (a.g[d.val] &&& zextW imm))))

/-- ORI (R93, R96). -/
def execOri (c : CpId) (d : Reg) (imm : BitVec 16) (s : State) : Out :=
  .next (s.runInsn c (iRI 18 d imm) (fun st c => aluTo st c d (fun a => a.flagsLogic (a.g[d.val] ||| zextW imm))))

/-- XORI (R93, R96). -/
def execXori (c : CpId) (d : Reg) (imm : BitVec 16) (s : State) : Out :=
  .next (s.runInsn c (iRI 19 d imm) (fun st c => aluTo st c d (fun a => a.flagsLogic (a.g[d.val] ^^^ zextW imm))))

/-- MOVI (R93, R96). -/
def execMovi (c : CpId) (d : Reg) (imm : BitVec 16) (s : State) : Out :=
  .next (s.runInsn c (iRI 20 d imm) (fun st c => aluTo st c d (fun a => (sextW imm, a))))

/-- CMPI (R93, R96). -/
def execCmpi (c : CpId) (d : Reg) (imm : BitVec 16) (s : State) : Out :=
  .next (s.runInsn c (iRI 21 d imm) (fun st c => aluFlags st c (fun a => a.flagsSub a.g[d.val] (sextW imm) false)))

/-- The facts of SHI: [15:10], [9:8] the operation, [7:6], [5:0] the amount (R93). -/
def iShi (op : Nat) (d : Reg) (hi : BitVec 6) (mid : BitVec 2) (amt : BitVec 6) : Insn :=
  iRI 0x16 d (BitVec.ofNat 16 (hi.toNat * 1024 + op * 256 + mid.toNat * 64 + amt.toNat))

/-- SHI.SHL (R93, R96). -/
def execShiShl (c : CpId) (d : Reg) (hi : BitVec 6) (mid : BitVec 2) (amt : BitVec 6) (s : State) : Out :=
  .next (s.runInsn c ((iShi 0 d hi mid amt).zero (hi.toNat + mid.toNat)) (fun st c =>
    (aluTo st c d (fun a => a.shl a.g[d.val] amt.toNat))))

/-- SHI.SHR (R93, R96). -/
def execShiShr (c : CpId) (d : Reg) (hi : BitVec 6) (mid : BitVec 2) (amt : BitVec 6) (s : State) : Out :=
  .next (s.runInsn c ((iShi 1 d hi mid amt).zero (hi.toNat + mid.toNat)) (fun st c =>
    (aluTo st c d (fun a => a.shr a.g[d.val] amt.toNat))))

/-- SHI.SAR (R93, R96). -/
def execShiSar (c : CpId) (d : Reg) (hi : BitVec 6) (mid : BitVec 2) (amt : BitVec 6) (s : State) : Out :=
  .next (s.runInsn c ((iShi 2 d hi mid amt).zero (hi.toNat + mid.toNat)) (fun st c =>
    (aluTo st c d (fun a => a.sar a.g[d.val] amt.toNat))))

/-- SHI.ROR (R93, R96). -/
def execShiRor (c : CpId) (d : Reg) (hi : BitVec 6) (mid : BitVec 2) (amt : BitVec 6) (s : State) : Out :=
  .next (s.runInsn c ((iShi 3 d hi mid amt).zero (hi.toNat + mid.toNat)) (fun st c =>
    (aluTo st c d (fun a => a.ror a.g[d.val] amt.toNat))))

/-- MOVI32 (R95, R96). -/
def execMovi32 (c : CpId) (d a0 : Reg) (sub : BitVec 4) (imm : BitVec 32) (s : State) : Out :=
  .next (s.runInsn c (iX 768 d a0 sub imm [d.val] []) (fun st c =>
    (aluTo st c d (fun a => (sextW imm, a)))))

/-- MOVHI32 (R95, R96). -/
def execMovhi32 (c : CpId) (d a0 : Reg) (sub : BitVec 4) (imm : BitVec 32) (s : State) : Out :=
  .next (s.runInsn c (iX 769 d a0 sub imm [d.val] []) (fun st c =>
    (aluTo st c d (fun a => ((a.g[d.val] &&& 0xFFFFFFFF) ||| (zextW imm <<< 32), a)))))

/-- ADDI32 (R95, R96). -/
def execAddi32 (c : CpId) (d a0 : Reg) (sub : BitVec 4) (imm : BitVec 32) (s : State) : Out :=
  .next (s.runInsn c (iX 770 d a0 sub imm [d.val, a0.val] []) (fun st c =>
    (aluTo st c d (fun a => a.flagsAdd a.g[a0.val] (sextW imm) false))))

/-- ANDI32 (R95, R96). -/
def execAndi32 (c : CpId) (d a0 : Reg) (sub : BitVec 4) (imm : BitVec 32) (s : State) : Out :=
  .next (s.runInsn c (iX 771 d a0 sub imm [d.val, a0.val] []) (fun st c =>
    (aluTo st c d (fun a => a.flagsLogic (a.g[a0.val] &&& zextW imm)))))

/-- ORI32 (R95, R96). -/
def execOri32 (c : CpId) (d a0 : Reg) (sub : BitVec 4) (imm : BitVec 32) (s : State) : Out :=
  .next (s.runInsn c (iX 772 d a0 sub imm [d.val, a0.val] []) (fun st c =>
    (aluTo st c d (fun a => a.flagsLogic (a.g[a0.val] ||| zextW imm)))))

/-- XORI32 (R95, R96). -/
def execXori32 (c : CpId) (d a0 : Reg) (sub : BitVec 4) (imm : BitVec 32) (s : State) : Out :=
  .next (s.runInsn c (iX 773 d a0 sub imm [d.val, a0.val] []) (fun st c =>
    (aluTo st c d (fun a => a.flagsLogic (a.g[a0.val] ^^^ zextW imm)))))

/-- CMPI32 (R95, R96). -/
def execCmpi32 (c : CpId) (d a0 : Reg) (sub : BitVec 4) (imm : BitVec 32) (s : State) : Out :=
  .next (s.runInsn c (iX 774 d a0 sub imm [a0.val] []) (fun st c =>
    (aluFlags st c (fun a => a.flagsSub a.g[a0.val] (sextW imm) false))))

/-- MVGFX: F[imm32[5:0]] := G[a] (R95). -/
def execMvgfx (c : CpId) (d a0 : Reg) (sub : BitVec 4) (imm : BitVec 32) (s : State) : Out :=
  .next (s.runInsn c (iX 0x320 d a0 sub imm [a0.val] [imm.toNat % 64]) (fun st c =>
    (.next (st.setF c (f64 (imm.setWidth 6)) (st.g c a0)))))

/-- MVFGX: G[d] := F[imm32[5:0]] (R95). -/
def execMvfgx (c : CpId) (d a0 : Reg) (sub : BitVec 4) (imm : BitVec 32) (s : State) : Out :=
  .next (s.runInsn c (iX 0x321 d a0 sub imm [d.val] [imm.toNat % 64]) (fun st c =>
    (.next (st.setG c d (st.f c (f64 (imm.setWidth 6)))))))

/-- NOP (R91). -/
def execNop (c : CpId) (s : State) : Out := .next (s.runInsn c (iCtl 0 false) (fun st _ => .next st))

end Sys2Proof.Machine
end

