-- ==== Sys2Proof/Machine/CpBits.lean ====
section
/-! DEFINITION. The bit space (R88, R89), the bit instructions (R91, R93, R95) and the branches (R101 to R104). -/

namespace Sys2Proof.Machine

/-! ### The bit space -/

/-- VQF: the vector queue is full (R217). -/
def VQueue.full (q : VQueue) : Bool := decide (32 ≤ q.entries.length)

/-- VBUSY: vector work outstanding (R89, R231). -/
def VQueue.busy (q : VQueue) : Bool := !q.entries.isEmpty

/-- A bit outside the bit-variable RAM (R88, R89). -/
def Cp.statusBit (p : Cp) (a : Nat) : Bool :=
  if a < 8 then p.a.flag a
  else if a = 8 then true
  else if a = 0x10 then p.vq.full
  else if a = 0x11 then p.vq.busy
  else if a = 0x12 then p.vq.pend
  else if a = 0x13 then p.resv.isSome
  else if a = 0x14 then p.lock != 0
  else if a = 0x15 then p.a.loopcnt != 0
  else if a = 0x18 then p.a.sys
  else if 0x100 ≤ a ∧ a < 0x140 then bitOf p.watch (a - 0x100)
  else if 0x140 ≤ a ∧ a < 0x180 then bitOf p.coin (a - 0x140)
  else if 0x200 ≤ a ∧ a < 0x300 then bitOf p.pendBits (a - 0x200)
  else if 0x300 ≤ a ∧ a < 0x400 then bitOf p.enabBits (a - 0x300)
  else false

/-- Read a bit: none when the bit-variable RAM's byte is uncorrectable (R347, R348). -/
def State.readBit (s : State) (c : CpId) (a : Nat) : Option Bool × State :=
  if a < 0x1000 then (some ((s.cp c).statusBit a), s)
  else
    let p := s.cp c
    let w := a / 64
    let e := mapGet errDefault p.bitErr w
    if e = Err.zero then (some (mapGet tagDefault p.bitram a), s)
    else
      let d := gridRead e [a % 64 / 8]
      if d.poison then
        (none, ((s.capture (if d.marking then 12 else 1) c.val d.synd d.marking e.inj w).bucket 1 (b2n !d.marking)).bucket 12 1)
      else
        let s := if d.fixed = 0 then s else
          (s.modCp c (fun p => { p with bitErr := mapPut errDefault p.bitErr w (if d.left.d = 0 ∧ d.left.c = 0 then Err.zero else d.left) })).bucket 0 d.fixed
        (some (Bool.xor (mapGet tagDefault p.bitram a) (bitOf d.left.d (a % 64))), s)

/-- Store a bit in the bit-variable RAM; INJ_BITRAM may flip its word (R373). -/
def State.storeRamBit (s : State) (c : CpId) (a : Nat) (b : Bool) : State :=
  let s := s.modCp c (fun p => { p with bitram := mapPut tagDefault p.bitram a b })
  let i := s.inject 0x04 c.val
  if i.1 then
    i.2.modCp c (fun p => { p with bitErr := mapPut errDefault p.bitErr (a / 64) ((mapGet errDefault p.bitErr (a / 64)).xor s.injMask) })
  else s

/-- The byte of the bit-variable RAM that holds a bit takes the poison marking (R242, R350). -/
def State.poisonBit (s : State) (c : CpId) (a : Nat) : State :=
  s.modCp c (fun p =>
    let e := (mapGet errDefault p.bitErr (a / 64)).setByte (a % 64 / 8) 0 0x3F
    { p with bitErr := mapPut errDefault p.bitErr (a / 64) e })

/-- Write a bit of the bit-variable RAM by a CP instruction: in Lockstep the undo log keeps the old bit (R520). -/
def State.writeRamBit (s : State) (c : CpId) (a : Nat) (b : Bool) : State :=
  let old := s.readBit c a
  let s := old.2
  let s := if s.lockstepCl (clOf c) then
      s.modCp c (fun p => { p with undo := Undo.bit (BitVec.ofNat 16 a) (old.1.getD false) :: p.undo }) else s
  s.storeRamBit c a b

/-- Write a bit: read-only and reserved addresses ignore it (R88, R89). -/
def State.writeBit (s : State) (c : CpId) (a : Nat) (b : Bool) : State :=
  if 0x1000 ≤ a then s.writeRamBit c a b
  else if a < 8 then s.modA c (fun x => x.setFlag a b)
  else if 0x100 ≤ a ∧ a < 0x140 then s.modCp c (fun p => { p with watch := setBitOf p.watch (a - 0x100) b })
  else if 0x140 ≤ a ∧ a < 0x180 then s.modCp c (fun p => { p with coin := setBitOf p.coin (a - 0x140) b })
  else if 0x200 ≤ a ∧ a < 0x300 then s.modCp c (fun p => { p with pendBits := setBitOf p.pendBits (a - 0x200) b })
  else if 0x300 ≤ a ∧ a < 0x400 then s.modCp c (fun p => { p with enabBits := setBitOf p.enabBits (a - 0x300) b })
  else s

/-- POISON on a bit of the bit-variable RAM: source 3, the bit address (R361; log entry 15, DESIGN CHOICE). -/
def poisonBit (s : State) (a : Nat) : Flow := .trap s cPoison (poisonInfo a 3) false

/-- Go on with a bit that an instruction reads, waiting for vector work that writes it (R162). -/
def withBit (s : State) (c : CpId) (a : Nat) (k : State → Bool → Flow) : Flow :=
  if (s.cp c).vq.holdsBit a false then
    if (s.cp c).vq.pend then .done (s.deliverVector c (s.cp c).a.pc.toNat) else .stall s .vector
  else match s.readBit c a with
    | (some b, s) => k s b
    | (none, s) => poisonBit s a

/-- Write a bit, waiting for vector work that reads or writes it (R162), compared in Lockstep before it leaves (R518). -/
def putBit (s : State) (c : CpId) (a : Nat) (b : Bool) : Flow :=
  if (s.cp c).vq.holdsBit a true then
    if (s.cp c).vq.pend then .done (s.deliverVector c (s.cp c).a.pc.toNat) else .stall s .vector
  else if 0x1000 ≤ a then
    let r := s.compareWith State.bucket c 3 a
    if r.1 then .done r.2 else .next (r.2.writeBit c a b)
  else .next (s.writeBit c a b)

/-- SETB, CLRB, TGLB and TSTB by number (R91). -/
def bitOp (op : Nat) (s : State) (c : CpId) (a : Nat) : Flow :=
  if op = 0 then putBit s c a true
  else if op = 1 then putBit s c a false
  else if op = 2 then withBit s c a (fun s b => putBit s c a (!b))
  else withBit s c a (fun s b => .next (s.modA c (fun x => x.setFlag flT b)))

/-- BAND, BOR, BXOR and BMOV by number (R93). -/
def bitOp2 (op : Nat) (s : State) (c : CpId) (dst src : Nat) : Flow :=
  withBit s c src (fun s y =>
    if op = 3 then putBit s c dst y
    else withBit s c dst (fun s x => putBit s c dst (if op = 0 then x && y else if op = 1 then x || y else Bool.xor x y)))

/-- SETB (R91). -/
def execSetb (c : CpId) (bit : BitVec 10) (s : State) : Out := .next (s.runInsn c (iBit 0 bit) (fun s c => bitOp 0 s c bit.toNat))
/-- CLRB (R91). -/
def execClrb (c : CpId) (bit : BitVec 10) (s : State) : Out := .next (s.runInsn c (iBit 1 bit) (fun s c => bitOp 1 s c bit.toNat))
/-- TGLB (R91). -/
def execTglb (c : CpId) (bit : BitVec 10) (s : State) : Out := .next (s.runInsn c (iBit 2 bit) (fun s c => bitOp 2 s c bit.toNat))
/-- TSTB (R91). -/
def execTstb (c : CpId) (bit : BitVec 10) (s : State) : Out := .next (s.runInsn c (iBit 3 bit) (fun s c => bitOp 3 s c bit.toNat))

/-- BAND (R93). -/
def execBand (c : CpId) (dst src : BitVec 10) (s : State) : Out :=
  .next (s.runInsn c (iBL 0x2C dst src) (fun s c => bitOp2 0 s c dst.toNat src.toNat))
/-- BOR (R93). -/
def execBor (c : CpId) (dst src : BitVec 10) (s : State) : Out :=
  .next (s.runInsn c (iBL 0x2D dst src) (fun s c => bitOp2 1 s c dst.toNat src.toNat))
/-- BXOR (R93). -/
def execBxor (c : CpId) (dst src : BitVec 10) (s : State) : Out :=
  .next (s.runInsn c (iBL 0x2E dst src) (fun s c => bitOp2 2 s c dst.toNat src.toNat))
/-- BMOV (R93). -/
def execBmov (c : CpId) (dst src : BitVec 10) (s : State) : Out :=
  .next (s.runInsn c (iBL 0x2F dst src) (fun s c => bitOp2 3 s c dst.toNat src.toNat))

/-- The extended bit forms on bit imm32[15:0] (R95). -/
def bitX (op : Nat) (imm : BitVec 32) (s : State) (c : CpId) : Flow := bitOp op s c (imm.toNat % 65536)

/-- The extended two-bit forms: destination imm32[31:16], source imm32[15:0] (R95). -/
def bitX2 (op : Nat) (imm : BitVec 32) (s : State) (c : CpId) : Flow := bitOp2 op s c (imm.toNat / 65536) (imm.toNat % 65536)

/-- SETBX (R95). -/
def execSetbx (c : CpId) (d a : Reg) (sub : BitVec 4) (imm : BitVec 32) (s : State) : Out :=
  .next (s.runInsn c (iX 0x308 d a sub imm [] []) (bitX 0 imm))
/-- CLRBX (R95). -/
def execClrbx (c : CpId) (d a : Reg) (sub : BitVec 4) (imm : BitVec 32) (s : State) : Out :=
  .next (s.runInsn c (iX 0x309 d a sub imm [] []) (bitX 1 imm))
/-- TGLBX (R95). -/
def execTglbx (c : CpId) (d a : Reg) (sub : BitVec 4) (imm : BitVec 32) (s : State) : Out :=
  .next (s.runInsn c (iX 0x30A d a sub imm [] []) (bitX 2 imm))
/-- TSTBX (R95). -/
def execTstbx (c : CpId) (d a : Reg) (sub : BitVec 4) (imm : BitVec 32) (s : State) : Out :=
  .next (s.runInsn c (iX 0x30B d a sub imm [] []) (bitX 3 imm))
/-- BANDX (R95). -/
def execBandx (c : CpId) (d a : Reg) (sub : BitVec 4) (imm : BitVec 32) (s : State) : Out :=
  .next (s.runInsn c (iX 0x30C d a sub imm [] []) (bitX2 0 imm))
/-- BORX (R95). -/
def execBorx (c : CpId) (d a : Reg) (sub : BitVec 4) (imm : BitVec 32) (s : State) : Out :=
  .next (s.runInsn c (iX 0x30D d a sub imm [] []) (bitX2 1 imm))
/-- BXORX (R95). -/
def execBxorx (c : CpId) (d a : Reg) (sub : BitVec 4) (imm : BitVec 32) (s : State) : Out :=
  .next (s.runInsn c (iX 0x30E d a sub imm [] []) (bitX2 2 imm))
/-- BMOVX (R95). -/
def execBmovx (c : CpId) (d a : Reg) (sub : BitVec 4) (imm : BitVec 32) (s : State) : Out :=
  .next (s.runInsn c (iX 0x30F d a sub imm [] []) (bitX2 3 imm))

/-! ### Branches -/

/-- The program counter of a CP as a number. -/
def State.pc (s : State) (c : CpId) : Nat := (s.cp c).a.pc.toNat

/-- Go to a target at once. -/
def goto (s : State) (t : Nat) : Flow := .jump s t

/-- A conditional branch on a bit (R93, R95). -/
def branchBit (s : State) (c : CpId) (bit : Nat) (want dly : Bool) (t : Nat) : Flow :=
  withBit s c bit (fun s b =>
    if dly then .delayed s (if b = want then some t else none)
    else if b = want then goto s t else .next s)

/-- Write the return address of CALL or CALLR into G15: the parcel after the branch, or after the slot (R93). -/
def State.link (s : State) (c : CpId) (len : Nat) (dly : Bool) : State :=
  let after := s.pc c + len
  let after := if dly then after + (match s.parcel c after with | some x => parcelLen x | none => 1) else after
  s.setG c 15 (BitVec.ofNat 64 after)

/-- BR (R93). -/
def execBr (c : CpId) (disp : BitVec 20) (s : State) : Out :=
  .next (s.runInsn c (iBr 0x31 disp false false) (fun s c => goto s (target (s.pc c) disp.toInt)))
/-- BR.D (R101). -/
def execBrD (c : CpId) (disp : BitVec 20) (s : State) : Out :=
  .next (s.runInsn c (iBr 0x32 disp true false) (fun s c => .delayed s (some (target (s.pc c) disp.toInt))))
/-- CALL (R93). -/
def execCall (c : CpId) (disp : BitVec 20) (s : State) : Out :=
  .next (s.runInsn c (iBr 0x33 disp false true) (fun s c => goto (s.link c 2 false) (target (s.pc c) disp.toInt)))
/-- CALL.D (R101). -/
def execCallD (c : CpId) (disp : BitVec 20) (s : State) : Out :=
  .next (s.runInsn c (iBr 0x34 disp true true) (fun s c => .delayed (s.link c 2 true) (some (target (s.pc c) disp.toInt))))
/-- JR: target G[a][23:0] (R93). -/
def execJr (c : CpId) (d a b : Reg) (s : State) : Out :=
  .next (s.runInsn c (iJr 0 d a b) (fun s c => goto s ((s.g c a).toNat % 0x1000000)))
/-- JR.D (R101). -/
def execJrD (c : CpId) (d a b : Reg) (s : State) : Out :=
  .next (s.runInsn c (iJr 1 d a b) (fun s c => .delayed s (some ((s.g c a).toNat % 0x1000000))))
/-- CALLR (R93). -/
def execCallr (c : CpId) (d a b : Reg) (s : State) : Out :=
  .next (s.runInsn c (iJr 2 d a b) (fun s c => goto (s.link c 2 false) ((s.g c a).toNat % 0x1000000)))
/-- CALLR.D (R101). -/
def execCallrD (c : CpId) (d a b : Reg) (s : State) : Out :=
  .next (s.runInsn c (iJr 3 d a b) (fun s c => .delayed (s.link c 2 true) (some ((s.g c a).toNat % 0x1000000))))
/-- BBC (R93). -/
def execBbc (c : CpId) (bit disp : BitVec 10) (s : State) : Out :=
  .next (s.runInsn c (iBB 0x3C bit disp) (fun s c => branchBit s c bit.toNat false false (target (s.pc c) disp.toInt)))
/-- BBC.D (R101). -/
def execBbcD (c : CpId) (bit disp : BitVec 10) (s : State) : Out :=
  .next (s.runInsn c (iBB 0x3D bit disp) (fun s c => branchBit s c bit.toNat false true (target (s.pc c) disp.toInt)))
/-- BBS (R93). -/
def execBbs (c : CpId) (bit disp : BitVec 10) (s : State) : Out :=
  .next (s.runInsn c (iBB 0x3E bit disp) (fun s c => branchBit s c bit.toNat true false (target (s.pc c) disp.toInt)))
/-- BBS.D (R101). -/
def execBbsD (c : CpId) (bit disp : BitVec 10) (s : State) : Out :=
  .next (s.runInsn c (iBB 0x3F bit disp) (fun s c => branchBit s c bit.toNat true true (target (s.pc c) disp.toInt)))

/-- An extended branch on a bit: bit imm32[31:16], displacement imm32[15:0] (R95). -/
def branchX (want dly : Bool) (imm : BitVec 32) (s : State) (c : CpId) : Flow :=
  branchBit s c (imm.toNat / 65536) want dly (target (s.pc c) (imm.setWidth 16).toInt)

/-- BBCX (R95). -/
def execBbcx (c : CpId) (d a : Reg) (sub : BitVec 4) (imm : BitVec 32) (s : State) : Out :=
  .next (s.runInsn c (iXB 0x310 d a sub imm false []) (branchX false false imm))
/-- BBCX.D (R95). -/
def execBbcxD (c : CpId) (d a : Reg) (sub : BitVec 4) (imm : BitVec 32) (s : State) : Out :=
  .next (s.runInsn c (iXB 0x311 d a sub imm true []) (branchX false true imm))
/-- BBSX (R95). -/
def execBbsx (c : CpId) (d a : Reg) (sub : BitVec 4) (imm : BitVec 32) (s : State) : Out :=
  .next (s.runInsn c (iXB 0x312 d a sub imm false []) (branchX true false imm))
/-- BBSX.D (R95). -/
def execBbsxD (c : CpId) (d a : Reg) (sub : BitVec 4) (imm : BitVec 32) (s : State) : Out :=
  .next (s.runInsn c (iXB 0x313 d a sub imm true []) (branchX true true imm))

/-- JMPA: imm32[31:24] is 0 (R95). -/
def execJmpa (c : CpId) (d a : Reg) (sub : BitVec 4) (imm : BitVec 32) (s : State) : Out :=
  .next (s.runInsn c ((iXB 0x314 d a sub imm false []).zero (imm.toNat / 0x1000000)) (fun s _ => goto s (imm.toNat % 0x1000000)))
/-- CALLA: imm32[31:24] is 0 (R95). -/
def execCalla (c : CpId) (d a : Reg) (sub : BitVec 4) (imm : BitVec 32) (s : State) : Out :=
  .next (s.runInsn c ((iXB 0x315 d a sub imm false [15]).zero (imm.toNat / 0x1000000)) (fun s c =>
    goto (s.link c 4 false) (imm.toNat % 0x1000000)))

/-- TRAP: XINFO[7:0] := fn, XPC the next instruction (R93, R388). -/
def execTrap (c : CpId) (d a b : Reg) (fn : BitVec 8) (s : State) : Out :=
  .next (s.runInsn c (mkInsn 2 (enc2 0x36 (lowRRR d a b fn.toNat)) true false [] []) (fun s _ => .trap s cTrap (zextW fn) true))

/-- LOOP: LOOPCNT, LOOPBEG and LOOPEND; a count of 0 goes on after the instruction at LOOPEND (R102). A LOOPEND past parcel 0xFF_FFFF is
taken modulo 2^24 (log entry 14, DEDUCED). -/
def execLoop (c : CpId) (a : Reg) (len : BitVec 16) (s : State) : Out :=
  .next (s.runInsn c (mkInsn 2 (enc2 0x30 (a.val * 2 ^ 16 + len.toNat)) true false [a.val] []) (fun s c =>
    let beg := s.pc c + 2
    let fin := (beg + len.toNat) % 0x1000000
    let n := s.g c a
    let s' := s.modA c (fun x => { x with loopcnt := n, loopbeg := BitVec.ofNat 24 beg, loopend := BitVec.ofNat 24 fin })
    if n = 0 then goto s' (fin + (match s.parcel c fin with | some x => parcelLen x | none => 1)) else .next s'))

end Sys2Proof.Machine
end

