-- ==== Sys2Proof/Machine/CpMem.lean ====
section
/-! DEFINITION. Loads and stores of the CP (R83, R84, R93, R105, R121, R122, R157, R218). -/

namespace Sys2Proof.Machine

/-- The exact address of a MEM form: cursor plus offset times access size (R83). -/
def memAddr (k : Cap) (off : BitVec 12) (size : Nat) : Int := (k.cursor : Int) + off.toInt * size

/-- The first faulting byte of an access that fails a check (R124). -/
def faultByte (k : Cap) (addr : Int) (sub : Nat) : Nat :=
  if sub = 4 ∧ (k.base : Int) ≤ addr then (max addr k.top).toNat else (addr % 2 ^ 56).toNat

/-- CAP_FAULT of an access (R122, R124). -/
def capTrap (s : State) (r : Reg) (k : Cap) (addr : Int) (sub : Nat) : Flow :=
  .trap s cCap (capInfo (faultByte k addr sub) sub r.val) false

/-- The keys of the spans of an access, byte by byte. -/
def spanKeys (sp : List (Nat × Nat)) : List Nat := sp.flatMap (fun x => (List.range x.2).map (fun i => x.1 + i))

/-- Load n bytes through a K register and go on with them and the key of the first (R84, R122, R360). -/
def loadBytes (s : State) (c : CpId) (r : Reg) (addr : Int) (n align : Nat) (k : State → List Byte → Nat → Flow) : Flow :=
  let cap := s.k c r
  match cap.check [permR] addr n align with
  | some sub => capTrap s r cap addr sub
  | none =>
    let a := addr.toNat
    let q := s.spans (s.cpAccess c r.val cap false) a n
    match q.1 with
    | .fault code info => .trap q.2 code info false
    | .wait => .stall q.2 .page
    | .ok sp =>
      let l := q.2.loadSpans c a sp
      match l.1 with
      | .error e => .trap l.2 cPoison (poisonInfo e.1 e.2) false
      | .ok bs => k (l.2.watchAccess c false a n) bs ((spanKeys sp).getD 0 0)

/-- The capability that bytes and a tag give. -/
def capOfBytes (bs : List Byte) (tag : Bool) : Cap := ⟨BitVec.ofNat 128 (leNat bs), tag⟩

/-- Whether a capability's bounds meet the active quarantine set of a partition (R141, R142). -/
def Part.stale (x : Part) (k : Cap) : Bool := x.qActive.any (rangesMeet (k.base, k.top - k.base))

/-- A tag as LDK loads it: while a sweep epoch is open, a capability that meets the active set comes without its tag. -/
def State.filterTag (s : State) (c : CpId) (k : Cap) : Cap :=
  if s.rdB REV_STAT.OPEN && k.tag && (match s.cpPart c with | some p => (s.part p).stale k | none => false) then
    { k with tag := false }
  else k

/-- The data of a store by kind: its bytes, the tag of its first granule where it carries one, and the size (R93). -/
structure StoreData where
  bytes : List Byte
  tag : Option Bool
  size : Nat
  deriving DecidableEq, Repr

/-- A V register as bytes (R72). -/
def State.vBytes (s : State) (c : CpId) (v : Nat) : List Byte :=
  (List.range 8).flatMap (fun i => leBytes 8 ((s.cp c).a.f[8 * (v % 8) + i]!).toNat)

/-- A descriptor's bits [255:128] as a number (R156). -/
def DReg.high (d : DReg) : Nat :=
  d.offset.toNat + d.stride.toNat * 2 ^ 48 + d.etype.toNat * 2 ^ 96 + d.fields.toNat * 2 ^ 100 + b2n d.space * 2 ^ 102

/-- A descriptor from the number of its bits [255:128] and its capability; bits [255:231] are ignored (R157). -/
def dregOf (cap : Cap) (h : Nat) : DReg :=
  ⟨cap, BitVec.ofNat 48 h, BitVec.ofNat 48 (h / 2 ^ 48), BitVec.ofNat 4 (h / 2 ^ 96), BitVec.ofNat 2 (h / 2 ^ 100),
    h / 2 ^ 102 % 2 == 1, Err.zero⟩

/-- The size of a store kind. -/
def storeSize (kind : StoreKind) : Nat :=
  match kind with | .b => 1 | .h => 4 | .w => 8 | .f => 8 | .c => 8 | .k => 16 | .d => 32 | .v => 64

/-- What a store kind writes; none when its D register is poisoned (R360). -/
def State.storeData (s : State) (c : CpId) (kind : StoreKind) (r : Reg) : Option StoreData × State :=
  match kind with
  | .b => (some ⟨leBytes 1 (s.g c r).toNat, none, 1⟩, s)
  | .h => (some ⟨leBytes 4 (s.g c r).toNat, none, 4⟩, s)
  | .w => (some ⟨leBytes 8 (s.g c r).toNat, none, 8⟩, s)
  | .c => (some ⟨leBytes 8 (s.g c r).toNat, none, 8⟩, s)
  | .f => (some ⟨leBytes 8 (s.f c (f16 r)).toNat, none, 8⟩, s)
  | .v => (some ⟨s.vBytes c r.val, none, 64⟩, s)
  | .k => (some ⟨leBytes 16 (s.k c r).bits.toNat, some (s.k c r).tag, 16⟩, s)
  | .d =>
    match s.readD c r with
    | (some d, s) => (some ⟨leBytes 16 d.cap.bits.toNat ++ leBytes 16 d.high, some d.cap.tag, 32⟩, s)
    | (none, s) => (none, s)

/-- The capability whose GLOBAL a tagged store needs (R119). -/
def State.storedGlobal (s : State) (c : CpId) (kind : StoreKind) (r : Reg) : Bool :=
  match kind with | .k => (s.k c r).has permGlobal | .d => (s.d c r).cap.has permGlobal | _ => true

/-- The runs of bytes that a mask selects among the first n: where each starts, and its length. -/
def maskRuns (mask : Word) (n : Nat) : List (Nat × Nat) :=
  (List.range n).foldr (fun i (r : List (Nat × Nat)) =>
    if !bitOf mask i then r
    else match r with
      | (j, m) :: l => if j = i + 1 then (i, m + 1) :: l else (i, 1) :: (j, m) :: l
      | [] => [(i, 1)]) []

/-- The part of an access's spans that bytes [lo, lo + n) of it cover. -/
def cutSpans : List (Nat × Nat) → Nat → Nat → List (Nat × Nat)
  | [], _, _ => []
  | (key, m) :: l, lo, n =>
    let h := min m (lo + n) - lo
    (if lo < m then [(key + lo, h)] else []) ++ (if lo + n ≤ m then [] else cutSpans l (lo - m) (n - if lo < m then h else 0))

/-- Store the bytes of an access that a mask selects, each run of them as a store of its own: the others keep their values, tags and check
bytes (R121, R199, R355). -/
def State.storeMasked (s : State) (c : CpId) (a : Nat) (sp : List (Nat × Nat)) (bs : List Byte) (mask : Word) : State :=
  if mask = BitVec.allOnes 64 then s.storeSpans c a sp bs
  else (maskRuns mask bs.length).foldl (fun s r =>
    s.storeSpans c (a + r.1) (cutSpans sp r.1 r.2) ((bs.drop r.1).take r.2)) s

/-- A store of the CP, from its checks to its bytes in memory (R84, R105, R119, R121, R122, R157, R218, R518). -/
def doStore (kind : StoreKind) (r kr : Reg) (off : BitVec 12) (mask : Word) (s : State) (c : CpId) : Flow :=
  match s.storeData c kind r with
  | (none, s) => poisonD s r
  | (some data, s) =>
    let k := s.k c kr
    let addr := memAddr k off data.size
    let align := match kind with | .k => 16 | .d => 32 | _ => 0
    let tagged := data.tag == some true
    match k.check (if tagged then [permW, permStoreCap] else [permW]) addr data.size align with
    | some sub => capTrap s kr k addr sub
    | none =>
      let a := addr.toNat
      if tagged ∧ !s.storedGlobal c kind r then .trap s cCap (capInfo a 5 r.val) false
      else
        let s := s.modVq c VQueue.close
        if (s.cp c).vq.holdsStore a (a + data.size) then .stall s (.store kind r kr off mask)
        else
          let q := s.spans (s.cpAccess c kr.val k true) a data.size
          match q.1 with
          | .fault code info => .trap q.2 code info false
          | .wait => .stall q.2 .page
          | .ok sp =>
            let s := q.2
            let keys := spanKeys sp
            let held := (s.cp c).resv == some (keys.getD 0 0 / 64)
            if kind = .c ∧ !held then
              .next ((s.modCp c (fun p => { p with resv := none, a := p.a.setFlag flT false })).watchAccess c false a 8)
            else
              let cmp := s.compareWith State.bucket c 0 a
              if cmp.1 then .done cmp.2
              else
                let s := cmp.2.storeMasked c a sp data.bytes mask
                let s := match data.tag with
                  | some t => s.writeTag (keys.getD 0 0 / 16) t
                  | none => s
                let s := if kind = .c then s.modCp c (fun p => { p with resv := none, a := p.a.setFlag flT true }) else s
                .next (s.watchAccess c true a data.size)

/-- A load into a G register by size and extension. -/
def loadG (major size : Nat) (signed : Bool) (c : CpId) (d k : Reg) (off : BitVec 12) (s : State) : State :=
  s.runInsn c (iMem major d k off) (fun s c =>
    loadBytes s c k (memAddr (s.k c k) off size) size 0 (fun s bs _ =>
      let v := leNat bs
      .next (s.setG c d (if signed then BitVec.ofInt 64 (sextN (8 * size) v) else BitVec.ofNat 64 v))))

/-- LDB (R93). -/
def execLdb (c : CpId) (d k : Reg) (off : BitVec 12) (s : State) : Out := .next (loadG 0x18 1 false c d k off s)
/-- LDH (R93). -/
def execLdh (c : CpId) (d k : Reg) (off : BitVec 12) (s : State) : Out := .next (loadG 0x19 4 false c d k off s)
/-- LDHS (R93). -/
def execLdhs (c : CpId) (d k : Reg) (off : BitVec 12) (s : State) : Out := .next (loadG 0x1A 4 true c d k off s)
/-- LDW (R93). -/
def execLdw (c : CpId) (d k : Reg) (off : BitVec 12) (s : State) : Out := .next (loadG 0x1B 8 false c d k off s)
/-- STB (R93). -/
def execStb (c : CpId) (d k : Reg) (off : BitVec 12) (s : State) : Out :=
  .next (s.runInsn c (iMem 0x1C d k off) (doStore .b d k off (BitVec.allOnes 64)))
/-- STH (R93). -/
def execSth (c : CpId) (d k : Reg) (off : BitVec 12) (s : State) : Out :=
  .next (s.runInsn c (iMem 0x1D d k off) (doStore .h d k off (BitVec.allOnes 64)))
/-- STW (R93). -/
def execStw (c : CpId) (d k : Reg) (off : BitVec 12) (s : State) : Out :=
  .next (s.runInsn c (iMem 0x1E d k off) (doStore .w d k off (BitVec.allOnes 64)))
/-- LDF (R93). -/
def execLdf (c : CpId) (d k : Reg) (off : BitVec 12) (s : State) : Out :=
  .next (s.runInsn c (iMemF 0x1F d k off) (fun s c =>
    loadBytes s c k (memAddr (s.k c k) off 8) 8 0 (fun s bs _ => .next (s.setF c (f16 d) (BitVec.ofNat 64 (leNat bs))))))
/-- STF (R93). -/
def execStf (c : CpId) (d k : Reg) (off : BitVec 12) (s : State) : Out :=
  .next (s.runInsn c (iMemF 0x20 d k off) (doStore .f d k off (BitVec.allOnes 64)))

/-- LDK: the tag comes with the data; a tagged granule needs LOADCAP (R118, R121, R122, R142). -/
def execLdk (c : CpId) (d k : Reg) (off : BitVec 12) (s : State) : Out :=
  .next (s.runInsn c (iMemK 0x21 d k off) (fun s c =>
    let addr := memAddr (s.k c k) off 16
    loadBytes s c k addr 16 16 (fun s bs key =>
      let t := s.readTag (key / 16)
      if t.1 ∧ !(s.k c k).has permLoadCap then capTrap t.2 k (s.k c k) addr 3
      else .next (t.2.setK c d (t.2.filterTag c (capOfBytes bs t.1))))))

/-- STK (R121). -/
def execStk (c : CpId) (d k : Reg) (off : BitVec 12) (s : State) : Out :=
  .next (s.runInsn c (iMemK 0x22 d k off) (doStore .k d k off (BitVec.allOnes 64)))

/-- LDL: a load that sets a reservation on its aligned 64-byte granule (R105), that of the first byte where an unaligned one touches two
(log entry 112, DESIGN CHOICE). -/
def execLdl (c : CpId) (d k : Reg) (off : BitVec 12) (s : State) : Out :=
  .next (s.runInsn c (iMem 0x23 d k off) (fun s c =>
    loadBytes s c k (memAddr (s.k c k) off 8) 8 0 (fun s bs key =>
      .next ((s.setG c d (BitVec.ofNat 64 (leNat bs))).modCp c (fun p => { p with resv := some (key / 64) })))))

/-- STC: stores only when the reservation is held; T tells (R105). -/
def execStc (c : CpId) (d k : Reg) (off : BitVec 12) (s : State) : Out :=
  .next (s.runInsn c (iMem 0x24 d k off) (doStore .c d k off (BitVec.allOnes 64)))

/-- LDD: a descriptor of 32 bytes, its capability's tag under the LOADCAP rule (R157). -/
def execLdd (c : CpId) (d k : Reg) (off : BitVec 12) (s : State) : Out :=
  .next (s.runInsn c (iMemK 0x25 d k off) (fun s c =>
    let addr := memAddr (s.k c k) off 32
    loadBytes s c k addr 32 32 (fun s bs key =>
      let t := s.readTag (key / 16)
      if t.1 ∧ !(s.k c k).has permLoadCap then capTrap t.2 k (s.k c k) addr 3
      else .next (t.2.setD c d (dregOf (t.2.filterTag c (capOfBytes (bs.take 16) t.1)) (leNat (bs.drop 16)))))))

/-- STD (R157). -/
def execStd (c : CpId) (d k : Reg) (off : BitVec 12) (s : State) : Out :=
  .next (s.runInsn c (iMemK 0x26 d k off) (doStore .d d k off (BitVec.allOnes 64)))

/-- The facts of the instruction that a held store belongs to: only its length matters at its end. -/
def iHeld (len : Nat) : Insn := mkInsn len 0 false false [] []

/-- STORE_RELEASE: a store that waited for earlier vector work is written once no outstanding instruction meets its bytes
(R218). -/
def execStoreRelease (c0 : CpId) (s : State) : Out :=
  let c := s.lead c0
  match (s.cp c).stall, (s.cp c).run with
  | .store kind r k off mask, .running =>
    let len := if kind = .v then 4 else 2
    .next ((s.modCp c (fun p => { p with stall := .none })).finish c (iHeld len) (doStore kind r k off mask (s.modCp c (fun p => { p with stall := .none })) c))
  | _, _ => .next s

end Sys2Proof.Machine
end

