-- ==== Sys2Proof/Machine/CpCap.lean ====
section
/-! DEFINITION. The capability instructions (R94, R114 to R127) and the heap: CALLOC, CFREE, quarantine and sweep epochs (R138
to R143). -/

namespace Sys2Proof.Machine

/-! ### Operations on capabilities -/

/-- CAP_FAULT of an instruction that makes no access: the cursor, the subcode and the K register (R124). -/
def capOpTrap (s : State) (r : Reg) (k : Cap) (sub : Nat) : Flow := .trap s cCap (capInfo k.cursor sub r.val) false

/-- The tightest bounds of R117 for [cursor, cursor + len): E, base and top; the cursor lies in the block of the base. -/
def tightBounds (cursor len : Nat) : Option (Nat × Nat × Nat) :=
  (List.range 42).findSome? (fun e =>
    let base := cursor / 2 ^ e * 2 ^ e
    let top := (cursor + len + 2 ^ e - 1) / 2 ^ e * 2 ^ e
    if (top - base) / 2 ^ e ≤ 65535 ∧ top ≠ 0 ∧ base / 2 ^ (e + 16) = (top - 1) / 2 ^ (e + 16) then some (e, base, top) else none)

/-- A capability with the bounds that an exponent gives, its cursor and permissions kept but ALLOC, which stays only with
unchanged bounds (R117, R125). -/
def Cap.bound (k : Cap) (e base top : Nat) (tag : Bool) : Cap :=
  let same := decide (base = k.base) && decide (top = k.top)
  let perms := if same then k.perms.toNat else (setBitOf k.perms permAlloc false).toNat
  mkCap k.cursor perms k.otype e (base % 2 ^ (e + 16) / 2 ^ e) ((top - base) / 2 ^ e) tag

/-- A capability with other permissions. -/
def Cap.withPerms (k : Cap) (p : Nat) : Cap := mkCap k.cursor p k.otype k.e k.bm k.lm k.tag

/-- A capability with another object type and tag. -/
def Cap.withType (k : Cap) (t : Nat) (tag : Bool) : Cap := mkCap k.cursor k.perms.toNat t k.e k.bm k.lm tag

/-- The first object type of the hardware (R126). -/
def hwType : Nat := 0x3FFF0

/-- The checks of K[b] in KLOCK and KOPEN (R125): the subcode of the first that fails. -/
def Cap.sealCheck (k : Cap) (perm : Nat) : Option Nat :=
  if !k.tag then some 1
  else if k.otype ≠ 0 then some 2
  else if !k.has perm then some 3
  else if k.cursor < k.base ∨ k.top ≤ k.cursor ∨ hwType ≤ k.cursor then some 7
  else none

/-- KMOV (R125). -/
def execKmov (c : CpId) (d a b : Reg) (s : State) : Out :=
  .next (s.runInsn c (iCap 0x00 d a b []) (fun s c => .next (s.setK c d (s.k c a))))

/-- A modifying operation raises SEALED on a tagged sealed K[a] (R125). -/
def unlessSealed (s : State) (c : CpId) (a : Reg) (f : Cap → Flow) : Flow :=
  let k := s.k c a
  if k.tag ∧ k.otype ≠ 0 then capOpTrap s a k 2 else f k

/-- KADD: the cursor plus G[b], taken as signed (R116, R125). -/
def execKadd (c : CpId) (d a b : Reg) (s : State) : Out :=
  .next (s.runInsn c (iCap 0x01 d a b [b.val]) (fun s c =>
    unlessSealed s c a (fun k => .next (s.setK c d (k.move ((k.cursor : Int) + (s.g c b).toInt))))))

/-- KBND (R117). -/
def execKbnd (c : CpId) (d a b : Reg) (s : State) : Out :=
  .next (s.runInsn c (iCap 0x02 d a b [b.val]) (fun s c =>
    unlessSealed s c a (fun k =>
      match tightBounds k.cursor (s.g c b).toNat with
      | some (e, base, top) =>
        if k.tag ∧ (base < k.base ∨ k.top < top) then capOpTrap s a k 4
        else .next (s.setK c d (k.bound e base top k.tag))
      | none => if k.tag then capOpTrap s a k 4 else .next (s.setK c d { k with tag := false }))))

/-- KMASK (R125). -/
def execKmask (c : CpId) (d a b : Reg) (s : State) : Out :=
  .next (s.runInsn c (iCap 0x03 d a b [b.val]) (fun s c =>
    unlessSealed s c a (fun k => .next (s.setK c d (k.withPerms (k.perms &&& (s.g c b).setWidth 16).toNat)))))

/-- KLOCK: seals K[a] with the cursor of K[b] as object type (R125, R126). -/
def execKlock (c : CpId) (d a b : Reg) (s : State) : Out :=
  .next (s.runInsn c (iCap 0x04 d a b []) (fun s c =>
    unlessSealed s c a (fun k =>
      let kb := s.k c b
      match kb.sealCheck permSeal with
      | some sub => capOpTrap s b kb sub
      | none => .next (s.setK c d (k.withType kb.cursor k.tag)))))

/-- KOPEN: unseals K[a] with K[b] (R125, R126). -/
def execKopen (c : CpId) (d a b : Reg) (s : State) : Out :=
  .next (s.runInsn c (iCap 0x05 d a b []) (fun s c =>
    let k := s.k c a
    let kb := s.k c b
    match kb.sealCheck permUnseal with
    | some sub => capOpTrap s b kb sub
    | none =>
      if kb.cursor ≠ k.otype ∨ hwType ≤ k.otype then capOpTrap s b kb 7
      else
        let r := k.withType 0 k.tag
        .next (s.setK c d (if kb.has permGlobal then r else r.withPerms (setBitOf r.perms permGlobal false).toNat))))

/-- A read operation: G[d] takes a number of K[a], cut to 64 bits. -/
def readCap (fn : Nat) (f : Cap → Nat) (c : CpId) (d a b : Reg) (s : State) : State :=
  s.runInsn c (iCap fn d a b [d.val]) (fun s c => .next (s.setG c d (BitVec.ofNat 64 (f (s.k c a)))))

/-- KRDC (R125). -/
def execKrdc (c : CpId) (d a b : Reg) (s : State) : Out := .next (readCap 0x06 Cap.cursor c d a b s)
/-- KRDB (R125). -/
def execKrdb (c : CpId) (d a b : Reg) (s : State) : Out := .next (readCap 0x07 Cap.base c d a b s)
/-- KRDL (R125). -/
def execKrdl (c : CpId) (d a b : Reg) (s : State) : Out := .next (readCap 0x08 (fun k => k.top - k.base) c d a b s)
/-- KRDP (R125). -/
def execKrdp (c : CpId) (d a b : Reg) (s : State) : Out := .next (readCap 0x09 (fun k => k.perms.toNat) c d a b s)
/-- KRDT (R125). -/
def execKrdt (c : CpId) (d a b : Reg) (s : State) : Out := .next (readCap 0x0A Cap.otype c d a b s)
/-- KRDV (R125). -/
def execKrdv (c : CpId) (d a b : Reg) (s : State) : Out := .next (readCap 0x0B (fun k => b2n k.tag) c d a b s)

/-- KPCC: the program capability with its cursor at the KPCC (R125, R127). -/
def execKpcc (c : CpId) (d a b : Reg) (s : State) : Out :=
  .next (s.runInsn c (iCap 0x0E d a b []) (fun s c =>
    let x := (s.cp c).a
    .next (s.setK c d (x.pccAt x.pc.toNat))))

/-- KDROP (R125). -/
def execKdrop (c : CpId) (d a b : Reg) (s : State) : Out :=
  .next (s.runInsn c (iCap 0x0F d a b []) (fun s c => .next (s.setK c d { (s.k c a) with tag := false })))

/-! ### The heap (R138 to R143) -/

/-- HEAP_BASE and HEAP_TOP of a partition, in bytes (R153). -/
def State.heapWin (s : State) (p : PartId) : Nat × Nat := (s.rd (HEAP_BASE.ADDR p) * 65536, s.rd (HEAP_TOP.ADDR p) * 65536)

/-- The smallest exponent that represents a length exactly (R138). -/
def exactExp (n : Nat) : Option Nat :=
  match (List.range 42).find? (fun e => n / 2 ^ e ≤ 65535) with
  | some e => if n % 2 ^ e = 0 then some e else none
  | none => none

/-- The windows that no heap range meets: the scratchpad window (R339), and the program window (R82; log entry 102, DESIGN CHOICE). -/
def fixedWindows : List (Nat × Nat) := [(spadWin, 0x4000000), (progWin, 0x2000000)]

/-- The lowest start in [lo, hi) of a range of n bytes aligned to 2^e inside one block and outside the windows (R116, R138). -/
def heapFit (n e hi : Nat) : Nat → Nat → Option Nat
  | 0, _ => none
  | fuel + 1, lo =>
    let a := (lo + 2 ^ e - 1) / 2 ^ e * 2 ^ e
    if hi < a + n then none
    else if a / 2 ^ (e + 16) ≠ (a + n - 1) / 2 ^ (e + 16) then heapFit n e hi fuel ((a / 2 ^ (e + 16) + 1) * 2 ^ (e + 16))
    else match fixedWindows.find? (fun w => decide (a < w.1 + w.2) && decide (w.1 < a + n)) with
      | some w => heapFit n e hi fuel (w.1 + w.2)
      | none => some a

/-- Add a range to a list of ranges in rising order, merging what touches (R140). -/
def addRange (l : List (Nat × Nat)) (r : Nat × Nat) : List (Nat × Nat) :=
  let touch := l.filter (fun x => decide (x.1 ≤ r.1 + r.2) && decide (r.1 ≤ x.1 + x.2))
  let lo := touch.foldl (fun m x => min m x.1) r.1
  let hi := touch.foldl (fun m x => max m (x.1 + x.2)) (r.1 + r.2)
  let rest := l.filter (fun x => !(decide (x.1 ≤ r.1 + r.2) && decide (r.1 ≤ x.1 + x.2)))
  rest.filter (fun x => x.1 < lo) ++ [(lo, hi - lo)] ++ rest.filter (fun x => ¬ x.1 < lo)

/-- What a heap request finds: its start, and the heap after it is taken (R138). -/
def Part.heapTake (x : Part) (win : Nat × Nat) (n : Nat) : Option (Nat × Part) :=
  match exactExp n with
  | none => none
  | some e =>
    let cut (r : Nat × Nat) (a : Nat) : List (Nat × Nat) :=
      [(r.1, a - r.1), (a + n, r.1 + r.2 - (a + n))].filter (fun p => p.2 ≠ 0)
    let reuse := x.reuse.findSome? (fun r => (heapFit n e (min (r.1 + r.2) win.2) 8 (max r.1 win.1)).map (fun a => (r, a)))
    match reuse with
    | some (r, a) => some (a, { x with reuse := x.reuse.flatMap (fun q => if q = r then cut r a else [q]) })
    | none =>
      match heapFit n e win.2 8 (max x.bump win.1) with
      | some a =>
        some (a, { x with bump := a + n, reuse := if x.bump < a then x.reuse ++ [(x.bump, a - x.bump)] else x.reuse })
      | none => none

/-- A region as CALLOC returns it: exact bounds, the cursor at its base, permissions of the authority (R138). -/
def regionCap (base n perms : Nat) : Option Cap :=
  (exactExp n).map (fun e => mkCap base perms 0 e (base % 2 ^ (e + 16) / 2 ^ e) (n / 2 ^ e) true)

/-- CALLOC (R138). -/
def execCalloc (c : CpId) (d a b : Reg) (s : State) : Out :=
  .next (s.runInsn c (iCap 0x0C d a b [a.val]) (fun s c =>
    let kb := s.k c b
    let p := (s.cpPart c).getD 0
    let refuse : Flow :=
      let r := s.allocFail p 0 2 3
      match r.1 with
      | .fault code info => .trap r.2 code.toNat info false
      | _ => .next r.2
    if !kb.tag then capOpTrap s b kb 1
    else if kb.otype ≠ 0 then capOpTrap s b kb 2
    else if !kb.has permAlloc then capOpTrap s b kb 3
    else
      let g := (s.g c a).toNat
      let n := (g + 65535) / 65536 * 65536
      if g = 0 ∨ 2 ^ 40 < g then refuse
      else match (s.part p).heapTake (s.heapWin p) n with
        | none => refuse
        | some (base, x) =>
          if base < kb.base ∨ kb.top < base + n then capOpTrap s b kb 4
          else match regionCap base n kb.perms.toNat with
            | none => refuse
            | some k => .next (((s.modPart p (fun _ => x)).cnt (ALLOC_STAT.LIVE p) 1).setK c d k)))

/-! ### Freeing -/

/-- The granules of [lo, hi) under a leaf: first and count. -/
def leafGranules (lo hi va level : Nat) (e : Word) : Nat × Nat :=
  let first := va / leafSpan level * leafSpan level
  let a := max lo first
  let z := min hi (first + leafSpan level)
  (leafPa e level a / 65536, (z - a + 65535) / 65536)

/-- A range write of a quarantine set, which INJ_QSET may flip (R154). -/
def State.qsetWrite (s : State) (p : PartId) (base : Nat) : State :=
  let r := s.inject 0x0B (s.rd INJ_SEL.INST)
  let s1 := r.2.modPart p (fun x => { x with qErr := x.qErr.filter (fun e => e.1 ≠ base) })
  if r.1 then s1.modPart p (fun x => { x with qErr := (base, s.injMask) :: x.qErr }) else s1

/-- The ranges of a partition's quarantine sets are read under the grid code, as an epoch opens and closes: an error is corrected or
reported, and the range stays in its set (R347, R348; log entry 103, DESIGN CHOICE). -/
def State.qsetRead (s : State) (p : PartId) : State :=
  ((s.part p).qErr.foldl (fun s e =>
    let d := gridRead e.2 (List.range 8)
    if d.poison then (s.capture 1 p.val d.synd d.marking e.2.inj 0).bucket 1 1 else s.bucket 0 d.fixed) s).modPart p
      (fun x => { x with qErr := [] })

/-- A capability that meets a set of ranges loses its tag. -/
def Cap.purge (k : Cap) (set : List (Nat × Nat)) : Cap :=
  if k.tag && set.any (rangesMeet (k.base, k.top - k.base)) then { k with tag := false } else k

/-- Registers of the CPs of a partition filtered against its active set (R141, step 2). -/
def State.purgeRegs (s : State) (p : PartId) : State :=
  let set := (s.part p).qActive
  if set.isEmpty then s
  else (s.cpsOf p).foldl (fun s c => s.modA c (fun a => { a with
    k := a.k.map (·.purge set), d := a.d.map (fun x => { x with cap := x.cap.purge set }) })) s

/-- Whether the sweep pauses: shed level 1 and above, and SLEEP (R143). -/
def State.sweepPaused (s : State) : Bool := decide (1 ≤ s.shed) || s.rd PWR_SLEEP.STATE != 0

/-- The entries of the token table whose bounds meet the active sets are unbound (R462): VALID clears, GEN counts on. -/
def State.purgeTokens (s : State) : State :=
  { s with net := { s.net with tok := s.net.tok.map (fun (t : Nat × TokEnt) =>
      let set := match vecAt? s.parts t.2.part.val with | some x => x.qActive | none => []
      if t.2.valid && set.any (rangesMeet (t.2.base, t.2.top - t.2.base)) then
        (t.1, { t.2 with valid := false, gen := t.2.gen + 1 }) else t) } }

/-- Open a sweep epoch when a next set is non-empty and none is open (R141). -/
def State.openEpoch (s : State) : State :=
  if s.rdB REV_STAT.OPEN || (fins 16).all (fun p => (s.part p).qNext.isEmpty) then s
  else
    let s := ((s.wr REV_STAT.EPOCH (s.rd REV_STAT.EPOCH + 1)).wr REV_STAT.OPEN 1).wrB REV_STAT.PAUSED s.sweepPaused
    let s := (fins 16).foldl (fun s p => s.qsetRead p) s
    let s := { s with parts := s.parts.map (fun (x : Part) => { x with
      qActive := x.qNext, qNext := []
      slots := x.slots.map (fun (t : SlotImg) => { t with vq := { t.vq with preSweep := t.vq.entries.length } }) }) }
    let s := { s with cps := s.cps.map (fun (x : Cp) => { x with vq := { x.vq with preSweep := x.vq.entries.length } }) }
    ((fins 16).foldl (fun s p => s.purgeRegs p) s).purgeTokens

/-- CFREE of K[a] once nothing holds it (R139): leaves get Q, granules go back, the range joins the next set. -/
def State.cfree (s : State) (p : PartId) (lo hi : Nat) : State :=
  let ls := s.leavesIn p hi 0x1000000 lo
  let page := lo / 65536
  let n := (hi + 65535) / 65536 - page
  let s := s.shootdown p page n
  let gone := s.mst.migr.filter (fun x => x.part == p && decide (page ≤ x.page) && decide (x.page < page + n))
  let s := gone.foldl (fun s x => s.freeSpan x.dst 1) s
  let s := s.modM (fun m => { m with migr := m.migr.filter (fun x => !(x.part == p && decide (page ≤ x.page) && decide (x.page < page + n))) })
  let s := if gone.any (·.held) then s.wakePage p else s
  let s := ls.foldl (fun s l =>
    let g := leafGranules lo hi l.1 l.2.2.1 l.2.2.2
    let s := s.setPte l.2.1 (setBitOf (setBitOf l.2.2.2 13 false) 14 true)
    if bitOf l.2.2.2 15 then s else s.freeSpan g.1 g.2) s
  let s := (s.qsetWrite p lo).modPart p (fun x => { x with
    qNext := addRange x.qNext (lo, hi - lo)
    moveQ := x.moveQ.filter (fun g => !(decide (page ≤ g) && decide (g < page + n))) })
  let s := s.wr (ALLOC_STAT.LIVE p) (s.rd (ALLOC_STAT.LIVE p) - 1)
  s.openEpoch

/-- Whether the next set of a partition is full (R140). -/
def Part.qFull (x : Part) : Bool := decide (4096 ≤ x.qNext.length)

/-- CFREE from its checks on; it waits for vector work and for room in the next set (R139, R140). -/
def doCfree (a : Reg) (s : State) (c : CpId) : Flow :=
  let k := s.k c a
  let p := (s.cpPart c).getD 0
  let win := s.heapWin p
  if !k.tag then capOpTrap s a k 1
  else if k.otype ≠ 0 then capOpTrap s a k 2
  else if !k.has permAlloc then capOpTrap s a k 3
  else if k.base < win.1 ∨ win.2 < k.top ∨ (s.part p).inQuarantine (k.base, k.top - k.base) then capOpTrap s a k 8
  else
    let s := s.modVq c VQueue.close
    if (s.cp c).vq.pend then .done (s.deliverVector c (s.cp c).a.pc.toNat)
    else if !(s.cp c).vq.entries.isEmpty then .stall s (.cfree a)
    else if (s.part p).qFull then .stall s (.cfree a)
    else
      let s := s.cfree p k.base k.top
      .next (s.setK c a { (s.k c a) with tag := false })

/-- CFREE (R139). -/
def execCfree (c : CpId) (d a b : Reg) (s : State) : Out := .next (s.runInsn c (iCap 0x0D d a b []) (doCfree a))

/-- CFREE_RESUME: a CFREE that waits is tried again, and completes once its vector work is done and the next set has room
(R139, R140). -/
def execCfreeResume (c0 : CpId) (s : State) : Out :=
  let c := s.lead c0
  match (s.cp c).stall, (s.cp c).run with
  | .cfree a, .running =>
    let s := s.modCp c (fun p => { p with stall := .none })
    .next (s.finish c (iHeld 2) (doCfree a s c))
  | _, _ => .next s

end Sys2Proof.Machine
end

