-- ==== Sys2Proof/Machine/CpCtl.lean ====
section
/-! DEFINITION. The control registers of a CP (R74 to R76, R244, R385, R386), synchronisation (R105 to R110), RETX (R394),
interrupts (R399 to R402), timers (R87), the CP watchdog (R403, R404), and release from reset (R78, R405). -/

namespace Sys2Proof.Machine

/-! ### Load Advance: announcements (R495 to R497) -/

/-- PIPE_A of a quadrant in mA: the fused base scaled by voltage, target clock and GAIN (R494). -/
def State.pipeMa (s : State) (q : QuadId) : Nat :=
  s.rd (EST.PIPE_MA q) * s.rd (LA_STAT.VSET_MV q) * s.pwr.target[q.val] * s.rd (EST.GAIN q) / (750 * 80 * 4096)

/-- The code of a step in mA (R495). -/
def laCode (ma : Nat) : Nat := min 7 ((ma + 49999) / 50000)

/-- The pacing rate of a quadrant (R497). -/
def State.laRate (s : State) (q : QuadId) : Nat :=
  if s.rdB (LA_STAT.DRV_OFF q) ∨ !s.rdB (VR_ID.VALID q) then 50
  else if s.rd (LA_CFG.DIDT_REQ q) = 0 then s.rd (VR_ID.DIDT_MAX q)
  else min (s.rd (VR_ID.DIDT_MAX q)) (s.rd (LA_CFG.DIDT_REQ q))

/-- A rate comes into use: DIDT_LIMITED sets where it differs from the rate that the quadrant's CLOCK record selects (R49). -/
def State.useRate (s : State) (q : QuadId) (rate : Nat) : State :=
  let s := s.wr (LA_STAT.DIDT_USED q) rate
  let wants : Option (Option Nat) := (vecAt? s.pwr.didtSel q.val).getD none |>.map (fun d =>
    if d ≠ 0 then some d else if s.rdB (VR_ID.VALID q) then some (s.rd (VR_ID.DIDT_MAX q)) else none)
  if wants.any (fun w => w != some rate) then s.wr STRUCT_FLAGS.DIDT_LIMITED 1 else s

/-- Change the Load Advance state of a quadrant. -/
def State.modLa (s : State) (q : QuadId) (f : LaSt → LaSt) : State := { s with pwr := { s.pwr with la := vecUpd s.pwr.la q f } }

/-- Announce pipes to be lit in a quadrant: a new announcement, a raised code within the lead, or a wait for the next one
(R239, R240, R496). -/
def State.announce (s : State) (q : QuadId) (pipes : List Nat) : State :=
  let la := s.pwr.la[q.val]
  let new := pipes.filter (fun n => !la.pipes.contains n && !la.wait.contains n)
  if new.isEmpty then s
  else if s.rdB (LA_STAT.RAMP q) ∨ la.hold0 then s.modLa q (fun l => { l with wait := l.wait ++ new })
  else
    let step := la.step + new.length * s.pipeMa q
    let s := s.modLa q (fun l => { l with pipes := l.pipes ++ new, step := step })
    let s := if s.rdB (LA_STAT.DRV_OFF q) then s else s.wr (LA_STAT.CODE q) (laCode step)
    if s.rdB (LA_STAT.LEAD q) then s
    else (s.wr (LA_STAT.LEAD q) 1).useRate q (s.laRate q)

/-- Ask Load Advance to light pipes, quadrant by quadrant (R239). -/
def State.light (s : State) (pipes : List Nat) : State :=
  (fins 4).foldl (fun s (q : QuadId) => s.announce q (pipes.filter (fun n => n / 16 == q.val))) s

/-- The pipes of a partition with DET are announced as a CP is released, so that they are lit before a strip waits for one (R239, R620). -/
def State.lightDet (s : State) (p : PartId) : State :=
  let x := s.part p
  if x.rcd.any (·.det) then
    s.light ((List.range 64).filter (fun n => x.hasCl (n / 4) && !bitOf x.lit n && decide (n % 4 < 2 ∨ s.shed < 4)))
  else s

/-! ### Release from reset -/

/-- The root data capability K0 (R127). -/
def rootData (r : PartRec) : Cap :=
  let p := 1 + 2 + 8 + 16 + 128 + 8192 + 4096 + 512 * b2n r.rootTr + 1024 * b2n r.rootPn + 2048 * b2n r.rootCt
  mkCap 0 p 0 41 0 0x8000 true

/-- The root sealing capability K1. -/
def rootSeal : Cap := mkCap 0 (32 + 64 + 128) 0 4 0 0x3FFF true

/-- The capability K2 of the program window. -/
def rootProg (r : PartRec) : Cap := mkCap progWin (1 + 2 + 128 + 4096) 0 9 0 (r.progMib.toNat * 2048) true

/-- The program capability at release. -/
def rootPcc : Cap := mkCap 0 (4 + 256) 0 9 0 0x8000 true

/-- The registers of a CP at its release (R78, R75, R387, R405). -/
def CpArch.release (r : PartRec) : CpArch :=
  let m : BitVec 7 := BitVec.ofNat 7 (0x78 + b2n r.ct + 4 * b2n r.det)
  { CpArch.reset with
    k := ((CpArch.reset.k.set 0 (rootData r)).set 1 rootSeal).set 2 (rootProg r)
    pcc := rootPcc, entryCap := rootPcc, mode := m, modeOn := m, pc := r.entry.setWidth 25 }

/-- The bytes of Program RAM that a release copies (R78). -/
def pramBytes : Nat := 114688

/-- Offset in a partition's program region of a key, none outside the part that Program RAM takes. -/
def Part.progOff (x : Part) (key : Nat) : Option Nat :=
  match (x.prog.take 2).findIdx? (fun g => g == key / 65536) with
  | some i => let b := i * 65536 + key % 65536; if b < pramBytes then some b else none
  | none => none

/-- The first key of a CP's Program RAM. -/
def pramKey (c : CpId) : Nat := pramBase + c.val * 0x20000

/-- A word of a CP's Program RAM: none when it is uncorrectable. -/
def State.pramRead (s : State) (c : CpId) (i : Nat) : Option Word × State :=
  let key := pramKey c + 8 * i
  let r := s.readGrid (key / 8) (List.range 7)
  (if r.1 then none else some (BitVec.ofNat 64 (leNat (r.2.bytesAt key 7))), r.2)

/-- Store a word of a CP's Program RAM; the prefetch queue keeps what it holds (R81, R110). -/
def State.pramStore (s : State) (c : CpId) (i : Nat) (w : BitVec 56) : State := s.writeRange (pramKey c + 8 * i) (leBytes 7 w.toNat)

/-- Copy the start of the program region into Program RAM (R78): it is read under its code, and what is poisoned there is
poisoned in Program RAM (R360). -/
def State.loadPram (s : State) (c : CpId) (p : PartId) : State :=
  let x := s.part p
  let lo := pramKey c
  let inRam (k : Nat) : Bool := decide (lo ≤ k) && decide (k < lo + 0x20000)
  let s := { s with
    mem := s.mem.filter (fun e => !inRam e.1)
    errs := s.errs.filter (fun e => !inRam (8 * e.1)) }
  let units := (s.errs.filterMap (fun e => if (x.progOff (8 * e.1)).isSome then some (8 * e.1 / 32 * 32) else none)).dedup
  let r := units.foldl (fun (r : List Nat × State) u => let q := r.2.readUnit u u (u + 32); (if q.1 then r.1 ++ [u] else r.1, q.2)) ([], s)
  let s := r.2
  let s := { s with mem := (s.mem.filter (fun e => decide (e.1 < celBase))).foldl (fun m e =>
    match x.progOff e.1 with | some b => mapPut memDefault m (lo + 8 * (b / 7) + b % 7) e.2 | none => m) s.mem }
  r.1.foldl (fun s u => (List.range 32).foldl (fun s i =>
    match x.progOff (u + i) with | some b => s.poisonUnit (lo + 8 * (b / 7)) | none => s) s) s

/-- Release a CP of a partition from reset (R78, R397, R405, R604): its registers, its Program RAM, and the latches that
held events for it (R431). -/
def State.releaseCp (s : State) (c0 : CpId) : State :=
  let c := s.lead c0
  match s.cpPart c, s.cpRec c with
  | some p, some r =>
    if (s.cp c).hard then s
    else
      let s := (s.ensureRoot p).loadPram c p
      let s := s.modCp c (fun o =>
        let a := CpArch.release r
        { Cp.reset with
          a := a, run := .running, lcause := o.lcause, lcode := o.lcode, wdgReset := o.wdgReset
          wdg := { Wdg.reset with expired := o.wdg.expired }
          ckpt := some a })
      let s := (s.latchesOfCp c).lightDet p
      if s.rdB (DBG_CPCTL.CATCH c) && s.haltable c then s.haltCp c 5 0 false else s.holdSync
  | _, _ => s

/-- Hold a CP in reset (R65, R397): its vector queue is dropped and a debug halt ends. -/
def State.holdCp (s : State) (c0 : CpId) : State :=
  let c := s.lead c0
  (s.modCp c (fun o =>
    { Cp.reset with
      run := .inReset, lcause := o.lcause, lcode := o.lcode, wdgReset := o.wdgReset, hard := o.hard
      wdg := { Wdg.reset with expired := o.wdg.expired } })).holdSync

/-- CP_RESET: the command RESET of CP_CTL restarts the CP under R78 (R397); a CP held in reset stays held. -/
def execCpReset (c : CpId) (s : State) : Out :=
  .next (if (s.cp (s.lead c)).run = .inReset then s else s.releaseCp c)

/-- CP_DOORBELL: each 1 sets pending bit 12 + j (R397). -/
def State.doorbell (s : State) (c : CpId) (ring : BitVec 4) : State :=
  (List.range 4).foldl (fun s j => if bitOf ring j then s.irq c (12 + j) else s) s

/-- CP_DOORBELL (R397). -/
def execCpDoorbell (c : CpId) (ring : BitVec 4) (s : State) : Out := .next (s.doorbell c ring)

/-! ### Control registers -/

/-- The oldest group of a queue (R206, R207). -/
def VQueue.group (q : VQueue) : List VEntry :=
  match q.entries with
  | [] => []
  | e :: l => e :: l.takeWhile (fun x => x.joins)

/-- Whether the shed level holds the queue of a CP: level 5, or level 4 in a Shadow partition that may not run unshadowed
(R226, R529). -/
def State.shedHolds (s : State) (c : CpId) : Bool :=
  decide (5 ≤ s.shed) || s.pair.fenced || s.pair.divergent || (decide (4 ≤ s.shed) && (match s.cpPart c, s.cpRec c with
    | some p, some r => r.shadow && !bitOf s.pwr.unshadow p.val
    | _, _ => false))

/-- Whether a debug freeze holds the queue of a CP, as STOP does: until the CP is released, or a command ends the hold (R236, R241,
R606). -/
def State.dbgHolds (s : State) (c : CpId) : Bool :=
  (s.cp c).inDebug && bitOf (s.reg (DBG_FREEZE.adr c)) 0 && !(s.cp c).vq.thaw

/-- VSTAT (R231). -/
def State.vstat (s : State) (c : CpId) : Word :=
  let q := (s.cp c).vq
  BitVec.ofNat 64 (b2n q.busy + 2 * b2n q.flt + 4 * b2n q.pend + 8 * b2n (s.shedHolds c) + 16 * b2n (q.stop || s.dbgHolds c) +
    32 * b2n q.isOpen + 256 * q.entries.length + 2 ^ 16 * q.member.toNat + 2 ^ 20 * q.fcause.toNat +
    2 ^ 28 * q.group.length + 2 ^ 32 * q.fpc.toNat)

/-- The number of a CP's partition, 0 where it has none. -/
def State.ptOf (s : State) (c : CpId) : Nat := match s.cpPart c with | some p => p.val | none => 0

/-- The control registers that R74 marks SYSTEM. -/
def crSystem (n : Nat) : Bool := decide (1 ≤ n ∧ n ≤ 6)

/-- The control registers that R74 lists. -/
def crListed (n : Nat) : Bool :=
  decide (n ≤ 6) || (decide (8 ≤ n) && decide (n ≤ 0xC)) || (decide (0x10 ≤ n) && decide (n ≤ 0x13)) ||
    (decide (0x18 ≤ n) && decide (n ≤ 0x1B))

/-- MODE as it reads: DUAL, ICE, DCE and BPE read 0 while DET is 1 (R75). -/
def modeRead (m : BitVec 7) : BitVec 7 := if bitOf m 2 then m &&& 7 else m

/-- Whether the vector queue of a CP is frozen or held (R230). -/
def State.vqHeld (s : State) (c : CpId) : Bool := 
  (s.cp c).vq.flt || (s.cp c).vq.stop || s.dbgHolds c || s.shedHolds c

/-- What MOVCR reads (R74). -/
def State.crRead (s : State) (c : CpId) (n : Nat) : Word :=
  let p := s.cp c
  let a := p.a
  if n = 0 then (modeRead a.mode).setWidth 64
  else if n = 1 then a.xvec.setWidth 64
  else if n = 2 then a.xcause
  else if n = 3 then a.xpc.setWidth 64
  else if n = 4 then a.xinfo
  else if n = 5 then a.xframe.setWidth 64
  else if n = 6 then a.xmask.setWidth 64
  else if n = 8 then a.vl.setWidth 64
  else if n = 9 then p.vq.lo.setWidth 64
  else if n = 0xA then p.vq.map
  else if n = 0xB then s.vstat c
  else if n = 0xC then a.fpstat.setWidth 64
  else if n = 0x10 then a.ncy.setWidth 64
  else if n = 0x11 then a.loopcnt
  else if n = 0x12 then a.loopbeg.setWidth 64
  else if n = 0x13 then a.loopend.setWidth 64
  else if n = 0x19 then
    BitVec.ofNat 64 (c.val + 256 * (clOf c).val + 2 ^ 16 * s.ptOf c + 2 ^ 24 * b2n (s.lockstepCl (clOf c)))
  else if n = 0x1A then p.cycle
  else if n = 0x1B then p.instret
  else 0

/-- What a write of a control register does, with or without SYSTEM (R74 to R76, R229, R230, R244, R245, R385, R386). -/
def State.crWrite (s : State) (c : CpId) (sys : Bool) (n : Nat) (v : Word) : State :=
  if n = 9 then
    if s.vqHeld c then s.modVq c (fun q => match q.entries with
      | [] => q
      | e :: _ => { q with lo := BitVec.ofNat 40 (min (v.toNat % 2 ^ 40 / 1024 * 1024) e.vl.toNat) })
    else s
  else if n = 0xA then
    if s.vqHeld c then s.modVq c (fun q => if q.entries.isEmpty then q else { q with map := v }) else s
  else s.modA c (fun a =>
    if n = 0 then { a with mode := if sys then v.setWidth 7 else (a.mode &&& 0x7C) ||| (v.setWidth 7 &&& 3) }
    else if n = 1 then { a with xvec := v.setWidth 24, xvecPend := true }
    else if n = 2 then { a with xcause := v &&& 0xFF000007FF }
    else if n = 3 then { a with xpc := v.setWidth 24 }
    else if n = 4 then { a with xinfo := v }
    else if n = 5 then { a with xframe := v.setWidth 5 }
    else if n = 6 then { a with xmask := v.setWidth 3 }
    else if n = 8 then { a with vl := v.setWidth 40 }
    else if n = 0xC then
      let w : BitVec 16 := v.setWidth 16 &&& 0x1F1F
      { a with fpstat := if 5 ≤ nbits v.toNat 0 3 then (w &&& 0x1F18) ||| (a.fpstat &&& 7) else w }
    else if n = 0x10 then { a with ncy := v.setWidth 16 }
    else if n = 0x11 then { a with loopcnt := v }
    else if n = 0x12 then { a with loopbeg := v.setWidth 24 }
    else if n = 0x13 then { a with loopend := v.setWidth 24 }
    else if n = 0x18 then { a with iinv := bitOf v 0, dinv := bitOf v 1 }
    else a)

/-- The facts of MOVC and MOVCR: bits [7:0] are zero, and a number that R74 does not list is ILLEGAL (R92, R112). -/
def iCr (major : Nat) (g : Reg) (num low : BitVec 8) : Insn :=
  { (iCreg major g num low).zero low.toNat with ill := !crListed num.toNat }

/-- MOVC and MOVCR of a register that needs SYSTEM (R74, R389). -/
def crAccess (num : BitVec 8) (s : State) (c : CpId) (f : Flow) : Flow :=
  if crSystem num.toNat && !(s.cp c).a.sys then .trap s cSystem (BitVec.ofNat 64 (num.toNat + 2 ^ 32)) false
  else f

/-- MOVC (R74). -/
def execMovc (c : CpId) (g : Reg) (num low : BitVec 8) (s : State) : Out :=
  .next (s.runInsn c (iCr 0x29 g num low) (fun s c => crAccess num s c (.next (s.crWrite c (s.cp c).a.sys num.toNat (s.g c g)))))

/-- MOVCR; a read of VSTAT closes an open group and delivers a fault that awaits delivery (R208, R233). -/
def execMovcr (c : CpId) (g : Reg) (num low : BitVec 8) (s : State) : Out :=
  .next (s.runInsn c (iCr 0x2A g num low) (fun s c => crAccess num s c (
    if num = 0x0B then
      let s := s.modVq c VQueue.close
      if (s.cp c).vq.pend then .done (s.deliverVector c (s.cp c).a.pc.toNat) else .next (s.setG c g (s.vstat c))
    else .next (s.setG c g (s.crRead c num.toNat)))))

/-! ### Synchronisation -/

/-- SYNCC: pending writes take effect; a vector fault that awaits delivery becomes an interrupt when VFI is now 1 (R107, R235). -/
def execSyncc (c : CpId) (s : State) : Out :=
  .next (s.runInsn c (iCtl 0x01 false) (fun s c =>
    let s := s.modCp c Cp.sync
    .next (if (s.cp c).a.vfi && (s.cp c).vq.pend then s.irq c 8 else s)))

/-- VSYNC once nothing is outstanding: lines inside the destinations of the work it covers leave the data cache (R77). -/
def Cp.vsynced (p : Cp) : Cp :=
  { p with vext := [], dcache := p.dcache.filter (fun l => !p.vext.any (fun e => rangesMeet (64 * l.line, 64) e)) }

/-- VSYNC (R108, R233). -/
def doVsync (s : State) (c : CpId) : Flow :=
  let s := s.modVq c VQueue.close
  if (s.cp c).vq.pend then .done (s.deliverVector c (s.cp c).a.pc.toNat)
  else if !(s.cp c).vq.entries.isEmpty then .stall s .vsync
  else .next (s.modCp c Cp.vsynced)

/-- VSYNC (R108). -/
def execVsync (c : CpId) (s : State) : Out := .next (s.runInsn c (iCtl 0x02 false) doVsync)

/-- VSYNC_COMPLETE: a VSYNC that waits completes once the queue is empty, or raises VECTOR when a fault awaits delivery (R108). -/
def execVsyncComplete (c0 : CpId) (s : State) : Out :=
  let c := s.lead c0
  match (s.cp c).stall, (s.cp c).run with
  | .vsync, .running =>
    let s := s.modCp c (fun p => { p with stall := .none })
    .next (s.finish c (iHeld 1) (doVsync s c))
  | _, _ => .next s

/-- CP_WAIT_ON_VECTOR_END: an instruction that waits for a register or bit of vector work goes on, or raises VECTOR when a
fault awaits delivery (R162, R203). -/
def execCpWaitOnVectorEnd (c0 : CpId) (s : State) : Out :=
  let c := s.lead c0
  match (s.cp c).stall, (s.cp c).run with
  | .vector, .running =>
    let s := s.modCp c (fun p => { p with stall := .none })
    .next (if (s.cp c).vq.pend then (s.deliverVector c (s.cp c).a.pc.toNat).boundary c else s)
  | _, _ => .next s

/-- An instruction completes, and a CP checkpoint that includes its effect is taken (R519). -/
def nextSaved (s : State) (c : CpId) (len : Nat) : Flow :=
  if s.lockstepCl (clOf c) then
    let r := s.compareWith State.bucket c 5 (s.cp c).a.pc.toNat
    if r.1 then .done r.2 else .done ((r.2.retire c len none).lstepSave c)
  else .next s

/-- CHKPT: a CP checkpoint in Lockstep, and nothing in Split (R519, R524). -/
def execChkpt (c : CpId) (s : State) : Out := .next (s.runInsn c (iCtl 0x04 false) (fun s c => nextSaved s c 1))

/-- Whether an enabled interrupt is pending, whatever its priority (R402). -/
def Cp.anyIrq (p : Cp) : Bool := (p.pendBits &&& p.enabBits) != 0

/-- WAIT: issue stops after it until any enabled interrupt is pending (R402). -/
def execWait (c : CpId) (s : State) : Out :=
  .next (s.runInsn c (iCtl 0x05 false) (fun s c =>
    let s := s.retire c 1 none
    if (s.cp c).anyIrq || (s.cp c).run != .running then .done s else .done (s.modCp c (fun p => { p with stall := .wait }))))

/-- WAIT_END: an enabled interrupt is pending; an acceptable one is taken, or execution goes on after the WAIT (R402). -/
def execWaitEnd (c0 : CpId) (s : State) : Out :=
  let c := s.lead c0
  if (s.cp c).stall = .wait ∧ (s.cp c).run = .running ∧ (s.cp c).anyIrq then
    let s := s.modCp c (fun p => { p with stall := .none })
    match s.irqBefore c with
    | some (n, q) => .next ((s.accept c n q (s.cp c).a.pc.toNat).boundary c)
    | none => .next s
  else .next s

/-- LOCK: a window of n instructions without interrupts; inside a window it raises ILLEGAL (R106). -/
def execLock (c : CpId) (n : Fin 4) (s : State) : Out :=
  let i := iCtl (0x10 + n.val) true
  .next (s.runInsn c i (fun s c =>
    if (s.cp c).lock ≠ 0 then illegal s i else .next (s.modCp c (fun p => { p with lock := n.val + 2 }))))

/-- LOCK_WINDOW_TIMEOUT: a window ends 256 VCLK cycles after its LOCK (R106). -/
def execLockWindowTimeout (c0 : CpId) (s : State) : Out :=
  let c := s.lead c0
  .next ((s.modCp c (fun p => { p with lock := 0 })).boundary c)

/-! ### Return (R394) -/

/-- The registers that a frame restores: from its bytes, offset 0 first. -/
def CpArch.restore (a : CpArch) (bs : List Byte) : CpArch :=
  let w (o : Nat) : Nat := leNat ((bs.drop o).take 8)
  { a with
    xpc := BitVec.ofNat 24 (w 0x20)
    xcause := BitVec.ofNat 64 (w 0x28) &&& 0xFF000007FF
    xinfo := BitVec.ofNat 64 (w 0x30)
    xmask := BitVec.ofNat 3 (w 0x38)
    loopcnt := BitVec.ofNat 64 (w 0x40)
    loopbeg := BitVec.ofNat 24 (w 0x48)
    loopend := BitVec.ofNat 24 (w 0x48 / 2 ^ 32)
    flags := BitVec.ofNat 8 (w 0x50)
    ncy := BitVec.ofNat 16 (w 0x58)
    g := (a.g.set 14 (BitVec.ofNat 64 (w 0x60))).set 15 (BitVec.ofNat 64 (w 0x68)) }

/-- RETURN_AUTH with its subcode (R388, R394). -/
def returnAuth (s : State) (sub f : Nat) : Flow := .trap s cReturn (BitVec.ofNat 64 (sub + f % 2 ^ 56 * 16)) false

/-- The check of a saved program capability against the one in force (R394): its subcode. -/
def pccCheck (p cur : Cap) : Option Nat :=
  if !p.tag ∨ p.otype ≠ 0 ∨ !p.has permX then some 3
  else if p.base < cur.base ∨ cur.top < p.top ∨ p.perms &&& ~~~cur.perms ≠ 0 then some 4
  else none

/-- RETX from its checks on (R394, R518). -/
def doRetx (s : State) (c : CpId) : Flow :=
  let a := (s.cp c).a
  let fk := frameReg a
  let k := a.k[fk.val]
  let f := k.cursor
  if !bitOf a.xframeOn 4 ∨ !k.tag ∨ k.otype ≠ 0 ∨ !k.has permR ∨ !k.has permW ∨ !k.has permLoadCap ∨ f < k.base ∨
      k.top < f + 128 then returnAuth s 1 f
  else
    let q := s.spans (s.cpAccess c fk.val k false) f 128
    match q.1 with
    | .fault _ _ => returnAuth q.2 5 f
    | .wait => .stall q.2 .page
    | .ok sp =>
      let l := q.2.loadSpans c f sp
      match l.1 with
      | .error _ => returnAuth l.2 5 f
      | .ok bs =>
        let keys := spanKeys sp
        let t0 := if f % 16 = 0 then l.2.readTag (keys.getD 0 0 / 16) else (false, l.2)
        let t1 := if f % 16 = 0 then t0.2.readTag (keys.getD 16 0 / 16) else (false, t0.2)
        let s := t1.2
        let sw := capOfBytes (bs.take 16) t0.1
        let p := s.filterTag c (capOfBytes ((bs.drop 16).take 16) t1.1)
        if !sw.tag ∨ sw.otype ≠ 0x3FFFF ∨ sw.base ≠ f ∨ sw.top ≠ f + 128 then returnAuth s 2 f
        else match pccCheck p a.pcc with
          | some sub => returnAuth s sub f
          | none =>
            let w := s.spans (s.cpAccess c fk.val k true) f 16
            match w.1 with
            | .fault _ _ => returnAuth w.2 5 f
            | .wait => .stall w.2 .page
            | .ok _ =>
              let cmp := w.2.compareWith State.bucket c 4 a.xpc.toNat
              if cmp.1 then .done cmp.2
              else
                let s := cmp.2.undoLog c sp
                let s := (s.writeTag (keys.getD 0 0 / 16) false).dropResv (keys.getD 0 0) 16
                let s := s.modA c (fun a =>
                  let r := a.restore bs
                  { r with pcc := p, k := vecUpd r.k fk (fun k => k.at (f + 128)) })
                .jump s a.xpc.toNat

/-- RETX (R394). -/
def execRetx (c : CpId) (s : State) : Out := .next (s.runInsn c { iCtl 0x03 true with gs := [14, 15] } doRetx)

/-! ### Interrupts and timers -/

/-- Whether a stalled CP can take an interrupt: at any wait but that of an IN for its response (R85, R108, R140, R148, R402). -/
def Stall.takesIrq (w : Stall) : Bool := match w with | .inPort .. => false | _ => true

/-- INTERRUPT_ACCEPT: the acceptable interrupt of highest priority is taken at a boundary (R400); a waiting instruction
executes again after the return, a WAIT does not. -/
def execInterruptAccept (c0 : CpId) (s : State) : Out :=
  let c := s.lead c0
  if s.cpsGo ∧ (s.cp c).run = .running ∧ (s.cp c).stall.takesIrq then
    match s.irqBefore c with
    | some (n, q) => .next ((s.accept c n q (s.cp c).a.pc.toNat).boundary c)
    | none => .next s
  else .next s

/-- ENTRY_TAKEOVER: an interrupt entry in its first 9 cycles is taken over by a higher interrupt; no second frame is written,
and the pending bit of the first stays set (R393). -/
def execEntryTakeover (c0 : CpId) (s : State) : Out :=
  let c := s.lead c0
  let p := s.cp c
  match p.entryWin, p.topIrq p.a.xmask.toNat with
  | some w, some (n, q) =>
    let vec := n = 8 ∧ p.a.vfi ∧ p.vq.pend
    let wasVec := nbits p.a.xcause.toNat 0 8 = cVector
    .next (s.modCp c (fun p => { p with
      a := { p.a with
        xcause := xcauseOf (if vec then cVector else cInterrupt) true false false n
        xinfo := if vec then p.vq.finfo else 0
        xmask := BitVec.ofNat 3 q }
      vq := { p.vq with pend := if vec then false else p.vq.pend || wasVec }
      pendBits := setBitOf (setBitOf p.pendBits w.irq.toNat true) n false
      taken := BitVec.ofNat 8 n :: p.taken.erase w.irq
      entryWin := some ⟨BitVec.ofNat 8 n⟩ }))
  | _, _ => .next s

/-- A timer matches: HIT, its line, its interrupt, and the count cycle passes (R87). -/
def State.timerHit (s : State) (c : CpId) (n : Fin 4) : State :=
  let s := s.modCp c (fun p => { p with timers := vecUpd p.timers n (fun t =>
    { t with hit := true, cnt := if t.periodic then 0 else t.cmp + 1 }) })
  (s.irq c (2 + n.val)).fire (4 * c.val + n.val)

/-- TIMER_MATCH: the count of a running timer equals CMP (R87). -/
def execTimerMatch (c0 : CpId) (n : Fin 4) (s : State) : Out :=
  let c := s.lead c0
  .next (if (s.cp c).timers[n.val].en && (s.cp c).run != .halted then s.timerHit c n else s)

/-! ### The CP watchdog (R403, R404) -/

/-- Change the watchdog of a CP. -/
def State.modWdg (s : State) (c : CpId) (f : Wdg → Wdg) : State := s.modCp c (fun p => { p with wdg := f p.wdg })

/-- Whether the count is frozen: a debug halt, or a halt at shed level 6 (R404). -/
def State.wdgFrozen (s : State) (c : CpId) : Bool := (s.cp c).run == .halted || !s.cpsGo

/-- The watchdog expires: EXPIRED, and a restart or a lockup. The spec gives LCODE no value for a watchdog: a free value. -/
def State.wdgExpire (s : State) (c : CpId) : State :=
  let s := s.modWdg c (fun w => { w with expired := true, cnt := 0 })
  if (s.cp c).wdg.action then
    if (s.cp c).run = .lockup then s
    else
      let r := s.fresh
      r.2.lockup c 3 (r.1.toNat % 256)
  else (s.modCp c (fun p => { p with wdgReset := true })).releaseCp c

/-- A write of WDG_CTL (R403, R404). -/
def State.wdgCtl (s : State) (c : CpId) (v : BitVec 3) : State :=
  s.modWdg c (fun w =>
    if w.lock then w
    else
      { w with
        en := bitOf v 0, action := bitOf v 1, lock := bitOf v 2
        cnt := if bitOf v 0 then (if w.load = 0 then 1 else w.load) else w.cnt })

/-- A write of WDG_KICK (R403, R404). -/
def State.wdgKey (s : State) (c : CpId) (key : BitVec 16) : State :=
  if key = 0x4B1C then s.modWdg c (fun w => { w with cnt := if w.load = 0 then 1 else w.load })
  else s.wdgExpire c

/-- WDG_CTL_WRITE (R404). -/
def execWdgCtlWrite (c : CpId) (v : BitVec 3) (s : State) : Out := .next (s.wdgCtl (s.lead c) v)

/-- WDG_KICK (R404). -/
def execWdgKick (c : CpId) (key : BitVec 16) (s : State) : Out := .next (s.wdgKey (s.lead c) key)

/-- The warning: WARNED, pending bit 0 and its line (R404, R420). -/
def State.wdgWarn (s : State) (c : CpId) : State :=
  ((s.modWdg c (fun w => { w with warned := true, cnt := w.warn })).irq c 0).fire (0x0A0 + c.val)

/-- WDG_WARNING: the count of a running watchdog reaches WARN (R404). -/
def execWdgWarning (c0 : CpId) (s : State) : Out :=
  let c := s.lead c0
  .next (if (s.cp c).wdg.en ∧ (s.cp c).wdg.warn ≠ 0 ∧ (s.cp c).run ≠ .inReset ∧ !s.wdgFrozen c then s.wdgWarn c else s)

/-- WDG_EXPIRY: the count of a running watchdog reaches 0 (R404). -/
def execWdgExpiry (c0 : CpId) (s : State) : Out :=
  let c := s.lead c0
  .next (if (s.cp c).wdg.en ∧ (s.cp c).run ≠ .inReset ∧ !s.wdgFrozen c then s.wdgExpire c else s)

end Sys2Proof.Machine
end

