-- ==== Sys2Proof/Machine/Fp.lean ====
section
/-! DEFINITION. Binary floating point (R248 to R266): exact values as dyadic numbers, one rounding into a format, and the flags of
each operation. Flags are numbers: 1 IV, 2 DZ, 4 OF, 8 UF, 16 NX, and for the bit space 32 DZ, 64 OV, 128 DI. -/

namespace Sys2Proof.Machine

/-- IV of FPSTAT. -/
def fIV : Nat := 1
/-- DZ of FPSTAT. -/
def fDZ : Nat := 2
/-- OF. -/
def fOF : Nat := 4
/-- UF. -/
def fUF : Nat := 8
/-- NX. -/
def fNX : Nat := 16
/-- DZ of the bit space. -/
def iDZ : Nat := 32
/-- OV of the bit space. -/
def iOV : Nat := 64
/-- DI of the bit space. -/
def iDI : Nat := 128

/-- A flag where a condition holds. -/
def flagIf (b : Bool) (f : Nat) : Nat := if b then f else 0

/-- A binary format: significand bits with the hidden one, and exponent bits. -/
structure Fmt where
  p : Nat
  eb : Nat
  deriving DecidableEq, Repr

/-- FP64. -/
def fp64 : Fmt := ⟨53, 11⟩
/-- FP32. -/
def fp32 : Fmt := ⟨24, 8⟩

/-- The largest exponent. -/
def Fmt.emax (F : Fmt) : Int := 2 ^ (F.eb - 1) - 1
/-- The smallest exponent of a normal number. -/
def Fmt.emin (F : Fmt) : Int := 2 - 2 ^ (F.eb - 1)
/-- The exponent field of infinities and NaNs. -/
def Fmt.top (F : Fmt) : Nat := 2 ^ F.eb - 1
/-- The weight of the sign bit. -/
def Fmt.signBit (F : Fmt) : Nat := 2 ^ (F.p + F.eb - 1)
/-- The weight of the quiet bit. -/
def Fmt.quiet (F : Fmt) : Nat := 2 ^ (F.p - 2)
/-- An infinity. -/
def Fmt.inf (F : Fmt) (sign : Bool) : Nat := b2n sign * F.signBit + F.top * 2 ^ (F.p - 1)
/-- A zero. -/
def Fmt.zero (F : Fmt) (sign : Bool) : Nat := b2n sign * F.signBit
/-- The largest finite value. -/
def Fmt.big (F : Fmt) (sign : Bool) : Nat := b2n sign * F.signBit + F.top * 2 ^ (F.p - 1) - 1
/-- The canonical NaN (R254). -/
def Fmt.nan (F : Fmt) : Nat := F.top * 2 ^ (F.p - 1) + F.quiet
/-- The value 1.0. -/
def Fmt.one (F : Fmt) : Nat := (F.emax.toNat) * 2 ^ (F.p - 1)

/-- What an operand is. -/
inductive FKind where
  | zero
  | fin
  | inf
  | qnan
  | snan
  deriving DecidableEq, Repr

/-- An operand: a finite value is m × 2^e, with m a natural number; a NaN keeps its fraction and its format. -/
structure FIn where
  kind : FKind
  sign : Bool
  m : Nat
  e : Int
  /-- The exponent field is that of a normal number. -/
  normal : Bool
  frac : Nat
  fmt : Fmt
  deriving DecidableEq, Repr

/-- Read an operand; DAZ makes a subnormal a zero of its sign (R252). -/
def Fmt.dec (F : Fmt) (daz : Bool) (x : Nat) : FIn :=
  let frac := x % 2 ^ (F.p - 1)
  let ex := x / 2 ^ (F.p - 1) % 2 ^ F.eb
  let sign := x / F.signBit % 2 == 1
  if ex = F.top then
    ⟨if frac = 0 then .inf else if frac / F.quiet = 0 then .snan else .qnan, sign, 0, 0, false, frac, F⟩
  else if ex = 0 then
    if frac = 0 ∨ daz then ⟨.zero, sign, 0, 0, false, 0, F⟩
    else ⟨.fin, sign, frac, F.emin - (F.p - 1 : Nat), false, frac, F⟩
  else ⟨.fin, sign, 2 ^ (F.p - 1) + frac, (ex : Int) - F.emax - (F.p - 1 : Nat), true, frac, F⟩

/-- Whether an operand is a NaN. -/
def FIn.isNan (x : FIn) : Bool := x.kind == .qnan || x.kind == .snan

/-- A NaN carried into a format with its quiet bit set (R254, R257). -/
def Fmt.carry (F : Fmt) (x : FIn) : Nat :=
  let frac := if x.fmt.p = F.p then x.frac else if x.fmt.p < F.p then x.frac % 2 ^ 22 * 2 ^ 29 else x.frac / 2 ^ 29 % 2 ^ 22
  b2n x.sign * F.signBit + F.top * 2 ^ (F.p - 1) + (if frac / F.quiet % 2 = 1 then frac else frac + F.quiet)

/-- A result and its flags. -/
structure FOut where
  bits : Nat
  flags : Nat
  deriving DecidableEq, Repr

/-- The result that NaN operands decide, in their order (R254, R255). -/
def Fmt.nanOf (F : Fmt) (ops : List FIn) : Option FOut :=
  match ops.find? FIn.isNan with
  | some x => some ⟨F.carry x, flagIf (ops.any (·.kind == .snan)) fIV⟩
  | none => none

/-- The result of an invalid operation without NaN operands. -/
def Fmt.invalid (F : Fmt) : FOut := ⟨F.nan, fIV⟩

/-! ### Exact values -/

/-- A dyadic number m × 2^e. -/
structure Dy where
  m : Int
  e : Int
  deriving DecidableEq, Repr

/-- The value of a finite operand, zero included. -/
def FIn.dy (x : FIn) : Dy := ⟨if x.sign then -(x.m : Int) else x.m, x.e⟩

/-- Product. -/
def Dy.mul (a b : Dy) : Dy := ⟨a.m * b.m, a.e + b.e⟩

/-- Negation. -/
def Dy.neg (a : Dy) : Dy := ⟨-a.m, a.e⟩

/-- Sum. -/
def Dy.add (a b : Dy) : Dy :=
  if a.m = 0 then b
  else if b.m = 0 then a
  else
    let e := min a.e b.e
    ⟨a.m * 2 ^ (a.e - e).toNat + b.m * 2 ^ (b.e - e).toNat, e⟩

/-- Times a power of two. -/
def Dy.scale (a : Dy) (k : Int) : Dy := ⟨a.m, a.e + k⟩

/-- Whether |a| < 2^k, for a ≠ 0. -/
def Dy.below (m : Nat) (e k : Int) : Bool := decide ((Nat.log2 m : Int) + e < k)

/-- Round a magnitude to a multiple of 2^s: the quotient, and whether it is inexact. Modes are those of R249. -/
def roundAt (rm : Nat) (sign : Bool) (m s : Nat) : Nat × Bool :=
  let q := m / 2 ^ s
  let r := m % 2 ^ s
  let up :=
    if r = 0 then false
    else if rm = 0 then decide (2 ^ s < 2 * r) || (2 * r == 2 ^ s && q % 2 == 1)
    else if rm = 1 then false
    else if rm = 2 then !sign
    else if rm = 3 then sign
    else decide (2 ^ s ≤ 2 * r)
  (if up then q + 1 else q, r != 0)

/-- Round a non-zero magnitude m × 2^e to p bits with an unbounded exponent: significand, exponent, inexact. -/
def roundP (p rm : Nat) (sign : Bool) (m : Nat) (e : Int) : Nat × Int × Bool :=
  let s := Nat.log2 m + 1 - p
  let r := roundAt rm sign m s
  (r.1, e + s, r.2)

/-- A dyadic number rounded to nearest-even at p bits, with no exponent limits. -/
def Dy.near (a : Dy) (p : Nat) : Dy :=
  if a.m = 0 then a
  else
    let r := roundP p 0 (decide (a.m < 0)) a.m.natAbs a.e
    ⟨if a.m < 0 then -(r.1 : Int) else r.1, r.2.1⟩

/-- Encode a magnitude q × 2^x that the format holds exactly. -/
def Fmt.enc (F : Fmt) (sign : Bool) (q : Nat) (x : Int) : Nat :=
  let s := b2n sign * F.signBit
  if q = 0 then s
  else
    let l := (Nat.log2 q : Int)
    if l + x < F.emin then s + q * 2 ^ (x - (F.emin - (F.p - 1 : Nat))).toNat
    else
      let frac := if l < F.p then q * 2 ^ (F.p - 1 - l.toNat) else q / 2 ^ (l.toNat - (F.p - 1))
      s + (l + x + F.emax).toNat * 2 ^ (F.p - 1) + frac % 2 ^ (F.p - 1)

/-- The overflow of R249. -/
def Fmt.overflow (F : Fmt) (rm : Nat) (sign : Bool) : FOut :=
  let toBig := rm = 1 ∨ (rm = 2 ∧ sign) ∨ (rm = 3 ∧ !sign)
  ⟨if toBig then F.big sign else F.inf sign, fOF + fNX⟩

/-- Round a non-zero value into a format with its flags (R249 to R251). -/
def Fmt.round (F : Fmt) (rm : Nat) (ftz : Bool) (a : Dy) : FOut :=
  let sign := decide (a.m < 0)
  let m := a.m.natAbs
  let r := roundP F.p rm sign m a.e
  if Dy.below r.1 r.2.1 F.emin then
    if ftz then ⟨F.zero sign, fUF + fNX⟩
    else
      let q : Int := F.emin - (F.p - 1 : Nat)
      let t := if a.e < q then roundAt rm sign m (q - a.e).toNat else (m * 2 ^ (a.e - q).toNat, false)
      ⟨F.enc sign t.1 q, flagIf t.2 (fUF + fNX)⟩
  else if !Dy.below r.1 r.2.1 (F.emax + 1) then F.overflow rm sign
  else ⟨F.enc sign r.1 r.2.1, flagIf r.2.2 fNX⟩

/-! ### Sums, products and FMA -/

/-- A term of a sum: an operand or a product of two. -/
inductive Term where
  | zero (sign : Bool)
  | fin (v : Dy)
  | inf (sign : Bool)
  | bad
  deriving DecidableEq, Repr

/-- An operand as a term; `neg` changes its sign. -/
def FIn.term (x : FIn) (neg : Bool) : Term :=
  let s := Bool.xor x.sign neg
  match x.kind with
  | .zero => .zero s
  | .fin => .fin (if neg then x.dy.neg else x.dy)
  | .inf => .inf s
  | _ => .bad

/-- A product as a term: 0 × ∞ is bad (R255). -/
def prodTerm (x y : FIn) (neg : Bool) : Term :=
  let s := Bool.xor (Bool.xor x.sign y.sign) neg
  match x.kind, y.kind with
  | .fin, .fin => let v := x.dy.mul y.dy; .fin (if neg then v.neg else v)
  | .inf, .zero => .bad
  | .zero, .inf => .bad
  | .inf, _ => .inf s
  | _, .inf => .inf s
  | _, _ => .zero s

/-- The exact sum of terms, rounded once (R248, R253): bad terms and infinities of both signs are invalid. -/
def Fmt.sum (F : Fmt) (rm : Nat) (ftz : Bool) (ts : List Term) : FOut :=
  let pos := ts.contains (.inf false)
  let ngv := ts.contains (.inf true)
  if ts.contains .bad ∨ (pos ∧ ngv) then F.invalid
  else if pos then ⟨F.inf false, 0⟩
  else if ngv then ⟨F.inf true, 0⟩
  else
    let v := ts.foldl (fun (a : Dy) t => match t with | .fin d => a.add d | _ => a) ⟨0, 0⟩
    if v.m ≠ 0 then F.round rm ftz v
    else
      let allNeg := ts.all (fun t => match t with | .zero s => s | _ => false)
      let allPos := ts.all (fun t => match t with | .zero s => !s | _ => false)
      ⟨F.zero (if allNeg then true else if allPos then false else rm == 3), 0⟩

/-- The settings of an operation: rounding mode, FTZ and DAZ. -/
structure FpEnv where
  rm : Nat
  ftz : Bool
  daz : Bool
  deriving DecidableEq, Repr

/-- A sum over operands given in the order of R254, with their terms; a product 0 × ∞ sets IV beside a quiet NaN. -/
def Fmt.fused (F : Fmt) (v : FpEnv) (ops : List FIn) (prods : List (FIn × FIn)) (ts : List Term) : FOut :=
  match F.nanOf ops with
  | some r =>
    let zi := prods.any (fun p => (p.1.kind == .zero && p.2.kind == .inf) || (p.1.kind == .inf && p.2.kind == .zero))
    ⟨r.bits, if zi then r.flags ||| fIV else r.flags⟩
  | none => F.sum v.rm v.ftz ts

/-- A ± B. -/
def Fmt.add (F : Fmt) (v : FpEnv) (x y : Nat) (sub : Bool) : FOut :=
  let a := F.dec v.daz x
  let b := F.dec v.daz y
  F.fused v [a, b] [] [a.term false, b.term sub]

/-- A × B. -/
def Fmt.mul (F : Fmt) (v : FpEnv) (x y : Nat) : FOut :=
  let a := F.dec v.daz x
  let b := F.dec v.daz y
  F.fused v [a, b] [(a, b)] [prodTerm a b false]

/-- ±(A × B) ± C, with operands of format `S` for A and B and of the result's format for C. -/
def Fmt.fma (F S : Fmt) (v : FpEnv) (x y z : Nat) (negP negC : Bool) : FOut :=
  let a := S.dec v.daz x
  let b := S.dec v.daz y
  let c := F.dec v.daz z
  F.fused v [a, b, c] [(a, b)] [prodTerm a b negP, c.term negC]

/-- The product of two narrow operands in a wide format. -/
def Fmt.wideMul (F S : Fmt) (v : FpEnv) (x y : Nat) : FOut :=
  let a := S.dec v.daz x
  let b := S.dec v.daz y
  F.fused v [a, b] [(a, b)] [prodTerm a b false]

/-- C + A0 × B0 + A1 × B1 with one rounding; NaNs in the order A0, B0, A1, B1, C (R254). -/
def Fmt.dot2 (F S : Fmt) (v : FpEnv) (x0 y0 x1 y1 z : Nat) : FOut :=
  let a0 := S.dec v.daz x0
  let b0 := S.dec v.daz y0
  let a1 := S.dec v.daz x1
  let b1 := S.dec v.daz y1
  let c := F.dec v.daz z
  F.fused v [a0, b0, a1, b1, c] [(a0, b0), (a1, b1)] [prodTerm a0 b0 false, prodTerm a1 b1 false, c.term false]

/-! ### Comparison, minimum and maximum -/

/-- Order of two values that are no NaNs, zeros taken as equal. -/
def FIn.cmp (a b : FIn) : Ordering :=
  let key (x : FIn) : Int := match x.kind with | .inf => if x.sign then -1 else 1 | _ => 0
  if key a ≠ key b ∨ key a ≠ 0 then compare (key a) (key b)
  else compare (a.dy.add b.dy.neg).m 0

/-- minimumNumber or maximumNumber (R256). -/
def Fmt.minMax (F : Fmt) (v : FpEnv) (mx : Bool) (x y : Nat) : FOut :=
  let a := F.dec v.daz x
  let b := F.dec v.daz y
  let out (z : FIn) (raw : Nat) : Nat := if z.kind = .zero then F.zero z.sign else raw
  let iv := flagIf (a.kind == .snan || b.kind == .snan) fIV
  if a.isNan ∧ b.isNan then ⟨F.carry a, iv⟩
  else if a.isNan then ⟨out b y, iv⟩
  else if b.isNan then ⟨out a x, iv⟩
  else
    let less := match a.cmp b with | .lt => true | .gt => false | .eq => a.sign && !b.sign
    ⟨if less != mx then out a x else out b y, iv⟩

/-! ### Conversions (R257) -/

/-- Between formats. -/
def Fmt.convert (F S : Fmt) (v : FpEnv) (x : Nat) : FOut :=
  let a := S.dec v.daz x
  match F.nanOf [a] with
  | some r => r
  | none =>
    match a.kind with
    | .inf => ⟨F.inf a.sign, 0⟩
    | .zero => ⟨F.zero a.sign, 0⟩
    | _ => F.round v.rm v.ftz a.dy

/-- The bounds of an integer type. -/
def intBounds (w : Nat) (signed : Bool) : Int × Int := if signed then (-2 ^ (w - 1), 2 ^ (w - 1) - 1) else (0, 2 ^ w - 1)

/-- To an integer type of w bits: the value modulo 2^w. -/
def Fmt.toInt (S : Fmt) (v : FpEnv) (w : Nat) (signed : Bool) (x : Nat) : FOut :=
  let a := S.dec v.daz x
  let b := intBounds w signed
  let out (n : Int) : Nat := (n % 2 ^ w).toNat
  match a.kind with
  | .zero => ⟨0, 0⟩
  | .inf => ⟨out (if a.sign then b.1 else b.2), fIV⟩
  | .fin =>
    let r := if a.e < 0 then roundAt v.rm a.sign a.m (-a.e).toNat else (a.m * 2 ^ a.e.toNat, false)
    let n : Int := if a.sign then -(r.1 : Int) else r.1
    if n < b.1 then ⟨out b.1, fIV⟩ else if b.2 < n then ⟨out b.2, fIV⟩ else ⟨out n, flagIf r.2 fNX⟩
  | _ => ⟨0, fIV⟩

/-- From an integer. -/
def Fmt.ofInt (F : Fmt) (v : FpEnv) (n : Int) : FOut := if n = 0 then ⟨0, 0⟩ else F.round v.rm v.ftz ⟨n, 0⟩

/-! ### Seeds and steps of division and square root (R258 to R264) -/

/-- The floor of a square root, bit by bit from a given bit down. -/
def isqrt : Nat → Nat → Nat → Nat
  | 0, _, r => r
  | k + 1, n, r => let t := r + 2 ^ k; isqrt k n (if t * t ≤ n then t else r)

/-- The leading bits of a significand below its first, as many as asked. -/
def topFrac (m bits : Nat) : Nat :=
  let l := Nat.log2 m
  (if l ≤ bits then m * 2 ^ (bits - l) else m / 2 ^ (l - bits)) - 2 ^ bits

/-- The exponent e of R258 of a finite non-zero operand. -/
def FIn.exp (x : FIn) : Int := (Nat.log2 x.m : Int) + x.e

/-- Its significand s as a dyadic number. -/
def FIn.sig (x : FIn) : Dy := ⟨x.m, -(Nat.log2 x.m : Int)⟩

/-- u and k of R258. -/
def FIn.rootParts (x : FIn) : Dy × Int :=
  if x.exp % 2 = 0 then (x.sig, x.exp / 2) else (x.sig.scale 1, (x.exp - 1) / 2)

/-- A value that fits 16 significant bits, as a positive number of the format. -/
def Fmt.seedOf (F : Fmt) (q : Nat) : Nat := F.enc false q (-16)

/-- VFRSEED (R260). -/
def Fmt.recipSeed (F : Fmt) (v : FpEnv) (x : Nat) : FOut :=
  let a := F.dec v.daz x
  if a.kind = .fin then
    let den := 2049 + 2 * topFrac a.m 10
    let n := 2048 * 2 ^ 16
    let q := n / den
    let r := n % den
    ⟨F.seedOf (if den < 2 * r ∨ (2 * r = den ∧ q % 2 = 1) then q + 1 else q), 0⟩
  else ⟨F.one, 0⟩

/-- VFRSQSEED (R261). -/
def Fmt.rootSeed (F : Fmt) (v : FpEnv) (x : Nat) : FOut :=
  let a := F.dec v.daz x
  if a.kind = .fin then
    let n := (1025 + 2 * topFrac a.m 9) * (if a.exp % 2 = 0 then 1 else 2)
    let q := isqrt 22 (2 ^ 42 / n) 0
    ⟨F.seedOf (if (2 * q + 1) * (2 * q + 1) * n < 2 ^ 44 then q + 1 else q), 0⟩
  else ⟨F.one, 0⟩

/-- The result of a step with FIN = 0 (R262). -/
def Fmt.refined (F : Fmt) (d : Dy) : FOut :=
  let r := d.near F.p
  if r.m = 0 ∨ Dy.below r.m.natAbs r.e F.emin ∨ !Dy.below r.m.natAbs r.e (F.emax + 1) then ⟨F.one, 0⟩
  else ⟨F.enc (decide (r.m < 0)) r.m.natAbs r.e, 0⟩

/-- VFRSTEP with FIN = 0 (R262): divisor, approximation. -/
def Fmt.recipRefine (F : Fmt) (v : FpEnv) (xa xy : Nat) : FOut :=
  let a := F.dec v.daz xa
  let y := F.dec v.daz xy
  if a.kind = .fin ∧ y.kind = .fin ∧ y.normal then F.refined (y.dy.mul (Dy.add ⟨2, 0⟩ (a.sig.mul y.dy).neg)) else ⟨F.one, 0⟩

/-- VFRSQSTEP with FIN = 0 (R262): radicand, approximation. -/
def Fmt.rootRefine (F : Fmt) (v : FpEnv) (xa xy : Nat) : FOut :=
  let a := F.dec v.daz xa
  let y := F.dec v.daz xy
  let u := a.rootParts.1
  if a.kind = .fin ∧ y.kind = .fin ∧ y.normal then
    let h := Dy.add ⟨1, 0⟩ (u.mul (y.dy.mul y.dy)).neg
    F.refined (y.dy.add ((y.dy.mul h).scale (-1)))
  else ⟨F.one, 0⟩

/-- The number of Newton steps of the sequences of R265. -/
def Fmt.newtons (F : Fmt) : Nat := if F.p = 53 then 3 else 2

/-- The approximation that the sequence of R265 for a quotient produces from a divisor. -/
def Fmt.recipSeq (F : Fmt) (v : FpEnv) (xa : Nat) : Nat :=
  (List.range F.newtons).foldl (fun y _ => (F.recipRefine v xa y).bits) (F.recipSeed v xa).bits

/-- The approximation that the sequence of R265 for a root produces from a radicand. -/
def Fmt.rootSeq (F : Fmt) (v : FpEnv) (xa : Nat) : Nat :=
  (List.range F.newtons).foldl (fun y _ => (F.rootRefine v xa y).bits) (F.rootSeed v xa).bits

/-- A number that rounds as the quotient of two positive significands at these exponents does: its last bit says that a remainder is left.
-/
def quotDy (m n : Nat) (e : Int) : Dy := let p := m * 2 ^ 120; ⟨2 * (p / n : Nat) + (if p % n = 0 then 0 else 1), e - 121⟩

/-- A number that rounds as the square root of a positive significand at this exponent does. -/
def rootDy (m : Nat) (e : Int) : Dy :=
  let n := m * 2 ^ (if e % 2 = 0 then 128 else 129)
  let r := isqrt 96 n 0
  ⟨2 * (r : Nat) + (if r * r = n then 0 else 1), (if e % 2 = 0 then e else e - 1) / 2 - 65⟩

/-- VFRSTEP (R262, R263): divisor, dividend, approximation. With the approximation that its sequence produces the last step rounds the
quotient itself (R265; log entry 48, DEDUCED). -/
def Fmt.recipStep (F : Fmt) (v : FpEnv) (fin : Bool) (xa xx xy : Nat) : FOut :=
  let a := F.dec v.daz xa
  let x := F.dec v.daz xx
  let y := F.dec v.daz xy
  let ok := y.kind == .fin && y.normal
  if !fin then F.recipRefine v xa xy
  else
    let sg := Bool.xor x.sign a.sign
    match F.nanOf [a, x] with
    | some r => r
    | none =>
      match x.kind, a.kind with
      | .fin, .zero => ⟨F.inf sg, fDZ⟩
      | .zero, .zero => F.invalid
      | .inf, .inf => F.invalid
      | .zero, _ => ⟨F.zero sg, 0⟩
      | .inf, _ => ⟨F.inf sg, 0⟩
      | _, .inf => ⟨F.zero sg, 0⟩
      | _, _ =>
        if !ok then F.invalid
        else if xy = F.recipSeq v xa then
          let d := quotDy x.m a.m (x.e - a.e)
          F.round v.rm v.ftz (if sg then d.neg else d)
        else
          let yt := (if a.sign then y.dy.neg else y.dy).scale (-a.exp)
          let q0 := (yt.mul x.dy).near F.p
          let r := x.dy.add (a.dy.mul q0).neg
          let d := q0.add (yt.mul r)
          if d.m = 0 then ⟨F.zero sg, 0⟩ else F.round v.rm v.ftz d

/-- VFRSQSTEP (R262, R264): radicand, approximation; as VFRSTEP, the last step of the sequence rounds the root itself (R265). -/
def Fmt.rootStep (F : Fmt) (v : FpEnv) (fin : Bool) (xa xy : Nat) : FOut :=
  let a := F.dec v.daz xa
  let y := F.dec v.daz xy
  let ok := y.kind == .fin && y.normal
  let u := a.rootParts.1
  if !fin then F.rootRefine v xa xy
  else
    match F.nanOf [a] with
    | some r => r
    | none =>
      match a.kind with
      | .zero => ⟨F.zero a.sign, 0⟩
      | .inf => if a.sign then F.invalid else ⟨F.inf false, 0⟩
      | _ =>
        if a.sign ∨ !ok then F.invalid
        else if xy = F.rootSeq v xa then F.round v.rm v.ftz (rootDy a.m a.e)
        else
          let s0 := (u.mul y.dy).near F.p
          let r := u.add (s0.mul s0).neg
          let d := (s0.add ((y.dy.mul r).scale (-1))).scale a.rootParts.2
          if d.m = 0 then ⟨F.zero false, 0⟩ else F.round v.rm v.ftz d

end Sys2Proof.Machine
end

