-- ==== Sys2Proof/Machine/IntDec.lean ====
section
/-! DEFINITION. Integer elements (R184, R267), the division steps (R268 to R271, R278), packed decimal (R159, R273 to R277), and
the scalar instructions IDSTEP, DADD and DSUB (R99, R268). -/

namespace Sys2Proof.Machine

/-! ### Element types (R158) -/

/-- FP64 or FP32. -/
def tyFp (t : Nat) : Bool := decide (t ≤ 1)
/-- One of the eight integer types. -/
def tyInt (t : Nat) : Bool := decide (2 ≤ t) && decide (t ≤ 9)
/-- DEC16 or SDEC15. -/
def tyDec (t : Nat) : Bool := t == 0xB || t == 0xC
/-- A signed integer type. -/
def tySigned (t : Nat) : Bool := tyInt t && t % 2 == 0
/-- The width of a type in bits. -/
def tyWidth (t : Nat) : Nat := if t = 0xA then 1 else 8 * etypeSize t
/-- The format of an FP type. -/
def tyFmt (t : Nat) : Fmt := if t = 0 then fp64 else fp32
/-- The value of an element of an integer type. -/
def tyVal (t x : Nat) : Int := if tySigned t then sextN (tyWidth t) x else (x % 2 ^ tyWidth t : Nat)
/-- An integer cut to w bits. -/
def cutW (w : Nat) (v : Int) : Nat := (v % 2 ^ w).toNat
/-- An integer limited to a type's range. -/
def clampTo (t : Nat) (v : Int) : Int :=
  let b := intBounds (tyWidth t) (tySigned t)
  if v < b.1 then b.1 else if b.2 < v then b.2 else v

/-! ### Integer elements -/

/-- The count of 1 bits among the low n. -/
def popN : Nat → Nat → Nat
  | 0, _ => 0
  | n + 1, v => v % 2 + popN n (v / 2)

/-- Leading zeros in w bits (R184). -/
def clzN (w v : Nat) : Nat := if v = 0 then w else w - 1 - Nat.log2 v

/-- The binary operations of R184 by opcode, on elements of T. -/
def intBin (op t a b : Nat) : Nat :=
  let w := tyWidth t
  let x := tyVal t a
  let y := tyVal t b
  if op = 0x040 then cutW w (x + y)
  else if op = 0x041 then cutW w (x - y)
  else if op = 0x042 then cutW w (clampTo t (x + y))
  else if op = 0x043 then cutW w (clampTo t (x - y))
  else if op = 0x044 then cutW w (x * y)
  else if op = 0x045 then cutW w (x * y / 2 ^ w)
  else if op = 0x046 then (if x ≤ y then a else b)
  else if op = 0x047 then (if x ≤ y then b else a)
  else if op = 0x048 then a &&& b
  else if op = 0x049 then a ||| b
  else if op = 0x04A then a ^^^ b
  else if op = 0x04B then a &&& (b ^^^ (2 ^ w - 1))
  else if op = 0x04D then a * 2 ^ (b % w) % 2 ^ w
  else if op = 0x04E then a / 2 ^ (b % w)
  else cutW w (sextN w a / 2 ^ (b % w))

/-- The unary operations of R184 by opcode. -/
def intUn (op t a : Nat) : Nat :=
  let w := tyWidth t
  if op = 0x04C then a ^^^ (2 ^ w - 1)
  else if op = 0x050 then cutW w (Int.natAbs (tyVal t a))
  else if op = 0x051 then cutW w (-(tyVal t a))
  else if op = 0x052 then popN w a
  else clzN w a

/-- VCVTI: from T to another integer type, cut or saturated (R184). -/
def intCvt (t dt : Nat) (sat : Bool) (a : Nat) : Nat :=
  cutW (tyWidth dt) (if sat then clampTo dt (tyVal t a) else tyVal t a)

/-! ### Division steps -/

/-- Remainder state, quotient state and flags of a step instruction. -/
structure StepOut where
  r : Nat
  q : Nat
  flags : Nat
  deriving DecidableEq, Repr

/-- Steps of R269 in a radix: on a remainder modulo `rm` and a quotient modulo `qm`, whose top digit enters first. -/
def divSteps (radix d rm qm : Nat) : Nat → Nat → Nat → Nat × Nat
  | 0, r, q => (r, q)
  | n + 1, r, q =>
    let t := radix * r + q / (qm / radix)
    let digit := if d = 0 then radix - 1 else min (radix - 1) (t / d)
    divSteps radix d rm qm n ((t - digit * d) % rm) ((q * radix + digit) % qm)

/-- The binary division step on w bits (R269 to R271). -/
def idivStep (w : Nat) (signed fin : Bool) (count d r q : Nat) : StepOut :=
  let all := 2 ^ w
  let half := 2 ^ (w - 1)
  if signed then
    let sD := d / half % 2
    let sN := r / half % 2
    let dv := if sD = 1 then all - d else d
    let s := divSteps 4 dv half all count (r % half) q
    let m := s.1
    if !fin then ⟨sN * half + m, s.2, 0⟩
    else if dv = 0 then ⟨if sN = 0 then m else if m ≠ 0 then all - m else half, all - 1, iDZ⟩
    else if sN = sD ∧ s.2 = half then ⟨0, half, iOV⟩
    else ⟨if sN = 0 then m else (all - m) % all, if sN = sD then s.2 else (all - s.2) % all, 0⟩
  else
    let s := divSteps 4 d all all count r q
    ⟨s.1, s.2, flagIf (fin && d == 0) iDZ⟩

/-! ### Decimal words (R159) -/

/-- The value of n packed digits. -/
def decVal : Nat → Nat → Nat
  | 0, _ => 0
  | n + 1, x => x % 16 + 10 * decVal n (x / 16)

/-- Whether n packed digits are all below 10. -/
def decOk : Nat → Nat → Bool
  | 0, _ => true
  | n + 1, x => decide (x % 16 < 10) && decOk n (x / 16)

/-- The low n digits of a number, packed. -/
def decOf : Nat → Nat → Nat
  | 0, _ => 0
  | n + 1, v => v % 10 + 16 * decOf n (v / 10)

/-- The digits of a decimal type. -/
def decDigits (t : Nat) : Nat := if t = 0xB then 16 else 15

/-- The value of a decimal element, none when it is invalid (R273). -/
def decIn (t x : Nat) : Option Int :=
  if t = 0xB then (if decOk 16 x then some (decVal 16 x : Int) else none)
  else
    let sg := x % 16
    if decOk 15 (x / 16) ∧ (sg = 0xC ∨ sg = 0xD ∨ sg = 0xF) then
      some (if sg = 0xD then -(decVal 15 (x / 16) : Int) else decVal 15 (x / 16))
    else none

/-- An SDEC15 word from a magnitude and a sign; a zero magnitude carries 0xC (R274). -/
def sdecOf (mag : Nat) (neg : Bool) : Nat :=
  let m := mag % 10 ^ 15
  decOf 15 m * 16 + (if neg && m != 0 then 0xD else 0xC)

/-- Result, carry and flags of a decimal element. -/
structure DecOut where
  d : Nat
  x : Nat
  flags : Nat
  deriving DecidableEq, Repr

/-- The outcome of an invalid decimal operand (R273). -/
def decBad : DecOut := ⟨2 ^ 64 - 1, 0, iDI⟩

/-- Addition or subtraction with a carry-in (R99, R195, R275). -/
def decAdd (t : Nat) (sub : Bool) (a b cin : Nat) : DecOut :=
  match decIn t a, decIn t b with
  | some x, some y =>
    if t = 0xB then
      let v : Int := if sub then x - y - cin else x + y + cin
      ⟨decOf 16 (v % 10 ^ 16).toNat, b2n (decide (v < 0) || decide ((10 : Int) ^ 16 ≤ v)), 0⟩
    else
      let v := if sub then x - y else x + y
      ⟨sdecOf v.natAbs (decide (v < 0)), b2n (decide (10 ^ 15 ≤ v.natAbs)), 0⟩
  | _, _ => decBad

/-- The sign nibble that a shift keeps (R274). -/
def keepSign (x : Nat) : Nat := if x % 16 = 0xD then 0xD else 0xC

/-- A magnitude put back in the word of its type with the sign of the operand. -/
def decPut (t x mag : Nat) : Nat := if t = 0xB then decOf 16 mag else decOf 15 mag * 16 + keepSign x

/-- VDSHL and VDSHR by n digits (R195, R276). -/
def decShift (t : Nat) (right round : Bool) (n x : Nat) : DecOut :=
  match decIn t x with
  | none => decBad
  | some v =>
    let m := v.natAbs
    if right then
      let lost := m % 10 ^ n
      let up := round && n != 0 && decide (5 ≤ lost / 10 ^ (n - 1))
      ⟨decPut t x (m / 10 ^ n + b2n up), b2n (lost != 0), 0⟩
    else ⟨decPut t x (m * 10 ^ n), b2n (decide (10 ^ decDigits t ≤ m * 10 ^ n)), 0⟩

/-- VDMUL1: A times one digit (R276); the digit comes with a flag that the word holding it is valid. -/
def decMul1 (t : Nat) (digit : Option Nat) (x : Nat) : DecOut :=
  match decIn t x, digit with
  | some v, some k =>
    let n := decDigits t
    let m := v.natAbs * k
    ⟨if t = 0xB then decOf 16 m else sdecOf m (decide (v < 0)), m / 10 ^ n % 10, 0⟩
  | _, _ => decBad

/-- Digit i of a decimal element of a type, none when the element is invalid. -/
def decDigit (t x i : Nat) : Option Nat :=
  (decIn t x).map (fun _ => if t = 0xB then nbits x (4 * i) 4 else nbits x (4 * i + 4) 4)

/-- VCVTBD (R277). -/
def decOfInt (t : Nat) (v : Int) : DecOut :=
  let ovf := decide (10 ^ decDigits t ≤ v.natAbs)
  if t = 0xB then ⟨decOf 16 v.natAbs, b2n (ovf || decide (v < 0)), 0⟩
  else ⟨sdecOf v.natAbs (decide (v < 0)), b2n ovf, 0⟩

/-- VCVTDB (R195, R273). -/
def decToInt (t x : Nat) : DecOut :=
  match decIn t x with
  | some v => ⟨cutW 64 v, 0, 0⟩
  | none => ⟨0, 0, iDI⟩

/-- The decimal division step (R278); an invalid operand gives invalid results (R273). -/
def ddivStep (fin : Bool) (count d r q : Nat) : StepOut :=
  match decIn 0xB d, decIn 0xB r, decIn 0xB q with
  | some dv, some rv, some qv =>
    let s := divSteps 10 dv.natAbs (10 ^ 16) (10 ^ 16) count rv.natAbs qv.natAbs
    ⟨decOf 16 s.1, decOf 16 s.2, flagIf (fin && dv == 0) iDZ⟩
  | _, _, _ => ⟨2 ^ 64 - 1, 2 ^ 64 - 1, iDI⟩

/-! ### The flags of a CP -/

/-- OR the arithmetic flags of elements into FPSTAT and the bit space (R201, R244). -/
def CpArch.orFlags (a : CpArch) (f : Nat) : CpArch :=
  { a with fpstat := a.fpstat ||| BitVec.ofNat 16 (f % 32 * 256), flags := a.flags ||| BitVec.ofNat 8 (f / 32 % 8 * 32) }

/-! ### Scalar instructions -/

/-- IDSTEP: divisor G[a], remainder state G[d], quotient state G[b] (R268 to R271). -/
def execIdstep (c : CpId) (d a b : Reg) (fn : BitVec 8) (s : State) : Out :=
  let count := nbits fn.toNat 0 6
  .next (s.runInsn c ((iRRR 0x0B d a b fn).reserve (d == b || count == 0 || decide (32 < count))) (fun s c =>
      let o := idivStep 64 (bitOf fn 7) (bitOf fn 6) count (s.g c a).toNat (s.g c d).toNat (s.g c b).toNat
      .next (s.modA c (fun x => ((x.setG d (BitVec.ofNat 64 o.r)).setG b (BitVec.ofNat 64 o.q)).orFlags o.flags))))

/-- DADD and DSUB: fn[0] selects SDEC15, other bits of fn are 0 (R93, R99, R273, R275). -/
def decScalar (major : Nat) (sub : Bool) (c : CpId) (d a b : Reg) (fn : BitVec 8) (s : State) : State :=
  s.runInsn c ((iRRR major d a b fn).zero (fn.toNat / 2)) (fun s c => (
    let o := decAdd (if bitOf fn 0 then 0xC else 0xB) sub (s.g c a).toNat (s.g c b).toNat 0
    let w := BitVec.ofNat 64 o.d
    .next (s.modA c (fun x => ((((x.setZ w).setFlag flC (o.x != 0)).orFlags o.flags).setG d w)))))

/-- DADD (R99). -/
def execDadd (c : CpId) (d a b : Reg) (fn : BitVec 8) (s : State) : Out := .next (decScalar 0x0C false c d a b fn s)
/-- DSUB (R99). -/
def execDsub (c : CpId) (d a b : Reg) (fn : BitVec 8) (s : State) : Out := .next (decScalar 0x0D true c d a b fn s)

end Sys2Proof.Machine
end

