-- ==== Sys2Proof/Machine/VecRow.lean ====
section
/-! DEFINITION. The class tables of the vector opcodes (R182 to R196): for each the types it takes, its operands with the types
they need, its IMM form, whether it rounds, and the units it uses. -/

namespace Sys2Proof.Machine

/-- The pipe units (R182). -/
inductive VUnit where
  | fma
  | idu
  | xpu
  | cmu
  deriving DecidableEq, Repr

/-- The type that an operand needs, from T. -/
inductive TySpec where
  | t
  | w
  | w4
  | uns
  | otherFp
  | anyInt
  | anyFp
  | index
  | bit
  | fp64
  | int64
  | bin64
  | dec16
  deriving DecidableEq, Repr

/-- The type codes that a specification allows for an operation type (R185, R187, R195). -/
def TySpec.types (sp : TySpec) (t : Nat) : List Nat :=
  match sp with
  | .t => [t]
  | .w => if t = 1 then [0] else if 4 ≤ t ∧ t ≤ 9 then [t - 2] else []
  | .w4 => if 6 ≤ t ∧ t ≤ 9 then [t - 4] else []
  | .uns => [t + 1]
  | .otherFp => [1 - t]
  | .anyInt => [2, 3, 4, 5, 6, 7, 8, 9]
  | .anyFp => [0, 1]
  | .index => [2, 3, 4, 5]
  | .bit => [0xA]
  | .fp64 => [0]
  | .int64 => [2]
  | .bin64 => [2, 3]
  | .dec16 => [0xB]

/-- The IMM forms (R171, R184, R187, R195, R196, R259). -/
inductive ImmForm where
  /-- All zero. -/
  | zero
  /-- Form S; `need`: a scalar must be given. -/
  | s (need : Bool)
  /-- Form R with the kinds that it allows (1 G, 2 F, 3 V); `byType`: G for INT and F for FP. -/
  | r (kinds : List Nat) (byType : Bool)
  /-- IMM[0] alone. -/
  | bit0
  /-- Count up to a limit, FIN and an extra destination. -/
  | step (max : Nat)
  /-- VFRSTEP. -/
  | frstep
  /-- VFRSQSTEP. -/
  | rsqstep
  /-- VDADD and VDSUB: SK 0 or 1 and the carry stream. -/
  | decS
  /-- A carry stream alone. -/
  | decC
  /-- A digit count, the carry stream, and RND where it is allowed. -/
  | decShift (rnd : Bool)
  /-- VDMUL1. -/
  | decMul
  deriving DecidableEq, Repr

/-- An operand of an opcode: its type, whether it is elementwise, whether it is a gather or scatter table, and how many of its
elements an element of D takes. -/
structure VOperand where
  ty : TySpec
  ew : Bool
  table : Bool
  mult : Nat
  deriving DecidableEq, Repr

/-- A row of the class tables. -/
structure VRow where
  ts : List Nat
  d : Option VOperand
  a : Option VOperand
  b : Option VOperand
  c : Option VOperand
  imm : ImmForm
  /-- RND may be other than 0: 0 never, 1 for FP operation types, 2 always. -/
  rnd : Nat
  units : List VUnit
  /-- Type of the extra destination where IMM enables one. -/
  x : TySpec
  deriving DecidableEq, Repr

/-- An operand of type T that is elementwise. -/
def opT : Option VOperand := some ⟨.t, true, false, 1⟩
/-- An elementwise operand of another type. -/
def opOf (ty : TySpec) : Option VOperand := some ⟨ty, true, false, 1⟩
/-- An operand that is not elementwise. -/
def opFree (ty : TySpec) (mult : Nat) : Option VOperand := some ⟨ty, false, false, mult⟩
/-- A table. -/
def opTable : Option VOperand := some ⟨.t, false, true, 1⟩

/-- The FP types. -/
def tsFp : List Nat := [0, 1]
/-- The integer types. -/
def tsInt : List Nat := [2, 3, 4, 5, 6, 7, 8, 9]
/-- Every type but BIT. -/
def tsNoBit : List Nat := [0, 1, 2, 3, 4, 5, 6, 7, 8, 9, 0xB, 0xC]
/-- Every type. -/
def tsAny : List Nat := 0xA :: tsNoBit
/-- The decimal types. -/
def tsDec : List Nat := [0xB, 0xC]

/-- D, A and B of type T with form S. -/
def rowBin (ts : List Nat) (u : VUnit) (rnd : Nat) : VRow := ⟨ts, opT, opT, opT, none, .s false, rnd, [u], .t⟩
/-- D and A of type T. -/
def rowUn (ts : List Nat) (u : VUnit) : VRow := ⟨ts, opT, opT, none, none, .zero, 0, [u], .t⟩
/-- A reduction. -/
def rowRed (ts : List Nat) (imm : ImmForm) (rnd : Nat) (us : List VUnit) : VRow :=
  ⟨ts, none, opFree .t 1, none, none, imm, rnd, us, .t⟩

/-- The row of a long-vector opcode, none where the opcode is reserved (R182 to R196). -/
def vrow (op : Nat) : Option VRow :=
  if op < 0x003 then some (rowBin tsFp .fma 1)
  else if op < 0x005 then some (rowBin tsFp .cmu 0)
  else if op < 0x007 then some (rowUn tsFp .idu)
  else if op = 0x007 then some (rowBin tsFp .idu 0)
  else if op < 0x00C then some ⟨tsFp, opT, opT, opT, opT, .s false, 1, [.fma], .t⟩
  else if op = 0x00C then some ⟨tsFp, opOf .otherFp, opT, none, none, .zero, 1, [.fma], .t⟩
  else if op = 0x00D then some ⟨tsFp, opOf .anyInt, opT, none, none, .zero, 1, [.fma], .t⟩
  else if op = 0x00E then some ⟨tsInt, opOf .anyFp, opT, none, none, .zero, 2, [.fma], .t⟩
  else if op < 0x040 then none
  else if op < 0x044 then some (rowBin tsInt .idu 0)
  else if op < 0x046 then some (rowBin tsInt .fma 0)
  else if op < 0x048 then some (rowBin tsInt .cmu 0)
  else if op < 0x04C then some (rowBin (0xA :: tsInt) .idu 0)
  else if op = 0x04C then some (rowUn (0xA :: tsInt) .idu)
  else if op < 0x050 then some (rowBin tsInt .xpu 0)
  else if op < 0x052 then some (rowUn tsInt .idu)
  else if op < 0x054 then some (rowUn tsInt .xpu)
  else if op = 0x054 then some (rowBin tsAny .cmu 0)
  else if op = 0x055 then some ⟨tsInt, opOf .anyInt, opT, none, none, .bit0, 0, [.idu], .t⟩
  else if op = 0x056 then some (rowUn tsAny .xpu)
  else if op = 0x057 then some ⟨tsAny, opT, none, none, none, .s true, 0, [.xpu], .t⟩
  else if op = 0x058 then some ⟨tsInt, opT, none, none, none, .s true, 0, [.idu], .t⟩
  else if op = 0x080 then some ⟨[1, 4, 5, 6, 7, 8, 9], opOf .w, opT, opT, none, .s false, 0, [.fma], .t⟩
  else if op = 0x081 then some ⟨[1, 4, 5, 6, 7, 8, 9], opOf .w, opT, opT, opOf .w, .s false, 1, [.fma], .t⟩
  else if op = 0x082 then some ⟨[6, 7, 8, 9], opOf .w4, opFree .t 4, opFree .t 4, opOf .w4, .zero, 0, [.fma], .t⟩
  else if op = 0x083 then some ⟨[6, 8], opOf .w4, opFree .t 4, opFree .uns 4, opOf .w4, .zero, 0, [.fma], .t⟩
  else if op = 0x084 then some ⟨[1], opOf .fp64, opFree .t 2, opFree .t 2, opOf .fp64, .zero, 1, [.fma], .t⟩
  else if op < 0x0A0 then none
  else if op < 0x0A6 then some ⟨tsNoBit, opOf .bit, opT, opT, none, .s false, 0, [.cmu], .t⟩
  else if op = 0x0A6 then some ⟨tsFp, opOf .bit, opT, opT, none, .s false, 0, [.cmu], .t⟩
  else if op = 0x0A7 then some ⟨tsInt, opOf .bit, opT, opT, none, .s false, 0, [.cmu], .t⟩
  else if op = 0x0C0 then some ⟨tsNoBit, opFree .t 1, opFree .t 1, none, none, .r [1] false, 0, [.xpu], .t⟩
  else if op = 0x0C1 then some ⟨tsNoBit, opFree .t 1, opFree .t 1, none, none, .zero, 0, [.xpu], .t⟩
  else if op = 0x0C2 then some ⟨tsNoBit, opFree .t 1, opTable, opFree .index 1, none, .zero, 0, [.xpu], .t⟩
  else if op = 0x0C3 then some ⟨tsNoBit, opTable, opFree .t 1, opFree .index 1, none, .bit0, 0, [.xpu], .t⟩
  else if op = 0x0C4 then some ⟨tsNoBit, opFree .t 1, opFree .t 1, none, none, .zero, 0, [.xpu], .t⟩
  else if op = 0x0E0 ∨ op = 0x0E1 then some ⟨tsNoBit, opFree .t 1, opFree .t 1, none, none, .zero, 0, [.xpu], .t⟩
  else if op = 0x100 then some (rowRed (tsFp ++ tsInt) (.r [1, 2, 3] true) 1 [.fma, .xpu])
  else if op = 0x101 ∨ op = 0x102 then some (rowRed (tsFp ++ tsInt) (.r [1, 2, 3] true) 0 [.cmu, .xpu])
  else if 0x103 ≤ op ∧ op ≤ 0x105 then some (rowRed (0xA :: tsInt) (.r [1, 3] false) 0 [.idu, .xpu])
  else if op = 0x106 then some (rowRed tsFp (.r [2] false) 1 [.fma])
  else if op = 0x107 ∨ op = 0x108 then some (rowRed tsAny (.r [1] false) 0 [.cmu, .xpu])
  else if op = 0x109 then some (rowRed tsDec (.r [3] false) 0 [.idu, .xpu])
  else if op = 0x140 ∨ op = 0x141 then some ⟨tsDec, opT, opT, opT, none, .decS, 0, [.idu], .bit⟩
  else if op = 0x142 ∨ op = 0x143 then some ⟨[0xB], opT, opT, opT, opOf .bit, .decC, 0, [.idu], .bit⟩
  else if op = 0x144 then some ⟨tsDec, opT, opT, none, none, .decShift false, 0, [.idu], .bit⟩
  else if op = 0x145 then some ⟨tsDec, opT, opT, none, none, .decShift true, 0, [.idu], .bit⟩
  else if op = 0x146 then some ⟨tsDec, opT, opT, opT, none, .decMul, 0, [.idu], .dec16⟩
  else if op = 0x147 then some ⟨tsDec, opT, opOf .bin64, none, none, .decC, 0, [.idu], .bit⟩
  else if op = 0x148 then some ⟨tsDec, opOf .int64, opT, none, none, .zero, 0, [.idu], .t⟩
  else if op = 0x180 then some ⟨[2, 3, 4, 5], opT, opT, opT, opT, .step 32, 0, [.idu], .t⟩
  else if op = 0x181 ∨ op = 0x183 then some (rowUn tsFp .fma)
  else if op = 0x182 then some ⟨tsFp, opT, opT, opT, opT, .frstep, 1, [.fma], .t⟩
  else if op = 0x184 then some ⟨tsFp, opT, opT, none, opT, .rsqstep, 1, [.fma], .t⟩
  else if op = 0x185 then some ⟨[0xB], opT, opT, opT, opT, .step 16, 0, [.idu], .t⟩
  else none

/-! ### The IMM field -/

/-- SK or the result kind. -/
def immSk (imm : Nat) : Nat := nbits imm 12 2

/-- What the IMM of an instruction gives. -/
structure ImmOut where
  /-- The scalar replaces B: 1 G, 2 F, 3 immediate; and its number or its value. -/
  scalar : Option (Nat × Nat)
  /-- The extra destination that IMM names. -/
  extra : Option Nat
  /-- The row's stream B is used. -/
  useB : Bool
  deriving DecidableEq, Repr

/-- A form S field: none where it is reserved for T (R171, R172). -/
def immS (t imm : Nat) : Option (Option (Nat × Nat)) :=
  match immSk imm with
  | 0 => if imm = 0 then some none else none
  | 1 => if nbits imm 0 8 = 0 then some (some (1, nbits imm 8 4)) else none
  | 2 => if nbits imm 0 6 = 0 then some (some (2, nbits imm 6 6)) else none
  | _ => if tyDec t then none else some (some (3, nbits imm 0 12))

/-- The carry stream of a decimal instruction: [4] and [3:0] (R195). -/
def immCarry (imm : Nat) : Option (Option Nat) :=
  if nbits imm 4 1 = 1 then some (some (nbits imm 0 4)) else if nbits imm 0 4 = 0 then some none else none

/-- Decode IMM under a form for T: none where it is a reserved encoding (R171, R175, R190, R195, R259, R268). -/
def ImmForm.decode (f : ImmForm) (t imm : Nat) : Option ImmOut :=
  match f with
  | .zero => if imm = 0 then some ⟨none, none, true⟩ else none
  | .s need =>
    match immS t imm with
    | some none => if need then none else some ⟨none, none, true⟩
    | some sc => some ⟨sc, none, false⟩
    | none => none
  | .r kinds byType =>
    let k := immSk imm
    let low := if k = 2 then nbits imm 0 6 else nbits imm 0 8
    if !kinds.contains k ∨ low ≠ 0 ∨ (k = 3 ∧ nbits imm 11 1 ≠ 0) then none
    else if byType ∧ ((k = 1 ∧ !tyInt t) ∨ (k = 2 ∧ !tyFp t)) then none
    else some ⟨none, none, true⟩
  | .bit0 => if imm < 2 then some ⟨none, none, true⟩ else none
  | .step mx =>
    let n := nbits imm 0 6
    if n = 0 ∨ mx < n ∨ nbits imm 7 1 ≠ 0 ∨ nbits imm 12 2 ≠ 0 then none else some ⟨none, some (nbits imm 8 4), true⟩
  | .frstep =>
    if nbits imm 0 6 ≠ 0 ∨ nbits imm 7 1 ≠ 0 then none
    else if immSk imm = 0 then (if nbits imm 8 4 = 0 then some ⟨none, none, true⟩ else none)
    else if immSk imm = 1 then some ⟨some (1, nbits imm 8 4), none, false⟩
    else none
  | .rsqstep =>
    if nbits imm 0 6 ≠ 0 ∨ nbits imm 7 1 ≠ 0 ∨ immSk imm ≠ 1 then none else some ⟨some (1, nbits imm 8 4), none, false⟩
  | .decS =>
    if nbits imm 5 3 ≠ 0 then none
    else match immCarry imm with
      | none => none
      | some x =>
        if immSk imm = 0 then (if nbits imm 8 4 = 0 then some ⟨none, x, true⟩ else none)
        else if immSk imm = 1 then some ⟨some (1, nbits imm 8 4), x, false⟩
        else none
  | .decC => if nbits imm 5 9 ≠ 0 then none else (immCarry imm).map (fun x => ⟨none, x, true⟩)
  | .decShift rnd =>
    if nbits imm 5 2 ≠ 0 ∨ nbits imm 12 2 ≠ 0 ∨ (!rnd ∧ nbits imm 7 1 ≠ 0) then none
    else (immCarry imm).map (fun x => ⟨none, x, true⟩)
  | .decMul =>
    let fromB := nbits imm 7 1 = 1
    let n := nbits imm 8 4
    if nbits imm 5 2 ≠ 0 ∨ nbits imm 12 2 ≠ 0 ∨ (!fromB ∧ 10 ≤ n) ∨ (fromB ∧ t = 0xC ∧ n = 15) then none
    else (immCarry imm).map (fun x => ⟨none, x, decide fromB⟩)

/-! ### Roles and streams of an instruction -/

/-- The roles of descriptors, in the order of the issue checks (R163, R165). -/
inductive Role where
  | d
  | a
  | b
  | c
  | m
  | x
  deriving DecidableEq, Repr

/-- The number of a role in XINFO (R165). -/
def Role.code : Role → Nat
  | .d => 0
  | .a => 1
  | .b => 2
  | .c => 3
  | .m => 4
  | .x => 5

/-- A stream that an instruction names: role, D register, whether it is written, the types it may have, elements used for each
element, elementwise or a mask, table, and field count needed (0: 2 to 4). -/
structure Strm where
  role : Role
  num : Nat
  dest : Bool
  tys : List Nat
  mult : Nat
  ew : Bool
  table : Bool
  fields : Nat
  deriving DecidableEq, Repr

/-- The streams of a long-vector instruction in the order of the issue checks (R163); for structure instructions the run of
consecutive descriptors has `k` of them (R189). -/
def streamsOf (r : VRow) (im : ImmOut) (op : Nat) (v : VecFields) (k : Nat) : List Strm :=
  let t := v.ty.toNat
  let mk (role : Role) (num : Nat) (dest : Bool) (o : Option VOperand) : List Strm :=
    match o with
    | some p => [⟨role, num, dest, p.ty.types t, p.mult, p.ew, p.table, 1⟩]
    | none => []
  let m : List Strm :=
    if v.msel.toNat % 16 = 0 then [] else [⟨.m, v.msel.toNat % 16, false, [0xA], 1, true, false, 1⟩]
  if op = 0x0E0 then
    [⟨.d, v.dd.val, true, [t], 1, false, false, 1⟩, ⟨.a, v.da.val, false, [t], 1, false, false, 0⟩] ++ m ++
      (List.range (k - 1)).map (fun j => ⟨.x, v.dd.val + j + 1, true, [t], 1, false, false, 1⟩)
  else if op = 0x0E1 then
    [⟨.d, v.dd.val, true, [t], 1, false, false, 0⟩, ⟨.a, v.da.val, false, [t], 1, false, false, 1⟩] ++
      (List.range (k - 1)).map (fun j => ⟨.a, v.da.val + j + 1, false, [t], 1, false, false, 1⟩) ++ m
  else
    mk .d v.dd.val true r.d ++ mk .a v.da.val false r.a ++ (if im.useB then mk .b v.db.val false r.b else []) ++
      mk .c v.dc.val false r.c ++ m ++
      (match im.extra with
        | some n => [⟨.x, n, true, r.x.types t, 1, true, false, 1⟩]
        | none => [])

/-- The descriptor of an entry for a role and its place among the streams of that role. -/
def VEntry.desc (e : VEntry) (role : Role) (j : Nat) : Option DReg :=
  match role with
  | .d => e.dD
  | .a => if j = 0 then e.dA else e.ex[j - 1]?
  | .b => e.dB
  | .c => e.dC
  | .m => e.dM
  | .x => e.ex[j]?

/-- The mask's D register; whether it is inverted (R167). -/
def maskInv (v : VecFields) : Bool := decide (16 < v.msel.toNat)

end Sys2Proof.Machine
end

