-- ==== Sys2Proof/Machine/VecElem.lean ====
section
/-! DEFINITION. What one element of a vector instruction computes (R183 to R196, R248 to R278), and the reductions (R190 to
R194). Long-vector strips and short-vector lanes use the same functions. -/

namespace Sys2Proof.Machine

/-- The result of an element, its extra result, and the flags it raises. -/
structure ElemOut where
  d : Nat
  x : Nat
  flags : Nat
  deriving DecidableEq, Repr

/-- A plain result. -/
def ElemOut.plain (d : Nat) : ElemOut := ⟨d, 0, 0⟩

/-- A floating-point result. -/
def FOut.elem (o : FOut) : ElemOut := ⟨o.bits, 0, o.flags⟩

/-- The sign operations: 0 clears, 1 inverts, 2 takes the sign of B (R183). -/
def signOp (F : Fmt) (k a b : Nat) : Nat :=
  let m := a % F.signBit
  let s := a / F.signBit % 2
  m + (if k = 0 then 0 else if k = 1 then 1 - s else b / F.signBit % 2) * F.signBit

/-- The floating-point class (R183). -/
def elemFp (op t dt : Nat) (v : FpEnv) (a b c : Nat) : ElemOut :=
  let F := tyFmt t
  if op = 0x000 then (F.add v a b false).elem
  else if op = 0x001 then (F.add v a b true).elem
  else if op = 0x002 then (F.mul v a b).elem
  else if op = 0x003 then (F.minMax v false a b).elem
  else if op = 0x004 then (F.minMax v true a b).elem
  else if op = 0x005 then .plain (signOp F 0 a b)
  else if op = 0x006 then .plain (signOp F 1 a b)
  else if op = 0x007 then .plain (signOp F 2 a b)
  else if op = 0x008 then (F.fma F v a b c false false).elem
  else if op = 0x009 then (F.fma F v a b c false true).elem
  else if op = 0x00A then (F.fma F v a b c true false).elem
  else if op = 0x00B then (F.fma F v a b c true true).elem
  else if op = 0x00C then ((tyFmt dt).convert F v a).elem
  else if op = 0x00D then (F.toInt v (tyWidth dt) (tySigned dt) a).elem
  else ((tyFmt dt).ofInt v (tyVal t a)).elem

/-- A comparison's predicate by opcode: 0 to 5 of an ordering. -/
def predOf (k : Nat) (o : Ordering) : Bool :=
  if k = 0 then o == .eq else if k = 1 then o != .eq else if k = 2 then o == .lt
  else if k = 3 then o != .gt else if k = 4 then o == .gt else o != .lt

/-- The compares (R186). -/
def elemCmp (op t : Nat) (v : FpEnv) (a b : Nat) : ElemOut :=
  let k := op - 0x0A0
  if op = 0x0A7 then .plain (b2n (a &&& b != 0))
  else if tyFp t then
    let F := tyFmt t
    let x := F.dec v.daz a
    let y := F.dec v.daz b
    let snan := x.kind == .snan || y.kind == .snan
    let nan := x.isNan || y.isNan
    if op = 0x0A6 then ⟨b2n nan, 0, flagIf snan fIV⟩
    else if nan then ⟨b2n (k == 1), 0, flagIf (snan || decide (2 ≤ k)) fIV⟩
    else .plain (b2n (predOf k (x.cmp y)))
  else if tyDec t then
    match decIn t a, decIn t b with
    | some x, some y => .plain (b2n (predOf k (compare x y)))
    | _, _ => ⟨0, 0, iDI⟩
  else .plain (b2n (predOf k (compare (tyVal t a) (tyVal t b))))

/-- Whether an element counts as non-zero, with the flags of the comparison (R190). -/
def elemNonZero (t : Nat) (v : FpEnv) (a : Nat) : ElemOut :=
  if t = 0xA then .plain (b2n (a != 0)) else elemCmp 0x0A1 t v a (if t = 0xC then 0xC else 0)

/-- The widening multiplies (R185). -/
def elemWide (op t : Nat) (v : FpEnv) (a b c : Nat) : ElemOut :=
  if t = 1 then
    (if op = 0x080 then fp64.wideMul fp32 v a b else fp64.fma fp32 v a b c false false).elem
  else
    let w := 2 * tyWidth t
    .plain (cutW w (tyVal t a * tyVal t b + (if op = 0x081 then (c : Int) else 0)))

/-- The decimal class (R195, R273 to R277). -/
def elemDec (op t imm aty : Nat) (a b c : Nat) : ElemOut :=
  let n := nbits imm 8 4
  let o : DecOut :=
    if op = 0x140 then decAdd t false a b 0
    else if op = 0x141 then decAdd t true a b 0
    else if op = 0x142 then decAdd t false a b c
    else if op = 0x143 then decAdd t true a b c
    else if op = 0x144 then decShift t false false n a
    else if op = 0x145 then decShift t true (nbits imm 7 1 == 1) n a
    else if op = 0x146 then decMul1 t (if nbits imm 7 1 = 1 then decDigit t b n else some n) a
    else if op = 0x147 then decOfInt t (tyVal aty a)
    else decToInt t a
  ⟨o.d, o.x, o.flags⟩

/-- The step class (R196, R259 to R264, R268 to R271, R278). -/
def elemStep (op t imm : Nat) (v : FpEnv) (a b c : Nat) : ElemOut :=
  let F := tyFmt t
  let fin := nbits imm 6 1 == 1
  let count := nbits imm 0 6
  if op = 0x180 then let o := idivStep (tyWidth t) (tySigned t) fin count a b c; ⟨o.r, o.q, o.flags⟩
  else if op = 0x185 then let o := ddivStep fin count a b c; ⟨o.r, o.q, o.flags⟩
  else if op = 0x181 then (F.recipSeed v a).elem
  else if op = 0x183 then (F.rootSeed v a).elem
  else if op = 0x182 then (F.recipStep v fin a b c).elem
  else (F.rootStep v fin a c).elem

/-- One element of an instruction whose result depends only on its elements of A, B and C, and on its number. -/
def elemOp (op t dt aty imm : Nat) (v : FpEnv) (a b c i : Nat) : ElemOut :=
  if op < 0x040 then elemFp op t dt v a b c
  else if op = 0x055 then .plain (intCvt t dt (imm % 2 == 1) a)
  else if op = 0x054 ∨ op = 0x056 then .plain a
  else if op = 0x057 then .plain b
  else if op = 0x058 then .plain ((b + i) % 2 ^ tyWidth t)
  else if op < 0x04C ∨ (0x04D ≤ op ∧ op < 0x050) then .plain (intBin op t a b)
  else if op < 0x059 then .plain (intUn op t a)
  else if op < 0x082 then elemWide op t v a b c
  else if op < 0x0A8 then elemCmp op t v a b
  else if op < 0x149 then elemDec op t imm aty a b c
  else elemStep op t imm v a b c

/-- A dot product: the group of A and B elements and C (R185). -/
def elemDot (op t : Nat) (v : FpEnv) (as bs : List Nat) (c : Nat) : ElemOut :=
  if op = 0x084 then
    (fp64.dot2 fp32 v (as.getD 0 0) (bs.getD 0 0) (as.getD 1 0) (bs.getD 1 0) c).elem
  else
    let bt := if op = 0x083 then t + 1 else t
    let s := (List.zip as bs).foldl (fun (n : Int) p => n + tyVal t p.1 * tyVal bt p.2) (c : Int)
    .plain (cutW (4 * tyWidth t) s)

/-- The element that a scalar gives for T: the low bits of a register, or an immediate (R172). -/
def scalarOf (kind t : Nat) (raw : Nat) : Nat :=
  if kind = 3 then
    if tyFp t then ((tyFmt t).ofInt ⟨0, false, false⟩ (sextN 12 raw)).bits
    else cutW (tyWidth t) (sextN 12 raw)
  else raw % 2 ^ tyWidth t

/-! ### Reductions -/

/-- The flush of DAZ on a leaf (R252). -/
def leafDaz (t : Nat) (v : FpEnv) (a : Nat) : Nat :=
  if tyFp t then
    let x := (tyFmt t).dec v.daz a
    if x.kind = .zero then (tyFmt t).zero x.sign else a
  else a

/-- A leaf: an element, extended to 64 bits as T gives when the result goes to a G register (R191). -/
def leafOf (kind t : Nat) (v : FpEnv) (a : Nat) : Word :=
  if kind = 1 ∧ tyInt t then BitVec.ofInt 64 (tyVal t a) else BitVec.ofNat 64 (leafDaz t v a)

/-- Combine two values of a tree reduction (R192). -/
def combine (op kind t : Nat) (v : FpEnv) (a b : Word) : Word × Nat :=
  let x := a.toNat
  let y := b.toNat
  if tyFp t then
    let F := tyFmt t
    let o := if op = 0x100 then F.add v x y false else F.minMax v (op == 0x102) x y
    (BitVec.ofNat 64 o.bits, o.flags)
  else
    let t' := if kind = 1 ∧ tyInt t then (if tySigned t then 2 else 3) else t
    let o := if op = 0x100 then 0x040 else if op = 0x101 then 0x046 else if op = 0x102 then 0x047
      else if op = 0x103 then 0x048 else if op = 0x104 then 0x049 else 0x04A
    (BitVec.ofNat 64 (intBin o t' x y), 0)

/-- The largest power of two below n, for n of 2 and more. -/
def powBelow (n : Nat) : Nat := 2 ^ Nat.log2 (n - 1)

/-- The tree of R192 over a list with holes; `fuel` bounds its depth. -/
def treeOf (f : Word → Word → Word × Nat) : Nat → List Leaf → Leaf × Nat
  | 0, _ => (none, 0)
  | _, [] => (none, 0)
  | _, [x] => (x, 0)
  | fuel + 1, xs =>
    let m := powBelow xs.length
    let a := treeOf f fuel (xs.take m)
    let b := treeOf f fuel (xs.drop m)
    match a.1, b.1 with
    | some x, some y => let c := f x y; (some c.1, a.2 ||| b.2 ||| c.2)
    | none, y => (y, a.2 ||| b.2)
    | x, none => (x, a.2 ||| b.2)

/-- The lanes of a result: 512 ÷ w in V, one elsewhere (R191). -/
def lanesOf (kind t : Nat) : Nat := if kind = 3 then 512 / tyWidth t else 1

/-- The empty result of a lane (R194). -/
def emptyLane (op kind t : Nat) : Nat :=
  let w := tyWidth t
  let cut (v : Int) : Nat := if kind = 1 then cutW 64 v else cutW w v
  if op = 0x101 then (if tyFp t then (tyFmt t).inf false else cut (intBounds w (tySigned t)).2)
  else if op = 0x102 then (if tyFp t then (tyFmt t).inf true else cut (intBounds w (tySigned t)).1)
  else if op = 0x103 then 2 ^ w - 1
  else if op = 0x108 then 2 ^ 64 - 1
  else 0

/-- The lanes l, l + L, … of a list. -/
def laneOf {α : Type} (xs : List α) (l L : Nat) : List α :=
  (List.range ((xs.length + L - 1 - l) / L)).filterMap (fun i => xs[l + i * L]?)

/-- What the strip of a reduction leaves for its end: one value for each lane, and flags. Leaves are those of the strip in
order, holes for inactive elements; `first` is the number of the strip's first element (R190 to R193, R222). -/
def redStrip (op kind t : Nat) (v : FpEnv) (first : Nat) (leaves : List (Option Nat)) : List Leaf × Nat :=
  if op = 0x106 then (leaves.filterMap (fun x => x.map (fun a => some (BitVec.ofNat 64 (leafDaz t v a)))), 0)
  else if op = 0x107 ∨ op = 0x108 then
    let nz := leaves.map (fun x => x.map (fun a => elemNonZero t v a))
    let fl := nz.foldl (fun n x => n ||| (match x with | some o => o.flags | none => 0)) 0
    let hit (o : Option ElemOut) : Bool := match o with | some e => e.d == 1 | none => false
    if op = 0x107 then ([some (BitVec.ofNat 64 (nz.filter hit).length)], fl)
    else ([(nz.findIdx? hit).map (fun i => BitVec.ofNat 64 (first + i))], fl)
  else if op = 0x109 then
    let vs := leaves.filterMap id
    let ok := vs.filterMap (fun a => decIn t a)
    let sum := ok.foldl (fun (n : Int) x => n + x) 0
    let m := sum.natAbs
    ([some (BitVec.ofNat 64 m), some (BitVec.ofNat 64 (m / 2 ^ 64)), some (BitVec.ofNat 64 (b2n (decide (sum < 0))))],
      flagIf (ok.length != vs.length) iDI)
  else
    let L := lanesOf kind t
    let xs := leaves.map (fun x => x.map (leafOf kind t v))
    (List.range L).foldl (fun (r : List Leaf × Nat) l =>
      let q := treeOf (combine op kind t v) 64 (laneOf xs l L)
      (r.1 ++ [q.1], r.2 ||| q.2)) ([], 0)

/-- The exact integer that the partial of VRSUMD holds. -/
def partialInt (p : List Leaf) : Int :=
  let w (i : Nat) : Nat := match p.getD i none with | some x => x.toNat | none => 0
  let m : Nat := w 0 + 2 ^ 64 * w 1
  if w 2 = 1 then -(m : Int) else m

/-- A V register from lanes of w bits. -/
def packLanes (w : Nat) (ls : List Nat) : Nat := (ls.mapIdx (fun i x => (x % 2 ^ w) * 2 ^ (w * i))).foldl (· + ·) 0

/-- The result of a reduction from the partials of its strips in order, as a number of 64 or 512 bits, and flags. -/
def redFinish (op kind t : Nat) (v : FpEnv) (parts : List (List Leaf)) : Nat × Nat :=
  let w := tyWidth t
  if op = 0x107 then ((parts.foldl (fun n p => n + (match p.getD 0 none with | some x => x.toNat | none => 0)) 0) % 2 ^ 64, 0)
  else if op = 0x108 then
    ((match parts.findSome? (fun p => p.getD 0 none) with | some x => x.toNat | none => emptyLane op kind t), 0)
  else if op = 0x109 then
    let s := parts.foldl (fun (n : Int) p => n + partialInt p) 0
    let m := s.natAbs
    (decOf 16 m + decOf 16 (m / 10 ^ 16) * 2 ^ 64 + (if s < 0 then 0xD else 0xC) * 2 ^ 128, 0)
  else if op = 0x106 then
    match parts.flatMap (fun p => p.filterMap id) with
    | [] => (0, 0)
    | x :: xs =>
      let r := xs.foldl (fun (a : Nat × Nat) y => let o := (tyFmt t).add v a.1 y.toNat false; (o.bits, a.2 ||| o.flags)) (x.toNat, 0)
      r
  else
    let L := lanesOf kind t
    let r := (List.range L).foldl (fun (r : List Nat × Nat) l =>
      let q := treeOf (combine op kind t v) 64 (parts.map (fun p => p.getD l none))
      (r.1 ++ [match q.1 with | some x => x.toNat | none => emptyLane op kind t], r.2 ||| q.2)) ([], 0)
    if kind = 3 then (packLanes w r.1, r.2) else (r.1.getD 0 0, r.2)

end Sys2Proof.Machine
end

