-- ==== Sys2Proof/Machine/VecIssue.lean ====
section
/-! DEFINITION. Issue of long-vector instructions: reserved encodings (R170 to R175), the form and capability checks (R163 to
R165), sampling (R176), chain groups (R205 to R216) and the entry into the vector queue (R217). Also the completion of a
group (R190 to R194, R201, R229). -/

namespace Sys2Proof.Machine

/-! ### Streams of a queued instruction -/

/-- The streams of a queued instruction with their descriptors, in the order of the issue checks. -/
def VEntry.streams (e : VEntry) : List (Strm × DReg) :=
  match vrow e.op.toNat with
  | none => []
  | some r =>
    match r.imm.decode e.v.ty.toNat e.v.imm.toNat with
    | none => []
    | some im =>
      let l := streamsOf r im e.op.toNat e.v (e.ex.length + 1)
      (l.mapIdx (fun i (x : Strm) =>
        (e.desc x.role ((l.take i).countP (fun (y : Strm) => y.role == x.role))).map (fun d => (x, d)))).filterMap id

/-- The extent of one stream of an instruction (R178). -/
def VEntry.extentOf (e : VEntry) (x : Strm × DReg) : Extent :=
  if x.1.table then x.2.tableExtent else x.2.extent (x.1.mult * e.vl.toNat)

/-- Same place and step, whatever the capability's bounds and permissions (R210). -/
def DReg.geom (a b : DReg) : Bool :=
  a.offset == b.offset && a.stride == b.stride && a.etype == b.etype && a.fields == b.fields && a.space == b.space &&
    (a.space || (a.cap.tag && b.cap.tag && a.cap.cursor == b.cap.cursor))

/-- Whether a source coincides with a destination (R179). -/
def coincides (x : Strm × DReg) (d : DReg) : Bool :=
  x.1.ew && x.1.role != .m && x.2.cap == d.cap && x.2.offset == d.offset && x.2.stride == d.stride &&
    x.2.etype == d.etype && x.2.fields == d.fields && x.2.space == d.space

/-- Whether an instruction runs in strip order (R180). -/
def VEntry.stripOrder (e : VEntry) : Bool :=
  let ss := e.streams
  ss.any (fun d => d.1.dest && ss.any (fun x => !x.1.dest && (e.extentOf d).meets (e.extentOf x) && !coincides x d.2))

/-- Whether the destination of an instruction is written element i by element i, so that it can be forwarded (R206). -/
def VEntry.inOrderDest (e : VEntry) : Bool := e.op != 0x0C0 && e.op != 0x0C3

/-- Whether a pair of streams of two members, the earlier first, is of the same geometry in the sense of R210: the source of
the pair is elementwise or a mask. -/
def sameGeom (e1 : VEntry) (x1 : Strm × DReg) (e2 : VEntry) (x2 : Strm × DReg) : Bool :=
  x1.2.geom x2.2 && (!x1.1.dest || e1.inOrderDest) && (!x2.1.dest || e2.inOrderDest) &&
    (if x1.1.dest && x2.1.dest then true else if x1.1.dest then x2.1.ew else x1.1.ew)

/-- A hazard between two members that requires a split (R211). -/
def hazard (e1 e2 : VEntry) : Bool :=
  let s2 := e2.streams
  e1.streams.any (fun x1 => s2.any (fun x2 =>
    (x1.1.dest || x2.1.dest) && (e1.extentOf x1).meets (e2.extentOf x2) && !sameGeom e1 x1 e2 x2)) ||
  (match e1.result, e2.result with
    | some (k1, n1), some (k2, n2) =>
      (k1 == k2 && n1 == n2) || (k1 == 3 && k2 == 2 && n2 / 8 == n1) || (k1 == 2 && k2 == 3 && n1 / 8 == n2)
    | _, _ => false)

/-- Whether a source of member j comes from an earlier member's result (R212). -/
def forwarded (g : List VEntry) (j : Nat) (x : Strm × DReg) : Bool :=
  !x.1.dest && x.1.ew && (g.take j).any (fun e1 => e1.inOrderDest && e1.streams.any (fun x1 => x1.1.dest && x1.2.geom x.2))

/-- Whether the write of member i's destination is elided (R213). -/
def elided (g : List VEntry) (i : Nat) : Bool :=
  match g[i]? with
  | none => false
  | some e =>
    match e.dD with
    | none => false
    | some d =>
      e.v.tw && e.inOrderDest && (List.range g.length).any (fun j =>
        decide (i < j) && (match g[j]? with
          | none => false
          | some l =>
            l.inOrderDest && l.streams.any (fun x => x.1.dest && d.geom x.2) &&
            (match l.dM, e.dM with
              | none, _ => decide (l.v.msel = 0)
              | some ml, some me =>
                l.v.msel == e.v.msel && ml.geom me && (List.range g.length).all (fun m =>
                  !(decide (i < m) && decide (m < j)) || (match g[m]? with
                    | none => true
                    | some em => !em.dests.any (fun x => x.meets (ml.extent l.vl.toNat))))
              | some _, none => false)))

/-- The streams of a list that count: one that repeats the geometry of an earlier one does not, where it is elementwise, a mask or a
destination written in order (R210, R215). -/
def distinctGeom (l : List (Bool × DReg)) : List DReg :=
  l.foldl (fun (r : List DReg) x => if x.1 && r.any (fun y => y.geom x.2) then r else r ++ [x.2]) []

/-- The units that member j uses (R215, R216). -/
def memberUnits (g : List VEntry) (j : Nat) : List VUnit :=
  match g[j]? with
  | none => []
  | some e =>
    match vrow e.op.toNat with
    | none => []
    | some r =>
      let fwdIn := e.streams.any (fun x => x.1.role == .a && forwarded g j x)
      let fwdOut := (List.range g.length).any (fun i => decide (j < i) && (match g[i]? with
        | none => false
        | some l => l.streams.any (fun x => !x.1.dest && x.1.ew && e.streams.any (fun y => y.1.dest && y.2.geom x.2))))
      if (e.op = 0x056 ∨ e.op = 0x005 ∨ e.op = 0x006) ∧ (fwdIn ∨ fwdOut) then [] else r.units

/-- Whether a group stays inside the limits of R215. -/
def groupFits (g : List VEntry) : Bool :=
  let us := (List.range g.length).flatMap (memberUnits g)
  let srcs := (List.range g.length).flatMap (fun j => match g[j]? with
    | none => []
    | some e => e.streams.filter (fun x => !x.1.dest && !forwarded g j x))
  let masks := distinctGeom ((srcs.filter (fun x => x.1.role == .m)).map (fun x => (true, x.2)))
  let reads := distinctGeom (srcs.map (fun x => (x.1.ew || x.1.role == .m, x.2)))
  let writes := distinctGeom ((List.range g.length).flatMap (fun j => match g[j]? with
    | none => []
    | some e => (e.streams.filter (fun x => x.1.dest && !(x.1.role == .d && elided g j))).map (fun x => (e.inOrderDest, x.2))))
  decide (us.count .fma ≤ 2) && decide (us.count .idu ≤ 1) && decide (us.count .xpu ≤ 1) && decide (us.count .cmu ≤ 1) &&
    decide (reads.length ≤ 4) && decide (masks.length ≤ 1) && decide (writes.length ≤ 2)

/-- The members of the group at the end of a queue. -/
def VQueue.lastGroup (q : VQueue) : List VEntry :=
  let r := q.entries.reverse
  let tail := r.takeWhile (fun e => e.joins)
  (tail ++ (r.drop tail.length).take 1).reverse

/-- Whether an instruction passes the checks 2 to 6 of R207 against the open group. -/
def joinsGroup (g : List VEntry) (e : VEntry) : Bool :=
  match g with
  | [] => false
  | f :: _ =>
    f.vl == e.vl && f.ct == e.ct && f.det == e.det &&
      !(g ++ [e]).any (fun m => m.stripOrder || m.op == 0x106) && !g.any (fun m => hazard m e) && groupFits (g ++ [e])

/-! ### Completion of a group -/

/-- The rounding of an entry. -/
def VEntry.env (e : VEntry) : FpEnv := ⟨e.rnd.toNat, e.ftz, e.daz⟩

/-- Write a V register (R72). -/
def CpArch.setV (a : CpArch) (v : Nat) (x : Nat) : CpArch :=
  { a with f := (List.range 8).foldl (fun f i => f.set! (8 * (v % 8) + i) (BitVec.ofNat 64 (x / 2 ^ (64 * i)))) a.f }

/-- Write a register result: 1 G, 2 F, 3 V (R191). -/
def CpArch.setResult (a : CpArch) (kind n x : Nat) : CpArch :=
  if kind = 1 then a.setG ⟨n % 16, by omega⟩ (BitVec.ofNat 64 x)
  else if kind = 2 then { a with f := a.f.set! (n % 64) (BitVec.ofNat 64 x) }
  else a.setV n x

/-- What a member writes to the CP at the completion of its group: a reduction's result with the flags of the combines
between strips, or a compress count (R187, R190 to R194, R222). -/
def VEntry.complete (e : VEntry) (a : CpArch) : CpArch :=
  match e.result with
  | none => a
  | some (k, n) =>
    if e.op = 0x0C0 then
      a.setResult k n (e.partials.foldl (fun t p => t + (match p.2.getD 0 none with | some w => w.toNat | none => 0)) 0)
    else
      let r := redFinish e.op.toNat k e.v.ty.toNat e.env (e.partials.map (·.2))
      (a.setResult k n r.1).orFlags r.2

/-- The number of strips of a group (R219). -/
def stripCount (vl : Nat) : Nat := (vl + 1023) / 1024

/-- Whether progress shows a strip as committed (R229). -/
def VQueue.shows (q : VQueue) (k : Nat) : Bool :=
  let lo := (q.lo.toNat + 1023) / 1024
  decide (k < lo) || (decide (lo < k) && bitOf q.map (k - lo - 1))

/-- The lowest strip that progress does not show, counted from a bit map above it. -/
def nextGap (map : Word) : Nat → Nat → Nat
  | 0, j => j
  | n + 1, j => if bitOf map j then nextGap map n (j + 1) else j

/-- Progress with one more strip shown (R229). -/
def VQueue.show (q : VQueue) (k : Nat) : VQueue :=
  let lo := (q.lo.toNat + 1023) / 1024
  if k < lo then q
  else if k = lo then
    let j := nextGap q.map 64 0
    { q with lo := BitVec.ofNat 40 (1024 * (lo + 1 + j)), map := q.map >>> (j + 1) }
  else { q with map := setBitOf q.map (k - lo - 1) true }

/-- Whether every strip of the oldest group is committed and covered. -/
def VQueue.allShown (q : VQueue) : Bool :=
  match q.entries with
  | [] => false
  | e :: _ => decide (stripCount e.vl.toNat ≤ (q.lo.toNat + 1023) / 1024)

/-- Whether the oldest group is closed (R208). -/
def VQueue.oldestClosed (q : VQueue) : Bool :=
  match q.group.getLast? with
  | none => false
  | some e => !e.v.ch || e.cut || decide (q.group.length < q.entries.length)

/-- Whether anything keeps the Scheduler from a queue (R208, R226, R232, R236, R529). -/
def State.vqStopped (s : State) (c : CpId) : Bool :=
  let q := (s.cp c).vq
  s.vqHeld c || s.sec.sys != .run || s.rd PAIR_STAT.ROLE == 2 ||
    (s.pair.due && s.pair.ship.isNone) || s.entering || (s.pair.pressHold && q.group.any (fun e => !e.dests.isEmpty)) ||
    !q.faults.isEmpty || q.saving.isSome || q.stopping

/-- The oldest group completes once all its strips have committed: register results, and the queue moves on; an empty queue
fires its line (R217, R222, R420). A fault that is noted or frozen keeps the group. -/
def State.vqRetire (s : State) (c : CpId) : State :=
  let q := (s.cp c).vq
  if q.oldestClosed && q.allShown && q.flights.isEmpty && !q.flt && q.faults.isEmpty then
    let g := q.group
    let s := s.modCp c (fun p => { p with
      a := g.foldl (fun a e => e.complete a) p.a
      vq := { p.vq with
        entries := p.vq.entries.drop g.length, lo := 0, map := 0, waiting := none, stolen := false, onePipe := none, go := false, retries := 0,
        preSweep := p.vq.preSweep - g.length } })
    if (s.cp c).vq.entries.isEmpty then s.fire (0x1A0 + c.val) else s
  else s

/-- A queue that nothing holds completes a group that has no strip left, be it that it had none or that firmware moved its progress
(R217, R219, R230). -/
def State.vqSettle (s : State) (c : CpId) : State := if s.vqStopped c then s else s.vqRetire c

/-! ### Issue -/

/-- Whether an encoding is reserved beside its opcode (R167, R170, R171, R173, R175): what IMM gives where it is not. -/
def vDecode (r : VRow) (v : VecFields) : Option ImmOut :=
  let t := v.ty.toNat
  if !r.ts.contains t ∨ v.msel = 0x10 ∨ v.rnd = 5 ∨ v.rnd = 6 then none
  else if v.rnd ≠ 0 ∧ r.rnd ≠ 2 ∧ ¬(r.rnd = 1 ∧ tyFp t) then none
  else match r.imm.decode t v.imm.toNat with
    | none => none
    | some im =>
      if (r.d.isNone ∧ v.dd ≠ 0) ∨ (r.a.isNone ∧ v.da ≠ 0) ∨ ((r.b.isNone ∨ !im.useB) ∧ v.db ≠ 0) ∨
          (r.c.isNone ∧ v.dc ≠ 0) then none
      else some im

/-- The first form check of R165 that a stream fails. -/
def formCheck (x : Strm) (d : DReg) (n : Nat) : Option Nat :=
  let size := etypeSize d.etype.toNat
  if !x.tys.contains d.etype.toNat then some 1
  else if (if x.fields = 0 then d.fields = 0 else d.fields.toNat + 1 ≠ x.fields) then some 2
  else if d.space then
    let lo := d.offset.toNat
    let hi := lo + x.mult * n
    if d.etype ≠ 0xA ∨ d.stride ≠ 0 ∨ d.fields ≠ 0 then some 5
    else if n = 0 then none
    else if (0x1000 ≤ lo ∧ hi ≤ 0x10000) ∨ (!x.dest ∧ 0x100 ≤ lo ∧ hi ≤ 0x400) then none
    else some 5
  else if d.etype = 0xA then if d.stride ≠ 0 ∨ d.fields ≠ 0 then some 8 else none
  else if d.addr 0 0 % (size : Int) ≠ 0 ∨ d.strideInt % (size : Int) ≠ 0 then some 3
  else if x.dest ∧ d.strideInt.natAbs < size * (d.fields.toNat + 1) then some 4
  else none

/-- XINFO of VFORM (R165). -/
def vformInfo (num : Nat) (role : Role) (reason : Nat) : Word := BitVec.ofNat 64 (num % 16 + 16 * role.code + 256 * reason)

/-- The form checks over the streams in order (R163, R165): XINFO of the first that fails. -/
def formChecks (l : List (Strm × DReg)) (vl : Nat) : Option Word :=
  match l.findSome? (fun x =>
      if 16 ≤ x.1.num then some (vformInfo 15 x.1.role 7)
      else (formCheck x.1 x.2 vl).map (fun r => vformInfo x.1.num x.1.role r)) with
  | some w => some w
  | none =>
    let ds := l.filter (fun x => x.1.dest)
    let ext (x : Strm × DReg) : Extent := if x.1.table then x.2.tableExtent else x.2.extent (x.1.mult * vl)
    ((List.range ds.length).findSome? (fun j => match ds[j]? with
      | none => none
      | some y => if (ds.take j).any (fun x => (ext x).meets (ext y)) then some (vformInfo y.1.num y.1.role 6) else none))

/-- The capability checks of R123 and R164: XINFO of the first that fails. The permissions of all roles of one register are
checked together. -/
def capChecks (l : List (Strm × DReg)) (tw : Bool) : Option Word :=
  l.findSome? (fun x =>
    if x.2.space then none
    else
      let need := (l.filter (fun y => y.1.num == x.1.num && !y.2.space)).flatMap (fun y =>
        (if y.1.dest then [permW] else [permR]) ++ (if y.1.role == .d && tw then [permTransient] else []))
      let k := x.2.cap
      let sub := if !k.tag then 1 else if k.otype ≠ 0 then 2 else if need.any (fun p => !k.has p) then 3 else 0
      if sub = 0 then none else some (capInfo k.cursor sub x.1.num))

/-- Read the D registers that an instruction names, each once: the number of the first poisoned one, and the state (R360). -/
def State.readDs (s : State) (c : CpId) (ns : List Nat) : Option Nat × State :=
  ns.dedup.foldl (fun (r : Option Nat × State) n =>
    if h : n < 16 then
      let q := r.2.readD c ⟨n, h⟩
      (if r.1.isSome then r.1 else if q.1.isNone then some n else none, q.2)
    else r) (none, s)

/-- A D register by number; the null descriptor past D15. -/
def State.dAt (s : State) (c : CpId) (n : Nat) : DReg := if h : n < 16 then s.d c ⟨n, h⟩ else DReg.null

/-- Whether an outstanding instruction will write the register of a scalar (R203). -/
def VQueue.writesScalar (q : VQueue) (im : ImmOut) : Bool :=
  match im.scalar with
  | some (1, n) => q.writesG n
  | some (2, n) => q.writesF n
  | _ => false

/-- The scalar of an instruction as it is sampled (R172, R176). -/
def State.scalar (s : State) (c : CpId) (t : Nat) (im : ImmOut) : Option Word :=
  match im.scalar with
  | none => none
  | some (k, n) =>
    let a := (s.cp c).a
    let raw := if k = 1 then (a.g[n]!).toNat else if k = 2 then (a.f[n]!).toNat else n
    some (BitVec.ofNat 64 (scalarOf k t raw))

/-- Append an entry to the vector queue: it joins the open group or starts one, the eighth member closes it, as CHAIN_WAIT of 0 does at
once, and its destinations are noted for the data cache (R77, R205 to R208, R217, R241). -/
def State.enqueue (s : State) (c : CpId) (e : VEntry) : State :=
  let q := (s.cp c).vq
  let g := q.lastGroup
  let able := q.isOpen && decide (g.length < 8)
  let j := able && joinsGroup g e
  let s := if able && !j then (match s.cpPart c with | some p => s.cnt (SCHED_SPLITS.COUNT p) 1 | none => s) else s
  let i := s.inject 0x0F c.val
  let now := (s.cpPart c).any (fun p => s.rd (SCHED_CFG.CHAIN_WAIT p) == 0)
  let e := { e with joins := j, cut := now || (j && decide (g.length = 7)), err := if i.1 then s.injMask else Err.zero }
  let rs := e.dests.filterMap (fun x => match x with
    | .mem lo hi => if lo < hi then some (lo.toNat, (hi - lo).toNat) else none
    | _ => none)
  (i.2.modCp c (fun p => { p with vq := { p.vq with entries := p.vq.entries ++ [e] }, vext := p.vext ++ rs })).vqSettle c

/-- The facts of a vector instruction. -/
def iVec (op : Nat) (v : VecFields) (gs fs : List Nat) : Insn := { mkInsn 4 (encV op v) false false gs fs with vop := some op }

/-- Whether a long-vector encoding is reserved (R111). -/
def longReserved (op : Nat) (v : VecFields) : Bool :=
  match vrow op with | some r => (vDecode r v).isNone | none => true

/-- Issue a long-vector instruction whose encoding is defined (R163, R176, R203, R217, R233, R234, R237, R518). -/
def doIssue (op : Nat) (v : VecFields) (s : State) (c : CpId) : Flow :=
  match vrow op with
  | none => .done s
  | some r =>
    match vDecode r v with
    | none => .done s
    | some im =>
      let a := (s.cp c).a
      let run := if op = 0x0E0 then (s.d c v.da).fields.toNat + 1 else if op = 0x0E1 then (s.d c v.dd).fields.toNat + 1 else 1
      let ss := streamsOf r im op v run
      let rd := s.readDs c (ss.map (·.num))
      let s := rd.2
      let l := ss.map (fun x => (x, s.dAt c x.num))
      match formChecks l a.vl.toNat with
      | some w => .trap s cVform w false
      | none =>
        match capChecks l v.tw with
        | some w => .trap s cCap w false
        | none =>
          match rd.1 with
          | some n => .trap s cPoison (poisonInfo n 3) false
          | none =>
            let q := (s.cp c).vq
            if 32 ≤ q.entries.length ∨ q.saving.isSome then
              if q.flt ∧ q.saving.isNone then .done (s.deliverVector c a.pc.toNat)
              else .stall s (.issue (BitVec.ofNat 10 op) v)
            else if q.writesScalar im then
              if q.pend then .done (s.deliverVector c a.pc.toNat) else .stall s (.issue (BitVec.ofNat 10 op) v)
            else
              let cmp := s.compareWith State.bucket c 1 a.pc.toNat
              if cmp.1 then .done cmp.2
              else
                let s := cmp.2
                let pick (role : Role) : Option DReg := (l.find? (fun x => x.1.role == role)).map (·.2)
                let rest := if op = 0x0E1 then (l.filter (fun x => x.1.role == .a)).drop 1 else l.filter (fun x => x.1.role == .x)
                let e : VEntry :=
                  { op := BitVec.ofNat 10 op, v := v, pc := a.pc.setWidth 24, vl := a.vl
                    ct := a.ct || l.any (fun x => !x.2.space && x.2.cap.has permCt), det := a.det
                    rnd := if v.rnd = 7 then a.fpstat.setWidth 3 else v.rnd, ftz := bitOf a.fpstat 3, daz := bitOf a.fpstat 4
                    scalar := s.scalar c v.ty.toNat im, dD := pick .d, dA := pick .a, dB := pick .b, dC := pick .c
                    dM := pick .m, ex := rest.map (·.2), joins := false, cut := false, partials := [], flags := 0
                    err := Err.zero }
                nextSaved (s.enqueue c e) c 4

/-- A long-vector instruction (R163). -/
def issue (op : Nat) (c : CpId) (v : VecFields) (s : State) : State := 
  s.runInsn c ((iVec op v [] []).reserve (longReserved op v)) (doIssue op v)

/-- VECTOR_ISSUE_RESUME: an issue that waits tries again (R203, R217). -/
def execVectorIssueResume (c0 : CpId) (s : State) : Out :=
  let c := s.lead c0
  match (s.cp c).stall, (s.cp c).run with
  | .issue op v, .running =>
    let s := s.modCp c (fun p => { p with stall := .none })
    .next (s.finish c (iVec op.toNat v [] []) (doIssue op.toNat v s c))
  | _, _ => .next s

/-! ### The long-vector instructions -/

/-- VFADD (R183). -/
def execVfadd (c : CpId) (v : VecFields) (s : State) : Out := .next (issue 0x000 c v s)
/-- VFSUB (R183). -/
def execVfsub (c : CpId) (v : VecFields) (s : State) : Out := .next (issue 0x001 c v s)
/-- VFMUL (R183). -/
def execVfmul (c : CpId) (v : VecFields) (s : State) : Out := .next (issue 0x002 c v s)
/-- VFMIN (R183). -/
def execVfmin (c : CpId) (v : VecFields) (s : State) : Out := .next (issue 0x003 c v s)
/-- VFMAX (R183). -/
def execVfmax (c : CpId) (v : VecFields) (s : State) : Out := .next (issue 0x004 c v s)
/-- VFABS (R183). -/
def execVfabs (c : CpId) (v : VecFields) (s : State) : Out := .next (issue 0x005 c v s)
/-- VFNEG (R183). -/
def execVfneg (c : CpId) (v : VecFields) (s : State) : Out := .next (issue 0x006 c v s)
/-- VFCPYS (R183). -/
def execVfcpys (c : CpId) (v : VecFields) (s : State) : Out := .next (issue 0x007 c v s)
/-- VFMA (R183). -/
def execVfma (c : CpId) (v : VecFields) (s : State) : Out := .next (issue 0x008 c v s)
/-- VFMS (R183). -/
def execVfms (c : CpId) (v : VecFields) (s : State) : Out := .next (issue 0x009 c v s)
/-- VFNMA (R183). -/
def execVfnma (c : CpId) (v : VecFields) (s : State) : Out := .next (issue 0x00A c v s)
/-- VFNMS (R183). -/
def execVfnms (c : CpId) (v : VecFields) (s : State) : Out := .next (issue 0x00B c v s)
/-- VFCVT (R183). -/
def execVfcvt (c : CpId) (v : VecFields) (s : State) : Out := .next (issue 0x00C c v s)
/-- VFCVTI (R183). -/
def execVfcvti (c : CpId) (v : VecFields) (s : State) : Out := .next (issue 0x00D c v s)
/-- VICVTF (R183). -/
def execVicvtf (c : CpId) (v : VecFields) (s : State) : Out := .next (issue 0x00E c v s)
/-- VADD (R184). -/
def execVadd (c : CpId) (v : VecFields) (s : State) : Out := .next (issue 0x040 c v s)
/-- VSUB (R184). -/
def execVsub (c : CpId) (v : VecFields) (s : State) : Out := .next (issue 0x041 c v s)
/-- VADDS (R184). -/
def execVadds (c : CpId) (v : VecFields) (s : State) : Out := .next (issue 0x042 c v s)
/-- VSUBS (R184). -/
def execVsubs (c : CpId) (v : VecFields) (s : State) : Out := .next (issue 0x043 c v s)
/-- VMUL (R184). -/
def execVmul (c : CpId) (v : VecFields) (s : State) : Out := .next (issue 0x044 c v s)
/-- VMULH (R184). -/
def execVmulh (c : CpId) (v : VecFields) (s : State) : Out := .next (issue 0x045 c v s)
/-- VMIN (R184). -/
def execVmin (c : CpId) (v : VecFields) (s : State) : Out := .next (issue 0x046 c v s)
/-- VMAX (R184). -/
def execVmax (c : CpId) (v : VecFields) (s : State) : Out := .next (issue 0x047 c v s)
/-- VAND (R184). -/
def execVand (c : CpId) (v : VecFields) (s : State) : Out := .next (issue 0x048 c v s)
/-- VOR (R184). -/
def execVor (c : CpId) (v : VecFields) (s : State) : Out := .next (issue 0x049 c v s)
/-- VXOR (R184). -/
def execVxor (c : CpId) (v : VecFields) (s : State) : Out := .next (issue 0x04A c v s)
/-- VANDN (R184). -/
def execVandn (c : CpId) (v : VecFields) (s : State) : Out := .next (issue 0x04B c v s)
/-- VNOT (R184). -/
def execVnot (c : CpId) (v : VecFields) (s : State) : Out := .next (issue 0x04C c v s)
/-- VSHL (R184). -/
def execVshl (c : CpId) (v : VecFields) (s : State) : Out := .next (issue 0x04D c v s)
/-- VSHR (R184). -/
def execVshr (c : CpId) (v : VecFields) (s : State) : Out := .next (issue 0x04E c v s)
/-- VSAR (R184). -/
def execVsar (c : CpId) (v : VecFields) (s : State) : Out := .next (issue 0x04F c v s)
/-- VABS (R184). -/
def execVabs (c : CpId) (v : VecFields) (s : State) : Out := .next (issue 0x050 c v s)
/-- VNEG (R184). -/
def execVneg (c : CpId) (v : VecFields) (s : State) : Out := .next (issue 0x051 c v s)
/-- VPOPC (R184). -/
def execVpopc (c : CpId) (v : VecFields) (s : State) : Out := .next (issue 0x052 c v s)
/-- VCLZ (R184). -/
def execVclz (c : CpId) (v : VecFields) (s : State) : Out := .next (issue 0x053 c v s)
/-- VSEL (R184). -/
def execVsel (c : CpId) (v : VecFields) (s : State) : Out := .next (issue 0x054 c v s)
/-- VCVTI (R184). -/
def execVcvti (c : CpId) (v : VecFields) (s : State) : Out := .next (issue 0x055 c v s)
/-- VMOV (R184). -/
def execVmov (c : CpId) (v : VecFields) (s : State) : Out := .next (issue 0x056 c v s)
/-- VFILL (R184). -/
def execVfill (c : CpId) (v : VecFields) (s : State) : Out := .next (issue 0x057 c v s)
/-- VIOTA (R184). -/
def execViota (c : CpId) (v : VecFields) (s : State) : Out := .next (issue 0x058 c v s)
/-- VWMUL (R185). -/
def execVwmul (c : CpId) (v : VecFields) (s : State) : Out := .next (issue 0x080 c v s)
/-- VWMA (R185). -/
def execVwma (c : CpId) (v : VecFields) (s : State) : Out := .next (issue 0x081 c v s)
/-- VDOT4 (R185). -/
def execVdot4 (c : CpId) (v : VecFields) (s : State) : Out := .next (issue 0x082 c v s)
/-- VDOT4SU (R185). -/
def execVdot4su (c : CpId) (v : VecFields) (s : State) : Out := .next (issue 0x083 c v s)
/-- VFDOT2 (R185). -/
def execVfdot2 (c : CpId) (v : VecFields) (s : State) : Out := .next (issue 0x084 c v s)
/-- VCMPEQ (R186). -/
def execVcmpeq (c : CpId) (v : VecFields) (s : State) : Out := .next (issue 0x0A0 c v s)
/-- VCMPNE (R186). -/
def execVcmpne (c : CpId) (v : VecFields) (s : State) : Out := .next (issue 0x0A1 c v s)
/-- VCMPLT (R186). -/
def execVcmplt (c : CpId) (v : VecFields) (s : State) : Out := .next (issue 0x0A2 c v s)
/-- VCMPLE (R186). -/
def execVcmple (c : CpId) (v : VecFields) (s : State) : Out := .next (issue 0x0A3 c v s)
/-- VCMPGT (R186). -/
def execVcmpgt (c : CpId) (v : VecFields) (s : State) : Out := .next (issue 0x0A4 c v s)
/-- VCMPGE (R186). -/
def execVcmpge (c : CpId) (v : VecFields) (s : State) : Out := .next (issue 0x0A5 c v s)
/-- VCMPUN (R186). -/
def execVcmpun (c : CpId) (v : VecFields) (s : State) : Out := .next (issue 0x0A6 c v s)
/-- VTEST (R186). -/
def execVtest (c : CpId) (v : VecFields) (s : State) : Out := .next (issue 0x0A7 c v s)
/-- VCOMPRESS (R187). -/
def execVcompress (c : CpId) (v : VecFields) (s : State) : Out := .next (issue 0x0C0 c v s)
/-- VEXPAND (R187). -/
def execVexpand (c : CpId) (v : VecFields) (s : State) : Out := .next (issue 0x0C1 c v s)
/-- VGATHER (R187). -/
def execVgather (c : CpId) (v : VecFields) (s : State) : Out := .next (issue 0x0C2 c v s)
/-- VSCATTER (R187). -/
def execVscatter (c : CpId) (v : VecFields) (s : State) : Out := .next (issue 0x0C3 c v s)
/-- VREV (R187). -/
def execVrev (c : CpId) (v : VecFields) (s : State) : Out := .next (issue 0x0C4 c v s)
/-- VLDS (R189). -/
def execVlds (c : CpId) (v : VecFields) (s : State) : Out := .next (issue 0x0E0 c v s)
/-- VSTS (R189). -/
def execVsts (c : CpId) (v : VecFields) (s : State) : Out := .next (issue 0x0E1 c v s)
/-- VRSUM (R190). -/
def execVrsum (c : CpId) (v : VecFields) (s : State) : Out := .next (issue 0x100 c v s)
/-- VRMIN (R190). -/
def execVrmin (c : CpId) (v : VecFields) (s : State) : Out := .next (issue 0x101 c v s)
/-- VRMAX (R190). -/
def execVrmax (c : CpId) (v : VecFields) (s : State) : Out := .next (issue 0x102 c v s)
/-- VRAND (R190). -/
def execVrand (c : CpId) (v : VecFields) (s : State) : Out := .next (issue 0x103 c v s)
/-- VROR (R190). -/
def execVror (c : CpId) (v : VecFields) (s : State) : Out := .next (issue 0x104 c v s)
/-- VRXOR (R190). -/
def execVrxor (c : CpId) (v : VecFields) (s : State) : Out := .next (issue 0x105 c v s)
/-- VRSUMO (R190). -/
def execVrsumo (c : CpId) (v : VecFields) (s : State) : Out := .next (issue 0x106 c v s)
/-- VRCNT (R190). -/
def execVrcnt (c : CpId) (v : VecFields) (s : State) : Out := .next (issue 0x107 c v s)
/-- VRFIRST (R190). -/
def execVrfirst (c : CpId) (v : VecFields) (s : State) : Out := .next (issue 0x108 c v s)
/-- VRSUMD (R190). -/
def execVrsumd (c : CpId) (v : VecFields) (s : State) : Out := .next (issue 0x109 c v s)
/-- VDADD (R195). -/
def execVdadd (c : CpId) (v : VecFields) (s : State) : Out := .next (issue 0x140 c v s)
/-- VDSUB (R195). -/
def execVdsub (c : CpId) (v : VecFields) (s : State) : Out := .next (issue 0x141 c v s)
/-- VDADDC (R195). -/
def execVdaddc (c : CpId) (v : VecFields) (s : State) : Out := .next (issue 0x142 c v s)
/-- VDSUBC (R195). -/
def execVdsubc (c : CpId) (v : VecFields) (s : State) : Out := .next (issue 0x143 c v s)
/-- VDSHL (R195). -/
def execVdshl (c : CpId) (v : VecFields) (s : State) : Out := .next (issue 0x144 c v s)
/-- VDSHR (R195). -/
def execVdshr (c : CpId) (v : VecFields) (s : State) : Out := .next (issue 0x145 c v s)
/-- VDMUL1 (R195). -/
def execVdmul1 (c : CpId) (v : VecFields) (s : State) : Out := .next (issue 0x146 c v s)
/-- VCVTBD (R195). -/
def execVcvtbd (c : CpId) (v : VecFields) (s : State) : Out := .next (issue 0x147 c v s)
/-- VCVTDB (R195). -/
def execVcvtdb (c : CpId) (v : VecFields) (s : State) : Out := .next (issue 0x148 c v s)
/-- VIDSTEP (R196). -/
def execVidstep (c : CpId) (v : VecFields) (s : State) : Out := .next (issue 0x180 c v s)
/-- VFRSEED (R196). -/
def execVfrseed (c : CpId) (v : VecFields) (s : State) : Out := .next (issue 0x181 c v s)
/-- VFRSTEP (R196). -/
def execVfrstep (c : CpId) (v : VecFields) (s : State) : Out := .next (issue 0x182 c v s)
/-- VFRSQSEED (R196). -/
def execVfrsqseed (c : CpId) (v : VecFields) (s : State) : Out := .next (issue 0x183 c v s)
/-- VFRSQSTEP (R196). -/
def execVfrsqstep (c : CpId) (v : VecFields) (s : State) : Out := .next (issue 0x184 c v s)
/-- VDDSTEP (R196). -/
def execVddstep (c : CpId) (v : VecFields) (s : State) : Out := .next (issue 0x185 c v s)

end Sys2Proof.Machine
end

