-- ==== Sys2Proof/Machine/VecRun.lean ====
section
/-! DEFINITION. What a strip of a chain group reads, computes and writes (R160, R161, R166 to R169, R178 to R196, R206, R212,
R219, R220, R527): the elements in order, each fault where it arises, and the writes held until the commit. -/

namespace Sys2Proof.Machine

/-- How a step of a strip ends: with a value; with a vector fault of a member at an element (R232); with an access that
waits (R147, R540); or with a write that needs an early compare first (R527). -/
inductive VAcc (α : Type) where
  | ok (a : α)
  | fault (member elem cause : Nat) (info : Word)
  | wait
  | early

/-- Go on with the value of a step. -/
def VAcc.andThen {α β : Type} (r : VAcc α × State) (k : α → State → VAcc β × State) : VAcc β × State :=
  match r with
  | (.ok a, s) => k a s
  | (.fault m e c w, s) => (.fault m e c w, s)
  | (.wait, s) => (.wait, s)
  | (.early, s) => (.early, s)

/-- A write that a strip holds: bytes of memory, one bit of a byte, or a bit of the bit space. -/
inductive Wr where
  | mem (key n : Nat) (v : Nat)
  | bit (key pos : Nat) (b : Bool)
  | space (addr : Nat) (b : Bool)
  deriving DecidableEq, Repr

/-- What a strip runs for: its CP, its cluster, its first and last elements, and whether its writes go to copies (R527). -/
structure RunEnv where
  cp : CpId
  part : PartId
  cl : ClusterId
  k : Nat
  lo : Nat
  hi : Nat
  cow : Bool
  deriving DecidableEq, Repr

/-- The access of a stream. -/
def RunEnv.access (v : RunEnv) (num : Nat) (d : DReg) (wr : Bool) : Access :=
  { part := v.part, cl := v.cl, num := num, wr := wr, pin := d.cap.has permPinned, win := if v.cow then some v.cp else none }

/-- The bounds check of an element's bytes (R123, R187, R202). -/
def boundsFault (num : Nat) (d : DReg) (addr : Int) (n : Nat) : Option Word :=
  if addr < d.cap.base ∨ (d.cap.top : Int) < addr + n ∨ (2 ^ 56 : Int) < addr + n then
    some (capInfo (faultByte d.cap addr 4) 4 num)
  else none

/-- Read the bytes of an element from memory (R202, R360). -/
def vRead (v : RunEnv) (num : Nat) (d : DReg) (addr : Int) (n : Nat) (s : State) : VAcc Nat × State :=
  match boundsFault num d addr n with
  | some w => (.fault 0 0 cCap w, s)
  | none =>
    let va := addr.toNat
    let q := s.translate (v.access num d false) va
    match q.1 with
    | .fault c w => (.fault 0 0 c.toNat w, q.2)
    | .wait => (.wait, q.2)
    | .ok key =>
      let r := q.2.readBy (some v.cl) key n
      match r.1 with
      | some k => (.fault 0 0 cPoison (poisonInfo (va + (k - key)) (poisonSource key)), r.2.bucket 12 1)
      | none => (.ok (leNat (r.2.bytesAt key n)), r.2)

/-- The copies that Shadow windows of a partition hold, in pages (R527). -/
def State.cowPages (s : State) (p : PartId) : Nat :=
  (s.cpsOf p).foldl (fun n c => (s.cp c).vq.cow.foldl (fun n w => n + w.n) n) 0

/-- The first write of a window to a page: the copy of its leaf, with COW set; none of it for the windows at fixed addresses,
which have no leaf (R527). -/
def cowFirst (v : RunEnv) (va key : Nat) (s : State) : VAcc Nat × State :=
  match s.walk v.part va with
  | .leaf ea level e =>
    if storeOf key ≠ .near ∧ storeOf key ≠ .cellar then (.ok key, s)
    else
      let n := leafSpan level / 65536
      let tier := if storeOf key = .near then 0 else 1
      let page := va / leafSpan level * n
      let src := nbits e.toNat 16 27 / n * n
      if max 1 (s.rd (SHD_CFG.COW_MAX v.part)) < s.cowPages v.part + n then (.early, s)
      else if !s.canSupply v.part tier n then
        let f := s.allocFail v.part va tier (if s.overLimit v.part tier n then 0 else 1)
        match f.1 with | .fault c w => (.fault 0 0 c.toNat w, f.2) | _ => (.wait, f.2)
      else
        let got : Option (Nat × State) :=
          if level = 0 then (s.takeGranule v.part tier (nbits e.toNat 3 2) (BitVec.ofNat 3 (nbits e.toNat 5 3)) .copy).map (fun r => (r.1, r.2.2))
          else (s.freeRun tier n).map (fun g => (g, s.takeSpan g n ⟨v.part, 0, BitVec.ofNat 3 (nbits e.toNat 5 3), .copy⟩))
        match got with
        | none => let f := s.allocFail v.part va tier 1; match f.1 with | .fault c w => (.fault 0 0 c.toNat w, f.2) | _ => (.wait, f.2)
        | some (g, s) =>
          let s := (s.copyGranules src g n).setPte ea (setBitOf e 12 true)
          let s := s.modVq v.cp (fun q => { q with cow := ⟨page, n, g⟩ :: q.cow })
          (.ok (g * 65536 + va % leafSpan level), s)
  | _ => (.ok key, s)

/-- The key of the bytes of an element that a strip writes (R202, R214, R527). -/
def vAddr (v : RunEnv) (num : Nat) (d : DReg) (addr : Int) (n : Nat) (s : State) : VAcc Nat × State :=
  match boundsFault num d addr n with
  | some w => (.fault 0 0 cCap w, s)
  | none =>
    let va := addr.toNat
    let first := v.cow && (s.cowOf v.cp (va / 65536)).isNone
    let acc := v.access num d true
    let q := s.translate (if first then { acc with win := none } else acc) va
    match q.1 with
    | .fault c w => (.fault 0 0 c.toNat w, q.2)
    | .wait => (.wait, q.2)
    | .ok key => if first then cowFirst v va key q.2 else (.ok key, q.2)

/-- Element `i`, field `j` of a stream as memory or the bit space holds it. -/
def readElem (v : RunEnv) (num : Nat) (d : DReg) (i : Int) (j : Nat) (s : State) : VAcc Nat × State :=
  if d.space then
    let a := d.offset.toNat + i.toNat
    match s.readBit v.cp a with
    | (some b, s) => (.ok (b2n b), s)
    | (none, s) => (.fault 0 0 cPoison (poisonInfo a 3), s)
  else if d.etype = 0xA then
    let p := d.bitAddr i.toNat
    VAcc.andThen (vRead v num d p.1 1 s) (fun x s => (.ok (x / 2 ^ p.2 % 2), s))
  else vRead v num d (d.addr i j) (etypeSize d.etype.toNat) s

/-- The write of element `i`, field `j` of a stream. -/
def writeElem (v : RunEnv) (num : Nat) (d : DReg) (i : Int) (j : Nat) (x : Nat) (s : State) : VAcc Wr × State :=
  if d.space then (.ok (.space (d.offset.toNat + i.toNat) (x % 2 == 1)), s)
  else if d.etype = 0xA then
    let p := d.bitAddr i.toNat
    VAcc.andThen (vAddr v num d p.1 1 s) (fun k s => (.ok (.bit k p.2 (x % 2 == 1)), s))
  else
    let n := etypeSize d.etype.toNat
    VAcc.andThen (vAddr v num d (d.addr i j) n s) (fun k s => (.ok (.mem k n x), s))

/-- Results of earlier members of the strip: each destination with the elements it received, latest member first. -/
abbrev Fwd := List (DReg × List (Nat × Nat))

/-- The value that an earlier member of the strip gave an element, if any (R212). -/
def Fwd.find (f : Fwd) (d : DReg) (i : Nat) : Option Nat := f.findSome? (fun x => if x.1.geom d then mapFind x.2 i else none)

/-- A source or mask element of a member: forwarded, with the bounds of its own capability (R212), or read. -/
def source (v : RunEnv) (f : Fwd) (x : Strm × DReg) (i : Nat) (s : State) : VAcc Nat × State :=
  match if x.1.ew then f.find x.2 i else none with
  | some y =>
    let b := if x.2.space then none
      else if x.2.etype = 0xA then boundsFault x.1.num x.2 (x.2.bitAddr i).1 1
      else boundsFault x.1.num x.2 (x.2.addr i 0) (etypeSize x.2.etype.toNat)
    match b with
    | some w => (.fault 0 0 cCap w, s)
    | none => (.ok y, s)
  | none => readElem v x.1.num x.2 i 0 s

/-- What the elements of a member gave so far: writes, latest first; results by destination, element and value; leaves of a
reduction, latest first; flags; active elements. -/
structure MOut where
  wr : List Wr
  res : List (Nat × Nat × Nat)
  leaves : List (Option Nat)
  flags : Nat
  rank : Nat
  deriving DecidableEq, Repr

/-- Evaluate a list of steps in order. -/
def vAll {β : Type} (f : β → State → VAcc Nat × State) : List β → State → VAcc (List Nat) × State
  | [], s => (.ok [], s)
  | x :: xs, s => VAcc.andThen (f x s) (fun y s => VAcc.andThen (vAll f xs s) (fun ys s => (.ok (y :: ys), s)))

/-- The stream of a role, by its place among those of the role. -/
def strmAt (l : List (Strm × DReg)) (role : Role) (j : Nat) : Option (Strm × DReg) := (l.filter (fun x => x.1.role == role))[j]?

/-- A source element of a role, 0 where the instruction has no such stream. -/
def roleVal (v : RunEnv) (f : Fwd) (l : List (Strm × DReg)) (role : Role) (i : Nat) (s : State) : VAcc Nat × State :=
  match strmAt l role 0 with
  | some x => source v f x i s
  | none => (.ok 0, s)

/-- Hold the write of one destination element and note its value for later members. -/
def hold (v : RunEnv) (l : List (Strm × DReg)) (dst : Nat) (i : Nat) (idx : Int) (fld : Nat) (x : Nat) (m : MOut) (s : State) :
    VAcc MOut × State :=
  match (l.filter (fun y => y.1.dest))[dst]? with
  | none => (.ok m, s)
  | some y =>
    VAcc.andThen (writeElem v y.1.num y.2 idx fld x s) (fun w s =>
      (.ok { m with wr := w :: m.wr, res := (dst, i, x) :: m.res }, s))

/-- The index that an element of an index stream gives (R187). -/
def indexVal (x : Strm × DReg) (y : Nat) : Int := tyVal x.2.etype.toNat y

/-- One element of a member. `base` is the number of active elements of the strips below (R187, R222). -/
def elemRun (v : RunEnv) (e : VEntry) (l : List (Strm × DReg)) (base : Nat) (f : Fwd) (i : Nat) (m : MOut) (s : State) :
    VAcc MOut × State :=
  let op := e.op.toNat
  let t := e.v.ty.toNat
  let env := e.env
  let dt := match strmAt l .d 0 with | some x => x.2.etype.toNat | none => t
  let aty := match strmAt l .a 0 with | some x => x.2.etype.toNat | none => t
  VAcc.andThen (match strmAt l .m 0 with
    | some x => VAcc.andThen (source v f x i s) (fun y s => (.ok (b2n ((y == 1) != maskInv e.v)), s))
    | none => (.ok 1, s)) (fun act s =>
  let on := act == 1
  let next (m : MOut) : MOut := { m with rank := m.rank + act }
  if e.result.isSome ∧ op ≠ 0x0C0 then
    -- reductions
    if !on && !e.ct then (.ok { next m with leaves := none :: m.leaves }, s)
    else VAcc.andThen (roleVal v f l .a i s) (fun a s =>
      (.ok { next m with leaves := (if on then some a else none) :: m.leaves }, s))
  else if !on && !e.ct && op ≠ 0x054 then (.ok m, s)
  else if op = 0x0C0 then
    VAcc.andThen (roleVal v f l .a i s) (fun a s =>
      if !on then (.ok m, s)
      else VAcc.andThen (hold v l 0 i ((base + m.rank : Nat) : Int) 0 a m s) (fun m s => (.ok (next m), s)))
  else if op = 0x0C1 then
    VAcc.andThen (roleVal v f l .a (base + m.rank) s) (fun a s =>
      if !on then (.ok m, s) else VAcc.andThen (hold v l 0 i i 0 a m s) (fun m s => (.ok (next m), s)))
  else if op = 0x0C2 then
    VAcc.andThen (roleVal v f l .b i s) (fun b s =>
      match strmAt l .a 0, strmAt l .b 0 with
      | some x, some y =>
        VAcc.andThen (readElem v x.1.num x.2 (indexVal y b) 0 s) (fun a s =>
          if !on then (.ok m, s) else hold v l 0 i i 0 a m s)
      | _, _ => (.ok m, s))
  else if op = 0x0C3 then
    VAcc.andThen (roleVal v f l .a i s) (fun a s => VAcc.andThen (roleVal v f l .b i s) (fun b s =>
      match strmAt l .b 0 with
      | some y => if !on then (.ok m, s) else hold v l 0 i (indexVal y b) 0 a m s
      | none => (.ok m, s)))
  else if op = 0x0C4 then
    VAcc.andThen (roleVal v f l .a (e.vl.toNat - 1 - i) s) (fun a s => if !on then (.ok m, s) else hold v l 0 i i 0 a m s)
  else if op = 0x0E0 then
    match strmAt l .a 0 with
    | none => (.ok m, s)
    | some x =>
      VAcc.andThen (vAll (fun j s => readElem v x.1.num x.2 i j s) (List.range (e.ex.length + 1)) s) (fun ys s =>
        if !on then (.ok m, s)
        else ys.zipIdx.foldl (fun (r : VAcc MOut × State) y => VAcc.andThen r (fun m s => hold v l y.2 i i 0 y.1 m s)) (.ok m, s))
  else if op = 0x0E1 then
    VAcc.andThen (vAll (fun j s => match strmAt l .a j with | some x => source v f x i s | none => (.ok 0, s))
      (List.range (e.ex.length + 1)) s) (fun ys s =>
        if !on then (.ok m, s)
        else ys.zipIdx.foldl (fun (r : VAcc MOut × State) y => VAcc.andThen r (fun m s => hold v l 0 i i y.2 y.1 m s)) (.ok m, s))
  else if 1 < dotFactor op then
    let n := dotFactor op
    let grp (role : Role) (s : State) : VAcc (List Nat) × State :=
      vAll (fun j s => roleVal v f l role (n * i + j) s) (List.range n) s
    VAcc.andThen (grp .a s) (fun as s => VAcc.andThen (grp .b s) (fun bs s => VAcc.andThen (roleVal v f l .c i s) (fun c s =>
      let o := elemDot op t env as bs c
      if !on then (.ok m, s) else hold v l 0 i i 0 o.d { m with flags := m.flags ||| o.flags } s)))
  else if op = 0x054 ∧ !e.ct then
    VAcc.andThen (if on then roleVal v f l .a i s
      else match e.scalar with | some y => (.ok y.toNat, s) | none => roleVal v f l .b i s) (fun x s => hold v l 0 i i 0 x m s)
  else
    VAcc.andThen (roleVal v f l .a i s) (fun a s =>
    VAcc.andThen (match e.scalar with | some y => (.ok y.toNat, s) | none => roleVal v f l .b i s) (fun b s =>
    VAcc.andThen (roleVal v f l .c i s) (fun c s =>
      if op = 0x054 then hold v l 0 i i 0 (if on then a else b) m s
      else if !on then (.ok m, s)
      else
        let o := elemOp op t dt aty e.v.imm.toNat env a b c i
        VAcc.andThen (hold v l 0 i i 0 o.d { m with flags := m.flags ||| o.flags } s) (fun m s =>
          if e.ex.isEmpty then (.ok m, s) else hold v l 1 i i 0 o.x m s)))))

/-- The elements of a member in order, up to the first that does not complete. -/
def elemsRun (g : Nat → MOut → State → VAcc MOut × State) : List Nat → MOut → State → VAcc MOut × State
  | [], m, s => (.ok m, s)
  | i :: is, m, s =>
    match g i m s with
    | (.ok m, s) => elemsRun g is m s
    | (.fault mb _ c w, s) => (.fault mb i c w, s)
    | r => r

/-- The write that is left among several of one VSCATTER with UNORD to one element: a free choice (R188). -/
def unordered (ws : List Wr) (s : State) : List Wr × State :=
  let keyOf (w : Wr) : Nat := match w with | .mem k _ _ => k | .bit k p _ => 8 * k + p | .space a _ => a
  (ws.map keyOf).dedup.foldl (fun (r : List Wr × State) k =>
    let same := ws.filter (fun w => keyOf w == k)
    if same.length ≤ 1 then (r.1 ++ same, r.2)
    else let q := r.2.fresh; (r.1 ++ (same[q.1.toNat % same.length]?).toList, q.2)) ([], s)

/-- Whether a member of a group writes the mask of a VEXPAND of the group (R206). -/
def maskWritten (g : List VEntry) (e : VEntry) : Bool :=
  e.op == 0x0C1 && e.streams.any (fun x => x.1.role == .m &&
    g.any (fun w => w.streams.any (fun d => d.1.dest && (w.extentOf d).meets (e.extentOf x))))

/-- Whether a VSCATTER keeps the element of highest index (R188). -/
def VEntry.ordered (e : VEntry) : Bool := e.op == 0x0C3 && (e.v.imm.toNat % 2 == 0 || e.ct)

/-- Whether the strips of a group commit in ascending order (R180, R188, R222); a VEXPAND whose mask a member of its group writes learns
its counts from the strips below it too (R187, R206). -/
def ascending (g : List VEntry) : Bool :=
  g.any (fun e => e.op == 0x106 || e.op == 0x0C0 || e.ordered || e.stripOrder || maskWritten g e)

/-- Active elements that the strips below strip k recorded. -/
def VEntry.recorded (e : VEntry) (k : Nat) : Nat :=
  e.partials.foldl (fun t p => if p.1 < k then t + (match p.2.getD 0 none with | some w => w.toNat | none => 0) else t) 0

/-- The active elements of a list of numbers, read from a mask in memory or the bit space with the faults of the reads (R187, R202). -/
def activeIn (v : RunEnv) (x : Strm × DReg) (inv : Bool) : List Nat → Nat → State → VAcc Nat × State
  | [], n, s => (.ok n, s)
  | i :: is, n, s =>
    match readElem v x.1.num x.2 i 0 s with
    | (.ok y, s) => activeIn v x inv is (n + b2n ((y == 1) != inv)) s
    | (.fault m _ c w, s) => (.fault m i c w, s)
    | r => r

/-- The number of active elements below a strip that a VCOMPRESS or VEXPAND starts from: what the strips below recorded where they commit
first, else what the mask holds (R187, R222). -/
def baseCount (v : RunEnv) (g : List VEntry) (e : VEntry) (s : State) : VAcc Nat × State :=
  if e.op = 0x0C0 then (.ok (e.recorded v.k), s)
  else if e.op = 0x0C1 then
    match strmAt e.streams .m 0 with
    | none => (.ok v.lo, s)
    | some x => if ascending g then (.ok (e.recorded v.k), s) else activeIn v x (maskInv e.v) (List.range v.lo) 0 s
  else (.ok 0, s)

/-- What the members of a strip gave: writes in order, results to forward, the partial result of each member, and flags. -/
structure SOut where
  wr : List Wr
  fwd : Fwd
  parts : List (Option (List Leaf))
  flags : Nat
  deriving DecidableEq, Repr

/-- The flags of the sums that a strip of VRSUMO adds to those of the strips below it: they count with its commit (R201). -/
def VEntry.sumFlags (e : VEntry) (kind : Nat) (leaves : List Leaf) : Nat :=
  if e.op = 0x106 then (redFinish 0x106 kind e.v.ty.toNat e.env (e.partials.map (·.2) ++ [leaves])).2 else 0

/-- The members of a strip in queue order; an elided write is checked and translated, and moves no data (R206, R214, R220). -/
def membersRun (v : RunEnv) (g : List VEntry) : List (VEntry × Nat) → SOut → State → VAcc SOut × State
  | [], o, s => (.ok o, s)
  | (e, j) :: es, o, s =>
    let l := e.streams
    match VAcc.andThen (baseCount v g e s) (fun n s =>
      elemsRun (elemRun v e l n o.fwd) ((List.range (v.hi - v.lo)).map (fun i => v.lo + i)) ⟨[], [], [], 0, 0⟩ s) with
    | (.ok m, s) =>
      let op := e.op.toNat
      let kept := if elided g j then ((m.wr.zip m.res).filter (fun x => x.2.1 != 0)).map (·.1) else m.wr
      let ws := if op = 0x0C3 ∧ !e.ordered then unordered kept.reverse s else (kept.reverse, s)
      let dests := l.filter (fun x => x.1.dest)
      let fw : Fwd := if e.inOrderDest then dests.mapIdx (fun n x =>
        (x.2, (m.res.filter (fun r => r.1 == n)).map (fun r => r.2))) else []
      let red := match e.result with
        | some (k, _) => if op = 0x0C0 then ([some (BitVec.ofNat 64 m.rank)], 0)
            else
              let r := redStrip op k e.v.ty.toNat e.env v.lo m.leaves.reverse
              (r.1, r.2 ||| e.sumFlags k r.1)
        | none => ([some (BitVec.ofNat 64 m.rank)], 0)
      let part : Option (List Leaf) := if e.result.isSome ∨ op = 0x0C1 then some red.1 else none
      membersRun v g es { wr := o.wr ++ ws.1, fwd := fw ++ o.fwd, parts := o.parts ++ [part], flags := o.flags ||| m.flags ||| red.2 } ws.2
    | (.fault _ i c w, s) => (.fault j i c w, s)
    | (.wait, s) => (.wait, s)
    | (.early, s) => (.early, s)

/-- The first of the members whose queue entry is uncorrectable (R204, R242), read as the strip reads it. -/
def badEntry (s : State) (c : CpId) (g : List VEntry) : Option Nat × State :=
  g.zipIdx.foldl (fun (r : Option Nat × State) e =>
    if e.1.err = Err.zero ∨ r.1.isSome then r
    else
      let d := gridRead e.1.err (List.range 8)
      if d.poison then (some e.2, (r.2.capture (if d.marking then 12 else 1) c.val d.synd d.marking true e.2).bucket 1 (b2n !d.marking))
      else (none, r.2.bucket 0 d.fixed)) (none, s)

/-- Compute a strip of the oldest group of a CP on a pipe (R219, R220). -/
def State.runStrip (s : State) (c : CpId) (fl : Flight) (cow : Bool) : VAcc SOut × State :=
  let g := (s.cp c).vq.group
  let vl := match g with | e :: _ => e.vl.toNat | [] => 0
  let v : RunEnv :=
    { cp := c, part := (s.cpPart c).getD 0, cl := ⟨fl.pipe / 4 % 16, by omega⟩, k := fl.strip, lo := 1024 * fl.strip
      hi := min (1024 * fl.strip + 1024) vl, cow := cow }
  let b := badEntry s c g
  match b.1 with
  | some j => let q := b.2.fresh; (.fault j v.lo cPoison (poisonInfo q.1.toNat 3), q.2.bucket 12 1)
  | none =>
    let d := gridRead fl.err (List.range 8)
    if fl.err ≠ Err.zero ∧ d.poison then
      let q := ((b.2.capture 1 fl.pipe d.synd d.marking true fl.strip).bucket 1 1).fresh
      (.fault 0 v.lo cPoison (poisonInfo q.1.toNat 3), q.2.bucket 12 1)
    else
      let s := if fl.err = Err.zero then b.2 else b.2.bucket 0 d.fixed
      let u := State.ucStrip fl.pipe (g.map (fun e => (e.op.toNat, e.ct))) [] s
      if u.1 then
        let q := u.2.fresh
        (.fault 0 v.lo cPoison (poisonInfo q.1.toNat 3), q.2)
      else membersRun v g g.zipIdx ⟨[], [], [], 0⟩ u.2

/-- Apply one held write at the commit (R160, R220). -/
def State.applyWr (s : State) (c : CpId) (cl : ClusterId) (w : Wr) : State :=
  match w with
  | .mem k n v => s.writeBy (some cl) k (leBytes n v)
  | .bit k p b =>
    let r := s.readBy (some cl) k 1
    let x := setBitOf (r.2.byteAt k) p b
    let s := r.2.writeBy (some cl) k [x]
    if r.1.isSome ∧ storeOf k = .spad then s.poisonUnit k else s
  | .space a b => s.storeRamBit c a b

/-- The element just written commits poisoned (R242): its unit of memory, or its byte of the CP's bit RAM. -/
def State.poisonWr (s : State) (c : CpId) (w : Wr) : State :=
  match w with
  | .mem k _ _ | .bit k _ _ => s.poisonUnit k
  | .space a _ => s.poisonBit c a

/-- Apply the held writes of a strip; INJ_WBUF poisons the first element (R242). -/
def State.applyWrs (s : State) (c : CpId) (pipe : Nat) (ws : List Wr) : State :=
  ws.foldl (fun s w =>
    let s := s.applyWr c (Fin.ofNat 16 (pipe / 4)) w
    let i := s.inject 0x10 pipe
    if i.1 then
      let at_ := match w with | .mem k _ _ | .bit k _ _ => k | .space a _ => a
      ((i.2.poisonWr c w).capture 1 pipe 0xFF false true at_).bucket 1 1
    else s) s

end Sys2Proof.Machine
end

