-- ==== Sys2Proof/Machine/Sched.lean ====
section
/-! DEFINITION. The Issue Scheduler (R217 to R243): progress and completion, Shadow windows (R525 to R529), placement and
sharing, vector faults, the commands of VQ_CTL, and the lighting of pipes under Load Advance (R238 to R240, R495 to R498). -/

namespace Sys2Proof.Machine

/-! ### Shadow -/

/-- Whether Shadow is in force in a partition (R525, R529). -/
def State.shadowOn (s : State) (p : PartId) : Bool := (s.part p).rcd.any (·.shadow) && !s.rdB (SHD_STAT.UNSHADOWED p)

/-- The pair of a pipe: 2n + j for P(j) with P(j + 2) of CLn. -/
def pairOf (pipe : Nat) : Nat := pipe / 4 * 2 + pipe % 2

/-- Whether a pair is retired (R528). -/
def State.retired (s : State) (p : PartId) (pipe : Nat) : Bool := bitOf (s.reg (SHD_RETIRED.adr p)) (pairOf pipe)

/-- Whether any destination of a group meets a source or mask (R527). -/
def needsCow (g : List VEntry) : Bool :=
  let ds := g.flatMap (fun e => (e.streams.filter (fun x => x.1.dest)).map (fun x => e.extentOf x))
  let ss := g.flatMap (fun e => (e.streams.filter (fun x => !x.1.dest)).map (fun x => e.extentOf x))
  ds.any (fun d => ss.any (fun x => d.meets x))

/-- End a page of copies: keep the copy or the original, clear COW, free the other and shoot the page down (R527, R528). -/
def State.endCow (s : State) (p : PartId) (w : CowPage) (keep : Bool) : State :=
  match s.walk p (w.page * 65536) with
  | .leaf ea _ e =>
    let old := nbits e.toNat 16 27 / w.n * w.n
    let e := setBitOf e 12 ((List.range w.n).any (fun i => s.listed p (w.page + i)))
    let new : Word := if keep then (e &&& ~~~(lowMask 27 <<< 16)) ||| (BitVec.ofNat 64 w.copy <<< 16) else e
    let s := (s.setPte ea new).freeSpan (if keep then old else w.copy) w.n
    let s := if keep then s.modM (fun m => { m with granules := (List.range w.n).foldl (fun gs i =>
        match mapFind gs (w.copy + i) with | some x => mapInsert gs (w.copy + i) { x with use := .data } | none => gs) m.granules })
      else s
    s.shootdown p w.page w.n
  | _ => s

/-- The pipes that a partition's strips may use, in ascending number; under Shadow the primaries of pairs in service
(R225, R226, R525, R528). -/
def State.usable (s : State) (p : PartId) : List Nat :=
  (List.range 64).filter (fun n =>
    (s.part p).hasCl (n / 4) && decide (n % 4 < 2 ∨ (s.shed < 4 ∧ ¬ s.shadowOn p = true)) && !s.retired p n)

/-- Freeze a queue with a fault (R232, R242, R528); with VFI in force the VECTOR interrupt becomes pending (R233). -/
def State.freeze (s : State) (c : CpId) (x : VFault) : State :=
  let g := (s.cp c).vq.group
  let fpc := match g[x.member]? with | some e => e.pc | none => match g with | e :: _ => e.pc | [] => 0
  let s := s.modVq c (fun q => { q with
    flt := true, pend := true, faults := [], member := BitVec.ofNat 3 (if g[x.member]?.isSome then x.member else 0),
    fcause := x.cause, fpc := fpc, finfo := x.info, waiting := none, stolen := false })
  if (s.cp c).a.vfi then s.irq c 8 else s

/-- The Shadow compare of a window (R526, R528); the armed point INJ_SHADOW makes it differ when one of its pairs took part. -/
def State.shadowCompare (s : State) (c : CpId) : State :=
  match s.cpPart c with
  | none => s
  | some p =>
    let q := (s.cp c).vq
    if q.win.isEmpty ∧ q.cow.isEmpty then s
    else
      let s := s.cnt (SHD_COUNT.COMPARES p) 1
      let bad := (q.win.find? (fun f => s.armed 0x29 (pairOf f.pipe))).map (fun f => pairOf f.pipe)
      match bad with
      | none =>
        let s := q.cow.foldl (fun s w => s.endCow p w true) s
        s.modCp c (fun x => { x with
          a := (x.vq.entries.foldl (fun a e => a.orFlags e.flags.toNat) x.a)
          vq := { (x.vq.win.foldl (fun q f => q.show f.strip) x.vq) with
            win := [], cow := [], retries := 0
            entries := x.vq.entries.map (fun (e : VEntry) => { e with flags := 0 }) } })
      | some pr =>
        let s := q.cow.foldl (fun s w => s.endCow p w false) s.fired
        let s := ((s.cnt (SHD_COUNT.MISMATCH p) 1).bucket 15 1).detLost 6 ((fins 32).filter (fun x => s.cpPart x = some p))
        let s := s.modVq c (fun x => { x with
          win := [], cow := [], retries := x.retries + 1
          entries := x.entries.map (fun (e : VEntry) => { e with
            flags := 0, partials := e.partials.filter (fun t => !q.win.any (fun f => f.strip == t.1)) }) })
        if (s.cp c).vq.retries < max 1 (s.rd (SHD_CFG.RETRY p)) then s
        else
          let s := s.setReg (SHD_RETIRED.adr p) (setBitOf (s.reg (SHD_RETIRED.adr p)) pr true)
          let s := s.modPart p (fun x => { x with lit := setBitOf (setBitOf x.lit (pr / 2 * 4 + pr % 2) false) (pr / 2 * 4 + pr % 2 + 2) false })
          let s := s.modVq c (fun x => { x with retries := 0 })
          if (s.usable p).isEmpty then
            let f := s.fresh
            f.2.freeze c ⟨0, 0, 0, 0x0C, poisonInfo f.1.toNat 3⟩
          else s

/-- A stop of the queue: once nothing is in flight the window is compared (R526). -/
def State.stopCompare (s : State) (c : CpId) : State := if (s.cp c).vq.flights.isEmpty then s.shadowCompare c else s

/-! ### Commit and fault of a strip -/

/-- Whether a strip has committed, compared or not. -/
def VQueue.committed (q : VQueue) (k : Nat) : Bool := q.shows k || q.win.any (fun f => f.strip == k)

/-- The lowest strip that has not committed (R221). -/
def VQueue.sLo (q : VQueue) : Nat :=
  let lo := (q.lo.toNat + 1023) / 1024
  lo + ((List.range (65 + q.win.length)).findIdx? (fun j => !q.committed (lo + j))).getD 0

/-- The strips of the oldest group. -/
def VQueue.strips (q : VQueue) : Nat := match q.entries with | e :: _ => stripCount e.vl.toNat | [] => 0

/-- Record the partial results of a strip in its queue entries (R222). -/
def VQueue.record (q : VQueue) (k : Nat) (parts : List (Option (List Leaf))) : VQueue :=
  { q with entries := q.entries.mapIdx (fun j e =>
      match parts.getD j none with | some l => { e with partials := mapInsert e.partials k l } | none => e) }

/-- The progress store takes an injected error: corrected, or the queue freezes with its progress lost (R242). -/
def State.progInject (s : State) (c : CpId) (p : PartId) : State :=
  let i := s.inject 0x11 p.val
  if i.1 then
    let d := gridRead s.injMask (List.range 8)
    if d.poison then
      let f := ((i.2.capture 1 p.val d.synd d.marking true c.val).bucket 1 1).fresh
      f.2.modVq c (fun q => { q with faults := ⟨0, 8, 0, 0x0C, poisonInfo f.1.toNat 3⟩ :: q.faults })
    else i.2.bucket 0 d.fixed
  else s

/-- A strip committed on a pipe: writes, partial results, flags, counts and progress; then a Shadow compare where one is due,
and the completion of the group (R201, R220 to R222, R229, R241, R526). -/
def State.strippedOk (s : State) (c : CpId) (p : PartId) (fl : Flight) (o : SOut) : State :=
  let g := (s.cp c).vq.group
  let s := s.applyWrs c fl.pipe o.wr
  let s := (s.cnt (SCHED_STRIPS.COUNT p) 1).cnt (VQ_STRIPS.COUNT p c) 1
  let s := s.cnt (SCHED_ELIDED.COUNT p) ((List.range g.length).filter (fun j => elided g j)).length
  let s := s.modVq c (fun q => { (q.record fl.strip o.parts) with flights := q.flights.filter (fun f => f.strip ≠ fl.strip) })
  let s :=
    if s.shadowOn p then
      let s := s.modVq c (fun q => { q with
        win := fl :: q.win
        entries := q.entries.mapIdx (fun j e => if j = 0 then { e with flags := e.flags ||| BitVec.ofNat 8 o.flags } else e) })
      let q := (s.cp c).vq
      if q.strips ≤ q.sLo ∨ 1024 ≤ q.win.length ∨ (s.vqStopped c ∧ q.flights.isEmpty) then s.shadowCompare c else s
    else s.modCp c (fun x => { x with a := x.a.orFlags o.flags, vq := x.vq.show fl.strip })
  (s.progInject c p).vqRetire c

/-- STRIP_COMMIT: a strip in flight completes without fault and commits; a strip that meets a fault, that waits, or that must
follow a lower one, does not commit now (R220, R222; log entry 5, DESIGN CHOICE). -/
def execStripCommit (c0 : CpId) (k : BitVec 30) (s : State) : Out :=
  let c := s.lead c0
  let q := (s.cp c).vq
  match s.cpPart c, q.flights.find? (fun f => f.strip == k.toNat) with
  | some p, some fl =>
    let g := q.group
    if ascending g && q.sLo != k.toNat then .next s
    else
      let r := s.runStrip c fl (s.shadowOn p && needsCow g)
      match r.1 with
      | .ok o => .next (r.2.strippedOk c p fl o)
      | .early => .next (s.shadowCompare c)
      | .wait => .next s
      | .fault .. => .next s
  | _, _ => .next s

/-- STRIP_FAULT: a strip in flight meets a fault, commits nothing, and the fault is noted (R220, R232). Where the strips commit in
ascending order, those in flight above it cannot commit and leave their pipes with it (log entry 114, DESIGN CHOICE). -/
def execStripFault (c0 : CpId) (k : BitVec 30) (s : State) : Out :=
  let c := s.lead c0
  let q := (s.cp c).vq
  match s.cpPart c, q.flights.find? (fun f => f.strip == k.toNat) with
  | some p, some fl =>
    let g := q.group
    if ascending g && q.sLo != k.toNat then .next s
    else
      let r := s.runStrip c fl (s.shadowOn p && needsCow g)
      match r.1 with
      | .fault m i cause info =>
        .next (r.2.modVq c (fun q => { q with
          flights := if ascending g then [] else q.flights.filter (fun f => f.strip ≠ k.toNat)
          faults := ⟨k.toNat, m, i, BitVec.ofNat 8 cause, info⟩ :: q.faults }))
      | _ => .next s
  | _, _ => .next s

/-- Whether a fault comes before another (R232): the progress store first, then by strip, member and element. -/
def VFault.before (a b : VFault) : Bool :=
  if a.member = 8 then true else if b.member = 8 then false
  else decide (a.strip < b.strip) || (a.strip == b.strip && (decide (a.member < b.member) ||
    (a.member == b.member && decide (a.elem < b.elem))))

/-- VECTOR_QUEUE_FREEZE: with nothing left in flight, the window is compared and the lowest fault freezes the queue (R232,
R242). -/
def execVectorQueueFreeze (c0 : CpId) (s : State) : Out :=
  let c := s.lead c0
  let q := (s.cp c).vq
  match q.faults with
  | [] => .next s
  | f :: fs =>
    if !q.flights.isEmpty then .next s
    else
      let x := fs.foldl (fun a b => if b.before a then b else a) f
      let s := s.shadowCompare c
      let s := if x.member = 8 then s.modVq c (fun q => { q with
          lo := 0, map := 0, entries := q.entries.map (fun (e : VEntry) => { e with partials := [] }) }) else s
      .next (s.freeze c x)

/-! ### Load Advance: leads, ramps and parking (R238, R496, R498) -/

/-- LEAD_EXPIRY: the lead of a quadrant's announcement has elapsed; its pipes are lit and the ramp starts (R239, R496); at shed
level 4 only those still allowed (R511). -/
def execLeadExpiry (q : QuadId) (s : State) : Out :=
  if s.rdB (LA_STAT.LEAD q) then
    let on := s.pwr.la[q.val].pipes.filter (fun n => decide (n % 4 < 2 ∨ s.shed < 4))
    let s := (fins 16).foldl (fun s p => s.modPart p (fun x => { x with
      lit := on.foldl (fun w n => if x.hasCl (n / 4) then setBitOf w n true else w) x.lit })) s
    .next ((s.wr (LA_STAT.LEAD q) 0).wr (LA_STAT.RAMP q) 1)
  else .next s

/-- RAMP_END: the estimated current of a quadrant has reached its target; the pins return to 0 (R496). -/
def execRampEnd (q : QuadId) (s : State) : Out :=
  if s.rdB (LA_STAT.RAMP q) then
    .next (((s.wr (LA_STAT.RAMP q) 0).wr (LA_STAT.CODE q) 0).modLa q (fun l => { l with pipes := [], step := 0, hold0 := true }))
  else .next s

/-- LDADV_ZERO_HOLD_END: the pins have held 0 for 50 ns; a step that waited is announced (R496). -/
def execLdadvZeroHoldEnd (q : QuadId) (s : State) : Out :=
  let w := s.pwr.la[q.val].wait
  .next ((s.modLa q (fun l => { l with hold0 := false, wait := [] })).announce q w)

/-- LDADV_READBACK_FAULT: the driver of a quadrant is turned off and pacing falls to 50 A/µs at once (R498, R645). -/
def execLdadvReadbackFault (q : QuadId) (s : State) : Out :=
  .next ((((s.wr (LA_STAT.DRV_OFF q) 1).wr (LA_STAT.CODE q) 0).useRate q 50).bucket 20 1)

/-- Strips that a partition's CPs have in flight on a pipe; under Shadow a strip holds both pipes of its pair. -/
def State.onPipe (s : State) (p : PartId) (pipe : Nat) : Nat :=
  let sh := s.shadowOn p
  (s.cpsOf p).foldl (fun n c => n + ((s.cp c).vq.flights.filter (fun f =>
    f.pipe == pipe || (sh && f.pipe + 2 == pipe))).length) 0

/-- Whether a partition with DET keeps its pipes lit: a CP of it has MODE.DET = 1 (R620). -/
def State.keepsLit (s : State) (p : PartId) : Bool :=
  (s.part p).rcd.any (·.det) && (s.cpsOf p).any (fun c => (s.cp c).a.det)

/-- A lit pipe that holds no strip parks: for lack of work, which PARK_IDLE of 0 excludes while a CP of the partition is out of reset, and
MODE.DET in a partition with DET, or because it must; the parking waits while a crossing queue into the quadrant holds entries (R28, R238,
R620). -/
def State.parkPipe (s : State) (pipe : Nat) (must : Bool) : State :=
  (fins 16).foldl (fun s p =>
    let out := (s.cpsOf p).any (fun c => (s.cp c).run != .inReset)
    if bitOf (s.part p).lit pipe && s.onPipe p pipe == 0 && !s.mesh.crossing (pipe / 16) &&
        (must || !((s.rd (SCHED_CFG.PARK_IDLE p) == 0 && out) || s.keepsLit p)) then
      s.modPart p (fun x => { x with lit := setBitOf x.lit pipe false })
    else s) s

/-- PIPE_PARK: a pipe has held no strip for PARK_IDLE µs; P2 and P3 at shed level 4 park as soon as they hold none (R226, R238). -/
def execPipePark (pipe : Fin 64) (s : State) : Out :=
  .next (s.parkPipe pipe.val (decide (4 ≤ s.shed) && decide (2 ≤ pipe.val % 4)))

/-! ### Placement and sharing -/

/-- A cluster of the partition in place of a home outside it: the fewest hops away, the lowest number on a tie (R223). -/
def Part.homeIn (x : Part) (n : Nat) : Nat :=
  if x.hasCl n then n
  else ((List.range 16).filter x.hasCl).foldl (fun b m => if b = 16 ∨ meshHops n m < meshHops n b then m else b) 16

/-- The first memory stream of a group's first member, in the order D, A, B, C (R223). -/
def firstStream (g : List VEntry) : Option DReg :=
  match g with
  | [] => none
  | e :: _ => [e.dD, e.dA, e.dB, e.dC].findSome? (fun d => d.filter (fun (x : DReg) => !x.space))

/-- Where placement finds the byte at an address: none where the translation of an access would fault, a traced bank of a scratchpad and
an uncorrectable table entry of the walk among them (R223). -/
def State.homeKey (s : State) (cl : ClusterId) (p : PartId) (va : Nat) : Option Nat :=
  if spadWin ≤ va ∧ va < spadWin + 0x4000000 ∧
      s.rdB (SPAD_CFG.TRACE ((va - spadWin) / 0x400000)) ∧ 24 ≤ nbits (va - spadWin) 17 5 then none
  else
    let mapped := !(spadWin ≤ va ∧ va < spadWin + 0x4000000) && !(progWin ≤ va ∧ va < progWin + 0x2000000)
    if mapped && !(s.tlbHit cl p (va / 65536)).1 && ((s.part p).root.any (fun r => (s.walkReads (s.walkPath va r 3)).1.isSome)) then none
    else s.peekKey p va

/-- The home clusters of a strip; none where it has no home (R223). -/
def State.homes (s : State) (c : CpId) (p : PartId) (k : Nat) : Option (List Nat) :=
  let own := [c.val / 2]
  let x := s.part p
  let raw : Option (List Nat) :=
    match firstStream (s.cp c).vq.group with
    | none => some own
    | some d =>
      let va : Int := if d.etype = 0xA then (d.bitAddr (1024 * k)).1 else d.addr (1024 * k : Nat) 0
      if va < 0 ∨ (2 ^ 56 : Int) ≤ va then some own
      else match s.homeKey (clOf c) p va.toNat with
        | none => some own
        | some key =>
          match storeOf key with
          | .near =>
            let st := (s.nearAt key).1
            let il := (s.granLay key).1
            if il = 2 then some [st] else if il = 1 then some ((List.range 4).map (fun i => st / 4 * 4 + i)) else none
          | .cellar => some ((List.range 4).map (fun i => (s.celAt key).1 / 2 * 4 + i))
          | .spad => some [(key - spadBase) / 0x400000]
          | .pram => some own
  raw.map (fun l => l.map x.homeIn)

/-- Whether the oldest group of a CP writes memory (R542). -/
def State.groupWrites (s : State) (c : CpId) : Bool := (s.cp c).vq.group.any (fun e => !e.dests.isEmpty)

/-- Whether dispatch fills at most half of the slots: at shed level 2 and above, under the duty cap, and for groups that write
memory under Mirror pressure (R226, R500, R542). -/
def State.halfDuty (s : State) (c : CpId) : Bool :=
  decide (2 ≤ s.shed) || s.rdB PWR_STAT.CAPPED ||
    (s.rd PAIR_STAT.ROLE == 1 && decide (s.pressLimit < s.pressPages) && s.groupWrites c)

/-- Whether a pipe is lit and free: it holds fewer than two strips, or none where dispatch fills at most half of the slots
(R224). -/
def State.pipeFree (s : State) (p : PartId) (half : Bool) (pipe : Nat) : Bool :=
  bitOf (s.part p).lit pipe && decide (s.onPipe p pipe < if half then 1 else 2)

/-- Where a strip goes now: a pipe and whether it is a home (R222, R224, R225); none while it waits. -/
def State.place (s : State) (c : CpId) (p : PartId) (k : Nat) : Option (Nat × Bool) :=
  let q := (s.cp c).vq
  let g := q.group
  let half := s.halfDuty c
  let us := s.usable p
  let fixed := g.any (fun e => e.ct || e.det) || s.rdB (SCHED_CFG.STATIC p)
  match (q.onePipe.filter (fun n => us.contains n)) with
  | some n => if s.pipeFree p half n then some (n, false) else none
  | none =>
    if fixed then
      match us[k % us.length]? with
      | some n => if s.pipeFree p half n then some (n, false) else none
      | none => none
    else
      let any : Option (Nat × Bool) := (us.find? (fun n => s.pipeFree p half n)).map (fun n => (n, false))
      match if s.rdB (SCHED_CFG.LOCAL p) then s.homes c p k else none with
      | none => any
      | some hs =>
        match us.find? (fun n => hs.contains (n / 4) && s.pipeFree p half n) with
        | some n => some (n, true)
        | none =>
          if q.stolen ∧ q.waiting = some k then
            match us.find? (fun n => hs.any (fun h => h / 4 == n / 16) && s.pipeFree p half n) with
            | some n => some (n, false)
            | none => any
          else none

/-- The strip that a CP's queue would dispatch next: the lowest that has neither committed nor is in flight, inside the window
of R221; none where dispatch is held or the group waits for STRIP_GO (R208, R221, R422). -/
def State.readyStrip (s : State) (c : CpId) : Option Nat :=
  let q := (s.cp c).vq
  if !q.oldestClosed || s.vqStopped c || (s.cp c).run == .inReset then none
  else if bitOf (s.reg EVT_STRIPGATE.adr) c.val && !q.go && !bitOf s.evt.stripGo c.val then none
  else
    let lo := q.sLo
    (List.range 65).findSome? (fun j =>
      let k := lo + j
      if k < q.strips ∧ !q.committed k ∧ !q.flights.any (fun f => f.strip == k) then some k else none)

/-- The weight of a CP in its partition's rounds; CPs under MODE.DET in a Deterministic partition rotate equally (R227). -/
def State.weight (s : State) (p : PartId) (c : CpId) : Nat :=
  if (s.part p).rcd.any (·.det) && (s.cp c).a.det then 1 else s.rd (VQ_WEIGHT.WEIGHT p c)

/-- Whether a CP is urgent (R227). -/
def State.urgent (s : State) (p : PartId) (c : CpId) : Bool :=
  s.rdB (VQ_WEIGHT.URGENT p c) && !((s.part p).rcd.any (·.det) && (s.cp c).a.det)

/-- The CP of a partition that holds the turn among the urgent CPs or among the others (R227). -/
def Part.turnOf (x : Part) (urg : Bool) : Nat := if urg then x.turnUrg else x.turnCp

/-- The order in which ready CPs are served now (R227): urgent CPs first; among those of one kind, which has its own rounds, the rest of
this round in ascending number, then a new round. CPs of weight 0 come when no ready CP has another weight, the urgent ones when no ready
urgent CP has (log entry 119, DEDUCED). Each with whether serving it starts a new round. -/
def State.serveOrder (s : State) (p : PartId) (cs : List CpId) : List (CpId × Bool) :=
  let some_ (l : List CpId) : Bool := l.any (fun c => s.weight p c != 0)
  let rank (urg : Bool) (l : List CpId) (zeros : Bool) : List (CpId × Bool) :=
    let pos := l.filter (fun c => s.weight p c != 0)
    let cur := pos.filter (fun c => decide ((s.part p).turnOf urg ≤ c.val) && decide ((s.cp c).vq.turn < s.weight p c))
    cur.map (fun c => (c, false)) ++ (pos.filter (fun c => !cur.contains c)).map (fun c => (c, true)) ++
      (if zeros then l.map (fun c => (c, true)) else [])
  let us := cs.filter (s.urgent p)
  rank true us (!some_ us) ++ rank false (cs.filter (fun c => !s.urgent p c)) (!some_ cs)

/-- Parked pipes that a strip wants lit: the one that fixes it, else as many of the usable ones as strips await dispatch, homes
first (R225, R239, R240; log entry 19, DESIGN CHOICE). Under Shadow both pipes of a pair. -/
def State.wanted (s : State) (c : CpId) (p : PartId) (k : Nat) : List Nat :=
  let q := (s.cp c).vq
  let us := s.usable p
  let fixed := q.group.any (fun e => e.ct || e.det) || s.rdB (SCHED_CFG.STATIC p)
  let parked (l : List Nat) : List Nat := l.filter (fun n => !bitOf (s.part p).lit n)
  let l :=
    match q.onePipe.filter (fun n => us.contains n) with
    | some n => parked [n]
    | none =>
      if fixed then parked (us[k % us.length]?).toList
      else
        let hs := (if s.rdB (SCHED_CFG.LOCAL p) then s.homes c p k else none).getD []
        let l := parked (us.filter (fun n => hs.contains (n / 4))) ++ parked (us.filter (fun n => !hs.contains (n / 4)))
        l.take (q.strips - k)
  if s.shadowOn p then l.flatMap (fun n => [n, n + 2]) else l

/-- Dispatch a strip of a CP to a pipe: its turn, STRIP_GO, the end of an unshadowed spell at the start of a group, and INJ_DISP
(R227, R242, R422, R529). -/
def State.dispatch (s : State) (c : CpId) (p : PartId) (k pipe : Nat) (home round : Bool) : State :=
  let urg := s.urgent p c
  let s := if round then
      ((s.cpsOf p).filter (fun d => s.urgent p d == urg)).foldl (fun s d => s.modVq d (fun q => { q with turn := 0 })) s
    else s
  let s := s.modPart p (fun x => if urg then { x with turnUrg := c.val } else { x with turnCp := c.val })
  let q := (s.cp c).vq
  let gated := bitOf (s.reg EVT_STRIPGATE.adr) c.val && !q.go
  let s := if gated then (s.modE (fun e => { e with stripGo := setBitOf e.stripGo c.val false })).latchOut (0x2000 + c.val) else s
  let fresh := q.lo == 0 && q.map == 0 && q.flights.isEmpty && q.win.isEmpty
  let s := if fresh && decide (s.shed < 3) then s.wr (SHD_STAT.UNSHADOWED p) 0 else s
  let i := s.inject 0x12 pipe
  let fl : Flight := ⟨k, pipe, if i.1 then s.injMask else Err.zero⟩
  let one := q.group.any (fun e => e.op == 0x106)
  let s := i.2.modVq c (fun q => { q with
    flights := q.flights ++ [fl], turn := q.turn + 1, waiting := none, stolen := false, go := true
    onePipe := if one then some pipe else none })
  if home then s.cnt (SCHED_LOCAL.COUNT p) 1 else s

/-- Shadow resumes below shed level 3 once no group that started unshadowed is left (R529). -/
def State.shadowBack (s : State) (p : PartId) : State :=
  if s.shed < 3 ∧ s.rdB (SHD_STAT.UNSHADOWED p) ∧
      (s.cpsOf p).all (fun c => let q := (s.cp c).vq; q.lo == 0 && q.map == 0 && q.flights.isEmpty) then
    s.wr (SHD_STAT.UNSHADOWED p) 0
  else s

/-- STRIP_DISPATCH: the Scheduler of a partition completes groups without strips left, and sends one strip of the CP whose
turn it is to a pipe; strips that find no pipe wait, and parked pipes are announced (R221 to R228, R239). -/
def execStripDispatch (p : PartId) (s : State) : Out :=
  let s := ((s.cpsOf p).foldl (fun s c => s.vqSettle c) s).shadowBack p
  let s := if s.pair.pressHold ∧ (s.cpsOf p).any (fun c => s.groupWrites c) then s.detLost 8 (s.cpsOf p) else s
  let ready := (s.cpsOf p).filter (fun c => (s.readyStrip c).isSome)
  let order := s.serveOrder p ready
  let pick := order.findSome? (fun x => match s.readyStrip x.1 with
    | some k => (s.place x.1 p k).map (fun r => (x.1, k, r, x.2))
    | none => none)
  let s := order.foldl (fun s x => match s.readyStrip x.1 with
    | some k =>
      if (s.place x.1 p k).isSome then s
      else (s.light (s.wanted x.1 p k)).modVq x.1 (fun q => { q with
        waiting := some k, stolen := if q.waiting = some k then q.stolen else false })
    | none => s) s
  match pick with
  | some (c, k, (pipe, home), round) => .next (s.dispatch c p k pipe home round)
  | none => .next s

/-- STEAL_WAIT_EXPIRY: the strip that waits for a home pipe may go elsewhere (R224). -/
def execStealWaitExpiry (c0 : CpId) (s : State) : Out :=
  let c := s.lead c0
  .next (s.modVq c (fun q => { q with stolen := q.waiting.isSome }))

/-- CHAIN_WAIT_EXPIRY: the open group closes (R208). -/
def execChainWaitExpiry (c0 : CpId) (s : State) : Out :=
  let c := s.lead c0
  .next (if (s.cp c).vq.isOpen then (s.modVq c VQueue.close).vqSettle c else s)

/-! ### The commands of VQ_CTL (R236, R237) -/

/-- Set STATE and RESULT of VQ_CTL. -/
def State.vqResult (s : State) (c : CpId) (st res : Nat) : State :=
  match s.cpPart c with
  | some p => (s.wr (VQ_CTL.STATE p c) st).wr (VQ_CTL.RESULT p c) res
  | none => s

/-- RESUME. -/
def State.vqResume (s : State) (c : CpId) : State :=
  let q := (s.cp c).vq
  if q.flt ∧ !q.pend then ((s.modVq c (fun q => { q with flt := false })).vqResult c 2 0).vqSettle c
  else s.vqResult c 3 1

/-- Whether STOP, or a debug freeze with nothing left in flight, holds a queue (R231, R236, R241). -/
def State.stopShown (s : State) (c : CpId) : Bool := (s.cp c).vq.stop || (s.dbgHolds c && (s.cp c).vq.flights.isEmpty)

/-- FLUSH; an emptied queue fires its line (R420). STOP and the hold of a debug freeze end with it, as with VSAVE, START and VRESTORE
(log entry 119, DEDUCED). -/
def State.vqFlush (s : State) (c : CpId) : State :=
  let q := (s.cp c).vq
  if q.flt ∨ s.stopShown c then
    let s := (s.modVq c (fun _ => { VQueue.reset with thaw := s.dbgHolds c })).vqResult c 2 0
    if q.entries.isEmpty then s else s.fire (0x1A0 + c.val)
  else s.vqResult c 3 1

/-- Take a save slot's granule when its group of four has none: none when it cannot be taken (R237). -/
def State.slotGranule (s : State) (p : PartId) (slot : Nat) : Option State :=
  if (mapFind (s.part p).slotGrans (slot / 4)).isSome then some s
  else if !s.canSupply p 0 1 then none
  else match (s.part p).rcd with
    | none => none
    | some r =>
      (s.takeGranule p 0 r.il.toNat r.hash .slot).map (fun t =>
        t.2.2.modPart p (fun x => { x with slotGrans := mapInsert x.slotGrans (slot / 4) t.1 }))

/-- A STOP or VSAVE that waited finds nothing in flight: the window is compared, and the queue stops or goes into its slot. -/
def State.vqDrained (s : State) (c : CpId) : State :=
  let q := (s.cp c).vq
  if !q.flights.isEmpty then s
  else if q.stopping then
    (((s.shadowCompare c).modVq c (fun q => { q with stopping := false, stop := true })).vqResult c 2 0).vqRetire c
  else match q.saving, s.cpPart c with
    | some slot, some p =>
      let s := (s.shadowCompare c).vqRetire c
      match s.slotGranule p slot.val with
      | none => (s.modVq c (fun q => { q with saving := none, stop := true })).vqResult c 3 2
      | some s =>
        let img := { (s.cp c).vq with saving := none, stopping := false, stop := false, thaw := false, waiting := none, stolen := false, turn := 0 }
        let s := s.modPart p (fun x => { x with slots := ⟨slot, img⟩ :: x.slots.filter (fun t => t.slot ≠ slot) })
        let s := (s.modVq c (fun _ => { VQueue.reset with thaw := s.dbgHolds c })).vqResult c 2 0
        if img.entries.isEmpty then s else s.fire (0x1A0 + c.val)
    | _, _ => s

/-- STOP. -/
def State.vqStop (s : State) (c : CpId) : State :=
  ((s.modVq c (fun q => { q with stopping := true })).vqResult c 1 0).vqDrained c

/-- START. -/
def State.vqStart (s : State) (c : CpId) : State :=
  if s.stopShown c then ((s.modVq c (fun q => { q with stop := false, thaw := s.dbgHolds c })).vqResult c 2 0).vqSettle c
  else s.vqResult c 3 1

/-- VSAVE. -/
def State.vqSave (s : State) (c : CpId) (slot : Fin 64) : State :=
  ((s.modVq c (fun q => { q with saving := some slot })).vqResult c 1 0).vqDrained c

/-- VRESTORE: the entries are written with fresh check bits, the first with the armed point INJ_VQE (R204); a pending fault stays pending, as an interrupt where VFI is in force (R233, R236). -/
def State.vqRestore (s : State) (c : CpId) (slot : Fin 64) : State :=
  if !(s.cp c).vq.entries.isEmpty then s.vqResult c 3 1
  else match s.cpPart c with
    | none => s
    | some p =>
      match (s.part p).slots.find? (fun t => t.slot == slot) with
      | none => s.vqResult c 3 3
      | some t =>
        let i := if t.vq.entries.isEmpty then (false, s) else s.inject 0x0F c.val
        let e := if i.1 then s.injMask else Err.zero
        let es := t.vq.entries.mapIdx (fun j (x : VEntry) => if j = 0 then { x with err := e } else { x with err := Err.zero })
        let s := (i.2.modVq c (fun _ => { t.vq with entries := es, thaw := s.dbgHolds c })).vqResult c 2 0
        let s := if t.vq.pend && (s.cp c).a.vfi then s.irq c 8 else s
        s.vqSettle c

/-- DISCARD. -/
def State.vqDiscard (s : State) (c : CpId) (slot : Fin 64) : State :=
  match s.cpPart c with
  | none => s
  | some p =>
    if (s.part p).slots.any (fun t => t.slot == slot) then
      (s.modPart p (fun x => { x with slots := x.slots.filter (fun t => t.slot ≠ slot) })).vqResult c 2 0
    else s.vqResult c 3 3

/-- A command of VQ_CTL for a CP: ignored while STATE is busy; it closes an open group (R208, R236). -/
def State.vqCommand (s : State) (c0 : CpId) (cmd : Nat) (slot : Fin 64) : State :=
  let c := s.lead c0
  match s.cpPart c with
  | none => s
  | some p =>
    if s.rd (VQ_CTL.STATE p c) = 1 then s
    else if cmd = 0 ∨ 7 < cmd then s
    else
      let s := (s.wr (VQ_CTL.SLOT p c) slot.val).modVq c VQueue.close
      if cmd = 1 then s.vqResume c
      else if cmd = 2 then s.vqFlush c
      else if cmd = 3 then s.vqStop c
      else if cmd = 4 then s.vqStart c
      else if cmd = 5 then s.vqSave c slot
      else if cmd = 6 then s.vqRestore c slot
      else s.vqDiscard c slot

/-- The slot that VQ_CTL holds for a CP. -/
def State.vqSlot (s : State) (c0 : CpId) : Fin 64 :=
  let c := s.lead c0
  match s.cpPart c with | some p => ⟨s.rd (VQ_CTL.SLOT p c) % 64, by omega⟩ | none => 0

/-- RESUME (R236). -/
def execVqResume (c : CpId) (s : State) : Out := .next (s.vqCommand c 1 (s.vqSlot c))
/-- FLUSH (R236). -/
def execVqFlush (c : CpId) (s : State) : Out := .next (s.vqCommand c 2 (s.vqSlot c))
/-- STOP (R236). -/
def execVqStop (c : CpId) (s : State) : Out := .next (s.vqCommand c 3 (s.vqSlot c))
/-- A STOP or VSAVE completes once nothing is in flight (R236). -/
def execVqStopDone (c : CpId) (s : State) : Out := .next (s.vqDrained (s.lead c))
/-- START (R236). -/
def execVqStart (c : CpId) (s : State) : Out := .next (s.vqCommand c 4 (s.vqSlot c))
/-- VSAVE (R236, R237). -/
def execVsave (c : CpId) (slot : Fin 64) (s : State) : Out := .next (s.vqCommand c 5 slot)
/-- VRESTORE (R236, R237). -/
def execVrestore (c : CpId) (slot : Fin 64) (s : State) : Out := .next (s.vqCommand c 6 slot)
/-- DISCARD (R236, R237). -/
def execVqDiscard (c : CpId) (slot : Fin 64) (s : State) : Out := .next (s.vqCommand c 7 slot)

end Sys2Proof.Machine
end

