-- ==== Sys2Proof/Machine/PageCtl.lean ====
section
/-! DEFINITION. The paging block as it acts on its own and under its commands: zeroing (R135), revocation sweeps (R141 to R143),
Turning (R144 to R148), PG_HINT (R149), shootdowns (R150) and the heap window (R153). -/

namespace Sys2Proof.Machine

/-! ### Zeroing -/

/-- GRANULE_ZEROED: one more granule of a tier is zeroed, up to the pool's target and the free granules (R135). -/
def execGranuleZeroed (tier : Tier) (s : State) : Out :=
  let t := s.rd ZPOOL.TARGET
  .next (s.modM (fun m => match tier with
    | .near => { m with zNear := min (min t (s.freeGran 0)) (m.zNear + 1) }
    | .cellar => { m with zCellar := min (min t (s.freeGran 1)) (m.zCellar + 1) }))

/-! ### Revocation -/

/-- The partition whose active set judges the capability of a granule of 16 bytes (R141). -/
def State.tagOwner (s : State) (g : Nat) : Option PartId :=
  let key := 16 * g
  match storeOf key with
  | .near | .cellar => (mapFind s.mst.granules (key / 65536)).map (·.owner)
  | .spad => (fins 16).find? (fun p => (s.part p).hasCl ((key - spadBase) / 0x400000))
  | .pram => none

/-- The capability that a granule holds. -/
def State.capAt (s : State) (g : Nat) : Cap := ⟨BitVec.ofNat 128 (leNat (s.bytesAt (16 * g) 16)), s.tagAt g⟩

/-- The sweeper reads the tag of a granule, and clears it where the capability meets its partition's active set (R141, step 3). -/
def State.sweepGranule (s : State) (g : Nat) : State :=
  match s.tagOwner g with
  | none => s
  | some p =>
    let t := s.readTag g
    if t.1 && !((t.2.capAt g).purge (t.2.part p).qActive).tag then t.2.writeTag g false else t.2

/-- The sweep of memory and scratchpads: every capability that meets its partition's active set loses its tag (R141, step 3). -/
def State.sweepTags (s : State) : State :=
  s.tags.foldl (fun s e => s.sweepGranule e.1) s

/-- Remove the leaves of freed ranges from a partition's table (R141, step 5). -/
def State.dropLeaves (s : State) (p : PartId) : State :=
  ((s.part p).qActive.flatMap (fun r => s.leavesIn p (r.1 + r.2) 0x1000000 r.1)).foldl (fun s l =>
    if bitOf l.2.2.2 14 then s.setPte l.2.1 0 else s) s

/-- Whether a vector queue, in force or saved, holds instructions from before the open epoch that have neither completed nor faulted:
those behind a faulted group wait too (R141, R232). -/
def VQueue.sweepHeld (q : VQueue) : Bool := if q.flt then decide (q.group.length < q.preSweep) else decide (q.preSweep ≠ 0)

/-- SWEEP_EPOCH_CLOSE: the pass is complete and the vector work queued before the epoch has completed or faulted, work in save slots
included (log entry 104, DEDUCED); the ranges join the reuse lists, and a waiting next set opens the next epoch (R141). -/
def execSweepEpochClose (s : State) : Out :=
  if !s.rdB REV_STAT.OPEN || s.sweepPaused || s.cps.any (fun x => x.vq.sweepHeld) ||
      s.parts.any (fun x => x.slots.any (fun t => t.vq.sweepHeld)) then .next s
  else
    let s := (fins 16).foldl (fun s p => s.qsetRead p) s.sweepTags
    let s := (fins 16).foldl (fun s p =>
      (s.dropLeaves p).modPart p (fun x => { x with reuse := x.qActive.foldl addRange x.reuse, qActive := [] })) s
    .next ((((s.wr REV_STAT.OPEN 0).wr REV_STAT.PAUSED 0).wr REV_CTL.SWEEP_NOW 0).openEpoch)

/-- SWEEP_NOW (R141). -/
def execSweepNow (s : State) : Out := .next (s.wr REV_CTL.SWEEP_NOW 1)

/-! ### Turning -/

/-- All leaves of a partition. -/
def State.leaves (s : State) (p : PartId) : List (Nat × Nat × Nat × Word) := s.leavesIn p (2 ^ 56) 0x1000000 0x10000

/-- The cluster with the most samples of a page, the lowest number on a tie; none without samples (R144). -/
def topCluster (l : List HeatSample) (p : PartId) (page n : Nat) : Option Nat :=
  let of (c : Nat) : Nat := (l.filter (fun x => x.part == p && decide (page ≤ x.page) && decide (x.page < page + n) && x.cl.val == c)).length
  let b := (List.range 16).foldl (fun b c => if of b < of c then c else b) 0
  if of b = 0 then none else some b

/-- The samples of a period are read from their buffer: an error is corrected, or the sample is lost and the error reported (R154, R347,
R348). -/
def State.readSamples (s : State) : List HeatSample × State :=
  s.mst.samples.foldr (fun x (r : List HeatSample × State) =>
    if x.err = Err.zero then (x :: r.1, r.2)
    else
      let d := gridRead x.err (List.range 8)
      if d.poison then (r.1, (r.2.capture 1 x.cl.val d.synd d.marking true x.page).bucket 1 1)
      else (x :: r.1, r.2.bucket 0 d.fixed)) ([], s)

/-- HEAT_PERIOD_END: LCL is written, every HEAT is halved and A starts again; Turning may move the pages of the partitions released before
(R130, R144, R155; log entry 105, DESIGN CHOICE: the period under way at the release is the first). -/
def execHeatPeriodEnd (s : State) : Out :=
  let q := s.readSamples
  let sm := q.1
  let s := { q.2 with parts := q.2.parts.map (fun (x : Part) => { x with turnOn := x.root.isSome }) }
  let s := (fins 16).foldl (fun s p => (s.leaves p).foldl (fun s l =>
    let e := l.2.2.2
    let n := leafSpan l.2.2.1 / 65536
    let e := match topCluster sm p (l.1 / leafSpan l.2.2.1 * n) n with
      | some c => (e &&& ~~~(0xF#64 <<< 43)) ||| (BitVec.ofNat 64 c <<< 43)
      | none => e
    let e := (e &&& ~~~(0xFF#64 <<< 48)) ||| (BitVec.ofNat 64 (nbits e.toNat 49 7) <<< 48)
    s.setPte l.2.1 (setBitOf e 11 false)) s) s
  .next (s.modM (fun m => { m with samples := [] }))

/-- Whether the near tier's free share is at or above LOWATER, once n more granules are taken (R145). -/
def State.aboveLow (s : State) (n : Nat) : Bool := decide (s.rd TURN_CFG.LOWATER * s.mst.nearGran + 100 * n ≤ 100 * s.freeGran 0)

/-- Pages that have moved in the millisecond of the present time (R145). -/
def State.movedNow (s : State) : Nat := if s.mst.turned.1 = s.now / 1000000 then s.mst.turned.2 else 0

/-- Whether a leaf may move at all (R145). -/
def turnable (e : Word) (level : Nat) : Bool :=
  level == 0 && bitOf e 0 && !bitOf e 12 && !bitOf e 13 && !bitOf e 14 && !bitOf e 15

/-- Whether a partition has a hot Cellar page that the near tier cannot take (R145). -/
def State.hotWaits (s : State) (p : PartId) : Bool :=
  !(s.canSupply p 0 1 && s.aboveLow 1) && (s.leaves p).any (fun l =>
    turnable l.2.2.2 l.2.2.1 && bitOf l.2.2.2 2 && !bitOf l.2.2.2 8 && !bitOf l.2.2.2 9 &&
      decide (s.rd TURN_CFG.UP ≤ nbits l.2.2.2.toNat 48 8))

/-- What Turning would do with a page: the tier it goes to, and whether a demotion is made in exchange; none where it stays, or where
RATE pages have moved in this millisecond (R145, R148, R149, R155). -/
def State.turnTo (s : State) (p : PartId) (page : Nat) (e : Word) : Option (Nat × Bool) :=
  let x := s.part p
  let tier := nbits e.toNat 2 1
  let heat := nbits e.toNat 48 8
  if s.shed ≠ 0 ∨ s.rd TURN_CFG.PERIOD_MS = 0 ∨ x.rcd.any (·.det) ∨ !x.turnOn ∨ s.rd TURN_CFG.RATE ≤ s.movedNow then none
  else if x.moveQ.contains page then some (if bitOf e 8 then 0 else if bitOf e 9 then 1 else tier, false)
  else if bitOf e 8 ∨ bitOf e 9 then none
  else if tier = 1 then
    if s.rd TURN_CFG.UP ≤ heat ∧ s.canSupply p 0 1 ∧ (s.aboveLow 1 ∨ 0 < x.exch) then some (0, false) else none
  else if heat ≤ s.rd TURN_CFG.DOWN then
    if !s.aboveLow 0 then some (1, false) else if s.hotWaits p then some (1, true) else none
  else none

/-- The destination granule of a migration: beside cluster LCL for local interleave, in its quadrant for quadrant interleave,
where one is free; else as a first touch takes it (R146, R312). -/
def State.turnGranule (s : State) (p : PartId) (tier il hash lcl : Nat) : Option (Nat × Nat × State) :=
  let sp := s.tierSpan tier
  let near := if tier = 0 ∧ il ≠ 0 then
      lowest (fun g => kindOk s.mst.granules (s.rd CELLAR_POP.POP) g il &&
        (if il = 2 then g % 16 == lcl else g / 4 % 4 == lcl / 4)) sp.2 sp.1
    else none
  match near with
  | some g => some (g, il, s.takeSpan g 1 ⟨p, BitVec.ofNat 2 il, BitVec.ofNat 3 hash, .data⟩)
  | none => s.takeGranule p tier il (BitVec.ofNat 3 hash) .data

/-- The leaf of a page with its entry's address. -/
def State.leafOf (s : State) (p : PartId) (page : Nat) : Option (Nat × Nat × Word) :=
  match s.walk p (page * 65536) with | .leaf ea level e => some (ea, level, e) | _ => none

/-- MIGRATION_START: Turning selects a page; MIG is set and a destination granule is taken (R145 to R147). A demotion that
finds no Cellar granule is dropped (R148). -/
def execMigrationStart (p : PartId) (page : BitVec 40) (s : State) : Out :=
  let pg := page.toNat
  match s.leafOf p pg with
  | none => .next s
  | some (ea, level, e) =>
    let listed : Bool := match s.pair.ship with | some o => o.pages.any (fun x => x.part == p && x.page == pg && x.copy.isNone) | none => false
    if !turnable e level || listed then .next s
    else match s.turnTo p pg e with
      | none => .next s
      | some (tier, ex) =>
        let s := s.modPart p (fun x => { x with moveQ := x.moveQ.filter (fun g => g ≠ pg) })
        let lay := (s.part p).layout pg
        let hinted := (s.part p).hint pg (fun k => match k with | .layout .. => true | _ => false)
        let il := if hinted.isSome then lay.1 else nbits e.toNat 3 2
        let hash := if hinted.isSome then lay.2.1 else nbits e.toNat 5 3
        if tier = nbits e.toNat 2 1 ∧ il = nbits e.toNat 3 2 ∧ hash = nbits e.toNat 5 3 then .next s
        else if !s.canSupply p tier 1 then .next s
        else match s.turnGranule p tier il hash (nbits e.toNat 43 4) with
          | none => .next s
          | some (g, _, s) =>
            let up := nbits e.toNat 2 1 = 1 ∧ tier = 0
            let s := s.modPart p (fun x => { x with exch := if ex then x.exch + 1 else if up then x.exch - 1 else x.exch })
            let s := s.modM (fun m => { m with
              migr := m.migr ++ [⟨p, pg, g, false⟩]
              turned := (s.now / 1000000, s.movedNow + 1)
              tlb := m.tlb.filter (fun t => !t.meets p pg 1) })
            .next (s.setPte ea (setBitOf e 13 true))

/-- The copy engine reads the tags of a granule: those that it carries, filtered against the active set (R142, R154). -/
def State.copyTags (s : State) (p : PartId) (src : Nat) : List Nat × State :=
  (List.range 4096).foldl (fun (r : List Nat × State) i =>
    let g := src * 4096 + i
    if r.2.tagAt g || r.2.rdB INJ_STAT.ARMED then
      let t := r.2.readTag g
      (if t.1 && ((t.2.capAt g).purge (t.2.part p).qActive).tag then r.1 ++ [i] else r.1, t.2)
    else r) ([], s)

/-- The units of a granule that the copy engine finds poisoned as it reads them (R147, R154, R360). -/
def State.copyUnits (s : State) (src : Nat) : List Nat × State :=
  let n := lineSize (src * 65536)
  (List.range (65536 / n)).foldl (fun (r : List Nat × State) i =>
    let k := src * 65536 + i * n
    if r.2.errAny k n || r.2.rdB INJ_STAT.ARMED then
      let q := if src * 65536 < celBase then r.2.readNear k else r.2.readCel k
      (if q.1 then r.1 ++ [i * n] else r.1, q.2)
    else r) ([], s)

/-- Write a page's copy to its destination granule: data, the tags that the engine carries, and the poison of the units that read
poisoned (R142, R147, R360). -/
def State.migMove (s : State) (src dst : Nat) (tags bad : List Nat) : State :=
  let s := s.moveGranules src dst 1
  let s := { s with
    errs := s.errs.filter (fun e => e.1 / 8192 ≠ dst)
    tags := s.tags.filter (fun e => decide (e.1 / 4096 ≠ dst) || tags.contains (e.1 % 4096)) }
  (bad.foldl (fun s u => s.poisonUnit (dst * 65536 + u)) s).granFlip dst

/-- Copy a page to its destination granule: data, and tags filtered against the active set; units that read poisoned are
poisoned there (R142, R147, R360). -/
def State.migCopy (s : State) (p : PartId) (src dst : Nat) : State :=
  let t := s.copyTags p src
  let r := t.2.copyUnits src
  r.2.migMove src dst t.1 r.1

/-- MIGRATION_COPY_DONE: the copy is complete, new writes are held, the leaf names the new home and the page is shot down
(R147, steps 4 and 5). -/
def execMigrationCopyDone (p : PartId) (page : BitVec 40) (s : State) : Out :=
  let pg := page.toNat
  match s.migrOf p pg, s.leafOf p pg with
  | some m, some (ea, _, e) =>
    if m.held then .next s
    else
      let src := nbits e.toNat 16 27
      let s := s.migCopy p src m.dst
      match mapFind s.mst.granules m.dst with
      | none => .next s
      | some g =>
        let new := leafEntry (m.dst * 65536) (granTier m.dst) g.il.toNat g.hash.toNat (bitOf e 8) (bitOf e 9)
        let kept := e &&& 0x00FF780000001C00
        let s := (s.shootdown p pg 1).setPte ea (new ||| kept)
        let s := s.modM (fun x => { x with migr := x.migr.map (fun (y : Migr) =>
          if y.part == p && y.page == pg then { y with dst := src, held := true } else y) })
        .next s
  | _, _ => .next s

/-- MIGRATION_RELEASE: every unit has acknowledged; held writes go on and the old granule is free (R147, step 6). -/
def execMigrationRelease (p : PartId) (page : BitVec 40) (s : State) : Out :=
  let pg := page.toNat
  match s.migrOf p pg with
  | some m =>
    if !m.held then .next s
    else
      let s := s.freeSpan m.dst 1
      let s := s.modM (fun x => { x with migr := x.migr.filter (fun y => !(y.part == p && y.page == pg)) })
      .next (s.wakePage p)
  | none => .next s

/-! ### PG_HINT (R149, R153) -/

/-- The range of a partition's PG_HINT: first page and pages. -/
def State.hintRange (s : State) (p : PartId) : Nat × Nat := (s.rd (PG_HINT_BASE.ADDR p), s.rd (PG_HINT_LEN.PAGES p))

/-- Start a PG_HINT command: ignored while one is busy (R153). -/
def State.hintStart (s : State) (p : PartId) (f : State → State) : State :=
  if s.rd (PG_HINT.STATE p) = 1 then s
  else
    let s := (s.wr (PG_HINT.STATE p) 1).wr (PG_HINT.PARTIAL p) 0
    f (s.modPart p (fun x => { x with hintBusy := some (s.hintRange p) }))

/-- Record a hint over the command's range. -/
def State.hintAdd (s : State) (p : PartId) (k : HintKind) : State :=
  let r := s.hintRange p
  s.modPart p (fun x => { x with hints := ⟨r.1, r.2, k⟩ :: x.hints })

/-- Change the leaves of the command's range, and queue the pages that must move (R149). -/
def State.hintLeaves (s : State) (p : PartId) (f : Word → Word) (moves : Word → Bool) : State :=
  let r := s.hintRange p
  (s.leavesIn p ((r.1 + r.2) * 65536) 0x1000000 (r.1 * 65536)).foldl (fun s l =>
    let e := f l.2.2.2
    let s := s.setPte l.2.1 e
    if moves e && l.2.2.1 == 0 && bitOf e 0 && !bitOf e 14 && !bitOf e 15 then
      s.modPart p (fun x => { x with moveQ := x.moveQ.filter (fun g => g ≠ l.1 / 65536) ++ [l.1 / 65536] })
    else s) s

/-- PIN and COLD of a leaf. -/
def setPlace (pin cold : Bool) (e : Word) : Word := setBitOf (setBitOf e 8 pin) 9 cold

/-- NEAR. -/
def State.hintNear (s : State) (p : PartId) : State :=
  s.hintStart p (fun s => (s.hintAdd p .near).hintLeaves p (setPlace true false) (fun e => bitOf e 2))

/-- NEAR (R149). -/
def execPgHintNear (p : PartId) (s : State) : Out := .next (s.hintNear p)
/-- COLD. -/
def State.hintCold (s : State) (p : PartId) : State :=
  s.hintStart p (fun s => (s.hintAdd p .cold).hintLeaves p (setPlace false true) (fun e => !bitOf e 2))

/-- COLD (R149). -/
def execPgHintCold (p : PartId) (s : State) : Out := .next (s.hintCold p)
/-- NONE. -/
def State.hintNone (s : State) (p : PartId) : State :=
  s.hintStart p (fun s => (s.hintAdd p .none).hintLeaves p (setPlace false false) (fun _ => false))

/-- NONE (R149). -/
def execPgHintNone (p : PartId) (s : State) : Out := .next (s.hintNone p)

/-- LAYOUT; a reserved size, a large page with another interleave than global (R311) and a range that is not aligned to the size are
refused (R153). An IL of 3, which R130 gives no meaning, is taken as local (log entry 106, DESIGN CHOICE). -/
def State.hintLayout (s : State) (p : PartId) (il : BitVec 2) (hash : BitVec 3) (size : BitVec 2) : State :=
  if s.rd (PG_HINT.STATE p) = 1 then s
    else
      let s := ((s.wr (PG_HINT.IL p) il.toNat).wr (PG_HINT.HASH p) hash.toNat).wr (PG_HINT.SIZE p) size.toNat
      let r := s.hintRange p
      let n := if size = 1 then 32 else if size = 2 then 16384 else 1
      let il : BitVec 2 := if il = 3 then 2 else il
      if size = 3 ∨ (size ≠ 0 ∧ (il = 1 ∨ il = 2)) ∨ r.1 % n ≠ 0 ∨ r.2 % n ≠ 0 then s.wr (PG_HINT.STATE p) 3
      else s.hintStart p (fun s => (s.hintAdd p (.layout il hash size)).hintLeaves p id (fun e =>
        nbits e.toNat 3 2 != il.toNat || nbits e.toNat 5 3 != hash.toNat))

/-- LAYOUT (R149). -/
def execPgHintLayout (p : PartId) (il : BitVec 2) (hash : BitVec 3) (size : BitVec 2) (s : State) : Out :=
  .next (s.hintLayout p il hash size)

/-- PREFAULT: every unmapped page of the range is allocated, up to the first ALLOC_FAIL. A page whose tables read uncorrectable is passed
over (log entry 107, DESIGN CHOICE). -/
def State.hintPrefault (s : State) (p : PartId) : State :=
  s.hintStart p (fun s =>
    let r := s.hintRange p
    let a : Access := { part := p, cl := 0, num := 0, wr := false, pin := false, win := none }
    (((List.range r.2).foldl (fun (t : Bool × State) i =>
      if t.1 then t
      else
        let va := (r.1 + i) * 65536
        match t.2.walk p va with
        | .missing _ level =>
          if va < 0x10000 ∨ (t.2.part p).guarded (va / 65536) ∨ (t.2.part p).inQuarantine (va, 65536) then t
          else
            let w := t.2.walkReads (t.2.walkPath va ((t.2.part p).root.getD 0) 3)
            if w.1.isSome then (false, w.2)
            else
              let q := w.2.firstTouch a va level
              match q.1 with | .fault _ _ => (true, q.2.wr (PG_HINT.PARTIAL p) 1) | _ => (false, q.2)
        | _ => t) (false, s)).2))

/-- PREFAULT (R149). -/
def execPgHintPrefault (p : PartId) (s : State) : Out := .next (s.hintPrefault p)

/-- GUARD: the pages refuse every access; NOACC is set in the leaves that lie in the range, and their granules are freed. -/
def State.hintGuard (s : State) (p : PartId) : State :=
  s.hintStart p (fun s =>
    let r := s.hintRange p
    let lo := r.1 * 65536
    let hi := (r.1 + r.2) * 65536
    let ls := s.leavesIn p hi 0x1000000 lo
    let s := (s.shootdown p r.1 r.2).hintAdd p .guard
    ls.foldl (fun s l =>
      let span := leafSpan l.2.2.1
      let first := l.1 / span * span
      if lo ≤ first ∧ first + span ≤ hi ∧ bitOf l.2.2.2 14 = false ∧ bitOf l.2.2.2 15 = false then
        let g := leafGranules lo hi l.1 l.2.2.1 l.2.2.2
        let s := (s.mst.migr.filter (fun m => m.part == p && m.page == l.1 / 65536)).foldl (fun s m => s.freeSpan m.dst 1) s
        let s := s.modM (fun m => { m with migr := m.migr.filter (fun m => !(m.part == p && m.page == l.1 / 65536)) })
        (s.setPte l.2.1 (setBitOf (setBitOf l.2.2.2 13 false) 15 true)).freeSpan g.1 g.2
      else s) s)

/-- GUARD (R149). -/
def execPgHintGuard (p : PartId) (s : State) : Out := .next (s.hintGuard p)

/-- UNGUARD: NOACC is cleared; a guarded page has no granule, so it is unmapped until its next first touch. -/
def State.hintUnguard (s : State) (p : PartId) : State :=
  s.hintStart p (fun s =>
    let r := s.hintRange p
    let s := s.hintAdd p .unguard
    (s.leavesIn p ((r.1 + r.2) * 65536) 0x1000000 (r.1 * 65536)).foldl (fun s l =>
      if bitOf l.2.2.2 15 && !bitOf l.2.2.2 14 then s.setPte l.2.1 0 else s) s)

/-- UNGUARD (R149). -/
def execPgHintUnguard (p : PartId) (s : State) : Out := .next (s.hintUnguard p)

/-- A write of PG_HINT (R149, R153). -/
def State.hintWrite (s : State) (p : PartId) (v : Word) : State :=
  let cmd := v.toNat % 8
  let il := BitVec.ofNat 2 (v.toNat / 8)
  let hash := BitVec.ofNat 3 (v.toNat / 32)
  let size := BitVec.ofNat 2 (v.toNat / 256)
  if s.rd (PG_HINT.STATE p) = 1 then s
  else
    let s := ((s.wr (PG_HINT.IL p) il.toNat).wr (PG_HINT.HASH p) hash.toNat).wr (PG_HINT.SIZE p) size.toNat
    if cmd = 1 then s.hintNear p
    else if cmd = 2 then s.hintCold p
    else if cmd = 3 then s.hintNone p
    else if cmd = 4 then s.hintLayout p il hash size
    else if cmd = 5 then s.hintPrefault p
    else if cmd = 6 then s.hintGuard p
    else if cmd = 7 then s.hintUnguard p
    else s

/-- PG_HINT_COMPLETE: the command in progress is done. -/
def execPgHintComplete (p : PartId) (s : State) : Out :=
  .next (if (s.part p).hintBusy.isSome then
      (s.wr (PG_HINT.STATE p) 2).modPart p (fun x => { x with hintBusy := none })
    else s)

/-- SHOOTDOWN_COMPLETE: every cluster has acknowledged (R150). -/
def execShootdownComplete (p : PartId) (s : State) : Out := .next (s.modPart p (fun x => { x with shoot := false }))

/-- A write of HEAP_BASE or HEAP_TOP (R153). -/
def State.heapWrite (s : State) (p : PartId) (top : Bool) (v : Word) : State :=
  let x := s.part p
  if s.rd (ALLOC_STAT.LIVE p) = 0 ∧ x.qActive.isEmpty ∧ x.qNext.isEmpty then
    let s := if top then s.wr (HEAP_TOP.ADDR p) (nbits v.toNat 16 40) else s.wr (HEAP_BASE.ADDR p) (nbits v.toNat 16 40)
    s.modPart p (fun x => { x with bump := s.rd (HEAP_BASE.ADDR p) * 65536, reuse := [] })
  else s.wr (ALLOC_STAT.HEAP_LOCKED p) 1

/-- HEAP_WINDOW_WRITE (R153). -/
def execHeapWindowWrite (p : PartId) (top : Bool) (v : Word) (s : State) : Out := .next (s.heapWrite p top v)

end Sys2Proof.Machine
end

