-- ==== Sys2Proof/Machine/UpKeep.lean ====
section
/-! DEFINITION. The upkeep of memory: refresh and row-hammer handling (R322, R323), live calibration (R324 to R328, R335),
temperatures, parity, scrubbing (R362 to R365), buckets (R366, R367), the arming of injections
(R370 to R373) and the raw window (R374). -/

namespace Sys2Proof.Machine

/-! ### Refresh -/

/-- NEAR_REFRESH: one bank of a pseudo-channel is refreshed; its row closes and its activation count restarts (R322, R323). In
self-refresh the stack refreshes itself. -/
def execNearRefresh (stack : StackId) (pc : Fin 32) (bank : Fin 48) (s : State) : Out :=
  .next (if !s.rdB (NM_STAT.TRAINED stack) || s.rdB (NM_STAT.SELFREF stack) then s
    else
      (s.sendCmd true stack.val).refreshBank (bankKey stack.val pc.val bank.val))

/-- REFRESH_MANAGEMENT: a bank that reached its threshold of activations gets RFM (R323). -/
def execRefreshManagement (stack : StackId) (pc : Fin 32) (bank : Fin 48) (s : State) : Out :=
  let bk := bankKey stack.val pc.val bank.val
  .next (if s.rfmLimit bk ≤ mapGet (fun _ => 0) s.mst.acts bk then s.rfm bk else s)

/-- SAME_BANK_REFRESH: one bank of each bank group of a rank of a Cellar sub-channel is refreshed (R331); in self-refresh the DIMMs
refresh themselves. -/
def execSameBankRefresh (ch : ChanId) (x : SameBank) (s : State) : Out :=
  .next (if !s.rdB (CC_STAT.TRAINED ch) || s.rdB (CC_STAT.SELFREF ch) then s
    else (List.range 8).foldl (fun s g => s.refreshBank (celBankKey ch.val ⟨x.sub.val, x.rank.val, g * 4 + x.bank.val, 0⟩)) (s.sendCmd false ch.val))

/-! ### Calibration -/

/-- Whether a slot that falls due is skipped: shed level 1 or above, unless slots of this channel run again (R328). -/
def State.slotDeferred (s : State) (key : Nat) : Bool := decide (1 ≤ s.shed) && !s.mst.slotAgain.contains key

/-- A write-levelling trigger of a stack: it starts at the next slot, and one in progress starts over (R326, R328). -/
def State.wlTrigger (s : State) (stack : StackId) : State :=
  s.modM (fun m => { m with wlPend := setBitOf m.wlPend stack.val true, wlLeft := vecUpd m.wlLeft stack (fun _ => 0) })

/-- The byte group of a lane: DQ lane k is the lane of data symbol k + 4 and belongs to group k div 8; ECC lane j belongs to
group j (R315, R352). -/
def laneGroup (sym : Nat) : Nat := if sym < 4 then sym else (sym - 4) / 8

/-- A lane that passed the limit in three periods running after its re-centring goes to the spare of its byte group; with the
spare in use the margin event is raised (R325). -/
def State.laneRepair (s : State) (stack : StackId) (pc : Fin 32) (sym : Nat) : State :=
  let pk := stack.val * 32 + pc.val
  let used := mapGet (fun _ => 0) s.mst.spares pk
  if used.testBit (laneGroup sym) then s.bucket 7 1
  else
    let s := ((s.modM (fun m => { m with spares := mapPut (fun _ => 0) m.spares pk (used + 2 ^ laneGroup sym) })).wr
      (NM_STAT.REPAIRED stack) 1).cntSat (NM_STAT.SPARES stack) 1
    s.seals (fun x => { x with repairs := s.mst.spares })

/-- The end of a period of 128 µs of a pseudo-channel, whether its slot runs or is skipped: a lane over the limit waits for its
re-centring, or once re-centred has one more period in a row over it; the counts start again (R325, R328). The mark of a lane is 1 while
it waits, and from 2 on 2 and the periods since its re-centring. -/
def State.lanePeriod (s : State) (stack : StackId) (pc : Fin 32) : State :=
  let pk := stack.val * 32 + pc.val
  let lim := s.rd (NM_CFG.MARGIN_LIM stack)
  let s := (List.range 36).foldl (fun s sym =>
    let key := pk * 64 + sym
    let n := mapGet (fun _ => 0) s.mst.streak key
    if lim < mapGet (fun _ => 0) s.mst.lanes key then
      s.modM (fun m => { m with streak := mapInsert m.streak key (if n < 2 then 1 else n + 1) })
    else if 2 ≤ n then s.modM (fun m => { m with streak := mapErase m.streak key }) else s) s
  (s.modM (fun m => { m with lanes := m.lanes.filter (fun e => e.1 / 64 ≠ pk) })).wr (NM_MARGIN.CORR stack pc) 0

/-- The part of a slot that lanes over the limit take: those that wait are re-centred, and those over it in three periods running since
are repaired (R325). -/
def State.laneSlot (s : State) (stack : StackId) (pc : Fin 32) : State :=
  let pk := stack.val * 32 + pc.val
  (List.range 36).foldl (fun s sym =>
    let key := pk * 64 + sym
    let n := mapGet (fun _ => 0) s.mst.streak key
    if n = 1 then s.modM (fun m => { m with streak := mapInsert m.streak key 2 })
    else if 5 ≤ n then (s.modM (fun m => { m with streak := mapErase m.streak key })).laneRepair stack pc sym
    else s) s

/-- The part of a slot that write levelling takes: a trigger starts a retraining, which visits one pseudo-channel a slot
(R326). -/
def State.wlSlot (s : State) (stack : StackId) (pc : Fin 32) : State :=
  let s := if bitOf s.mst.wlPend stack.val then
      (s.modM (fun m => { m with wlPend := setBitOf m.wlPend stack.val false,
                                 wlLeft := vecUpd m.wlLeft stack (fun _ => BitVec.allOnes 32) })).wr
        (NM_TEMP.WLTEMP stack) (s.rd (NM_TEMP.TEMP stack))
    else s
  let left := s.mst.wlLeft[stack.val]
  if left = 0 then s
  else
    let s := s.modM (fun m => { m with wlLeft := vecUpd m.wlLeft stack (fun l => setBitOf l pc.val false) })
    if s.mst.wlLeft[stack.val] = 0 then (s.cnt (NM_CAL.WL_RUNS stack) 1).wr (NM_CAL.WL_NOW stack) 0 else s

/-- CALIBRATION_SLOT: the slot of a pseudo-channel falls due; the command carries the smallest eye that it measures and its
lane (R324 to R328). -/
def execCalibrationSlot (stack : StackId) (pc : Fin 32) (eye lane : BitVec 8) (s : State) : Out :=
  let pk := stack.val * 32 + pc.val
  .next (if !s.rdB (NM_STAT.TRAINED stack) || s.rdB (NM_STAT.SELFREF stack) then s
    else if s.slotDeferred pk then ((s.lanePeriod stack pc).wr (NM_STAT.CAL_DEFER stack) 1).cnt (NM_CAL.DEFERRED stack) 1
    else
      let r := s.inject 0x1C stack.val
      let s := if r.1 then r.2.chargeLane stack.val pc.val (lane.toNat % 36) (r.2.rd (NM_CFG.MARGIN_LIM stack) + 1) else r.2
      let s := ((s.lanePeriod stack pc).laneSlot stack pc).wlSlot stack pc
      let s := (s.wr (NM_MARGIN.EYE_MIN stack pc) eye.toNat).wr (NM_MARGIN.LANE stack pc) lane.toNat
      (s.modM (fun m => { m with slotLast := mapInsert m.slotLast pk s.now })).cnt (NM_CAL.SLOTS stack) 1)

/-- WRITE_LEVELLING_TRIGGER: a second has passed, or the temperature has moved (R326). -/
def execWriteLevellingTrigger (stack : StackId) (s : State) : Out := .next (s.wlTrigger stack)

/-- WL_NOW (R326). -/
def execWlNow (stack : StackId) (s : State) : Out := .next ((s.wr (NM_CAL.WL_NOW stack) 1).wlTrigger stack)

/-- STACK_TEMPERATURE_READ: the temperature is read every millisecond; above 85 °C the refresh interval halves, and a move of
5 °C from the last write levelling triggers one (R315, R322, R326). -/
def execStackTemperatureRead (stack : StackId) (temp : BitVec 8) (s : State) : Out :=
  let ref := s.rd (NM_TEMP.WLTEMP stack)
  let s := (s.wr (NM_TEMP.TEMP stack) temp.toNat).wrB (NM_STAT.HOT stack) (decide (85 < temp.toNat))
  .next (if ref + 5 ≤ temp.toNat ∨ temp.toNat + 5 ≤ ref then
      if bitOf s.mst.wlPend stack.val then s else s.wlTrigger stack
    else s)

/-- CAL_DEFER_LIMIT: 2 s have passed without a slot on a pseudo-channel, and its slots run again up to shed level 5 (R328). -/
def execCalDeferLimit (stack : StackId) (pc : Fin 32) (s : State) : Out :=
  let pk := stack.val * 32 + pc.val
  .next (if 1 ≤ s.shed ∧ s.shed ≤ 5 then
      s.modM (fun m => { m with slotAgain := pk :: m.slotAgain.filter (fun k => k ≠ pk) })
    else s)

/-- CELLAR_CALIBRATION_SLOT (R335): as the near slots, with the same rule of deferral. -/
def execCellarCalibrationSlot (ch : ChanId) (sub : Fin 2) (s : State) : Out :=
  let key := 512 + 2 * ch.val + sub.val
  let late := decide (mapGet (fun _ => 0) s.mst.slotLast key + 2000000000 ≤ s.now)
  .next (if !s.rdB (CC_STAT.TRAINED ch) || s.rdB (CC_STAT.SELFREF ch) then s
    else if s.slotDeferred key && !late then (s.wr (CC_STAT.CAL_DEFER ch) 1).cnt (CC_CAL.DEFERRED ch) 1
    else (s.modM (fun m => { m with
        slotLast := mapInsert m.slotLast key s.now
        slotAgain := if 1 ≤ s.shed then key :: m.slotAgain.filter (fun k => k ≠ key) else m.slotAgain })).cnt (CC_CAL.SLOTS ch) 1)

/-- The calibration state at the return to shed level 0: slots run for all again (R328). -/
def State.calResume (s : State) : State :=
  let s := (fins 16).foldl (fun s (k : Fin 16) => s.wr (NM_STAT.CAL_DEFER k) 0) s
  let s := (fins 8).foldl (fun s (k : Fin 8) => s.wr (CC_STAT.CAL_DEFER k) 0) s
  s.modM (fun m => { m with slotAgain := [] })

/-- DIMM_TEMPERATURE_READ: while any DIMM sensor reads above 85 °C the Cellar refreshes at double rate (R331). -/
def execDimmTemperatureRead (ch : ChanId) (dimm : Fin 2) (temp : BitVec 8) (s : State) : Out :=
  let s := s.modM (fun m => { m with dimmHot := setBitOf m.dimmHot (2 * ch.val + dimm.val) (decide (85 < temp.toNat)) })
  .next ((fins 8).foldl (fun s (k : Fin 8) => s.wrB (CC_STAT.HOT k) (s.mst.dimmHot != 0)) s)

/-- COMMAND_PARITY_REISSUE: a device reported bad parity and the command was sent again (R315, R331). -/
def execCommandParityReissue (tier : Tier) (unit : Fin 16) (s : State) : Out :=
  .next (match tier with
    | .near => s.parityReissue true unit.val
    | .cellar => if unit.val < 8 then s.parityReissue false unit.val else s)

/-! ### Scrubbing -/

/-- GRID_WRITEBACK: the corrected byte of a word is written back to its array (R351). -/
def execGridWriteback (key : BitVec 44) (s : State) : Out :=
  .next (s.modM (fun m => { m with wb := m.wb.filter (fun w => w ≠ key.toNat / 8) }))

/-- Whether the passes and the array scrubbers are stopped: shed level 1 or above, or SLEEP (R365). -/
def State.scrubStopped (s : State) : Bool := decide (1 ≤ s.shed) || s.rd PWR_SLEEP.STATE != 0

/-- A read of the scrubber, in the controller: what is already marked is not counted again (R360, R362). -/
def State.scrubRead (s : State) (key : Nat) : State :=
  match storeOf key with
  | .near =>
    if s.errAny key 32 && decide (nearDecode (s.nearCoef key) = .marking) then s.nearMove key else (s.readLine key).2
  | .cellar =>
    if s.errAny key 64 && decide (celDecode ((List.range 8).map (fun i => s.celCoef key i)) (s.celMarkPos key) = .marking) then s.celMove key
    else (s.readLine key).2
  | _ =>
    if (gridRead (s.err (key / 8)) (List.range 8)).marking then s
    else
      let r := s.readGrid (key / 8) (List.range 8)
      if r.1 then r.2.poisonUnit key else r.2

/-- The sweep of the granules of a unit that the pass reaches, while an epoch is open (R141, R363). -/
def State.sweepUnit (s : State) (key n : Nat) : State :=
  if !s.rdB REV_STAT.OPEN then s else (List.range (n / 16)).foldl (fun s i => s.sweepGranule (key / 16 + i)) s

/-- The lines or units that the pass of a tier visits for each slot: the tag lines of the slot, then its data; and after the near slots
the calibration lines (R329, R330, R362). -/
def State.scrubShape (s : State) (near : Bool) : Nat × Nat × Nat × Nat :=
  if near then (512, 32768, s.mst.nearGran / 16, 512 * (resvLines - tagLines))
  else let p := s.rd CELLAR_POP.POP; (8 * p, 1024 * p, if p = 0 then 0 else s.mst.celGran / p, 0)

/-- The key of the line or unit at a position of the pass of a tier, and whether it holds data (R362). -/
def State.scrubKey (s : State) (near : Bool) (pos : Nat) : Nat × Bool :=
  let h := s.scrubShape near
  let slot := pos / (h.1 + h.2.1)
  let i := pos % (h.1 + h.2.1)
  if h.2.2.1 ≤ slot then
    let c := pos - h.2.2.1 * (h.1 + h.2.1)
    (resvKey (c / (resvLines - tagLines) / 32) (c / (resvLines - tagLines) % 32) (tagLines + c % (resvLines - tagLines)), false)
  else if i < h.1 then
    (if near then resvKey (i / 32) (i % 32) (slot / 2)
     else celTagBase + (i / 8 * (8 / s.rd CELLAR_POP.POP)) * 2 ^ 32 + (8 * slot + i % 8) * 64, false)
  else if near then (slot * 0x100000 + (i - h.1) * 32, true) else (celBase + slot * h.2.1 * 64 + (i - h.1) * 64, true)

/-- Whether a key lies in a page that is being moved: the pass skips it (R365). -/
def State.inMigration (s : State) (key : Nat) : Bool :=
  s.mst.migr.any (fun m => !m.held && (match s.leafOf m.part m.page with
    | some (_, _, e) => nbits e.toNat 16 27 == key / 65536
    | none => false))

/-- SCRUB_STEP: the pass of a tier visits its next line or unit (R362, R363, R365). -/
def execScrubStep (tier : Tier) (s : State) : Out :=
  .next (if s.scrubStopped || !(s.rdB SCRUB_CFG.EN || s.rdB REV_STAT.OPEN) then s
    else
      let near := decide (tier = .near)
      let h := s.scrubShape near
      let total := (h.1 + h.2.1) * h.2.2.1 + h.2.2.2
      let pos := if near then s.mst.nearPos else s.mst.celPos
      if h.2.2.1 = 0 then s
      else
        let k := s.scrubKey near pos
        let s := if !k.2 then s.scrubRead k.1
          else if s.inMigration k.1 then s
          else (s.scrubRead k.1).sweepUnit k.1 (lineSize k.1)
        let next := if pos + 1 < total then pos + 1 else 0
        let s := s.modM (fun m => if near then { m with nearPos := next } else { m with celPos := next })
        if next = 0 then s.cnt (if near then SCRUB_STAT.NEAR_PASSES else SCRUB_STAT.CELLAR_PASSES) 1 else s)

/-- What the scrubber makes of a word of an array: corrected and counted; or marked and counted once when it is first found uncorrectable
(R348, R360, R364). -/
def State.scrubWord (s : State) (e : Err) (inst idx : Nat) : Err × State :=
  if e = Err.zero then (e, s)
  else
    let d := gridRead e (List.range 8)
    if d.marking then (e, s)
    else if d.poison then
      (⟨e.d, gridCheckWord e.d ^^^ BitVec.allOnes 48, e.inj⟩, (s.capture 1 inst d.synd false e.inj idx).bucket 1 1)
    else (if d.left.d = 0 ∧ d.left.c = 0 then Err.zero else d.left, s.bucket 0 d.fixed)

/-- The scrubber reads one element of a list. -/
def scrubNth {α : Type} (l : List α) (n : Nat) (get : α → Err) (put : α → Err → α) (inst : Nat) (s : State) : List α × State :=
  match l[n]? with
  | none => (l, s)
  | some x => let r := s.scrubWord (get x) inst n; (l.set n (put x r.1), r.2)

/-- The scrubber of a cluster reads word n of one of its arrays, counted round an array that has fewer words (R364). The entries of the
translation units and of the tag caches are counted through all units together, and those of others are passed over. -/
def State.scrubArray (s : State) (cl : ClusterId) (a : OnDie) (n : Nat) : State :=
  let cp (k : Fin 2) : CpId := s.lead ⟨2 * cl.val + k.val, by omega⟩
  match a with
  | .spad => s.scrubRead (spadBase + cl.val * 0x400000 + 8 * (n % 0x80000))
  | .spadTags =>
    let w := spadTagBase / 8 + cl.val * 4096 + n % 4096
    let r := s.scrubWord (s.err w) cl.val (8 * w)
    r.2.setErr w r.1
  | .pram k => s.scrubRead (pramBase + (cp k).val * 0x20000 + 8 * (n % 0x4000))
  | .bitRam k =>
    let w := n % 1024
    let r := s.scrubWord (mapGet errDefault (s.cp (cp k)).bitErr w) (cp k).val w
    r.2.modCp (cp k) (fun p => { p with bitErr := mapPut errDefault p.bitErr w r.1 })
  | .dRegs k =>
    let i : Fin 16 := ⟨n % 16, by omega⟩
    let r := s.scrubWord (s.cp (cp k)).a.d[i.val].err (cp k).val i.val
    r.2.modA (cp k) (fun x => { x with d := vecUpd x.d i (fun d => { d with err := r.1 }) })
  | .vectorQueue k =>
    let r := scrubNth (s.cp (cp k)).vq.entries (n % 32) VEntry.err (fun x e => { x with err := e }) (cp k).val s
    r.2.modVq (cp k) (fun q => { q with entries := r.1 })
  | .instrCache k =>
    let r := scrubNth (s.cp (cp k)).icache n IcWord.err (fun x e => { x with err := e }) (cp k).val s
    r.2.modCp (cp k) (fun p => { p with icache := r.1 })
  | .dataCache k =>
    let r := scrubNth (s.cp (cp k)).dcache n DLine.err (fun x e => { x with err := e }) (cp k).val s
    r.2.modCp (cp k) (fun p => { p with dcache := r.1 })
  | .tlb =>
    let r := scrubNth s.mst.tlb n (fun x => if x.cl = cl then x.err else Err.zero)
      (fun x e => if x.cl = cl then { x with err := e } else x) cl.val s
    r.2.modM (fun m => { m with tlb := r.1 })
  | .quarantine =>
    match s.partOf cl with
    | none => s
    | some p =>
      let r := scrubNth (s.part p).qErr n (fun x => x.2) (fun x e => (x.1, e)) cl.val s
      r.2.modPart p (fun x => { x with qErr := r.1 })
  | .nearTags =>
    let r := scrubNth s.mst.tagc n (fun x => if tagCtl x.key = cl.val then x.err else Err.zero)
      (fun x e => if tagCtl x.key = cl.val then { x with err := e } else x) cl.val s
    r.2.modM (fun m => { m with tagc := r.1 })

/-- ARRAY_SCRUB: the scrubber of a cluster's arrays reads a word in an idle cycle (R364, R365). -/
def execArrayScrub (cl : ClusterId) (x : ScrubAt) (s : State) : Out :=
  .next (if s.scrubStopped then s else s.scrubArray cl x.array x.word.toNat)

/-! ### Buckets and injections -/

/-- BUCKET_LEAK_TICK: a non-zero COUNT falls by 1, unless the bucket does not leak (R366). -/
def execBucketLeakTick (b : Fin 32) (s : State) : Out :=
  .next (if s.rd (BKT_CFG.LEAK_MS b) = 0 then s else s.wr (BKT_STAT.COUNT b) (s.rd (BKT_STAT.COUNT b) - 1))

/-- A write of BKT_CFG: both fields; the leak timer restarts, which later ticks show (R366). -/
def State.bktWrite (s : State) (b : Fin 32) (v : Word) : State := s.setReg (BKT_CFG.adr b) (v &&& 0xFFFFFFFF)

/-- BKT_CFG_WRITE. -/
def execBktCfgWrite (b : Fin 32) (v : BitVec 32) (s : State) : Out := .next (s.bktWrite b (v.setWidth 64))

/-- Whether a point is marked Security (R372, R373). -/
def securityPoint (p : Nat) : Bool := decide (0x40 ≤ p) && decide (p ≤ 0x45)

/-- A write of INJ_CTL.ARM (R370 to R373): a Security point is refused once debug is closed; INJ_BUCKET fires at once. -/
def State.arm (s : State) : State :=
  let p := s.rd INJ_SEL.POINT
  if s.rdB INJ_STAT.ARMED then s
  else if securityPoint p && s.rdB SEC_STAT.DBG_CLOSED then s.wr INJ_STAT.REFUSED 1
  else
    let s := s.wr INJ_STAT.ARMED 1
    if p = 0x22 then
      let b := s.rd INJ_SEL.INST
      if b < 32 then s.fired.bucket b 1 else s
    else s

/-- INJ_ARM. -/
def execInjArm (s : State) : Out := .next s.arm

/-- INJ_DISARM: disarms without firing. -/
def execInjDisarm (s : State) : Out := .next (s.wr INJ_STAT.ARMED 0)

/-! ### The raw window (R374) -/

/-- The 64-byte key pair of a Cellar unit: that of the partition that holds its granule, else the module's (R151). -/
def State.xtsKey (s : State) (key : Nat) : List Byte :=
  let g := match mapFind s.mst.granules (key / 65536) with
    | some g => (g.owner.val, s.mst.keyGen[g.owner.val])
    | none => (16, s.mst.modKey)
  (List.range 64).map (Config.cellarKey g.1 g.2)

/-- Word i of a list of bytes. -/
def wordOf (bs : List Byte) (i : Nat) : Word := BitVec.ofNat 64 (leNat ((bs.drop (8 * i)).take 8))

/-- The raw read of a near line: data and check bytes as the array holds them. -/
def State.rawReadNear (s : State) (k : Nat) : State :=
  let s := s.nearMove k
  let chk := rsCheck 4 ((List.range 32).map (fun i => (s.rawByte (k + i)).toNat))
  let c := (BitVec.ofNat 32 (leNat (chk.map (BitVec.ofNat 8)))) ^^^ (s.err (k / 8)).c.setWidth 32
  let d := s.bytesAt k 32
  let s := (List.range 4).foldl (fun s i => s.setReg (RAW_DATA.adr i) (wordOf d i)) s
  s.setReg (RAW_CHECK.adr 0) (c.setWidth 64)

/-- The raw write of a near line. -/
def State.rawWriteNear (s : State) (k : Nat) : State :=
  let s := s.nearMove k
  let d := (List.range 4).flatMap (fun i => leBytes 8 (s.reg (RAW_DATA.adr i)).toNat)
  let chk := BitVec.ofNat 32 (leNat ((rsCheck 4 (d.map BitVec.toNat)).map (BitVec.ofNat 8)))
  let e := (s.reg (RAW_CHECK.adr 0)).setWidth 32 ^^^ chk
  let s := (List.range 4).foldl (fun s i => s.setErr (k / 8 + i) Err.zero) s
  ((State.putBytes d k s).setErr (k / 8) ⟨0, e.setWidth 48, false⟩).dropResv k 32

/-- The ciphertext of a Cellar unit as it was stored. -/
def State.celCipher (s : State) (k : Nat) : List Byte :=
  let x := s.xtsKey k
  let plain := (List.range 64).map (fun i => s.rawByte (k + i))
  xtsEnc x (k / 64) plain

/-- The check bytes of codeword i of a unit's ciphertext. -/
def celCheck (c : List Byte) (i : Nat) : BitVec 16 :=
  BitVec.ofNat 16 (leNat ((rsCheck 2 (((c.drop (8 * i)).take 8).map BitVec.toNat)).map (BitVec.ofNat 8)))

/-- The raw read of a Cellar unit. -/
def State.rawReadCel (s : State) (k : Nat) : State :=
  let s := s.celMove k
  let c := s.celCipher k
  let s0 := s
  let s := (List.range 8).foldl (fun s i => s.setReg (RAW_DATA.adr i) (wordOf c i ^^^ (s0.err (k / 8 + i)).d)) s
  (List.range 8).foldl (fun s i =>
    let a := RAW_CHECK.adr (i / 4)
    let v := celCheck c i ^^^ (s0.err (k / 8 + i)).c.setWidth 16
    s.setReg a ((⟨a, 16 * (i % 4), 16⟩ : Fld).setIn (s.reg a) v.toNat)) s

/-- The raw write of a Cellar unit. -/
def State.rawWriteCel (s : State) (k : Nat) : State :=
  let s := s.celMove k
  let x := s.xtsKey k
  let c := (List.range 8).flatMap (fun i => leBytes 8 (s.reg (RAW_DATA.adr i)).toNat)
  let plain := xtsDec x (k / 64) c
  let s0 := s
  let s := State.putBytes plain k s
  ((List.range 8).foldl (fun s i =>
    let given := BitVec.ofNat 16 (nbits (s0.reg (RAW_CHECK.adr (i / 4))).toNat (16 * (i % 4)) 16)
    s.setErr (k / 8 + i) ⟨0, (given ^^^ celCheck c i).setWidth 48, false⟩) s).dropResv k 64

/-- The raw read of a scratchpad word. -/
def State.rawReadSpad (s : State) (k : Nat) : State :=
  let raw := BitVec.ofNat 64 (leNat ((List.range 8).map (fun i => s.rawByte (k + i))))
  let e := s.err (k / 8)
  (s.setReg (RAW_DATA.adr 0) (raw ^^^ e.d)).setReg (RAW_CHECK.adr 0) ((gridCheckWord raw ^^^ e.c).setWidth 64)

/-- The raw write of a scratchpad word. -/
def State.rawWriteSpad (s : State) (k : Nat) : State :=
  let d := s.reg (RAW_DATA.adr 0)
  let e := (s.reg (RAW_CHECK.adr 0)).setWidth 48 ^^^ gridCheckWord d
  (((State.putBytes (leBytes 8 d.toNat) k s).setErr (k / 8) ⟨0, e, false⟩).dropResv k 8).writeTag (k / 16) false

/-- A raw access: refused without RAW_EN, with a reserved target or with an address outside the target (R374). -/
def State.rawAccess (s : State) : State :=
  let a := s.rd RAW_ADDR.ADDR
  let t := s.rd RAW_CTL.TARGET
  let w := s.rdB RAW_CTL.WRITE
  let s := s.wr RAW_CTL.GO 0
  if !s.rdB ERR_CTL.RAW_EN then s.wr RAW_CTL.ERR 1
  else if t = 0 ∧ a < s.mst.nearGran * 65536 then
    let k := a / 32 * 32
    if w then s.rawWriteNear k else s.rawReadNear k
  else if t = 1 ∧ celBase ≤ a ∧ a < celBase + s.mst.celGran * 65536 then
    let k := a / 64 * 64
    if w then s.rawWriteCel k else s.rawReadCel k
  else if t = 2 ∧ a < 0x4000000 then
    let k := spadBase + a / 8 * 8
    if w then s.rawWriteSpad k else s.rawReadSpad k
  else s.wr RAW_CTL.ERR 1

/-- RAW_ACCESS. -/
def execRawAccess (s : State) : Out := .next s.rawAccess

end Sys2Proof.Machine
end

