-- ==== Sys2Proof/Machine/EvtCtl.lean ====
section
/-! DEFINITION. The event router under its commands: the commit of staged settings with its checks (R429, R430), software
lines, gates that reopen (R424), latches that deliver (R423) and output pulses (R421). -/

namespace Sys2Proof.Machine

/-! ### Numbers -/

/-- Whether a number names a producer line (R420). -/
def lineOk (n : Nat) : Bool :=
  decide (n < 0x188) || (decide (0x1A0 ≤ n) && decide (n < 0x20D)) || (decide (0x210 ≤ n) && decide (n < 0x225)) ||
    (decide (0x230 ≤ n) && decide (n < 0x244)) || n == 0x250 || n == 0x251 ||
    (decide (0x260 ≤ n) && decide (n < 0x265)) || n == 0x270

/-- Whether a number names a consumer input (R421). -/
def consumerOk (c : Nat) : Bool :=
  (decide (c < 0x2000) && decide (32 ≤ c % 256)) || (decide (0x2000 ≤ c) && decide (c < 0x2020)) ||
    (decide (0x2040 ≤ c) && decide (c < 0x2061)) || c == 0x2070 || (decide (0x2080 ≤ c) && decide (c < 0x2088)) ||
    (decide (0x2090 ≤ c) && decide (c < 0x2094)) || (decide (0x20B0 ≤ c) && decide (c < 0x20C1))

/-- Whether a number names a channel. -/
def chanOk (n : Nat) : Bool := decide (0x8000 ≤ n) && decide (n ≤ 0x803F)

/-- Whether a source field holds a line, a channel or nothing. -/
def sourceOk (n : Nat) : Bool := n == 0xFFFF || lineOk n || chanOk n

/-- The lines that a consumer input causes without any software step (R429); the CRC unit that an engine feeds is taken to be
the one of its own number. -/
def causes (c : Nat) : List Nat :=
  if 0x2040 ≤ c ∧ c < 0x2050 then [0x1C0 + (c - 0x2040), 0x1D0 + (c - 0x2040)]
  else if 0x2000 ≤ c ∧ c < 0x2020 then [0x1A0 + (c - 0x2000)]
  else if 0x2050 ≤ c ∧ c ≤ 0x2060 then [0x223]
  else if c = 0x2070 then (List.range 8).map (fun k => 0x204 + k)
  else if c = 0x20C0 then (List.range 4).map (fun k => 0x260 + k)
  else []

/-! ### The checks of a commit -/

/-- A field of a set of settings. -/
def setFld (on : List (Nat × Word)) (f : Fld) : Nat := f.ofWord (mapGet regReset on f.adr)

/-- The selectors of a set of settings that name a source: consumer and source. -/
def selectors (on : List (Nat × Word)) : List (Nat × Nat) :=
  (on.filter (fun e => EVT_SEL.adr 0 ≤ e.1 && e.1 < EVT_SEL.adr 8385)).filterMap (fun e =>
    let src := (EVT_SEL.SOURCE 0).ofWord e.2
    if src = 0xFFFF then none else some ((e.1 - EVT_SEL.adr 0) / 8, src))

/-- The lines that a channel merges. -/
def chanLines (on : List (Nat × Word)) (k : Nat) : List Nat :=
  [setFld on (EVT_CH_IN.IN0 k), setFld on (EVT_CH_IN.IN1 k), setFld on (EVT_CH_IN.IN2 k), setFld on (EVT_CH_IN.IN3 k)].filter
    (fun n => n != 0xFFFF)

/-- The first setting with a reserved number: a consumer, a channel as 0x8000 + k, or a group, whose number in AT the spec does
not give. -/
def reservedSetting (on : List (Nat × Word)) : Option (Option Nat) :=
  match (selectors on).find? (fun x => !consumerOk x.1 || !sourceOk x.2) with
  | some x => some (some x.1)
  | none =>
    match (List.range 64).find? (fun k => (chanLines on k).any (fun n => !lineOk n) || decide (16 < setFld on (EVT_CH_CFG.OWNER k))) with
    | some k => some (some (0x8000 + k))
    | none =>
      if (List.range 8).any (fun g => !sourceOk (setFld on (EVT_GRP.ENABLE_SRC g)) || !sourceOk (setFld on (EVT_GRP.DISABLE_SRC g)))
      then some none else none

/-- The lines that reach a consumer without a gate of 100 ns or more. -/
def ungatedLines (on : List (Nat × Word)) (src : Nat) : List Nat :=
  if chanOk src then (if 100 ≤ setFld on (EVT_CH_CFG.RATE_GATE_NS (src - 0x8000)) then [] else chanLines on (src - 0x8000)) else [src]

/-- The consumers that a set of consumers reaches in some number of ungated hops. -/
def reach (edges : List (Nat × Nat)) : Nat → List Nat → List Nat
  | 0, cs => cs
  | n + 1, cs => reach edges n (cs ++ ((edges.filter (fun e => cs.contains e.1 && !cs.contains e.2)).map (·.2)).dedup)

/-- The first consumer on a loop that passes no gate of 100 ns or more (R430). -/
def ungatedLoop (on : List (Nat × Word)) : Option Nat :=
  let sel := (selectors on).filter (fun x => causes x.1 != [])
  let edges := sel.flatMap (fun a => (sel.filter (fun b => (ungatedLines on b.2).any (fun n => (causes a.1).contains n))).map
    (fun b => (a.1, b.1)))
  (sel.map (·.1)).find? (fun c => (reach edges sel.length ((edges.filter (fun e => e.1 == c)).map (·.2))).contains c)

/-! ### The commit -/

/-- The staged settings: selectors, channel settings and group sources that differ from reset. -/
def State.staged (s : State) : List (Nat × Word) :=
  (s.csr.filterMap (fun e =>
    let a := e.1
    let v := if EVT_SEL.adr 0 ≤ a ∧ a < EVT_SEL.adr 8385 then some (e.2 &&& 0xFFFF)
      else if EVT_CH_CFG.adr 0 ≤ a ∧ a < EVT_CH_CFG.adr 64 then some e.2
      else if EVT_GRP.adr 0 ≤ a ∧ a < EVT_GRP.adr 8 then some (e.2 &&& ~~~1#64)
      else none
    match v with
    | some w => if w = regReset a then none else some (a, w)
    | none => none))

/-- A write of EVT_COMMIT.GO: the settings as they stand are checked; ignored while a commit is busy (R430). -/
def State.commitGo (s : State) : State :=
  if s.rd EVT_COMMIT.STATE = 1 then s
  else (s.wr EVT_COMMIT.STATE 1).modE (fun e => { e with snap := some s.staged })

/-- The end of the commit in progress (R430). -/
def State.commitEnd (s : State) : State :=
  match s.evt.snap with
  | none => s
  | some on =>
    let s := s.modE (fun e => { e with snap := none })
    match reservedSetting on with
    | some at_ =>
      let r := match at_ with | some n => (n, s) | none => let q := s.fresh; (q.1.toNat, q.2)
      ((r.2.wr EVT_COMMIT.STATE 3).wr EVT_COMMIT.RESULT 2).wr EVT_COMMIT.AT r.1
    | none =>
      match ungatedLoop on with
      | some c => ((s.wr EVT_COMMIT.STATE 3).wr EVT_COMMIT.RESULT 1).wr EVT_COMMIT.AT c
      | none =>
        (((s.wr EVT_COMMIT.STATE 2).wr EVT_COMMIT.RESULT 0).wr EVT_COMMIT.AT 0).modE (fun e => { e with on := on })

/-- EVT_COMMIT_GO. -/
def execEvtCommitGo (s : State) : Out := .next s.commitGo

/-- EVT_COMMIT_DONE: the commit in progress completes. -/
def execEvtCommitDone (s : State) : Out := .next s.commitEnd

/-! ### Lines, gates, latches and pulses -/

/-- A write of EVT_SWTRIG: each 1 fires its software line. -/
def State.swTrig (s : State) (v : Word) : State :=
  (List.range 64).foldl (fun s n => if bitOf v n then s.fire (0xC0 + n) else s) s

/-- EVT_SWTRIG. -/
def execEvtSwtrig (v : Word) (s : State) : Out := .next (s.swTrig v)

/-- The event that a channel holds passes (R424, stages 3 and 4). -/
def State.heldPass (s : State) (k : Fin 64) : State :=
  if s.rdB (EVT_CH_STAT.HELD k) && s.rdB (EVT_GRP.EN (k.val / 8)) && !s.chanFrozen k.val then
    ((s.wr (EVT_CH_STAT.HELD k) 0).chanPass k).chanOut State.checkpointPart k
  else s

/-- RATE_GATE_REOPEN: the gate of a channel reopens, and the event that it holds passes. -/
def execRateGateReopen (k : Fin 64) (s : State) : Out := .next (s.heldPass k)

/-- LATCH_DELIVERY: a consumer input is no longer busy and takes the event of its latch (R423). -/
def execLatchDelivery (consumer : BitVec 16) (s : State) : Out :=
  .next (if consumerOk consumer.toNat then s.latchOut consumer.toNat else s)

/-- EVT_OUT_PULSE_END: the 40 ns pulse on a pin ends (R421). -/
def execEvtOutPulseEnd (n : Fin 4) (s : State) : Out :=
  .next ((s.modE (fun e => { e with pulse := setBitOf e.pulse n.val false })).latchOut (0x2090 + n.val))

/-- A write of EVT_GRP.EN: it takes effect at once, and disabling discards held events (R428). -/
def State.groupEn (s : State) (g : Fin 8) (on : Bool) : State :=
  let s := s.wrB (EVT_GRP.EN g) on
  if on then s else (List.range 8).foldl (fun s i => s.wr (EVT_CH_STAT.HELD (8 * g.val + i)) 0) s

end Sys2Proof.Machine
end

