-- ==== Sys2Proof/Machine/Image.lean ====
section
/-! DEFINITION. The Laell structure image: its layout (R31 to R53), its validation (R54 to R57), and the settings that it and the
factory structure (R60) give. -/

namespace Sys2Proof.Machine

/-- The little-endian number of n bytes at an offset (R9). -/
def leAt (b : List Byte) (off n : Nat) : Nat := leNat ((b.drop off).take n)

/-- Bytes at an offset. -/
def slice (b : List Byte) (off n : Nat) : List Byte := (b.drop off).take n

/-- Whether every byte is 0. -/
def zeros (b : List Byte) : Bool := b.all (fun x => x == 0)

/-- A length rounded up to a multiple of 8. -/
def pad8 (n : Nat) : Nat := (n + 7) / 8 * 8

/-- The records of a fixed size in a body. -/
def records (n : Nat) (b : List Byte) : List (List Byte) := (List.range (b.length / n)).map (fun i => slice b (i * n) n)

/-- Whether a value appears twice in a list. -/
def hasTwice : List Nat → Bool
  | [] => false
  | x :: xs => xs.contains x || hasTwice xs

/-- A section with the fields of its header (R37). -/
structure Sect where
  ty : Nat
  live : Bool
  crit : Bool
  rsv : Nat
  ver : Nat
  body : List Byte
  deriving DecidableEq, Repr

/-- The sections of an image from an offset to the signature block: none where the framing of R38 breaks. -/
def sections (b : List Byte) (sig : Nat) : Nat → Nat → Option (List Sect)
  | 0, off => if off = sig then some [] else none
  | fuel + 1, off =>
    if off = sig then some []
    else if sig < off + 8 then none
    else
      let h := leAt b off 8
      let len := nbits h 32 32
      let next := off + 8 + pad8 len
      if sig < next ∨ !zeros (slice b (off + 8 + len) (pad8 len - len)) then none
      else match sections b sig fuel next with
        | some l => some (⟨nbits h 0 16, bitOf (BitVec.ofNat 64 h) 16, bitOf (BitVec.ofNat 64 h) 17, nbits h 18 6, nbits h 24 8,
            slice b (off + 8) len⟩ :: l)
        | none => none

/-- Whether the part knows a section's layout (R39, R40). -/
def Sect.known (x : Sect) : Bool := decide (1 ≤ x.ty) && decide (x.ty ≤ 13) && x.ver == 1

/-- Whether a section is skipped and counted (R40). -/
def Sect.skipped (x : Sect) : Bool := !x.known && x.ty != 0 && (!x.crit || decide (0x8000 ≤ x.ty))

/-- The live-eligible types (R39). -/
def liveOk (ty : Nat) : Bool := ty == 1 || ty == 2 || ty == 3 || ty == 7 || ty == 13

/-- The body of a section of a type that the part knows. -/
def bodyOf (l : List Sect) (ty : Nat) : Option (List Byte) := (l.find? (fun x => x.ty == ty && x.known)).map (·.body)

/-- The records of a section of a type, none where it is absent. -/
def recsOf (l : List Sect) (ty n : Nat) : List (List Byte) := match bodyOf l ty with | some b => records n b | none => []

/-- The records of an EVENTS body, with whether the last is cut short and whether an unknown kind ends them (R47). -/
def evtRecs : Nat → List Byte → List (List Byte) × Bool × Bool
  | 0, _ => ([], false, false)
  | _ + 1, [] => ([], false, false)
  | fuel + 1, k :: b =>
    let n := if k = 2 then 16 else 8
    if k ≠ 1 ∧ k ≠ 2 ∧ k ≠ 3 then ([], false, true)
    else if (k :: b).length < n then ([], true, false)
    else
      let r := evtRecs fuel ((k :: b).drop n)
      ((k :: b).take n :: r.1, r.2)

/-- A record of BOOTPROG: its PTID, its reserved bytes and its image (R53). -/
abbrev ProgRec := Nat × Nat × List Byte

/-- The records of a BOOTPROG body: none where it breaks R53. -/
def progRecs : Nat → List Byte → Option (List ProgRec)
  | 0, b => if b = [] then some [] else none
  | fuel + 1, b =>
    if b = [] then some []
    else
      let len := leAt b 4 4
      if b.length < 8 + pad8 len ∨ !zeros (slice b (8 + len) (pad8 len - len)) then none
      else match progRecs fuel (b.drop (8 + pad8 len)) with
        | some l => some ((leAt b 0 1, leAt b 1 3, slice b 8 len) :: l)
        | none => none

/-- The EVENTS records of an image. -/
def evtOf (l : List Sect) : List (List Byte) × Bool × Bool :=
  match bodyOf l 7 with | some b => evtRecs (b.length / 8 + 1) b | none => ([], false, false)

/-- The BOOTPROG records of an image. -/
def progOf (l : List Sect) : Option (List ProgRec) :=
  match bodyOf l 13 with | some b => progRecs (b.length / 8 + 1) b | none => some []

/-! ### Settings -/

/-- The fields of a PARTITION record with its number; quotas are filled in later (R41). -/
def partRec (b : List Byte) : Nat × PartRec :=
  let v := leAt b 0 8
  let bit (i : Nat) : Bool := nbits v i 1 == 1
  (nbits v 16 4,
   { mask := BitVec.ofNat 16 v, lockstep := bit 20, shadow := bit 21, det := bit 22, ct := bit 23, il := BitVec.ofNat 2 (nbits v 24 2)
     hash := BitVec.ofNat 3 (nbits v 26 3), rootTr := bit 29, rootPn := bit 30, rootCt := bit 31
     progMib := BitVec.ofNat 5 (nbits v 32 5), entry := BitVec.ofNat 24 (nbits v 40 24), nearReserve := 0, nearLimit := 0
     celReserve := 0, celLimit := 0 })

/-- A partition record with its QUOTA record (R42). -/
def PartRec.withQuota (r : PartRec) (q : List Byte) : PartRec :=
  { r with nearReserve := leAt q 8 4, nearLimit := leAt q 12 4, celReserve := leAt q 16 4, celLimit := leAt q 20 4 }

/-- The partitions of an image, each with its QUOTA record. -/
def partsOf (l : List Sect) : List (Nat × PartRec) :=
  (recsOf l 1 8).map (fun b =>
    let p := partRec b
    match (recsOf l 2 24).find? (fun q => leAt q 0 1 == p.1) with
    | some q => (p.1, p.2.withQuota q)
    | none => p)

/-- The HASH entries: number, KIND, FOLD_LO and FOLD_WAYS (R45). -/
def hashesOf (l : List Sect) : List (Nat × (Nat × Nat × Nat)) :=
  (recsOf l 5 8).map (fun b =>
    let v := leAt b 0 8
    (nbits v 0 4, nbits v 4 4, nbits v 8 6, nbits v 14 4))

/-- A value drawn into a range (R57). -/
def clampN (v lo hi : Nat) : Nat := max lo (min hi v)

/-- The ladder that a SHED section puts in force (R48, R507). -/
def ladderOf (l : List Sect) : Vector Rung 6 :=
  (recsOf l 8 8).drop 1 |>.foldl (fun (v : Vector Rung 6) b =>
    let k := leAt b 0 1
    if h : 1 ≤ k ∧ k ≤ 6 then
      v.set (k - 1) ⟨clampN (leAt b 1 1) 10 80, clampN (leAt b 2 2) 1 1000, clampN (leAt b 4 2) 1 10000, clampN (leAt b 6 1) 5 40⟩ (by omega)
    else v) ladderReset

/-- A CLOCK record: TARGET_MHZ, LEAD_NS and DIDT after clamping, 0 as in the record (R49). -/
structure ClockRec where
  mhz : Nat
  lead : Nat
  didt : Nat
  deriving DecidableEq, Repr

/-- A value that 0 leaves open, drawn into a range otherwise. -/
def clamp0 (v lo hi : Nat) : Nat := if v = 0 then 0 else clampN v lo hi

/-- The CLOCK settings of the quadrants: without a record, those of the factory structure (R60). -/
def clocksOf (l : List Sect) : Vector ClockRec 4 :=
  (recsOf l 9 8).foldl (fun (v : Vector ClockRec 4) b =>
    let q := leAt b 0 1
    if h : q < 4 then v.set q ⟨clamp0 (leAt b 2 2) 800 2000, clamp0 (leAt b 4 2) 500 8000, clamp0 (leAt b 6 2) 25 400⟩ h else v)
    (Vector.replicate 4 ⟨0, 0, 0⟩)

/-- Whether a field of SHED or CLOCK was clamped (R57). -/
def clampedOf (l : List Sect) : Bool :=
  let out (v lo hi : Nat) : Bool := decide (v < lo) || decide (hi < v)
  let out0 (v lo hi : Nat) : Bool := v != 0 && out v lo hi
  ((recsOf l 8 8).drop 1).any (fun b =>
    out (leAt b 1 1) 10 80 || out (leAt b 2 2) 1 1000 || out (leAt b 4 2) 1 10000 || out (leAt b 6 1) 5 40) ||
  (recsOf l 9 8).any (fun b => out0 (leAt b 2 2) 800 2000 || out0 (leAt b 4 2) 500 8000 || out0 (leAt b 6 2) 25 400)

/-- A NETQ record (R43). -/
def netqRec (b : List Byte) : NetqRec :=
  ⟨⟨leAt b 0 1 % 16, by omega⟩, BitVec.ofNat 2 (leAt b 1 1), leAt b 2 1, leAt b 3 1, leAt b 4 2, leAt b 6 2⟩

/-- A selector, channel or group that an EVENTS record sets: register addresses and values (R47). -/
def evtSets (b : List Byte) : List (Nat × Word) :=
  let v := leAt b 0 8
  let put (a val : Nat) : Nat × Word := (a, BitVec.ofNat 64 val)
  match nbits v 0 8 with
  | 1 => [put (EVT_SEL.adr (nbits v 16 16)) (nbits v 32 16)]
  | 2 =>
    let k := nbits v 8 6
    let refr := if nbits v 32 16 = 0 then 32 else nbits v 32 16
    [put (EVT_CH_CFG.adr k) (nbits v 16 16 + 65536 * refr + 2 ^ 32 * 16), put (EVT_CH_IN.adr k) (leAt b 8 8)]
  | _ => [put (EVT_GRP.adr (nbits v 8 3)) (nbits v 11 1 + 65536 * nbits v 16 16 + 2 ^ 32 * nbits v 32 16)]

/-- The event settings that EVENTS records give: the settings that a commit would hold, where they differ from reset. Of two records for
one consumer, channel or group the later one holds (log entry 93, DESIGN CHOICE). -/
def evtSettings (rs : List (List Byte)) : List (Nat × Word) :=
  (rs.flatMap evtSets).foldl (fun m x => mapPut regReset m x.1 x.2) []

/-- The number of selection values of a contact function number; 0 where R639 does not list it. -/
def pinCount (f : Nat) : Nat :=
  if f < 0x10 then 6 else if f < 0x14 then 4 else if f < 0x18 then 3 else if 0x20 ≤ f ∧ f < 0x26 then 3 else 0

/-- Everything that a structure sets (R63). -/
structure Plan where
  src : Nat
  seq : Word
  fmt : Nat
  digest : List Byte
  parts : List (Nat × PartRec)
  hashes : List (Nat × (Nat × Nat × Nat))
  clocks : Vector ClockRec 4
  /-- Quadrants that a CLOCK record names. -/
  clockRecs : List Nat
  pins : List (Nat × Nat)
  fabric : List (Nat × Nat × Nat)
  netq : Option (List NetqRec)
  events : List (Nat × Word)
  unshadow : BitVec 16
  ladder : Vector Rung 6
  debug : DbgPol
  pair : PairRec
  progs : List (Nat × List Byte)
  owner : Option (List Byte)
  skipped : Nat
  clamped : Bool
  deriving DecidableEq, Repr

/-- The settings of a valid image. -/
def planOf (b : List Byte) (src : Nat) (l : List Sect) : Plan :=
  let parts := partsOf l
  { src := src, seq := BitVec.ofNat 64 (leAt b 8 8), fmt := leAt b 4 2, digest := slice b 0x20 64, parts := parts
    hashes := hashesOf l, clocks := clocksOf l, clockRecs := (recsOf l 9 8).map (fun r => leAt r 0 1)
    pins := (recsOf l 10 4).map (fun r => (leAt r 0 2, leAt r 2 1))
    fabric := (recsOf l 6 4).map (fun r => (leAt r 0 1, leAt r 1 1, leAt r 2 1 % 16))
    netq := match bodyOf l 3 with
      | some n => some ((records 8 n).map netqRec)
      | none => if parts.any (fun p => p.1 == 0) then none else some []
    events := evtSettings (evtOf l).1
    unshadow := match bodyOf l 8 with | some x => BitVec.ofNat 16 (leAt x 0 2) | none => 0
    ladder := ladderOf l
    debug := match bodyOf l 11 with
      | some x => ⟨nbits (leAt x 0 8) 0 1 == 1, nbits (leAt x 0 8) 1 1 == 1, nbits (leAt x 0 8) 2 1 == 1, BitVec.ofNat 16 (leAt x 2 2)⟩
      | none => ⟨true, true, true, 0xFFFF⟩
    pair := match bodyOf l 4 with
      | some x => ⟨BitVec.ofNat 2 (leAt x 0 1), BitVec.ofNat 2 (leAt x 1 1), if leAt x 2 2 = 0 then 10 else leAt x 2 2,
          BitVec.ofNat 64 (leAt x 8 8), BitVec.ofNat 128 (beNat16 (slice x 16 16)), BitVec.ofNat 16 (leAt x 32 2)⟩
      | none => ⟨0, 0, 10, 0, 0, 0⟩
    progs := ((progOf l).getD []).map (fun r => (r.1, r.2.2))
    owner := bodyOf l 12, skipped := min 255 (l.filter Sect.skipped).length, clamped := clampedOf l }
where
  /-- An IPv6 address from its bytes, most significant first. -/
  beNat16 (x : List Byte) : Nat := leNat x.reverse

/-- The factory structure; every present granule is reserved to PT0 (R60). -/
def factoryPlan (near cel : Nat) : Plan :=
  { src := 3, seq := 0, fmt := 0x0100, digest := List.replicate 64 0
    parts := [(0, { mask := 0xFFFF, lockstep := false, shadow := false, det := false, ct := false, il := 0, hash := 0, rootTr := true
                    rootPn := true, rootCt := true, progMib := 28, entry := 0, nearReserve := near, nearLimit := 0, celReserve := cel
                    celLimit := 0 })]
    hashes := [], clocks := Vector.replicate 4 ⟨0, 0, 0⟩, clockRecs := [], pins := [], fabric := [], netq := none, events := [], unshadow := 0
    ladder := ladderReset, debug := ⟨true, true, true, 0xFFFF⟩, pair := ⟨0, 0, 10, 0, 0, 0⟩, progs := [], owner := none, skipped := 0
    clamped := false }

/-! ### Checks 0x01 to 0x09 (R54) -/

/-- The public key of an image. -/
def imgKey (b : List Byte) : List Byte := slice b (leAt b 0x1C 4 + 8) 1952

/-- Checks 0x01 to 0x04 over the header. -/
def headFail (b : List Byte) : Nat :=
  let sig := leAt b 0x1C 4
  if leAt b 0 4 ≠ 0x4C41454C ∨ b.length < 256 then 1
  else if leAt b 5 1 ≠ 1 ∨ leAt b 6 2 ≠ 256 then 2
  else if 1048576 < leAt b 0x10 4 ∨ leAt b 0x18 4 ≠ 256 ∨ sig % 8 ≠ 0 ∨ sig < 256 ∨ leAt b 0x10 4 ≠ sig + 5272 ∨
      leAt b 0x14 2 = 0 ∨ 64 < leAt b 0x14 2 then 3
  else if leAt b 0x60 4 ≠ 0x4816 ∨ !zeros (slice b 0x16 2) ∨ !zeros (slice b 0xA0 96) then 4
  else 0

/-- Checks 0x05 to 0x09 of the image, in flash at `a` or held in memory: the key, the signature, the digest, SEQ and MIN_FW; 0x13 where the bytes that
a check needs cannot be read. -/
def State.keyFail (s : State) (a : Option Nat) (b : List Byte) : Nat × State :=
  let sig := leAt b 0x1C 4
  if s.unread a sig 5272 then (0x13, s)
  else if shake 32 (imgKey b) ≠ slice b 0x70 32 ∨ s.sec.set.ownerHash ≠ slice b 0x70 32 then (5, s)
  else if leAt b sig 2 ≠ 0x65 ∨ !zeros (slice b (sig + 2) 6) ∨ !zeros (slice b (sig + 0x1495) 3) then (6, s)
  else
    let v := s.verify (imgKey b) "LAELL-STRUCT" (b.take 256) (slice b (sig + 0x7A8) 3309)
    if !v.1 then (6, v.2)
    else if s.unread a 256 (sig - 256) then (0x13, v.2)
    else if shake 64 (slice b 256 (sig - 256)) ≠ slice b 0x20 64 then (7, v.2)
    else if leAt b 8 8 < s.sec.set.minSeq.toNat then (8, v.2)
    else if s.rd FW_VER.VERSION < leAt b 0x64 4 then (9, v.2)
    else (0, v.2)

/-- Checks 0x01 to 0x09 of the image, in flash at `a` or held in memory, in the order of R54: with no owner key hash in force an erased or malformed slot
reports its own first failure and not the 0x05 of R59 (log entry 94, DESIGN CHOICE). -/
def State.earlyFail (s : State) (a : Option Nat) (b : List Byte) : Nat × State :=
  if s.unread a 0 256 then (0x13, s) else if headFail b ≠ 0 then (headFail b, s) else s.keyFail a b

/-! ### Checks 0x0A to 0x12 (R54) -/

/-- 0x0A: framing, a TYPE twice, or a body whose length does not fit its records. -/
def failA (b : List Byte) (l : List Sect) : Bool :=
  let len (ty : Nat) (ok : Nat → Bool) : Bool := match bodyOf l ty with | some x => !ok x.length | none => false
  l.length != leAt b 0x14 2 || hasTwice (l.map (·.ty)) || len 1 (· % 8 == 0) || len 2 (· % 24 == 0) || len 3 (· % 8 == 0) ||
    len 4 (· == 40) || len 5 (· % 8 == 0) || len 6 (· % 4 == 0) || (evtOf l).2.1 || len 8 (fun n => n % 8 == 0 && n != 0) ||
    len 9 (· % 8 == 0) || len 10 (· % 4 == 0) || len 11 (· == 8) || len 12 (· == 32) || (progOf l).isNone

/-- 0x0B: a TYPE or VERSION that the part must not accept, or LIVE where it may not be set (R40). -/
def failB (l : List Sect) : Bool :=
  l.any (fun x => x.ty == 0 || (!x.known && !x.skipped) || (x.live && decide (x.ty ≤ 13) && !liveOk x.ty))

/-- 0x0D: the partition rules, and the records of BOOTPROG. -/
def failD (l : List Sect) : Bool :=
  let ps := partsOf l
  let bp := (progOf l).getD []
  let clash : Bool := (ps.foldl (fun (r : Bool × BitVec 16) p => (r.1 || p.2.mask == 0 || p.2.mask &&& r.2 != 0, r.2 ||| p.2.mask)) (false, 0)).1
  ps.isEmpty || clash || hasTwice (ps.map (·.1)) ||
    ps.any (fun p => (p.2.hash != 0 && !(hashesOf l).any (fun h => h.1 == p.2.hash.toNat)) || p.2.progMib == 0 || decide (28 < p.2.progMib.toNat)) ||
    hasTwice (bp.map (·.1)) ||
    bp.any (fun r => match ps.find? (fun p => p.1 == r.1) with
      | some p => r.2.2.isEmpty || decide (p.2.progMib.toNat * 1048576 < r.2.2.length)
      | none => true)

/-- 0x0E: the quota rules (R56). -/
def failE (l : List Sect) : Bool :=
  let ps := partsOf l
  let qs := (recsOf l 2 24).map (fun q => leAt q 0 1)
  hasTwice qs || qs.any (fun q => !ps.any (fun p => p.1 == q)) || ps.any (fun p => !qs.contains p.1) ||
    ps.any (fun p => decide (p.2.nearReserve < 16 * p.2.progMib.toNat) || (p.2.nearLimit != 0 && decide (p.2.nearLimit < p.2.nearReserve)) ||
      (p.2.celLimit != 0 && decide (p.2.celLimit < p.2.celReserve))) ||
    decide (12484608 < (ps.map (·.2.nearReserve)).sum) || decide (66584576 < (ps.map (·.2.celReserve)).sum)

/-- The first and last numbers of a NETQ record's queue sets and sessions, by port. -/
def netqSpans (b : List Byte) : Nat × (Nat × Nat) × (Nat × Nat) := (leAt b 1 1, (leAt b 2 1, leAt b 3 1), (leAt b 4 2, leAt b 6 2))

/-- 0x0F: NETQ ranges (R43). -/
def failF (l : List Sect) : Bool :=
  let rs := recsOf l 3 8
  let ps := partsOf l
  let bad (b : List Byte) : Bool :=
    let x := netqSpans b
    !ps.any (fun p => p.1 == leAt b 0 1) || decide (4096 < x.2.2.1 + x.2.2.2) || (x.2.2.2 != 0 && decide (x.2.2.1 < 16)) ||
      ((x.1 == 0 || x.1 == 1) && decide (64 < x.2.1.1 + x.2.1.2)) || (x.1 == 3 && (decide (8 < x.2.1.1 + x.2.1.2) || (x.2.1.1 == 0 && x.2.1.2 != 0)))
  let meet (a b : Nat × Nat) : Bool := a.2 != 0 && b.2 != 0 && decide (a.1 < b.1 + b.2) && decide (b.1 < a.1 + a.2)
  let pairs := (List.range rs.length).flatMap (fun i => (List.range i).map (fun j => (netqSpans (rs.getD i []), netqSpans (rs.getD j []))))
  rs.any bad || pairs.any (fun x => (x.1.1 == x.2.1 && meet x.1.2.1 x.2.2.1) || meet x.1.2.2 x.2.2.2)

/-- 0x10: the numbers of every EVENTS record, and loops without a gate in the settings that the records give together (R430). -/
def fail10 (l : List Sect) : Bool :=
  let rs := (evtOf l).1
  rs.any (fun b => (leAt b 0 1 == 1 && (!consumerOk (leAt b 2 2) || !(lineOk (leAt b 4 2) || chanOk (leAt b 4 2)))) ||
    (reservedSetting (evtSettings [b])).isSome) || (ungatedLoop (evtSettings rs)).isSome

/-- 0x11: SAG_MV falls along the ladder that would be in force (R48). -/
def fail11 (l : List Sect) : Bool :=
  let v := (ladderOf l).toList.map (·.sag)
  (List.zip v (v.drop 1)).any (fun x => decide (x.2 < x.1))

/-- Reserved fields and values of the fixed records (R41 to R53). -/
def failPlain (l : List Sect) : Bool :=
  (recsOf l 1 8).any (fun b => nbits (leAt b 0 8) 37 3 != 0 || nbits (leAt b 0 8) 24 2 == 3) ||
  (recsOf l 2 24).any (fun b => !zeros (slice b 1 7)) ||
  (recsOf l 3 8).any (fun b => leAt b 1 1 == 2 || decide (3 < leAt b 1 1) || leAt b 3 1 == 0) ||
  (recsOf l 5 8).any (fun b =>
    let v := leAt b 0 8
    nbits v 18 46 != 0 || nbits v 0 4 == 0 || decide (7 < nbits v 0 4) || decide (1 < nbits v 4 4) ||
      (nbits v 4 4 == 1 && (decide (nbits v 8 6 < 12) || decide (40 < nbits v 8 6) || nbits v 14 4 == 0 || decide (8 < nbits v 14 4)))) ||
  hasTwice ((hashesOf l).map (·.1)) ||
  (recsOf l 6 4).any (fun b => decide (33 < leAt b 0 1) || decide (36 < leAt b 1 1) || decide (15 < leAt b 2 1) || leAt b 3 1 != 0) ||
  hasTwice ((recsOf l 6 4).map (fun b => leAt b 0 2)) ||
  (recsOf l 10 4).any (fun b => decide (pinCount (leAt b 0 2) ≤ leAt b 2 1) || leAt b 3 1 != 0) ||
  hasTwice ((recsOf l 10 4).map (fun b => leAt b 0 2)) ||
  (recsOf l 11 8).any (fun b => nbits (leAt b 0 8) 3 13 != 0 || nbits (leAt b 0 8) 32 32 != 0) ||
  ((progOf l).getD []).any (fun r => r.2.1 != 0)

/-- Reserved fields and values of PAIR, SHED, CLOCK and EVENTS records. -/
def failRanged (l : List Sect) : Bool :=
  (recsOf l 4 40).any (fun b =>
    decide (2 < leAt b 0 1) || decide (2 < leAt b 1 1) || (leAt b 1 1 != 0 && leAt b 0 1 != 1) || decide (1000 < leAt b 2 2) ||
      (leAt b 0 1 != 0 && leAt b 8 8 == 0) || !zeros (slice b 4 4) || !zeros (slice b 34 6)) ||
  ((recsOf l 8 8).take 1).any (fun b => !zeros (slice b 2 6)) ||
  ((recsOf l 8 8).drop 1).any (fun b => leAt b 0 1 == 0 || decide (6 < leAt b 0 1) || leAt b 7 1 != 0) ||
  hasTwice (((recsOf l 8 8).drop 1).map (fun b => leAt b 0 1)) ||
  (recsOf l 9 8).any (fun b => decide (3 < leAt b 0 1) || leAt b 1 1 != 0) ||
  hasTwice ((recsOf l 9 8).map (fun b => leAt b 0 1)) ||
  (evtOf l).2.2 ||
  (evtOf l).1.any (fun b =>
    let v := leAt b 0 8
    match nbits v 0 8 with
    | 1 => nbits v 8 8 != 0 || nbits v 48 16 != 0
    | 2 => nbits v 14 2 != 0 || nbits v 48 16 != 0 || (decide (1 ≤ nbits v 32 16) && decide (nbits v 32 16 ≤ 15)) || leAt b 8 8 == 2 ^ 64 - 1
    | _ => nbits v 12 4 != 0 || nbits v 48 16 != 0)

/-- 0x12: reserved encodings, fields that must be 0, and the values that the rules of the sections name. -/
def fail12 (l : List Sect) : Bool := l.any (fun x => x.rsv != 0) || failPlain l || failRanged l

/-- Checks 0x0A to 0x12 in order: the first failure, 0 where all pass. -/
def lateFail (b : List Byte) : Nat :=
  match sections b (leAt b 0x1C 4) 64 256 with
  | none => 0x0A
  | some l =>
    if failA b l then 0x0A
    else if failB l then 0x0B
    else if (bodyOf l 1).isNone || (bodyOf l 2).isNone then 0x0C
    else if failD l then 0x0D
    else if failE l then 0x0E
    else if failF l then 0x0F
    else if fail10 l then 0x10
    else if fail11 l then 0x11
    else if fail12 l then 0x12
    else 0

/-- The sections of an image that passed R54. -/
def imgSects (b : List Byte) : List Sect := (sections b (leAt b 0x1C 4) 64 256).getD []

/-- Validation under R54 of the image, in flash at `a` or held in memory: its first failure, 0 where it is valid. -/
def State.imgFail (s : State) (a : Option Nat) (b : List Byte) : Nat × State :=
  let r := s.earlyFail a b
  if r.1 ≠ 0 then r else (lateFail b, r.2)

/-- The image in a flash slot: as long as its header says, the header alone where that cannot be (R31). -/
def State.imgAt (s : State) (a : Nat) : List Byte :=
  let h := s.flashRead a 256
  if leAt h 0 4 ≠ 0x4C41454C ∨ leAt h 0x10 4 < 256 ∨ 1048576 < leAt h 0x10 4 then h else s.flashRead a (leAt h 0x10 4)

end Sys2Proof.Machine
end

