-- ==== Sys2Proof/Machine/Bank.lean ====
section
/-! DEFINITION. Firmware banks: manifest, Merkle tree, the ROM's checks and choice (R566 to R569), and what a download holds
(R580). -/

namespace Sys2Proof.Machine

/-- The flash address of a bank: 0 A, 1 B (R565). -/
def bankBase (b : Nat) : Nat := b * 0x04000000

/-- The manifest and signature block in a bank, 5,784 bytes. -/
def State.bankHead (s : State) (b : Nat) : List Byte := s.flashRead (bankBase b) 512 ++ s.flashRead (bankBase b + 0x200) 5272

/-- Fields of a manifest (R566). -/
def fwSeq (m : List Byte) : Nat := leAt m 8 8
/-- PIECES of a manifest. -/
def fwPieces (m : List Byte) : Nat := leAt m 0x1C 4
/-- ROOT of a manifest. -/
def fwRoot (m : List Byte) : List Byte := slice m 0x20 32

/-- The entries of SECT that are in use: type, offset and length. -/
def fwSects (m : List Byte) : List (Nat × Nat × Nat) :=
  (List.range (leAt m 0x1A 2)).map (fun i => (leAt m (0x48 + 16 * i) 4, leAt m (0x4C + 16 * i) 4, leAt m (0x50 + 16 * i) 4))

/-- A leaf of the Merkle tree (R567). -/
def merkleLeaf (i : Nat) (piece : List Byte) : List Byte := shake 32 ([0] ++ leBytes 4 i ++ piece)

/-- A node of the tree. -/
def merkleNode (a b : List Byte) : List Byte := shake 32 ([1] ++ a ++ b)

/-- The next level: pairs from index 0; a last node alone passes up. -/
def merkleUp : List (List Byte) → List (List Byte)
  | a :: b :: l => merkleNode a b :: merkleUp l
  | l => l

/-- The single node of the top level. -/
def merkleRoot : Nat → List (List Byte) → List Byte
  | 0, l => l.headD []
  | fuel + 1, l => if l.length ≤ 1 then l.headD [] else merkleRoot fuel (merkleUp l)

/-- The root that a leaf and its proof give in a tree of n leaves; the proof left over comes with it. -/
def merklePath : Nat → Nat → Nat → List Byte → List (List Byte) → List Byte × List (List Byte)
  | 0, _, _, h, pf => (h, pf)
  | fuel + 1, n, i, h, pf =>
    if n ≤ 1 then (h, pf)
    else
      let alone : Bool := i % 2 == 0 && i + 1 == n
      let r := if alone then (h, pf) else match pf with
        | x :: rest => (if i % 2 = 0 then merkleNode h x else merkleNode x h, rest)
        | [] => ([], [])
      merklePath fuel ((n + 1) / 2) (i / 2) r.1 r.2

/-- The number of hashes in a proof (R567). -/
def merkleLen : Nat → Nat → Nat → Nat
  | 0, _, _ => 0
  | fuel + 1, n, i =>
    if n ≤ 1 then 0
    else (if i % 2 = 0 ∧ i + 1 = n then 0 else 1) + merkleLen fuel ((n + 1) / 2) (i / 2)

/-- The root over the pieces in a bank. -/
def State.bankRoot (s : State) (b n : Nat) : List Byte :=
  merkleRoot 15 ((List.range n).map (fun i => merkleLeaf i (s.flashRead (bankBase b + 0x4000 + 4096 * i) 4096)))

/-- Checks 0x01 and 0x02 of a manifest. -/
def fwFormFail (h : List Byte) : Nat :=
  if leAt h 0 4 ≠ 0x4D57464B then 1
  else if leAt h 4 2 ≠ 0x0100 ∨ leAt h 6 2 ≠ 512 ∨ leAt h 0x40 4 ≠ 0x4816 ∨ Config.fusedRev.toNat < leAt h 0x44 4 ∨
      !zeros (slice h 0xC8 312) ∨ (List.range 8).any (fun i => leAt h (0x54 + 16 * i) 4 != 0) ∨
      !zeros (slice h 0x202 6) ∨ !zeros (slice h 0x1695 3) then 2
  else 0

/-- Checks 0x05 and 0x06: SVN, and pieces and sections within bounds. -/
def State.fwBoundsFail (s : State) (h : List Byte) : Nat :=
  let xs := fwSects h
  if leAt h 0x14 1 < s.svn then 5
  else if fwPieces h = 0 ∨ 16380 < fwPieces h ∨ leAt h 0x1A 2 = 0 ∨ 8 < leAt h 0x1A 2 ∨
      xs.any (fun x => x.1 == 0 || decide (3 < x.1) || decide (4096 * fwPieces h < x.2.1 + x.2.2)) ∨ hasTwice (xs.map (·.1)) ∨
      !xs.any (fun x => x.1 == 1) then 6
  else 0

/-- Checks 0x01 to 0x06 of a manifest with its signature block (R568). -/
def State.fwHeadFail (s : State) (h : List Byte) : Nat × State :=
  let slot := leAt h 0x15 1
  let hash := (List.range 4).foldl (fun l i => l ++ leBytes 8 (s.fuseVal (4 + 4 * slot + i)).toNat) []
  if fwFormFail h ≠ 0 then (fwFormFail h, s)
  else if 1 < slot ∨ (slot = 0 ∧ popcount (s.fuseVal 12) ≠ 0) ∨ shake 32 (slice h 0x208 1952) ≠ hash then (3, s)
  else if leAt h 0x200 2 ≠ 0x65 then (4, s)
  else
    let v := s.verify (slice h 0x208 1952) "KORNOELM-FW" (h.take 512) (slice h 0x9A8 3309)
    if !v.1 then (4, v.2) else (v.2.fwBoundsFail h, v.2)

/-- The ROM's check of a bank: its first failure, 0 where it passes; 0x08 where the bytes that a check needs cannot be read (R568). -/
def State.bankFail (s : State) (b : Nat) : Nat × State :=
  if s.flashDead (bankBase b) 5784 then (8, s)
  else if leNat (s.flashRead (bankBase b) 4) ≠ 0x4D57464B then (1, s)
  else
    let h := s.bankHead b
    let r := s.fwHeadFail h
    if r.1 ≠ 0 then r
    else if s.flashDead (bankBase b + 0x4000) (4096 * fwPieces h) then (8, r.2)
    else if r.2.bankRoot b (fwPieces h) ≠ fwRoot h then (7, r.2)
    else (0, r.2)

/-- What the choice of a bank gives: the bank, whether on trial with its number of trial boots, and whether a trial was abandoned. -/
structure BankPick where
  bank : Nat
  trial : Bool
  tries : Nat
  fallback : Bool
  deriving DecidableEq, Repr

/-- A bank code of the boot-control record: 1 bank A, 2 bank B (R571). -/
def bankOf (code : BitVec 2) : Option Nat := if code = 1 then some 0 else if code = 2 then some 1 else none

/-- A seal of the boot-control record alone: settings and format stay (R569). -/
def State.sealBcr (s : State) (x : SetSlot) : State :=
  let c := slotWrite s.sec.slots[0] s.sec.slots[1] x
  s.modSec (fun e => { e with slots := #v[c.1, c.2, e.slots[2], e.slots[3]] })

/-- The bank that runs where no trial does (R569). -/
def State.usualBank (s : State) (okA okB : Bool) : Option Nat :=
  let conf := match s.bcr with | some x => bankOf x.conf | none => none
  match conf with
  | some 0 => if okA then some 0 else if okB then some 1 else none
  | some _ => if okB then some 1 else if okA then some 0 else none
  | none =>
    if okA && okB then some (if fwSeq (s.bankHead 0) < fwSeq (s.bankHead 1) then 1 else 0)
    else if okA then some 0 else if okB then some 1 else none

/-- The choice of R569: a recovery cause, or the bank. -/
def State.pickBank (s : State) (okA okB : Bool) : Except Nat BankPick × State :=
  let a := s.bankHead 0
  let b := s.bankHead 1
  let ok (n : Nat) : Bool := if n = 0 then okA else okB
  if okA && okB && fwSeq a == fwSeq b && fwRoot a != fwRoot b then (.error 2, s)
  else
    let usual (s : State) (fb : Bool) : Except Nat BankPick × State :=
      match s.usualBank okA okB with | some n => (.ok ⟨n, false, 0, fb⟩, s) | none => (.error 1, s)
    match s.bcr with
    | none => usual s false
    | some x =>
      match bankOf x.trial with
      | none => usual s false
      | some t =>
        if x.tries.toNat < 3 && ok t then (.ok ⟨t, true, x.tries.toNat + 1, false⟩, s.sealBcr { x with tries := x.tries + 1 })
        else usual (s.sealBcr { x with trial := 0 }) true

/-! ### Downloads (R580) -/

/-- The pieces of the download that is held. -/
def Download.all (d : Download) : Bool := (List.range d.pieces).all (fun i => d.held.contains i)

/-- The bank that does not run. -/
def State.otherBank (s : State) : Nat := 1 - s.rd BOOT_STAT.BANK

/-- The last step of a download whose pieces are all held: ROOT over the bank, or R54 over the staging slot (R580). -/
def State.verifyDl (s : State) (d : Download) : State :=
  if d.struct then
    let r := s.imgFail (some 0x0C000000) (s.imgAt 0x0C000000)
    (r.2.wr UPD_STAT.SCODE r.1).wr UPD_STAT.STATE (if r.1 = 0 then 3 else 4)
  else s.wr UPD_STAT.STATE (if s.bankRoot s.otherBank d.pieces = fwRoot d.head then 3 else 4)

/-- The download that is held: a record of a structure, or one that matches the manifest in the bank that does not run (R580). -/
def State.heldDl (s : State) : Option Download :=
  s.sec.dl.filter (fun (d : Download) => d.struct || s.flashRead (bankBase s.otherBank) 512 == d.head.take 512)

/-- UPD_STAT as the download gives it. -/
def State.showDl (s : State) : State :=
  match s.heldDl with
  | none => (((s.wr UPD_STAT.STATE 0).wr UPD_STAT.RECEIVED 0).wr UPD_STAT.TOTAL 0)
  | some d =>
    let s := (((s.wrB UPD_STAT.KIND d.struct).wr UPD_STAT.RECEIVED d.held.length).wr UPD_STAT.TOTAL d.pieces).wr UPD_STAT.STATE 1
    if d.all then s.verifyDl d else s

end Sys2Proof.Machine
end

