-- ==== Sys2Proof/Machine/Net.lean ====
section
/-! DEFINITION. The Kornoelm Work Transport (R445 to R469, R475): sessions, sequence and retransmission, tokens, queue sets and
NOTIFY, and the CRC algorithms of R470. The Custodian and the Ubori Link enter as hooks. -/

namespace Sys2Proof.Machine

/-! ### Sessions and queue sets -/

/-- A session. -/
def State.ses (s : State) (n : Nat) : Sess := mapGet (fun _ => Sess.reset) s.net.sess n

/-- Change a session. -/
def State.modSes (s : State) (n : Nat) (f : Sess → Sess) : State :=
  s.modN (fun e => { e with sess := mapPut (fun _ => Sess.reset) e.sess n (f (mapGet (fun _ => Sess.reset) e.sess n)) })

/-- The partition and the port of a session from 16 up; a port of none is any of E0, E1 and M0 (R43, R449). -/
def State.sessHome (s : State) (n : Nat) : Option (PartId × Option Nat) :=
  if n < 16 then none
  else match s.net.netq with
    | none => if (s.part 0).rcd.isSome then some (0, none) else none
    | some l => (l.find? (fun r => decide (r.sessFirst ≤ n) && decide (n < r.sessFirst + r.sessCount))).map
        (fun r => (r.part, some r.port.toNat))

/-- Whether frames of a session are accepted on a port (R449); in RECOVERY only session 0 on M0 exists (R586). -/
def State.sessPort (s : State) (n port : Nat) : Bool :=
  if s.sec.sys = .recovery then n == 0 && port == 3
  else if n < 16 then port == 3 || (decide (port < 2) && s.rdB KWT_CFG.MGMT_HOST)
  else match s.sessHome n with
    | some (_, some q) => port == q
    | some (_, none) => port != 2
    | none => false

/-- The partition of a queue set, given as 64 × port + number (R43). -/
def State.qsHome (s : State) (qs : Nat) : Option PartId :=
  let port := qs / 64
  let q := qs % 64
  if port = 2 ∨ (port = 3 ∧ (q = 0 ∨ 8 ≤ q)) ∨ 255 < qs then none
  else match s.net.netq with
    | none => if (s.part 0).rcd.isSome then some 0 else none
    | some l => (l.find? (fun r => r.port.toNat == port && decide (r.qsFirst ≤ q) && decide (q < r.qsFirst + r.qsCount))).map (·.part)

/-- The state of a session: 0 DISABLED, 1 LISTEN, 2 OPEN, 3 BROKEN. -/
def State.sessState (s : State) (n : Nat) : Nat := s.rd (SESS_STAT.STATE n)

/-- Whether DACK can advance for partition sessions: a Mirror-Active side in sync, or a Twin (R463). -/
def State.paired (s : State) : Bool :=
  s.rd PAIR_STAT.STATE == 3 && (s.rd PAIR_STAT.ROLE == 1 || s.rd PAIR_STAT.ROLE == 3 || s.rd PAIR_STAT.ROLE == 4)

/-- Whether a halted CP freezes the sessions of a session's partition (R474, R606). -/
def State.sessFrozen (s : State) (n : Nat) : Bool :=
  match s.sessHome n with
  | some (p, _) => (fins 32).any (fun c => (s.cp c).inDebug && bitOf (s.reg (DBG_FREEZE.adr c)) 2 && s.cpPart c == some p)
  | none => false

/-! ### What leaves -/

/-- What waited for a port leaves once its priority runs again. -/
def State.flushPort (s : State) (port : Nat) : State :=
  if s.portPaused port then s
  else
    let go := s.net.waiting.filter (fun t => t.port == port)
    go.foldl (fun s t => s.leave t) (s.modN (fun e => { e with waiting := e.waiting.filter (fun t => t.port != port) }))

/-- Send a frame of a session to its peer, with ACK and the trailer (R445, R448, R452). -/
def State.emit (s : State) (n : Nat) (f : OutFrame) : State :=
  s.leave (.kwt n (s.ses n).peer f (BitVec.ofNat 32 (s.rd (SESS_SEQ.RX_NEXT n))) (trailerOf f.payload))

/-- Whether a retransmission can be timed now: not while paused or frozen, nor in SLEEP and at shed level 7 (R453, R474, R476, R477). -/
def State.sessTimed (s : State) (n : Nat) : Bool :=
  s.sec.sys != .sleep && decide (s.shed < 7) && !s.sessFrozen n && (match (s.ses n).peer with | some p => !s.portPaused p.port.val | none => true)

/-- Frames that wait leave in order, while fewer than 64 await an ACK and none before them is held (R453, R464). -/
def State.pump (s : State) (n : Nat) : Nat → State
  | 0 => s
  | fuel + 1 =>
    match (s.ses n).wait with
    | w :: rest =>
      if w.hold.isSome ∨ 64 ≤ (s.ses n).out.length then s
      else if w.f.op = 0x12 then ((s.modSes n (fun x => { x with wait := rest })).emit n w.f).pump n fuel
      else ((s.modSes n (fun x => { x with wait := rest, out := x.out ++ [⟨w.f, s.now, 0, false⟩] })).emit n w.f).pump n fuel
    | [] => s

/-- The checkpoint or compare that a frame of a session waits for: RESP and NOTIFY of a Mirror-Active side under OUTCOMMIT,
every frame in Twin (R464). -/
def State.holdFor (s : State) (n : Nat) (ack : Bool) : Option Nat :=
  if n < 16 ∨ !s.paired then none
  else if s.rd PAIR_STAT.ROLE = 1 then (if s.rdB (SESS_CTL.OUTCOMMIT n) && !ack then some s.pair.next.toNat else none)
  else some s.pair.next.toNat

/-- A frame of a session is created (R464, R549). -/
def State.queueTx (s : State) (n : Nat) (f : OutFrame) : State :=
  let role := s.rd PAIR_STAT.ROLE
  let s := if (role = 3 ∨ role = 4) ∧ 16 ≤ n then
      { s with pair := { s.pair with outputs := s.pair.outputs ++ [(n, f)] } } else s
  let hold := s.holdFor n (f.op == 0x12)
  if f.op = 0x12 ∧ hold.isNone then s.emit n f
  else
    let s := s.modSes n (fun x => { x with wait := x.wait ++ [⟨f, hold⟩] })
    s.pump n ((s.ses n).wait.length)

/-- A frame that uses SEQ is created. -/
def State.sendSeq (s : State) (n : Nat) (op : Byte) (flags : BitVec 16) (off arg : Word) (payload : List Byte) : State :=
  let q := s.rd (SESS_SEQ.TX_NEXT n)
  (s.wr (SESS_SEQ.TX_NEXT n) ((q + 1) % 2 ^ 32)).queueTx n ⟨op, BitVec.ofNat 32 q, flags, off, arg, payload⟩

/-- The SACK bitmap of a session (R452). -/
def State.sackBits (s : State) (n : Nat) : Word :=
  let rx := BitVec.ofNat 32 (s.rd (SESS_SEQ.RX_NEXT n))
  (s.ses n).held.foldl (fun (w : Word) h => let d := (h.f.seq - rx).toNat; if 1 ≤ d ∧ d ≤ 64 then setBitOf w (d - 1) true else w) 0

/-- Send an ACK frame, with the resync SEQ and flags of R447 (R452, R463). -/
def State.ackWith (s : State) (n : Nat) (flags : BitVec 16) (resync : Nat) : State :=
  let fl := if s.paired && decide (16 ≤ n) then flags else setBitOf flags 3 true
  let s := s.modSes n (fun x => { x with done := 0, firstAt := none })
  s.queueTx n ⟨0x12, 0, fl, s.sackBits n, BitVec.ofNat 64 (s.rd (SESS_ACK.DACK n) + resync * 2 ^ 32), []⟩

/-- Send an ACK frame. -/
def State.ack (s : State) (n : Nat) : State := s.ackWith n 0 0

/-- Send an ACK unless a frame of the session with the same ACK has left since `before` frames had left (R452). -/
def State.ackUnless (s : State) (n before : Nat) : State :=
  let rx := BitVec.ofNat 32 (s.rd (SESS_SEQ.RX_NEXT n))
  if (s.net.sent.take (s.net.sent.length - before)).any (fun t => match t with | .kwt m _ _ a _ => m == n && a == rx | _ => false) then
    s.modSes n (fun x => { x with done := 0, firstAt := none })
  else s.ack n

/-- A RESP to a request: status, fabric status, byte offset of a READ piece and payload (R446, R455). -/
def State.resp (s : State) (n : Nat) (flags : BitVec 16) (req : BitVec 32) (status fab : Byte) (off : Nat) (payload : List Byte) : State :=
  s.sendSeq n 0x13 flags (req.setWidth 64) (BitVec.ofNat 64 (status.toNat + 256 * fab.toNat + off * 2 ^ 32)) payload

/-- A session becomes BROKEN or LISTEN: its own unacknowledged frames and held frames are discarded. -/
def State.dropSes (s : State) (n st : Nat) : State :=
  (s.modSes n (fun x => { x with held := [], out := [], wait := [], reads := [], closing := false, dur := [], done := 0,
                                 firstAt := none })).wr (SESS_STAT.STATE n) st

/-! ### ACK from the host (R453) -/

/-- Whether a sequence number lies before another. -/
def seqBefore (a b : BitVec 32) : Bool := decide (2 ^ 31 ≤ (a - b).toNat)

/-- The ACK of a received frame, with the SACK bitmap of an ACK frame. -/
def State.hostAck (s : State) (n : Nat) (a : BitVec 32) (sack : Word) : State :=
  let sacked (q : BitVec 32) : Bool := let d := (q - a).toNat; decide (1 ≤ d) && decide (d ≤ 64) && bitOf sack (d - 1)
  let above (q : BitVec 32) : Nat := ((List.range 64).filter (fun j => bitOf sack j && seqBefore q (a + 1 + BitVec.ofNat 32 j))).length
  let s := s.modSes n (fun x => { x with out := x.out.filter (fun r => !seqBefore r.f.seq a && !sacked r.f.seq) })
  let again := (s.ses n).out.filter (fun r => !r.fast && decide (3 ≤ above r.f.seq))
  let s := again.foldl (fun s r =>
    let f := { r.f with flags := setBitOf r.f.flags 5 true }
    (s.modSes n (fun x => { x with out := x.out.map (fun y => if y.f.seq = r.f.seq then { y with fast := true, last := s.now } else y) })).emit n f) s
  s.pump n ((s.ses n).wait.length)

/-! ### Memory through the part's own engines -/

/-- The access of an engine to a partition's addresses. -/
def State.engAccess (s : State) (p : PartId) (wr : Bool) : Access :=
  { part := p, cl := ((fins 16).find? (fun c => (s.part p).hasCl c.val)).getD 0, num := 0xFF, wr := wr, pin := false, win := none }

/-- The parts of a range between granules of 64 KiB. -/
def splitPages (va n : Nat) : List (Nat × Nat) :=
  if n = 0 then []
  else (List.range ((va + n - 1) / 65536 - va / 65536 + 1)).map (fun i =>
    let lo := max va ((va / 65536 + i) * 65536)
    (lo, min (va + n) ((va / 65536 + i + 1) * 65536) - lo))

/-- Translate every page of a range before anything happens. -/
def State.pages (s : State) (a : Access) (va n : Nat) : AccOut × State :=
  (splitPages va n).foldl (fun (r : AccOut × State) p =>
    match r.1 with
    | .ok l =>
      let q := r.2.translate a p.1
      match q.1 with
      | .ok key => (.ok (l ++ [(key, p.2)]), q.2)
      | .fault c i => (.fault c.toNat i, q.2)
      | .wait => (.wait, q.2)
    | _ => r) (.ok [], s)

/-- A DMA access to a scratchpad waits while others use its bank: SPAD_DMA_WAIT counts a number of cycles that is a free value (R341,
R345; log entry 59, DESIGN CHOICE). -/
def State.dmaWait (s : State) (key : Nat) : State :=
  if storeOf key = .spad then
    let r := s.fresh
    r.2.cnt (SPAD_DMA_WAIT.CYCLES ((key - spadBase) / 0x400000)) (r.1.toNat % 2 ^ 48)
  else s

/-- Write bytes to spans of keys, clearing tags (R121). -/
def State.putSpans (s : State) (spans : List (Nat × Nat)) (bs : List Byte) : State :=
  (spans.foldl (fun (r : List Byte × State) sp =>
    (r.1.drop sp.2, (r.2.dmaWait sp.1).writeBy none sp.1 (r.1.take sp.2))) (bs, s)).2

/-- Read spans of keys: whether any is poisoned, and the bytes. -/
def State.getSpans (s : State) (spans : List (Nat × Nat)) : Bool × List Byte × State :=
  spans.foldl (fun (r : Bool × List Byte × State) sp =>
    let q := (r.2.2.dmaWait sp.1).readBy none sp.1 sp.2
    (r.1 || q.1.isSome, r.2.1 ++ q.2.bytesAt sp.1 sp.2, if q.1.isSome then q.2.bucket 12 1 else q.2)) (false, [], s)

/-! ### Tokens (R458 to R462) -/

/-- The statuses of R455. -/
def stToken : Byte := 0x01
/-- RIGHTS. -/
def stRights : Byte := 0x02
/-- BOUNDS. -/
def stBounds : Byte := 0x03
/-- BUSY. -/
def stBusy : Byte := 0x04
/-- QFULL. -/
def stQfull : Byte := 0x05
/-- POISON. -/
def stPoison : Byte := 0x06
/-- FAULT. -/
def stFault : Byte := 0x07
/-- BADOP. -/
def stBadop : Byte := 0x08
/-- AUTH. -/
def stAuth : Byte := 0x09
/-- FABRIC. -/
def stFabric : Byte := 0x0A
/-- CRC. -/
def stCrc : Byte := 0x0B

/-- The tag of a token (R459): 12 bytes of KMAC256 over its first four. -/
def tokenTag (key : List Byte) (head : List Byte) : List Byte :=
  kmac256 key head [0x4B, 0x57, 0x54, 0x2D, 0x54, 0x4F, 0x4B, 0x45, 0x4E] 12

/-- The 16 bytes of a token (R458). -/
def tokenBytes (key : List Byte) (idx : Nat) (rights : BitVec 3) (gen : Byte) : List Byte :=
  let head := leBytes 4 (idx + rights.toNat * 2 ^ 16 + gen.toNat * 2 ^ 24)
  head ++ tokenTag key head

/-- An entry of the token table. -/
def State.tokEnt (s : State) (i : Nat) : TokEnt := mapGet (fun _ => TokEnt.reset) s.net.tok i

/-- Set an entry of the token table. -/
def State.setTok (s : State) (i : Nat) (e : TokEnt) : State :=
  s.modN (fun x => { x with tok := mapPut (fun _ => TokEnt.reset) x.tok i e })

/-- The checks of R460 on an entry, from GEN on, for a right and a range. -/
def TokEnt.check (e : TokEnt) (gen : Byte) (right : Nat) (p : PartId) (sess : Option Nat) (off len : Nat) (bounded : Bool) : Byte :=
  if !e.valid || e.gen != gen then stToken
  else if !bitOf e.rights right || e.part.val != p.val ||
      (match e.sess, sess with | some r, some n => r.toNat != n | _, _ => false) then stRights
  else if bounded && !(decide (e.base ≤ e.cursor + off) && decide (e.cursor + off + len ≤ e.top)) then stBounds
  else 0

/-- The token check of a request (R460): its status, and the state with what a failed tag feeds. -/
def State.tokenCheck (s : State) (f : KwtFrame) (right len : Nat) (bounded : Bool) : Byte × State :=
  let t := f.token.toNat
  let head := leBytes 4 (t % 2 ^ 32)
  let i := s.inject 0x43 (s.rd INJ_SEL.INST)
  let s := i.2
  let tagOk := !i.1 && decide (leBytes 12 (t / 2 ^ 32) = tokenTag s.net.tokKey head)
  if !tagOk then (stToken, (s.cntSat KWT_STAT.TOKFAIL 1).bucket 21 1)
  else
    let e := s.tokEnt (t % 2 ^ 16)
    let p := match s.sessHome f.session.toNat with | some x => x.1 | none => 0
    let st := if nbits t 16 3 = e.rights.toNat ∨ !e.valid then
        e.check (BitVec.ofNat 8 (nbits t 24 8)) right p (some f.session.toNat) f.offset.toNat len bounded
      else if e.gen != BitVec.ofNat 8 (nbits t 24 8) then stToken else stRights
    (st, if st = stToken then s.cntSat KWT_STAT.TOKFAIL 1 else s)

/-- TOKEN_BIND at a token port (R461). -/
def State.tokBind (s : State) (tp : Fin 17) : State :=
  let refuse (s : State) (r : Nat) : State := (s.wr (TOK_STAT.STATE tp) 3).wr (TOK_STAT.RESULT tp) r
  let a := s.rd (TOK_ADDR.ADDR tp)
  let rights := s.rd (TOK_CFG.RIGHTS tp)
  if h : tp.val < 16 then
    let p : PartId := ⟨tp.val, h⟩
    let r := s.translate (s.engAccess p false) a
    match r.1 with
    | .ok key =>
      if a % 16 ≠ 0 then refuse r.2 5
      else
        let q := r.2.readBy none key 16
        if q.1.isSome then refuse q.2 5
        else
          let t := q.2.readTag (key / 16)
          let k : Cap := ⟨BitVec.ofNat 128 (leNat (t.2.bytesAt key 16)), t.1⟩
          let s := t.2
          if !k.tag then refuse s 1
          else if k.otype ≠ 0 then refuse s 2
          else if !k.has permNetwork || (rights % 2 == 1 && !k.has permR) || (decide (2 ≤ rights) && !k.has permW) then refuse s 3
          else match (List.range 65535).find? (fun i => let e := s.tokEnt (i + 1); !e.valid && e.gen != 0xFF) with
            | none => refuse s 4
            | some i =>
              let i := i + 1
              let g := (s.tokEnt i).gen
              let e : TokEnt :=
                ⟨true, g, tp, BitVec.ofNat 3 rights, k.cursor, k.base, k.top,
                 BitVec.ofNat 8 (64 * s.rd (TOK_CFG.PORT tp) + s.rd (TOK_CFG.QS tp)),
                 if s.rdB (TOK_CFG.ANYSESS tp) then none else some (BitVec.ofNat 12 (s.rd (TOK_CFG.SESSION tp)))⟩
              let tk := leNat (tokenBytes s.net.tokKey i (BitVec.ofNat 3 rights) g)
              let s := ((s.setTok i e).wr (TOK_STAT.STATE tp) 2).wr (TOK_STAT.RESULT tp) 0
              (s.setReg (TOK_OUT.adr tp 0) (BitVec.ofNat 64 tk)).setReg (TOK_OUT.adr tp 1) (BitVec.ofNat 64 (tk / 2 ^ 64))
    | _ => refuse r.2 5
  else refuse s 5

/-- UNBIND of an index: VALID clears and GEN increments (R461). An entry of another owner is left. -/
def State.tokUnbind (s : State) (tp : Fin 17) (idx : Nat) : State :=
  let e := s.tokEnt idx
  let s := if e.valid ∧ e.part = tp then s.setTok idx { e with valid := false, gen := e.gen + 1 } else s
  (s.wr (TOK_STAT.STATE tp) 2).wr (TOK_STAT.RESULT tp) 0

/-! ### Queue sets (R467 to R469) -/

/-- The slot of a SUBMIT, VALID set (R467). -/
def State.slotBytes (s : State) (f : KwtFrame) : List Byte :=
  leBytes 4 f.seq.toNat ++ leBytes 2 f.session.toNat ++ leBytes 2 f.len.toNat ++ leBytes 8 f.arg.toNat ++
    leBytes 4 (s.rd PTP_NS.NS) ++ leBytes 4 (s.rd PTP_SEC.SEC % 2 ^ 32) ++
    [BitVec.ofNat 8 (f.port.val + 16 * f.sub.val)] ++ List.replicate 6 0 ++ [1] ++ f.payload

/-- What SUBMIT does in stage 4: its status, and the state with the slot written and HEAD advanced. -/
def State.submit (s : State) (f : KwtFrame) : Option Byte × State :=
  let e := s.tokEnt (f.token.toNat % 2 ^ 16)
  let qs := e.qs.toNat
  match s.qsHome qs with
  | none => (some stBusy, s)
  | some p =>
    if bitOf (s.reg STRUCT_DRAIN.adr) p.val ∨ !s.rdB (QS_CTL.EN qs) then (some stBusy, s)
    else
      let log := min 14 (max 8 (s.rd (QS_CFG.SLOTLOG qs)))
      let slots := s.rd (QS_CFG.SLOTS_M1 qs) + 1
      let hd := s.rd (QS_HEAD.HEAD qs)
      if f.len.toNat + 32 > 2 ^ log then (some stBadop, s)
      else if slots ≤ (hd + 2 ^ 32 - s.rd (QS_TAIL.TAIL qs)) % 2 ^ 32 then (some stQfull, s)
      else
        let ring := s.tokEnt (s.rd (QS_CFG.RING_IDX qs))
        let off := hd % slots * 2 ^ log
        let st := ring.check (BitVec.ofNat 8 (s.rd (QS_CFG.RING_GEN qs))) 1 p none off (2 ^ log) true
        if st = stBounds then (some stBounds, s)
        else if st ≠ 0 then (some stFault, s)
        else
          let bs := s.slotBytes f
          let r := s.pages (s.engAccess p true) (ring.cursor + off) bs.length
          match r.1 with
          | .ok sp => (some 0, (r.2.putSpans sp bs).wr (QS_HEAD.HEAD qs) ((hd + 1) % 2 ^ 32))
          | .wait => (none, r.2)
          | .fault .. => (some stFault, r.2)

/-- The threshold line of a queue set after HEAD advanced (R468). -/
def State.thresh (s : State) (f : KwtFrame) : State :=
  let qs := (s.tokEnt (f.token.toNat % 2 ^ 16)).qs.toNat
  let fill := (s.rd (QS_HEAD.HEAD qs) + 2 ^ 32 - s.rd (QS_TAIL.TAIL qs)) % 2 ^ 32
  let port := qs / 64
  if max 1 (s.rd (QS_CFG.THRESH qs)) ≤ fill then
    s.fire (if port = 3 then 0x180 + qs % 64 else 0x100 + 64 * port + qs % 64)
  else s

/-! ### READ (R456) -/

/-- One piece of the oldest READ of a session: its RESP, the last with LAST; a fault or poison ends it. -/
def State.readPiece (s : State) (n : Nat) : State :=
  match (s.ses n).reads with
  | [] => s
  | j :: rest =>
    let k := min 8192 (j.len - j.pos)
    let stop (s : State) (st : Byte) : State :=
      (s.modSes n (fun x => { x with reads := rest })).resp n 0 j.seq st 0 j.pos []
    let r := s.pages (s.engAccess j.part false) (j.base + j.pos) k
    match r.1 with
    | .ok sp =>
      let q := r.2.getSpans sp
      if q.1 then stop q.2.2 stPoison
      else
        let last := decide (j.len ≤ j.pos + k)
        let s := q.2.2.modSes n (fun x => { x with reads := if last then rest else { j with pos := j.pos + k } :: rest })
        s.resp n (if last then 4 else 0) j.seq 0 0 j.pos q.2.1
    | .wait => r.2
    | .fault .. => stop r.2 stFault

/-- Every piece of every READ that a session still owes. -/
def State.flushReads (s : State) (n : Nat) : State :=
  let owed := (s.ses n).reads.foldl (fun k j => k + (j.len - j.pos) / 8192 + 1) 0
  (List.range owed).foldl (fun s _ => s.readPiece n) s

/-! ### Request stages (R450 to R457) -/

/-- What the Custodian answers to a MGMT or UPDATE request: status, fabric status, payload, the state, and what follows the
RESP (a reset). -/
structure CustAns where
  status : Byte
  fab : Byte
  payload : List Byte
  s : State
  after : State → State

/-- The hooks of the transport engine: the Custodian, and the Ubori Link that carries forwarded inputs (R548). -/
structure NetHooks where
  cust : State → KwtFrame → CustAns
  fwd : State → KwtFrame → State

/-- The check of OP, direction and LEN for a session (R446, R449, R454): the status. -/
def State.opCheck (s : State) (f : KwtFrame) : Byte :=
  let op := f.op.toNat
  let n := f.session.toNat
  let len := f.len.toNat
  if op = 0x01 then (if n < 16 ∨ len = 0 ∨ 8192 < len then stBadop else 0)
  else if op = 0x02 then (if n < 16 ∨ len ≠ 0 ∨ f.arg.toNat = 0 ∨ 1048576 < f.arg.toNat then stBadop else 0)
  else if op = 0x03 then (if n < 16 ∨ 8192 < len then stBadop else 0)
  else if op = 0x05 ∨ op = 0x06 then (if 16 ≤ n ∨ 8192 < len then stBadop else 0)
  else if op = 0x11 then (if len ≠ 0 then stBadop else 0)
  else if s.sessState n = 2 then 0 else stBadop

/-- OP and token checks of stage 2. -/
def State.stage2 (s : State) (f : KwtFrame) : Byte × State :=
  let st := s.opCheck f
  let op := f.op.toNat
  if st ≠ 0 then (st, s)
  else if op = 0x01 then s.tokenCheck f 1 f.len.toNat true
  else if op = 0x02 then s.tokenCheck f 0 f.arg.toNat true
  else if op = 0x03 then s.tokenCheck f 2 0 false
  else (0, s)

/-- RX_NEXT passes a request (R452). -/
def State.advance (s : State) (n : Nat) (f : KwtFrame) : State :=
  let s := s.wr (SESS_SEQ.RX_NEXT n) ((s.rd (SESS_SEQ.RX_NEXT n) + 1) % 2 ^ 32)
  s.modSes n (fun x => { x with
    done := x.done + 1, firstAt := some (x.firstAt.getD s.now)
    dur := if bitOf f.flags 0 then x.dur ++ [f.seq] else x.dur })

/-- Stages 4 and 5 of a request whose SEQ is RX_NEXT: none when it has to wait (R456, R457). -/
def State.perform (h : NetHooks) (s : State) (n : Nat) (f : KwtFrame) (status : Byte) : Option State :=
  let s := if f.op = 0x11 then s else s.flushReads n
  let answer (s : State) (st : Byte) : State := (s.advance n f).resp n 0 f.seq st 0 0 []
  let op := f.op.toNat
  if status ≠ 0 then some (answer s status)
  else if op = 0x01 then
    let e := s.tokEnt (f.token.toNat % 2 ^ 16)
    let p : PartId := ⟨e.part.val % 16, by omega⟩
    let r := s.pages (s.engAccess p true) (e.cursor + f.offset.toNat) f.len.toNat
    match r.1 with
    | .ok sp => some ((r.2.putSpans sp f.payload).advance n f)
    | .wait => none
    | .fault .. => some (answer r.2 stFault)
  else if op = 0x02 then
    let e := s.tokEnt (f.token.toNat % 2 ^ 16)
    some ((s.advance n f).modSes n (fun x => { x with
      reads := x.reads ++ [⟨f.seq, ⟨e.part.val % 16, by omega⟩, e.cursor + f.offset.toNat, f.arg.toNat, 0⟩] }))
  else if op = 0x03 then
    let r := s.submit f
    match r.1 with
    | none => none
    | some st => if st = 0 then some ((r.2.advance n f).thresh f) else some (answer r.2 st)
  else if op = 0x11 then
    some (if (s.ses n).reads.isEmpty then ((s.advance n f).ack n).dropSes n 1
      else (s.advance n f).modSes n (fun x => { x with closing := true }))
  else
    let a := h.cust s f
    some (a.after ((a.s.advance n f).resp n 0 f.seq a.status a.fab 0 a.payload))

/-- A request at RX_NEXT is performed, and the held frames that follow it (R451); what must wait is held. -/
def State.runReqs (h : NetHooks) (n : Nat) : Nat → State → State
  | 0, s => s
  | fuel + 1, s =>
    let rx := BitVec.ofNat 32 (s.rd (SESS_SEQ.RX_NEXT n))
    if s.sessState n ≠ 2 ∨ s.sessFrozen n then s
    else match (s.ses n).held.find? (fun x => x.f.seq == rx) with
      | none => s
      | some x =>
        match s.perform h n x.f x.status with
        | none => s
        | some s => runReqs h n fuel (s.modSes n (fun y => { y with held := y.held.filter (fun z => z.f.seq != rx) }))

/-- OPEN of a session (R450). -/
def State.openSes (s : State) (n : Nat) (f : KwtFrame) : State :=
  let s := s.dropSes n 2
  let t := s.fresh
  let tx := t.1.toNat % 2 ^ 32
  let s := ((t.2.wr (SESS_SEQ.RX_NEXT n) f.seq.toNat).wr (SESS_SEQ.TX_NEXT n) tx).wr (SESS_ACK.DACK n) f.seq.toNat
  let s := s.modSes n (fun x => { x with peer := some ⟨f.port, f.sub, f.srcMac, f.srcIp, f.srcUdp⟩ })
  s.emit n ⟨0x10, BitVec.ofNat 32 tx, 0, 0, BitVec.ofNat 64 (64 + s.net.inc.toNat * 2 ^ 16), []⟩

/-- The bytes that held frames take of the reorder store of 8 MiB (R451). -/
def State.heldBytes (s : State) : Nat :=
  s.net.sess.foldl (fun k x => x.2.held.foldl (fun k h => k + h.f.payload.length) k) 0

/-- The largest number of frames that one request can set going. -/
def heldFuel : Nat := 65

/-- What a frame does once it has passed stage 3, or was refused in stage 2 with a status: its sender and its ACK are taken where it passed,
a request at RX_NEXT is performed, one above it is held (R450 to R454). -/
def State.acceptIn (h : NetHooks) (s : State) (f : KwtFrame) (st : Byte) (before : Nat) : State :=
  let n := f.session.toNat
  let d := (f.seq - BitVec.ofNat 32 (s.rd (SESS_SEQ.RX_NEXT n))).toNat
  let s := if st = 0 then
      (s.modSes n (fun x => { x with peer := some ⟨f.port, f.sub, f.srcMac, f.srcIp, f.srcUdp⟩ })).hostAck n f.ack (if f.op = 0x12 then f.offset else 0)
    else s
  let fin (s : State) : State :=
    let x := s.ses n
    let s := if s.sessState n = 2 ∧ max 1 (s.rd KWT_CFG.ACK_COAL) ≤ x.done then s.ackUnless n before else s
    if bitOf f.flags 1 ∧ s.sessState n = 2 then s.ackUnless n before else s
  if f.op = 0x12 then fin s
  else if (s.ses n).held.any (fun x => x.f.seq == f.seq) then s.ack n
  else if 0 < d ∧ 8 * 2 ^ 20 < s.heldBytes + f.payload.length then s.cnt KWT_DUP.REORDER_FULL 1
  else
    let s := s.modSes n (fun x => { x with held := x.held ++ [⟨f, st⟩] })
    if 0 < d then fin (s.ack n) else fin (runReqs h n heldFuel s)

/-- A KWT datagram from stage 2 on (R454). A frame refused in stage 2 does not reach stage 3: its trailer is not checked, and neither its
sender nor its ACK is taken (log entry 118, DEDUCED). -/
def State.kwtIn (h : NetHooks) (s : State) (f : KwtFrame) : State :=
  let n := f.session.toNat
  let op := f.op.toNat
  let before := s.net.sent.length
  let nosess (s : State) : State := s.cntSat KWT_STAT.NOSESS 1
  let known := op == 1 || op == 2 || op == 3 || op == 5 || op == 6 || op == 0x10 || op == 0x11 || op == 0x12
  if f.payload.length ≠ f.len.toNat ∨ f.ver ≠ 1 ∨ 4096 ≤ n ∨ !s.sessPort n f.port.val ∨ !known then nosess s
  else if op = 0x10 then
    if s.sessState n = 0 ∨ f.len ≠ 0 ∨ f.trailer ≠ 0 then nosess s
    else (if s.rd PAIR_STAT.ROLE = 3 ∧ 16 ≤ n then h.fwd s f else s).openSes n f
  else if s.sessState n ≠ 2 then nosess s
  else
    let rx := BitVec.ofNat 32 (s.rd (SESS_SEQ.RX_NEXT n))
    let d := (f.seq - rx).toNat
    if op ≠ 0x12 ∧ 2 ^ 31 ≤ d then (s.cnt KWT_DUP.DUP 1).ack n
    else if op ≠ 0x12 ∧ 64 ≤ d then s.cntSat KWT_STAT.BADSEQ 1
    else
      let c := if op = 0x12 then (0, s) else s.stage2 f
      let i := if c.1 = 0 then c.2.inject 0x31 (c.2.rd INJ_SEL.INST) else (false, c.2)
      let s := i.2
      if c.1 = 0 ∧ (i.1 = true ∨ f.trailer ≠ trailerOf f.payload) then ((s.cntSat KWT_STAT.CRCFAIL 1).bucket 17 1).ack n
      else
        (if s.rd PAIR_STAT.ROLE = 3 ∧ 16 ≤ n then h.fwd s f else s).acceptIn h f c.1 before

/-! ### Rows that need no hook -/

/-- SESSION_CLOSE_COMPLETE: a CLOSE whose earlier requests have all completed closes its session (R450). -/
def execSessionCloseComplete (n : SessId) (s : State) : Out :=
  .next (if (s.ses n.val).closing ∧ (s.ses n.val).reads.isEmpty ∧ s.sessState n.val = 2 then (s.ack n.val).dropSes n.val 1 else s)

/-- READ_RESP_PIECE: the next piece of a READ leaves (R456). -/
def execReadRespPiece (n : SessId) (s : State) : Out := .next (s.readPiece n.val)

/-- ACK_DELAY_EXPIRY: the delay since the first request not yet acknowledged has passed (R452). -/
def execAckDelayExpiry (n : SessId) (s : State) : Out :=
  .next (if s.sessState n.val = 2 ∧ (s.ses n.val).firstAt.isSome ∧ s.sec.sys ≠ .sleep ∧ s.shed < 7 then s.ack n.val else s)

/-- RETRANSMISSION_TIMEOUT of a frame (R453). -/
def execRetransmissionTimeout (n : SessId) (q : BitVec 32) (s : State) : Out :=
  let n := n.val
  .next (if !s.sessTimed n then s
    else match (s.ses n).out.find? (fun r => r.f.seq == q) with
    | none => s
    | some r =>
      if s.rd KWT_CFG.RETRIES ≤ r.tries then s.dropSes n 3
      else
        (s.modSes n (fun x => { x with out := x.out.map (fun y =>
          if y.f.seq = q then { y with tries := y.tries + 1, last := s.now } else y) })).emit n
            { r.f with flags := setBitOf r.f.flags 5 true })

/-- A write of SESS_CTL (R450, R480). -/
def State.sessCtl (s : State) (n : Nat) (v : BitVec 2) : State :=
  let s := s.wrB (SESS_CTL.OUTCOMMIT n) (bitOf v 1)
  if n < 16 then s
  else if bitOf v 0 then
    let s := s.wr (SESS_CTL.EN n) 1
    if s.sessState n = 0 then s.wr (SESS_STAT.STATE n) 1 else s
  else (s.wr (SESS_CTL.EN n) 0).dropSes n 0

/-- SESS_CTL_WRITE. -/
def execSessCtlWrite (n : SessId) (v : BitVec 2) (s : State) : Out := .next (s.sessCtl n.val v)

/-- TOKEN_BIND (R461). -/
def execTokenBind (tp : Fin 17) (s : State) : Out := .next (s.tokBind tp)

/-- TOKEN_UNBIND (R461). -/
def execTokenUnbind (tp : Fin 17) (idx : BitVec 16) (s : State) : Out := .next (s.tokUnbind tp idx.toNat)

/-- A write of QS_NOTIFY3: a NOTIFY is queued, at most 16 for a queue set (R469). -/
def State.notifyQueue (s : State) (qs : Nat) (arg : Word) : State :=
  let q := mapGet (fun _ => []) s.net.notify qs
  if 16 ≤ q.length then s.wr (QS_CTL.NFULL qs) 1
  else
    let w (i : Nat) : Word := s.reg (QS_NOTIFY.adr qs i)
    s.modN (fun e => { e with notify := mapPut (fun _ => []) e.notify qs (q ++ [⟨w 0, w 1, w 2, arg⟩]) })

/-- NOTIFY_QUEUE. -/
def execNotifyQueue (qs : BitVec 8) (arg : Word) (s : State) : Out := .next (s.notifyQueue qs.toNat arg)

/-- NOTIFY_SEND: the oldest NOTIFY of a queue set passes its checks and leaves, or its status goes to NERR (R469). -/
def execNotifySend (qs : BitVec 8) (s : State) : Out :=
  let qs := qs.toNat
  match mapGet (fun _ => []) s.net.notify qs, s.qsHome qs with
  | d :: rest, some p =>
    let s := s.modN (fun e => { e with notify := mapPut (fun _ => []) e.notify qs rest })
    let fail (s : State) (st : Byte) : State := (s.wr (QS_CTL.NERR qs) st.toNat).wr (QS_CTL.NERR_V qs) 1
    let n := nbits d.w0.toNat 24 16
    let e := s.tokEnt (nbits d.w0.toNat 0 16)
    let len := nbits d.w2.toNat 0 14
    let off := nbits d.w1.toNat 0 48
    let st := e.check (BitVec.ofNat 8 (nbits d.w0.toNat 16 8)) 0 p (some n) off len true
    let home := match s.sessHome n with
      | some (q, some port) => q == p && port == qs / 64
      | some (q, none) => q == p
      | none => false
    .next (if st = stToken then fail s st
      else if !home then fail s stRights
      else if st ≠ 0 then fail s st
      else if s.sessState n ≠ 2 ∨ 8192 < len then fail s stBadop
      else
        let r := s.pages (s.engAccess p false) (e.cursor + off) len
        match r.1 with
        | .ok sp =>
          let q := r.2.getSpans sp
          if q.1 then fail q.2.2 stPoison else q.2.2.sendSeq n 0x04 0 0 d.w3 q.2.1
        | .wait => s.modN (fun e => { e with notify := mapPut (fun _ => []) e.notify qs (d :: rest) })
        | .fault .. => fail r.2 stFault)
  | _, _ => .next s

end Sys2Proof.Machine
end

