-- ==== Sys2Proof/Machine/Dma.lean ====
section
/-! DEFINITION. The DMA engines and the CRC units (R470 to R474, R483, R484). -/

namespace Sys2Proof.Machine

/-- Change a DMA engine. -/
def State.modDe (s : State) (n : EngId) (f : DeSt → DeSt) : State := s.modN (fun e => { e with de := vecUpd e.de n f })

/-- The partition of an engine: that of its cluster (R473). -/
def State.dePart (s : State) (n : EngId) : Option PartId := s.partOf n

/-- Whether the firmware queue of an engine is paused by a halted CP of its cluster (R474, R606). -/
def State.deFrozen (s : State) (n : EngId) : Bool :=
  (fins 32).any (fun c => clOf c == n && (s.cp c).inDebug && bitOf (s.reg (DBG_FREEZE.adr c)) 1)

/-- A write of DE_DESC3: the descriptor joins the firmware queue, which holds 16 (R472, R474). -/
def State.deQueue (s : State) (n : EngId) (w3 : Word) : State :=
  if 16 ≤ (s.net.de[n.val]).queue.length then s.wr (DE_STAT.OVF n) 1
  else s.modDe n (fun d => { d with queue := d.queue ++ [⟨s.reg (DE_DESC.adr n 0), s.reg (DE_DESC.adr n 1), s.reg (DE_DESC.adr n 2), w3⟩] })

/-- DMA_DESCRIPTOR_QUEUE. -/
def execDmaDescriptorQueue (n : EngId) (w3 : Word) (s : State) : Out := .next (s.deQueue n w3)

/-- LEN, CRC mode and flags of a descriptor. -/
def Desc.len (d : Desc) : Nat := nbits d.w3.toNat 0 32
/-- The CRC mode. -/
def Desc.crc (d : Desc) : Nat := nbits d.w3.toNat 32 3
/-- HOLD. -/
def Desc.hold (d : Desc) : Bool := bitOf d.w3 35
/-- NODATA. -/
def Desc.nodata (d : Desc) : Bool := bitOf d.w3 36

/-- Whether every bit that R472 does not name is 0, LEN is in range and the CRC mode is not reserved. -/
def Desc.ok (d : Desc) : Bool :=
  d.len != 0 && d.crc != 7 && nbits d.w0.toNat 24 8 == 0 && nbits d.w0.toNat 56 8 == 0 && nbits d.w1.toNat 48 16 == 0 &&
    nbits d.w2.toNat 48 16 == 0 && nbits d.w3.toNat 37 27 == 0

/-- The head of an engine's queue ends with a status: it leaves the queue, its lines fire, a failure halts the queue, and the
trigger's latch may deliver (R473). -/
def State.deEnd (s : State) (n : EngId) (st : Byte) (done : Nat) : State :=
  match (s.net.de[n.val]).queue with
  | [] => s
  | d :: rest =>
    let s := s.modDe n (fun x => { x with queue := rest, run := false })
    let s := (s.wr (DE_STAT.STATUS n) st.toNat).wr (DE_STAT.DONE n) done
    let s := if st = 0 then s else s.wr (DE_STAT.HALTED n) 1
    let s := (s.modE (fun e => { e with deRun := setBitOf e.deRun n.val false })).fire (0x1C0 + n.val)
    let s := if d.crc = 0 then s else s.fire (0x1D0 + n.val)
    s.latchOut (0x2040 + n.val)

/-- The status of the checks of R460 at the start of a descriptor, and of its fields. -/
def State.deCheck (s : State) (p : PartId) (poly : Nat) (d : Desc) : Byte :=
  let extra := if 3 ≤ d.crc then crcLen poly else 0
  let src := s.tokEnt (nbits d.w0.toNat 0 16)
  let dst := s.tokEnt (nbits d.w0.toNat 32 16)
  let a := src.check (BitVec.ofNat 8 (nbits d.w0.toNat 16 8)) 0 p none (nbits d.w1.toNat 0 48) (d.len + (if 5 ≤ d.crc then extra else 0)) true
  let b := dst.check (BitVec.ofNat 8 (nbits d.w0.toNat 48 8)) 1 p none (nbits d.w2.toNat 0 48)
    (d.len + (if d.crc = 3 ∨ d.crc = 4 then extra else 0)) true
  if !d.ok then stBadop else if a ≠ 0 then a else if d.nodata then 0 else b

/-- DMA_DESCRIPTOR_START: the head of the firmware queue starts, after its trigger where it holds (R472, R473). -/
def execDmaDescriptorStart (n : EngId) (s : State) : Out :=
  let e := s.net.de[n.val]
  .next (match e.queue, s.dePart n with
    | d :: _, some p =>
      if e.run || s.rdB (DE_STAT.HALTED n) || s.deFrozen n || s.evt.dark || (d.hold && !bitOf s.evt.deTrig n.val) then s
      else
        let s := if d.hold then s.modE (fun e => { e with deTrig := setBitOf e.deTrig n.val false }) else s
        let poly := s.rd (CU_CFG.POLY n)
        let st := s.deCheck p poly d
        if st ≠ 0 then s.deEnd n st 0
        else
          let s := (s.modDe n (fun x => { x with run := true, poly := BitVec.ofNat 2 poly })).modE (fun e =>
            { e with deRun := setBitOf e.deRun n.val true })
          if d.crc = 1 ∨ d.crc = 3 ∨ d.crc = 5 then s.setReg (CU_VAL.adr n) (BitVec.ofNat 64 (crcInit poly)) else s
    | _, _ => s)

/-- What the copy of a descriptor has done: bytes moved, the running CRC, the status and the state. -/
structure CopyOut where
  done : Nat
  crc : Nat
  st : Byte
  s : State

/-- Move the bytes of a descriptor, a piece that crosses no page of either side at a time: a fault or poison ends it, with what
was moved before it in place, and the destination line of a poisoned byte is poisoned (R360, R473). -/
def deCopy (p : PartId) (poly : Nat) (nodata : Bool) (src dst len : Nat) : Nat → CopyOut → CopyOut
  | 0, r => r
  | fuel + 1, r =>
    if len ≤ r.done ∨ r.st ≠ 0 then r
    else
      let a := src + r.done
      let b := dst + r.done
      let n := min (len - r.done) (min (65536 - a % 65536) (65536 - b % 65536))
      let x := r.s.translate (r.s.engAccess p false) a
      match x.1 with
      | .ok ka =>
        let q := (x.2.dmaWait ka).readBy none ka n
        let bs := q.2.bytesAt ka n
        let y := if nodata then (Tr.ok 0, q.2) else q.2.translate (q.2.engAccess p true) b
        (match y.1 with
        | .ok kb =>
          if let some k := q.1 then
            let s := y.2.bucket 12 1
            let m := k - ka
            let s := if nodata then s else ((s.dmaWait kb).writeBy none kb (bs.take m)).poisonUnit (kb + m)
            { r with done := r.done + m, crc := crcRun poly r.crc (bs.take m), st := stPoison, s := s }
          else deCopy p poly nodata src dst len fuel
            { r with done := r.done + n, crc := crcRun poly r.crc bs, s := if nodata then y.2 else (y.2.dmaWait kb).writeBy none kb bs }
        | _ => { r with st := stFault, s := y.2 })
      | _ => { r with st := stFault, s := x.2 }

/-- The running value of a CRC unit at the width of an algorithm: the bits of CU_VAL above it read 0 (R471, R483). -/
def State.cuRun (s : State) (n poly : Nat) : Nat := s.rd (CU_VAL.VAL n) % 2 ^ (8 * crcLen poly)

/-- Append or check the CRC of a descriptor (R472). -/
def State.deTail (s : State) (n : EngId) (p : PartId) (poly : Nat) (d : Desc) (src dst v : Nat) : Byte × State :=
  let k := crcLen poly
  let res := v ^^^ crcXorOut poly
  let i := if d.crc = 0 then (false, s) else s.inject 0x31 n.val
  let s := i.2
  let res := if i.1 then res ^^^ 1 else res
  if d.crc = 3 ∨ d.crc = 4 then
    if d.nodata then (0, s)
    else
      let r := s.pages (s.engAccess p true) (dst + d.len) k
      match r.1 with
      | .ok sp => (0, r.2.putSpans sp (crcBytes poly res))
      | _ => (stFault, r.2)
  else if 5 ≤ d.crc then
    let s := s.cnt (CU_STAT.CHECKS n) 1
    let r := s.pages (s.engAccess p false) (src + d.len) k
    match r.1 with
    | .ok sp =>
      let q := r.2.getSpans sp
      if q.1 then (stPoison, q.2.2)
      else if q.2.1 = crcBytes poly res then (0, q.2.2)
      else (stCrc, (q.2.2.wr (CU_STAT.MISMATCH n) 1).bucket 17 1)
    | _ => (stFault, r.2)
  else (0, s)

/-- DMA_DESCRIPTOR_COMPLETE: the descriptor that runs has moved its bytes and completes (R472, R473). -/
def execDmaDescriptorComplete (n : EngId) (s : State) : Out :=
  let e := s.net.de[n.val]
  .next (match e.queue, s.dePart n with
    | d :: _, some p =>
      if !e.run || s.deFrozen n then s
      else
        let poly := e.poly.toNat
        let src := (s.tokEnt (nbits d.w0.toNat 0 16)).cursor + nbits d.w1.toNat 0 48
        let dst := (s.tokEnt (nbits d.w0.toNat 32 16)).cursor + nbits d.w2.toNat 0 48
        let r := deCopy p poly d.nodata src dst d.len (d.len / 32768 + 4) ⟨0, s.cuRun n poly, 0, s⟩
        let s := if d.crc = 0 then r.s else r.s.setReg (CU_VAL.adr n) (BitVec.ofNat 64 r.crc)
        if r.st ≠ 0 then s.deEnd n r.st r.done
        else
          let t := s.deTail n p poly d src dst r.crc
          t.2.deEnd n t.1 r.done
    | _, _ => s)

/-- RESUME: the queue goes on with the next descriptor (R473). -/
def State.deResume (s : State) (n : EngId) : State := s.wr (DE_STAT.HALTED n) 0

/-- DE_RESUME. -/
def execDeResume (n : EngId) (s : State) : Out := .next (s.deResume n)

/-- FLUSH: the queue is emptied; a descriptor that runs completes (R473). -/
def State.deFlush (s : State) (n : EngId) : State :=
  s.modDe n (fun d => { d with queue := if d.run then d.queue.take 1 else [] })

/-- DE_FLUSH. -/
def execDeFlush (n : EngId) (s : State) : Out := .next (s.deFlush n)

/-- A write of CU_VAL: ignored while a descriptor uses the unit (R474); bits above the width read 0 (R483). -/
def State.cuVal (s : State) (n : EngId) (v : Word) : State :=
  let e := s.net.de[n.val]
  let uses := match e.queue with | d :: _ => e.run && d.crc != 0 | [] => false
  if uses then s.wr (CU_STAT.WRBUSY n) 1
  else s.setReg (CU_VAL.adr n) (BitVec.ofNat 64 (v.toNat % 2 ^ (8 * crcLen (s.rd (CU_CFG.POLY n)))))

/-- CU_VAL_WRITE. -/
def execCuValWrite (n : EngId) (v : Word) (s : State) : Out := .next (s.cuVal n v)

/-- CU_RESULT: the running value with XorOut (R471). -/
def State.cuResult (s : State) (n : Nat) : Nat :=
  let poly := s.rd (CU_CFG.POLY n)
  s.cuRun n poly ^^^ crcXorOut poly

end Sys2Proof.Machine
end

