-- ==== Sys2Proof/Machine/Eth.lean ====
section
/-! DEFINITION. The Ethernet ports (R436 to R444, R476 to R478): what reaches the transport engine, the answers that a port gives
itself, flow control, links, and the IEEE 1588 time base. -/

namespace Sys2Proof.Machine

/-! ### Receiving -/

/-- The codewords that the FEC of a port corrects in a frame: a number that is a free value; 10GBASE-R has no FEC, and 25GBASE-R has one
with FEC25 (R437, R478; log entry 59, DESIGN CHOICE). -/
def State.fecCorr (s : State) (p : Nat) : State :=
  if p = 3 ∧ (s.rd (ETH_CFG.MODE p) = 4 ∨ !s.rdB (ETH_CFG.FEC25 p)) then s
  else
    let r := s.fresh
    r.2.cnt (ETH_FEC.CORR p) (r.1.toNat % 2 ^ 32)

/-- A frame that no rule accepts is counted (R442). -/
def State.dropOther (s : State) (f : EthFrame) : State := s.cntSat (ETH_RXDROP.OTHER f.port) 1

/-- Stage 1 for any frame: the MAC, the FEC and MACsec (R438, R440); false where the frame is dropped. A frame that finds the receive queue to
the I/O hub full is an overrun (R27, R478; log entry 118, DEDUCED), and a protected frame with MACsec off is one that no rule accepts. -/
def State.stage1 (s : State) (f : EthFrame) : Bool × State :=
  let p := f.port.val
  if !s.rdB (ETH_CFG.EN p) then (false, s)
  else
    let i := (s.fecCorr p).inject 0x30 p
    let s := i.2
    let fecOk := f.fecOk && !i.1
    let lim := s.rd (ETH_CFG.MAXFRAME p) + (if f.secured then 32 else 0)
    if !fecOk then (false, ((s.cnt (ETH_FEC.UNCORR p) 1).cntSat (ETH_RXDROP.FCS p) 1).bucket 17 1)
    else if !f.fcsOk ∨ f.size.toNat < 64 ∨ lim < f.size.toNat then (false, s.cntSat (ETH_RXDROP.FCS p) 1)
    else if 64 ≤ (s.net.rxLevel[f.port.val]).toNat then (false, s.cntSat (ETH_RXDROP.OVERRUN p) 1)
    else if f.secured then
      if !s.rdB (ETH_MACSEC.EN p) then (false, s.dropOther f)
      else
        let j := s.inject 0x44 p
        if !bitOf j.2.net.keyed (8 * p + f.sub.val) ∨ !f.icvOk ∨ j.1 then (false, (j.2.cntSat (ETH_RXDROP.MACSEC p) 1).bucket 21 1)
        else (true, j.2)
    else if s.rdB (ETH_MACSEC.REQUIRE p) then (false, s.cntSat (ETH_RXDROP.MACSEC p) 1)
    else (true, s)

/-- The MAC address of a sub-port (R442). -/
def State.subMac (s : State) (p k : Nat) : BitVec 48 := BitVec.ofNat 48 (s.rd (ETH_MAC.MAC p) + k)

/-- The IPv6 address of a port. -/
def State.ip6 (s : State) (p : Nat) : BitVec 128 :=
  BitVec.ofNat 128 (s.rd (ETH_IPV6.ADDR p 0) + s.rd (ETH_IPV6.ADDR p 1) * 2 ^ 64)

/-- Whether a port answers at all now: E0 and E1 may be silent, and only M0 lives in SLEEP and at shed level 7 (R476, R477). -/
def State.portHears (s : State) (p : Nat) : Bool :=
  s.sec.sys != .off && s.sec.sys != .standby && p != 2 && s.portUp p

/-- Whether the part is in SLEEP, or at shed level 7 (R476, R477). -/
def State.asleep (s : State) : Bool := s.sec.sys == .sleep || decide (7 ≤ s.shed)

/-- An ARP request for the port's own address is answered (R442). -/
def State.arpIn (s : State) (f : EthFrame) (target : BitVec 32) : State :=
  if target.toNat = s.rd (ETH_IPV4.ADDR f.port) then s.leave (.arp f.port f.sub f.srcMac) else s.dropOther f

/-- A neighbour solicitation for the port's own address is answered (R442). -/
def State.nsIn (s : State) (f : EthFrame) (target : BitVec 128) : State :=
  if target = s.ip6 f.port then s.leave (.neighbour f.port f.sub f.srcMac) else s.dropOther f

/-- An echo request to the port is answered while KWT_CFG.ICMP is 1 (R442). -/
def State.echoIn (s : State) (f : EthFrame) (v6 : Bool) : State :=
  let own : Bool := if v6 then f.dstIp == s.ip6 f.port else f.dstIp.toNat == s.rd (ETH_IPV4.ADDR f.port)
  if s.asleep then s
  else if s.rdB KWT_CFG.ICMP && own && f.dstMac == s.subMac f.port f.sub then s.leave (.echo f.port f.sub f.srcMac) else s.dropOther f

/-- Whether a UDP datagram is one of KWT for this port: plain, to its address and port number, with a good checksum (R442,
R443). -/
def State.udpOk (s : State) (f : EthFrame) (v6 plain : Bool) (dst : BitVec 16) (zero ok : Bool) : Bool :=
  plain && dst.toNat == s.rd (ETH_KWTPORT.PORT f.port) && (if zero then !v6 else ok) && f.dstMac == s.subMac f.port f.sub &&
    (if v6 then f.dstIp == s.ip6 f.port else f.dstIp.toNat == s.rd (ETH_IPV4.ADDR f.port))

/-- A frame that a port delivers (R438 to R444), with what its KWT datagrams do. -/
def State.frameIn (kwt : State → KwtFrame → State) (s : State) (f : EthFrame) : State :=
  if !s.portHears f.port then s
  else
    let r := s.stage1 f
    if !r.1 then r.2
    else match f.body with
      | .arp t => r.2.arpIn f t
      | .neighbour t => r.2.nsIn f t
      | .echo v6 => r.2.echoIn f v6
      | .udp v6 plain dst zero ok k =>
        if r.2.udpOk f v6 plain dst zero ok then kwt r.2 { k with port := f.port, sub := f.sub, srcMac := f.srcMac }
        else r.2.dropOther f
      | .other => r.2.dropOther f

/-- ARP_REQUEST. -/
def execArpRequest (f : EthFrame) (s : State) : Out :=
  .next (match f.body with
    | .arp t => if !s.portHears f.port then s else let r := s.stage1 f; if r.1 then r.2.arpIn f t else r.2
    | _ => s)

/-- NEIGHBOUR_SOLICITATION. -/
def execNeighbourSolicitation (f : EthFrame) (s : State) : Out :=
  .next (match f.body with
    | .neighbour t => if !s.portHears f.port then s else let r := s.stage1 f; if r.1 then r.2.nsIn f t else r.2
    | _ => s)

/-- ICMP_ECHO. -/
def execIcmpEcho (f : EthFrame) (s : State) : Out :=
  .next (match f.body with
    | .echo v6 => if !s.portHears f.port then s else let r := s.stage1 f; if r.1 then r.2.echoIn f v6 else r.2
    | _ => s)

/-! ### Flow control (R439) -/

/-- PAUSE_FRAME: priority-based flow control on the enabled priorities, or PAUSE on all of them. -/
def execPauseFrame (port : PortId) (pfc : Bool) (mask : BitVec 8) (quanta : Vector (BitVec 16) 8) (s : State) : Out :=
  let p := port.val
  let en := BitVec.ofNat 8 (s.rd (ETH_CFG.PFC_EN p))
  let old := BitVec.ofNat 8 (s.rd (ETH_STAT.PAUSED p))
  let new : BitVec 8 :=
    if en ≠ 0 then
      if pfc then (fins 8).foldl (fun v (i : Fin 8) => if bitOf (en &&& mask) i.val then setBitOf v i.val (quanta[i.val] != 0) else v) old
      else old
    else if s.rdB (ETH_CFG.PAUSE_EN p) && !pfc then (if quanta[0] = 0 then 0 else 0xFF)
    else old
  .next (if !s.rdB (ETH_CFG.EN p) then s else (s.wr (ETH_STAT.PAUSED p) new.toNat).flushPort p)

/-- PAUSE_TIME_EXPIRY: the time of a pause has run out. -/
def execPauseTimeExpiry (port : PortId) (prio : Fin 8) (s : State) : Out :=
  let v := BitVec.ofNat 8 (s.rd (ETH_STAT.PAUSED port))
  .next ((s.wr (ETH_STAT.PAUSED port) (setBitOf v prio.val false).toNat).flushPort port.val)

/-- RECEIVE_QUEUE_FLOW_CONTROL: the receive queue to the I/O hub holds a number of entries: XOFF at 48, XON at 16. -/
def execReceiveQueueFlowControl (port : PortId) (level : BitVec 7) (s : State) : Out :=
  let on := s.rdB (ETH_CFG.PAUSE_EN port) || s.rd (ETH_CFG.PFC_EN port) != 0
  let s := s.modN (fun e => { e with rxLevel := vecUpd e.rxLevel port (fun _ => level) })
  .next (if !on then s
    else if 48 ≤ level.toNat ∧ !bitOf s.net.xoff port.val then
      (s.modN (fun e => { e with xoff := setBitOf e.xoff port.val true })).leave (.pause port true)
    else if level.toNat ≤ 16 ∧ bitOf s.net.xoff port.val then
      (s.modN (fun e => { e with xoff := setBitOf e.xoff port.val false })).leave (.pause port false)
    else s)

/-! ### Links -/

/-- LINK_STATE_CHANGE of a sub-port of E0, E1 or M0: the status, LINKCHG and its line (R436, R444, R478). -/
def execLinkStateChange (port : PortId) (sub : Fin 8) (up : Bool) (lanes : BitVec 4) (reversed : Bool) (s : State) : Out :=
  let p := port.val
  let link := setBitOf (BitVec.ofNat 8 (s.rd (ETH_STAT.LINK p))) sub.val up
  let fec := setBitOf (BitVec.ofNat 8 (s.rd (ETH_STAT.FEC_LOCK p))) sub.val up
  .next ((((((s.wr (ETH_STAT.LINK p) link.toNat).wr (ETH_STAT.FEC_LOCK p) fec.toNat).wr (ETH_STAT.LANES p) lanes.toNat).wrB
    (ETH_STAT.REVERSED p) reversed).wr (ETH_STAT.LINKCHG p) 1).fire (0x260 + p))

/-! ### The time base (R441) -/

/-- The time base moved by a number of nanoseconds; it wraps at 2^48 s. -/
def State.ptpShift (s : State) (d : Int) : State :=
  let t : Int := (s.rd PTP_SEC.SEC * 1000000000 + s.rd PTP_NS.NS : Nat) + d
  let n := (t % (2 ^ 48 * 1000000000)).toNat
  (s.wr PTP_SEC.SEC (n / 1000000000)).wr PTP_NS.NS (n % 1000000000)

/-- PTP_MESSAGE: a PTP exchange on the port of the sealed settings gives the offset from the master, which the slave clock
takes out. -/
def execPtpMessage (port : PortId) (offset : BitVec 64) (s : State) : Out :=
  .next (if port.val = s.sec.set.ptpPort.toNat ∧ s.portHears port then s.ptpShift (-offset.toInt) else s)

/-- PTP_SECOND_BOUNDARY: a second of the time base begins, and line 0x264 fires. -/
def execPtpSecondBoundary (s : State) : Out :=
  .next (((s.wr PTP_SEC.SEC ((s.rd PTP_SEC.SEC + 1) % 2 ^ 48)).wr PTP_NS.NS 0).fire 0x264)

/-- PTP_STEP: a signed step in ns. -/
def execPtpStep (step : BitVec 32) (s : State) : Out := .next (s.ptpShift step.toInt)

end Sys2Proof.Machine
end

