-- ==== Sys2Proof/Machine/Live.lean ====
section
/-! DEFINITION. Putting a structure in force: partitions, quotas and program regions (R41, R42, R53, R56, R656), drain requests
(R65), and the live application of an image (R66 to R69). -/

namespace Sys2Proof.Machine

/-- Insert by key, after entries with the same key. -/
def insertBy {α : Type} (key : α → Nat) (x : α) : List α → List α
  | [] => [x]
  | y :: l => if key y ≤ key x then y :: insertBy key x l else x :: y :: l

/-- Sort by key, keeping the order of entries with the same key. -/
def sortBy {α : Type} (key : α → Nat) (l : List α) : List α := l.foldl (fun r x => insertBy key x r) []

/-! ### Program regions (R53, R656) -/

/-- Zero a partition's program region and copy its image into it. -/
def State.loadRegion (s : State) (p : PartId) : State :=
  let g := (s.part p).prog
  let s := g.foldl (fun (s : State) x => s.zeroGranule x) s
  match s.sec.progs.find? (fun r => r.1 == p.val) with
  | some r => (List.range ((r.2.length + 65535) / 65536)).foldl (fun (s : State) i =>
      s.writeRange (g.getD i 0 * 65536) (slice r.2 (65536 * i) 65536)) s
  | none => s

/-- Take the granules of a partition's program region anew: the lowest free of the kind used, in ascending order. -/
def State.takeRegion (s : State) (p : PartId) : State :=
  let s := (s.part p).prog.foldl (fun (s : State) x => s.freeSpan x 1) s
  let s := s.modPart p (fun x => { x with prog := [] })
  match (s.part p).rcd with
  | none => s
  | some r =>
    let s := (List.range (16 * r.progMib.toNat)).foldl (fun (s : State) _ =>
      match s.takeGranule p 0 r.il.toNat r.hash .prog with
      | some (g, _, s) => s.modPart p (fun x => { x with prog := x.prog ++ [g] })
      | none => s) s
    s.modPart p (fun x => { x with prog := sortBy id x.prog })

/-! ### Partitions and quotas (R41, R42, R56) -/

/-- The record of a partition in a structure. -/
def Plan.part (w : Plan) (p : Nat) : Option PartRec := (w.parts.find? (fun x => x.1 == p)).map (·.2)

/-- A reserve scaled to what is present. -/
def scaleTo (present sum r : Nat) : Nat := if sum ≤ present then r else r * present / sum

/-- The record of a partition with its reserves scaled. -/
def State.scaled (s : State) (w : Plan) (r : PartRec) : PartRec :=
  { r with
    nearReserve := scaleTo s.mst.nearGran (w.parts.map (·.2.nearReserve)).sum r.nearReserve
    celReserve := scaleTo s.mst.celGran (w.parts.map (·.2.celReserve)).sum r.celReserve }

/-- The partitions of a structure take their records; STRUCT_ASSIGN, STRUCT_MAPVALID, MODE_PTp and QUOTA_SCALED follow (R70, R630). -/
def State.setParts (s : State) (w : Plan) : State :=
  let s := (fins 16).foldl (fun (s : State) (p : PartId) =>
    let r := (w.part p.val).map (s.scaled w)
    let s := s.modPart p (fun x => { x with rcd := r })
    let f (b : PartRec → Bool) : Bool := r.any b
    s.setReg (MODE_PT.adr p) (BitVec.ofNat 64 ((match r with | some x => x.mask.toNat | none => 0) + 2 ^ 16 * b2n r.isSome +
      2 ^ 17 * b2n (f (·.lockstep)) + 2 ^ 18 * b2n (f (·.shadow)) + 2 ^ 20 * b2n (f (·.det))))) s
  let owner (n : Nat) : Nat := match (fins 16).find? (fun p => (s.part p).hasCl n) with | some p => p.val | none => 0
  let s := s.wr STRUCT_ASSIGN.PTIDS ((List.range 16).foldl (fun a n => a + owner n * 16 ^ n) 0)
  let s := s.wr STRUCT_MAPVALID.CLUSTERS (w.parts.foldl (fun (m : BitVec 16) x => m ||| x.2.mask) 0).toNat
  let s := s.wr STRUCT_MAPVALID.PARTS ((w.parts.foldl (fun (m : BitVec 16) x => setBitOf m x.1 true) 0).toNat)
  s.wrB STRUCT_FLAGS.QUOTA_SCALED (decide (s.mst.nearGran < (w.parts.map (·.2.nearReserve)).sum) ||
    decide (s.mst.celGran < (w.parts.map (·.2.celReserve)).sum))

/-- The event settings of a structure: in force at once, and the registers hold them (R47). -/
def State.setEvents (s : State) (on : List (Nat × Word)) : State :=
  let isGrp (a : Nat) : Bool := decide (EVT_GRP.adr 0 ≤ a) && decide (a < EVT_GRP.adr 8)
  let s := on.foldl (fun (s : State) x => s.setReg x.1 x.2) s
  s.modE (fun e => { e with on := on.foldl (fun m x =>
    mapPut regReset m x.1 (if isGrp x.1 then x.2 &&& ~~~1#64 else x.2)) [] })

/-- One event setting of a structure: in force at once, and its register holds it. -/
def State.setEvent (s : State) (a : Nat) (v : Word) : State :=
  let grp := decide (EVT_GRP.adr 0 ≤ a) && decide (a < EVT_GRP.adr 8)
  (s.setReg a v).modE (fun e => { e with on := mapPut regReset e.on a (if grp then v &&& ~~~1#64 else v) })

/-- STRUCT_SRC, SEQ, DIGEST and the flags of loading (R70). -/
def State.setStructRegs (s : State) (w : Plan) : State :=
  let s := ((s.wr STRUCT_SRC.SOURCE w.src).wr STRUCT_SRC.FMT_VER w.fmt).wr STRUCT_SEQ.SEQ w.seq.toNat
  let s := (List.range 8).foldl (fun (s : State) i => s.wr (STRUCT_DIGEST.DIGEST i) (leAt w.digest (8 * i) 8)) s
  let s := (s.wr STRUCT_FLAGS.SKIPPED w.skipped).wrB STRUCT_FLAGS.CLAMPED w.clamped
  s.wrB STRUCT_FLAGS.OWNER_PENDING w.owner.isSome

/-! ### Draining (R65) -/

/-- Whether the four conditions hold for a partition: its queue sets are empty, its vector queues too, no DMA transfer runs for it
and every completed request is acknowledged. -/
def State.drained (s : State) (p : PartId) : Bool :=
  (List.range 256).all (fun q => s.qsHome q != some p || s.rd (QS_HEAD.HEAD q) == s.rd (QS_TAIL.TAIL q)) &&
  (s.cpsOf p).all (fun c => (s.cp c).vq.entries.isEmpty && (s.cp c).vq.flights.isEmpty) &&
  (fins 16).all (fun n => s.dePart n != some p || ((s.net.de[n.val]).queue.isEmpty && !(s.net.de[n.val]).run)) &&
  s.net.sess.all (fun x => (s.sessHome x.1).map (·.1) != some p ||
    (x.2.held.isEmpty && x.2.reads.isEmpty && x.2.done == 0 && x.2.dur.isEmpty))

/-- A drain request is withdrawn: a drained partition's CPs are released at ENTRY (R65). -/
def State.undrain (s : State) (p : PartId) : State :=
  let was := bitOf (s.reg STRUCT_DRAINED.adr) p.val
  let s := s.setReg STRUCT_DRAIN.adr (setBitOf (s.reg STRUCT_DRAIN.adr) p.val false)
  let s := s.setReg STRUCT_DRAINED.adr (setBitOf (s.reg STRUCT_DRAINED.adr) p.val false)
  if was then (s.cpsOf p).foldl (fun (s : State) c => s.releaseCp c) s else s

/-- A write of STRUCT_DRAIN: a new request fires its line; a clear while an apply is busy waits for its end (R69, R420). -/
def State.drainWrite (s : State) (v : BitVec 16) : State :=
  (fins 16).foldl (fun (s : State) (p : PartId) =>
    let old := bitOf (s.reg STRUCT_DRAIN.adr) p.val
    let new := bitOf v p.val
    if new ∧ !old then (s.setReg STRUCT_DRAIN.adr (setBitOf (s.reg STRUCT_DRAIN.adr) p.val true)).fire (0x210 + p.val)
    else if new then s.modSec (fun e => { e with undrain := setBitOf e.undrain p.val false })
    else if !old then s
    else if s.rd STRUCT_LIVE.STATE = 1 then s.modSec (fun e => { e with undrain := setBitOf e.undrain p.val true })
    else s.undrain p) s

/-- STRUCT_DRAIN_WRITE. -/
def execStructDrainWrite (v : BitVec 16) (s : State) : Out := .next (s.drainWrite v)

/-- PARTITION_DRAINED: while the request stands and the conditions hold, STRUCT_DRAINED sets and the CPs are held in reset. -/
def execPartitionDrained (p : PartId) (s : State) : Out :=
  .next (if bitOf (s.reg STRUCT_DRAIN.adr) p.val ∧ !bitOf (s.reg STRUCT_DRAINED.adr) p.val ∧ s.drained p ∧ s.sec.sys = .run then
      let s := s.setReg STRUCT_DRAINED.adr (setBitOf (s.reg STRUCT_DRAINED.adr) p.val true)
      (s.cpsOf p).foldl (fun (s : State) c => s.holdCp c) s
    else s)

/-! ### Live application (R66 to R69) -/

/-- The settings of the structure in force; the factory structure's where no image runs. -/
def State.plan (s : State) : Plan :=
  if s.sec.image.isEmpty then factoryPlan s.mst.nearGran s.mst.celGran
  else planOf s.sec.image s.sec.src (imgSects s.sec.image)

/-- The types whose sections differ in VERSION or body between two images, and whether each of those sections has LIVE set. The factory
structure has no sections: every section of an image differs from it (log entry 95, DESIGN CHOICE). -/
def liveDiffs (a b : List Sect) : List Bool :=
  ((a ++ b).map (·.ty)).dedup.filterMap (fun t =>
    let x := a.find? (fun z => z.ty == t)
    let y := b.find? (fun z => z.ty == t)
    if x.map (fun z => (z.ver, z.body)) = y.map (fun z => (z.ver, z.body)) then none else some ((y.getD (x.getD ⟨0, false, false, 0, 0, []⟩)).live))

/-- The partitions that an event setting concerns: of a CP, a gate, an engine or a checkpoint its own, of anything else all. -/
def State.evtConcerns (s : State) (w : Plan) (a : Nat) : List Nat :=
  let c := (a - EVT_SEL.adr 0) / 8
  let own (cl : Nat) : List Nat := (w.parts.filter (fun x => bitOf x.2.mask cl)).map (·.1) ++
    ((fins 16).filter (fun p => (s.part p).hasCl cl)).map (·.val)
  if a < EVT_SEL.adr 0 then List.range 16
  else if c < 0x2000 then own (c / 512)
  else if c < 0x2020 then own ((c - 0x2000) / 2)
  else if 0x2040 ≤ c ∧ c < 0x2050 then own (c - 0x2040)
  else if 0x2050 ≤ c ∧ c < 0x2060 then [c - 0x2050]
  else List.range 16

/-- The partitions that two structures give different records, program images or network resources, or that an event setting which
differs concerns. -/
def State.planDiffs (s : State) (a b : Plan) : List Nat :=
  let prog (w : Plan) (p : Nat) : Option (List Byte) := (w.progs.find? (fun r => r.1 == p)).map (·.2)
  let netq (w : Plan) (p : Nat) : Bool × List NetqRec :=
    match w.netq with | some l => (false, l.filter (fun r => r.part.val == p)) | none => (p == 0, [])
  let evts := ((a.events ++ b.events).map (·.1)).dedup.filter (fun x => mapGet regReset a.events x != mapGet regReset b.events x)
  let evtParts := evts.flatMap (s.evtConcerns b)
  (List.range 16).filter (fun p =>
    decide (a.part p ≠ b.part p) || decide (prog a p ≠ prog b p) || decide (netq a p ≠ netq b p) || evtParts.contains p)

/-- The event settings that a live apply gives: each that the two structures give differently, and each that concerns drained partitions
alone; the others stay as they were committed at run time (R47, R67). -/
def State.liveEvents (s : State) (a b : Plan) : State :=
  let val (w : Plan) (x : Nat) : Word := mapGet regReset w.events x
  let drained (x : Nat) : Bool := ((s.evtConcerns b x).filter (fun p => (a.part p).isSome)).all (fun p => bitOf (s.reg STRUCT_DRAINED.adr) p)
  ((a.events ++ b.events ++ s.evt.on).map (·.1)).dedup.foldl (fun (t : State) x =>
    if val a x ≠ val b x ∨ drained x then t.setEvent x (val b x) else t) s

/-- Two PARTITION records are the same, quotas aside. -/
def PartRec.sameAs (a b : PartRec) : Bool :=
  decide ({ a with nearReserve := 0, nearLimit := 0, celReserve := 0, celLimit := 0 } =
    { b with nearReserve := 0, nearLimit := 0, celReserve := 0, celLimit := 0 })

/-- Whether a live apply changes the PARTITION record of a partition. -/
def partChanges (a b : Plan) (p : Nat) : Bool :=
  match a.part p, b.part p with
  | some x, some y => !x.sameAs y
  | none, none => false
  | _, _ => true

/-- Whether some cluster is assigned in both structures and changes between Lockstep and Split; an unassigned cluster is neither (log
entry 96, DESIGN CHOICE). -/
def lockDiffers (a b : Plan) : Bool :=
  let kind (w : Plan) (n : Nat) : Option Bool := (w.parts.find? (fun x => bitOf x.2.mask n)).map (fun x => x.2.lockstep)
  (List.range 16).any (fun n => match kind a n, kind b n with | some x, some y => x != y | _, _ => false)

/-- The code with which an image is refused for a live apply, 0 where it is accepted; a Standby is not asked whether partitions are
drained (R66, R68). -/
def State.liveRefusal (s : State) (img : List Byte) (drains : Bool) : Nat × State :=
  let r := s.imgFail (if drains then some 0x0C000000 else none) img
  let s := r.2
  let old := s.plan
  let new := planOf img 1 (imgSects img)
  (if r.1 ≠ 0 then r.1
   else if leAt img 8 8 ≤ s.rd STRUCT_SEQ.SEQ then 0x20
   else if (liveDiffs (imgSects s.sec.image) (imgSects img)).any (fun x => !x) then 0x21
   else if drains ∧ (s.planDiffs old new).any (fun p => (old.part p).isSome && !bitOf (s.reg STRUCT_DRAINED.adr) p) then 0x22
   else if lockDiffers old new then 0x23
   else 0, s)

/-- The slot that holds the lower SEQ: 0 copy A, 1 copy B; a copy that fails R54 is lower than any. -/
def State.lowerSlot (s : State) : Nat :=
  let seq (i : Nat) : Nat := if s.rd (STRUCT_COPY.FAIL i) ≠ 0 then 0 else 1 + leNat (s.flashRead (0x0E000008 + i * 0x100000) 8)
  if seq 0 < seq 1 then 0 else 1

/-- A live apply ends refused. -/
def State.liveEnd (s : State) (st code : Nat) : State :=
  let s := (s.wr STRUCT_LIVE.STATE st).wr STRUCT_LIVE.RESULT code
  let u := s.sec.undrain
  let s := s.modSec (fun e => { e with live := none, undrain := 0 })
  let s : State := { s with pair := { s.pair with apply := none } }
  ((fins 16).filter (fun p => bitOf u p.val)).foldl (fun (s : State) p => s.undrain p) s

/-- A write of APPLY to STRUCT_LIVE.CMD; a second one while busy is ignored. -/
def State.liveApply (s : State) : State :=
  if s.rd STRUCT_LIVE.STATE = 1 ∨ s.sec.sys ≠ .run then s
  else if s.rd PAIR_STAT.ROLE = 2 then s.liveEnd 3 0x26
  else
    let img := s.imgAt 0x0C000000
    let r := s.liveRefusal img true
    if r.1 ≠ 0 then r.2.liveEnd 3 r.1
    else ((r.2.wr STRUCT_LIVE.STATE 1).wr STRUCT_LIVE.RESULT 0).modSec (fun e => { e with live := some (img, r.2.lowerSlot) })

/-- STRUCT_LIVE_APPLY. -/
def execStructLiveApply (cmd : BitVec 2) (s : State) : Out := .next (if cmd = 1 then s.liveApply else s)

/-- A cluster changes partition: scratchpad, Program RAM, bit-variable RAM, caches, TLB and CP registers are cleared (R67). -/
def State.clearCluster (s : State) (n : ClusterId) : State :=
  let lo := spadBase + n.val * 0x400000
  let plo := pramKey (cpOf n)
  let gone (k : Nat) : Bool := (decide (lo ≤ k) && decide (k < lo + 0x400000)) || (decide (plo ≤ k) && decide (k < plo + 0x40000))
  let s := { s with
    mem := s.mem.filter (fun e => !gone e.1), tags := s.tags.filter (fun e => !gone (16 * e.1))
    errs := s.errs.filter (fun e => !gone (8 * e.1)), mst := { s.mst with tlb := s.mst.tlb.filter (fun e => e.cl != n) } }
  [0, 1].foldl (fun (s : State) i => s.modCp (⟨(2 * n.val + i) % 32, Nat.mod_lt _ (by decide)⟩) (fun o => { Cp.reset with hard := o.hard })) s

/-- The granules of a partition that is no more are free again. -/
def State.dropPart (s : State) (p : PartId) : State :=
  (s.modM (fun m => { m with granules := m.granules.filter (fun e => e.2.owner != p), tlb := m.tlb.filter (fun e => e.part != p) })).modPart p
    (fun _ => Part.reset)

/-- The engine of a queue set is by default that of its partition's lowest cluster (R481). -/
def State.setQsDe (s : State) (q : Nat) : State :=
  match s.qsHome q with
  | some p => s.wr (QS_CFG.DE q) (((List.range 16).find? (fun n => (s.part p).hasCl n)).getD 0)
  | none => s

/-- Transactions in flight to clusters that a live apply resets complete with TARGET_ERR (R417). -/
def State.abortTx (s : State) (cls : List ClusterId) : State :=
  { s with fab := { s.fab with due := s.fab.due.map (fun (t : FabTx) => if cls.any (fun n => n.val == t.port) then { t with status := 2, data := 0 } else t) } }

/-- The pipes of a cluster that changes partition are parked: no partition counts them as lit (R238). -/
def State.unlight (s : State) (n : ClusterId) : State :=
  (fins 16).foldl (fun (s : State) p => s.modPart p (fun x => { x with lit := x.lit &&& ~~~(0xF#64 <<< (4 * n.val)) })) s

/-- The save slots of a partition that a live apply changes are discarded, and their granules are free again (R243). -/
def State.dropSlots (s : State) (p : PartId) : State :=
  ((s.part p).slotGrans.foldl (fun (s : State) x => s.freeSpan x.2 1) s).modPart p (fun x => { x with slots := [], slotGrans := [] })

/-- The token entries of the partitions that a live apply changes are unbound (R462). -/
def State.unbindOf (s : State) (ps : List Nat) : State :=
  s.modN (fun e => { e with tok := e.tok.map (fun t =>
    if t.2.valid && ps.contains t.2.part.val then (t.1, { t.2 with valid := false, gen := t.2.gen + 1 }) else t) })

/-- The staged image is put in force: its changed sections apply to the drained partitions, clusters and sessions that change
partition are cleared and closed, and new partitions start (R53, R67). -/
def State.applyLive (s : State) : State :=
  match s.sec.live with
  | none => s
  | some (img, slot) =>
    let old := s.plan
    let new := planOf img (slot + 1) (imgSects img)
    let clOld := (fins 16).map (fun n => s.partOf n)
    let homes := s.net.sess.map (fun x => (x.1, s.sessHome x.1))
    let changed := s.planDiffs old new
    let s := if old.events = new.events then s else s.liveEvents old new
    let s := (s.modSec (fun e => { e with image := img, src := slot + 1, progs := new.progs, slotWritten := true })).setParts new
    let moved := (fins 16).filter (fun n => clOld.getD n.val none != s.partOf n)
    let s := (moved.foldl (fun (s : State) n => (s.clearCluster n).unlight n) s).abortTx moved
    let s := ((fins 16).filter (fun p => changed.contains p.val)).foldl (fun (s : State) p => s.dropSlots p) (s.unbindOf changed)
    let qs := (List.range 256).map (fun q => s.qsHome q)
    let s := (fins 16).foldl (fun (s : State) (p : PartId) =>
      let rec_ := partChanges old new p.val
      let s := if (new.part p.val).isNone ∧ (old.part p.val).isSome then s.dropPart p else s
      let s := if rec_ then (s.takeRegion p).modM (fun m => { m with keyGen := vecUpd m.keyGen p (· + 1) }) else s
      if rec_ ∨ (old.progs.find? (fun r => r.1 == p.val)) ≠ (new.progs.find? (fun r => r.1 == p.val)) then s.loadRegion p else s) s
    let s := s.modN (fun e => { e with netq := new.netq })
    let s := (List.range 256).foldl (fun (s : State) q => if s.qsHome q = qs.getD q none then s else s.setQsDe q) s
    let s := homes.foldl (fun (s : State) x => if (s.sessHome x.1).map (·.1) ≠ x.2.map (·.1) then s.dropSes x.1 1 else s) s
    let s := (s.setStructRegs new).wrB STRUCT_FLAGS.OWNER_PENDING false
    let s := ((s.wrB (STRUCT_COPY.CHOSEN 0) (slot == 0)).wrB (STRUCT_COPY.CHOSEN 1) (slot == 1)).wr (STRUCT_COPY.FAIL slot) 0
    let s := (s.wr (STRUCT_COPY.SEQ_LO slot) new.seq.toNat).wr (STRUCT_COPY.PRESENT slot) 1
    let s := (fins 16).foldl (fun (s : State) (p : PartId) =>
      if (old.part p.val).isNone ∧ (new.part p.val).isSome ∧ !bitOf (s.reg STRUCT_DRAIN.adr) p.val then
        (s.cpsOf p).foldl (fun (s : State) c => s.releaseCp c) s
      else s) s
    s.liveEnd 2 0

/-- Write an image into a structure slot. -/
def State.writeSlot (s : State) (slot : Nat) (img : List Byte) : State :=
  ((s.flashErase (0x0E000000 + slot * 0x100000) 0x100000).flashPut (0x0E000000 + slot * 0x100000) img).modSec
    (fun e => { e with slotWritten := true })

/-- Shed level 6 breaks off the write of an accepted image: its slot holds no image, and the apply ends refused with 0x25 (R69; log entry
97, DESIGN CHOICE). -/
def State.breakApply (s : State) : State :=
  match s.sec.live with
  | some (_, slot) => if s.pair.apply.isSome then s else (s.writeSlot slot []).liveEnd 3 0x25
  | none => s

/-- LIVE_APPLY_FLASH_DONE: a failed write or readback refuses, and leaves no image in the slot; a side in sync waits for its checkpoint or compare, another applies at
once (R67, R68). -/
def execLiveApplyFlashDone (ok : Bool) (s : State) : Out :=
  .next (match s.sec.live with
    | none => s
    | some (img, slot) =>
      if s.pair.apply.isSome then s
      else
        if !ok then ((s.writeSlot slot []).cnt FLASH_STAT.PROG_ERR 1).liveEnd 3 0x25
        else
          let s := s.writeSlot slot img
          if s.paired then { s with pair := { s.pair with apply := some 0 } } else s.applyLive)

end Sys2Proof.Machine
end

