-- ==== Sys2Proof/Machine/Pair.lean ====
section
/-! DEFINITION. The Ubori Link and the pair engine (R530 to R550): frames, Mirror checkpoints, failover and Twin. -/

namespace Sys2Proof.Machine

/-- The bytes of the STATE frames of a checkpoint: their layout is not given (log entry 11, DESIGN CHOICE). -/
opaque Config.stateBytes : PairSnap → List Byte
/-- What the bytes of STATE frames hold; none where they are no such object. -/
opaque Config.stateOf : List Byte → Option PairSnap
/-- The body of a HELLO frame with the answer of R584; its layout is not given. -/
opaque Config.helloBody : HelloRec → PairAuth → List Byte

/-- The role: 0 Solo, 1 Active, 2 Standby, 3 Twin-Lead, 4 Twin-Follower. -/
def State.role (s : State) : Nat := s.rd PAIR_STAT.ROLE

/-- PAIR_STAT.STATE. -/
def State.pstate (s : State) : Nat := s.rd PAIR_STAT.STATE

/-- Set the pair epoch, also in the sealed settings (R536). -/
def State.setEpoch (s : State) (e : Word) : State := (s.setReg PAIR_EPOCH.adr e).seals (fun x => { x with epoch := e })

/-- Whether PAIR_HB_IN is alive: an edge within the last 200 µs (R534). -/
def State.hbAlive (s : State) : Bool := match s.pair.hbIn with | some t => decide (s.now ≤ t + 200000) | none => false

/-- Whether the witness lease is held: a grant lasts 3 ms (R545). -/
def State.leaseHeld (s : State) : Bool :=
  s.rdB PAIR_STAT.LEASE && (match s.pair.grantAt with | some t => decide (s.now ≤ t + 3000000) | none => false)

/-- Whether the PAIR record names a witness. -/
def State.hasWitness (s : State) : Bool := s.pair.rec_.wAddr != 0

/-! ### Frames (R531 to R533) -/

/-- The cumulative ACK of a frame: what it covers goes, and frames that come into the window leave. -/
def State.uboriAck (s : State) (a : BitVec 32) : State :=
  let old := s.pair.unacked
  let keep := old.filter (fun r => !seqBefore r.f.seq a)
  let k := old.length - keep.length
  if k = 0 then s
  else
    let go := (keep.take 1024).drop (1024 - k)
    let s := s.modPair (fun p => { p with unacked := keep, tries := 0 })
    go.foldl (fun s r => s.leave (.ubori r.f)) s

/-- Send LINKACK, which carries ACK only. -/
def State.linkAck (s : State) : State := s.uboriNow 0x0E 0 []

/-- A frame shows a higher epoch: a serving side has lost the role to its partner, another side takes the epoch over
(R509, R536). -/
def State.sawEpoch (s : State) (e : Word) : State :=
  if e.toNat ≤ s.epoch.toNat then s
  else if s.role = 1 ∨ s.role = 3 then s.modPair (fun p => { p with lost := true })
  else if s.role = 2 ∨ s.role = 4 then s.setEpoch e
  else s

/-- A frame arrives: a bad one is dropped and feeds the LINK bucket; a sequenced one is taken in order (R532, R533). -/
def State.uboriIn (s : State) (type : Byte) (f : UboriFrame) (sequenced : Bool) (body : State → State) : State :=
  if !s.rdB PAIR_STAT.LINK then s
  else
    let i := s.inject 0x2B (s.rd INJ_SEL.INST)
    let s := i.2
    if i.1 ∨ f.ver ≠ 1 ∨ f.type ≠ type ∨ f.body.length ≠ f.len.toNat ∨ uboriSeal f ≠ f then (s.cnt PAIR_LINK.CRCFAIL 1).bucket 17 1
    else
      let s := (s.uboriAck f.ack).sawEpoch f.epoch
      if !sequenced then body s
      else if f.seq = s.pair.rxSeq then (body (s.modPair (fun p => { p with rxSeq := p.rxSeq + 1 }))).linkAck
      else s.linkAck

/-! ### Outputs held for a checkpoint (R464) -/

/-- Frames held for a checkpoint or compare up to a number leave; all of them with none. -/
def State.releaseTo (s : State) (k : Option Nat) : State :=
  s.net.sess.foldl (fun s x =>
    let s := s.modSes x.1 (fun e => { e with wait := e.wait.map (fun w =>
      { w with hold := match w.hold, k with | some h, some n => if h ≤ n then none else some h | _, none => none | none, _ => none }) })
    s.pump x.1 (s.ses x.1).wait.length) s

/-- The checkpoint that ships is given up: its copies are freed. -/
def State.dropShip (s : State) : State :=
  let s := match s.pair.ship with
    | some o => (o.pages.filterMap (fun (x : ShipPage) => x.copy)).foldl (fun (s : State) (g : Nat) => s.freeSpan g 1) s
    | none => s
  let pages : List (PartId × Nat) := match s.pair.ship with | some o => o.pages.map (fun x => (x.part, x.page)) | none => []
  let s := pages.foldl (fun (s : State) x => s.cowSettle x.1 x.2) (s.modPair (fun p => { p with ship := none }))
  (s.modE (fun e => { e with mirrorBusy := false })).pressSettle.latchOut 0x2060

/-! ### Cuts (R539, R548) -/

/-- Change what a page lists: its number and whether it is in a window. -/
def State.leafBits (s : State) (p : PartId) (page : Nat) : BitVec 16 :=
  match s.walk p (page * 65536) with | .leaf _ _ e => e.setWidth 16 | _ => 0

/-- Every mapped page and window block of a partition (R538). -/
def State.allPages (s : State) (p : PartId) : List Nat :=
  let x := s.part p
  let leaves := (s.leavesIn p (2 ^ 56) 0x1000000 0).filter (fun w => !bitOf w.2.2.2 15)
  let data := leaves.foldl (fun l w => l ++ (List.range (leafSpan w.2.2.1 / 65536)).map (fun i =>
    w.1 / leafSpan w.2.2.1 * (leafSpan w.2.2.1 / 65536) + i)) []
  let spad := ((List.range 16).filter x.hasCl).foldl (fun l n =>
    l ++ (List.range 64).map (fun i => (spadWin + n * 0x400000) / 65536 + i)) []
  data ++ spad ++ (List.range x.prog.length).map (fun i => progWin / 65536 + i)

/-- The pages that a cut lists: those dirtied, and the written blocks of the windows; all pages for a full copy. -/
def State.cutPages (s : State) : List (PartId × Nat) :=
  if s.pair.full then (fins 16).foldl (fun l p => l ++ (s.allPages p).map (fun g => (p, g))) []
  else s.pair.dirty ++ (fins 16).foldl (fun l p => l ++ (s.part p).winDirty.map (fun g => (p, g))) []

/-- The D bits of listed pages clear, and the lists are empty. -/
def State.clearDirty (s : State) (pages : List (PartId × Nat)) : State :=
  let s := pages.foldl (fun s x => match s.walk x.1 (x.2 * 65536) with
    | .leaf ea _ e => if bitOf e 10 then s.setPte ea (setBitOf e 10 false) else s
    | _ => s) s
  let s := (fins 16).foldl (fun s p => s.modPart p (fun x => { x with winDirty := [] })) s
  s.modPair (fun p => { p with dirty := [], full := false })

/-- The registers of sessions, queue sets and token ports that a checkpoint records (R465). -/
def State.sessRegs (s : State) : List (Nat × Word) :=
  s.csr.filter (fun e => decide (0x04410000 ≤ e.1) && decide (e.1 < 0x04490000))

/-- What a checkpoint records beside pages (R539). -/
def State.pairSnap (s : State) : PairSnap :=
  { cps := s.cps
    slots := (fins 16).map (fun p => (p.val, (s.part p).slots))
    sess := s.net.sess, sessReg := s.sessRegs, tok := s.net.tok, tokKey := s.net.tokKey, evt := s.evt.on }

/-- The state of a checkpoint put in place of the state held (R541, R547). -/
def State.loadSnap (s : State) (x : PairSnap) : State :=
  let s := { s with
    cps := x.cps
    net := { s.net with sess := x.sess, tok := x.tok, tokKey := x.tokKey }
    evt := { s.evt with on := x.evt }
    csr := x.sessReg.foldl (fun m e => mapPut regReset m e.1 e.2)
      (s.csr.filter (fun e => !(decide (0x04410000 ≤ e.1) && decide (e.1 < 0x04490000)))) }
  x.slots.foldl (fun s e => if h : e.1 < 16 then s.modPart ⟨e.1, h⟩ (fun p => { p with slots := e.2 }) else s) s

/-- The image that a Twin side keeps of a cut (R548). -/
def State.twinImg (s : State) : TwinImg := ⟨s.pairSnap, s.mem, s.tags, s.mst.granules, s.parts⟩

/-- The image put in place. -/
def State.loadTwin (s : State) (t : TwinImg) : State :=
  ({ s with mem := t.mem, tags := t.tags, parts := t.parts, mst := { s.mst with granules := t.granules, tlb := [] } } : State).loadSnap t.snap

/-- A live apply takes effect on a side of a pair: the checkpoint or cut that the side would go back to takes it too, so that neither a
failover nor a rollback brings the old structure back (R68). -/
def State.applyPair (s : State) : State :=
  s.applyLive.modPair (fun p => { p with
    image := s.pair.image.map (fun x => (x.1, (s.loadSnap x.2).applyLive.pairSnap))
    twin := s.pair.twin.map (fun t => (s.loadTwin t).applyLive.twinImg) })

/-- The partner falls out of sync: DACK stops, and held outputs are released at once (R464, R466). A live apply that
waited for a checkpoint applies alone (R68). -/
def State.outOfSync (s : State) : State :=
  let s := ((s.wr PAIR_STAT.STATE 4).dropShip.modPair (fun p => { p with due := false, sig := none, psig := none })).releaseTo none
  if s.pair.apply.isSome ∧ s.role ≠ 2 then s.applyPair else s

/-- The bytes of a KWT frame of the part, without ACK and trailer. -/
def outBytes (n : Nat) (f : OutFrame) : List Byte :=
  [1, f.op] ++ leBytes 2 f.flags.toNat ++ leBytes 2 n ++ leBytes 2 f.payload.length ++ leBytes 4 f.seq.toNat ++ leBytes 4 0 ++
    List.replicate 16 0 ++ leBytes 8 f.off.toNat ++ leBytes 8 f.arg.toNat ++ f.payload

/-- The signatures of a cut: over the outputs since the previous cut, and over the pages dirtied (R549). -/
def State.twinSig (s : State) (pages : List (PartId × Nat)) : List Byte :=
  let outs := (sortBy (fun x => x.1) s.pair.outputs).foldl (fun l x => l ++ outBytes x.1 x.2) []
  let page (x : PartId × Nat) : List Byte :=
    match s.peekKey x.1 (x.2 * 65536) with | some k => s.bytesAt k 65536 | none => []
  let mem := (sortBy (fun (x : PartId × Nat) => x.1.val * 2 ^ 40 + x.2) pages).foldl (fun v x => crcRun 2 v (page x)) 0
  leBytes 8 (crcOf 2 outs) ++ (if s.rdB PAIR_CFG.MEMSIG then leBytes 8 mem else [])

/-- Whether a cut can run now: strips in flight have committed, and every CP stands outside a LOCK window (R539). -/
def State.cutReady (s : State) : Bool :=
  (fins 32).all (fun c => (s.cp c).vq.flights.isEmpty && ((s.cp c).lock == 0 || (s.cp c).run != .running))

/-- Whether a Twin side's cuts and outputs wait: a CP of it is halted, or it or its partner is at shed level 5 (R623, R625). -/
def State.twinWaits (s : State) : Bool :=
  (fins 32).any (fun c => (s.cp c).inDebug) || decide (5 ≤ s.shed) || decide (5 ≤ s.pair.pLevel.toNat)

/-- The cut itself. A Mirror side and a resynchronisation open a checkpoint that ships; a Twin side in sync forms its
signatures. PAUSE_US is the length of the pause, which the model does not time: a free value. -/
def State.cutNow (s : State) : State :=
  let s := (fins 32).foldl (fun s c =>
    if s.lead c = c then
      let s := s.stopCompare c
      if (s.cp c).run = .inReset then s else s.checkpointWith State.bucket c
    else s) s
  let pages := s.cutPages
  let r := s.fresh
  let s := r.2.wr PAIR_CKPT.PAUSE_US (r.1.toNat % 65536)
  let no := s.pair.next
  let snap := s.pairSnap
  let rx := s.net.sess.map (fun x => (x.1, BitVec.ofNat 32 (s.rd (SESS_SEQ.RX_NEXT x.1))))
  let twin : Bool := (s.role == 3 || s.role == 4) && s.pstate == 3
  let sig := if twin then s.twinSig pages else []
  let s := s.clearDirty pages
  let s := s.modPair (fun p => { p with next := no + 1, cutAt := s.now, due := false, outputs := [] })
  if twin then
    let img := s.twinImg
    ((s.modPair (fun p => { p with sig := some (no.toNat, sig), twinNew := some img })).uboriSeq 0x09 (no.setWidth 64) sig)
  else
    let img := if s.role = 3 then some s.twinImg else none
    (s.modPair (fun p => { p with
      twinNew := img
      ship := some ⟨no, pages.map (fun x => ⟨x.1, x.2, none, 0⟩), snap, rx, 0, 0, false, false, s.now⟩ })).modE
        (fun e => { e with mirrorBusy := true }) |>.pressSettle |> fun s => pages.foldl (fun (s : State) x => s.cowSettle x.1 x.2) s

/-- A cut falls due: it runs, or waits for the previous checkpoint, for strips and LOCK windows (R539). -/
def State.cut (s : State) : State :=
  let s := s.modE (fun e => { e with mirrorReq := false })
  if !((s.role == 1 || s.role == 3 || s.role == 4) && (s.pstate == 2 || s.pstate == 3)) || (s.role == 4 && s.pstate == 2) then s
  else if s.pair.ship.isSome ∨ s.pair.sig.isSome ∨ !s.cutReady ∨ (s.role ≠ 1 ∧ s.twinWaits) then
    s.modPair (fun p => { p with due := true })
  else s.cutNow

/-! ### Shipping (R540) -/

/-- The tag bits of a granule, 512 bytes. -/
def State.tagBytes (s : State) (g : Nat) : List Byte :=
  (List.range 512).map (fun i => (List.range 8).foldl (fun (b : Byte) j =>
    if s.tagAt (g * 4096 + 8 * i + j) then b ||| (1#8 <<< j) else b) 0)

/-- A checkpoint that begins carries an accepted live apply: CTL APPLY frames with the image in pieces of 8 KiB, each with its offset
in ARG[63:16] (R68, log entry 11, DESIGN CHOICE). -/
def State.carryApply (s : State) (no : Nat) : State :=
  match s.sec.live with
  | some (img, _) =>
    if s.pair.apply ≠ some 0 then s
    else
      let s := (List.range ((img.length + 8191) / 8192)).foldl (fun (s : State) i =>
        s.uboriSeq 0x0D (BitVec.ofNat 64 (6 + 65536 * (8192 * i))) (slice img (8192 * i) 8192)) s
      s.modPair (fun p => { p with apply := some no })
  | none => s

/-- One frame of the checkpoint that ships: CKPT_BEGIN, the STATE frames, nine PAGE frames for each page, CKPT_END. -/
def State.shipStep (s : State) : State :=
  match s.pair.ship with
  | none => s
  | some o =>
    if !s.rdB PAIR_STAT.LINK ∨ 1024 ≤ s.pair.unacked.length ∨ o.ended then s
    else if !o.begun then
      ((s.uboriSeq 0x03 (o.no.setWidth 64) []).carryApply o.no.toNat).modPair (fun p => { p with ship := some { o with begun := true } })
    else
      let st := Config.stateBytes o.snap
      let body (type : Byte) (arg : Word) (bs : List Byte) (o : OpenCkpt) : State :=
        (s.uboriSeq type arg bs).modPair (fun p => { p with
          ship := some { o with count := o.count + 1, crc := BitVec.ofNat 64 (crcRun 2 o.crc.toNat bs) } })
      if o.count * 8192 < st.length then
        body 0x05 (BitVec.ofNat 64 (o.count * 8192 * 2 ^ 16)) ((st.drop (o.count * 8192)).take 8192) o
      else match o.pages with
        | [] =>
          (s.uboriSeq 0x06 (o.no.setWidth 64) (leBytes 4 o.count ++ leBytes 4 ((o.count - (st.length + 8191) / 8192) / 9) ++
            leBytes 8 o.crc.toNat)).modPair (fun p => { p with ship := some { o with ended := true } })
        | x :: rest =>
          let g := match x.copy with | some g => some g | none => (s.peekKey x.part (x.page * 65536)).map (· / 65536)
          let bs := match g with
            | some g => if x.piece < 8 then s.bytesAt (g * 65536 + x.piece * 8192) 8192 else s.tagBytes g
            | none => List.replicate (if x.piece < 8 then 8192 else 512) 0
          let arg := BitVec.ofNat 64 (x.part.val + x.piece * 16 + x.page % 2 ^ 40 * 2 ^ 8 + (s.leafBits x.part x.page).toNat * 2 ^ 48)
          if x.piece < 8 then body 0x04 arg bs { o with pages := { x with piece := x.piece + 1 } :: rest }
          else
            let s := body 0x04 arg bs { o with pages := rest }
            let s := match x.copy with | some g => s.freeSpan g 1 | none => s
            (s.cowSettle x.part x.page).pressSettle.wakePage x.part

/-- CHECKPOINT_SHIP. -/
def execCheckpointShip (s : State) : Out := .next s.shipStep

/-! ### Completion -/

/-- DACK of the partition sessions takes the RX_NEXT of a completed cut; a DUR request that it passes asks for an ACK
(R452, R463). -/
def State.dackTo (s : State) (rx : List (Nat × BitVec 32)) : State :=
  rx.foldl (fun s x =>
    if x.1 < 16 ∨ s.sessState x.1 ≠ 2 then s
    else
      let s := s.wr (SESS_ACK.DACK x.1) x.2.toNat
      let hit := (s.ses x.1).dur.any (fun q => seqBefore q x.2)
      let s := s.modSes x.1 (fun e => { e with dur := e.dur.filter (fun q => !seqBefore q x.2) })
      if hit then s.ack x.1 else s) s

/-- Ask the witness (R545). -/
def State.askWitness (s : State) (op : Byte) : State :=
  if !s.hasWitness then s
  else
    let n := s.pair.reqNo + 1
    (s.modPair (fun p => { p with reqNo := n, reqOp := op, reqAt := some s.now })).leave (.witness op s.epoch n)

/-- Send CTL (R532). -/
def State.ctl (s : State) (n : Nat) : State := s.uboriSeq 0x0D (BitVec.ofNat 64 n) []

/-- The side gives up the lease and its role: it signals failover and becomes Standby (R553, R629). -/
def State.giveUp (s : State) : State :=
  let s := (s.askWitness 3).ctl 1
  (((s.wr PAIR_STAT.LEASE 0).wr PAIR_STAT.ROLE 2).outOfSync.modPair (fun p => { p with giveUp := false, grantAt := none })).modN
    (fun e => { e with silent := true })

/-- The failover signal of shed level 6: the lease is released and CTL FAILOVER sent (R509). -/
def State.signalFailover (s : State) : State := ((s.askWitness 3).ctl 1).wr PAIR_STAT.LEASE 0

/-- A checkpoint is complete on the partner: line 0x223, DACK, held outputs; then what waited for it (R541, R538, R553,
R628). -/
def State.ckptDone (s : State) (no : BitVec 32) : State :=
  match s.pair.ship with
  | none => s
  | some o =>
    if o.no ≠ no ∨ !o.ended then s
    else
      let s := (s.wr PAIR_CKPT.COMPLETE no.toNat).wr PAIR_CKPT.SHIP_MS (min 65535 ((s.now - o.at_) / 1000000))
      let s := if s.pstate = 2 then (s.wr PAIR_STAT.STATE 3).setEpoch (s.epoch + 1) else s
      let s := (s.fire 0x223).dropShip
      let s := (s.dackTo o.rxNext).releaseTo (some no.toNat)
      let s := if s.pwr.final then ({ s with pwr := { s.pwr with final := false } } : State).signalFailover else s
      let s := if s.role = 3 then s.modPair (fun p => { p with
          twin := p.twinNew, twinNew := none, inputs := p.inputs.filter (fun x => decide (no.toNat < x.1)) }) else s
      let s := if s.pair.apply = some no.toNat then s.applyPair else s
      let s := if s.pair.giveUp then s.giveUp else s
      let s := if s.pair.sleepAsk then (s.ctl 2).modPair (fun p => { p with sleepAsk := false }) else s
      if s.pair.due then s.cut else s

/-- CKPT_DONE arrives. -/
def execCkptDone (f : UboriFrame) (s : State) : Out :=
  .next (s.uboriIn 0x07 f true (fun s => s.ckptDone (f.arg.setWidth 32)))

/-! ### Forwarded inputs (R548) -/

/-- The hooks where neither the Custodian nor the partner is concerned. -/
def NetHooks.none : NetHooks := { cust := fun s _ => ⟨stBadop, 0, [], s, id⟩, fwd := fun s _ => s }

/-- A forwarded datagram is processed from stage 4 on, as its Lead does (R548). -/
def State.stage4 (s : State) (f : KwtFrame) : State :=
  let n := f.session.toNat
  if f.op = 0x10 then s.openSes n f
  else if s.sessState n ≠ 2 ∨ (f.op ≠ 0x12 ∧ seqBefore f.seq (BitVec.ofNat 32 (s.rd (SESS_SEQ.RX_NEXT n)))) then s
  else
    let c := if f.op = 0x12 then (0, s) else s.stage2 f
    c.2.acceptIn NetHooks.none f c.1 s.net.sent.length

/-- The inputs forwarded since the cut are processed again. -/
def State.replay (s : State) : State := s.pair.inputs.foldl (fun s x => s.stage4 x.2) s

/-! ### The Standby side (R541) -/

/-- CKPT_BEGIN opens staging. -/
def State.ckptBegin (s : State) (no : BitVec 32) : State :=
  let s := if s.pair.divergent then (s.modPair (fun p => { p with divergent := false, mismatches := 0 })).wr PAIR_STAT.ROLE 4 else s
  let s := if s.pstate = 3 then s else s.wr PAIR_STAT.STATE 2
  s.modPair (fun p => { p with staging := some ⟨no, [], [], 0, 0, 0, []⟩ })

/-- CKPT_BEGIN. -/
def execCkptBegin (f : UboriFrame) (s : State) : Out := .next (s.uboriIn 0x03 f true (fun s => s.ckptBegin (f.arg.setWidth 32)))

/-- A body counts towards the checkpoint in staging. -/
def Staging.note (g : Staging) (bs : List Byte) : Staging :=
  { g with count := g.count + 1, crc := BitVec.ofNat 64 (crcRun 2 g.crc.toNat bs) }

/-- A PAGE frame is written into its staging granule. -/
def Staging.page (g : Staging) (arg : Word) (bs : List Byte) : Staging :=
  let p : PartId := ⟨nbits arg.toNat 0 4, by unfold nbits; exact Nat.mod_lt _ (by decide)⟩
  let piece := nbits arg.toNat 4 4
  let page := nbits arg.toNat 8 40
  let l := if g.pages.any (fun x => x.part == p && x.page == page) then g.pages
    else g.pages ++ [⟨p, page, BitVec.ofNat 16 (nbits arg.toNat 48 16), List.replicate 65536 0, List.replicate 512 0⟩]
  { g with
    npages := g.npages + b2n (piece == 8)
    pages := l.map (fun x =>
      if x.part == p && x.page == page then
        if piece = 8 then { x with tagBytes := bs }
        else { x with bytes := x.bytes.take (piece * 8192) ++ bs ++ x.bytes.drop (piece * 8192 + bs.length) }
      else x) }

/-- PAGE. -/
def execPageFrame (f : UboriFrame) (s : State) : Out :=
  .next (s.uboriIn 0x04 f true (fun s => s.modPair (fun p => { p with
    staging := p.staging.map (fun g => (g.page f.arg f.body).note f.body) })))

/-- STATE. -/
def execStateFrame (f : UboriFrame) (s : State) : Out :=
  .next (s.uboriIn 0x05 f true (fun s => s.modPair (fun p => { p with
    staging := p.staging.map (fun g =>
      let off := nbits f.arg.toNat 16 48
      { (g.note f.body) with objs := g.objs.take off ++ f.body ++ g.objs.drop (off + f.body.length) }) })))

/-- A staged page becomes the page of its partition: mapped where it was not, its bytes, tags, PIN and COLD. -/
def State.applyPage (s : State) (x : PageImg) : State :=
  let va := x.page * 65536
  let s := match s.walk x.part va with
    | .missing _ level =>
      if x.page < 1 ∨ spadWin ≤ va then s else ((s.ensureRoot x.part).firstTouch (s.engAccess x.part true) va level).2
    | _ => s
  match s.peekKey x.part va with
  | none => s
  | some key =>
    let s := (s.zeroGranule (key / 65536)).putBytes x.bytes key
    let s := (List.range 4096).foldl (fun s i =>
      if bitOf (x.tagBytes.getD (i / 8) 0) (i % 8) then s.setTag (key / 16 + i) true else s) s
    match s.walk x.part va with
    | .leaf ea _ e => s.setPte ea (setBitOf (setBitOf e 8 (bitOf x.leaf 8)) 9 (bitOf x.leaf 9))
    | _ => s

/-- CKPT_END: counts and CRC-64 are checked; the side switches to the staged checkpoint, or discards it and asks for a full
resynchronisation: the partner reads that from the state in its heartbeats (R541). -/
def State.ckptEnd (s : State) (no : BitVec 32) (body : List Byte) : State :=
  match s.pair.staging with
  | none => s
  | some g =>
    let ok := g.no == no && leNat (body.take 4) == g.count && leNat ((body.drop 4).take 4) == g.npages &&
      leNat ((body.drop 8).take 8) == g.crc.toNat
    let s := s.modPair (fun p => { p with staging := none })
    match ok, Config.stateOf g.objs with
    | true, some snap =>
      let s : State := g.pages.foldl (fun (s : State) x => s.applyPage x) s
      let s := s.modPair (fun p => { p with image := some (no, snap), next := no + 1 })
      let s := s.modN (fun e => { e with tokKey := snap.tokKey })
      let s := (s.wr PAIR_CKPT.COMPLETE no.toNat).fire 0x223
      let s := if s.pstate = 2 then (s.wr PAIR_STAT.STATE 3).setEpoch (s.epoch + 1) else s
      let s := s.uboriSeq 0x07 (no.setWidth 64) []
      let s := if s.role = 4 then s.loadSnap snap else s
      let s := if s.pair.apply = some no.toNat then s.applyPair else s
      if s.role = 4 then
        (s.modPair (fun p => { p with twin := some s.twinImg, outputs := [], sig := none, psig := none })).replay
      else s
    | _, _ => s.wr PAIR_STAT.STATE 4

/-- CTL APPLY at the Standby: the pieces of the image come together; it is checked when it is whole, and applied at the end of its
checkpoint or refused with CTL APPLY and ARG[8] at 1 (R68, log entry 11, DESIGN CHOICE). -/
def State.applyPiece (s : State) (off : Nat) (bs : List Byte) : State :=
  match s.pair.staging with
  | none => s
  | some g =>
    let img := g.img.take off ++ bs ++ g.img.drop (off + bs.length)
    let s := s.modPair (fun p => { p with staging := some { g with img := img } })
    if img.length < 256 ∨ img.length ≠ leAt img 0x10 4 then s
    else
      let r := s.liveRefusal img false
      let s := r.2
      if r.1 ≠ 0 then s.uboriSeq 0x0D 0x106 []
      else
        let slot := s.lowerSlot
        ((s.writeSlot slot img).modPair (fun p => { p with apply := some g.no.toNat })).modSec (fun e => { e with live := some (img, slot) })

/-- CTL_APPLY: a piece for the Standby, or its refusal, after which neither side applies (R66, R68). -/
def execCtlApply (f : UboriFrame) (s : State) : Out :=
  .next (s.uboriIn 0x0D f true (fun s =>
    if nbits f.arg.toNat 0 8 ≠ 6 then s
    else if nbits f.arg.toNat 8 1 = 1 then (if s.role = 1 ∧ s.pair.apply.isSome then s.liveEnd 3 0x24 else s)
    else if s.role = 2 then s.applyPiece (nbits f.arg.toNat 16 48) f.body
    else s))

/-- CKPT_END. -/
def execCkptEnd (f : UboriFrame) (s : State) : Out := .next (s.uboriIn 0x06 f true (fun s => s.ckptEnd (f.arg.setWidth 32) f.body))

/-! ### Failover (R544 to R547) -/

/-- Sessions after a failover: empty reorder stores, DACK = RX_NEXT, the part's own frames again, and an ACK with RESYNC on every
OPEN session (R465). -/
def State.resyncSessions (s : State) : State :=
  s.net.sess.foldl (fun s x =>
    let n := x.1
    if s.sessState n ≠ 2 then s
    else
      let s := s.modSes n (fun e => { e with held := [] })
      let s := s.wr (SESS_ACK.DACK n) (s.rd (SESS_SEQ.RX_NEXT n))
      let s := (s.ses n).out.foldl (fun s r => s.emit n { r.f with flags := setBitOf r.f.flags 5 true }) s
      s.ackWith n 0x10 (s.rd (SESS_SEQ.TX_NEXT n))) s

/-- The side takes the shared identity (R547, step 5). -/
def State.takeIdentity (s : State) : State :=
  ((s.modN (fun e => { e with silent := false })).leave (.announce 0)).leave (.announce 1)

/-- The state of the last complete checkpoint, or in Twin of this side's last passing cut (R547, R550). -/
def State.lastGood (s : State) : State :=
  if s.role = 4 then
    match s.pair.twin with
    | some t => (s.loadTwin t).modPair (fun p => { p with inputs := [], outputs := [], sig := none, psig := none })
    | none => s
  else match s.pair.image with
    | some (_, snap) => s.loadSnap snap
    | none => s

/-- The failover (R547). -/
def State.failover (s : State) : State :=
  let s := (s.fire 0x224).setEpoch (s.epoch + 1)
  let s := (s.cnt PAIR_STAT.FAILOVERS 1).modPair (fun p => { p with staging := none, suspect := false, claim := false, apply := none })
  let s : State := { s with sec := { s.sec with live := none } }
  let s := s.lastGood
  let s := (s.wr PAIR_STAT.ROLE (if s.role = 4 then 3 else 1)).wr PAIR_STAT.STATE 4
  let r := s.fresh
  let s := (r.2.modN (fun e => { e with inc := r.1.setWidth 16 })).takeIdentity
  s.resyncSessions.releaseTo none

/-- The check of R544: what the suspicion leads to now. -/
def State.suspectCheck (s : State) : State :=
  if s.hbAlive && !s.rdB PAIR_STAT.HBWIRE_FAULT then (s.wr PAIR_STAT.STATE 4).modPair (fun p => { p with suspect := false })
  else if s.hasWitness then s.askWitness 2
  else if s.hbAlive then s
  else s.failover

/-- HEARTBEAT_SUSPICION: a Standby or Follower in sync has had no HEARTBEAT for 3 ms, or the suspicion stands (R544). -/
def execHeartbeatSuspicion (s : State) : Out :=
  .next (if !((s.role == 2 || s.role == 4) && s.pstate == 3) || (s.rdB PAIR_STAT.HOLD && !s.dbgClosed) || s.pwr.agreed then s
    else
      let s := if s.pair.suspect then s else (s.modPair (fun p => { p with suspect := true })).fire 0x222
      s.suspectCheck)

end Sys2Proof.Machine
end

