-- ==== Sys2Proof/Machine/Twin.lean ====
section
/-! DEFINITION. Twin (R548, R549): forwarded inputs, signatures and verdicts. -/

namespace Sys2Proof.Machine

/-- The bytes of a KWT datagram (R445). -/
def kwtBytes (f : KwtFrame) : List Byte :=
  [f.ver, f.op] ++ leBytes 2 f.flags.toNat ++ leBytes 2 f.session.toNat ++ leBytes 2 f.len.toNat ++ leBytes 4 f.seq.toNat ++
    leBytes 4 f.ack.toNat ++ leBytes 16 f.token.toNat ++ leBytes 8 f.offset.toNat ++ leBytes 8 f.arg.toNat ++ f.payload ++
    leBytes 4 f.trailer.toNat

/-- The body of an INPUT: the datagram, with the address that it came from after it (log entry 11, DESIGN CHOICE). -/
def inputBytes (f : KwtFrame) : List Byte :=
  kwtBytes f ++ leBytes 6 f.srcMac.toNat ++ leBytes 16 f.srcIp.toNat ++ leBytes 2 f.srcUdp.toNat ++ [BitVec.ofNat 8 f.sub.val]

/-- The datagram that the body of an INPUT holds. -/
def kwtOf (port : PortId) (b : List Byte) : KwtFrame :=
  let at_ (o n : Nat) : Nat := leNat ((b.drop o).take n)
  let len := at_ 6 2
  { port := port, sub := Fin.ofNat 8 (at_ (76 + len) 1), srcMac := BitVec.ofNat 48 (at_ (52 + len) 6)
    srcIp := BitVec.ofNat 128 (at_ (58 + len) 16), srcUdp := BitVec.ofNat 16 (at_ (74 + len) 2)
    ver := BitVec.ofNat 8 (at_ 0 1), op := BitVec.ofNat 8 (at_ 1 1), flags := BitVec.ofNat 16 (at_ 2 2)
    session := BitVec.ofNat 16 (at_ 4 2), len := BitVec.ofNat 16 len, seq := BitVec.ofNat 32 (at_ 8 4)
    ack := BitVec.ofNat 32 (at_ 12 4), token := BitVec.ofNat 128 (at_ 16 16), offset := BitVec.ofNat 64 (at_ 32 8)
    arg := BitVec.ofNat 64 (at_ 40 8), payload := (b.drop 48).take len, trailer := BitVec.ofNat 32 (at_ (48 + len) 4) }

/-- The Lead forwards a datagram that passed stage 3, and keeps it for a replay (R548, R549). -/
def State.fwdInput (s : State) (f : KwtFrame) : State :=
  let arg := BitVec.ofNat 64 (f.port.val + s.ptpNs % 2 ^ 56 * 2 ^ 8)
  (s.modPair (fun p => { p with inputs := p.inputs ++ [(p.next.toNat, f)] })).uboriSeq 0x08 arg (inputBytes f)

/-- An INPUT: the Follower processes it, or keeps it while it is being resynchronised. -/
def State.inputIn (s : State) (arg : Word) (body : List Byte) : State :=
  if s.role ≠ 4 then s
  else
    let f := kwtOf ⟨nbits arg.toNat 0 2, by unfold nbits; exact Nat.mod_lt _ (by decide)⟩ body
    let s := s.modPair (fun p => { p with inputs := p.inputs ++ [(p.next.toNat, f)] })
    if s.pstate = 3 then s.stage4 f else s

/-- INPUT. -/
def execInputFrame (f : UboriFrame) (s : State) : Out := .next (s.uboriIn 0x08 f true (fun s => s.inputIn f.arg f.body))

/-- A compare passed: the older image is discarded, and the interval's outputs leave (R464, R549). -/
def State.twinPass (s : State) (no : Nat) : State :=
  let s := s.modPair (fun p => { p with
    twin := p.twinNew, twinNew := none, sig := none, psig := none, mismatches := 0
    inputs := p.inputs.filter (fun x => decide (no < x.1)) })
  let rx := match s.pair.twin with
    | some t => t.snap.sess.map (fun x =>
        (x.1, BitVec.ofNat 32 ((SESS_SEQ.RX_NEXT x.1).ofWord (mapGet regReset t.snap.sessReg (SESS_SEQ.adr x.1)))))
    | none => []
  let s := ((s.wr PAIR_CKPT.COMPLETE no).fire 0x223).dackTo rx
  let s := s.releaseTo (some no)
  let s := if s.pair.apply.isSome then s.applyPair else s
  let s := if s.pair.sleepAsk then (s.ctl 2).modPair (fun p => { p with sleepAsk := false }) else s
  if s.pair.due then s.cut else s

/-- A mismatch: the TWIN bucket, DET_LOST with code 7, and a rollback to the last passing cut with a replay; a second mismatch at
the same cut makes the side divergent (R549, R622). -/
def State.twinFail (s : State) (no : Nat) : State :=
  let s := ((s.cnt TWIN_STAT.MISMATCH 1).bucket 16 1).detLost 7 (fins 32)
  let m := s.pair.mismatches + 1
  if 2 ≤ m then
    (((s.wr PAIR_STAT.STATE 6).modPair (fun p => { p with divergent := true, mismatches := m, sig := none, psig := none, due := false })).modN
      (fun e => { e with silent := true }))
  else
    let s := match s.pair.twin with | some t => s.loadTwin t | none => s
    (s.modPair (fun p => { p with
      mismatches := m, sig := none, psig := none, twinNew := none, outputs := [], dirty := [], next := BitVec.ofNat 32 no })).replay

/-- Both signatures of a cut are known: the compare. The Lead sends its verdict. INJ_TWIN makes it differ (R549, R556). -/
def State.twinCompare (s : State) : State :=
  match s.pair.sig, s.pair.psig with
  | some (n, a), some (m, b) =>
    if n ≠ m then s
    else
      let i := s.inject 0x2A (s.rd INJ_SEL.INST)
      let pass := !i.1 && decide (a = b)
      let s := i.2.cnt TWIN_STAT.COMPARES 1
      let s := if s.role = 3 then s.uboriSeq 0x0A (BitVec.ofNat 64 (b2n pass + n * 2 ^ 8)) [] else s
      if !pass then s.twinFail n
      else if s.role = 3 then s.twinPass n
      else s
  | _, _ => s

/-- MIRROR_CHECKPOINT_CUT. -/
def execMirrorCheckpointCut (s : State) : Out := .next s.cut.twinCompare

/-- SIG: the partner's signatures of a cut. They are compared once this side has cut too; a Twin side that waits with its cut
compares at it. -/
def execSigFrame (f : UboriFrame) (s : State) : Out :=
  .next (s.uboriIn 0x09 f true (fun s =>
    let s := s.modPair (fun p => { p with psig := some (f.arg.toNat % 2 ^ 32, f.body) })
    (if s.pair.sig.isNone then s.cut else s).twinCompare))

/-- VERDICT: a pass discards the older image, a failure rolls back where this side has not done so (R549). -/
def execVerdictFrame (f : UboriFrame) (s : State) : Out :=
  .next (s.uboriIn 0x0A f true (fun s =>
    let no := nbits f.arg.toNat 8 56
    match s.pair.sig with
    | some (n, _) => if s.role ≠ 4 ∨ n ≠ no then s else if bitOf f.arg 0 then s.twinPass no else s.twinFail no
    | none => s))

end Sys2Proof.Machine
end

