-- ==== Sys2Proof/Machine/PairCtl.lean ====
section
/-! DEFINITION. The Ubori Link, negotiation, heartbeats, the witness, the fence and the commands of PAIR_CTL (R530 to R547,
R553, R584). -/

namespace Sys2Proof.Machine

/-! ### The link (R530, R533) -/

/-- The HELLO record of this side (R535). -/
def State.helloOwn (s : State) : HelloRec :=
  { pairId := s.pair.rec_.pairId, role := s.pair.rec_.kind.setWidth 8, prefer := s.pair.rec_.prefer.setWidth 8
    ckptMs := BitVec.ofNat 16 s.pair.rec_.ckptMs
    digest := BitVec.ofNat 512 (leNat ((List.range 8).foldl (fun l i => l ++ leBytes 8 (s.reg (STRUCT_DIGEST.adr i)).toNat) []))
    proto := 1, epoch := s.epoch, ckptNo := BitVec.ofNat 32 (s.rd PAIR_CKPT.COMPLETE), lease := s.leaseHeld
    idkHash := BitVec.ofNat 256 (leNat s.idkHash) }

/-- No answer yet. -/
def PairAuth.none : PairAuth := ⟨[], [], [], []⟩

/-- The record that a signature of R584 covers. -/
def helloBytes (h : HelloRec) : List Byte := Config.helloBody h PairAuth.none

/-- Negotiation starts: a fresh encapsulation key and HELLO (R535, R584). -/
def State.negotiate (s : State) : State :=
  if s.pair.rec_.kind = 0 ∨ !s.rdB PAIR_STAT.LINK then s
  else
    let r := s.rand 64
    let s := (r.2.modPair (fun p => { p with kem := r.1 })).wr PAIR_STAT.STATE 1
    s.uboriNow 0x01 0 (Config.helloBody s.helloOwn ⟨[], [], kemPub r.1, []⟩)

/-- The width that working lanes allow (R530). -/
def laneWidth (n : Nat) : Nat := if 8 ≤ n then 8 else if 4 ≤ n then 4 else if 2 ≤ n then 2 else 0

/-- The link goes down: what was not acknowledged is lost, a serving side is out of sync. -/
def State.linkDown (s : State) : State :=
  if !s.rdB PAIR_STAT.LINK then s
  else
    let s := ((s.wr PAIR_STAT.LINK 0).wr PAIR_LINK.LANES 0).modPair (fun p => { p with unacked := [], tries := 0, staging := none })
    let s := s.fire 0x221
    let st := s.pstate
    if st = 1 then s.wr PAIR_STAT.STATE 0
    else if (s.role = 1 ∨ s.role = 3) ∧ (st = 2 ∨ st = 3) then s.outOfSync
    else if st = 2 then s.wr PAIR_STAT.STATE 4
    else s

/-- UBORI_LINK_UP with a number of working lanes. -/
def execUboriLinkUp (lanes : BitVec 4) (s : State) : Out :=
  .next (if s.rdB PAIR_STAT.LINK ∨ laneWidth lanes.toNat = 0 then s
    else
      let s := (s.wr PAIR_STAT.LINK 1).wr PAIR_LINK.LANES (laneWidth lanes.toNat)
      let s := s.modPair (fun p => { p with txSeq := 0, rxSeq := 0, unacked := [], tries := 0 })
      (s.fire 0x220).negotiate)

/-- UBORI_LINK_DOWN. -/
def execUboriLinkDown (s : State) : Out := .next s.linkDown

/-- UBORI_LINK_RETRAIN at the widest width that the working lanes allow. -/
def execUboriLinkRetrain (working : BitVec 8) (s : State) : Out :=
  let w := laneWidth ((List.range 8).filter (fun i => bitOf working i)).length
  .next (if w = 0 then s.linkDown else if s.rdB PAIR_STAT.LINK then s.wr PAIR_LINK.LANES w else s)

/-- UBORI_RETRANSMIT: every unacknowledged frame of the window from the oldest, with RETX; after 16 times without progress the link
is down (R533). -/
def execUboriRetransmit (s : State) : Out :=
  .next (if s.pair.unacked.isEmpty ∨ !s.rdB PAIR_STAT.LINK then s
    else if 16 ≤ s.pair.tries then s.linkDown
    else
      let go := s.pair.unacked.take 1024
      let s := (s.cnt PAIR_LINK.RETX go.length).modPair (fun p => { p with
        tries := p.tries + 1, unacked := p.unacked.map (fun r => { r with last := s.now }) })
      go.foldl (fun s r => s.leave (.ubori (uboriSeal { r.f with flags := 1 }))) s)

/-- LINKACK: only its ACK counts. -/
def execLinkack (f : UboriFrame) (s : State) : Out := .next (s.uboriIn 0x0E f false id)

/-! ### Negotiation (R535 to R537, R584) -/

/-- The refusal code of R535 before authentication. -/
def helloCode (a b : HelloRec) : Nat :=
  if a.pairId ≠ b.pairId ∨ a.pairId = 0 then 1
  else if a.role ≠ b.role ∨ a.role = 0 ∨ b.role = 0 then 2
  else if a.ckptMs ≠ b.ckptMs then 3
  else if a.digest ≠ b.digest then 4
  else if a.proto ≠ b.proto then 5
  else 0

/-- Whether the side of record `a` is the first that the order of R536 selects. -/
def helloFirst (a b : HelloRec) : Bool :=
  if a.epoch ≠ b.epoch then decide (b.epoch.toNat < a.epoch.toNat)
  else if a.ckptNo ≠ b.ckptNo then decide (b.ckptNo.toNat < a.ckptNo.toNat)
  else if a.lease != b.lease then a.lease
  else if a.prefer ≠ b.prefer ∧ (a.prefer = 1 ∨ b.prefer = 1) then a.prefer == 1
  else if a.prefer ≠ b.prefer ∧ (a.prefer = 2 ∨ b.prefer = 2) then b.prefer == 2
  else decide (a.idkHash.toNat < b.idkHash.toNat)

/-- Authentication of the partner (R584). -/
def State.helloAuth (s : State) (h : HelloRec) (a : PairAuth) : Bool × State :=
  let peer := s.sec.set.peerHash
  if peer.all (fun b => b == 0) ∨ shake 32 a.idkPub ≠ peer ∨ leNat peer ≠ h.idkHash.toNat then (false, s)
  else s.verify a.idkPub "KORNOELM-UBORI" (helloBytes h ++ helloBytes s.helloOwn) a.sig

/-- A side becomes Active, or waits for the lease that lets it serve (R537). -/
def State.serveFirst (s : State) : State :=
  if s.pair.rec_.kind = 1 ∧ s.hasWitness ∧ !s.leaseHeld then
    (((s.wr PAIR_STAT.ROLE 2).wr PAIR_STAT.STATE 4).modPair (fun p => { p with claim := true })).askWitness 2
  else
    let was := s.net.silent
    let s := ((s.wr PAIR_STAT.ROLE (if s.pair.rec_.kind = 2 then 3 else 1)).wr PAIR_STAT.STATE 2).modPair (fun p => { p with full := true })
    if was then s.takeIdentity else s

/-- The other side: Standby or Follower; state that lost under the first two rules is discarded (R536). -/
def State.serveSecond (s : State) : State :=
  (((s.wr PAIR_STAT.ROLE (if s.pair.rec_.kind = 2 then 4 else 2)).wr PAIR_STAT.STATE 2).modPair (fun p => { p with
    image := none, staging := none, twin := none, twinNew := none, inputs := [], claim := false })).modN (fun e => { e with silent := true })

/-- A refused side runs alone (R535, R537). -/
def State.refusePair (s : State) (code : Nat) : State :=
  let s := (s.wr PAIR_STAT.REFUSE code).wr PAIR_STAT.STATE 0
  if s.hasWitness then (s.modPair (fun p => { p with claim := true })).askWitness 2 else s

/-- A HELLO: the wire check, the codes of R535, authentication and the link keys, and the roles. -/
def State.helloIn (s : State) (h : HelloRec) (a : PairAuth) : State :=
  if s.pair.rec_.kind = 0 then (s.modPair (fun p => { p with hello := some h })).wr PAIR_STAT.REFUSE 2
  else if s.pstate ≠ 1 then s
  else
    let own := s.helloOwn
    let s := s.modPair (fun p => { p with hello := some h })
    let s := if s.rdB SB_STRAP.HBWIRE then s.wr PAIR_STAT.HBWIRE_FAULT 1
      else if s.hbAlive && !s.rdB SB_WIRE.HB_OUT_OFF then s
      else (s.wr PAIR_STAT.HBWIRE_FAULT 1).bucket 20 1
    let code := helloCode own h
    if code ≠ 0 then s.refusePair code
    else
      let r := s.rand 32
      let s := r.2
      let sig := mldsa s.idkSeed "KORNOELM-UBORI" (helloBytes own ++ helloBytes h)
      let enc := kemEncaps a.kemKey r.1
      let s := s.uboriNow 0x01 0 (Config.helloBody own ⟨mldsaKey s.idkSeed, sig, kemPub s.pair.kem, enc.2⟩)
      if a.idkPub.isEmpty then s
      else
        let v := s.helloAuth h a
        let s := v.2
        if !v.1 then s.refusePair 6
        else
          let mine := kemDecaps s.pair.kem a.kemCt
          let theirs := enc.1
          let first := helloFirst own h
          let key := shake 32 ((if first then mine ++ theirs else theirs ++ mine) ++ ascii "KORNOELM-LINK")
          let s := (s.modPair (fun p => { p with linkKey := key })).modN (fun e => { e with keyed := setBitOf e.keyed 16 true })
          let s := s.wr PAIR_STAT.REFUSE 0
          if first then s.serveFirst else s.serveSecond

/-- HELLO. -/
def execHelloFrame (f : UboriFrame) (hello : HelloRec) (auth : PairAuth) (s : State) : Out :=
  .next (s.uboriIn 0x01 f false (fun s => s.helloIn hello auth))

/-- PARTNER_SILENT_SINCE_BOOT: no witness, and the partner silent for 3 s since boot: the side serves alone (R537). -/
def execPartnerSilentSinceBoot (s : State) : Out :=
  .next (if s.pair.rec_.kind = 0 ∨ s.hasWitness ∨ s.pair.lastHb.isSome ∨ s.pair.hbIn.isSome ∨ s.role ≠ 2 ∨ s.sec.sys ≠ .run then s
    else ((s.wr PAIR_STAT.ROLE (if s.pair.rec_.kind = 2 then 3 else 1)).wr PAIR_STAT.STATE 0).takeIdentity)

/-! ### Heartbeats (R532, R534) -/

/-- Send HEARTBEAT. -/
def State.sendHeartbeat (s : State) : State :=
  s.uboriNow 0x02 (BitVec.ofNat 64 (s.shed + 16 * s.pstate + 128 * b2n s.leaseHeld)) []

/-- HEARTBEAT_SEND, while paired. -/
def execHeartbeatSend (s : State) : Out := .next (if 2 ≤ s.pstate then s.sendHeartbeat else s)

/-- A full resynchronisation begins (R538). -/
def State.startResync (s : State) : State :=
  (s.outOfSync.wr PAIR_STAT.STATE 2).modPair (fun p => { p with full := true })

/-- A HEARTBEAT: liveness and the partner's level; a serving side whose partner is at shed level 6 falls out of sync, and one
whose partner is out of sync resynchronises it (R541, R626). -/
def State.heartbeatIn (s : State) (arg : Word) : State :=
  let lvl := nbits arg.toNat 0 3
  let st := nbits arg.toNat 4 3
  let s := s.modPair (fun p => { p with lastHb := some s.now, pLevel := BitVec.ofNat 3 lvl, suspect := false })
  if s.role = 1 ∨ s.role = 3 then
    if 6 ≤ lvl then (if s.pstate = 3 then s.outOfSync else s)
    else if (s.pstate = 4 ∧ !s.pair.lost) ∨ (s.pstate = 3 ∧ st = 4) then s.startResync
    else s
  else s

/-- HEARTBEAT. -/
def execHeartbeatFrame (f : UboriFrame) (s : State) : Out := .next (s.uboriIn 0x02 f false (fun s => s.heartbeatIn f.arg))

/-- PAIR_HB_OUT_TOGGLE: every 50 µs in RUN at shed level 5 or below while the pair engine runs; else the output is low. -/
def execPairHbOutToggle (s : State) : Out :=
  .next (s.modPair (fun p => { p with
    hbOut := s.sec.sys == .run && decide (s.shed ≤ 5) && p.rec_.kind != 0 && !s.rdB SB_WIRE.HB_OUT_OFF && !p.hbOut }))

/-- PAIR_HB_IN_EDGE. -/
def execPairHbInEdge (s : State) : Out := .next ((s.modPair (fun p => { p with hbIn := some s.now })).wr PAIR_STAT.HB_ALIVE 1)

/-- HOLD: suspicion is suspended while this side's debug fuse is intact (R544, R578). -/
def execHoldFrame (f : UboriFrame) (s : State) : Out :=
  .next (s.uboriIn 0x0B f true (fun s => if s.dbgClosed then s else s.wr PAIR_STAT.HOLD 1))

/-- RELEASE. -/
def execReleaseFrame (f : UboriFrame) (s : State) : Out := .next (s.uboriIn 0x0C f true (fun s => s.wr PAIR_STAT.HOLD 0))

/-- Whether a frame is the CTL of a number. -/
def isCtl (f : UboriFrame) (n : Nat) : Bool := nbits f.arg.toNat 0 8 == n

/-- CTL_FAILOVER: the partner gives its role up; the check of R544 starts at once, with the witness or at once without one. -/
def execCtlFailover (f : UboriFrame) (s : State) : Out :=
  .next (s.uboriIn 0x0D f true (fun s =>
    if !isCtl f 1 || !((s.role == 2 || s.role == 4) && s.pstate == 3) then s
    else
      let s := s.modPair (fun p => { p with suspect := true })
      if s.hasWitness then s.askWitness 2 else s.failover))

/-! ### The witness and the fence (R545, R546) -/

/-- WITNESS_RENEW: the serving side renews its lease; a side that wants to serve claims it. -/
def execWitnessRenew (s : State) : Out :=
  .next (if s.role = 1 ∨ s.role = 3 then s.askWitness 1 else if s.pair.claim then s.askWitness 2 else s)

/-- Bytes 0 to 47 of a reply. -/
def witnessBytes (r : WitnessReply) : List Byte :=
  leBytes 4 r.magic.toNat ++ [if r.grant then 1 else 2, 0, 0, 0] ++ leBytes 8 r.pairId.toNat ++ leBytes 16 r.holder.toNat ++
    leBytes 8 r.gen.toNat ++ leBytes 8 r.reqNo.toNat

/-- Whether a reply answers the last request and its tag is good. -/
def State.witnessOk (s : State) (r : WitnessReply) : Bool :=
  r.magic == 0x57424F55 && r.pairId == s.pair.rec_.pairId && r.reqNo == s.pair.reqNo && s.pair.reqAt.isSome &&
    decide (leBytes 16 r.tag.toNat = kmac256 s.sec.set.witnessKey (witnessBytes r) [] 16)

/-- A GRANT. -/
def State.granted (s : State) : State :=
  let s := (s.wr PAIR_STAT.LEASE 1).modPair (fun p => { p with grantAt := some s.now, reqAt := none })
  if s.pair.reqOp = 1 then
    if s.pair.fenced then ((s.modPair (fun p => { p with fenced := false })).wr PAIR_STAT.STATE 4).modN (fun e => { e with silent := false })
    else s
  else if s.pair.suspect then s.failover
  else if s.pair.claim then
    ((s.wr PAIR_STAT.ROLE (if s.pair.rec_.kind = 2 then 3 else 1)).modPair (fun p => { p with claim := false })).takeIdentity
  else s

/-- A DENY: the lease is held by the partner. -/
def State.denied (s : State) : State :=
  let s := (s.wr PAIR_STAT.LEASE 0).modPair (fun p => { p with reqAt := none })
  if s.pair.reqOp = 1 then
    ((s.modPair (fun p => { p with fenced := false })).wr PAIR_STAT.ROLE 2).outOfSync.modN (fun e => { e with silent := true })
  else if s.pair.suspect then (s.wr PAIR_STAT.STATE 4).modPair (fun p => { p with suspect := false })
  else s

/-- WITNESS_REPLY: a reply that does not answer the last request, or whose tag is wrong, is dropped. -/
def execWitnessReply (r : WitnessReply) (s : State) : Out :=
  .next (if !s.witnessOk r then s else if s.pair.reqOp = 3 then s.modPair (fun p => { p with reqAt := none })
    else if r.grant then s.granted else s.denied)

/-- FENCE: an Active side with neither a heartbeat nor a GRANT for 3 ms takes E0 and E1 down and holds its queues. Without a
witness no lease exists that could lapse. -/
def execFence (s : State) : Out :=
  .next (if s.role ≠ 1 ∨ !s.hasWitness ∨ s.pair.fenced then s
    else (((s.outOfSync.wr PAIR_STAT.STATE 5).wr PAIR_STAT.LEASE 0).modPair (fun p => { p with fenced := true, grantAt := none })).modN
      (fun e => { e with silent := true }))

/-! ### PAIR_CTL (R538, R549, R553) -/

/-- FULL_RESYNC: a pass over every page of every partition is cut, and ships. -/
def State.fullResync (s : State) : State :=
  if (s.role = 1 ∨ s.role = 3) ∧ s.rdB PAIR_STAT.LINK ∧ (s.pstate = 2 ∨ s.pstate = 4) then
    ((s.wr PAIR_STAT.STATE 2).modPair (fun p => { p with full := true })).cut
  else s

/-- FULL_RESYNC. -/
def execFullResync (s : State) : Out := .next s.fullResync

/-- CKPT_NOW. -/
def State.ckptNow (s : State) : State := s.cut.twinCompare

/-- CKPT_NOW. -/
def execCkptNow (s : State) : Out := .next s.ckptNow

/-- RESYNC: a serving side starts a full resynchronisation; the other side asks for it with its state. -/
def State.resync (s : State) : State :=
  if s.role = 1 ∨ s.role = 3 then (if s.rdB PAIR_STAT.LINK then s.startResync else s)
  else if s.role = 2 ∨ s.role = 4 then (s.wr PAIR_STAT.STATE 4).sendHeartbeat
  else s

/-- RESYNC. -/
def execResync (s : State) : Out := .next s.resync

/-- RESTART: divergence ends, and this side is the source of a full resynchronisation. -/
def State.restart (s : State) : State :=
  if !s.pair.divergent then s
  else (((s.modPair (fun p => { p with divergent := false, mismatches := 0, full := true, sig := none, psig := none })).wr
    PAIR_STAT.ROLE 3).wr PAIR_STAT.STATE 2).takeIdentity

/-- RESTART. -/
def execRestart (s : State) : Out := .next s.restart

/-- RELINQUISH: the Active side cuts, waits for completion, releases the lease and sends CTL FAILOVER. -/
def State.relinquish (s : State) : State :=
  if s.role = 1 ∧ s.pstate = 3 then (s.modPair (fun p => { p with giveUp := true })).cut else s

/-- RELINQUISH. -/
def execRelinquish (s : State) : Out := .next s.relinquish

/-- A write of PAIR_CTL.CMD. -/
def State.pairCtl (s : State) (cmd : Nat) : State :=
  if cmd = 1 then s.ckptNow else if cmd = 2 then s.resync else if cmd = 3 then s.restart else if cmd = 4 then s.relinquish else s

end Sys2Proof.Machine
end

