-- ==== Sys2Proof/Machine/Shed.lean ====
section
/-! DEFINITION. The shed ladder (R504 to R511) and deep sleep (R512, R513, R607, R626 to R628). -/

namespace Sys2Proof.Machine

/-- Change the power block. -/
def State.modPwr (s : State) (f : PwrSt → PwrSt) : State := { s with pwr := f s.pwr }

/-! ### Demands (R505) -/

/-- The demand of a source, as SHED_SRC shows it. -/
def State.demandOf (s : State) (src : Nat) : Nat := nbits (s.rd SHED_SRC.DEMANDS) (3 * src) 3

/-- Set the demand of a source. -/
def State.demand (s : State) (src lvl : Nat) : State :=
  let v := s.rd SHED_SRC.DEMANDS
  s.wr SHED_SRC.DEMANDS (v - nbits v (3 * src) 3 * 2 ^ (3 * src) + lvl % 8 * 2 ^ (3 * src))

/-- The highest demand. -/
def State.topDemand (s : State) : Nat := (List.range 10).foldl (fun k i => max k (s.demandOf i)) 0

/-! ### Levels (R504, R509) -/

/-- Every queue stops: open groups close, and a queue with nothing in flight compares its window (R208, R526). -/
def State.queuesStop (s : State) : State :=
  (fins 32).foldl (fun s c =>
    if s.lead c = c ∧ (s.cp c).run ≠ .inReset then (s.modVq c VQueue.close).stopCompare c else s) s

/-- Near memory and the Cellar enter self-refresh, or leave it; then write levelling waits for the first slots (R344). -/
def State.selfRefresh (s : State) (on : Bool) : State :=
  let s := (fins 16).foldl (fun s (n : Fin 16) => s.wrB (NM_STAT.SELFREF n) on) s
  let s := (fins 8).foldl (fun s (n : Fin 8) => s.wrB (CC_STAT.SELFREF n) on) s
  if on then s else s.modM (fun m => { m with wlPend := 0xFFFF, acts := [], openRow := [] })

/-- The rails of shed level 7 are off: memory, the CPs and what they ran are lost (R504). -/
def State.powerLost (s : State) : State :=
  let s := { s with
    mem := [], tags := [], errs := [], cps := Vector.replicate 32 Cp.reset
    mst := { s.mst with tlb := [], migr := [], samples := [], wb := [] }
    evt := { s.evt with dark := true } }
  let s := (fins 16).foldl (fun s p => s.modPart p (fun x => { x with lit := 0, slots := [] })) s
  let s := s.modPwr (fun w => { w with rails := 0, vrrdy := 0, vrrdyLow := 0, vrrdyLong := 0, final := false })
  (s.dropShip.modPair (fun p => { p with due := false, staging := none })).linkDown

/-- The preserve steps of shed level 6. A Standby or Follower sends its level in place of steps 2 and 5 (R509, R626). -/
def State.preserve (s : State) : State :=
  let s := s.queuesStop
  let s :=
    if s.role = 1 ∧ s.pstate = 3 then (s.cut).modPwr (fun w => { w with final := true })
    else if s.role = 1 ∨ s.role = 3 then s.signalFailover
    else if s.role = 2 ∨ s.role = 4 then (s.sendHeartbeat).wr PAIR_STAT.STATE 4
    else s
  let s := (fins 32).foldl (fun s c =>
    if s.lead c = c ∧ (s.cp c).run = .running then s.checkpointWith State.bucket c else s) s
  s.selfRefresh true

/-- What entering level k does, beside the gates that other rules read from the level. -/
def State.enterLevel (s : State) (k : Nat) : State :=
  if k = 2 then s.detLost 1 (fins 32)
  else if k = 3 then
    (fins 16).foldl (fun s p =>
      if (s.part p).rcd.any (·.shadow) ∧ bitOf s.pwr.unshadow p.val then
        ((s.cpsOf p).foldl (fun s c => s.stopCompare c) s).wr (SHD_STAT.UNSHADOWED p) 1
      else s) s
  else if k = 4 then
    let s := (fins 64).foldl (fun s n => if 2 ≤ n.val % 4 then s.parkPipe n.val true else s) s
    (fins 32).foldl (fun s c => if s.lead c = c ∧ s.shedHolds c then s.stopCompare c else s) s
  else if k = 5 then s.queuesStop
  else if k = 6 then s.breakApply.preserve
  else if k = 7 then s.powerLost
  else s

/-- What leaving level k does. -/
def State.leaveLevel (s : State) (k : Nat) : State :=
  if k = 6 then
    let s := s.selfRefresh false
    let s := (fins 32).foldl (fun s c => s.modCp c (fun p =>
      { p with wdg := { p.wdg with cnt := if p.wdg.cnt.toNat < p.wdg.grace.toNat then p.wdg.grace else p.wdg.cnt } })) s
    if s.role = 1 ∨ s.role = 3 then
      if s.pair.lost then
        ((s.wr PAIR_STAT.ROLE (if s.role = 1 then 2 else 4)).outOfSync.modPair (fun p => { p with lost := false })).modN
          (fun e => { e with silent := true })
      else if s.pstate = 3 then s.outOfSync else s
    else s
  else if k = 1 then s.calResume
  else s

/-- The change of level: SHED_LEVEL, the effects in ladder order, pending bit 9 in every running CP, and the line of the new
level (R510). A trip goes to level 7 without the steps of level 6 (R502); entry to SLEEP stops at levels 6 and 7 (R617). -/
def State.shedTo (s : State) (n : Nat) (trip : Bool) : State :=
  let old := s.shed
  if n = old then s
  else
    let s := (s.wr SHED_LEVEL.LEVEL n).wr SHED_LEVEL.PEAK (max (s.rd SHED_LEVEL.PEAK) n)
    let s := if 6 ≤ n ∧ s.rd PWR_SLEEP.STATE = 1 then
        ((((s.wr PWR_SLEEP.STATE 3).wr PWR_SLEEP.RESULT 1).wr PWR_SLEEP.REQ 0).modPwr (fun w => { w with wakeLatch := false, agreed := false })).modPair
          (fun p => { p with sleepAsk := false })
      else s
    let s := (fins 32).foldl (fun s c => if s.lead c = c ∧ ((s.cp c).run = .running ∨ (s.cp c).run = .halted) then s.irq c 9 else s) s
    let s :=
      if old < n then (((List.range 8).filter (fun k => decide (old < k ∧ k ≤ n) && !(trip && k == 6))).foldl State.enterLevel s)
      else s.leaveLevel old
    s.fire (0x204 + n)

/-- The level rises at once to the highest demand: in RUN; in SLEEP only a demand of 7 acts, and the part is then in RUN at shed
level 7 (R505, R513, R614). -/
def State.settleShed (s : State) : State :=
  let d := s.topDemand
  if d ≤ s.shed then s
  else if s.sec.sys = .run then s.shedTo d false
  else if s.sec.sys = .sleep ∧ d = 7 then
    ((s.modSec (fun e => { e with sys := .run })).wr SYS_STATE.LAST 5).shedTo 7 true
  else s

/-- The demands as they stand, and that of an event at SHED_REQ for its instant (R422, R505). -/
def State.shedRise (s : State) : State :=
  let l := s.evt.shedReq.toNat
  let s := (s.modE (fun e => { e with shedReq := 0 })).settleShed
  if s.shed < l ∧ s.sec.sys = .run then s.shedTo l false else s

/-- SHED_LEVEL_RISE. -/
def execShedLevelRise (s : State) : Out := .next s.shedRise

/-- Whether every source meets the return condition of level k, so far as the last samples show (R506). -/
def State.returns (s : State) (k : Nat) : Bool :=
  let m := s.pwr.mon
  let n := m.length
  let r := (vecAt? s.pwr.ladder (k - 1)).getD ⟨0, 0, 0, 0⟩
  let sag (i : Nat) : Bool := decide (m.foldl (fun a x => a + ((vecAt? x.sag i).getD 0).toNat) 0 ≤ (r.sag - r.ret) * n)
  let vin := s.rdB SB_WIRE.VINMON_OPEN || decide (930 * n ≤ m.foldl (fun a x => a + x.vin.toNat) 0)
  let cool := match s.pwr.temps with
    | some t => (List.range 16).all (fun i => decide (((vecAt? t i).getD 0).toNat ≤ 105))
    | none => true
  (List.range 5).all sag && vin && cool && decide (s.demandOf 7 < k) && decide (s.demandOf 8 < k) && decide (s.demandOf 9 < k)

/-- SHED_LEVEL_FALL: every source has held its return condition for EXIT_MS; the steps of level 6 complete first (R506,
R511). -/
def execShedLevelFall (s : State) : Out :=
  let k := s.shed
  .next (if k = 0 ∨ k = 7 ∨ s.sec.sys ≠ .run ∨ !s.returns k ∨ (k = 6 ∧ s.pwr.final) then s else s.shedTo (k - 1) false)

/-- FINAL_CHECKPOINT_ABANDON: 2.5 ms after shed level 6 was entered (R509). -/
def execFinalCheckpointAbandon (s : State) : Out :=
  .next (if s.pwr.final then
      ((s.modPwr (fun w => { w with final := false })).dropShip.modPair (fun p => { p with due := false })).signalFailover
    else s)

/-- A write of SHED_FLOOR.LEVEL; 6 and 7 act as 5 (R505, R514). -/
def State.setFloor (s : State) (l : Nat) : State := ((s.wr SHED_FLOOR.LEVEL l).demand 9 (min l 5)).settleShed

/-- SHED_FLOOR_WRITE. -/
def execShedFloorWrite (level : BitVec 3) (s : State) : Out := .next (s.setFloor level.toNat)

/-! ### Deep sleep (R512, R513) -/

/-- The RESULT with which a request is refused; 0 where the part itself accepts it. -/
def State.sleepBar (s : State) : Nat :=
  if 6 ≤ s.shed then 1 else if s.rd STRUCT_LIVE.STATE = 1 then 2 else if s.rd UPD_STAT.STATE = 5 then 3 else 0

/-- A refusal. -/
def State.sleepRefuse (s : State) (r : Nat) : State :=
  (((s.wr PWR_SLEEP.STATE 3).wr PWR_SLEEP.RESULT r).wr PWR_SLEEP.REQ 0).modPair (fun p => { p with sleepAsk := false })

/-- A write of 1 to PWR_SLEEP.REQ: a refusal, or entry begins; a side in sync asks its partner first, after a checkpoint or
compare (R512, R628). -/
def State.sleepReq (s : State) : State :=
  if s.sec.sys ≠ .run ∨ s.rd PWR_SLEEP.STATE = 1 then s
  else if s.sleepBar ≠ 0 then s.sleepRefuse s.sleepBar
  else
    let s := ((s.wr PWR_SLEEP.STATE 1).wr PWR_SLEEP.RESULT 0).wr PWR_SLEEP.REQ 1
    if s.pstate ≠ 3 ∨ !s.rdB PAIR_STAT.LINK then s.modPwr (fun w => { w with agreed := true })
    else if s.role = 2 then s.ctl 2
    else (s.modPair (fun p => { p with sleepAsk := true })).cut

/-- SLEEP_REQUEST: a write of PWR_SLEEP with REQ at 1. -/
def execSleepRequest (sramRet : Bool) (s : State) : Out := .next ((s.wrB PWR_SLEEP.SRAM_RET sramRet).sleepReq)

/-- CTL_SLEEP_REQ: the partner asks; a side in sync that would itself accept answers SLEEP_ACK and enters too. -/
def execCtlSleepReq (f : UboriFrame) (s : State) : Out :=
  .next (s.uboriIn 0x0D f true (fun s =>
    if !isCtl f 2 then s
    else if s.pstate = 3 ∧ s.sleepBar = 0 ∧ s.sec.sys = .run then
      ((((s.ctl 3).wr PWR_SLEEP.STATE 1).wr PWR_SLEEP.RESULT 0).wr PWR_SLEEP.REQ 1).modPwr (fun w => { w with agreed := true })
    else s.ctl 4))

/-- CTL_SLEEP_ACK: both sides enter. -/
def execCtlSleepAck (f : UboriFrame) (s : State) : Out :=
  .next (s.uboriIn 0x0D f true (fun s =>
    if isCtl f 3 ∧ s.rd PWR_SLEEP.STATE = 1 then s.modPwr (fun w => { w with agreed := true }) else s))

/-- CTL_SLEEP_REFUSE: the request is refused with RESULT 4. -/
def execCtlSleepRefuse (f : UboriFrame) (s : State) : Out :=
  .next (s.uboriIn 0x0D f true (fun s => if isCtl f 4 ∧ s.rd PWR_SLEEP.STATE = 1 then s.sleepRefuse 4 else s))

/-- Steps 3 and 4 of the entry: self-refresh and rails off; without SRAM_RET the CPs and the scratchpad lose their state. -/
def State.darken (s : State) : State :=
  let s := (s.selfRefresh true).modE (fun e => { e with dark := true })
  if s.rdB PWR_SLEEP.SRAM_RET then s
  else { s with
                cps := s.cps.map (fun o => { Cp.reset with
                  hard := o.hard, lcause := o.lcause, lcode := o.lcode, wdgReset := o.wdgReset, wdg := { Wdg.reset with expired := o.wdg.expired } })
                mst := { s.mst with tlb := [] }
                mem := s.mem.filter (fun e => !(decide (spadBase ≤ e.1) && decide (e.1 < pramBase))),
                tags := s.tags.filter (fun e => !(decide (spadBase ≤ 16 * e.1) && decide (16 * e.1 < pramBase)))
                errs := s.errs.filter (fun e => !(decide (spadBase ≤ 8 * e.1) && decide (8 * e.1 < pramBase))) }

/-- Wake (R513): the entry is reversed. Without SRAM_RET the CPs are released at ENTRY with the state of R78. -/
def State.wakeUp (s : State) : State :=
  let real := !s.pwr.emu
  let s := ((s.modSec (fun e => { e with sys := .run })).wr SYS_STATE.LAST 5).wr PWR_SLEEP.REQ 0
  let s := s.modPwr (fun w => { w with emu := false, wakeLatch := false })
  let s := if real then
      let s := (s.selfRefresh false).modE (fun e => { e with dark := false })
      let s := if s.rdB PWR_SLEEP.SRAM_RET then s
        else (fins 32).foldl (fun s c => if s.lead c = c ∧ !bitOf (s.reg STRUCT_DRAINED.adr) (s.ptOf c) then s.releaseCp c else s) s
      (s.evt.on.map (fun e => (e.1 - EVT_SEL.adr 0) / 8)).foldl (fun s c => if c < 8385 then s.latchOut c else s) s
    else s
  let s := if s.pwr.agreed ∧ s.rdB PAIR_STAT.LINK then s.ctl 5 else s
  s.modPwr (fun w => { w with agreed := false })

/-- A wake event: in SLEEP the part wakes; during entry it waits until entry is complete (R513). -/
def State.wakeEvent (s : State) : State :=
  let s := s.modE (fun e => { e with wakeReq := false })
  if s.sec.sys = .sleep then s.wakeUp
  else if s.rd PWR_SLEEP.STATE = 1 then s.modPwr (fun w => { w with wakeLatch := true })
  else s

/-- SLEEP_ENTRY_COMPLETE: strips in flight have committed, no LOCK window is open and the partner has agreed; the part is in
SLEEP, emulated while a debugger is attached (R512, R607). -/
def execSleepEntryComplete (s : State) : Out :=
  .next (if s.sec.sys ≠ .run ∨ !s.entering ∨ !s.cutReady then s
    else
      let s := s.queuesStop
      let emu := s.rdB SEC_STAT.DBG_ATTACHED
      let s := ((s.wr PWR_SLEEP.STATE 0).wr SYS_STATE.LAST 4).modSec (fun e => { e with sys := .sleep })
      let s := s.modPwr (fun w => { w with emu := emu })
      let s := if emu then s else s.darken
      if s.pwr.wakeLatch then s.wakeUp else s)

/-- WAKE: a wake source. -/
def execWake (s : State) : Out := .next s.wakeEvent

/-- WAKE_TIMER_EXPIRY: line 0x270, and the part wakes. -/
def execWakeTimerExpiry (s : State) : Out :=
  .next (if s.sec.sys = .sleep ∧ s.rd PWR_WAKETMR.MS ≠ 0 then (s.fire 0x270).wakeEvent else s)

/-- CTL_WAKE: the partner woke. -/
def execCtlWake (f : UboriFrame) (s : State) : Out :=
  .next (s.uboriIn 0x0D f true (fun s => if isCtl f 5 then s.wakeEvent else s))

end Sys2Proof.Machine
end

