-- ==== Sys2Proof/Machine/Power.lean ====
section
/-! DEFINITION. Power delivery (R487 to R503), the monitors (R505, R508) and thermal protection. -/

namespace Sys2Proof.Machine

/-- One of four by quadrant. -/
def ofQuad {α : Type} (v : Vector α 4) (q : QuadId) : α := v[q.val]

/-! ### Clocks and setpoints (R491) -/

/-- Whether a VRRDY input was high before its rail was enabled, and is ignored (R645). -/
def State.vrrdyBad (s : State) (q : QuadId) : Bool := bitOf (BitVec.ofNat 4 (s.rd SB_WIRE.VRRDY_BAD)) q.val

/-- The clock of a quadrant in 25 MHz units: the lowest of its limits, 500 MHz at shed level 5 and above (R491, R500, R503,
R504). -/
def State.clock (s : State) (q : QuadId) : Nat :=
  if 5 ≤ s.shed then 20
  else min (min (ofQuad s.pwr.target q) (ofQuad s.pwr.setClk q)) (min (ofQuad s.pwr.pwrClk q) (ofQuad s.pwr.thermClk q))

/-- The logical CPs of partitions with a cluster in a quadrant (R622). -/
def State.cpsOfQuad (s : State) (q : QuadId) : List CpId :=
  (fins 32).filter (fun c => match s.cpPart c with
    | some p => (List.range 4).any (fun i => (s.part p).hasCl (4 * q.val + i)) && decide (s.lead c = c)
    | none => false)

/-- The setpoint of a clock in mV: the fused entry within 25 mV of the nominal line, plus the trim, within the limits of the
rail (R491). -/
def State.setpoint (s : State) (q : QuadId) (clk : Nat) : Nat :=
  let c := max 32 (min clk Config.fusedCeil)
  let nom := 650 + (25 * c - 800) / 12
  let e := max (nom - 25) (min (nom + 25) (Config.fusedSetpoint q.val c))
  let v : Int := e + sextN 6 (s.rd (PWR_VOFF.OFFS q))
  (max 650 (min 850 v)).toNat

/-- AVSBUS_SETPOINT_WRITE for a clock: acknowledged, a raise is in force for the clock after CLOCK_RAISE, and a lower clock holds
at once; the third failure in a row keeps the setpoint and limits the clock to it (R491, R622). -/
def execAvsbusSetpointWrite (q : QuadId) (mhz25 : BitVec 7) (acked : Bool) (s : State) : Out :=
  let c := mhz25.toNat
  .next (if acked then
      let up := decide (ofQuad s.pwr.setClk q < c)
      (s.wr (LA_STAT.VSET_MV q) (s.setpoint q c)).modPwr (fun w => { w with
        avsFails := vecUpd w.avsFails q (fun _ => 0)
        raise := vecUpd w.raise q (fun _ => if up then some c else none)
        setClk := if up then w.setClk else vecUpd w.setClk q (fun _ => c) })
    else if ofQuad s.pwr.avsFails q + 1 < 3 then s.modPwr (fun w => { w with avsFails := vecUpd w.avsFails q (· + 1) })
    else
      let s := (s.modPwr (fun w => { w with avsFails := vecUpd w.avsFails q (fun _ => 0), raise := vecUpd w.raise q (fun _ => none) })).bucket 20 1
      if ofQuad s.pwr.setClk q < c then s.detLost 4 (s.cpsOfQuad q) else s)

/-- CLOCK_RAISE: 20 µs after the acknowledged raise, with VRRDY high. -/
def execClockRaise (q : QuadId) (s : State) : Out :=
  .next (match ofQuad s.pwr.raise q with
    | some c =>
      if bitOf s.pwr.vrrdy q.val || s.vrrdyBad q then
        s.modPwr (fun w => { w with setClk := vecUpd w.setClk q (fun _ => c), raise := vecUpd w.raise q (fun _ => none) })
      else s
    | none => s)

/-! ### Regulators (R492 to R494) -/

/-- The demand of the VRRDY inputs. -/
def State.vrrdyDemand (s : State) : State :=
  (s.demand 7 (if s.pwr.vrrdyLong ≠ 0 then 7 else if s.pwr.vrrdyLow ≠ 0 then 6 else 0)).settleShed

/-- VRRDY_FALL after the rail came up. -/
def execVrrdyFall (q : QuadId) (s : State) : Out :=
  .next (if !bitOf s.pwr.vrrdy q.val then s
    else
      let s := s.modPwr (fun w => { w with vrrdy := setBitOf w.vrrdy q.val false })
      if 8 + q.val < s.pwr.rails ∧ !s.vrrdyBad q then
        (s.modPwr (fun w => { w with vrrdyLow := setBitOf w.vrrdyLow q.val true })).vrrdyDemand
      else s)

/-- VRRDY_LOW_TIMEOUT: low for 100 µs. -/
def execVrrdyLowTimeout (q : QuadId) (s : State) : Out :=
  .next (if bitOf s.pwr.vrrdyLow q.val then
      (s.modPwr (fun w => { w with vrrdyLong := setBitOf w.vrrdyLong q.val true })).vrrdyDemand
    else s)

/-- VRRDY_RISE: the level of the input; it matters once the rail is enabled, unless the input is ignored (R488, R492, R645). -/
def execVrrdyRise (q : QuadId) (s : State) : Out :=
  .next (let s := s.modPwr (fun w => { w with vrrdy := setBitOf w.vrrdy q.val true })
    if 8 + q.val < s.pwr.rails ∧ !s.vrrdyBad q then
      (s.modPwr (fun w => { w with
        vrrdyLow := setBitOf w.vrrdyLow q.val false, vrrdyLong := setBitOf w.vrrdyLong q.val false })).vrrdyDemand
    else s)

/-- REMOTE_SENSE_OPEN: from now to cold reset the quadrant uses its on-die sense; a warm reset clears SENSE_OPEN alone (R493, R516). -/
def execRemoteSenseOpen (q : QuadId) (s : State) : Out :=
  let v := setBitOf (BitVec.ofNat 4 (s.rd PWR_STAT.SENSE_OPEN)) q.val true
  .next (if bitOf s.pwr.onDie q.val then s
    else ((s.wr PWR_STAT.SENSE_OPEN v.toNat).modPwr (fun w => { w with onDie := setBitOf w.onDie q.val true })).bucket 20 1)

/-- GAIN after a comparison of READ_IOUT in mA with a mean estimate (R494). -/
def gainStep (gain iout mean : Nat) : Nat :=
  let ratio : Int := (iout * 4096 / mean : Nat)
  (max 2048 (min 8192 ((gain : Int) + (ratio - gain) / 8))).toNat

/-- The mean estimate of a quadrant in mA since the last poll; 0 where there is none. -/
def State.estMean (s : State) (q : QuadId) : Nat := ofQuad s.pwr.estSum q / ofQuad s.pwr.estN q

/-- A new GAIN from a READ_IOUT in mA. A mean of 0 gives no ratio: GAIN is then a free value within its limits. -/
def State.calibrate (s : State) (q : QuadId) (iout : Nat) : State :=
  if 6 ≤ s.shed then s
  else if s.estMean q = 0 then
    let r := s.fresh
    r.2.wr (EST.GAIN q) (2048 + r.1.toNat % 6145)
  else s.wr (EST.GAIN q) (gainStep (s.rd (EST.GAIN q)) iout (s.estMean q))

/-- The poll of one quadrant. -/
def State.pollQuad (s : State) (q : QuadId) (iout : Nat) (good : Bool) : State :=
  if good then ((s.wr (EST.IOUT q) iout).wr (EST.STALE q) 0).calibrate q (100 * iout) else s.wr (EST.STALE q) 1

/-- TELEMETRY_POLL: READ_IOUT and GAIN of each quadrant; with SB6 disabled GAIN is frozen (R494, R645). -/
def execTelemetryPoll (t : Telemetry) (s : State) : Out :=
  let s := (fins 4).foldl (fun s (q : Fin 4) =>
    s.pollQuad q (t.iout[q.val]).toNat ((t.ok[q.val]) && !(t.fault[q.val]) && !bitOf (s.reg SB_WIRE.adr) 6)) s
  .next (s.modPwr (fun w => { w with estSum := Vector.replicate 4 0, estN := Vector.replicate 4 0 }))

/-- ESTIMATOR_UPDATE: the sum of the activity-weighted currents of a quadrant in mA, before GAIN (R494). -/
def execEstimatorUpdate (q : QuadId) (sum : BitVec 32) (s : State) : Out :=
  .next (s.modPwr (fun w => { w with estSum := vecUpd w.estSum q (· + sum.toNat), estN := vecUpd w.estN q (· + 1) }))

/-! ### Droop (R499) -/

/-- DROOP_TRIP: the clock stretches; each stretch counts once. -/
def State.droop (s : State) (q : QuadId) : State :=
  if s.rdB (DROOP_STAT.ACTIVE q) ∨ s.pwr.rails = 0 then s
  else (((s.cnt (DROOP_STAT.COUNT q) 1).wr (DROOP_STAT.ACTIVE q) 1).fire (0x200 + q.val)).bucket 18 1

/-- DROOP_TRIP. -/
def execDroopTrip (q : QuadId) (s : State) : Out := .next (s.droop q)

/-- DROOP_HOLD_END. -/
def execDroopHoldEnd (q : QuadId) (s : State) : Out := .next (s.wr (DROOP_STAT.ACTIVE q) 0)

/-! ### The power limit (R500) -/

/-- The newest n estimates: their sum, and how many there are. -/
def lastWatts : List (Nat × Nat) → Nat → Nat × Nat
  | [], _ => (0, 0)
  | (w, k) :: l, n =>
    if n ≤ k then (w * n, n)
    else
      let r := lastWatts l (n - k)
      (w * k + r.1, k + r.2)

/-- Keep the newest n estimates. -/
def cutWatts : List (Nat × Nat) → Nat → List (Nat × Nat)
  | [], _ => []
  | (w, k) :: l, n => if n ≤ k then [(w, n)] else (w, k) :: cutWatts l (n - k)

/-- One step of 25 MHz down in every quadrant under the power controller; not below 800 MHz. -/
def State.pwrDown (s : State) : State :=
  (fins 4).foldl (fun s (q : Fin 4) =>
    let c := min (ofQuad s.pwr.target q) (ofQuad s.pwr.pwrClk q)
    if c ≤ 32 then s
    else (s.modPwr (fun w => { w with pwrClk := vecUpd w.pwrClk q (fun _ => c - 1) })).detLost 2 (s.cpsOfQuad q)) s

/-- POWER_ESTIMATE: PKG_W and the average; excursions and the duty cap; the first step down when the average first exceeds
LIMIT_W. -/
def execPowerEstimate (watts : BitVec 12) (s : State) : Out :=
  let w := watts.toNat
  let lim := s.rd PWR_LIMIT.LIMIT_W
  let hist := match s.pwr.watts with
    | (v, k) :: l => if v = w then (v, k + 1) :: l else (w, 1) :: (v, k) :: l
    | [] => [(w, 1)]
  let hist := cutWatts hist 4095000
  let avg := lastWatts hist (1000 * s.rd PWR_LIMIT.WIN_MS)
  let short := lastWatts hist 100000
  let above := decide (lim * avg.2 < avg.1)
  let first := above && !s.pwr.pwrOver
  let s := (s.wr PWR_STAT.PKG_W w).wr PWR_STAT.AVG_W (avg.1 / avg.2)
  let s :=
    if lim < w then
      let s := s.modPwr (fun x => { x with excUs := x.excUs + 1 })
      if 1600 < w ∨ !s.pwr.excOk ∨ 10000 ≤ s.pwr.excUs then s.wr PWR_STAT.CAPPED 1 else s
    else
      (s.wr PWR_STAT.CAPPED 0).modPwr (fun x => { x with
        excUs := 0, excOk := (x.excOk && x.excUs == 0) || decide (short.1 ≤ lim * short.2) })
  let s := s.modPwr (fun x => { x with watts := hist, pwrOver := above })
  .next (if first ∧ s.sec.sys = .run then s.pwrDown else s)

/-- POWER_CLOCK_STEP_DOWN: another 100 µs with the average above LIMIT_W. -/
def execPowerClockStepDown (s : State) : Out := .next (if s.pwr.pwrOver ∧ s.sec.sys = .run then s.pwrDown else s)

/-- POWER_CLOCK_STEP_UP: 1 ms with the average at or below 97 % of LIMIT_W; up to the targets. -/
def execPowerClockStepUp (s : State) : Out :=
  let avg := lastWatts s.pwr.watts (1000 * s.rd PWR_LIMIT.WIN_MS)
  .next (if 100 * avg.1 ≤ 97 * s.rd PWR_LIMIT.LIMIT_W * avg.2 then
      (fins 4).foldl (fun s (q : Fin 4) =>
        if ofQuad s.pwr.pwrClk q < ofQuad s.pwr.target q then
          s.modPwr (fun w => { w with pwrClk := vecUpd w.pwrClk q (· + 1) })
        else s) s
    else s)

/-- EXCURSION_LIMIT: an excursion reaches 10 ms. -/
def execExcursionLimit (s : State) : Out :=
  .next (if s.rd PWR_LIMIT.LIMIT_W < s.rd PWR_STAT.PKG_W then s.wr PWR_STAT.CAPPED 1 else s)

/-! ### Thermal (R501, R502, R615) -/

/-- THROTTLE_C and HYST_C as they act (R515). -/
def State.throttleC (s : State) : Nat :=
  let v := s.rd THERM_CFG.THROTTLE_C
  if 60 ≤ v ∧ v ≤ 100 then v else 100

/-- HYST_C as it acts. -/
def State.hystC (s : State) : Nat :=
  let v := s.rd THERM_CFG.HYST_C
  if 1 ≤ v ∧ v ≤ 10 then v else 3

/-- The highest of sensors in a conversion. -/
def hottest (t : Vector (BitVec 8) 20) (lo n : Nat) : Nat :=
  (List.range n).foldl (fun m i => max m ((vecAt? t (lo + i)).getD 0).toNat) 0

/-- A throttled quadrant's clock falls by 25 MHz, not below 800 MHz (R501, R503). -/
def State.thermDown (s : State) (q : QuadId) (c : Nat) : State :=
  if c ≤ 32 then s.modPwr (fun w => { w with thermClk := vecUpd w.thermClk q (fun _ => 32) })
  else (s.modPwr (fun w => { w with thermClk := vecUpd w.thermClk q (fun _ => c - 1) })).detLost 3 (s.cpsOfQuad q)

/-- Entry of a quadrant into throttling. -/
def State.throttle (s : State) (q : QuadId) : State :=
  let c := min (min (ofQuad s.pwr.target q) (ofQuad s.pwr.setClk q)) (ofQuad s.pwr.pwrClk q)
  let s := (s.modPwr (fun w => { w with throttled := setBitOf w.throttled q.val true })).thermDown q c
  (((s.wr THERM_STAT.THROTTLING 1).cnt THERM_STAT.ENTRIES 1).fire 0x20C).bucket 19 1

/-- A thermal trip: THERMTRIP_L low, TRIPPED, shed level 7 at once; outside RUN the rails that level 7 turns off are turned
off. -/
def State.tripOff (s : State) : State :=
  let s := ((s.wr THERM_STAT.TRIPPED 1).modPwr (fun w => { w with trip := true })).demand 6 7
  if s.sec.sys = .run then s.shedTo 7 true
  else if s.sec.sys = .sleep then s.settleShed
  else s.modPwr (fun w => { w with rails := 0, vrrdy := 0 })

/-- THERMAL_CONVERSION of the 20 sensors. INJ_THERM makes a sensor read 101 °C. -/
def execThermalConversion (temps : Vector (BitVec 8) 20) (s : State) : Out :=
  if s.sec.sys = .off ∨ s.sec.sys = .standby then .next s
  else
    let r := (fins 20).foldl (fun (r : Vector (BitVec 8) 20 × State) (i : Fin 20) =>
      let q := r.2.inject 0x3A i.val
      (if q.1 then r.1.set i.val 101 i.isLt else r.1, q.2)) (temps, s)
    let t := r.1
    let top := hottest t 0 16
    let s := (r.2.wr THERM_STAT.TJ_MAX top).wr THERM_STAT.TLID (hottest t 16 4)
    let s := (fins 4).foldl (fun s (q : Fin 4) => s.wr (THERM_Q.TJ q) (hottest t (4 * q.val) 4)) s
    let s := (s.modPwr (fun w => { w with temps := some t, trip := w.trip && decide (95 < top) })).wrB THERM_STAT.HOT110 (decide (110 ≤ top))
    let s := if s.sec.sys = .run then
        (fins 4).foldl (fun s (q : Fin 4) =>
          if !bitOf s.pwr.throttled q.val ∧ s.throttleC ≤ hottest t (4 * q.val) 4 then s.throttle q else s) s
      else s
    .next (if 115 ≤ top then s.tripOff
      else (s.demand 6 (if s.pwr.trip then 7 else if 110 ≤ top then 5 else 0)).settleShed)

/-- THROTTLE_STEP_DOWN: another 100 µs with a sensor at THROTTLE_C or more. -/
def execThrottleStepDown (q : QuadId) (s : State) : Out :=
  .next (match s.pwr.temps with
    | some t =>
      if bitOf s.pwr.throttled q.val ∧ s.throttleC ≤ hottest t (4 * q.val) 4 then s.thermDown q (ofQuad s.pwr.thermClk q) else s
    | none => s)

/-- THROTTLE_STEP_UP: 1 ms with every sensor at THROTTLE_C − HYST_C or less; the quadrant leaves throttling at its target. -/
def execThrottleStepUp (q : QuadId) (s : State) : Out :=
  .next (match s.pwr.temps with
    | some t =>
      if bitOf s.pwr.throttled q.val ∧ hottest t (4 * q.val) 4 + s.hystC ≤ s.throttleC then
        let c := ofQuad s.pwr.thermClk q + 1
        if c < ofQuad s.pwr.target q then s.modPwr (fun w => { w with thermClk := vecUpd w.thermClk q (fun _ => c) })
        else
          let s := s.modPwr (fun w => { w with
            thermClk := vecUpd w.thermClk q (fun _ => 80), throttled := setBitOf w.throttled q.val false })
          s.wrB THERM_STAT.THROTTLING (s.pwr.throttled != 0)
      else s
    | none => s)

/-! ### The monitors (R505, R508) -/

/-- The thresholds of VINMON in 0.1 %, µs and demand. -/
def vinRungs : List (Nat × Nat × Nat) := [(900, 20, 2), (850, 10, 5), (800, 5, 6), (700, 1, 7)]

/-- A threshold is past or not in this sample: the samples in a row. -/
def State.persist (s : State) (key : Nat) (past : Bool) : State :=
  s.modPwr (fun w => { w with pers := mapPut (fun _ => 0) w.pers key (if past then mapGet (fun _ => 0) w.pers key + 1 else 0) })

/-- Whether a condition has stood for a time in µs, from the first sample past it. -/
def State.stood (s : State) (key us : Nat) : Bool := decide (10 * us + 1 ≤ mapGet (fun _ => 0) s.pwr.pers key)

/-- One sample of the monitors: the average of five, every persistence, and the demands. -/
def State.monitor (s : State) (m : MonSample) : State :=
  let i := s.inject 0x39 (s.rd INJ_SEL.INST)
  let m := if i.1 then { m with vin := if m.vin.toNat < 700 then m.vin else 699 } else m
  let s := i.2.modPwr (fun w => { w with mon := (m :: w.mon).take 5 })
  let n := s.pwr.mon.length
  let sag (j : Nat) : Nat := s.pwr.mon.foldl (fun a x => a + ((vecAt? x.sag j).getD 0).toNat) 0
  let vin := s.pwr.mon.foldl (fun a x => a + x.vin.toNat) 0
  let s := s.wr VINMON_STAT.PCT (vin / n)
  let awake := s.sec.sys != .sleep || s.pwr.emu
  let s := (List.range 5).foldl (fun s j =>
    let s := (List.range 6).foldl (fun s k =>
      s.persist (8 * j + k + 1) (awake && decide (((vecAt? s.pwr.ladder k).getD ⟨0, 0, 0, 0⟩).sag * n ≤ sag j))) s
    s.demand j ((List.range 6).foldl (fun d k =>
      if s.stood (8 * j + k + 1) ((vecAt? s.pwr.ladder k).getD ⟨0, 0, 0, 0⟩).enter then k + 1 else d) 0)) s
  let shut := s.rdB SB_WIRE.VINMON_OPEN
  let s := vinRungs.foldl (fun s r => s.persist (40 + r.2.2) (!shut && decide (vin < r.1 * n))) s
  (s.demand 5 (vinRungs.foldl (fun d r => if s.stood (40 + r.2.2) r.2.1 then r.2.2 else d) 0)).settleShed

/-- MONITOR_SAMPLE. The monitors run from CONFIGURE on (R516). -/
def execMonitorSample (m : MonSample) (s : State) : Out :=
  .next (if s.sec.sys = .configure ∨ s.sec.sys = .run ∨ s.sec.sys = .sleep then s.monitor m else s)

end Sys2Proof.Machine
end

