-- ==== Sys2Proof/Machine/Boot.lean ====
section
/-! DEFINITION. The operating states (R613 to R616), resets (R557, R564), the cold start (R559), training (R344, R332), CONFIGURE
(R63) and recovery (R585). -/

namespace Sys2Proof.Machine

/-- The code of a state (R613); OFF is never read. -/
def Sys.code : Sys → Nat
  | .off => 0
  | .standby => 1
  | .boot => 2
  | .configure => 3
  | .run => 4
  | .sleep => 5
  | .recovery => 6

/-- The part enters a state. -/
def State.enterSys (s : State) (x : Sys) : State := (s.wr SYS_STATE.LAST s.sec.sys.code).modSec (fun e => { e with sys := x })

/-! ### Recovery (R585, R586) -/

/-- RECOVERY with a cause: every rail but VSER is off, M0 runs. -/
def State.recover (s : State) (cause : Nat) : State :=
  let s := (s.wr RST_CAUSE.RCAUSE cause).enterSys .recovery
  let s := s.modPwr (fun w => { w with rails := 0, vrrdy := 0, vrrdyLow := 0, vrrdyLong := 0 })
  let s := (s.wr (ETH_CFG.MODE 3) (if s.rdB SB_STRAP.M0RATE then 4 else 5)).wr (ETH_CFG.EN 3) 1
  (s.wr (SESS_STAT.STATE 0) 1).wr (SESS_CTL.EN 0) 1

/-! ### Cold start, steps 1 to 4 (R559) -/

/-- Step 2: the fuse words in order; a recovery cause, 0 where every word is decided (R560). -/
def State.readFuses (s : State) : Nat × State :=
  (List.range 21).foldl (fun (r : Nat × State) w =>
    if r.1 ≠ 0 then r
    else match r.2.fuse w with
      | .bad => (4, r.2.wr FUSE_STAT.WORD w)
      | .disagree => (3, r.2.wr FUSE_STAT.WORD w)
      | .value v weak brn =>
        let s := if weak then (r.2.wr FUSE_STAT.WEAK 1).wr FUSE_STAT.WORD w else r.2
        (0, if brn then ((s.burn w v).wr FUSE_STAT.BURN_DONE 1).wr FUSE_STAT.WORD w else s)) (0, s)

/-- The MACsec keys of the settings in the engines (R440, R478). -/
def State.showKeys (s : State) : State :=
  let keyed := s.sec.set.saks.foldl (fun (m : BitVec 32) k => setBitOf m (8 * (nbits k.1 8 4) + nbits k.1 4 4) true) 0
  let s := s.modN (fun e => { e with keyed := keyed })
  (List.range 4).foldl (fun (s : State) p => s.wrB (ETH_MACSEC.KEYED p) ((List.range 8).any (fun k => bitOf keyed (8 * p + k)))) s

/-- The port addresses of the settings (R442, R478). -/
def State.showAddrs (s : State) : State :=
  let s := s.sec.set.ipv4.foldl (fun (s : State) a => s.wr (ETH_IPV4.ADDR a.1) a.2.toNat) s
  s.sec.set.ipv6.foldl (fun (s : State) a =>
    (s.wr (ETH_IPV6.ADDR a.1 0) (a.2.toNat % 2 ^ 64)).wr (ETH_IPV6.ADDR a.1 1) (a.2.toNat / 2 ^ 64)) s

/-- The registers that the sealed settings give (R486, R571, R587, R588). -/
def State.showSettings (s : State) : State :=
  let x := s.sec.set
  let s := ((s.wr STRUCT_MIN_SEQ.SEQ x.minSeq.toNat).wrB SEC_STAT.OWNED (!x.ownerHash.isEmpty)).wrB STRUCT_SRC.OWNED (!x.ownerHash.isEmpty)
  let s := ((s.wrB UPD_LOCK.LOCK x.updLock).wrB UPD_CFG.AUTO x.auto).wr UPD_CFG.CONFIRM_S x.confirmS.toNat
  let s := s.setReg PAIR_EPOCH.adr x.epoch
  s.showAddrs.showKeys

/-- Step 3: the PUF, the keys of this cold start, and the settings; a recovery cause, 0 where they unseal (R562, R563, R571). -/
def State.unseal (s : State) : Nat × State :=
  match s.puf with
  | none => (5, s)
  | some _ =>
    let r := s.rand 64
    let s := r.2.modSec (fun e => { e with kem := r.1 })
    match s.sec.slots[0], s.sec.slots[1] with
    | none, none => (0, ((s.modSec (fun e => { e with set := Settings.fresh })).wr SEC_STAT.SET_FRESH 1).showSettings)
    | a, b =>
      let twice : Bool := match a, b with | some x, some y => x.ok && y.ok && x.gen == y.gen && decide (x ≠ y) | _, _ => false
      if twice then (7, s)
      else match slotBest a b with
        | some x => (0, (s.modSec (fun e => { e with set := x.body })).showSettings)
        | none => (6, s)

/-- The MAC addresses follow from a base (R442, R642). -/
def State.setMacs (s : State) (base : Nat) : State :=
  (List.range 4).foldl (fun (s : State) p => s.wr (ETH_MAC.MAC p) (base + 8 * p)) (s.wr FRU_MAC.MAC base)

/-- The MAC base is that of the board FRU, else of the MAC_BASE fuse (R642). -/
def State.fuseMacs (s : State) : State := if s.rdB FRU_INFO.VALID then s else s.setMacs (s.fuseVal 16).toNat

/-- A trial firmware whose formats differ converts the settings at its first boot (R572). -/
def State.convert (s : State) (pk : BankPick) (fmt prev : Nat) : State :=
  match s.bcr with
  | some x =>
    if pk.trial && pk.tries == 1 && fmt != prev then
      s.modSec (fun e => { e with slots := #v[e.slots[0], e.slots[1], some { x with fmt := BitVec.ofNat 16 fmt, body := e.set }, none] })
    else if pk.trial then s
    else s.modSec (fun e => { e with slots := #v[e.slots[0], e.slots[1], none, none] })
  | none => s

/-- BOOT is entered with the bank chosen: the registers of the running firmware, and a download that is resumed (R580, R588). -/
def State.enterBoot (s : State) (pk : BankPick) : State :=
  let m := s.bankHead pk.bank
  let s := s.enterSys .boot
  let conf : Bool := match s.bcr with | some x => bankOf x.conf == some 1 | none => pk.bank == 1
  let s := ((s.wr BOOT_STAT.BANK pk.bank).wrB BOOT_STAT.CONF conf).wr BOOT_STAT.SVN_IMAGE (leAt m 0x14 1)
  let s := ((s.wr FW_SEQ.SEQ (fwSeq m)).wr FW_VER.VERSION (leAt m 0x10 4)).wr FW_VER.SET_FMT (leAt m 0x16 2)
  let s := ((s.wrB UPD_STAT.TRIAL pk.trial).wrB UPD_STAT.FALLBACK pk.fallback).wr UPD_STAT.TRIES pk.tries
  let s := ((s.wr FLASH_STAT.SFDP_OK 1).wr FLASH_STAT.SIZE_MIB Config.flashMib.toNat).fuseMacs
  ((s.convert pk (leAt m 0x16 2) (leAt m 0x18 2)).showDl).modSec (fun e => { e with wdgAt := s.now })

/-- Steps 1 to 4 of R559, where nothing holds the ROM in STANDBY: SYS_RST_L high, its clock valid, no backoff, no test strap. -/
def State.coldStart (s : State) : State :=
  if s.sec.sys ≠ .standby ∨ !s.sec.rstHigh ∨ !s.sec.clkOk ∨ s.sec.backoff ∨ s.rdB SB_STRAP.TEST then s
  else
    let r := s.readFuses
    if r.1 ≠ 0 then r.2.recover r.1
    else
      let s := (r.2.wrB SEC_STAT.DBG_CLOSED r.2.dbgClosed).wr SEC_STAT.SVN r.2.svn
      let s : State := { s with dbgPol := if s.dbgClosed then DbgPol.closed else s.dbgPol }
      let r := s.unseal
      if r.1 ≠ 0 then r.2.fuseMacs.recover r.1
      else
        let a := r.2.bankFail 0
        let b := a.2.bankFail 1
        let s := (b.2.wr BOOT_STAT.FAIL_A a.1).wr BOOT_STAT.FAIL_B b.1
        match s.pickBank (a.1 == 0) (b.1 == 0) with
        | (.error c, s) => s.fuseMacs.recover c
        | (.ok pk, s) => s.enterBoot pk

/-! ### Resets -/

/-- A write to a structure slot that a reset breaks off leaves no image there (R69). -/
def State.breakWrite (s : State) : State :=
  match s.sec.live with
  | some (_, slot) => if s.pair.apply.isSome then s else s.writeSlot slot []
  | none => s

/-- Whether RUN has lasted ten minutes (R564). -/
def State.ranLong (s : State) : Bool := match s.sec.runAt with | some t => decide (t + 600000000000 ≤ s.now) | none => false

/-- Everything that a cold reset does not keep, with the state the part is then in: fuses, flash and the settings slots in it, the
straps, the clock, the glitch history and the cause of the last RECOVERY stay (R557, R564, R587, R638). -/
def State.wiped (s : State) (to_ : Sys) : State :=
  let s := s.breakWrite
  let e := s.sec
  { State.reset with
    csr := mapPut regReset (mapPut regReset [] SB_STRAP.adr (s.reg SB_STRAP.adr)) RST_CAUSE.adr (RST_CAUSE.RCAUSE.setIn (regReset RST_CAUSE.adr) (s.rd RST_CAUSE.RCAUSE))
    now := s.now, free := s.free, pending := s.pending, net := { NetSt.reset with sent := s.net.sent }
    sec := { SecSt.reset with
      sys := to_, rstHigh := e.rstHigh, clkOk := e.clkOk, burnt := e.burnt, flash := e.flash, flashBad := e.flashBad, slots := e.slots
      glitches := if s.ranLong then 0 else e.glitches, colds := e.colds + 1, dl := e.dl } }

/-- A cold reset with its cause, up to the point where the ROM starts (R557, R614). -/
def State.coldHeld (s : State) (src : Nat) : State :=
  let last := s.sec.sys.code
  let s := ((s.wiped .standby).wr RST_CAUSE.SRC src).wr SYS_STATE.LAST last
  s.wr SEC_STAT.GLITCHES s.sec.glitches

/-- A cold reset. -/
def State.coldReset (s : State) (src : Nat) : State := (s.coldHeld src).coldStart

/-- The response to a glitch or a clock monitor: keys zeroised, a cold reset, and a wait when it is not the first (R564). -/
def State.glitch (s : State) (src : Nat) : State :=
  if s.sec.sys = .off then s
  else
    let s := s.zeroise.coldHeld src
    let n := s.sec.glitches + 1
    ((s.modSec (fun e => { e with glitches := n, backoff := decide (2 ≤ n) })).wr SEC_STAT.GLITCHES (min 255 n))

/-- GLITCH_DETECTION. -/
def execGlitchDetection (s : State) : Out := .next (s.glitch 4).coldStart

/-- CLOCK_MONITOR_TRIP: as a glitch; the ROM waits until RIND_CLK_IN is valid (R648). -/
def execClockMonitorTrip (s : State) : Out := .next ((s.glitch 5).modSec (fun e => { e with clkOk := false }))

/-- GLITCH_BACKOFF_EXPIRY. -/
def execGlitchBackoffExpiry (s : State) : Out :=
  .next (if s.sec.backoff then (s.modSec (fun e => { e with backoff := false })).coldStart else s)

/-- RIND_CLOCK_VALID. -/
def execRindClockValid (s : State) : Out :=
  .next (if s.sec.clkOk then s else (s.modSec (fun e => { e with clkOk := true })).coldStart)

/-- The part leaves OFF: both VAUX rails are in regulation and SYS_RST_L is high (R614). -/
def State.powerUp (s : State) : State :=
  ((s.modSec (fun e => { e with sys := .standby })).wr SYS_STATE.LAST 0).coldStart

/-- VAUX_POWER_UP: the straps are sampled as the part leaves OFF; with SYS_RST_L low it stays there (R638). -/
def execVauxPowerUp (straps : BitVec 5) (s : State) : Out :=
  .next (if s.sec.sys ≠ .off then s
    else
      let s := s.setReg SB_STRAP.adr (straps.setWidth 64)
      if s.sec.rstHigh then s.powerUp else s)

/-- VAUX_POWER_LOSS: OFF from any state; the glitch history ends with the rails (R564, R614). -/
def execVauxPowerLoss (s : State) : Out :=
  .next ((s.wiped .off).modSec (fun e => { e with glitches := 0, colds := 0, clkOk := true }))

/-- SYS_RST_L_ASSERT: a cold reset whose start waits for the contact to rise. -/
def execSysRstLAssert (s : State) : Out :=
  .next (let s := s.modSec (fun e => { e with rstHigh := false })
    if s.sec.sys = .off then s else s.coldHeld 2)

/-- SYS_RST_L_RELEASE. -/
def execSysRstLRelease (s : State) : Out :=
  .next (let s := s.modSec (fun e => { e with rstHigh := true })
    if s.sec.sys = .off then s.powerUp else s.coldStart)

/-- MODULE_WATCHDOG_WARNING: 1 s before expiry, in any state that is powered (R558). -/
def execModuleWatchdogWarning (s : State) : Out := .next (if s.sec.sys = .off then s else s.fire 0x250)

/-- MODULE_WATCHDOG_EXPIRY. -/
def execModuleWatchdogExpiry (s : State) : Out := .next (if s.sec.sys = .off then s else s.coldReset 3)

/-- MODULE_WATCHDOG_RELOAD: the Custodian firmware reloads it. -/
def execModuleWatchdogReload (s : State) : Out := .next (s.modSec (fun e => { e with wdgAt := s.now }))

/-- FUSE_REREAD: a disagreement makes a cold reset with SRC 0x04; INJ_FUSE makes the reread of its word disagree (R561, R589). -/
def execFuseReread (s : State) : Out :=
  let i := s.inject 0x42 (s.rd INJ_SEL.INST)
  let bad := (List.range 21).any (fun w => match s.fuse w with | .value _ _ b => b | _ => true)
  .next (if s.sec.sys = .off ∨ s.sec.sys = .standby ∨ s.sec.sys = .recovery then s
    else if i.1 || bad then i.2.coldReset 4 else s)

/-! ### CONFIGURE (R63) -/

/-- A quadrant takes its CLOCK settings: the target, Load Advance, pacing, and the setpoint that allows the target (R49, R491,
R516). -/
def State.setClockRec (s : State) (w : Plan) (q : QuadId) : State :=
  let r := w.clocks[q.val]
  let ceil := Config.fusedCeil
  let req := if r.mhz = 0 then ceil else r.mhz / 25
  let app := min req ceil
  let sh := 16 * q.val
  let old := s.reg STRUCT_CLOCK.adr
  let s := s.setReg STRUCT_CLOCK.adr ((old &&& ~~~(0xFFFF#64 <<< sh)) |||
    (BitVec.ofNat 64 (app + 128 * b2n (decide (ceil < req)) + 256 * req) <<< sh))
  let s := (s.wr (LA_CFG.LEAD_NS q) (if r.lead = 0 then 2000 else r.lead)).wr (LA_CFG.DIDT_REQ q) r.didt
  let sel : Option Nat := if w.clockRecs.contains q.val then some r.didt else none
  let s := s.modPwr (fun x => { x with didtSel := vecUpd x.didtSel q (fun _ => sel) })
  let s := (s.useRate q (s.laRate q)).wrB (LA_STAT.NOID q) (!s.rdB (VR_ID.VALID q))
  let s := s.modPwr (fun x => { x with
    target := vecUpd x.target q (fun _ => app), setClk := vecUpd x.setClk q (fun _ => app), raise := vecUpd x.raise q (fun _ => none) })
  s.wr (LA_STAT.VSET_MV q) (s.setpoint q app)

/-- The functions of the contacts (R50, R639). -/
def State.setPins (s : State) (w : Plan) : State :=
  let s := (List.range 64).foldl (fun (s : State) f => s.setReg (PIN_FUNC.adr f) (regReset (PIN_FUNC.adr f))) s
  let s := w.pins.foldl (fun (s : State) x => s.wr (PIN_FUNC.SEL x.1) x.2) s
  (List.range 6).foldl (fun (s : State) b => s.wr (SB_CFG.RATE b) (s.rd (PIN_FUNC.SEL (0x20 + b)))) s

/-- The priorities of the fast matrix (R46, R418). -/
def State.setFabric (s : State) (w : Plan) : State :=
  w.fabric.foldl (fun (s : State) x =>
    let a := FAB_PRIO.adr x.1 (x.2.1 / 16)
    let sh := 4 * (x.2.1 % 16)
    s.setReg a ((s.reg a &&& ~~~(0xF#64 <<< sh)) ||| (BitVec.ofNat 64 x.2.2 <<< sh))) s

/-- NETQ, the engine of each queue set, that of the partition's lowest cluster, the ports, and sessions 0 to 15 in LISTEN (R43, R481,
R486). -/
def State.setNet (s : State) (w : Plan) : State :=
  let s := s.modN (fun e => { e with netq := w.netq })
  let s := (List.range 256).foldl (fun (s : State) q => s.setQsDe q) s
  let s := (s.wr (ETH_CFG.MODE 3) (if s.rdB SB_STRAP.M0RATE then 4 else 5))
  let s := (List.range 4).foldl (fun (s : State) p =>
    s.wrB (ETH_CFG.EN p) (!(p != 2 && s.rdB (SB_STAT.ID_BAD p)))) s
  (List.range 16).foldl (fun (s : State) n => (s.wr (SESS_STAT.STATE n) 1).wr (SESS_CTL.EN n) 1) s

/-- The keys that are made for each boot: Cellar keys, the token key and a new incarnation (R151, R459, R465). -/
def State.bootKeys (s : State) : State :=
  let r := s.rand 32
  let i := r.2.fresh
  (i.2.modN (fun e => { e with tokKey := r.1, inc := i.1.setWidth 16 })).modM (fun m => { m with
    keyGen := m.keyGen.map (· + 1), modKey := m.modKey + 1 })

/-- The sections in their order, up to the release of the CPs, with the zero pools filled (R53, R63, R155). -/
def State.applyPlan (s : State) (w : Plan) : State :=
  let s := (fins 4).foldl (fun (s : State) q => s.setClockRec w q) (s.setStructRegs w)
  let s := ((s.setPins w).modM (fun m => { m with hashes := w.hashes })).setFabric w
  let s := (s.setParts w).modSec (fun e => { e with progs := w.progs })
  let s := (fins 16).foldl (fun (s : State) p => (s.takeRegion p).loadRegion p) s
  let s := s.modM (fun m => { m with zNear := min (s.rd ZPOOL.TARGET) (s.freeGran 0), zCellar := min (s.rd ZPOOL.TARGET) (s.freeGran 1) })
  let s := (s.setNet w).setEvents w.events
  let s := s.modPwr (fun x => { x with unshadow := w.unshadow, ladder := w.ladder })
  let s : State := { s with dbgPol := if s.dbgClosed then DbgPol.closed else w.debug }
  s.modPair (fun p => { p with rec_ := w.pair })

/-- A side of a pair waits as Standby and asks for its place (R535, R537). -/
def State.enterPair (s : State) (w : Plan) : State :=
  let s := ((s.wr PAIR_STAT.ROLE 2).wr PAIR_STAT.STATE 4).modN (fun e => { e with silent := true })
  let s := if w.pair.kind = 1 ∧ s.hasWitness then s.modPair (fun p => { p with claim := true }) else s
  s.negotiate

/-- Every event consumer takes its level afresh. -/
def State.latchAll (s : State) : State :=
  let base := EVT_SEL.adr 0
  (s.evt.on.map (fun e => (e.1 - base) / 8)).foldl (fun (s : State) c => if c < 8385 then s.latchOut c else s) s

/-- RUN is entered: the CPs start, R61 and R62 take effect, shed demands act, and negotiation begins (R535, R537, R617). A side of a
pair waits as Standby. -/
def State.enterRun (s : State) (w : Plan) : State :=
  let s := (s.enterSys .run).modSec (fun e => { e with runAt := some (match e.runAt with | some t => t | none => s.now), warm := false })
  let s := s.modE (fun e => { e with dark := false })
  let s := (fins 32).foldl (fun (s : State) c => if s.lead c = c then s.releaseCp c else s) s
  let s := s.modPair (fun p => { p with runAt := s.now })
  let s := if w.src ≠ 3 ∧ s.sec.set.minSeq.toNat < w.seq.toNat then
      (s.seals (fun x => { x with minSeq := w.seq })).setReg STRUCT_MIN_SEQ.adr w.seq else s
  let s := match w.owner with
    | some h => ((s.seals (fun x => { x with ownerHash := h })).wr STRUCT_FLAGS.OWNER_PENDING 0)
    | none => s
  ((if w.pair.kind = 0 then s else s.enterPair w).latchAll).settleShed

/-- CONFIGURE and RUN with a structure and its image, which is empty for the factory structure. -/
def State.configure (s : State) (img : List Byte) (w : Plan) : State :=
  let s := (s.enterSys .configure).modSec (fun e => { e with image := img, src := w.src, slotWritten := false })
  (s.bootKeys.applyPlan w).enterRun w

/-- The status of a structure copy (R70). -/
def State.showCopy (s : State) (i : Nat) (img : List Byte) (fail : Nat) (chosen : Bool) : State :=
  let here := leAt img 0 4 == 0x4C41454C
  (((s.wr (STRUCT_COPY.FAIL i) fail).wrB (STRUCT_COPY.PRESENT i) here).wrB (STRUCT_COPY.CHOSEN i) chosen).wr (STRUCT_COPY.SEQ_LO i)
    (if here then leAt img 8 4 else 0)

/-- The choice of the structure (R58): RECOVERY, the copy with the higher SEQ that is valid, or the factory structure. -/
def State.chooseStruct (s : State) : State :=
  let a := s.imgAt 0x0E000000
  let b := s.imgAt 0x0E100000
  let ea := s.earlyFail (some 0x0E000000) a
  let eb := ea.2.earlyFail (some 0x0E100000) b
  let fa := if ea.1 ≠ 0 then ea.1 else lateFail a
  let fb := if eb.1 ≠ 0 then eb.1 else lateFail b
  let s := eb.2
  let split : Bool := ea.1 == 0 && eb.1 == 0 && leAt a 8 8 == leAt b 8 8 && slice a 0x20 64 != slice b 0x20 64
  let pick : Option Nat := if split then none
    else if fa = 0 ∧ (fb ≠ 0 ∨ leAt b 8 8 ≤ leAt a 8 8) then some 0
    else if fb = 0 then some 1
    else none
  let s := (s.showCopy 0 a fa (pick == some 0)).showCopy 1 b fb (pick == some 1)
  if split then s.recover 8
  else match pick with
    | some 0 => s.configure a (planOf a 1 (imgSects a))
    | some _ => s.configure b (planOf b 2 (imgSects b))
    | none => s.configure [] (factoryPlan s.mst.nearGran s.mst.celGran)

/-- Step 9 on: a warm start reapplies the structure that it last loaded unless a slot was written since (R64). -/
def State.startStruct (s : State) : State :=
  if s.sec.warm && !s.sec.slotWritten then s.configure s.sec.image s.plan else s.chooseStruct

/-! ### Rails (R488 to R490, R645) and microcode (R288 to R290) -/

/-- The microcode patch set of the running firmware: its registers where it is accepted (R289). -/
def State.loadPatch (s : State) : State :=
  let b := s.rd BOOT_STAT.BANK
  let h := s.bankHead b
  match (fwSects h).find? (fun x => x.1 == 2) with
  | none => s
  | some x =>
    s.takePatch (Config.patchSet (s.flashRead (bankBase b + 0x4000 + x.2.1) x.2.2))

/-- Every rail is up: microcode; a warm start then goes on to the structure. -/
def State.railsUp (s : State) : State := if s.sec.warm then s.startStruct else s.loadPatch

/-- The identity of a VCORE regulator from the LOAD_STEP_CAP last read of it (R490). -/
def State.identify (s : State) (q : QuadId) : State :=
  let cap := (vecAt? s.board.vrCap q.val).getD []
  let didt := leAt cap 1 2
  let lead := leAt cap 3 2
  let ok := cap.length == 6 && leAt cap 0 1 == 1 && decide (25 ≤ didt) && decide (didt ≤ 400) && decide (500 ≤ lead) &&
    decide (lead ≤ 8000) && nbits (leAt cap 5 1) 0 1 == 1
  let s := if ok then ((s.wr (VR_ID.DIDT_MAX q) didt).wr (VR_ID.LEAD_MIN q) lead).wr (VR_ID.VALID q) 1
    else ((s.wr (VR_ID.DIDT_MAX q) 0).wr (VR_ID.LEAD_MIN q) 0).wr (VR_ID.VALID q) 0
  (s.wrB (LA_STAT.NOID q) (!ok)).wr (LA_STAT.DIDT_USED q) (s.laRate q)

/-- The LOAD_STEP_CAP of a VCORE regulator is read over SB6. -/
def State.regulator (s : State) (q : QuadId) (pecOk : Bool) (cap : Vector Byte 6) : State :=
  let got := if pecOk ∧ !bitOf (s.reg SB_WIRE.adr) 6 then cap.toList else []
  { s with board := { s.board with vrCap := vecUpd s.board.vrCap q (fun _ => got) } }.identify q

/-- RAIL_ENABLE: the next rail in order, the one before it being ready; a VCORE rail's VRRDY input that is high already is ignored
from then on. -/
def execRailEnable (pecOk : Bool) (cap : Vector Byte 6) (s : State) : Out :=
  .next (if s.sec.sys ≠ .boot ∨ 12 ≤ s.pwr.rails ∨ (s.pwr.rails = 0 ∧ s.rd SB_WIRE.RAIL_FAIL ≠ 0) then s
    else
      let n := s.pwr.rails
      let s := if h : 8 ≤ n ∧ n < 12 then
          let q : QuadId := ⟨n - 8, by omega⟩
          let s := if bitOf s.pwr.vrrdy q.val ∧ !bitOf (BitVec.ofNat 4 (s.rd SB_WIRE.VRRDY_BAD)) q.val then
              (s.wr SB_WIRE.VRRDY_BAD (setBitOf (BitVec.ofNat 4 (s.rd SB_WIRE.VRRDY_BAD)) q.val true).toNat).bucket 20 1
            else s
          s.regulator q pecOk cap
        else s
      let s := s.modPwr (fun w => { w with rails := n + 1 })
      if n + 1 = 12 then s.railsUp else s)

/-- RAIL_NEVER_READY: the rails are disabled in reverse order and RAIL_FAIL names the last one enabled; the part stays in BOOT. -/
def execRailNeverReady (s : State) : Out :=
  .next (if s.sec.sys = .boot ∧ s.pwr.rails ≠ 0 then
      (s.wr SB_WIRE.RAIL_FAIL s.pwr.rails).modPwr (fun w => { w with rails := 0, vrrdyLow := 0, vrrdyLong := 0 })
    else s)

/-- RAIL_POWER_UP_RETRY: the power-up begins again with the first rail. -/
def execRailPowerUpRetry (s : State) : Out :=
  .next (if s.sec.sys = .boot ∧ s.pwr.rails = 0 ∧ s.rd SB_WIRE.RAIL_FAIL ≠ 0 then s.modPwr (fun w => { w with rails := 1 }) else s)

/-! ### Training (R317, R332, R344) -/

/-- Whether training can end now: BOOT with every rail up, in a start that trains. -/
def State.training (s : State) : Bool := s.sec.sys == .boot && s.pwr.rails == 12 && !s.sec.warm

/-- Both tiers are trained: the structure follows. -/
def State.trained (s : State) : State := if s.sec.nearDone && s.sec.celDone then s.startStruct else s

/-- TRAIN_FAIL of a stack: no identity, wrong organisation, rate too low, or training failed; 0 where it is trained (R317, R345). -/
def probeFail (x : StackResult) (i : StackIdent) : Nat :=
  if !x.answers then 1 else if i.gib ≠ 48 ∨ i.height ≠ 12 then 2 else if i.rate.toNat < 80 then 3 else if !x.trainOk then 4 else 0

/-- NEAR_TRAINING_DONE: what the identity check and the training of each stack found; lane repairs of the settings are in use;
a failure sends the part to RECOVERY (R317, R344). -/
def execNearTrainingDone (res : Vector StackResult 16) (ids : Vector StackIdent 16) (s : State) : Out :=
  .next (if !s.training ∨ s.sec.nearDone then s
    else
      let s := (fins 16).foldl (fun (s : State) (n : Fin 16) =>
        let x := res[n.val]
        let i := ids[n.val]
        let s := (s.setReg (NM_ID.adr n 0) (if x.answers then i.id0 else 0)).setReg (NM_ID.adr n 1) (if x.answers then i.id1 else 0)
        let used := ((s.sec.set.repairs.filter (fun x => x.1 / 32 == n.val)).map (fun x => popcount (BitVec.ofNat 64 x.2))).sum
        ((((s.wr (NM_STAT.TRAIN_FAIL n) (probeFail x i)).wrB (NM_STAT.TRAINED n) (probeFail x i == 0)).wr (NM_STAT.SPARES n) used).wrB
          (NM_STAT.REPAIRED n) (used != 0))) s
      if (fins 16).any (fun n => probeFail res[n.val] ids[n.val] != 0) then s.recover 9
      else
        let s := s.modM (fun m => { m with nearGran := 12484608, spares := s.sec.set.repairs })
        (s.modSec (fun e => { e with nearDone := true })).trained)

/-- The DIMMs of a channel. -/
def chanDimms (d : Vector Dimm 16) (c : Nat) : List Dimm :=
  [vecAt? d (2 * c), vecAt? d (2 * c + 1)].filterMap (fun o => o.filter (fun (x : Dimm) => x.present))

/-- Whether a DIMM's organisation meets R331: x4 devices, 1, 2 or 4 ranks, stacks of 2 or 4 dies if any, and a density of 16, 24 or
32 Gb. -/
def dimmOrganised (x : Dimm) : Bool :=
  x.x4 && [1, 2, 4].contains x.ranks.toNat && [1, 2, 4].contains x.dies.toNat && [16, 24, 32].contains x.density.toNat

/-- The rated rates that R331 names. -/
def cellarRates : List Nat := [4800, 5200, 5600, 6000, 6400]

/-- TRAIN_FAIL of a DIMM, with the codes of a stack: no identity, an organisation or a rate outside R331, or training failed; 0 where it
is trained. -/
def dimmFail (x : Dimm) : Nat :=
  if !x.spdOk then 1 else if !dimmOrganised x then 2 else if !(cellarRates.contains x.rate.toNat || decide (6400 < x.rate.toNat)) then 3
  else if !x.trainOk then 4 else 0

/-- TRAIN_FAIL of a channel: that of its first DIMM that has one, no identity where its bus is off, and a wrong organisation where its two
DIMMs differ (R332). -/
def State.chanFail (s : State) (d : Vector Dimm 16) (c : Nat) : Nat :=
  let l := chanDimms d c
  if bitOf (s.reg SB_WIRE.adr) (if c < 4 then 4 else 5) then 1
  else match (l.map dimmFail).find? (· != 0) with
    | some f => f
    | none => if l.all (fun x => l.all (fun y => x.gib == y.gib && x.ranks == y.ranks && x.dies == y.dies && x.density == y.density)) then 0 else 2

/-- Whether a channel is usable: its bus is enabled and its DIMMs meet R331, pass their checks and have one organisation (R332). -/
def State.chanUsable (s : State) (d : Vector Dimm 16) (c : Nat) : Bool := !(chanDimms d c).isEmpty && s.chanFail d c == 0

/-- Whether channels are usable and alike. -/
def State.alike (s : State) (d : Vector Dimm 16) (cs : List Nat) : Bool :=
  let key (c : Nat) : List (Nat × Nat × Nat) := (chanDimms d c).map (fun x => (x.gib.toNat, x.ranks.toNat, x.rate.toNat))
  cs.all (fun c => s.chanUsable d c) && cs.all (fun c => cs.all (fun e => key c == key e))

/-- The rate of a population: 6400 MT/s with one DIMM on a channel, 5600 with two, or the DIMMs' own when lower (R331). -/
def dimmRate (d : Vector Dimm 16) (cs : List Nat) : Nat :=
  cs.foldl (fun r c =>
    let l := chanDimms d c
    l.foldl (fun r x => min r x.rate.toNat) (min r (if l.length = 2 then 5600 else 6400))) 6400

/-- CELLAR_TRAINING_DONE: the population is selected, and the net capacity is 127/128 of what it holds. -/
def execCellarTrainingDone (dimms : Vector Dimm 16) (s : State) : Out :=
  .next (if !s.training ∨ s.sec.celDone then s
    else
      let pop := if s.alike dimms (List.range 8) then List.range 8 else if s.alike dimms [0, 2, 4, 6] then [0, 2, 4, 6] else []
      let s := (List.range 8).foldl (fun (s : State) c =>
        let s := (List.range 2).foldl (fun (s : State) i =>
          match vecAt? dimms (2 * c + i) with
          | some x => s.setReg (CC_DIMM.adr c i) (if x.present then
              BitVec.ofNat 64 (x.gib.toNat + 2 ^ 16 * x.ranks.toNat + 2 ^ 20 * (x.rate.toNat / 4 % 4096) + 2 ^ 32) else 0)
          | none => s) s
        let s := s.wrB (CC_STAT.TRAINED c) (pop.contains c)
        let raa := ((chanDimms dimms c).map (fun x => x.raa.toNat)).filter (· ≠ 0)
        let s := s.modM (fun m => { m with celRaa := m.celRaa.set! c (raa.foldl min (raa.headD 0)) })
        s.wr (CC_STAT.TRAIN_FAIL c) (if (chanDimms dimms c).isEmpty then 0 else s.chanFail dimms c)) s
      let mask (f : Nat → Bool) : Nat := ((List.range 8).map (fun c => if f c then 2 ^ c else 0)).sum
      let s := ((s.wr CELLAR_POP.POP pop.length).wr CELLAR_POP.USABLE (mask (fun c => s.chanUsable dimms c))).wr CELLAR_POP.DISABLED
        (mask (fun c => !pop.contains c))
      let s := s.wr CELLAR_POP.RATE (if pop.isEmpty then 0 else dimmRate dimms pop)
      let gib := (pop.map (fun c => ((chanDimms dimms c).map (fun x => x.gib.toNat)).sum)).sum
      let s := s.modM (fun m => { m with celGran := gib * 16384 * 127 / 128 })
      (s.modSec (fun e => { e with celDone := true })).trained)

/-! ### Warm reset (R557, R64) -/

/-- The bits of a register that a warm reset keeps: what the chapters' tables and notes mark as kept, what Rind memory holds, and the
straps and levels of contacts. -/
def warmKeep (a : Nat) (v : Word) : Word :=
  let some_ (fs : List Fld) : Word := fs.foldl (fun w f => f.setIn w (f.ofWord v)) 0
  let hit (base n stride : Nat) : Bool := decide (base ≤ a) && decide (a < base + n * stride) && (a - base) % stride == 0
  let i (base stride : Nat) : Nat := (a - base) / stride
  let blk (lo hi : Nat) : Bool := decide (lo ≤ a) && decide (a < hi)
  if blk 0x05000000 0x05040000 then (match regRowAt a with | some r => clearRc r v | none => v)
  else if blk 0x05200200 0x05200380 ∨ a = SCRUB_STAT.adr ∨ blk 0x08000000 0x08200000 ∨ a = TWD_CTL.adr ∨ blk 0x0A000400 0x0A000600 then v
  else if hit (NM_STAT.adr 0) 16 0x10000 then
    let n := i (NM_STAT.adr 0) 0x10000
    some_ [NM_STAT.TRAINED n, NM_STAT.SPARES n, NM_STAT.REPAIRED n]
  else if hit (NM_ID.adr 0 0) 16 0x10000 ∨ hit (NM_ID.adr 0 1) 16 0x10000 then v
  else if hit (CC_STAT.adr 0) 8 0x1000 then
    let n := i (CC_STAT.adr 0) 0x1000
    some_ [CC_STAT.TRAINED n, CC_STAT.SPARES n, CC_STAT.REPAIRED n]
  else if hit (CC_DIMM.adr 0 0) 8 0x1000 ∨ hit (CC_DIMM.adr 0 1) 8 0x1000 ∨ a = CELLAR_POP.adr then v
  else if hit (LA_STAT.adr 0) 4 0x40 then some_ [LA_STAT.DRV_OFF (i (LA_STAT.adr 0) 0x40)]
  else if hit (EST.adr 0) 4 0x40 then EST.PIPE_MA (i (EST.adr 0) 0x40) |>.setIn v ((EST.PIPE_MA 0).ofWord (regReset a)) |>
    (fun w => (EST.IOUT 0).setIn ((EST.STALE 0).setIn w 0) 0)
  else if a = THERM_STAT.adr then some_ [THERM_STAT.TRIPPED]
  else if hit (LSTEP_STAT.adr 0) 16 0x100000 then some_ [LSTEP_STAT.HARD (i (LSTEP_STAT.adr 0) 0x100000)]
  else if hit (SHD_RETIRED.adr 0) 16 0x10000 then v
  else if hit (DBG_CPCTL.adr 0) 32 0x400 then some_ [DBG_CPCTL.CATCH (i (DBG_CPCTL.adr 0) 0x400)]
  else if hit (SB_CFG.adr 0) 8 16 ∨ a = SB_WIRE.adr ∨ a = SB_STRAP.adr ∨ a = GPIO_IN.adr ∨ a = FRU_INFO.adr ∨ a = FRU_MAC.adr ∨
      hit (PIN_FUNC.adr 0) 64 8 then v
  else if hit (SB_STAT.adr 0) 8 16 then (SB_STAT.NACKS 0).setIn v 0
  else if a = UCODE_VER.adr then v
  else if a = UC_STAT.adr then some_ [UC_STAT.PATCHED, UC_STAT.PATCH_REJ]
  else if a = STRUCT_COPY.adr 0 ∨ a = STRUCT_COPY.adr 1 then v
  else if a = PTP_NS.adr ∨ a = PTP_SEC.adr then v
  else if a = STRUCT_MIN_SEQ.adr then v
  else regReset a

/-- A warm reset: everything outside the Rind domain is reset; then steps 5 to 12 of R559. From shed level 7 the rails come up
again first, and the time base starts from 0 (R441, R506, R557). -/
def State.warmReset (s : State) (src : Nat) : State :=
  let s := s.breakWrite
  let off := decide (s.pwr.rails < 12)
  let cps := s.cps.map (fun (p : Cp) => { Cp.reset with lcause := p.lcause, lcode := p.lcode, wdgReset := p.wdgReset, hard := p.hard })
  let m := s.mst
  let r : State := { s with
    csr := s.csr.foldl (fun c x => mapPut regReset c x.1 (warmKeep x.1 x.2)) []
    mem := s.mem.filter (fun e => decide (e.1 < celBase)), tags := s.tags.filter (fun e => decide (16 * e.1 < celBase))
    errs := s.errs.filter (fun e => decide (8 * e.1 < celBase))
    cps := cps, parts := Vector.replicate 16 Part.reset, trc := Vector.replicate 16 Trc.reset, dbgPol := if s.dbgClosed then DbgPol.closed else DbgPol.reset
    mst := { MemSt.reset with
      nearPos := m.nearPos, celPos := m.celPos, nearGran := m.nearGran, celGran := m.celGran, keyGen := m.keyGen, modKey := m.modKey
      spares := m.spares, dimmHot := m.dimmHot, devCorr := m.devCorr }
    evt := { s.evt with stripGo := 0, deTrig := 0, mirrorReq := false, deRun := 0, mirrorBusy := false, dark := true, shedReq := 0, custIn := 0 }
    pwr := { PwrSt.reset with
      onDie := s.pwr.onDie, rails := s.pwr.rails, vrrdy := s.pwr.vrrdy, mon := s.pwr.mon, temps := s.pwr.temps, trip := s.pwr.trip }
    net := { NetSt.reset with sent := s.net.sent }, pair := { PairSt.reset with hbIn := s.pair.hbIn }
    fab := FabSt.reset, mesh := MeshSt.reset
    sec := { s.sec with nonces := [], live := none, undrain := 0, warm := true } }
  let r := ((r.wr RST_CAUSE.KIND 2).wr RST_CAUSE.SRC src).enterSys .boot
  let r := (r.setMacs (r.rd FRU_MAC.MAC)).showSettings
  let r := if off then (r.setReg PTP_NS.adr 0).setReg PTP_SEC.adr 0 else r
  if off then r else ((fins 4).foldl (fun (r : State) q => r.identify q) r).railsUp

/-- SHED7_EXIT: at shed level 7 in RUN a warm reset; after a thermal trip in another state a cold reset (R506, R615). The row says
that VINMON and the VRRDY inputs have been good for 2 s; every junction sensor must read 95 °C or less. -/
def execShed7Exit (s : State) : Out :=
  .next (let cool := match s.pwr.temps with
      | some t => (List.range 16).all (fun i => decide (((vecAt? t i).getD 0).toNat ≤ 95))
      | none => true
    if !cool then s
    else if s.sec.sys = .run ∧ s.shed = 7 then s.warmReset 0x0A
    else if s.pwr.trip ∧ (s.sec.sys = .boot ∨ s.sec.sys = .configure ∨ s.sec.sys = .recovery) then s.coldReset 0x06
    else s)

end Sys2Proof.Machine
end

