-- ==== Sys2Proof/Machine/Board.lean ====
section
/-! DEFINITION. Contacts, sideband buses and wiring faults (R638 to R646). -/

namespace Sys2Proof.Machine

/-- Change the contacts. -/
def State.modBoard (s : State) (f : BoardSt → BoardSt) : State := { s with board := f s.board }

/-- Whether the part drives its contacts: it is powered, and the test strap does not hold it (R638). -/
def State.wired (s : State) : Bool := s.sec.sys != .off && !s.rdB SB_STRAP.TEST

/-! ### Sideband buses -/

/-- A bus is disabled. -/
def State.busOff (s : State) (bus : Nat) : State :=
  ((s.wr (SB_STAT.STATE bus) 2).wr (SB_CFG.EN bus) 0).wr SB_WIRE.SB_OFF (setBitOf (BitVec.ofNat 8 (s.rd SB_WIRE.SB_OFF)) bus true).toNat

/-- RISE_MAX in ns of a controller rate (R643). -/
def riseMax (rate : Nat) : Nat := if rate = 0 then 1000 else if rate = 1 then 300 else 120

/-- A bus runs after its probe: an exchange of its lines is kept and counted, and what answered is noted (R643). -/
def State.busOn (s : State) (bus : Fin 8) (r : ProbeResult) : State :=
  let s := (((s.wr (SB_STAT.STATE bus) 1).wr (SB_CFG.EN bus) 1).wr (SB_STAT.FOUND bus) r.found.toNat)
  let s := if r.outcome = .swapped ∧ bus ≠ 7 then (s.wr (SB_STAT.SWAPPED bus) 1).bucket 20 1 else s
  if bus = 7 then s.wr (SB_CFG.ADDR 7) (0x4C + s.rd SB_STRAP.BMCADDR)
  else if r.idBad ∧ (bus = 0 ∨ bus = 1 ∨ bus = 3) then (s.wr (SB_STAT.ID_BAD bus) 1).wr (ETH_CFG.EN bus) 0
  else s

/-- The identity of the board that SB3 gave (R642). -/
def State.readFru (s : State) (fru : Option (BitVec 16 × BitVec 48)) : State :=
  match fru with
  | some f => ((s.wr FRU_INFO.VALID 1).wr FRU_INFO.BOARD_ID f.1.toNat).setMacs f.2.toNat
  | none => s

/-- SIDEBAND_PROBE: the one probe of a bus after a cold reset (R643, R645, R646). -/
def execSidebandProbe (bus : Fin 8) (r : ProbeResult) (s : State) : Out :=
  .next (if !s.wired ∨ s.rd (SB_STAT.STATE bus) ≠ 0 then s
    else
      let i := s.inject 0x3C bus.val
      let s := i.2.wr (SB_STAT.RISE_NS bus) r.riseNs.toNat
      let slow : Bool := bus != 7 && decide (riseMax (s.rd (SB_CFG.RATE bus)) < r.riseNs.toNat)
      let bad (f : Fld) : State := ((s.busOff bus.val).wr f 1).bucket 20 1
      match r.outcome with
      | .stuck => bad (SB_STAT.STUCK bus)
      | .noPull => bad (SB_STAT.NOPULL bus)
      | .short => bad (SB_STAT.SHORT bus)
      | .riseFail => bad (SB_STAT.RISE_FAIL bus)
      | .normal => if i.1 ∨ slow then bad (SB_STAT.RISE_FAIL bus) else if bus = 3 then (s.busOn bus r).readFru r.fru else s.busOn bus r
      | .swapped => if i.1 ∨ slow then bad (SB_STAT.RISE_FAIL bus) else if bus = 3 then (s.busOn bus r).readFru r.fru else s.busOn bus r
      | .noDevice => if i.1 ∨ slow then bad (SB_STAT.RISE_FAIL bus) else s.busOn bus { r with found := 0, idBad := false })

/-- SIDEBAND_TRANSACTION on a bus that runs: lost arbitration is tried again, and three losses disable the bus (R645). -/
def execSidebandTransaction (bus : Fin 8) (r : SbOutcome) (s : State) : Out :=
  .next (if !s.wired ∨ bus = 7 ∨ s.rd (SB_STAT.STATE bus) ≠ 1 then s
    else match r with
    | .acked => s.modBoard (fun b => { b with losses := vecUpd b.losses bus (fun _ => 0) })
    | .nacked => (s.modBoard (fun b => { b with losses := vecUpd b.losses bus (fun _ => 0) })).cnt (SB_STAT.NACKS bus) 1
    | .arbLost =>
      let s := s.modBoard (fun b => { b with losses := vecUpd b.losses bus (· + 1) })
      if 3 ≤ s.board.losses[bus.val] then (s.busOff bus.val).wr (SB_STAT.SHORT bus) 1 else s)

/-! ### SB7 (R644) -/

/-- SYS_STATE.STATE as it reads: SLEEP while it is emulated (R607, R630). -/
def State.stateCode (s : State) : Nat := if s.pwr.emu then 5 else s.sec.sys.code

/-- The physical CPs in a state: in Lockstep both report the logical one's. -/
def State.cpMask (s : State) (f : Cp → Bool) : Word :=
  (fins 32).foldl (fun (w : Word) c => if f (s.cp (s.lead c)) then setBitOf w c.val true else w) 0

/-- Overflow flags of the buckets (R375). -/
def State.errSum (s : State) : Nat := ((List.range 32).map (fun b => if s.rdB (BKT_STAT.OVF b) then 2 ^ b else 0)).sum

/-- The status block. -/
def State.statusBlock (s : State) : List Byte :=
  let flags := b2n (s.rdB THERM_STAT.THROTTLING) + 2 * s.rd THERM_STAT.TRIPPED + 4 * b2n (s.cpMask (fun p => p.run == .lockup) != 0) +
    8 * s.rd SEC_STAT.DBG_ATTACHED + 16 * s.rd PWR_STAT.CAPPED + 32 * b2n (s.reg SB_WIRE.adr != 0) + 64 * b2n (s.rd PAIR_STAT.STATE == 3)
  leBytes 1 (s.stateCode % 8 + 16 * s.shed) ++ leBytes 1 (s.rd THERM_STAT.TJ_MAX) ++ leBytes 1 (s.rd THERM_STAT.TLID) ++ leBytes 1 flags ++
    leBytes 2 (s.rd PWR_STAT.PKG_W) ++ leBytes 2 (s.rd PWR_STAT.AVG_W) ++ leBytes 4 s.errSum ++ leBytes 2 (s.rd VINMON_STAT.PCT) ++
    leBytes 1 (s.rd PAIR_STAT.ROLE + 16 * s.rd PAIR_STAT.STATE) ++ leBytes 1 (s.rd RST_CAUSE.SRC) ++ leBytes 8 (s.rd FW_SEQ.SEQ) ++
    leBytes 4 (s.rd FW_VER.VERSION) ++ leBytes 2 0x4816 ++ leBytes 1 Config.fusedRev.toNat ++ [0]

/-- Whether the target of SB7 answers. -/
def State.sb7Up (s : State) : Bool := s.wired && s.rd (SB_STAT.STATE 7) != 2

/-- SB7_STATUS_BLOCK. -/
def execSb7StatusBlock (s : State) : Out := .next (if s.sb7Up then s.modBoard (fun b => { b with sb7 := s.statusBlock }) else s)

/-- Whether the identity keys of this cold start exist: not in STANDBY, nor where the fuses or the PUF failed (R562, R585). -/
def State.keysUp (s : State) : Bool :=
  s.sec.sys != .off && s.sec.sys != .standby && !(s.sec.sys == .recovery && decide (3 ≤ s.rd RST_CAUSE.RCAUSE) && decide (s.rd RST_CAUSE.RCAUSE ≤ 5))

/-- SB7_IDK_HASH: IDK_HASH, zeros where it is not available. -/
def execSb7IdkHash (s : State) : Out :=
  .next (if s.sb7Up then s.modBoard (fun b => { b with sb7 := if s.keysUp then s.idkHash else List.replicate 32 0 }) else s)

/-! ### Outputs and inputs (R420, R639, R645) -/

/-- A bit of SB_WIRE sets, once, and feeds the WIRING bucket. -/
def State.wireFault (s : State) (f : Fld) (k : Nat) : State :=
  let v := BitVec.ofNat 16 (s.rd f)
  if bitOf v k then s else (s.wr f (setBitOf v k true).toNat).bucket 20 1

/-- OUTPUT_READBACK_FAULT: a driven output that reads back wrong is given up; CP_FAULT_L and THERMTRIP_L only report. -/
def execOutputReadbackFault (o : OutputPin) (s : State) : Out :=
  .next (if !s.wired then s
    else match o with
    | .gpio n => if 4 ≤ s.rd (PIN_FUNC.SEL n.val) then s.wireFault SB_WIRE.GPIO_OFF n.val else s
    | .evtOut n => if s.rd (PIN_FUNC.SEL (0x14 + n.val)) ≠ 0 then s.wireFault SB_WIRE.EVT_OUT_OFF n.val else s
    | .pairHbOut => ((s.wireFault SB_WIRE.HB_OUT_OFF 0).wr PAIR_STAT.HBWIRE_FAULT 1).modPair (fun p => { p with hbOut := false })
    | .cpFault => if s.cpMask (fun p => p.run == .lockup) ≠ 0 then s.wireFault SB_WIRE.CPF_SHORT 0 else s
    | .thermTrip => if s.pwr.trip then s.wireFault SB_WIRE.TT_SHORT 0 else s)

/-- VINMON_OPEN_DETECT: VINMON demands nothing until cold reset. -/
def execVinmonOpenDetect (s : State) : Out := .next (if s.wired then ((s.wireFault SB_WIRE.VINMON_OPEN 0).demand 5 0).settleShed else s)

/-- Whether a selection of an input's events takes an edge. -/
def edgeTaken (sel : Nat) (rising : Bool) : Bool := (sel == 1 && rising) || (sel == 2 && !rising) || sel == 3

/-- EVT_IN_EDGE. -/
def execEvtInEdge (n : Fin 4) (rising : Bool) (s : State) : Out :=
  .next (if s.wired && edgeTaken (s.rd (PIN_FUNC.SEL (0x10 + n.val))) rising then s.fire (0x240 + n.val) else s)

/-- GPIO_EDGE: GPIO_IN follows the contact. -/
def execGpioEdge (n : Fin 16) (rising : Bool) (s : State) : Out :=
  .next (if !s.wired then s
    else
      let s := s.wr GPIO_IN.IN (setBitOf (BitVec.ofNat 16 (s.rd GPIO_IN.IN)) n.val rising).toNat
      if edgeTaken (s.rd (PIN_FUNC.SEL n.val)) rising then s.fire (0x230 + n.val) else s)

end Sys2Proof.Machine
end

