-- ==== Sys2Proof/Machine/Debug.lean ====
section
/-! DEFINITION. Run control and trace (R599 to R612). -/

namespace Sys2Proof.Machine

/-! ### Halt, resume and step -/

/-- A command for a CP whose partition the policy does not open is refused (R599). -/
def State.dbgRefuse (s : State) (c : CpId) : State := s.wr (DBG_CPSTAT.REFUSED c) 1

/-- HALT: at the next instruction boundary; a CP that waits halts at once, one in lockup too, and one held in reset has no boundary
(R600, R608). -/
def State.dbgHalt (s : State) (c0 : CpId) : State :=
  let c := s.lead c0
  let p := s.cp c
  if !s.haltable c then s.dbgRefuse c0
  else match p.run with
    | .inReset => s
    | .halted => s
    | .lockup => s.haltCp c 1 0 false
    | .running =>
      let s := s.modCp c (fun p => { p with haltReq := true })
      if p.stall.takesIrq && p.lock == 0 && p.a.delay.isNone then (s.modCp c (fun p => { p with stall := .none })).boundary c else s

/-- What a debugger wrote to MODE, XVEC, XFRAME and CCTL comes into force, each as SYNCC brings it (R107, R605). -/
def Cp.dbgSync (p : Cp) : Cp :=
  let q := p.sync
  { p with
    a := { p.a with
      modeOn := if bitOf p.dbgWrote 0 then q.a.modeOn else p.a.modeOn
      xvecOn := if bitOf p.dbgWrote 1 then q.a.xvecOn else p.a.xvecOn
      entryCap := if bitOf p.dbgWrote 1 then q.a.entryCap else p.a.entryCap
      xvecPend := p.a.xvecPend && !bitOf p.dbgWrote 1
      xframeOn := if bitOf p.dbgWrote 2 then q.a.xframeOn else p.a.xframeOn
      iinv := p.a.iinv && !bitOf p.dbgWrote 3
      dinv := p.a.dinv && !bitOf p.dbgWrote 3 }
    icache := if bitOf p.dbgWrote 0 || bitOf p.dbgWrote 3 then q.icache else p.icache
    dcache := if bitOf p.dbgWrote 0 || bitOf p.dbgWrote 3 then q.dcache else p.dcache
    dbgWrote := 0 }

/-- Whether the instruction that a halted CP resumes at runs without matching a breakpoint: it halted there for the breakpoint or after a
step, or had passed its match before; after a watchpoint it matches (R602, R608). -/
def Cp.passesBp (p : Cp) : Bool := p.skipBp || p.dbg.reason == 2 || (p.dbg.reason == 3 && !p.dbg.late)

/-- A halted CP runs again: its watchdog resumes at no less than GRACE (R404, R602, R605, R608). -/
def State.unhalt (s : State) (c : CpId) (step : Bool) : State :=
  s.modCp c (fun p =>
    let q := p.dbgSync
    { q with
      run := if p.fromLockup then .lockup else .running, fromLockup := false
      stepping := step && !p.fromLockup, skipBp := q.passesBp
      wdg := { p.wdg with cnt := if p.wdg.cnt.toNat < p.wdg.grace.toNat then p.wdg.grace else p.wdg.cnt } })

/-- Whether the rate gate of a channel has reopened. -/
def State.gateOpen (s : State) (k : Fin 64) : Bool :=
  match s.evt.chans[k.val].passed with
  | some t => decide (t + s.evtOn (EVT_CH_CFG.RATE_GATE_NS k) ≤ s.now)
  | none => true

/-- Events and frames that a freeze held go on once no halted CP freezes them (R433, R474). -/
def State.thaw (s : State) : State :=
  let s := (fins 64).foldl (fun (s : State) k => if s.gateOpen k then s.heldPass k else s) s
  s.net.sess.foldl (fun (s : State) x => if 16 ≤ x.1 then runReqs NetHooks.none x.1 heldFuel s else s) s

/-- On release a Lockstep CP's comparison resumes from a compare of state signatures (R523). -/
def State.releaseCompare (s : State) (c : CpId) : State := (s.compareWith State.bucket c 5 (s.cp c).a.pc.toNat).2

/-- RESUME (R600). -/
def State.dbgResume (s : State) (c0 : CpId) : State :=
  let c := s.lead c0
  if !s.haltable c then s.dbgRefuse c0
  else if (s.cp c).run ≠ .halted then s
  else ((((s.unhalt c false).tracePkt c 5 0 (BitVec.ofNat 64 (s.cp c).a.pc.toNat)).releaseCompare c).holdSync).thaw

/-- STEP: one instruction, after which the CP halts again (R601). -/
def State.dbgStep (s : State) (c0 : CpId) : State :=
  let c := s.lead c0
  if !s.haltable c then s.dbgRefuse c0
  else if (s.cp c).run ≠ .halted then s
  else (s.unhalt c true).releaseCompare c

/-- A write of DBG_CPCTL (R612). -/
def State.dbgCtl (s : State) (c : CpId) (v : Word) : State :=
  let s := (s.wrB (DBG_CPCTL.STEP_IRQ c) (bitOf v 2)).wrB (DBG_CPCTL.CATCH c) (bitOf v 3)
  if v.toNat % 4 = 1 then s.dbgHalt c else if v.toNat % 4 = 2 then s.dbgResume c else if v.toNat % 4 = 3 then s.dbgStep c else s

/-- DEBUG_HALT. -/
def execDebugHalt (c : CpId) (s : State) : Out := .next (s.dbgHalt c)

/-- DEBUG_RESUME. -/
def execDebugResume (c : CpId) (s : State) : Out := .next (s.dbgResume c)

/-- DEBUG_STEP. -/
def execDebugStep (c : CpId) (s : State) : Out := .next (s.dbgStep c)

/-! ### Registers of a halted CP (R605) -/

/-- One of two 64-bit words of a number replaced. -/
def putWord (n w : Nat) (v : Word) : Nat := if w = 0 then n / 2 ^ 64 * 2 ^ 64 + v.toNat else n % 2 ^ 64 + v.toNat * 2 ^ 64

/-- What DBG_REGSEL of a CP selects: bank, number, word, destination and bit address. -/
def State.regSel (s : State) (c : CpId) : Nat × Nat × Nat × Nat × Nat :=
  (s.rd (DBG_REGSEL.BANK c), s.rd (DBG_REGSEL.NUM c), s.rd (DBG_REGSEL.WORD c), s.rd (DBG_REGSEL.DEST c), s.rd (DBG_REGSEL.BITADDR c) / 64 * 64)

/-- Whether the selection names a register (the spec does not say what another does: it is refused, log entry 20, DESIGN CHOICE). -/
def selOk (bank num word : Nat) : Bool :=
  if bank = 0 ∨ bank = 6 then decide (num < 16)
  else if bank = 1 then decide (num < 16) && decide (word < 2)
  else if bank = 3 then decide (num < 16)
  else if bank = 4 then crListed num
  else bank == 2 || bank == 5

/-- A debugger's read of a register: a response code of R411, the value, and the state. A read of bank 6 has no stated value. -/
def State.regDataRead (s : State) (c0 : CpId) : Nat × Word × State :=
  let c := s.lead c0
  let x := s.regSel c0
  let n : Fin 16 := ⟨x.2.1 % 16, by omega⟩
  let a := (s.cp c).a
  if (s.cp c).run ≠ .halted ∨ !selOk x.1 x.2.1 x.2.2.1 then (2, 0, s)
  else if x.1 = 0 then (0, a.g[n.val], s)
  else if x.1 = 1 then (0, BitVec.ofNat 64 (a.k[n.val].bits.toNat / 2 ^ (64 * x.2.2.1)), s)
  else if x.1 = 2 then (0, (vecAt? a.f x.2.1).getD 0, s)
  else if x.1 = 3 then
    let d := a.d[n.val]
    (0, BitVec.ofNat 64 (if x.2.2.1 < 2 then d.cap.bits.toNat / 2 ^ (64 * x.2.2.1) else d.high / 2 ^ (64 * (x.2.2.1 - 2))), s)
  else if x.1 = 4 then (0, s.crRead c x.2.1, s)
  else if x.1 = 5 then
    let r := (List.range 64).foldl (fun (r : Bool × Word × State) i =>
      let q := r.2.2.readBit c (x.2.2.2.2 + i)
      (r.1 || q.1.isNone, setBitOf r.2.1 i (q.1.getD false), q.2)) (false, 0, s)
    if r.1 then (5, 0, r.2.2) else (0, r.2.1, r.2.2)
  else
    let r := s.fresh
    (0, r.1, r.2)

/-- A debugger's write of a control register: SYSTEM is not required, and those that wait for SYNCC take effect at the resume. -/
def State.crDebug (s : State) (c : CpId) (n : Nat) (v : Word) : State :=
  let b := if n = 0 then some 0 else if n = 1 then some 1 else if n = 5 then some 2 else if n = 0x18 then some 3 else none
  let s := s.crWrite c true n v
  match b with
  | some i => s.modCp c (fun p => { p with dbgWrote := setBitOf p.dbgWrote i true })
  | none => s

/-- A debugger's write of a register: a response code, and the state. -/
def State.regDataWrite (s : State) (c0 : CpId) (v : Word) : Nat × State :=
  let c := s.lead c0
  let x := s.regSel c0
  let n : Fin 16 := ⟨x.2.1 % 16, by omega⟩
  if (s.cp c).run ≠ .halted ∨ !selOk x.1 x.2.1 x.2.2.1 then (2, s)
  else
    (0, if x.1 = 0 then s.modA c (fun a => { a with g := vecUpd a.g n (fun _ => v) })
      else if x.1 = 1 then s.modA c (fun a => { a with k := vecUpd a.k n (fun k => ⟨BitVec.ofNat 128 (putWord k.bits.toNat x.2.2.1 v), false⟩) })
      else if x.1 = 2 then s.modA c (fun a => { a with f := vecUpd a.f ⟨x.2.1 % 64, by omega⟩ (fun _ => v) })
      else if x.1 = 3 then
        let d := s.d c n
        let y := if x.2.2.1 < 2 then { d with cap := ⟨BitVec.ofNat 128 (putWord d.cap.bits.toNat x.2.2.1 v), false⟩ }
          else dregOf d.cap (putWord d.high (x.2.2.1 - 2) v)
        if x.2.2.1 = 0 then s.setD c n y else s.setDPart c n y
      else if x.1 = 4 then s.crDebug c x.2.1 v
      else if x.1 = 5 then (List.range 64).foldl (fun (s : State) i =>
        let a := x.2.2.2.2 + i
        if 0x1000 ≤ a then s.storeRamBit c a (bitOf v i) else s.writeBit c a (bitOf v i)) s
      else s.modA c (fun a => { a with k := vecUpd a.k ⟨x.2.2.2.1 % 16, by omega⟩ (fun _ => a.k[n.val]) }))

/-- DBG_REGDATA_ACCESS: the value that a read returns stands in DBG_REGDATA; a refused access has no effect. -/
def execDbgRegdataAccess (c : CpId) (write : Bool) (v : Word) (s : State) : Out :=
  .next (if write then
      let r := s.regDataWrite c v
      if r.1 = 0 then r.2.setReg (DBG_REGDATA.adr c) v else r.2
    else
      let r := s.regDataRead c
      if r.1 = 0 then r.2.2.setReg (DBG_REGDATA.adr c) r.2.1 else r.2.2)

/-! ### Trace (R609 to R612) -/

/-- Change the trace of a cluster. -/
def State.modTrc (s : State) (cl : ClusterId) (f : Trc → Trc) : State := { s with trc := vecUpd s.trc cl f }

/-- Entries of a CP's stimulus FIFO. -/
def Trc.fifo (t : Trc) (c : CpId) : Nat :=
  (t.queue.filter (fun k => k.cp.toNat == c.val && (k.kind == 0 || k.kind == 3))).length

/-- A packet of a CP as the trace stores it, with its sequence number (R610). -/
def TracePkt.words (k : TracePkt) (seq : BitVec 10) : Word × Word :=
  (k.data, BitVec.ofNat 64 (k.time.toNat + k.port.toNat * 2 ^ 40 + k.cp.toNat * 2 ^ 45 + k.kind.toNat * 2 ^ 50 + seq.toNat * 2 ^ 54))

/-- A write to a stimulus port: a packet, or a drop that is counted (R609). -/
def State.stimWrite (s : State) (c : CpId) (n : Nat) (v : Word) : State :=
  let cl := clOf c
  let t := s.trc[cl.val]
  if !s.rdB (TRACE_CFG.EN cl) ∨ !bitOf (BitVec.ofNat 32 (s.rd (TRACE_CFG.STIM_EN cl))) n then s
  else if 8 ≤ t.fifo c then
    (s.modTrc cl (fun t => { t with lost := vecUpd t.lost ⟨c.val % 2, by omega⟩ (· + 1) })).cntSat (TRACE_STAT.LOST cl) 1
  else s.tracePkt c 0 n v

/-- A CP whose packets were dropped gets its overflow packet as soon as its FIFO has space (R609). -/
def State.traceOverflow (s : State) (cl : ClusterId) : State :=
  (fins 2).foldl (fun (s : State) (k : Fin 2) =>
    let c : CpId := ⟨(2 * cl.val + k.val) % 32, by omega⟩
    let t := s.trc[cl.val]
    let n := t.lost[k.val]
    if n ≠ 0 ∧ t.fifo c < 8 then (s.modTrc cl (fun t => { t with lost := vecUpd t.lost k (fun _ => 0) })).tracePkt c 3 0 (BitVec.ofNat 64 n)
    else s) s

/-- The key of a packet slot in the carve-out (R343). -/
def traceKey (cl slot : Nat) : Nat := spadBase + cl * 0x400000 + 0x300000 + 16 * slot

/-- The oldest packet goes to the carve-out (R611). -/
def State.traceStore (s : State) (cl : ClusterId) (k : TracePkt) : State :=
  let p := s.rd (TRACE_STAT.WPTR cl)
  let w := k.words s.trc[cl.val].seq
  let s := s.modTrc cl (fun t => { t with queue := t.queue.tail, seq := t.seq + 1 })
  let s := s.writeRange (traceKey cl.val p) (leBytes 8 w.1.toNat ++ leBytes 8 w.2.toNat)
  let s := s.wr (TRACE_STAT.WPTR cl) ((p + 1) % 65536)
  if p + 1 = 65536 ∧ s.rdB (TRACE_CFG.MODE cl) then s.wr (TRACE_STAT.FULL cl) 1 else s

/-- Up to 512 packets leave on M0 in a datagram (R611). -/
def State.traceSend (s : State) (cl : ClusterId) : State :=
  let t := s.trc[cl.val]
  let ks := t.queue.take 512
  let ws := ks.mapIdx (fun i k => k.words (t.seq + BitVec.ofNat 10 i))
  (s.modTrc cl (fun t => { t with queue := t.queue.drop 512, seq := t.seq + BitVec.ofNat 10 ks.length, dgram := t.dgram + 1 })).leave
    (.trace cl t.dgram ws)

/-- TRACE_PACKET_OUT (R611). -/
def execTracePacketOut (cl : ClusterId) (s : State) : Out :=
  match s.trc[cl.val].queue with
  | [] => .next s
  | k :: _ =>
    let drop (s : State) : State := (s.modTrc cl (fun t => { t with queue := t.queue.tail })).cntSat (TRACE_STAT.LOST cl) 1
    let s := if s.rdB (TRACE_CFG.DEST cl) then (if s.dbgPol.traceM0 then s.traceSend cl else drop s)
      else if !s.rdB (SPAD_CFG.TRACE cl) ∨ s.rdB (TRACE_STAT.FULL cl) then drop s
      else s.traceStore cl k
    .next (s.traceOverflow cl)

/-- A write of TRACE_CFG: it clears WPTR, FULL and what the carve-out holds (R612). -/
def State.traceCfg (s : State) (cl : ClusterId) (v : Word) : State :=
  let s := ((s.setReg (TRACE_CFG.adr cl) (v &&& 0xFFFFFFFF00000007)).wr (TRACE_STAT.WPTR cl) 0).wr (TRACE_STAT.FULL cl) 0
  if s.rdB (SPAD_CFG.TRACE cl) then
    let lo := traceKey cl.val 0
    let inside (k : Nat) : Bool := decide (lo ≤ k) && decide (k < lo + 0x100000)
    { s with mem := s.mem.filter (fun e => !inside e.1), errs := s.errs.filter (fun e => !inside (8 * e.1)),
             tags := s.tags.filter (fun e => !inside (16 * e.1)) }
  else s

/-- TRACE_CFG_WRITE. -/
def execTraceCfgWrite (cl : ClusterId) (v : Word) (s : State) : Out := .next (s.traceCfg cl v)

end Sys2Proof.Machine
end

