-- ==== Sys2Proof/Machine/Space.lean ====
section
/-! DEFINITION. Control Space (R13 to R17, R406 to R415): which target serves an address, which accesses it refuses, what a read
shows and clears, and what a write does. -/

namespace Sys2Proof.Machine

/-! ### Targets (R407, R412 to R414) -/

/-- The target port of an address, none for the default target. -/
def targetOf (a : Nat) : Option Nat :=
  if 0x01000000 ≤ a ∧ a < 0x02000000 then some ((a - 0x01000000) / 0x100000)
  else if 0x02000000 ≤ a ∧ a < 0x02100000 then some 16
  else if 0x03000000 ≤ a ∧ a < 0x03100000 then some 17
  else if 0x03100000 ≤ a ∧ a < 0x03110000 then some 18
  else if 0x03200000 ≤ a ∧ a < 0x03211000 then some 19
  else if 0x04000000 ≤ a ∧ a < 0x04400000 then some 20
  else if 0x04400000 ≤ a ∧ a < 0x04500000 then some 21
  else if 0x04800000 ≤ a ∧ a < 0x04810000 then some 22
  else if 0x04900000 ≤ a ∧ a < 0x04910000 then some 23
  else if 0x05000000 ≤ a ∧ a < 0x05100000 then some 24
  else if 0x05100000 ≤ a ∧ a < 0x05102000 then some 32
  else if 0x05200000 ≤ a ∧ a < 0x05201000 then some 25
  else if 0x06000000 ≤ a ∧ a < 0x06010000 then some 26
  else if 0x06100000 ≤ a ∧ a < 0x06110000 then some 32
  else if 0x07000000 ≤ a ∧ a < 0x07010000 then some 27
  else if 0x08000000 ≤ a ∧ a < 0x08010000 then some 28
  else if 0x08100000 ≤ a ∧ a < 0x08200000 then some 33
  else if 0x09000000 ≤ a ∧ a < 0x09100000 then some 29
  else if 0x0A000000 ≤ a ∧ a < 0x0A100000 then some 33
  else if 0x0B000000 ≤ a ∧ a < 0x0B010000 then some 30
  else if 0x0C000000 ≤ a ∧ a < 0x0C001000 then some 31
  else if 0x0F000000 ≤ a ∧ a < 0x0F001000 then some 32
  else none

/-- Blocks that keep their power in every state: those of the Rind domain and what reports the part's state from there (R23, R366,
R375, R514, R630; log entry 22, DEDUCED). -/
def rindPort (t : Nat) : Bool := t == 24 || t == 25 || t == 26 || t == 28 || t == 30 || t == 33

/-- Whether the block behind a port answers: not while it is unpowered, in SLEEP or at shed level 7 (R412). -/
def State.portLive (s : State) (t : Nat) : Bool :=
  rindPort t || (s.pwr.rails == 12 && decide (s.shed < 7) && (s.sec.sys != .sleep || s.pwr.emu))

/-- Whether a block refuses a master (R414). -/
def masterBarred (m a : Nat) : Bool :=
  ((decide (16 ≤ m) && decide (m < 32)) || m == 33) && decide (0x08000000 ≤ a) && decide (a < 0x08200000)

/-- Whether a page belongs to some partition but that of the access (R241, R409, R479). -/
def State.foreign (s : State) (part : Option PartId) (a : Nat) : Bool :=
  if 0x02000000 ≤ a ∧ a < 0x02100000 then
    let off := a % 0x10000
    let c := (off - 0x1000) / 0x40
    if off < 0x1000 then false
    else match vecAt? (Vector.ofFn (fun (i : Fin 32) => s.cpPart i)) c with
      | some (some p) => p.val != (a - 0x02000000) / 0x10000 || part.any (fun q => q != p)
      | _ => true
  else match part with
  | none => false
  | some q =>
    if 0x04410000 ≤ a ∧ a < 0x04430000 then ((s.sessHome ((a - 0x04410000) / 32)).map (·.1)) != some q
    else if 0x04440000 ≤ a ∧ a < 0x04444000 then s.qsHome ((a - 0x04440000) / 64) != some q
    else if 0x04480000 ≤ a ∧ a < 0x04481100 then (a - 0x04480000) / 0x100 != q.val
    else false

/-- The CP whose debug page holds an address, with the offset in the page. -/
def dbgPage (a : Nat) : Option (CpId × Nat) :=
  if h : 0x09000000 ≤ a ∧ a < 0x09008000 then some (⟨(a - 0x09000000) / 0x400, by omega⟩, a % 0x400) else none

/-- The Program RAM word of an address in a cluster block: word w of CP(2n + k) at offset k × 0x2_0000 + 8w. The spec names the path and no
offset (R81; log entry 113, DESIGN CHOICE). -/
def pramOf (a : Nat) : Option (CpId × Nat) :=
  if 0x01000000 ≤ a ∧ a < 0x02000000 ∧ a % 0x100000 < 0x40000 then
    some (⟨(2 * ((a - 0x01000000) / 0x100000) + a % 0x100000 / 0x20000) % 32, by omega⟩, a % 0x20000 / 8)
  else none

/-- DBG_REGSEL and DBG_REGDATA answer only while the CP is halted (R605). -/
def State.regBarred (s : State) (a : Nat) : Bool :=
  match dbgPage a with
  | some (c, off) => (off == 0x18 || off == 0x20) && (s.cp (s.lead c)).run != .halted
  | none => false

/-- The response code of an access before the register itself answers (R411): 0 where it goes on. In SLEEP only the Custodian reaches the
event router (R431). -/
def State.csGate (s : State) (m : Nat) (part : Option PartId) (a : Nat) : Nat :=
  match targetOf a with
  | none => 1
  | some t =>
    if !s.portLive t then 2
    else if t = 24 ∧ s.sec.sys = .sleep ∧ m ≠ 34 ∧ !s.pwr.emu then 2
    else if masterBarred m a then 3
    else if (pramOf a).isSome then (if m = 34 ∨ m = 35 then 0 else 2)
    else if (regRowAt a).isNone then 1
    else if s.foreign part a || s.regBarred a then 2
    else 0

/-- A DECODE_ERR is counted, and the first captured (R413). -/
def State.decodeErr (s : State) (m a : Nat) (write : Bool) : State :=
  let s := s.cntSat (FAB_ERR.COUNT 0) 1
  if s.rdB (FAB_ERR.VALID 0) then s
  else (((s.wr (FAB_ERR.ADDR 0) a).wr (FAB_ERR.MASTER 0) m).wrB (FAB_ERR.WRITE 0) write).wr (FAB_ERR.VALID 0) 1

/-! ### What a read shows -/

/-- The CP of a cluster block by its half. -/
def cpIn (n k : Nat) : CpId := ⟨(2 * n + k) % 32, by omega⟩

/-- The code of how a CP runs (R397). -/
def CpRun.code : CpRun → Nat
  | .inReset => 0
  | .running => 1
  | .lockup => 2
  | .halted => 3

/-- CP_STAT. -/
def State.cpStat (s : State) (c : CpId) : Word :=
  let p := s.cp (s.lead c)
  BitVec.ofNat 64 (p.run.code + 16 * p.lcause.toNat + 256 * p.lcode.toNat + 65536 * b2n p.wdgReset)

/-- Registers of a cluster block (R397, R554). -/
def State.viewCluster (s : State) (a : Nat) : Word :=
  let n := (a - 0x01000000) / 0x100000
  let off := a % 0x100000
  let cl : ClusterId := ⟨n % 16, by omega⟩
  let w := s.reg a
  if off = 0x50008 then s.cpStat (cpIn n 0)
  else if off = 0x50108 then s.cpStat (cpIn n 1)
  else if off = 0x60008 then
    (LSTEP_STAT.UNDO n).setIn ((LSTEP_STAT.ON n).setIn w (b2n (s.lockstepCl cl))) (s.cp (cpOf cl)).undo.length
  else w

/-- SCHED_STAT: half duty, whether pipes of the partition await the end of a lead or an announcement, and whether a ramp paces them
(R241, R496). -/
def State.schedStat (s : State) (p : PartId) : Word :=
  let own (l : List Nat) : Bool := l.any (fun x => (s.part p).hasCl (x / 4))
  let half : Bool := decide (2 ≤ s.shed) || s.rdB PWR_STAT.CAPPED
  BitVec.ofNat 64 ((if half then 50 else 100) +
    256 * b2n ((fins 4).any (fun q => (s.rdB (LA_STAT.LEAD q) && own (s.pwr.la[q.val]).pipes) || own (s.pwr.la[q.val]).wait)) +
    512 * b2n ((fins 4).any (fun q => s.rdB (LA_STAT.RAMP q) && own (s.pwr.la[q.val]).pipes)))

/-- Registers of an Issue Scheduler (R241, R555). -/
def State.viewSched (s : State) (a : Nat) : Word :=
  let n := (a - 0x02000000) / 0x10000
  let off := a % 0x10000
  let p : PartId := ⟨n % 16, by omega⟩
  let w := s.reg a
  if 0x1000 ≤ off then
    let c : CpId := s.lead ⟨(off - 0x1000) / 0x40 % 32, by omega⟩
    let q := (s.cp c).vq
    if off % 0x40 = 0x10 then s.vstat c
    else if off % 0x40 = 0x18 then q.lo.setWidth 64
    else if off % 0x40 = 0x20 then q.map
    else w
  else if off = 0x08 then (s.part p).lit
  else if off = 0x10 then s.schedStat p
  else if off = 0x38 then (s.part p).slots.foldl (fun (w : Word) x => setBitOf w x.slot.val true) 0
  else if off = 0x48 then
    let pages := ((s.cpsOf p).map (fun c => ((s.cp c).vq.cow.map (fun x => x.n)).sum)).sum
    (SHD_STAT.COW_PAGES n).setIn ((SHD_STAT.ON n).setIn w (b2n (s.shadowOn p))) pages
  else w

/-- Registers of the paging block (R153). -/
def State.viewPaging (s : State) (a : Nat) : Word :=
  let p : PartId := ⟨(a - 0x03200000) / 0x1000 % 16, by omega⟩
  if a = FREE_NEAR.adr then BitVec.ofNat 64 (s.freeGran 0)
  else if a = FREE_CELLAR.adr then BitVec.ofNat 64 (s.freeGran 1)
  else if 0x03210000 ≤ a then s.reg a
  else if a % 0x1000 = 0 then BitVec.ofNat 64 ((s.part p).root.getD 0)
  else if a % 0x1000 = 8 then BitVec.ofNat 64 (s.held p 0 + 2 ^ 32 * s.held p 1)
  else if a % 0x1000 = 0x38 then (ALLOC_STAT.QFULL p).setIn (s.reg a) (b2n (s.part p).qFull)
  else s.reg a

/-- Registers of the transport engine (R480). -/
def State.viewKwt (s : State) (a : Nat) : Word :=
  let w := s.reg a
  if 0x04410000 ≤ a ∧ a < 0x04430000 then
    let n := (a - 0x04410000) / 32
    let x := s.ses n
    if a % 32 = 0x10 then
      (SESS_ACK.TX_UNA n).setIn w (match x.out with | r :: _ => r.f.seq.toNat | [] => s.rd (SESS_SEQ.TX_NEXT n))
    else if a % 32 = 0x18 then
      let w := (SESS_STAT.NOPAIR n).setIn w (b2n (!(s.paired && decide (16 ≤ n))))
      let w := (SESS_STAT.HELD n).setIn w x.held.length
      (SESS_STAT.FROZEN n).setIn ((SESS_STAT.TXOUT n).setIn w x.out.length) (b2n (s.sessFrozen n))
    else w
  else w

/-- Registers of the CRC units and DMA engines (R483, R484). -/
def State.viewDma (s : State) (a : Nat) : Word :=
  let n := a % 0x10000 / 0x1000
  if 0x04800000 ≤ a ∧ a < 0x04810000 then
    if a % 0x1000 = 0x10 then BitVec.ofNat 64 (s.cuResult n)
    else if a % 0x1000 = 0x08 then BitVec.ofNat 64 (s.cuRun n (s.rd (CU_CFG.POLY n)))
    else s.reg a
  else if a % 0x1000 = 0x28 then
    (DE_STAT.COUNT n).setIn (s.reg a) (match vecAt? s.net.de n with | some d => d.queue.length | none => 0)
  else s.reg a

/-- Registers of the power and thermal blocks (R514, R515). -/
def State.viewPower (s : State) (a : Nat) : Word :=
  if a = PWR_STAT.adr then
    PWR_STAT.CLK_LIMITED.setIn (s.reg a) (b2n ((fins 4).any (fun q => decide (s.clock q < s.pwr.target[q.val]))))
  else if 0x06100010 ≤ a ∧ a < 0x06100030 then
    let q : QuadId := ⟨(a - 0x06100010) / 8 % 4, by omega⟩
    (THERM_Q.CLK q).setIn (s.reg a) (s.clock q)
  else s.reg a

/-- Registers of the pair engine (R553). -/
def State.viewPair (s : State) (a : Nat) : Word :=
  if a = PAIR_STAT.adr then
    let w := PAIR_STAT.HB_ALIVE.setIn (s.reg a) (b2n (s.hbAlive && !s.rdB SB_STRAP.HBWIRE))
    let w := PAIR_STAT.LEASE.setIn w (b2n s.leaseHeld)
    let w := PAIR_STAT.PRESSURE.setIn w (b2n s.pair.pressHold)
    PAIR_STAT.HBWIRE_FAULT.setIn w (b2n (s.rdB PAIR_STAT.HBWIRE_FAULT || s.rdB SB_STRAP.HBWIRE))
  else s.reg a

/-- Registers of the debug block (R611, R612). -/
def State.viewDebug (s : State) (a : Nat) : Word :=
  match dbgPage a with
  | some (c, off) =>
    if off = 0x08 then
      let p := s.cp (s.lead c)
      let st := if p.run = .halted then 2 else if p.haltReq then 1 else 0
      BitVec.ofNat 64 (st + 16 * p.dbg.reason.toNat + 256 * p.dbg.index.toNat + 2048 * b2n p.dbg.late + 4096 * s.rd (DBG_CPSTAT.REFUSED c))
    else s.reg a
  | none =>
    let n := (a - 0x09010000) / 0x100
    if 0x09010000 ≤ a ∧ a < 0x09011000 ∧ (a % 0x100 = 0x18 ∨ a % 0x100 = 0x20) then
      BitVec.ofNat 64 (leNat (s.bytesAt (traceKey n (s.rd (TRACE_RADDR.SLOT n)) + (a % 0x100 - 0x18)) 8))
    else s.reg a

/-- MODE_CP: MODE.CT and MODE.DET in force (R630). -/
def State.modeCp (s : State) : Word :=
  s.cpMask (fun p => p.a.ct) &&& 0xFFFFFFFF ||| (s.cpMask (fun p => p.a.det) <<< 32)

/-- Every quadrant clock is at its target (R622). -/
def State.onTarget (s : State) : Bool := (fins 4).all (fun q => decide (s.clock q = ofQuad s.pwr.target q))

/-- Registers of the structure and mode status block (R630). -/
def State.viewMode (s : State) (a : Nat) : Word :=
  let w := s.reg a
  if a = SYS_STATE.adr then
    let w := SYS_STATE.EMU.setIn (SYS_STATE.SHED.setIn (SYS_STATE.STATE.setIn w s.stateCode) s.shed) (b2n s.pwr.emu)
    (w &&& 0xFFFFFFFF) ||| (s.cpMask (fun p => p.run == .lockup) <<< 32)
  else if a = MODE_CP.adr then s.modeCp
  else if a = MODE_DBG.adr then
    MODE_DBG.ATTACHED.setIn ((w &&& 0xFFFFFFFF) ||| (s.cpMask (fun p => p.run == .halted) <<< 32)) (s.rd TWD_CTL.ATTACH)
  else if 0x0B000140 ≤ a ∧ a < 0x0B0001C0 then
    let p : PartId := ⟨(a - 0x0B000140) / 8 % 16, by omega⟩
    let det := match (s.part p).rcd with | some r => r.det | none => false
    (MODE_PT.LIVE_SHD p).setIn ((MODE_PT.BOUND p).setIn w (b2n (det && decide (s.shed ≤ 1) && s.onTarget))) (b2n (s.shadowOn p))
  else w

/-- What a register holds as software sees it, write-only fields apart. -/
def State.view (s : State) (a : Nat) : Word :=
  if a < 0x02000000 then s.viewCluster a
  else if a < 0x03000000 then s.viewSched a
  else if a < 0x03200000 then s.reg a
  else if a < 0x04000000 then s.viewPaging a
  else if a < 0x04400000 then s.reg a
  else if a < 0x04800000 then s.viewKwt a
  else if a < 0x05000000 then s.viewDma a
  else if a = ERR_SUM.adr then BitVec.ofNat 64 s.errSum
  else if a = SCRUB_STAT.adr then
    SCRUB_STAT.PAUSED.setIn (SCRUB_STAT.FAST.setIn (s.reg a) (b2n (s.rdB REV_CTL.SWEEP_NOW && !s.scrubStopped))) (b2n s.scrubStopped)
  else if a < 0x06000000 then s.reg a
  else if a < 0x07000000 then s.viewPower a
  else if a < 0x08000000 then s.viewPair a
  else if a = SEC_STAT.adr then SEC_STAT.DBG_ATTACHED.setIn (s.reg a) (s.rd TWD_CTL.ATTACH)
  else if a < 0x09000000 then s.reg a
  else if a < 0x0A000000 then s.viewDebug a
  else if a < 0x0B000000 then s.reg a
  else if a < 0x0C000000 then s.viewMode a
  else if a = UC_TIME.adr then s.ucTimeOf (s.rd UC_TIME_SEL.OP)
  else s.reg a

/-- Write-only fields read 0 (R13). -/
def hideWo (r : RegRow) (v : Word) : Word :=
  r.fields.foldl (fun w f => if f.acc = .wo then w &&& ~~~(lowMask f.width <<< f.lsb) else w) v

/-- A consuming read clears the read-clear fields; where it clears the corrections charged to a pseudo-channel, its lanes count afresh
(R13, R345). -/
def State.consumeReg (s : State) (row : RegRow) (a : Nat) : State :=
  let s := s.setReg a (clearRc row (s.reg a))
  if NM_MARGIN.adr 0 0 ≤ a ∧ a < NM_CFG.adr 16 ∧ 0x100 ≤ a % 0x10000 then
    let pk := (a - 0x03000000) / 0x10000 * 32 + a % 0x10000 / 8 - 32
    s.modM (fun m => { m with lanes := m.lanes.filter (fun e => e.1 / 64 ≠ pk) })
  else s

/-- A read of Control Space by a master: response code, data and state; a peek clears nothing (R13, R17, R411). -/
def State.csRead (s : State) (m : Nat) (part : Option PartId) (consume : Bool) (addr : Nat) : Nat × Word × State :=
  let a := addr / 8 * 8
  let g := s.csGate m part a
  if g = 1 then (1, 0, s.decodeErr m a false)
  else if g ≠ 0 then (g, 0, s)
  else
    match pramOf a with
    | some (c, i) =>
      let r := s.pramRead (s.lead c) i
      match r.1 with
      | some w => (0, w, r.2)
      | none => (5, 0, r.2)
    | none =>
    match dbgPage a with
    | some (c, 0x20) => let r := s.regDataRead c; (r.1, r.2.1, if r.1 = 0 then r.2.2.setReg a r.2.1 else r.2.2)
    | _ =>
      match regRowAt a with
      | some row => (0, hideWo row (s.view a), if consume then s.consumeReg row a else s)
      | none => (1, 0, s)

/-! ### What a write does -/

/-- A plain write (R13, R14). -/
def State.putPlain (s : State) (a : Nat) (v : Word) : State :=
  match regRowAt a with
  | some row => s.setReg a (plainWrite row (s.reg a) v)
  | none => s

/-- Cluster blocks (R397). -/
def State.putCluster (s : State) (a : Nat) (v : Word) : State :=
  let n := (a - 0x01000000) / 0x100000
  let off := a % 0x100000
  let c := cpIn n (if 0x50100 ≤ off then 1 else 0)
  if off = 0x50000 ∨ off = 0x50100 then
    if v.toNat % 4 = 1 ∧ (s.cp (s.lead c)).run ≠ .inReset then s.releaseCp c else s
  else if off = 0x50008 ∨ off = 0x50108 then
    if bitOf v 16 then s.modCp (s.lead c) (fun p => { p with wdgReset := false }) else s
  else if off = 0x50010 ∨ off = 0x50110 then s.doorbell (s.lead c) (v.setWidth 4)
  else s.putPlain a v

/-- Issue Schedulers (R236, R241). -/
def State.putSched (s : State) (a : Nat) (v : Word) : State :=
  let n := (a - 0x02000000) / 0x10000
  let off := a % 0x10000
  if 0x1000 ≤ off ∧ off % 0x40 = 0 then
    let c : CpId := ⟨(off - 0x1000) / 0x40 % 32, by omega⟩
    let l := s.lead c
    let cmd := v.toNat % 16
    if s.rd (VQ_CTL.STATE n l) = 1 then s
    else if 1 ≤ cmd ∧ cmd ≤ 7 then s.vqCommand c cmd ⟨v.toNat / 256 % 64, by omega⟩
    else s.wr (VQ_CTL.SLOT n l) (v.toNat / 256)
  else
    let s := s.putPlain a v
    if off = 0 ∧ s.rd (SCHED_CFG.CHAIN_WAIT n) = 0 then
      ((s.cpsOf (Fin.ofNat 16 n)).filter (fun c => (s.cp c).vq.isOpen)).foldl (fun s c => (s.modVq c VQueue.close).vqSettle c) s
    else s

/-- A watermark write with WR_LO at or above WR_HI leaves both fields (R345). -/
def watermarks (old v : Word) : Word :=
  if nbits v.toNat 8 8 ≤ nbits v.toNat 16 8 then (v &&& ~~~0xFFFF00#64) ||| (old &&& 0xFFFF00#64) else v

/-- Memory controllers (R326, R345). -/
def State.putMem (s : State) (a : Nat) (v : Word) : State :=
  if a < 0x03100000 then
    let n : StackId := ⟨(a - 0x03000000) / 0x10000 % 16, by omega⟩
    if a % 0x10000 = 0 then s.putPlain a (watermarks (s.reg a) v)
    else if a % 0x10000 = 0x28 then (if bitOf v 48 then (s.wr (NM_CAL.WL_NOW n) 1).wlTrigger n else s)
    else s.putPlain a v
  else if a < 0x03108000 ∧ a % 0x1000 = 0 then s.putPlain a (watermarks (s.reg a) v)
  else s.putPlain a v

/-- Paging (R153). TURN_CFG holds what is written, also outside the ranges of PERIOD_MS and LOWATER (log entry 110, DESIGN CHOICE). -/
def State.putPaging (s : State) (a : Nat) (v : Word) : State :=
  let p : PartId := ⟨(a - 0x03200000) / 0x1000 % 16, by omega⟩
  if 0x03210000 ≤ a then s.putPlain a v
  else if a % 0x1000 = 0x10 then s.heapWrite p false v
  else if a % 0x1000 = 0x18 then s.heapWrite p true v
  else if a % 0x1000 = 0x30 then s.hintWrite p v
  else s.putPlain a v

/-- ETH_CFG: MODE keeps its value while EN is 1 or where the port lacks the mode; MAXFRAME is clamped (R436, R478). -/
def State.ethCfg (s : State) (p : Nat) (v : Word) : State :=
  let mode := v.toNat % 8
  let fits : Bool := if p = 3 then mode == 4 || mode == 5 else if p = 2 then mode == 0 else decide (mode < 4)
  let v := if !s.rdB (ETH_CFG.EN p) && fits then v else (ETH_CFG.MODE p).setIn v (s.rd (ETH_CFG.MODE p))
  let v := (ETH_CFG.MAXFRAME p).setIn v (min 9216 (max 1518 ((ETH_CFG.MAXFRAME p).ofWord v)))
  s.putPlain (ETH_CFG.adr p) v

/-- PTP_STEP: a signed step in ns of the time base, which stays at or above 0 (R441, R479). -/
def State.ptpStep (s : State) (v : Word) : State :=
  let t : Int := (s.rd PTP_SEC.SEC * 1000000000 + s.rd PTP_NS.NS : Nat) + sextN 32 v.toNat
  let t := t.toNat
  (s.wr PTP_SEC.SEC (t / 1000000000)).wr PTP_NS.NS (t % 1000000000)

/-- The transport engine (R461, R469, R479 to R482). -/
def State.putKwt (s : State) (a : Nat) (v : Word) : State :=
  if a = PTP_STEP.adr then s.ptpStep v
  else if 0x04410000 ≤ a ∧ a < 0x04430000 then
    if a % 32 = 0 then s.sessCtl ((a - 0x04410000) / 32) (v.setWidth 2) else s.putPlain a v
  else if 0x04440000 ≤ a ∧ a < 0x04444000 then
    let q := (a - 0x04440000) / 64
    if a % 64 = 0 then (if s.rdB (QS_CTL.EN q) then s else s.putPlain a v)
    else if a % 64 = 0x38 then s.notifyQueue q v
    else if 0x20 ≤ a % 64 then s.setReg a v
    else s.putPlain a v
  else if h : 0x04480000 ≤ a ∧ a < 0x04481100 ∧ a % 0x100 = 0x10 then
    let tp : Fin 17 := ⟨(a - 0x04480000) / 0x100, by omega⟩
    if v.toNat % 4 = 1 then s.tokBind tp
    else if v.toNat % 4 = 2 then s.tokUnbind tp (nbits v.toNat 16 16)
    else s
  else s.putPlain a v

/-- CRC units and DMA engines (R472 to R474, R483, R484). -/
def State.putDma (s : State) (a : Nat) (v : Word) : State :=
  let n : EngId := ⟨a % 0x10000 / 0x1000 % 16, by omega⟩
  let off := a % 0x1000
  if a < 0x04900000 then (if off = 8 then s.cuVal n v else s.putPlain a v)
  else if off < 0x18 then s.setReg a v
  else if off = 0x18 then s.deQueue n v
  else if off = 0x20 then (if v.toNat % 4 = 1 then s.deResume n else if v.toNat % 4 = 2 then s.deFlush n else s)
  else s.putPlain a v

/-- The event router (R428, R429, R434). -/
def State.putEvt (s : State) (a : Nat) (v : Word) : State :=
  if a = EVT_SWTRIG.adr then s.swTrig v
  else if a = EVT_COMMIT.adr then (if bitOf v 0 then s.commitGo else s)
  else if 0x05000100 ≤ a ∧ a < 0x05000140 then
    let g : Fin 8 := ⟨(a - 0x05000100) / 8 % 8, by omega⟩
    (s.putPlain a v).groupEn g (bitOf v 0)
  else s.putPlain a v

/-- INJ_CTL: its fields, ARM and DISARM (R370, R375). -/
def State.injCtl (s : State) (v : Word) : State :=
  let s := s.setReg INJ_CTL.adr (v &&& 0x7FFC)
  let s := if bitOf v 0 then s.arm else s
  if bitOf v 1 then s.wr INJ_STAT.ARMED 0 else s

/-- Error management (R366, R370, R374, R375). -/
def State.putErr (s : State) (a : Nat) (v : Word) : State :=
  if 0x05200100 ≤ a ∧ a < 0x05200200 then s.bktWrite ⟨(a - 0x05200100) / 8 % 32, by omega⟩ v
  else if a = INJ_SEL.adr then (if s.rdB INJ_STAT.ARMED then s else s.putPlain a v)
  else if a = INJ_CTL.adr then s.injCtl v
  else if a = RAW_CTL.adr then
    let s := s.putPlain a v
    if bitOf v 3 then s.rawAccess else s
  else s.putPlain a v

/-- LA_CFG of a quadrant, clamped; it takes effect at the next announcement (R497, R514). -/
def State.laCfg (s : State) (q : QuadId) (v : Word) : State :=
  let d := (LA_CFG.DIDT_REQ q).ofWord v
  let s := s.wr (LA_CFG.LEAD_NS q) (min 8000 (max 500 ((LA_CFG.LEAD_NS q).ofWord v)))
  s.wr (LA_CFG.DIDT_REQ q) (if d = 0 then 0 else min 400 (max 25 d))

/-- Power and shedding (R514). -/
def State.putPower (s : State) (a : Nat) (v : Word) : State :=
  let q : QuadId := ⟨(a - 0x06000100) / 0x40 % 4, by omega⟩
  if a = SHED_FLOOR.adr then s.setFloor (v.toNat % 8)
  else if a = PWR_LIMIT.adr then
    s.putPlain a (PWR_LIMIT.LIMIT_W.setIn v (min (s.rd PWR_LIMIT.TDP_W) (max 200 (PWR_LIMIT.LIMIT_W.ofWord v))))
  else if a = PWR_SLEEP.adr then
    let s := s.wrB PWR_SLEEP.SRAM_RET (bitOf v 1)
    if bitOf v 0 then s.sleepReq else s
  else if 0x06000100 ≤ a ∧ a < 0x06000200 then
    if a % 0x40 = 0 then s.laCfg q v
    else if a % 0x40 = 0x18 then s.putPlain a ((DROOP_CFG.THRESH_MV q).setIn v (min 120 (max 30 ((DROOP_CFG.THRESH_MV q).ofWord v))))
    else if a % 0x40 = 0x30 then
      let x := min 25 (max (-25) (sextN 6 v.toNat))
      s.wr (PWR_VOFF.OFFS q) (x % 64).toNat
    else s.putPlain a v
  else s.putPlain a v

/-- MBX_CTL: GO starts a request unless one is busy; a LEN out of range refuses it (R587). -/
def State.mbxCtl (s : State) (v : Word) : State :=
  if s.rd MBX_STAT.STATE = 1 then s
  else
    let n := MBX_CTL.LEN.ofWord v
    let s := s.wr MBX_CTL.LEN n
    if !bitOf v 0 then s
    else if n = 0 ∨ 16384 < n then ((s.wr MBX_STAT.STATE 3).wr MBX_STAT.STATUS 8).wr MBX_STAT.RLEN 0
    else s.wr MBX_STAT.STATE 1

/-- The mailbox and the update block (R587, R588). -/
def State.putSec (s : State) (a : Nat) (v : Word) : State :=
  if a = MBX_CTL.adr then s.mbxCtl v
  else if a = UPD_LOCK.adr then
    if bitOf v 0 then (s.wr UPD_LOCK.LOCK 1).seals (fun x => { x with updLock := true }) else s
  else if a = UPD_CFG.adr then
    let s := s.putPlain a v
    s.seals (fun x => { x with auto := s.rdB UPD_CFG.AUTO, confirmS := BitVec.ofNat 16 (s.rd UPD_CFG.CONFIRM_S) })
  else s.putPlain a v

/-- Debug and trace (R605, R606, R612): a freeze that is lifted lets held work go on. -/
def State.putDebug (s : State) (a : Nat) (v : Word) : State :=
  match dbgPage a with
  | some (c, off) =>
    if off = 0 then s.dbgCtl c v
    else if off = 0x10 then (s.putPlain a v).thaw
    else s.putPlain a v
  | none =>
    if 0x09010000 ≤ a ∧ a < 0x09011000 ∧ a % 0x100 = 0 then s.traceCfg ⟨(a - 0x09010000) / 0x100 % 16, by omega⟩ v
    else s.putPlain a v

/-- Structure and mode status (R65, R66). -/
def State.putMode (s : State) (a : Nat) (v : Word) : State :=
  if a = STRUCT_DRAIN.adr then s.drainWrite (v.setWidth 16)
  else if a = STRUCT_LIVE.adr then (if v.toNat % 4 = 1 then s.liveApply else s)
  else s.putPlain a v

/-- A write of a register that exists, with all that follows from it. -/
def State.put (s : State) (a : Nat) (v : Word) : State :=
  if a < 0x02000000 then s.putCluster a v
  else if a < 0x03000000 then s.putSched a v
  else if a < 0x03200000 then s.putMem a v
  else if a < 0x04000000 then s.putPaging a v
  else if a < 0x04400000 then (if a % 0x100000 = 0 then s.ethCfg ((a - 0x04000000) / 0x100000) v else s.putPlain a v)
  else if a < 0x04800000 then s.putKwt a v
  else if a < 0x05000000 then s.putDma a v
  else if a < 0x05100000 then s.putEvt a v
  else if a < 0x05200000 then s.putPlain a v
  else if a < 0x06000000 then s.putErr a v
  else if a < 0x06100000 then s.putPower a v
  else if a = PAIR_CTL.adr then s.pairCtl (v.toNat % 8)
  else if a < 0x08000000 then s.putPlain a v
  else if a < 0x09000000 then s.putSec a v
  else if a < 0x0A000000 then s.putDebug a v
  else if a < 0x0B000000 then s.putPlain a v
  else if a < 0x0C000000 then s.putMode a v
  else s.putPlain a v

/-- A write of Control Space by a master: response code and state (R13, R411). -/
def State.csWrite (s : State) (m : Nat) (part : Option PartId) (addr : Nat) (v : Word) : Nat × State :=
  let a := addr / 8 * 8
  let g := s.csGate m part a
  if g = 1 then (1, s.decodeErr m a true)
  else if g ≠ 0 then (g, s)
  else
    match pramOf a with
    | some (c, i) => (0, s.pramStore (s.lead c) i (v.setWidth 56))
    | none =>
    match dbgPage a with
    | some (c, 0x20) => let r := s.regDataWrite c v; (r.1, if r.1 = 0 then r.2.setReg a v else r.2)
    | _ => (0, s.put a v)

end Sys2Proof.Machine
end

