-- ==== Sys2Proof/Machine/Custodian.lean ====
section
/-! DEFINITION. The Custodian: management commands and their authentication (R475, R573 to R578), field update (R579 to R583), what
RECOVERY serves (R585, R586), the mailbox (R587), and the rows by which KWT datagrams reach the part. -/

namespace Sys2Proof.Machine

/-! ### Authentication (R574) -/

/-- A management request: the session or the mailbox that it comes from, SESSION and SEQ as the signature covers them, whether it came
on M0, and its payload. -/
structure MgmtReq where
  sess : Nat
  head : List Byte
  m0 : Bool
  payload : List Byte
  deriving DecidableEq, Repr

/-- The management key: that of the running structure image, else the claimed key. -/
def State.mgmtKey (s : State) : List Byte :=
  if s.sec.src = 1 ∨ s.sec.src = 2 then imgKey s.sec.image else s.sec.set.ownerKey

/-- Use a nonce: it serves one request, on the session that asked for it, within 10 s. -/
def State.useNonce (s : State) (sess : Nat) (n : List Byte) : Bool × State :=
  (s.sec.nonces.any (fun x => x.bytes == n && x.sess == sess && decide (s.now ≤ x.at_ + 10000000000)),
   s.modSec (fun e => { e with nonces := e.nonces.filter (fun x => x.bytes != n) }))

/-- The authentication block at the end of a request, under a key; a failure feeds the SECURITY bucket. -/
def State.authOk (s : State) (q : MgmtReq) : Bool × State :=
  let k := q.payload.length - 3328
  let block := q.payload.drop k
  let nonce := block.take 16
  let u := s.useNonce q.sess nonce
  let v := u.2.verify s.mgmtKey "KORNOELM-MGMT" (q.head ++ nonce ++ s.idkHash ++ q.payload.take k) (slice block 16 3309)
  let ok := u.1 && v.1 && decide (3328 ≤ q.payload.length) && !s.mgmtKey.isEmpty && zeros (block.drop 3325)
  (ok, if ok then v.2 else v.2.bucket 21 1)

/-! ### Commands (R475, R575) -/

/-- The commands that need authentication. -/
def mgmtAuth (cmd : Nat) : Bool := [1, 2, 3, 0x14, 0x15, 0x17, 0x18, 0x19, 0x1A, 0x1B].contains cmd

/-- What RECOVERY accepts for its cause (R585, R586). -/
def recoveryServes (cause cmd : Nat) : Bool :=
  if cmd = 0x20 then true
  else if cmd = 0x10 ∨ cmd = 0x11 ∨ cmd = 0x12 then !(decide (3 ≤ cause) && decide (cause ≤ 5))
  else if cmd = 0x21 then cause == 6 || cause == 7
  else if cmd = 0x15 then cause == 9
  else false

/-- An answer without effect. -/
def custBad (s : State) (st : Byte) : CustAns := ⟨st, 0, [], s, id⟩

/-- An answer with a payload. -/
def custOk (s : State) (payload : List Byte) : CustAns := ⟨0, 0, payload, s, id⟩

/-- GETNONCE: 16 random bytes; the oldest of 16 goes first. -/
def State.getNonce (s : State) (sess : Nat) : CustAns :=
  let r := s.rand 16
  custOk (r.2.modSec (fun e => { e with
    nonces := (if 16 ≤ e.nonces.length then e.nonces.drop (e.nonces.length - 15) else e.nonces) ++ [⟨r.1, sess, s.now⟩] })) r.1

/-- GETID. -/
def State.getId (s : State) : CustAns :=
  let atk := mldsaKey s.atkSeed
  custOk s (mldsaKey s.idkSeed ++ atk ++ mldsa s.idkSeed "KORNOELM-ATK" (atk ++ [BitVec.ofNat 8 s.svn]))

/-- GETKEM. -/
def State.getKem (s : State) : CustAns :=
  let k := kemPub s.sec.kem
  custOk s (k ++ mldsa s.atkSeed "KORNOELM-KEM" k)

/-- The flags of a partition in a report (R577). -/
def State.partFlags (s : State) (p : PartId) : List Byte :=
  match (s.part p).rcd with
  | none => leBytes 4 0
  | some r =>
    leBytes 4 (1 + 2 * b2n r.lockstep + 4 * b2n r.shadow + 8 * b2n r.det + 16 * b2n r.ct + r.mask.toNat * 2 ^ 16)

/-- SHAKE256 of the microcode patch set in force, or zeros. -/
def State.patchHash (s : State) (b : Nat) : List Byte :=
  match (fwSects (s.bankHead b)).find? (fun x => x.1 == 2) with
  | some x => if s.rdB UC_STAT.PATCHED then shake 32 (s.flashRead (bankBase b + 0x4000 + x.2.1) x.2.2) else List.replicate 32 0
  | none => List.replicate 32 0

/-- A hash, or 32 zero bytes. -/
def hashOr (h : List Byte) : List Byte := if h.isEmpty then List.replicate 32 0 else h

/-- The body of an attestation report (R577). -/
def State.reportBody (s : State) (nonce : List Byte) : List Byte :=
  let b := s.rd BOOT_STAT.BANK
  let m := s.bankHead b
  let bits (l : List Bool) : Nat := l.foldr (fun x n => b2n x + 2 * n) 0
  leBytes 4 0x41545354 ++ leBytes 2 1 ++ leBytes 2 384 ++ nonce ++ s.idkHash ++ fwRoot m ++ leBytes 8 (fwSeq m) ++
    leBytes 4 (leAt m 0x10 4) ++ leBytes 1 (leAt m 0x14 1) ++ leBytes 1 s.svn ++
    leBytes 2 (bits [b == 1, s.rdB UPD_STAT.TRIAL, s.rdB UPD_STAT.FALLBACK]) ++ s.patchHash b ++
    leBytes 8 (s.reg UCODE_VER.adr).toNat ++ (List.range 8).foldl (fun l i => l ++ leBytes 8 (s.reg (STRUCT_DIGEST.adr i)).toNat) [] ++
    leBytes 8 (s.rd STRUCT_SEQ.SEQ) ++ hashOr s.sec.set.ownerHash ++
    leBytes 8 (bits [s.dbgClosed, popcount (s.fuseVal 12) != 0, s.rdB FUSE_STAT.WEAK, s.rdB SEC_STAT.SET_FRESH]) ++
    leBytes 8 (bits [s.dbgPol.portEn && !s.dbgClosed, s.rdB TWD_CTL.ATTACH, s.sec.attachedEver]) ++
    (fins 16).foldl (fun l p => l ++ s.partFlags p) [] ++ leBytes 8 (s.reg PAIR_EPOCH.adr).toNat ++
    leBytes 8 (s.reg PAIR_STAT.adr).toNat ++ leBytes 8 (s.reg RST_CAUSE.adr).toNat ++ leBytes 8 s.sec.colds ++
    leBytes 8 (s.rd PTP_SEC.SEC)

/-- ATTEST: the body, and an ATK signature over it. -/
def State.attest (s : State) (nonce : List Byte) : CustAns :=
  let b := s.reportBody nonce
  custOk s (b ++ mldsa s.atkSeed "KORNOELM-ATTEST" b)

/-- CLAIM of a part with no owner, on M0 (R573). -/
def State.claimOwner (s : State) (q : MgmtReq) (body : List Byte) : CustAns :=
  if !q.m0 ∨ !s.sec.set.ownerHash.isEmpty then custBad s stBadop
  else
    let key := body.take 1952
    let good := (s.sec.nonces.filter (fun x => x.sess == q.sess && decide (s.now ≤ x.at_ + 10000000000))).map (·.bytes)
    let i := s.inject 0x45 (s.rd INJ_SEL.INST)
    match good.find? (fun n => dsaVerify key (ctxMsg "KORNOELM-CLAIM" (s.idkHash ++ n)) (slice body 1952 3309)) with
    | some n =>
      if i.1 then custBad (i.2.bucket 21 1) stAuth
      else
        let h := shake 32 key
        let s := (i.2.useNonce q.sess n).2.seals (fun x => { x with ownerKey := key, ownerHash := h })
        custOk ((s.wr SEC_STAT.OWNED 1).wr STRUCT_SRC.OWNED 1) []
    | none => custBad (i.2.bucket 21 1) stAuth

/-- The settings slots, both structure copies, the staging slot and the download record are erased (R575). -/
def State.eraseOwned (s : State) : State :=
  ((((s.modSec (fun e => { e with slots := Vector.replicate 4 none, dl := none, slotWritten := true })).flashErase 0x0E000000 0x200000).flashErase
    0x0C000000 0x100000).flashErase 0x08000000 0x10000)

/-- SETKEY: the wrapped key is opened, sealed, and given to its engine (R576). -/
def State.setKey (s : State) (body : List Byte) : CustAns :=
  let id := leAt body 0 2
  let kind := nbits id 12 4
  if !(kind == 1 || kind == 2) || nbits id 2 2 != 0 || decide (3 < nbits id 8 4) || decide (7 < nbits id 4 4) then custBad s stBadop
  else
    let secret := kemDecaps s.sec.kem (slice body 2 1088)
    let wrap := shake 32 (secret ++ ascii "KORNOELM-WRAP")
    let iv := slice body 1090 12
    let ct := slice body 1102 32
    if !gcmOk wrap iv (body.take 2) ct (slice body 1134 16) then custBad (s.bucket 21 1) stAuth
    else
      let key := gcmDec wrap iv ct
      custOk ((s.seals (fun x => if kind = 1 then { x with witnessKey := key }
        else { x with saks := x.saks.filter (fun k => k.1 != id) ++ [(id, key)] })).showKeys) []

/-- SETNET: port, IPv4 and IPv6 addresses and PTP port (log entry 23, DESIGN CHOICE). -/
def State.setAddrs (s : State) (body : List Byte) : CustAns :=
  let p := leAt body 0 1
  let v4 := BitVec.ofNat 32 (leAt body 1 4)
  let v6 := BitVec.ofNat 128 (leAt body 5 16)
  let ptp := leAt body 21 1
  if 3 < p ∨ 3 < ptp then custBad s stBadop
  else custOk ((s.seals (fun x => { x with
    ipv4 := x.ipv4.filter (fun a => a.1 != p) ++ [(p, v4)], ipv6 := x.ipv6.filter (fun a => a.1 != p) ++ [(p, v6)]
    ptpPort := BitVec.ofNat 2 ptp })).showAddrs) []

/-- The debugger is detached: an emulated SLEEP becomes a real one (R591, R607, R617). -/
def State.detach (s : State) : State :=
  let s := (s.wr TWD_CTL.ATTACH 0).wr SEC_STAT.DBG_ATTACHED 0
  if s.pwr.emu then (s.modPwr (fun w => { w with emu := false })).darken else s

/-- CLOSEDBG: the fuse is blown; the port is disabled, halted CPs resume, and HOLD is neither sent nor honoured (R578). -/
def State.closeDbg (s : State) : State :=
  let s := ((s.burn 14 1).wr SEC_STAT.DBG_CLOSED 1).detach
  let s : State := { s with dbgPol := DbgPol.closed, twd := ⟨none, none⟩ }
  let s := (fins 32).foldl (fun (s : State) c => if (s.cp c).run = .halted then s.unhalt c false else s) (s.wr PAIR_STAT.HOLD 0)
  s.holdSync.thaw

/-- A reset by command: out of RECOVERY it is the exit from there (R557, R587). -/
def State.mgmtReset (cold : Bool) (s : State) : State :=
  if s.sec.sys = .recovery then s.coldReset 8
  else if cold || s.sec.sys != .run then s.coldReset 6
  else s.warmReset 6

/-- RDREG and WRREG, as master 34. -/
def State.mgmtReg (s : State) (write : Bool) (body : List Byte) : CustAns :=
  if write then
    let r := s.csWrite 34 none (leAt body 0 4) (BitVec.ofNat 64 (leAt body 4 8))
    ⟨if r.1 = 0 then 0 else stFabric, BitVec.ofNat 8 r.1, [], r.2, id⟩
  else
    let r := s.csRead 34 none true (leAt body 0 4)
    ⟨if r.1 = 0 then 0 else stFabric, BitVec.ofNat 8 r.1, if r.1 = 0 then leBytes 8 r.2.1.toNat else [], r.2.2, id⟩

/-- The body length of a command (log entry 23, DESIGN CHOICE). -/
def mgmtLen (cmd : Nat) : Nat :=
  if cmd = 1 then 4 else if cmd = 2 then 12 else if cmd = 0x12 then 32 else if cmd = 0x13 then 5261
  else if cmd = 0x15 ∨ cmd = 0x18 then 1 else if cmd = 0x17 then 1150 else if cmd = 0x1A then 22 else if cmd = 0x1B then 32 else 0

/-- An authenticated or open command that is served. -/
def State.mgmtRun (s : State) (q : MgmtReq) (cmd : Nat) (body : List Byte) : CustAns :=
  if cmd = 1 then s.mgmtReg false body
  else if cmd = 2 then s.mgmtReg true body
  else if cmd = 3 then custOk (if s.sec.sys = .sleep then (s.fire 0x251).wakeEvent else s) []
  else if cmd = 0x10 then s.getId
  else if cmd = 0x11 then s.getNonce q.sess
  else if cmd = 0x12 then s.attest body
  else if cmd = 0x13 then s.claimOwner q body
  else if cmd = 0x14 then ⟨0, 0, [], s.eraseOwned, fun s => s.coldReset 6⟩
  else if cmd = 0x15 then ⟨0, 0, [], s, State.mgmtReset (leAt body 0 1 % 2 == 1)⟩
  else if cmd = 0x16 then s.getKem
  else if cmd = 0x17 then s.setKey body
  else if cmd = 0x18 then
    let v := leAt body 0 1 % 2 == 1
    custOk ((s.wrB UPD_LOCK.LOCK v).seals (fun x => { x with updLock := v })) []
  else if cmd = 0x19 then custOk s.closeDbg []
  else if cmd = 0x1A then s.setAddrs body
  else if cmd = 0x1B then custOk (s.seals (fun x => { x with peerHash := body })) []
  else if cmd = 0x20 then custOk s (leBytes 8 (s.reg RST_CAUSE.adr).toNat ++ leBytes 8 (s.reg BOOT_STAT.adr).toNat)
  else ⟨0, 0, [], s.modSec (fun e => { e with slots := Vector.replicate 4 none }), fun s => s.coldReset 8⟩

/-- The commands that there are; the last two in RECOVERY alone. -/
def mgmtKnown (recovery : Bool) (cmd : Nat) : Bool :=
  (decide (1 ≤ cmd) && decide (cmd ≤ 3)) || (decide (0x10 ≤ cmd) && decide (cmd ≤ 0x1B)) || (recovery && (cmd == 0x20 || cmd == 0x21))

/-- A management request (R475). -/
def State.mgmt (s : State) (q : MgmtReq) : CustAns :=
  let cmd := leAt q.payload 0 2
  let rec_ := s.sec.sys == .recovery
  let auth := mgmtAuth cmd
  let len := mgmtLen cmd
  if q.payload.length ≠ 8 + len + (if auth then 3328 else 0) ∨ leAt q.payload 2 2 ≠ 0 ∨ leAt q.payload 4 4 ≠ len ∨
      !mgmtKnown rec_ cmd ∨ (rec_ ∧ !recoveryServes (s.rd RST_CAUSE.RCAUSE) cmd) then custBad s stBadop
  else
    let a := if auth then s.authOk q else (true, s)
    if !a.1 then custBad a.2 stAuth else a.2.mgmtRun q cmd (slice q.payload 8 len)

/-! ### Field update (R579 to R583) -/

/-- A result code: NEW tells that CODE has changed. -/
def State.updCode (s : State) (c : Nat) : State :=
  (if s.rd UPD_RESULT.CODE = c then s else s.wr UPD_RESULT.NEW 1).wr UPD_RESULT.CODE c

/-- The answer to a sub-operation: UPD_RESULT, and its status. -/
def State.updAns (s : State) (extra : List Byte) (after : State → State) : CustAns :=
  ⟨if s.rd UPD_RESULT.CODE = 0 then 0 else stBadop, 0, leBytes 8 (s.reg UPD_RESULT.adr).toNat ++ extra, s, after⟩

/-- The answer with a code. -/
def State.updEnd (s : State) (c : Nat) : CustAns := (s.updCode c).updAns [] id

/-- BEGIN of a firmware download. -/
def State.beginFw (s : State) (head : List Byte) : CustAns :=
  match s.heldDl with
  | some d => if !d.struct && d.head.take 512 == head.take 512 then s.showDl.updEnd 0 else s.updEnd 0x10
  | none =>
    let r := s.fwHeadFail head
    if r.1 ≠ 0 then r.2.updEnd r.1
    else
      let b := bankBase s.otherBank
      let s := ((r.2.flashErase b 0x4000).flashPut b (head.take 512)).flashPut (b + 0x200) (head.drop 512)
      ((s.modSec (fun e => { e with dl := some ⟨false, head, fwPieces head, []⟩ })).showDl).updEnd 0

/-- BEGIN of a structure download; a length that no image has fails R54. -/
def State.beginStruct (s : State) (head : List Byte) : CustAns :=
  let len := leAt head 0x10 4
  match s.heldDl with
  | some d => if d.struct && d.head == head then s.showDl.updEnd 0 else s.updEnd 0x10
  | none =>
    if len < 256 ∨ 1048576 < len then
      let r := s.imgFail none head
      (r.2.wr UPD_STAT.SCODE r.1).updEnd 0x13
    else ((((s.flashErase 0x0C000000 0x100000).modSec (fun e => { e with dl := some ⟨true, head, (len + 4095) / 4096, []⟩ })).wr
      UPD_STAT.SCODE 0).showDl).updEnd 0

/-- The bytes of piece i, and whether the payload has the length of its kind. -/
def pieceOf (d : Download) (i : Nat) (payload : List Byte) : List Byte × Bool :=
  if d.struct then
    let n := min 4096 (leAt d.head 0x10 4 - 4096 * i)
    (payload, payload.length == n)
  else (payload.take 4096, payload.length == 4096 + 32 * merkleLen 15 d.pieces i)

/-- Whether the proof of a firmware piece leads to ROOT (R567). -/
def proofOk (d : Download) (i : Nat) (payload : List Byte) : Bool :=
  let pf := (List.range ((payload.length - 4096) / 32)).map (fun k => slice payload (4096 + 32 * k) 32)
  d.struct || (merklePath 15 d.pieces i (merkleLeaf i (payload.take 4096)) pf).1 == fwRoot d.head

/-- PIECE: checked, programmed and read back, then its bitmap bit; programming can fail, which is a free value (log entry 24, DESIGN CHOICE). -/
def State.piece (s : State) (i : Nat) (payload : List Byte) : CustAns :=
  match s.heldDl with
  | none => s.updEnd 0x14
  | some d =>
    let p := pieceOf d i payload
    if d.pieces ≤ i ∨ !p.2 then s.updEnd 0x12
    else if !proofOk d i payload then s.updEnd 0x11
    else
      let r := s.fresh
      let a := if d.struct then 0x0C000000 + 4096 * i else bankBase s.otherBank + 0x4000 + 4096 * i
      let s := r.2.flashErase a 4096
      if r.1 = 0 then (s.cnt FLASH_STAT.PROG_ERR 1).updEnd 0x28
      else
        let d := { d with held := if d.held.contains i then d.held else d.held ++ [i] }
        let s := ((s.flashPut a p.1).modSec (fun e => { e with dl := some d })).showDl
        if d.struct && d.all && s.rd UPD_STAT.SCODE != 0 then s.updEnd 0x13 else s.updEnd 0

/-- STATUS: RECEIVED, TOTAL and the lowest missing index. -/
def State.updStatus (s : State) : CustAns :=
  let x := match s.heldDl with
    | some d => (d.held.length, d.pieces, ((List.range d.pieces).find? (fun i => !d.held.contains i)).getD d.pieces)
    | none => (0, 0, 0)
  s.updAns (leBytes 4 x.1 ++ leBytes 4 x.2.1 ++ leBytes 4 x.2.2) id

/-- Codes 0x21 and 0x24. -/
def State.heatCode (s : State) : Nat := if 2 ≤ s.shed then 0x21 else if 65 < s.rd THERM_STAT.TLID then 0x24 else 0

/-- A live apply or SLEEP entry is busy. -/
def State.updBusy (s : State) : Bool := s.rd STRUCT_LIVE.STATE == 1 || s.rd PWR_SLEEP.STATE == 1

/-- The checks of ACTIVATE of a firmware download, in the order of their codes (R581, R582). -/
def State.fwCode (s : State) (d : Download) : Nat :=
  let fmt := leAt d.head 0x16 2
  let run := s.rd FW_VER.SET_FMT
  let pair := s.rd PAIR_STAT.ROLE != 0 && s.rd PAIR_STAT.STATE != 3
  if 2 ≤ s.shed then 0x21
  else if pair then 0x22
  else if s.rdB UPD_LOCK.LOCK then 0x23
  else if 65 < s.rd THERM_STAT.TLID then 0x24
  else if fmt ≠ run ∧ leAt d.head 0x18 2 ≠ run then 0x25
  else if s.rdB UPD_STAT.TRIAL then 0x26
  else if s.updBusy then 0x27
  else 0

/-- Seal the boot-control record alone; with both slots erased it is sealed with the settings. -/
def State.sealTrial (s : State) (trial : BitVec 2) : State :=
  match s.bcr with
  | some x => s.sealBcr { x with trial := trial, tries := 0 }
  | none => s.sealAll 0 trial 0

/-- ACTIVATE is given up: TRIAL is sealed as none. -/
def State.activateFail (s : State) (c : Nat) : State :=
  (((s.sealTrial 0).modPair (fun p => { p with giveUp := false })).updCode c).showDl

/-- ACTIVATE goes on, step 3 and 4: once RELINQUISH has ended, or at once where there is none; the checks again, and the cold
reset. While RELINQUISH runs it waits; a side that falls out of sync meanwhile is refused (R582, R583). -/
def State.activateGo (s : State) : State :=
  if s.rd UPD_STAT.STATE ≠ 5 then s
  else if s.pair.giveUp then (if s.rd PAIR_STAT.STATE = 3 then s else s.activateFail 0x22)
  else if s.heatCode ≠ 0 then s.activateFail s.heatCode
  else s.coldReset 7

/-- ACTIVATE of a firmware download (R582). -/
def State.activateFw (s : State) (d : Download) : CustAns :=
  let c := s.fwCode d
  if c ≠ 0 then s.updEnd c
  else
    let s := ((s.sealTrial (BitVec.ofNat 2 (s.otherBank + 1))).updCode 0).wr UPD_STAT.STATE 5
    s.relinquish.updAns [] State.activateGo

/-- A structure copy that has just been written passes. -/
def State.copyWritten (s : State) (slot : Nat) (img : List Byte) : State :=
  let s := s.writeSlot slot img
  ((s.wr (STRUCT_COPY.FAIL slot) 0).wr (STRUCT_COPY.PRESENT slot) 1).wr (STRUCT_COPY.SEQ_LO slot) (leAt img 8 4)

/-- ACTIVATE of a structure: the staged image goes to the copy with the lower SEQ. -/
def State.activateStruct (s : State) : CustAns :=
  if 2 ≤ s.shed then s.updEnd 0x21
  else if s.rdB UPD_LOCK.LOCK then s.updEnd 0x23
  else if s.updBusy then s.updEnd 0x27
  else (s.copyWritten s.lowerSlot (s.imgAt 0x0C000000)).updEnd 0

/-- A bank is copied to the other. -/
def State.copyBank (s : State) (src dst : Nat) : State :=
  let s := s.flashErase (bankBase dst) 0x04000000
  let l := s.sec.flash.filter (fun x => decide (bankBase src ≤ x.1) && decide (x.1 < bankBase src + 0x04000000))
  let put (m : List (Nat × Byte)) (x : Nat × Byte) : List (Nat × Byte) := mapPut (fun _ => (0xFF : Byte)) m (x.1 - bankBase src + bankBase dst) x.2
  s.modSec (fun e => { e with flash := l.foldl put e.flash })

/-- What ends a download in RECOVERY: firmware that passes R568 goes to both banks and CONF is A; a structure goes to both copies; the
part leaves by a cold reset (R586). -/
def State.recoverWith (s : State) (d : Download) : CustAns :=
  if d.struct then
    let img := s.imgAt 0x0C000000
    ((((s.copyWritten 0 img).copyWritten 1 img).modSec (fun e => { e with dl := none })).updCode 0).updAns [] (fun s => s.coldReset 8)
  else
    let r := s.bankFail s.otherBank
    if r.1 ≠ 0 then r.2.updEnd r.1
    else
      let b := r.2.otherBank
      let s := (r.2.copyBank b (1 - b)).sealAll 1 0 0
      ((s.modSec (fun e => { e with dl := none })).updCode 0).updAns [] (fun s => s.coldReset 8)

/-- ACTIVATE. -/
def State.activate (s : State) : CustAns :=
  match s.heldDl with
  | none => s.updEnd 0x14
  | some d =>
    if s.rd UPD_STAT.STATE ≠ 3 then s.updEnd 0x14
    else if s.sec.sys = .recovery then s.recoverWith d
    else if d.struct then s.activateStruct else s.activateFw d

/-- The lowest n bits of a word. -/
def onesBelow (n : Nat) : Word := if 64 ≤ n then BitVec.allOnes 64 else BitVec.ofNat 64 (2 ^ n - 1)

/-- The trial is confirmed: CONF is its bank, SVN advances to its image's, and the old settings pair goes (R570, R572, R582). -/
def State.confirm (s : State) : State :=
  let b := s.rd BOOT_STAT.BANK
  let s := s.sealAll (BitVec.ofNat 2 (b + 1)) 0 0
  let s := if s.sec.slots[2].isSome ∨ s.sec.slots[3].isSome then
      s.modSec (fun e => { e with slots := #v[e.slots[2], e.slots[3], none, none] }) else s
  let n := min 64 (leAt (s.bankHead b) 0x14 1)
  let s := if s.svn < n then s.burn 13 (onesBelow n) else s
  (((s.wr SEC_STAT.SVN s.svn).wr UPD_STAT.TRIAL 0).wr UPD_STAT.TRIES 0).wr BOOT_STAT.CONF b

/-- ABORT: a trial ends in a cold reset into the confirmed bank; a download that is held is dropped. -/
def State.abort (s : State) : CustAns :=
  if s.rdB UPD_STAT.TRIAL then ((s.sealTrial 0).updCode 0).updAns [] (fun s => s.coldReset 7)
  else ((s.modSec (fun e => { e with dl := none })).showDl).updEnd 0

/-- Whether RECOVERY takes a download of a kind for its cause (R585). -/
def State.updServed (s : State) (struct : Bool) : Bool :=
  let c := s.rd RST_CAUSE.RCAUSE
  s.sec.sys != .recovery || (if struct then c == 8 else c == 1 || c == 2)

/-- An UPDATE request (R579); in RECOVERY no sub-operation is authenticated (R586). -/
def State.update (s : State) (q : MgmtReq) (arg : Word) : CustAns :=
  let op := nbits arg.toNat 0 8
  let kind := nbits arg.toNat 8 8
  let rec_ := s.sec.sys == .recovery
  let auth := decide (4 ≤ op) && !rec_
  if op = 0 ∨ 6 < op ∨ (auth ∧ q.payload.length ≠ 3328) ∨ ((op = 3 ∨ (4 ≤ op ∧ rec_)) ∧ !q.payload.isEmpty) then custBad s stBadop
  else if (rec_ ∧ !(s.updServed false || s.updServed true)) ∨ (s.rd UPD_STAT.STATE = 5 ∧ op ≠ 3) then custBad s stBadop
  else
    let a := if auth then s.authOk q else (true, s)
    if !a.1 then custBad a.2 stAuth
    else
      let s := a.2
      if op = 1 then
        if kind = 1 ∧ q.payload.length = 5784 ∧ s.updServed false then s.beginFw q.payload
        else if kind = 2 ∧ q.payload.length = 256 ∧ s.updServed true then s.beginStruct q.payload
        else custBad s stBadop
      else if op = 2 then s.piece (nbits arg.toNat 16 24) q.payload
      else if op = 3 then s.updStatus
      else if op = 4 then s.activate
      else if op = 5 then (if s.rdB UPD_STAT.TRIAL then s.confirm.updEnd 0 else s.updEnd 0x26)
      else s.abort

/-- AUTO_CONFIRM_EXPIRY: the trial has run for CONFIRM_S with AUTO set (R582). -/
def execAutoConfirmExpiry (s : State) : Out :=
  .next (if s.rdB UPD_STAT.TRIAL ∧ s.rdB UPD_CFG.AUTO ∧ s.sec.sys = .run then s.confirm else s)

/-! ### Datagrams -/

/-- What the Custodian answers to a request of a management session. -/
def State.cust (s : State) (f : KwtFrame) : CustAns :=
  let q : MgmtReq := ⟨f.session.toNat, leBytes 2 f.session.toNat ++ leBytes 4 f.seq.toNat, f.port.val == 3, f.payload⟩
  if f.op = 5 then s.mgmt q else s.update q f.arg

/-- The transport engine with the Custodian and the Ubori Link. -/
def netHooks : NetHooks := ⟨State.cust, State.fwdInput⟩

/-- Whether a datagram is a WAKE of a session that would take it now (R476). -/
def State.isWake (s : State) (f : KwtFrame) : Bool :=
  let n := f.session.toNat
  f.op == 5 && decide (n < 16) && s.sessState n == 2 && f.seq.toNat == s.rd (SESS_SEQ.RX_NEXT n) && f.payload.length == f.len.toNat &&
    f.trailer == trailerOf f.payload && f.payload.take 8 == [3, 0, 0, 0, 0, 0, 0, 0] && f.payload.length == 3336

/-- A KWT datagram reaches the part: in SLEEP and at shed level 7 only an authenticated WAKE is taken (R476, R477). -/
def State.kwtRx (s : State) (f : KwtFrame) : State :=
  if !s.portHears f.port then s
  else if s.asleep then
    if !s.isWake f then s
    else
      let a := s.authOk ⟨f.session.toNat, leBytes 2 f.session.toNat ++ leBytes 4 f.seq.toNat, true, f.payload⟩
      if a.1 then s.kwtIn netHooks f else a.2
  else s.kwtIn netHooks f

/-- FRAME_RECEIVE (R438 to R444). -/
def execFrameReceive (f : EthFrame) (s : State) : Out := .next (s.frameIn State.kwtRx f)

/-- KWT_OPEN. -/
def execKwtOpen (f : KwtFrame) (s : State) : Out := .next (s.kwtRx { f with op := 0x10 })

/-- KWT_CLOSE. -/
def execKwtClose (f : KwtFrame) (s : State) : Out := .next (s.kwtRx { f with op := 0x11 })

/-- KWT_WRITE. -/
def execKwtWrite (f : KwtFrame) (s : State) : Out := .next (s.kwtRx { f with op := 0x01 })

/-- KWT_READ. -/
def execKwtRead (f : KwtFrame) (s : State) : Out := .next (s.kwtRx { f with op := 0x02 })

/-- KWT_SUBMIT. -/
def execKwtSubmit (f : KwtFrame) (s : State) : Out := .next (s.kwtRx { f with op := 0x03 })

/-- KWT_MGMT. -/
def execKwtMgmt (f : KwtFrame) (s : State) : Out := .next (s.kwtRx { f with op := 0x05 })

/-- KWT_UPDATE. -/
def execKwtUpdate (f : KwtFrame) (s : State) : Out := .next (s.kwtRx { f with op := 0x06 })

/-- KWT_ACK. -/
def execKwtAck (f : KwtFrame) (s : State) : Out := .next (s.kwtRx { f with op := 0x12 })

/-! ### The mailbox (R587) -/

/-- The bytes of MBX_BUF. -/
def State.mbxBytes (s : State) (n : Nat) : List Byte :=
  ((List.range ((n + 7) / 8)).foldl (fun l i => l ++ leBytes 8 (s.reg (MBX_BUF.adr i)).toNat) []).take n

/-- Put bytes into MBX_BUF. -/
def State.mbxPut (s : State) (b : List Byte) : State :=
  (List.range ((b.length + 7) / 8)).foldl (fun (s : State) i =>
    let old := leBytes 8 (s.reg (MBX_BUF.adr i)).toNat
    let w := (b.drop (8 * i)).take 8
    s.setReg (MBX_BUF.adr i) (BitVec.ofNat 64 (leNat (w ++ old.drop w.length)))) s

/-- The Custodian completes the request of the mailbox: done with its answer, or refused with its status. -/
def State.mbxRun (s : State) : State :=
  let a := s.mgmt ⟨65536, (List.range 6).map (fun i => (Config.mbxHead >>> (8 * i)).setWidth 8), false, s.mbxBytes (s.rd MBX_CTL.LEN)⟩
  let s := (a.s.mbxPut a.payload).wr MBX_STAT.RLEN a.payload.length
  a.after ((s.wr MBX_STAT.STATUS a.status.toNat).wr MBX_STAT.STATE (if a.status = 0 then 2 else 3))

/-- MBX_REQUEST: the request that GO started is completed; with none started, GO is written first. -/
def execMbxRequest (s : State) : Out :=
  .next (let s := s.mbxCtl (MBX_CTL.LEN.setIn 1 (s.rd MBX_CTL.LEN))
    if s.rd MBX_STAT.STATE = 1 then s.mbxRun else s)

end Sys2Proof.Machine
end

