-- ==== Sys2Proof/Machine/CpIo.lean ====
section
/-! DEFINITION. The I/O space of a CP (R85 to R87, R95, R401, R403, R609): CP-local ports, and the Control Space through IN and OUT. -/

namespace Sys2Proof.Machine

/-- The port of the PORT form: G[base] plus 8 × offset, 32 bits, bits [2:0] ignored (R85). -/
def portOf (base : Word) (off : BitVec 12) : Nat := ((base + off.setWidth 64 * 8).toNat % 2 ^ 32) / 8 * 8

/-- Whether a port is CP-local. -/
def localPort (p : Nat) : Bool := decide (p < 0x10000)

/-- Whether a port needs SYSTEM (R85, R86). -/
def portSystem (p : Nat) : Bool := !localPort p || p == 0x800 || p == 0x808

/-- The timer of a port, with its register: 0 CNT, 1 CMP, 2 CTL. At 0x18 of a timer, to which R87 gives no register, none: an error response
as from any other port that does not exist (log entry 112, DESIGN CHOICE). -/
def timerPort (p : Nat) : Option (Fin 4 × Nat) :=
  if h : p < 0x80 ∧ p % 0x20 ≠ 0x18 then some (⟨p / 0x20, by omega⟩, p % 0x20 / 8) else none

/-- Change a timer. -/
def State.modTimer (s : State) (c : CpId) (n : Fin 4) (f : Timer → Timer) : State :=
  s.modCp c (fun p => { p with timers := vecUpd p.timers n f })

/-- Whether a CP-local port exists (R86, R87, R401, R403). -/
def portKnown (p : Nat) : Bool :=
  (timerPort p).isSome || (decide (0x100 ≤ p) && decide (p < 0x138)) || (decide (0x200 ≤ p) && decide (p ≤ 0x280)) ||
    (decide (0x400 ≤ p) && decide (p < 0x500)) || p == 0x800 || p == 0x808

/-! ### Reads -/

/-- A timer register as it reads. -/
def Timer.read (t : Timer) (r : Nat) : Word :=
  if r = 0 then t.cnt else if r = 1 then t.cmp else BitVec.ofNat 64 (b2n t.en + 2 * b2n t.periodic + 4 * b2n t.hit)

/-- A register of the CP watchdog as it reads (R403). -/
def State.wdgRead (s : State) (c : CpId) (p : Nat) : Word :=
  let w := (s.cp c).wdg
  BitVec.ofNat 64 (
    if p = 0x100 then b2n w.en + 2 * b2n w.action + 4 * b2n w.lock
    else if p = 0x108 then w.load.toNat
    else if p = 0x110 then w.cnt.toNat
    else if p = 0x120 then w.warn.toNat
    else if p = 0x128 then w.grace.toNat
    else if p = 0x130 then b2n w.warned + 2 * b2n w.expired + 4 * b2n (s.wdgFrozen c)
    else 0)

/-- ISTAT: the interrupt that R400 would accept at mask level 0 (R401). -/
def Cp.istat (p : Cp) : Word :=
  match p.topIrq 0 with
  | some (n, q) => BitVec.ofNat 64 (n + 256 * q + 32768)
  | none => 0

/-- IPRIOj as it reads: interrupt 0 has priority 7 (R401). -/
def Cp.iprioRead (p : Cp) (j : Nat) : Word := p.iprio[j]! ||| (if j = 0 then 7 else 0)

/-- A read of a CP-local port: none for an error response. -/
def State.localRead (s : State) (c : CpId) (p : Nat) : Option Word × State :=
  if !portKnown p then (none, s)
  else if p < 0x80 then
    match timerPort p with
    | some (n, r) => (some (((s.cp c).timers[n.val]).read r), s)
    | none => (none, s)
  else if p < 0x200 then (some (s.wdgRead c p), s)
  else if p < 0x280 then (some ((s.cp c).iprioRead ((p - 0x200) / 8)), s)
  else if p = 0x280 then (some (s.cp c).istat, s)
  else if p < 0x500 then (some (BitVec.ofNat 64 (8 - min 8 ((s.trc[(clOf c).val]).fifo c))), s)
  else if p = 0x800 then (some ((s.cp c).pramAddr.setWidth 64), s)
  else s.pramRead c (s.cp c).pramAddr.toNat

/-! ### Writes -/

/-- A write of a timer register; HIT is W1C (R87). -/
def State.timerWrite (s : State) (c : CpId) (n : Fin 4) (r : Nat) (v : Word) : State :=
  s.modTimer c n (fun t =>
    if r = 0 then { t with cnt := v }
    else if r = 1 then { t with cmp := v }
    else { t with en := bitOf v 0, periodic := bitOf v 1, hit := t.hit && !bitOf v 2 })

/-- A write of a watchdog register but WDG_CTL and WDG_KICK (R403). -/
def State.wdgWrite (s : State) (c : CpId) (p : Nat) (v : Word) : State :=
  s.modWdg c (fun w =>
    if p = 0x130 then { w with warned := w.warned && !bitOf v 0, expired := w.expired && !bitOf v 1 }
    else if w.lock then w
    else if p = 0x108 then { w with load := v.setWidth 32 }
    else if p = 0x120 then { w with warn := v.setWidth 32 }
    else if p = 0x128 then { w with grace := v.setWidth 32 }
    else w)

/-- PRAM_DATA: the word is stored, and PRAM_ADDR advances modulo 16,384 (R86). -/
def State.pramWrite (s : State) (c : CpId) (w : BitVec 56) : State :=
  (s.pramStore c (s.cp c).pramAddr.toNat w).modCp c (fun p => { p with pramAddr := p.pramAddr + 1 })

/-- A write of a CP-local port that exists. -/
def State.localWrite (s : State) (c : CpId) (p : Nat) (v : Word) : State :=
  if p < 0x80 then
    match timerPort p with
    | some (n, r) => s.timerWrite c n r v
    | none => s
  else if p = 0x100 then s.wdgCtl c (v.setWidth 3)
  else if p = 0x118 then s.wdgKey c (v.setWidth 16)
  else if p < 0x200 then s.wdgWrite c p v
  else if p < 0x280 then
    let j := (p - 0x200) / 8
    s.modCp c (fun x => { x with iprio := x.iprio.set! j (v &&& (if j = 0 then 0x7777777777777770 else 0x7777777777777777)) })
  else if p = 0x280 then s
  else if p < 0x500 then s.stimWrite c ((p - 0x400) / 8) v
  else if p = 0x800 then s.modCp c (fun x => { x with pramAddr := v.setWidth 14 })
  else s.pramWrite c (v.setWidth 56)

/-! ### IN and OUT (R85) -/

/-- XINFO of SYSTEM_REQUIRED and of BUS_ERROR at a port (R388). -/
def portInfo (p : Nat) (out : Bool) : Word := BitVec.ofNat 64 (p + (if out then 2 ^ 32 else 0))

/-- IN: a CP-local port answers at once; an access to Control Space waits for its response. In Lockstep the access is compared
before it leaves (R518). -/
def doIn (d : Reg) (p len : Nat) (s : State) (c : CpId) : Flow :=
  if portSystem p && !(s.cp c).a.sys then .trap s cSystem (portInfo p false) false
  else if localPort p then
    let r := s.localRead c p
    match r.1 with
    | some v => .next (r.2.setG c d v)
    | none => .trap r.2 cBus (portInfo p false) false
  else
    let cmp := s.compareWith State.bucket c 2 p
    if cmp.1 then .done cmp.2 else .stall cmp.2 (.inPort d (BitVec.ofNat 32 p) len)

/-- OUT has completed, with a checkpoint that includes its effect; none where the compare of the checkpoint differs (R519). -/
def State.outDone (s : State) (c : CpId) (len : Nat) : Option State × State :=
  if s.lockstepCl (clOf c) then
    let r := s.compareWith State.bucket c 5 (s.cp c).a.pc.toNat
    if r.1 then (none, r.2) else (some ((r.2.retire c len none).lstepSave c), r.2)
  else (some (s.retire c len none), s)

/-- OUT: it completes when the access is accepted; an error arrives after it, at the next instruction. -/
def doOut (d : Reg) (p len : Nat) (s : State) (c : CpId) : Flow :=
  let v := s.g c d
  let late (s : State) : Flow := .done (s.raise c cBus (portInfo p true) (s.cp c).a.pc.toNat)
  if portSystem p && !(s.cp c).a.sys then .trap s cSystem (portInfo p false) false
  else if localPort p then
    let s := s.retire c len none
    if portKnown p then .done (s.localWrite c p v) else late s
  else
    let cmp := s.compareWith State.bucket c 2 p
    if cmp.1 then .done cmp.2
    else
      match cmp.2.outDone c len with
      | (none, s) => .done s
      | (some s, _) =>
        let r := s.csWrite (clOf c).val (s.cpPart c) p v
        if r.1 = 0 then .done r.2 else late r.2

/-- IN. -/
def execInPort (c : CpId) (d a : Reg) (off : BitVec 12) (s : State) : Out :=
  .next (s.runInsn c (iPort 0x27 d a off) (fun s c => doIn d (portOf (s.g c a) off) 2 s c))

/-- OUT. -/
def execOutPort (c : CpId) (d a : Reg) (off : BitVec 12) (s : State) : Out :=
  .next (s.runInsn c (iPort 0x28 d a off) (fun s c => doOut d (portOf (s.g c a) off) 2 s c))

/-- INX (R95). -/
def execInx (c : CpId) (d a : Reg) (sub : BitVec 4) (imm : BitVec 32) (s : State) : Out :=
  let i := iX 0x322 d a sub imm [d.val] []
  .next (s.runInsn c i (fun s c => (doIn d (imm.toNat / 8 * 8) 4 s c)))

/-- OUTX (R95). -/
def execOutx (c : CpId) (d a : Reg) (sub : BitVec 4) (imm : BitVec 32) (s : State) : Out :=
  let i := iX 0x323 d a sub imm [d.val] []
  .next (s.runInsn c i (fun s c => (doOut d (imm.toNat / 8 * 8) 4 s c)))

/-- The response to the IN that a CP waits with: its data, or BUS_ERROR at the IN. -/
def State.inAnswer (s : State) (c : CpId) (status : Nat) (v : Word) : State :=
  match (s.cp c).stall with
  | .inPort d p len =>
    let s := s.modCp c (fun x => { x with stall := .none })
    let i := mkInsn len 0 false false [] []
    s.finish c i (if status = 0 then nextSaved (s.setG c d v) c len else .trap s cBus (portInfo p.toNat false) false)
  | _ => s

/-- IN_RESPONSE: the fabric response to an IN arrives. -/
def execInResponse (c0 : CpId) (s : State) : Out :=
  let c := s.lead c0
  .next (match (s.cp c).stall, (s.cp c).run with
    | .inPort _ p _, .running =>
      let r := s.csRead (clOf c).val (s.cpPart c) true p.toNat
      r.2.2.inAnswer c r.1 r.2.1
    | _, _ => s)

/-- PRAM_DATA_WRITE: a program word is stored by its port (R86). -/
def execPramDataWrite (c : CpId) (w : BitVec 56) (s : State) : Out := .next (s.pramWrite (s.lead c) w)

end Sys2Proof.Machine
end

