-- ==== Sys2Proof/Machine/Matrix.lean ====
section
/-! DEFINITION. The fast matrix (R409 to R417): arbitration, responses, timeouts, and accesses by command. -/

namespace Sys2Proof.Machine

/-- Change the fast matrix. -/
def State.modFab (s : State) (f : FabSt → FabSt) : State := { s with fab := f s.fab }

/-- The target port of a request: 34 where no row names its address (R407). -/
def fabPort (r : FabReq) : Nat := (targetOf r.addr.toNat).getD 34

/-- The transactions that a master has outstanding (R410). -/
def State.outstanding (s : State) (m : Nat) : Nat :=
  (s.fab.wait.filter (fun x => x.1.m.val == m)).length + (s.fab.due.filter (fun t => t.req.m.val == m)).length

/-- The priority of a master at a port; the default target has the priorities of R406. -/
def State.fabPrio (s : State) (port m : Nat) : Nat :=
  let w := if port < 34 then s.reg (FAB_PRIO.adr port (m / 16)) else fabPrioReset (m / 16)
  nbits w.toNat (4 * (m % 16)) 4

/-- The requests that a port can perform next: the oldest of each master (R410). -/
def State.fabHeads (s : State) (port : Nat) : List (FabReq × Nat) :=
  let l := s.fab.wait.filter (fun x => fabPort x.1 == port)
  (List.range 37).filterMap (fun m => l.find? (fun x => x.1.m.val == m))

/-- The best of a list under a measure, the first on a tie. -/
def bestBy {α : Type} (f : α → Nat) : List α → Option α
  | [] => none
  | a :: l =>
    match bestBy f l with
    | some b => if f b < f a then some b else some a
    | none => some a

/-- The grant of a port: aged requests, oldest first; else the highest priority; among equals the rotation (R416). -/
def State.fabGrant (s : State) (port : Nat) : Option (FabReq × Nat) :=
  let l := s.fabHeads port
  let aged := l.filter (fun x => decide (max 1 (s.rd FAB_AGE.CYC) ≤ s.now - x.2))
  if aged.isEmpty then
    let last := (vecAt? s.fab.last port).getD 0
    bestBy (fun x => (15 - s.fabPrio port x.1.m.val) * 64 + (x.1.m.val + 36 - last) % 37) l
  else bestBy (fun x => x.2) aged

/-- Whether a request takes the read side effects of its target: the debug port's only with CONSUME (R409, R17). -/
def fabConsumes (r : FabReq) : Bool := r.m.val != 35 || r.consume

/-- A target performs a request. -/
def State.fabPerform (s : State) (port : Nat) (r : FabReq) : State :=
  let part := if r.m.val < 16 then r.part else none
  let a := r.addr.toNat
  let q : Nat × Word × State :=
    if r.write then let w := s.csWrite r.m.val part a r.data; (w.1, 0, w.2) else s.csRead r.m.val part (fabConsumes r) a
  let t : FabTx := ⟨r, port, q.1, q.2.1, s.now⟩
  q.2.2.modFab (fun f => { f with due := f.due ++ [t], last := f.last.set! port r.m.val })

/-- The transactions that a master can have on their way: one for each ID, and for the Custodian those of the queue that it crosses to the
matrix by (R27, R410). -/
def masterRoom (m : Nat) : Nat := if m = 34 then 8 else 32

/-- Whether a port can take a request: a peripheral bridge while its crossing queue has room (R27). -/
def State.portRoom (s : State) (port : Nat) : Bool :=
  !(port == 32 || port == 33) || decide ((s.fab.due.filter (fun t => t.port == port)).length < 4)

/-- FABRIC_TRANSACTION: a request may arrive at a port, and the port grants and performs one (R409, R410, R416). A master whose queue is
full stalls, and a full bridge grants nothing (R26, R27). -/
def execFabricTransaction (port : Fin 35) (fresh : Option FabReq) (s : State) : Out :=
  let s := match fresh with
    | some r => if fabPort r = port.val ∧ s.outstanding r.m.val < masterRoom r.m.val then s.modFab (fun f => { f with wait := f.wait ++ [(r, s.now)] }) else s
    | none => s
  .next (match if s.portRoom port.val then s.fabGrant port.val else none with
    | some x => (s.modFab (fun f => { f with wait := f.wait.filter (fun y => y != x) })).fabPerform port.val x.1
    | none => s)

/-- A response reaches its master. -/
def State.fabAnswer (s : State) (t : FabTx) (status : Nat) (v : Word) : State :=
  s.modFab (fun f => { f with due := f.due.erase t, got := f.got ++ [(t.req.m.val, t.req.id.val, status, v)] })

/-- The oldest transaction of a master and an ID that is due. -/
def State.fabDue (s : State) (m : Fin 37) (id : Fin 32) : Option FabTx := s.fab.due.find? (fun t => t.req.m == m && t.req.id == id)

/-- FABRIC_RESPONSE. -/
def execFabricResponse (m : Fin 37) (id : Fin 32) (s : State) : Out :=
  .next (match s.fabDue m id with
    | some t => s.fabAnswer t t.status (if t.req.write then 0 else t.data)
    | none => s)

/-- A timeout is counted, and the first captured (R412, R418). -/
def State.toErr (s : State) (m a : Nat) (write : Bool) : State :=
  let s := s.cntSat (FAB_ERR.COUNT 1) 1
  if s.rdB (FAB_ERR.VALID 1) then s
  else (((s.wr (FAB_ERR.ADDR 1) a).wr (FAB_ERR.MASTER 1) m).wrB (FAB_ERR.WRITE 1) write).wr (FAB_ERR.VALID 1) 1

/-- FABRIC_TIMEOUT: the target of a transaction has not answered in time; its later response is discarded. With none due, the IN of a CP
of the cluster is the access (R85, R412). -/
def execFabricTimeout (m : Fin 37) (id : Fin 32) (s : State) : Out :=
  .next (match s.fabDue m id with
    | some t => (s.toErr m.val t.req.addr.toNat t.req.write).fabAnswer t 4 0
    | none =>
      let c := s.lead (cpIn m.val (id.val % 2))
      match (s.cp c).stall with
      | .inPort _ p _ => if m.val < 16 then (s.toErr m.val p.toNat false).inAnswer c 4 0 else s
      | _ => s)

/-- The partition that an access by command carries: on cluster ports that of the cluster. -/
def State.masterPart (s : State) (m : Fin 37) : Option PartId := if h : m.val < 16 then s.partOf ⟨m.val, h⟩ else none

/-- READ_CLEAR: a register is read; RC fields clear unless a debugger peeks (R13, R17). -/
def execReadClear (addr : BitVec 32) (m : Fin 37) (consume : Bool) (s : State) : Out :=
  let r := s.csRead m.val (s.masterPart m) (m.val != 35 || consume) addr.toNat
  .next (r.2.2.modFab (fun f => { f with got := f.got ++ [(m.val, 0, r.1, r.2.1)] }))

/-- REGISTER_WRITE (R13, R14). -/
def execRegisterWrite (addr : BitVec 32) (m : Fin 37) (v : Word) (s : State) : Out :=
  let r := s.csWrite m.val (s.masterPart m) addr.toNat v
  .next (r.2.modFab (fun f => { f with got := f.got ++ [(m.val, 0, r.1, 0)] }))

end Sys2Proof.Machine
end

