-- ==== Sys2Proof/Machine/Short.lean ====
section
/-! DEFINITION. Instructions of the vector encoding that a CP executes itself: the short-vector instructions (R198 to R200)
and the descriptor instructions (R197). -/

namespace Sys2Proof.Machine

/-! ### Short vectors -/

/-- A V register as a number of 512 bits (R72). -/
def State.vNum (s : State) (c : CpId) (v : Nat) : Nat := leNat (s.vBytes c v)

/-- Lane i of a V register with lanes of w bits. -/
def laneAt (w x i : Nat) : Nat := x / 2 ^ (w * i) % 2 ^ w

/-- A V register with lane i replaced. -/
def setLane (w x i y : Nat) : Nat := x - laneAt w x i * 2 ^ (w * i) + y % 2 ^ w * 2 ^ (w * i)

/-- The number of lanes of a type (R198). -/
def laneCount (t : Nat) : Nat := 512 / tyWidth t

/-- The long opcode of a short-vector opcode (R200). -/
def shortBase (op : Nat) : Nat :=
  if op < 0x2A0 then op - 0x280
  else if op < 0x2C0 then op - 0x2A0 + 0x040
  else if op < 0x2C8 then op - 0x2C0 + 0x0A0
  else if op < 0x2D2 then op - 0x2C8 + 0x100
  else if op = 0x2D5 then 0x057
  else if op = 0x2D6 then 0x082
  else 0x080

/-- The row of a short-vector opcode; SVPERM takes any type, D, A and B. -/
def shortRow (op : Nat) : Option VRow :=
  if op = 0x2D4 then some ⟨tsAny, opT, opT, opT, none, .zero, 0, [], .t⟩ else vrow (shortBase op)

/-- The F registers of a V register. -/
def vRegs (v : Nat) : List Nat := (List.range 8).map (fun i => 8 * (v % 8) + i)

/-- Whether a short-vector encoding is reserved: what IMM gives where it is not (R174, R175, R198). -/
def shortDecode (op : Nat) (r : VRow) (v : VecFields) : Option ImmOut :=
  let cmp := decide (0x2C0 ≤ op) && decide (op < 0x2C8)
  if v.ch ∨ v.tw ∨ (!cmp ∧ 8 ≤ v.dd.val) ∨ 8 ≤ v.da.val ∨ 8 ≤ v.db.val ∨ 8 ≤ v.dc.val then none else vDecode r v

/-- The G and F registers that a short-vector instruction reads or writes, those of the operands that its row has (R199, R203). -/
def shortUses (op : Nat) (v : VecFields) : List Nat × List Nat :=
  let m := if v.msel.toNat % 16 = 0 then [] else [v.msel.toNat % 16]
  if op = 0x2D2 then (m, vRegs v.dd) else if op = 0x2D3 then (m, vRegs v.da)
  else match (shortRow op).bind (fun r => (shortDecode op r v).map (fun im => (r, im))) with
    | none => (m, [])
    | some (r, im) =>
      let imm := v.imm.toNat
      let cmp := decide (0x2C0 ≤ op) && decide (op < 0x2C8)
      let red := decide (0x2C8 ≤ op) && decide (op < 0x2D2)
      let k := immSk imm
      let sc : List Nat × List Nat := match r.imm with
        | .s _ => if k = 1 then ([nbits imm 8 4], []) else if k = 2 then ([], [nbits imm 6 6]) else ([], [])
        | .r _ _ =>
          if k = 1 then ([nbits imm 8 4], []) else if k = 2 then ([], [nbits imm 6 6])
          else if k = 3 then ([], vRegs (nbits imm 8 3)) else ([], [])
        | _ => ([], [])
      (m ++ (if cmp then [v.dd.val] else []) ++ sc.1,
       (if cmp || red then [] else vRegs v.dd) ++ (if r.a.isSome then vRegs v.da else []) ++
         (if r.b.isSome && im.useB then vRegs v.db else []) ++ (if r.c.isSome then vRegs v.dc else []) ++ sc.2)

/-- The mask of a short-vector instruction as a predicate on lanes. A G register governs 64 lanes; for BIT lanes past them
the spec gives no bit, so a free value does (R199; log entry 16, DESIGN CHOICE). -/
def State.shortMask (s : State) (c : CpId) (v : VecFields) (lanes : Nat) : (Nat → Bool) × State :=
  let n := v.msel.toNat % 16
  if n = 0 then (fun _ => true, s)
  else
    let g := ((s.cp c).a.g[n]!).toNat
    let r := (List.range (lanes / 64 - 1)).foldl (fun (r : Nat × State) i =>
      let q := r.2.fresh
      (r.1 + q.1.toNat * 2 ^ (64 * (i + 1)), q.2)) (g, s)
    (fun l => (r.1 / 2 ^ l % 2 == 1) != maskInv v, r.2)

/-- One of a list of types: the only one, or a free choice where nothing in the encoding names it (R200; log entry 17, DESIGN CHOICE). -/
def State.pickType (s : State) (ts : List Nat) : Nat × State :=
  match ts with
  | [] => (0, s)
  | [t] => (t, s)
  | t :: _ => let q := s.fresh; (ts.getD (q.1.toNat % ts.length) t, q.2)

/-- The rounding of an instruction that the CP executes (R173, R176). -/
def envOf (a : CpArch) (v : VecFields) : FpEnv :=
  ⟨if v.rnd = 7 then (a.fpstat.setWidth 3 : BitVec 3).toNat else v.rnd.toNat, bitOf a.fpstat 3, bitOf a.fpstat 4⟩

/-- The registers and types of the operands of a short-vector instruction. -/
structure ShortOps where
  op : Nat
  t : Nat
  dt : Nat
  ct : Nat
  a : Nat
  b : Nat
  c : Nat
  scalar : Option Nat
  imm : Nat
  env : FpEnv
  deriving DecidableEq, Repr

/-- One lane of a short-vector instruction; none where its source lanes do not exist (R198, R200). -/
def ShortOps.lane (x : ShortOps) (l : Nat) (act : Bool) : Option ElemOut :=
  let w := tyWidth x.t
  let m := dotFactor x.op
  if laneCount x.t < m * (l + 1) then none
  else
    let a := laneAt w x.a l
    let b := match x.scalar with | some y => y | none => laneAt w x.b l
    let c := laneAt (tyWidth x.ct) x.c l
    if x.op = 0x054 then some (.plain (if act then a else b))
    else if m = 1 then some (elemOp x.op x.t x.dt x.t x.imm x.env a b c l)
    else
      let g (y : Nat) : List Nat := (List.range m).map (fun i => laneAt w y (m * l + i))
      some (elemDot x.op x.t x.env (g x.a) (g x.b) c)

/-- The lanes of a destination, one after another: its value, the flags, and the free values for lanes that no source lane
gives (log entry 18, DESIGN CHOICE). -/
def shortLanes (x : ShortOps) (act : Nat → Bool) (dst : Nat) (s : State) : Nat × Nat × State :=
  let w := tyWidth x.dt
  (List.range (laneCount x.dt)).foldl (fun (r : Nat × Nat × State) l =>
    if !act l && x.op != 0x054 then r
    else match x.lane l (act l) with
      | some o => (setLane w r.1 l o.d, r.2.1 ||| o.flags, r.2.2)
      | none => let q := r.2.2.fresh; (setLane w r.1 l q.1.toNat, r.2.1, q.2)) (dst, 0, s)

/-- Whether a short-vector encoding is reserved (R111). -/
def shortReserved (op : Nat) (v : VecFields) : Bool :=
  match shortRow op with | some r => (shortDecode op r v).isNone | none => true

/-- A short-vector instruction other than SVLD and SVST, whose encoding is defined (R198 to R200). -/
def doShort (op : Nat) (v : VecFields) (s : State) (c : CpId) : Flow :=
  match shortRow op with
  | none => .done s
  | some r =>
    match shortDecode op r v with
    | none => .done s
    | some im =>
      let a := (s.cp c).a
      let t := v.ty.toNat
      let n := laneCount t
      let env := envOf a v
      if 0x2C8 ≤ op ∧ op < 0x2D2 then
        let base := shortBase op
        let mk := s.shortMask c v n
        let k := immSk v.imm.toNat
        let num := if k = 1 then nbits v.imm.toNat 8 4 else if k = 2 then nbits v.imm.toNat 6 6 else nbits v.imm.toNat 8 3
        let x := s.vNum c v.da
        let ls := (List.range n).map (fun l => if mk.1 l then some (laneAt (tyWidth t) x l) else none)
        let p := redStrip base k t env 0 ls
        let o := redFinish base k t env [p.1]
        .next (mk.2.modA c (fun a => (a.setResult k num o.1).orFlags (p.2 ||| o.2)))
      else if op = 0x2D4 then
        let mk := s.shortMask c v n
        let w := tyWidth t
        let xa := s.vNum c v.da
        let xb := s.vNum c v.db
        let d := (List.range n).foldl (fun d l =>
          if mk.1 l then setLane w d l (laneAt w xa (laneAt w xb l % n)) else d) (s.vNum c v.dd)
        .next (mk.2.modA c (fun a => a.setV v.dd d))
      else
        let base := shortBase op
        let ty := s.pickType (match r.d with | some o => o.ty.types t | none => [t])
        let dt := ty.1
        let x : ShortOps :=
          { op := base, t := t, dt := dt, ct := (match r.c with | some o => (o.ty.types t).getD 0 t | none => t)
            a := s.vNum c v.da, b := s.vNum c v.db, c := s.vNum c v.dc, scalar := (s.scalar c t im).map BitVec.toNat
            imm := v.imm.toNat, env := env }
        if 0x2C0 ≤ op ∧ op < 0x2C8 then
          let mk := ty.2.shortMask c v n
          let old := ((s.cp c).a.g[v.dd.val]).toNat
          let o := (List.range n).foldl (fun (r : Nat × Nat) l =>
            if mk.1 l then (match x.lane l true with
              | some e => (r.1 + e.d * 2 ^ l, r.2 ||| e.flags)
              | none => r)
            else (r.1 + old / 2 ^ l % 2 * 2 ^ l, r.2)) (0, 0)
          .next (mk.2.modA c (fun a => (a.setG v.dd (BitVec.ofNat 64 o.1)).orFlags o.2))
        else
          let mk := ty.2.shortMask c v (laneCount dt)
          let o := shortLanes x mk.1 (s.vNum c v.dd) mk.2
          .next (o.2.2.modA c (fun a => (a.setV v.dd o.1).orFlags o.2.1))

/-- A short-vector instruction (R199). -/
def short (op : Nat) (c : CpId) (v : VecFields) (s : State) : State :=
  let u := shortUses op v
  s.runInsn c ((iVec op v u.1 u.2).reserve (shortReserved op v)) (doShort op v)

/-- Whether an encoding of SVLD or SVST is reserved; the lanes that MSEL masks are of type TYPE (R199, R200). -/
def memReserved (v : VecFields) (reg other : Reg) : Bool :=
  v.ch || v.tw || v.rnd != 0 || decide (8 ≤ reg.val) || other != 0 || v.dc != 0 || v.msel == 0x10 || decide (13 ≤ v.ty.toNat) ||
    decide (4096 ≤ v.imm.toNat)

/-- SVLD (R200, R84, R122). -/
def execSvld (c : CpId) (v : VecFields) (s : State) : Out :=
  let u := shortUses 0x2D2 v
  .next (s.runInsn c ((iVec 0x2D2 v u.1 u.2).reserve (memReserved v v.dd v.da)) (fun s c =>
    loadBytes s c v.db (memAddr (s.k c v.db) (v.imm.setWidth 12) 64) 64 0 (fun s bs _ =>
      let mk := s.shortMask c v (laneCount v.ty.toNat)
      let w := tyWidth v.ty.toNat
      let x := leNat bs
      let d := (List.range (laneCount v.ty.toNat)).foldl (fun d l => if mk.1 l then setLane w d l (laneAt w x l) else d)
        (s.vNum c v.dd)
      .next (mk.2.modA c (fun a => a.setV v.dd d)))))

/-- SVST (R200, R84, R122, R218): bytes of lanes that MSEL makes inactive keep their values. For BIT lanes a byte is stored
where bit 0 of its lanes is active (log entry 16, DESIGN CHOICE). -/
def execSvst (c : CpId) (v : VecFields) (s : State) : Out :=
  let u := shortUses 0x2D3 v
  .next (s.runInsn c ((iVec 0x2D3 v u.1 u.2).reserve (memReserved v v.da v.dd)) (fun s c =>
    let mk := s.shortMask c v (laneCount v.ty.toNat)
    let w := tyWidth v.ty.toNat
    let m := (List.range 64).foldl (fun (m : Word) b => setBitOf m b (mk.1 (8 * b / w))) 0
    doStore .v v.da v.db (v.imm.setWidth 12) m mk.2 c))

/-! ### Descriptor instructions (R197) -/

/-- The facts of a descriptor instruction that uses G registers. -/
def iDesc (op : Nat) (v : VecFields) (gs : List Nat) : Insn := iVec op v gs []

/-- Whether a field that no descriptor instruction uses is not zero, or DA or IMM bits that this one does not use (R197). -/
def descReserved (v : VecFields) (useA : Bool) (immMax : Nat) : Bool :=
  v.db != 0 || v.dc != 0 || v.msel != 0 || v.ty != 0 || v.rnd != 0 || v.ch || v.tw || (!useA && v.da != 0) ||
    decide (immMax < v.imm.toNat)

/-- DSETC. -/
def execDsetc (c : CpId) (v : VecFields) (s : State) : Out :=
  .next (s.runInsn c ((iDesc 0x2F0 v []).reserve (descReserved v true 0)) (fun s c =>
    .next (s.setD c v.dd { (s.d c v.dd) with cap := s.k c v.da })))

/-- DSETO. -/
def execDseto (c : CpId) (v : VecFields) (s : State) : Out :=
  .next (s.runInsn c ((iDesc 0x2F1 v [v.da.val]).reserve (descReserved v true 0)) (fun s c =>
    .next (s.setDPart c v.dd { (s.d c v.dd) with offset := (s.g c v.da).setWidth 48 })))

/-- DSETS. -/
def execDsets (c : CpId) (v : VecFields) (s : State) : Out :=
  .next (s.runInsn c ((iDesc 0x2F2 v [v.da.val]).reserve (descReserved v true 0)) (fun s c =>
    .next (s.setDPart c v.dd { (s.d c v.dd) with stride := (s.g c v.da).setWidth 48 })))

/-- DSETF. -/
def execDsetf (c : CpId) (v : VecFields) (s : State) : Out :=
  .next (s.runInsn c ((iDesc 0x2F3 v []).reserve (descReserved v false 0x7F || 13 ≤ v.imm.toNat % 16)) (fun s c =>
    .next (s.setDPart c v.dd { (s.d c v.dd) with
      etype := v.imm.setWidth 4, fields := BitVec.ofNat 2 (v.imm.toNat / 16), space := bitOf v.imm 6 })))

/-- DADV. -/
def execDadv (c : CpId) (v : VecFields) (s : State) : Out :=
  let imm := v.imm.toNat
  let n := nbits imm 8 4
  .next (s.runInsn c ((iDesc 0x2F4 v (if immSk imm = 1 then [n] else [])).reserve (descReserved v false 0x1FFF || nbits imm 0 8 ≠ 0 || (immSk imm = 0 ∧ n ≠ 0))) (fun s c =>
    match s.readD c v.dd with
      | (none, s) => poisonD s v.dd
      | (some d, s) =>
        let inc := if immSk imm = 1 then (s.g c ⟨n % 16, by omega⟩).toNat else (s.cp c).a.vl.toNat
        .next (s.setD c v.dd { d with offset := d.offset + BitVec.ofNat 48 inc })))

/-- DGET. -/
def execDget (c : CpId) (v : VecFields) (s : State) : Out :=
  .next (s.runInsn c ((iDesc 0x2F5 v [v.da.val]).reserve (descReserved v true 2)) (fun s c =>
    match s.readD c v.dd with
      | (none, s) => poisonD s v.dd
      | (some d, s) =>
        .next (s.setG c v.da (
          if v.imm = 0 then zextW d.offset
          else if v.imm = 1 then sextW d.stride
          else BitVec.ofNat 64 (d.etype.toNat + 16 * d.fields.toNat + 64 * b2n d.space)))))

/-- DGETC. -/
def execDgetc (c : CpId) (v : VecFields) (s : State) : Out :=
  .next (s.runInsn c ((iDesc 0x2F6 v []).reserve (descReserved v true 0)) (fun s c =>
    match s.readD c v.dd with
      | (none, s) => poisonD s v.dd
      | (some d, s) => .next (s.setK c v.da d.cap)))

/-- DCOPY. -/
def execDcopy (c : CpId) (v : VecFields) (s : State) : Out :=
  .next (s.runInsn c ((iDesc 0x2F7 v []).reserve (descReserved v true 0)) (fun s c =>
    match s.readD c v.da with
      | (none, s) => poisonD s v.da
      | (some d, s) => .next (s.setD c v.dd d)))

/-! ### The short-vector instructions (R200) -/

/-- SVFADD. -/
def execSvfadd (c : CpId) (v : VecFields) (s : State) : Out := .next (short 0x280 c v s)
/-- SVFSUB. -/
def execSvfsub (c : CpId) (v : VecFields) (s : State) : Out := .next (short 0x281 c v s)
/-- SVFMUL. -/
def execSvfmul (c : CpId) (v : VecFields) (s : State) : Out := .next (short 0x282 c v s)
/-- SVFMIN. -/
def execSvfmin (c : CpId) (v : VecFields) (s : State) : Out := .next (short 0x283 c v s)
/-- SVFMAX. -/
def execSvfmax (c : CpId) (v : VecFields) (s : State) : Out := .next (short 0x284 c v s)
/-- SVFABS. -/
def execSvfabs (c : CpId) (v : VecFields) (s : State) : Out := .next (short 0x285 c v s)
/-- SVFNEG. -/
def execSvfneg (c : CpId) (v : VecFields) (s : State) : Out := .next (short 0x286 c v s)
/-- SVFCPYS. -/
def execSvfcpys (c : CpId) (v : VecFields) (s : State) : Out := .next (short 0x287 c v s)
/-- SVFMA. -/
def execSvfma (c : CpId) (v : VecFields) (s : State) : Out := .next (short 0x288 c v s)
/-- SVFMS. -/
def execSvfms (c : CpId) (v : VecFields) (s : State) : Out := .next (short 0x289 c v s)
/-- SVFNMA. -/
def execSvfnma (c : CpId) (v : VecFields) (s : State) : Out := .next (short 0x28A c v s)
/-- SVFNMS. -/
def execSvfnms (c : CpId) (v : VecFields) (s : State) : Out := .next (short 0x28B c v s)
/-- SVFCVT. -/
def execSvfcvt (c : CpId) (v : VecFields) (s : State) : Out := .next (short 0x28C c v s)
/-- SVFCVTI. -/
def execSvfcvti (c : CpId) (v : VecFields) (s : State) : Out := .next (short 0x28D c v s)
/-- SVICVTF. -/
def execSvicvtf (c : CpId) (v : VecFields) (s : State) : Out := .next (short 0x28E c v s)
/-- SVADD. -/
def execSvadd (c : CpId) (v : VecFields) (s : State) : Out := .next (short 0x2A0 c v s)
/-- SVSUB. -/
def execSvsub (c : CpId) (v : VecFields) (s : State) : Out := .next (short 0x2A1 c v s)
/-- SVADDS. -/
def execSvadds (c : CpId) (v : VecFields) (s : State) : Out := .next (short 0x2A2 c v s)
/-- SVSUBS. -/
def execSvsubs (c : CpId) (v : VecFields) (s : State) : Out := .next (short 0x2A3 c v s)
/-- SVMUL. -/
def execSvmul (c : CpId) (v : VecFields) (s : State) : Out := .next (short 0x2A4 c v s)
/-- SVMULH. -/
def execSvmulh (c : CpId) (v : VecFields) (s : State) : Out := .next (short 0x2A5 c v s)
/-- SVMIN. -/
def execSvmin (c : CpId) (v : VecFields) (s : State) : Out := .next (short 0x2A6 c v s)
/-- SVMAX. -/
def execSvmax (c : CpId) (v : VecFields) (s : State) : Out := .next (short 0x2A7 c v s)
/-- SVAND. -/
def execSvand (c : CpId) (v : VecFields) (s : State) : Out := .next (short 0x2A8 c v s)
/-- SVOR. -/
def execSvor (c : CpId) (v : VecFields) (s : State) : Out := .next (short 0x2A9 c v s)
/-- SVXOR. -/
def execSvxor (c : CpId) (v : VecFields) (s : State) : Out := .next (short 0x2AA c v s)
/-- SVANDN. -/
def execSvandn (c : CpId) (v : VecFields) (s : State) : Out := .next (short 0x2AB c v s)
/-- SVNOT. -/
def execSvnot (c : CpId) (v : VecFields) (s : State) : Out := .next (short 0x2AC c v s)
/-- SVSHL. -/
def execSvshl (c : CpId) (v : VecFields) (s : State) : Out := .next (short 0x2AD c v s)
/-- SVSHR. -/
def execSvshr (c : CpId) (v : VecFields) (s : State) : Out := .next (short 0x2AE c v s)
/-- SVSAR. -/
def execSvsar (c : CpId) (v : VecFields) (s : State) : Out := .next (short 0x2AF c v s)
/-- SVABS. -/
def execSvabs (c : CpId) (v : VecFields) (s : State) : Out := .next (short 0x2B0 c v s)
/-- SVNEG. -/
def execSvneg (c : CpId) (v : VecFields) (s : State) : Out := .next (short 0x2B1 c v s)
/-- SVPOPC. -/
def execSvpopc (c : CpId) (v : VecFields) (s : State) : Out := .next (short 0x2B2 c v s)
/-- SVCLZ. -/
def execSvclz (c : CpId) (v : VecFields) (s : State) : Out := .next (short 0x2B3 c v s)
/-- SVSEL. -/
def execSvsel (c : CpId) (v : VecFields) (s : State) : Out := .next (short 0x2B4 c v s)
/-- SVCVTI. -/
def execSvcvti (c : CpId) (v : VecFields) (s : State) : Out := .next (short 0x2B5 c v s)
/-- SVMOV. -/
def execSvmov (c : CpId) (v : VecFields) (s : State) : Out := .next (short 0x2B6 c v s)
/-- SVFILL. -/
def execSvfill (c : CpId) (v : VecFields) (s : State) : Out := .next (short 0x2B7 c v s)
/-- SVIOTA. -/
def execSviota (c : CpId) (v : VecFields) (s : State) : Out := .next (short 0x2B8 c v s)
/-- SVCMPEQ. -/
def execSvcmpeq (c : CpId) (v : VecFields) (s : State) : Out := .next (short 0x2C0 c v s)
/-- SVCMPNE. -/
def execSvcmpne (c : CpId) (v : VecFields) (s : State) : Out := .next (short 0x2C1 c v s)
/-- SVCMPLT. -/
def execSvcmplt (c : CpId) (v : VecFields) (s : State) : Out := .next (short 0x2C2 c v s)
/-- SVCMPLE. -/
def execSvcmple (c : CpId) (v : VecFields) (s : State) : Out := .next (short 0x2C3 c v s)
/-- SVCMPGT. -/
def execSvcmpgt (c : CpId) (v : VecFields) (s : State) : Out := .next (short 0x2C4 c v s)
/-- SVCMPGE. -/
def execSvcmpge (c : CpId) (v : VecFields) (s : State) : Out := .next (short 0x2C5 c v s)
/-- SVCMPUN. -/
def execSvcmpun (c : CpId) (v : VecFields) (s : State) : Out := .next (short 0x2C6 c v s)
/-- SVTEST. -/
def execSvtest (c : CpId) (v : VecFields) (s : State) : Out := .next (short 0x2C7 c v s)
/-- SVRSUM. -/
def execSvrsum (c : CpId) (v : VecFields) (s : State) : Out := .next (short 0x2C8 c v s)
/-- SVRMIN. -/
def execSvrmin (c : CpId) (v : VecFields) (s : State) : Out := .next (short 0x2C9 c v s)
/-- SVRMAX. -/
def execSvrmax (c : CpId) (v : VecFields) (s : State) : Out := .next (short 0x2CA c v s)
/-- SVRAND. -/
def execSvrand (c : CpId) (v : VecFields) (s : State) : Out := .next (short 0x2CB c v s)
/-- SVROR. -/
def execSvror (c : CpId) (v : VecFields) (s : State) : Out := .next (short 0x2CC c v s)
/-- SVRXOR. -/
def execSvrxor (c : CpId) (v : VecFields) (s : State) : Out := .next (short 0x2CD c v s)
/-- SVRSUMO. -/
def execSvrsumo (c : CpId) (v : VecFields) (s : State) : Out := .next (short 0x2CE c v s)
/-- SVRCNT. -/
def execSvrcnt (c : CpId) (v : VecFields) (s : State) : Out := .next (short 0x2CF c v s)
/-- SVRFIRST. -/
def execSvrfirst (c : CpId) (v : VecFields) (s : State) : Out := .next (short 0x2D0 c v s)
/-- SVRSUMD. -/
def execSvrsumd (c : CpId) (v : VecFields) (s : State) : Out := .next (short 0x2D1 c v s)
/-- SVPERM. -/
def execSvperm (c : CpId) (v : VecFields) (s : State) : Out := .next (short 0x2D4 c v s)
/-- SVBCAST. -/
def execSvbcast (c : CpId) (v : VecFields) (s : State) : Out := .next (short 0x2D5 c v s)
/-- SVDOT4. -/
def execSvdot4 (c : CpId) (v : VecFields) (s : State) : Out := .next (short 0x2D6 c v s)
/-- SVWMUL. -/
def execSvwmul (c : CpId) (v : VecFields) (s : State) : Out := .next (short 0x2D7 c v s)

end Sys2Proof.Machine
end

