-- ==== Sys2Proof/Machine/TwdPort.lean ====
section
/-! DEFINITION. The Two-Wire Debug port (R590 to R598), and the injections that fire without an operation of their own (R370, R373). -/

namespace Sys2Proof.Machine

/-- Whether the port answers (R590); under the test strap no port does (R638). -/
def State.twdOpen (s : State) : Bool := !s.dbgClosed && s.dbgPol.portEn && s.sec.sys != .off && !s.rdB SB_STRAP.TEST

/-- The target drives a response. -/
def State.twdSay (s : State) (tag status : Nat) (data : Option (Word × BitVec 16)) : State :=
  { s with twd := { s.twd with resp := some (BitVec.ofNat 4 tag, BitVec.ofNat 4 status, data) } }

/-- The target drives nothing. -/
def State.twdSilent (s : State) : State := { s with twd := { s.twd with resp := none } }

/-- Set or clear ATTACH (R591). -/
def State.twdAttach (s : State) (on : Bool) : State :=
  if on then
    ((s.wr TWD_CTL.ATTACH 1).wr SEC_STAT.DBG_ATTACHED 1).modSec (fun e => { e with attachedEver := true })
  else s.detach

/-- The CRC of a packet: header, address and data, most significant byte first (R593). -/
def twdCrc (header : BitVec 16) (addr : BitVec 32) (data : Word) : BitVec 16 :=
  BitVec.ofNat 16 (crcOf 3 ((leBytes 2 header.toNat).reverse ++ (leBytes 4 addr.toNat).reverse ++ (leBytes 8 data.toNat).reverse))

/-- The header parity: even over bits [7:1] with PAR (R593). -/
def twdParity (h : BitVec 16) : Bool := popcount ((h.setWidth 64) &&& 0xFF) % 2 == 0

/-- A port register as it reads (R597). -/
def State.twdReg (s : State) (off : Nat) : Option Word :=
  if off = 0 then (if s.rdB TWD_CTL.ATTACH then some (BitVec.ofNat 64 (0x4816 + Config.fusedRev.toNat * 2 ^ 16 + 2 ^ 24)) else none)
  else if off = 8 then some (TWD_STAT.SLEEP_EMU.setIn (s.reg TWD_STAT.adr) (b2n s.pwr.emu))
  else if off = 0x10 then some (s.reg TWD_CTL.adr)
  else none

/-- A write of a port register. -/
def State.twdRegWrite (s : State) (off : Nat) (v : Word) : State :=
  if off = 8 then s.setReg TWD_STAT.adr (s.reg TWD_STAT.adr &&& ~~~(v &&& 7))
  else if off = 0x10 then s.twdAttach (bitOf v 0)
  else s

/-- A non-OKAY code is recorded (R596). -/
def State.twdCode (s : State) (code : Nat) : State := if code = 0 then s else s.wr TWD_STAT.FSTATUS code

/-- Whether a request for Control Space is refused: a sticky error, no debugger attached, or RECOVERY outside the mailbox (R591,
R594). -/
def State.twdBarred (s : State) (a : Nat) : Bool :=
  (s.reg TWD_STAT.adr &&& 7) != 0 || !s.rdB TWD_CTL.ATTACH ||
    (s.sec.sys == .recovery && !(decide (0x08000000 ≤ a) && decide (a < 0x08010000)))

/-- A read: the first packet starts the access and is told to retry; the same packet again gets the result (R595, R596). -/
def State.twdRead (s : State) (k : TwdPacket) (tag : Nat) (consume : Bool) : State :=
  let again := match s.twd.kept with | some (h, a, _, _) => h == k.header && a == k.addr | none => false
  match s.twd.kept with
  | some (_, _, code, v) =>
    if again then
      if code = 0 then s.twdSay tag 0x6 (some (v, twdCrc k.header k.addr v)) else (s.twdCode code).twdSay tag 0xC none
    else
      let r := s.csRead 35 none consume k.addr.toNat
      ({ r.2.2 with twd := { r.2.2.twd with kept := some (k.header, k.addr, r.1, r.2.1) } } : State).twdSay tag 0x9 none
  | none =>
    let r := s.csRead 35 none consume k.addr.toNat
    ({ r.2.2 with twd := { r.2.2.twd with kept := some (k.header, k.addr, r.1, r.2.1) } } : State).twdSay tag 0x9 none

/-- The data phase of a write: a CRC that fails discards it (R595). -/
def State.twdWrite (s : State) (k : TwdPacket) (tag op : Nat) : State :=
  let s := s.twdSay tag 0x6 none
  if k.crc ≠ twdCrc k.header k.addr k.data then s.wr TWD_STAT.CRC_ERR 1
  else if op = 1 then s.twdRegWrite k.addr.toNat k.data
  else
    let r := s.csWrite 35 none k.addr.toNat k.data
    if r.1 = 0 then r.2 else (r.2.wr TWD_STAT.FAB_ERR 1).twdCode r.1

/-- TWD_PACKET (R593 to R598). -/
def execTwdPacket (k : TwdPacket) (s : State) : Out :=
  let h := k.header.toNat
  let op := nbits h 5 2
  let tag := nbits h 1 4
  let read := bitOf k.header 7
  .next (if !s.twdOpen ∨ h / 256 ≠ 0xD2 then s.twdSilent
    else if !twdParity k.header then (s.wr TWD_STAT.PAR_ERR 1).twdSay tag 0xC none
    else if op = 3 then s.twdSay tag 0xC none
    else if op = 1 then
      match s.twdReg k.addr.toNat with
      | none => s.twdSay tag 0xC none
      | some v => if read then s.twdSay tag 0x6 (some (v, twdCrc k.header k.addr v)) else s.twdWrite k tag op
    else if s.twdBarred k.addr.toNat then s.twdSay tag 0xC none
    else if read then s.twdRead k tag (op == 2)
    else s.twdWrite k tag op)

/-- LINE_RESET: the pending read is cleared; the sticky flags stay (R594). -/
def execLineReset (s : State) : Out := .next { s with twd := ⟨none, none⟩ }

/-- TWD_ATTACH: a write of TWD_CTL.ATTACH. -/
def execTwdAttach (on : Bool) (s : State) : Out := .next (if s.twdOpen then s.twdAttach on else s)

/-! ### Injections (R370, R373) -/

/-- What an injection does that has no operation of its own to wait for: droop, the readback of a Load Advance driver, a CP
watchdog, a glitch and a clock monitor. -/
def State.injectNow (s : State) (point inst : Nat) : State :=
  let q : QuadId := ⟨inst % 4, by omega⟩
  let c : CpId := s.lead ⟨inst % 32, by omega⟩
  if point = 0x38 then s.droop q
  else if point = 0x3B then
    (((s.wr (LA_STAT.DRV_OFF q) 1).wr (LA_STAT.CODE q) 0).wr (LA_STAT.DIDT_USED q) 50).bucket 20 1
  else if point = 0x3D then (if (s.cp c).wdg.en ∧ (s.cp c).run ≠ .inReset ∧ !s.wdgFrozen c then s.wdgExpire c else s)
  else if point = 0x40 then (s.glitch 4).coldStart
  else (s.glitch 5).modSec (fun e => { e with clkOk := false })

/-- INJECTION_FIRE: an armed injection fires at its point's next operation; here those whose operation is the passing of time. Every
other point fires within the operation that it concerns (R370, R373). -/
def execInjectionFire (s : State) : Out :=
  let p := s.rd INJ_SEL.POINT
  let n := s.rd INJ_SEL.INST
  let own := p == 0x3D && decide (n < 32) || (p == 0x38 || p == 0x3B) && decide (n < 4) || p == 0x40 || p == 0x41
  .next (if s.rdB INJ_STAT.ARMED ∧ own then s.fired.injectNow p n else s)

end Sys2Proof.Machine
end

