-- ==== Sys2Proof/Machine/Dispatch.lean ====
section
/-! DEFINITION. One arm for each command: a direct call of its meaning. -/

namespace Sys2Proof.Machine

/-- The effect of a command on everything but the queue. -/
def exec (i : Instr) (s : State) : Host.Outcome State Fault Refusal :=
  match i with
  | .vauxPowerUp straps => Sys2Proof.Machine.execVauxPowerUp straps s
  | .vauxPowerLoss => Sys2Proof.Machine.execVauxPowerLoss s
  | .sysRstLAssert => Sys2Proof.Machine.execSysRstLAssert s
  | .glitchDetection => Sys2Proof.Machine.execGlitchDetection s
  | .clockMonitorTrip => Sys2Proof.Machine.execClockMonitorTrip s
  | .glitchBackoffExpiry => Sys2Proof.Machine.execGlitchBackoffExpiry s
  | .rindClockValid => Sys2Proof.Machine.execRindClockValid s
  | .railEnable pecOk cap => Sys2Proof.Machine.execRailEnable pecOk cap s
  | .railNeverReady => Sys2Proof.Machine.execRailNeverReady s
  | .railPowerUpRetry => Sys2Proof.Machine.execRailPowerUpRetry s
  | .nearTrainingDone res ids => Sys2Proof.Machine.execNearTrainingDone res ids s
  | .cellarTrainingDone dimms => Sys2Proof.Machine.execCellarTrainingDone dimms s
  | .moduleWatchdogWarning => Sys2Proof.Machine.execModuleWatchdogWarning s
  | .moduleWatchdogExpiry => Sys2Proof.Machine.execModuleWatchdogExpiry s
  | .fuseReread => Sys2Proof.Machine.execFuseReread s
  | .structDrainWrite v => Sys2Proof.Machine.execStructDrainWrite v s
  | .partitionDrained p => Sys2Proof.Machine.execPartitionDrained p s
  | .structLiveApply cmd => Sys2Proof.Machine.execStructLiveApply cmd s
  | .liveApplyFlashDone ok => Sys2Proof.Machine.execLiveApplyFlashDone ok s
  | .mov c d r => Sys2Proof.Machine.execMov c d r s
  | .add c d r => Sys2Proof.Machine.execAdd c d r s
  | .sub c d r => Sys2Proof.Machine.execSub c d r s
  | .and c d r => Sys2Proof.Machine.execAnd c d r s
  | .or c d r => Sys2Proof.Machine.execOr c d r s
  | .xor c d r => Sys2Proof.Machine.execXor c d r s
  | .adc c d r => Sys2Proof.Machine.execAdc c d r s
  | .sbc c d r => Sys2Proof.Machine.execSbc c d r s
  | .cmp c d r => Sys2Proof.Machine.execCmp c d r s
  | .shl c d r => Sys2Proof.Machine.execShl c d r s
  | .shr c d r => Sys2Proof.Machine.execShr c d r s
  | .sar c d r => Sys2Proof.Machine.execSar c d r s
  | .mvgf c d r => Sys2Proof.Machine.execMvgf c d r s
  | .mvfg c d r => Sys2Proof.Machine.execMvfg c d r s
  | .not c r => Sys2Proof.Machine.execNot c r s
  | .neg c r => Sys2Proof.Machine.execNeg c r s
  | .dadj c r => Sys2Proof.Machine.execDadj c r s
  | .clz c r => Sys2Proof.Machine.execClz c r s
  | .ctz c r => Sys2Proof.Machine.execCtz c r s
  | .popc c r => Sys2Proof.Machine.execPopc c r s
  | .sextb c r => Sys2Proof.Machine.execSextb c r s
  | .sexth c r => Sys2Proof.Machine.execSexth c r s
  | .zexth c r => Sys2Proof.Machine.execZexth c r s
  | .bswap c r => Sys2Proof.Machine.execBswap c r s
  | .nop c => Sys2Proof.Machine.execNop c s
  | .syncc c => Sys2Proof.Machine.execSyncc c s
  | .vsync c => Sys2Proof.Machine.execVsync c s
  | .vsyncComplete c => Sys2Proof.Machine.execVsyncComplete c s
  | .retx c => Sys2Proof.Machine.execRetx c s
  | .chkpt c => Sys2Proof.Machine.execChkpt c s
  | .waitIrq c => Sys2Proof.Machine.execWait c s
  | .waitEnd c => Sys2Proof.Machine.execWaitEnd c s
  | .lock c n => Sys2Proof.Machine.execLock c n s
  | .lockWindowTimeout c => Sys2Proof.Machine.execLockWindowTimeout c s
  | .setb c bit => Sys2Proof.Machine.execSetb c bit s
  | .clrb c bit => Sys2Proof.Machine.execClrb c bit s
  | .tglb c bit => Sys2Proof.Machine.execTglb c bit s
  | .tstb c bit => Sys2Proof.Machine.execTstb c bit s
  | .add3 c d a b fn => Sys2Proof.Machine.execAdd3 c d a b fn s
  | .sub3 c d a b fn => Sys2Proof.Machine.execSub3 c d a b fn s
  | .and3 c d a b fn => Sys2Proof.Machine.execAnd3 c d a b fn s
  | .or3 c d a b fn => Sys2Proof.Machine.execOr3 c d a b fn s
  | .xor3 c d a b fn => Sys2Proof.Machine.execXor3 c d a b fn s
  | .shl3 c d a b fn => Sys2Proof.Machine.execShl3 c d a b fn s
  | .shr3 c d a b fn => Sys2Proof.Machine.execShr3 c d a b fn s
  | .sar3 c d a b fn => Sys2Proof.Machine.execSar3 c d a b fn s
  | .mul c d a b fn => Sys2Proof.Machine.execMul c d a b fn s
  | .mulhu c d a b fn => Sys2Proof.Machine.execMulhu c d a b fn s
  | .mulhs c d a b fn => Sys2Proof.Machine.execMulhs c d a b fn s
  | .idstep c d a b fn => Sys2Proof.Machine.execIdstep c d a b fn s
  | .dadd c d a b fn => Sys2Proof.Machine.execDadd c d a b fn s
  | .dsub c d a b fn => Sys2Proof.Machine.execDsub c d a b fn s
  | .pack c d a b fn => Sys2Proof.Machine.execPack c d a b fn s
  | .unpk c d a b fn => Sys2Proof.Machine.execUnpk c d a b fn s
  | .addi c d imm => Sys2Proof.Machine.execAddi c d imm s
  | .andi c d imm => Sys2Proof.Machine.execAndi c d imm s
  | .ori c d imm => Sys2Proof.Machine.execOri c d imm s
  | .xori c d imm => Sys2Proof.Machine.execXori c d imm s
  | .movi c d imm => Sys2Proof.Machine.execMovi c d imm s
  | .cmpi c d imm => Sys2Proof.Machine.execCmpi c d imm s
  | .shiShl c d hi mid amt => Sys2Proof.Machine.execShiShl c d hi mid amt s
  | .shiShr c d hi mid amt => Sys2Proof.Machine.execShiShr c d hi mid amt s
  | .shiSar c d hi mid amt => Sys2Proof.Machine.execShiSar c d hi mid amt s
  | .shiRor c d hi mid amt => Sys2Proof.Machine.execShiRor c d hi mid amt s
  | .ldb c d k off => Sys2Proof.Machine.execLdb c d k off s
  | .ldh c d k off => Sys2Proof.Machine.execLdh c d k off s
  | .ldhs c d k off => Sys2Proof.Machine.execLdhs c d k off s
  | .ldw c d k off => Sys2Proof.Machine.execLdw c d k off s
  | .stb c d k off => Sys2Proof.Machine.execStb c d k off s
  | .sth c d k off => Sys2Proof.Machine.execSth c d k off s
  | .stw c d k off => Sys2Proof.Machine.execStw c d k off s
  | .storeRelease c => Sys2Proof.Machine.execStoreRelease c s
  | .ldf c d k off => Sys2Proof.Machine.execLdf c d k off s
  | .stf c d k off => Sys2Proof.Machine.execStf c d k off s
  | .ldk c d k off => Sys2Proof.Machine.execLdk c d k off s
  | .stk c d k off => Sys2Proof.Machine.execStk c d k off s
  | .ldl c d k off => Sys2Proof.Machine.execLdl c d k off s
  | .stc c d k off => Sys2Proof.Machine.execStc c d k off s
  | .ldd c d k off => Sys2Proof.Machine.execLdd c d k off s
  | .std c d k off => Sys2Proof.Machine.execStd c d k off s
  | .inPort c d a off => Sys2Proof.Machine.execInPort c d a off s
  | .inResponse c => Sys2Proof.Machine.execInResponse c s
  | .outPort c d a off => Sys2Proof.Machine.execOutPort c d a off s
  | .movc c g num low => Sys2Proof.Machine.execMovc c g num low s
  | .movcr c g num low => Sys2Proof.Machine.execMovcr c g num low s
  | .kmov c d a b => Sys2Proof.Machine.execKmov c d a b s
  | .kadd c d a b => Sys2Proof.Machine.execKadd c d a b s
  | .kbnd c d a b => Sys2Proof.Machine.execKbnd c d a b s
  | .kmask c d a b => Sys2Proof.Machine.execKmask c d a b s
  | .klock c d a b => Sys2Proof.Machine.execKlock c d a b s
  | .kopen c d a b => Sys2Proof.Machine.execKopen c d a b s
  | .krdc c d a b => Sys2Proof.Machine.execKrdc c d a b s
  | .krdb c d a b => Sys2Proof.Machine.execKrdb c d a b s
  | .krdl c d a b => Sys2Proof.Machine.execKrdl c d a b s
  | .krdp c d a b => Sys2Proof.Machine.execKrdp c d a b s
  | .krdt c d a b => Sys2Proof.Machine.execKrdt c d a b s
  | .krdv c d a b => Sys2Proof.Machine.execKrdv c d a b s
  | .calloc c d a b => Sys2Proof.Machine.execCalloc c d a b s
  | .cfree c d a b => Sys2Proof.Machine.execCfree c d a b s
  | .cfreeResume c => Sys2Proof.Machine.execCfreeResume c s
  | .kpcc c d a b => Sys2Proof.Machine.execKpcc c d a b s
  | .kdrop c d a b => Sys2Proof.Machine.execKdrop c d a b s
  | .band c dst src => Sys2Proof.Machine.execBand c dst src s
  | .bor c dst src => Sys2Proof.Machine.execBor c dst src s
  | .bxor c dst src => Sys2Proof.Machine.execBxor c dst src s
  | .bmov c dst src => Sys2Proof.Machine.execBmov c dst src s
  | .loopSetup c a len => Sys2Proof.Machine.execLoop c a len s
  | .br c disp => Sys2Proof.Machine.execBr c disp s
  | .brD c disp => Sys2Proof.Machine.execBrD c disp s
  | .call c disp => Sys2Proof.Machine.execCall c disp s
  | .callD c disp => Sys2Proof.Machine.execCallD c disp s
  | .jr c d a b => Sys2Proof.Machine.execJr c d a b s
  | .jrD c d a b => Sys2Proof.Machine.execJrD c d a b s
  | .callr c d a b => Sys2Proof.Machine.execCallr c d a b s
  | .callrD c d a b => Sys2Proof.Machine.execCallrD c d a b s
  | .trap c d a b fn => Sys2Proof.Machine.execTrap c d a b fn s
  | .bbc c bit disp => Sys2Proof.Machine.execBbc c bit disp s
  | .bbcD c bit disp => Sys2Proof.Machine.execBbcD c bit disp s
  | .bbs c bit disp => Sys2Proof.Machine.execBbs c bit disp s
  | .bbsD c bit disp => Sys2Proof.Machine.execBbsD c bit disp s
  | .movi32 c d a sub imm => Sys2Proof.Machine.execMovi32 c d a sub imm s
  | .movhi32 c d a sub imm => Sys2Proof.Machine.execMovhi32 c d a sub imm s
  | .addi32 c d a sub imm => Sys2Proof.Machine.execAddi32 c d a sub imm s
  | .andi32 c d a sub imm => Sys2Proof.Machine.execAndi32 c d a sub imm s
  | .ori32 c d a sub imm => Sys2Proof.Machine.execOri32 c d a sub imm s
  | .xori32 c d a sub imm => Sys2Proof.Machine.execXori32 c d a sub imm s
  | .cmpi32 c d a sub imm => Sys2Proof.Machine.execCmpi32 c d a sub imm s
  | .setbx c d a sub imm => Sys2Proof.Machine.execSetbx c d a sub imm s
  | .clrbx c d a sub imm => Sys2Proof.Machine.execClrbx c d a sub imm s
  | .tglbx c d a sub imm => Sys2Proof.Machine.execTglbx c d a sub imm s
  | .tstbx c d a sub imm => Sys2Proof.Machine.execTstbx c d a sub imm s
  | .bandx c d a sub imm => Sys2Proof.Machine.execBandx c d a sub imm s
  | .borx c d a sub imm => Sys2Proof.Machine.execBorx c d a sub imm s
  | .bxorx c d a sub imm => Sys2Proof.Machine.execBxorx c d a sub imm s
  | .bmovx c d a sub imm => Sys2Proof.Machine.execBmovx c d a sub imm s
  | .bbcx c d a sub imm => Sys2Proof.Machine.execBbcx c d a sub imm s
  | .bbcxD c d a sub imm => Sys2Proof.Machine.execBbcxD c d a sub imm s
  | .bbsx c d a sub imm => Sys2Proof.Machine.execBbsx c d a sub imm s
  | .bbsxD c d a sub imm => Sys2Proof.Machine.execBbsxD c d a sub imm s
  | .jmpa c d a sub imm => Sys2Proof.Machine.execJmpa c d a sub imm s
  | .calla c d a sub imm => Sys2Proof.Machine.execCalla c d a sub imm s
  | .mvgfx c d a sub imm => Sys2Proof.Machine.execMvgfx c d a sub imm s
  | .mvfgx c d a sub imm => Sys2Proof.Machine.execMvfgx c d a sub imm s
  | .inx c d a sub imm => Sys2Proof.Machine.execInx c d a sub imm s
  | .outx c d a sub imm => Sys2Proof.Machine.execOutx c d a sub imm s
  | .pramDataWrite c w => Sys2Proof.Machine.execPramDataWrite c w s
  | .timerMatch c n => Sys2Proof.Machine.execTimerMatch c n s
  | .interruptAccept c => Sys2Proof.Machine.execInterruptAccept c s
  | .entryTakeover c => Sys2Proof.Machine.execEntryTakeover c s
  | .cpReset c => Sys2Proof.Machine.execCpReset c s
  | .cpDoorbell c ring => Sys2Proof.Machine.execCpDoorbell c ring s
  | .wdgCtlWrite c v => Sys2Proof.Machine.execWdgCtlWrite c v s
  | .wdgKick c key => Sys2Proof.Machine.execWdgKick c key s
  | .wdgWarning c => Sys2Proof.Machine.execWdgWarning c s
  | .wdgExpiry c => Sys2Proof.Machine.execWdgExpiry c s
  | .vfadd c v => Sys2Proof.Machine.execVfadd c v s
  | .vfsub c v => Sys2Proof.Machine.execVfsub c v s
  | .vfmul c v => Sys2Proof.Machine.execVfmul c v s
  | .vfmin c v => Sys2Proof.Machine.execVfmin c v s
  | .vfmax c v => Sys2Proof.Machine.execVfmax c v s
  | .vfabs c v => Sys2Proof.Machine.execVfabs c v s
  | .vfneg c v => Sys2Proof.Machine.execVfneg c v s
  | .vfcpys c v => Sys2Proof.Machine.execVfcpys c v s
  | .vfma c v => Sys2Proof.Machine.execVfma c v s
  | .vfms c v => Sys2Proof.Machine.execVfms c v s
  | .vfnma c v => Sys2Proof.Machine.execVfnma c v s
  | .vfnms c v => Sys2Proof.Machine.execVfnms c v s
  | .vfcvt c v => Sys2Proof.Machine.execVfcvt c v s
  | .vfcvti c v => Sys2Proof.Machine.execVfcvti c v s
  | .vicvtf c v => Sys2Proof.Machine.execVicvtf c v s
  | .vadd c v => Sys2Proof.Machine.execVadd c v s
  | .vsub c v => Sys2Proof.Machine.execVsub c v s
  | .vadds c v => Sys2Proof.Machine.execVadds c v s
  | .vsubs c v => Sys2Proof.Machine.execVsubs c v s
  | .vmul c v => Sys2Proof.Machine.execVmul c v s
  | .vmulh c v => Sys2Proof.Machine.execVmulh c v s
  | .vmin c v => Sys2Proof.Machine.execVmin c v s
  | .vmax c v => Sys2Proof.Machine.execVmax c v s
  | .vand c v => Sys2Proof.Machine.execVand c v s
  | .vor c v => Sys2Proof.Machine.execVor c v s
  | .vxor c v => Sys2Proof.Machine.execVxor c v s
  | .vandn c v => Sys2Proof.Machine.execVandn c v s
  | .vnot c v => Sys2Proof.Machine.execVnot c v s
  | .vshl c v => Sys2Proof.Machine.execVshl c v s
  | .vshr c v => Sys2Proof.Machine.execVshr c v s
  | .vsar c v => Sys2Proof.Machine.execVsar c v s
  | .vabs c v => Sys2Proof.Machine.execVabs c v s
  | .vneg c v => Sys2Proof.Machine.execVneg c v s
  | .vpopc c v => Sys2Proof.Machine.execVpopc c v s
  | .vclz c v => Sys2Proof.Machine.execVclz c v s
  | .vsel c v => Sys2Proof.Machine.execVsel c v s
  | .vcvti c v => Sys2Proof.Machine.execVcvti c v s
  | .vmov c v => Sys2Proof.Machine.execVmov c v s
  | .vfill c v => Sys2Proof.Machine.execVfill c v s
  | .viota c v => Sys2Proof.Machine.execViota c v s
  | .vwmul c v => Sys2Proof.Machine.execVwmul c v s
  | .vwma c v => Sys2Proof.Machine.execVwma c v s
  | .vdot4 c v => Sys2Proof.Machine.execVdot4 c v s
  | .vdot4su c v => Sys2Proof.Machine.execVdot4su c v s
  | .vfdot2 c v => Sys2Proof.Machine.execVfdot2 c v s
  | .vcmpeq c v => Sys2Proof.Machine.execVcmpeq c v s
  | .vcmpne c v => Sys2Proof.Machine.execVcmpne c v s
  | .vcmplt c v => Sys2Proof.Machine.execVcmplt c v s
  | .vcmple c v => Sys2Proof.Machine.execVcmple c v s
  | .vcmpgt c v => Sys2Proof.Machine.execVcmpgt c v s
  | .vcmpge c v => Sys2Proof.Machine.execVcmpge c v s
  | .vcmpun c v => Sys2Proof.Machine.execVcmpun c v s
  | .vtest c v => Sys2Proof.Machine.execVtest c v s
  | .vcompress c v => Sys2Proof.Machine.execVcompress c v s
  | .vexpand c v => Sys2Proof.Machine.execVexpand c v s
  | .vgather c v => Sys2Proof.Machine.execVgather c v s
  | .vscatter c v => Sys2Proof.Machine.execVscatter c v s
  | .vrev c v => Sys2Proof.Machine.execVrev c v s
  | .vlds c v => Sys2Proof.Machine.execVlds c v s
  | .vsts c v => Sys2Proof.Machine.execVsts c v s
  | .vrsum c v => Sys2Proof.Machine.execVrsum c v s
  | .vrmin c v => Sys2Proof.Machine.execVrmin c v s
  | .vrmax c v => Sys2Proof.Machine.execVrmax c v s
  | .vrand c v => Sys2Proof.Machine.execVrand c v s
  | .vror c v => Sys2Proof.Machine.execVror c v s
  | .vrxor c v => Sys2Proof.Machine.execVrxor c v s
  | .vrsumo c v => Sys2Proof.Machine.execVrsumo c v s
  | .vrcnt c v => Sys2Proof.Machine.execVrcnt c v s
  | .vrfirst c v => Sys2Proof.Machine.execVrfirst c v s
  | .vrsumd c v => Sys2Proof.Machine.execVrsumd c v s
  | .vdadd c v => Sys2Proof.Machine.execVdadd c v s
  | .vdsub c v => Sys2Proof.Machine.execVdsub c v s
  | .vdaddc c v => Sys2Proof.Machine.execVdaddc c v s
  | .vdsubc c v => Sys2Proof.Machine.execVdsubc c v s
  | .vdshl c v => Sys2Proof.Machine.execVdshl c v s
  | .vdshr c v => Sys2Proof.Machine.execVdshr c v s
  | .vdmul1 c v => Sys2Proof.Machine.execVdmul1 c v s
  | .vcvtbd c v => Sys2Proof.Machine.execVcvtbd c v s
  | .vcvtdb c v => Sys2Proof.Machine.execVcvtdb c v s
  | .vidstep c v => Sys2Proof.Machine.execVidstep c v s
  | .vfrseed c v => Sys2Proof.Machine.execVfrseed c v s
  | .vfrstep c v => Sys2Proof.Machine.execVfrstep c v s
  | .vfrsqseed c v => Sys2Proof.Machine.execVfrsqseed c v s
  | .vfrsqstep c v => Sys2Proof.Machine.execVfrsqstep c v s
  | .vddstep c v => Sys2Proof.Machine.execVddstep c v s
  | .vectorIssueResume c => Sys2Proof.Machine.execVectorIssueResume c s
  | .svfadd c v => Sys2Proof.Machine.execSvfadd c v s
  | .svfsub c v => Sys2Proof.Machine.execSvfsub c v s
  | .svfmul c v => Sys2Proof.Machine.execSvfmul c v s
  | .svfmin c v => Sys2Proof.Machine.execSvfmin c v s
  | .svfmax c v => Sys2Proof.Machine.execSvfmax c v s
  | .svfabs c v => Sys2Proof.Machine.execSvfabs c v s
  | .svfneg c v => Sys2Proof.Machine.execSvfneg c v s
  | .svfcpys c v => Sys2Proof.Machine.execSvfcpys c v s
  | .svfma c v => Sys2Proof.Machine.execSvfma c v s
  | .svfms c v => Sys2Proof.Machine.execSvfms c v s
  | .svfnma c v => Sys2Proof.Machine.execSvfnma c v s
  | .svfnms c v => Sys2Proof.Machine.execSvfnms c v s
  | .svfcvt c v => Sys2Proof.Machine.execSvfcvt c v s
  | .svfcvti c v => Sys2Proof.Machine.execSvfcvti c v s
  | .svicvtf c v => Sys2Proof.Machine.execSvicvtf c v s
  | .svadd c v => Sys2Proof.Machine.execSvadd c v s
  | .svsub c v => Sys2Proof.Machine.execSvsub c v s
  | .svadds c v => Sys2Proof.Machine.execSvadds c v s
  | .svsubs c v => Sys2Proof.Machine.execSvsubs c v s
  | .svmul c v => Sys2Proof.Machine.execSvmul c v s
  | .svmulh c v => Sys2Proof.Machine.execSvmulh c v s
  | .svmin c v => Sys2Proof.Machine.execSvmin c v s
  | .svmax c v => Sys2Proof.Machine.execSvmax c v s
  | .svand c v => Sys2Proof.Machine.execSvand c v s
  | .svor c v => Sys2Proof.Machine.execSvor c v s
  | .svxor c v => Sys2Proof.Machine.execSvxor c v s
  | .svandn c v => Sys2Proof.Machine.execSvandn c v s
  | .svnot c v => Sys2Proof.Machine.execSvnot c v s
  | .svshl c v => Sys2Proof.Machine.execSvshl c v s
  | .svshr c v => Sys2Proof.Machine.execSvshr c v s
  | .svsar c v => Sys2Proof.Machine.execSvsar c v s
  | .svabs c v => Sys2Proof.Machine.execSvabs c v s
  | .svneg c v => Sys2Proof.Machine.execSvneg c v s
  | .svpopc c v => Sys2Proof.Machine.execSvpopc c v s
  | .svclz c v => Sys2Proof.Machine.execSvclz c v s
  | .svsel c v => Sys2Proof.Machine.execSvsel c v s
  | .svcvti c v => Sys2Proof.Machine.execSvcvti c v s
  | .svmov c v => Sys2Proof.Machine.execSvmov c v s
  | .svfill c v => Sys2Proof.Machine.execSvfill c v s
  | .sviota c v => Sys2Proof.Machine.execSviota c v s
  | .svcmpeq c v => Sys2Proof.Machine.execSvcmpeq c v s
  | .svcmpne c v => Sys2Proof.Machine.execSvcmpne c v s
  | .svcmplt c v => Sys2Proof.Machine.execSvcmplt c v s
  | .svcmple c v => Sys2Proof.Machine.execSvcmple c v s
  | .svcmpgt c v => Sys2Proof.Machine.execSvcmpgt c v s
  | .svcmpge c v => Sys2Proof.Machine.execSvcmpge c v s
  | .svcmpun c v => Sys2Proof.Machine.execSvcmpun c v s
  | .svtest c v => Sys2Proof.Machine.execSvtest c v s
  | .svrsum c v => Sys2Proof.Machine.execSvrsum c v s
  | .svrmin c v => Sys2Proof.Machine.execSvrmin c v s
  | .svrmax c v => Sys2Proof.Machine.execSvrmax c v s
  | .svrand c v => Sys2Proof.Machine.execSvrand c v s
  | .svror c v => Sys2Proof.Machine.execSvror c v s
  | .svrxor c v => Sys2Proof.Machine.execSvrxor c v s
  | .svrsumo c v => Sys2Proof.Machine.execSvrsumo c v s
  | .svrcnt c v => Sys2Proof.Machine.execSvrcnt c v s
  | .svrfirst c v => Sys2Proof.Machine.execSvrfirst c v s
  | .svrsumd c v => Sys2Proof.Machine.execSvrsumd c v s
  | .svld c v => Sys2Proof.Machine.execSvld c v s
  | .svst c v => Sys2Proof.Machine.execSvst c v s
  | .svperm c v => Sys2Proof.Machine.execSvperm c v s
  | .svbcast c v => Sys2Proof.Machine.execSvbcast c v s
  | .svdot4 c v => Sys2Proof.Machine.execSvdot4 c v s
  | .svwmul c v => Sys2Proof.Machine.execSvwmul c v s
  | .dsetc c v => Sys2Proof.Machine.execDsetc c v s
  | .dseto c v => Sys2Proof.Machine.execDseto c v s
  | .dsets c v => Sys2Proof.Machine.execDsets c v s
  | .dsetf c v => Sys2Proof.Machine.execDsetf c v s
  | .dadv c v => Sys2Proof.Machine.execDadv c v s
  | .dget c v => Sys2Proof.Machine.execDget c v s
  | .dgetc c v => Sys2Proof.Machine.execDgetc c v s
  | .dcopy c v => Sys2Proof.Machine.execDcopy c v s
  | .chainWaitExpiry c => Sys2Proof.Machine.execChainWaitExpiry c s
  | .stripDispatch p => Sys2Proof.Machine.execStripDispatch p s
  | .stealWaitExpiry c => Sys2Proof.Machine.execStealWaitExpiry c s
  | .stripCommit c k => Sys2Proof.Machine.execStripCommit c k s
  | .stripFault c k => Sys2Proof.Machine.execStripFault c k s
  | .vectorQueueFreeze c => Sys2Proof.Machine.execVectorQueueFreeze c s
  | .vqResume c => Sys2Proof.Machine.execVqResume c s
  | .vqFlush c => Sys2Proof.Machine.execVqFlush c s
  | .vqStop c => Sys2Proof.Machine.execVqStop c s
  | .vqStopDone c => Sys2Proof.Machine.execVqStopDone c s
  | .vqStart c => Sys2Proof.Machine.execVqStart c s
  | .vsave c slot => Sys2Proof.Machine.execVsave c slot s
  | .vrestore c slot => Sys2Proof.Machine.execVrestore c slot s
  | .vqDiscard c slot => Sys2Proof.Machine.execVqDiscard c slot s
  | .pipePark pipe => Sys2Proof.Machine.execPipePark pipe s
  | .leadExpiry q => Sys2Proof.Machine.execLeadExpiry q s
  | .rampEnd q => Sys2Proof.Machine.execRampEnd q s
  | .ldadvReadbackFault q => Sys2Proof.Machine.execLdadvReadbackFault q s
  | .granuleZeroed tier => Sys2Proof.Machine.execGranuleZeroed tier s
  | .sweepEpochClose => Sys2Proof.Machine.execSweepEpochClose s
  | .sweepNow => Sys2Proof.Machine.execSweepNow s
  | .heatPeriodEnd => Sys2Proof.Machine.execHeatPeriodEnd s
  | .migrationStart p page => Sys2Proof.Machine.execMigrationStart p page s
  | .migrationCopyDone p page => Sys2Proof.Machine.execMigrationCopyDone p page s
  | .migrationRelease p page => Sys2Proof.Machine.execMigrationRelease p page s
  | .pgHintNear p => Sys2Proof.Machine.execPgHintNear p s
  | .pgHintCold p => Sys2Proof.Machine.execPgHintCold p s
  | .pgHintNone p => Sys2Proof.Machine.execPgHintNone p s
  | .pgHintLayout p il hash size => Sys2Proof.Machine.execPgHintLayout p il hash size s
  | .pgHintPrefault p => Sys2Proof.Machine.execPgHintPrefault p s
  | .pgHintGuard p => Sys2Proof.Machine.execPgHintGuard p s
  | .pgHintUnguard p => Sys2Proof.Machine.execPgHintUnguard p s
  | .pgHintComplete p => Sys2Proof.Machine.execPgHintComplete p s
  | .shootdownComplete p => Sys2Proof.Machine.execShootdownComplete p s
  | .heapWindowWrite p top v => Sys2Proof.Machine.execHeapWindowWrite p top v s
  | .nearRefresh stack pc bank => Sys2Proof.Machine.execNearRefresh stack pc bank s
  | .refreshManagement stack pc bank => Sys2Proof.Machine.execRefreshManagement stack pc bank s
  | .calibrationSlot stack pc eye lane => Sys2Proof.Machine.execCalibrationSlot stack pc eye lane s
  | .writeLevellingTrigger stack => Sys2Proof.Machine.execWriteLevellingTrigger stack s
  | .wlNow stack => Sys2Proof.Machine.execWlNow stack s
  | .stackTemperatureRead stack temp => Sys2Proof.Machine.execStackTemperatureRead stack temp s
  | .calDeferLimit stack pc => Sys2Proof.Machine.execCalDeferLimit stack pc s
  | .cellarCalibrationSlot ch sub => Sys2Proof.Machine.execCellarCalibrationSlot ch sub s
  | .dimmTemperatureRead ch dimm temp => Sys2Proof.Machine.execDimmTemperatureRead ch dimm temp s
  | .commandParityReissue tier unit => Sys2Proof.Machine.execCommandParityReissue tier unit s
  | .flitForward router port x => Sys2Proof.Machine.execFlitForward router port x s
  | .gridWriteback key => Sys2Proof.Machine.execGridWriteback key s
  | .scrubStep tier => Sys2Proof.Machine.execScrubStep tier s
  | .arrayScrub cl x => Sys2Proof.Machine.execArrayScrub cl x s
  | .bucketLeakTick b => Sys2Proof.Machine.execBucketLeakTick b s
  | .bktCfgWrite b v => Sys2Proof.Machine.execBktCfgWrite b v s
  | .injArm => Sys2Proof.Machine.execInjArm s
  | .injDisarm => Sys2Proof.Machine.execInjDisarm s
  | .injectionFire => Sys2Proof.Machine.execInjectionFire s
  | .rawAccess => Sys2Proof.Machine.execRawAccess s
  | .fabricTransaction port fresh => Sys2Proof.Machine.execFabricTransaction port fresh s
  | .fabricResponse m id => Sys2Proof.Machine.execFabricResponse m id s
  | .fabricTimeout m id => Sys2Proof.Machine.execFabricTimeout m id s
  | .rateGateReopen k => Sys2Proof.Machine.execRateGateReopen k s
  | .latchDelivery consumer => Sys2Proof.Machine.execLatchDelivery consumer s
  | .evtSwtrig v => Sys2Proof.Machine.execEvtSwtrig v s
  | .evtCommitGo => Sys2Proof.Machine.execEvtCommitGo s
  | .evtCommitDone => Sys2Proof.Machine.execEvtCommitDone s
  | .evtOutPulseEnd n => Sys2Proof.Machine.execEvtOutPulseEnd n s
  | .evtInEdge n rising => Sys2Proof.Machine.execEvtInEdge n rising s
  | .gpioEdge n rising => Sys2Proof.Machine.execGpioEdge n rising s
  | .frameReceive f => Sys2Proof.Machine.execFrameReceive f s
  | .arpRequest f => Sys2Proof.Machine.execArpRequest f s
  | .neighbourSolicitation f => Sys2Proof.Machine.execNeighbourSolicitation f s
  | .icmpEcho f => Sys2Proof.Machine.execIcmpEcho f s
  | .pauseFrame port pfc mask quanta => Sys2Proof.Machine.execPauseFrame port pfc mask quanta s
  | .receiveQueueFlowControl port level => Sys2Proof.Machine.execReceiveQueueFlowControl port level s
  | .ptpMessage port offset => Sys2Proof.Machine.execPtpMessage port offset s
  | .ptpSecondBoundary => Sys2Proof.Machine.execPtpSecondBoundary s
  | .ptpStep step => Sys2Proof.Machine.execPtpStep step s
  | .linkStateChange port sub up lanes reversed => Sys2Proof.Machine.execLinkStateChange port sub up lanes reversed s
  | .kwtOpen f => Sys2Proof.Machine.execKwtOpen f s
  | .kwtClose f => Sys2Proof.Machine.execKwtClose f s
  | .sessionCloseComplete r => Sys2Proof.Machine.execSessionCloseComplete r s
  | .kwtWrite f => Sys2Proof.Machine.execKwtWrite f s
  | .kwtRead f => Sys2Proof.Machine.execKwtRead f s
  | .readRespPiece r => Sys2Proof.Machine.execReadRespPiece r s
  | .kwtSubmit f => Sys2Proof.Machine.execKwtSubmit f s
  | .kwtMgmt f => Sys2Proof.Machine.execKwtMgmt f s
  | .kwtUpdate f => Sys2Proof.Machine.execKwtUpdate f s
  | .kwtAck f => Sys2Proof.Machine.execKwtAck f s
  | .ackDelayExpiry r => Sys2Proof.Machine.execAckDelayExpiry r s
  | .retransmissionTimeout r seq => Sys2Proof.Machine.execRetransmissionTimeout r seq s
  | .sessCtlWrite r v => Sys2Proof.Machine.execSessCtlWrite r v s
  | .tokenBind tp => Sys2Proof.Machine.execTokenBind tp s
  | .tokenUnbind tp idx => Sys2Proof.Machine.execTokenUnbind tp idx s
  | .notifyQueue qs arg => Sys2Proof.Machine.execNotifyQueue qs arg s
  | .notifySend qs => Sys2Proof.Machine.execNotifySend qs s
  | .dmaDescriptorQueue n w3 => Sys2Proof.Machine.execDmaDescriptorQueue n w3 s
  | .dmaDescriptorStart n => Sys2Proof.Machine.execDmaDescriptorStart n s
  | .dmaDescriptorComplete n => Sys2Proof.Machine.execDmaDescriptorComplete n s
  | .deResume n => Sys2Proof.Machine.execDeResume n s
  | .deFlush n => Sys2Proof.Machine.execDeFlush n s
  | .cuValWrite n v => Sys2Proof.Machine.execCuValWrite n v s
  | .mbxRequest => Sys2Proof.Machine.execMbxRequest s
  | .autoConfirmExpiry => Sys2Proof.Machine.execAutoConfirmExpiry s
  | .telemetryPoll t => Sys2Proof.Machine.execTelemetryPoll t s
  | .estimatorUpdate q sum => Sys2Proof.Machine.execEstimatorUpdate q sum s
  | .avsbusSetpointWrite q mhz25 acked => Sys2Proof.Machine.execAvsbusSetpointWrite q mhz25 acked s
  | .clockRaise q => Sys2Proof.Machine.execClockRaise q s
  | .vrrdyFall q => Sys2Proof.Machine.execVrrdyFall q s
  | .vrrdyLowTimeout q => Sys2Proof.Machine.execVrrdyLowTimeout q s
  | .vrrdyRise q => Sys2Proof.Machine.execVrrdyRise q s
  | .remoteSenseOpen q => Sys2Proof.Machine.execRemoteSenseOpen q s
  | .droopTrip q => Sys2Proof.Machine.execDroopTrip q s
  | .droopHoldEnd q => Sys2Proof.Machine.execDroopHoldEnd q s
  | .powerEstimate watts => Sys2Proof.Machine.execPowerEstimate watts s
  | .powerClockStepDown => Sys2Proof.Machine.execPowerClockStepDown s
  | .powerClockStepUp => Sys2Proof.Machine.execPowerClockStepUp s
  | .excursionLimit => Sys2Proof.Machine.execExcursionLimit s
  | .thermalConversion temps => Sys2Proof.Machine.execThermalConversion temps s
  | .throttleStepDown q => Sys2Proof.Machine.execThrottleStepDown q s
  | .throttleStepUp q => Sys2Proof.Machine.execThrottleStepUp q s
  | .monitorSample m => Sys2Proof.Machine.execMonitorSample m s
  | .shedLevelRise => Sys2Proof.Machine.execShedLevelRise s
  | .shedLevelFall => Sys2Proof.Machine.execShedLevelFall s
  | .shed7Exit => Sys2Proof.Machine.execShed7Exit s
  | .finalCheckpointAbandon => Sys2Proof.Machine.execFinalCheckpointAbandon s
  | .shedFloorWrite level => Sys2Proof.Machine.execShedFloorWrite level s
  | .sleepRequest sramRet => Sys2Proof.Machine.execSleepRequest sramRet s
  | .sleepEntryComplete => Sys2Proof.Machine.execSleepEntryComplete s
  | .wake => Sys2Proof.Machine.execWake s
  | .wakeTimerExpiry => Sys2Proof.Machine.execWakeTimerExpiry s
  | .uboriLinkUp lanes => Sys2Proof.Machine.execUboriLinkUp lanes s
  | .uboriLinkDown => Sys2Proof.Machine.execUboriLinkDown s
  | .uboriLinkRetrain working => Sys2Proof.Machine.execUboriLinkRetrain working s
  | .uboriRetransmit => Sys2Proof.Machine.execUboriRetransmit s
  | .helloFrame f hello auth => Sys2Proof.Machine.execHelloFrame f hello auth s
  | .heartbeatSend => Sys2Proof.Machine.execHeartbeatSend s
  | .heartbeatFrame f => Sys2Proof.Machine.execHeartbeatFrame f s
  | .pairHbOutToggle => Sys2Proof.Machine.execPairHbOutToggle s
  | .mirrorCheckpointCut => Sys2Proof.Machine.execMirrorCheckpointCut s
  | .ckptBegin f => Sys2Proof.Machine.execCkptBegin f s
  | .pageFrame f => Sys2Proof.Machine.execPageFrame f s
  | .stateFrame f => Sys2Proof.Machine.execStateFrame f s
  | .ckptEnd f => Sys2Proof.Machine.execCkptEnd f s
  | .ckptDone f => Sys2Proof.Machine.execCkptDone f s
  | .checkpointShip => Sys2Proof.Machine.execCheckpointShip s
  | .inputFrame f => Sys2Proof.Machine.execInputFrame f s
  | .sigFrame f => Sys2Proof.Machine.execSigFrame f s
  | .verdictFrame f => Sys2Proof.Machine.execVerdictFrame f s
  | .holdFrame f => Sys2Proof.Machine.execHoldFrame f s
  | .releaseFrame f => Sys2Proof.Machine.execReleaseFrame f s
  | .ctlFailover f => Sys2Proof.Machine.execCtlFailover f s
  | .ctlSleepReq f => Sys2Proof.Machine.execCtlSleepReq f s
  | .ctlSleepAck f => Sys2Proof.Machine.execCtlSleepAck f s
  | .ctlSleepRefuse f => Sys2Proof.Machine.execCtlSleepRefuse f s
  | .ctlWake f => Sys2Proof.Machine.execCtlWake f s
  | .ctlApply f => Sys2Proof.Machine.execCtlApply f s
  | .linkack f => Sys2Proof.Machine.execLinkack f s
  | .heartbeatSuspicion => Sys2Proof.Machine.execHeartbeatSuspicion s
  | .witnessRenew => Sys2Proof.Machine.execWitnessRenew s
  | .witnessReply r => Sys2Proof.Machine.execWitnessReply r s
  | .fence => Sys2Proof.Machine.execFence s
  | .fullResync => Sys2Proof.Machine.execFullResync s
  | .ckptNow => Sys2Proof.Machine.execCkptNow s
  | .resync => Sys2Proof.Machine.execResync s
  | .restart => Sys2Proof.Machine.execRestart s
  | .relinquish => Sys2Proof.Machine.execRelinquish s
  | .twdPacket k => Sys2Proof.Machine.execTwdPacket k s
  | .lineReset => Sys2Proof.Machine.execLineReset s
  | .twdAttach on => Sys2Proof.Machine.execTwdAttach on s
  | .debugHalt c => Sys2Proof.Machine.execDebugHalt c s
  | .debugResume c => Sys2Proof.Machine.execDebugResume c s
  | .debugStep c => Sys2Proof.Machine.execDebugStep c s
  | .dbgRegdataAccess c write v => Sys2Proof.Machine.execDbgRegdataAccess c write v s
  | .tracePacketOut cl => Sys2Proof.Machine.execTracePacketOut cl s
  | .traceCfgWrite cl v => Sys2Proof.Machine.execTraceCfgWrite cl v s
  | .sidebandProbe bus r => Sys2Proof.Machine.execSidebandProbe bus r s
  | .sidebandTransaction bus r => Sys2Proof.Machine.execSidebandTransaction bus r s
  | .sb7StatusBlock => Sys2Proof.Machine.execSb7StatusBlock s
  | .sb7IdkHash => Sys2Proof.Machine.execSb7IdkHash s
  | .outputReadbackFault o => Sys2Proof.Machine.execOutputReadbackFault o s
  | .vinmonOpenDetect => Sys2Proof.Machine.execVinmonOpenDetect s
  | .readClear addr m consume => Sys2Proof.Machine.execReadClear addr m consume s
  | .registerWrite addr m v => Sys2Proof.Machine.execRegisterWrite addr m v s
  | .sysRstLRelease => Sys2Proof.Machine.execSysRstLRelease s
  | .pairHbInEdge => Sys2Proof.Machine.execPairHbInEdge s
  | .partnerSilentSinceBoot => Sys2Proof.Machine.execPartnerSilentSinceBoot s
  | .moduleWatchdogReload => Sys2Proof.Machine.execModuleWatchdogReload s
  | .cpWaitOnVectorEnd c => Sys2Proof.Machine.execCpWaitOnVectorEnd c s
  | .sameBankRefresh ch x => Sys2Proof.Machine.execSameBankRefresh ch x s
  | .pauseTimeExpiry port prio => Sys2Proof.Machine.execPauseTimeExpiry port prio s
  | .ldadvZeroHoldEnd q => Sys2Proof.Machine.execLdadvZeroHoldEnd q s

end Sys2Proof.Machine
end

