-- ==== Sys2Proof/Machine/Tick.lean ====
section
/-! DEFINITION. What passes while no command waits: one cycle of FCLK, 1 ns (log entry 1, DESIGN CHOICE). Every other happening that the clock
brings has a row of its own. -/

namespace Sys2Proof.Machine

/-- Whole units that pass in a nanosecond at a rate of `rate` units in `per` ns. -/
def passed (now rate per : Nat) : Nat := (now + 1) * rate / per - now * rate / per

/-- Whether a CP's clock runs: out of reset and not halted (R600, R616). -/
def State.cpClock (s : State) (c : CpId) : Bool :=
  s.sec.sys == .run && decide (s.shed < 7) && (s.cp c).run != .inReset && (s.cp c).run != .halted

/-- VCLK of a quadrant in 25 MHz units; every period is doubled while a stretch is active (R499): the rate in halves of a unit. -/
def State.halfClock (s : State) (q : QuadId) : Nat := if s.rdB (DROOP_STAT.ACTIVE q) then s.clock q else 2 * s.clock q

/-- A timer counts (R87). -/
def State.timerTick (s : State) (c : CpId) (n : Fin 4) : State :=
  let t := (s.cp c).timers[n.val]
  if !t.en then s
  else if t.cnt = t.cmp then s.timerHit c n
  else s.modTimer c n (fun t => { t with cnt := t.cnt + 1 })

/-- A microsecond of a CP watchdog; INJ_CPWDG expires it (R404, R373). -/
def State.wdgTick (s : State) (c : CpId) : State :=
  let w := (s.cp c).wdg
  if !w.en || (s.cp c).run == .inReset || s.wdgFrozen c then s
  else
    let i := s.inject 0x3D c.val
    if i.1 || w.cnt.toNat ≤ 1 then i.2.wdgExpire c
    else if w.warn ≠ 0 ∧ w.cnt.toNat = w.warn.toNat + 1 then i.2.wdgWarn c
    else i.2.modWdg c (fun w => { w with cnt := w.cnt - 1 })

/-- A nanosecond of a CP: CYCLE, timers and, each microsecond, the watchdog. -/
def State.cpTick (s : State) (c : CpId) : State :=
  if s.lead c ≠ c then s
  else
    let s := if !s.cpClock c then s
      else
        let n := passed s.now (s.halfClock (quadOf (clOf c))) 80
        (fins 4).foldl (fun (s : State) k => s.timerTick c k) (s.modCp c (fun p => { p with cycle := p.cycle + BitVec.ofNat 64 n }))
    if s.now % 1000 = 999 then s.wdgTick c else s

/-- A nanosecond of the time base, at its trimmed rate; line 0x264 fires at each second (R441). -/
def State.ptpTick (s : State) : State :=
  let on := s.sec.sys == .boot || s.sec.sys == .configure || s.sec.sys == .run || s.sec.sys == .sleep
  if !on || decide (7 ≤ s.shed) then s
  else
    let rate := (2 ^ 40 + sextN 32 (s.rd PTP_RATE.TRIM)).toNat
    let ns := s.rd PTP_NS.NS + passed s.now rate (2 ^ 40)
    if ns < 1000000000 then s.wr PTP_NS.NS ns
    else ((s.wr PTP_NS.NS (ns - 1000000000)).wr PTP_SEC.SEC ((s.rd PTP_SEC.SEC + 1) % 2 ^ 48)).fire 0x264

/-- What waits for its turn goes on: a cut that is due, a demand of shedding, a wake, an ACTIVATE behind RELINQUISH. -/
def State.settleDue (s : State) : State :=
  let s := if s.pair.due || s.evt.mirrorReq then s.cut.twinCompare else s
  let s := if s.evt.shedReq ≠ 0 then s.shedRise else s
  let s := if s.evt.wakeReq then s.wakeEvent else s
  s.activateGo

/-- One nanosecond passes; nothing runs while the part is OFF. -/
def State.tick (s : State) : State :=
  if s.sec.sys = .off then { s with now := s.now + 1 }
  else
    let s := (fins 32).foldl (fun (s : State) c => s.cpTick c) s
    let s := s.ptpTick.settleDue
    { s with now := s.now + 1 }

end Sys2Proof.Machine
end

