-- ==== Sys2Proof/Machine/Program.lean ====
section
/-! DEFINITION. The instruction formats (R90 to R95): the encoding of every CP and vector instruction, the decoder from bits to commands, the
instruction that a CP's program holds at its program counter, and the step of a CP by its own program. Commands carry their instruction
(log entry 9, DESIGN CHOICE); this file ties them to the parcels that the CP would execute. Lean's compiler gives no code to a term that makes a command numbered
above its limit, so the decoder is noncomputable; the kernel evaluates it. -/

namespace Sys2Proof.Machine

/-! ### Opcode tables -/

/-- One parcel, register form, by [11:8] (R91). -/
def opsReg : List (Nat × (CpId → Reg → Reg → Instr)) :=
  [(0x0, .mov), (0x1, .add), (0x2, .sub), (0x3, .and), (0x4, .or), (0x5, .xor),
   (0x6, .adc), (0x7, .sbc), (0x8, .cmp), (0x9, .shl), (0xA, .shr), (0xB, .sar),
   (0xC, .mvgf), (0xD, .mvfg)]

/-- One parcel, unary, by [7:4] (R91). -/
def opsUnary : List (Nat × (CpId → Reg → Instr)) :=
  [(0x0, .not), (0x1, .neg), (0x2, .dadj), (0x3, .clz), (0x4, .ctz), (0x5, .popc),
   (0x6, .sextb), (0x7, .sexth), (0x8, .zexth), (0x9, .bswap)]

/-- One parcel, control without operand, by [7:0] (R91). -/
def opsCtl : List (Nat × (CpId → Instr)) :=
  [(0x0, .nop), (0x1, .syncc), (0x2, .vsync), (0x3, .retx), (0x4, .chkpt), (0x5, .waitIrq)]

/-- One parcel, bit form, by [11:10] (R91). -/
def opsBit : List (Nat × (CpId → BitVec 10 → Instr)) :=
  [(0x0, .setb), (0x1, .clrb), (0x2, .tglb), (0x3, .tstb)]

/-- Two parcels, form RRR with fn, by major opcode (R93). -/
def opsRRR : List (Nat × (CpId → Reg → Reg → Reg → BitVec 8 → Instr)) :=
  [(0x0, .add3), (0x1, .sub3), (0x2, .and3), (0x3, .or3), (0x4, .xor3), (0x5, .shl3),
   (0x6, .shr3), (0x7, .sar3), (0x8, .mul), (0x9, .mulhu), (0xA, .mulhs), (0xB, .idstep),
   (0xC, .dadd), (0xD, .dsub), (0xE, .pack), (0xF, .unpk), (0x36, .trap)]

/-- Two parcels, form RI, by major opcode (R93). -/
def opsRI : List (Nat × (CpId → Reg → BitVec 16 → Instr)) :=
  [(0x10, .addi), (0x11, .andi), (0x12, .ori), (0x13, .xori), (0x14, .movi), (0x15, .cmpi)]

/-- SHI by [9:8] (R93). -/
def opsShi : List (Nat × (CpId → Reg → BitVec 6 → BitVec 2 → BitVec 6 → Instr)) :=
  [(0x0, .shiShl), (0x1, .shiShr), (0x2, .shiSar), (0x3, .shiRor)]

/-- Two parcels, forms MEM and PORT, by major opcode (R93). -/
def opsMem : List (Nat × (CpId → Reg → Reg → BitVec 12 → Instr)) :=
  [(0x18, .ldb), (0x19, .ldh), (0x1A, .ldhs), (0x1B, .ldw), (0x1C, .stb), (0x1D, .sth),
   (0x1E, .stw), (0x1F, .ldf), (0x20, .stf), (0x21, .ldk), (0x22, .stk), (0x23, .ldl),
   (0x24, .stc), (0x25, .ldd), (0x26, .std), (0x27, .inPort), (0x28, .outPort)]

/-- Two parcels, form CREG, by major opcode (R93). -/
def opsCreg : List (Nat × (CpId → Reg → BitVec 8 → BitVec 8 → Instr)) :=
  [(0x29, .movc), (0x2A, .movcr)]

/-- The CAP operations by fn (R94). -/
def opsCap : List (Nat × (CpId → Reg → Reg → Reg → Instr)) :=
  [(0x0, .kmov), (0x1, .kadd), (0x2, .kbnd), (0x3, .kmask), (0x4, .klock), (0x5, .kopen),
   (0x6, .krdc), (0x7, .krdb), (0x8, .krdl), (0x9, .krdp), (0xA, .krdt), (0xB, .krdv),
   (0xC, .calloc), (0xD, .cfree), (0xE, .kpcc), (0xF, .kdrop)]

/-- Two parcels, form BL, by major opcode (R93). -/
def opsBL : List (Nat × (CpId → BitVec 10 → BitVec 10 → Instr)) :=
  [(0x2C, .band), (0x2D, .bor), (0x2E, .bxor), (0x2F, .bmov), (0x3C, .bbc), (0x3D, .bbcD),
   (0x3E, .bbs), (0x3F, .bbsD)]

/-- Two parcels, form BR, by major opcode (R93). -/
def opsBr : List (Nat × (CpId → BitVec 20 → Instr)) :=
  [(0x31, .br), (0x32, .brD), (0x33, .call), (0x34, .callD)]

/-- The JR group by fn (R93). -/
def opsJr : List (Nat × (CpId → Reg → Reg → Reg → Instr)) :=
  [(0x0, .jr), (0x1, .jrD), (0x2, .callr), (0x3, .callrD)]

/-- Four parcels, extended scalar, by opcode (R95). -/
def opsExt : List (Nat × (CpId → Reg → Reg → BitVec 4 → BitVec 32 → Instr)) :=
  [(0x300, .movi32), (0x301, .movhi32), (0x302, .addi32), (0x303, .andi32), (0x304, .ori32), (0x305, .xori32),
   (0x306, .cmpi32), (0x308, .setbx), (0x309, .clrbx), (0x30A, .tglbx), (0x30B, .tstbx), (0x30C, .bandx),
   (0x30D, .borx), (0x30E, .bxorx), (0x30F, .bmovx), (0x310, .bbcx), (0x311, .bbcxD), (0x312, .bbsx),
   (0x313, .bbsxD), (0x314, .jmpa), (0x315, .calla), (0x320, .mvgfx), (0x321, .mvfgx), (0x322, .inx),
   (0x323, .outx)]

/-- Four parcels, long-vector, short-vector and descriptor instructions, by opcode (R170, R197, R200). -/
noncomputable def opsVec : List (Nat × (CpId → VecFields → Instr)) :=
  [(0x0, .vfadd), (0x1, .vfsub), (0x2, .vfmul), (0x3, .vfmin), (0x4, .vfmax), (0x5, .vfabs),
   (0x6, .vfneg), (0x7, .vfcpys), (0x8, .vfma), (0x9, .vfms), (0xA, .vfnma), (0xB, .vfnms),
   (0xC, .vfcvt), (0xD, .vfcvti), (0xE, .vicvtf), (0x40, .vadd), (0x41, .vsub), (0x42, .vadds),
   (0x43, .vsubs), (0x44, .vmul), (0x45, .vmulh), (0x46, .vmin), (0x47, .vmax), (0x48, .vand),
   (0x49, .vor), (0x4A, .vxor), (0x4B, .vandn), (0x4C, .vnot), (0x4D, .vshl), (0x4E, .vshr),
   (0x4F, .vsar), (0x50, .vabs), (0x51, .vneg), (0x52, .vpopc), (0x53, .vclz), (0x54, .vsel),
   (0x55, .vcvti), (0x56, .vmov), (0x57, .vfill), (0x58, .viota), (0x80, .vwmul), (0x81, .vwma),
   (0x82, .vdot4), (0x83, .vdot4su), (0x84, .vfdot2), (0xA0, .vcmpeq), (0xA1, .vcmpne), (0xA2, .vcmplt)] ++
  [(0xA3, .vcmple), (0xA4, .vcmpgt), (0xA5, .vcmpge), (0xA6, .vcmpun), (0xA7, .vtest), (0xC0, .vcompress),
   (0xC1, .vexpand), (0xC2, .vgather), (0xC3, .vscatter), (0xC4, .vrev), (0xE0, .vlds), (0xE1, .vsts),
   (0x100, .vrsum), (0x101, .vrmin), (0x102, .vrmax), (0x103, .vrand), (0x104, .vror), (0x105, .vrxor),
   (0x106, .vrsumo), (0x107, .vrcnt), (0x108, .vrfirst), (0x109, .vrsumd), (0x140, .vdadd), (0x141, .vdsub),
   (0x142, .vdaddc), (0x143, .vdsubc), (0x144, .vdshl), (0x145, .vdshr), (0x146, .vdmul1), (0x147, .vcvtbd),
   (0x148, .vcvtdb), (0x180, .vidstep), (0x181, .vfrseed), (0x182, .vfrstep), (0x183, .vfrsqseed), (0x184, .vfrsqstep),
   (0x185, .vddstep), (0x280, .svfadd), (0x281, .svfsub), (0x282, .svfmul), (0x283, .svfmin), (0x284, .svfmax),
   (0x285, .svfabs), (0x286, .svfneg), (0x287, .svfcpys), (0x288, .svfma), (0x289, .svfms), (0x28A, .svfnma)] ++
  [(0x28B, .svfnms), (0x28C, .svfcvt), (0x28D, .svfcvti), (0x28E, .svicvtf), (0x2A0, .svadd), (0x2A1, .svsub),
   (0x2A2, .svadds), (0x2A3, .svsubs), (0x2A4, .svmul), (0x2A5, .svmulh), (0x2A6, .svmin), (0x2A7, .svmax),
   (0x2A8, .svand), (0x2A9, .svor), (0x2AA, .svxor), (0x2AB, .svandn), (0x2AC, .svnot), (0x2AD, .svshl),
   (0x2AE, .svshr), (0x2AF, .svsar), (0x2B0, .svabs), (0x2B1, .svneg), (0x2B2, .svpopc), (0x2B3, .svclz),
   (0x2B4, .svsel), (0x2B5, .svcvti), (0x2B6, .svmov), (0x2B7, .svfill), (0x2B8, .sviota), (0x2C0, .svcmpeq),
   (0x2C1, .svcmpne), (0x2C2, .svcmplt), (0x2C3, .svcmple), (0x2C4, .svcmpgt), (0x2C5, .svcmpge), (0x2C6, .svcmpun),
   (0x2C7, .svtest), (0x2C8, .svrsum), (0x2C9, .svrmin), (0x2CA, .svrmax), (0x2CB, .svrand), (0x2CC, .svror),
   (0x2CD, .svrxor), (0x2CE, .svrsumo), (0x2CF, .svrcnt), (0x2D0, .svrfirst), (0x2D1, .svrsumd), (0x2D2, .svld)] ++
  [(0x2D3, .svst), (0x2D4, .svperm), (0x2D5, .svbcast), (0x2D6, .svdot4), (0x2D7, .svwmul), (0x2F0, .dsetc),
   (0x2F1, .dseto), (0x2F2, .dsets), (0x2F3, .dsetf), (0x2F4, .dadv), (0x2F5, .dget), (0x2F6, .dgetc),
   (0x2F7, .dcopy)]

/-! ### Decoding -/

/-- A register number in four bits of a word. -/
def regAt (w lsb : Nat) : Reg := ⟨w / 2 ^ lsb % 16, by omega⟩

/-- A one-parcel instruction (R91). -/
def decode1 (c : CpId) (w : Nat) : Option Instr :=
  let op := nbits w 8 4
  if w / 2 ^ 12 % 2 = 1 then (opsBit.lookup (nbits w 10 2)).map (fun k => k c (BitVec.ofNat 10 w))
  else if op = 0xE then (opsUnary.lookup (nbits w 4 4)).map (fun k => k c (regAt w 0))
  else if op = 0xF then
    if nbits w 2 6 = 4 then some (.lock c ⟨w % 4, by omega⟩) else (opsCtl.lookup (nbits w 0 8)).map (fun k => k c)
  else (opsReg.lookup op).map (fun k => k c (regAt w 4) (regAt w 0))

/-- A two-parcel instruction (R92 to R94). -/
def decode2 (c : CpId) (w : Nat) : Option Instr :=
  let m := nbits w 20 6
  let d := regAt w 16
  let a := regAt w 12
  let b := regAt w 8
  if m = 0x16 then (opsShi.lookup (nbits w 8 2)).map (fun k => k c d (BitVec.ofNat 6 (w / 2 ^ 10)) (BitVec.ofNat 2 (w / 2 ^ 6)) (BitVec.ofNat 6 w))
  else if m = 0x2B then (opsCap.lookup (nbits w 0 8)).map (fun k => k c d a b)
  else if m = 0x35 then (opsJr.lookup (nbits w 0 8)).map (fun k => k c d a b)
  else if m = 0x30 then some (.loopSetup c d (BitVec.ofNat 16 w))
  else ((opsRRR.lookup m).map (fun k => k c d a b (BitVec.ofNat 8 w))).orElse (fun _ =>
    ((opsRI.lookup m).map (fun k => k c d (BitVec.ofNat 16 w))).orElse (fun _ =>
    ((opsMem.lookup m).map (fun k => k c d a (BitVec.ofNat 12 w))).orElse (fun _ =>
    ((opsCreg.lookup m).map (fun k => k c d (BitVec.ofNat 8 (w / 2 ^ 8)) (BitVec.ofNat 8 w))).orElse (fun _ =>
    ((opsBL.lookup m).map (fun k => k c (BitVec.ofNat 10 (w / 2 ^ 10)) (BitVec.ofNat 10 w))).orElse (fun _ =>
    (opsBr.lookup m).map (fun k => k c (BitVec.ofNat 20 w)))))))

/-- The fields of a vector instruction (R170). -/
def vecFieldsOf (w : Nat) : VecFields :=
  { dd := regAt w 40, da := regAt w 36, db := regAt w 32, dc := regAt w 28, msel := BitVec.ofNat 5 (w / 2 ^ 23), ty := BitVec.ofNat 4 (w / 2 ^ 19),
    rnd := BitVec.ofNat 3 (w / 2 ^ 16), ch := decide (w / 2 ^ 15 % 2 = 1), tw := decide (w / 2 ^ 14 % 2 = 1), imm := BitVec.ofNat 14 w }

/-- A four-parcel instruction (R95). -/
noncomputable def decode4 (c : CpId) (w : Nat) : Option Instr :=
  let op := nbits w 44 10
  ((opsExt.lookup op).map (fun k => k c (regAt w 40) (regAt w 36) (BitVec.ofNat 4 (w / 2 ^ 32)) (BitVec.ofNat 32 w))).orElse (fun _ =>
    (opsVec.lookup op).map (fun k => k c (vecFieldsOf w)))

/-- The command that an instruction of `len` parcels with these bits is: none for an encoding that R91, R93, R95 or the class tables mark
reserved (R111). -/
noncomputable def decodeInsn (c : CpId) (len w : Nat) : Option Instr :=
  if len = 1 then decode1 c w else if len = 2 then decode2 c w else decode4 c w

/-! ### Encoding -/

/-- The parcels and bits of a CP or vector instruction, with its CP; none for a command that is no instruction (R90 to R95). -/
def instrBits : Instr → Option (CpId × Nat × Nat)
  | .mov c d s => some (c, 1, enc1 0x0 d s)
  | .add c d s => some (c, 1, enc1 0x1 d s)
  | .sub c d s => some (c, 1, enc1 0x2 d s)
  | .and c d s => some (c, 1, enc1 0x3 d s)
  | .or c d s => some (c, 1, enc1 0x4 d s)
  | .xor c d s => some (c, 1, enc1 0x5 d s)
  | .adc c d s => some (c, 1, enc1 0x6 d s)
  | .sbc c d s => some (c, 1, enc1 0x7 d s)
  | .cmp c d s => some (c, 1, enc1 0x8 d s)
  | .shl c d s => some (c, 1, enc1 0x9 d s)
  | .shr c d s => some (c, 1, enc1 0xA d s)
  | .sar c d s => some (c, 1, enc1 0xB d s)
  | .mvgf c d s => some (c, 1, enc1 0xC d s)
  | .mvfg c d s => some (c, 1, enc1 0xD d s)
  | .not c r => some (c, 1, enc1 0xE 0x0 r)
  | .neg c r => some (c, 1, enc1 0xE 0x1 r)
  | .dadj c r => some (c, 1, enc1 0xE 0x2 r)
  | .clz c r => some (c, 1, enc1 0xE 0x3 r)
  | .ctz c r => some (c, 1, enc1 0xE 0x4 r)
  | .popc c r => some (c, 1, enc1 0xE 0x5 r)
  | .sextb c r => some (c, 1, enc1 0xE 0x6 r)
  | .sexth c r => some (c, 1, enc1 0xE 0x7 r)
  | .zexth c r => some (c, 1, enc1 0xE 0x8 r)
  | .bswap c r => some (c, 1, enc1 0xE 0x9 r)
  | .nop c => some (c, 1, 0xF00)
  | .syncc c => some (c, 1, 0xF01)
  | .vsync c => some (c, 1, 0xF02)
  | .retx c => some (c, 1, 0xF03)
  | .chkpt c => some (c, 1, 0xF04)
  | .waitIrq c => some (c, 1, 0xF05)
  | .lock c n => some (c, 1, 0xF10 + n.val)
  | .setb c bit => some (c, 1, encBit 0x0 bit.toNat)
  | .clrb c bit => some (c, 1, encBit 0x1 bit.toNat)
  | .tglb c bit => some (c, 1, encBit 0x2 bit.toNat)
  | .tstb c bit => some (c, 1, encBit 0x3 bit.toNat)
  | .add3 c d a b fn => some (c, 2, enc2 0x0 (lowRRR d a b fn.toNat))
  | .sub3 c d a b fn => some (c, 2, enc2 0x1 (lowRRR d a b fn.toNat))
  | .and3 c d a b fn => some (c, 2, enc2 0x2 (lowRRR d a b fn.toNat))
  | .or3 c d a b fn => some (c, 2, enc2 0x3 (lowRRR d a b fn.toNat))
  | .xor3 c d a b fn => some (c, 2, enc2 0x4 (lowRRR d a b fn.toNat))
  | .shl3 c d a b fn => some (c, 2, enc2 0x5 (lowRRR d a b fn.toNat))
  | .shr3 c d a b fn => some (c, 2, enc2 0x6 (lowRRR d a b fn.toNat))
  | .sar3 c d a b fn => some (c, 2, enc2 0x7 (lowRRR d a b fn.toNat))
  | .mul c d a b fn => some (c, 2, enc2 0x8 (lowRRR d a b fn.toNat))
  | .mulhu c d a b fn => some (c, 2, enc2 0x9 (lowRRR d a b fn.toNat))
  | .mulhs c d a b fn => some (c, 2, enc2 0xA (lowRRR d a b fn.toNat))
  | .idstep c d a b fn => some (c, 2, enc2 0xB (lowRRR d a b fn.toNat))
  | .dadd c d a b fn => some (c, 2, enc2 0xC (lowRRR d a b fn.toNat))
  | .dsub c d a b fn => some (c, 2, enc2 0xD (lowRRR d a b fn.toNat))
  | .pack c d a b fn => some (c, 2, enc2 0xE (lowRRR d a b fn.toNat))
  | .unpk c d a b fn => some (c, 2, enc2 0xF (lowRRR d a b fn.toNat))
  | .trap c d a b fn => some (c, 2, enc2 0x36 (lowRRR d a b fn.toNat))
  | .addi c d imm => some (c, 2, enc2 0x10 (lowRI d imm.toNat))
  | .andi c d imm => some (c, 2, enc2 0x11 (lowRI d imm.toNat))
  | .ori c d imm => some (c, 2, enc2 0x12 (lowRI d imm.toNat))
  | .xori c d imm => some (c, 2, enc2 0x13 (lowRI d imm.toNat))
  | .movi c d imm => some (c, 2, enc2 0x14 (lowRI d imm.toNat))
  | .cmpi c d imm => some (c, 2, enc2 0x15 (lowRI d imm.toNat))
  | .shiShl c d hi mid amt => some (c, 2, enc2 0x16 (lowRI d (hi.toNat * 1024 + 0x0 * 256 + mid.toNat * 64 + amt.toNat)))
  | .shiShr c d hi mid amt => some (c, 2, enc2 0x16 (lowRI d (hi.toNat * 1024 + 0x1 * 256 + mid.toNat * 64 + amt.toNat)))
  | .shiSar c d hi mid amt => some (c, 2, enc2 0x16 (lowRI d (hi.toNat * 1024 + 0x2 * 256 + mid.toNat * 64 + amt.toNat)))
  | .shiRor c d hi mid amt => some (c, 2, enc2 0x16 (lowRI d (hi.toNat * 1024 + 0x3 * 256 + mid.toNat * 64 + amt.toNat)))
  | .ldb c d k off => some (c, 2, enc2 0x18 (lowMem d k off.toNat))
  | .ldh c d k off => some (c, 2, enc2 0x19 (lowMem d k off.toNat))
  | .ldhs c d k off => some (c, 2, enc2 0x1A (lowMem d k off.toNat))
  | .ldw c d k off => some (c, 2, enc2 0x1B (lowMem d k off.toNat))
  | .stb c d k off => some (c, 2, enc2 0x1C (lowMem d k off.toNat))
  | .sth c d k off => some (c, 2, enc2 0x1D (lowMem d k off.toNat))
  | .stw c d k off => some (c, 2, enc2 0x1E (lowMem d k off.toNat))
  | .ldf c d k off => some (c, 2, enc2 0x1F (lowMem d k off.toNat))
  | .stf c d k off => some (c, 2, enc2 0x20 (lowMem d k off.toNat))
  | .ldk c d k off => some (c, 2, enc2 0x21 (lowMem d k off.toNat))
  | .stk c d k off => some (c, 2, enc2 0x22 (lowMem d k off.toNat))
  | .ldl c d k off => some (c, 2, enc2 0x23 (lowMem d k off.toNat))
  | .stc c d k off => some (c, 2, enc2 0x24 (lowMem d k off.toNat))
  | .ldd c d k off => some (c, 2, enc2 0x25 (lowMem d k off.toNat))
  | .std c d k off => some (c, 2, enc2 0x26 (lowMem d k off.toNat))
  | .inPort c d k off => some (c, 2, enc2 0x27 (lowMem d k off.toNat))
  | .outPort c d k off => some (c, 2, enc2 0x28 (lowMem d k off.toNat))
  | .movc c g num low => some (c, 2, enc2 0x29 (g.val * 2 ^ 16 + num.toNat * 256 + low.toNat))
  | .movcr c g num low => some (c, 2, enc2 0x2A (g.val * 2 ^ 16 + num.toNat * 256 + low.toNat))
  | .kmov c d a b => some (c, 2, enc2 0x2B (lowRRR d a b 0x0))
  | .kadd c d a b => some (c, 2, enc2 0x2B (lowRRR d a b 0x1))
  | .kbnd c d a b => some (c, 2, enc2 0x2B (lowRRR d a b 0x2))
  | .kmask c d a b => some (c, 2, enc2 0x2B (lowRRR d a b 0x3))
  | .klock c d a b => some (c, 2, enc2 0x2B (lowRRR d a b 0x4))
  | .kopen c d a b => some (c, 2, enc2 0x2B (lowRRR d a b 0x5))
  | .krdc c d a b => some (c, 2, enc2 0x2B (lowRRR d a b 0x6))
  | .krdb c d a b => some (c, 2, enc2 0x2B (lowRRR d a b 0x7))
  | .krdl c d a b => some (c, 2, enc2 0x2B (lowRRR d a b 0x8))
  | .krdp c d a b => some (c, 2, enc2 0x2B (lowRRR d a b 0x9))
  | .krdt c d a b => some (c, 2, enc2 0x2B (lowRRR d a b 0xA))
  | .krdv c d a b => some (c, 2, enc2 0x2B (lowRRR d a b 0xB))
  | .calloc c d a b => some (c, 2, enc2 0x2B (lowRRR d a b 0xC))
  | .cfree c d a b => some (c, 2, enc2 0x2B (lowRRR d a b 0xD))
  | .kpcc c d a b => some (c, 2, enc2 0x2B (lowRRR d a b 0xE))
  | .kdrop c d a b => some (c, 2, enc2 0x2B (lowRRR d a b 0xF))
  | .band c x y => some (c, 2, enc2 0x2C (x.toNat * 1024 + y.toNat))
  | .bor c x y => some (c, 2, enc2 0x2D (x.toNat * 1024 + y.toNat))
  | .bxor c x y => some (c, 2, enc2 0x2E (x.toNat * 1024 + y.toNat))
  | .bmov c x y => some (c, 2, enc2 0x2F (x.toNat * 1024 + y.toNat))
  | .bbc c x y => some (c, 2, enc2 0x3C (x.toNat * 1024 + y.toNat))
  | .bbcD c x y => some (c, 2, enc2 0x3D (x.toNat * 1024 + y.toNat))
  | .bbs c x y => some (c, 2, enc2 0x3E (x.toNat * 1024 + y.toNat))
  | .bbsD c x y => some (c, 2, enc2 0x3F (x.toNat * 1024 + y.toNat))
  | .loopSetup c a len => some (c, 2, enc2 0x30 (a.val * 2 ^ 16 + len.toNat))
  | .br c disp => some (c, 2, enc2 0x31 disp.toNat)
  | .brD c disp => some (c, 2, enc2 0x32 disp.toNat)
  | .call c disp => some (c, 2, enc2 0x33 disp.toNat)
  | .callD c disp => some (c, 2, enc2 0x34 disp.toNat)
  | .jr c d a b => some (c, 2, enc2 0x35 (lowRRR d a b 0x0))
  | .jrD c d a b => some (c, 2, enc2 0x35 (lowRRR d a b 0x1))
  | .callr c d a b => some (c, 2, enc2 0x35 (lowRRR d a b 0x2))
  | .callrD c d a b => some (c, 2, enc2 0x35 (lowRRR d a b 0x3))
  | .movi32 c d a sub imm => some (c, 4, enc4 0x300 d a sub.toNat imm.toNat)
  | .movhi32 c d a sub imm => some (c, 4, enc4 0x301 d a sub.toNat imm.toNat)
  | .addi32 c d a sub imm => some (c, 4, enc4 0x302 d a sub.toNat imm.toNat)
  | .andi32 c d a sub imm => some (c, 4, enc4 0x303 d a sub.toNat imm.toNat)
  | .ori32 c d a sub imm => some (c, 4, enc4 0x304 d a sub.toNat imm.toNat)
  | .xori32 c d a sub imm => some (c, 4, enc4 0x305 d a sub.toNat imm.toNat)
  | .cmpi32 c d a sub imm => some (c, 4, enc4 0x306 d a sub.toNat imm.toNat)
  | .setbx c d a sub imm => some (c, 4, enc4 0x308 d a sub.toNat imm.toNat)
  | .clrbx c d a sub imm => some (c, 4, enc4 0x309 d a sub.toNat imm.toNat)
  | .tglbx c d a sub imm => some (c, 4, enc4 0x30A d a sub.toNat imm.toNat)
  | .tstbx c d a sub imm => some (c, 4, enc4 0x30B d a sub.toNat imm.toNat)
  | .bandx c d a sub imm => some (c, 4, enc4 0x30C d a sub.toNat imm.toNat)
  | .borx c d a sub imm => some (c, 4, enc4 0x30D d a sub.toNat imm.toNat)
  | .bxorx c d a sub imm => some (c, 4, enc4 0x30E d a sub.toNat imm.toNat)
  | .bmovx c d a sub imm => some (c, 4, enc4 0x30F d a sub.toNat imm.toNat)
  | .bbcx c d a sub imm => some (c, 4, enc4 0x310 d a sub.toNat imm.toNat)
  | .bbcxD c d a sub imm => some (c, 4, enc4 0x311 d a sub.toNat imm.toNat)
  | .bbsx c d a sub imm => some (c, 4, enc4 0x312 d a sub.toNat imm.toNat)
  | .bbsxD c d a sub imm => some (c, 4, enc4 0x313 d a sub.toNat imm.toNat)
  | .jmpa c d a sub imm => some (c, 4, enc4 0x314 d a sub.toNat imm.toNat)
  | .calla c d a sub imm => some (c, 4, enc4 0x315 d a sub.toNat imm.toNat)
  | .mvgfx c d a sub imm => some (c, 4, enc4 0x320 d a sub.toNat imm.toNat)
  | .mvfgx c d a sub imm => some (c, 4, enc4 0x321 d a sub.toNat imm.toNat)
  | .inx c d a sub imm => some (c, 4, enc4 0x322 d a sub.toNat imm.toNat)
  | .outx c d a sub imm => some (c, 4, enc4 0x323 d a sub.toNat imm.toNat)
  | .vfadd c v => some (c, 4, encV 0x0 v)
  | .vfsub c v => some (c, 4, encV 0x1 v)
  | .vfmul c v => some (c, 4, encV 0x2 v)
  | .vfmin c v => some (c, 4, encV 0x3 v)
  | .vfmax c v => some (c, 4, encV 0x4 v)
  | .vfabs c v => some (c, 4, encV 0x5 v)
  | .vfneg c v => some (c, 4, encV 0x6 v)
  | .vfcpys c v => some (c, 4, encV 0x7 v)
  | .vfma c v => some (c, 4, encV 0x8 v)
  | .vfms c v => some (c, 4, encV 0x9 v)
  | .vfnma c v => some (c, 4, encV 0xA v)
  | .vfnms c v => some (c, 4, encV 0xB v)
  | .vfcvt c v => some (c, 4, encV 0xC v)
  | .vfcvti c v => some (c, 4, encV 0xD v)
  | .vicvtf c v => some (c, 4, encV 0xE v)
  | .vadd c v => some (c, 4, encV 0x40 v)
  | .vsub c v => some (c, 4, encV 0x41 v)
  | .vadds c v => some (c, 4, encV 0x42 v)
  | .vsubs c v => some (c, 4, encV 0x43 v)
  | .vmul c v => some (c, 4, encV 0x44 v)
  | .vmulh c v => some (c, 4, encV 0x45 v)
  | .vmin c v => some (c, 4, encV 0x46 v)
  | .vmax c v => some (c, 4, encV 0x47 v)
  | .vand c v => some (c, 4, encV 0x48 v)
  | .vor c v => some (c, 4, encV 0x49 v)
  | .vxor c v => some (c, 4, encV 0x4A v)
  | .vandn c v => some (c, 4, encV 0x4B v)
  | .vnot c v => some (c, 4, encV 0x4C v)
  | .vshl c v => some (c, 4, encV 0x4D v)
  | .vshr c v => some (c, 4, encV 0x4E v)
  | .vsar c v => some (c, 4, encV 0x4F v)
  | .vabs c v => some (c, 4, encV 0x50 v)
  | .vneg c v => some (c, 4, encV 0x51 v)
  | .vpopc c v => some (c, 4, encV 0x52 v)
  | .vclz c v => some (c, 4, encV 0x53 v)
  | .vsel c v => some (c, 4, encV 0x54 v)
  | .vcvti c v => some (c, 4, encV 0x55 v)
  | .vmov c v => some (c, 4, encV 0x56 v)
  | .vfill c v => some (c, 4, encV 0x57 v)
  | .viota c v => some (c, 4, encV 0x58 v)
  | .vwmul c v => some (c, 4, encV 0x80 v)
  | .vwma c v => some (c, 4, encV 0x81 v)
  | .vdot4 c v => some (c, 4, encV 0x82 v)
  | .vdot4su c v => some (c, 4, encV 0x83 v)
  | .vfdot2 c v => some (c, 4, encV 0x84 v)
  | .vcmpeq c v => some (c, 4, encV 0xA0 v)
  | .vcmpne c v => some (c, 4, encV 0xA1 v)
  | .vcmplt c v => some (c, 4, encV 0xA2 v)
  | .vcmple c v => some (c, 4, encV 0xA3 v)
  | .vcmpgt c v => some (c, 4, encV 0xA4 v)
  | .vcmpge c v => some (c, 4, encV 0xA5 v)
  | .vcmpun c v => some (c, 4, encV 0xA6 v)
  | .vtest c v => some (c, 4, encV 0xA7 v)
  | .vcompress c v => some (c, 4, encV 0xC0 v)
  | .vexpand c v => some (c, 4, encV 0xC1 v)
  | .vgather c v => some (c, 4, encV 0xC2 v)
  | .vscatter c v => some (c, 4, encV 0xC3 v)
  | .vrev c v => some (c, 4, encV 0xC4 v)
  | .vlds c v => some (c, 4, encV 0xE0 v)
  | .vsts c v => some (c, 4, encV 0xE1 v)
  | .vrsum c v => some (c, 4, encV 0x100 v)
  | .vrmin c v => some (c, 4, encV 0x101 v)
  | .vrmax c v => some (c, 4, encV 0x102 v)
  | .vrand c v => some (c, 4, encV 0x103 v)
  | .vror c v => some (c, 4, encV 0x104 v)
  | .vrxor c v => some (c, 4, encV 0x105 v)
  | .vrsumo c v => some (c, 4, encV 0x106 v)
  | .vrcnt c v => some (c, 4, encV 0x107 v)
  | .vrfirst c v => some (c, 4, encV 0x108 v)
  | .vrsumd c v => some (c, 4, encV 0x109 v)
  | .vdadd c v => some (c, 4, encV 0x140 v)
  | .vdsub c v => some (c, 4, encV 0x141 v)
  | .vdaddc c v => some (c, 4, encV 0x142 v)
  | .vdsubc c v => some (c, 4, encV 0x143 v)
  | .vdshl c v => some (c, 4, encV 0x144 v)
  | .vdshr c v => some (c, 4, encV 0x145 v)
  | .vdmul1 c v => some (c, 4, encV 0x146 v)
  | .vcvtbd c v => some (c, 4, encV 0x147 v)
  | .vcvtdb c v => some (c, 4, encV 0x148 v)
  | .vidstep c v => some (c, 4, encV 0x180 v)
  | .vfrseed c v => some (c, 4, encV 0x181 v)
  | .vfrstep c v => some (c, 4, encV 0x182 v)
  | .vfrsqseed c v => some (c, 4, encV 0x183 v)
  | .vfrsqstep c v => some (c, 4, encV 0x184 v)
  | .vddstep c v => some (c, 4, encV 0x185 v)
  | .svfadd c v => some (c, 4, encV 0x280 v)
  | .svfsub c v => some (c, 4, encV 0x281 v)
  | .svfmul c v => some (c, 4, encV 0x282 v)
  | .svfmin c v => some (c, 4, encV 0x283 v)
  | .svfmax c v => some (c, 4, encV 0x284 v)
  | .svfabs c v => some (c, 4, encV 0x285 v)
  | .svfneg c v => some (c, 4, encV 0x286 v)
  | .svfcpys c v => some (c, 4, encV 0x287 v)
  | .svfma c v => some (c, 4, encV 0x288 v)
  | .svfms c v => some (c, 4, encV 0x289 v)
  | .svfnma c v => some (c, 4, encV 0x28A v)
  | .svfnms c v => some (c, 4, encV 0x28B v)
  | .svfcvt c v => some (c, 4, encV 0x28C v)
  | .svfcvti c v => some (c, 4, encV 0x28D v)
  | .svicvtf c v => some (c, 4, encV 0x28E v)
  | .svadd c v => some (c, 4, encV 0x2A0 v)
  | .svsub c v => some (c, 4, encV 0x2A1 v)
  | .svadds c v => some (c, 4, encV 0x2A2 v)
  | .svsubs c v => some (c, 4, encV 0x2A3 v)
  | .svmul c v => some (c, 4, encV 0x2A4 v)
  | .svmulh c v => some (c, 4, encV 0x2A5 v)
  | .svmin c v => some (c, 4, encV 0x2A6 v)
  | .svmax c v => some (c, 4, encV 0x2A7 v)
  | .svand c v => some (c, 4, encV 0x2A8 v)
  | .svor c v => some (c, 4, encV 0x2A9 v)
  | .svxor c v => some (c, 4, encV 0x2AA v)
  | .svandn c v => some (c, 4, encV 0x2AB v)
  | .svnot c v => some (c, 4, encV 0x2AC v)
  | .svshl c v => some (c, 4, encV 0x2AD v)
  | .svshr c v => some (c, 4, encV 0x2AE v)
  | .svsar c v => some (c, 4, encV 0x2AF v)
  | .svabs c v => some (c, 4, encV 0x2B0 v)
  | .svneg c v => some (c, 4, encV 0x2B1 v)
  | .svpopc c v => some (c, 4, encV 0x2B2 v)
  | .svclz c v => some (c, 4, encV 0x2B3 v)
  | .svsel c v => some (c, 4, encV 0x2B4 v)
  | .svcvti c v => some (c, 4, encV 0x2B5 v)
  | .svmov c v => some (c, 4, encV 0x2B6 v)
  | .svfill c v => some (c, 4, encV 0x2B7 v)
  | .sviota c v => some (c, 4, encV 0x2B8 v)
  | .svcmpeq c v => some (c, 4, encV 0x2C0 v)
  | .svcmpne c v => some (c, 4, encV 0x2C1 v)
  | .svcmplt c v => some (c, 4, encV 0x2C2 v)
  | .svcmple c v => some (c, 4, encV 0x2C3 v)
  | .svcmpgt c v => some (c, 4, encV 0x2C4 v)
  | .svcmpge c v => some (c, 4, encV 0x2C5 v)
  | .svcmpun c v => some (c, 4, encV 0x2C6 v)
  | .svtest c v => some (c, 4, encV 0x2C7 v)
  | .svrsum c v => some (c, 4, encV 0x2C8 v)
  | .svrmin c v => some (c, 4, encV 0x2C9 v)
  | .svrmax c v => some (c, 4, encV 0x2CA v)
  | .svrand c v => some (c, 4, encV 0x2CB v)
  | .svror c v => some (c, 4, encV 0x2CC v)
  | .svrxor c v => some (c, 4, encV 0x2CD v)
  | .svrsumo c v => some (c, 4, encV 0x2CE v)
  | .svrcnt c v => some (c, 4, encV 0x2CF v)
  | .svrfirst c v => some (c, 4, encV 0x2D0 v)
  | .svrsumd c v => some (c, 4, encV 0x2D1 v)
  | .svld c v => some (c, 4, encV 0x2D2 v)
  | .svst c v => some (c, 4, encV 0x2D3 v)
  | .svperm c v => some (c, 4, encV 0x2D4 v)
  | .svbcast c v => some (c, 4, encV 0x2D5 v)
  | .svdot4 c v => some (c, 4, encV 0x2D6 v)
  | .svwmul c v => some (c, 4, encV 0x2D7 v)
  | .dsetc c v => some (c, 4, encV 0x2F0 v)
  | .dseto c v => some (c, 4, encV 0x2F1 v)
  | .dsets c v => some (c, 4, encV 0x2F2 v)
  | .dsetf c v => some (c, 4, encV 0x2F3 v)
  | .dadv c v => some (c, 4, encV 0x2F4 v)
  | .dget c v => some (c, 4, encV 0x2F5 v)
  | .dgetc c v => some (c, 4, encV 0x2F6 v)
  | .dcopy c v => some (c, 4, encV 0x2F7 v)
  | _ => none

/-! ### The program of a CP -/

/-- The bits of n parcels from a parcel address, the first parcel highest (R90); none where one of them lies outside the program space. -/
def State.parcels (s : State) (c : CpId) (pc : Nat) : Nat → Nat → Option Nat
  | 0, w => some w
  | n + 1, w => match s.parcel c pc with
    | some x => State.parcels s c (pc + 1) n (w * 2 ^ 14 + x.toNat)
    | none => none

/-- The instruction of a CP's program at its program counter: its parcels, its bits and the command that they are, none for a reserved encoding.
The parcels are those of the prefetch queue where it holds them (R79, R90, R110). -/
noncomputable def State.nextInsn (s : State) (c : CpId) : Option (Nat × Nat × Option Instr) :=
  match s.parcel c (s.pc c) with
  | none => none
  | some x => (s.parcels c (s.pc c) (parcelLen x) 0).map (fun w => (parcelLen x, w, decodeInsn c (parcelLen x) w))

/-- A reserved encoding: RESERVED_OP before any effect, after the causes of its fetch (R111). -/
def State.runReserved (s : State) (c : CpId) (len w : Nat) : State :=
  s.runInsn c { mkInsn len w false false [] [] with rsv := true, vop := if len = 4 then some (nbits w 44 10) else none } (fun s _ => .next s)

/-- One instruction of a CP's own program: the command that its parcels are, RESERVED_OP for a reserved encoding, and the fault of the fetch
where a parcel cannot be fetched (R79, R80, R111). -/
noncomputable def State.runProgram (s : State) (c0 : CpId) : Out :=
  let c := s.lead c0
  match s.nextInsn c with
  | some (_, _, some i) => exec i s
  | some (len, w, none) => .next (s.runReserved c len w)
  | none =>
    let len := match s.parcel c (s.pc c) with | some x => parcelLen x | none => 1
    .next (s.runInsn c (mkInsn len 0 false false [] []) (fun s _ => .next s))

end Sys2Proof.Machine
end

