-- ==== Sys2Proof/Machine/Ready.lean ====
section
/-! DEFINITION. The terms in which statements about CP instructions are written: when a CP executes an instruction rather than
waiting, halting, trapping on the fetch or taking an interrupt, and what the completed instruction leaves. Each predicate
repeats, in the words of its rule, a condition that `State.runInsn` checks. -/

namespace Sys2Proof.Machine

/-- The state as an instruction finds it: a window for taking over an interrupt entry has passed (R393). -/
def State.atInsn (s : State) (c : CpId) : State := s.modCp c (fun p => { p with entryWin := none })

/-- No breakpoint matches the instruction at the program counter, nor, for a .D branch, its delay slot (R602). -/
def State.noBreak (s : State) (c : CpId) (i : Insn) : Prop :=
  (s.cp c).skipBp = true ∨ (s.breakAt c (s.pc c) = none ∧ (i.dly = true → s.breakAt c (s.pc c + i.len) = none))

/-- An instruction is defined and may stand where it is: no reserved field is set and no unlisted control register named (R111, R112), no
branch, LOOP, LOCK, RETX or TRAP stands in a delay slot, and neither a .D branch nor a delay slot at LOOPEND of a running loop (R101, R103). -/
def Cp.allowed (p : Cp) (i : Insn) : Prop :=
  i.rsv = false ∧ i.ill = false ∧ (i.ctl = true → p.a.delay = none) ∧
    (p.a.loopcnt ≠ 0 → p.a.pc.toNat = p.a.loopend.toNat → i.dly = false ∧ p.a.delay = none)

/-- No debug event waits for the instruction boundary (R600 to R603). -/
def Cp.calm (p : Cp) : Prop := p.wp = none ∧ p.lateBp = none ∧ p.stepping = false ∧ p.haltReq = false

/-- No vector instruction that is outstanding writes a register that the instruction uses (R203). -/
def Cp.free (p : Cp) (i : Insn) : Prop :=
  (∀ n ∈ i.gs, p.vq.writesG n = false) ∧ (∀ n ∈ i.fs, p.vq.writesF n = false)

/-- The turn of a CP at an instruction: `c` is the logical CP that `c0` names (R71, R517), it issues (R389, R509), no checkpoint
or SLEEP entry holds it (R539, R512), and no interrupt is taken instead (R400). -/
def State.turn (s : State) (c0 c : CpId) : Prop :=
  s.lead c0 = c ∧ (s.cpsGo = true ∨ s.lockGo c = true) ∧ (s.cp c).issues = true ∧ s.cutStops c = false ∧ s.irqBefore c = none

/-- The fetch of the instruction's parcels and its decoding raise no cause and leave the state `f` (R80, R104, R111, R287, R360, R389). -/
def State.fetches (s : State) (c : CpId) (i : Insn) (f : State) : Prop :=
  (s.atInsn c).fetch c i = (none, f)

/-- The parcels of an instruction are fetched without a fault, in the state `f` (R80, R104, R360). -/
def State.reads (s : State) (c : CpId) (i : Insn) (f : State) : Prop :=
  (s.atInsn c).fetchFault c (s.pc c) i.len = (none, f)

/-- The dispatch entry of an instruction that has one is read without an error and is not marked reserved (R287, R292). -/
def State.decodes (s : State) (c : CpId) (i : Insn) : Prop :=
  ∀ op, i.vop = some op → s.armed 0x15 (cpPipe c) = false ∧ s.dispKind op ≠ 2

/-- CP `c` reads instruction `i` from `s` with no debug event and decodes it next: `f` is the state after the fetch. -/
def State.begins (s : State) (c0 c : CpId) (i : Insn) (f : State) : Prop :=
  s.turn c0 c ∧ s.noBreak c i ∧ s.reads c i f ∧ f.decodes c i

/-- The prefetch queue is full from the word of the program counter on and holds no word that read as poisoned (R378). -/
def Cp.primed (p : Cp) : Prop :=
  p.pf.map (·.w) = (List.range 4).map (p.a.pc.toNat / 4 + ·) ∧ ∀ e ∈ p.pf, e.bad = false

/-- Program words w to w + 3 lie in Program RAM and hold no check error (R80, R347). -/
def State.cleanRam (s : State) (c : CpId) (w : Nat) : Prop :=
  w + 3 < 0x4000 ∧ ∀ i < 4, s.err ((pramBase + c.val * 0x20000 + 8 * (w + i)) / 8) = Err.zero

/-- The four words of a prefetch queue filled at word w from Program RAM (R378). -/
def State.ramQueue (s : State) (c : CpId) (w : Nat) : List PfWord :=
  (List.range 4).map (fun i => ⟨w + i, s.memWord c (w + i), false⟩)

/-- CP `c` executes instruction `i` from `s` with no debug event, and `f` is the state after the fetch. -/
def State.starts (s : State) (c0 c : CpId) (i : Insn) (f : State) : Prop :=
  s.turn c0 c ∧ s.noBreak c i ∧ s.fetches c i f ∧ (s.cp c).allowed i ∧ (s.cp c).free i ∧ (f.cp c).calm

/-- Where the next instruction lies after one of `len` parcels with a taken branch to `target` or none: after a delay slot
the delayed target; at LOOPEND the loop (R101 to R103). -/
def CpArch.advance (a : CpArch) (len : Nat) (target : Option Nat) : CpArch :=
  match a.delay with
  | some d => { a with pc := d.1, delay := none }
  | none =>
    match target with
    | some t => { a with pc := BitVec.ofNat 25 (min t 0x1000000) }
    | none =>
      if a.loopcnt ≠ 0 ∧ a.pc.toNat = a.loopend.toNat then
        if 1 < a.loopcnt.toNat then { a with pc := a.loopbeg.setWidth 25, loopcnt := a.loopcnt - 1 }
        else { a with pc := pcPlus a.pc.toNat len, loopcnt := 0 }
      else { a with pc := pcPlus a.pc.toNat len }

/-- The instruction of `len` parcels completed with `upd` as its change of the architectural state: the program counter
advances, INSTRET counts, and a LOCK window counts down (R106). -/
def State.ran (f : State) (c : CpId) (len : Nat) (upd : CpArch → CpArch) : State :=
  f.modCp c (fun p => { p with
    a := (upd p.a).advance len none, pf := ({ p with a := upd p.a } : Cp).flow none, instret := p.instret + 1, lock := p.lock - 1, skipBp := false })

/-- The instruction completed with a taken branch to `t`. -/
def State.ranTo (f : State) (c : CpId) (len t : Nat) (upd : CpArch → CpArch) : State :=
  f.modCp c (fun p => { p with
    a := (upd p.a).advance len (some t), pf := ({ p with a := upd p.a } : Cp).flow (some t), instret := p.instret + 1, lock := p.lock - 1, skipBp := false })

/-- A .D branch completed, taken to `t` or not: its slot follows, and then the target or the instruction after the slot (R101). -/
def State.ranDelayed (f : State) (c : CpId) (len : Nat) (t : Option Nat) (upd : CpArch → CpArch) : State :=
  let slot := f.pc c + len
  let slotLen := match f.parcel c slot with | some x => parcelLen x | none => 1
  let after := match t with | some n => BitVec.ofNat 25 (min n 0x1000000) | none => pcPlus slot slotLen
  f.modCp c (fun p => { p with
    a := { upd p.a with pc := pcPlus (f.pc c) len, delay := some (after, BitVec.ofNat 24 (f.pc c)) }
    dtaken := t.isSome, instret := p.instret + 1, lock := p.lock - 1, skipBp := false })

/-- The address after an instruction of `len` parcels, and after its delay slot where it has one: what CALL puts in G15. -/
def State.returnTo (f : State) (c : CpId) (len : Nat) (dly : Bool) : Word :=
  let after := f.pc c + len
  BitVec.ofNat 64 (if dly then after + (match f.parcel c after with | some x => parcelLen x | none => 1) else after)

/-- The Lockstep compare of an effect finds no mismatch and leaves the state `g`; there is none in Split (R518). -/
def State.passes (f : State) (c : CpId) (kind wh : Nat) (g : State) : Prop := f.compareWith State.bucket c kind wh = (false, g)

/-- No vector instruction that is outstanding reads or writes a bit (R162). -/
def State.bitFree (f : State) (c : CpId) (n : Nat) : Prop :=
  (f.cp c).vq.holdsBit n false = false ∧ (f.cp c).vq.holdsBit n true = false

/-- A load of n bytes through K[r] at `addr` passes its checks, its translation and its codes, and finds `bs` (R84, R122, R360):
`w` is the state after it and `key` the physical key of its first byte. -/
def State.loads (f : State) (c : CpId) (r : Reg) (addr : Int) (n align : Nat) (bs : List Byte) (key : Nat) (w : State) : Prop :=
  (f.k c r).check [permR] addr n align = none ∧
  ∃ sp g h, f.spans (f.cpAccess c r.val (f.k c r) false) addr.toNat n = (.ok sp, g) ∧
    g.loadSpans c addr.toNat sp = (.ok bs, h) ∧ w = h.watchAccess c false addr.toNat n ∧ key = (spanKeys sp).getD 0 0 ∧
    (w.cp c).calm

/-- A store of a kind through K[kr] at `addr` passes its checks, meets no earlier vector work, translates and compares (R84, R119,
R122, R218, R518): the data, where it goes, and the state in which it is written. -/
def State.stores (f : State) (c : CpId) (kind : StoreKind) (r kr : Reg) (addr : Int) (data : StoreData) (sp : List (Nat × Nat))
    (g : State) : Prop :=
  ∃ f1, f.storeData c kind r = (some data, f1) ∧
    (f1.k c kr).check (if data.tag = some true then [permW, permStoreCap] else [permW]) addr data.size
      (match kind with | .k => 16 | .d => 32 | _ => 0) = none ∧
    (data.tag = some true → f1.storedGlobal c kind r = true) ∧
    ((f1.modVq c VQueue.close).cp c).vq.holdsStore addr.toNat (addr.toNat + data.size) = false ∧
    ∃ f2, (f1.modVq c VQueue.close).spans ((f1.modVq c VQueue.close).cpAccess c kr.val (f1.k c kr) true) addr.toNat data.size =
      (.ok sp, f2) ∧ f2.passes c 0 addr.toNat g

/-- The instruction raised `code`: XPC is the instruction (R390). -/
def State.trapped (f : State) (c : CpId) (code : Nat) (info : Word) : State := (f.raise c code info (f.pc c)).boundary c

/-- The streams of a long-vector instruction with the descriptors that it samples, after the check codes of those descriptors
(R163, R204). -/
def State.vecStreams (f : State) (c : CpId) (op : Nat) (v : VecFields) (r : VRow) (im : ImmOut) : List (Strm × DReg) × State :=
  let run := if op = 0x0E0 then (f.d c v.da).fields.toNat + 1 else if op = 0x0E1 then (f.d c v.dd).fields.toNat + 1 else 1
  let ss := streamsOf r im op v run
  let g := (f.readDs c (ss.map (·.num))).2
  (ss.map (fun x => (x, g.dAt c x.num)), g)

/-- A long-vector instruction passes its checks and finds room (R163 to R170, R203, R217, R518): the decoded immediate, the streams
and the state in which it is queued. -/
def State.vecIssues (f : State) (c : CpId) (op : Nat) (v : VecFields) (im : ImmOut) (l : List (Strm × DReg)) (g : State) : Prop :=
  ∃ r, vrow op = some r ∧ vDecode r v = some im ∧
    (let run := if op = 0x0E0 then (f.d c v.da).fields.toNat + 1 else if op = 0x0E1 then (f.d c v.dd).fields.toNat + 1 else 1
     (f.readDs c ((streamsOf r im op v run).map (·.num))).1 = none) ∧
    l = (f.vecStreams c op v r im).1 ∧ formChecks l (f.cp c).a.vl.toNat = none ∧ capChecks l v.tw = none ∧
    (((f.vecStreams c op v r im).2).cp c).vq.entries.length < 32 ∧ (((f.vecStreams c op v r im).2).cp c).vq.saving = none ∧
    (((f.vecStreams c op v r im).2).cp c).vq.writesScalar im = false ∧
    ((f.vecStreams c op v r im).2).passes c 1 (f.pc c) g ∧ g.lockstepCl (clOf c) = false

/-- The entry that a long-vector instruction queues: the instruction, what it samples, and no results (R163, R176, R217). -/
def State.vecEntry (f g : State) (c : CpId) (op : Nat) (v : VecFields) (im : ImmOut) (l : List (Strm × DReg)) : VEntry :=
  let a := (f.cp c).a
  let pick (role : Role) : Option DReg := (l.find? (fun x => x.1.role == role)).map (·.2)
  let rest := if op = 0x0E1 then (l.filter (fun x => x.1.role == .a)).drop 1 else l.filter (fun x => x.1.role == .x)
  { op := BitVec.ofNat 10 op, v := v, pc := a.pc.setWidth 24, vl := a.vl
    ct := a.ct || l.any (fun x => !x.2.space && x.2.cap.has permCt), det := a.det
    rnd := if v.rnd = 7 then a.fpstat.setWidth 3 else v.rnd, ftz := bitOf a.fpstat 3, daz := bitOf a.fpstat 4
    scalar := g.scalar c v.ty.toNat im, dD := pick .d, dA := pick .a, dB := pick .b, dC := pick .c, dM := pick .m
    ex := rest.map (·.2), joins := false, cut := false, partials := [], flags := 0, err := Err.zero }

end Sys2Proof.Machine
end

