-- ==== Sys2Proof/Machine/Serves.lean ====
section
/-! DEFINITION. The terms in which statements about datagrams and Ubori frames are written: when a KWT request reaches stage 4 at
once, what follows its completion, and when a Ubori frame takes effect. Each repeats, in the words of its rule, what `State.kwtIn` and
`State.uboriIn` do. -/

namespace Sys2Proof.Machine

/-- What ends the handling of a frame of an open session: the ACK that the coalescing count asks for, and the one that the frame
asks for (R452). -/
def State.kwtEnd (s : State) (n before : Nat) (f : KwtFrame) : State :=
  let s := if s.sessState n = 2 ∧ max 1 (s.rd KWT_CFG.ACK_COAL) ≤ (s.ses n).done then s.ackUnless n before else s
  if bitOf f.flags 1 ∧ s.sessState n = 2 then s.ackUnless n before else s

/-- A frame of an OPEN session reaches a port and passes the checks before those of its operation: length, version, session and port
(R449, R454, R476). -/
def State.hearsKwt (s : State) (f : KwtFrame) : Prop :=
  s.portHears f.port = true ∧ s.asleep = false ∧ f.payload.length = f.len.toNat ∧ f.ver = 1 ∧ f.session.toNat < 4096 ∧
  s.sessPort f.session.toNat f.port.val = true ∧ s.sessState f.session.toNat = 2

/-- A request whose SEQ is RX_NEXT reaches stage 4 with the status `st` of its earlier stages, in the state `u` (R451 to R456): stage 3
finds its trailer right and takes its sender and its ACK where stage 2 passed it, it is not held already, nothing freezes its session, it is
not forwarded to a Twin partner, and no READ of the session is still owed. -/
def State.kwtServes (s : State) (f : KwtFrame) (st : Byte) (u : State) : Prop :=
  let n := f.session.toNat
  s.hearsKwt f ∧ f.seq = BitVec.ofNat 32 (s.rd (SESS_SEQ.RX_NEXT n)) ∧
  ∃ c, s.stage2 f = (st, c) ∧ (st = 0 → f.trailer = trailerOf f.payload ∧ c.armed 0x31 (c.rd INJ_SEL.INST) = false) ∧
    (c.rd PAIR_STAT.ROLE = 3 → n < 16) ∧ f.seq = BitVec.ofNat 32 (c.rd (SESS_SEQ.RX_NEXT n)) ∧
    (let v := if st = 0 then
         (c.modSes n (fun x => { x with peer := some ⟨f.port, f.sub, f.srcMac, f.srcIp, f.srcUdp⟩ })).hostAck n f.ack 0
       else c
     v.sessState n = 2 ∧ v.sessFrozen n = false ∧ (v.ses n).reads = [] ∧
     (v.ses n).held.any (fun x => x.f.seq == f.seq) = false ∧ f.seq = BitVec.ofNat 32 (v.rd (SESS_SEQ.RX_NEXT n)) ∧
     u = v.modSes n (fun x => { x with held := x.held ++ [⟨f, st⟩] }))

/-- What a completed request leaves: it is no longer held, the held frames that follow it are performed, and the ACKs that are due
leave (R451, R452). -/
def State.kwtServed (s : State) (f : KwtFrame) (w : State) : State :=
  let n := f.session.toNat
  (State.runReqs netHooks n 64 (w.modSes n (fun y => { y with held := y.held.filter (fun z => z.f.seq != f.seq) }))).kwtEnd n
    s.net.sent.length f

/-- A Ubori frame of a type arrives whole, and its ACK and EPOCH have been taken (R532, R533, R536): the state `u` that its effect
starts from. -/
def State.hearsUbori (s : State) (type : Byte) (f : UboriFrame) (u : State) : Prop :=
  s.rdB PAIR_STAT.LINK = true ∧ s.armed 0x2B (s.rd INJ_SEL.INST) = false ∧ f.ver = 1 ∧ f.type = type ∧ f.body.length = f.len.toNat ∧
  uboriSeal f = f ∧ u = (s.uboriAck f.ack).sawEpoch f.epoch

/-- A sequenced Ubori frame is the next of its partner: `u` counts it (R533). -/
def State.takesUbori (s : State) (type : Byte) (f : UboriFrame) (u : State) : Prop :=
  ∃ v, s.hearsUbori type f v ∧ f.seq = v.pair.rxSeq ∧ u = v.modPair (fun p => { p with rxSeq := p.rxSeq + 1 })

end Sys2Proof.Machine
end

