-- ==== Sys2Proof/Safety.lean ====
section
/-! DEFINITION. What counts as a safe run of the block: no step of it stops. And the invariants that statements name: the canonical form
of the sparse maps, and what no command changes. -/

namespace Sys2Proof.Machine

/-- Whether an outcome is a next state. -/
def goesOn (o : Out) : Bool := match o with | .next _ => true | _ => false

/-- A run of n steps in which none stops. -/
def safeRun : Nat → State → Bool
  | 0, _ => true
  | n + 1, s => match step s with | .next t => safeRun n t | _ => false

/-- The canonical form of the memory and tags that a Twin side keeps of a cut (R548). -/
def TwinImg.wf (t : TwinImg) : Bool := mapWf memDefault t.mem && mapWf tagDefault t.tags

/-- The canonical form of every sparse map that reads as memory or as registers: memory, tags and check errors, the registers of the
Control Space, and the images that a Twin side keeps. -/
def State.canonical (s : State) : Bool :=
  Memory.wf s && mapWf regReset s.csr && s.pair.twin.all TwinImg.wf && s.pair.twinNew.all TwinImg.wf

/-- What no command changes or takes back: the queue, the time, the free values used, and every fuse bit that is blown (R560). -/
def State.keeps (s t : State) : Prop :=
  t.pending = s.pending ∧ t.now = s.now ∧ s.free ≤ t.free ∧
  ∀ k, mapGet (fun _ => (0 : Word)) s.sec.burnt k &&& mapGet (fun _ => 0) t.sec.burnt k = mapGet (fun _ => 0) s.sec.burnt k

end Sys2Proof.Machine
end

