-- ==== Sys2Proof/Certificates/Slice0/Obligations.lean ====
section
/-! DEFINITION. The statements about the model, for the provers. -/

open Sys2Proof Sys2Proof.Machine

/-! ### The integer instructions of the CP -/

/-- The register forms of one parcel: each writes G[d] or F[d], sets the flags of its row, and changes nothing else (R91,
R96). -/
def Sys2Proof.Clauses.RegisterFormResults : Prop :=
  ∀ (s f : State) (c0 c : CpId) (d r : Reg),
    (s.starts c0 c (i1 0 d r) f → exec (.mov c0 d r) s = .next (f.ran c 1 (fun a => a.setG d a.g[r.val]))) ∧
    (s.starts c0 c (i1 1 d r) f → exec (.add c0 d r) s =
      .next (f.ran c 1 (fun a => (a.flagsAdd a.g[d.val] a.g[r.val] false).2.setG d (a.g[d.val] + a.g[r.val])))) ∧
    (s.starts c0 c (i1 2 d r) f → exec (.sub c0 d r) s =
      .next (f.ran c 1 (fun a => (a.flagsSub a.g[d.val] a.g[r.val] false).2.setG d (a.g[d.val] - a.g[r.val])))) ∧
    (s.starts c0 c (i1 3 d r) f → exec (.and c0 d r) s =
      .next (f.ran c 1 (fun a => (a.setZN (a.g[d.val] &&& a.g[r.val])).setG d (a.g[d.val] &&& a.g[r.val])))) ∧
    (s.starts c0 c (i1 4 d r) f → exec (.or c0 d r) s =
      .next (f.ran c 1 (fun a => (a.setZN (a.g[d.val] ||| a.g[r.val])).setG d (a.g[d.val] ||| a.g[r.val])))) ∧
    (s.starts c0 c (i1 5 d r) f → exec (.xor c0 d r) s =
      .next (f.ran c 1 (fun a => (a.setZN (a.g[d.val] ^^^ a.g[r.val])).setG d (a.g[d.val] ^^^ a.g[r.val])))) ∧
    (s.starts c0 c (i1 6 d r) f → exec (.adc c0 d r) s =
      .next (f.ran c 1 (fun a => (a.flagsAdd a.g[d.val] a.g[r.val] (a.flag flC)).2.setG d
        (a.g[d.val] + a.g[r.val] + BitVec.ofNat 64 (b2n (a.flag flC)))))) ∧
    (s.starts c0 c (i1 7 d r) f → exec (.sbc c0 d r) s =
      .next (f.ran c 1 (fun a => (a.flagsSub a.g[d.val] a.g[r.val] (a.flag flC)).2.setG d
        (a.g[d.val] - a.g[r.val] - BitVec.ofNat 64 (b2n (a.flag flC)))))) ∧
    (s.starts c0 c (i1 8 d r) f → exec (.cmp c0 d r) s =
      .next (f.ran c 1 (fun a => (a.flagsSub a.g[d.val] a.g[r.val] false).2))) ∧
    (s.starts c0 c (i1 9 d r) f → exec (.shl c0 d r) s =
      .next (f.ran c 1 (fun a => (a.shl a.g[d.val] (a.g[r.val].toNat % 64)).2.setG d (a.g[d.val] <<< (a.g[r.val].toNat % 64))))) ∧
    (s.starts c0 c (i1 10 d r) f → exec (.shr c0 d r) s =
      .next (f.ran c 1 (fun a => (a.shr a.g[d.val] (a.g[r.val].toNat % 64)).2.setG d (a.g[d.val] >>> (a.g[r.val].toNat % 64))))) ∧
    (s.starts c0 c (i1 11 d r) f → exec (.sar c0 d r) s =
      .next (f.ran c 1 (fun a => (a.sar a.g[d.val] (a.g[r.val].toNat % 64)).2.setG d
        (a.g[d.val].sshiftRight (a.g[r.val].toNat % 64))))) ∧
    (s.starts c0 c (mkInsn 1 (enc1 0xC d r) false false [r.val] [d.val]) f → exec (.mvgf c0 d r) s =
      .next (f.ran c 1 (fun a => { a with f := a.f.set d.val a.g[r.val] (by omega) }))) ∧
    (s.starts c0 c (mkInsn 1 (enc1 0xD d r) false false [d.val] [r.val]) f → exec (.mvfg c0 d r) s =
      .next (f.ran c 1 (fun a => a.setG d (a.f[r.val]'(by omega)))))

/-- The unary forms of one parcel, and NOP (R91, R96, R98). -/
def Sys2Proof.Clauses.UnaryFormResults : Prop :=
  ∀ (s f : State) (c0 c : CpId) (r : Reg),
    (s.starts c0 c (iUnary 0 r) f → exec (.not c0 r) s = .next (f.ran c 1 (fun a => (a.setZN (~~~a.g[r.val])).setG r (~~~a.g[r.val])))) ∧
    (s.starts c0 c (iUnary 1 r) f → exec (.neg c0 r) s =
      .next (f.ran c 1 (fun a => (a.flagsSub 0 a.g[r.val] false).2.setG r (-a.g[r.val])))) ∧
    (s.starts c0 c (iUnary 2 r) f → exec (.dadj c0 r) s =
      .next (f.ran c 1 (fun a => (a.dadj a.g[r.val]).2.setG r (a.dadj a.g[r.val]).1))) ∧
    (s.starts c0 c (iUnary 3 r) f → exec (.clz c0 r) s =
      .next (f.ran c 1 (fun a => (a.setZ (BitVec.ofNat 64 (clzFrom a.g[r.val].toNat 64))).setG r (BitVec.ofNat 64 (clzFrom a.g[r.val].toNat 64))))) ∧
    (s.starts c0 c (iUnary 4 r) f → exec (.ctz c0 r) s =
      .next (f.ran c 1 (fun a => (a.setZ (BitVec.ofNat 64 (ctzFrom a.g[r.val].toNat 64))).setG r (BitVec.ofNat 64 (ctzFrom a.g[r.val].toNat 64))))) ∧
    (s.starts c0 c (iUnary 5 r) f → exec (.popc c0 r) s =
      .next (f.ran c 1 (fun a => (a.setZ (BitVec.ofNat 64 (popcN a.g[r.val].toNat 64))).setG r (BitVec.ofNat 64 (popcN a.g[r.val].toNat 64))))) ∧
    (s.starts c0 c (iUnary 6 r) f → exec (.sextb c0 r) s =
      .next (f.ran c 1 (fun a => (a.setZ ((a.g[r.val].setWidth 8).signExtend 64)).setG r ((a.g[r.val].setWidth 8).signExtend 64)))) ∧
    (s.starts c0 c (iUnary 7 r) f → exec (.sexth c0 r) s =
      .next (f.ran c 1 (fun a => (a.setZ ((a.g[r.val].setWidth 32).signExtend 64)).setG r ((a.g[r.val].setWidth 32).signExtend 64)))) ∧
    (s.starts c0 c (iUnary 8 r) f → exec (.zexth c0 r) s =
      .next (f.ran c 1 (fun a => (a.setZ ((a.g[r.val].setWidth 32).setWidth 64)).setG r ((a.g[r.val].setWidth 32).setWidth 64)))) ∧
    (s.starts c0 c (iUnary 9 r) f → exec (.bswap c0 r) s =
      .next (f.ran c 1 (fun a => (a.setZ (bswapW a.g[r.val])).setG r (bswapW a.g[r.val])))) ∧
    (s.starts c0 c (iCtl 0 false) f → exec (.nop c0) s = .next (f.ran c 1 (fun a => a)))

/-- The register forms of one and two sources (R91, R93, R96): each completes with its result and flags, and leaves the rest.
-/
def Obligations.RegisterAndUnaryResults : Prop :=
  Sys2Proof.Clauses.RegisterFormResults ∧ Sys2Proof.Clauses.UnaryFormResults

/-- The three-register forms with their reserved field at zero (R93, R96, R99, R100, R268). -/
def Sys2Proof.Clauses.ThreeRegisterResults : Prop :=
  ∀ (s f : State) (c0 c : CpId) (d a0 b0 : Reg),
    (s.starts c0 c (iRRR 0 d a0 b0 0) f → exec (.add3 c0 d a0 b0 0) s =
      .next (f.ran c 2 (fun a => (a.flagsAdd a.g[a0.val] a.g[b0.val] false).2.setG d (a.g[a0.val] + a.g[b0.val])))) ∧
    (s.starts c0 c (iRRR 1 d a0 b0 0) f → exec (.sub3 c0 d a0 b0 0) s =
      .next (f.ran c 2 (fun a => (a.flagsSub a.g[a0.val] a.g[b0.val] false).2.setG d (a.g[a0.val] - a.g[b0.val])))) ∧
    (s.starts c0 c (iRRR 2 d a0 b0 0) f → exec (.and3 c0 d a0 b0 0) s =
      .next (f.ran c 2 (fun a => (a.setZN (a.g[a0.val] &&& a.g[b0.val])).setG d (a.g[a0.val] &&& a.g[b0.val])))) ∧
    (s.starts c0 c (iRRR 3 d a0 b0 0) f → exec (.or3 c0 d a0 b0 0) s =
      .next (f.ran c 2 (fun a => (a.setZN (a.g[a0.val] ||| a.g[b0.val])).setG d (a.g[a0.val] ||| a.g[b0.val])))) ∧
    (s.starts c0 c (iRRR 4 d a0 b0 0) f → exec (.xor3 c0 d a0 b0 0) s =
      .next (f.ran c 2 (fun a => (a.setZN (a.g[a0.val] ^^^ a.g[b0.val])).setG d (a.g[a0.val] ^^^ a.g[b0.val])))) ∧
    (s.starts c0 c (iRRR 5 d a0 b0 0) f → exec (.shl3 c0 d a0 b0 0) s =
      .next (f.ran c 2 (fun a => (a.shl a.g[a0.val] (a.g[b0.val].toNat % 64)).2.setG d (a.g[a0.val] <<< (a.g[b0.val].toNat % 64))))) ∧
    (s.starts c0 c (iRRR 6 d a0 b0 0) f → exec (.shr3 c0 d a0 b0 0) s =
      .next (f.ran c 2 (fun a => (a.shr a.g[a0.val] (a.g[b0.val].toNat % 64)).2.setG d (a.g[a0.val] >>> (a.g[b0.val].toNat % 64))))) ∧
    (s.starts c0 c (iRRR 7 d a0 b0 0) f → exec (.sar3 c0 d a0 b0 0) s =
      .next (f.ran c 2 (fun a => (a.sar a.g[a0.val] (a.g[b0.val].toNat % 64)).2.setG d
        (a.g[a0.val].sshiftRight (a.g[b0.val].toNat % 64))))) ∧
    (s.starts c0 c (iRRR 8 d a0 b0 0) f → exec (.mul c0 d a0 b0 0) s =
      .next (f.ran c 2 (fun a => (a.setZN (a.g[a0.val] * a.g[b0.val])).setG d (a.g[a0.val] * a.g[b0.val])))) ∧
    (s.starts c0 c (iRRR 9 d a0 b0 0) f → exec (.mulhu c0 d a0 b0 0) s =
      .next (f.ran c 2 (fun a => (a.setZN (BitVec.ofNat 64 (a.g[a0.val].toNat * a.g[b0.val].toNat / 2 ^ 64))).setG d
        (BitVec.ofNat 64 (a.g[a0.val].toNat * a.g[b0.val].toNat / 2 ^ 64))))) ∧
    (s.starts c0 c (iRRR 10 d a0 b0 0) f → exec (.mulhs c0 d a0 b0 0) s =
      .next (f.ran c 2 (fun a => (a.setZN (BitVec.ofInt 64 (a.g[a0.val].toInt * a.g[b0.val].toInt / 2 ^ 64))).setG d
        (BitVec.ofInt 64 (a.g[a0.val].toInt * a.g[b0.val].toInt / 2 ^ 64))))) ∧
    (s.starts c0 c (iRRR 14 d a0 b0 0) f → exec (.pack c0 d a0 b0 0) s =
      .next (f.ran c 2 (fun a => (a.stick flDI (badDigits (packW a.g[a0.val] a.g[b0.val]).toNat)).setG d (packW a.g[a0.val] a.g[b0.val])))) ∧
    (∀ fn : BitVec 8, fn.toNat < 32 → s.starts c0 c (iRRR 15 d a0 b0 fn) f → exec (.unpk c0 d a0 b0 fn) s =
      .next (f.ran c 2 (fun a => a.setG d (unpkW a.g[a0.val] (bitOf fn 4) (fn.toNat % 16))))) ∧
    (∀ fn : BitVec 8, fn.toNat < 2 → s.starts c0 c (iRRR 12 d a0 b0 fn) f → exec (.dadd c0 d a0 b0 fn) s =
      .next (f.ran c 2 (fun a =>
        let o := decAdd (if bitOf fn 0 then 0xC else 0xB) false a.g[a0.val].toNat a.g[b0.val].toNat 0
        (((a.setZ (BitVec.ofNat 64 o.d)).setFlag flC (o.x != 0)).orFlags o.flags).setG d (BitVec.ofNat 64 o.d)))) ∧
    (∀ fn : BitVec 8, fn.toNat < 2 → s.starts c0 c (iRRR 13 d a0 b0 fn) f → exec (.dsub c0 d a0 b0 fn) s =
      .next (f.ran c 2 (fun a =>
        let o := decAdd (if bitOf fn 0 then 0xC else 0xB) true a.g[a0.val].toNat a.g[b0.val].toNat 0
        (((a.setZ (BitVec.ofNat 64 o.d)).setFlag flC (o.x != 0)).orFlags o.flags).setG d (BitVec.ofNat 64 o.d)))) ∧
    (∀ fn : BitVec 8, d ≠ b0 → 0 < fn.toNat % 64 → fn.toNat % 64 ≤ 32 → s.starts c0 c (iRRR 11 d a0 b0 fn) f →
      exec (.idstep c0 d a0 b0 fn) s =
      .next (f.ran c 2 (fun a =>
        let o := idivStep 64 (bitOf fn 7) (bitOf fn 6) (fn.toNat % 64) a.g[a0.val].toNat a.g[d.val].toNat a.g[b0.val].toNat
        ((a.setG d (BitVec.ofNat 64 o.r)).setG b0 (BitVec.ofNat 64 o.q)).orFlags o.flags)))

/-- The immediate forms (R93, R95, R96). -/
def Sys2Proof.Clauses.ImmediateResults : Prop :=
  ∀ (s f : State) (c0 c : CpId) (d a0 : Reg),
    (∀ imm : BitVec 16,
      (s.starts c0 c (iRI 16 d imm) f → exec (.addi c0 d imm) s =
        .next (f.ran c 2 (fun a => (a.flagsAdd a.g[d.val] (imm.signExtend 64) false).2.setG d (a.g[d.val] + imm.signExtend 64)))) ∧
      (s.starts c0 c (iRI 17 d imm) f → exec (.andi c0 d imm) s =
        .next (f.ran c 2 (fun a => (a.setZN (a.g[d.val] &&& imm.setWidth 64)).setG d (a.g[d.val] &&& imm.setWidth 64)))) ∧
      (s.starts c0 c (iRI 18 d imm) f → exec (.ori c0 d imm) s =
        .next (f.ran c 2 (fun a => (a.setZN (a.g[d.val] ||| imm.setWidth 64)).setG d (a.g[d.val] ||| imm.setWidth 64)))) ∧
      (s.starts c0 c (iRI 19 d imm) f → exec (.xori c0 d imm) s =
        .next (f.ran c 2 (fun a => (a.setZN (a.g[d.val] ^^^ imm.setWidth 64)).setG d (a.g[d.val] ^^^ imm.setWidth 64)))) ∧
      (s.starts c0 c (iRI 20 d imm) f → exec (.movi c0 d imm) s = .next (f.ran c 2 (fun a => a.setG d (imm.signExtend 64)))) ∧
      (s.starts c0 c (iRI 21 d imm) f → exec (.cmpi c0 d imm) s =
        .next (f.ran c 2 (fun a => (a.flagsSub a.g[d.val] (imm.signExtend 64) false).2)))) ∧
    (∀ amt : BitVec 6,
      (s.starts c0 c (iShi 0 d 0 0 amt) f → exec (.shiShl c0 d 0 0 amt) s =
        .next (f.ran c 2 (fun a => (a.shl a.g[d.val] amt.toNat).2.setG d (a.g[d.val] <<< amt.toNat)))) ∧
      (s.starts c0 c (iShi 1 d 0 0 amt) f → exec (.shiShr c0 d 0 0 amt) s =
        .next (f.ran c 2 (fun a => (a.shr a.g[d.val] amt.toNat).2.setG d (a.g[d.val] >>> amt.toNat)))) ∧
      (s.starts c0 c (iShi 2 d 0 0 amt) f → exec (.shiSar c0 d 0 0 amt) s =
        .next (f.ran c 2 (fun a => (a.sar a.g[d.val] amt.toNat).2.setG d (a.g[d.val].sshiftRight amt.toNat)))) ∧
      (s.starts c0 c (iShi 3 d 0 0 amt) f → exec (.shiRor c0 d 0 0 amt) s =
        .next (f.ran c 2 (fun a => (a.ror a.g[d.val] amt.toNat).2.setG d (a.g[d.val].rotateRight amt.toNat))))) ∧
    (∀ imm : BitVec 32,
      (s.starts c0 c (iX 0x300 d a0 0 imm [d.val] []) f → exec (.movi32 c0 d a0 0 imm) s =
        .next (f.ran c 4 (fun a => a.setG d (imm.signExtend 64)))) ∧
      (s.starts c0 c (iX 0x301 d a0 0 imm [d.val] []) f → exec (.movhi32 c0 d a0 0 imm) s =
        .next (f.ran c 4 (fun a => a.setG d (imm ++ (a.g[d.val]).setWidth 32)))) ∧
      (s.starts c0 c (iX 0x302 d a0 0 imm [d.val, a0.val] []) f → exec (.addi32 c0 d a0 0 imm) s =
        .next (f.ran c 4 (fun a => (a.flagsAdd a.g[a0.val] (imm.signExtend 64) false).2.setG d (a.g[a0.val] + imm.signExtend 64)))) ∧
      (s.starts c0 c (iX 0x303 d a0 0 imm [d.val, a0.val] []) f → exec (.andi32 c0 d a0 0 imm) s =
        .next (f.ran c 4 (fun a => (a.setZN (a.g[a0.val] &&& imm.setWidth 64)).setG d (a.g[a0.val] &&& imm.setWidth 64)))) ∧
      (s.starts c0 c (iX 0x304 d a0 0 imm [d.val, a0.val] []) f → exec (.ori32 c0 d a0 0 imm) s =
        .next (f.ran c 4 (fun a => (a.setZN (a.g[a0.val] ||| imm.setWidth 64)).setG d (a.g[a0.val] ||| imm.setWidth 64)))) ∧
      (s.starts c0 c (iX 0x305 d a0 0 imm [d.val, a0.val] []) f → exec (.xori32 c0 d a0 0 imm) s =
        .next (f.ran c 4 (fun a => (a.setZN (a.g[a0.val] ^^^ imm.setWidth 64)).setG d (a.g[a0.val] ^^^ imm.setWidth 64)))) ∧
      (s.starts c0 c (iX 0x306 d a0 0 imm [a0.val] []) f → exec (.cmpi32 c0 d a0 0 imm) s =
        .next (f.ran c 4 (fun a => (a.flagsSub a.g[a0.val] (imm.signExtend 64) false).2))) ∧
      (s.starts c0 c (iX 0x320 d a0 0 imm [a0.val] [imm.toNat % 64]) f → exec (.mvgfx c0 d a0 0 imm) s =
        .next (f.ran c 4 (fun a => { a with f := a.f.set (imm.toNat % 64) a.g[a0.val] (by omega) }))) ∧
      (s.starts c0 c (iX 0x321 d a0 0 imm [d.val] [imm.toNat % 64]) f → exec (.mvfgx c0 d a0 0 imm) s =
        .next (f.ran c 4 (fun a => a.setG d (a.f[imm.toNat % 64]'(by omega))))))

/-- The three-register and immediate forms (R91, R93, R96, R100): each completes with its result and flags, and leaves the
rest. -/
def Obligations.ThreeRegisterAndImmediateResults : Prop :=
  Sys2Proof.Clauses.ThreeRegisterResults ∧ Sys2Proof.Clauses.ImmediateResults

/-- A form whose reserved field is not zero, or whose operands R268 reserves, raises RESERVED_OP with the instruction in XINFO before any
effect: the three-register forms, the immediate shifts and the extended immediates (R93, R95, R111, R268). -/
def Obligations.ReservedFieldTraps : Prop :=
  ∀ (s f : State) (c0 c : CpId) (d a b : Reg) (fn : BitVec 8) (sub : BitVec 4) (imm : BitVec 32) (hi amt : BitVec 6) (mid : BitVec 2),
    let traps (i : Insn) (x : Instr) : Prop :=
      s.turn c0 c → s.noBreak c i → s.reads c i f → f.decodes c i → exec x s = .next (f.trapped c cReserved i.info)
    (fn ≠ 0 → ∀ p ∈ ([(0, .add3 c0 d a b fn), (1, .sub3 c0 d a b fn), (2, .and3 c0 d a b fn), (3, .or3 c0 d a b fn),
        (4, .xor3 c0 d a b fn), (5, .shl3 c0 d a b fn), (6, .shr3 c0 d a b fn), (7, .sar3 c0 d a b fn), (8, .mul c0 d a b fn),
        (9, .mulhu c0 d a b fn), (10, .mulhs c0 d a b fn), (14, .pack c0 d a b fn)] : List (Nat × Instr)),
      traps (iRRR p.1 d a b fn) p.2) ∧
    (32 ≤ fn.toNat → traps (iRRR 15 d a b fn) (.unpk c0 d a b fn)) ∧
    (2 ≤ fn.toNat → ∀ p ∈ ([(12, .dadd c0 d a b fn), (13, .dsub c0 d a b fn)] : List (Nat × Instr)), traps (iRRR p.1 d a b fn) p.2) ∧
    (d = b ∨ fn.toNat % 64 = 0 ∨ 32 < fn.toNat % 64 → traps (iRRR 11 d a b fn) (.idstep c0 d a b fn)) ∧
    (hi ≠ 0 ∨ mid ≠ 0 → ∀ p ∈ ([(0, .shiShl c0 d hi mid amt), (1, .shiShr c0 d hi mid amt), (2, .shiSar c0 d hi mid amt),
        (3, .shiRor c0 d hi mid amt)] : List (Nat × Instr)), traps (iShi p.1 d hi mid amt) p.2) ∧
    (sub ≠ 0 → ∀ p ∈ ([(0x300, .movi32 c0 d a sub imm), (0x301, .movhi32 c0 d a sub imm), (0x302, .addi32 c0 d a sub imm),
        (0x303, .andi32 c0 d a sub imm), (0x304, .ori32 c0 d a sub imm), (0x305, .xori32 c0 d a sub imm), (0x306, .cmpi32 c0 d a sub imm),
        (0x320, .mvgfx c0 d a sub imm), (0x321, .mvfgx c0 d a sub imm)] : List (Nat × Instr)), traps (iX p.1 d a sub imm [] []) p.2)


/-! ### Flags, sequencing and exceptions -/

/-- Addition (R89, R96, R97): the sum, Z, N, the carry, signed overflow and the sixteen nibble carries; the other flags and every
other register stay. -/
def Sys2Proof.Clauses.AdditionFlags : Prop :=
  ∀ (a : CpArch) (x y : Word) (cin : Bool),
    let q := a.flagsAdd x y cin
    let n := x.toNat + y.toNat + cin.toNat
    q.1.toNat = n % 2 ^ 64 ∧
    (q.2.flag flZ = true ↔ q.1 = 0) ∧ q.2.flag flN = q.1.msb ∧ (q.2.flag flC = true ↔ 2 ^ 64 ≤ n) ∧
    (q.2.flag flV = true ↔ x.toInt + y.toInt + cin.toNat < -2 ^ 63 ∨ 2 ^ 63 ≤ x.toInt + y.toInt + cin.toNat) ∧
    (∀ k, 4 ≤ k → q.2.flag k = a.flag k) ∧
    (∀ i < 16, bitOf q.2.ncy i = decide (2 ^ (4 * i + 4) ≤ x.toNat % 2 ^ (4 * i + 4) + y.toNat % 2 ^ (4 * i + 4) + cin.toNat)) ∧
    bitOf q.2.ncy 15 = q.2.flag flC ∧
    ({ q.2 with flags := a.flags, ncy := a.ncy } : CpArch) = a

/-- Subtraction (R89, R96): the difference, Z, N, the borrow and signed overflow; NCY, the other flags and every other register
stay. -/
def Sys2Proof.Clauses.SubtractionFlags : Prop :=
  ∀ (a : CpArch) (x y : Word) (cin : Bool),
    let q := a.flagsSub x y cin
    (q.1.toNat : Int) = ((x.toNat : Int) - y.toNat - cin.toNat) % 2 ^ 64 ∧
    (q.2.flag flZ = true ↔ q.1 = 0) ∧ q.2.flag flN = q.1.msb ∧ (q.2.flag flC = true ↔ x.toNat < y.toNat + cin.toNat) ∧
    (q.2.flag flV = true ↔ x.toInt - y.toInt - cin.toNat < -2 ^ 63 ∨ 2 ^ 63 ≤ x.toInt - y.toInt - cin.toNat) ∧
    (∀ k, 4 ≤ k → q.2.flag k = a.flag k) ∧ ({ q.2 with flags := a.flags } : CpArch) = a

/-- Shifts and rotation (R96): Z and N of the result, C the last bit shifted out, and C unchanged for an amount of 0. -/
def Sys2Proof.Clauses.ShiftFlags : Prop :=
  ∀ (a : CpArch) (x : Word) (n : Nat), n < 64 →
    (∀ q ∈ [a.shl x n, a.shr x n, a.sar x n, a.ror x n],
      (q.2.flag flZ = true ↔ q.1 = 0) ∧ q.2.flag flN = q.1.msb ∧ (n = 0 → q.1 = x ∧ q.2.flag flC = a.flag flC) ∧
      (∀ k, 3 ≤ k → q.2.flag k = a.flag k) ∧ ({ q.2 with flags := a.flags } : CpArch) = a) ∧
    (a.shl x n).1.toNat = x.toNat * 2 ^ n % 2 ^ 64 ∧ (a.shr x n).1.toNat = x.toNat / 2 ^ n ∧
    (a.sar x n).1.toInt = x.toInt / 2 ^ n ∧ (∀ i < 64, bitOf (a.ror x n).1 i = bitOf x ((i + n) % 64)) ∧
    (0 < n → ((a.shl x n).2.flag flC = true ↔ x.toNat / 2 ^ (64 - n) % 2 = 1) ∧
      (∀ q ∈ [a.shr x n, a.sar x n, a.ror x n], q.2.flag flC = true ↔ x.toNat / 2 ^ (n - 1) % 2 = 1))

/-- The flags of addition, subtraction, shifts and rotation (R89, R96, R97), with the values they belong to. -/
def Obligations.ArithmeticFlags : Prop :=
  Sys2Proof.Clauses.AdditionFlags ∧ Sys2Proof.Clauses.SubtractionFlags ∧ Sys2Proof.Clauses.ShiftFlags

/-- DADJ on any input (R98): digit by digit from the lowest, with the carry `car` of the digit below, the digit plus that carry is
corrected by 6 where NCY has its bit or it exceeds 9, and gives a carry from 16 on; C is NCY[15] or the last carry, Z whether the
result is 0; DI, NCY and every other flag and register stay. -/
def Sys2Proof.Clauses.DadjDigits : Prop :=
  ∀ (s f : State) (c0 c : CpId) (r : Reg), s.starts c0 c (iUnary 2 r) f →
    let w := f.g c r
    let ncy := (f.cp c).a.ncy
    ∃ (res : Word) (car : Nat → Nat), car 0 = 0 ∧
      (∀ i < 16,
        let n := nbits w.toNat (4 * i) 4 + car i;
        let m := if bitOf ncy i = true ∨ 9 < n then n + 6 else n;
        nbits res.toNat (4 * i) 4 = m % 16 ∧ car (i + 1) = if 16 ≤ m then 1 else 0) ∧
      exec (.dadj c0 r) s = .next (f.ran c 1 (fun a =>
        ((a.setFlag flZ (decide (res = 0))).setFlag flC (bitOf ncy 15 || decide (car 16 = 1))).setG r res))

/-- A binary addition of two packed-decimal words followed by DADJ gives their decimal sum, and C its carry (R98). -/
def Sys2Proof.Clauses.DecimalSum : Prop :=
  ∀ (a : CpArch) (x y : Word), decOk 16 x.toNat = true → decOk 16 y.toNat = true →
    let q := a.flagsAdd x y false
    let r := q.2.dadj q.1
    r.1.toNat = decOf 16 ((decVal 16 x.toNat + decVal 16 y.toNat) % 10 ^ 16) ∧
    (r.2.flag flC = true ↔ 10 ^ 16 ≤ decVal 16 x.toNat + decVal 16 y.toNat) ∧ (r.2.flag flZ = true ↔ r.1 = 0) ∧
    (∀ k, k ≠ flC → k ≠ flZ → r.2.flag k = q.2.flag k) ∧ r.2.ncy = q.2.ncy

/-- DADJ gives on any input what R98 says, digit by digit; after a binary addition of two packed-decimal words that is their decimal
sum with its carry. -/
def Obligations.DecimalAdjust : Prop := Sys2Proof.Clauses.DadjDigits ∧ Sys2Proof.Clauses.DecimalSum

/-- The F and V registers overlap (R72): a write to Fk changes bits [64 (k mod 8) + 63 : 64 (k mod 8)] of V(k div 8), a write to Vn
changes F(8n) to F(8n + 7), and no other register changes. -/
def Obligations.FAndVRegistersOverlap : Prop :=
  ∀ (s : State) (c : CpId) (k : Fin 64) (n : Fin 8) (w : Word) (x : Nat),
    (let t := s.setF c k w;
      t.f c k = w ∧ nbits (t.vNum c (k.val / 8)) (64 * (k.val % 8)) 64 = w.toNat ∧
      (∀ j < 8, j ≠ k.val % 8 → nbits (t.vNum c (k.val / 8)) (64 * j) 64 = nbits (s.vNum c (k.val / 8)) (64 * j) 64) ∧
      (∀ m < 8, m ≠ k.val / 8 → t.vNum c m = s.vNum c m) ∧ (∀ j, j ≠ k → t.f c j = s.f c j) ∧
      { (t.cp c) with a := { (t.cp c).a with f := (s.cp c).a.f } } = s.cp c ∧ (∀ e, e ≠ c → t.cp e = s.cp e) ∧
      { t with cps := s.cps } = s) ∧
    (let t := s.modA c (fun a => a.setV n.val x);
      t.vNum c n.val = x % 2 ^ 512 ∧ (∀ j : Fin 8, t.f c ⟨8 * n.val + j.val, by omega⟩ = BitVec.ofNat 64 (x / 2 ^ (64 * j.val))) ∧
      (∀ j : Fin 64, j.val / 8 ≠ n.val → t.f c j = s.f c j) ∧ (∀ m < 8, m ≠ n.val → t.vNum c m = s.vNum c m) ∧
      { (t.cp c) with a := { (t.cp c).a with f := (s.cp c).a.f } } = s.cp c ∧ (∀ e, e ≠ c → t.cp e = s.cp e) ∧
      { t with cps := s.cps } = s)

/-- Where execution goes after an instruction (R101, R102, R103): after a delay slot to the delayed target; after a taken branch
to its target; at LOOPEND of a loop with more than one pass left back to LOOPBEG with LOOPCNT one less; after its last pass on in
sequence with LOOPCNT 0; else to the next parcel after the instruction. -/
def Obligations.SequencingRules : Prop :=
  ∀ (a : CpArch) (len : Nat), a.pc.toNat + len ≤ 0x1000000 →
    (∀ d b tgt, a.delay = some (d, b) → a.advance len tgt = { a with pc := d, delay := none }) ∧
    (a.delay = none →
      (∀ t, t ≤ 0x1000000 → (a.advance len (some t)).pc.toNat = t ∧
        { a.advance len (some t) with pc := a.pc } = a) ∧
      (a.pc.toNat = a.loopend.toNat → 1 < a.loopcnt.toNat →
        (a.advance len none).pc.toNat = a.loopbeg.toNat ∧ (a.advance len none).loopcnt.toNat = a.loopcnt.toNat - 1 ∧
        { a.advance len none with pc := a.pc, loopcnt := a.loopcnt } = a) ∧
      (a.pc.toNat = a.loopend.toNat → a.loopcnt = 1 →
        (a.advance len none).pc.toNat = a.pc.toNat + len ∧ (a.advance len none).loopcnt = 0 ∧
        { a.advance len none with pc := a.pc, loopcnt := a.loopcnt } = a) ∧
      ((a.pc.toNat ≠ a.loopend.toNat ∨ a.loopcnt = 0) →
        (a.advance len none).pc.toNat = a.pc.toNat + len ∧ { a.advance len none with pc := a.pc } = a))

/-- The fetch of an instruction that may stand where it is succeeds (R80, R347, R378): from a prefetch queue that holds it, which it
leaves as it is, and from Program RAM without a check error, whose four words from the instruction on fill an empty queue. -/
def Sys2Proof.Clauses.CleanFetch : Prop :=
  ∀ (s : State) (c : CpId) (i : Insn), 0 < i.len → i.len ≤ 4 → s.pc c + i.len ≤ 0x10000 → (s.cp c).allowed i → s.decodes c i →
    ((s.cp c).primed → s.fetches c i (s.atInsn c)) ∧
    ((s.cp c).pf = [] → s.cleanRam c (s.pc c / 4) →
      s.fetches c i ((s.atInsn c).modCp c (fun p => { p with pf := s.ramQueue c (s.pc c / 4) })))

/-- The prefetch queue (R81, R110, R378): a write of Program RAM does not change it and the words that it holds are those that execute;
a taken branch empties it, after its delay slot where it has one, and so do SYNCC and taking an exception; the return to LOOPBEG and an
instruction in sequence keep it. -/
def Sys2Proof.Clauses.PrefetchQueue : Prop :=
  ∀ (s : State) (c : CpId) (v : BitVec 56) (p : Cp) (w : Nat),
    (let t := s.pramWrite c v;
      (t.cp c).pf = (s.cp c).pf ∧ (∀ e, (s.cp c).pf.find? (fun e => e.w == w) = some e → t.peekWord c w = e.bits) ∧
      ((s.cp c).pf = [] → t.memWord c (s.cp c).pramAddr.toNat = v)) ∧
    p.sync.pf = [] ∧ (∀ n, p.a.delay = none → p.flow (some n) = []) ∧ (p.a.delay = none → p.flow none = p.pf) ∧
    (∀ d t, p.a.delay = some d → p.flow t = if p.dtaken then [] else p.pf)

/-- A CP that is held in reset, locked up, halted or waiting executes no instruction (R389, R397), and none executes outside RUN
(R616) or on a Standby (R624). -/
def Sys2Proof.Clauses.IdleCpKeepsState : Prop :=
  ∀ (s : State) (c0 : CpId) (i : Insn) (body : State → CpId → Flow),
    let c := s.lead c0
    ((s.cp c).run ≠ .running ∨ (s.cp c).stall ≠ .none ∨ s.sec.sys ≠ .run ∨ s.rd PAIR_STAT.ROLE = 2 ∨ s.pair.divergent = true) →
    s.runInsn c0 i body = s

/-- An acceptable interrupt is taken instead of the instruction, with the instruction as its return point (R400). -/
def Sys2Proof.Clauses.InterruptBeforeInstruction : Prop :=
  ∀ (s : State) (c0 c : CpId) (i : Insn) (body : State → CpId → Flow) (n q : Nat),
    s.lead c0 = c → s.cpsGo = true → (s.cp c).issues = true → s.cutStops c = false → s.irqBefore c = some (n, q) →
    s.runInsn c0 i body = (s.accept c n q (s.pc c)).boundary c

/-- The decoding causes (R101, R103, R111, R112, R389): a reserved field raises RESERVED_OP; with none set, a branch, LOOP, LOCK, RETX or
TRAP in a delay slot raises ILLEGAL at the slot, a .D branch or a delay slot at LOOPEND of a running loop raises it, and so does an
unlisted control register. -/
def Sys2Proof.Clauses.IllegalPosition : Prop :=
  ∀ (s f : State) (c0 c : CpId) (i : Insn) (body : State → CpId → Flow), s.begins c0 c i f →
    (i.rsv = true → s.runInsn c0 i body = (f.raise c cReserved i.info (s.pc c)).boundary c) ∧
    (i.rsv = false → ¬ (s.cp c).allowed i → s.runInsn c0 i body = (f.raise c cIllegal i.info (s.pc c)).boundary c)

/-- What stands before an instruction (R80, R81, R101 to R103, R111, R112, R378, R389, R397, R400): its fetch, the prefetch
queue, a CP that cannot run, an interrupt that comes first, and what traps at decode. -/
def Obligations.InstructionBoundary : Prop :=
  Sys2Proof.Clauses.CleanFetch ∧ Sys2Proof.Clauses.PrefetchQueue ∧ Sys2Proof.Clauses.IdleCpKeepsState ∧ Sys2Proof.Clauses.InterruptBeforeInstruction ∧ Sys2Proof.Clauses.IllegalPosition

/-- Taking an exception or an interrupt (R392): with a place for the frame and a handler in Program RAM, the saved registers name the
cause, the level is the new one, the CP runs under the entry capability at XVEC, the frame register has moved down by 128 bytes, the
reservation and any LOCK window end, and an accepted interrupt is no longer pending. -/
def Sys2Proof.Clauses.ExceptionEntry : Prop :=
  ∀ (s s1 : State) (c : CpId) (x : Cause) (level fr : Nat) (esc : Bool),
    let s0 := s.modCp c (fun p => { p.sync with stall := .none, vq := p.vq.close })
    s.lockstepCl (clOf c) = false → s0.writeFrame c (s0.cp c).a x.xpc = some (fr, s1) →
    s1.cleanRam c ((s1.cp c).a.xvecOn.toNat / 4) →
    let t := s.enter c x level esc
    let a := (s1.cp c).a
    (t.cp c).a = { a with
      k := vecUpd a.k (frameReg (s0.cp c).a) (fun k => k.at fr), xpc := BitVec.ofNat 24 x.xpc
      xcause := xcauseOf x.code x.int x.ds esc x.irq, xinfo := x.info, xmask := BitVec.ofNat 3 level, pcc := a.entryCap
      loopcnt := 0, delay := none, pc := a.xvecOn.setWidth 25 } ∧
    (t.cp c).pf = s1.ramQueue c (a.xvecOn.toNat / 4) ∧ (t.cp c).resv = none ∧ (t.cp c).lock = 0 ∧ (t.cp c).run = (s1.cp c).run ∧
    (t.cp c).pendBits = (if x.int then setBitOf (s1.cp c).pendBits x.irq false else (s1.cp c).pendBits) ∧
    t.mem = s1.mem ∧ t.tags = s1.tags ∧ (∀ e, e ≠ c → t.cp e = s1.cp e)

/-- What each kind of cause enters with (R390, R400, R233): an exception at level 6 with DS and the branch as return point in a delay
slot, escalated to level 7 from level 6 or by RETURN_AUTH; an interrupt at its own priority; interrupt 8 of a queue with a fault to
deliver as VECTOR. -/
def Sys2Proof.Clauses.EntryLevels : Prop :=
  ∀ (s : State) (c : CpId) (code : Nat) (info : Word) (xpc n q : Nat),
    let a := (s.cp c).a
    let x : Cause := ⟨code, false, a.delay.isSome, 0, info, match a.delay with | some d => d.2.toNat | none => xpc⟩
    (a.xmask.toNat < 6 → code ≠ cReturn → s.raise c code info xpc = s.enter c x 6 false) ∧
    (a.xmask.toNat = 6 ∨ (a.xmask.toNat < 6 ∧ code = cReturn) → s.raise c code info xpc = s.enter c x 7 true) ∧
    (¬ (n = 8 ∧ a.vfi = true ∧ (s.cp c).vq.pend = true) →
      s.accept c n q xpc = s.enter c ⟨cInterrupt, true, false, n, 0, xpc⟩ q false) ∧
    (a.vfi = true → (s.cp c).vq.pend = true → s.accept c 8 q xpc =
      (s.modVq c (fun v => { v with pend := false })).enter c ⟨cVector, true, false, 8, (s.cp c).vq.finfo, xpc⟩ q false)

/-- A cause raised at level 7, or one whose frame cannot be stored, locks the CP up (R390, R392, R396). -/
def Sys2Proof.Clauses.LockupOnFault : Prop :=
  ∀ (s : State) (c : CpId) (code : Nat) (info : Word) (xpc : Nat),
    ((s.cp c).a.xmask = 7 → s.raise c code info xpc = s.lockup c 2 code) ∧
    (s.lockstepCl (clOf c) = false → (s.cp c).a.xmask.toNat < 7 → bitOf (s.cp c).a.xframe 4 = false →
      s.raise c code info xpc =
        (s.modCp c (fun p => { p.sync with stall := .none, vq := p.vq.close })).lockup c 1 code)

/-- Taking an exception (R387 to R393): what is saved and where, the mode and the handler, the levels, and lockup. -/
def Obligations.ExceptionEntryRules : Prop :=
  Sys2Proof.Clauses.ExceptionEntry ∧ Sys2Proof.Clauses.EntryLevels ∧ Sys2Proof.Clauses.LockupOnFault

/-! ### The bit space and the branches -/

/-- The bit instructions of one and two parcels: SETB, CLRB, TGLB and TSTB, and BAND, BOR, BXOR and BMOV, on the flags and status
bits that their ten bits reach (R89, R91, R93, R96). -/
def Sys2Proof.Clauses.BitFormResults : Prop :=
  ∀ (s f : State) (c0 c : CpId) (bit src : BitVec 10), f.bitFree c bit.toNat → f.bitFree c src.toNat →
    let x := (f.cp c).statusBit bit.toNat
    let y := (f.cp c).statusBit src.toNat
    let put (b : Bool) := f.writeBit c bit.toNat b
    (s.starts c0 c (iBit 0 bit) f → exec (.setb c0 bit) s = .next ((put true).ran c 1 id)) ∧
    (s.starts c0 c (iBit 1 bit) f → exec (.clrb c0 bit) s = .next ((put false).ran c 1 id)) ∧
    (s.starts c0 c (iBit 2 bit) f → exec (.tglb c0 bit) s = .next ((put (!x)).ran c 1 id)) ∧
    (s.starts c0 c (iBit 3 bit) f → exec (.tstb c0 bit) s = .next (f.ran c 1 (fun a => a.setFlag flT x))) ∧
    (s.starts c0 c (iBL 0x2C bit src) f → exec (.band c0 bit src) s = .next ((put (x && y)).ran c 2 id)) ∧
    (s.starts c0 c (iBL 0x2D bit src) f → exec (.bor c0 bit src) s = .next ((put (x || y)).ran c 2 id)) ∧
    (s.starts c0 c (iBL 0x2E bit src) f → exec (.bxor c0 bit src) s = .next ((put (x != y)).ran c 2 id)) ∧
    (s.starts c0 c (iBL 0x2F bit src) f → exec (.bmov c0 bit src) s = .next ((put y).ran c 2 id))

/-- The extended bit instructions, on any bit of the bit space: `x` and `y` are the bits as read, `put b` is the state with bit
`n` written, after the Lockstep compare that a bit of the bit-variable RAM undergoes (R88, R95, R518). -/
def Sys2Proof.Clauses.ExtendedBitResults : Prop :=
  ∀ (s f f1 f2 g : State) (c0 c : CpId) (d a : Reg) (imm : BitVec 32) (x y : Bool),
    let n := imm.toNat % 65536
    let m := imm.toNat / 65536
    let put (v : State) (k : Nat) (b : Bool) := (v.writeBit c k b).ran c 4 id
    (f.bitFree c n → (if 0x1000 ≤ n then f.passes c 3 n g else g = f) → ((g.writeBit c n true).cp c).calm →
      s.starts c0 c (iX 0x308 d a 0 imm [] []) f → exec (.setbx c0 d a 0 imm) s = .next (put g n true)) ∧
    (f.bitFree c n → (if 0x1000 ≤ n then f.passes c 3 n g else g = f) → ((g.writeBit c n false).cp c).calm →
      s.starts c0 c (iX 0x309 d a 0 imm [] []) f → exec (.clrbx c0 d a 0 imm) s = .next (put g n false)) ∧
    (f.bitFree c n → f.readBit c n = (some x, f1) → f1.bitFree c n → (if 0x1000 ≤ n then f1.passes c 3 n g else g = f1) →
      ((g.writeBit c n (!x)).cp c).calm →
      s.starts c0 c (iX 0x30A d a 0 imm [] []) f → exec (.tglbx c0 d a 0 imm) s = .next (put g n (!x))) ∧
    (f.bitFree c n → f.readBit c n = (some x, f1) → (f1.cp c).calm →
      s.starts c0 c (iX 0x30B d a 0 imm [] []) f →
      exec (.tstbx c0 d a 0 imm) s = .next (f1.ran c 4 (fun v => v.setFlag flT x))) ∧
    (f.bitFree c n → f.readBit c n = (some y, f1) → f1.bitFree c m → f1.readBit c m = (some x, f2) → f2.bitFree c m →
      (if 0x1000 ≤ m then f2.passes c 3 m g else g = f2) → (∀ b, ((g.writeBit c m b).cp c).calm) →
      (s.starts c0 c (iX 0x30C d a 0 imm [] []) f → exec (.bandx c0 d a 0 imm) s = .next (put g m (x && y))) ∧
      (s.starts c0 c (iX 0x30D d a 0 imm [] []) f → exec (.borx c0 d a 0 imm) s = .next (put g m (x || y))) ∧
      (s.starts c0 c (iX 0x30E d a 0 imm [] []) f → exec (.bxorx c0 d a 0 imm) s = .next (put g m (x != y)))) ∧
    (f.bitFree c n → f.readBit c n = (some y, f1) → f1.bitFree c m →
      (if 0x1000 ≤ m then f1.passes c 3 m g else g = f1) → ((g.writeBit c m y).cp c).calm →
      s.starts c0 c (iX 0x30F d a 0 imm [] []) f → exec (.bmovx c0 d a 0 imm) s = .next (put g m y))

/-- A write of a bit outside the bit-variable RAM sets that bit and no other, in no other CP; read-only and reserved addresses
ignore it (R88, R89). -/
def Sys2Proof.Clauses.StatusBitWrites : Prop :=
  ∀ (s : State) (c : CpId) (n k : Nat) (b : Bool), n < 0x1000 → k < 0x1000 →
    let t := s.writeBit c n b
    let writable := n < 8 ∨ (0x100 ≤ n ∧ n < 0x180) ∨ (0x200 ≤ n ∧ n < 0x400)
    (writable → (t.cp c).statusBit n = b) ∧ (¬ writable → t = s) ∧
    (k ≠ n → (t.cp c).statusBit k = (s.cp c).statusBit k) ∧ (∀ e, e ≠ c → t.cp e = s.cp e) ∧ t.mem = s.mem ∧ t.csr = s.csr

/-- A write of a bit of the bit-variable RAM by a CP in Split, with no error in its word and no injection armed, sets that bit and
no other (R88, R347). -/
def Sys2Proof.Clauses.BitRamWrites : Prop :=
  ∀ (s : State) (c : CpId) (n k : Nat) (b : Bool), 0x1000 ≤ n → 0x1000 ≤ k → s.lockstepCl (clOf c) = false →
    s.armed 0x04 c.val = false → (s.cp c).bitErr = [] →
    let t := s.writeBit c n b
    t.readBit c n = (some b, t) ∧ (k ≠ n → (t.readBit c k).1 = (s.readBit c k).1) ∧
    t = s.modCp c (fun p => { p with bitram := mapPut tagDefault p.bitram n b })

/-- The bit space (R88, R89, R91, R93, R95): each bit instruction completes with its result, and what a write of a bit does. -/
def Obligations.BitInstructionResults : Prop :=
  Sys2Proof.Clauses.BitFormResults ∧ Sys2Proof.Clauses.ExtendedBitResults ∧ Sys2Proof.Clauses.StatusBitWrites ∧ Sys2Proof.Clauses.BitRamWrites

/-- The branches that are always taken: BR, CALL, JR, CALLR, JMPA and CALLA; the calls put the return address in G15 (R93, R95). -/
def Sys2Proof.Clauses.BranchResults : Prop :=
  ∀ (s f : State) (c0 c : CpId) (disp : BitVec 20) (d a b : Reg) (imm : BitVec 32),
    let t := target (f.pc c) disp.toInt
    let r := (f.g c a).toNat % 0x1000000
    let link (dly : Bool) (len : Nat) := fun (x : CpArch) => x.setG 15 (f.returnTo c len dly)
    (s.starts c0 c (iBr 0x31 disp false false) f → exec (.br c0 disp) s = .next (f.ranTo c 2 t id)) ∧
    (s.starts c0 c (iBr 0x32 disp true false) f → exec (.brD c0 disp) s = .next (f.ranDelayed c 2 (some t) id)) ∧
    (s.starts c0 c (iBr 0x33 disp false true) f → exec (.call c0 disp) s = .next (f.ranTo c 2 t (link false 2))) ∧
    (s.starts c0 c (iBr 0x34 disp true true) f → exec (.callD c0 disp) s = .next (f.ranDelayed c 2 (some t) (link true 2))) ∧
    (s.starts c0 c (iJr 0 d a b) f → exec (.jr c0 d a b) s = .next (f.ranTo c 2 r id)) ∧
    (s.starts c0 c (iJr 1 d a b) f → exec (.jrD c0 d a b) s = .next (f.ranDelayed c 2 (some r) id)) ∧
    (s.starts c0 c (iJr 2 d a b) f → exec (.callr c0 d a b) s = .next (f.ranTo c 2 r (link false 2))) ∧
    (s.starts c0 c (iJr 3 d a b) f → exec (.callrD c0 d a b) s = .next (f.ranDelayed c 2 (some r) (link true 2))) ∧
    (imm.toNat < 0x1000000 →
      (s.starts c0 c (iXB 0x314 d a 0 imm false []) f → exec (.jmpa c0 d a 0 imm) s = .next (f.ranTo c 4 imm.toNat id)) ∧
      (s.starts c0 c (iXB 0x315 d a 0 imm false [15]) f →
        exec (.calla c0 d a 0 imm) s = .next (f.ranTo c 4 imm.toNat (link false 4))))

/-- The branches on a bit, in their forms of two and of four parcels: taken exactly when the bit is 0 (BBC) or 1 (BBS); a .D form
executes its slot either way (R93, R95, R101). -/
def Sys2Proof.Clauses.BitBranchResults : Prop :=
  ∀ (s f g : State) (c0 c : CpId) (bit disp : BitVec 10) (d a : Reg) (imm : BitVec 32) (y : Bool),
    (f.bitFree c bit.toNat →
      let x := (f.cp c).statusBit bit.toNat
      let t := target (f.pc c) disp.toInt
      (s.starts c0 c (iBB 0x3C bit disp) f → exec (.bbc c0 bit disp) s = .next (if x then f.ran c 2 id else f.ranTo c 2 t id)) ∧
      (s.starts c0 c (iBB 0x3D bit disp) f →
        exec (.bbcD c0 bit disp) s = .next (f.ranDelayed c 2 (if x then none else some t) id)) ∧
      (s.starts c0 c (iBB 0x3E bit disp) f → exec (.bbs c0 bit disp) s = .next (if x then f.ranTo c 2 t id else f.ran c 2 id)) ∧
      (s.starts c0 c (iBB 0x3F bit disp) f →
        exec (.bbsD c0 bit disp) s = .next (f.ranDelayed c 2 (if x then some t else none) id))) ∧
    (f.bitFree c (imm.toNat / 65536) → f.readBit c (imm.toNat / 65536) = (some y, g) → (g.cp c).calm →
      let t := target (f.pc c) (imm.setWidth 16).toInt
      (s.starts c0 c (iXB 0x310 d a 0 imm false []) f →
        exec (.bbcx c0 d a 0 imm) s = .next (if y then g.ran c 4 id else g.ranTo c 4 t id)) ∧
      (s.starts c0 c (iXB 0x311 d a 0 imm true []) f →
        exec (.bbcxD c0 d a 0 imm) s = .next (g.ranDelayed c 4 (if y then none else some t) id)) ∧
      (s.starts c0 c (iXB 0x312 d a 0 imm false []) f →
        exec (.bbsx c0 d a 0 imm) s = .next (if y then g.ranTo c 4 t id else g.ran c 4 id)) ∧
      (s.starts c0 c (iXB 0x313 d a 0 imm true []) f →
        exec (.bbsxD c0 d a 0 imm) s = .next (g.ranDelayed c 4 (if y then some t else none) id)))

/-- Branches (R101 to R104): each completes at its target or in sequence. -/
def Obligations.BranchAndBitBranchResults : Prop :=
  Sys2Proof.Clauses.BranchResults ∧ Sys2Proof.Clauses.BitBranchResults

/-- LOOP sets up LOOPCNT, LOOPBEG and LOOPEND and goes on with the body, or past it for a count of 0 (R102); TRAP enters the handler
with XCAUSE 3, its number in XINFO and XPC after it (R93, R388). -/
def Obligations.LoopAndTrapResults : Prop :=
  ∀ (s f : State) (c0 c : CpId) (d a b : Reg) (len : BitVec 16) (fn : BitVec 8),
    let beg := f.pc c + 2
    let fin := (beg + len.toNat) % 0x1000000
    let past := fin + (match f.parcel c fin with | some x => parcelLen x | none => 1)
    let setup := fun (x : CpArch) => { x with loopcnt := f.g c a, loopbeg := BitVec.ofNat 24 beg, loopend := BitVec.ofNat 24 fin }
    (s.starts c0 c (mkInsn 2 (enc2 0x30 (a.val * 2 ^ 16 + len.toNat)) true false [a.val] []) f →
      (f.g c a ≠ 0 → exec (.loopSetup c0 a len) s = .next (f.ran c 2 setup)) ∧
      (f.g c a = 0 → exec (.loopSetup c0 a len) s = .next (f.ranTo c 2 past setup))) ∧
    (s.starts c0 c (mkInsn 2 (enc2 0x36 (lowRRR d a b fn.toNat)) true false [] []) f →
      exec (.trap c0 d a b fn) s =
        .next ((f.raise c cTrap (fn.setWidth 64) (pcPlus (f.pc c) 2).toNat).boundary c))

/-! ### Loads and stores of the CP -/

/-- The loads (R83, R93, R105, R121, R157): the little-endian bytes found at cursor plus scaled offset, extended as the row says, go
to the register that the row names; LDL also sets the reservation on the 64-byte granule. -/
def Obligations.LoadResults : Prop :=
  ∀ (s f w : State) (c0 c : CpId) (d k : Reg) (off : BitVec 12) (bs : List Byte) (key : Nat),
    let at_ (size : Nat) : Int := (f.k c k).cursor + off.toInt * size
    let v := BitVec.ofNat 64 (leNat bs)
    (f.loads c k (at_ 1) 1 0 bs key w → s.starts c0 c (iMem 0x18 d k off) f →
      exec (.ldb c0 d k off) s = .next (w.ran c 2 (fun a => a.setG d v))) ∧
    (f.loads c k (at_ 4) 4 0 bs key w → s.starts c0 c (iMem 0x19 d k off) f →
      exec (.ldh c0 d k off) s = .next (w.ran c 2 (fun a => a.setG d v))) ∧
    (f.loads c k (at_ 4) 4 0 bs key w → s.starts c0 c (iMem 0x1A d k off) f →
      exec (.ldhs c0 d k off) s = .next (w.ran c 2 (fun a => a.setG d (BitVec.ofInt 64 (sextN 32 (leNat bs)))))) ∧
    (f.loads c k (at_ 8) 8 0 bs key w → s.starts c0 c (iMem 0x1B d k off) f →
      exec (.ldw c0 d k off) s = .next (w.ran c 2 (fun a => a.setG d v))) ∧
    (f.loads c k (at_ 8) 8 0 bs key w → s.starts c0 c (iMemF 0x1F d k off) f →
      exec (.ldf c0 d k off) s = .next (w.ran c 2 (fun a => { a with f := a.f.set d.val v (by omega) }))) ∧
    (f.loads c k (at_ 8) 8 0 bs key w → s.starts c0 c (iMem 0x23 d k off) f →
      exec (.ldl c0 d k off) s =
        .next ((w.modCp c (fun p => { p with resv := some (key / 64) })).ran c 2 (fun a => a.setG d v))) ∧
    (∀ (tag : Bool) (w2 : State), w.readTag (key / 16) = (tag, w2) → (tag = true → (w.k c k).has permLoadCap = true) →
      (w2.cp c).calm →
      (f.loads c k (at_ 16) 16 16 bs key w → s.starts c0 c (iMemK 0x21 d k off) f →
        exec (.ldk c0 d k off) s = .next ((w2.setK c d (w2.filterTag c (capOfBytes bs tag))).ran c 2 id)) ∧
      (f.loads c k (at_ 32) 32 32 bs key w → s.starts c0 c (iMemK 0x25 d k off) f →
        exec (.ldd c0 d k off) s =
          .next ((w2.setD c d (dregOf (w2.filterTag c (capOfBytes (bs.take 16) tag)) (leNat (bs.drop 16)))).ran c 2 id)))

/-- The stores (R84, R93, R105, R121, R157): the bytes of the register go to the translated places of cursor plus scaled offset,
the tags of the granules that they touch clear, and STK and STD then write the tag of the register. -/
def Sys2Proof.Clauses.StoreResults : Prop :=
  ∀ (s f g : State) (c0 c : CpId) (d k : Reg) (off : BitVec 12) (data : StoreData) (sp : List (Nat × Nat)),
    let at_ : Int := (f.k c k).cursor + off.toInt * data.size
    let t := (g.storeSpans c at_.toNat sp data.bytes)
    let tk := match data.tag with | some b => t.writeTag ((spanKeys sp).getD 0 0 / 16) b | none => t
    let seen (w : State) := w.watchAccess c true at_.toNat data.size
    ((seen tk).cp c).calm →
    (f.stores c .b d k at_ data sp g → s.starts c0 c (iMem 0x1C d k off) f → exec (.stb c0 d k off) s = .next ((seen t).ran c 2 id)) ∧
    (f.stores c .h d k at_ data sp g → s.starts c0 c (iMem 0x1D d k off) f → exec (.sth c0 d k off) s = .next ((seen t).ran c 2 id)) ∧
    (f.stores c .w d k at_ data sp g → s.starts c0 c (iMem 0x1E d k off) f → exec (.stw c0 d k off) s = .next ((seen t).ran c 2 id)) ∧
    (f.stores c .f d k at_ data sp g → s.starts c0 c (iMemF 0x20 d k off) f → exec (.stf c0 d k off) s = .next ((seen t).ran c 2 id)) ∧
    (f.stores c .k d k at_ data sp g → s.starts c0 c (iMemK 0x22 d k off) f → exec (.stk c0 d k off) s = .next ((seen tk).ran c 2 id)) ∧
    (f.stores c .d d k at_ data sp g → (∀ h, f.storeData c .d d = (some data, h) → h.k c k = f.k c k) →
      s.starts c0 c (iMemK 0x26 d k off) f → exec (.std c0 d k off) s = .next ((seen tk).ran c 2 id))

/-- What each store writes: the low byte, the low 32 bits or all of G, an F register, a K register with its tag, and a descriptor of
32 bytes (R93, R121, R157). -/
def Sys2Proof.Clauses.StoreDataRules : Prop :=
  ∀ (s : State) (c : CpId) (r : Reg),
    s.storeData c .b r = (some ⟨leBytes 1 (s.g c r).toNat, none, 1⟩, s) ∧
    s.storeData c .h r = (some ⟨leBytes 4 (s.g c r).toNat, none, 4⟩, s) ∧
    s.storeData c .w r = (some ⟨leBytes 8 (s.g c r).toNat, none, 8⟩, s) ∧
    s.storeData c .c r = (some ⟨leBytes 8 (s.g c r).toNat, none, 8⟩, s) ∧
    s.storeData c .f r = (some ⟨leBytes 8 (s.f c (f16 r)).toNat, none, 8⟩, s) ∧
    s.storeData c .k r = (some ⟨leBytes 16 (s.k c r).bits.toNat, some (s.k c r).tag, 16⟩, s) ∧
    ((s.d c r).err = Err.zero → s.storeData c .d r =
      (some ⟨leBytes 16 (s.d c r).cap.bits.toNat ++ leBytes 16 (s.d c r).high, some (s.d c r).cap.tag, 32⟩, s))

/-- Stores (R83, R84, R121, R122): each completes with its bytes in place, and what a store writes of each kind of data. -/
def Obligations.StoreInstructionResults : Prop :=
  Sys2Proof.Clauses.StoreResults ∧ Sys2Proof.Clauses.StoreDataRules

/-- STC (R105): with the reservation held on the granule that it addresses it stores and sets T to 1; otherwise it stores nothing and
sets T to 0; either way the reservation ends. -/
def Sys2Proof.Clauses.StoreConditional : Prop :=
  ∀ (s f g : State) (c0 c : CpId) (d k : Reg) (off : BitVec 12) (data : StoreData) (sp : List (Nat × Nat)),
    let at_ : Int := (f.k c k).cursor + off.toInt * data.size
    let granule := (spanKeys sp).getD 0 0 / 64
    s.starts c0 c (iMem 0x24 d k off) f → f.stores c .c d k at_ data sp g →
    ((g.cp c).resv ≠ some granule →
      let w := (g.modCp c (fun p => { p with resv := none, a := p.a.setFlag flT false })).watchAccess c false at_.toNat 8
      (w.cp c).calm → exec (.stc c0 d k off) s = .next (w.ran c 2 id)) ∧
    ((g.cp c).resv = some granule →
      let w := ((g.storeSpans c at_.toNat sp data.bytes).modCp c (fun p =>
        { p with resv := none, a := p.a.setFlag flT true })).watchAccess c true at_.toNat 8
      (w.cp c).calm → exec (.stc c0 d k off) s = .next (w.ran c 2 id))

/-- A store that waited for earlier vector work is carried out once that work is done, and only then (R218). -/
def Sys2Proof.Clauses.StoreRelease : Prop :=
  ∀ (s : State) (c0 c : CpId) (kind : StoreKind) (r k : Reg) (off : BitVec 12) (mask : Word),
    s.lead c0 = c →
    ((s.cp c).stall = .store kind r k off mask → (s.cp c).run = .running →
      let f := s.modCp c (fun p => { p with stall := .none })
      exec (.storeRelease c0) s =
        .next (f.finish c (iHeld (if kind = .v then 4 else 2)) (doStore kind r k off mask f c))) ∧
    ((∀ kind r k off mask, (s.cp c).stall ≠ .store kind r k off mask) → exec (.storeRelease c0) s = .next s) ∧
    ((s.cp c).stall = .store kind r k off mask → (s.cp c).run = .running → mask = BitVec.allOnes 64 → kind ≠ .c →
      ∀ (data : StoreData) (sp : List (Nat × Nat)) (g : State),
      let f := s.modCp c (fun p => { p with stall := .none })
      let at_ : Int := memAddr (f.k c k) off data.size
      f.stores c kind r k at_ data sp g → (∀ h, f.storeData c kind r = (some data, h) → h.k c k = f.k c k) →
      let t := g.storeSpans c at_.toNat sp data.bytes
      let w := (match data.tag with | some b => t.writeTag ((spanKeys sp).getD 0 0 / 16) b | none => t).watchAccess c true at_.toNat data.size
      (w.cp c).calm → exec (.storeRelease c0) s = .next (w.ran c (if kind = .v then 4 else 2) id))

/-- Load-reserve, store-conditional and store-release (R105, R106): each completes as its rule says. -/
def Obligations.ConditionalStoreResults : Prop :=
  Sys2Proof.Clauses.StoreConditional ∧ Sys2Proof.Clauses.StoreRelease

/-- An access whose K register fails a check raises CAP_FAULT with the subcode of the first check that fails, and neither loads nor
stores (R122, R124). -/
def Obligations.CapabilityChecks : Prop :=
  ∀ (k : Cap) (perms : List Nat) (addr : Int) (n align : Nat),
    (k.check perms addr n align = some 1 ↔ k.tag = false) ∧
    (k.tag = true → (k.check perms addr n align = some 2 ↔ k.otype ≠ 0)) ∧
    (k.tag = true → k.otype = 0 → (k.check perms addr n align = some 3 ↔ ∃ p ∈ perms, k.has p = false)) ∧
    (k.tag = true → k.otype = 0 → (∀ p ∈ perms, k.has p = true) →
      (k.check perms addr n align = some 4 ↔ addr < k.base ∨ (k.top : Int) < addr + n)) ∧
    (k.tag = true → k.otype = 0 → (∀ p ∈ perms, k.has p = true) → (k.base : Int) ≤ addr → addr + n ≤ k.top →
      (k.check perms addr n align = some 6 ↔ align ≠ 0 ∧ addr % align ≠ 0) ∧
      (k.check perms addr n align = none ↔ align = 0 ∨ addr % align = 0)) ∧
    (∀ (s f : State) (c0 c : CpId) (d kr : Reg) (off : BitVec 12) (sub : Nat),
      s.starts c0 c (iMem 0x1B d kr off) f → (f.k c kr).check [permR] (memAddr (f.k c kr) off 8) 8 0 = some sub →
      exec (.ldw c0 d kr off) s = .next (f.trapped c cCap
        (capInfo (faultByte (f.k c kr) (memAddr (f.k c kr) off 8) sub) sub kr.val)))

/-- Bytes written to an array are read back, and every other byte of memory is as before (R9, R84). -/
def Sys2Proof.Clauses.PlainBytesReadBack : Prop :=
  ∀ (s : State) (key : Nat) (bs : List Byte),
    let t := State.putBytes bs key s
    (List.range bs.length).map (fun i => t.rawByte (key + i)) = bs ∧
    (∀ k, k < key ∨ key + bs.length ≤ k → t.rawByte k = s.rawByte k) ∧ (mapWf memDefault s.mem = true → mapWf memDefault t.mem = true) ∧
    { t with mem := s.mem } = s

/-- A number and its bytes, lowest first (R9). -/
def Sys2Proof.Clauses.LittleEndian : Prop :=
  ∀ (n v : Nat), (leBytes n v).length = n ∧ leNat (leBytes n v) = v % 256 ^ n ∧
    ∀ i < n, ((leBytes n v)[i]?).map BitVec.toNat = some (v / 256 ^ i % 256)

/-- A store of one span on memory without check errors and with no injection armed: the bytes read back as stored, the tags of the
granules that it touches are clear, and every other byte and every other tag is as before (R84, R121). -/
def Sys2Proof.Clauses.StoreFrame : Prop :=
  ∀ (s : State) (c : CpId) (va key : Nat) (bs : List Byte), bs ≠ [] → mapWf memDefault s.mem = true → mapWf tagDefault s.tags = true →
    s.errs = [] → s.rdB INJ_STAT.ARMED = false → s.lockstepCl (clOf c) = false →
    let t := s.storeSpans c va [(key, bs.length)] bs
    t.bytesAt key bs.length = bs ∧ (∀ k, k < key ∨ key + bs.length ≤ k → t.byteAt k = s.byteAt k) ∧
    (∀ g, t.tagAt g = if key / 16 ≤ g ∧ g ≤ (key + bs.length - 1) / 16 then false else s.tagAt g)

/-- A load of one span with the data cache off, on memory without check errors, with no injection armed and no poisoned flit, gives
the bytes that memory holds and changes neither memory nor tags (R84). -/
def Sys2Proof.Clauses.LoadFrame : Prop :=
  ∀ (s : State) (c : CpId) (va key n : Nat), (s.cp c).a.dce = false → s.errs = [] → s.rdB INJ_STAT.ARMED = false →
    s.mesh.bad = [] →
    let r := s.loadSpans c va [(key, n)]
    r.1 = .ok (s.bytesAt key n) ∧ r.2.mem = s.mem ∧ r.2.tags = s.tags ∧ r.2.errs = [] ∧ (∀ e, r.2.cp e = s.cp e)

/-- Memory (R83, R84, R121): bytes written read back, the byte order, and what a store and a load leave unchanged. -/
def Obligations.MemoryReadBackAndFrames : Prop :=
  Sys2Proof.Clauses.PlainBytesReadBack ∧ Sys2Proof.Clauses.LittleEndian ∧ Sys2Proof.Clauses.StoreFrame ∧ Sys2Proof.Clauses.LoadFrame

/-! ### Capabilities, the heap and the control registers -/

/-- The capability operations that make no access (R117, R125, R126): each gives its result in K[d] or G[d] where the checks that its
row names pass. -/
def Obligations.CapabilityResults : Prop :=
  ∀ (s f : State) (c0 c : CpId) (d a b : Reg),
    let k := f.k c a
    let kb := f.k c b
    let toK (v : Cap) := Host.Outcome.next (f.ran c 2 (fun x => { x with k := x.k.set d.val v }))
    let toG (n : Nat) := Host.Outcome.next (f.ran c 2 (fun x => x.setG d (BitVec.ofNat 64 n)))
    (s.starts c0 c (iCap 0x00 d a b []) f → exec (.kmov c0 d a b) s = toK k) ∧
    (¬ (k.tag = true ∧ k.otype ≠ 0) →
      (s.starts c0 c (iCap 0x01 d a b [b.val]) f → exec (.kadd c0 d a b) s = toK (k.move ((k.cursor : Int) + (f.g c b).toInt))) ∧
      (s.starts c0 c (iCap 0x03 d a b [b.val]) f →
        exec (.kmask c0 d a b) s = toK (k.withPerms (k.perms &&& (f.g c b).setWidth 16).toNat)) ∧
      (kb.sealCheck permSeal = none → s.starts c0 c (iCap 0x04 d a b []) f →
        exec (.klock c0 d a b) s = toK (k.withType kb.cursor k.tag)) ∧
      (∀ e base top, tightBounds k.cursor (f.g c b).toNat = some (e, base, top) →
        ¬ (k.tag = true ∧ (base < k.base ∨ k.top < top)) → s.starts c0 c (iCap 0x02 d a b [b.val]) f →
        exec (.kbnd c0 d a b) s = toK (k.bound e base top k.tag)) ∧
      (tightBounds k.cursor (f.g c b).toNat = none → k.tag = false → s.starts c0 c (iCap 0x02 d a b [b.val]) f →
        exec (.kbnd c0 d a b) s = toK k)) ∧
    (kb.sealCheck permUnseal = none → kb.cursor = k.otype → k.otype < hwType → s.starts c0 c (iCap 0x05 d a b []) f →
      exec (.kopen c0 d a b) s = toK (if kb.has permGlobal then k.withType 0 k.tag
        else (k.withType 0 k.tag).withPerms (setBitOf (k.withType 0 k.tag).perms permGlobal false).toNat)) ∧
    (s.starts c0 c (iCap 0x06 d a b [d.val]) f → exec (.krdc c0 d a b) s = toG k.cursor) ∧
    (s.starts c0 c (iCap 0x07 d a b [d.val]) f → exec (.krdb c0 d a b) s = toG k.base) ∧
    (s.starts c0 c (iCap 0x08 d a b [d.val]) f → exec (.krdl c0 d a b) s = toG (k.top - k.base)) ∧
    (s.starts c0 c (iCap 0x09 d a b [d.val]) f → exec (.krdp c0 d a b) s = toG k.perms.toNat) ∧
    (s.starts c0 c (iCap 0x0A d a b [d.val]) f → exec (.krdt c0 d a b) s = toG k.otype) ∧
    (s.starts c0 c (iCap 0x0B d a b [d.val]) f → exec (.krdv c0 d a b) s = toG (b2n k.tag)) ∧
    (s.starts c0 c (iCap 0x0E d a b []) f → exec (.kpcc c0 d a b) s = toK ((f.cp c).a.pccAt (f.pc c))) ∧
    (s.starts c0 c (iCap 0x0F d a b []) f → exec (.kdrop c0 d a b) s = toK { k with tag := false })

/-- No capability operation makes rights: KADD, KMASK, KBND, KLOCK, KOPEN and KDROP leave a capability untagged that was untagged, and
their result has no permission that K[a] lacks; KBND stays inside the bounds of a tagged K[a] (R116, R117, R125). -/
def Sys2Proof.Clauses.NoRightsFromNothing : Prop :=
  ∀ (k : Cap) (x : Int) (m t : Nat) (e base top : Nat),
    (k.tag = false → (k.move x).tag = false ∧ (k.withPerms m).tag = false ∧ (k.withType t k.tag).tag = false ∧
      (k.bound e base top k.tag).tag = false) ∧
    (k.withPerms (k.perms &&& BitVec.ofNat 16 m).toNat).perms &&& ~~~k.perms = 0 ∧
    (k.move x).perms = k.perms ∧ (k.move x).otype = k.otype ∧ (k.withType t k.tag).perms = k.perms ∧
    (k.bound e base top k.tag).perms &&& ~~~k.perms = 0 ∧
    (t < 2 ^ 18 → (k.withType t k.tag).otype = t) ∧ (k.withPerms m).cursor = k.cursor ∧ (k.bound e base top k.tag).cursor = k.cursor

/-- KBND (R117): the bounds that it gives are the range asked for, rounded outward to its exponent, with at most 65,535 units and with the
base, the last byte and the cursor in one block; and no smaller exponent gives such bounds. -/
def Sys2Proof.Clauses.TightestBounds : Prop :=
  ∀ (cursor len e base top : Nat), tightBounds cursor len = some (e, base, top) →
    let lo (x : Nat) := cursor / 2 ^ x * 2 ^ x
    let hi (x : Nat) := (cursor + len + 2 ^ x - 1) / 2 ^ x * 2 ^ x
    let fits (x : Nat) : Prop := hi x - lo x ≤ 65535 * 2 ^ x ∧ 0 < hi x ∧ lo x / 2 ^ (x + 16) = (hi x - 1) / 2 ^ (x + 16)
    base ≤ cursor ∧ cursor < base + 2 ^ e ∧ cursor + len ≤ top ∧ top < cursor + len + 2 ^ e ∧ base % 2 ^ e = 0 ∧ top % 2 ^ e = 0 ∧
    e < 42 ∧ fits e ∧ cursor / 2 ^ (e + 16) = base / 2 ^ (e + 16) ∧ ∀ x < e, ¬ fits x

/-- Capabilities (R114 to R120): no instruction gives rights that its source lacks, and bounds are the tightest that can be
encoded. -/
def Obligations.DerivedCapabilityRights : Prop :=
  Sys2Proof.Clauses.NoRightsFromNothing ∧ Sys2Proof.Clauses.TightestBounds

/-- CALLOC and CFREE (R138, R139): CALLOC takes the range that the heap gives and returns it as a tagged capability with exact bounds
and the permissions of the authority, and counts it; CFREE with nothing outstanding gives the range back and clears the tag of K[a]. -/
def Sys2Proof.Clauses.HeapResults : Prop :=
  ∀ (s f : State) (c0 c : CpId) (d a b : Reg),
    let p := (f.cpPart c).getD 0
    let kb := f.k c b
    let n := ((f.g c a).toNat + 65535) / 65536 * 65536
    (∀ (base : Nat) (x : Part) (k : Cap), kb.tag = true → kb.otype = 0 → kb.has permAlloc = true → f.g c a ≠ 0 →
      (f.g c a).toNat ≤ 2 ^ 40 → (f.part p).heapTake (f.heapWin p) n = some (base, x) → kb.base ≤ base → base + n ≤ kb.top →
      regionCap base n kb.perms.toNat = some k → s.starts c0 c (iCap 0x0C d a b [a.val]) f →
      exec (.calloc c0 d a b) s =
        .next ((((f.modPart p (fun _ => x)).cnt (ALLOC_STAT.LIVE p) 1)).ran c 2 (fun v => { v with k := v.k.set d.val k }))) ∧
    (let ka := f.k c a
     let w := f.cfree p ka.base ka.top
     ka.tag = true → ka.otype = 0 → ka.has permAlloc = true → (f.heapWin p).1 ≤ ka.base → ka.top ≤ (f.heapWin p).2 →
      (f.part p).inQuarantine (ka.base, ka.top - ka.base) = false → (f.cp c).vq.entries = [] → (f.cp c).vq.pend = false →
      (f.part p).qFull = false → (w.cp c).calm →
      (s.starts c0 c (iCap 0x0D d a b []) f →
        exec (.cfree c0 d a b) s = .next (w.ran c 2 (fun v => { v with k := v.k.set a.val { (w.k c a) with tag := false } }))) ∧
      (s.lead c0 = c → (s.cp c).stall = .cfree a → (s.cp c).run = .running → f = s.modCp c (fun q => { q with stall := .none }) →
        exec (.cfreeResume c0) s = .next (w.ran c 2 (fun v => { v with k := v.k.set a.val { (w.k c a) with tag := false } })))) ∧
    (s.lead c0 = c → (∀ r, (s.cp c).stall ≠ .cfree r) → exec (.cfreeResume c0) s = .next s)

/-- A heap request that is granted lies inside the heap window, aligned as its exponent asks, clear of the fixed windows, and comes
whole from the bump pointer on or from one range given back (R138, R82, R339). -/
def Sys2Proof.Clauses.HeapRangePlaced : Prop :=
  ∀ (x y : Part) (win : Nat × Nat) (n base : Nat), 0 < n → x.heapTake win n = some (base, y) →
    win.1 ≤ base ∧ base + n ≤ win.2 ∧ (∃ e, exactExp n = some e ∧ base % 2 ^ e = 0) ∧
    (∀ w ∈ fixedWindows, base + n ≤ w.1 ∨ w.1 + w.2 ≤ base) ∧
    (x.bump ≤ base ∨ ∃ r ∈ x.reuse, r.1 ≤ base ∧ base + n ≤ r.1 + r.2)

/-- CALLOC and CFREE (R138, R139, R153): results, and where a range is placed. -/
def Obligations.HeapAllocationResults : Prop :=
  Sys2Proof.Clauses.HeapResults ∧ Sys2Proof.Clauses.HeapRangePlaced

/-- MOVC and MOVCR on every control register that the CP lists (R74): the write has the effect of that register, the read gives its
value; without SYSTEM, a register that R74 marks raises SYSTEM_REQUIRED (R389). -/
def Sys2Proof.Clauses.ControlRegisterResults : Prop :=
  ∀ (s f : State) (c0 c : CpId) (g : Reg) (num : BitVec 8), crListed num.toNat = true →
    ((crSystem num.toNat = true → (f.cp c).a.sys = true) →
      (s.starts c0 c (iCreg 0x29 g num 0) f →
        exec (.movc c0 g num 0) s = .next ((f.crWrite c (f.cp c).a.sys num.toNat (f.g c g)).ran c 2 id)) ∧
      (num ≠ 0x0B → s.starts c0 c (iCreg 0x2A g num 0) f →
        exec (.movcr c0 g num 0) s = .next (f.ran c 2 (fun a => a.setG g (f.crRead c num.toNat)))) ∧
      (num = 0x0B → (f.cp c).vq.pend = false → s.starts c0 c (iCreg 0x2A g num 0) f →
        let v := f.modVq c VQueue.close
        exec (.movcr c0 g num 0) s = .next (v.ran c 2 (fun a => a.setG g (v.vstat c))))) ∧
    (crSystem num.toNat = true → (f.cp c).a.sys = false →
      (s.starts c0 c (iCreg 0x29 g num 0) f →
        exec (.movc c0 g num 0) s = .next (f.trapped c cSystem (BitVec.ofNat 64 (num.toNat + 2 ^ 32)))) ∧
      (s.starts c0 c (iCreg 0x2A g num 0) f →
        exec (.movcr c0 g num 0) s = .next (f.trapped c cSystem (BitVec.ofNat 64 (num.toNat + 2 ^ 32)))))

/-- A control register keeps what MOVC wrote, in the bits that it has (R74): XVEC 24, XINFO and LOOPCNT 64, XFRAME 5, XMASK 3, VL 40,
NCY 16, LOOPBEG and LOOPEND 24 bits, and MODE with SYSTEM 7 bits; without SYSTEM only CT and VFI of MODE change (R75). -/
def Sys2Proof.Clauses.ControlRegistersReadBack : Prop :=
  ∀ (s : State) (c : CpId) (v : Word),
    let back (sys : Bool) (n : Nat) := (s.crWrite c sys n v).crRead c n
    (∀ sys, back sys 1 = (v.setWidth 24).setWidth 64 ∧ back sys 4 = v ∧ back sys 5 = (v.setWidth 5).setWidth 64 ∧
      back sys 6 = (v.setWidth 3).setWidth 64 ∧ back sys 8 = (v.setWidth 40).setWidth 64 ∧
      back sys 0x10 = (v.setWidth 16).setWidth 64 ∧ back sys 0x11 = v ∧ back sys 0x12 = (v.setWidth 24).setWidth 64 ∧
      back sys 0x13 = (v.setWidth 24).setWidth 64) ∧
    back true 0 = (modeRead (v.setWidth 7)).setWidth 64 ∧
    back false 0 = (modeRead (((s.cp c).a.mode &&& 0x7C) ||| (v.setWidth 7 &&& 3))).setWidth 64 ∧
    (∀ sys n e, e ≠ c → (s.crWrite c sys n v).cp e = s.cp e) ∧
    (∀ sys n, (s.crWrite c sys n v).mem = s.mem ∧ ((s.crWrite c sys n v).cp c).a.g = (s.cp c).a.g ∧
      ((s.crWrite c sys n v).cp c).a.k = (s.cp c).a.k ∧ ((s.crWrite c sys n v).cp c).a.flags = (s.cp c).a.flags)

/-- Control registers (R74 to R76, R385, R386): the results of MFC and MTC, and what reads back. -/
def Obligations.ControlRegisterAccess : Prop :=
  Sys2Proof.Clauses.ControlRegisterResults ∧ Sys2Proof.Clauses.ControlRegistersReadBack

/-! ### Synchronisation, interrupts, timers and ports -/

/-- SYNCC, VSYNC, CHKPT, WAIT and LOCK (R106, R107, R108, R402, R519): pending register writes take effect; a VSYNC with nothing
outstanding completes and one with work outstanding waits; CHKPT does nothing in Split; a WAIT completes and issue stops until an
enabled interrupt is pending; LOCK opens a window of n + 1 further instructions, and raises ILLEGAL inside one. -/
def Sys2Proof.Clauses.SynchronisationResults : Prop :=
  ∀ (s f : State) (c0 c : CpId) (n : Fin 4),
    (s.starts c0 c (iCtl 0x01 false) f → ¬ ((f.cp c).sync.a.vfi = true ∧ (f.cp c).vq.pend = true) →
      exec (.syncc c0) s = .next ((f.modCp c Cp.sync).ran c 1 id)) ∧
    (s.starts c0 c (iCtl 0x01 false) f → f.lead c = c → (f.cp c).sync.a.vfi = true → (f.cp c).vq.pend = true →
      exec (.syncc c0) s = .next (((f.modCp c Cp.sync).irq c 8).ran c 1 id)) ∧
    (s.starts c0 c (iCtl 0x02 false) f → (f.cp c).vq.entries = [] → (f.cp c).vq.pend = false →
      exec (.vsync c0) s = .next ((f.modCp c Cp.vsynced).ran c 1 id)) ∧
    (s.starts c0 c (iCtl 0x02 false) f → (f.cp c).vq.entries ≠ [] → (f.cp c).vq.pend = false →
      exec (.vsync c0) s = .next (f.modCp c (fun p => { p with vq := p.vq.close, stall := .vsync }))) ∧
    (s.starts c0 c (iCtl 0x04 false) f → f.lockstepCl (clOf c) = false → exec (.chkpt c0) s = .next (f.ran c 1 id)) ∧
    (s.starts c0 c (iCtl 0x05 false) f → (f.cp c).anyIrq = true → exec (.waitIrq c0) s = .next (f.ran c 1 id)) ∧
    (s.starts c0 c (iCtl 0x05 false) f → (f.cp c).anyIrq = false → (f.cp c).run = .running →
      exec (.waitIrq c0) s = .next ((f.ran c 1 id).modCp c (fun p => { p with stall := .wait }))) ∧
    (s.starts c0 c (iCtl (0x10 + n.val) true) f → (f.cp c).lock = 0 →
      exec (.lock c0 n) s = .next ((f.modCp c (fun p => { p with lock := n.val + 2 })).ran c 1 id)) ∧
    (s.starts c0 c (iCtl (0x10 + n.val) true) f → (f.cp c).lock ≠ 0 →
      exec (.lock c0 n) s = .next (f.trapped c cIllegal (iCtl (0x10 + n.val) true).info))

/-- The ends of the waits of a CP (R108, R203, R402, R106): VSYNC completes once its queue is empty, an instruction that waits for a
register goes on once its vector work is done, a WAIT ends on a pending enabled interrupt, which is taken if it is acceptable, and a
LOCK window that has timed out closes. A CP in another wait is left as it is. -/
def Sys2Proof.Clauses.WaitEnds : Prop :=
  ∀ (s : State) (c0 c : CpId), s.lead c0 = c →
    let f := s.modCp c (fun p => { p with stall := .none })
    ((s.cp c).stall = .vsync → (s.cp c).run = .running → (s.cp c).vq.entries = [] → (s.cp c).vq.pend = false → (s.cp c).calm →
      exec (.vsyncComplete c0) s = .next ((f.modCp c Cp.vsynced).ran c 1 id)) ∧
    ((s.cp c).stall ≠ .vsync → exec (.vsyncComplete c0) s = .next s) ∧
    ((s.cp c).stall = .vector → (s.cp c).run = .running → (s.cp c).vq.pend = false → exec (.cpWaitOnVectorEnd c0) s = .next f) ∧
    ((s.cp c).stall ≠ .vector → exec (.cpWaitOnVectorEnd c0) s = .next s) ∧
    ((s.cp c).stall = .wait → (s.cp c).run = .running → (s.cp c).anyIrq = true →
      (f.irqBefore c = none → exec (.waitEnd c0) s = .next f) ∧
      (∀ n q, f.irqBefore c = some (n, q) → exec (.waitEnd c0) s = .next ((f.accept c n q (s.pc c)).boundary c))) ∧
    ((s.cp c).stall ≠ .wait ∨ (s.cp c).anyIrq = false → exec (.waitEnd c0) s = .next s) ∧
    ((s.cp c).calm → exec (.lockWindowTimeout c0) s = .next (s.modCp c (fun p => { p with lock := 0 })))

/-- Barriers, SYNC instructions and WAIT (R105 to R110): each completes, and what ends a wait. -/
def Obligations.SynchronisationAndWaitResults : Prop :=
  Sys2Proof.Clauses.SynchronisationResults ∧ Sys2Proof.Clauses.WaitEnds

/-- RETX (R394): with a frame that passes every check it restores the saved registers and G14 and G15, the program capability and the
frame register, spends the seal word, and goes on at XPC; a frame register that fails its checks escalates as RETURN_AUTH with
subcode 1. -/
def Obligations.ReturnFromException : Prop :=
  ∀ (s f g h w v : State) (c0 c : CpId) (sp sp2 : List (Nat × Nat)) (bs : List Byte) (b0 b1 : Bool) (t0 t1 : State),
    let a := (f.cp c).a
    let fk := frameReg a
    let k := a.k[fk.val]
    let fr := k.cursor
    let keys := spanKeys sp
    let bad := !bitOf a.xframeOn 4 || !k.tag || k.otype != 0 || !k.has permR || !k.has permW || !k.has permLoadCap ||
      decide (fr < k.base) || decide (k.top < fr + 128)
    s.starts c0 c (iCtl 0x03 true) f →
    (bad = true → exec (.retx c0) s = .next (f.trapped c cReturn (BitVec.ofNat 64 (1 + fr % 2 ^ 56 * 16)))) ∧
    (bad = false → f.spans (f.cpAccess c fk.val k false) fr 128 = (.ok sp, g) → g.loadSpans c fr sp = (.ok bs, h) →
      (if fr % 16 = 0 then h.readTag (keys.getD 0 0 / 16) else (false, h)) = (b0, t0) →
      (if fr % 16 = 0 then t0.readTag (keys.getD 16 0 / 16) else (false, t0)) = (b1, t1) →
      let sw := capOfBytes (bs.take 16) b0
      let p := t1.filterTag c (capOfBytes ((bs.drop 16).take 16) b1)
      sw.tag = true → sw.otype = 0x3FFFF → sw.base = fr → sw.top = fr + 128 → pccCheck p a.pcc = none →
      t1.spans (t1.cpAccess c fk.val k true) fr 16 = (.ok sp2, w) → w.passes c 4 a.xpc.toNat v →
      let u := (((v.undoLog c sp).writeTag (keys.getD 0 0 / 16) false).dropResv (keys.getD 0 0) 16)
      (u.cp c).calm →
      exec (.retx c0) s = .next (u.ranTo c 1 a.xpc.toNat (fun x =>
        let r := x.restore bs
        { r with pcc := p, k := vecUpd r.k fk (fun k => k.at (fr + 128)) })))

/-- Interrupts at a boundary (R400, R393): the acceptable interrupt of highest priority is accepted, with the CP's address as return
point; within the window of an entry a higher one takes the entry over, the first stays pending and no second frame is written. -/
def Sys2Proof.Clauses.InterruptResults : Prop :=
  ∀ (s : State) (c0 c : CpId) (n q : Nat), s.lead c0 = c →
    (s.cpsGo = true → (s.cp c).run = .running → (s.cp c).stall.takesIrq = true →
      (s.irqBefore c = some (n, q) → exec (.interruptAccept c0) s = .next ((s.accept c n q (s.pc c)).boundary c)) ∧
      (s.irqBefore c = none → exec (.interruptAccept c0) s = .next s)) ∧
    (∀ w : EntryWin, (s.cp c).entryWin = some w → (s.cp c).topIrq (s.cp c).a.xmask.toNat = some (n, q) → n < 256 →
      n ≠ w.irq.toNat → ¬ (n = 8 ∧ (s.cp c).a.vfi = true ∧ (s.cp c).vq.pend = true) →
      ∃ t, exec (.entryTakeover c0) s = .next t ∧ bitOf (t.cp c).pendBits n = false ∧ bitOf (t.cp c).pendBits w.irq.toNat = true ∧
        (t.cp c).a = { (s.cp c).a with
          xcause := xcauseOf cInterrupt true false false n, xinfo := 0, xmask := BitVec.ofNat 3 q } ∧
        t.mem = s.mem ∧ (∀ e, e ≠ c → t.cp e = s.cp e)) ∧
    ((s.cp c).entryWin = none → exec (.entryTakeover c0) s = .next s)

/-- The interrupt that R400 accepts: pending, enabled, above the level, of the highest priority and, among those, the lowest number. -/
def Sys2Proof.Clauses.HighestPriorityInterrupt : Prop :=
  ∀ (p : Cp) (level n q : Nat), p.topIrq level = some (n, q) →
    n < 256 ∧ bitOf p.pendBits n = true ∧ bitOf p.enabBits n = true ∧ level < q ∧ q = p.prio n ∧
    (∀ m < 256, bitOf p.pendBits m = true → bitOf p.enabBits m = true → level < p.prio m → p.prio m < q ∨ (p.prio m = q ∧ n ≤ m))

/-- Interrupts (R399 to R402): what becomes pending, and which is taken first. -/
def Obligations.InterruptDeliveryResults : Prop :=
  Sys2Proof.Clauses.InterruptResults ∧ Sys2Proof.Clauses.HighestPriorityInterrupt

/-- Release, reset and doorbells of a CP (R78, R397, R405): RESET restarts a CP that is not held in reset and leaves one that is; the
registers of a released CP are those of R78; a doorbell sets the pending bits that it names and no other. -/
def Sys2Proof.Clauses.CpResetResults : Prop :=
  ∀ (s : State) (c0 c : CpId) (ring : BitVec 4) (r : PartRec), s.lead c0 = c →
    ((s.cp c).run = .inReset → exec (.cpReset c0) s = .next s) ∧
    ((s.cp c).run ≠ .inReset → exec (.cpReset c0) s = .next (s.releaseCp c0)) ∧
    (let a := CpArch.release r
     (∀ i : Reg, a.g[i.val] = 0) ∧ (∀ i : Fin 64, a.f[i.val] = 0) ∧ (∀ i : Reg, 3 ≤ i.val → a.k[i.val] = Cap.null) ∧
     a.k[0] = rootData r ∧ a.k[1] = rootSeal ∧ a.k[2] = rootProg r ∧ a.pcc = rootPcc ∧ a.pc.toNat = r.entry.toNat ∧ a.flags = 0 ∧
     a.xmask = 0 ∧ a.vl = 0) ∧
    (∃ t, exec (.cpDoorbell c0 ring) s = .next t ∧
      (∀ j < 4, bitOf (t.cp c).pendBits (12 + j) = (bitOf (s.cp c).pendBits (12 + j) || bitOf ring j)) ∧
      (∀ m, m < 12 ∨ 16 ≤ m → bitOf (t.cp c).pendBits m = bitOf (s.cp c).pendBits m) ∧ (t.cp c).a = (s.cp c).a ∧
      (∀ e, e ≠ c → t.cp e = s.cp e) ∧ t.mem = s.mem ∧ t.csr = s.csr)

/-- The timers and the CP watchdog (R87, R403, R404): a timer that runs and matches sets HIT, goes on from 0 if it is periodic and raises
its interrupt and its line; a kick with the key reloads the count, any other key expires the watchdog; a locked watchdog ignores its
control register; the warning raises interrupt 0, and the expiry restarts the CP or locks it up. -/
def Sys2Proof.Clauses.TimerAndWatchdogResults : Prop :=
  ∀ (s : State) (c0 c : CpId) (n : Fin 4) (v : BitVec 3) (key : BitVec 16), s.lead c0 = c →
    let w := (s.cp c).wdg
    let load : BitVec 32 := if w.load = 0 then 1 else w.load
    ((s.cp c).timers[n.val].en = true → (s.cp c).run ≠ .halted → exec (.timerMatch c0 n) s =
      .next (((s.modCp c (fun p => { p with timers := vecUpd p.timers n (fun t =>
        { t with hit := true, cnt := if t.periodic then 0 else t.cmp + 1 }) })).irq c (2 + n.val)).fire (4 * c.val + n.val))) ∧
    ((s.cp c).timers[n.val].en = false → exec (.timerMatch c0 n) s = .next s) ∧
    (w.lock = true → exec (.wdgCtlWrite c0 v) s = .next s) ∧
    (w.lock = false → exec (.wdgCtlWrite c0 v) s = .next (s.modCp c (fun p => { p with wdg :=
      { p.wdg with en := bitOf v 0, action := bitOf v 1, lock := bitOf v 2, cnt := if bitOf v 0 then load else p.wdg.cnt } }))) ∧
    exec (.wdgKick c0 0x4B1C) s = .next (s.modCp c (fun p => { p with wdg := { p.wdg with cnt := load } })) ∧
    (key ≠ 0x4B1C → exec (.wdgKick c0 key) s = .next (s.wdgExpire c)) ∧
    (w.en = true → w.warn ≠ 0 → (s.cp c).run ≠ .inReset → s.wdgFrozen c = false → exec (.wdgWarning c0) s =
      .next (((s.modCp c (fun p => { p with wdg := { p.wdg with warned := true, cnt := p.wdg.warn } })).irq c 0).fire (0x0A0 + c.val))) ∧
    (w.en = true → (s.cp c).run ≠ .inReset → s.wdgFrozen c = false → exec (.wdgExpiry c0) s = .next (s.wdgExpire c)) ∧
    (w.en = false → exec (.wdgWarning c0) s = .next s ∧ exec (.wdgExpiry c0) s = .next s) ∧
    (w.action = false → s.wdgExpire c = (s.modCp c (fun p => { p with
      wdg := { p.wdg with expired := true, cnt := 0 }, wdgReset := true })).releaseCp c)

/-- Reset and release of CPs, timers and watchdogs (R397, R398, R403, R404). -/
def Obligations.CpResetAndTimerResults : Prop :=
  Sys2Proof.Clauses.CpResetResults ∧ Sys2Proof.Clauses.TimerAndWatchdogResults

/-- IN, INX, OUT and OUTX (R85, R86): a CP-local port is read into G[d] or written by the same instruction; an access to Control Space
waits, and its response completes the instruction or raises BUS_ERROR; without SYSTEM a port that needs it raises
SYSTEM_REQUIRED. -/
def Obligations.PortResults : Prop :=
  ∀ (s f g : State) (c0 c : CpId) (d a : Reg) (off : BitVec 12) (imm : BitVec 32) (v : Word),
    let p := portOf (f.g c a) off
    let q := imm.toNat / 8 * 8
    let allowed (x : Nat) := portSystem x = true → (f.cp c).a.sys = true
    (s.starts c0 c (iPort 0x27 d a off) f →
      (allowed p → localPort p = true → f.localRead c p = (some v, g) → (g.cp c).calm →
        exec (.inPort c0 d a off) s = .next (g.ran c 2 (fun x => x.setG d v))) ∧
      (allowed p → localPort p = false → f.passes c 2 p g → (g.cp c).stepping = false →
        exec (.inPort c0 d a off) s = .next (g.modCp c (fun x => { x with stall := .inPort d (BitVec.ofNat 32 p) 2 }))) ∧
      (¬ allowed p → exec (.inPort c0 d a off) s = .next (f.trapped c cSystem (portInfo p false)))) ∧
    (s.starts c0 c (iPort 0x28 d a off) f → allowed p → localPort p = true → portKnown p = true → (((f.ran c 2 id).localWrite c p (f.g c d)).cp c).calm →
      exec (.outPort c0 d a off) s = .next ((f.ran c 2 id).localWrite c p (f.g c d))) ∧
    (s.starts c0 c (iX 0x322 d a 0 imm [d.val] []) f → allowed q → localPort q = true → f.localRead c q = (some v, g) → (g.cp c).calm →
      exec (.inx c0 d a 0 imm) s = .next (g.ran c 4 (fun x => x.setG d v))) ∧
    (s.starts c0 c (iX 0x323 d a 0 imm [d.val] []) f → allowed q → localPort q = true → portKnown q = true →
      (((f.ran c 4 id).localWrite c q (f.g c d)).cp c).calm →
      exec (.outx c0 d a 0 imm) s = .next ((f.ran c 4 id).localWrite c q (f.g c d))) ∧
    (∀ (port : BitVec 32) (len : Nat) (w : State), s.lead c0 = c → (s.cp c).stall = .inPort d port len → (s.cp c).run = .running →
      s.csRead (clOf c).val (s.cpPart c) true port.toNat = (0, v, w) → (w.cp c).stall = .inPort d port len → (w.cp c).calm →
      w.lockstepCl (clOf c) = false →
      exec (.inResponse c0) s = .next ((w.modCp c (fun x => { x with stall := .none })).ran c len (fun x => x.setG d v))) ∧
    (∀ w : BitVec 56, s.lead c0 = c → exec (.pramDataWrite c0 w) s =
      .next ((s.writeRange (pramKey c + 8 * (s.cp c).pramAddr.toNat) (leBytes 7 w.toNat)).modCp c (fun x =>
        { x with pramAddr := x.pramAddr + 1 })))

/-! ### The vector instructions -/

/-- The long-vector instructions (R163, R176, R183 to R197, R217): one that passes its checks and finds room is queued as an entry that
holds the instruction, its address, VL, the scalar and the descriptors as they are now, and the CP goes on. -/
def Obligations.VectorIssueResults : Prop :=
  ∀ (s f g : State) (c0 c : CpId) (v : VecFields) (im : ImmOut) (l : List (Strm × DReg)),
    ∀ p ∈ ([(0x000, .vfadd c0 v), (0x001, .vfsub c0 v), (0x002, .vfmul c0 v), (0x003, .vfmin c0 v), (0x004, .vfmax c0 v),
       (0x005, .vfabs c0 v), (0x006, .vfneg c0 v), (0x007, .vfcpys c0 v), (0x008, .vfma c0 v), (0x009, .vfms c0 v),
       (0x00A, .vfnma c0 v), (0x00B, .vfnms c0 v), (0x00C, .vfcvt c0 v), (0x00D, .vfcvti c0 v), (0x00E, .vicvtf c0 v),
       (0x040, .vadd c0 v), (0x041, .vsub c0 v), (0x042, .vadds c0 v), (0x043, .vsubs c0 v), (0x044, .vmul c0 v),
       (0x045, .vmulh c0 v), (0x046, .vmin c0 v), (0x047, .vmax c0 v), (0x048, .vand c0 v), (0x049, .vor c0 v),
       (0x04A, .vxor c0 v), (0x04B, .vandn c0 v), (0x04C, .vnot c0 v), (0x04D, .vshl c0 v), (0x04E, .vshr c0 v),
       (0x04F, .vsar c0 v), (0x050, .vabs c0 v), (0x051, .vneg c0 v), (0x052, .vpopc c0 v), (0x053, .vclz c0 v),
       (0x054, .vsel c0 v), (0x055, .vcvti c0 v), (0x056, .vmov c0 v), (0x057, .vfill c0 v), (0x058, .viota c0 v),
       (0x080, .vwmul c0 v), (0x081, .vwma c0 v), (0x082, .vdot4 c0 v), (0x083, .vdot4su c0 v), (0x084, .vfdot2 c0 v),
       (0x0A0, .vcmpeq c0 v), (0x0A1, .vcmpne c0 v), (0x0A2, .vcmplt c0 v), (0x0A3, .vcmple c0 v), (0x0A4, .vcmpgt c0 v),
       (0x0A5, .vcmpge c0 v), (0x0A6, .vcmpun c0 v), (0x0A7, .vtest c0 v), (0x0C0, .vcompress c0 v), (0x0C1, .vexpand c0 v),
       (0x0C2, .vgather c0 v), (0x0C3, .vscatter c0 v), (0x0C4, .vrev c0 v), (0x0E0, .vlds c0 v), (0x0E1, .vsts c0 v),
       (0x100, .vrsum c0 v), (0x101, .vrmin c0 v), (0x102, .vrmax c0 v), (0x103, .vrand c0 v), (0x104, .vror c0 v),
       (0x105, .vrxor c0 v), (0x106, .vrsumo c0 v), (0x107, .vrcnt c0 v), (0x108, .vrfirst c0 v), (0x109, .vrsumd c0 v),
       (0x140, .vdadd c0 v), (0x141, .vdsub c0 v), (0x142, .vdaddc c0 v), (0x143, .vdsubc c0 v), (0x144, .vdshl c0 v),
       (0x145, .vdshr c0 v), (0x146, .vdmul1 c0 v), (0x147, .vcvtbd c0 v), (0x148, .vcvtdb c0 v), (0x180, .vidstep c0 v),
       (0x181, .vfrseed c0 v), (0x182, .vfrstep c0 v), (0x183, .vfrsqseed c0 v), (0x184, .vfrsqstep c0 v),
       (0x185, .vddstep c0 v)] : List (Nat × Instr)),
      s.starts c0 c (iVec p.1 v [] []) f → f.vecIssues c p.1 v im l g →
      ((g.enqueue c (f.vecEntry g c p.1 v im l)).cp c).calm →
      exec p.2 s = .next ((g.enqueue c (f.vecEntry g c p.1 v im l)).ran c 4 id)

/-- An issue that cannot queue (R203, R217, R233): with the queue full the CP waits, or takes the fault that the frozen queue holds; an
issue that waits tries again, and completes like a first try. -/
def Sys2Proof.Clauses.VectorIssueWaits : Prop :=
  ∀ (s g : State) (c0 c : CpId) (v : VecFields) (op : BitVec 10) (im : ImmOut) (l : List (Strm × DReg)),
    s.lead c0 = c →
    let f := s.modCp c (fun p => { p with stall := .none })
    ((s.cp c).stall = .issue op v → (s.cp c).run = .running → f.vecIssues c op.toNat v im l g →
      ((g.enqueue c (f.vecEntry g c op.toNat v im l)).cp c).calm →
      exec (.vectorIssueResume c0) s = .next ((g.enqueue c (f.vecEntry g c op.toNat v im l)).ran c 4 id)) ∧
    ((∀ o w, (s.cp c).stall ≠ .issue o w) → exec (.vectorIssueResume c0) s = .next s) ∧
    (∀ r, vrow op.toNat = some r → vDecode r v = some im → (s.cp c).calm →
      (f.readDs c ((streamsOf r im op.toNat v 1).map (·.num))) = (none, f) → op ≠ 0x0E0 → op ≠ 0x0E1 →
      formChecks ((streamsOf r im op.toNat v 1).map (fun x => (x, f.dAt c x.num))) (s.cp c).a.vl.toNat = none →
      capChecks ((streamsOf r im op.toNat v 1).map (fun x => (x, f.dAt c x.num))) v.tw = none →
      32 ≤ (s.cp c).vq.entries.length → (s.cp c).vq.flt = false → (s.cp c).stall = .issue op v → (s.cp c).run = .running →
      exec (.vectorIssueResume c0) s = .next s)

/-- The queue takes entries at its end and in order (R205 to R208, R217): an entry that is not complete at once stands last, those
before it are as they were, and no register of the CP changes. -/
def Sys2Proof.Clauses.QueueAppends : Prop :=
  ∀ (s : State) (c : CpId) (e : VEntry), 0 < e.vl.toNat → e.partials = [] → (s.cp c).vq.entries = [] →
    (s.cp c).vq.lo = 0 → (s.cp c).vq.map = 0 → s.rdB INJ_STAT.ARMED = false → e.cut = false →
    let t := s.enqueue c e
    (∃ e2, (t.cp c).vq.entries = [e2] ∧ { e2 with joins := e.joins, cut := e.cut, err := e.err } = e ∧ e2.joins = false) ∧
    (t.cp c).a = (s.cp c).a ∧ (∀ k, k ≠ c → t.cp k = s.cp k) ∧ t.mem = s.mem

/-- Where a vector instruction waits, and what joins the queue (R203, R217, R218). -/
def Obligations.VectorWaitAndQueueResults : Prop :=
  Sys2Proof.Clauses.VectorIssueWaits ∧ Sys2Proof.Clauses.QueueAppends

/-- The short-vector instructions on lanes (R198 to R200): each active lane of V[dd] takes the result of its operation on the lanes of
the sources, and the flags of the lanes are collected. -/
def Obligations.ShortVectorResults : Prop :=
  ∀ (s f : State) (c0 c : CpId) (v : VecFields) (r : VRow) (im : ImmOut),
    ∀ p ∈ ([(0x280, .svfadd c0 v), (0x281, .svfsub c0 v), (0x282, .svfmul c0 v), (0x283, .svfmin c0 v), (0x284, .svfmax c0 v),
       (0x285, .svfabs c0 v), (0x286, .svfneg c0 v), (0x287, .svfcpys c0 v), (0x288, .svfma c0 v), (0x289, .svfms c0 v),
       (0x28A, .svfnma c0 v), (0x28B, .svfnms c0 v), (0x28C, .svfcvt c0 v), (0x28D, .svfcvti c0 v), (0x28E, .svicvtf c0 v),
       (0x2A0, .svadd c0 v), (0x2A1, .svsub c0 v), (0x2A2, .svadds c0 v), (0x2A3, .svsubs c0 v), (0x2A4, .svmul c0 v),
       (0x2A5, .svmulh c0 v), (0x2A6, .svmin c0 v), (0x2A7, .svmax c0 v), (0x2A8, .svand c0 v), (0x2A9, .svor c0 v),
       (0x2AA, .svxor c0 v), (0x2AB, .svandn c0 v), (0x2AC, .svnot c0 v), (0x2AD, .svshl c0 v), (0x2AE, .svshr c0 v),
       (0x2AF, .svsar c0 v), (0x2B0, .svabs c0 v), (0x2B1, .svneg c0 v), (0x2B2, .svpopc c0 v), (0x2B3, .svclz c0 v),
       (0x2B4, .svsel c0 v), (0x2B5, .svcvti c0 v), (0x2B6, .svmov c0 v), (0x2B7, .svfill c0 v), (0x2B8, .sviota c0 v),
       (0x2D5, .svbcast c0 v), (0x2D6, .svdot4 c0 v), (0x2D7, .svwmul c0 v)] : List (Nat × Instr)),
      s.starts c0 c (iVec p.1 v (shortUses p.1 v).1 (shortUses p.1 v).2) f → shortRow p.1 = some r → shortDecode p.1 r v = some im →
      let t := v.ty.toNat
      let ty := f.pickType (match r.d with | some o => o.ty.types t | none => [t])
      let mk := ty.2.shortMask c v (laneCount ty.1)
      let x : ShortOps :=
        { op := shortBase p.1, t := t, dt := ty.1, ct := (match r.c with | some o => (o.ty.types t).getD 0 t | none => t)
          a := f.vNum c v.da, b := f.vNum c v.db, c := f.vNum c v.dc, scalar := (f.scalar c t im).map BitVec.toNat
          imm := v.imm.toNat, env := envOf (f.cp c).a v }
      let o := shortLanes x mk.1 (f.vNum c v.dd) mk.2
      exec p.2 s = .next (o.2.2.ran c 4 (fun a => (a.setV v.dd o.1).orFlags o.2.1))

/-- The lanes of a short-vector result (R198, R199): an active lane that has its source lanes holds its operation's result, an inactive
lane keeps its value, and the state changes in no more than the count of free values. -/
def Sys2Proof.Clauses.ShortVectorLanes : Prop :=
  ∀ (x : ShortOps) (act : Nat → Bool) (dst : Nat) (s : State) (l : Nat), x.op ≠ 0x054 → 0 < tyWidth x.dt → l < laneCount x.dt →
    let o := shortLanes x act dst s
    (act l = false → laneAt (tyWidth x.dt) o.1 l = laneAt (tyWidth x.dt) dst l) ∧
    (∀ e, act l = true → x.lane l true = some e → laneAt (tyWidth x.dt) o.1 l = e.d % 2 ^ tyWidth x.dt) ∧
    { o.2.2 with free := s.free } = s

/-- The short-vector compares, reductions and SVPERM (R199, R200): a compare writes one bit of G[dd] for each active lane and keeps the
others; a reduction writes one register from the active lanes; SVPERM picks lanes of V[da] by those of V[db]. -/
def Sys2Proof.Clauses.ShortVectorOthers : Prop :=
  ∀ (s f : State) (c0 c : CpId) (v : VecFields) (r : VRow) (im : ImmOut),
    let t := v.ty.toNat
    let n := laneCount t
    let mk := f.shortMask c v n
    (∀ p ∈ ([(0x2C0, .svcmpeq c0 v), (0x2C1, .svcmpne c0 v), (0x2C2, .svcmplt c0 v), (0x2C3, .svcmple c0 v), (0x2C4, .svcmpgt c0 v),
       (0x2C5, .svcmpge c0 v), (0x2C6, .svcmpun c0 v), (0x2C7, .svtest c0 v)] : List (Nat × Instr)),
      s.starts c0 c (iVec p.1 v (shortUses p.1 v).1 (shortUses p.1 v).2) f → shortRow p.1 = some r → shortDecode p.1 r v = some im →
      let x : ShortOps :=
        { op := shortBase p.1, t := t, dt := 0xA, ct := (match r.c with | some o => (o.ty.types t).getD 0 t | none => t)
          a := f.vNum c v.da, b := f.vNum c v.db, c := f.vNum c v.dc, scalar := (f.scalar c t im).map BitVec.toNat
          imm := v.imm.toNat, env := envOf (f.cp c).a v }
      let old := (f.g c v.dd).toNat
      let o := (List.range n).foldl (fun (q : Nat × Nat) l =>
        if mk.1 l then (match x.lane l true with
          | some e => (q.1 + e.d * 2 ^ l, q.2 ||| e.flags)
          | none => q)
        else (q.1 + old / 2 ^ l % 2 * 2 ^ l, q.2)) (0, 0)
      exec p.2 s = .next (mk.2.ran c 4 (fun a => (a.setG v.dd (BitVec.ofNat 64 o.1)).orFlags o.2))) ∧
    (∀ p ∈ ([(0x2C8, .svrsum c0 v), (0x2C9, .svrmin c0 v), (0x2CA, .svrmax c0 v), (0x2CB, .svrand c0 v), (0x2CC, .svror c0 v),
       (0x2CD, .svrxor c0 v), (0x2CE, .svrsumo c0 v), (0x2CF, .svrcnt c0 v), (0x2D0, .svrfirst c0 v),
       (0x2D1, .svrsumd c0 v)] : List (Nat × Instr)),
      s.starts c0 c (iVec p.1 v (shortUses p.1 v).1 (shortUses p.1 v).2) f → shortRow p.1 = some r → shortDecode p.1 r v = some im →
      let k := immSk v.imm.toNat
      let num := if k = 1 then nbits v.imm.toNat 8 4 else if k = 2 then nbits v.imm.toNat 6 6 else nbits v.imm.toNat 8 3
      let ls := (List.range n).map (fun l => if mk.1 l then some (laneAt (tyWidth t) (f.vNum c v.da) l) else none)
      let w := redStrip (shortBase p.1) k t (envOf (f.cp c).a v) 0 ls
      let o := redFinish (shortBase p.1) k t (envOf (f.cp c).a v) [w.1]
      exec p.2 s = .next (mk.2.ran c 4 (fun a => (a.setResult k num o.1).orFlags (w.2 ||| o.2)))) ∧
    (s.starts c0 c (iVec 0x2D4 v (shortUses 0x2D4 v).1 (shortUses 0x2D4 v).2) f → shortRow 0x2D4 = some r →
      shortDecode 0x2D4 r v = some im →
      let d := (List.range n).foldl (fun d l =>
        if mk.1 l then setLane (tyWidth t) d l (laneAt (tyWidth t) (f.vNum c v.da) (laneAt (tyWidth t) (f.vNum c v.db) l % n)) else d)
        (f.vNum c v.dd)
      exec (.svperm c0 v) s = .next (mk.2.ran c 4 (fun a => a.setV v.dd d)))

/-- SVLD and SVST (R199, R200, R218): 64 bytes to or from V, lane by lane under the mask; a byte of an inactive lane keeps its
value, and so do the tags of the granules that no active lane touches (R121). -/
def Sys2Proof.Clauses.ShortVectorMemory : Prop :=
  ∀ (s f w g : State) (c0 c : CpId) (v : VecFields) (bs : List Byte) (key : Nat) (data : StoreData) (sp : List (Nat × Nat)),
    let at_ : Int := memAddr (f.k c v.db) (v.imm.setWidth 12) 64
    let wd := tyWidth v.ty.toNat
    (memReserved v v.dd v.da = false → f.loads c v.db at_ 64 0 bs key w →
      s.starts c0 c (iVec 0x2D2 v (shortUses 0x2D2 v).1 (shortUses 0x2D2 v).2) f →
      let mk := w.shortMask c v (laneCount v.ty.toNat)
      let d := (List.range (laneCount v.ty.toNat)).foldl (fun d l => if mk.1 l then setLane wd d l (laneAt wd (leNat bs) l) else d)
        (w.vNum c v.dd)
      exec (.svld c0 v) s = .next (mk.2.ran c 4 (fun a => a.setV v.dd d))) ∧
    (memReserved v v.da v.dd = false → s.starts c0 c (iVec 0x2D3 v (shortUses 0x2D3 v).1 (shortUses 0x2D3 v).2) f →
      let mk := f.shortMask c v (laneCount v.ty.toNat)
      let m := (List.range 64).foldl (fun (m : Word) b => setBitOf m b (mk.1 (8 * b / wd))) 0
      mk.2.stores c .v v.da v.db at_ data sp g →
      let t := (g.storeMasked c at_.toNat sp data.bytes m).watchAccess c true at_.toNat data.size
      (t.cp c).calm → exec (.svst c0 v) s = .next (t.ran c 4 id)) ∧
    (∀ (a k : Nat) (b : List Byte) (m : Word), b.length ≤ 64 → mapWf memDefault f.mem = true → mapWf tagDefault f.tags = true →
      f.errs = [] → f.rdB INJ_STAT.ARMED = false → f.lockstepCl (clOf c) = false →
      let t := f.storeMasked c a [(k, b.length)] b m
      (∀ i < b.length, t.byteAt (k + i) = if bitOf m i then b.getD i 0 else f.byteAt (k + i)) ∧
      (∀ j, j < k ∨ k + b.length ≤ j → t.byteAt j = f.byteAt j) ∧
      (∀ n, t.tagAt n = if (∃ i < b.length, bitOf m i = true ∧ (k + i) / 16 = n) then false else f.tagAt n))

/-- Short-vector instructions (R198 to R200): lanes, compares, reductions, permutation, and memory. -/
def Obligations.ShortVectorElementResults : Prop :=
  Sys2Proof.Clauses.ShortVectorLanes ∧ Sys2Proof.Clauses.ShortVectorOthers ∧ Sys2Proof.Clauses.ShortVectorMemory

/-- The descriptor instructions (R197): each writes the fields of D[dd] that it names and leaves the others, or reads one. -/
def Sys2Proof.Clauses.DescriptorResults : Prop :=
  ∀ (s f h : State) (c0 c : CpId) (v : VecFields) (d : DReg),
    let n := nbits v.imm.toNat 8 4
    (descReserved v true 0 = false →
      (s.starts c0 c (iDesc 0x2F0 v []) f →
        exec (.dsetc c0 v) s = .next ((f.setD c v.dd { (f.d c v.dd) with cap := f.k c v.da }).ran c 4 id)) ∧
      (s.starts c0 c (iDesc 0x2F1 v [v.da.val]) f →
        exec (.dseto c0 v) s = .next ((f.setDPart c v.dd { (f.d c v.dd) with offset := (f.g c v.da).setWidth 48 }).ran c 4 id)) ∧
      (s.starts c0 c (iDesc 0x2F2 v [v.da.val]) f →
        exec (.dsets c0 v) s = .next ((f.setDPart c v.dd { (f.d c v.dd) with stride := (f.g c v.da).setWidth 48 }).ran c 4 id)) ∧
      (s.starts c0 c (iDesc 0x2F6 v []) f → f.readD c v.dd = (some d, h) → (h.cp c).calm →
        exec (.dgetc c0 v) s = .next (h.ran c 4 (fun a => { a with k := a.k.set v.da.val d.cap }))) ∧
      (s.starts c0 c (iDesc 0x2F7 v []) f → f.readD c v.da = (some d, h) → (h.cp c).calm →
        exec (.dcopy c0 v) s = .next ((h.setD c v.dd d).ran c 4 id))) ∧
    (descReserved v false 0x7F = false → v.imm.toNat % 16 < 13 → s.starts c0 c (iDesc 0x2F3 v []) f →
      exec (.dsetf c0 v) s = .next ((f.setDPart c v.dd { (f.d c v.dd) with
        etype := v.imm.setWidth 4, fields := BitVec.ofNat 2 (v.imm.toNat / 16), space := bitOf v.imm 6 }).ran c 4 id)) ∧
    (descReserved v false 0x1FFF = false → nbits v.imm.toNat 0 8 = 0 → (immSk v.imm.toNat = 0 → n = 0) → f.readD c v.dd = (some d, h) →
      (h.cp c).calm → s.starts c0 c (iDesc 0x2F4 v (if immSk v.imm.toNat = 1 then [n] else [])) f →
      let inc := if immSk v.imm.toNat = 1 then (h.g c ⟨n % 16, by omega⟩).toNat else (h.cp c).a.vl.toNat
      exec (.dadv c0 v) s = .next ((h.setD c v.dd { d with offset := d.offset + BitVec.ofNat 48 inc }).ran c 4 id)) ∧
    (descReserved v true 2 = false → f.readD c v.dd = (some d, h) → (h.cp c).calm → s.starts c0 c (iDesc 0x2F5 v [v.da.val]) f →
      exec (.dget c0 v) s = .next (h.ran c 4 (fun a => a.setG v.da (
        if v.imm = 0 then d.offset.setWidth 64 else if v.imm = 1 then d.stride.signExtend 64
        else BitVec.ofNat 64 (d.etype.toNat + 16 * d.fields.toNat + 64 * b2n d.space)))))

/-- A descriptor written without an injection armed reads back as written, and no other register of any CP changes (R197, R204). -/
def Sys2Proof.Clauses.DescriptorReadBack : Prop :=
  ∀ (s : State) (c : CpId) (r k : Reg) (d : DReg), s.rdB INJ_STAT.ARMED = false →
    let t := s.setD c r d
    t.readD c r = (some { d with err := Err.zero }, t) ∧ (k ≠ r → t.d c k = s.d c k) ∧
    t = s.modA c (fun a => { a with d := a.d.set r.val { d with err := Err.zero } })

/-- The descriptor instructions (R197, R204): results, and that a descriptor reads back. -/
def Obligations.DescriptorInstructionResults : Prop :=
  Sys2Proof.Clauses.DescriptorResults ∧ Sys2Proof.Clauses.DescriptorReadBack

/-! ### The Issue Scheduler -/

/-- STRIP_COMMIT, outside Shadow (R201, R220, R222, R229): a strip in flight whose elements meet no fault writes its
destinations, counts for its partition and its queue, records its partial results, ORs its flags into VXF and becomes
progress. -/
def Sys2Proof.Clauses.StripCommits : Prop :=
  ∀ (s w : State) (c0 c : CpId) (p : PartId) (k : BitVec 30) (fl : Flight) (o : SOut),
    s.lead c0 = c → s.cpPart c = some p → (s.cp c).vq.flights.find? (fun f => f.strip == k.toNat) = some fl →
    (ascending (s.cp c).vq.group = true → (s.cp c).vq.sLo = k.toNat) → s.shadowOn p = false →
    s.runStrip c fl false = (.ok o, w) →
    let g := (w.cp c).vq.group
    let u := (((w.applyWrs c fl.pipe o.wr).cnt (SCHED_STRIPS.COUNT p) 1).cnt (VQ_STRIPS.COUNT p c) 1).cnt (SCHED_ELIDED.COUNT p)
      ((List.range g.length).filter (fun j => elided g j)).length
    let u := u.modVq c (fun q => { (q.record fl.strip o.parts) with flights := q.flights.filter (fun f => f.strip ≠ fl.strip) })
    u.shadowOn p = false →
    exec (.stripCommit c0 k) s = .next
      (((u.modCp c (fun x => { x with a := x.a.orFlags o.flags, vq := x.vq.show fl.strip })).progInject c p).vqRetire c)

/-- STRIP_FAULT and VECTOR_QUEUE_FREEZE (R220, R232): a strip that meets a fault writes nothing and leaves flight with its fault
noted, and with it, where strips commit in ascending order, those above it (the model's choice, log entry 114, DESIGN CHOICE); once nothing is in flight the lowest noted fault freezes the queue, with its member, cause, pc and VFINFO. -/
def Sys2Proof.Clauses.StripFaultFreezes : Prop :=
  ∀ (s w : State) (c0 c : CpId) (p : PartId) (k : BitVec 30) (fl : Flight) (m i cause : Nat) (info : Word) (x : VFault)
    (e : VEntry),
    s.lead c0 = c → s.cpPart c = some p → s.shadowOn p = false →
    ((s.cp c).vq.flights.find? (fun f => f.strip == k.toNat) = some fl →
      (ascending (s.cp c).vq.group = true → (s.cp c).vq.sLo = k.toNat) →
      s.runStrip c fl false = (.fault m i cause info, w) →
      exec (.stripFault c0 k) s = .next (w.modVq c (fun q => { q with
        flights := if ascending (s.cp c).vq.group then [] else q.flights.filter (fun f => f.strip ≠ k.toNat)
        faults := ⟨k.toNat, m, i, BitVec.ofNat 8 cause, info⟩ :: q.faults }))) ∧
    ((s.cp c).vq.faults = [x] → x.member < 8 → (s.cp c).vq.flights = [] → (s.cp c).vq.win = [] → (s.cp c).vq.cow = [] →
      (s.cp c).vq.group[x.member]? = some e →
      let t := s.modVq c (fun q => { q with
        flt := true, pend := true, faults := [], member := BitVec.ofNat 3 x.member, fcause := x.cause, fpc := e.pc,
        finfo := x.info, waiting := none, stolen := false })
      exec (.vectorQueueFreeze c0) s = .next (if (s.cp c).a.vfi then t.irq c 8 else t))

/-- The commands of VQ_CTL (R236, R208): each is ignored while STATE is busy; it closes an open group; RESUME and START let
strips issue again; FLUSH empties the queue; STOP and VSAVE wait for the strips in flight; VSAVE moves the queue into the slot
and VRESTORE brings it back; DISCARD frees the slot; a command that does not apply ends with STATE 3 and its RESULT. -/
def Sys2Proof.Clauses.VectorQueueCommands : Prop :=
  ∀ (s : State) (c0 c : CpId) (p : PartId) (slot : Fin 64) (img : SlotImg),
    s.lead c0 = c → s.cpPart c = some p →
    let q := (s.cp c).vq
    let own : Fin 64 := s.vqSlot c0
    let on (n : Fin 64) : State := (s.wr (VQ_CTL.SLOT p c) n.val).modVq c VQueue.close
    let done (t : State) (st res : Nat) : State := (t.wr (VQ_CTL.STATE p c) st).wr (VQ_CTL.RESULT p c) res
    (s.rd (VQ_CTL.STATE p c) = 1 →
      exec (.vqResume c0) s = .next s ∧ exec (.vqFlush c0) s = .next s ∧ exec (.vqStop c0) s = .next s ∧
      exec (.vqStart c0) s = .next s ∧ exec (.vsave c0 slot) s = .next s ∧ exec (.vrestore c0 slot) s = .next s ∧
      exec (.vqDiscard c0 slot) s = .next s) ∧
    (s.rd (VQ_CTL.STATE p c) ≠ 1 →
      exec (.vqResume c0) s = .next (
        if q.flt = true ∧ q.pend = false then (done ((on own).modVq c (fun q => { q with flt := false })) 2 0).vqSettle c
        else done (on own) 3 1) ∧
      exec (.vqFlush c0) s = .next (
        if q.flt = true ∨ s.stopShown c = true then
          let t := done ((on own).modVq c (fun _ => { VQueue.reset with thaw := s.dbgHolds c })) 2 0
          if q.entries = [] then t else t.fire (0x1A0 + c.val)
        else done (on own) 3 1) ∧
      exec (.vqStart c0) s = .next (
        if s.stopShown c = true then
          (done ((on own).modVq c (fun q => { q with stop := false, thaw := s.dbgHolds c })) 2 0).vqSettle c
        else done (on own) 3 1) ∧
      (q.flights ≠ [] →
        exec (.vqStop c0) s = .next (done ((on own).modVq c (fun q => { q with stopping := true })) 1 0) ∧
        exec (.vsave c0 slot) s = .next (done ((on slot).modVq c (fun q => { q with saving := some slot })) 1 0)) ∧
      (q.flights = [] → q.win = [] → q.cow = [] →
        exec (.vqStop c0) s = .next ((done ((done ((on own).modVq c (fun q => { q with stopping := true })) 1 0).modVq c
          (fun q => { q with stopping := false, stop := true })) 2 0).vqRetire c)) ∧
      (q.entries ≠ [] → exec (.vrestore c0 slot) s = .next (done (on slot) 3 1)) ∧
      (q.entries = [] → (s.part p).slots.find? (fun t => t.slot == slot) = none →
        exec (.vrestore c0 slot) s = .next (done (on slot) 3 3) ∧ exec (.vqDiscard c0 slot) s = .next (done (on slot) 3 3)) ∧
      (q.entries = [] → (s.part p).slots.find? (fun t => t.slot == slot) = some img →
        s.rdB INJ_STAT.ARMED = false →
        let t := done ((on slot).modVq c (fun _ => { img.vq with
          entries := img.vq.entries.map (fun (e : VEntry) => { e with err := Err.zero }), thaw := s.dbgHolds c })) 2 0
        exec (.vrestore c0 slot) s = .next ((if img.vq.pend && (s.cp c).a.vfi then t.irq c 8 else t).vqSettle c)) ∧
      ((s.part p).slots.any (fun t => t.slot == slot) = true →
        exec (.vqDiscard c0 slot) s = .next
          (done ((on slot).modPart p (fun x => { x with slots := x.slots.filter (fun t => t.slot ≠ slot) })) 2 0)))

/-- STOP_DONE completes a STOP, and VSAVE without strips in flight completes at once: the queue, with its progress, goes into its
slot and the CP's queue is empty; the slot's granule is taken with the first slot of its group of four (R236, R237). -/
def Sys2Proof.Clauses.VectorQueueSaved : Prop :=
  ∀ (s : State) (c0 c : CpId) (p : PartId) (slot : Fin 64),
    s.lead c0 = c → s.cpPart c = some p → (s.cp c).vq.flights = [] → (s.cp c).vq.win = [] → (s.cp c).vq.cow = [] →
    let done (t : State) (st res : Nat) : State := (t.wr (VQ_CTL.STATE p c) st).wr (VQ_CTL.RESULT p c) res
    ((s.cp c).vq.stopping = true →
      exec (.vqStopDone c0) s = .next ((done (s.modVq c (fun q => { q with stopping := false, stop := true })) 2 0).vqRetire c)) ∧
    ((s.cp c).vq.stopping = false → s.rd (VQ_CTL.STATE p c) ≠ 1 →
      let w := (done (((s.wr (VQ_CTL.SLOT p c) slot.val).modVq c VQueue.close).modVq c
        (fun q => { q with saving := some slot })) 1 0).vqRetire c
      mapFind (w.part p).slotGrans (slot.val / 4) ≠ none → (w.cp c).vq.entries ≠ [] →
      let img := { (w.cp c).vq with
        saving := none, stopping := false, stop := false, thaw := false, waiting := none, stolen := false, turn := 0 }
      let u := w.modPart p (fun x => { x with slots := ⟨slot, img⟩ :: x.slots.filter (fun t => t.slot ≠ slot) })
      exec (.vsave c0 slot) s = .next
        ((done (u.modVq c (fun _ => { VQueue.reset with thaw := u.dbgHolds c })) 2 0).fire (0x1A0 + c.val)))

/-- The commands of VQ_CTL (R208, R236, R237). -/
def Obligations.VectorQueueResults : Prop :=
  Sys2Proof.Clauses.VectorQueueCommands ∧ Sys2Proof.Clauses.VectorQueueSaved

/-- STRIP_DISPATCH sends the strip that the order of service and the placement rules pick to its pipe (R223 to R228); with no
strip ready, no group finished and no window ended it does nothing. The waits of R224 and R208 end with their events, a parked
pipe lights after its lead and a pipe idle for PARK_IDLE parks (R238, R239, R496). -/
def Sys2Proof.Clauses.SchedulerEvents : Prop :=
  ∀ (s : State) (c0 c : CpId) (p : PartId) (pipe : Fin 64) (q : QuadId),
    (s.lead c0 = c →
      exec (.stealWaitExpiry c0) s = .next (s.modVq c (fun q => { q with stolen := q.waiting.isSome })) ∧
      ((s.cp c).vq.isOpen = true → exec (.chainWaitExpiry c0) s = .next ((s.modVq c VQueue.close).vqSettle c)) ∧
      ((s.cp c).vq.isOpen = false → exec (.chainWaitExpiry c0) s = .next s)) ∧
    (s.cpsOf p = [c] → s.vqSettle c = s → s.shadowBack p = s → s.pair.pressHold = false →
      (∀ k round r, s.readyStrip c = some k → s.serveOrder p [c] = [(c, round)] → s.place c p k = some r →
        exec (.stripDispatch p) s = .next (s.dispatch c p k r.1 r.2 round)) ∧
      (∀ k round, s.readyStrip c = some k → s.serveOrder p [c] = [(c, round)] → s.place c p k = none →
        exec (.stripDispatch p) s = .next ((s.light (s.wanted c p k)).modVq c (fun q => { q with
          waiting := some k, stolen := if q.waiting = some k then q.stolen else false }))) ∧
      (s.readyStrip c = none → s.serveOrder p [] = [] → exec (.stripDispatch p) s = .next s)) ∧
    (s.rdB (LA_STAT.LEAD q) = true → ∃ t, exec (.leadExpiry q) s = .next t ∧
      t.rd (LA_STAT.LEAD q) = 0 ∧ t.rd (LA_STAT.RAMP q) = 1 ∧
      (∀ n ∈ s.pwr.la[q.val].pipes, n < 64 → (n % 4 < 2 ∨ s.shed < 4) → (s.part p).hasCl (n / 4) = true →
        bitOf (t.part p).lit n = true)) ∧
    (s.rdB (LA_STAT.RAMP q) = true → exec (.rampEnd q) s = .next
      (((s.wr (LA_STAT.RAMP q) 0).wr (LA_STAT.CODE q) 0).modLa q (fun l => { l with pipes := [], step := 0, hold0 := true }))) ∧
    (s.pwr.la[q.val].wait = [] → exec (.ldadvZeroHoldEnd q) s = .next (s.modLa q (fun l => { l with hold0 := false, wait := [] }))) ∧
    exec (.ldadvReadbackFault q) s = .next
      ((((s.wr (LA_STAT.DRV_OFF q) 1).wr (LA_STAT.CODE q) 0).useRate q 50).bucket 20 1) ∧
    (∃ t, exec (.pipePark pipe) s = .next t ∧
      (bitOf (s.part p).lit pipe.val = true → s.onPipe p pipe.val = 0 → s.rd (SCHED_CFG.PARK_IDLE p) ≠ 0 →
        s.mesh.crossing (pipe.val / 16) = false → s.keepsLit p = false → bitOf (t.part p).lit pipe.val = false) ∧
      (s.onPipe p pipe.val ≠ 0 → (t.part p).lit = (s.part p).lit) ∧ t.csr = s.csr ∧ t.cps = s.cps ∧ t.mem = s.mem)

/-- Microcode (R282 to R293): a fetch from an unused address is an uncorrectable error; CALL, JUMP, return, branch and dispatch go where R285
says, and a CALL beyond two entries and a return from an empty stack are errors; a strip of opcodes that no override redirects runs without
one; a set that R289 rejects leaves the ROM in force, and one that it takes puts its words and overrides
in force. -/
def Sys2Proof.Clauses.MicrocodeResults : Prop :=
  ∀ (s : State) (p : UcPatch) (pipe a n : Nat) (q : UcSeqSt) (w : BitVec 32) (last ct cond : Bool) (ops : List (Nat × Bool)) (o : UcOverride),
    (0x2400 ≤ a → s.armed 0x13 pipe = false →
      State.ucRun pipe last ct (n + 1) ⟨a, q.ret⟩ s = (.error (), s.ucBad pipe 0)) ∧
    (ucClass w = 7 → q.ret.length < 2 → q.step w cond = .go ⟨ucTarget w, (q.addr + 1) % 0x4000 :: q.ret⟩) ∧
    (ucClass w = 7 → 2 ≤ q.ret.length → q.step w cond = .bad) ∧
    (ucClass w = 8 → q.step w cond = .go ⟨ucTarget w, q.ret⟩) ∧
    (ucClass w < 7 → ucKind w = 0 → q.step w cond = .go ⟨(q.addr + 1) % 0x4000, q.ret⟩) ∧
    (ucClass w < 7 → ucKind w = 1 → cond = false → q.step w cond = .go ⟨(q.addr + 1) % 0x4000, q.ret⟩) ∧
    (ucClass w < 7 → ucKind w = 1 → cond = true → ∃ x, q.step w cond = .go ⟨x, q.ret⟩ ∧ x < 0x4000 ∧
      (x + (if ucSeq w % 16 < 8 then 0 else 16) : Nat) % 0x4000 = (q.addr + ucSeq w % 16) % 0x4000) ∧
    (ucClass w < 7 → ucKind w = 2 → (ucSeq w = 0 → q.step w cond = .member q.ret) ∧ (ucSeq w = 1 → q.step w cond = .done)) ∧
    (ucClass w < 7 → ucKind w = 3 → q.ret = [] → q.step w cond = .bad) ∧
    (∀ x rest, ucClass w < 7 → ucKind w = 3 → q.ret = x :: rest → q.step w cond = .go ⟨x, rest⟩) ∧
    (s.rdB INJ_STAT.ARMED = false → (∀ x ∈ ops, s.dispStart x.1 = none) → State.ucStrip pipe ops q.ret s = (false, s)) ∧
    ((p.romId ≠ Config.romId ∨ 1024 < p.words.length ∨ (∃ x ∈ p.words, 9 ≤ ucClass x ∨ (7 ≤ ucClass x ∧ 0x23FF < ucTarget x)) ∨
        (∃ x ∈ p.ovr, romKind x.op.toNat = 1 ∨ (romKind x.op.toNat = 2 ∧ x.entry.toNat < 2 ^ 14) ∨
          (x.entry.toNat < 2 ^ 14 ∧ (x.entry.toNat < 0x2000 ∨ 0x23FF < x.entry.toNat)))) →
      (s.takePatch p).uc = s.uc ∧ (s.takePatch p).rdB UC_STAT.PATCH_REJ = true) ∧
    (ucPatchBad p = false → bitOf s.fresh.1 0 = false → p.ovr = [o] →
      let t := s.takePatch p
      t.rdB UC_STAT.PATCHED = true ∧ t.rd UCODE_VER.PATCH_SET = p.set.toNat ∧ t.dispEntry o.op.toNat = o.entry ∧
      (∀ k, k ≠ o.op.toNat → t.dispEntry k = romEntry k) ∧ (∀ i x, p.words[i]? = some x → t.ucWord (0x2000 + i) = some x) ∧
      t.rd UCODE_VER.OVR = (if o.entry = romEntry o.op.toNat then 0 else 1))

/-- The Issue Scheduler (R201, R208, R220 to R229, R232, R238, R239, R496): strips that commit or fault, its own events, and
the microcode of its sequencers (R282 to R293). -/
def Obligations.SchedulerResults : Prop :=
  Sys2Proof.Clauses.StripCommits ∧ Sys2Proof.Clauses.StripFaultFreezes ∧ Sys2Proof.Clauses.SchedulerEvents ∧ Sys2Proof.Clauses.MicrocodeResults

/-! ### Paging, revocation and Turning -/

/-- The zeroed pool, the sweep of revoked capabilities, and the periods of Turning (R130, R135, R141, R144): a granule more is
zeroed up to the target and the free granules; a sweep pass that may close (no vector work from before the epoch is left) clears the
tag of every capability into its partition's active set, gives the ranges to the reuse list and closes the epoch; at the period's end
every HEAT is halved and LCL names the cluster with the most samples (the first period after a release: log entry 105, DESIGN CHOICE). -/
def Sys2Proof.Clauses.SweepAndZeroResults : Prop :=
  ∀ (s : State) (tier : Tier) (p : PartId),
    (tier = .near → exec (.granuleZeroed tier) s = .next (s.modM (fun m => { m with
      zNear := min (min (s.rd ZPOOL.TARGET) (s.freeGran 0)) (m.zNear + 1) }))) ∧
    (tier = .cellar → exec (.granuleZeroed tier) s = .next (s.modM (fun m => { m with
      zCellar := min (min (s.rd ZPOOL.TARGET) (s.freeGran 1)) (m.zCellar + 1) }))) ∧
    exec .sweepNow s = .next (s.wr REV_CTL.SWEEP_NOW 1) ∧
    let held (q : VQueue) : Bool := if q.flt then decide (q.group.length < q.preSweep) else decide (q.preSweep ≠ 0);
    let work : Bool := s.cps.any (fun x => held x.vq) || s.parts.any (fun x => x.slots.any (fun y => held y.vq));
    (s.rdB REV_STAT.OPEN = true → s.sweepPaused = false → work = false →
      ∃ t, exec .sweepEpochClose s = .next t ∧ (t.part p).reuse = (s.part p).qActive.foldl addRange (s.part p).reuse ∧
        ((s.part p).qNext = [] → (t.part p).qActive = []) ∧
        (mapWf tagDefault s.tags = true → s.errs = [] → s.rdB INJ_STAT.ARMED = false →
          s.mst.tagc.all (fun y => y.err == Err.zero && !y.bad) = true →
          ∀ g o, s.tagOwner g = some o → ((s.capAt g).purge (s.part o).qActive).tag = false → t.tagAt g = false)) ∧
    ((s.rdB REV_STAT.OPEN = false ∨ s.sweepPaused = true ∨ work = true) → exec .sweepEpochClose s = .next s) ∧
    (let aged (o : PartId) (l : Nat × Nat × Nat × Word) : Word :=
        let n := leafSpan l.2.2.1 / 65536
        let e := match topCluster s.readSamples.1 o (l.1 / leafSpan l.2.2.1 * n) n with
          | some c => (l.2.2.2 &&& ~~~(0xF#64 <<< 43)) ||| (BitVec.ofNat 64 c <<< 43)
          | none => l.2.2.2
        setBitOf ((e &&& ~~~(0xFF#64 <<< 48)) ||| (BitVec.ofNat 64 (nbits e.toNat 49 7) <<< 48)) 11 false;
      let on := { s.readSamples.2 with parts := s.readSamples.2.parts.map (fun (x : Part) => { x with turnOn := x.root.isSome }) };
      exec .heatPeriodEnd s = .next (((fins 16).foldl (fun t o => (t.leaves o).foldl (fun u l => u.setPte l.2.1 (aged o l)) t) on).modM
        (fun m => { m with samples := [] }))) ∧
    (s.mst.samples.all (fun x => x.err == Err.zero) = true → s.readSamples = (s.mst.samples, s))

/-- Turning moves a page (R145 to R147): a page that may move and that the rules send to a tier or a layout takes a granule there, MIG is
set, the page counts against RATE and its translations are dropped; a page that is not sent, or finds no granule, stays; when the copy is done the leaf names the new home, the old granule is held and the page is
shot down; at the release the old granule is free. -/
def Sys2Proof.Clauses.TurningResults : Prop :=
  ∀ (s u w : State) (p : PartId) (page : BitVec 40) (ea level : Nat) (e : Word) (tier g il : Nat) (ex : Bool) (m : Migr)
    (gr : Gran),
    (let listed : Bool := match s.pair.ship with
        | some o => o.pages.any (fun x => x.part == p && x.page == page.toNat && x.copy.isNone) | none => false;
      let s1 := s.modPart p (fun x => { x with moveQ := x.moveQ.filter (fun g => g ≠ page.toNat) });
      let hinted := ((s1.part p).hint page.toNat (fun k => match k with | .layout .. => true | _ => false)).isSome;
      let want := if hinted then ((s1.part p).layout page.toNat).1 else nbits e.toNat 3 2;
      let hash := if hinted then ((s1.part p).layout page.toNat).2.1 else nbits e.toNat 5 3;
      let there : Prop := tier = nbits e.toNat 2 1 ∧ want = nbits e.toNat 3 2 ∧ hash = nbits e.toNat 5 3;
      s.leafOf p page.toNat = some (ea, level, e) →
      ((turnable e level = false ∨ listed = true ∨ s.turnTo p page.toNat e = none) → exec (.migrationStart p page) s = .next s) ∧
      (turnable e level = true → listed = false → s.turnTo p page.toNat e = some (tier, ex) →
        ((there ∨ s1.canSupply p tier 1 = false ∨ s1.turnGranule p tier want hash (nbits e.toNat 43 4) = none) →
          exec (.migrationStart p page) s = .next s1) ∧
        (¬ there → s1.canSupply p tier 1 = true → s1.turnGranule p tier want hash (nbits e.toNat 43 4) = some (g, il, u) →
          exec (.migrationStart p page) s = .next (
            ((u.modPart p (fun x => { x with
                exch := if ex then x.exch + 1 else if nbits e.toNat 2 1 = 1 ∧ tier = 0 then x.exch - 1 else x.exch })).modM (fun m => { m with
              migr := m.migr ++ [⟨p, page.toNat, g, false⟩]
              turned := (s.now / 1000000, s.movedNow + 1)
              tlb := m.tlb.filter (fun t => !t.meets p page.toNat 1) })).setPte ea (setBitOf e 13 true))))) ∧
    (s.leafOf p page.toNat = none → exec (.migrationStart p page) s = .next s) ∧
    (s.migrOf p page.toNat = some m → m.held = false → s.leafOf p page.toNat = some (ea, level, e) →
      s.migCopy p (nbits e.toNat 16 27) m.dst = w → mapFind w.mst.granules m.dst = some gr →
      exec (.migrationCopyDone p page) s = .next (((w.shootdown p page.toNat 1).setPte ea
        (leafEntry (m.dst * 65536) (granTier m.dst) gr.il.toNat gr.hash.toNat (bitOf e 8) (bitOf e 9) |||
          (e &&& 0x00FF780000001C00))).modM (fun x => { x with
            migr := x.migr.map (fun (y : Migr) => if y.part == p && y.page == page.toNat then
              { y with dst := nbits e.toNat 16 27, held := true } else y) }))) ∧
    (s.migrOf p page.toNat = some m → m.held = true → exec (.migrationCopyDone p page) s = .next s) ∧
    (s.migrOf p page.toNat = some m → m.held = false → exec (.migrationRelease p page) s = .next s) ∧
    (s.migrOf p page.toNat = some m → m.held = true →
      exec (.migrationRelease p page) s = .next (((s.freeSpan m.dst 1).modM (fun x => { x with
        migr := x.migr.filter (fun y => !(y.part == p && y.page == page.toNat)) })).wakePage p)) ∧
    (s.migrOf p page.toNat = none → exec (.migrationCopyDone p page) s = .next s ∧ exec (.migrationRelease p page) s = .next s)

/-- Zeroing, sweeps and Turning (R130, R135, R141, R144 to R147). -/
def Obligations.MigrationAndSweepResults : Prop :=
  Sys2Proof.Clauses.SweepAndZeroResults ∧ Sys2Proof.Clauses.TurningResults

/-- PG_HINT (R149, R153): a command is ignored while STATE is busy; else STATE becomes busy and PARTIAL clears, its range is
recorded with the hint, NEAR, COLD and NONE set PIN and COLD of the leaves of the range, UNGUARD unmaps the pages that a guard held, a
LAYOUT of a reserved size, of a large page that is not global (R311) or of an unaligned range is refused (IL of 3: log entry 106, DESIGN CHOICE), and
PG_HINT_COMPLETE ends it. A shootdown ends with its acknowledgements (R150). -/
def Sys2Proof.Clauses.PagingHintResults : Prop :=
  ∀ (s : State) (p : PartId) (il : BitVec 2) (hash : BitVec 3) (size : BitVec 2),
    let r := (s.rd (PG_HINT_BASE.ADDR p), s.rd (PG_HINT_LEN.PAGES p))
    let begun := ((s.wr (PG_HINT.STATE p) 1).wr (PG_HINT.PARTIAL p) 0).modPart p (fun x => { x with hintBusy := some r })
    let noted (k : HintKind) := begun.modPart p (fun x => { x with hints := ⟨r.1, r.2, k⟩ :: x.hints })
    let n := if size = 1 then 32 else if size = 2 then 16384 else 1
    (s.rd (PG_HINT.STATE p) = 1 →
      exec (.pgHintNear p) s = .next s ∧ exec (.pgHintCold p) s = .next s ∧ exec (.pgHintNone p) s = .next s ∧
      exec (.pgHintLayout p il hash size) s = .next s ∧ exec (.pgHintPrefault p) s = .next s ∧
      exec (.pgHintGuard p) s = .next s ∧ exec (.pgHintUnguard p) s = .next s) ∧
    (s.rd (PG_HINT.STATE p) ≠ 1 →
      exec (.pgHintNear p) s = .next ((noted .near).hintLeaves p (fun e => setBitOf (setBitOf e 8 true) 9 false) (fun e => bitOf e 2)) ∧
      exec (.pgHintCold p) s = .next ((noted .cold).hintLeaves p (fun e => setBitOf (setBitOf e 8 false) 9 true) (fun e => !bitOf e 2)) ∧
      exec (.pgHintNone p) s = .next ((noted .none).hintLeaves p (fun e => setBitOf (setBitOf e 8 false) 9 false) (fun _ => false)) ∧
      exec (.pgHintUnguard p) s = .next (((noted .unguard).leavesIn p ((r.1 + r.2) * 65536) 0x1000000 (r.1 * 65536)).foldl (fun t l =>
        if bitOf l.2.2.2 15 && !bitOf l.2.2.2 14 then t.setPte l.2.1 0 else t) (noted .unguard)) ∧
      (r.2 = 0 → exec (.pgHintPrefault p) s = .next begun) ∧
      (r.2 = 1 → ∀ ea level q u, begun.walk p (r.1 * 65536) = .missing ea level → 0 < r.1 → (s.part p).guarded r.1 = false →
        (s.part p).inQuarantine (r.1 * 65536, 65536) = false →
        begun.walkReads (begun.walkPath (r.1 * 65536) ((begun.part p).root.getD 0) 3) = (none, u) →
        u.firstTouch { part := p, cl := 0, num := 0, wr := false, pin := false, win := none } (r.1 * 65536) level = q →
        exec (.pgHintPrefault p) s = .next (match q.1 with | .fault _ _ => q.2.wr (PG_HINT.PARTIAL p) 1 | _ => q.2)) ∧
      (begun.leavesIn p ((r.1 + r.2) * 65536) 0x1000000 (r.1 * 65536) = [] →
        exec (.pgHintGuard p) s = .next ((begun.shootdown p r.1 r.2).modPart p (fun x => { x with
          hints := ⟨r.1, r.2, .guard⟩ :: x.hints }))) ∧
      let fields := ((s.wr (PG_HINT.IL p) il.toNat).wr (PG_HINT.HASH p) hash.toNat).wr (PG_HINT.SIZE p) size.toNat
      let lay : BitVec 2 := if il = 3 then 2 else il
      let refuse : Prop := size = 3 ∨ (size ≠ 0 ∧ lay ≠ 0) ∨ r.1 % n ≠ 0 ∨ r.2 % n ≠ 0
      (refuse → exec (.pgHintLayout p il hash size) s = .next (fields.wr (PG_HINT.STATE p) 3)) ∧
      (¬ refuse → exec (.pgHintLayout p il hash size) s = .next (
        ((((fields.wr (PG_HINT.STATE p) 1).wr (PG_HINT.PARTIAL p) 0).modPart p (fun x => { x with
          hintBusy := some r, hints := ⟨r.1, r.2, .layout lay hash size⟩ :: x.hints }))).hintLeaves p id
          (fun e => nbits e.toNat 3 2 != lay.toNat || nbits e.toNat 5 3 != hash.toNat)))) ∧
    ((s.part p).hintBusy ≠ none →
      exec (.pgHintComplete p) s = .next ((s.wr (PG_HINT.STATE p) 2).modPart p (fun x => { x with hintBusy := none }))) ∧
    ((s.part p).hintBusy = none → exec (.pgHintComplete p) s = .next s) ∧
    exec (.shootdownComplete p) s = .next (s.modPart p (fun x => { x with shoot := false }))

/-- A write of HEAP_BASE or HEAP_TOP (R153): with no live allocation and nothing in quarantine it sets the window's end, and
allocation starts again at HEAP_BASE; else it changes nothing but HEAP_LOCKED. -/
def Sys2Proof.Clauses.HeapWindowWrites : Prop :=
  ∀ (s : State) (p : PartId) (v : Word),
    let free : Prop := s.rd (ALLOC_STAT.LIVE p) = 0 ∧ (s.part p).qActive = [] ∧ (s.part p).qNext = []
    (free →
      exec (.heapWindowWrite p true v) s = .next ((s.wr (HEAP_TOP.ADDR p) (nbits v.toNat 16 40)).modPart p (fun x => { x with
        bump := s.rd (HEAP_BASE.ADDR p) * 65536, reuse := [] })) ∧
      exec (.heapWindowWrite p false v) s = .next ((s.wr (HEAP_BASE.ADDR p) (nbits v.toNat 16 40)).modPart p (fun x => { x with
        bump := nbits v.toNat 16 40 * 65536, reuse := [] }))) ∧
    (¬ free → ∀ top, exec (.heapWindowWrite p top v) s = .next (s.wr (ALLOC_STAT.HEAP_LOCKED p) 1))

/-- PG_HINT, shootdowns and the heap window (R149, R150, R153). -/
def Obligations.PagingCommandResults : Prop :=
  Sys2Proof.Clauses.PagingHintResults ∧ Sys2Proof.Clauses.HeapWindowWrites

/-! ### Upkeep of memory, and injections -/

/-- Refresh and calibration (R322 to R328, R331, R335): a refresh closes the bank's row and restarts its activation count, for a Cellar
one bank of every group of a rank; a bank at its limit of activations gets RFM; a slot is deferred from shed level 1 on, but for a
channel whose slots run again, and else records the eye it measured and counts; a write-levelling trigger waits for the next slot;
temperatures set HOT above 85 degrees. -/
def Sys2Proof.Clauses.UpkeepResults : Prop :=
  ∀ (s : State) (stack : StackId) (pc : Fin 32) (bank : Fin 48) (eye lane temp : BitVec 8) (ch : ChanId) (sub dimm : Fin 2)
    (rank : Fin 8) (grp : Fin 4),
    let pk := stack.val * 32 + pc.val
    let bk := bankKey stack.val pc.val bank.val
    let key := 512 + 2 * ch.val + sub.val
    let trig (s : State) : State := s.modM (fun m => { m with
      wlPend := setBitOf m.wlPend stack.val true, wlLeft := vecUpd m.wlLeft stack (fun _ => 0) })
    (s.rdB (NM_STAT.TRAINED stack) = true → s.rdB (NM_STAT.SELFREF stack) = false →
      exec (.nearRefresh stack pc bank) s = .next ((s.sendCmd true stack.val).modM (fun m => { m with
        acts := mapPut (fun _ => 0) m.acts bk 0, openRow := mapErase m.openRow bk })) ∧
      (1 ≤ s.shed → s.mst.slotAgain.contains pk = false → exec (.calibrationSlot stack pc eye lane) s = .next
        (((s.lanePeriod stack pc).wr (NM_STAT.CAL_DEFER stack) 1).cnt (NM_CAL.DEFERRED stack) 1)) ∧
      ((s.shed = 0 ∨ s.mst.slotAgain.contains pk = true) → s.armed 0x1C stack.val = false →
        ∃ u, u = ((s.lanePeriod stack pc).laneSlot stack pc).wlSlot stack pc ∧
        exec (.calibrationSlot stack pc eye lane) s = .next
          ((((u.wr (NM_MARGIN.EYE_MIN stack pc) eye.toNat).wr (NM_MARGIN.LANE stack pc) lane.toNat).modM
            (fun m => { m with slotLast := mapInsert m.slotLast pk s.now })).cnt (NM_CAL.SLOTS stack) 1))) ∧
    ((s.rdB (NM_STAT.TRAINED stack) = false ∨ s.rdB (NM_STAT.SELFREF stack) = true) →
      exec (.nearRefresh stack pc bank) s = .next s ∧ exec (.calibrationSlot stack pc eye lane) s = .next s) ∧
    (64 * max 4 (s.rd (NM_CFG.RH_THRESH stack)) ≤ mapGet (fun _ => 0) s.mst.acts bk →
      exec (.refreshManagement stack pc bank) s = .next
        (((s.modM (fun m => { m with acts := mapPut (fun _ => 0) m.acts bk 0 })).sendCmd true stack.val).cnt (NM_RH.COUNT stack) 1)) ∧
    (mapGet (fun _ => 0) s.mst.acts bk < 64 * max 4 (s.rd (NM_CFG.RH_THRESH stack)) →
      exec (.refreshManagement stack pc bank) s = .next s) ∧
    (s.rdB (CC_STAT.TRAINED ch) = true → s.rdB (CC_STAT.SELFREF ch) = false →
      mapWf (fun _ => 0) (s.sendCmd false ch.val).mst.acts = true →
      ∃ t, exec (.sameBankRefresh ch ⟨sub, rank, grp⟩) s = .next t ∧ ∀ k,
        mapGet (fun _ => 0) t.mst.acts k =
          if k ∈ (List.range 8).map (fun g => celBankKey ch.val ⟨sub.val, rank.val, g * 4 + grp.val, 0⟩) then 0
          else mapGet (fun _ => 0) (s.sendCmd false ch.val).mst.acts k) ∧
    ((s.rdB (CC_STAT.TRAINED ch) = false ∨ s.rdB (CC_STAT.SELFREF ch) = true) →
      exec (.sameBankRefresh ch ⟨sub, rank, grp⟩) s = .next s) ∧
    exec (.writeLevellingTrigger stack) s = .next (trig s) ∧
    exec (.wlNow stack) s = .next (trig (s.wr (NM_CAL.WL_NOW stack) 1)) ∧
    (s.rd (NM_TEMP.WLTEMP stack) < temp.toNat + 5 → temp.toNat < s.rd (NM_TEMP.WLTEMP stack) + 5 →
      exec (.stackTemperatureRead stack temp) s = .next
        ((s.wr (NM_TEMP.TEMP stack) temp.toNat).wrB (NM_STAT.HOT stack) (decide (85 < temp.toNat)))) ∧
    (s.rd (NM_TEMP.WLTEMP stack) + 5 ≤ temp.toNat → bitOf s.mst.wlPend stack.val = false →
      exec (.stackTemperatureRead stack temp) s = .next
        (trig ((s.wr (NM_TEMP.TEMP stack) temp.toNat).wrB (NM_STAT.HOT stack) (decide (85 < temp.toNat))))) ∧
    (1 ≤ s.shed → s.shed ≤ 5 → exec (.calDeferLimit stack pc) s = .next (s.modM (fun m => { m with
      slotAgain := pk :: m.slotAgain.filter (fun k => k ≠ pk) }))) ∧
    ((s.shed = 0 ∨ 5 < s.shed) → exec (.calDeferLimit stack pc) s = .next s) ∧
    (s.rdB (CC_STAT.TRAINED ch) = true → s.rdB (CC_STAT.SELFREF ch) = false →
      (s.shed = 0 → exec (.cellarCalibrationSlot ch sub) s = .next ((s.modM (fun m => { m with
        slotLast := mapInsert m.slotLast key s.now })).cnt (CC_CAL.SLOTS ch) 1)) ∧
      (1 ≤ s.shed → s.mst.slotAgain.contains key = false → s.now < mapGet (fun _ => 0) s.mst.slotLast key + 2000000000 →
        exec (.cellarCalibrationSlot ch sub) s = .next ((s.wr (CC_STAT.CAL_DEFER ch) 1).cnt (CC_CAL.DEFERRED ch) 1)) ∧
      (1 ≤ s.shed → mapGet (fun _ => 0) s.mst.slotLast key + 2000000000 ≤ s.now →
        exec (.cellarCalibrationSlot ch sub) s = .next ((s.modM (fun m => { m with
          slotLast := mapInsert m.slotLast key s.now
          slotAgain := key :: m.slotAgain.filter (fun k => k ≠ key) })).cnt (CC_CAL.SLOTS ch) 1))) ∧
    (∃ t, exec (.dimmTemperatureRead ch dimm temp) s = .next t ∧
      t.mst.dimmHot = setBitOf s.mst.dimmHot (2 * ch.val + dimm.val) (decide (85 < temp.toNat)) ∧
      ∀ k : Fin 8, t.rdB (CC_STAT.HOT k) = (t.mst.dimmHot != 0))

/-- Checking and scrubbing (R315, R331, R351, R362 to R366): a bad parity report counts and the command is sent again; a write-back
leaves its list; a step of the pass visits one line or unit (a tag line and a calibration line are read, a data line is also swept unless
its page moves) and counts a pass at its end, and does nothing while scrubbing is stopped; the scrubber of a cluster reads the word it
comes to; a bucket that leaks falls by 1. -/
def Sys2Proof.Clauses.ScrubResults : Prop :=
  ∀ (s : State) (tier : Tier) (unit : Fin 16) (cl : ClusterId) (cp : CpId) (key : BitVec 44)
    (word : BitVec 19) (b : Fin 32) (v : BitVec 32),
    exec (.commandParityReissue .near unit) s = .next (s.parityReissue true unit.val) ∧
    (unit.val < 8 → exec (.commandParityReissue .cellar unit) s = .next (s.parityReissue false unit.val)) ∧
    exec (.gridWriteback key) s = .next (s.modM (fun m => { m with wb := m.wb.filter (fun w => w ≠ key.toNat / 8) })) ∧
    ((s.scrubStopped = true ∨ (s.rdB SCRUB_CFG.EN = false ∧ s.rdB REV_STAT.OPEN = false)) → exec (.scrubStep tier) s = .next s) ∧
    ((s.scrubShape (decide (tier = .near))).2.2.1 = 0 → exec (.scrubStep tier) s = .next s) ∧
    (let near := decide (tier = .near);
      let h := s.scrubShape near;
      let pos := if near then s.mst.nearPos else s.mst.celPos;
      let k := s.scrubKey near pos;
      let visit := if k.2 = false then s.scrubRead k.1 else if s.inMigration k.1 then s else (s.scrubRead k.1).sweepUnit k.1 (lineSize k.1);
      let on (n : Nat) (t : State) : State := t.modM (fun m => if near then { m with nearPos := n } else { m with celPos := n });
      s.scrubStopped = false → (s.rdB SCRUB_CFG.EN = true ∨ s.rdB REV_STAT.OPEN = true) → 0 < h.2.2.1 →
      (pos + 1 < (h.1 + h.2.1) * h.2.2.1 + h.2.2.2 → exec (.scrubStep tier) s = .next (on (pos + 1) visit)) ∧
      ((h.1 + h.2.1) * h.2.2.1 + h.2.2.2 ≤ pos + 1 → exec (.scrubStep tier) s = .next
        ((on 0 visit).cnt (if near then SCRUB_STAT.NEAR_PASSES else SCRUB_STAT.CELLAR_PASSES) 1))) ∧
    (s.scrubStopped = false →
      exec (.arrayScrub cl ⟨.spad, word⟩) s = .next (s.scrubRead (spadBase + cl.val * 0x400000 + 8 * word.toNat)) ∧
      (∀ k, s.lead ⟨2 * cl.val + k.val, by omega⟩ = cp → exec (.arrayScrub cl ⟨.pram k, word⟩) s =
        .next (s.scrubRead (pramBase + cp.val * 0x20000 + 8 * (word.toNat % 0x4000)))) ∧
      (∀ (k : Fin 2) (n : Reg) (e : Err), s.lead ⟨2 * cl.val + k.val, by omega⟩ = cp → word.toNat % 16 = n.val → (s.cp cp).a.d[n.val].err = e →
        (gridRead e (List.range 8)).poison = false → e ≠ Err.zero → ∃ t, exec (.arrayScrub cl ⟨.dRegs k, word⟩) s = .next t ∧
          ((t.cp cp).a.d[n.val]).err = (let d := (gridRead e (List.range 8)).left; if d.d = 0 ∧ d.c = 0 then Err.zero else d)) ∧
      (s.errs = [] → mapWf errDefault s.errs = true → exec (.arrayScrub cl ⟨.spadTags, word⟩) s = .next s)) ∧
    (s.scrubStopped = true → ∀ a, exec (.arrayScrub cl ⟨a, word⟩) s = .next s) ∧
    (s.rd (BKT_CFG.LEAK_MS b) ≠ 0 →
      exec (.bucketLeakTick b) s = .next (s.wr (BKT_STAT.COUNT b) (s.rd (BKT_STAT.COUNT b) - 1))) ∧
    (s.rd (BKT_CFG.LEAK_MS b) = 0 → exec (.bucketLeakTick b) s = .next s) ∧
    exec (.bktCfgWrite b v) s = .next (s.setReg (BKT_CFG.adr b) (v.setWidth 64))

/-- The stream network (R20 to R22, R27, R336 to R338): where units attach; a flit goes along its row and then along its column, each hop
nearer; a router forwards the first flit of the input that its round robin picks, in order, when the next queue has a free entry, and
nothing else; no queue holds more than its entries; a flit that a buffer read as uncorrectable arrives poisoned and spoils the access that it
belongs to. -/
def Sys2Proof.Clauses.MeshResults : Prop :=
  ∀ (s : State) (r : ClusterId) (port : MeshPort) (ch : Fin 8) (f : Flit) (inp : MeshPort) (u : MeshUnit) (n : Nat) (p : MeshPort),
    let inq (t : State) (k : Nat) : List Flit := mapGet (fun _ => []) t.mesh.inq k
    let outq (t : State) (k : Nat) : List Flit := mapGet (fun _ => []) t.mesh.outq k
    let wf (t : State) : Prop := mapWf (fun _ => ([] : List Flit)) t.mesh.inq = true ∧ mapWf (fun _ => ([] : List Flit)) t.mesh.outq = true
    let go : Instr := .flitForward r port ⟨ch, none, false⟩
    let dst := meshXY (unitRouter f.dst)
    (∀ q : Fin 4, unitRouter (.cc ⟨2 * q.val, by omega⟩) = 4 * q.val ∧ unitRouter (.cc ⟨2 * q.val + 1, by omega⟩) = 4 * q.val + 3 ∧
      unitRouter (.hub q) = 4 * q.val + 1) ∧
    (portOver port r.val = some (n, p) → portOver p n = some (r.val, port) ∧ meshHops r.val n = 1) ∧
    (flitOut f r.val = .unit f.dst → unitRouter f.dst = r.val) ∧
    (unitRouter f.dst ≠ r.val → ∃ n p, portOver (flitOut f r.val) r.val = some (n, p) ∧
      meshHops n (unitRouter f.dst) + 1 = meshHops r.val (unitRouter f.dst) ∧ ((meshXY r.val).1 ≠ dst.1 → (meshXY n).2 = (meshXY r.val).2)) ∧
    (wf s →
      ((∀ p ∈ inputsAt r.val, ∀ x, (inq s (inKey r.val p ch.val)).head? = some x → flitOut x r.val ≠ port) → exec go s = .next s) ∧
      (s.mesh.pick r.val port ch.val = some inp → inp ∈ inputsAt r.val ∧
        ∃ x, (inq s (inKey r.val inp ch.val)).head? = some x ∧ flitOut x r.val = port) ∧
      (s.mesh.pick r.val port ch.val = some inp → (inq s (inKey r.val inp ch.val)).head? = some f →
        (s.mesh.credit r.val port ch.val = false → exec go s = .next s) ∧
        (s.mesh.credit r.val port ch.val = true → ∃ t x, exec go s = .next t ∧ wf t ∧
          inq t (inKey r.val inp ch.val) = (inq s (inKey r.val inp ch.val)).tail ∧
          (portOver port r.val = some (n, p) → inq t (inKey n p ch.val) = inq s (inKey n p ch.val) ++ [x] ∧
            (inq t (inKey n p ch.val)).length ≤ linkEntries r.val n ∧
            ∀ k, k ≠ inKey r.val inp ch.val → k ≠ inKey n p ch.val → inq t k = inq s k) ∧
          (port = .unit u → outq t (outKey u ch.val) = outq s (outKey u ch.val) ++ [x] ∧
            (outq t (outKey u ch.val)).length ≤ unitEntries u ∧ ∀ k, k ≠ inKey r.val inp ch.val → inq t k = inq s k) ∧
          (s.armed 0x1B r.val = false → x = f ∧ t = { s with mesh := t.mesh }) ∧
          (s.armed 0x1B r.val = true → (gridRead s.injMask (List.range 8)).poison = true → x = { f with poison := true }))) ∧
      ((inq s (inKey (unitRouter f.src) (.unit f.src) ch.val)).length < unitEntries f.src →
        exec (.flitForward r port ⟨ch, some f, false⟩) s = exec go { s with mesh := { s.mesh with
          inq := mapInsert s.mesh.inq (inKey (unitRouter f.src) (.unit f.src) ch.val)
            (inq s (inKey (unitRouter f.src) (.unit f.src) ch.val) ++ [f]) } }) ∧
      (unitEntries f.src ≤ (inq s (inKey (unitRouter f.src) (.unit f.src) ch.val)).length →
        exec (.flitForward r port ⟨ch, some f, false⟩) s = exec go s) ∧
      (∀ rest, port = .unit u → outq s (outKey u ch.val) = f :: rest →
        exec (.flitForward r port ⟨ch, none, true⟩) s = exec go { s with mesh := { s.mesh with
          outq := if rest = [] then mapErase s.mesh.outq (outKey u ch.val) else mapInsert s.mesh.outq (outKey u ch.val) rest
          bad := if f.poison then s.mesh.bad ++ [if f.write then (f.dst, true) else (f.src, false)] else s.mesh.bad } }))

/-- The tag caches (R120, R330, R346): a fetch brings the line of the tags in, keeps at most what the cache of its controller holds and marks
a line that a write touches; a tag that is written reads back; with no error and no injection a read gives the tag and changes no tag, and
the poison of a line in the cache reads as a lost tag. -/
def Sys2Proof.Clauses.TagCacheResults : Prop :=
  ∀ (s : State) (key g : Nat) (dirty b : Bool) (e : TagLine),
    (∃ x ∈ (s.tagFetch key dirty).mst.tagc, x.key = key ∧ (dirty = true → x.dirty = true)) ∧
    ((s.mst.tagc.filter (fun x => tagCtl x.key == tagCtl key)).length ≤ tagWays key →
      ((s.tagFetch key dirty).mst.tagc.filter (fun x => tagCtl x.key == tagCtl key)).length ≤ tagWays key) ∧
    (s.errs = [] → s.rdB INJ_STAT.ARMED = false → s.mst.tagc.all (fun x => x.err == Err.zero && !x.bad) = true →
      (mapWf tagDefault s.tags = true → (s.writeTag g b).tagAt g = b ∧ ∀ k, k ≠ g → (s.writeTag g b).tagAt k = s.tagAt k) ∧
      (s.readTag g).1 = s.tagAt g ∧ (s.readTag g).2.tags = s.tags) ∧
    (s.rdB INJ_STAT.ARMED = false → (storeOf (16 * g) = .near ∨ storeOf (16 * g) = .cellar) →
      (s.tagFetch (s.tagPlace (16 * g)).1 false).mst.tagc.find? (fun x => x.key == (s.tagPlace (16 * g)).1) = some e → e.bad = true →
      (s.readTag g).1 = false)

/-- Injections (R370 to R373): ARM is refused for a Security point once debug is closed, and is without effect while armed;
DISARM disarms without firing. The raw window (R374) refuses without RAW_EN, and else reads or writes a unit of the target with
its check bits; a raw write of a scratchpad word reads back as it was given. -/
def Sys2Proof.Clauses.InjectionAndRawResults : Prop :=
  ∀ (s : State),
    let point := s.rd INJ_SEL.POINT
    let secure : Prop := 0x40 ≤ point ∧ point ≤ 0x45 ∧ s.rdB SEC_STAT.DBG_CLOSED = true
    let go := s.wr RAW_CTL.GO 0
    let a := s.rd RAW_ADDR.ADDR
    (s.rdB INJ_STAT.ARMED = true → exec .injArm s = .next s) ∧
    (s.rdB INJ_STAT.ARMED = false → secure → exec .injArm s = .next (s.wr INJ_STAT.REFUSED 1)) ∧
    (s.rdB INJ_STAT.ARMED = false → ¬ secure → point ≠ 0x22 → exec .injArm s = .next (s.wr INJ_STAT.ARMED 1)) ∧
    exec .injDisarm s = .next (s.wr INJ_STAT.ARMED 0) ∧
    (s.rdB ERR_CTL.RAW_EN = false → exec .rawAccess s = .next (go.wr RAW_CTL.ERR 1)) ∧
    (s.rdB ERR_CTL.RAW_EN = true → s.rd RAW_CTL.TARGET = 3 → exec .rawAccess s = .next (go.wr RAW_CTL.ERR 1)) ∧
    (s.rdB ERR_CTL.RAW_EN = true → s.rd RAW_CTL.TARGET = 0 → a < s.mst.nearGran * 65536 →
      exec .rawAccess s = .next (if s.rdB RAW_CTL.WRITE then go.rawWriteNear (a / 32 * 32) else go.rawReadNear (a / 32 * 32))) ∧
    (s.rdB ERR_CTL.RAW_EN = true → s.rd RAW_CTL.TARGET = 1 → celBase ≤ a → a < celBase + s.mst.celGran * 65536 →
      exec .rawAccess s = .next (if s.rdB RAW_CTL.WRITE then go.rawWriteCel (a / 64 * 64) else go.rawReadCel (a / 64 * 64))) ∧
    (s.rdB ERR_CTL.RAW_EN = true → s.rd RAW_CTL.TARGET = 2 → a < 0x4000000 → mapWf memDefault s.mem = true →
      mapWf errDefault s.errs = true →
      let k := spadBase + a / 8 * 8
      (s.rdB RAW_CTL.WRITE = false → exec .rawAccess s = .next ((go.setReg (RAW_DATA.adr 0)
        (BitVec.ofNat 64 (leNat ((List.range 8).map (fun i => go.rawByte (k + i)))) ^^^ (go.err (k / 8)).d)).setReg (RAW_CHECK.adr 0)
        ((gridCheckWord (BitVec.ofNat 64 (leNat ((List.range 8).map (fun i => go.rawByte (k + i))))) ^^^ (go.err (k / 8)).c).setWidth 64))) ∧
      (s.rdB RAW_CTL.WRITE = true → ∃ t, exec .rawAccess s = .next t ∧
        BitVec.ofNat 64 (leNat ((List.range 8).map (fun i => t.rawByte (k + i)))) = s.reg (RAW_DATA.adr 0) ∧
        (mapWf tagDefault s.tags = true → t.tagAt (k / 16) = false) ∧
        gridCheckWord (s.reg (RAW_DATA.adr 0)) ^^^ (t.err (k / 8)).c = (s.reg (RAW_CHECK.adr 0)).setWidth 48))

/-- The upkeep of memory (R315, R322 to R331, R335, R351, R362 to R366), the stream network (R20 to R22, R336 to R338),
injections and the raw window (R370 to R374). -/
def Obligations.UpkeepAndScrubResults : Prop :=
  Sys2Proof.Clauses.UpkeepResults ∧ Sys2Proof.Clauses.ScrubResults ∧ Sys2Proof.Clauses.MeshResults ∧ Sys2Proof.Clauses.TagCacheResults ∧ Sys2Proof.Clauses.InjectionAndRawResults

/-! ### The event router -/

/-- A producer line (R420, R423): within its refractory time it only counts; else every channel that merges it takes the event,
and every consumer whose selector names it takes it at once, holds it in its latch, or counts it lost. -/
def Sys2Proof.Clauses.EventDelivery : Prop :=
  ∀ (ck : PartId → State → State) (s : State) (line c : Nat),
    (∀ t, mapFind s.evt.fired line = some t → s.now < t + max 16 (s.rd (EVT_PROD.REFRACT_NS line)) →
      s.route ck line = s.cnt EVT_STAT.REFRACT 1) ∧
    (s.consumerBusy c = true → s.rdB (EVT_SEL.PEND c) = false → s.deliver ck c = s.wr (EVT_SEL.PEND c) 1) ∧
    (s.consumerBusy c = true → s.rdB (EVT_SEL.PEND c) = true → s.deliver ck c = s.cnt EVT_STAT.LOST 1) ∧
    (s.consumerBusy c = false → s.deliver ck c = s.consume ck c) ∧
    (mapFind s.evt.fired line = none → (∀ k, s.chanTakes k line = false) → s.consumersOf line = [c] → ∃ u,
      u = (s.modE (fun e => { e with fired := mapInsert e.fired line s.now })) ∧
      s.route ck line = (u.deliver ck c).groupEvent [line])

/-- The commands of the router (R421 to R424, R428 to R431): a commit takes a snapshot of the settings, refuses a reserved number
or an ungated loop and names where, and else puts the snapshot in force; a 1 in EVT_SWTRIG fires its line; a held event passes
when its gate reopens; a latch delivers; a pulse ends after its time. -/
def Sys2Proof.Clauses.EventCommandResults : Prop :=
  ∀ (s : State) (on : List (Nat × Word)) (n : Fin 64) (k : Fin 64) (pin : Fin 4) (g c : Nat) (consumer : BitVec 16),
    (s.rd EVT_COMMIT.STATE = 1 → exec .evtCommitGo s = .next s) ∧
    (s.rd EVT_COMMIT.STATE ≠ 1 →
      exec .evtCommitGo s = .next ((s.wr EVT_COMMIT.STATE 1).modE (fun e => { e with snap := some s.staged }))) ∧
    (let u := s.modE (fun e => { e with snap := none });
      s.evt.snap = some on →
      (reservedSetting on = some (some g) → exec .evtCommitDone s = .next
        (((u.wr EVT_COMMIT.STATE 3).wr EVT_COMMIT.RESULT 2).wr EVT_COMMIT.AT g)) ∧
      (reservedSetting on = some none → exec .evtCommitDone s = .next
        (((u.fresh.2.wr EVT_COMMIT.STATE 3).wr EVT_COMMIT.RESULT 2).wr EVT_COMMIT.AT u.fresh.1.toNat)) ∧
      (reservedSetting on = none → ungatedLoop on = some c → exec .evtCommitDone s = .next
        (((u.wr EVT_COMMIT.STATE 3).wr EVT_COMMIT.RESULT 1).wr EVT_COMMIT.AT c)) ∧
      (reservedSetting on = none → ungatedLoop on = none → exec .evtCommitDone s = .next
        ((((u.wr EVT_COMMIT.STATE 2).wr EVT_COMMIT.RESULT 0).wr EVT_COMMIT.AT 0).modE (fun e => { e with on := on })))) ∧
    (s.evt.snap = none → exec .evtCommitDone s = .next s) ∧
    exec (.evtSwtrig (1#64 <<< n.val)) s = .next (s.fire (0xC0 + n.val)) ∧
    exec (.evtSwtrig 0) s = .next s ∧
    (s.rdB (EVT_CH_STAT.HELD k) = true → s.rdB (EVT_GRP.EN (k.val / 8)) = true → s.chanFrozen k.val = false →
      exec (.rateGateReopen k) s = .next (((s.wr (EVT_CH_STAT.HELD k) 0).chanPass k).chanOut State.checkpointPart k)) ∧
    (s.rdB (EVT_CH_STAT.HELD k) = false → exec (.rateGateReopen k) s = .next s) ∧
    (consumerOk consumer.toNat = true → s.rdB (EVT_SEL.PEND consumer.toNat) = true → s.consumerBusy consumer.toNat = false →
      exec (.latchDelivery consumer) s = .next ((s.wr (EVT_SEL.PEND consumer.toNat) 0).consume State.checkpointPart consumer.toNat)) ∧
    (s.rdB (EVT_SEL.PEND (0x2090 + pin.val)) = false → exec (.evtOutPulseEnd pin) s = .next
      (s.modE (fun e => { e with pulse := setBitOf e.pulse pin.val false })))

/-- The event router (R420 to R431): how an event is delivered, and its commands. -/
def Obligations.EventRouterResults : Prop :=
  Sys2Proof.Clauses.EventDelivery ∧ Sys2Proof.Clauses.EventCommandResults

/-! ### The Kornoelm Work Transport -/

/-- Requests in sequence (R450, R452, R456, R467): a failed check is answered with its status; WRITE places its payload at the
token's cursor plus OFFSET; READ is recorded to be answered; SUBMIT fills the next slot of its queue set and advances HEAD; MGMT
and UPDATE are answered by the Custodian; CLOSE without an owed READ acknowledges and closes. RX_NEXT advances with each. -/
def Obligations.KwtRequestResults : Prop :=
  ∀ (s u w : State) (f : KwtFrame) (st : Byte) (sp : List (Nat × Nat)) (p : PartId),
    let n := f.session.toNat
    let as_ (op : Byte) : KwtFrame := { f with op := op }
    let e := u.tokEnt (f.token.toNat % 2 ^ 16)
    (st ≠ 0 →
      let no (op : Byte) : State := s.kwtServed (as_ op) ((u.advance n (as_ op)).resp n 0 f.seq st 0 0 [])
      (s.kwtServes (as_ 1) st u → exec (.kwtWrite f) s = .next (no 1)) ∧
      (s.kwtServes (as_ 2) st u → exec (.kwtRead f) s = .next (no 2)) ∧
      (s.kwtServes (as_ 3) st u → exec (.kwtSubmit f) s = .next (no 3))) ∧
    (s.kwtServes (as_ 1) 0 u → u.pages (u.engAccess ⟨e.part.val % 16, by omega⟩ true) (e.cursor + f.offset.toNat) f.len.toNat = (.ok sp, w) →
      exec (.kwtWrite f) s = .next (s.kwtServed (as_ 1) ((w.putSpans sp f.payload).advance n (as_ 1)))) ∧
    (∀ code info, s.kwtServes (as_ 1) 0 u →
      u.pages (u.engAccess ⟨e.part.val % 16, by omega⟩ true) (e.cursor + f.offset.toNat) f.len.toNat = (.fault code info, w) →
      exec (.kwtWrite f) s = .next (s.kwtServed (as_ 1) ((w.advance n (as_ 1)).resp n 0 f.seq stFault 0 0 []))) ∧
    (s.kwtServes (as_ 2) 0 u →
      exec (.kwtRead f) s = .next (s.kwtServed (as_ 2) ((u.advance n (as_ 2)).modSes n (fun x => { x with
        reads := x.reads ++ [⟨f.seq, ⟨e.part.val % 16, by omega⟩, e.cursor + f.offset.toNat, f.arg.toNat, 0⟩] })))) ∧
    (let q := e.qs.toNat
      let slots := u.rd (QS_CFG.SLOTS_M1 q) + 1
      let head := u.rd (QS_HEAD.HEAD q)
      let log := min 14 (max 8 (u.rd (QS_CFG.SLOTLOG q)))
      let ring := u.tokEnt (u.rd (QS_CFG.RING_IDX q))
      let off := head % slots * 2 ^ log
      s.kwtServes (as_ 3) 0 u → u.qsHome q = some p → bitOf (u.reg STRUCT_DRAIN.adr) p.val = false → u.rdB (QS_CTL.EN q) = true →
      f.len.toNat + 32 ≤ 2 ^ log → (head + 2 ^ 32 - u.rd (QS_TAIL.TAIL q)) % 2 ^ 32 < slots →
      ring.check (BitVec.ofNat 8 (u.rd (QS_CFG.RING_GEN q))) 1 p none off (2 ^ log) true = 0 →
      u.pages (u.engAccess p true) (ring.cursor + off) (u.slotBytes (as_ 3)).length = (.ok sp, w) →
      exec (.kwtSubmit f) s = .next (s.kwtServed (as_ 3)
        ((((w.putSpans sp (u.slotBytes (as_ 3))).wr (QS_HEAD.HEAD q) ((head + 1) % 2 ^ 32)).advance n (as_ 3)).thresh (as_ 3)))) ∧
    (s.kwtServes (as_ 5) 0 u → let a := u.cust (as_ 5)
      exec (.kwtMgmt f) s = .next (s.kwtServed (as_ 5)
        (a.after ((a.s.advance n (as_ 5)).resp n 0 f.seq a.status a.fab 0 a.payload)))) ∧
    (s.kwtServes (as_ 6) 0 u → let a := u.cust (as_ 6)
      exec (.kwtUpdate f) s = .next (s.kwtServed (as_ 6)
        (a.after ((a.s.advance n (as_ 6)).resp n 0 f.seq a.status a.fab 0 a.payload)))) ∧
    (s.kwtServes (as_ 0x11) 0 u → exec (.kwtClose f) s = .next (s.kwtServed (as_ 0x11) (((u.advance n (as_ 0x11)).ack n).dropSes n 1)))

/-- OPEN, ACK and the rules of sequence (R450 to R453): OPEN takes the frame's SEQ as RX_NEXT and a new TX_NEXT and answers; an ACK
frame releases what it acknowledges; a frame before RX_NEXT is counted and acknowledged, one 64 or more beyond it is dropped, one
with a wrong trailer is dropped with an ACK, and one of a session that is not OPEN is counted. -/
def Sys2Proof.Clauses.KwtSessionResults : Prop :=
  ∀ (s : State) (f : KwtFrame),
    let n := f.session.toNat
    let d := (f.seq - BitVec.ofNat 32 (s.rd (SESS_SEQ.RX_NEXT n))).toNat
    (s.portHears f.port = true → s.asleep = false → f.payload = [] → f.len = 0 → f.ver = 1 → n < 4096 →
      s.sessPort n f.port.val = true → s.sessState n ≠ 0 → f.trailer = 0 → (s.rd PAIR_STAT.ROLE = 3 → n < 16) →
      let c := s.dropSes n 2
      let tx := c.fresh.1.toNat % 2 ^ 32
      exec (.kwtOpen f) s = .next
        ((((((c.fresh.2.wr (SESS_SEQ.RX_NEXT n) f.seq.toNat).wr (SESS_SEQ.TX_NEXT n) tx).wr (SESS_ACK.DACK n) f.seq.toNat).modSes n
          (fun x => { x with peer := some ⟨f.port, f.sub, f.srcMac, f.srcIp, f.srcUdp⟩ })).emit n
            ⟨0x10, BitVec.ofNat 32 tx, 0, 0, BitVec.ofNat 64 (64 + s.net.inc.toNat * 2 ^ 16), []⟩))) ∧
    (s.hearsKwt f → f.trailer = trailerOf f.payload → s.armed 0x31 (s.rd INJ_SEL.INST) = false → (s.rd PAIR_STAT.ROLE = 3 → n < 16) →
      let v := (s.modSes n (fun x => { x with peer := some ⟨f.port, f.sub, f.srcMac, f.srcIp, f.srcUdp⟩ })).hostAck n f.ack f.offset
      exec (.kwtAck f) s = .next (v.kwtEnd n s.net.sent.length f)) ∧
    (s.hearsKwt f → f.trailer ≠ trailerOf f.payload → s.armed 0x31 (s.rd INJ_SEL.INST) = false →
      exec (.kwtAck f) s = .next (((s.cntSat KWT_STAT.CRCFAIL 1).bucket 17 1).ack n)) ∧
    (s.hearsKwt f → 2 ^ 31 ≤ d →
      exec (.kwtWrite f) s = .next ((s.cnt KWT_DUP.DUP 1).ack n) ∧ exec (.kwtMgmt f) s = .next ((s.cnt KWT_DUP.DUP 1).ack n)) ∧
    (s.hearsKwt f → 64 ≤ d → d < 2 ^ 31 →
      exec (.kwtRead f) s = .next (s.cntSat KWT_STAT.BADSEQ 1) ∧ exec (.kwtUpdate f) s = .next (s.cntSat KWT_STAT.BADSEQ 1)) ∧
    (s.portHears f.port = true → s.asleep = false → s.sessState n ≠ 2 →
      exec (.kwtClose f) s = .next (s.cntSat KWT_STAT.NOSESS 1) ∧ exec (.kwtSubmit f) s = .next (s.cntSat KWT_STAT.NOSESS 1)) ∧
    (s.portHears f.port = false → exec (.kwtWrite f) s = .next s ∧ exec (.kwtOpen f) s = .next s)

/-- A session's own events (R450, R452, R453, R456, R480): a piece of an owed READ leaves as a RESP with its offset, LAST on the last;
a delayed ACK leaves; a frame without an ACK is sent again with RETX, until RETRIES break the session; a CLOSE that waited
completes; SESS_CTL enables, disables and commits. -/
def Sys2Proof.Clauses.KwtSessionEvents : Prop :=
  ∀ (s w : State) (n : SessId) (q : BitVec 32) (v : BitVec 2) (j : ReadJob) (rest : List ReadJob) (sp : List (Nat × Nat))
    (bs : List Byte) (x : State) (r : TxRec),
    ((s.ses n.val).closing = true → (s.ses n.val).reads = [] → s.sessState n.val = 2 →
      exec (.sessionCloseComplete n) s = .next ((s.ack n.val).dropSes n.val 1)) ∧
    ((s.ses n.val).closing = false → exec (.sessionCloseComplete n) s = .next s) ∧
    (let k := min 8192 (j.len - j.pos);
      (s.ses n.val).reads = j :: rest → s.pages (s.engAccess j.part false) (j.base + j.pos) k = (.ok sp, w) →
      w.getSpans sp = (false, bs, x) →
      exec (.readRespPiece n) s = .next (if j.len ≤ j.pos + k then
          (x.modSes n.val (fun y => { y with reads := rest })).resp n.val 4 j.seq 0 0 j.pos bs
        else (x.modSes n.val (fun y => { y with reads := { j with pos := j.pos + k } :: rest })).resp n.val 0 j.seq 0 0 j.pos bs)) ∧
    (let k := min 8192 (j.len - j.pos);
      (s.ses n.val).reads = j :: rest → s.pages (s.engAccess j.part false) (j.base + j.pos) k = (.ok sp, w) →
      w.getSpans sp = (true, bs, x) →
      exec (.readRespPiece n) s = .next ((x.modSes n.val (fun y => { y with reads := rest })).resp n.val 0 j.seq stPoison 0 j.pos [])) ∧
    ((s.ses n.val).reads = [] → exec (.readRespPiece n) s = .next s) ∧
    (s.sessState n.val = 2 → (s.ses n.val).firstAt ≠ none → s.sec.sys ≠ .sleep → s.shed < 7 →
      exec (.ackDelayExpiry n) s = .next (s.ack n.val)) ∧
    (s.sessTimed n.val = true → (s.ses n.val).out.find? (fun r => r.f.seq == q) = some r →
      (s.rd KWT_CFG.RETRIES ≤ r.tries → exec (.retransmissionTimeout n q) s = .next (s.dropSes n.val 3)) ∧
      (r.tries < s.rd KWT_CFG.RETRIES → exec (.retransmissionTimeout n q) s = .next
        ((s.modSes n.val (fun y => { y with out := y.out.map (fun z => if z.f.seq = q then { z with tries := z.tries + 1, last := s.now } else z) })).emit
          n.val { r.f with flags := setBitOf r.f.flags 5 true }))) ∧
    (16 ≤ n.val → bitOf v 0 = true → s.sessState n.val = 0 → exec (.sessCtlWrite n v) s = .next
      (((s.wrB (SESS_CTL.OUTCOMMIT n) (bitOf v 1)).wr (SESS_CTL.EN n) 1).wr (SESS_STAT.STATE n) 1)) ∧
    (16 ≤ n.val → bitOf v 0 = true → s.sessState n.val ≠ 0 → exec (.sessCtlWrite n v) s = .next
      ((s.wrB (SESS_CTL.OUTCOMMIT n) (bitOf v 1)).wr (SESS_CTL.EN n) 1)) ∧
    (16 ≤ n.val → bitOf v 0 = false → exec (.sessCtlWrite n v) s = .next
      (((s.wrB (SESS_CTL.OUTCOMMIT n) (bitOf v 1)).wr (SESS_CTL.EN n) 0).dropSes n.val 0)) ∧
    (n.val < 16 → exec (.sessCtlWrite n v) s = .next (s.wrB (SESS_CTL.OUTCOMMIT n) (bitOf v 1)))

/-- Sessions of the transport (R450 to R453, R456, R480). -/
def Obligations.TransportSessionResults : Prop :=
  Sys2Proof.Clauses.KwtSessionResults ∧ Sys2Proof.Clauses.KwtSessionEvents

/-- Tokens and NOTIFY (R459 to R461, R469): BIND of a tagged, unsealed capability with NETWORK and the rights asked for takes the
lowest index that is free and whose GEN is not 0xFF, and gives the token; a failed check gives its RESULT; UNBIND clears VALID and
advances GEN; a NOTIFY is queued while fewer than 16 wait, and leaves when its token, session and length pass. -/
def Obligations.TokenResults : Prop :=
  ∀ (s u v w x : State) (p : PartId) (tp : Fin 17) (key : Nat) (tag : Bool) (i : Nat) (idx : BitVec 16) (qs : BitVec 8) (arg : Word),
    let a := s.rd (TOK_ADDR.ADDR tp)
    let rights := s.rd (TOK_CFG.RIGHTS tp)
    let k : Cap := ⟨BitVec.ofNat 128 (leNat (w.bytesAt key 16)), tag⟩
    let no (r : Nat) : State := (w.wr (TOK_STAT.STATE tp) 3).wr (TOK_STAT.RESULT tp) r
    (tp.val = 16 → exec (.tokenBind tp) s = .next ((s.wr (TOK_STAT.STATE tp) 3).wr (TOK_STAT.RESULT tp) 5)) ∧
    (tp.val = p.val → a % 16 ≠ 0 → s.translate (s.engAccess p false) a = (.ok key, u) →
      exec (.tokenBind tp) s = .next ((u.wr (TOK_STAT.STATE tp) 3).wr (TOK_STAT.RESULT tp) 5)) ∧
    (tp.val = p.val → a % 16 = 0 → s.translate (s.engAccess p false) a = (.ok key, u) → u.readBy none key 16 = (none, v) →
      v.readTag (key / 16) = (tag, w) →
      (tag = false → exec (.tokenBind tp) s = .next (no 1)) ∧
      (tag = true → k.otype ≠ 0 → exec (.tokenBind tp) s = .next (no 2)) ∧
      (tag = true → k.otype = 0 → (k.has permNetwork = false ∨ (rights % 2 = 1 ∧ k.has permR = false) ∨ (2 ≤ rights ∧ k.has permW = false)) →
        exec (.tokenBind tp) s = .next (no 3)) ∧
      (tag = true → k.otype = 0 → k.has permNetwork = true → (rights % 2 = 1 → k.has permR = true) → (2 ≤ rights → k.has permW = true) →
        (List.range 65535).find? (fun i => let e := w.tokEnt (i + 1); !e.valid && e.gen != 0xFF) = none →
        exec (.tokenBind tp) s = .next (no 4)) ∧
      (tag = true → k.otype = 0 → k.has permNetwork = true → (rights % 2 = 1 → k.has permR = true) → (2 ≤ rights → k.has permW = true) →
        (List.range 65535).find? (fun i => let e := w.tokEnt (i + 1); !e.valid && e.gen != 0xFF) = some i →
        let e : TokEnt :=
          ⟨true, (w.tokEnt (i + 1)).gen, tp, BitVec.ofNat 3 rights, k.cursor, k.base, k.top,
           BitVec.ofNat 8 (64 * w.rd (TOK_CFG.PORT tp) + w.rd (TOK_CFG.QS tp)),
           if w.rdB (TOK_CFG.ANYSESS tp) then none else some (BitVec.ofNat 12 (w.rd (TOK_CFG.SESSION tp)))⟩
        let tk := leNat (tokenBytes w.net.tokKey (i + 1) (BitVec.ofNat 3 rights) e.gen)
        exec (.tokenBind tp) s = .next (((((w.setTok (i + 1) e).wr (TOK_STAT.STATE tp) 2).wr (TOK_STAT.RESULT tp) 0).setReg
          (TOK_OUT.adr tp 0) (BitVec.ofNat 64 tk)).setReg (TOK_OUT.adr tp 1) (BitVec.ofNat 64 (tk / 2 ^ 64))))) ∧
    (let e := s.tokEnt idx.toNat
      let t := if e.valid = true ∧ e.part = tp then s.setTok idx.toNat { e with valid := false, gen := e.gen + 1 } else s
      exec (.tokenUnbind tp idx) s = .next ((t.wr (TOK_STAT.STATE tp) 2).wr (TOK_STAT.RESULT tp) 0)) ∧
    (let q := mapGet (fun _ => []) s.net.notify qs.toNat;
      (16 ≤ q.length → exec (.notifyQueue qs arg) s = .next (s.wr (QS_CTL.NFULL qs.toNat) 1)) ∧
      (q.length < 16 → exec (.notifyQueue qs arg) s = .next (s.modN (fun e => { e with
        notify := mapPut (fun _ => []) e.notify qs.toNat (q ++ [⟨s.reg (QS_NOTIFY.adr qs.toNat 0), s.reg (QS_NOTIFY.adr qs.toNat 1),
          s.reg (QS_NOTIFY.adr qs.toNat 2), arg⟩]) }))) ∧
      ∀ d rest port sp bs, q = d :: rest → s.qsHome qs.toNat = some p →
        let t := s.modN (fun e => { e with notify := mapPut (fun _ => []) e.notify qs.toNat rest })
        let n := nbits d.w0.toNat 24 16
        let e := s.tokEnt (nbits d.w0.toNat 0 16)
        let st := e.check (BitVec.ofNat 8 (nbits d.w0.toNat 16 8)) 0 p (some n) (nbits d.w1.toNat 0 48) (nbits d.w2.toNat 0 14) true;
        (st = stToken → exec (.notifySend qs) s = .next ((t.wr (QS_CTL.NERR qs.toNat) st.toNat).wr (QS_CTL.NERR_V qs.toNat) 1)) ∧
        (st = 0 → s.sessHome n = some (p, port) → (∀ y, port = some y → y = qs.toNat / 64) → s.sessState n = 2 →
          nbits d.w2.toNat 0 14 ≤ 8192 →
          t.pages (t.engAccess p false) (e.cursor + nbits d.w1.toNat 0 48) (nbits d.w2.toNat 0 14) = (.ok sp, u) →
          u.getSpans sp = (false, bs, x) → exec (.notifySend qs) s = .next (x.sendSeq n 0x04 0 0 d.w3 bs)))

/-! ### DMA engines, Ethernet ports, the time base -/

/-- The firmware queue of a DMA engine (R460, R471 to R474, R483): it holds 16 descriptors; the head starts once its trigger has
come, after the checks of its fields and tokens, and a failed check ends it; what it moved is counted and its status is given; a
descriptor that copies leaves the CRC of its bytes in CU_VAL; RESUME, FLUSH and CU_VAL act as R473 and R474 say. -/
def Obligations.DmaResults : Prop :=
  ∀ (s : State) (n : EngId) (w3 v : Word) (p : PartId) (d : Desc) (rest : List Desc),
    let e := s.net.de[n.val]
    let idle : Prop := e.run = false ∧ s.rdB (DE_STAT.HALTED n) = false ∧ s.deFrozen n = false ∧ s.evt.dark = false
    let poly := s.rd (CU_CFG.POLY n)
    (16 ≤ e.queue.length → exec (.dmaDescriptorQueue n w3) s = .next (s.wr (DE_STAT.OVF n) 1)) ∧
    (e.queue.length < 16 → exec (.dmaDescriptorQueue n w3) s = .next (s.modDe n (fun d => { d with
      queue := d.queue ++ [⟨s.reg (DE_DESC.adr n 0), s.reg (DE_DESC.adr n 1), s.reg (DE_DESC.adr n 2), w3⟩] }))) ∧
    (e.queue = d :: rest → s.partOf n = some p →
      (idle → d.hold = true → bitOf s.evt.deTrig n.val = false → exec (.dmaDescriptorStart n) s = .next s) ∧
      (idle → d.hold = false → s.deCheck p poly d ≠ 0 →
        exec (.dmaDescriptorStart n) s = .next (s.deEnd n (s.deCheck p poly d) 0)) ∧
      (idle → d.hold = false → s.deCheck p poly d = 0 →
        let t := (s.modDe n (fun x => { x with run := true, poly := BitVec.ofNat 2 poly })).modE (fun e =>
          { e with deRun := setBitOf e.deRun n.val true })
        exec (.dmaDescriptorStart n) s = .next (
          if d.crc = 1 ∨ d.crc = 3 ∨ d.crc = 5 then t.setReg (CU_VAL.adr n) (BitVec.ofNat 64 (crcInit poly)) else t)) ∧
      (idle → d.hold = true → bitOf s.evt.deTrig n.val = true →
        let t := s.modE (fun e => { e with deTrig := setBitOf e.deTrig n.val false })
        s.deCheck p poly d ≠ 0 → exec (.dmaDescriptorStart n) s = .next (t.deEnd n (s.deCheck p poly d) 0)) ∧
      (e.run = true → s.deFrozen n = false →
        let src := (s.tokEnt (nbits d.w0.toNat 0 16)).cursor + nbits d.w1.toNat 0 48
        let dst := (s.tokEnt (nbits d.w0.toNat 32 16)).cursor + nbits d.w2.toNat 0 48
        let r := deCopy p e.poly.toNat d.nodata src dst d.len (d.len / 32768 + 4)
          ⟨0, s.rd (CU_VAL.VAL n) % 2 ^ (8 * crcLen e.poly.toNat), 0, s⟩
        let k := crcLen e.poly.toNat
        let crc := crcBytes e.poly.toNat (r.crc ^^^ crcXorOut e.poly.toNat)
        let w := if d.crc = 0 then r.s else r.s.setReg (CU_VAL.adr n) (BitVec.ofNat 64 r.crc)
        (r.st ≠ 0 → exec (.dmaDescriptorComplete n) s = .next (w.deEnd n r.st r.done)) ∧
        (r.st = 0 → w.armed 0x31 n.val = false →
          (d.crc < 3 → exec (.dmaDescriptorComplete n) s = .next (w.deEnd n 0 r.done)) ∧
          (∀ sp x, d.crc = 3 ∨ d.crc = 4 → d.nodata = false → w.pages (w.engAccess p true) (dst + d.len) k = (.ok sp, x) →
            exec (.dmaDescriptorComplete n) s = .next ((x.putSpans sp crc).deEnd n 0 r.done)) ∧
          (∀ sp x bs y, 5 ≤ d.crc →
            (w.cnt (CU_STAT.CHECKS n) 1).pages ((w.cnt (CU_STAT.CHECKS n) 1).engAccess p false) (src + d.len) k = (.ok sp, x) →
            x.getSpans sp = (false, bs, y) →
            exec (.dmaDescriptorComplete n) s = .next (if bs = crc then y.deEnd n 0 r.done
              else ((y.wr (CU_STAT.MISMATCH n) 1).bucket 17 1).deEnd n stCrc r.done))))) ∧
    exec (.deResume n) s = .next (s.wr (DE_STAT.HALTED n) 0) ∧
    (e.run = false → exec (.deFlush n) s = .next (s.modDe n (fun d => { d with queue := [] }))) ∧
    (e.run = true → e.queue = d :: rest → exec (.deFlush n) s = .next (s.modDe n (fun d => { d with queue := d.queue.take 1 }))) ∧
    (e.run = true → e.queue = d :: rest → d.crc ≠ 0 → exec (.cuValWrite n v) s = .next (s.wr (CU_STAT.WRBUSY n) 1)) ∧
    ((e.run = false ∨ e.queue = [] ∨ (e.queue = d :: rest ∧ d.crc = 0)) → exec (.cuValWrite n v) s = .next
      (s.setReg (CU_VAL.adr n) (BitVec.ofNat 64 (v.toNat % 2 ^ (8 * crcLen poly)))))

/-- What a port answers itself (R438, R440, R442): ARP, neighbour solicitations and echo requests for its own addresses; frames that
fail a check of stage 1 are counted and dropped; a KWT datagram reaches the transport engine. -/
def Sys2Proof.Clauses.EthernetFrames : Prop :=
  ∀ (s w : State) (f : EthFrame) (v6 plain zero ok : Bool) (dst : BitVec 16) (a4 : BitVec 32) (a6 : BitVec 128) (k : KwtFrame),
    let p := f.port.val
    let c := s.fecCorr p
    let long : Prop := s.rd (ETH_CFG.MAXFRAME p) + (if f.secured then 32 else 0) < f.size.toNat
    let open_ : Prop := s.rdB (ETH_MACSEC.REQUIRE p) = false ∧ f.secured = false
    (s.portHears f.port = true → s.armed 0x30 p = false →
      (f.fecOk = false → exec (.frameReceive f) s = .next (((c.cnt (ETH_FEC.UNCORR p) 1).cntSat (ETH_RXDROP.FCS p) 1).bucket 17 1)) ∧
      (f.fecOk = true → (f.fcsOk = false ∨ f.size.toNat < 64 ∨ long) → exec (.frameReceive f) s = .next (c.cntSat (ETH_RXDROP.FCS p) 1)) ∧
      (f.fecOk = true → f.fcsOk = true → 64 ≤ f.size.toNat → ¬ long →
        (64 ≤ (s.net.rxLevel[f.port.val]).toNat → exec (.frameReceive f) s = .next (c.cntSat (ETH_RXDROP.OVERRUN p) 1)) ∧
        ((s.net.rxLevel[f.port.val]).toNat < 64 → open_ → s.stage1 f = (true, c)) ∧
        ((s.net.rxLevel[f.port.val]).toNat < 64 → s.rdB (ETH_MACSEC.REQUIRE p) = true → f.secured = false →
          exec (.frameReceive f) s = .next (c.cntSat (ETH_RXDROP.MACSEC p) 1)))) ∧
    (s.portHears f.port = false → exec (.frameReceive f) s = .next s) ∧
    (s.portHears f.port = true → s.stage1 f = (true, w) →
      (f.body = .arp a4 → a4.toNat = w.rd (ETH_IPV4.ADDR f.port) → exec (.arpRequest f) s = .next (w.leave (.arp f.port f.sub f.srcMac))) ∧
      (f.body = .arp a4 → a4.toNat ≠ w.rd (ETH_IPV4.ADDR f.port) → exec (.arpRequest f) s = .next (w.cntSat (ETH_RXDROP.OTHER f.port) 1)) ∧
      (f.body = .neighbour a6 → a6 = w.ip6 f.port →
        exec (.neighbourSolicitation f) s = .next (w.leave (.neighbour f.port f.sub f.srcMac))) ∧
      (f.body = .neighbour a6 → a6 ≠ w.ip6 f.port → exec (.neighbourSolicitation f) s = .next (w.cntSat (ETH_RXDROP.OTHER f.port) 1)) ∧
      (f.body = .echo v6 → w.asleep = false → w.rdB KWT_CFG.ICMP = true → f.dstMac = w.subMac f.port f.sub →
        (if v6 then f.dstIp = w.ip6 f.port else f.dstIp.toNat = w.rd (ETH_IPV4.ADDR f.port)) →
        exec (.icmpEcho f) s = .next (w.leave (.echo f.port f.sub f.srcMac))) ∧
      (f.body = .echo v6 → w.asleep = true → exec (.icmpEcho f) s = .next w) ∧
      (f.body = .udp v6 plain dst zero ok k → w.udpOk f v6 plain dst zero ok = true →
        exec (.frameReceive f) s = .next (w.kwtRx { k with port := f.port, sub := f.sub, srcMac := f.srcMac })) ∧
      (f.body = .udp v6 plain dst zero ok k → w.udpOk f v6 plain dst zero ok = false →
        exec (.frameReceive f) s = .next (w.cntSat (ETH_RXDROP.OTHER f.port) 1)) ∧
      (f.body = .other → exec (.frameReceive f) s = .next (w.cntSat (ETH_RXDROP.OTHER f.port) 1)))

/-- Flow control, links and the time base (R436, R439, R441, R444, R478): PAUSE pauses every priority or none, a priority's pause
ends with its time, the receive queue sends XOFF at 48 and XON at 16; a link change sets its status and LINKCHG and fires its line;
an offset or a step moves the time base, and a second boundary starts a second and fires line 0x264. -/
def Sys2Proof.Clauses.PortEventResults : Prop :=
  ∀ (s : State) (port : PortId) (prio sub : Fin 8) (mask : BitVec 8) (quanta : Vector (BitVec 16) 8) (level : BitVec 7) (up reversed : Bool)
    (lanes : BitVec 4) (offset : BitVec 64) (step : BitVec 32),
    let p := port.val
    let xoff (b : Bool) (s : State) : State := s.modN (fun e => { e with xoff := setBitOf e.xoff p b })
    let moved (d : Int) : State :=
      let n := (((s.rd PTP_SEC.SEC * 1000000000 + s.rd PTP_NS.NS : Nat) + d) % (2 ^ 48 * 1000000000)).toNat
      (s.wr PTP_SEC.SEC (n / 1000000000)).wr PTP_NS.NS (n % 1000000000)
    (s.rdB (ETH_CFG.EN p) = true → s.rd (ETH_CFG.PFC_EN p) = 0 → s.rdB (ETH_CFG.PAUSE_EN p) = true →
      exec (.pauseFrame port false mask quanta) s = .next
        ((s.wr (ETH_STAT.PAUSED p) (if quanta[0] = 0 then 0 else 0xFF)).flushPort p)) ∧
    (s.rdB (ETH_CFG.EN p) = true → s.rd (ETH_CFG.PFC_EN p) ≠ 0 → ∃ v : BitVec 8,
      exec (.pauseFrame port true mask quanta) s = .next ((s.wr (ETH_STAT.PAUSED p) v.toNat).flushPort p) ∧
      ∀ i : Fin 8, bitOf v i.val = if bitOf (BitVec.ofNat 8 (s.rd (ETH_CFG.PFC_EN p)) &&& mask) i.val then quanta[i.val] != 0
        else bitOf (BitVec.ofNat 8 (s.rd (ETH_STAT.PAUSED p))) i.val) ∧
    (s.rdB (ETH_CFG.EN p) = false → ∀ pfc, exec (.pauseFrame port pfc mask quanta) s = .next s) ∧
    exec (.pauseTimeExpiry port prio) s = .next
      ((s.wr (ETH_STAT.PAUSED p) (setBitOf (BitVec.ofNat 8 (s.rd (ETH_STAT.PAUSED p))) prio.val false).toNat).flushPort p) ∧
    (let q := s.modN (fun e => { e with rxLevel := vecUpd e.rxLevel port (fun _ => level) });
      ((s.rdB (ETH_CFG.PAUSE_EN p) = true ∨ s.rd (ETH_CFG.PFC_EN p) ≠ 0) →
        (48 ≤ level.toNat → bitOf s.net.xoff p = false →
          exec (.receiveQueueFlowControl port level) s = .next ((xoff true q).leave (.pause port true))) ∧
        (level.toNat ≤ 16 → bitOf s.net.xoff p = true →
          exec (.receiveQueueFlowControl port level) s = .next ((xoff false q).leave (.pause port false))) ∧
        ((16 < level.toNat ∨ bitOf s.net.xoff p = false) → (level.toNat < 48 ∨ bitOf s.net.xoff p = true) →
          exec (.receiveQueueFlowControl port level) s = .next q)) ∧
      (s.rdB (ETH_CFG.PAUSE_EN p) = false → s.rd (ETH_CFG.PFC_EN p) = 0 → exec (.receiveQueueFlowControl port level) s = .next q)) ∧
    exec (.linkStateChange port sub up lanes reversed) s = .next
      (((((((s.wr (ETH_STAT.LINK p) (setBitOf (BitVec.ofNat 8 (s.rd (ETH_STAT.LINK p))) sub.val up).toNat).wr (ETH_STAT.FEC_LOCK p)
        (setBitOf (BitVec.ofNat 8 (s.rd (ETH_STAT.FEC_LOCK p))) sub.val up).toNat).wr (ETH_STAT.LANES p) lanes.toNat).wrB
        (ETH_STAT.REVERSED p) reversed).wr (ETH_STAT.LINKCHG p) 1)).fire (0x260 + p)) ∧
    (p = s.sec.set.ptpPort.toNat → s.portHears port = true → exec (.ptpMessage port offset) s = .next (moved (-offset.toInt))) ∧
    exec (.ptpStep step) s = .next (moved step.toInt) ∧
    exec .ptpSecondBoundary s = .next (((s.wr PTP_SEC.SEC ((s.rd PTP_SEC.SEC + 1) % 2 ^ 48)).wr PTP_NS.NS 0).fire 0x264)

/-- The Ethernet ports and the time base (R436 to R444, R478). -/
def Obligations.PortResultsOfEthernet : Prop :=
  Sys2Proof.Clauses.EthernetFrames ∧ Sys2Proof.Clauses.PortEventResults

/-! ### The fast matrix, debug port, contacts -/

/-- The fast matrix (R27, R409, R410, R412, R416 to R418): a port performs the request that it grants, while its crossing queue has room: an
aged request first, the oldest before the others, and else one of the highest priority; a master whose queue is full stalls; a read without
CONSUME from the debug port takes no read side effect, a response reaches its master, and a timeout answers 4, counts and captures the first; an
access by command is performed at its target and answered with its status. -/
def Sys2Proof.Clauses.MatrixResults : Prop :=
  ∀ (s : State) (port : Fin 35) (r : FabReq) (m : Fin 37) (id : Fin 32) (t : FabTx) (addr : BitVec 32) (v : Word) (consume : Bool),
    (s.fab.wait = [] → s.outstanding r.m.val < (if r.m.val = 34 then 8 else 32) → s.portRoom port.val = true → fabPort r = port.val →
      exec (.fabricTransaction port (some r)) s = .next ((s.modFab (fun f => { f with wait := [] })).fabPerform port.val r)) ∧
    ((if r.m.val = 34 then 8 else 32) ≤ s.outstanding r.m.val →
      exec (.fabricTransaction port (some r)) s = exec (.fabricTransaction port none) s) ∧
    ((s.fabGrant port.val = none ∨ s.portRoom port.val = false) → exec (.fabricTransaction port none) s = .next s) ∧
    (∀ x, s.portRoom port.val = true → s.fabGrant port.val = some x → exec (.fabricTransaction port none) s =
      .next ((s.modFab (fun f => { f with wait := f.wait.filter (fun y => y != x) })).fabPerform port.val x.1)) ∧
    (∀ x, s.fabGrant port.val = some x → x ∈ s.fabHeads port.val ∧
      let aged (y : FabReq × Nat) : Prop := max 1 (s.rd FAB_AGE.CYC) ≤ s.now - y.2
      ((∃ y ∈ s.fabHeads port.val, aged y) → aged x ∧ ∀ y ∈ s.fabHeads port.val, aged y → x.2 ≤ y.2) ∧
      ((∀ y ∈ s.fabHeads port.val, ¬ aged y) → ∀ y ∈ s.fabHeads port.val, s.fabPrio port.val y.1.m.val ≤ s.fabPrio port.val x.1.m.val)) ∧
    (s.fabDue m id = some t →
      exec (.fabricResponse m id) s = .next (s.modFab (fun f => { f with
        due := f.due.erase t, got := f.got ++ [(t.req.m.val, t.req.id.val, t.status, if t.req.write then 0 else t.data)] })) ∧
      (let c := s.cntSat (FAB_ERR.COUNT 1) 1;
        exec (.fabricTimeout m id) s = .next ((if s.rdB (FAB_ERR.VALID 1) then c else
          (((c.wr (FAB_ERR.ADDR 1) t.req.addr.toNat).wr (FAB_ERR.MASTER 1) m.val).wrB (FAB_ERR.WRITE 1) t.req.write).wr (FAB_ERR.VALID 1) 1).modFab
            (fun f => { f with due := f.due.erase t, got := f.got ++ [(t.req.m.val, t.req.id.val, 4, 0)] })))) ∧
    (let q := s.csRead m.val (s.masterPart m) (m.val != 35 || consume) addr.toNat;
      exec (.readClear addr m consume) s = .next (q.2.2.modFab (fun f => { f with got := f.got ++ [(m.val, 0, q.1, q.2.1)] }))) ∧
    (let q := s.csWrite m.val (s.masterPart m) addr.toNat v;
      exec (.registerWrite addr m v) s = .next (q.2.modFab (fun f => { f with got := f.got ++ [(m.val, 0, q.1, 0)] })))

/-- The Two-Wire Debug port (R591, R593 to R597): silent once debug is closed or for another start byte; a parity error is recorded
and refused; a write whose CRC fails is discarded and recorded; the first packet of a read is told to retry and the same packet
again gets the result; LINE_RESET clears the pending read and keeps the sticky flags; ATTACH lets the debugger in. -/
def Sys2Proof.Clauses.DebugPortResults : Prop :=
  ∀ (s : State) (k : TwdPacket),
    let tag := nbits k.header.toNat 1 4
    let op := nbits k.header.toNat 5 2
    let say (t : State) (st : Nat) (d : Option (Word × BitVec 16)) : State :=
      { t with twd := { t.twd with resp := some (BitVec.ofNat 4 tag, BitVec.ofNat 4 st, d) } }
    let here : Prop := s.twdOpen = true ∧ k.header.toNat / 256 = 0xD2
    let good : Prop := here ∧ twdParity k.header = true ∧ s.twdBarred k.addr.toNat = false
    (¬ here → exec (.twdPacket k) s = .next { s with twd := { s.twd with resp := none } }) ∧
    (here → twdParity k.header = false → exec (.twdPacket k) s = .next (say (s.wr TWD_STAT.PAR_ERR 1) 0xC none)) ∧
    (here → twdParity k.header = true → op = 3 → exec (.twdPacket k) s = .next (say s 0xC none)) ∧
    (here → twdParity k.header = true → op = 0 → s.twdBarred k.addr.toNat = true → exec (.twdPacket k) s = .next (say s 0xC none)) ∧
    (good → op = 0 → bitOf k.header 7 = false → k.crc ≠ twdCrc k.header k.addr k.data →
      exec (.twdPacket k) s = .next ((say s 0x6 none).wr TWD_STAT.CRC_ERR 1)) ∧
    (good → op = 0 → bitOf k.header 7 = false → k.crc = twdCrc k.header k.addr k.data →
      let q := (say s 0x6 none).csWrite 35 none k.addr.toNat k.data
      exec (.twdPacket k) s = .next (if q.1 = 0 then q.2 else (q.2.wr TWD_STAT.FAB_ERR 1).wr TWD_STAT.FSTATUS q.1)) ∧
    (good → (op = 0 ∨ op = 2) → bitOf k.header 7 = true → s.twd.kept = none →
      let q := s.csRead 35 none (op == 2) k.addr.toNat
      let t : State := { q.2.2 with twd := { q.2.2.twd with kept := some (k.header, k.addr, q.1, q.2.1) } }
      exec (.twdPacket k) s = .next (say t 0x9 none)) ∧
    (here → twdParity k.header = true → op = 1 → s.twdReg k.addr.toNat = none → exec (.twdPacket k) s = .next (say s 0xC none)) ∧
    (∀ v, here → twdParity k.header = true → op = 1 → bitOf k.header 7 = true → s.twdReg k.addr.toNat = some v →
      exec (.twdPacket k) s = .next (say s 0x6 (some (v, twdCrc k.header k.addr v)))) ∧
    (good → (op = 0 ∨ op = 2) → bitOf k.header 7 = true → ∀ v, s.twd.kept = some (k.header, k.addr, 0, v) →
      exec (.twdPacket k) s = .next (say s 0x6 (some (v, twdCrc k.header k.addr v)))) ∧
    exec .lineReset s = .next { s with twd := ⟨none, none⟩ } ∧
    (s.twdOpen = true → exec (.twdAttach true) s = .next
      (((s.wr TWD_CTL.ATTACH 1).wr SEC_STAT.DBG_ATTACHED 1).modSec (fun e => { e with attachedEver := true }))) ∧
    (s.twdOpen = false → ∀ on, exec (.twdAttach on) s = .next s)

/-- The fast matrix and the Two-Wire Debug port (R409 to R418, R590 to R597). -/
def Obligations.FabricAndDebugPortResults : Prop :=
  Sys2Proof.Clauses.MatrixResults ∧ Sys2Proof.Clauses.DebugPortResults

/-- Contacts and sideband buses (R420, R638 to R646): a bus runs after its probe, and one whose lines fail, or that loses arbitration
three times, is disabled with the reason; the status block and IDK_HASH are given on SB7; an output that reads back wrong is noted
once; an edge fires the line that its selection names; an armed injection whose operation is the passing of time fires. -/
def Obligations.ContactResults : Prop :=
  ∀ (s : State) (bus : Fin 8) (r : ProbeResult) (n : Fin 4) (g : Fin 16) (rising : Bool),
    let off := ((s.wr (SB_STAT.RISE_NS bus) r.riseNs.toNat).busOff bus.val)
    (s.wired = true → s.rd (SB_STAT.STATE bus) = 0 → s.armed 0x3C bus.val = false →
      (r.outcome = .stuck → exec (.sidebandProbe bus r) s = .next ((off.wr (SB_STAT.STUCK bus) 1).bucket 20 1)) ∧
      (r.outcome = .noPull → exec (.sidebandProbe bus r) s = .next ((off.wr (SB_STAT.NOPULL bus) 1).bucket 20 1)) ∧
      (r.outcome = .short → exec (.sidebandProbe bus r) s = .next ((off.wr (SB_STAT.SHORT bus) 1).bucket 20 1)) ∧
      (r.outcome = .riseFail → exec (.sidebandProbe bus r) s = .next ((off.wr (SB_STAT.RISE_FAIL bus) 1).bucket 20 1)) ∧
      (r.outcome = .normal → bus ≠ 7 → riseMax (s.rd (SB_CFG.RATE bus)) < r.riseNs.toNat →
        exec (.sidebandProbe bus r) s = .next ((off.wr (SB_STAT.RISE_FAIL bus) 1).bucket 20 1)) ∧
      (r.outcome = .normal → bus.val = 2 → r.riseNs.toNat ≤ riseMax (s.rd (SB_CFG.RATE bus)) →
        exec (.sidebandProbe bus r) s = .next ((((s.wr (SB_STAT.RISE_NS bus) r.riseNs.toNat).wr (SB_STAT.STATE bus) 1).wr (SB_CFG.EN bus) 1).wr
          (SB_STAT.FOUND bus) r.found.toNat))) ∧
    (s.wired = true → bus ≠ 7 → s.rd (SB_STAT.STATE bus) = 1 →
      let clear := s.modBoard (fun b => { b with losses := vecUpd b.losses bus (fun _ => 0) })
      let lost := s.modBoard (fun b => { b with losses := vecUpd b.losses bus (· + 1) })
      exec (.sidebandTransaction bus .acked) s = .next clear ∧
      exec (.sidebandTransaction bus .nacked) s = .next (clear.cnt (SB_STAT.NACKS bus) 1) ∧
      (s.board.losses[bus.val] < 2 → exec (.sidebandTransaction bus .arbLost) s = .next lost) ∧
      (2 ≤ s.board.losses[bus.val] →
        exec (.sidebandTransaction bus .arbLost) s = .next ((lost.busOff bus.val).wr (SB_STAT.SHORT bus) 1))) ∧
    (s.wired = true → s.rd (SB_STAT.STATE 7) ≠ 2 →
      exec .sb7StatusBlock s = .next (s.modBoard (fun b => { b with sb7 := s.statusBlock })) ∧
      (s.keysUp = true → exec .sb7IdkHash s = .next (s.modBoard (fun b => { b with sb7 := s.idkHash }))) ∧
      (s.keysUp = false → exec .sb7IdkHash s = .next (s.modBoard (fun b => { b with sb7 := List.replicate 32 0 })))) ∧
    (s.wired = true → 4 ≤ s.rd (PIN_FUNC.SEL g.val) → bitOf (BitVec.ofNat 16 (s.rd SB_WIRE.GPIO_OFF)) g.val = false →
      exec (.outputReadbackFault (.gpio g)) s = .next
        ((s.wr SB_WIRE.GPIO_OFF (setBitOf (BitVec.ofNat 16 (s.rd SB_WIRE.GPIO_OFF)) g.val true).toNat).bucket 20 1)) ∧
    (s.wired = true → exec .vinmonOpenDetect s = .next (((s.wireFault SB_WIRE.VINMON_OPEN 0).demand 5 0).settleShed)) ∧
    (s.wired = true →
      let sel := s.rd (PIN_FUNC.SEL (0x10 + n.val))
      let takes (x : Nat) : Prop := (x = 1 ∧ rising = true) ∨ (x = 2 ∧ rising = false) ∨ x = 3
      (takes sel → exec (.evtInEdge n rising) s = .next (s.fire (0x240 + n.val))) ∧
      (¬ takes sel → exec (.evtInEdge n rising) s = .next s) ∧
      (let t := s.wr GPIO_IN.IN (setBitOf (BitVec.ofNat 16 (s.rd GPIO_IN.IN)) g.val rising).toNat;
        (takes (t.rd (PIN_FUNC.SEL g.val)) → exec (.gpioEdge g rising) s = .next (t.fire (0x230 + g.val))) ∧
        (¬ takes (t.rd (PIN_FUNC.SEL g.val)) → exec (.gpioEdge g rising) s = .next t))) ∧
    (s.rdB INJ_STAT.ARMED = true → s.rd INJ_SEL.POINT = 0x3B → ∀ q : QuadId, s.rd INJ_SEL.INST = q.val →
      exec .injectionFire s = .next ((((s.fired.wr (LA_STAT.DRV_OFF q) 1).wr (LA_STAT.CODE q) 0).wr (LA_STAT.DIDT_USED q) 50).bucket 20 1)) ∧
    (s.rdB INJ_STAT.ARMED = false → exec .injectionFire s = .next s)

/-! ### Resets, start-up and the structure -/

/-- Resets (R506, R557, R564, R587, R614, R638): a warm reset keeps near memory and resets the partitions and CPs; a cold reset gives every register, memory and CP its reset state but the strap register and
the causes, keeps fuses, flash and sealed settings, and records its source and the state the part was in; the ROM then starts unless
the reset contact is low, its clock is not valid, a wait for a glitch runs, or the test strap holds it. -/
def Obligations.ResetResults : Prop :=
  ∀ (s : State) (straps : BitVec 5),
    (∀ src, let t := s.coldHeld src
      t.mem = [] ∧ t.tags = [] ∧ t.errs = [] ∧ t.cps = State.reset.cps ∧ t.parts = State.reset.parts ∧ t.evt = State.reset.evt ∧
      t.sec.sys = .standby ∧ t.sec.burnt = s.sec.burnt ∧ (s.sec.live = none → t.sec.flash = s.sec.flash) ∧ t.sec.slots = s.sec.slots ∧
      t.pending = s.pending ∧ t.now = s.now ∧ (src < 256 → t.rd RST_CAUSE.SRC = src) ∧ t.rd SYS_STATE.LAST = s.sec.sys.code ∧
      t.reg SB_STRAP.adr = s.reg SB_STRAP.adr) ∧
    (∀ src, src < 256 → s.pwr.rails < 12 → s.sec.live = none → let t := s.warmReset src
      t.mem = s.mem.filter (fun e => decide (e.1 < celBase)) ∧ t.tags = s.tags.filter (fun e => decide (16 * e.1 < celBase)) ∧
      t.parts = State.reset.parts ∧ (∀ c, (t.cp c).run = .inReset ∧ (t.cp c).a = CpArch.reset) ∧ t.sec.sys = .boot ∧
      t.rd RST_CAUSE.KIND = 2 ∧ t.rd RST_CAUSE.SRC = src ∧ t.sec.burnt = s.sec.burnt ∧ t.sec.flash = s.sec.flash) ∧
    (s.sec.sys = .run → s.shed = 7 → s.pwr.temps = none → exec .shed7Exit s = .next (s.warmReset 0x0A)) ∧
    (∀ temps : Vector (BitVec 8) 20, s.pwr.temps = some temps → (∃ i : Fin 16, 95 < temps[i.val].toNat) → exec .shed7Exit s = .next s) ∧
    (∀ t : State, (t.sec.sys ≠ .standby ∨ t.sec.rstHigh = false ∨ t.sec.clkOk = false ∨ t.sec.backoff = true ∨ t.rdB SB_STRAP.TEST = true) →
      t.coldStart = t) ∧
    (s.sec.sys ≠ .off →
      exec .sysRstLAssert s = .next ((s.modSec (fun e => { e with rstHigh := false })).coldHeld 2) ∧
      exec .sysRstLRelease s = .next (s.modSec (fun e => { e with rstHigh := true })).coldStart ∧
      exec .moduleWatchdogWarning s = .next (s.fire 0x250) ∧
      exec .moduleWatchdogExpiry s = .next (s.coldHeld 3).coldStart ∧
      exec .glitchDetection s = .next (s.glitch 4).coldStart ∧
      exec .clockMonitorTrip s = .next ((s.glitch 5).modSec (fun e => { e with clkOk := false })) ∧
      (let t := s.zeroise.coldHeld 4;
        s.glitch 4 = (t.modSec (fun e => { e with glitches := t.sec.glitches + 1, backoff := decide (2 ≤ t.sec.glitches + 1) })).wr
          SEC_STAT.GLITCHES (min 255 (t.sec.glitches + 1))) ∧
      exec (.vauxPowerUp straps) s = .next s) ∧
    (s.sec.sys = .off →
      exec .sysRstLAssert s = .next (s.modSec (fun e => { e with rstHigh := false })) ∧ exec .moduleWatchdogExpiry s = .next s ∧
      (s.sec.rstHigh = true → exec (.vauxPowerUp straps) s = .next
        (((s.setReg SB_STRAP.adr (straps.setWidth 64)).modSec (fun e => { e with sys := .standby })).wr SYS_STATE.LAST 0).coldStart) ∧
      (s.sec.rstHigh = false → exec (.vauxPowerUp straps) s = .next (s.setReg SB_STRAP.adr (straps.setWidth 64)))) ∧
    (∃ t, exec .vauxPowerLoss s = .next t ∧ t.sec.sys = .off ∧ t.mem = [] ∧ t.sec.burnt = s.sec.burnt ∧ t.sec.glitches = 0) ∧
    (s.sec.backoff = true → exec .glitchBackoffExpiry s = .next (s.modSec (fun e => { e with backoff := false })).coldStart) ∧
    (s.sec.clkOk = false → exec .rindClockValid s = .next (s.modSec (fun e => { e with clkOk := true })).coldStart) ∧
    exec .moduleWatchdogReload s = .next (s.modSec (fun e => { e with wdgAt := s.now })) ∧
    (s.sec.sys = .run → s.armed 0x42 (s.rd INJ_SEL.INST) = false →
      (∀ w < 21, ∃ a b, s.fuse w = .value a b false) → exec .fuseReread s = .next s)

/-- Start-up (R317, R332, R488 to R490, R645): rails come up one after another, and a VCORE rail's regulator is taken only with a
LOAD_STEP_CAP in range; a rail that is never ready turns all off and is named, and the retry begins again; trained stacks let the
start go on and a stack of another identity, organisation or rate, or that does not train, sends the part to RECOVERY; the Cellar population is the channels that are alike. -/
def Obligations.StartResults : Prop :=
  ∀ (s : State) (pecOk : Bool) (cap : Vector Byte 6) (res : Vector StackResult 16) (ids : Vector StackIdent 16) (dimms : Vector Dimm 16),
    let sound (x : StackResult) (i : StackIdent) : Prop := x.answers = true ∧ i.gib = 48 ∧ i.height = 12 ∧ 80 ≤ i.rate.toNat ∧ x.trainOk = true
    (s.sec.sys = .boot → (s.pwr.rails ≠ 0 ∨ s.rd SB_WIRE.RAIL_FAIL = 0) → s.pwr.rails < 8 →
      exec (.railEnable pecOk cap) s = .next (s.modPwr (fun w => { w with rails := s.pwr.rails + 1 }))) ∧
    (s.sec.sys = .boot → ∀ q : QuadId, q.val < 3 → s.pwr.rails = 8 + q.val → bitOf s.pwr.vrrdy q.val = false →
      exec (.railEnable pecOk cap) s = .next ((s.regulator q pecOk cap).modPwr (fun w => { w with rails := 9 + q.val }))) ∧
    (s.sec.sys = .boot → s.pwr.rails = 11 → bitOf s.pwr.vrrdy 3 = false →
      exec (.railEnable pecOk cap) s = .next ((s.regulator 3 pecOk cap).modPwr (fun w => { w with rails := 12 })).railsUp) ∧
    ((s.sec.sys ≠ .boot ∨ s.pwr.rails = 12) → exec (.railEnable pecOk cap) s = .next s) ∧
    (s.sec.sys = .boot → s.pwr.rails ≠ 0 → exec .railNeverReady s = .next
      ((s.wr SB_WIRE.RAIL_FAIL s.pwr.rails).modPwr (fun w => { w with rails := 0, vrrdyLow := 0, vrrdyLong := 0 }))) ∧
    (s.sec.sys = .boot → s.pwr.rails = 0 → s.rd SB_WIRE.RAIL_FAIL ≠ 0 →
      exec .railPowerUpRetry s = .next (s.modPwr (fun w => { w with rails := 1 }))) ∧
    (s.sec.sys = .boot → s.pwr.rails = 12 → s.sec.warm = false →
      (s.sec.nearDone = false → s.sec.celDone = false → (∀ n : Fin 16, sound (res[n.val]) (ids[n.val])) →
        ∃ t, exec (.nearTrainingDone res ids) s = .next t ∧ t.sec.nearDone = true ∧ t.mst.nearGran = 12484608 ∧ t.sec.sys = .boot ∧
          t.cps = s.cps ∧ t.mem = s.mem ∧ ∀ n : Fin 16, t.rd (NM_STAT.TRAINED n) = 1 ∧ t.rd (NM_STAT.TRAIN_FAIL n) = 0) ∧
      (s.sec.nearDone = false → ∀ n : Fin 16, ¬ sound (res[n.val]) (ids[n.val]) →
        ∃ t, exec (.nearTrainingDone res ids) s = .next t ∧ t.sec.sys = .recovery ∧ t.rd RST_CAUSE.RCAUSE = 9) ∧
      (s.sec.celDone = false → s.sec.nearDone = false →
        ∃ t, exec (.cellarTrainingDone dimms) s = .next t ∧ t.sec.celDone = true ∧
          t.rd CELLAR_POP.POP = (if s.alike dimms (List.range 8) then 8 else if s.alike dimms [0, 2, 4, 6] then 4 else 0)) ∧
      (s.sec.nearDone = true → exec (.nearTrainingDone res ids) s = .next s) ∧
      (s.sec.celDone = true → exec (.cellarTrainingDone dimms) s = .next s)) ∧
    (∀ c, s.chanUsable dimms c = true → chanDimms dimms c ≠ [] ∧ ∀ x ∈ chanDimms dimms c,
      x.spdOk = true ∧ x.x4 = true ∧ x.ranks.toNat ∈ [1, 2, 4] ∧ x.dies.toNat ∈ [1, 2, 4] ∧ x.density.toNat ∈ [16, 24, 32] ∧
      (x.rate.toNat ∈ [4800, 5200, 5600, 6000, 6400] ∨ 6400 < x.rate.toNat) ∧ x.trainOk = true ∧
      ∀ y ∈ chanDimms dimms c, x.gib = y.gib ∧ x.ranks = y.ranks)

/-- Draining and live application (R65 to R69): a new drain request fires its line, and a clear withdraws it; a partition that
meets the four conditions is drained and its CPs are held; an APPLY is ignored while one is busy or outside RUN, refused with its
code, or begins; a failed write of the slot refuses with 0x25, and an image that is written is put in force, at once where no
partner is in sync. -/
def Obligations.StructureResults : Prop :=
  ∀ (s : State) (p : PartId) (cmd : BitVec 2) (img : List Byte) (slot : Nat),
    let bit (f : Nat) (b : Bool) : Word := setBitOf (s.reg f) p.val b
    (let u := (s.setReg STRUCT_DRAIN.adr (bit STRUCT_DRAIN.adr true)).fire (0x210 + p.val);
      s.reg STRUCT_DRAIN.adr = 0 → u.reg STRUCT_DRAIN.adr = bit STRUCT_DRAIN.adr true →
      exec (.structDrainWrite (1#16 <<< p.val)) s = .next u) ∧
    (s.reg STRUCT_DRAIN.adr = 0 → exec (.structDrainWrite 0) s = .next s) ∧
    (s.reg STRUCT_DRAIN.adr = 1 <<< p.val → s.rd STRUCT_LIVE.STATE ≠ 1 →
      (s.undrain p).reg STRUCT_DRAIN.adr = 0 → exec (.structDrainWrite 0) s = .next (s.undrain p)) ∧
    (bitOf (s.reg STRUCT_DRAIN.adr) p.val = true → bitOf (s.reg STRUCT_DRAINED.adr) p.val = false → s.drained p = true → s.sec.sys = .run →
      exec (.partitionDrained p) s = .next ((s.cpsOf p).foldl (fun (s : State) c => s.holdCp c)
        (s.setReg STRUCT_DRAINED.adr (bit STRUCT_DRAINED.adr true)))) ∧
    (s.drained p = false → exec (.partitionDrained p) s = .next s) ∧
    (cmd ≠ 1 → exec (.structLiveApply cmd) s = .next s) ∧
    ((s.rd STRUCT_LIVE.STATE = 1 ∨ s.sec.sys ≠ .run) → exec (.structLiveApply 1) s = .next s) ∧
    (s.rd STRUCT_LIVE.STATE ≠ 1 → s.sec.sys = .run → s.rd PAIR_STAT.ROLE = 2 → exec (.structLiveApply 1) s = .next (s.liveEnd 3 0x26)) ∧
    (s.rd STRUCT_LIVE.STATE ≠ 1 → s.sec.sys = .run → s.rd PAIR_STAT.ROLE ≠ 2 →
      let x := s.imgAt 0x0C000000
      let r := s.liveRefusal x true
      (r.1 ≠ 0 → exec (.structLiveApply 1) s = .next (r.2.liveEnd 3 r.1)) ∧
      (r.1 = 0 → exec (.structLiveApply 1) s = .next
        (((r.2.wr STRUCT_LIVE.STATE 1).wr STRUCT_LIVE.RESULT 0).modSec (fun e => { e with live := some (x, r.2.lowerSlot) })))) ∧
    (s.sec.live = some (img, slot) → s.pair.apply = none →
      exec (.liveApplyFlashDone false) s = .next (((s.writeSlot slot []).cnt FLASH_STAT.PROG_ERR 1).liveEnd 3 0x25) ∧
      (s.paired = false → exec (.liveApplyFlashDone true) s = .next (s.writeSlot slot img).applyLive) ∧
      (s.paired = true → exec (.liveApplyFlashDone true) s = .next
        (let w := s.writeSlot slot img; { w with pair := { w.pair with apply := some 0 } }))) ∧
    (s.sec.live = none → ∀ ok, exec (.liveApplyFlashDone ok) s = .next s)

/-! ### Power, temperature, shedding, sleep -/

/-- Regulators and clocks (R491, R492, R498 to R500): an acknowledged setpoint is in force and a raise of the clock follows it; the
third failure in a row feeds the WIRING bucket; VRRDY low demands shed level 6 and, after 100 microseconds, 7; open remote sense is
noted once in a cold start; a droop counts, sets ACTIVE and fires its line. -/
def Sys2Proof.Clauses.RegulatorResults : Prop :=
  ∀ (s : State) (q : QuadId) (clk : BitVec 7) (sum : BitVec 32),
    (s.pwr.setClk[q.val] < clk.toNat → exec (.avsbusSetpointWrite q clk true) s = .next
      ((s.wr (LA_STAT.VSET_MV q) (s.setpoint q clk.toNat)).modPwr (fun w => { w with
        avsFails := vecUpd w.avsFails q (fun _ => 0), raise := vecUpd w.raise q (fun _ => some clk.toNat) }))) ∧
    (clk.toNat ≤ s.pwr.setClk[q.val] → exec (.avsbusSetpointWrite q clk true) s = .next
      ((s.wr (LA_STAT.VSET_MV q) (s.setpoint q clk.toNat)).modPwr (fun w => { w with
        avsFails := vecUpd w.avsFails q (fun _ => 0), raise := vecUpd w.raise q (fun _ => none)
        setClk := vecUpd w.setClk q (fun _ => clk.toNat) }))) ∧
    (s.pwr.avsFails[q.val] < 2 → exec (.avsbusSetpointWrite q clk false) s = .next
      (s.modPwr (fun w => { w with avsFails := vecUpd w.avsFails q (· + 1) }))) ∧
    (2 ≤ s.pwr.avsFails[q.val] → clk.toNat ≤ s.pwr.setClk[q.val] →
      let t := (s.modPwr (fun w => { w with avsFails := vecUpd w.avsFails q (fun _ => 0), raise := vecUpd w.raise q (fun _ => none) })).bucket 20 1
      t.pwr.setClk = s.pwr.setClk → exec (.avsbusSetpointWrite q clk false) s = .next t) ∧
    (∀ c, s.pwr.raise[q.val] = some c → bitOf s.pwr.vrrdy q.val = true → exec (.clockRaise q) s = .next
      (s.modPwr (fun w => { w with setClk := vecUpd w.setClk q (fun _ => c), raise := vecUpd w.raise q (fun _ => none) }))) ∧
    (s.pwr.raise[q.val] = none → exec (.clockRaise q) s = .next s) ∧
    (let dem (t : State) (d : Nat) : State := (t.demand 7 d).settleShed;
      bitOf s.pwr.vrrdy q.val = true → 8 + q.val < s.pwr.rails → s.vrrdyBad q = false → s.pwr.vrrdyLong = 0 →
      exec (.vrrdyFall q) s = .next (dem (s.modPwr (fun w => { w with
        vrrdy := setBitOf w.vrrdy q.val false, vrrdyLow := setBitOf w.vrrdyLow q.val true })) 6)) ∧
    (bitOf s.pwr.vrrdyLow q.val = true → exec (.vrrdyLowTimeout q) s = .next
      (((s.modPwr (fun w => { w with vrrdyLong := setBitOf w.vrrdyLong q.val true })).demand 7 7).settleShed)) ∧
    (s.pwr.rails ≤ 8 + q.val → exec (.vrrdyRise q) s = .next (s.modPwr (fun w => { w with vrrdy := setBitOf w.vrrdy q.val true }))) ∧
    (bitOf s.pwr.onDie q.val = false → exec (.remoteSenseOpen q) s = .next
      (((s.wr PWR_STAT.SENSE_OPEN (setBitOf (BitVec.ofNat 4 (s.rd PWR_STAT.SENSE_OPEN)) q.val true).toNat).modPwr (fun w => { w with
        onDie := setBitOf w.onDie q.val true })).bucket 20 1)) ∧
    (bitOf s.pwr.onDie q.val = true → exec (.remoteSenseOpen q) s = .next s) ∧
    exec (.estimatorUpdate q sum) s = .next
      (s.modPwr (fun w => { w with estSum := vecUpd w.estSum q (· + sum.toNat), estN := vecUpd w.estN q (· + 1) })) ∧
    (s.rdB (DROOP_STAT.ACTIVE q) = false → s.pwr.rails ≠ 0 → exec (.droopTrip q) s = .next
      ((((s.cnt (DROOP_STAT.COUNT q) 1).wr (DROOP_STAT.ACTIVE q) 1).fire (0x200 + q.val)).bucket 18 1)) ∧
    exec (.droopHoldEnd q) s = .next (s.wr (DROOP_STAT.ACTIVE q) 0)

/-- Telemetry, the power limit and temperature (R494, R500 to R503): a good poll gives IOUT and clears STALE, a bad one sets it; PKG_W
is the estimate, and above LIMIT_W the part is capped at once past 1600 W; a step down lowers every clock that may fall by 25 MHz and
a step up raises it; a conversion gives TJ_MAX, TLID and TJ, and at 115 degrees trips; throttling steps a quadrant's clock. -/
def Sys2Proof.Clauses.PowerAndThermalResults : Prop :=
  ∀ (s : State) (q : QuadId) (tm : Telemetry) (w : BitVec 12) (temps : Vector (BitVec 8) 20),
    (∃ t, exec (.telemetryPoll tm) s = .next t ∧
      (tm.ok[q.val] = true → tm.fault[q.val] = false → bitOf (s.reg SB_WIRE.adr) 6 = false →
        t.rd (EST.IOUT q) = (tm.iout[q.val]).toNat % 2 ^ (EST.IOUT q).width ∧ t.rd (EST.STALE q) = 0 ∧
        (s.shed < 6 → 0 < s.estMean q →
          t.rd (EST.GAIN q) = gainStep (s.rd (EST.GAIN q)) (100 * (tm.iout[q.val]).toNat) (s.estMean q) % 2 ^ (EST.GAIN q).width) ∧
        (6 ≤ s.shed → t.rd (EST.GAIN q) = s.rd (EST.GAIN q))) ∧
      ((tm.ok[q.val] = false ∨ tm.fault[q.val] = true ∨ bitOf (s.reg SB_WIRE.adr) 6 = true) → t.rd (EST.STALE q) = 1 ∧ t.rd (EST.GAIN q) = s.rd (EST.GAIN q)) ∧
      t.pwr.estN[q.val] = 0) ∧
    (∃ t, exec (.powerEstimate w) s = .next t ∧ t.rd PWR_STAT.PKG_W = w.toNat ∧
      (s.rd PWR_LIMIT.LIMIT_W < w.toNat → 1600 < w.toNat → t.rd PWR_STAT.CAPPED = 1) ∧
      (w.toNat ≤ s.rd PWR_LIMIT.LIMIT_W → t.rd PWR_STAT.CAPPED = 0 ∧ t.pwr.excUs = 0)) ∧
    (s.pwr.pwrOver = true → s.sec.sys = .run → ∃ t, exec .powerClockStepDown s = .next t ∧
      t.pwr.pwrClk[q.val] = (let c := min (s.pwr.target[q.val]) (s.pwr.pwrClk[q.val]); if c ≤ 32 then s.pwr.pwrClk[q.val] else c - 1)) ∧
    (s.pwr.pwrOver = false → exec .powerClockStepDown s = .next s) ∧
    ((let a := lastWatts s.pwr.watts (1000 * s.rd PWR_LIMIT.WIN_MS); 100 * a.1 ≤ 97 * s.rd PWR_LIMIT.LIMIT_W * a.2) →
      ∃ t, exec .powerClockStepUp s = .next t ∧ t.csr = s.csr ∧ t.pwr.pwrClk[q.val] =
        (if s.pwr.pwrClk[q.val] < s.pwr.target[q.val] then s.pwr.pwrClk[q.val] + 1 else s.pwr.pwrClk[q.val])) ∧
    (s.rd PWR_LIMIT.LIMIT_W < s.rd PWR_STAT.PKG_W → exec .excursionLimit s = .next (s.wr PWR_STAT.CAPPED 1)) ∧
    (s.rd PWR_STAT.PKG_W ≤ s.rd PWR_LIMIT.LIMIT_W → exec .excursionLimit s = .next s) ∧
    (s.sec.sys = .boot → s.rdB INJ_STAT.ARMED = false → hottest temps 0 16 < 110 → s.pwr.trip = false → ∃ t,
      exec (.thermalConversion temps) s = .next t ∧ t.rd THERM_STAT.TJ_MAX = hottest temps 0 16 ∧
      t.rd THERM_STAT.TLID = hottest temps 16 4 ∧ t.rd (THERM_Q.TJ q) = hottest temps (4 * q.val) 4 ∧ t.pwr.temps = some temps) ∧
    (s.pwr.temps = some temps →
      (bitOf s.pwr.throttled q.val = true → s.throttleC ≤ hottest temps (4 * q.val) 4 → ∃ t, exec (.throttleStepDown q) s = .next t ∧
        t.pwr.thermClk[q.val] = max 32 (s.pwr.thermClk[q.val] - 1)) ∧
      (hottest temps (4 * q.val) 4 < s.throttleC → exec (.throttleStepDown q) s = .next s) ∧
      (bitOf s.pwr.throttled q.val = true → hottest temps (4 * q.val) 4 + s.hystC ≤ s.throttleC →
        s.pwr.thermClk[q.val] + 1 < s.pwr.target[q.val] → exec (.throttleStepUp q) s = .next
          (s.modPwr (fun w => { w with thermClk := vecUpd w.thermClk q (fun _ => s.pwr.thermClk[q.val] + 1) }))) ∧
      (s.throttleC < hottest temps (4 * q.val) 4 + s.hystC → exec (.throttleStepUp q) s = .next s))

/-- Regulators, clocks, telemetry, the power limit and temperature (R491 to R503). -/
def Obligations.PowerDeliveryResults : Prop :=
  Sys2Proof.Clauses.RegulatorResults ∧ Sys2Proof.Clauses.PowerAndThermalResults

/-- The shed ladder and deep sleep (R422, R504 to R513): the level rises in RUN to the highest demand and falls one level at a time
once every source meets its return condition; 6 and 7 in SHED_FLOOR act as 5; an abandoned last checkpoint signals failover; a sleep
request is refused with its RESULT or begins, entry completes, a wake source wakes the part, and one that comes during entry waits. -/
def Obligations.ShedAndSleepResults : Prop :=
  ∀ (s : State) (m : MonSample) (level : BitVec 3) (ret : Bool),
    (s.evt.shedReq = 0 → s.topDemand ≤ s.shed → exec .shedLevelRise s = .next (s.modE (fun e => { e with shedReq := 0 }))) ∧
    (s.evt.shedReq = 0 → s.shed < s.topDemand → s.sec.sys = .run →
      exec .shedLevelRise s = .next ((s.modE (fun e => { e with shedReq := 0 })).shedTo s.topDemand false)) ∧
    (s.shed ≠ 0 → s.shed ≠ 7 → s.sec.sys = .run → s.returns s.shed = true → (s.shed = 6 → s.pwr.final = false) →
      exec .shedLevelFall s = .next (s.shedTo (s.shed - 1) false)) ∧
    ((s.shed = 0 ∨ s.shed = 7 ∨ s.sec.sys ≠ .run) → exec .shedLevelFall s = .next s) ∧
    (s.pwr.final = true → exec .finalCheckpointAbandon s = .next
      (((s.modPwr (fun w => { w with final := false })).dropShip.modPair (fun p => { p with due := false })).signalFailover)) ∧
    (s.pwr.final = false → exec .finalCheckpointAbandon s = .next s) ∧
    exec (.shedFloorWrite level) s = .next
      (((s.wr SHED_FLOOR.LEVEL level.toNat).demand 9 (min level.toNat 5)).settleShed) ∧
    ((s.sec.sys = .configure ∨ s.sec.sys = .run ∨ s.sec.sys = .sleep) → exec (.monitorSample m) s = .next (s.monitor m)) ∧
    ((s.sec.sys = .boot ∨ s.sec.sys = .standby) → exec (.monitorSample m) s = .next s) ∧
    (s.sec.sys = .run → s.rd PWR_SLEEP.STATE ≠ 1 →
      let u := s.wrB PWR_SLEEP.SRAM_RET ret
      (6 ≤ s.shed → exec (.sleepRequest ret) s = .next
        ((((u.wr PWR_SLEEP.STATE 3).wr PWR_SLEEP.RESULT 1).wr PWR_SLEEP.REQ 0).modPair (fun p => { p with sleepAsk := false }))) ∧
      (s.shed < 6 → s.rd STRUCT_LIVE.STATE ≠ 1 → s.rd UPD_STAT.STATE ≠ 5 → s.rd PAIR_STAT.STATE ≠ 3 → exec (.sleepRequest ret) s = .next
        ((((u.wr PWR_SLEEP.STATE 1).wr PWR_SLEEP.RESULT 0).wr PWR_SLEEP.REQ 1).modPwr (fun w => { w with agreed := true })))) ∧
    (s.entering = false → exec .sleepEntryComplete s = .next s) ∧
    (s.sec.sys = .run → s.entering = true → s.cutReady = true → s.pwr.wakeLatch = false → s.rdB SEC_STAT.DBG_ATTACHED = true →
      ∃ t, exec .sleepEntryComplete s = .next t ∧ (s.queuesStop.pwr.wakeLatch = false → s.queuesStop.rdB SEC_STAT.DBG_ATTACHED = true →
        t.sec.sys = .sleep ∧ t.pwr.emu = true ∧ t.rd PWR_SLEEP.STATE = 0 ∧ t.mem = s.queuesStop.mem)) ∧
    (s.sec.sys = .run → s.entering = true → s.cutReady = true → s.rdB SEC_STAT.DBG_ATTACHED = false →
      ∃ t, exec .sleepEntryComplete s = .next t ∧ (s.queuesStop.pwr.wakeLatch = false → s.queuesStop.rdB SEC_STAT.DBG_ATTACHED = false →
        t.sec.sys = .sleep ∧ t.pwr.emu = false ∧ t.evt.dark = true ∧ (∀ n : Fin 16, t.rdB (NM_STAT.SELFREF n) = true) ∧
        (s.queuesStop.rdB PWR_SLEEP.SRAM_RET = true → t.mem = s.queuesStop.mem ∧ t.cps = s.queuesStop.cps))) ∧
    (s.sec.sys = .sleep → exec .wake s = .next (s.modE (fun e => { e with wakeReq := false })).wakeUp) ∧
    (s.sec.sys = .run → s.rd PWR_SLEEP.STATE = 1 → exec .wake s = .next
      ((s.modE (fun e => { e with wakeReq := false })).modPwr (fun w => { w with wakeLatch := true }))) ∧
    (s.sec.sys = .run → s.rd PWR_SLEEP.STATE ≠ 1 → exec .wake s = .next (s.modE (fun e => { e with wakeReq := false }))) ∧
    (s.sec.sys = .sleep → s.rd PWR_WAKETMR.MS ≠ 0 → exec .wakeTimerExpiry s = .next (s.fire 0x270).wakeEvent) ∧
    (s.sec.sys = .run → exec .wakeTimerExpiry s = .next s)

/-! ### The Ubori Link and the pair -/

/-- The Ubori Link (R530 to R533): it comes up at the width that its lanes allow, with fresh sequence numbers, and goes down; frames
without an ACK are sent again, and after 16 times without progress the link is down; a frame that fails its check only counts, and a
sequenced frame out of order is only acknowledged. -/
def Sys2Proof.Clauses.LinkResults : Prop :=
  ∀ (s u : State) (lanes : BitVec 4) (working : BitVec 8) (f : UboriFrame),
    let w := laneWidth ((List.range 8).filter (fun i => bitOf working i)).length
    (s.rdB PAIR_STAT.LINK = false → laneWidth lanes.toNat ≠ 0 → exec (.uboriLinkUp lanes) s = .next
      (((((s.wr PAIR_STAT.LINK 1).wr PAIR_LINK.LANES (laneWidth lanes.toNat)).modPair (fun p => { p with
        txSeq := 0, rxSeq := 0, unacked := [], tries := 0 })).fire 0x220).negotiate)) ∧
    (s.rdB PAIR_STAT.LINK = true → exec (.uboriLinkUp lanes) s = .next s) ∧
    (s.rdB PAIR_STAT.LINK = false → exec .uboriLinkDown s = .next s) ∧
    (s.rdB PAIR_STAT.LINK = true →
      let d := (((s.wr PAIR_STAT.LINK 0).wr PAIR_LINK.LANES 0).modPair (fun p => { p with unacked := [], tries := 0, staging := none })).fire 0x221
      d.rd PAIR_STAT.STATE = 0 → exec .uboriLinkDown s = .next d) ∧
    (s.rdB PAIR_STAT.LINK = true → w ≠ 0 → exec (.uboriLinkRetrain working) s = .next (s.wr PAIR_LINK.LANES w)) ∧
    (w = 0 → exec (.uboriLinkRetrain working) s = .next s.linkDown) ∧
    (s.pair.unacked = [] → exec .uboriRetransmit s = .next s) ∧
    (s.rdB PAIR_STAT.LINK = true → s.pair.unacked ≠ [] → 16 ≤ s.pair.tries → exec .uboriRetransmit s = .next s.linkDown) ∧
    (s.rdB PAIR_STAT.LINK = true → s.pair.unacked ≠ [] → s.pair.tries < 16 → exec .uboriRetransmit s = .next
      ((s.pair.unacked.take 1024).foldl (fun s r => s.leave (.ubori (uboriSeal { r.f with flags := 1 })))
        ((s.cnt PAIR_LINK.RETX (s.pair.unacked.take 1024).length).modPair (fun p => { p with
          tries := p.tries + 1, unacked := p.unacked.map (fun r => { r with last := s.now }) })))) ∧
    (s.hearsUbori 0x0E f u → exec (.linkack f) s = .next u) ∧
    (s.rdB PAIR_STAT.LINK = true → s.armed 0x2B (s.rd INJ_SEL.INST) = false → uboriSeal f ≠ f →
      exec (.linkack f) s = .next ((s.cnt PAIR_LINK.CRCFAIL 1).bucket 17 1) ∧
      exec (.holdFrame f) s = .next ((s.cnt PAIR_LINK.CRCFAIL 1).bucket 17 1)) ∧
    (s.hearsUbori 0x0B f u → f.seq ≠ u.pair.rxSeq → exec (.holdFrame f) s = .next u.linkAck)

/-- Negotiation, heartbeats and the witness (R509, R534 to R537, R541 to R546, R626): a HELLO that does not match is refused with its
code; a heartbeat notes the partner's life and level; silence of 3 ms raises the suspicion and asks the witness; a GRANT gives and a
DENY takes the lease; a side without heartbeat and GRANT is fenced; HOLD suspends and RELEASE ends the suspension of suspicion. -/
def Sys2Proof.Clauses.PairControlResults : Prop :=
  ∀ (s u : State) (f : UboriFrame) (h : HelloRec) (a : PairAuth) (r : WitnessReply),
    (s.hearsUbori 0x01 f u → u.pair.rec_.kind = 0 → exec (.helloFrame f h a) s = .next
      ((u.modPair (fun p => { p with hello := some h })).wr PAIR_STAT.REFUSE 2)) ∧
    (s.hearsUbori 0x01 f u → u.pair.rec_.kind ≠ 0 → u.rd PAIR_STAT.STATE = 1 → u.rdB SB_STRAP.HBWIRE = false → u.hbAlive = true →
      u.rdB SB_WIRE.HB_OUT_OFF = false → helloCode u.helloOwn h ≠ 0 →
      exec (.helloFrame f h a) s = .next ((u.modPair (fun p => { p with hello := some h })).refusePair (helloCode u.helloOwn h))) ∧
    (2 ≤ s.rd PAIR_STAT.STATE → exec .heartbeatSend s = .next s.sendHeartbeat) ∧
    (s.rd PAIR_STAT.STATE < 2 → exec .heartbeatSend s = .next s) ∧
    (s.hearsUbori 0x02 f u → u.rd PAIR_STAT.ROLE = 2 → exec (.heartbeatFrame f) s = .next (u.modPair (fun p => { p with
      lastHb := some u.now, pLevel := BitVec.ofNat 3 (nbits f.arg.toNat 0 3), suspect := false }))) ∧
    exec .pairHbInEdge s = .next ((s.modPair (fun p => { p with hbIn := some s.now })).wr PAIR_STAT.HB_ALIVE 1) ∧
    (s.sec.sys = .run → s.shed ≤ 5 → s.pair.rec_.kind ≠ 0 → s.rdB SB_WIRE.HB_OUT_OFF = false →
      exec .pairHbOutToggle s = .next (s.modPair (fun p => { p with hbOut := !p.hbOut }))) ∧
    (5 < s.shed → exec .pairHbOutToggle s = .next (s.modPair (fun p => { p with hbOut := false }))) ∧
    (s.rd PAIR_STAT.ROLE = 2 → s.rd PAIR_STAT.STATE = 3 → s.rdB PAIR_STAT.HOLD = false → s.pwr.agreed = false → s.pair.suspect = true →
      s.hbAlive = false → s.pair.rec_.wAddr ≠ 0 → exec .heartbeatSuspicion s = .next (s.askWitness 2)) ∧
    (s.rd PAIR_STAT.ROLE = 2 → s.rd PAIR_STAT.STATE = 3 → s.rdB PAIR_STAT.HOLD = false → s.pwr.agreed = false → s.pair.suspect = true →
      s.hbAlive = false → s.pair.rec_.wAddr = 0 → exec .heartbeatSuspicion s = .next s.failover) ∧
    (s.rdB PAIR_STAT.HOLD = true → s.dbgClosed = false → exec .heartbeatSuspicion s = .next s) ∧
    (s.takesUbori 0x0B f u → u.dbgClosed = false → exec (.holdFrame f) s = .next (u.wr PAIR_STAT.HOLD 1).linkAck) ∧
    (s.takesUbori 0x0C f u → exec (.releaseFrame f) s = .next (u.wr PAIR_STAT.HOLD 0).linkAck) ∧
    (s.takesUbori 0x0D f u → nbits f.arg.toNat 0 8 = 1 → u.rd PAIR_STAT.ROLE = 2 → u.rd PAIR_STAT.STATE = 3 → u.pair.rec_.wAddr ≠ 0 →
      exec (.ctlFailover f) s = .next ((u.modPair (fun p => { p with suspect := true })).askWitness 2).linkAck) ∧
    (s.takesUbori 0x0D f u → nbits f.arg.toNat 0 8 = 2 → u.rd PAIR_STAT.STATE = 3 → u.sleepBar = 0 → u.sec.sys = .run →
      exec (.ctlSleepReq f) s = .next (((((u.ctl 3).wr PWR_SLEEP.STATE 1).wr PWR_SLEEP.RESULT 0).wr PWR_SLEEP.REQ 1).modPwr (fun w => { w with
        agreed := true })).linkAck) ∧
    (s.takesUbori 0x0D f u → nbits f.arg.toNat 0 8 = 2 → u.rd PAIR_STAT.STATE ≠ 3 → exec (.ctlSleepReq f) s = .next (u.ctl 4).linkAck) ∧
    (s.takesUbori 0x0D f u → nbits f.arg.toNat 0 8 = 3 → u.rd PWR_SLEEP.STATE = 1 →
      exec (.ctlSleepAck f) s = .next (u.modPwr (fun w => { w with agreed := true })).linkAck) ∧
    (s.takesUbori 0x0D f u → nbits f.arg.toNat 0 8 = 4 → u.rd PWR_SLEEP.STATE = 1 → exec (.ctlSleepRefuse f) s = .next
      ((((u.wr PWR_SLEEP.STATE 3).wr PWR_SLEEP.RESULT 4).wr PWR_SLEEP.REQ 0).modPair (fun p => { p with sleepAsk := false })).linkAck) ∧
    (s.takesUbori 0x0D f u → nbits f.arg.toNat 0 8 = 5 → exec (.ctlWake f) s = .next u.wakeEvent.linkAck) ∧
    ((s.rd PAIR_STAT.ROLE = 1 ∨ s.rd PAIR_STAT.ROLE = 3) → exec .witnessRenew s = .next (s.askWitness 1)) ∧
    (s.rd PAIR_STAT.ROLE = 2 → s.pair.claim = true → exec .witnessRenew s = .next (s.askWitness 2)) ∧
    (s.witnessOk r = false → exec (.witnessReply r) s = .next s) ∧
    (s.witnessOk r = true → s.pair.reqOp = 1 → s.pair.fenced = false → r.grant = true → exec (.witnessReply r) s = .next
      ((s.wr PAIR_STAT.LEASE 1).modPair (fun p => { p with grantAt := some s.now, reqAt := none }))) ∧
    (s.witnessOk r = true → s.pair.reqOp = 2 → s.pair.suspect = true → r.grant = true → exec (.witnessReply r) s = .next
      ((s.wr PAIR_STAT.LEASE 1).modPair (fun p => { p with grantAt := some s.now, reqAt := none })).failover) ∧
    (s.witnessOk r = true → s.pair.reqOp = 2 → s.pair.suspect = true → r.grant = false → exec (.witnessReply r) s = .next
      (((s.wr PAIR_STAT.LEASE 0).modPair (fun p => { p with reqAt := none, suspect := false })).wr PAIR_STAT.STATE 4)) ∧
    (s.rd PAIR_STAT.ROLE = 1 → s.pair.rec_.wAddr ≠ 0 → s.pair.fenced = false → exec .fence s = .next
      ((((s.outOfSync.wr PAIR_STAT.STATE 5).wr PAIR_STAT.LEASE 0).modPair (fun p => { p with fenced := true, grantAt := none })).modN
        (fun e => { e with silent := true }))) ∧
    (s.pair.rec_.kind = 1 → s.pair.rec_.wAddr = 0 → s.pair.lastHb = none → s.pair.hbIn = none → s.rd PAIR_STAT.ROLE = 2 → s.sec.sys = .run →
      exec .partnerSilentSinceBoot s = .next (((s.wr PAIR_STAT.ROLE 1).wr PAIR_STAT.STATE 0).takeIdentity)) ∧
    (s.pair.hbIn ≠ none → exec .partnerSilentSinceBoot s = .next s)

/-- The Ubori Link, negotiation, heartbeats, sleep with a partner, and the witness (R509, R530 to R546, R626). -/
def Obligations.PairLinkResults : Prop :=
  Sys2Proof.Clauses.LinkResults ∧ Sys2Proof.Clauses.PairControlResults

/-- Checkpoints and Twin (R538 to R541, R547 to R550, R553): a cut of a serving side in sync is taken or waits; what a checkpoint lists
leaves frame by frame; the Standby stages what arrives; a completed checkpoint advances DACK and releases the outputs held for it; a
page of a checkpoint is staged; a Follower processes its partner's inputs; PAIR_CTL gives the commands. -/
def Obligations.CheckpointResults : Prop :=
  ∀ (s u : State) (f : UboriFrame) (g : Staging) (o : OpenCkpt),
    (let t := s.modE (fun e => { e with mirrorReq := false });
      (s.rd PAIR_STAT.ROLE = 0 → exec .mirrorCheckpointCut s = .next t.twinCompare ∧ exec .ckptNow s = .next t.twinCompare) ∧
      (s.rd PAIR_STAT.ROLE = 1 → s.rd PAIR_STAT.STATE = 3 → s.pair.sig = none →
        (s.cutReady = false → exec .mirrorCheckpointCut s = .next (t.modPair (fun p => { p with due := true })) ∧
          exec .ckptNow s = .next (t.modPair (fun p => { p with due := true })) ∧
          exec .relinquish s = .next (t.modPair (fun p => { p with giveUp := true, due := true }))) ∧
        (s.pair.ship = none → s.cutReady = true → t.cutNow.pair.sig = none → exec .mirrorCheckpointCut s = .next t.cutNow)) ∧
      (s.rd PAIR_STAT.ROLE = 1 → s.rd PAIR_STAT.STATE = 4 → s.rdB PAIR_STAT.LINK = true → s.pair.sig = none → s.cutReady = false →
        exec .fullResync s = .next ((t.wr PAIR_STAT.STATE 2).modPair (fun p => { p with full := true, due := true })))) ∧
    (s.rd PAIR_STAT.ROLE = 2 → exec .relinquish s = .next s ∧ exec .fullResync s = .next s ∧
      exec .resync s = .next (s.wr PAIR_STAT.STATE 4).sendHeartbeat) ∧
    (s.rd PAIR_STAT.ROLE = 1 → s.rdB PAIR_STAT.LINK = true → exec .resync s = .next
      ((s.outOfSync.wr PAIR_STAT.STATE 2).modPair (fun p => { p with full := true }))) ∧
    (s.pair.divergent = false → exec .restart s = .next s) ∧
    (s.pair.divergent = true → exec .restart s = .next ((((s.modPair (fun p => { p with
      divergent := false, mismatches := 0, full := true, sig := none, psig := none })).wr PAIR_STAT.ROLE 3).wr PAIR_STAT.STATE 2).takeIdentity)) ∧
    (s.pair.ship = none → exec .checkpointShip s = .next s) ∧
    (s.pair.ship = some o → s.rdB PAIR_STAT.LINK = true → s.pair.unacked.length < 1024 → o.ended = false → o.begun = false → s.sec.live = none →
      exec .checkpointShip s = .next ((s.uboriSeq 0x03 (o.no.setWidth 64) []).modPair (fun p => { p with ship := some { o with begun := true } }))) ∧
    (s.takesUbori 0x03 f u → u.pair.divergent = false → u.rd PAIR_STAT.STATE = 3 → exec (.ckptBegin f) s = .next
      (u.modPair (fun p => { p with staging := some ⟨f.arg.setWidth 32, [], [], 0, 0, 0, []⟩ })).linkAck) ∧
    (s.takesUbori 0x04 f u → u.pair.staging = some g → exec (.pageFrame f) s = .next
      (u.modPair (fun p => { p with staging := some ((g.page f.arg f.body).note f.body) })).linkAck) ∧
    (s.takesUbori 0x05 f u → u.pair.staging = some g → exec (.stateFrame f) s = .next
      (u.modPair (fun p => { p with staging := some { (g.note f.body) with
        objs := g.objs.take (nbits f.arg.toNat 16 48) ++ f.body ++ g.objs.drop (nbits f.arg.toNat 16 48 + f.body.length) } })).linkAck) ∧
    (s.takesUbori 0x06 f u → u.pair.staging = some g → leNat (f.body.take 4) ≠ g.count → exec (.ckptEnd f) s = .next
      ((u.modPair (fun p => { p with staging := none })).wr PAIR_STAT.STATE 4).linkAck) ∧
    (s.takesUbori 0x06 f u → u.pair.staging = some g → f.arg.setWidth 32 = g.no → leNat (f.body.take 4) = g.count →
      leNat ((f.body.drop 4).take 4) = g.npages → leNat ((f.body.drop 8).take 8) = g.crc.toNat → ∀ snap, Config.stateOf g.objs = some snap →
      u.rd PAIR_STAT.ROLE = 2 → u.rd PAIR_STAT.STATE = 3 →
      let t := (((g.pages.foldl (fun (s : State) x => s.applyPage x) (u.modPair (fun p => { p with staging := none }))).modPair (fun p => { p with
        image := some (g.no, snap), next := g.no + 1 })).modN (fun e => { e with tokKey := snap.tokKey })).wr PAIR_CKPT.COMPLETE g.no.toNat
      (t.fire 0x223).rd PAIR_STAT.STATE = 3 → (t.fire 0x223).rd PAIR_STAT.ROLE = 2 →
      ((t.fire 0x223).uboriSeq 0x07 (g.no.setWidth 64) []).pair.apply = none →
      exec (.ckptEnd f) s = .next ((t.fire 0x223).uboriSeq 0x07 (g.no.setWidth 64) []).linkAck) ∧
    (s.takesUbori 0x07 f u → (u.pair.ship = none ∨ ∃ o, u.pair.ship = some o ∧ o.no ≠ f.arg.setWidth 32) → exec (.ckptDone f) s = .next u.linkAck) ∧
    (s.takesUbori 0x07 f u → u.pair.ship = some o → o.no = f.arg.setWidth 32 → o.ended = true → u.rd PAIR_STAT.STATE = 3 →
      let w := ((((((u.wr PAIR_CKPT.COMPLETE o.no.toNat).wr PAIR_CKPT.SHIP_MS (min 65535 ((u.now - o.at_) / 1000000))).fire 0x223).dropShip).dackTo
        o.rxNext).releaseTo (some o.no.toNat))
      w.pwr.final = false → w.rd PAIR_STAT.ROLE = 1 → w.pair.apply = none → w.pair.giveUp = false → w.pair.sleepAsk = false → w.pair.due = false →
      exec (.ckptDone f) s = .next w.linkAck) ∧
    (s.takesUbori 0x08 f u → u.rd PAIR_STAT.ROLE = 4 → u.rd PAIR_STAT.STATE = 3 →
      let k := kwtOf ⟨f.arg.toNat % 4, by omega⟩ f.body
      exec (.inputFrame f) s = .next ((u.modPair (fun p => { p with inputs := p.inputs ++ [(p.next.toNat, k)] })).stage4 k).linkAck) ∧
    (s.takesUbori 0x08 f u → u.rd PAIR_STAT.ROLE ≠ 4 → exec (.inputFrame f) s = .next u.linkAck) ∧
    (∀ n a, s.takesUbori 0x09 f u → u.pair.sig = some (n, a) → n ≠ f.arg.toNat % 2 ^ 32 → exec (.sigFrame f) s = .next
      (u.modPair (fun p => { p with psig := some (f.arg.toNat % 2 ^ 32, f.body) })).linkAck) ∧
    (∀ n a, s.takesUbori 0x09 f u → u.pair.sig = some (n, a) → n = f.arg.toNat % 2 ^ 32 → u.rd PAIR_STAT.ROLE = 4 → u.armed 0x2A (u.rd INJ_SEL.INST) = false →
      a = f.body → exec (.sigFrame f) s = .next ((u.modPair (fun p => { p with psig := some (n, f.body) })).cnt TWIN_STAT.COMPARES 1).linkAck) ∧
    (∀ n a, s.takesUbori 0x0A f u → u.pair.sig = some (n, a) → n = nbits f.arg.toNat 8 56 → u.rd PAIR_STAT.ROLE = 4 →
      exec (.verdictFrame f) s = .next (if bitOf f.arg 0 then u.twinPass n else u.twinFail n).linkAck) ∧
    (s.takesUbori 0x0D f u → nbits f.arg.toNat 0 8 = 6 → nbits f.arg.toNat 8 1 = 1 → u.rd PAIR_STAT.ROLE = 1 → u.pair.apply ≠ none →
      exec (.ctlApply f) s = .next (u.liveEnd 3 0x24).linkAck) ∧
    (s.takesUbori 0x0D f u → nbits f.arg.toNat 0 8 = 6 → nbits f.arg.toNat 8 1 = 0 → u.rd PAIR_STAT.ROLE = 2 →
      exec (.ctlApply f) s = .next (u.applyPiece (nbits f.arg.toNat 16 48) f.body).linkAck)

/-! ### Debug, the Custodian's mailbox, trials -/

/-- Run Control and trace (R599 to R601, R605, R609 to R612): a CP that the policy does not open is refused; HALT is taken at the next
boundary, RESUME and STEP need a halted CP; DBG_REGDATA reads and writes the register that DBG_REGSEL names; a packet leaves the trace
queue for the carve-out or for M0, and is else counted lost; a write of TRACE_CFG starts the carve-out again. -/
def Obligations.RunControlResults : Prop :=
  ∀ (s : State) (c0 c : CpId) (cl : ClusterId) (v : Word) (k : TracePkt) (rest : List TracePkt),
    let no := s.wr (DBG_CPSTAT.REFUSED c0) 1
    (s.lead c0 = c →
      (s.haltable c = false → exec (.debugHalt c0) s = .next no ∧ exec (.debugResume c0) s = .next no ∧ exec (.debugStep c0) s = .next no) ∧
      (s.haltable c = true → (s.cp c).run = .running →
        let t := s.modCp c (fun p => { p with haltReq := true })
        ((s.cp c).stall.takesIrq = false ∨ (s.cp c).lock ≠ 0 ∨ (s.cp c).a.delay ≠ none → exec (.debugHalt c0) s = .next t) ∧
        ((s.cp c).stall.takesIrq = true → (s.cp c).lock = 0 → (s.cp c).a.delay = none →
          exec (.debugHalt c0) s = .next ((t.modCp c (fun p => { p with stall := .none })).boundary c))) ∧
      (s.haltable c = true → (s.cp c).run = .inReset → exec (.debugHalt c0) s = .next s) ∧
      (s.haltable c = true → (s.cp c).run = .lockup → exec (.debugHalt c0) s = .next (s.haltCp c 1 0 false)) ∧
      (s.haltable c = true → (s.cp c).run ≠ .halted → exec (.debugResume c0) s = .next s ∧ exec (.debugStep c0) s = .next s) ∧
      (s.haltable c = true → (s.cp c).run = .halted →
        exec (.debugResume c0) s = .next ((((s.unhalt c false).tracePkt c 5 0 (BitVec.ofNat 64 (s.cp c).a.pc.toNat)).releaseCompare c).holdSync).thaw ∧
        exec (.debugStep c0) s = .next ((s.unhalt c true).releaseCompare c)) ∧
      ((s.cp c).run = .halted → s.rd (DBG_REGSEL.BANK c0) = 0 → ∀ n : Fin 16, s.rd (DBG_REGSEL.NUM c0) = n.val →
        exec (.dbgRegdataAccess c0 false v) s = .next (s.setReg (DBG_REGDATA.adr c0) (s.cp c).a.g[n.val]) ∧
        exec (.dbgRegdataAccess c0 true v) s = .next ((s.modA c (fun a => { a with g := vecUpd a.g n (fun _ => v) })).setReg (DBG_REGDATA.adr c0) v)) ∧
      ((s.cp c).run ≠ .halted → ∀ w, exec (.dbgRegdataAccess c0 w v) s = .next s)) ∧
    (s.trc[cl.val].queue = k :: rest →
      let lost := (s.modTrc cl (fun t => { t with queue := rest })).cntSat (TRACE_STAT.LOST cl) 1
      (s.rdB (TRACE_CFG.DEST cl) = true → s.dbgPol.traceM0 = true → exec (.tracePacketOut cl) s = .next ((s.traceSend cl).traceOverflow cl)) ∧
      (s.rdB (TRACE_CFG.DEST cl) = true → s.dbgPol.traceM0 = false → exec (.tracePacketOut cl) s = .next (lost.traceOverflow cl)) ∧
      (s.rdB (TRACE_CFG.DEST cl) = false → s.rdB (SPAD_CFG.TRACE cl) = false → exec (.tracePacketOut cl) s = .next (lost.traceOverflow cl)) ∧
      (s.rdB (TRACE_CFG.DEST cl) = false → s.rdB (SPAD_CFG.TRACE cl) = true → s.rdB (TRACE_STAT.FULL cl) = false →
        exec (.tracePacketOut cl) s = .next ((s.traceStore cl k).traceOverflow cl))) ∧
    (s.trc[cl.val].queue = [] → exec (.tracePacketOut cl) s = .next s) ∧
    (s.rdB (SPAD_CFG.TRACE cl) = false → exec (.traceCfgWrite cl v) s = .next
      (((s.setReg (TRACE_CFG.adr cl) (v &&& 0xFFFFFFFF00000007)).wr (TRACE_STAT.WPTR cl) 0).wr (TRACE_STAT.FULL cl) 0)) ∧
    (s.rdB (SPAD_CFG.TRACE cl) = true → ∃ t, exec (.traceCfgWrite cl v) s = .next t ∧ t.rd (TRACE_STAT.WPTR cl) = 0 ∧
      (∀ a, traceKey cl.val 0 ≤ a → a < traceKey cl.val 0 + 0x100000 → t.rawByte a = memDefault a) ∧
      ∀ a, (a < traceKey cl.val 0 ∨ traceKey cl.val 0 + 0x100000 ≤ a) → t.rawByte a = s.rawByte a)

/-- What the Custodian answers (R475, R573 to R576, R579 to R582, R587): a request with a wrong length or an unknown command is BADOP
and changes nothing; one whose authentication fails is AUTH, feeds the SECURITY bucket and uses its nonce up; GETNONCE gives a nonce;
the mailbox gives the answer and its status; a confirmed trial is sealed. -/
def Obligations.CustodianResults : Prop :=
  ∀ (s : State) (q : MgmtReq) (arg : Word),
    let cmd := leAt q.payload 0 2
    let len := mgmtLen cmd
    let form : Prop := q.payload.length = 8 + len + (if mgmtAuth cmd then 3328 else 0) ∧ leAt q.payload 2 2 = 0 ∧ leAt q.payload 4 4 = len ∧
      mgmtKnown (s.sec.sys == .recovery) cmd = true ∧ (s.sec.sys = .recovery → recoveryServes (s.rd RST_CAUSE.RCAUSE) cmd = true)
    (¬ form → (s.mgmt q).status = stBadop ∧ (s.mgmt q).s = s ∧ (s.mgmt q).payload = []) ∧
    (form → mgmtAuth cmd = true → (s.authOk q).1 = false → (s.mgmt q).status = stAuth ∧ (s.mgmt q).payload = [] ∧
      (s.mgmt q).s = (s.authOk q).2) ∧
    (form → cmd = 0x11 → (s.mgmt q).status = 0 ∧ (s.mgmt q).payload = (s.rand 16).1 ∧
      (⟨(s.rand 16).1, q.sess, s.now⟩ : Nonce) ∈ (s.mgmt q).s.sec.nonces ∧ (s.mgmt q).s.sec.nonces.length ≤ max 16 s.sec.nonces.length) ∧
    (form → mgmtAuth cmd = true → (s.authOk q).1 = true → cmd = 0x14 → (s.mgmt q).s.sec.slots = Vector.replicate 4 none ∧ (s.mgmt q).s.sec.dl = none) ∧
    (s.sec.sys = .run → nbits arg.toNat 0 8 = 0 → (s.update q arg).status = stBadop ∧ (s.update q arg).s = s) ∧
    (s.rd MBX_STAT.STATE = 1 → exec .mbxRequest s = .next s.mbxRun) ∧
    (s.rd MBX_STAT.STATE ≠ 1 → (s.rd MBX_CTL.LEN = 0 ∨ 16384 < s.rd MBX_CTL.LEN) → ∃ t, exec .mbxRequest s = .next t ∧
      t.rd MBX_STAT.STATE = 3 ∧ t.rd MBX_STAT.STATUS = 8 ∧ t.rd MBX_STAT.RLEN = 0) ∧
    (let a := s.mgmt ⟨65536, (List.range 6).map (fun i => (Config.mbxHead >>> (8 * i)).setWidth 8), false, s.mbxBytes (s.rd MBX_CTL.LEN)⟩;
      s.mbxRun = a.after ((((a.s.mbxPut a.payload).wr MBX_STAT.RLEN a.payload.length).wr MBX_STAT.STATUS a.status.toNat).wr MBX_STAT.STATE
        (if a.status = 0 then 2 else 3))) ∧
    (s.rdB UPD_STAT.TRIAL = true → s.rdB UPD_CFG.AUTO = true → s.sec.sys = .run → ∃ t, exec .autoConfirmExpiry s = .next t ∧
      t.rd UPD_STAT.TRIAL = 0 ∧ t.rd UPD_STAT.TRIES = 0) ∧
    (s.rdB UPD_STAT.TRIAL = false → exec .autoConfirmExpiry s = .next s)

/-! ### The machine -/

/-- The instruction formats (R90 to R95, R111): every instruction of a CP with every value of its fields is the command that the decoder reads
from its own bits, whose first parcel tells its length; a CP's program runs exactly the command that the parcels at its program counter
spell, the first highest; an encoding that spells none raises RESERVED_OP with the instruction in XINFO before any effect. -/
def Obligations.InstructionsDecode : Prop :=
  (∀ (i : Instr) (c : CpId) (n w : Nat), instrBits i = some (c, n, w) → decodeInsn c n w = some i ∧ (n = 1 ∨ n = 2 ∨ n = 4) ∧
    w < 2 ^ (14 * n) ∧ parcelLen (BitVec.ofNat 14 (w / 2 ^ (14 * (n - 1)))) = n) ∧
  (∀ (s : State) (c0 c : CpId) (x : BitVec 14) (w : Nat), s.lead c0 = c → s.parcel c (s.pc c) = some x →
    s.parcels c (s.pc c) (parcelLen x) 0 = some w →
    let i : Insn := { mkInsn (parcelLen x) w false false [] [] with rsv := true, vop := if parcelLen x = 4 then some (nbits w 44 10) else none }
    (∀ k, decodeInsn c (parcelLen x) w = some k → s.runProgram c0 = exec k s) ∧
    (decodeInsn c (parcelLen x) w = none → s.turn c0 c → s.noBreak c i → ∀ f, s.reads c i f → (parcelLen x = 4 → f.armed 0x15 (cpPipe c) = false) →
      s.runProgram c0 = .next (f.trapped c cReserved i.info)))

/-- A step takes the command at the front of the queue: it is that command on the state with the queue's rest, and the host's machine
is this step from this reset. -/
def Obligations.StepTakesTheFront : Prop :=
  (∀ (s : State) (c : Instr) (rest : List Instr), s.pending = c :: rest → step s = exec c { s with pending := rest }) ∧
  (∀ (s : State) (c : Instr), step { s with pending := c :: s.pending } = exec c s) ∧
  Sys2Proof.core.step = step ∧ Sys2Proof.core.reset = State.reset ∧ State.reset.pending = []

/-- On an empty queue one nanosecond passes (the model's choice, log entry 1, DESIGN CHOICE): time advances by 1; while the part is OFF nothing else
changes, and a timer that is off does not count. -/
def Obligations.EmptyQueuePassesTime : Prop :=
  ∀ (s : State), s.pending = [] →
    step s = .next s.tick ∧ (s.sec.sys = .off → s.tick = { s with now := s.now + 1 }) ∧
    (∀ c n, ((s.cp c).timers[(n : Fin 4).val]).en = false → s.timerTick c n = s) ∧
    (∀ c, (s.cp c).wdg.en = false → s.wdgTick c = s)

/-- Reset (R13, R78, R397, R423, R614): the part is OFF with nothing waiting, memory lists nothing, every CP is held in reset, no
tag is set, and registers of each block read what their tables give. -/
def Obligations.ResetValues : Prop :=
  State.reset.sec.sys = .off ∧ State.reset.mem = [] ∧ State.reset.tags = [] ∧ State.reset.errs = [] ∧ State.reset.csr = [] ∧
  (∀ c, (State.reset.cp c).run = .inReset ∧ (State.reset.cp c).vq.entries = [] ∧ ∀ n : Fin 16, ((State.reset.cp c).a.k[n.val]).tag = false) ∧
  (∀ a, State.reset.reg a = regReset a) ∧
  State.reset.rd FAB_AGE.CYC = 512 ∧ State.reset.rd KWT_CFG.ACK_COAL = 8 ∧ State.reset.rd KWT_CFG.RETRIES = 6 ∧
  State.reset.rd (NM_CFG.RH_THRESH 3) = 8 ∧ State.reset.rd THERM_CFG.THROTTLE_C = 100 ∧ State.reset.rd THERM_CFG.HYST_C = 3 ∧
  State.reset.rd PWR_LIMIT.WIN_MS = 1000 ∧ State.reset.rd (ETH_CFG.MAXFRAME 0) = 9216 ∧ State.reset.rd TURN_CFG.LOWATER = 5 ∧
  State.reset.rd (SCHED_CFG.PARK_IDLE 1) = 20 ∧ State.reset.rd (EVT_SEL.SOURCE 5) = 0xFFFF ∧ State.reset.rd (QS_CFG.SLOTLOG 3) = 8 ∧
  State.reset.rd PWR_LIMIT.LIMIT_W = Config.fusedTdp.toNat

/-- The state after reset has every sparse map in canonical form. -/
def Obligations.ResetIsCanonical : Prop := State.reset.canonical = true ∧ Memory.wf State.reset = true

/-- Every step keeps the canonical form of memory, tags, check errors and registers: whatever command stands in front, and on an
empty queue. -/
def Obligations.StepsKeepCanonicalForm : Prop :=
  ∀ (s t : State), s.canonical = true → step s = .next t → t.canonical = true

/-- No command touches the queue or the time, no free value is used twice, and no fuse bit that is blown is ever cleared (R560). -/
def Obligations.CommandsKeepQueueTimeAndFuses : Prop := ∀ (c : Instr) (s t : State), exec c s = .next t → s.keeps t
end

