-- ==== Sys2Proof/Laws/Digest.lean ====
section
/-! SUPPORT. The lengths of digests. -/

namespace Sys2Proof.Machine

theorem squeezeAll_length (rate k : Nat) (a : Array Word) : (squeezeAll rate k a).length = k * rate := by
  induction k generalizing a with
  | zero => simp [squeezeAll]
  | succ k ih => simp [squeezeAll, squeezeBlock, ih, Nat.add_mul]; omega

theorem sponge_length {rate : Nat} (h : 0 < rate) (domain : Byte) (m : List Byte) (n : Nat) : (sponge rate domain m n).length = n := by
  unfold sponge
  simp only [List.length_take, squeezeAll_length]
  have h1 := Nat.div_add_mod (n + rate - 1) rate
  have h2 := Nat.mod_lt (n + rate - 1) h
  rw [Nat.mul_comm ((n + rate - 1) / rate) rate]
  omega

@[simp] theorem shake_length (n : Nat) (m : List Byte) : (shake n m).length = n := by unfold shake; exact sponge_length (by decide) ..

@[simp] theorem shake128_length (n : Nat) (m : List Byte) : (shake128 n m).length = n := by unfold shake128; exact sponge_length (by decide) ..

@[simp] theorem sha3x256_length (m : List Byte) : (sha3x256 m).length = 32 := by unfold sha3x256; exact sponge_length (by decide) ..

@[simp] theorem sha3x512_length (m : List Byte) : (sha3x512 m).length = 64 := by unfold sha3x512; exact sponge_length (by decide) ..

@[simp] theorem kmac256_length (key m custom : List Byte) (n : Nat) : (kmac256 key m custom n).length = n := by
  unfold kmac256; exact sponge_length (by decide) ..

end Sys2Proof.Machine
end

