-- ==== Sys2Proof/Laws/Map.lean ====
section
/-! SUPPORT. The sparse maps: what an address reads as after a write, and that every operation keeps the canonical form. -/

namespace Sys2Proof.Machine

theorem mapFind_erase {α : Type} (m : List (Nat × α)) (a b : Nat) : mapFind (mapErase m a) b = if b = a then none else mapFind m b := by
  induction m with
  | nil => simp [mapErase, mapFind]
  | cons p m ih =>
    obtain ⟨k, v⟩ := p
    by_cases hk : a = k
    · subst hk; simp only [mapErase, if_true, ih, mapFind]; split <;> rfl
    · simp only [mapErase, hk, if_false, mapFind, ih]
      by_cases hb : b = a
      · simp [hb, hk]
      · simp [hb]

theorem mapFind_erase_ne {α : Type} (m : List (Nat × α)) {a b : Nat} (h : b ≠ a) : mapFind (mapErase m a) b = mapFind m b := by
  simp [mapFind_erase, h]

theorem mapFind_insert {α : Type} (m : List (Nat × α)) (a b : Nat) (v : α) :
    mapFind (mapInsert m a v) b = if b = a then some v else mapFind m b := by
  induction m with
  | nil => simp [mapInsert, mapFind]
  | cons p m ih =>
    obtain ⟨k, w⟩ := p
    simp only [mapInsert]
    split
    · simp [mapFind]
    · split
      · subst_vars; simp only [mapFind]; split <;> rfl
      · rename_i h1
        simp only [mapFind, ih]
        by_cases hk : b = k
        · subst hk; simp [Ne.symm h1]
        · simp [hk]

section
variable {α : Type} [DecidableEq α] (d : Nat → α)

/-- All keys lie above a bound that is weaker. -/
theorem mapWfFrom_weaken {m : List (Nat × α)} {b : Nat} {lo : Option Nat} (hlo : ∀ c, lo = some c → c ≤ b)
    (h : mapWfFrom d (some b) m = true) : mapWfFrom d lo m = true := by
  cases m with
  | nil => rfl
  | cons p m =>
    obtain ⟨k, v⟩ := p
    simp only [mapWfFrom, Bool.and_eq_true, decide_eq_true_eq] at h ⊢
    refine ⟨⟨?_, h.1.2⟩, h.2⟩
    cases lo with
    | none => rfl
    | some c => simpa using Nat.lt_of_le_of_lt (hlo c rfl) h.1.1

theorem mapWfFrom_find {m : List (Nat × α)} {b a : Nat} (h : mapWfFrom d (some b) m = true) (ha : a ≤ b) : mapFind m a = none := by
  induction m generalizing b with
  | nil => rfl
  | cons p m ih =>
    obtain ⟨k, v⟩ := p
    simp only [mapWfFrom, Bool.and_eq_true, decide_eq_true_eq] at h
    have : a ≠ k := by omega
    simp only [mapFind, this, if_false]
    exact ih h.2 (by omega)

theorem mapWfFrom_erase {m : List (Nat × α)} {lo : Option Nat} (a : Nat) (h : mapWfFrom d lo m = true) :
    mapWfFrom d lo (mapErase m a) = true := by
  induction m generalizing lo with
  | nil => exact h
  | cons p m ih =>
    obtain ⟨k, v⟩ := p
    simp only [mapWfFrom, Bool.and_eq_true, decide_eq_true_eq] at h
    simp only [mapErase]
    split
    · refine mapWfFrom_weaken d (b := k) ?_ (ih h.2)
      intro c hc; subst hc; have := h.1.1; simp at this; omega
    · simp only [mapWfFrom, Bool.and_eq_true, decide_eq_true_eq]
      exact ⟨h.1, ih h.2⟩

theorem mapWfFrom_insert {m : List (Nat × α)} {lo : Option Nat} (a : Nat) (v : α) (hv : v ≠ d a) (hlo : ∀ c, lo = some c → c < a)
    (h : mapWfFrom d lo m = true) : mapWfFrom d lo (mapInsert m a v) = true := by
  induction m generalizing lo with
  | nil => cases lo <;> simp [mapInsert, mapWfFrom, hv] ; exact hlo _ rfl
  | cons p m ih =>
    obtain ⟨k, w⟩ := p
    simp only [mapWfFrom, Bool.and_eq_true, decide_eq_true_eq] at h
    simp only [mapInsert]
    split
    · simp only [mapWfFrom, Bool.and_eq_true, decide_eq_true_eq]
      refine ⟨⟨?_, hv⟩, ⟨⟨by assumption, h.1.2⟩, h.2⟩⟩
      cases lo with
      | none => rfl
      | some c => simpa using hlo c rfl
    · split
      · subst_vars; simp only [mapWfFrom, Bool.and_eq_true, decide_eq_true_eq]
        exact ⟨⟨h.1.1, hv⟩, h.2⟩
      · simp only [mapWfFrom, Bool.and_eq_true, decide_eq_true_eq]
        refine ⟨h.1, ih ?_ h.2⟩
        intro c hc; cases hc; omega

/-- An address reads as what was written to it, and every other as it did: in every list, in canonical form or not. -/
theorem mapGet_put (m : List (Nat × α)) (a b : Nat) (v : α) :
    mapGet d (mapPut d m a v) b = if b = a then v else mapGet d m b := by
  unfold mapPut mapGet
  split
  · rename_i hv
    rw [mapFind_erase]
    split <;> simp_all
  · rw [mapFind_insert]; split <;> simp

/-- Another address reads as it did, whatever the list. -/
theorem mapGet_put_ne (m : List (Nat × α)) {a b : Nat} (v : α) (h : b ≠ a) : mapGet d (mapPut d m a v) b = mapGet d m b := by
  unfold mapPut mapGet
  split
  · rw [mapFind_erase_ne m h]
  · rw [mapFind_insert]; simp [h]

theorem mapWf_put {m : List (Nat × α)} (a : Nat) (v : α) (h : mapWf d m = true) : mapWf d (mapPut d m a v) = true := by
  unfold mapPut
  split
  · exact mapWfFrom_erase d a h
  · exact mapWfFrom_insert d a v (by assumption) (by simp) h

theorem mapWf_filter {m : List (Nat × α)} (p : Nat × α → Bool) (h : mapWf d m = true) : mapWf d (m.filter p) = true := by
  unfold mapWf at h ⊢
  generalize (none : Option Nat) = lo at h
  induction m generalizing lo with
  | nil => rfl
  | cons x m ih =>
    obtain ⟨k, w⟩ := x
    have h0 := h
    simp only [mapWfFrom, Bool.and_eq_true, decide_eq_true_eq] at h
    simp only [List.filter_cons]
    split
    · simp only [mapWfFrom, Bool.and_eq_true, decide_eq_true_eq]; exact ⟨h.1, ih _ h.2⟩
    · refine mapWfFrom_weaken d (b := k) ?_ (ih _ h.2)
      intro c hc; subst hc; have := h.1.1; simp at this; omega
end

end Sys2Proof.Machine
end

