-- ==== Sys2Proof/Laws/Gran.lean ====
section
/-! SUPPORT. The copy of a granule whose page holds no tag and no error, with no injection armed, leaves the list of granules. -/

namespace Sys2Proof.Machine

/-- A state lists the granules of another, and no injection is armed. -/
def quietAs (s t : State) : Prop := t.mst.granules = s.mst.granules ∧ t.rdB INJ_STAT.ARMED = false

theorem quiet_reg {s t : State} (h : quietAs s t) {a : Nat} (ha : INJ_STAT.adr ≠ a) (v : Word) (n : Nat) :
    quietAs s { t with csr := mapPut regReset t.csr a v, free := n } :=
  ⟨h.1, by rw [← h.2]; simp only [State.rdB, State.rd, State.reg, INJ_STAT.ARMED]; rw [mapGet_put_ne (d := regReset) t.csr v ha]⟩

theorem quiet_cnt {s t : State} (h : quietAs s t) {f : Fld} (ha : INJ_STAT.adr ≠ f.adr) (n : Nat) : quietAs s (t.cnt f n) := by
  unfold State.cnt
  split
  · exact quiet_reg h ha _ t.free
  · exact quiet_reg h ha _ (t.free + 1)

theorem quiet_send {s t : State} (h : quietAs s t) (near : Bool) (k : Nat) : t.sendCmd near k = t := by
  simp [State.sendCmd, State.inject, State.armed, h.2]

theorem quiet_fold {α : Type} {s : State} {f : State → α → State} (hf : ∀ t x, quietAs s t → quietAs s (f t x)) (l : List α) {t : State}
    (h : quietAs s t) : quietAs s (l.foldl f t) := by
  induction l generalizing t with
  | nil => exact h
  | cons x l ih => exact ih (hf t x h)

theorem quiet_rfm {s t : State} (h : quietAs s t) (bk : Nat) : quietAs s (t.rfmSent bk) := by
  unfold State.rfmSent
  rw [quiet_send h, quiet_send h]
  split
  · exact quiet_cnt h (by simp only [NM_RH.COUNT, NM_RH.adr, INJ_STAT.adr]; omega) _
  · exact h

theorem quiet_rows {s t : State} (h : quietAs s t) (bs : List (Nat × Nat)) : quietAs s (t.reachRows bs) := by
  have hb : ∀ (l : List Nat) (u : State), quietAs s u → quietAs s (l.foldr (fun bk s => s.rfmSent bk) u) := by
    intro l u hu
    induction l with
    | nil => exact hu
    | cons x l ih => exact quiet_rfm ih x
  exact hb _ _ h

theorem quiet_move {s t : State} (h : quietAs s t) (g : Nat) : quietAs s (t.granMove g) := by
  unfold State.granMove
  split
  · refine quiet_rows (quiet_fold (fun u k hu => ?_) _ h) _
    rw [quiet_send hu]
    exact quiet_cnt hu (by simp only [NM_LINES.COUNT, NM_LINES.adr, INJ_STAT.adr]; omega) _
  · refine quiet_fold (fun u i hu => ?_) _ h
    have e : u.celMove (g * 65536 + 64 * i) = u.reachRows
        [(celBankKey (u.celAt (g * 65536 + 64 * i)).1 (u.celBankOf (u.celAt (g * 65536 + 64 * i)).1 (u.celAt (g * 65536 + 64 * i)).2),
          (u.celBankOf (u.celAt (g * 65536 + 64 * i)).1 (u.celAt (g * 65536 + 64 * i)).2).row)] := by
      unfold State.celMove
      simp only [quiet_send hu]
    rw [e]
    exact quiet_rows hu _

theorem quiet_copy {s : State} (ha : s.rdB INJ_STAT.ARMED = false) (ht : s.tags = []) (he : s.errs = []) (p : PartId) (a b : Nat) :
    (s.migCopy p a b).mst.granules = s.mst.granules := by
  have still : ∀ {α β : Type} {f : β → α → β} {b : β}, (∀ x, f b x = b) → ∀ l : List α, l.foldl f b = b := by
    intro α β f b h l
    induction l with
    | nil => rfl
    | cons x l ih => rw [List.foldl_cons, h, ih]
  have h1 : s.copyTags p a = ([], s) := by
    unfold State.copyTags
    exact still (fun x => by simp [ha, State.tagAt, ht, mapGet, mapFind, tagDefault]) _
  have h2 : s.copyUnits a = ([], s) := by
    unfold State.copyUnits
    exact still (fun x => by simp [ha, State.errAny, State.err, he, mapGet, mapFind, errDefault]) _
  simp only [State.migCopy, h1, h2, State.migMove, List.foldl_nil]
  have hm : quietAs s (s.moveGranules a b 1) := by
    have := quiet_fold (s := s) (f := fun s i => ((s.granMove (a + i)).emptyGranule (b + i)).granMove (b + i))
      (fun t i h => quiet_move (t := (t.granMove (a + i)).emptyGranule (b + i)) (quiet_move h (a + i)) (b + i)) (List.range 1) ⟨rfl, ha⟩
    exact ⟨this.1, this.2⟩
  have hf : ∀ (t : State) (u : Nat), t.rdB INJ_STAT.ARMED = false → t.granFlip u = t := by
    intro t u h
    simp [State.granFlip, State.armed, h]
  rw [hf _ _ (by exact hm.2)]
  exact hm.1

end Sys2Proof.Machine
end

