-- ==== Sys2Proof/Laws/Keeps.lean ====
section
/-! SUPPORT. What every operation keeps, stated once for each: the queue, the time, the free values used, blown fuses and the
canonical form of the maps. `Keeps z s` says it of a state `s` that operations made from `z`; the lemma of an operation says that
the relation survives it. -/

namespace Sys2Proof.Machine

/-- What every operation keeps: the queue, the time, the free values used, blown fuses, and the canonical form of the maps. -/
structure Keeps (z s : State) : Prop where
  pending : s.pending = z.pending
  now : s.now = z.now
  free : z.free ≤ s.free
  fuses : ∀ k, mapGet (fun _ => (0 : Word)) z.sec.burnt k &&& mapGet (fun _ => 0) s.sec.burnt k = mapGet (fun _ => 0) z.sec.burnt k
  canon : z.canonical = true → s.canonical = true

/-- The parts of the state that `Keeps` speaks of. -/
def State.same (s t : State) : Prop :=
  t.pending = s.pending ∧ t.now = s.now ∧ t.free = s.free ∧ t.sec.burnt = s.sec.burnt ∧ t.mem = s.mem ∧ t.tags = s.tags ∧
    t.errs = s.errs ∧ t.csr = s.csr ∧ t.pair.twin = s.pair.twin ∧ t.pair.twinNew = s.pair.twinNew

theorem Keeps.refl (s : State) : Keeps s s := ⟨rfl, rfl, Nat.le_refl _, fun _ => by simp, id⟩

theorem Keeps.same {z s t : State} (h : Keeps z s) (e : s.same t) : Keeps z t := by
  obtain ⟨e1, e2, e3, e4, e5, e6, e7, e8, e9, e10⟩ := e
  refine ⟨e1.trans h.1, e2.trans h.2, e3 ▸ h.3, by rw [e4]; exact h.4, fun hc => ?_⟩
  have := h.5 hc
  simpa only [State.canonical, Memory.wf, e5, e6, e7, e8, e9, e10] using this

/-- A change of the maps alone. -/
theorem Keeps.maps {z s t : State} (h : Keeps z s) (e : t.pending = s.pending ∧ t.now = s.now ∧ t.free = s.free ∧ t.sec.burnt = s.sec.burnt)
    (hc : s.canonical = true → t.canonical = true) : Keeps z t := by
  obtain ⟨e1, e2, e3, e4⟩ := e
  exact ⟨e1.trans h.1, e2.trans h.2, e3 ▸ h.3, by rw [e4]; exact h.4, fun g => hc (h.5 g)⟩

theorem Keeps.trans {a b c : State} (h : Keeps a b) (g : Keeps b c) : Keeps a c :=
  ⟨g.1.trans h.1, g.2.trans h.2, Nat.le_trans h.3 g.3, fun k => by
    rw [← h.4 k, BitVec.and_assoc, g.4 k], fun hc => g.5 (h.5 hc)⟩

theorem Keeps.ite {z a b : State} {p : Prop} [Decidable p] (ha : Keeps z a) (hb : Keeps z b) : Keeps z (if p then a else b) := by
  split
  · exact ha
  · exact hb

theorem Keeps.foldl {α : Type} {z : State} {f : State → α → State} {l : List α} {s : State}
    (hf : ∀ s x, Keeps z s → Keeps z (f s x)) (h : Keeps z s) : Keeps z (l.foldl f s) := by
  induction l generalizing s with
  | nil => exact h
  | cons x l ih => exact ih (hf s x h)

theorem Keeps.foldl2 {α β : Type} {z : State} {f : β × State → α → β × State} {l : List α} {s : β × State}
    (hf : ∀ s x, Keeps z s.2 → Keeps z (f s x).2) (h : Keeps z s.2) : Keeps z (l.foldl f s).2 := by
  induction l generalizing s with
  | nil => exact h
  | cons x l ih => exact ih (hf s x h)

theorem Keeps.foldl1 {α β : Type} {z : State} {f : State × β → α → State × β} {l : List α} {s : State × β}
    (hf : ∀ s x, Keeps z s.1 → Keeps z (f s x).1) (h : Keeps z s.1) : Keeps z (l.foldl f s).1 := by
  induction l generalizing s with
  | nil => exact h
  | cons x l ih => exact ih (hf s x h)

theorem Keeps.foldl3 {α β γ : Type} {z : State} {f : β × γ × State → α → β × γ × State} {l : List α} {s : β × γ × State}
    (hf : ∀ s x, Keeps z s.2.2 → Keeps z (f s x).2.2) (h : Keeps z s.2.2) : Keeps z (l.foldl f s).2.2 := by
  induction l generalizing s with
  | nil => exact h
  | cons x l ih => exact ih (hf s x h)

theorem Keeps.eq2 {α : Type} {z g : State} {p : α × State} {x : α} (e : p = (x, g)) (h : Keeps z p.2) : Keeps z g := by
  subst e; exact h

theorem Keeps.eq3 {α β : Type} {z g : State} {p : α × β × State} {x : α} {y : β} (e : p = (x, y, g)) (h : Keeps z p.2.2) : Keeps z g := by
  subst e; exact h

theorem Keeps.ite2 {α : Type} {z : State} {a b : α × State} {p : Prop} [Decidable p] (ha : Keeps z a.2) (hb : Keeps z b.2) :
    Keeps z (if p then a else b).2 := by
  split
  · exact ha
  · exact hb

theorem Keeps.ite3 {α β : Type} {z : State} {a b : α × β × State} {p : Prop} [Decidable p] (ha : Keeps z a.2.2) (hb : Keeps z b.2.2) :
    Keeps z (if p then a else b).2.2 := by
  split
  · exact ha
  · exact hb

theorem Keeps.dite {z : State} {p : Prop} [Decidable p] {a : p → State} {b : ¬p → State} (ha : ∀ h, Keeps z (a h))
    (hb : ∀ h, Keeps z (b h)) : Keeps z (if h : p then a h else b h) := by
  split
  · exact ha _
  · exact hb _

theorem Keeps.dite2 {α : Type} {z : State} {p : Prop} [Decidable p] {a : p → α × State} {b : ¬p → α × State} (ha : ∀ h, Keeps z (a h).2)
    (hb : ∀ h, Keeps z (b h).2) : Keeps z (if h : p then a h else b h).2 := by
  split
  · exact ha _
  · exact hb _

theorem Keeps.mk1 {α : Type} {z s : State} {x : α} (h : Keeps z s) : Keeps z (s, x).1 := h
theorem Keeps.mk2 {α : Type} {z s : State} {x : α} (h : Keeps z s) : Keeps z (x, s).2 := h
theorem Keeps.mk3 {α β : Type} {z s : State} {x : α} {y : β} (h : Keeps z s) : Keeps z (x, y, s).2.2 := h

theorem Keeps.cut {z s : State} {P : Prop} (h : Keeps z s) (k : Keeps z s → P) : P := k h

/-- What a flow of control carries. -/
def Flow.Keeps (z : State) : Flow → Prop
  | .next s => Machine.Keeps z s
  | .jump s _ => Machine.Keeps z s
  | .delayed s _ => Machine.Keeps z s
  | .trap s _ _ _ => Machine.Keeps z s
  | .stall s _ => Machine.Keeps z s
  | .done s => Machine.Keeps z s

theorem Flow.keeps_next {z s : State} (h : Machine.Keeps z s) : Flow.Keeps z (.next s) := h
theorem Flow.keeps_jump {z s : State} {n : Nat} (h : Machine.Keeps z s) : Flow.Keeps z (.jump s n) := h
theorem Flow.keeps_delayed {z s : State} {n : Option Nat} (h : Machine.Keeps z s) : Flow.Keeps z (.delayed s n) := h
theorem Flow.keeps_trap {z s : State} {n : Nat} {w : Word} {b : Bool} (h : Machine.Keeps z s) : Flow.Keeps z (.trap s n w b) := h
theorem Flow.keeps_stall {z s : State} {w : Stall} (h : Machine.Keeps z s) : Flow.Keeps z (.stall s w) := h
theorem Flow.keeps_done {z s : State} (h : Machine.Keeps z s) : Flow.Keeps z (.done s) := h
theorem Flow.keeps_ite {z : State} {a b : Flow} {p : Prop} [Decidable p] (ha : Flow.Keeps z a) (hb : Flow.Keeps z b) :
    Flow.Keeps z (if p then a else b) := by
  split
  · exact ha
  · exact hb

/-- What an answer of the Custodian carries: its state, and what happens once it is sent. -/
def CustAns.Keeps (z : State) (a : CustAns) : Prop := Machine.Keeps z a.s ∧ ∀ t, Machine.Keeps z t → Machine.Keeps z (a.after t)

theorem CustAns.cut {z : State} {a : CustAns} {P : Prop} (h : CustAns.Keeps z a) (k : CustAns.Keeps z a → P) : P := k h

theorem CustAns.keeps_s {z : State} {a : CustAns} (h : CustAns.Keeps z a) : Machine.Keeps z a.s := h.1
theorem CustAns.keeps_after {z t : State} {a : CustAns} (h : CustAns.Keeps z a) (ht : Machine.Keeps z t) : Machine.Keeps z (a.after t) := h.2 t ht

/-- What the hooks of the transport engine keep. -/
def NetHooks.Keeps (h : NetHooks) : Prop :=
  ∀ z s f, Machine.Keeps z s → CustAns.Keeps z (h.cust s f) ∧ Machine.Keeps z (h.fwd s f)

theorem NetHooks.keeps_fwd {z s : State} {h : NetHooks} {f : KwtFrame} (hh : h.Keeps) (hs : Machine.Keeps z s) : Machine.Keeps z (h.fwd s f) :=
  (hh z s f hs).2

theorem CustAns.keeps_mk {z s : State} {st fb : Byte} {l : List Byte} {f : State → State} (h : Machine.Keeps z s)
    (hf : ∀ t, Machine.Keeps z t → Machine.Keeps z (f t)) : CustAns.Keeps z ⟨st, fb, l, s, f⟩ := ⟨h, hf⟩

theorem CustAns.keeps_ite {z : State} {a b : CustAns} {p : Prop} [Decidable p] (ha : CustAns.Keeps z a) (hb : CustAns.Keeps z b) :
    CustAns.Keeps z (if p then a else b) := by
  split
  · exact ha
  · exact hb

theorem Keeps.ident {z s : State} (h : Keeps z s) : Keeps z (id s) := h

/-- What an outcome carries. -/
def Out.Keeps (z : State) : Out → Prop
  | .next t => Machine.Keeps z t
  | _ => True

theorem Out.keeps_next {z s : State} (h : Machine.Keeps z s) : Out.Keeps z (.next s) := h

theorem Out.keeps_ite {z : State} {a b : Out} {p : Prop} [Decidable p] (ha : Out.Keeps z a) (hb : Out.Keeps z b) :
    Out.Keeps z (if p then a else b) := by
  split
  · exact ha
  · exact hb

theorem State.canonical_iff (s : State) : s.canonical = true ↔ mapWf memDefault s.mem = true ∧ mapWf tagDefault s.tags = true ∧
    mapWf errDefault s.errs = true ∧ mapWf regReset s.csr = true ∧ s.pair.twin.all TwinImg.wf = true ∧ s.pair.twinNew.all TwinImg.wf = true := by
  simp [State.canonical, Memory.wf, Bool.and_eq_true, and_assoc]

theorem mapWf_puts {α β : Type} [DecidableEq α] (d : Nat → α) (l : List β) (f : β → Nat) (g : β → α) {m : List (Nat × α)}
    (h : mapWf d m = true) : mapWf d (l.foldl (fun m e => mapPut d m (f e) (g e)) m) = true := by
  induction l generalizing m with
  | nil => exact h
  | cons x l ih => exact ih (mapWf_put d _ _ h)

theorem State.setReg_keeps {z s : State} {a : Nat} {v : Word} (h : Keeps z s) : Keeps z (s.setReg a v) :=
  ⟨h.1, h.2, h.3, h.4, fun hc => by
    have := h.5 hc
    rw [State.canonical_iff] at this ⊢
    exact ⟨this.1, this.2.1, this.2.2.1, mapWf_put _ _ _ this.2.2.2.1, this.2.2.2.2⟩⟩

theorem State.setErr_keeps {z s : State} {w : Nat} {e : Err} (h : Keeps z s) : Keeps z (s.setErr w e) :=
  ⟨h.1, h.2, h.3, h.4, fun hc => by
    have := h.5 hc
    rw [State.canonical_iff] at this ⊢
    exact ⟨this.1, this.2.1, mapWf_put _ _ _ this.2.2.1, this.2.2.2⟩⟩

theorem State.putByte_keeps {z s : State} {k : Nat} {b : Byte} (h : Keeps z s) : Keeps z (s.putByte k b) :=
  ⟨h.1, h.2, h.3, h.4, fun hc => by
    have := h.5 hc
    rw [State.canonical_iff] at this ⊢
    exact ⟨mapWf_put _ _ _ this.1, this.2⟩⟩

theorem State.setTag_keeps {z s : State} {g : Nat} {b : Bool} (h : Keeps z s) : Keeps z (s.setTag g b) :=
  ⟨h.1, h.2, h.3, h.4, fun hc => by
    have := h.5 hc
    rw [State.canonical_iff] at this ⊢
    exact ⟨this.1, mapWf_put _ _ _ this.2.1, this.2.2⟩⟩

theorem State.putBytes_keeps {z s : State} {l : List Byte} {k : Nat} (h : Keeps z s) : Keeps z (State.putBytes l k s) := by
  induction l generalizing s k with
  | nil => exact h
  | cons b l ih => exact ih (State.putByte_keeps h)

theorem State.fresh_keeps {z s : State} (h : Keeps z s) : Keeps z s.fresh.2 :=
  ⟨h.1, h.2, Nat.le_succ_of_le h.3, h.4, fun hc => h.5 hc⟩

theorem State.modCp_keeps {z s : State} {c : CpId} {f : Cp → Cp} (h : Keeps z s) : Keeps z (s.modCp c f) := ⟨h.1, h.2, h.3, h.4, h.5⟩
theorem State.modA_keeps {z s : State} {c : CpId} {f : CpArch → CpArch} (h : Keeps z s) : Keeps z (s.modA c f) := ⟨h.1, h.2, h.3, h.4, h.5⟩
theorem State.modVq_keeps {z s : State} {c : CpId} {f : VQueue → VQueue} (h : Keeps z s) : Keeps z (s.modVq c f) := ⟨h.1, h.2, h.3, h.4, h.5⟩
theorem State.modPart_keeps {z s : State} {p : PartId} {f : Part → Part} (h : Keeps z s) : Keeps z (s.modPart p f) := ⟨h.1, h.2, h.3, h.4, h.5⟩
theorem State.modM_keeps {z s : State} {f : MemSt → MemSt} (h : Keeps z s) : Keeps z (s.modM f) := ⟨h.1, h.2, h.3, h.4, h.5⟩
theorem State.modE_keeps {z s : State} {f : EvtSt → EvtSt} (h : Keeps z s) : Keeps z (s.modE f) := ⟨h.1, h.2, h.3, h.4, h.5⟩
theorem State.modN_keeps {z s : State} {f : NetSt → NetSt} (h : Keeps z s) : Keeps z (s.modN f) := ⟨h.1, h.2, h.3, h.4, h.5⟩
theorem State.modPwr_keeps {z s : State} {f : PwrSt → PwrSt} (h : Keeps z s) : Keeps z (s.modPwr f) := ⟨h.1, h.2, h.3, h.4, h.5⟩
theorem State.modBoard_keeps {z s : State} {f : BoardSt → BoardSt} (h : Keeps z s) : Keeps z (s.modBoard f) := ⟨h.1, h.2, h.3, h.4, h.5⟩
theorem State.modFab_keeps {z s : State} {f : FabSt → FabSt} (h : Keeps z s) : Keeps z (s.modFab f) := ⟨h.1, h.2, h.3, h.4, h.5⟩
theorem State.modLa_keeps {z s : State} {q : QuadId} {f : LaSt → LaSt} (h : Keeps z s) : Keeps z (s.modLa q f) := ⟨h.1, h.2, h.3, h.4, h.5⟩
theorem State.modTrc_keeps {z s : State} {q : ClusterId} {f : Trc → Trc} (h : Keeps z s) : Keeps z (s.modTrc q f) := ⟨h.1, h.2, h.3, h.4, h.5⟩
theorem State.modSec_keeps {z s : State} {f : SecSt → SecSt} (hf : (f s.sec).burnt = s.sec.burnt) (h : Keeps z s) : Keeps z (s.modSec f) :=
  h.same ⟨rfl, rfl, rfl, hf, rfl, rfl, rfl, rfl, rfl, rfl⟩
theorem State.modPair_keeps {z s : State} {f : PairSt → PairSt} (hf : (f s.pair).twin = s.pair.twin)
    (hg : (f s.pair).twinNew = s.pair.twinNew) (h : Keeps z s) : Keeps z (s.modPair f) :=
  h.same ⟨rfl, rfl, rfl, rfl, rfl, rfl, rfl, rfl, hf, hg⟩

/-- A change of the images that a Twin side keeps. -/
theorem State.modPairT_keeps {z s : State} {f : PairSt → PairSt}
    (hf : s.canonical = true → (f s.pair).twin.all TwinImg.wf = true ∧ (f s.pair).twinNew.all TwinImg.wf = true) (h : Keeps z s) :
    Keeps z (s.modPair f) :=
  h.maps ⟨rfl, rfl, rfl, rfl⟩ fun hc => by
    have := hf hc
    rw [State.canonical_iff] at hc ⊢
    exact ⟨hc.1, hc.2.1, hc.2.2.1, hc.2.2.2.1, this⟩

/-- The image that a Twin side keeps is in canonical form. -/
theorem State.twinImg_wf {s : State} (h : s.canonical = true) : s.twinImg.wf = true := by
  rw [State.canonical_iff] at h
  simp [TwinImg.wf, State.twinImg, h.1, h.2.1]

/-- Maps of memory that are filtered, and other maps that stay. -/
theorem Keeps.mem {z s t : State} (h : Keeps z s)
    (e : t.pending = s.pending ∧ t.now = s.now ∧ t.free = s.free ∧ t.sec.burnt = s.sec.burnt)
    (hm : s.canonical = true → mapWf memDefault t.mem = true ∧ mapWf tagDefault t.tags = true ∧ mapWf errDefault t.errs = true ∧
      mapWf regReset t.csr = true ∧ t.pair.twin.all TwinImg.wf = true ∧ t.pair.twinNew.all TwinImg.wf = true) : Keeps z t :=
  h.maps e fun hc => (State.canonical_iff t).mpr (hm hc)

/-- An assignment of the fuse copies keeps every blown bit. -/
theorem burn_mono (m : List (Nat × Word)) (a : Nat) (v : Word) (k : Nat) :
    mapGet (fun _ => (0 : Word)) m k &&& mapGet (fun _ => 0) (mapPut (fun _ => (0 : Word)) m a (mapGet (fun _ => (0 : Word)) m a ||| v)) k =
      mapGet (fun _ => 0) m k := by
  by_cases hk : k = a
  · subst hk
    unfold mapPut
    split
    · rename_i h
      have : mapGet (fun _ => (0 : Word)) m k = 0 := by
        have h' : (mapGet (fun _ => (0 : Word)) m k ||| v) = 0 := h
        exact (BitVec.or_eq_zero_iff.mp h').1
      rw [this]; simp
    · rename_i h
      have : mapGet (fun _ => (0 : Word)) (mapInsert m k (mapGet (fun _ => (0 : Word)) m k ||| v)) k = mapGet (fun _ => 0) m k ||| v := by
        simp [mapGet, mapFind_insert]
      rw [this]
      ext i; simp; intro h; exact Or.inl h
  · have : mapGet (fun _ => (0 : Word)) (mapPut (fun _ => (0 : Word)) m a (mapGet (fun _ => (0 : Word)) m a ||| v)) k = mapGet (fun _ => 0) m k := by
      unfold mapPut mapGet
      split
      · rw [mapFind_erase_ne m hk]
      · rw [mapFind_insert]; simp [hk]
    rw [this]; simp

end Sys2Proof.Machine
end

