-- ==== Sys2Proof/Laws/KeepsOps.lean ====
section
/-! SUPPORT. What the registers, the events, memory, paging and the streams keep: one lemma for each operation and each meaning. -/

namespace Sys2Proof.Machine

theorem State.wr_keeps {z s : State} {f : Fld} {v : Nat} (hs : Keeps z s) : Keeps z (State.wr s f v) := by
  unfold State.wr
  exact State.setReg_keeps hs

theorem State.wrB_keeps {z s : State} {f : Fld} {b : Bool} (hs : Keeps z s) : Keeps z (State.wrB s f b) := by
  unfold State.wrB
  exact State.wr_keeps hs

theorem State.cnt_keeps {z s : State} {f : Fld} {n : Nat} (hs : Keeps z s) : Keeps z (State.cnt s f n) := by
  unfold State.cnt
  refine Keeps.ite (State.wr_keeps hs) ?_
  extract_lets +onlyGivenNames x1
  have h2 : Keeps z x1.2 := State.fresh_keeps hs
  clear_value x1
  exact State.wr_keeps h2

theorem State.modChan_keeps {z s : State} {k : Fin 64} {f : Chan → Chan} (hs : Keeps z s) : Keeps z (State.modChan s k f) := by
  unfold State.modChan
  exact State.modE_keeps hs

theorem State.flagChan_keeps {z s : State} {k : Nat} {coin : Bool} (hs : Keeps z s) : Keeps z (State.flagChan s k coin) := by
  unfold State.flagChan
  extract_lets +onlyGivenNames x1
  clear_value x1
  exact Keeps.foldl (fun x2 => fun x3 => fun h4 => Keeps.ite (State.modCp_keeps h4) h4) hs

theorem State.cntSat_keeps {z s : State} {f : Fld} {n : Nat} (hs : Keeps z s) : Keeps z (State.cntSat s f n) := by
  unfold State.cntSat
  exact State.wr_keeps hs

theorem State.chanPass_keeps {z s : State} {k : Fin 64} (hs : Keeps z s) : Keeps z (State.chanPass s k) := by
  unfold State.chanPass
  exact State.modChan_keeps (State.flagChan_keeps (State.cntSat_keeps hs))

theorem State.chanEvent_keeps {z s : State} {k : Fin 64} (hs : Keeps z s) : Keeps z (State.chanEvent s k).2 := by
  unfold State.chanEvent
  extract_lets +onlyGivenNames x1 x2 x3
  have h4 : Keeps z x3 := State.modChan_keeps hs
  clear_value x1 x2 x3
  refine Keeps.ite2 (Keeps.mk2 (State.flagChan_keeps (State.cntSat_keeps h4))) (Keeps.ite2 h4 ?_)
  extract_lets +onlyGivenNames x5 x6 x7 x8
  clear_value x5 x6 x7 x8
  exact Keeps.ite2 (Keeps.mk2 (State.cntSat_keeps h4)) (Keeps.ite2 (Keeps.ite2 (Keeps.mk2 (State.cntSat_keeps h4)) (Keeps.mk2 (State.wr_keeps h4)))
      (Keeps.mk2 (State.chanPass_keeps h4)))

theorem State.irq_keeps {z s : State} {c : CpId} {n : Nat} (hs : Keeps z s) : Keeps z (State.irq s c n) := by
  unfold State.irq
  exact State.modCp_keeps hs

theorem State.consume_keeps {z : State} {ck : PartId → State → State} {s : State} {c : Nat} (hck : ∀ w0 w1, Keeps z w1 → Keeps z (ck w0 w1))
    (hs : Keeps z s) : Keeps z (State.consume ck s c) := by
  unfold State.consume
  refine Keeps.dite (fun h1 => Keeps.ite (State.irq_keeps hs) hs) (fun h2 => Keeps.ite (State.modE_keeps hs) (Keeps.ite (Keeps.ite
      (State.modE_keeps hs) hs) (Keeps.dite (fun h3 => hck _ _ hs) (fun h4 => Keeps.ite (State.modE_keeps hs) (Keeps.ite ?_ (Keeps.ite ?_
      (Keeps.ite (State.modE_keeps hs) (Keeps.ite (State.modE_keeps hs) (Keeps.ite (State.modE_keeps hs) hs)))))))))
  · extract_lets +onlyGivenNames x5 x6
    clear_value x5 x6
    exact State.modE_keeps hs
  · extract_lets +onlyGivenNames x7
    clear_value x7
    exact State.setReg_keeps (State.wr_keeps (State.wr_keeps hs))

theorem State.deliver_keeps {z : State} {ck : PartId → State → State} {s : State} {c : Nat} (hck : ∀ w0 w1, Keeps z w1 → Keeps z (ck w0 w1))
    (hs : Keeps z s) : Keeps z (State.deliver ck s c) := by
  unfold State.deliver
  exact Keeps.ite (Keeps.ite (State.cnt_keeps hs) (State.wr_keeps hs)) (State.consume_keeps ((by assumption)) hs)

theorem State.groupEvent_keeps {z s : State} {srcs : List Nat} (hs : Keeps z s) : Keeps z (State.groupEvent s srcs) := by
  unfold State.groupEvent
  refine Keeps.foldl (fun x1 => fun x2 => fun h3 => ?_) hs
  extract_lets +onlyGivenNames x4 x5 x6
  clear_value x4 x5 x6
  refine Keeps.ite ?_ (Keeps.ite (State.wr_keeps h3) h3)
  extract_lets +onlyGivenNames x7
  have h8 : Keeps z x7 := State.modE_keeps (State.wr_keeps h3)
  clear_value x7
  exact Keeps.foldl (fun x9 => fun x10 => fun h11 => State.wr_keeps h11) h8

theorem State.route_keeps {z : State} {ck : PartId → State → State} {s : State} {line : Nat} (hck : ∀ w0 w1, Keeps z w1 → Keeps z (ck w0 w1))
    (hs : Keeps z s) : Keeps z (State.route ck s line) := by
  unfold State.route
  extract_lets +onlyGivenNames x1 x2
  clear_value x1 x2
  refine Keeps.ite (State.cnt_keeps hs) ?_
  extract_lets +onlyGivenNames x3 x5 x6 x13 x18
  have h4 : Keeps z x3 := State.modE_keeps hs
  have h7 : Keeps z x6.2 := by
    unfold x6
    refine Keeps.foldl2 (fun x8 => fun x9 => fun h10 => ?_) h4
    extract_lets +onlyGivenNames x11
    have h12 : Keeps z x11.2 := State.chanEvent_keeps h10
    clear_value x11
    exact h12
  have h14 : Keeps z x13 := Keeps.foldl (fun x15 => fun x16 => fun h17 => State.deliver_keeps ((by assumption)) h17) h7
  have h19 : Keeps z x18 := Keeps.foldl (fun x20 => fun x21 => fun h22 => Keeps.foldl (fun x23 => fun x24 => fun h25 => State.deliver_keeps
      ((by assumption)) h25) h22) h14
  clear_value x3 x5 x6 x13 x18
  exact State.groupEvent_keeps h19

theorem State.fired_keeps {z s : State} (hs : Keeps z s) : Keeps z (State.fired s) := by
  unfold State.fired
  exact State.cntSat_keeps (State.wr_keeps (State.wr_keeps hs))

theorem State.inject_keeps {z s : State} {point unit : Nat} (hs : Keeps z s) : Keeps z (State.inject s point unit).2 := by
  unfold State.inject
  exact Keeps.ite2 (Keeps.mk2 (State.fired_keeps hs)) hs

theorem undoMem_keeps {z s : State} {u : Undo} {c : CpId} (hs : Keeps z s) : Keeps z (undoMem s u c) := by
  unfold undoMem
  split
  · refine Keeps.mem hs ⟨rfl, rfl, rfl, rfl⟩ fun hc => ?_
    have hc := (State.canonical_iff _).mp hc
    exact ⟨mapWf_puts _ _ _ _ hc.1, mapWf_put _ _ _ hc.2.1, hc.2.2⟩
  · exact State.modCp_keeps hs

theorem State.detLost_keeps {z s : State} {code : Nat} {cs : List CpId} (hs : Keeps z s) : Keeps z (State.detLost s code cs) := by
  unfold State.detLost
  refine Keeps.foldl (fun x1 => fun x2 => fun h3 => ?_) hs
  extract_lets +onlyGivenNames x4
  clear_value x4
  refine Keeps.ite ?_ h3
  extract_lets +onlyGivenNames x5 x7
  have h6 : Keeps z x5 := State.irq_keeps h3
  clear_value x5 x7
  exact State.wr_keeps (State.setReg_keeps h6)

theorem State.rollback_keeps {z : State} {bkt : State → Nat → Nat → State} {s : State} {c : CpId} {kind wh : Nat}
    (hbkt : ∀ w0 w1 w2, Keeps z w0 → Keeps z (bkt w0 w1 w2)) (hs : Keeps z s) : Keeps z (State.rollback bkt s c kind wh) := by
  unfold State.rollback
  extract_lets +onlyGivenNames x1 x2 x3 x8 x10 x12
  have h4 : Keeps z x3 := Keeps.foldl (fun x5 => fun x6 => fun h7 => undoMem_keeps h7) hs
  have h9 : Keeps z x8 := State.modCp_keeps h4
  have h11 : Keeps z x10 := State.wr_keeps (State.wr_keeps (State.cnt_keeps h9))
  have h13 : Keeps z x12 := State.detLost_keeps (hbkt _ _ _ h11)
  clear_value x1 x2 x3 x8 x10 x12
  exact Keeps.ite (State.wr_keeps (State.modCp_keeps h13)) h13

theorem State.compareWith_keeps {z : State} {bkt : State → Nat → Nat → State} {s : State} {c : CpId} {kind wh : Nat}
    (hbkt : ∀ w0 w1 w2, Keeps z w0 → Keeps z (bkt w0 w1 w2)) (hs : Keeps z s) : Keeps z (State.compareWith bkt s c kind wh).2 := by
  unfold State.compareWith
  refine Keeps.ite2 ?_ hs
  extract_lets +onlyGivenNames x1
  have h2 : Keeps z x1.2 := State.inject_keeps hs
  clear_value x1
  exact Keeps.ite2 (Keeps.mk2 (State.rollback_keeps ((by assumption)) h2)) hs

theorem State.lstepSave_keeps {z s : State} {c : CpId} (hs : Keeps z s) : Keeps z (State.lstepSave s c) := by
  unfold State.lstepSave
  exact State.cnt_keeps (State.modCp_keeps hs)

theorem State.checkpointWith_keeps {z : State} {bkt : State → Nat → Nat → State} {s : State} {c : CpId}
    (hbkt : ∀ w0 w1 w2, Keeps z w0 → Keeps z (bkt w0 w1 w2)) (hs : Keeps z s) : Keeps z (State.checkpointWith bkt s c) := by
  unfold State.checkpointWith
  refine Keeps.ite ?_ hs
  extract_lets +onlyGivenNames x1
  have h2 : Keeps z x1.2 := State.compareWith_keeps ((by assumption)) hs
  clear_value x1
  exact Keeps.ite h2 (State.lstepSave_keeps h2)

theorem State.bucketWith_keeps {z : State} {fire : State → Nat → State} {s : State} {b n : Nat}
    (hfire : ∀ w0 w1, Keeps z w0 → Keeps z (fire w0 w1)) (hs : Keeps z s) : Keeps z (State.bucketWith fire s b n) := by
  unfold State.bucketWith
  extract_lets +onlyGivenNames x1 x3
  have h2 : Keeps z x1 := State.cnt_keeps hs
  clear_value x1 x3
  exact Keeps.ite (hfire _ _ (State.cnt_keeps (State.wr_keeps (State.wr_keeps h2)))) h2

theorem State.fire0_keeps {z s : State} {line : Nat} (hs : Keeps z s) : Keeps z (State.fire0 s line) := by
  unfold State.fire0
  refine State.route_keeps (fun x1 => fun x2 => fun h3 => ?_) hs
  extract_lets +onlyGivenNames x4
  clear_value x4
  exact Keeps.ite (State.cnt_keeps h3) (State.wr_keeps h3)

theorem State.bucket0_keeps {z s : State} {b n : Nat} (hs : Keeps z s) : Keeps z (State.bucket0 s b n) := by
  unfold State.bucket0
  exact State.bucketWith_keeps (fun x1 => fun x2 => fun h3 => State.fire0_keeps h3) hs

theorem State.checkpointPart_keeps {z : State} {p : PartId} {s : State} (hs : Keeps z s) : Keeps z (State.checkpointPart p s) := by
  unfold State.checkpointPart
  exact Keeps.foldl (fun x1 => fun x2 => fun h3 => State.checkpointWith_keeps (fun x4 => fun x5 => fun x6 => fun h7 => State.bucket0_keeps h7) h3) hs

theorem State.fire_keeps {z s : State} {line : Nat} (hs : Keeps z s) : Keeps z (State.fire s line) := by
  unfold State.fire
  exact State.route_keeps (fun x1 => fun x2 => fun h3 => State.checkpointPart_keeps h3) hs

theorem State.leave_keeps {z s : State} {t : NetTx} (hs : Keeps z s) : Keeps z (State.leave s t) := by
  unfold State.leave
  extract_lets +onlyGivenNames x1
  clear_value x1
  exact Keeps.ite hs (Keeps.ite (State.modN_keeps hs) (State.modN_keeps hs))

theorem State.uboriSeq_keeps {z s : State} {type : Byte} {arg : Word} {body : List Byte}
    (hs : Keeps z s) : Keeps z (State.uboriSeq s type arg body) := by
  unfold State.uboriSeq
  refine Keeps.ite hs ?_
  extract_lets +onlyGivenNames x1 x2 x3
  clear_value x1 x2
  have h4 : Keeps z x3 := State.modPair_keeps rfl rfl hs
  clear_value x3
  exact Keeps.ite (State.leave_keeps h4) h4

theorem State.bucket_keeps {z s : State} {b n : Nat} (hs : Keeps z s) : Keeps z (State.bucket s b n) := by
  unfold State.bucket
  exact State.bucketWith_keeps (fun x1 => fun x2 => fun h3 => State.fire_keeps h3) hs

theorem State.flipLine_keeps {z s : State} {key : Nat} (hs : Keeps z s) : Keeps z (State.flipLine s key) := by
  unfold State.flipLine
  refine Keeps.ite ?_ ?_
  · extract_lets +onlyGivenNames x1
    have h2 : Keeps z x1.2 := State.inject_keeps hs
    clear_value x1
    refine Keeps.ite ?_ hs
    extract_lets +onlyGivenNames x3 x4 x5 x6
    have h7 : Keeps z x6 := State.setErr_keeps h2
    clear_value x3 x4 x5 x6
    exact State.setErr_keeps h7
  · extract_lets +onlyGivenNames x8
    have h9 : Keeps z x8.2 := State.inject_keeps hs
    clear_value x8
    refine Keeps.ite ?_ hs
    extract_lets +onlyGivenNames x10 x11
    have h12 : Keeps z x11 := h9
    clear_value x10 x11
    refine Keeps.ite ?_ ?_
    · extract_lets +onlyGivenNames x13
      clear_value x13
      exact Keeps.foldl (fun x14 => fun x15 => fun h16 => State.setErr_keeps h16) h12
    · extract_lets +onlyGivenNames x17
      clear_value x17
      exact State.setErr_keeps h12

theorem State.granFlip_keeps {z s : State} {gran : Nat} (hs : Keeps z s) : Keeps z (State.granFlip s gran) := by
  unfold State.granFlip
  extract_lets +onlyGivenNames x1
  clear_value x1
  refine Keeps.ite ?_ hs
  split
  · exact State.flipLine_keeps hs
  · exact hs

theorem State.parityReissue_keeps {z s : State} {near : Bool} {unit : Nat} (hs : Keeps z s) : Keeps z (State.parityReissue s near unit) := by
  unfold State.parityReissue
  exact Keeps.ite (State.bucket_keeps (State.cnt_keeps (State.wr_keeps hs))) (State.bucket_keeps (State.wr_keeps hs))

theorem State.sendCmd_keeps {z s : State} {near : Bool} {unit : Nat} (hs : Keeps z s) : Keeps z (State.sendCmd s near unit) := by
  unfold State.sendCmd
  extract_lets +onlyGivenNames x1
  have h2 : Keeps z x1.2 := State.inject_keeps hs
  clear_value x1
  exact Keeps.ite (State.parityReissue_keeps h2) hs

theorem State.rfmSent_keeps {z s : State} {bk : Nat} (hs : Keeps z s) : Keeps z (State.rfmSent s bk) := by
  unfold State.rfmSent
  exact Keeps.ite (State.cnt_keeps (State.sendCmd_keeps hs)) (State.sendCmd_keeps hs)

theorem State.reachRows_keeps {z s : State} {bs : List (Nat × Nat)} (hs : Keeps z s) : Keeps z (s.reachRows bs) := by
  unfold State.reachRows
  extract_lets r
  induction r.rfms with
  | nil => exact State.modM_keeps hs
  | cons b l ih => exact State.rfmSent_keeps ih

theorem State.celMove_keeps {z s : State} {key : Nat} (hs : Keeps z s) : Keeps z (State.celMove s key) := by
  unfold State.celMove
  extract_lets +onlyGivenNames x1 x2
  clear_value x1 x2
  exact State.reachRows_keeps (State.sendCmd_keeps hs)

theorem State.granMove_keeps {z s : State} {gran : Nat} (hs : Keeps z s) : Keeps z (State.granMove s gran) := by
  unfold State.granMove
  refine Keeps.ite ?_ (Keeps.foldl (fun x7 => fun x8 => fun h9 => State.celMove_keeps h9) hs)
  extract_lets +onlyGivenNames x1 x2
  have h3 : Keeps z x2 := Keeps.foldl (fun x4 => fun x5 => fun h6 => State.cnt_keeps (State.sendCmd_keeps h6)) hs
  clear_value x1 x2
  exact State.reachRows_keeps h3

theorem State.emptyGranule_keeps {z s : State} {gran : Nat} (hs : Keeps z s) : Keeps z (s.emptyGranule gran) := by
  refine Keeps.mem hs ⟨rfl, rfl, rfl, rfl⟩ fun hc => ?_
  have hc := (State.canonical_iff _).mp hc
  exact ⟨mapWf_filter _ _ hc.1, mapWf_filter _ _ hc.2.1, mapWf_filter _ _ hc.2.2.1, hc.2.2.2⟩

theorem State.zeroGranule_keeps {z s : State} {gran : Nat} (hs : Keeps z s) : Keeps z (State.zeroGranule s gran) := by
  unfold State.zeroGranule
  exact State.granFlip_keeps (State.granMove_keeps (State.emptyGranule_keeps hs))

theorem State.takeSpan_keeps {z s : State} {g n : Nat} {x : Gran} (hs : Keeps z s) : Keeps z (State.takeSpan s g n x) := by
  unfold State.takeSpan
  exact Keeps.foldl (fun x1 => fun x2 => fun h3 => State.zeroGranule_keeps (State.modM_keeps h3)) hs

theorem State.takeGranule_keeps {z s t : State} {p : PartId} {tier kind a b : Nat} {hash : BitVec 3} {use : Use}
    (e : s.takeGranule p tier kind hash use = some (a, b, t)) (hs : Keeps z s) : Keeps z t := by
  unfold State.takeGranule at e
  obtain ⟨k, -, hk⟩ := List.exists_of_findSome?_eq_some e
  split at hk
  · simp only [Option.some.injEq, Prod.mk.injEq] at hk
    obtain ⟨-, -, rfl⟩ := hk
    exact State.takeSpan_keeps (Keeps.ite hs (State.cnt_keeps hs))
  · cases hk

theorem State.moveGranules_keeps {z s : State} {src dst n : Nat} (hs : Keeps z s) : Keeps z (s.moveGranules src dst n) := by
  unfold State.moveGranules
  have h1 : Keeps z ((List.range n).foldl (fun s i => ((s.granMove (src + i)).emptyGranule (dst + i)).granMove (dst + i)) s) :=
    Keeps.foldl (fun _ _ h => State.granMove_keeps (State.emptyGranule_keeps (State.granMove_keeps h))) hs
  refine Keeps.mem h1 ⟨rfl, rfl, rfl, rfl⟩ fun hc => ?_
  have hc := (State.canonical_iff _).mp hc
  exact ⟨mapWf_puts _ _ _ _ hc.1, mapWf_puts _ _ _ _ hc.2.1, mapWf_puts _ _ _ _ hc.2.2.1, hc.2.2.2⟩

theorem State.copyGranules_keeps {z s : State} {src dst n : Nat} (hs : Keeps z s) : Keeps z (State.copyGranules s src dst n) := by
  unfold State.copyGranules
  exact Keeps.foldl (fun x1 => fun x2 => fun h3 => State.granFlip_keeps h3) (State.moveGranules_keeps hs)

theorem State.settle_keeps {z s : State} {key n : Nat} {e : Err} (hs : Keeps z s) : Keeps z (State.settle s key n e) := by
  unfold State.settle
  extract_lets +onlyGivenNames x1 x2
  have h3 : Keeps z x2 := Keeps.foldl (fun x4 => fun x5 => fun h6 => State.setErr_keeps h6) hs
  clear_value x1 x2
  exact State.setErr_keeps (State.putBytes_keeps h3)

theorem State.capture_keeps {z s : State} {b inst synd : Nat} {marking inj : Bool} {addr : Nat}
    (hs : Keeps z s) : Keeps z (State.capture s b inst synd marking inj addr) := by
  unfold State.capture
  extract_lets +onlyGivenNames x1
  unfold x1
  extract_lets +onlyGivenNames x2
  have h3 : Keeps z x2 := Keeps.ite hs (State.wr_keeps (State.wrB_keeps (State.wrB_keeps (State.wr_keeps (State.wr_keeps (State.wr_keeps
      (State.wr_keeps hs)))))))
  clear_value x2
  exact State.wr_keeps (State.wrB_keeps (State.wrB_keeps (State.wr_keeps (State.wr_keeps (State.wr_keeps (State.wr_keeps h3))))))

theorem State.chargeLane_keeps {z s : State} {stack pc : Nat} {sym n : Nat} (hs : Keeps z s) : Keeps z (State.chargeLane s stack pc sym n) := by
  unfold State.chargeLane
  extract_lets +onlyGivenNames x1 x2
  have h3 : Keeps z x2 := State.modM_keeps hs
  clear_value x1 x2
  exact State.wr_keeps h3

theorem State.poisonUnit_keeps {z s : State} {key : Nat} (hs : Keeps z s) : Keeps z (State.poisonUnit s key) := by
  unfold State.poisonUnit
  split
  · exact State.settle_keeps hs
  · extract_lets +onlyGivenNames x1 x2
    clear_value x1 x2
    exact Keeps.foldl (fun x3 => fun x4 => fun h5 => State.setErr_keeps h5) (State.settle_keeps hs)
  · exact State.settle_keeps hs

theorem State.readNear_keeps {z s : State} {key : Nat} (hs : Keeps z s) : Keeps z (State.readNear s key).2 := by
  unfold State.readNear
  extract_lets +onlyGivenNames x1
  clear_value x1
  refine Keeps.ite2 hs ?_
  extract_lets +onlyGivenNames x2 x3
  clear_value x2 x3
  split
  · exact Keeps.mk2 (State.settle_keeps hs)
  · exact Keeps.mk2 (State.capture_keeps hs)
  · extract_lets +onlyGivenNames x4
    have h5 : Keeps z x4 := by
      unfold x4
      refine Keeps.foldl (fun x6 => fun x7 => fun h8 => ?_) hs
      extract_lets +onlyGivenNames x9
      have h10 : Keeps z x9 := State.chargeLane_keeps h8
      clear_value x9
      refine Keeps.ite h10 ?_
      extract_lets +onlyGivenNames x11 x12
      clear_value x11 x12
      exact State.setErr_keeps h10
    clear_value x4
    exact Keeps.mk2 (State.bucket_keeps (State.settle_keeps h5))
  · exact Keeps.mk2 (State.bucket_keeps (State.capture_keeps (State.poisonUnit_keeps hs)))

theorem State.nearMove_keeps {z s : State} {key : Nat} (hs : Keeps z s) : Keeps z (State.nearMove s key) := by
  unfold State.nearMove
  extract_lets +onlyGivenNames x1 x2
  clear_value x1 x2
  exact State.reachRows_keeps (State.cnt_keeps (State.sendCmd_keeps hs))

theorem State.celCorrected_keeps {z s : State} {key dev : Nat} (hs : Keeps z s) : Keeps z (State.celCorrected s key dev) := by
  unfold State.celCorrected
  extract_lets +onlyGivenNames x1 x2 x3 x4
  have h5 : Keeps z x4 := State.modM_keeps hs
  clear_value x1 x2 x3 x4
  refine Keeps.ite h5 ?_
  extract_lets +onlyGivenNames x6
  have h7 : Keeps z x6 := State.modM_keeps h5
  clear_value x6
  exact Keeps.ite (Keeps.ite (State.bucket_keeps h7) (State.bucket_keeps (State.wr_keeps (State.wr_keeps (State.wr_keeps h7))))) (Keeps.ite
      (State.bucket_keeps h7) (State.bucket_keeps (State.wr_keeps (State.wr_keeps (State.wr_keeps h7)))))

theorem State.readCel_keeps {z s : State} {key : Nat} (hs : Keeps z s) : Keeps z (State.readCel s key).2 := by
  unfold State.readCel
  extract_lets +onlyGivenNames x1 x2 x3 x5
  have h4 : Keeps z x3.2 := State.inject_keeps hs
  have h6 : Keeps z x5 := h4
  clear_value x1 x2 x3 x5
  refine Keeps.ite2 (Keeps.mk2 (State.bucket_keeps (State.capture_keeps (State.poisonUnit_keeps h6)))) (Keeps.ite2 h6 ?_)
  extract_lets +onlyGivenNames x7
  clear_value x7
  split
  · exact Keeps.mk2 (State.settle_keeps h6)
  · exact Keeps.mk2 (State.capture_keeps h6)
  · extract_lets +onlyGivenNames x8
    have h9 : Keeps z x8 := by
      unfold x8
      refine Keeps.ite h6 (Keeps.foldl (fun x10 => fun x11 => fun h12 => ?_) h6)
      extract_lets +onlyGivenNames x13 x14 x15
      clear_value x13 x14 x15
      exact State.setErr_keeps h12
    clear_value x8
    exact Keeps.mk2 (State.bucket_keeps (State.celCorrected_keeps (State.settle_keeps h9)))
  · exact Keeps.mk2 (State.bucket_keeps (State.capture_keeps (State.poisonUnit_keeps h6)))

theorem State.readLine_keeps {z s : State} {key : Nat} (hs : Keeps z s) : Keeps z (State.readLine s key).2 := by
  unfold State.readLine
  exact Keeps.ite2 (State.readNear_keeps (State.nearMove_keeps hs)) (State.readCel_keeps (State.celMove_keeps hs))

theorem State.lineMove_keeps {z s : State} {key : Nat} (hs : Keeps z s) : Keeps z (State.lineMove s key) := by
  unfold State.lineMove
  split
  · exact State.nearMove_keeps hs
  · exact State.celMove_keeps hs
  · exact hs

theorem State.tagBack_keeps {z s : State} {t : TagLine} (hs : Keeps z s) : Keeps z (State.tagBack s t) := by
  unfold State.tagBack
  refine Keeps.ite hs ?_
  extract_lets +onlyGivenNames x1 x2 x7
  have h3 : Keeps z x2 := Keeps.foldl (fun x4 => fun x5 => fun h6 => State.setErr_keeps h6) (State.lineMove_keeps hs)
  have h8 : Keeps z x7 := Keeps.ite (State.poisonUnit_keeps h3) h3
  clear_value x1 x2 x7
  exact State.flipLine_keeps (Keeps.ite h8 (State.bucket_keeps h8))

theorem State.tagFetch_keeps {z s : State} {key : Nat} {dirty : Bool} (hs : Keeps z s) : Keeps z (State.tagFetch s key dirty) := by
  unfold State.tagFetch
  split
  · exact State.modM_keeps hs
  · extract_lets +onlyGivenNames x1 x2 x4 x6
    have h3 : Keeps z x2 := by
      unfold x2
      refine Keeps.ite hs ?_
      split
      · exact State.modM_keeps (State.tagBack_keeps hs)
      · exact hs
    have h5 : Keeps z x4.2 := State.readLine_keeps h3
    have h7 : Keeps z x6.2 := State.inject_keeps h5
    clear_value x1 x2 x4 x6
    exact State.modM_keeps h7

theorem State.takeBad_keeps {z s : State} {u : MeshUnit} {w : Bool} (hs : Keeps z s) : Keeps z (State.takeBad s u w).2 := by
  unfold State.takeBad
  exact Keeps.ite2 (Keeps.mk2 (Keeps.same (s := s) hs ⟨rfl, rfl, rfl, rfl, rfl, rfl, rfl, rfl, rfl, rfl⟩)) hs

theorem State.readGrid_keeps {z s : State} {w : Nat} {js : List Nat} (hs : Keeps z s) : Keeps z (State.readGrid s w js).2 := by
  unfold State.readGrid
  extract_lets +onlyGivenNames x1
  clear_value x1
  refine Keeps.ite2 hs ?_
  extract_lets +onlyGivenNames x2 x3 x4
  have h5 : Keeps z x4 := Keeps.ite hs (State.bucket_keeps (State.modM_keeps (State.setErr_keeps hs)))
  clear_value x2 x3 x4
  exact Keeps.ite2 (Keeps.ite2 (Keeps.mk2 (State.capture_keeps h5)) (Keeps.mk2 (State.bucket_keeps (State.capture_keeps h5)))) h5

theorem State.readUnit_keeps {z s : State} {key lo hi : Nat} (hs : Keeps z s) : Keeps z (State.readUnit s key lo hi).2 := by
  unfold State.readUnit
  split
  · extract_lets +onlyGivenNames x1 x3
    have h2 : Keeps z x1.2 := State.readLine_keeps (State.tagFetch_keeps hs)
    have h4 : Keeps z x3.2 := State.takeBad_keeps h2
    clear_value x1 x3
    exact h4
  · extract_lets +onlyGivenNames x5 x7
    have h6 : Keeps z x5.2 := State.readLine_keeps (State.tagFetch_keeps hs)
    have h8 : Keeps z x7.2 := State.takeBad_keeps h6
    clear_value x5 x7
    exact h8
  · exact State.readGrid_keeps hs

theorem State.prepUnit_keeps {z s : State} {key lo hi : Nat} (hs : Keeps z s) : Keeps z (State.prepUnit s key lo hi) := by
  unfold State.prepUnit
  split
  · extract_lets +onlyGivenNames x1
    clear_value x1
    exact Keeps.ite (Keeps.foldl (fun x2 => fun x3 => fun h4 => State.setErr_keeps h4) hs) (State.readUnit_keeps hs)
  · extract_lets +onlyGivenNames x5
    clear_value x5
    exact Keeps.ite (Keeps.foldl (fun x6 => fun x7 => fun h8 => State.setErr_keeps h8) hs) (State.readUnit_keeps hs)
  · extract_lets +onlyGivenNames x9
    clear_value x9
    exact State.setErr_keeps hs

theorem State.flipUnit_keeps {z s : State} {key : Nat} (hs : Keeps z s) : Keeps z (State.flipUnit s key) := by
  unfold State.flipUnit
  split
  · exact State.flipLine_keeps hs
  · exact State.flipLine_keeps hs
  · extract_lets +onlyGivenNames x1
    clear_value x1
    refine Keeps.ite ?_ hs
    extract_lets +onlyGivenNames x2
    have h3 : Keeps z x2.2 := State.inject_keeps hs
    clear_value x2
    exact Keeps.ite (State.setErr_keeps h3) hs
  · extract_lets +onlyGivenNames x4
    have h5 : Keeps z x4.2 := State.inject_keeps hs
    clear_value x4
    exact Keeps.ite (State.setErr_keeps h5) hs

theorem State.dropResv_keeps {z s : State} {key n : Nat} (hs : Keeps z s) : Keeps z (State.dropResv s key n) := by
  unfold State.dropResv
  exact Keeps.same (s := s) hs ⟨rfl, rfl, rfl, rfl, rfl, rfl, rfl, rfl, rfl, rfl⟩

theorem State.writeRange_keeps {z s : State} {key : Nat} {bs : List Byte} (hs : Keeps z s) : Keeps z (State.writeRange s key bs) := by
  unfold State.writeRange
  refine Keeps.ite hs ?_
  extract_lets +onlyGivenNames x1 x2 x7 x9
  have h3 : Keeps z x2 := Keeps.foldl (fun x4 => fun x5 => fun h6 => State.prepUnit_keeps h6) hs
  have h8 : Keeps z x7 := State.putBytes_keeps h3
  have h10 : Keeps z x9 := by
    unfold x9
    refine Keeps.foldl (fun x11 => fun x12 => fun h13 => State.flipUnit_keeps ?_) h8
    split
    · extract_lets +onlyGivenNames x14
      have h15 : Keeps z x14.2 := State.takeBad_keeps (State.lineMove_keeps h13)
      clear_value x14
      exact Keeps.ite (State.poisonUnit_keeps h15) h15
    · extract_lets +onlyGivenNames x16
      have h17 : Keeps z x16.2 := State.takeBad_keeps (State.lineMove_keeps h13)
      clear_value x16
      exact Keeps.ite (State.poisonUnit_keeps h17) h17
    · exact h13
  clear_value x1 x2 x7 x9
  exact State.dropResv_keeps h10

theorem State.setPte_keeps {z s : State} {a : Nat} {e : Word} (hs : Keeps z s) : Keeps z (State.setPte s a e) := by
  unfold State.setPte
  exact State.writeRange_keeps hs

theorem State.cowSettle_keeps {z s : State} {p : PartId} {page : Nat} (hs : Keeps z s) : Keeps z (State.cowSettle s p page) := by
  unfold State.cowSettle
  split
  · extract_lets +onlyGivenNames x1 x2
    clear_value x1 x2
    exact Keeps.ite hs (State.setPte_keeps hs)
  · exact hs

theorem State.shipCopy_all {z s : State} {p : PartId} {page gran : Nat} (hs : Keeps z s) :
    Keeps z (s.shipCopy p page gran).2 ∧ ∀ t, (s.shipCopy p page gran).1 = some t → Keeps z t := by
  unfold State.shipCopy
  dsimp only
  split
  · exact ⟨hs, fun t ht => by cases ht; exact hs⟩
  · split
    · exact ⟨hs, fun t ht => by cases ht; exact hs⟩
    · split
      · exact ⟨State.detLost_keeps hs, fun t ht => by cases ht⟩
      · split
        · exact ⟨State.detLost_keeps hs, fun t ht => by cases ht⟩
        · refine (fun (h : Keeps z _) => ⟨h, fun t ht => by cases ht; exact h⟩) ?_
          exact State.cowSettle_keeps (Keeps.same (State.copyGranules_keeps (State.takeGranule_keeps (by assumption) hs))
            ⟨rfl, rfl, rfl, rfl, rfl, rfl, rfl, rfl, rfl, rfl⟩)

theorem State.shipCopy_keeps {z s : State} {p : PartId} {page gran : Nat} (hs : Keeps z s) : Keeps z (s.shipCopy p page gran).2 :=
  (State.shipCopy_all hs).1

theorem State.shipCopy_some {z s t u : State} {p : PartId} {page gran : Nat} (e : s.shipCopy p page gran = (some t, u)) (hs : Keeps z s) :
    Keeps z t := (State.shipCopy_all hs).2 t (by rw [e])

theorem State.noteWin_keeps {z s : State} {a : Access} {va : Nat} (hs : Keeps z s) : Keeps z (State.noteWin s a va) := by
  unfold State.noteWin
  exact Keeps.ite (State.modPart_keeps hs) hs

theorem State.winOk_keeps {z s : State} {a : Access} {va key : Nat} (hs : Keeps z s) : Keeps z (s.winOk a va key).2 := by
  unfold State.winOk
  split
  · split
    · exact State.noteWin_keeps (State.shipCopy_some (by assumption) hs)
    · rename_i e
      exact Keeps.eq2 e (State.shipCopy_keeps hs)
  · exact hs

theorem State.readRange_keeps {z s : State} {key n : Nat} (hs : Keeps z s) : Keeps z (State.readRange s key n).2 := by
  unfold State.readRange
  refine Keeps.foldl2 (fun x1 => fun x2 => fun h3 => ?_) hs
  extract_lets +onlyGivenNames x4
  have h5 : Keeps z x4.2 := State.readUnit_keeps h3
  clear_value x4
  exact h5

theorem State.walkReads_keeps {z s : State} {path : List (Nat × Nat)} (hs : Keeps z s) : Keeps z (State.walkReads s path).2 := by
  unfold State.walkReads
  refine Keeps.foldl2 (fun x1 => fun x2 => fun h3 => Keeps.ite2 h3 ?_) hs
  extract_lets +onlyGivenNames x4 x6
  have h5 : Keeps z x4.2 := State.inject_keeps h3
  clear_value x4 x6
  refine Keeps.ite2 ?_ ?_
  · extract_lets +onlyGivenNames x7
    have h8 : Keeps z x7 := State.bucket_keeps (State.capture_keeps (State.poisonUnit_keeps h5))
    clear_value x7
    exact Keeps.mk2 (State.bucket_keeps (State.capture_keeps h8))
  · extract_lets +onlyGivenNames x9
    have h10 : Keeps z x9.2 := State.readRange_keeps h5
    clear_value x9
    exact Keeps.ite2 (Keeps.mk2 (State.bucket_keeps (State.capture_keeps h10))) h10

theorem State.newTable_keeps {z s t : State} {p : PartId} {level a : Nat} (e : s.newTable p level = some (a, t)) (hs : Keeps z s) : Keeps z t := by
  unfold State.newTable at e
  dsimp only at e
  split at e
  · cases e; exact State.modPart_keeps hs
  · split at e
    · cases e
    · split at e
      · cases e
      · split at e
        · cases e; exact State.modPart_keeps (State.takeGranule_keeps (by assumption) hs)
        · cases e

theorem State.ensureTables_keeps {z s : State} {p : PartId} {va level n : Nat} (hs : Keeps z s) : Keeps z (s.ensureTables p va level n).2 := by
  induction n generalizing s with
  | zero => exact hs
  | succ n ih =>
    unfold State.ensureTables
    split
    · exact hs
    · split
      · exact hs
      · exact ih (State.setPte_keeps (State.newTable_keeps (by assumption) hs))
    · exact hs

theorem State.allocFail_keeps {z s : State} {p : PartId} {va tier reason : Nat}
    (hs : Keeps z s) : Keeps z (State.allocFail s p va tier reason).2 := by
  unfold State.allocFail
  exact Keeps.mk2 (State.cntSat_keeps hs)

theorem State.dropTables_keeps {z s : State} {p : PartId} {ea level : Nat} (hs : Keeps z s) : Keeps z (State.dropTables s p ea level) := by
  unfold State.dropTables
  extract_lets +onlyGivenNames x1 x2
  have h3 : Keeps z x2 := Keeps.foldl (fun x4 => fun x5 => fun h6 => Keeps.foldl (fun x7 => fun x8 => fun h9 => Keeps.ite h9 (State.setPte_keeps
      h9)) h6) hs
  clear_value x1 x2
  exact Keeps.ite h3 (State.modPart_keeps h3)

theorem State.firstTouch_keeps {z s : State} {a : Access} {va level0 : Nat} (hs : Keeps z s) : Keeps z (s.firstTouch a va level0).2 := by
  unfold State.firstTouch
  extract_lets page lay level n
  split <;> rename_i he <;> have h1 := Keeps.eq2 he (State.ensureTables_keeps hs)
  · exact State.allocFail_keeps h1
  · split
    · exact State.allocFail_keeps h1
    · rename_i ea t tier pin cold hc
      extract_lets u got
      have h2 : Keeps z u := by unfold u; exact State.dropTables_keeps h1
      rcases hgot : got with _ | ⟨g, il, w⟩
      · exact State.allocFail_keeps h2
      · refine State.setPte_keeps ?_
        unfold got at hgot
        split at hgot
        · exact State.takeGranule_keeps hgot h2
        · obtain ⟨g, -, hg⟩ := Option.map_eq_some_iff.mp hgot
          cases hg
          exact State.takeSpan_keeps h2

theorem State.pressSettle_keeps {z s : State} (hs : Keeps z s) : Keeps z (State.pressSettle s) := by
  unfold State.pressSettle
  exact Keeps.ite (Keeps.same (s := s) hs ⟨rfl, rfl, rfl, rfl, rfl, rfl, rfl, rfl, rfl, rfl⟩) (Keeps.same (s := s) hs ⟨rfl, rfl, rfl, rfl, rfl,
      rfl, rfl, rfl, rfl, rfl⟩)

theorem State.noteDirty_keeps {z s : State} {p : PartId} {page : Nat} (hs : Keeps z s) : Keeps z (State.noteDirty s p page) := by
  unfold State.noteDirty
  extract_lets +onlyGivenNames x1
  clear_value x1
  exact Keeps.ite (State.pressSettle_keeps (Keeps.same (s := s) hs ⟨rfl, rfl, rfl, rfl, rfl, rfl, rfl, rfl, rfl, rfl⟩)) hs

theorem State.tlbFill_keeps {z s : State} {cl : ClusterId} {p : PartId} {page level : Nat}
    (hs : Keeps z s) : Keeps z (State.tlbFill s cl p page level) := by
  unfold State.tlbFill
  extract_lets +onlyGivenNames x1 x3
  have h2 : Keeps z x1.2 := State.inject_keeps hs
  clear_value x1 x3
  exact State.modM_keeps h2

theorem State.tlbHit_keeps {z s : State} {cl : ClusterId} {p : PartId} {page : Nat} (hs : Keeps z s) : Keeps z (State.tlbHit s cl p page).2 := by
  unfold State.tlbHit
  split
  · exact hs
  · refine Keeps.ite2 hs ?_
    extract_lets +onlyGivenNames x1
    clear_value x1
    exact Keeps.ite2 (Keeps.mk2 (State.bucket_keeps (State.capture_keeps (State.modM_keeps hs)))) (Keeps.mk2 (State.bucket_keeps (State.modM_keeps
        hs)))

theorem State.sample_keeps {z s : State} {a : Access} {page key ea : Nat} {e : Word} (hs : Keeps z s) : Keeps z (State.sample s a page key ea e) := by
  unfold State.sample
  extract_lets +onlyGivenNames x1 x2
  clear_value x2
  refine Keeps.ite (State.modM_keeps hs) ?_
  extract_lets +onlyGivenNames x3 x5
  have h4 : Keeps z x3.2 := State.inject_keeps (State.modM_keeps hs)
  clear_value x3 x5
  exact State.modM_keeps (State.setPte_keeps h4)

theorem State.translate_keeps {z s : State} {a : Access} {va : Nat} (hs : Keeps z s) : Keeps z (State.translate s a va).2 := by
  unfold State.translate
  extract_lets +onlyGivenNames x1
  clear_value x1
  refine Keeps.ite2 ?_ (Keeps.ite2 ?_ (Keeps.ite2 hs ?_))
  · extract_lets +onlyGivenNames x2 x3
    clear_value x2 x3
    exact Keeps.ite2 hs (State.winOk_keeps hs)
  · extract_lets +onlyGivenNames x4
    clear_value x4
    split
    · exact State.winOk_keeps hs
    · exact hs
  · extract_lets +onlyGivenNames x5
    clear_value x5
    split
    · exact hs
    · extract_lets +onlyGivenNames x6
      have h7 : Keeps z x6.2 := State.walkReads_keeps hs
      clear_value x6
      split
      · exact h7
      · refine Keeps.ite2 h7 ?_
        extract_lets +onlyGivenNames x8
        have h9 : Keeps z x8.2 := State.firstTouch_keeps h7
        clear_value x8
        split
        · extract_lets +onlyGivenNames x10
          have h11 : Keeps z x10 := Keeps.ite (State.noteDirty_keeps h9) h9
          clear_value x10
          refine Keeps.mk2 ?_
          split
          · exact State.tlbFill_keeps h11
          · exact h11
        · exact h9
    · extract_lets +onlyGivenNames x12 x14 x16
      have h13 : Keeps z x12.2 := State.tlbHit_keeps hs
      have h15 : Keeps z x14.2 := Keeps.ite2 h13 (State.walkReads_keeps h13)
      have h17 : Keeps z x16 := h15
      clear_value x12 x14 x16
      split
      · exact h17
      · extract_lets +onlyGivenNames x18
        clear_value x18
        refine Keeps.ite2 h17 (Keeps.ite2 h17 (Keeps.ite2 h17 ?_))
        extract_lets +onlyGivenNames x19
        clear_value x19
        split
        · exact h17
        · extract_lets +onlyGivenNames x20
          have h21 : Keeps z x20.2 := Keeps.ite2 (State.shipCopy_keeps h17) h17
          clear_value x20
          refine Keeps.ite2 h17 (Keeps.ite2 h21 ?_)
          extract_lets +onlyGivenNames x22 x24 x25 x26 x27 x28 x30 x32
          have h23 : Keeps z x22 := Keeps.ite (State.noteDirty_keeps h21) h21
          have h29 : Keeps z x28 := Keeps.ite h23 (State.setPte_keeps h23)
          have h31 : Keeps z x30 := Keeps.ite (State.modPart_keeps h29) h29
          have h33 : Keeps z x32 := Keeps.ite h31 (State.tlbFill_keeps h31)
          clear_value x22 x24 x25 x26 x27 x28 x30 x32
          exact Keeps.mk2 (State.sample_keeps h33)

theorem State.readBy_keeps {z s : State} {cl : Option ClusterId} {key n : Nat} (hs : Keeps z s) : Keeps z (State.readBy s cl key n).2 := by
  unfold State.readBy
  extract_lets +onlyGivenNames x1
  have h2 : Keeps z x1.2 := State.readRange_keeps hs
  clear_value x1
  refine Keeps.ite2 ?_ h2
  extract_lets +onlyGivenNames x3
  have h4 : Keeps z x3.2 := State.takeBad_keeps h2
  clear_value x3
  exact h4

theorem State.writeTag_keeps {z s : State} {g : Nat} {b : Bool} (hs : Keeps z s) : Keeps z (State.writeTag s g b) := by
  unfold State.writeTag
  extract_lets +onlyGivenNames x1
  clear_value x1
  split
  · exact State.setTag_keeps (State.tagFetch_keeps hs)
  · exact State.setTag_keeps (State.tagFetch_keeps hs)
  · extract_lets +onlyGivenNames x2 x3 x4
    have h5 : Keeps z x4 := State.setTag_keeps (State.setErr_keeps hs)
    clear_value x2 x3 x4
    refine Keeps.ite ?_ h5
    extract_lets +onlyGivenNames x6
    have h7 : Keeps z x6.2 := State.inject_keeps h5
    clear_value x6
    exact Keeps.ite (State.setErr_keeps h7) h5
  · exact State.setTag_keeps hs

theorem State.clearTags_keeps {z s : State} {key n : Nat} (hs : Keeps z s) : Keeps z (State.clearTags s key n) := by
  unfold State.clearTags
  exact Keeps.ite hs (Keeps.foldl (fun x1 => fun x2 => fun h3 => State.writeTag_keeps h3) hs)

theorem State.writeData_keeps {z s : State} {key : Nat} {bs : List Byte} (hs : Keeps z s) : Keeps z (State.writeData s key bs) := by
  unfold State.writeData
  exact State.clearTags_keeps (State.writeRange_keeps hs)

theorem State.writeBy_keeps {z s : State} {cl : Option ClusterId} {key : Nat} {bs : List Byte}
    (hs : Keeps z s) : Keeps z (State.writeBy s cl key bs) := by
  unfold State.writeBy
  extract_lets +onlyGivenNames x1
  have h2 : Keeps z x1 := State.writeData_keeps hs
  clear_value x1
  refine Keeps.ite ?_ h2
  extract_lets +onlyGivenNames x3
  have h4 : Keeps z x3.2 := State.takeBad_keeps h2
  clear_value x3
  exact Keeps.ite (State.poisonUnit_keeps h4) h4

theorem State.freeSpan_keeps {z s : State} {g n : Nat} (hs : Keeps z s) : Keeps z (State.freeSpan s g n) := by
  unfold State.freeSpan
  exact State.modM_keeps hs

theorem State.ensureRoot_keeps {z s : State} {p : PartId} (hs : Keeps z s) : Keeps z (State.ensureRoot s p) := by
  unfold State.ensureRoot
  split
  · split
    · exact State.modPart_keeps (State.takeSpan_keeps hs)
    · exact hs
  · exact hs

theorem State.latchOut_keeps {z s : State} {c : Nat} (hs : Keeps z s) : Keeps z (State.latchOut s c) := by
  unfold State.latchOut
  exact Keeps.ite (State.consume_keeps (fun x1 => fun x2 => fun h3 => State.checkpointPart_keeps h3) (State.wr_keeps hs)) hs

theorem State.latchesOfCp_keeps {z s : State} {c : CpId} (hs : Keeps z s) : Keeps z (State.latchesOfCp s c) := by
  unfold State.latchesOfCp
  exact Keeps.foldl (fun x1 => fun x2 => fun h3 => State.latchOut_keeps h3) hs

theorem State.holdSync_keeps {z s : State} (hs : Keeps z s) : Keeps z (State.holdSync s) := by
  unfold State.holdSync
  extract_lets +onlyGivenNames x1 x2 x3 x4
  clear_value x1 x2 x3 x4
  exact Keeps.ite (State.wr_keeps (State.uboriSeq_keeps hs)) (Keeps.ite (State.wr_keeps (State.uboriSeq_keeps hs)) hs)

theorem State.shootdown_keeps {z s : State} {p : PartId} {page n : Nat} (hs : Keeps z s) : Keeps z (State.shootdown s p page n) := by
  unfold State.shootdown
  extract_lets +onlyGivenNames x1 x2 x4
  have h3 : Keeps z x2 := State.modM_keeps hs
  clear_value x1 x2
  have h5 : Keeps z x4 := Keeps.same (s := x2) h3 ⟨rfl, rfl, rfl, rfl, rfl, rfl, rfl, rfl, rfl, rfl⟩
  clear_value x4
  exact State.modPart_keeps h5

theorem State.poisonGranule_keeps {z s : State} {g : Nat} (hs : Keeps z s) : Keeps z (State.poisonGranule s g) := by
  unfold State.poisonGranule
  split
  · exact State.poisonUnit_keeps hs
  · exact State.poisonUnit_keeps hs
  · exact State.poisonUnit_keeps (State.poisonUnit_keeps hs)

theorem State.tagLost_keeps {z s : State} {g synd : Nat} {inj : Bool} (hs : Keeps z s) : Keeps z (State.tagLost s g synd inj).2 := by
  unfold State.tagLost
  exact Keeps.mk2 (State.bucket_keeps (State.capture_keeps (State.poisonGranule_keeps hs)))

theorem State.readTag_keeps {z s : State} {g : Nat} (hs : Keeps z s) : Keeps z (State.readTag s g).2 := by
  unfold State.readTag
  extract_lets +onlyGivenNames x1
  clear_value x1
  split
  · extract_lets +onlyGivenNames x2
    have h3 : Keeps z x2.2 := State.inject_keeps hs
    clear_value x2
    refine Keeps.ite2 (State.tagLost_keeps h3) ?_
    extract_lets +onlyGivenNames x4 x5
    have h6 : Keeps z x5 := State.tagFetch_keeps hs
    clear_value x4 x5
    split
    · extract_lets +onlyGivenNames x7
      clear_value x7
      refine Keeps.ite2 (State.tagLost_keeps h6) (Keeps.ite2 (State.tagLost_keeps h6) ?_)
      extract_lets +onlyGivenNames x8
      have h9 : Keeps z x8 := Keeps.ite h6 (State.bucket_keeps (State.modM_keeps h6))
      clear_value x8
      exact h9
    · exact h6
  · extract_lets +onlyGivenNames x10
    have h11 : Keeps z x10.2 := State.inject_keeps hs
    clear_value x10
    refine Keeps.ite2 (State.tagLost_keeps h11) ?_
    extract_lets +onlyGivenNames x12 x13
    have h14 : Keeps z x13 := State.tagFetch_keeps hs
    clear_value x12 x13
    split
    · extract_lets +onlyGivenNames x15
      clear_value x15
      refine Keeps.ite2 (State.tagLost_keeps h14) (Keeps.ite2 (State.tagLost_keeps h14) ?_)
      extract_lets +onlyGivenNames x16
      have h17 : Keeps z x16 := Keeps.ite h14 (State.bucket_keeps (State.modM_keeps h14))
      clear_value x16
      exact h17
    · exact h14
  · extract_lets +onlyGivenNames x18 x19 x20
    clear_value x18 x19 x20
    refine Keeps.ite2 (State.tagLost_keeps hs) ?_
    extract_lets +onlyGivenNames x21
    have h22 : Keeps z x21 := Keeps.ite hs (State.bucket_keeps (State.setErr_keeps hs))
    clear_value x21
    exact h22
  · exact hs

theorem State.uboriNow_keeps {z s : State} {type : Byte} {arg : Word} {body : List Byte}
    (hs : Keeps z s) : Keeps z (State.uboriNow s type arg body) := by
  unfold State.uboriNow
  exact Keeps.ite (State.leave_keeps hs) hs

theorem State.flashPut_keeps {z s : State} {a : Nat} {bs : List Byte} (hs : Keeps z s) : Keeps z (State.flashPut s a bs) := by
  unfold State.flashPut
  exact State.modSec_keeps rfl hs

theorem State.flashErase_keeps {z s : State} {a n : Nat} (hs : Keeps z s) : Keeps z (State.flashErase s a n) := by
  unfold State.flashErase
  exact State.modSec_keeps rfl hs

theorem State.sealAll_keeps {z s : State} {conf trial tries : BitVec 2} (hs : Keeps z s) : Keeps z (s.sealAll conf trial tries) := by
  unfold State.sealAll
  extract_lets fmt old x c t c'
  have h : ∀ f : SecSt → Vector (Option SetSlot) 4, Keeps z (s.modSec (fun e => { e with slots := f e })) := fun f => State.modSec_keeps rfl hs
  split
  · exact h (fun _ => #v[c.1, c.2, t.1, t.2])
  · exact h (fun e => #v[c'.1, c'.2, e.slots[2], e.slots[3]])

theorem State.seals_keeps {z s : State} {f : Settings → Settings} (hs : Keeps z s) : Keeps z (State.seals s f) := by
  unfold State.seals
  extract_lets +onlyGivenNames x1
  have h2 : Keeps z x1 := State.modSec_keeps rfl hs
  clear_value x1
  split
  · exact State.sealAll_keeps h2
  · exact State.sealAll_keeps h2

theorem State.chanOut_keeps {z : State} {ck : PartId → State → State} {s : State} {k : Fin 64} (hck : ∀ w0 w1, Keeps z w1 → Keeps z (ck w0 w1))
    (hs : Keeps z s) : Keeps z (State.chanOut ck s k) := by
  unfold State.chanOut
  exact State.groupEvent_keeps (Keeps.foldl (fun x1 => fun x2 => fun h3 => State.deliver_keeps ((by assumption)) h3) hs)

theorem State.verify_keeps {z s : State} {pub : List Byte} {ctx : String} {m sig : List Byte}
    (hs : Keeps z s) : Keeps z (State.verify s pub ctx m sig).2 := by
  unfold State.verify
  extract_lets +onlyGivenNames x1
  have h2 : Keeps z x1.2 := State.inject_keeps hs
  clear_value x1
  exact h2

theorem State.rand_keeps {z s : State} {n : Nat} (hs : Keeps z s) : Keeps z (s.rand n).2 := by
  induction n generalizing s with
  | zero => exact hs
  | succ n ih => exact ih (State.fresh_keeps hs)

theorem State.burn_keeps {z s : State} {w : Nat} {v : Word} (hs : Keeps z s) : Keeps z (s.burn w v) := by
  have key : ∀ (l : List Nat) (m : List (Nat × Word)) (k : Nat),
      mapGet (fun _ => (0 : Word)) m k &&& mapGet (fun _ => 0) (l.foldl (fun m c =>
        mapPut (fun _ => (0 : Word)) m (4 * w + c) (mapGet (fun _ => (0 : Word)) m (4 * w + c) ||| v)) m) k = mapGet (fun _ => 0) m k := by
    intro l
    induction l with
    | nil => intro m k; simp
    | cons c l ih =>
      intro m k
      have h1 := burn_mono m (4 * w + c) v k
      have h2 := ih (mapPut (fun _ => (0 : Word)) m (4 * w + c) (mapGet (fun _ => (0 : Word)) m (4 * w + c) ||| v)) k
      rw [List.foldl_cons]
      rw [← h1, BitVec.and_assoc, h2]
  refine ⟨hs.1, hs.2, hs.3, fun k => ?_, fun hc => hs.5 hc⟩
  have h1 := hs.4 k
  have h2 := key (List.range 3) s.sec.burnt k
  rw [← h1, BitVec.and_assoc]
  exact congrArg _ h2

theorem State.takePatch_keeps {z s : State} {p : UcPatch} (hs : Keeps z s) : Keeps z (State.takePatch s p) := by
  unfold State.takePatch
  extract_lets +onlyGivenNames x1
  have h2 : Keeps z x1.2 := State.fresh_keeps hs
  clear_value x1
  refine Keeps.ite (State.wr_keeps h2) ?_
  extract_lets +onlyGivenNames x3 x4 x6 x8
  have h5 : Keeps z x4 := h2
  clear_value x3 x4
  have h7 : Keeps z x6 := Keeps.same (s := x4) h5 ⟨rfl, rfl, rfl, rfl, rfl, rfl, rfl, rfl, rfl, rfl⟩
  clear_value x6 x8
  exact State.wr_keeps (State.wr_keeps (State.wr_keeps (State.wr_keeps h7)))

theorem State.ucBad_keeps {z s : State} {pipe synd : Nat} (hs : Keeps z s) : Keeps z (State.ucBad s pipe synd) := by
  unfold State.ucBad
  exact State.bucket_keeps (State.capture_keeps (State.wr_keeps (State.wr_keeps hs)))

theorem State.dispRead_keeps {z s : State} {pipe : Nat} (hs : Keeps z s) : Keeps z (State.dispRead s pipe).2 := by
  unfold State.dispRead
  extract_lets +onlyGivenNames x1
  have h2 : Keeps z x1.2 := State.inject_keeps hs
  clear_value x1
  refine Keeps.ite2 ?_ h2
  extract_lets +onlyGivenNames x3
  clear_value x3
  exact Keeps.ite2 (Keeps.mk2 (State.ucBad_keeps h2)) (Keeps.mk2 (State.bucket_keeps h2))

theorem State.zeroise_keeps {z s : State} (hs : Keeps z s) : Keeps z (State.zeroise s) := by
  unfold State.zeroise
  exact Keeps.same (s := s) hs ⟨rfl, rfl, rfl, rfl, rfl, rfl, rfl, rfl, rfl, rfl⟩

theorem State.wakePage_keeps {z s : State} {p : PartId} (hs : Keeps z s) : Keeps z (State.wakePage s p) := by
  unfold State.wakePage
  exact Keeps.foldl (fun x1 => fun x2 => fun h3 => State.modCp_keeps h3) hs

theorem State.ucFetch_keeps {z s : State} {pipe addr : Nat} (hs : Keeps z s) : Keeps z (State.ucFetch s pipe addr).2 := by
  unfold State.ucFetch
  extract_lets +onlyGivenNames x1
  have h2 : Keeps z x1.2 := State.inject_keeps hs
  clear_value x1
  refine Keeps.ite2 (Keeps.mk2 (State.ucBad_keeps h2)) ?_
  split
  · exact Keeps.mk2 (State.ucBad_keeps h2)
  · refine Keeps.ite2 ?_ h2
    extract_lets +onlyGivenNames x3
    have h4 : Keeps z x3.2 := State.inject_keeps h2
    clear_value x3
    refine Keeps.ite2 ?_ h4
    extract_lets +onlyGivenNames x5
    clear_value x5
    exact Keeps.ite2 (Keeps.mk2 (State.ucBad_keeps h4)) (Keeps.mk2 (State.bucket_keeps h4))

theorem State.flitRead_keeps {z s : State} {r : Nat} {f : Flit} (hs : Keeps z s) : Keeps z (State.flitRead s r f).2 := by
  unfold State.flitRead
  extract_lets +onlyGivenNames x1
  have h2 : Keeps z x1.2 := State.inject_keeps hs
  clear_value x1
  refine Keeps.ite2 h2 ?_
  extract_lets +onlyGivenNames x3
  clear_value x3
  exact Keeps.ite2 (Keeps.mk2 (State.bucket_keeps (State.capture_keeps h2))) (Keeps.mk2 (Keeps.ite h2 (State.bucket_keeps h2)))

theorem State.ucRun_keeps {z s : State} {pipe : Nat} {last ct : Bool} {n : Nat} {q : UcSeqSt} (hs : Keeps z s) :
    Keeps z (State.ucRun pipe last ct n q s).2 := by
  induction n generalizing q s with
  | zero => exact hs
  | succ n ih =>
    unfold State.ucRun
    have h1 : Keeps z (s.ucFetch pipe q.addr).2 := State.ucFetch_keeps hs
    extract_lets +onlyGivenNames r
    split
    · exact h1
    · extract_lets +onlyGivenNames f
      have h2 : Keeps z f.2 := Keeps.ite2 (State.fresh_keeps h1) h1
      split
      · exact ih h2
      · exact h2
      · exact h2
      · exact State.ucBad_keeps h2

theorem State.ucStrip_keeps {z s : State} {pipe : Nat} {ms : List (Nat × Bool)} {ret : List Nat} (hs : Keeps z s) :
    Keeps z (State.ucStrip pipe ms ret s).2 := by
  induction ms generalizing ret s with
  | nil => exact hs
  | cons m rest ih =>
    unfold State.ucStrip
    extract_lets +onlyGivenNames d
    have h1 : Keeps z d.2 := State.dispRead_keeps hs
    refine Keeps.ite2 h1 ?_
    split
    · extract_lets +onlyGivenNames r
      have h2 : Keeps z r.2 := State.inject_keeps h1
      exact Keeps.ite2 (State.ucBad_keeps h2) (ih h2)
    · extract_lets +onlyGivenNames r
      have h2 : Keeps z r.2 := State.ucRun_keeps h1
      split
      · exact h2
      · exact h2
      · exact ih h2

theorem State.refreshBank_keeps {z s : State} {bk : Nat} (hs : Keeps z s) : Keeps z (State.refreshBank s bk) := by
  unfold State.refreshBank
  exact State.modM_keeps hs

theorem State.rfm_keeps {z s : State} {bk : Nat} (hs : Keeps z s) : Keeps z (State.rfm s bk) := by
  unfold State.rfm
  exact State.rfmSent_keeps (State.modM_keeps hs)

theorem execFlitForward_keeps {z : State} {router : ClusterId} {port : MeshPort} {x : FlitMove} {s : State}
    (hs : Keeps z s) : Out.Keeps z (execFlitForward router port x s) := by
  unfold execFlitForward
  extract_lets +onlyGivenNames x0 x1 x2 x3
  clear_value x0 x1 x2
  have h4 : Keeps z x3 := Keeps.same (s := s) hs ⟨rfl, rfl, rfl, rfl, rfl, rfl, rfl, rfl, rfl, rfl⟩
  clear_value x3
  refine Out.keeps_next ?_
  split
  · exact h4
  · split
    · exact h4
    · refine Keeps.ite h4 ?_
      extract_lets +onlyGivenNames x5 x7
      have h6 : Keeps z x5.2 := State.flitRead_keeps h4
      have h8 : Keeps z x7 := h6
      clear_value x5 x7
      exact Keeps.same (s := x7) h8 ⟨rfl, rfl, rfl, rfl, rfl, rfl, rfl, rfl, rfl, rfl⟩

end Sys2Proof.Machine
end

