-- ==== Sys2Proof/Laws/KeepsCp.lean ====
section
/-! SUPPORT. What the Control Processors keep: one lemma for each operation and each meaning. -/

namespace Sys2Proof.Machine

theorem State.loadPram_keeps {z s : State} {c : CpId} {p : PartId} (hs : Keeps z s) : Keeps z (s.loadPram c p) := by
  unfold State.loadPram
  extract_lets x lo inRam s1 units r s2 s3
  have h1 : Keeps z s1 := Keeps.mem hs ⟨rfl, rfl, rfl, rfl⟩ fun hc => by
    have hc := (State.canonical_iff _).mp hc
    exact ⟨mapWf_filter _ _ hc.1, hc.2.1, mapWf_filter _ _ hc.2.2.1, hc.2.2.2⟩
  have h2 : Keeps z s2 := Keeps.foldl2 (fun r u h => State.readUnit_keeps h) h1
  have h3 : Keeps z s3 := Keeps.mem h2 ⟨rfl, rfl, rfl, rfl⟩ fun hc => by
    have hc := (State.canonical_iff _).mp hc
    refine ⟨?_, hc.2⟩
    refine List.foldlRecOn (motive := fun m => mapWf memDefault m = true) _ _ hc.1 fun m hm e _ => ?_
    split
    · exact mapWf_put _ _ _ hm
    · exact hm
  refine Keeps.foldl (fun s u h => Keeps.foldl (fun s i h => ?_) h) h3
  split
  · exact State.poisonUnit_keeps h
  · exact h

theorem State.useRate_keeps {z s : State} {q : QuadId} {rate : Nat} (hs : Keeps z s) : Keeps z (State.useRate s q rate) := by
  unfold State.useRate
  extract_lets +onlyGivenNames x1 x3
  have h2 : Keeps z x1 := State.wr_keeps hs
  clear_value x1 x3
  exact Keeps.ite (State.wr_keeps h2) h2

theorem State.announce_keeps {z s : State} {q : QuadId} {pipes : List Nat} (hs : Keeps z s) : Keeps z (State.announce s q pipes) := by
  unfold State.announce
  extract_lets +onlyGivenNames x1 x2
  clear_value x1 x2
  refine Keeps.ite hs (Keeps.ite (State.modLa_keeps hs) ?_)
  extract_lets +onlyGivenNames x3 x4 x6
  have h5 : Keeps z x4 := State.modLa_keeps hs
  have h7 : Keeps z x6 := Keeps.ite h5 (State.wr_keeps h5)
  clear_value x3 x4 x6
  exact Keeps.ite h7 (State.useRate_keeps (State.wr_keeps h7))

theorem State.light_keeps {z s : State} {pipes : List Nat} (hs : Keeps z s) : Keeps z (State.light s pipes) := by
  unfold State.light
  exact Keeps.foldl (fun x1 => fun x2 => fun h3 => State.announce_keeps h3) hs

theorem State.lightDet_keeps {z s : State} {p : PartId} (hs : Keeps z s) : Keeps z (State.lightDet s p) := by
  unfold State.lightDet
  extract_lets +onlyGivenNames x1
  clear_value x1
  exact Keeps.ite (State.light_keeps hs) hs

theorem State.tracePkt_keeps {z s : State} {c : CpId} {kind port : Nat} {data : Word}
    (hs : Keeps z s) : Keeps z (State.tracePkt s c kind port data) := by
  unfold State.tracePkt
  exact Keeps.ite (Keeps.same (s := s) hs ⟨rfl, rfl, rfl, rfl, rfl, rfl, rfl, rfl, rfl, rfl⟩) hs

theorem State.haltCp_keeps {z s : State} {c : CpId} {reason index : Nat} {late : Bool}
    (hs : Keeps z s) : Keeps z (State.haltCp s c reason index late) := by
  unfold State.haltCp
  extract_lets +onlyGivenNames x1
  have h2 : Keeps z x1 := State.modCp_keeps hs
  clear_value x1
  exact State.holdSync_keeps (State.tracePkt_keeps h2)

theorem State.releaseCp_keeps {z s : State} {c0 : CpId} (hs : Keeps z s) : Keeps z (State.releaseCp s c0) := by
  unfold State.releaseCp
  extract_lets +onlyGivenNames x1
  clear_value x1
  split
  · refine Keeps.ite hs ?_
    extract_lets +onlyGivenNames x2 x4 x5 x6 x7 x9
    have h3 : Keeps z x2 := State.loadPram_keeps (State.ensureRoot_keeps hs)
    have h8 : Keeps z x7 := State.modCp_keeps h3
    have h10 : Keeps z x9 := State.lightDet_keeps (State.latchesOfCp_keeps h8)
    clear_value x2 x4 x5 x6 x7 x9
    exact Keeps.ite (State.haltCp_keeps h10) (State.holdSync_keeps h10)
  · exact hs

theorem State.storeRamBit_keeps {z s : State} {c : CpId} {a : Nat} {b : Bool} (hs : Keeps z s) : Keeps z (State.storeRamBit s c a b) := by
  unfold State.storeRamBit
  extract_lets +onlyGivenNames x1 x3
  have h2 : Keeps z x1 := State.modCp_keeps hs
  have h4 : Keeps z x3.2 := State.inject_keeps h2
  clear_value x1 x3
  exact Keeps.ite (State.modCp_keeps h4) h2

theorem State.poisonBit_keeps {z s : State} {c : CpId} {a : Nat} (hs : Keeps z s) : Keeps z (State.poisonBit s c a) := by
  unfold State.poisonBit
  exact State.modCp_keeps hs

theorem State.readBit_keeps {z s : State} {c : CpId} {a : Nat} (hs : Keeps z s) : Keeps z (State.readBit s c a).2 := by
  unfold State.readBit
  refine Keeps.ite2 hs ?_
  extract_lets +onlyGivenNames x1 x2 x3
  clear_value x1 x2 x3
  refine Keeps.ite2 hs ?_
  extract_lets +onlyGivenNames x4
  clear_value x4
  refine Keeps.ite2 (Keeps.mk2 (State.bucket_keeps (State.bucket_keeps (State.capture_keeps hs)))) ?_
  extract_lets +onlyGivenNames x5
  have h6 : Keeps z x5 := Keeps.ite hs (State.bucket_keeps (State.modCp_keeps hs))
  clear_value x5
  exact h6

theorem State.pramStore_keeps {z s : State} {c : CpId} {i : Nat} {w : BitVec 56} (hs : Keeps z s) : Keeps z (State.pramStore s c i w) := by
  unfold State.pramStore
  exact State.writeRange_keeps hs

theorem State.setD_keeps {z s : State} {c : CpId} {r : Reg} {v : DReg} (hs : Keeps z s) : Keeps z (State.setD s c r v) := by
  unfold State.setD
  extract_lets +onlyGivenNames x1 x3
  have h2 : Keeps z x1.2 := State.inject_keeps hs
  clear_value x1 x3
  exact State.modA_keeps h2

theorem State.setDPart_keeps {z s : State} {c : CpId} {r : Reg} {v : DReg} (hs : Keeps z s) : Keeps z (State.setDPart s c r v) := by
  unfold State.setDPart
  extract_lets +onlyGivenNames x1
  clear_value x1
  exact State.modA_keeps (State.setD_keeps hs)

theorem State.crWrite_keeps {z s : State} {c : CpId} {sys : Bool} {n : Nat} {v : Word} (hs : Keeps z s) : Keeps z (State.crWrite s c sys n v) := by
  unfold State.crWrite
  exact Keeps.ite (Keeps.ite (State.modVq_keeps hs) hs) (Keeps.ite (Keeps.ite (State.modVq_keeps hs) hs) (State.modA_keeps hs))

theorem State.writeRamBit_keeps {z s : State} {c : CpId} {a : Nat} {b : Bool} (hs : Keeps z s) : Keeps z (State.writeRamBit s c a b) := by
  unfold State.writeRamBit
  extract_lets +onlyGivenNames x1 x3 x5
  have h2 : Keeps z x1.2 := State.readBit_keeps hs
  have h4 : Keeps z x3 := h2
  have h6 : Keeps z x5 := Keeps.ite (State.modCp_keeps h4) h4
  clear_value x1 x3 x5
  exact State.storeRamBit_keeps h6

theorem State.writeBit_keeps {z s : State} {c : CpId} {a : Nat} {b : Bool} (hs : Keeps z s) : Keeps z (State.writeBit s c a b) := by
  unfold State.writeBit
  exact Keeps.ite (State.writeRamBit_keeps hs) (Keeps.ite (State.modA_keeps hs) (Keeps.ite (State.modCp_keeps hs) (Keeps.ite (State.modCp_keeps hs)
      (Keeps.ite (State.modCp_keeps hs) (Keeps.ite (State.modCp_keeps hs) hs)))))

theorem State.doorbell_keeps {z s : State} {c : CpId} {ring : BitVec 4} (hs : Keeps z s) : Keeps z (State.doorbell s c ring) := by
  unfold State.doorbell
  exact Keeps.foldl (fun x1 => fun x2 => fun h3 => Keeps.ite (State.irq_keeps h3) h3) hs

theorem State.boundary_keeps {z s : State} {c : CpId} (hs : Keeps z s) : Keeps z (State.boundary s c) := by
  unfold State.boundary
  extract_lets +onlyGivenNames x1
  clear_value x1
  refine Keeps.ite hs ?_
  split
  · exact State.haltCp_keeps hs
  · exact State.haltCp_keeps hs
  · exact Keeps.ite (State.haltCp_keeps hs) (Keeps.ite (State.haltCp_keeps hs) hs)

theorem State.pramRead_keeps {z s : State} {c : CpId} {i : Nat} (hs : Keeps z s) : Keeps z (State.pramRead s c i).2 := by
  unfold State.pramRead
  extract_lets +onlyGivenNames x1 x2
  have h3 : Keeps z x2.2 := State.readGrid_keeps hs
  clear_value x1 x2
  exact h3

theorem capTrap_keeps {z s : State} {r : Reg} {k : Cap} {addr : Int} {sub : Nat} (hs : Keeps z s) : Flow.Keeps z (capTrap s r k addr sub) := by
  unfold capTrap
  exact Flow.keeps_trap hs

theorem State.spans_keeps {z s : State} {a : Access} {va n : Nat} (hs : Keeps z s) : Keeps z (State.spans s a va n).2 := by
  unfold State.spans
  refine Keeps.foldl2 (fun x1 => fun x2 => fun h3 => ?_) hs
  split
  · extract_lets +onlyGivenNames x4
    have h5 : Keeps z x4.2 := State.translate_keeps h3
    clear_value x4
    split
    · exact h5
    · exact h5
    · exact h5
  · exact h3

theorem State.undoLog_keeps {z s : State} {c : CpId} {spans : List (Nat × Nat)} (hs : Keeps z s) : Keeps z (State.undoLog s c spans) := by
  unfold State.undoLog
  refine Keeps.ite ?_ hs
  extract_lets +onlyGivenNames x1 x2
  have h3 : Keeps z x2 := Keeps.ite (State.checkpointWith_keeps (fun x4 => fun x5 => fun x6 => fun h7 => State.bucket_keeps h7) hs) hs
  clear_value x1 x2
  exact State.modCp_keeps h3

theorem State.dWrite_keeps {z s : State} {c : CpId} {va : Nat} {bs : List Byte} (hs : Keeps z s) : Keeps z (State.dWrite s c va bs) := by
  unfold State.dWrite
  exact State.modCp_keeps hs

theorem State.storeSpans_keeps {z s : State} {c : CpId} {va : Nat} {spans : List (Nat × Nat)} {bs : List Byte}
    (hs : Keeps z s) : Keeps z (State.storeSpans s c va spans bs) := by
  unfold State.storeSpans
  extract_lets +onlyGivenNames x1 x3
  have h2 : Keeps z x1 := State.undoLog_keeps hs
  have h4 : Keeps z x3.2 := Keeps.foldl2 (fun x5 => fun x6 => fun h7 => Keeps.mk2 (State.writeBy_keeps h7)) h2
  clear_value x1 x3
  exact State.dWrite_keeps h4

theorem State.writeFrame_keeps {z s t : State} {c : CpId} {a : CpArch} {pc f : Nat} (e : s.writeFrame c a pc = some (f, t)) (hs : Keeps z s) :
    Keeps z t := by
  unfold State.writeFrame at e
  dsimp only at e
  split at e
  · cases e
  · split at e
    · cases e
    · split at e
      · simp only [Option.some.injEq, Prod.mk.injEq] at e
        obtain ⟨-, rfl⟩ := e
        exact State.writeTag_keeps (State.writeTag_keeps (State.storeSpans_keeps (State.spans_keeps hs)))
      · cases e

theorem State.lockup_keeps {z s : State} {c : CpId} {lcause lcode : Nat} (hs : Keeps z s) : Keeps z (State.lockup s c lcause lcode) := by
  unfold State.lockup
  extract_lets +onlyGivenNames x1
  have h2 : Keeps z x1 := State.fire_keeps (State.modCp_keeps hs)
  clear_value x1
  exact Keeps.ite (State.fire_keeps h2) h2

theorem State.readWord_keeps {z s : State} {c : CpId} {w : Nat} (hs : Keeps z s) : Keeps z (State.readWord s c w).2 := by
  unfold State.readWord
  refine Keeps.ite2 ?_ ?_
  · extract_lets +onlyGivenNames x1
    have h2 : Keeps z x1.2 := State.readGrid_keeps hs
    clear_value x1
    exact h2
  · split
    · refine Keeps.ite2 hs ?_
      extract_lets +onlyGivenNames x3
      clear_value x3
      refine Keeps.ite2 (Keeps.mk2 (State.bucket_keeps (State.capture_keeps hs))) ?_
      extract_lets +onlyGivenNames x4
      clear_value x4
      exact Keeps.mk2 (State.bucket_keeps (State.modCp_keeps hs))
    · extract_lets +onlyGivenNames x5 x12
      have h6 : Keeps z x5.2 := by
        unfold x5
        refine Keeps.foldl2 (fun x7 => fun x8 => fun h9 => ?_) hs
        split
        · extract_lets +onlyGivenNames x10
          have h11 : Keeps z x10.2 := State.readRange_keeps h9
          clear_value x10
          exact h11
        · exact h9
      clear_value x5 x12
      refine Keeps.ite2 h6 ?_
      extract_lets +onlyGivenNames x13
      have h14 : Keeps z x13.2 := State.inject_keeps h6
      clear_value x13
      exact Keeps.mk2 (State.modCp_keeps h14)

theorem State.prefetch_keeps {z s : State} {c : CpId} {w0 : Nat} (hs : Keeps z s) : Keeps z (State.prefetch s c w0) := by
  unfold State.prefetch
  extract_lets +onlyGivenNames x1
  have h2 : Keeps z x1.2 := by
    unfold x1
    refine Keeps.foldl2 (fun x3 => fun x4 => fun h5 => ?_) hs
    split
    · exact h5
    · refine Keeps.ite2 ?_ h5
      extract_lets +onlyGivenNames x6
      have h7 : Keeps z x6.2 := State.readWord_keeps h5
      clear_value x6
      exact h7
  clear_value x1
  exact State.modCp_keeps h2

theorem State.fetchFault_keeps {z s : State} {c : CpId} {pc n : Nat} (hs : Keeps z s) : Keeps z (State.fetchFault s c pc n).2 := by
  unfold State.fetchFault
  extract_lets +onlyGivenNames x1
  clear_value x1
  refine Keeps.ite2 hs ?_
  split
  · exact hs
  · extract_lets +onlyGivenNames x2
    have h3 : Keeps z x2 := State.prefetch_keeps hs
    clear_value x2
    split
    · exact Keeps.mk2 (State.bucket_keeps h3)
    · exact h3

theorem State.enter_keeps {z s : State} {c : CpId} {x : Cause} {level : Nat} {esc : Bool} (hs : Keeps z s) : Keeps z (s.enter c x level esc) := by
  unfold State.enter
  dsimp only
  have h1 : Keeps z ((s.modCp c (fun p => { p.sync with stall := .none, vq := p.vq.close })).compareWith State.bucket c 4 x.xpc).2 :=
    State.compareWith_keeps (fun _ _ _ h => State.bucket_keeps h) (State.modCp_keeps hs)
  refine Keeps.ite h1 ?_
  split
  · exact State.lockup_keeps h1
  · refine Keeps.ite (State.lockup_keeps (State.fetchFault_keeps ?_)) (State.fetchFault_keeps ?_)
    all_goals exact State.modCp_keeps (State.writeFrame_keeps (by assumption) h1)

theorem State.accept_keeps {z s : State} {c : CpId} {n q xpc : Nat} (hs : Keeps z s) : Keeps z (State.accept s c n q xpc) := by
  unfold State.accept
  extract_lets +onlyGivenNames x1
  clear_value x1
  exact Keeps.ite (State.enter_keeps (State.modVq_keeps hs)) (State.enter_keeps hs)

theorem State.decodeFault_keeps {z s : State} {c : CpId} {i : Insn} (hs : Keeps z s) : Keeps z (State.decodeFault s c i).2 := by
  unfold State.decodeFault
  extract_lets +onlyGivenNames x1 x2 x3 x4
  clear_value x1 x2 x3 x4
  split
  · exact hs
  · extract_lets +onlyGivenNames x5
    have h6 : Keeps z x5.2 := State.dispRead_keeps hs
    clear_value x5
    refine Keeps.ite2 ?_ (Keeps.ite2 h6 h6)
    extract_lets +onlyGivenNames x7
    have h8 : Keeps z x7.2 := State.fresh_keeps h6
    clear_value x7
    exact Keeps.mk2 (State.bucket_keeps h8)

theorem State.fetch_keeps {z s : State} {c : CpId} {i : Insn} (hs : Keeps z s) : Keeps z (State.fetch s c i).2 := by
  unfold State.fetch
  extract_lets +onlyGivenNames x1
  have h2 : Keeps z x1.2 := State.fetchFault_keeps hs
  clear_value x1
  exact Keeps.ite2 h2 (State.decodeFault_keeps h2)

theorem State.raise_keeps {z s : State} {c : CpId} {code : Nat} {info : Word} {xpc : Nat}
    (hs : Keeps z s) : Keeps z (State.raise s c code info xpc) := by
  unfold State.raise
  extract_lets +onlyGivenNames x1 x2 x3 x4 x5
  clear_value x1 x2 x3 x4 x5
  exact Keeps.ite (State.lockup_keeps hs) (Keeps.ite (State.enter_keeps hs) (State.enter_keeps hs))

theorem State.retire_keeps {z s : State} {c : CpId} {len : Nat} {target : Option Nat} (hs : Keeps z s) : Keeps z (State.retire s c len target) := by
  unfold State.retire
  extract_lets +onlyGivenNames x1
  have h2 : Keeps z x1 := State.modCp_keeps hs
  clear_value x1
  exact State.boundary_keeps h2

theorem State.retireDelayed_keeps {z s : State} {c : CpId} {len : Nat} {target : Option Nat}
    (hs : Keeps z s) : Keeps z (State.retireDelayed s c len target) := by
  unfold State.retireDelayed
  extract_lets +onlyGivenNames x1 x2 x3 x4
  clear_value x1 x2 x3 x4
  exact State.modCp_keeps hs

theorem State.finish_keeps {z s0 : State} {c : CpId} {i : Insn} {f : Flow} (hs0 : Keeps z s0)
    (hf : Flow.Keeps z f) : Keeps z (State.finish s0 c i f) := by
  unfold State.finish
  extract_lets +onlyGivenNames x1
  clear_value x1
  split
  · refine State.retire_keeps ?_
    apply_assumption
  · refine State.retire_keeps ?_
    apply_assumption
  · refine State.retireDelayed_keeps ?_
    apply_assumption
  · refine State.boundary_keeps (State.raise_keeps ?_)
    apply_assumption
  · extract_lets +onlyGivenNames x2 x3
    have h4 : Keeps z x3 := by
      unfold x3
      refine State.modCp_keeps ?_
      apply_assumption
    clear_value x2 x3
    exact Keeps.ite (State.haltCp_keeps (State.modCp_keeps h4)) h4
  · refine State.boundary_keeps ?_
    apply_assumption

theorem State.deliverVector_keeps {z s : State} {c : CpId} {xpc : Nat} (hs : Keeps z s) : Keeps z (State.deliverVector s c xpc) := by
  unfold State.deliverVector
  extract_lets +onlyGivenNames x1
  clear_value x1
  exact State.raise_keeps (State.modCp_keeps hs)

theorem State.runInsn_keeps {z s : State} {c0 : CpId} {i : Insn} {body : State → CpId → Flow} (hs : Keeps z s)
    (hbody : ∀ w0 w1, Keeps z w0 → Flow.Keeps z (body w0 w1)) : Keeps z (State.runInsn s c0 i body) := by
  unfold State.runInsn
  extract_lets +onlyGivenNames c
  refine Keeps.ite hs ?_
  split
  · exact State.boundary_keeps (State.accept_keeps hs)
  · extract_lets +onlyGivenNames s1 p pc hit s2 s3 r
    have h1 : Keeps z s1 := State.modCp_keeps hs
    have h2 : Keeps z s2 := Keeps.ite h1 (State.modCp_keeps (Keeps.foldl (fun _ _ h => State.tracePkt_keeps h) h1))
    refine Keeps.ite (State.haltCp_keeps h2) ?_
    have h3 : Keeps z s3 := by
      unfold s3
      split
      · exact Keeps.ite h2 (State.modCp_keeps h2)
      · exact h2
    have h4 : Keeps z r.2 := State.fetch_keeps h3
    split
    · exact State.boundary_keeps (State.raise_keeps h4)
    · have h5 := hbody _ c h4
      refine Keeps.ite (Keeps.ite ?_ (State.finish_keeps h4 (Flow.keeps_stall h4))) (State.finish_keeps h4 h5)
      split
      · rename_i e
        exact State.finish_keeps h4 (e ▸ h5)
      · exact State.boundary_keeps (State.deliverVector_keeps h4)

theorem State.readD_keeps {z s : State} {c : CpId} {r : Reg} (hs : Keeps z s) : Keeps z (State.readD s c r).2 := by
  unfold State.readD
  extract_lets +onlyGivenNames x1
  clear_value x1
  refine Keeps.ite2 hs ?_
  extract_lets +onlyGivenNames x2
  clear_value x2
  refine Keeps.ite2 (Keeps.mk2 (State.bucket_keeps (State.bucket_keeps (State.capture_keeps hs)))) ?_
  extract_lets +onlyGivenNames x3 x4
  clear_value x3 x4
  exact Keeps.mk2 (State.bucket_keeps (State.modA_keeps hs))

theorem nextSaved_keeps {z s : State} {c : CpId} {len : Nat} (hs : Keeps z s) : Flow.Keeps z (nextSaved s c len) := by
  unfold nextSaved
  refine Flow.keeps_ite ?_ (Flow.keeps_next hs)
  extract_lets +onlyGivenNames x1
  have h2 : Keeps z x1.2 := State.compareWith_keeps (fun x3 => fun x4 => fun x5 => fun h6 => State.bucket_keeps h6) hs
  clear_value x1
  exact Flow.keeps_ite (Flow.keeps_done h2) (Flow.keeps_done (State.lstepSave_keeps (State.retire_keeps h2)))

theorem illegal_keeps {z s : State} {i : Insn} (hs : Keeps z s) : Flow.Keeps z (illegal s i) := by
  unfold illegal
  exact Flow.keeps_trap hs

theorem execLock_keeps {z : State} {c : CpId} {n : Fin 4} {s : State} (hs : Keeps z s) : Out.Keeps z (execLock c n s) := by
  unfold execLock
  extract_lets +onlyGivenNames x1
  clear_value x1
  exact Out.keeps_next (State.runInsn_keeps hs (fun x2 => fun x3 => fun h4 => Flow.keeps_ite (illegal_keeps h4) (Flow.keeps_next (State.modCp_keeps
      h4))))

theorem State.setG_keeps {z s : State} {c : CpId} {r : Reg} {v : Word} (hs : Keeps z s) : Keeps z (State.setG s c r v) := by
  unfold State.setG
  exact State.modA_keeps hs

theorem State.link_keeps {z s : State} {c : CpId} {len : Nat} {dly : Bool} (hs : Keeps z s) : Keeps z (State.link s c len dly) := by
  unfold State.link
  extract_lets +onlyGivenNames x1 x2
  clear_value x1 x2
  exact State.setG_keeps hs

theorem execCallrD_keeps {z : State} {c : CpId} {d a b : Reg} {s : State} (hs : Keeps z s) : Out.Keeps z (execCallrD c d a b s) := by
  unfold execCallrD
  exact Out.keeps_next (State.runInsn_keeps hs (fun x1 => fun x2 => fun h3 => Flow.keeps_delayed (State.link_keeps h3)))

theorem State.dFill_keeps {z s : State} {c : CpId} {line key : Nat} (hs : Keeps z s) : Keeps z (State.dFill s c line key) := by
  unfold State.dFill
  extract_lets +onlyGivenNames x1 x3 x4
  have h2 : Keeps z x1.2 := State.inject_keeps hs
  clear_value x1 x3 x4
  exact State.modCp_keeps h2

theorem State.loadSpan_keeps {z s : State} {c : CpId} {va key n : Nat} (hs : Keeps z s) : Keeps z (State.loadSpan s c va key n).2 := by
  unfold State.loadSpan
  extract_lets +onlyGivenNames x1 x2
  clear_value x1 x2
  split
  · extract_lets +onlyGivenNames x3
    clear_value x3
    refine Keeps.ite2 (Keeps.mk2 (State.bucket_keeps (State.bucket_keeps (State.capture_keeps hs)))) ?_
    extract_lets +onlyGivenNames x4 x6 x7
    have h5 : Keeps z x4 := Keeps.ite hs (State.bucket_keeps (State.modCp_keeps hs))
    clear_value x4 x6 x7
    exact h5
  · extract_lets +onlyGivenNames x8
    have h9 : Keeps z x8.2 := State.readBy_keeps hs
    clear_value x8
    split
    · exact Keeps.mk2 (State.bucket_keeps h9)
    · extract_lets +onlyGivenNames x10
      clear_value x10
      refine Keeps.ite2 ?_ h9
      extract_lets +onlyGivenNames x11
      have h12 : Keeps z x11.2 := State.readRange_keeps h9
      clear_value x11
      exact Keeps.mk2 (Keeps.ite h12 (State.dFill_keeps h12))

theorem State.loadSpans_keeps {z s : State} {c : CpId} {va : Nat} {spans : List (Nat × Nat)}
    (hs : Keeps z s) : Keeps z (State.loadSpans s c va spans).2 := by
  unfold State.loadSpans
  refine Keeps.foldl3 (fun x1 => fun x2 => fun h3 => ?_) hs
  split
  · exact h3
  · extract_lets +onlyGivenNames x4
    have h5 : Keeps z x4.2 := State.loadSpan_keeps h3
    clear_value x4
    exact h5

theorem State.watchAccess_keeps {z s : State} {c : CpId} {wr : Bool} {addr n : Nat} (hs : Keeps z s) : Keeps z (State.watchAccess s c wr addr n) := by
  unfold State.watchAccess
  refine Keeps.foldl (fun x1 => fun x2 => fun h3 => ?_) hs
  extract_lets +onlyGivenNames x4 x5 x6
  clear_value x4 x5 x6
  exact Keeps.ite (Keeps.ite (State.tracePkt_keeps h3) (Keeps.ite h3 (State.modCp_keeps h3))) h3

theorem loadBytes_keeps {z s : State} {c : CpId} {r : Reg} {addr : Int} {n align : Nat} {k : State → List Byte → Nat → Flow} (hs : Keeps z s)
    (hk : ∀ w0 w1 w2, Keeps z w0 → Flow.Keeps z (k w0 w1 w2)) : Flow.Keeps z (loadBytes s c r addr n align k) := by
  unfold loadBytes
  extract_lets +onlyGivenNames x1
  clear_value x1
  split
  · exact capTrap_keeps hs
  · extract_lets +onlyGivenNames x2 x3
    have h4 : Keeps z x3.2 := State.spans_keeps hs
    clear_value x2 x3
    split
    · exact Flow.keeps_trap h4
    · exact Flow.keeps_stall h4
    · extract_lets +onlyGivenNames x5
      have h6 : Keeps z x5.2 := State.loadSpans_keeps h4
      clear_value x5
      split
      · exact Flow.keeps_trap h6
      · exact hk _ _ _ (State.watchAccess_keeps h6)

theorem loadG_keeps {z : State} {major size : Nat} {signed : Bool} {c : CpId} {d k : Reg} {off : BitVec 12} {s : State}
    (hs : Keeps z s) : Keeps z (loadG major size signed c d k off s) := by
  unfold loadG
  refine State.runInsn_keeps hs (fun x1 => fun x2 => fun h3 => loadBytes_keeps h3 (fun x4 => fun x5 => fun x6 => fun h7 => ?_))
  extract_lets +onlyGivenNames x8
  clear_value x8
  exact Flow.keeps_next (State.setG_keeps h7)

theorem execLdh_keeps {z : State} {c : CpId} {d k : Reg} {off : BitVec 12} {s : State} (hs : Keeps z s) : Out.Keeps z (execLdh c d k off s) := by
  unfold execLdh
  exact Out.keeps_next (loadG_keeps hs)

theorem State.setK_keeps {z s : State} {c : CpId} {r : Reg} {v : Cap} (hs : Keeps z s) : Keeps z (State.setK s c r v) := by
  unfold State.setK
  exact State.modA_keeps hs

theorem execKmov_keeps {z : State} {c : CpId} {d a b : Reg} {s : State} (hs : Keeps z s) : Out.Keeps z (execKmov c d a b s) := by
  unfold execKmov
  exact Out.keeps_next (State.runInsn_keeps hs (fun x1 => fun x2 => fun h3 => Flow.keeps_next (State.setK_keeps h3)))

theorem putBit_keeps {z s : State} {c : CpId} {a : Nat} {b : Bool} (hs : Keeps z s) : Flow.Keeps z (putBit s c a b) := by
  unfold putBit
  refine Flow.keeps_ite (Flow.keeps_ite (Flow.keeps_done (State.deliverVector_keeps hs)) (Flow.keeps_stall hs)) (Flow.keeps_ite ?_ (Flow.keeps_next
      (State.writeBit_keeps hs)))
  extract_lets +onlyGivenNames x1
  have h2 : Keeps z x1.2 := State.compareWith_keeps (fun x3 => fun x4 => fun x5 => fun h6 => State.bucket_keeps h6) hs
  clear_value x1
  exact Flow.keeps_ite (Flow.keeps_done h2) (Flow.keeps_next (State.writeBit_keeps h2))

theorem poisonBit_keeps {z s : State} {a : Nat} (hs : Keeps z s) : Flow.Keeps z (poisonBit s a) := by
  unfold poisonBit
  exact Flow.keeps_trap hs

theorem withBit_keeps {z s : State} {c : CpId} {a : Nat} {k : State → Bool → Flow} (hs : Keeps z s)
    (hk : ∀ w0 w1, Keeps z w0 → Flow.Keeps z (k w0 w1)) : Flow.Keeps z (withBit s c a k) := by
  unfold withBit
  refine Flow.keeps_ite (Flow.keeps_ite (Flow.keeps_done (State.deliverVector_keeps hs)) (Flow.keeps_stall hs)) ?_
  split
  · exact hk _ _ (Keeps.eq2 (by assumption) (State.readBit_keeps hs))
  · exact poisonBit_keeps (Keeps.eq2 (by assumption) (State.readBit_keeps hs))

theorem bitOp_keeps {z : State} {op : Nat} {s : State} {c : CpId} {a : Nat} (hs : Keeps z s) : Flow.Keeps z (bitOp op s c a) := by
  unfold bitOp
  exact Flow.keeps_ite (putBit_keeps hs) (Flow.keeps_ite (putBit_keeps hs) (Flow.keeps_ite (withBit_keeps hs (fun x1 => fun x2 => fun h3
      => putBit_keeps h3)) (withBit_keeps hs (fun x4 => fun x5 => fun h6 => Flow.keeps_next (State.modA_keeps h6)))))

theorem bitX_keeps {z : State} {op : Nat} {imm : BitVec 32} {s : State} {c : CpId} (hs : Keeps z s) : Flow.Keeps z (bitX op imm s c) := by
  unfold bitX
  exact bitOp_keeps hs

theorem execSetbx_keeps {z : State} {c : CpId} {d a : Reg} {sub : BitVec 4} {imm : BitVec 32} {s : State} (hs : Keeps z s) : Out.Keeps z
    (execSetbx c d a sub imm s) := by
  unfold execSetbx
  exact Out.keeps_next (State.runInsn_keeps hs (fun x1 => fun x2 => fun h3 => bitX_keeps h3))

theorem aluTo_keeps {z s : State} {c : CpId} {d : Reg} {f : CpArch → Word × CpArch} (hs : Keeps z s) : Flow.Keeps z (aluTo s c d f) := by
  unfold aluTo
  exact Flow.keeps_next (State.modA_keeps hs)

theorem execSub3_keeps {z : State} {c : CpId} {d a0 b0 : Reg} {fn : BitVec 8} {s : State} (hs : Keeps z s) : Out.Keeps z
    (execSub3 c d a0 b0 fn s) := by
  unfold execSub3
  exact Out.keeps_next (State.runInsn_keeps hs (fun x1 => fun x2 => fun h3 => aluTo_keeps h3))

theorem execSexth_keeps {z : State} {c : CpId} {r : Reg} {s : State} (hs : Keeps z s) : Out.Keeps z (execSexth c r s) := by
  unfold execSexth
  exact Out.keeps_next (State.runInsn_keeps hs (fun x1 => fun x2 => fun h3 => aluTo_keeps h3))

theorem decScalar_keeps {z : State} {major : Nat} {sub : Bool} {c : CpId} {d a b : Reg} {fn : BitVec 8} {s : State}
    (hs : Keeps z s) : Keeps z (decScalar major sub c d a b fn s) := by
  unfold decScalar
  refine State.runInsn_keeps hs (fun x1 => fun x2 => fun h3 => ?_)
  extract_lets +onlyGivenNames x4 x5
  clear_value x4 x5
  exact Flow.keeps_next (State.modA_keeps h3)

theorem execMovi32_keeps {z : State} {c : CpId} {d a0 : Reg} {sub : BitVec 4} {imm : BitVec 32} {s : State} (hs : Keeps z s) : Out.Keeps z
    (execMovi32 c d a0 sub imm s) := by
  unfold execMovi32
  exact Out.keeps_next (State.runInsn_keeps hs (fun x1 => fun x2 => fun h3 => aluTo_keeps h3))

theorem execSbc_keeps {z : State} {c : CpId} {d s0 : Reg} {s : State} (hs : Keeps z s) : Out.Keeps z (execSbc c d s0 s) := by
  unfold execSbc
  exact Out.keeps_next (State.runInsn_keeps hs (fun x1 => fun x2 => fun h3 => aluTo_keeps h3))

theorem execCpWaitOnVectorEnd_keeps {z : State} {c0 : CpId} {s : State} (hs : Keeps z s) : Out.Keeps z (execCpWaitOnVectorEnd c0 s) := by
  unfold execCpWaitOnVectorEnd
  extract_lets +onlyGivenNames x1
  clear_value x1
  split
  · extract_lets +onlyGivenNames x2
    have h3 : Keeps z x2 := State.modCp_keeps hs
    clear_value x2
    exact Out.keeps_next (Keeps.ite (State.boundary_keeps (State.deliverVector_keeps h3)) h3)
  · exact Out.keeps_next hs

theorem goto_keeps {z s : State} {t : Nat} (hs : Keeps z s) : Flow.Keeps z (goto s t) := by
  unfold goto
  exact Flow.keeps_jump hs

theorem branchBit_keeps {z s : State} {c : CpId} {bit : Nat} {want dly : Bool} {t : Nat} (hs : Keeps z s) : Flow.Keeps z
    (branchBit s c bit want dly t) := by
  unfold branchBit
  exact withBit_keeps hs (fun x1 => fun x2 => fun h3 => Flow.keeps_ite (Flow.keeps_delayed h3) (Flow.keeps_ite (goto_keeps h3) (Flow.keeps_next h3)))

theorem branchX_keeps {z : State} {want dly : Bool} {imm : BitVec 32} {s : State} {c : CpId} (hs : Keeps z s) : Flow.Keeps z
    (branchX want dly imm s c) := by
  unfold branchX
  exact branchBit_keeps hs

theorem execBbsxD_keeps {z : State} {c : CpId} {d a : Reg} {sub : BitVec 4} {imm : BitVec 32} {s : State} (hs : Keeps z s) : Out.Keeps z
    (execBbsxD c d a sub imm s) := by
  unfold execBbsxD
  exact Out.keeps_next (State.runInsn_keeps hs (fun x1 => fun x2 => fun h3 => branchX_keeps h3))

theorem execJmpa_keeps {z : State} {c : CpId} {d a : Reg} {sub : BitVec 4} {imm : BitVec 32} {s : State} (hs : Keeps z s) : Out.Keeps z
    (execJmpa c d a sub imm s) := by
  unfold execJmpa
  exact Out.keeps_next (State.runInsn_keeps hs (fun x1 => fun x2 => fun h3 => goto_keeps h3))

theorem execPopc_keeps {z : State} {c : CpId} {r : Reg} {s : State} (hs : Keeps z s) : Out.Keeps z (execPopc c r s) := by
  unfold execPopc
  exact Out.keeps_next (State.runInsn_keeps hs (fun x1 => fun x2 => fun h3 => aluTo_keeps h3))

theorem execCtz_keeps {z : State} {c : CpId} {r : Reg} {s : State} (hs : Keeps z s) : Out.Keeps z (execCtz c r s) := by
  unfold execCtz
  exact Out.keeps_next (State.runInsn_keeps hs (fun x1 => fun x2 => fun h3 => aluTo_keeps h3))

theorem execCalla_keeps {z : State} {c : CpId} {d a : Reg} {sub : BitVec 4} {imm : BitVec 32} {s : State} (hs : Keeps z s) : Out.Keeps z
    (execCalla c d a sub imm s) := by
  unfold execCalla
  exact Out.keeps_next (State.runInsn_keeps hs (fun x1 => fun x2 => fun h3 => goto_keeps (State.link_keeps h3)))

theorem execAndi32_keeps {z : State} {c : CpId} {d a0 : Reg} {sub : BitVec 4} {imm : BitVec 32} {s : State} (hs : Keeps z s) : Out.Keeps z
    (execAndi32 c d a0 sub imm s) := by
  unfold execAndi32
  exact Out.keeps_next (State.runInsn_keeps hs (fun x1 => fun x2 => fun h3 => aluTo_keeps h3))

theorem State.setF_keeps {z s : State} {c : CpId} {n : Fin 64} {v : Word} (hs : Keeps z s) : Keeps z (State.setF s c n v) := by
  unfold State.setF
  exact State.modA_keeps hs

theorem execMvgfx_keeps {z : State} {c : CpId} {d a0 : Reg} {sub : BitVec 4} {imm : BitVec 32} {s : State} (hs : Keeps z s) : Out.Keeps z
    (execMvgfx c d a0 sub imm s) := by
  unfold execMvgfx
  exact Out.keeps_next (State.runInsn_keeps hs (fun x1 => fun x2 => fun h3 => Flow.keeps_next (State.setF_keeps h3)))

theorem State.modWdg_keeps {z s : State} {c : CpId} {f : Wdg → Wdg} (hs : Keeps z s) : Keeps z (State.modWdg s c f) := by
  unfold State.modWdg
  exact State.modCp_keeps hs

theorem State.wdgExpire_keeps {z s : State} {c : CpId} (hs : Keeps z s) : Keeps z (State.wdgExpire s c) := by
  unfold State.wdgExpire
  extract_lets +onlyGivenNames x1
  have h2 : Keeps z x1 := State.modWdg_keeps hs
  clear_value x1
  refine Keeps.ite (Keeps.ite h2 ?_) (State.releaseCp_keeps (State.modCp_keeps h2))
  extract_lets +onlyGivenNames x3
  have h4 : Keeps z x3.2 := State.fresh_keeps h2
  clear_value x3
  exact State.lockup_keeps h4

theorem returnAuth_keeps {z s : State} {sub f : Nat} (hs : Keeps z s) : Flow.Keeps z (returnAuth s sub f) := by
  unfold returnAuth
  exact Flow.keeps_trap hs

theorem doRetx_keeps {z s : State} {c : CpId} (hs : Keeps z s) : Flow.Keeps z (doRetx s c) := by
  unfold doRetx
  extract_lets +onlyGivenNames x1 x2 x3 x4
  clear_value x3 x4
  refine Flow.keeps_ite (returnAuth_keeps hs) ?_
  extract_lets +onlyGivenNames x5
  have h6 : Keeps z x5.2 := State.spans_keeps hs
  clear_value x5
  split
  · exact returnAuth_keeps h6
  · exact Flow.keeps_stall h6
  · extract_lets +onlyGivenNames x7
    have h8 : Keeps z x7.2 := State.loadSpans_keeps h6
    clear_value x7
    split
    · exact returnAuth_keeps h8
    · extract_lets +onlyGivenNames x9 x10 x12 x14 x16 x17
      have h11 : Keeps z x10.2 := Keeps.ite2 (State.readTag_keeps h8) h8
      have h13 : Keeps z x12.2 := Keeps.ite2 (State.readTag_keeps h11) h11
      have h15 : Keeps z x14 := h13
      clear_value x9 x10 x12 x14 x16 x17
      refine Flow.keeps_ite (returnAuth_keeps h15) ?_
      split
      · exact returnAuth_keeps h15
      · extract_lets +onlyGivenNames x18
        have h19 : Keeps z x18.2 := State.spans_keeps h15
        clear_value x18
        split
        · exact returnAuth_keeps h19
        · exact Flow.keeps_stall h19
        · extract_lets +onlyGivenNames x20
          have h21 : Keeps z x20.2 := State.compareWith_keeps (fun x22 => fun x23 => fun x24 => fun h25 => State.bucket_keeps h25) h19
          clear_value x20
          refine Flow.keeps_ite (Flow.keeps_done h21) ?_
          extract_lets +onlyGivenNames x26 x28 x30
          have h27 : Keeps z x26 := State.undoLog_keeps h21
          have h29 : Keeps z x28 := State.dropResv_keeps (State.writeTag_keeps h27)
          have h31 : Keeps z x30 := State.modA_keeps h29
          clear_value x26 x28 x30
          exact Flow.keeps_jump h31

theorem execRetx_keeps {z : State} {c : CpId} {s : State} (hs : Keeps z s) : Out.Keeps z (execRetx c s) := by
  unfold execRetx
  exact Out.keeps_next (State.runInsn_keeps hs (fun x1 => fun x2 => fun h3 => doRetx_keeps h3))

theorem capOpTrap_keeps {z s : State} {r : Reg} {k : Cap} {sub : Nat} (hs : Keeps z s) : Flow.Keeps z (capOpTrap s r k sub) := by
  unfold capOpTrap
  exact Flow.keeps_trap hs

theorem State.qsetWrite_keeps {z s : State} {p : PartId} {base : Nat} (hs : Keeps z s) : Keeps z (State.qsetWrite s p base) := by
  unfold State.qsetWrite
  extract_lets +onlyGivenNames x1 x3
  have h2 : Keeps z x1.2 := State.inject_keeps hs
  have h4 : Keeps z x3 := State.modPart_keeps h2
  clear_value x1 x3
  exact Keeps.ite (State.modPart_keeps h4) h4

theorem State.qsetRead_keeps {z s : State} {p : PartId} (hs : Keeps z s) : Keeps z (State.qsetRead s p) := by
  unfold State.qsetRead
  refine State.modPart_keeps (Keeps.foldl (fun x1 => fun x2 => fun h3 => ?_) hs)
  extract_lets +onlyGivenNames x4
  clear_value x4
  exact Keeps.ite (State.bucket_keeps (State.capture_keeps h3)) (State.bucket_keeps h3)

theorem State.purgeTokens_keeps {z s : State} (hs : Keeps z s) : Keeps z (State.purgeTokens s) := by
  unfold State.purgeTokens
  exact Keeps.same (s := s) hs ⟨rfl, rfl, rfl, rfl, rfl, rfl, rfl, rfl, rfl, rfl⟩

theorem State.purgeRegs_keeps {z s : State} {p : PartId} (hs : Keeps z s) : Keeps z (State.purgeRegs s p) := by
  unfold State.purgeRegs
  extract_lets +onlyGivenNames x1
  clear_value x1
  exact Keeps.ite hs (Keeps.foldl (fun x2 => fun x3 => fun h4 => State.modA_keeps h4) hs)

theorem State.openEpoch_keeps {z s : State} (hs : Keeps z s) : Keeps z (State.openEpoch s) := by
  unfold State.openEpoch
  refine Keeps.ite hs ?_
  extract_lets +onlyGivenNames x1 x3 x8 x10
  have h2 : Keeps z x1 := State.wrB_keeps (State.wr_keeps (State.wr_keeps hs))
  have h4 : Keeps z x3 := Keeps.foldl (fun x5 => fun x6 => fun h7 => State.qsetRead_keeps h7) h2
  clear_value x1 x3
  have h9 : Keeps z x8 := Keeps.same (s := x3) h4 ⟨rfl, rfl, rfl, rfl, rfl, rfl, rfl, rfl, rfl, rfl⟩
  clear_value x8
  have h11 : Keeps z x10 := Keeps.same (s := x8) h9 ⟨rfl, rfl, rfl, rfl, rfl, rfl, rfl, rfl, rfl, rfl⟩
  clear_value x10
  exact State.purgeTokens_keeps (Keeps.foldl (fun x12 => fun x13 => fun h14 => State.purgeRegs_keeps h14) h11)

theorem State.cfree_keeps {z s : State} {p : PartId} {lo hi : Nat} (hs : Keeps z s) : Keeps z (State.cfree s p lo hi) := by
  unfold State.cfree
  extract_lets +onlyGivenNames x1 x2 x3 x4 x6 x7 x12 x14 x16 x24 x26
  have h5 : Keeps z x4 := State.shootdown_keeps hs
  have h8 : Keeps z x7 := Keeps.foldl (fun x9 => fun x10 => fun h11 => State.freeSpan_keeps h11) h5
  have h13 : Keeps z x12 := State.modM_keeps h8
  have h15 : Keeps z x14 := Keeps.ite (State.wakePage_keeps h13) h13
  have h17 : Keeps z x16 := by
    unfold x16
    refine Keeps.foldl (fun x18 => fun x19 => fun h20 => ?_) h15
    extract_lets +onlyGivenNames x21 x22
    have h23 : Keeps z x22 := State.setPte_keeps h20
    clear_value x21 x22
    exact Keeps.ite h23 (State.freeSpan_keeps h23)
  have h25 : Keeps z x24 := State.modPart_keeps (State.qsetWrite_keeps h17)
  have h27 : Keeps z x26 := State.wr_keeps h25
  clear_value x1 x2 x3 x4 x6 x7 x12 x14 x16 x24 x26
  exact State.openEpoch_keeps h27

theorem doCfree_keeps {z : State} {a : Reg} {s : State} {c : CpId} (hs : Keeps z s) : Flow.Keeps z (doCfree a s c) := by
  unfold doCfree
  extract_lets +onlyGivenNames x1 x2 x3
  clear_value x1 x2 x3
  refine Flow.keeps_ite (capOpTrap_keeps hs) (Flow.keeps_ite (capOpTrap_keeps hs) (Flow.keeps_ite (capOpTrap_keeps hs) (Flow.keeps_ite
      (capOpTrap_keeps hs) ?_)))
  extract_lets +onlyGivenNames x4
  have h5 : Keeps z x4 := State.modVq_keeps hs
  clear_value x4
  refine Flow.keeps_ite (Flow.keeps_done (State.deliverVector_keeps h5)) (Flow.keeps_ite (Flow.keeps_stall h5) (Flow.keeps_ite (Flow.keeps_stall
      h5) ?_))
  extract_lets +onlyGivenNames x6
  have h7 : Keeps z x6 := State.cfree_keeps h5
  clear_value x6
  exact Flow.keeps_next (State.setK_keeps h7)

theorem State.wdgCtl_keeps {z s : State} {c : CpId} {v : BitVec 3} (hs : Keeps z s) : Keeps z (State.wdgCtl s c v) := by
  unfold State.wdgCtl
  exact State.modWdg_keeps hs

theorem State.wdgKey_keeps {z s : State} {c : CpId} {key : BitVec 16} (hs : Keeps z s) : Keeps z (State.wdgKey s c key) := by
  unfold State.wdgKey
  exact Keeps.ite (State.modWdg_keeps hs) (State.wdgExpire_keeps hs)

theorem execCpReset_keeps {z : State} {c : CpId} {s : State} (hs : Keeps z s) : Out.Keeps z (execCpReset c s) := by
  unfold execCpReset
  exact Out.keeps_next (Keeps.ite hs (State.releaseCp_keeps hs))

theorem unlessSealed_keeps {z s : State} {c : CpId} {a : Reg} {f : Cap → Flow} (hs : Keeps z s) (hf : ∀ w0, Flow.Keeps z (f w0)) : Flow.Keeps z
    (unlessSealed s c a f) := by
  unfold unlessSealed
  extract_lets +onlyGivenNames x1
  clear_value x1
  exact Flow.keeps_ite (capOpTrap_keeps hs) (hf _)

theorem execKlock_keeps {z : State} {c : CpId} {d a b : Reg} {s : State} (hs : Keeps z s) : Out.Keeps z (execKlock c d a b s) := by
  unfold execKlock
  refine Out.keeps_next (State.runInsn_keeps hs (fun x1 => fun x2 => fun h3 => unlessSealed_keeps h3 (fun x4 => ?_)))
  extract_lets +onlyGivenNames x5
  clear_value x5
  split
  · exact capOpTrap_keeps h3
  · exact Flow.keeps_next (State.setK_keeps h3)

theorem execMvfgx_keeps {z : State} {c : CpId} {d a0 : Reg} {sub : BitVec 4} {imm : BitVec 32} {s : State} (hs : Keeps z s) : Out.Keeps z
    (execMvfgx c d a0 sub imm s) := by
  unfold execMvfgx
  exact Out.keeps_next (State.runInsn_keeps hs (fun x1 => fun x2 => fun h3 => Flow.keeps_next (State.setG_keeps h3)))

theorem bitOp2_keeps {z : State} {op : Nat} {s : State} {c : CpId} {dst src : Nat} (hs : Keeps z s) : Flow.Keeps z (bitOp2 op s c dst src) := by
  unfold bitOp2
  exact withBit_keeps hs (fun x1 => fun x2 => fun h3 => Flow.keeps_ite (putBit_keeps h3) (withBit_keeps h3 (fun x4 => fun x5 => fun h6
      => putBit_keeps h6)))

theorem bitX2_keeps {z : State} {op : Nat} {imm : BitVec 32} {s : State} {c : CpId} (hs : Keeps z s) : Flow.Keeps z (bitX2 op imm s c) := by
  unfold bitX2
  exact bitOp2_keeps hs

theorem execBandx_keeps {z : State} {c : CpId} {d a : Reg} {sub : BitVec 4} {imm : BitVec 32} {s : State} (hs : Keeps z s) : Out.Keeps z
    (execBandx c d a sub imm s) := by
  unfold execBandx
  exact Out.keeps_next (State.runInsn_keeps hs (fun x1 => fun x2 => fun h3 => bitX2_keeps h3))

theorem execBbcx_keeps {z : State} {c : CpId} {d a : Reg} {sub : BitVec 4} {imm : BitVec 32} {s : State} (hs : Keeps z s) : Out.Keeps z
    (execBbcx c d a sub imm s) := by
  unfold execBbcx
  exact Out.keeps_next (State.runInsn_keeps hs (fun x1 => fun x2 => fun h3 => branchX_keeps h3))

theorem execLdw_keeps {z : State} {c : CpId} {d k : Reg} {off : BitVec 12} {s : State} (hs : Keeps z s) : Out.Keeps z (execLdw c d k off s) := by
  unfold execLdw
  exact Out.keeps_next (loadG_keeps hs)

theorem execCfree_keeps {z : State} {c : CpId} {d a b : Reg} {s : State} (hs : Keeps z s) : Out.Keeps z (execCfree c d a b s) := by
  unfold execCfree
  exact Out.keeps_next (State.runInsn_keeps hs (fun x1 => fun x2 => fun h3 => doCfree_keeps h3))

theorem execBr_keeps {z : State} {c : CpId} {disp : BitVec 20} {s : State} (hs : Keeps z s) : Out.Keeps z (execBr c disp s) := by
  unfold execBr
  exact Out.keeps_next (State.runInsn_keeps hs (fun x1 => fun x2 => fun h3 => goto_keeps h3))

theorem execShiShl_keeps {z : State} {c : CpId} {d : Reg} {hi : BitVec 6} {mid : BitVec 2} {amt : BitVec 6} {s : State}
    (hs : Keeps z s) : Out.Keeps z (execShiShl c d hi mid amt s) := by
  unfold execShiShl
  exact Out.keeps_next (State.runInsn_keeps hs (fun x1 => fun x2 => fun h3 => aluTo_keeps h3))

theorem State.timerHit_keeps {z s : State} {c : CpId} {n : Fin 4} (hs : Keeps z s) : Keeps z (State.timerHit s c n) := by
  unfold State.timerHit
  extract_lets +onlyGivenNames x1
  have h2 : Keeps z x1 := State.modCp_keeps hs
  clear_value x1
  exact State.fire_keeps (State.irq_keeps h2)

theorem execMvfg_keeps {z : State} {c : CpId} {d s0 : Reg} {s : State} (hs : Keeps z s) : Out.Keeps z (execMvfg c d s0 s) := by
  unfold execMvfg
  exact Out.keeps_next (State.runInsn_keeps hs (fun x1 => fun x2 => fun h3 => Flow.keeps_next (State.setG_keeps h3)))

theorem execLoop_keeps {z : State} {c : CpId} {a : Reg} {len : BitVec 16} {s : State} (hs : Keeps z s) : Out.Keeps z (execLoop c a len s) := by
  unfold execLoop
  refine Out.keeps_next (State.runInsn_keeps hs (fun x1 => fun x2 => fun h3 => ?_))
  extract_lets +onlyGivenNames x4 x5 x6 x7
  have h8 : Keeps z x7 := State.modA_keeps h3
  clear_value x4 x5 x6 x7
  exact Flow.keeps_ite (goto_keeps h8) (Flow.keeps_next h8)

theorem execAnd_keeps {z : State} {c : CpId} {d s0 : Reg} {s : State} (hs : Keeps z s) : Out.Keeps z (execAnd c d s0 s) := by
  unfold execAnd
  exact Out.keeps_next (State.runInsn_keeps hs (fun x1 => fun x2 => fun h3 => aluTo_keeps h3))

theorem execKmask_keeps {z : State} {c : CpId} {d a b : Reg} {s : State} (hs : Keeps z s) : Out.Keeps z (execKmask c d a b s) := by
  unfold execKmask
  exact Out.keeps_next (State.runInsn_keeps hs (fun x1 => fun x2 => fun h3 => unlessSealed_keeps h3 (fun x4 => Flow.keeps_next (State.setK_keeps
      h3))))

theorem execBbcxD_keeps {z : State} {c : CpId} {d a : Reg} {sub : BitVec 4} {imm : BitVec 32} {s : State} (hs : Keeps z s) : Out.Keeps z
    (execBbcxD c d a sub imm s) := by
  unfold execBbcxD
  exact Out.keeps_next (State.runInsn_keeps hs (fun x1 => fun x2 => fun h3 => branchX_keeps h3))

theorem execClz_keeps {z : State} {c : CpId} {r : Reg} {s : State} (hs : Keeps z s) : Out.Keeps z (execClz c r s) := by
  unfold execClz
  exact Out.keeps_next (State.runInsn_keeps hs (fun x1 => fun x2 => fun h3 => aluTo_keeps h3))

theorem State.holdCp_keeps {z s : State} {c0 : CpId} (hs : Keeps z s) : Keeps z (State.holdCp s c0) := by
  unfold State.holdCp
  extract_lets +onlyGivenNames x1
  clear_value x1
  exact State.holdSync_keeps (State.modCp_keeps hs)

theorem execCall_keeps {z : State} {c : CpId} {disp : BitVec 20} {s : State} (hs : Keeps z s) : Out.Keeps z (execCall c disp s) := by
  unfold execCall
  exact Out.keeps_next (State.runInsn_keeps hs (fun x1 => fun x2 => fun h3 => goto_keeps (State.link_keeps h3)))

theorem State.storeMasked_keeps {z s : State} {c : CpId} {a : Nat} {sp : List (Nat × Nat)} {bs : List Byte} {mask : Word}
    (hs : Keeps z s) : Keeps z (State.storeMasked s c a sp bs mask) := by
  unfold State.storeMasked
  exact Keeps.ite (State.storeSpans_keeps hs) (Keeps.foldl (fun x1 => fun x2 => fun h3 => State.storeSpans_keeps h3) hs)

theorem execShl3_keeps {z : State} {c : CpId} {d a0 b0 : Reg} {fn : BitVec 8} {s : State} (hs : Keeps z s) : Out.Keeps z
    (execShl3 c d a0 b0 fn s) := by
  unfold execShl3
  exact Out.keeps_next (State.runInsn_keeps hs (fun x1 => fun x2 => fun h3 => aluTo_keeps h3))

theorem State.wdgWarn_keeps {z s : State} {c : CpId} (hs : Keeps z s) : Keeps z (State.wdgWarn s c) := by
  unfold State.wdgWarn
  exact State.fire_keeps (State.irq_keeps (State.modWdg_keeps hs))

theorem execCallD_keeps {z : State} {c : CpId} {disp : BitVec 20} {s : State} (hs : Keeps z s) : Out.Keeps z (execCallD c disp s) := by
  unfold execCallD
  exact Out.keeps_next (State.runInsn_keeps hs (fun x1 => fun x2 => fun h3 => Flow.keeps_delayed (State.link_keeps h3)))

theorem execClrbx_keeps {z : State} {c : CpId} {d a : Reg} {sub : BitVec 4} {imm : BitVec 32} {s : State} (hs : Keeps z s) : Out.Keeps z
    (execClrbx c d a sub imm s) := by
  unfold execClrbx
  exact Out.keeps_next (State.runInsn_keeps hs (fun x1 => fun x2 => fun h3 => bitX_keeps h3))

theorem execWdgCtlWrite_keeps {z : State} {c : CpId} {v : BitVec 3} {s : State} (hs : Keeps z s) : Out.Keeps z (execWdgCtlWrite c v s) := by
  unfold execWdgCtlWrite
  exact Out.keeps_next (State.wdgCtl_keeps hs)

theorem execMov_keeps {z : State} {c : CpId} {d s0 : Reg} {s : State} (hs : Keeps z s) : Out.Keeps z (execMov c d s0 s) := by
  unfold execMov
  exact Out.keeps_next (State.runInsn_keeps hs (fun x1 => fun x2 => fun h3 => Flow.keeps_next (State.setG_keeps h3)))

theorem execAdd_keeps {z : State} {c : CpId} {d s0 : Reg} {s : State} (hs : Keeps z s) : Out.Keeps z (execAdd c d s0 s) := by
  unfold execAdd
  exact Out.keeps_next (State.runInsn_keeps hs (fun x1 => fun x2 => fun h3 => aluTo_keeps h3))

theorem execSub_keeps {z : State} {c : CpId} {d s0 : Reg} {s : State} (hs : Keeps z s) : Out.Keeps z (execSub c d s0 s) := by
  unfold execSub
  exact Out.keeps_next (State.runInsn_keeps hs (fun x1 => fun x2 => fun h3 => aluTo_keeps h3))

theorem execOr_keeps {z : State} {c : CpId} {d s0 : Reg} {s : State} (hs : Keeps z s) : Out.Keeps z (execOr c d s0 s) := by
  unfold execOr
  exact Out.keeps_next (State.runInsn_keeps hs (fun x1 => fun x2 => fun h3 => aluTo_keeps h3))

theorem execXor_keeps {z : State} {c : CpId} {d s0 : Reg} {s : State} (hs : Keeps z s) : Out.Keeps z (execXor c d s0 s) := by
  unfold execXor
  exact Out.keeps_next (State.runInsn_keeps hs (fun x1 => fun x2 => fun h3 => aluTo_keeps h3))

theorem execAdc_keeps {z : State} {c : CpId} {d s0 : Reg} {s : State} (hs : Keeps z s) : Out.Keeps z (execAdc c d s0 s) := by
  unfold execAdc
  exact Out.keeps_next (State.runInsn_keeps hs (fun x1 => fun x2 => fun h3 => aluTo_keeps h3))

theorem aluFlags_keeps {z s : State} {c : CpId} {f : CpArch → Word × CpArch} (hs : Keeps z s) : Flow.Keeps z (aluFlags s c f) := by
  unfold aluFlags
  exact Flow.keeps_next (State.modA_keeps hs)

theorem execCmp_keeps {z : State} {c : CpId} {d s0 : Reg} {s : State} (hs : Keeps z s) : Out.Keeps z (execCmp c d s0 s) := by
  unfold execCmp
  exact Out.keeps_next (State.runInsn_keeps hs (fun x1 => fun x2 => fun h3 => aluFlags_keeps h3))

theorem execShl_keeps {z : State} {c : CpId} {d s0 : Reg} {s : State} (hs : Keeps z s) : Out.Keeps z (execShl c d s0 s) := by
  unfold execShl
  exact Out.keeps_next (State.runInsn_keeps hs (fun x1 => fun x2 => fun h3 => aluTo_keeps h3))

theorem execShr_keeps {z : State} {c : CpId} {d s0 : Reg} {s : State} (hs : Keeps z s) : Out.Keeps z (execShr c d s0 s) := by
  unfold execShr
  exact Out.keeps_next (State.runInsn_keeps hs (fun x1 => fun x2 => fun h3 => aluTo_keeps h3))

theorem execSar_keeps {z : State} {c : CpId} {d s0 : Reg} {s : State} (hs : Keeps z s) : Out.Keeps z (execSar c d s0 s) := by
  unfold execSar
  exact Out.keeps_next (State.runInsn_keeps hs (fun x1 => fun x2 => fun h3 => aluTo_keeps h3))

theorem execMvgf_keeps {z : State} {c : CpId} {d s0 : Reg} {s : State} (hs : Keeps z s) : Out.Keeps z (execMvgf c d s0 s) := by
  unfold execMvgf
  exact Out.keeps_next (State.runInsn_keeps hs (fun x1 => fun x2 => fun h3 => Flow.keeps_next (State.setF_keeps h3)))

theorem execNot_keeps {z : State} {c : CpId} {r : Reg} {s : State} (hs : Keeps z s) : Out.Keeps z (execNot c r s) := by
  unfold execNot
  exact Out.keeps_next (State.runInsn_keeps hs (fun x1 => fun x2 => fun h3 => aluTo_keeps h3))

theorem execNeg_keeps {z : State} {c : CpId} {r : Reg} {s : State} (hs : Keeps z s) : Out.Keeps z (execNeg c r s) := by
  unfold execNeg
  exact Out.keeps_next (State.runInsn_keeps hs (fun x1 => fun x2 => fun h3 => aluTo_keeps h3))

theorem execDadj_keeps {z : State} {c : CpId} {r : Reg} {s : State} (hs : Keeps z s) : Out.Keeps z (execDadj c r s) := by
  unfold execDadj
  exact Out.keeps_next (State.runInsn_keeps hs (fun x1 => fun x2 => fun h3 => aluTo_keeps h3))

theorem execSextb_keeps {z : State} {c : CpId} {r : Reg} {s : State} (hs : Keeps z s) : Out.Keeps z (execSextb c r s) := by
  unfold execSextb
  exact Out.keeps_next (State.runInsn_keeps hs (fun x1 => fun x2 => fun h3 => aluTo_keeps h3))

theorem execZexth_keeps {z : State} {c : CpId} {r : Reg} {s : State} (hs : Keeps z s) : Out.Keeps z (execZexth c r s) := by
  unfold execZexth
  exact Out.keeps_next (State.runInsn_keeps hs (fun x1 => fun x2 => fun h3 => aluTo_keeps h3))

theorem execBswap_keeps {z : State} {c : CpId} {r : Reg} {s : State} (hs : Keeps z s) : Out.Keeps z (execBswap c r s) := by
  unfold execBswap
  exact Out.keeps_next (State.runInsn_keeps hs (fun x1 => fun x2 => fun h3 => aluTo_keeps h3))

theorem execNop_keeps {z : State} {c : CpId} {s : State} (hs : Keeps z s) : Out.Keeps z (execNop c s) := by
  unfold execNop
  exact Out.keeps_next (State.runInsn_keeps hs (fun x1 => fun x2 => fun h3 => Flow.keeps_next h3))

theorem execSyncc_keeps {z : State} {c : CpId} {s : State} (hs : Keeps z s) : Out.Keeps z (execSyncc c s) := by
  unfold execSyncc
  refine Out.keeps_next (State.runInsn_keeps hs (fun x1 => fun x2 => fun h3 => ?_))
  extract_lets +onlyGivenNames x4
  have h5 : Keeps z x4 := State.modCp_keeps h3
  clear_value x4
  exact Flow.keeps_next (Keeps.ite (State.irq_keeps h5) h5)

theorem doVsync_keeps {z s : State} {c : CpId} (hs : Keeps z s) : Flow.Keeps z (doVsync s c) := by
  unfold doVsync
  extract_lets +onlyGivenNames x1
  have h2 : Keeps z x1 := State.modVq_keeps hs
  clear_value x1
  exact Flow.keeps_ite (Flow.keeps_done (State.deliverVector_keeps h2)) (Flow.keeps_ite (Flow.keeps_stall h2) (Flow.keeps_next (State.modCp_keeps
      h2)))

theorem execVsync_keeps {z : State} {c : CpId} {s : State} (hs : Keeps z s) : Out.Keeps z (execVsync c s) := by
  unfold execVsync
  exact Out.keeps_next (State.runInsn_keeps hs (fun x1 => fun x2 => fun h3 => doVsync_keeps h3))

theorem execVsyncComplete_keeps {z : State} {c0 : CpId} {s : State} (hs : Keeps z s) : Out.Keeps z (execVsyncComplete c0 s) := by
  unfold execVsyncComplete
  extract_lets +onlyGivenNames x1
  clear_value x1
  split
  · extract_lets +onlyGivenNames x2
    have h3 : Keeps z x2 := State.modCp_keeps hs
    clear_value x2
    exact Out.keeps_next (State.finish_keeps h3 (doVsync_keeps h3))
  · exact Out.keeps_next hs

theorem execChkpt_keeps {z : State} {c : CpId} {s : State} (hs : Keeps z s) : Out.Keeps z (execChkpt c s) := by
  unfold execChkpt
  exact Out.keeps_next (State.runInsn_keeps hs (fun x1 => fun x2 => fun h3 => nextSaved_keeps h3))

theorem execWait_keeps {z : State} {c : CpId} {s : State} (hs : Keeps z s) : Out.Keeps z (execWait c s) := by
  unfold execWait
  refine Out.keeps_next (State.runInsn_keeps hs (fun x1 => fun x2 => fun h3 => ?_))
  extract_lets +onlyGivenNames x4
  have h5 : Keeps z x4 := State.retire_keeps h3
  clear_value x4
  exact Flow.keeps_ite (Flow.keeps_done h5) (Flow.keeps_done (State.modCp_keeps h5))

theorem execWaitEnd_keeps {z : State} {c0 : CpId} {s : State} (hs : Keeps z s) : Out.Keeps z (execWaitEnd c0 s) := by
  unfold execWaitEnd
  extract_lets +onlyGivenNames x1
  clear_value x1
  refine Out.keeps_ite ?_ (Out.keeps_next hs)
  extract_lets +onlyGivenNames x2
  have h3 : Keeps z x2 := State.modCp_keeps hs
  clear_value x2
  split
  · exact Out.keeps_next (State.boundary_keeps (State.accept_keeps h3))
  · exact Out.keeps_next h3

theorem execLockWindowTimeout_keeps {z : State} {c0 : CpId} {s : State} (hs : Keeps z s) : Out.Keeps z (execLockWindowTimeout c0 s) := by
  unfold execLockWindowTimeout
  extract_lets +onlyGivenNames x1
  clear_value x1
  exact Out.keeps_next (State.boundary_keeps (State.modCp_keeps hs))

theorem execSetb_keeps {z : State} {c : CpId} {bit : BitVec 10} {s : State} (hs : Keeps z s) : Out.Keeps z (execSetb c bit s) := by
  unfold execSetb
  exact Out.keeps_next (State.runInsn_keeps hs (fun x1 => fun x2 => fun h3 => bitOp_keeps h3))

theorem execClrb_keeps {z : State} {c : CpId} {bit : BitVec 10} {s : State} (hs : Keeps z s) : Out.Keeps z (execClrb c bit s) := by
  unfold execClrb
  exact Out.keeps_next (State.runInsn_keeps hs (fun x1 => fun x2 => fun h3 => bitOp_keeps h3))

theorem execTglb_keeps {z : State} {c : CpId} {bit : BitVec 10} {s : State} (hs : Keeps z s) : Out.Keeps z (execTglb c bit s) := by
  unfold execTglb
  exact Out.keeps_next (State.runInsn_keeps hs (fun x1 => fun x2 => fun h3 => bitOp_keeps h3))

theorem execTstb_keeps {z : State} {c : CpId} {bit : BitVec 10} {s : State} (hs : Keeps z s) : Out.Keeps z (execTstb c bit s) := by
  unfold execTstb
  exact Out.keeps_next (State.runInsn_keeps hs (fun x1 => fun x2 => fun h3 => bitOp_keeps h3))

theorem execAdd3_keeps {z : State} {c : CpId} {d a0 b0 : Reg} {fn : BitVec 8} {s : State} (hs : Keeps z s) : Out.Keeps z
    (execAdd3 c d a0 b0 fn s) := by
  unfold execAdd3
  exact Out.keeps_next (State.runInsn_keeps hs (fun x1 => fun x2 => fun h3 => aluTo_keeps h3))

theorem execAnd3_keeps {z : State} {c : CpId} {d a0 b0 : Reg} {fn : BitVec 8} {s : State} (hs : Keeps z s) : Out.Keeps z
    (execAnd3 c d a0 b0 fn s) := by
  unfold execAnd3
  exact Out.keeps_next (State.runInsn_keeps hs (fun x1 => fun x2 => fun h3 => aluTo_keeps h3))

theorem execOr3_keeps {z : State} {c : CpId} {d a0 b0 : Reg} {fn : BitVec 8} {s : State} (hs : Keeps z s) : Out.Keeps z (execOr3 c d a0 b0 fn s) := by
  unfold execOr3
  exact Out.keeps_next (State.runInsn_keeps hs (fun x1 => fun x2 => fun h3 => aluTo_keeps h3))

theorem execXor3_keeps {z : State} {c : CpId} {d a0 b0 : Reg} {fn : BitVec 8} {s : State} (hs : Keeps z s) : Out.Keeps z
    (execXor3 c d a0 b0 fn s) := by
  unfold execXor3
  exact Out.keeps_next (State.runInsn_keeps hs (fun x1 => fun x2 => fun h3 => aluTo_keeps h3))

theorem execShr3_keeps {z : State} {c : CpId} {d a0 b0 : Reg} {fn : BitVec 8} {s : State} (hs : Keeps z s) : Out.Keeps z
    (execShr3 c d a0 b0 fn s) := by
  unfold execShr3
  exact Out.keeps_next (State.runInsn_keeps hs (fun x1 => fun x2 => fun h3 => aluTo_keeps h3))

theorem execSar3_keeps {z : State} {c : CpId} {d a0 b0 : Reg} {fn : BitVec 8} {s : State} (hs : Keeps z s) : Out.Keeps z
    (execSar3 c d a0 b0 fn s) := by
  unfold execSar3
  exact Out.keeps_next (State.runInsn_keeps hs (fun x1 => fun x2 => fun h3 => aluTo_keeps h3))

theorem execMul_keeps {z : State} {c : CpId} {d a0 b0 : Reg} {fn : BitVec 8} {s : State} (hs : Keeps z s) : Out.Keeps z (execMul c d a0 b0 fn s) := by
  unfold execMul
  exact Out.keeps_next (State.runInsn_keeps hs (fun x1 => fun x2 => fun h3 => aluTo_keeps h3))

theorem execMulhu_keeps {z : State} {c : CpId} {d a0 b0 : Reg} {fn : BitVec 8} {s : State} (hs : Keeps z s) : Out.Keeps z
    (execMulhu c d a0 b0 fn s) := by
  unfold execMulhu
  exact Out.keeps_next (State.runInsn_keeps hs (fun x1 => fun x2 => fun h3 => aluTo_keeps h3))

theorem execMulhs_keeps {z : State} {c : CpId} {d a0 b0 : Reg} {fn : BitVec 8} {s : State} (hs : Keeps z s) : Out.Keeps z
    (execMulhs c d a0 b0 fn s) := by
  unfold execMulhs
  exact Out.keeps_next (State.runInsn_keeps hs (fun x1 => fun x2 => fun h3 => aluTo_keeps h3))

theorem execIdstep_keeps {z : State} {c : CpId} {d a b : Reg} {fn : BitVec 8} {s : State} (hs : Keeps z s) : Out.Keeps z
    (execIdstep c d a b fn s) := by
  unfold execIdstep
  extract_lets +onlyGivenNames x1
  clear_value x1
  refine Out.keeps_next (State.runInsn_keeps hs (fun x2 => fun x3 => fun h4 => ?_))
  extract_lets +onlyGivenNames x5
  clear_value x5
  exact Flow.keeps_next (State.modA_keeps h4)

theorem execDadd_keeps {z : State} {c : CpId} {d a b : Reg} {fn : BitVec 8} {s : State} (hs : Keeps z s) : Out.Keeps z (execDadd c d a b fn s) := by
  unfold execDadd
  exact Out.keeps_next (decScalar_keeps hs)

theorem execDsub_keeps {z : State} {c : CpId} {d a b : Reg} {fn : BitVec 8} {s : State} (hs : Keeps z s) : Out.Keeps z (execDsub c d a b fn s) := by
  unfold execDsub
  exact Out.keeps_next (decScalar_keeps hs)

theorem execPack_keeps {z : State} {c : CpId} {d a0 b0 : Reg} {fn : BitVec 8} {s : State} (hs : Keeps z s) : Out.Keeps z
    (execPack c d a0 b0 fn s) := by
  unfold execPack
  exact Out.keeps_next (State.runInsn_keeps hs (fun x1 => fun x2 => fun h3 => aluTo_keeps h3))

theorem execUnpk_keeps {z : State} {c : CpId} {d a0 b0 : Reg} {fn : BitVec 8} {s : State} (hs : Keeps z s) : Out.Keeps z
    (execUnpk c d a0 b0 fn s) := by
  unfold execUnpk
  exact Out.keeps_next (State.runInsn_keeps hs (fun x1 => fun x2 => fun h3 => Flow.keeps_next (State.setG_keeps h3)))

theorem execAddi_keeps {z : State} {c : CpId} {d : Reg} {imm : BitVec 16} {s : State} (hs : Keeps z s) : Out.Keeps z (execAddi c d imm s) := by
  unfold execAddi
  exact Out.keeps_next (State.runInsn_keeps hs (fun x1 => fun x2 => fun h3 => aluTo_keeps h3))

theorem execAndi_keeps {z : State} {c : CpId} {d : Reg} {imm : BitVec 16} {s : State} (hs : Keeps z s) : Out.Keeps z (execAndi c d imm s) := by
  unfold execAndi
  exact Out.keeps_next (State.runInsn_keeps hs (fun x1 => fun x2 => fun h3 => aluTo_keeps h3))

theorem execOri_keeps {z : State} {c : CpId} {d : Reg} {imm : BitVec 16} {s : State} (hs : Keeps z s) : Out.Keeps z (execOri c d imm s) := by
  unfold execOri
  exact Out.keeps_next (State.runInsn_keeps hs (fun x1 => fun x2 => fun h3 => aluTo_keeps h3))

theorem execXori_keeps {z : State} {c : CpId} {d : Reg} {imm : BitVec 16} {s : State} (hs : Keeps z s) : Out.Keeps z (execXori c d imm s) := by
  unfold execXori
  exact Out.keeps_next (State.runInsn_keeps hs (fun x1 => fun x2 => fun h3 => aluTo_keeps h3))

theorem execMovi_keeps {z : State} {c : CpId} {d : Reg} {imm : BitVec 16} {s : State} (hs : Keeps z s) : Out.Keeps z (execMovi c d imm s) := by
  unfold execMovi
  exact Out.keeps_next (State.runInsn_keeps hs (fun x1 => fun x2 => fun h3 => aluTo_keeps h3))

theorem execCmpi_keeps {z : State} {c : CpId} {d : Reg} {imm : BitVec 16} {s : State} (hs : Keeps z s) : Out.Keeps z (execCmpi c d imm s) := by
  unfold execCmpi
  exact Out.keeps_next (State.runInsn_keeps hs (fun x1 => fun x2 => fun h3 => aluFlags_keeps h3))

theorem execShiShr_keeps {z : State} {c : CpId} {d : Reg} {hi : BitVec 6} {mid : BitVec 2} {amt : BitVec 6} {s : State}
    (hs : Keeps z s) : Out.Keeps z (execShiShr c d hi mid amt s) := by
  unfold execShiShr
  exact Out.keeps_next (State.runInsn_keeps hs (fun x1 => fun x2 => fun h3 => aluTo_keeps h3))

theorem execShiSar_keeps {z : State} {c : CpId} {d : Reg} {hi : BitVec 6} {mid : BitVec 2} {amt : BitVec 6} {s : State}
    (hs : Keeps z s) : Out.Keeps z (execShiSar c d hi mid amt s) := by
  unfold execShiSar
  exact Out.keeps_next (State.runInsn_keeps hs (fun x1 => fun x2 => fun h3 => aluTo_keeps h3))

theorem execShiRor_keeps {z : State} {c : CpId} {d : Reg} {hi : BitVec 6} {mid : BitVec 2} {amt : BitVec 6} {s : State}
    (hs : Keeps z s) : Out.Keeps z (execShiRor c d hi mid amt s) := by
  unfold execShiRor
  exact Out.keeps_next (State.runInsn_keeps hs (fun x1 => fun x2 => fun h3 => aluTo_keeps h3))

theorem execLdb_keeps {z : State} {c : CpId} {d k : Reg} {off : BitVec 12} {s : State} (hs : Keeps z s) : Out.Keeps z (execLdb c d k off s) := by
  unfold execLdb
  exact Out.keeps_next (loadG_keeps hs)

theorem execLdhs_keeps {z : State} {c : CpId} {d k : Reg} {off : BitVec 12} {s : State} (hs : Keeps z s) : Out.Keeps z (execLdhs c d k off s) := by
  unfold execLdhs
  exact Out.keeps_next (loadG_keeps hs)

theorem State.storeData_keeps {z s : State} {c : CpId} {kind : StoreKind} {r : Reg} (hs : Keeps z s) : Keeps z (State.storeData s c kind r).2 := by
  unfold State.storeData
  split
  · exact hs
  · exact hs
  · exact hs
  · exact hs
  · exact hs
  · exact hs
  · exact hs
  · split
    · exact Keeps.mk2 (Keeps.eq2 (by assumption) (State.readD_keeps hs))
    · exact Keeps.mk2 (Keeps.eq2 (by assumption) (State.readD_keeps hs))

theorem poisonD_keeps {z s : State} {r : Reg} (hs : Keeps z s) : Flow.Keeps z (poisonD s r) := by
  unfold poisonD
  exact Flow.keeps_trap hs

theorem doStore_keeps {z : State} {kind : StoreKind} {r kr : Reg} {off : BitVec 12} {mask : Word} {s : State} {c : CpId}
    (hs : Keeps z s) : Flow.Keeps z (doStore kind r kr off mask s c) := by
  unfold doStore
  split
  · exact poisonD_keeps (Keeps.eq2 (by assumption) (State.storeData_keeps hs))
  · extract_lets +onlyGivenNames x1 x2 x3 x4
    clear_value x1 x2 x3 x4
    split
    · exact capTrap_keeps (Keeps.eq2 (by assumption) (State.storeData_keeps hs))
    · extract_lets +onlyGivenNames x5
      clear_value x5
      refine Flow.keeps_ite (Flow.keeps_trap (Keeps.eq2 (by assumption) (State.storeData_keeps hs))) ?_
      extract_lets +onlyGivenNames x6
      have h7 : Keeps z x6 := State.modVq_keeps (Keeps.eq2 (by assumption) (State.storeData_keeps hs))
      clear_value x6
      refine Flow.keeps_ite (Flow.keeps_stall h7) ?_
      extract_lets +onlyGivenNames x8
      have h9 : Keeps z x8.2 := State.spans_keeps h7
      clear_value x8
      split
      · exact Flow.keeps_trap h9
      · exact Flow.keeps_stall h9
      · extract_lets +onlyGivenNames x10 x12 x13
        have h11 : Keeps z x10 := h9
        clear_value x10 x12 x13
        refine Flow.keeps_ite (Flow.keeps_next (State.watchAccess_keeps (State.modCp_keeps h11))) ?_
        extract_lets +onlyGivenNames x14
        have h15 : Keeps z x14.2 := State.compareWith_keeps (fun x16 => fun x17 => fun x18 => fun h19 => State.bucket_keeps h19) h11
        clear_value x14
        refine Flow.keeps_ite (Flow.keeps_done h15) ?_
        extract_lets +onlyGivenNames x20 x22 x24
        have h21 : Keeps z x20 := State.storeMasked_keeps h15
        have h23 : Keeps z x22 := by
          unfold x22
          split
          · exact State.writeTag_keeps h21
          · exact h21
        have h25 : Keeps z x24 := Keeps.ite (State.modCp_keeps h23) h23
        clear_value x20 x22 x24
        exact Flow.keeps_next (State.watchAccess_keeps h25)

theorem execStb_keeps {z : State} {c : CpId} {d k : Reg} {off : BitVec 12} {s : State} (hs : Keeps z s) : Out.Keeps z (execStb c d k off s) := by
  unfold execStb
  exact Out.keeps_next (State.runInsn_keeps hs (fun x1 => fun x2 => fun h3 => doStore_keeps h3))

theorem execSth_keeps {z : State} {c : CpId} {d k : Reg} {off : BitVec 12} {s : State} (hs : Keeps z s) : Out.Keeps z (execSth c d k off s) := by
  unfold execSth
  exact Out.keeps_next (State.runInsn_keeps hs (fun x1 => fun x2 => fun h3 => doStore_keeps h3))

theorem execStw_keeps {z : State} {c : CpId} {d k : Reg} {off : BitVec 12} {s : State} (hs : Keeps z s) : Out.Keeps z (execStw c d k off s) := by
  unfold execStw
  exact Out.keeps_next (State.runInsn_keeps hs (fun x1 => fun x2 => fun h3 => doStore_keeps h3))

theorem execStoreRelease_keeps {z : State} {c0 : CpId} {s : State} (hs : Keeps z s) : Out.Keeps z (execStoreRelease c0 s) := by
  unfold execStoreRelease
  extract_lets +onlyGivenNames x1
  clear_value x1
  split
  · extract_lets +onlyGivenNames x2
    clear_value x2
    exact Out.keeps_next (State.finish_keeps (State.modCp_keeps hs) (doStore_keeps (State.modCp_keeps hs)))
  · exact Out.keeps_next hs

theorem execLdf_keeps {z : State} {c : CpId} {d k : Reg} {off : BitVec 12} {s : State} (hs : Keeps z s) : Out.Keeps z (execLdf c d k off s) := by
  unfold execLdf
  exact Out.keeps_next (State.runInsn_keeps hs (fun x1 => fun x2 => fun h3 => loadBytes_keeps h3 (fun x4 => fun x5 => fun x6 => fun h7
      => Flow.keeps_next (State.setF_keeps h7))))

theorem execStf_keeps {z : State} {c : CpId} {d k : Reg} {off : BitVec 12} {s : State} (hs : Keeps z s) : Out.Keeps z (execStf c d k off s) := by
  unfold execStf
  exact Out.keeps_next (State.runInsn_keeps hs (fun x1 => fun x2 => fun h3 => doStore_keeps h3))

theorem execLdk_keeps {z : State} {c : CpId} {d k : Reg} {off : BitVec 12} {s : State} (hs : Keeps z s) : Out.Keeps z (execLdk c d k off s) := by
  unfold execLdk
  refine Out.keeps_next (State.runInsn_keeps hs (fun x1 => fun x2 => fun h3 => ?_))
  extract_lets +onlyGivenNames x4
  clear_value x4
  refine loadBytes_keeps h3 (fun x5 => fun x6 => fun x7 => fun h8 => ?_)
  extract_lets +onlyGivenNames x9
  have h10 : Keeps z x9.2 := State.readTag_keeps h8
  clear_value x9
  exact Flow.keeps_ite (capTrap_keeps h10) (Flow.keeps_next (State.setK_keeps h10))

theorem execStk_keeps {z : State} {c : CpId} {d k : Reg} {off : BitVec 12} {s : State} (hs : Keeps z s) : Out.Keeps z (execStk c d k off s) := by
  unfold execStk
  exact Out.keeps_next (State.runInsn_keeps hs (fun x1 => fun x2 => fun h3 => doStore_keeps h3))

theorem execLdl_keeps {z : State} {c : CpId} {d k : Reg} {off : BitVec 12} {s : State} (hs : Keeps z s) : Out.Keeps z (execLdl c d k off s) := by
  unfold execLdl
  exact Out.keeps_next (State.runInsn_keeps hs (fun x1 => fun x2 => fun h3 => loadBytes_keeps h3 (fun x4 => fun x5 => fun x6 => fun h7
      => Flow.keeps_next (State.modCp_keeps (State.setG_keeps h7)))))

theorem execStc_keeps {z : State} {c : CpId} {d k : Reg} {off : BitVec 12} {s : State} (hs : Keeps z s) : Out.Keeps z (execStc c d k off s) := by
  unfold execStc
  exact Out.keeps_next (State.runInsn_keeps hs (fun x1 => fun x2 => fun h3 => doStore_keeps h3))

theorem execLdd_keeps {z : State} {c : CpId} {d k : Reg} {off : BitVec 12} {s : State} (hs : Keeps z s) : Out.Keeps z (execLdd c d k off s) := by
  unfold execLdd
  refine Out.keeps_next (State.runInsn_keeps hs (fun x1 => fun x2 => fun h3 => ?_))
  extract_lets +onlyGivenNames x4
  clear_value x4
  refine loadBytes_keeps h3 (fun x5 => fun x6 => fun x7 => fun h8 => ?_)
  extract_lets +onlyGivenNames x9
  have h10 : Keeps z x9.2 := State.readTag_keeps h8
  clear_value x9
  exact Flow.keeps_ite (capTrap_keeps h10) (Flow.keeps_next (State.setD_keeps h10))

theorem execStd_keeps {z : State} {c : CpId} {d k : Reg} {off : BitVec 12} {s : State} (hs : Keeps z s) : Out.Keeps z (execStd c d k off s) := by
  unfold execStd
  exact Out.keeps_next (State.runInsn_keeps hs (fun x1 => fun x2 => fun h3 => doStore_keeps h3))

theorem crAccess_keeps {z : State} {num : BitVec 8} {s : State} {c : CpId} {f : Flow} (hs : Keeps z s) (hf : Flow.Keeps z f) : Flow.Keeps z
    (crAccess num s c f) := by
  unfold crAccess
  exact Flow.keeps_ite (Flow.keeps_trap hs) hf

theorem execMovc_keeps {z : State} {c : CpId} {g : Reg} {num low : BitVec 8} {s : State} (hs : Keeps z s) : Out.Keeps z (execMovc c g num low s) := by
  unfold execMovc
  exact Out.keeps_next (State.runInsn_keeps hs (fun x1 => fun x2 => fun h3 => crAccess_keeps h3 (Flow.keeps_next (State.crWrite_keeps h3))))

theorem execMovcr_keeps {z : State} {c : CpId} {g : Reg} {num low : BitVec 8} {s : State} (hs : Keeps z s) : Out.Keeps z
    (execMovcr c g num low s) := by
  unfold execMovcr
  refine Out.keeps_next (State.runInsn_keeps hs (fun x1 => fun x2 => fun h3 => crAccess_keeps h3 (Flow.keeps_ite ?_ (Flow.keeps_next
      (State.setG_keeps h3)))))
  extract_lets +onlyGivenNames x4
  have h5 : Keeps z x4 := State.modVq_keeps h3
  clear_value x4
  exact Flow.keeps_ite (Flow.keeps_done (State.deliverVector_keeps h5)) (Flow.keeps_next (State.setG_keeps h5))

theorem execKadd_keeps {z : State} {c : CpId} {d a b : Reg} {s : State} (hs : Keeps z s) : Out.Keeps z (execKadd c d a b s) := by
  unfold execKadd
  exact Out.keeps_next (State.runInsn_keeps hs (fun x1 => fun x2 => fun h3 => unlessSealed_keeps h3 (fun x4 => Flow.keeps_next (State.setK_keeps
      h3))))

theorem execKbnd_keeps {z : State} {c : CpId} {d a b : Reg} {s : State} (hs : Keeps z s) : Out.Keeps z (execKbnd c d a b s) := by
  unfold execKbnd
  refine Out.keeps_next (State.runInsn_keeps hs (fun x1 => fun x2 => fun h3 => unlessSealed_keeps h3 (fun x4 => ?_)))
  split
  · exact Flow.keeps_ite (capOpTrap_keeps h3) (Flow.keeps_next (State.setK_keeps h3))
  · exact Flow.keeps_ite (capOpTrap_keeps h3) (Flow.keeps_next (State.setK_keeps h3))

theorem execKopen_keeps {z : State} {c : CpId} {d a b : Reg} {s : State} (hs : Keeps z s) : Out.Keeps z (execKopen c d a b s) := by
  unfold execKopen
  refine Out.keeps_next (State.runInsn_keeps hs (fun x1 => fun x2 => fun h3 => ?_))
  extract_lets +onlyGivenNames x4 x5
  clear_value x4 x5
  split
  · exact capOpTrap_keeps h3
  · refine Flow.keeps_ite (capOpTrap_keeps h3) ?_
    extract_lets +onlyGivenNames x6
    clear_value x6
    exact Flow.keeps_next (State.setK_keeps h3)

theorem readCap_keeps {z : State} {fn : Nat} {f : Cap → Nat} {c : CpId} {d a b : Reg} {s : State}
    (hs : Keeps z s) : Keeps z (readCap fn f c d a b s) := by
  unfold readCap
  exact State.runInsn_keeps hs (fun x1 => fun x2 => fun h3 => Flow.keeps_next (State.setG_keeps h3))

theorem execKrdc_keeps {z : State} {c : CpId} {d a b : Reg} {s : State} (hs : Keeps z s) : Out.Keeps z (execKrdc c d a b s) := by
  unfold execKrdc
  exact Out.keeps_next (readCap_keeps hs)

theorem execKrdb_keeps {z : State} {c : CpId} {d a b : Reg} {s : State} (hs : Keeps z s) : Out.Keeps z (execKrdb c d a b s) := by
  unfold execKrdb
  exact Out.keeps_next (readCap_keeps hs)

theorem execKrdl_keeps {z : State} {c : CpId} {d a b : Reg} {s : State} (hs : Keeps z s) : Out.Keeps z (execKrdl c d a b s) := by
  unfold execKrdl
  exact Out.keeps_next (readCap_keeps hs)

theorem execKrdp_keeps {z : State} {c : CpId} {d a b : Reg} {s : State} (hs : Keeps z s) : Out.Keeps z (execKrdp c d a b s) := by
  unfold execKrdp
  exact Out.keeps_next (readCap_keeps hs)

theorem execKrdt_keeps {z : State} {c : CpId} {d a b : Reg} {s : State} (hs : Keeps z s) : Out.Keeps z (execKrdt c d a b s) := by
  unfold execKrdt
  exact Out.keeps_next (readCap_keeps hs)

theorem execKrdv_keeps {z : State} {c : CpId} {d a b : Reg} {s : State} (hs : Keeps z s) : Out.Keeps z (execKrdv c d a b s) := by
  unfold execKrdv
  exact Out.keeps_next (readCap_keeps hs)

theorem execCalloc_keeps {z : State} {c : CpId} {d a b : Reg} {s : State} (hs : Keeps z s) : Out.Keeps z (execCalloc c d a b s) := by
  unfold execCalloc
  refine Out.keeps_next (State.runInsn_keeps hs (fun x1 => fun x2 => fun h3 => ?_))
  extract_lets +onlyGivenNames x4 x5 x6 x8
  have h7 : Keeps z x6.2 := State.allocFail_keeps h3
  clear_value x4 x5 x6
  unfold x8
  refine Flow.keeps_ite (capOpTrap_keeps h3) (Flow.keeps_ite (capOpTrap_keeps h3) (Flow.keeps_ite (capOpTrap_keeps h3) ?_))
  extract_lets +onlyGivenNames x9 x10
  clear_value x9 x10
  refine Flow.keeps_ite ?_ ?_
  · split
    · exact Flow.keeps_trap h7
    · exact Flow.keeps_next h7
  · split
    · split
      · exact Flow.keeps_trap h7
      · exact Flow.keeps_next h7
    · refine Flow.keeps_ite (capOpTrap_keeps h3) ?_
      split
      · split
        · exact Flow.keeps_trap h7
        · exact Flow.keeps_next h7
      · exact Flow.keeps_next (State.setK_keeps (State.cnt_keeps (State.modPart_keeps h3)))

theorem execCfreeResume_keeps {z : State} {c0 : CpId} {s : State} (hs : Keeps z s) : Out.Keeps z (execCfreeResume c0 s) := by
  unfold execCfreeResume
  extract_lets +onlyGivenNames x1
  clear_value x1
  split
  · extract_lets +onlyGivenNames x2
    have h3 : Keeps z x2 := State.modCp_keeps hs
    clear_value x2
    exact Out.keeps_next (State.finish_keeps h3 (doCfree_keeps h3))
  · exact Out.keeps_next hs

theorem execKpcc_keeps {z : State} {c : CpId} {d a b : Reg} {s : State} (hs : Keeps z s) : Out.Keeps z (execKpcc c d a b s) := by
  unfold execKpcc
  refine Out.keeps_next (State.runInsn_keeps hs (fun x1 => fun x2 => fun h3 => ?_))
  extract_lets +onlyGivenNames x4
  clear_value x4
  exact Flow.keeps_next (State.setK_keeps h3)

theorem execKdrop_keeps {z : State} {c : CpId} {d a b : Reg} {s : State} (hs : Keeps z s) : Out.Keeps z (execKdrop c d a b s) := by
  unfold execKdrop
  exact Out.keeps_next (State.runInsn_keeps hs (fun x1 => fun x2 => fun h3 => Flow.keeps_next (State.setK_keeps h3)))

theorem execBand_keeps {z : State} {c : CpId} {dst src : BitVec 10} {s : State} (hs : Keeps z s) : Out.Keeps z (execBand c dst src s) := by
  unfold execBand
  exact Out.keeps_next (State.runInsn_keeps hs (fun x1 => fun x2 => fun h3 => bitOp2_keeps h3))

theorem execBor_keeps {z : State} {c : CpId} {dst src : BitVec 10} {s : State} (hs : Keeps z s) : Out.Keeps z (execBor c dst src s) := by
  unfold execBor
  exact Out.keeps_next (State.runInsn_keeps hs (fun x1 => fun x2 => fun h3 => bitOp2_keeps h3))

theorem execBxor_keeps {z : State} {c : CpId} {dst src : BitVec 10} {s : State} (hs : Keeps z s) : Out.Keeps z (execBxor c dst src s) := by
  unfold execBxor
  exact Out.keeps_next (State.runInsn_keeps hs (fun x1 => fun x2 => fun h3 => bitOp2_keeps h3))

theorem execBmov_keeps {z : State} {c : CpId} {dst src : BitVec 10} {s : State} (hs : Keeps z s) : Out.Keeps z (execBmov c dst src s) := by
  unfold execBmov
  exact Out.keeps_next (State.runInsn_keeps hs (fun x1 => fun x2 => fun h3 => bitOp2_keeps h3))

theorem execBrD_keeps {z : State} {c : CpId} {disp : BitVec 20} {s : State} (hs : Keeps z s) : Out.Keeps z (execBrD c disp s) := by
  unfold execBrD
  exact Out.keeps_next (State.runInsn_keeps hs (fun x1 => fun x2 => fun h3 => Flow.keeps_delayed h3))

theorem execJr_keeps {z : State} {c : CpId} {d a b : Reg} {s : State} (hs : Keeps z s) : Out.Keeps z (execJr c d a b s) := by
  unfold execJr
  exact Out.keeps_next (State.runInsn_keeps hs (fun x1 => fun x2 => fun h3 => goto_keeps h3))

theorem execJrD_keeps {z : State} {c : CpId} {d a b : Reg} {s : State} (hs : Keeps z s) : Out.Keeps z (execJrD c d a b s) := by
  unfold execJrD
  exact Out.keeps_next (State.runInsn_keeps hs (fun x1 => fun x2 => fun h3 => Flow.keeps_delayed h3))

theorem execCallr_keeps {z : State} {c : CpId} {d a b : Reg} {s : State} (hs : Keeps z s) : Out.Keeps z (execCallr c d a b s) := by
  unfold execCallr
  exact Out.keeps_next (State.runInsn_keeps hs (fun x1 => fun x2 => fun h3 => goto_keeps (State.link_keeps h3)))

theorem execTrap_keeps {z : State} {c : CpId} {d a b : Reg} {fn : BitVec 8} {s : State} (hs : Keeps z s) : Out.Keeps z (execTrap c d a b fn s) := by
  unfold execTrap
  exact Out.keeps_next (State.runInsn_keeps hs (fun x1 => fun x2 => fun h3 => Flow.keeps_trap h3))

theorem execBbc_keeps {z : State} {c : CpId} {bit disp : BitVec 10} {s : State} (hs : Keeps z s) : Out.Keeps z (execBbc c bit disp s) := by
  unfold execBbc
  exact Out.keeps_next (State.runInsn_keeps hs (fun x1 => fun x2 => fun h3 => branchBit_keeps h3))

theorem execBbcD_keeps {z : State} {c : CpId} {bit disp : BitVec 10} {s : State} (hs : Keeps z s) : Out.Keeps z (execBbcD c bit disp s) := by
  unfold execBbcD
  exact Out.keeps_next (State.runInsn_keeps hs (fun x1 => fun x2 => fun h3 => branchBit_keeps h3))

theorem execBbs_keeps {z : State} {c : CpId} {bit disp : BitVec 10} {s : State} (hs : Keeps z s) : Out.Keeps z (execBbs c bit disp s) := by
  unfold execBbs
  exact Out.keeps_next (State.runInsn_keeps hs (fun x1 => fun x2 => fun h3 => branchBit_keeps h3))

theorem execBbsD_keeps {z : State} {c : CpId} {bit disp : BitVec 10} {s : State} (hs : Keeps z s) : Out.Keeps z (execBbsD c bit disp s) := by
  unfold execBbsD
  exact Out.keeps_next (State.runInsn_keeps hs (fun x1 => fun x2 => fun h3 => branchBit_keeps h3))

theorem execMovhi32_keeps {z : State} {c : CpId} {d a0 : Reg} {sub : BitVec 4} {imm : BitVec 32} {s : State} (hs : Keeps z s) : Out.Keeps z
    (execMovhi32 c d a0 sub imm s) := by
  unfold execMovhi32
  exact Out.keeps_next (State.runInsn_keeps hs (fun x1 => fun x2 => fun h3 => aluTo_keeps h3))

theorem execAddi32_keeps {z : State} {c : CpId} {d a0 : Reg} {sub : BitVec 4} {imm : BitVec 32} {s : State} (hs : Keeps z s) : Out.Keeps z
    (execAddi32 c d a0 sub imm s) := by
  unfold execAddi32
  exact Out.keeps_next (State.runInsn_keeps hs (fun x1 => fun x2 => fun h3 => aluTo_keeps h3))

theorem execOri32_keeps {z : State} {c : CpId} {d a0 : Reg} {sub : BitVec 4} {imm : BitVec 32} {s : State} (hs : Keeps z s) : Out.Keeps z
    (execOri32 c d a0 sub imm s) := by
  unfold execOri32
  exact Out.keeps_next (State.runInsn_keeps hs (fun x1 => fun x2 => fun h3 => aluTo_keeps h3))

theorem execXori32_keeps {z : State} {c : CpId} {d a0 : Reg} {sub : BitVec 4} {imm : BitVec 32} {s : State} (hs : Keeps z s) : Out.Keeps z
    (execXori32 c d a0 sub imm s) := by
  unfold execXori32
  exact Out.keeps_next (State.runInsn_keeps hs (fun x1 => fun x2 => fun h3 => aluTo_keeps h3))

theorem execCmpi32_keeps {z : State} {c : CpId} {d a0 : Reg} {sub : BitVec 4} {imm : BitVec 32} {s : State} (hs : Keeps z s) : Out.Keeps z
    (execCmpi32 c d a0 sub imm s) := by
  unfold execCmpi32
  exact Out.keeps_next (State.runInsn_keeps hs (fun x1 => fun x2 => fun h3 => aluFlags_keeps h3))

theorem execTglbx_keeps {z : State} {c : CpId} {d a : Reg} {sub : BitVec 4} {imm : BitVec 32} {s : State} (hs : Keeps z s) : Out.Keeps z
    (execTglbx c d a sub imm s) := by
  unfold execTglbx
  exact Out.keeps_next (State.runInsn_keeps hs (fun x1 => fun x2 => fun h3 => bitX_keeps h3))

theorem execTstbx_keeps {z : State} {c : CpId} {d a : Reg} {sub : BitVec 4} {imm : BitVec 32} {s : State} (hs : Keeps z s) : Out.Keeps z
    (execTstbx c d a sub imm s) := by
  unfold execTstbx
  exact Out.keeps_next (State.runInsn_keeps hs (fun x1 => fun x2 => fun h3 => bitX_keeps h3))

theorem execBorx_keeps {z : State} {c : CpId} {d a : Reg} {sub : BitVec 4} {imm : BitVec 32} {s : State} (hs : Keeps z s) : Out.Keeps z
    (execBorx c d a sub imm s) := by
  unfold execBorx
  exact Out.keeps_next (State.runInsn_keeps hs (fun x1 => fun x2 => fun h3 => bitX2_keeps h3))

theorem execBxorx_keeps {z : State} {c : CpId} {d a : Reg} {sub : BitVec 4} {imm : BitVec 32} {s : State} (hs : Keeps z s) : Out.Keeps z
    (execBxorx c d a sub imm s) := by
  unfold execBxorx
  exact Out.keeps_next (State.runInsn_keeps hs (fun x1 => fun x2 => fun h3 => bitX2_keeps h3))

theorem execBmovx_keeps {z : State} {c : CpId} {d a : Reg} {sub : BitVec 4} {imm : BitVec 32} {s : State} (hs : Keeps z s) : Out.Keeps z
    (execBmovx c d a sub imm s) := by
  unfold execBmovx
  exact Out.keeps_next (State.runInsn_keeps hs (fun x1 => fun x2 => fun h3 => bitX2_keeps h3))

theorem execBbsx_keeps {z : State} {c : CpId} {d a : Reg} {sub : BitVec 4} {imm : BitVec 32} {s : State} (hs : Keeps z s) : Out.Keeps z
    (execBbsx c d a sub imm s) := by
  unfold execBbsx
  exact Out.keeps_next (State.runInsn_keeps hs (fun x1 => fun x2 => fun h3 => branchX_keeps h3))

theorem execTimerMatch_keeps {z : State} {c0 : CpId} {n : Fin 4} {s : State} (hs : Keeps z s) : Out.Keeps z (execTimerMatch c0 n s) := by
  unfold execTimerMatch
  extract_lets +onlyGivenNames x1
  clear_value x1
  exact Out.keeps_next (Keeps.ite (State.timerHit_keeps hs) hs)

theorem execInterruptAccept_keeps {z : State} {c0 : CpId} {s : State} (hs : Keeps z s) : Out.Keeps z (execInterruptAccept c0 s) := by
  unfold execInterruptAccept
  extract_lets +onlyGivenNames x1
  clear_value x1
  refine Out.keeps_ite ?_ (Out.keeps_next hs)
  split
  · exact Out.keeps_next (State.boundary_keeps (State.accept_keeps hs))
  · exact Out.keeps_next hs

theorem execEntryTakeover_keeps {z : State} {c0 : CpId} {s : State} (hs : Keeps z s) : Out.Keeps z (execEntryTakeover c0 s) := by
  unfold execEntryTakeover
  extract_lets +onlyGivenNames x1 x2
  clear_value x1 x2
  split
  · extract_lets +onlyGivenNames x3 x4
    exact Out.keeps_next (State.modCp_keeps hs)
  · exact Out.keeps_next hs

theorem execCpDoorbell_keeps {z : State} {c : CpId} {ring : BitVec 4} {s : State} (hs : Keeps z s) : Out.Keeps z (execCpDoorbell c ring s) := by
  unfold execCpDoorbell
  exact Out.keeps_next (State.doorbell_keeps hs)

theorem execWdgKick_keeps {z : State} {c : CpId} {key : BitVec 16} {s : State} (hs : Keeps z s) : Out.Keeps z (execWdgKick c key s) := by
  unfold execWdgKick
  exact Out.keeps_next (State.wdgKey_keeps hs)

theorem execWdgWarning_keeps {z : State} {c0 : CpId} {s : State} (hs : Keeps z s) : Out.Keeps z (execWdgWarning c0 s) := by
  unfold execWdgWarning
  extract_lets +onlyGivenNames x1
  clear_value x1
  exact Out.keeps_next (Keeps.ite (State.wdgWarn_keeps hs) hs)

theorem execWdgExpiry_keeps {z : State} {c0 : CpId} {s : State} (hs : Keeps z s) : Out.Keeps z (execWdgExpiry c0 s) := by
  unfold execWdgExpiry
  extract_lets +onlyGivenNames x1
  clear_value x1
  exact Out.keeps_next (Keeps.ite (State.wdgExpire_keeps hs) hs)

end Sys2Proof.Machine
end

