-- ==== Sys2Proof/Laws/KeepsVec.lean ====
section
/-! SUPPORT. What vector work and its scheduling keep: one lemma for each operation and each meaning. -/

namespace Sys2Proof.Machine

theorem State.vqRetire_keeps {z s : State} {c : CpId} (hs : Keeps z s) : Keeps z (State.vqRetire s c) := by
  unfold State.vqRetire
  extract_lets +onlyGivenNames x1
  clear_value x1
  refine Keeps.ite ?_ hs
  extract_lets +onlyGivenNames x2 x3
  have h4 : Keeps z x3 := State.modCp_keeps hs
  clear_value x2 x3
  exact Keeps.ite (State.fire_keeps h4) h4

theorem State.endCow_keeps {z s : State} {p : PartId} {w : CowPage} {keep : Bool} (hs : Keeps z s) : Keeps z (State.endCow s p w keep) := by
  unfold State.endCow
  split
  · extract_lets +onlyGivenNames x1 x2 x3 x4 x6
    have h5 : Keeps z x4 := State.freeSpan_keeps (State.setPte_keeps hs)
    have h7 : Keeps z x6 := Keeps.ite (State.modM_keeps h5) h5
    clear_value x1 x2 x3 x4 x6
    exact State.shootdown_keeps h7
  · exact hs

theorem State.freeze_keeps {z s : State} {c : CpId} {x : VFault} (hs : Keeps z s) : Keeps z (State.freeze s c x) := by
  unfold State.freeze
  extract_lets +onlyGivenNames x1 x2 x3
  have h4 : Keeps z x3 := State.modVq_keeps hs
  clear_value x1 x2 x3
  exact Keeps.ite (State.irq_keeps h4) h4

theorem State.shadowCompare_keeps {z s : State} {c : CpId} (hs : Keeps z s) : Keeps z (State.shadowCompare s c) := by
  unfold State.shadowCompare
  split
  · exact hs
  · extract_lets +onlyGivenNames x1
    clear_value x1
    refine Keeps.ite hs ?_
    extract_lets +onlyGivenNames x2 x4
    have h3 : Keeps z x2 := State.cnt_keeps hs
    clear_value x2 x4
    split
    · extract_lets +onlyGivenNames x5
      have h6 : Keeps z x5 := Keeps.foldl (fun x7 => fun x8 => fun h9 => State.endCow_keeps h9) h3
      clear_value x5
      exact State.modCp_keeps h6
    · extract_lets +onlyGivenNames x10 x15 x17
      have h11 : Keeps z x10 := Keeps.foldl (fun x12 => fun x13 => fun h14 => State.endCow_keeps h14) (State.fired_keeps h3)
      have h16 : Keeps z x15 := State.detLost_keeps (State.bucket_keeps (State.cnt_keeps h11))
      have h18 : Keeps z x17 := State.modVq_keeps h16
      clear_value x10 x15 x17
      refine Keeps.ite h18 ?_
      extract_lets +onlyGivenNames x19 x21 x23
      have h20 : Keeps z x19 := State.setReg_keeps h18
      have h22 : Keeps z x21 := State.modPart_keeps h20
      have h24 : Keeps z x23 := State.modVq_keeps h22
      clear_value x19 x21 x23
      refine Keeps.ite ?_ h24
      extract_lets +onlyGivenNames x25
      have h26 : Keeps z x25.2 := State.fresh_keeps h24
      clear_value x25
      exact State.freeze_keeps h26

theorem State.stopCompare_keeps {z s : State} {c : CpId} (hs : Keeps z s) : Keeps z (State.stopCompare s c) := by
  unfold State.stopCompare
  exact Keeps.ite (State.shadowCompare_keeps hs) hs

theorem State.applyWr_keeps {z s : State} {c : CpId} {cl : ClusterId} {w : Wr} (hs : Keeps z s) : Keeps z (State.applyWr s c cl w) := by
  unfold State.applyWr
  split
  · exact State.writeBy_keeps hs
  · extract_lets +onlyGivenNames x1 x3 x4
    have h2 : Keeps z x1.2 := State.readBy_keeps hs
    have h5 : Keeps z x4 := State.writeBy_keeps h2
    clear_value x1 x3 x4
    exact Keeps.ite (State.poisonUnit_keeps h5) h5
  · exact State.storeRamBit_keeps hs

theorem State.poisonWr_keeps {z s : State} {c : CpId} {w : Wr} (hs : Keeps z s) : Keeps z (State.poisonWr s c w) := by
  unfold State.poisonWr
  split
  · exact State.poisonUnit_keeps hs
  · exact State.poisonUnit_keeps hs
  · exact State.poisonBit_keeps hs

theorem State.applyWrs_keeps {z s : State} {c : CpId} {pipe : Nat} {ws : List Wr} (hs : Keeps z s) : Keeps z (State.applyWrs s c pipe ws) := by
  unfold State.applyWrs
  refine Keeps.foldl (fun x1 => fun x2 => fun h3 => ?_) hs
  extract_lets +onlyGivenNames x4 x6
  have h5 : Keeps z x4 := State.applyWr_keeps h3
  have h7 : Keeps z x6.2 := State.inject_keeps h5
  clear_value x4 x6
  refine Keeps.ite ?_ h5
  extract_lets +onlyGivenNames x8
  clear_value x8
  exact State.bucket_keeps (State.capture_keeps (State.poisonWr_keeps h7))

theorem VAcc.andThen_keeps {z : State} {α β : Type} {r : VAcc α × State} {k : α → State → VAcc β × State} (hr : Keeps z r.2)
    (hk : ∀ w0 w1, Keeps z w1 → Keeps z (k w0 w1).2) : Keeps z (VAcc.andThen r k).2 := by
  unfold VAcc.andThen
  split
  · exact hk _ _ hr
  · exact hr
  · exact hr
  · exact hr

theorem vRead_keeps {z : State} {v : RunEnv} {num : Nat} {d : DReg} {addr : Int} {n : Nat} {s : State}
    (hs : Keeps z s) : Keeps z (vRead v num d addr n s).2 := by
  unfold vRead
  split
  · exact hs
  · extract_lets +onlyGivenNames x1 x2
    have h3 : Keeps z x2.2 := State.translate_keeps hs
    clear_value x1 x2
    split
    · exact h3
    · exact h3
    · extract_lets +onlyGivenNames x4
      have h5 : Keeps z x4.2 := State.readBy_keeps h3
      clear_value x4
      split
      · exact Keeps.mk2 (State.bucket_keeps h5)
      · exact h5

theorem readElem_keeps {z : State} {v : RunEnv} {num : Nat} {d : DReg} {i : Int} {j : Nat} {s : State}
    (hs : Keeps z s) : Keeps z (readElem v num d i j s).2 := by
  unfold readElem
  refine Keeps.ite2 ?_ (Keeps.ite2 ?_ (vRead_keeps hs))
  · extract_lets +onlyGivenNames x1
    clear_value x1
    split
    · exact Keeps.mk2 (Keeps.eq2 (by assumption) (State.readBit_keeps hs))
    · exact Keeps.mk2 (Keeps.eq2 (by assumption) (State.readBit_keeps hs))
  · extract_lets +onlyGivenNames x2
    clear_value x2
    exact VAcc.andThen_keeps (vRead_keeps hs) (fun x3 => fun x4 => fun h5 => h5)

theorem activeIn_keeps {z : State} {v : RunEnv} {x : Strm × DReg} {inv : Bool} {y3 : List Nat} {y4 : Nat} {y5 : State}
    (hy5 : Keeps z y5) : Keeps z (activeIn v x inv y3 y4 y5).2 := by
  revert hy5; fun_induction activeIn v x inv y3 y4 y5 <;> intro hy5
  · exact hy5
  · apply_assumption
    exact Keeps.eq2 (by assumption) (readElem_keeps hy5)
  · exact Keeps.mk2 (Keeps.eq2 (by assumption) (readElem_keeps hy5))
  · exact readElem_keeps hy5

theorem baseCount_keeps {z : State} {v : RunEnv} {g : List VEntry} {e : VEntry} {s : State} (hs : Keeps z s) : Keeps z (baseCount v g e s).2 := by
  unfold baseCount
  refine Keeps.ite2 hs (Keeps.ite2 ?_ hs)
  split
  · exact hs
  · exact Keeps.ite2 hs (activeIn_keeps hs)

theorem elemsRun_keeps {z : State} {g : Nat → MOut → State → VAcc MOut × State} {y1 : List Nat} {y2 : MOut} {y3 : State}
    (hg : ∀ w0 w1 w2, Keeps z w2 → Keeps z (g w0 w1 w2).2) (hy3 : Keeps z y3) : Keeps z (elemsRun g y1 y2 y3).2 := by
  revert hy3; fun_induction elemsRun g y1 y2 y3 <;> intro hy3
  · exact hy3
  · apply_assumption
    exact Keeps.eq2 (by assumption) (hg _ _ _ hy3)
  · exact Keeps.mk2 (Keeps.eq2 (by assumption) (hg _ _ _ hy3))
  · exact hg _ _ _ hy3

theorem source_keeps {z : State} {v : RunEnv} {f : Fwd} {x : Strm × DReg} {i : Nat} {s : State} (hs : Keeps z s) : Keeps z (source v f x i s).2 := by
  unfold source
  split
  · extract_lets +onlyGivenNames x1
    clear_value x1
    split
    · exact hs
    · exact hs
  · exact readElem_keeps hs

theorem roleVal_keeps {z : State} {v : RunEnv} {f : Fwd} {l : List (Strm × DReg)} {role : Role} {i : Nat} {s : State}
    (hs : Keeps z s) : Keeps z (roleVal v f l role i s).2 := by
  unfold roleVal
  split
  · exact source_keeps hs
  · exact hs

theorem cowFirst_keeps {z s : State} {v : RunEnv} {va key : Nat} (hs : Keeps z s) : Keeps z (cowFirst v va key s).2 := by
  have hf : ∀ t w, Keeps z (s.allocFail v.part va t w).2 := fun t w => State.allocFail_keeps hs
  unfold cowFirst
  split
  · refine Keeps.ite2 hs ?_
    extract_lets n tier page src f1 got f2
    have h1 : Keeps z f1.2 := by unfold f1; exact hf _ _
    have h2 : Keeps z f2.2 := by unfold f2; exact hf _ _
    refine Keeps.ite2 hs (Keeps.ite2 ?_ ?_)
    · split <;> exact h1
    · rcases hgot : got with _ | ⟨g, u⟩
      · dsimp only
        split <;> exact h2
      · dsimp only
        refine State.modVq_keeps (State.setPte_keeps (State.copyGranules_keeps ?_))
        unfold got at hgot
        split at hgot
        · obtain ⟨⟨a, b, u⟩, hu, hg⟩ := Option.map_eq_some_iff.mp hgot
          cases hg
          exact State.takeGranule_keeps hu hs
        · obtain ⟨g, -, hg⟩ := Option.map_eq_some_iff.mp hgot
          cases hg
          exact State.takeSpan_keeps hs
  · exact hs

theorem vAddr_keeps {z : State} {v : RunEnv} {num : Nat} {d : DReg} {addr : Int} {n : Nat} {s : State}
    (hs : Keeps z s) : Keeps z (vAddr v num d addr n s).2 := by
  unfold vAddr
  split
  · exact hs
  · extract_lets +onlyGivenNames x1 x2 x3 x4
    have h5 : Keeps z x4.2 := State.translate_keeps hs
    clear_value x1 x2 x3 x4
    split
    · exact h5
    · exact h5
    · exact Keeps.ite2 (cowFirst_keeps h5) h5

theorem writeElem_keeps {z : State} {v : RunEnv} {num : Nat} {d : DReg} {i : Int} {j x : Nat} {s : State}
    (hs : Keeps z s) : Keeps z (writeElem v num d i j x s).2 := by
  unfold writeElem
  refine Keeps.ite2 hs (Keeps.ite2 ?_ ?_)
  · extract_lets +onlyGivenNames x1
    clear_value x1
    exact VAcc.andThen_keeps (vAddr_keeps hs) (fun x2 => fun x3 => fun h4 => h4)
  · extract_lets +onlyGivenNames x5
    clear_value x5
    exact VAcc.andThen_keeps (vAddr_keeps hs) (fun x6 => fun x7 => fun h8 => h8)

theorem hold_keeps {z : State} {v : RunEnv} {l : List (Strm × DReg)} {dst i : Nat} {idx : Int} {fld x : Nat} {m : MOut} {s : State}
    (hs : Keeps z s) : Keeps z (hold v l dst i idx fld x m s).2 := by
  unfold hold
  split
  · exact hs
  · exact VAcc.andThen_keeps (writeElem_keeps hs) (fun x1 => fun x2 => fun h3 => h3)

theorem vAll_keeps {z : State} {β : Type} {f : β → State → VAcc Nat × State} {y2 : List β} {y3 : State}
    (hf : ∀ w0 w1, Keeps z w1 → Keeps z (f w0 w1).2) (hy3 : Keeps z y3) : Keeps z (vAll f y2 y3).2 := by
  revert hy3; fun_induction vAll f y2 y3 <;> intro hy3
  · exact hy3
  · refine VAcc.andThen_keeps (hf _ _ hy3) (fun x1 => fun x2 => fun h3 => VAcc.andThen_keeps ?_ (fun x4 => fun x5 => fun h6 => h6))
    apply_assumption
    exact h3

theorem elemRun_keeps {z : State} {v : RunEnv} {e : VEntry} {l : List (Strm × DReg)} {base : Nat} {f : Fwd} {i : Nat} {m : MOut} {s : State}
    (hs : Keeps z s) : Keeps z (elemRun v e l base f i m s).2 := by
  unfold elemRun
  extract_lets +onlyGivenNames x1 x2 x3 x4 x5
  clear_value x1 x2 x3 x4 x5
  refine VAcc.andThen_keeps ?_ (fun x9 => fun x10 => fun h11 => ?_)
  · split
    · exact VAcc.andThen_keeps (source_keeps hs) (fun x6 => fun x7 => fun h8 => h8)
    · exact hs
  · extract_lets +onlyGivenNames x12 x13
    clear_value x12 x13
    refine Keeps.ite2 (Keeps.ite2 h11 (VAcc.andThen_keeps (roleVal_keeps h11) (fun x14 => fun x15 => fun h16 => h16))) (Keeps.ite2 h11 (Keeps.ite2
        (VAcc.andThen_keeps (roleVal_keeps h11) (fun x17 => fun x18 => fun h19 => Keeps.ite2 h19 (VAcc.andThen_keeps (hold_keeps h19) (fun x20
        => fun x21 => fun h22 => h22)))) (Keeps.ite2 (VAcc.andThen_keeps (roleVal_keeps h11) (fun x23 => fun x24 => fun h25 => Keeps.ite2 h25
        (VAcc.andThen_keeps (hold_keeps h25) (fun x26 => fun x27 => fun h28 => h28)))) (Keeps.ite2 (VAcc.andThen_keeps (roleVal_keeps h11) (fun x29
        => fun x30 => fun h31 => ?_)) (Keeps.ite2 (VAcc.andThen_keeps (roleVal_keeps h11) (fun x35 => fun x36 => fun h37 => VAcc.andThen_keeps
        (roleVal_keeps h37) (fun x38 => fun x39 => fun h40 => ?_))) (Keeps.ite2 (VAcc.andThen_keeps (roleVal_keeps h11) (fun x41 => fun x42 => fun
        h43 => Keeps.ite2 h43 (hold_keeps h43))) (Keeps.ite2 ?_ (Keeps.ite2 (VAcc.andThen_keeps (vAll_keeps (fun x56 => fun x57 => fun h58 => ?_)
        h11) (fun x59 => fun x60 => fun h61 => Keeps.ite2 h61 (Keeps.foldl2 (fun x62 => fun x63 => fun h64 => VAcc.andThen_keeps h64 (fun x65
        => fun x66 => fun h67 => hold_keeps h67)) h61))) (Keeps.ite2 ?_ (Keeps.ite2 (VAcc.andThen_keeps (Keeps.ite2 (roleVal_keeps h11) ?_) (fun
        x86 => fun x87 => fun h88 => hold_keeps h88)) (VAcc.andThen_keeps (roleVal_keeps h11) (fun x89 => fun x90 => fun h91 => VAcc.andThen_keeps
        ?_ (fun x92 => fun x93 => fun h94 => VAcc.andThen_keeps (roleVal_keeps h94) (fun x95 => fun x96 => fun h97 => Keeps.ite2 (hold_keeps h97)
        (Keeps.ite2 h97 ?_)))))))))))))))
    · split
      · exact VAcc.andThen_keeps (readElem_keeps h31) (fun x32 => fun x33 => fun h34 => Keeps.ite2 h34 (hold_keeps h34))
      · exact h31
    · split
      · exact Keeps.ite2 h40 (hold_keeps h40)
      · exact h40
    · split
      · exact h11
      · exact VAcc.andThen_keeps (vAll_keeps (fun x44 => fun x45 => fun h46 => readElem_keeps h46) h11) (fun x47 => fun x48 => fun h49
          => Keeps.ite2 h49 (Keeps.foldl2 (fun x50 => fun x51 => fun h52 => VAcc.andThen_keeps h52 (fun x53 => fun x54 => fun h55 => hold_keeps
          h55)) h49))
    · split
      · exact source_keeps h58
      · exact h58
    · extract_lets +onlyGivenNames x68 x69
      clear_value x68
      unfold x69
      refine VAcc.andThen_keeps (vAll_keeps (fun x70 => fun x71 => fun h72 => roleVal_keeps h72) h11) (fun x73 => fun x74 => fun h75
          => VAcc.andThen_keeps (vAll_keeps (fun x76 => fun x77 => fun h78 => roleVal_keeps h78) h75) (fun x79 => fun x80 => fun h81
          => VAcc.andThen_keeps (roleVal_keeps h81) (fun x82 => fun x83 => fun h84 => ?_)))
      extract_lets +onlyGivenNames x85
      clear_value x85
      exact Keeps.ite2 h84 (hold_keeps h84)
    · split
      · exact h11
      · exact roleVal_keeps h11
    · split
      · exact h91
      · exact roleVal_keeps h91
    · extract_lets +onlyGivenNames x98
      clear_value x98
      exact VAcc.andThen_keeps (hold_keeps h97) (fun x99 => fun x100 => fun h101 => Keeps.ite2 h101 (hold_keeps h101))

theorem unordered_keeps {z : State} {ws : List Wr} {s : State} (hs : Keeps z s) : Keeps z (unordered ws s).2 := by
  unfold unordered
  extract_lets +onlyGivenNames x1
  clear_value x1
  refine Keeps.foldl2 (fun x2 => fun x3 => fun h4 => ?_) hs
  extract_lets +onlyGivenNames x5
  clear_value x5
  refine Keeps.ite2 h4 ?_
  extract_lets +onlyGivenNames x6
  have h7 : Keeps z x6.2 := State.fresh_keeps h4
  clear_value x6
  exact h7

theorem membersRun_keeps {z s : State} {v : RunEnv} {g : List VEntry} {l : List (VEntry × Nat)} {o : SOut} (hs : Keeps z s) :
    Keeps z (membersRun v g l o s).2 := by
  induction l generalizing o s with
  | nil => exact hs
  | cons x l ih =>
    obtain ⟨e, j⟩ := x
    unfold membersRun
    dsimp only
    have h1 := VAcc.andThen_keeps (k := fun n s =>
      elemsRun (elemRun v e e.streams n o.fwd) ((List.range (v.hi - v.lo)).map (fun i => v.lo + i)) ⟨[], [], [], 0, 0⟩ s)
      (baseCount_keeps (z := z) (v := v) (g := g) (e := e) hs) (fun n _ h => elemsRun_keeps (fun _ _ _ h => elemRun_keeps h) h)
    split <;> rename_i he <;> have h2 := Keeps.eq2 he h1
    · refine ih ?_
      split
      · exact unordered_keeps h2
      · exact h2
    all_goals exact h2

theorem State.vqSettle_keeps {z s : State} {c : CpId} (hs : Keeps z s) : Keeps z (State.vqSettle s c) := by
  unfold State.vqSettle
  exact Keeps.ite hs (State.vqRetire_keeps hs)

theorem State.vqResult_keeps {z s : State} {c : CpId} {st res : Nat} (hs : Keeps z s) : Keeps z (State.vqResult s c st res) := by
  unfold State.vqResult
  split
  · exact State.wr_keeps (State.wr_keeps hs)
  · exact hs

theorem State.vqResume_keeps {z s : State} {c : CpId} (hs : Keeps z s) : Keeps z (State.vqResume s c) := by
  unfold State.vqResume
  extract_lets +onlyGivenNames x1
  clear_value x1
  exact Keeps.ite (State.vqSettle_keeps (State.vqResult_keeps (State.modVq_keeps hs))) (State.vqResult_keeps hs)

theorem State.vqFlush_keeps {z s : State} {c : CpId} (hs : Keeps z s) : Keeps z (State.vqFlush s c) := by
  unfold State.vqFlush
  extract_lets +onlyGivenNames x1
  clear_value x1
  refine Keeps.ite ?_ (State.vqResult_keeps hs)
  extract_lets +onlyGivenNames x2 x3
  have h4 : Keeps z x3 := State.vqResult_keeps (State.modVq_keeps hs)
  clear_value x2 x3
  exact Keeps.ite h4 (State.fire_keeps h4)

theorem State.slotGranule_keeps {z s t : State} {p : PartId} {slot : Nat} (e : s.slotGranule p slot = some t) (hs : Keeps z s) : Keeps z t := by
  unfold State.slotGranule at e
  split at e
  · cases e; exact hs
  · split at e
    · cases e
    · split at e
      · cases e
      · obtain ⟨⟨a, b, u⟩, hu, rfl⟩ := Option.map_eq_some_iff.mp e
        exact State.modPart_keeps (State.takeGranule_keeps hu hs)

theorem State.vqDrained_keeps {z s : State} {c : CpId} (hs : Keeps z s) : Keeps z (s.vqDrained c) := by
  unfold State.vqDrained
  dsimp only
  have h1 : Keeps z (s.shadowCompare c) := State.shadowCompare_keeps hs
  refine Keeps.ite hs (Keeps.ite (State.vqRetire_keeps (State.vqResult_keeps (State.modVq_keeps h1))) ?_)
  split
  · split
    · exact State.vqResult_keeps (State.modVq_keeps (State.vqRetire_keeps h1))
    · have h2 := State.slotGranule_keeps (by assumption) (State.vqRetire_keeps h1)
      refine Keeps.ite ?_ (State.fire_keeps ?_)
      all_goals exact State.vqResult_keeps (State.modVq_keeps (State.modPart_keeps h2))
  · exact hs

theorem State.vqStop_keeps {z s : State} {c : CpId} (hs : Keeps z s) : Keeps z (State.vqStop s c) := by
  unfold State.vqStop
  exact State.vqDrained_keeps (State.vqResult_keeps (State.modVq_keeps hs))

theorem State.vqStart_keeps {z s : State} {c : CpId} (hs : Keeps z s) : Keeps z (State.vqStart s c) := by
  unfold State.vqStart
  exact Keeps.ite (State.vqSettle_keeps (State.vqResult_keeps (State.modVq_keeps hs))) (State.vqResult_keeps hs)

theorem State.vqSave_keeps {z s : State} {c : CpId} {slot : Fin 64} (hs : Keeps z s) : Keeps z (State.vqSave s c slot) := by
  unfold State.vqSave
  exact State.vqDrained_keeps (State.vqResult_keeps (State.modVq_keeps hs))

theorem State.vqRestore_keeps {z s : State} {c : CpId} {slot : Fin 64} (hs : Keeps z s) : Keeps z (State.vqRestore s c slot) := by
  unfold State.vqRestore
  refine Keeps.ite (State.vqResult_keeps hs) ?_
  split
  · exact hs
  · split
    · exact State.vqResult_keeps hs
    · extract_lets +onlyGivenNames x1 x3 x4 x5 x6 x8
      have h2 : Keeps z x1.2 := Keeps.ite2 hs (State.inject_keeps hs)
      have h7 : Keeps z x6 := State.vqResult_keeps (State.modVq_keeps h2)
      have h9 : Keeps z x8 := Keeps.ite (State.irq_keeps h7) h7
      clear_value x1 x3 x4 x5 x6 x8
      exact State.vqSettle_keeps h9

theorem State.vqDiscard_keeps {z s : State} {c : CpId} {slot : Fin 64} (hs : Keeps z s) : Keeps z (State.vqDiscard s c slot) := by
  unfold State.vqDiscard
  split
  · exact hs
  · exact Keeps.ite (State.vqResult_keeps (State.modPart_keeps hs)) (State.vqResult_keeps hs)

theorem State.vqCommand_keeps {z s : State} {c0 : CpId} {cmd : Nat} {slot : Fin 64} (hs : Keeps z s) : Keeps z (State.vqCommand s c0 cmd slot) := by
  unfold State.vqCommand
  extract_lets +onlyGivenNames x1
  clear_value x1
  split
  · exact hs
  · refine Keeps.ite hs (Keeps.ite hs ?_)
    extract_lets +onlyGivenNames x2
    have h3 : Keeps z x2 := State.modVq_keeps (State.wr_keeps hs)
    clear_value x2
    exact Keeps.ite (State.vqResume_keeps h3) (Keeps.ite (State.vqFlush_keeps h3) (Keeps.ite (State.vqStop_keeps h3) (Keeps.ite
        (State.vqStart_keeps h3) (Keeps.ite (State.vqSave_keeps h3) (Keeps.ite (State.vqRestore_keeps h3) (State.vqDiscard_keeps h3))))))

theorem State.parkPipe_keeps {z s : State} {pipe : Nat} {must : Bool} (hs : Keeps z s) : Keeps z (State.parkPipe s pipe must) := by
  unfold State.parkPipe
  refine Keeps.foldl (fun x1 => fun x2 => fun h3 => ?_) hs
  extract_lets +onlyGivenNames x4
  clear_value x4
  exact Keeps.ite (State.modPart_keeps h3) h3

theorem State.readDs_keeps {z s : State} {c : CpId} {ns : List Nat} (hs : Keeps z s) : Keeps z (State.readDs s c ns).2 := by
  unfold State.readDs
  refine Keeps.foldl2 (fun x1 => fun x2 => fun h3 => Keeps.dite2 (fun h4 => ?_) (fun h7 => h3)) hs
  extract_lets +onlyGivenNames x5
  have h6 : Keeps z x5.2 := State.readD_keeps h3
  clear_value x5
  exact h6

theorem State.enqueue_keeps {z s : State} {c : CpId} {e : VEntry} (hs : Keeps z s) : Keeps z (State.enqueue s c e) := by
  unfold State.enqueue
  extract_lets +onlyGivenNames x1 x2 x3 x4 x5 x7 x9 x10 x11
  have h6 : Keeps z x5 := by
    unfold x5
    refine Keeps.ite ?_ hs
    split
    · exact State.cnt_keeps hs
    · exact hs
  have h8 : Keeps z x7.2 := State.inject_keeps h6
  clear_value x1 x2 x3 x4 x5 x7 x9 x10 x11
  exact State.vqSettle_keeps (State.modCp_keeps h8)

theorem doIssue_keeps {z : State} {op : Nat} {v : VecFields} {s : State} {c : CpId} (hs : Keeps z s) : Flow.Keeps z (doIssue op v s c) := by
  unfold doIssue
  split
  · exact Flow.keeps_done hs
  · split
    · exact Flow.keeps_done hs
    · extract_lets +onlyGivenNames x1 x2 x3 x4 x6 x8
      have h5 : Keeps z x4.2 := State.readDs_keeps hs
      have h7 : Keeps z x6 := h5
      clear_value x1 x2 x3 x4 x6 x8
      split
      · exact Flow.keeps_trap h7
      · split
        · exact Flow.keeps_trap h7
        · split
          · exact Flow.keeps_trap h7
          · extract_lets +onlyGivenNames x9
            clear_value x9
            refine Flow.keeps_ite (Flow.keeps_ite (Flow.keeps_done (State.deliverVector_keeps h7)) (Flow.keeps_stall h7)) (Flow.keeps_ite
                (Flow.keeps_ite (Flow.keeps_done (State.deliverVector_keeps h7)) (Flow.keeps_stall h7)) ?_)
            extract_lets +onlyGivenNames x10
            have h11 : Keeps z x10.2 := State.compareWith_keeps (fun x12 => fun x13 => fun x14 => fun h15 => State.bucket_keeps h15) h7
            clear_value x10
            refine Flow.keeps_ite (Flow.keeps_done h11) ?_
            extract_lets +onlyGivenNames x16 x18 x19 x20
            have h17 : Keeps z x16 := h11
            clear_value x16 x18 x19 x20
            exact nextSaved_keeps (State.enqueue_keeps h17)

theorem issue_keeps {z : State} {op : Nat} {c : CpId} {v : VecFields} {s : State} (hs : Keeps z s) : Keeps z (issue op c v s) := by
  unfold issue
  exact State.runInsn_keeps hs (fun x1 => fun x2 => fun h3 => doIssue_keeps h3)

theorem execVfnms_keeps {z : State} {c : CpId} {v : VecFields} {s : State} (hs : Keeps z s) : Out.Keeps z (execVfnms c v s) := by
  unfold execVfnms
  exact Out.keeps_next (issue_keeps hs)

theorem execVdmul1_keeps {z : State} {c : CpId} {v : VecFields} {s : State} (hs : Keeps z s) : Out.Keeps z (execVdmul1 c v s) := by
  unfold execVdmul1
  exact Out.keeps_next (issue_keeps hs)

theorem State.shortMask_keeps {z s : State} {c : CpId} {v : VecFields} {lanes : Nat} (hs : Keeps z s) : Keeps z (State.shortMask s c v lanes).2 := by
  unfold State.shortMask
  extract_lets +onlyGivenNames x1
  clear_value x1
  refine Keeps.ite2 hs ?_
  extract_lets +onlyGivenNames x2 x3
  have h4 : Keeps z x3.2 := by
    unfold x3
    refine Keeps.foldl2 (fun x5 => fun x6 => fun h7 => ?_) hs
    extract_lets +onlyGivenNames x8
    have h9 : Keeps z x8.2 := State.fresh_keeps h7
    clear_value x8
    exact h9
  clear_value x2 x3
  exact h4

theorem State.pickType_keeps {z s : State} {ts : List Nat} (hs : Keeps z s) : Keeps z (State.pickType s ts).2 := by
  unfold State.pickType
  split
  · exact hs
  · exact hs
  · extract_lets +onlyGivenNames x1
    have h2 : Keeps z x1.2 := State.fresh_keeps hs
    clear_value x1
    exact h2

theorem shortLanes_keeps {z : State} {x : ShortOps} {act : Nat → Bool} {dst : Nat} {s : State}
    (hs : Keeps z s) : Keeps z (shortLanes x act dst s).2.2 := by
  unfold shortLanes
  extract_lets +onlyGivenNames x1
  clear_value x1
  refine Keeps.foldl3 (fun x2 => fun x3 => fun h4 => Keeps.ite3 h4 ?_) hs
  split
  · exact h4
  · extract_lets +onlyGivenNames x5
    have h6 : Keeps z x5.2 := State.fresh_keeps h4
    clear_value x5
    exact h6

theorem doShort_keeps {z : State} {op : Nat} {v : VecFields} {s : State} {c : CpId} (hs : Keeps z s) : Flow.Keeps z (doShort op v s c) := by
  unfold doShort
  split
  · exact Flow.keeps_done hs
  · split
    · exact Flow.keeps_done hs
    · extract_lets +onlyGivenNames x1 x2 x3 x4
      clear_value x1 x2 x3 x4
      refine Flow.keeps_ite ?_ (Flow.keeps_ite ?_ ?_)
      · extract_lets +onlyGivenNames x5 x6 x8 x9 x10 x11 x12 x13
        have h7 : Keeps z x6.2 := State.shortMask_keeps hs
        clear_value x5 x6 x8 x9 x10 x11 x12 x13
        exact Flow.keeps_next (State.modA_keeps h7)
      · extract_lets +onlyGivenNames x14 x16 x17 x18 x19
        have h15 : Keeps z x14.2 := State.shortMask_keeps hs
        clear_value x14 x16 x17 x18 x19
        exact Flow.keeps_next (State.modA_keeps h15)
      · extract_lets +onlyGivenNames x20 x21 x23 x24
        have h22 : Keeps z x21.2 := State.pickType_keeps hs
        clear_value x20 x21 x23 x24
        refine Flow.keeps_ite ?_ ?_
        · extract_lets +onlyGivenNames x25 x27 x28
          have h26 : Keeps z x25.2 := State.shortMask_keeps h22
          clear_value x25 x27 x28
          exact Flow.keeps_next (State.modA_keeps h26)
        · extract_lets +onlyGivenNames x29 x31
          have h30 : Keeps z x29.2 := State.shortMask_keeps h22
          have h32 : Keeps z x31.2.2 := shortLanes_keeps h30
          clear_value x29 x31
          exact Flow.keeps_next (State.modA_keeps h32)

theorem short_keeps {z : State} {op : Nat} {c : CpId} {v : VecFields} {s : State} (hs : Keeps z s) : Keeps z (short op c v s) := by
  unfold short
  extract_lets +onlyGivenNames x1
  clear_value x1
  exact State.runInsn_keeps hs (fun x2 => fun x3 => fun h4 => doShort_keeps h4)

theorem execSvmul_keeps {z : State} {c : CpId} {v : VecFields} {s : State} (hs : Keeps z s) : Out.Keeps z (execSvmul c v s) := by
  unfold execSvmul
  exact Out.keeps_next (short_keeps hs)

theorem execStealWaitExpiry_keeps {z : State} {c0 : CpId} {s : State} (hs : Keeps z s) : Out.Keeps z (execStealWaitExpiry c0 s) := by
  unfold execStealWaitExpiry
  extract_lets +onlyGivenNames x1
  clear_value x1
  exact Out.keeps_next (State.modVq_keeps hs)

theorem execSvfmin_keeps {z : State} {c : CpId} {v : VecFields} {s : State} (hs : Keeps z s) : Out.Keeps z (execSvfmin c v s) := by
  unfold execSvfmin
  exact Out.keeps_next (short_keeps hs)

theorem execLdadvReadbackFault_keeps {z : State} {q : QuadId} {s : State} (hs : Keeps z s) : Out.Keeps z (execLdadvReadbackFault q s) := by
  unfold execLdadvReadbackFault
  exact Out.keeps_next (State.bucket_keeps (State.useRate_keeps (State.wr_keeps (State.wr_keeps hs))))

theorem execSvfadd_keeps {z : State} {c : CpId} {v : VecFields} {s : State} (hs : Keeps z s) : Out.Keeps z (execSvfadd c v s) := by
  unfold execSvfadd
  exact Out.keeps_next (short_keeps hs)

theorem execSvcmple_keeps {z : State} {c : CpId} {v : VecFields} {s : State} (hs : Keeps z s) : Out.Keeps z (execSvcmple c v s) := by
  unfold execSvcmple
  exact Out.keeps_next (short_keeps hs)

theorem execSvand_keeps {z : State} {c : CpId} {v : VecFields} {s : State} (hs : Keeps z s) : Out.Keeps z (execSvand c v s) := by
  unfold execSvand
  exact Out.keeps_next (short_keeps hs)

theorem execVfma_keeps {z : State} {c : CpId} {v : VecFields} {s : State} (hs : Keeps z s) : Out.Keeps z (execVfma c v s) := by
  unfold execVfma
  exact Out.keeps_next (issue_keeps hs)

theorem execVrmin_keeps {z : State} {c : CpId} {v : VecFields} {s : State} (hs : Keeps z s) : Out.Keeps z (execVrmin c v s) := by
  unfold execVrmin
  exact Out.keeps_next (issue_keeps hs)

theorem execRampEnd_keeps {z : State} {q : QuadId} {s : State} (hs : Keeps z s) : Out.Keeps z (execRampEnd q s) := by
  unfold execRampEnd
  exact Out.keeps_ite (Out.keeps_next (State.modLa_keeps (State.wr_keeps (State.wr_keeps hs)))) (Out.keeps_next hs)

theorem execSvmov_keeps {z : State} {c : CpId} {v : VecFields} {s : State} (hs : Keeps z s) : Out.Keeps z (execSvmov c v s) := by
  unfold execSvmov
  exact Out.keeps_next (short_keeps hs)

theorem execVdaddc_keeps {z : State} {c : CpId} {v : VecFields} {s : State} (hs : Keeps z s) : Out.Keeps z (execVdaddc c v s) := by
  unfold execVdaddc
  exact Out.keeps_next (issue_keeps hs)

theorem execSvfnms_keeps {z : State} {c : CpId} {v : VecFields} {s : State} (hs : Keeps z s) : Out.Keeps z (execSvfnms c v s) := by
  unfold execSvfnms
  exact Out.keeps_next (short_keeps hs)

theorem execDsetf_keeps {z : State} {c : CpId} {v : VecFields} {s : State} (hs : Keeps z s) : Out.Keeps z (execDsetf c v s) := by
  unfold execDsetf
  exact Out.keeps_next (State.runInsn_keeps hs (fun x1 => fun x2 => fun h3 => Flow.keeps_next (State.setDPart_keeps h3)))

theorem execVabs_keeps {z : State} {c : CpId} {v : VecFields} {s : State} (hs : Keeps z s) : Out.Keeps z (execVabs c v s) := by
  unfold execVabs
  exact Out.keeps_next (issue_keeps hs)

theorem execSvmax_keeps {z : State} {c : CpId} {v : VecFields} {s : State} (hs : Keeps z s) : Out.Keeps z (execSvmax c v s) := by
  unfold execSvmax
  exact Out.keeps_next (short_keeps hs)

theorem execSvrand_keeps {z : State} {c : CpId} {v : VecFields} {s : State} (hs : Keeps z s) : Out.Keeps z (execSvrand c v s) := by
  unfold execSvrand
  exact Out.keeps_next (short_keeps hs)

theorem execSvicvtf_keeps {z : State} {c : CpId} {v : VecFields} {s : State} (hs : Keeps z s) : Out.Keeps z (execSvicvtf c v s) := by
  unfold execSvicvtf
  exact Out.keeps_next (short_keeps hs)

theorem execSvrsumd_keeps {z : State} {c : CpId} {v : VecFields} {s : State} (hs : Keeps z s) : Out.Keeps z (execSvrsumd c v s) := by
  unfold execSvrsumd
  exact Out.keeps_next (short_keeps hs)

theorem execVrsumo_keeps {z : State} {c : CpId} {v : VecFields} {s : State} (hs : Keeps z s) : Out.Keeps z (execVrsumo c v s) := by
  unfold execVrsumo
  exact Out.keeps_next (issue_keeps hs)

theorem execVcmpne_keeps {z : State} {c : CpId} {v : VecFields} {s : State} (hs : Keeps z s) : Out.Keeps z (execVcmpne c v s) := by
  unfold execVcmpne
  exact Out.keeps_next (issue_keeps hs)

theorem execVcmpgt_keeps {z : State} {c : CpId} {v : VecFields} {s : State} (hs : Keeps z s) : Out.Keeps z (execVcmpgt c v s) := by
  unfold execVcmpgt
  exact Out.keeps_next (issue_keeps hs)

theorem State.dispatch_keeps {z s : State} {c : CpId} {p : PartId} {k pipe : Nat} {home round : Bool}
    (hs : Keeps z s) : Keeps z (State.dispatch s c p k pipe home round) := by
  unfold State.dispatch
  extract_lets +onlyGivenNames x1 x2 x7 x9 x10 x11 x13 x14 x16 x18 x19 x20
  have h3 : Keeps z x2 := Keeps.ite (Keeps.foldl (fun x4 => fun x5 => fun h6 => State.modVq_keeps h6) hs) hs
  have h8 : Keeps z x7 := State.modPart_keeps h3
  have h12 : Keeps z x11 := Keeps.ite (State.latchOut_keeps (State.modE_keeps h8)) h8
  have h15 : Keeps z x14 := Keeps.ite (State.wr_keeps h12) h12
  have h17 : Keeps z x16.2 := State.inject_keeps h15
  have h21 : Keeps z x20 := State.modVq_keeps h17
  clear_value x1 x2 x7 x9 x10 x11 x13 x14 x16 x18 x19 x20
  exact Keeps.ite (State.cnt_keeps h21) h21

theorem execSvclz_keeps {z : State} {c : CpId} {v : VecFields} {s : State} (hs : Keeps z s) : Out.Keeps z (execSvclz c v s) := by
  unfold execSvclz
  exact Out.keeps_next (short_keeps hs)

theorem execVadds_keeps {z : State} {c : CpId} {v : VecFields} {s : State} (hs : Keeps z s) : Out.Keeps z (execVadds c v s) := by
  unfold execVadds
  exact Out.keeps_next (issue_keeps hs)

theorem execVrcnt_keeps {z : State} {c : CpId} {v : VecFields} {s : State} (hs : Keeps z s) : Out.Keeps z (execVrcnt c v s) := by
  unfold execVrcnt
  exact Out.keeps_next (issue_keeps hs)

theorem execVfrstep_keeps {z : State} {c : CpId} {v : VecFields} {s : State} (hs : Keeps z s) : Out.Keeps z (execVfrstep c v s) := by
  unfold execVfrstep
  exact Out.keeps_next (issue_keeps hs)

theorem execVpopc_keeps {z : State} {c : CpId} {v : VecFields} {s : State} (hs : Keeps z s) : Out.Keeps z (execVpopc c v s) := by
  unfold execVpopc
  exact Out.keeps_next (issue_keeps hs)

theorem execVicvtf_keeps {z : State} {c : CpId} {v : VecFields} {s : State} (hs : Keeps z s) : Out.Keeps z (execVicvtf c v s) := by
  unfold execVicvtf
  exact Out.keeps_next (issue_keeps hs)

theorem execSvcmpun_keeps {z : State} {c : CpId} {v : VecFields} {s : State} (hs : Keeps z s) : Out.Keeps z (execSvcmpun c v s) := by
  unfold execSvcmpun
  exact Out.keeps_next (short_keeps hs)

theorem execSvcvti_keeps {z : State} {c : CpId} {v : VecFields} {s : State} (hs : Keeps z s) : Out.Keeps z (execSvcvti c v s) := by
  unfold execSvcvti
  exact Out.keeps_next (short_keeps hs)

theorem execSvcmpge_keeps {z : State} {c : CpId} {v : VecFields} {s : State} (hs : Keeps z s) : Out.Keeps z (execSvcmpge c v s) := by
  unfold execSvcmpge
  exact Out.keeps_next (short_keeps hs)

theorem execSvtest_keeps {z : State} {c : CpId} {v : VecFields} {s : State} (hs : Keeps z s) : Out.Keeps z (execSvtest c v s) := by
  unfold execSvtest
  exact Out.keeps_next (short_keeps hs)

theorem execVdshl_keeps {z : State} {c : CpId} {v : VecFields} {s : State} (hs : Keeps z s) : Out.Keeps z (execVdshl c v s) := by
  unfold execVdshl
  exact Out.keeps_next (issue_keeps hs)

theorem badEntry_keeps {z s : State} {c : CpId} {g : List VEntry} (hs : Keeps z s) : Keeps z (badEntry s c g).2 := by
  unfold badEntry
  refine Keeps.foldl2 (fun x1 => fun x2 => fun h3 => Keeps.ite2 h3 ?_) hs
  extract_lets +onlyGivenNames x4
  clear_value x4
  exact Keeps.ite2 (Keeps.mk2 (State.bucket_keeps (State.capture_keeps h3))) (Keeps.mk2 (State.bucket_keeps h3))

theorem State.runStrip_keeps {z s : State} {c : CpId} {fl : Flight} {cow : Bool} (hs : Keeps z s) : Keeps z (State.runStrip s c fl cow).2 := by
  unfold State.runStrip
  extract_lets +onlyGivenNames x1 x2 x3 x4
  have h5 : Keeps z x4.2 := badEntry_keeps hs
  clear_value x1 x2 x3 x4
  split
  · extract_lets +onlyGivenNames x6
    have h7 : Keeps z x6.2 := State.fresh_keeps h5
    clear_value x6
    exact Keeps.mk2 (State.bucket_keeps h7)
  · extract_lets +onlyGivenNames x8
    clear_value x8
    refine Keeps.ite2 ?_ ?_
    · extract_lets +onlyGivenNames x9
      have h10 : Keeps z x9.2 := State.fresh_keeps (State.bucket_keeps (State.capture_keeps h5))
      clear_value x9
      exact Keeps.mk2 (State.bucket_keeps h10)
    · extract_lets +onlyGivenNames x11 x13
      have h12 : Keeps z x11 := Keeps.ite h5 (State.bucket_keeps h5)
      have h14 : Keeps z x13.2 := State.ucStrip_keeps h12
      clear_value x11 x13
      refine Keeps.ite2 ?_ (membersRun_keeps h14)
      extract_lets +onlyGivenNames x15
      have h16 : Keeps z x15.2 := State.fresh_keeps h14
      clear_value x15
      exact h16

theorem State.progInject_keeps {z s : State} {c : CpId} {p : PartId} (hs : Keeps z s) : Keeps z (State.progInject s c p) := by
  unfold State.progInject
  extract_lets +onlyGivenNames x1
  have h2 : Keeps z x1.2 := State.inject_keeps hs
  clear_value x1
  refine Keeps.ite ?_ hs
  extract_lets +onlyGivenNames x3
  clear_value x3
  refine Keeps.ite ?_ (State.bucket_keeps h2)
  extract_lets +onlyGivenNames x4
  have h5 : Keeps z x4.2 := State.fresh_keeps (State.bucket_keeps (State.capture_keeps h2))
  clear_value x4
  exact State.modVq_keeps h5

theorem State.strippedOk_keeps {z s : State} {c : CpId} {p : PartId} {fl : Flight} {o : SOut}
    (hs : Keeps z s) : Keeps z (State.strippedOk s c p fl o) := by
  unfold State.strippedOk
  extract_lets +onlyGivenNames x1 x2 x4 x6 x8 x10 x12 x13
  have h3 : Keeps z x2 := State.applyWrs_keeps hs
  have h5 : Keeps z x4 := State.cnt_keeps (State.cnt_keeps h3)
  have h7 : Keeps z x6 := State.cnt_keeps h5
  have h9 : Keeps z x8 := State.modVq_keeps h7
  have h11 : Keeps z x10 := State.modVq_keeps h9
  have h14 : Keeps z x13 := Keeps.ite (Keeps.ite (State.shadowCompare_keeps h11) h11) (State.modCp_keeps h9)
  clear_value x1 x2 x4 x6 x8 x10 x12 x13
  exact State.vqRetire_keeps (State.progInject_keeps h14)

theorem execStripCommit_keeps {z : State} {c0 : CpId} {k : BitVec 30} {s : State} (hs : Keeps z s) : Out.Keeps z (execStripCommit c0 k s) := by
  unfold execStripCommit
  extract_lets +onlyGivenNames x1 x2
  clear_value x1 x2
  split
  · extract_lets +onlyGivenNames x3
    clear_value x3
    refine Out.keeps_ite (Out.keeps_next hs) ?_
    extract_lets +onlyGivenNames x4
    have h5 : Keeps z x4.2 := State.runStrip_keeps hs
    clear_value x4
    split
    · exact Out.keeps_next (State.strippedOk_keeps h5)
    · exact Out.keeps_next (State.shadowCompare_keeps hs)
    · exact Out.keeps_next hs
    · exact Out.keeps_next hs
  · exact Out.keeps_next hs

theorem execSvadds_keeps {z : State} {c : CpId} {v : VecFields} {s : State} (hs : Keeps z s) : Out.Keeps z (execSvadds c v s) := by
  unfold execSvadds
  exact Out.keeps_next (short_keeps hs)

theorem execSvrxor_keeps {z : State} {c : CpId} {v : VecFields} {s : State} (hs : Keeps z s) : Out.Keeps z (execSvrxor c v s) := by
  unfold execSvrxor
  exact Out.keeps_next (short_keeps hs)

theorem execVqStopDone_keeps {z : State} {c : CpId} {s : State} (hs : Keeps z s) : Out.Keeps z (execVqStopDone c s) := by
  unfold execVqStopDone
  exact Out.keeps_next (State.vqDrained_keeps hs)

theorem execVcmple_keeps {z : State} {c : CpId} {v : VecFields} {s : State} (hs : Keeps z s) : Out.Keeps z (execVcmple c v s) := by
  unfold execVcmple
  exact Out.keeps_next (issue_keeps hs)

theorem execSvshl_keeps {z : State} {c : CpId} {v : VecFields} {s : State} (hs : Keeps z s) : Out.Keeps z (execSvshl c v s) := by
  unfold execSvshl
  exact Out.keeps_next (short_keeps hs)

theorem execVrfirst_keeps {z : State} {c : CpId} {v : VecFields} {s : State} (hs : Keeps z s) : Out.Keeps z (execVrfirst c v s) := by
  unfold execVrfirst
  exact Out.keeps_next (issue_keeps hs)

theorem execVdsubc_keeps {z : State} {c : CpId} {v : VecFields} {s : State} (hs : Keeps z s) : Out.Keeps z (execVdsubc c v s) := by
  unfold execVdsubc
  exact Out.keeps_next (issue_keeps hs)

theorem execVshl_keeps {z : State} {c : CpId} {v : VecFields} {s : State} (hs : Keeps z s) : Out.Keeps z (execVshl c v s) := by
  unfold execVshl
  exact Out.keeps_next (issue_keeps hs)

theorem execVfadd_keeps {z : State} {c : CpId} {v : VecFields} {s : State} (hs : Keeps z s) : Out.Keeps z (execVfadd c v s) := by
  unfold execVfadd
  exact Out.keeps_next (issue_keeps hs)

theorem execVfsub_keeps {z : State} {c : CpId} {v : VecFields} {s : State} (hs : Keeps z s) : Out.Keeps z (execVfsub c v s) := by
  unfold execVfsub
  exact Out.keeps_next (issue_keeps hs)

theorem execVfmul_keeps {z : State} {c : CpId} {v : VecFields} {s : State} (hs : Keeps z s) : Out.Keeps z (execVfmul c v s) := by
  unfold execVfmul
  exact Out.keeps_next (issue_keeps hs)

theorem execVfmin_keeps {z : State} {c : CpId} {v : VecFields} {s : State} (hs : Keeps z s) : Out.Keeps z (execVfmin c v s) := by
  unfold execVfmin
  exact Out.keeps_next (issue_keeps hs)

theorem execVfmax_keeps {z : State} {c : CpId} {v : VecFields} {s : State} (hs : Keeps z s) : Out.Keeps z (execVfmax c v s) := by
  unfold execVfmax
  exact Out.keeps_next (issue_keeps hs)

theorem execVfabs_keeps {z : State} {c : CpId} {v : VecFields} {s : State} (hs : Keeps z s) : Out.Keeps z (execVfabs c v s) := by
  unfold execVfabs
  exact Out.keeps_next (issue_keeps hs)

theorem execVfneg_keeps {z : State} {c : CpId} {v : VecFields} {s : State} (hs : Keeps z s) : Out.Keeps z (execVfneg c v s) := by
  unfold execVfneg
  exact Out.keeps_next (issue_keeps hs)

theorem execVfcpys_keeps {z : State} {c : CpId} {v : VecFields} {s : State} (hs : Keeps z s) : Out.Keeps z (execVfcpys c v s) := by
  unfold execVfcpys
  exact Out.keeps_next (issue_keeps hs)

theorem execVfms_keeps {z : State} {c : CpId} {v : VecFields} {s : State} (hs : Keeps z s) : Out.Keeps z (execVfms c v s) := by
  unfold execVfms
  exact Out.keeps_next (issue_keeps hs)

theorem execVfnma_keeps {z : State} {c : CpId} {v : VecFields} {s : State} (hs : Keeps z s) : Out.Keeps z (execVfnma c v s) := by
  unfold execVfnma
  exact Out.keeps_next (issue_keeps hs)

theorem execVfcvt_keeps {z : State} {c : CpId} {v : VecFields} {s : State} (hs : Keeps z s) : Out.Keeps z (execVfcvt c v s) := by
  unfold execVfcvt
  exact Out.keeps_next (issue_keeps hs)

theorem execVfcvti_keeps {z : State} {c : CpId} {v : VecFields} {s : State} (hs : Keeps z s) : Out.Keeps z (execVfcvti c v s) := by
  unfold execVfcvti
  exact Out.keeps_next (issue_keeps hs)

theorem execVadd_keeps {z : State} {c : CpId} {v : VecFields} {s : State} (hs : Keeps z s) : Out.Keeps z (execVadd c v s) := by
  unfold execVadd
  exact Out.keeps_next (issue_keeps hs)

theorem execVsub_keeps {z : State} {c : CpId} {v : VecFields} {s : State} (hs : Keeps z s) : Out.Keeps z (execVsub c v s) := by
  unfold execVsub
  exact Out.keeps_next (issue_keeps hs)

theorem execVsubs_keeps {z : State} {c : CpId} {v : VecFields} {s : State} (hs : Keeps z s) : Out.Keeps z (execVsubs c v s) := by
  unfold execVsubs
  exact Out.keeps_next (issue_keeps hs)

theorem execVmul_keeps {z : State} {c : CpId} {v : VecFields} {s : State} (hs : Keeps z s) : Out.Keeps z (execVmul c v s) := by
  unfold execVmul
  exact Out.keeps_next (issue_keeps hs)

theorem execVmulh_keeps {z : State} {c : CpId} {v : VecFields} {s : State} (hs : Keeps z s) : Out.Keeps z (execVmulh c v s) := by
  unfold execVmulh
  exact Out.keeps_next (issue_keeps hs)

theorem execVmin_keeps {z : State} {c : CpId} {v : VecFields} {s : State} (hs : Keeps z s) : Out.Keeps z (execVmin c v s) := by
  unfold execVmin
  exact Out.keeps_next (issue_keeps hs)

theorem execVmax_keeps {z : State} {c : CpId} {v : VecFields} {s : State} (hs : Keeps z s) : Out.Keeps z (execVmax c v s) := by
  unfold execVmax
  exact Out.keeps_next (issue_keeps hs)

theorem execVand_keeps {z : State} {c : CpId} {v : VecFields} {s : State} (hs : Keeps z s) : Out.Keeps z (execVand c v s) := by
  unfold execVand
  exact Out.keeps_next (issue_keeps hs)

theorem execVor_keeps {z : State} {c : CpId} {v : VecFields} {s : State} (hs : Keeps z s) : Out.Keeps z (execVor c v s) := by
  unfold execVor
  exact Out.keeps_next (issue_keeps hs)

theorem execVxor_keeps {z : State} {c : CpId} {v : VecFields} {s : State} (hs : Keeps z s) : Out.Keeps z (execVxor c v s) := by
  unfold execVxor
  exact Out.keeps_next (issue_keeps hs)

theorem execVandn_keeps {z : State} {c : CpId} {v : VecFields} {s : State} (hs : Keeps z s) : Out.Keeps z (execVandn c v s) := by
  unfold execVandn
  exact Out.keeps_next (issue_keeps hs)

theorem execVnot_keeps {z : State} {c : CpId} {v : VecFields} {s : State} (hs : Keeps z s) : Out.Keeps z (execVnot c v s) := by
  unfold execVnot
  exact Out.keeps_next (issue_keeps hs)

theorem execVshr_keeps {z : State} {c : CpId} {v : VecFields} {s : State} (hs : Keeps z s) : Out.Keeps z (execVshr c v s) := by
  unfold execVshr
  exact Out.keeps_next (issue_keeps hs)

theorem execVsar_keeps {z : State} {c : CpId} {v : VecFields} {s : State} (hs : Keeps z s) : Out.Keeps z (execVsar c v s) := by
  unfold execVsar
  exact Out.keeps_next (issue_keeps hs)

theorem execVneg_keeps {z : State} {c : CpId} {v : VecFields} {s : State} (hs : Keeps z s) : Out.Keeps z (execVneg c v s) := by
  unfold execVneg
  exact Out.keeps_next (issue_keeps hs)

theorem execVclz_keeps {z : State} {c : CpId} {v : VecFields} {s : State} (hs : Keeps z s) : Out.Keeps z (execVclz c v s) := by
  unfold execVclz
  exact Out.keeps_next (issue_keeps hs)

theorem execVsel_keeps {z : State} {c : CpId} {v : VecFields} {s : State} (hs : Keeps z s) : Out.Keeps z (execVsel c v s) := by
  unfold execVsel
  exact Out.keeps_next (issue_keeps hs)

theorem execVcvti_keeps {z : State} {c : CpId} {v : VecFields} {s : State} (hs : Keeps z s) : Out.Keeps z (execVcvti c v s) := by
  unfold execVcvti
  exact Out.keeps_next (issue_keeps hs)

theorem execVmov_keeps {z : State} {c : CpId} {v : VecFields} {s : State} (hs : Keeps z s) : Out.Keeps z (execVmov c v s) := by
  unfold execVmov
  exact Out.keeps_next (issue_keeps hs)

theorem execVfill_keeps {z : State} {c : CpId} {v : VecFields} {s : State} (hs : Keeps z s) : Out.Keeps z (execVfill c v s) := by
  unfold execVfill
  exact Out.keeps_next (issue_keeps hs)

theorem execViota_keeps {z : State} {c : CpId} {v : VecFields} {s : State} (hs : Keeps z s) : Out.Keeps z (execViota c v s) := by
  unfold execViota
  exact Out.keeps_next (issue_keeps hs)

theorem execVwmul_keeps {z : State} {c : CpId} {v : VecFields} {s : State} (hs : Keeps z s) : Out.Keeps z (execVwmul c v s) := by
  unfold execVwmul
  exact Out.keeps_next (issue_keeps hs)

theorem execVwma_keeps {z : State} {c : CpId} {v : VecFields} {s : State} (hs : Keeps z s) : Out.Keeps z (execVwma c v s) := by
  unfold execVwma
  exact Out.keeps_next (issue_keeps hs)

theorem execVdot4_keeps {z : State} {c : CpId} {v : VecFields} {s : State} (hs : Keeps z s) : Out.Keeps z (execVdot4 c v s) := by
  unfold execVdot4
  exact Out.keeps_next (issue_keeps hs)

theorem execVdot4su_keeps {z : State} {c : CpId} {v : VecFields} {s : State} (hs : Keeps z s) : Out.Keeps z (execVdot4su c v s) := by
  unfold execVdot4su
  exact Out.keeps_next (issue_keeps hs)

theorem execVfdot2_keeps {z : State} {c : CpId} {v : VecFields} {s : State} (hs : Keeps z s) : Out.Keeps z (execVfdot2 c v s) := by
  unfold execVfdot2
  exact Out.keeps_next (issue_keeps hs)

theorem execVcmpeq_keeps {z : State} {c : CpId} {v : VecFields} {s : State} (hs : Keeps z s) : Out.Keeps z (execVcmpeq c v s) := by
  unfold execVcmpeq
  exact Out.keeps_next (issue_keeps hs)

theorem execVcmplt_keeps {z : State} {c : CpId} {v : VecFields} {s : State} (hs : Keeps z s) : Out.Keeps z (execVcmplt c v s) := by
  unfold execVcmplt
  exact Out.keeps_next (issue_keeps hs)

theorem execVcmpge_keeps {z : State} {c : CpId} {v : VecFields} {s : State} (hs : Keeps z s) : Out.Keeps z (execVcmpge c v s) := by
  unfold execVcmpge
  exact Out.keeps_next (issue_keeps hs)

theorem execVcmpun_keeps {z : State} {c : CpId} {v : VecFields} {s : State} (hs : Keeps z s) : Out.Keeps z (execVcmpun c v s) := by
  unfold execVcmpun
  exact Out.keeps_next (issue_keeps hs)

theorem execVtest_keeps {z : State} {c : CpId} {v : VecFields} {s : State} (hs : Keeps z s) : Out.Keeps z (execVtest c v s) := by
  unfold execVtest
  exact Out.keeps_next (issue_keeps hs)

theorem execVcompress_keeps {z : State} {c : CpId} {v : VecFields} {s : State} (hs : Keeps z s) : Out.Keeps z (execVcompress c v s) := by
  unfold execVcompress
  exact Out.keeps_next (issue_keeps hs)

theorem execVexpand_keeps {z : State} {c : CpId} {v : VecFields} {s : State} (hs : Keeps z s) : Out.Keeps z (execVexpand c v s) := by
  unfold execVexpand
  exact Out.keeps_next (issue_keeps hs)

theorem execVgather_keeps {z : State} {c : CpId} {v : VecFields} {s : State} (hs : Keeps z s) : Out.Keeps z (execVgather c v s) := by
  unfold execVgather
  exact Out.keeps_next (issue_keeps hs)

theorem execVscatter_keeps {z : State} {c : CpId} {v : VecFields} {s : State} (hs : Keeps z s) : Out.Keeps z (execVscatter c v s) := by
  unfold execVscatter
  exact Out.keeps_next (issue_keeps hs)

theorem execVrev_keeps {z : State} {c : CpId} {v : VecFields} {s : State} (hs : Keeps z s) : Out.Keeps z (execVrev c v s) := by
  unfold execVrev
  exact Out.keeps_next (issue_keeps hs)

theorem execVlds_keeps {z : State} {c : CpId} {v : VecFields} {s : State} (hs : Keeps z s) : Out.Keeps z (execVlds c v s) := by
  unfold execVlds
  exact Out.keeps_next (issue_keeps hs)

theorem execVsts_keeps {z : State} {c : CpId} {v : VecFields} {s : State} (hs : Keeps z s) : Out.Keeps z (execVsts c v s) := by
  unfold execVsts
  exact Out.keeps_next (issue_keeps hs)

theorem execVrsum_keeps {z : State} {c : CpId} {v : VecFields} {s : State} (hs : Keeps z s) : Out.Keeps z (execVrsum c v s) := by
  unfold execVrsum
  exact Out.keeps_next (issue_keeps hs)

theorem execVrmax_keeps {z : State} {c : CpId} {v : VecFields} {s : State} (hs : Keeps z s) : Out.Keeps z (execVrmax c v s) := by
  unfold execVrmax
  exact Out.keeps_next (issue_keeps hs)

theorem execVrand_keeps {z : State} {c : CpId} {v : VecFields} {s : State} (hs : Keeps z s) : Out.Keeps z (execVrand c v s) := by
  unfold execVrand
  exact Out.keeps_next (issue_keeps hs)

theorem execVror_keeps {z : State} {c : CpId} {v : VecFields} {s : State} (hs : Keeps z s) : Out.Keeps z (execVror c v s) := by
  unfold execVror
  exact Out.keeps_next (issue_keeps hs)

theorem execVrxor_keeps {z : State} {c : CpId} {v : VecFields} {s : State} (hs : Keeps z s) : Out.Keeps z (execVrxor c v s) := by
  unfold execVrxor
  exact Out.keeps_next (issue_keeps hs)

theorem execVrsumd_keeps {z : State} {c : CpId} {v : VecFields} {s : State} (hs : Keeps z s) : Out.Keeps z (execVrsumd c v s) := by
  unfold execVrsumd
  exact Out.keeps_next (issue_keeps hs)

theorem execVdadd_keeps {z : State} {c : CpId} {v : VecFields} {s : State} (hs : Keeps z s) : Out.Keeps z (execVdadd c v s) := by
  unfold execVdadd
  exact Out.keeps_next (issue_keeps hs)

theorem execVdsub_keeps {z : State} {c : CpId} {v : VecFields} {s : State} (hs : Keeps z s) : Out.Keeps z (execVdsub c v s) := by
  unfold execVdsub
  exact Out.keeps_next (issue_keeps hs)

theorem execVdshr_keeps {z : State} {c : CpId} {v : VecFields} {s : State} (hs : Keeps z s) : Out.Keeps z (execVdshr c v s) := by
  unfold execVdshr
  exact Out.keeps_next (issue_keeps hs)

theorem execVcvtbd_keeps {z : State} {c : CpId} {v : VecFields} {s : State} (hs : Keeps z s) : Out.Keeps z (execVcvtbd c v s) := by
  unfold execVcvtbd
  exact Out.keeps_next (issue_keeps hs)

theorem execVcvtdb_keeps {z : State} {c : CpId} {v : VecFields} {s : State} (hs : Keeps z s) : Out.Keeps z (execVcvtdb c v s) := by
  unfold execVcvtdb
  exact Out.keeps_next (issue_keeps hs)

theorem execVidstep_keeps {z : State} {c : CpId} {v : VecFields} {s : State} (hs : Keeps z s) : Out.Keeps z (execVidstep c v s) := by
  unfold execVidstep
  exact Out.keeps_next (issue_keeps hs)

theorem execVfrseed_keeps {z : State} {c : CpId} {v : VecFields} {s : State} (hs : Keeps z s) : Out.Keeps z (execVfrseed c v s) := by
  unfold execVfrseed
  exact Out.keeps_next (issue_keeps hs)

theorem execVfrsqseed_keeps {z : State} {c : CpId} {v : VecFields} {s : State} (hs : Keeps z s) : Out.Keeps z (execVfrsqseed c v s) := by
  unfold execVfrsqseed
  exact Out.keeps_next (issue_keeps hs)

theorem execVfrsqstep_keeps {z : State} {c : CpId} {v : VecFields} {s : State} (hs : Keeps z s) : Out.Keeps z (execVfrsqstep c v s) := by
  unfold execVfrsqstep
  exact Out.keeps_next (issue_keeps hs)

theorem execVddstep_keeps {z : State} {c : CpId} {v : VecFields} {s : State} (hs : Keeps z s) : Out.Keeps z (execVddstep c v s) := by
  unfold execVddstep
  exact Out.keeps_next (issue_keeps hs)

theorem execVectorIssueResume_keeps {z : State} {c0 : CpId} {s : State} (hs : Keeps z s) : Out.Keeps z (execVectorIssueResume c0 s) := by
  unfold execVectorIssueResume
  extract_lets +onlyGivenNames x1
  clear_value x1
  split
  · extract_lets +onlyGivenNames x2
    have h3 : Keeps z x2 := State.modCp_keeps hs
    clear_value x2
    exact Out.keeps_next (State.finish_keeps h3 (doIssue_keeps h3))
  · exact Out.keeps_next hs

theorem execSvfsub_keeps {z : State} {c : CpId} {v : VecFields} {s : State} (hs : Keeps z s) : Out.Keeps z (execSvfsub c v s) := by
  unfold execSvfsub
  exact Out.keeps_next (short_keeps hs)

theorem execSvfmul_keeps {z : State} {c : CpId} {v : VecFields} {s : State} (hs : Keeps z s) : Out.Keeps z (execSvfmul c v s) := by
  unfold execSvfmul
  exact Out.keeps_next (short_keeps hs)

theorem execSvfmax_keeps {z : State} {c : CpId} {v : VecFields} {s : State} (hs : Keeps z s) : Out.Keeps z (execSvfmax c v s) := by
  unfold execSvfmax
  exact Out.keeps_next (short_keeps hs)

theorem execSvfabs_keeps {z : State} {c : CpId} {v : VecFields} {s : State} (hs : Keeps z s) : Out.Keeps z (execSvfabs c v s) := by
  unfold execSvfabs
  exact Out.keeps_next (short_keeps hs)

theorem execSvfneg_keeps {z : State} {c : CpId} {v : VecFields} {s : State} (hs : Keeps z s) : Out.Keeps z (execSvfneg c v s) := by
  unfold execSvfneg
  exact Out.keeps_next (short_keeps hs)

theorem execSvfcpys_keeps {z : State} {c : CpId} {v : VecFields} {s : State} (hs : Keeps z s) : Out.Keeps z (execSvfcpys c v s) := by
  unfold execSvfcpys
  exact Out.keeps_next (short_keeps hs)

theorem execSvfma_keeps {z : State} {c : CpId} {v : VecFields} {s : State} (hs : Keeps z s) : Out.Keeps z (execSvfma c v s) := by
  unfold execSvfma
  exact Out.keeps_next (short_keeps hs)

theorem execSvfms_keeps {z : State} {c : CpId} {v : VecFields} {s : State} (hs : Keeps z s) : Out.Keeps z (execSvfms c v s) := by
  unfold execSvfms
  exact Out.keeps_next (short_keeps hs)

theorem execSvfnma_keeps {z : State} {c : CpId} {v : VecFields} {s : State} (hs : Keeps z s) : Out.Keeps z (execSvfnma c v s) := by
  unfold execSvfnma
  exact Out.keeps_next (short_keeps hs)

theorem execSvfcvt_keeps {z : State} {c : CpId} {v : VecFields} {s : State} (hs : Keeps z s) : Out.Keeps z (execSvfcvt c v s) := by
  unfold execSvfcvt
  exact Out.keeps_next (short_keeps hs)

theorem execSvfcvti_keeps {z : State} {c : CpId} {v : VecFields} {s : State} (hs : Keeps z s) : Out.Keeps z (execSvfcvti c v s) := by
  unfold execSvfcvti
  exact Out.keeps_next (short_keeps hs)

theorem execSvadd_keeps {z : State} {c : CpId} {v : VecFields} {s : State} (hs : Keeps z s) : Out.Keeps z (execSvadd c v s) := by
  unfold execSvadd
  exact Out.keeps_next (short_keeps hs)

theorem execSvsub_keeps {z : State} {c : CpId} {v : VecFields} {s : State} (hs : Keeps z s) : Out.Keeps z (execSvsub c v s) := by
  unfold execSvsub
  exact Out.keeps_next (short_keeps hs)

theorem execSvsubs_keeps {z : State} {c : CpId} {v : VecFields} {s : State} (hs : Keeps z s) : Out.Keeps z (execSvsubs c v s) := by
  unfold execSvsubs
  exact Out.keeps_next (short_keeps hs)

theorem execSvmulh_keeps {z : State} {c : CpId} {v : VecFields} {s : State} (hs : Keeps z s) : Out.Keeps z (execSvmulh c v s) := by
  unfold execSvmulh
  exact Out.keeps_next (short_keeps hs)

theorem execSvmin_keeps {z : State} {c : CpId} {v : VecFields} {s : State} (hs : Keeps z s) : Out.Keeps z (execSvmin c v s) := by
  unfold execSvmin
  exact Out.keeps_next (short_keeps hs)

theorem execSvor_keeps {z : State} {c : CpId} {v : VecFields} {s : State} (hs : Keeps z s) : Out.Keeps z (execSvor c v s) := by
  unfold execSvor
  exact Out.keeps_next (short_keeps hs)

theorem execSvxor_keeps {z : State} {c : CpId} {v : VecFields} {s : State} (hs : Keeps z s) : Out.Keeps z (execSvxor c v s) := by
  unfold execSvxor
  exact Out.keeps_next (short_keeps hs)

theorem execSvandn_keeps {z : State} {c : CpId} {v : VecFields} {s : State} (hs : Keeps z s) : Out.Keeps z (execSvandn c v s) := by
  unfold execSvandn
  exact Out.keeps_next (short_keeps hs)

theorem execSvnot_keeps {z : State} {c : CpId} {v : VecFields} {s : State} (hs : Keeps z s) : Out.Keeps z (execSvnot c v s) := by
  unfold execSvnot
  exact Out.keeps_next (short_keeps hs)

theorem execSvshr_keeps {z : State} {c : CpId} {v : VecFields} {s : State} (hs : Keeps z s) : Out.Keeps z (execSvshr c v s) := by
  unfold execSvshr
  exact Out.keeps_next (short_keeps hs)

theorem execSvsar_keeps {z : State} {c : CpId} {v : VecFields} {s : State} (hs : Keeps z s) : Out.Keeps z (execSvsar c v s) := by
  unfold execSvsar
  exact Out.keeps_next (short_keeps hs)

theorem execSvabs_keeps {z : State} {c : CpId} {v : VecFields} {s : State} (hs : Keeps z s) : Out.Keeps z (execSvabs c v s) := by
  unfold execSvabs
  exact Out.keeps_next (short_keeps hs)

theorem execSvneg_keeps {z : State} {c : CpId} {v : VecFields} {s : State} (hs : Keeps z s) : Out.Keeps z (execSvneg c v s) := by
  unfold execSvneg
  exact Out.keeps_next (short_keeps hs)

theorem execSvpopc_keeps {z : State} {c : CpId} {v : VecFields} {s : State} (hs : Keeps z s) : Out.Keeps z (execSvpopc c v s) := by
  unfold execSvpopc
  exact Out.keeps_next (short_keeps hs)

theorem execSvsel_keeps {z : State} {c : CpId} {v : VecFields} {s : State} (hs : Keeps z s) : Out.Keeps z (execSvsel c v s) := by
  unfold execSvsel
  exact Out.keeps_next (short_keeps hs)

theorem execSvfill_keeps {z : State} {c : CpId} {v : VecFields} {s : State} (hs : Keeps z s) : Out.Keeps z (execSvfill c v s) := by
  unfold execSvfill
  exact Out.keeps_next (short_keeps hs)

theorem execSviota_keeps {z : State} {c : CpId} {v : VecFields} {s : State} (hs : Keeps z s) : Out.Keeps z (execSviota c v s) := by
  unfold execSviota
  exact Out.keeps_next (short_keeps hs)

theorem execSvcmpeq_keeps {z : State} {c : CpId} {v : VecFields} {s : State} (hs : Keeps z s) : Out.Keeps z (execSvcmpeq c v s) := by
  unfold execSvcmpeq
  exact Out.keeps_next (short_keeps hs)

theorem execSvcmpne_keeps {z : State} {c : CpId} {v : VecFields} {s : State} (hs : Keeps z s) : Out.Keeps z (execSvcmpne c v s) := by
  unfold execSvcmpne
  exact Out.keeps_next (short_keeps hs)

theorem execSvcmplt_keeps {z : State} {c : CpId} {v : VecFields} {s : State} (hs : Keeps z s) : Out.Keeps z (execSvcmplt c v s) := by
  unfold execSvcmplt
  exact Out.keeps_next (short_keeps hs)

theorem execSvcmpgt_keeps {z : State} {c : CpId} {v : VecFields} {s : State} (hs : Keeps z s) : Out.Keeps z (execSvcmpgt c v s) := by
  unfold execSvcmpgt
  exact Out.keeps_next (short_keeps hs)

theorem execSvrsum_keeps {z : State} {c : CpId} {v : VecFields} {s : State} (hs : Keeps z s) : Out.Keeps z (execSvrsum c v s) := by
  unfold execSvrsum
  exact Out.keeps_next (short_keeps hs)

theorem execSvrmin_keeps {z : State} {c : CpId} {v : VecFields} {s : State} (hs : Keeps z s) : Out.Keeps z (execSvrmin c v s) := by
  unfold execSvrmin
  exact Out.keeps_next (short_keeps hs)

theorem execSvrmax_keeps {z : State} {c : CpId} {v : VecFields} {s : State} (hs : Keeps z s) : Out.Keeps z (execSvrmax c v s) := by
  unfold execSvrmax
  exact Out.keeps_next (short_keeps hs)

theorem execSvror_keeps {z : State} {c : CpId} {v : VecFields} {s : State} (hs : Keeps z s) : Out.Keeps z (execSvror c v s) := by
  unfold execSvror
  exact Out.keeps_next (short_keeps hs)

theorem execSvrsumo_keeps {z : State} {c : CpId} {v : VecFields} {s : State} (hs : Keeps z s) : Out.Keeps z (execSvrsumo c v s) := by
  unfold execSvrsumo
  exact Out.keeps_next (short_keeps hs)

theorem execSvrcnt_keeps {z : State} {c : CpId} {v : VecFields} {s : State} (hs : Keeps z s) : Out.Keeps z (execSvrcnt c v s) := by
  unfold execSvrcnt
  exact Out.keeps_next (short_keeps hs)

theorem execSvrfirst_keeps {z : State} {c : CpId} {v : VecFields} {s : State} (hs : Keeps z s) : Out.Keeps z (execSvrfirst c v s) := by
  unfold execSvrfirst
  exact Out.keeps_next (short_keeps hs)

theorem execSvld_keeps {z : State} {c : CpId} {v : VecFields} {s : State} (hs : Keeps z s) : Out.Keeps z (execSvld c v s) := by
  unfold execSvld
  extract_lets +onlyGivenNames x1
  clear_value x1
  refine Out.keeps_next (State.runInsn_keeps hs (fun x2 => fun x3 => fun h4 => loadBytes_keeps h4 (fun x5 => fun x6 => fun x7 => fun h8 => ?_)))
  extract_lets +onlyGivenNames x9 x11 x12 x13
  have h10 : Keeps z x9.2 := State.shortMask_keeps h8
  clear_value x9 x11 x12 x13
  exact Flow.keeps_next (State.modA_keeps h10)

theorem execSvst_keeps {z : State} {c : CpId} {v : VecFields} {s : State} (hs : Keeps z s) : Out.Keeps z (execSvst c v s) := by
  unfold execSvst
  extract_lets +onlyGivenNames x1
  clear_value x1
  refine Out.keeps_next (State.runInsn_keeps hs (fun x2 => fun x3 => fun h4 => ?_))
  extract_lets +onlyGivenNames x5 x7 x8
  have h6 : Keeps z x5.2 := State.shortMask_keeps h4
  clear_value x5 x7 x8
  exact doStore_keeps h6

theorem execSvperm_keeps {z : State} {c : CpId} {v : VecFields} {s : State} (hs : Keeps z s) : Out.Keeps z (execSvperm c v s) := by
  unfold execSvperm
  exact Out.keeps_next (short_keeps hs)

theorem execSvbcast_keeps {z : State} {c : CpId} {v : VecFields} {s : State} (hs : Keeps z s) : Out.Keeps z (execSvbcast c v s) := by
  unfold execSvbcast
  exact Out.keeps_next (short_keeps hs)

theorem execSvdot4_keeps {z : State} {c : CpId} {v : VecFields} {s : State} (hs : Keeps z s) : Out.Keeps z (execSvdot4 c v s) := by
  unfold execSvdot4
  exact Out.keeps_next (short_keeps hs)

theorem execSvwmul_keeps {z : State} {c : CpId} {v : VecFields} {s : State} (hs : Keeps z s) : Out.Keeps z (execSvwmul c v s) := by
  unfold execSvwmul
  exact Out.keeps_next (short_keeps hs)

theorem execDsetc_keeps {z : State} {c : CpId} {v : VecFields} {s : State} (hs : Keeps z s) : Out.Keeps z (execDsetc c v s) := by
  unfold execDsetc
  exact Out.keeps_next (State.runInsn_keeps hs (fun x1 => fun x2 => fun h3 => Flow.keeps_next (State.setD_keeps h3)))

theorem execDseto_keeps {z : State} {c : CpId} {v : VecFields} {s : State} (hs : Keeps z s) : Out.Keeps z (execDseto c v s) := by
  unfold execDseto
  exact Out.keeps_next (State.runInsn_keeps hs (fun x1 => fun x2 => fun h3 => Flow.keeps_next (State.setDPart_keeps h3)))

theorem execDsets_keeps {z : State} {c : CpId} {v : VecFields} {s : State} (hs : Keeps z s) : Out.Keeps z (execDsets c v s) := by
  unfold execDsets
  exact Out.keeps_next (State.runInsn_keeps hs (fun x1 => fun x2 => fun h3 => Flow.keeps_next (State.setDPart_keeps h3)))

theorem execDadv_keeps {z : State} {c : CpId} {v : VecFields} {s : State} (hs : Keeps z s) : Out.Keeps z (execDadv c v s) := by
  unfold execDadv
  extract_lets +onlyGivenNames x1 x2
  refine Out.keeps_next (State.runInsn_keeps hs (fun x3 => fun x4 => fun h5 => ?_))
  split
  · exact poisonD_keeps (Keeps.eq2 (by assumption) (State.readD_keeps h5))
  · extract_lets +onlyGivenNames x6
    clear_value x6
    exact Flow.keeps_next (State.setD_keeps (Keeps.eq2 (by assumption) (State.readD_keeps h5)))

theorem execDget_keeps {z : State} {c : CpId} {v : VecFields} {s : State} (hs : Keeps z s) : Out.Keeps z (execDget c v s) := by
  unfold execDget
  refine Out.keeps_next (State.runInsn_keeps hs (fun x1 => fun x2 => fun h3 => ?_))
  split
  · exact poisonD_keeps (Keeps.eq2 (by assumption) (State.readD_keeps h3))
  · exact Flow.keeps_next (State.setG_keeps (Keeps.eq2 (by assumption) (State.readD_keeps h3)))

theorem execDgetc_keeps {z : State} {c : CpId} {v : VecFields} {s : State} (hs : Keeps z s) : Out.Keeps z (execDgetc c v s) := by
  unfold execDgetc
  refine Out.keeps_next (State.runInsn_keeps hs (fun x1 => fun x2 => fun h3 => ?_))
  split
  · exact poisonD_keeps (Keeps.eq2 (by assumption) (State.readD_keeps h3))
  · exact Flow.keeps_next (State.setK_keeps (Keeps.eq2 (by assumption) (State.readD_keeps h3)))

theorem execDcopy_keeps {z : State} {c : CpId} {v : VecFields} {s : State} (hs : Keeps z s) : Out.Keeps z (execDcopy c v s) := by
  unfold execDcopy
  refine Out.keeps_next (State.runInsn_keeps hs (fun x1 => fun x2 => fun h3 => ?_))
  split
  · exact poisonD_keeps (Keeps.eq2 (by assumption) (State.readD_keeps h3))
  · exact Flow.keeps_next (State.setD_keeps (Keeps.eq2 (by assumption) (State.readD_keeps h3)))

theorem execChainWaitExpiry_keeps {z : State} {c0 : CpId} {s : State} (hs : Keeps z s) : Out.Keeps z (execChainWaitExpiry c0 s) := by
  unfold execChainWaitExpiry
  extract_lets +onlyGivenNames x1
  clear_value x1
  exact Out.keeps_next (Keeps.ite (State.vqSettle_keeps (State.modVq_keeps hs)) hs)

theorem State.shadowBack_keeps {z s : State} {p : PartId} (hs : Keeps z s) : Keeps z (State.shadowBack s p) := by
  unfold State.shadowBack
  exact Keeps.ite (State.wr_keeps hs) hs

theorem execStripDispatch_keeps {z : State} {p : PartId} {s : State} (hs : Keeps z s) : Out.Keeps z (execStripDispatch p s) := by
  unfold execStripDispatch
  extract_lets +onlyGivenNames x1 x6 x8 x9 x10 x11
  have h2 : Keeps z x1 := State.shadowBack_keeps (Keeps.foldl (fun x3 => fun x4 => fun h5 => State.vqSettle_keeps h5) hs)
  have h7 : Keeps z x6 := Keeps.ite (State.detLost_keeps h2) h2
  have h12 : Keeps z x11 := by
    unfold x11
    refine Keeps.foldl (fun x13 => fun x14 => fun h15 => ?_) h7
    split
    · exact Keeps.ite h15 (State.modVq_keeps (State.light_keeps h15))
    · exact h15
  clear_value x1 x6 x8 x9 x10 x11
  split
  · exact Out.keeps_next (State.dispatch_keeps h12)
  · exact Out.keeps_next h12

theorem execStripFault_keeps {z : State} {c0 : CpId} {k : BitVec 30} {s : State} (hs : Keeps z s) : Out.Keeps z (execStripFault c0 k s) := by
  unfold execStripFault
  extract_lets +onlyGivenNames x1 x2
  clear_value x1 x2
  split
  · extract_lets +onlyGivenNames x3
    clear_value x3
    refine Out.keeps_ite (Out.keeps_next hs) ?_
    extract_lets +onlyGivenNames x4
    have h5 : Keeps z x4.2 := State.runStrip_keeps hs
    clear_value x4
    split
    · exact Out.keeps_next (State.modVq_keeps h5)
    · exact Out.keeps_next hs
  · exact Out.keeps_next hs

theorem execVectorQueueFreeze_keeps {z : State} {c0 : CpId} {s : State} (hs : Keeps z s) : Out.Keeps z (execVectorQueueFreeze c0 s) := by
  unfold execVectorQueueFreeze
  extract_lets +onlyGivenNames x1 x2
  clear_value x1 x2
  split
  · exact Out.keeps_next hs
  · refine Out.keeps_ite (Out.keeps_next hs) ?_
    extract_lets +onlyGivenNames x3 x4 x6
    have h5 : Keeps z x4 := State.shadowCompare_keeps hs
    have h7 : Keeps z x6 := Keeps.ite (State.modVq_keeps h5) h5
    clear_value x3 x4 x6
    exact Out.keeps_next (State.freeze_keeps h7)

theorem execVqResume_keeps {z : State} {c : CpId} {s : State} (hs : Keeps z s) : Out.Keeps z (execVqResume c s) := by
  unfold execVqResume
  exact Out.keeps_next (State.vqCommand_keeps hs)

theorem execVqFlush_keeps {z : State} {c : CpId} {s : State} (hs : Keeps z s) : Out.Keeps z (execVqFlush c s) := by
  unfold execVqFlush
  exact Out.keeps_next (State.vqCommand_keeps hs)

theorem execVqStop_keeps {z : State} {c : CpId} {s : State} (hs : Keeps z s) : Out.Keeps z (execVqStop c s) := by
  unfold execVqStop
  exact Out.keeps_next (State.vqCommand_keeps hs)

theorem execVqStart_keeps {z : State} {c : CpId} {s : State} (hs : Keeps z s) : Out.Keeps z (execVqStart c s) := by
  unfold execVqStart
  exact Out.keeps_next (State.vqCommand_keeps hs)

theorem execVsave_keeps {z : State} {c : CpId} {slot : Fin 64} {s : State} (hs : Keeps z s) : Out.Keeps z (execVsave c slot s) := by
  unfold execVsave
  exact Out.keeps_next (State.vqCommand_keeps hs)

theorem execVrestore_keeps {z : State} {c : CpId} {slot : Fin 64} {s : State} (hs : Keeps z s) : Out.Keeps z (execVrestore c slot s) := by
  unfold execVrestore
  exact Out.keeps_next (State.vqCommand_keeps hs)

theorem execVqDiscard_keeps {z : State} {c : CpId} {slot : Fin 64} {s : State} (hs : Keeps z s) : Out.Keeps z (execVqDiscard c slot s) := by
  unfold execVqDiscard
  exact Out.keeps_next (State.vqCommand_keeps hs)

theorem execPipePark_keeps {z : State} {pipe : Fin 64} {s : State} (hs : Keeps z s) : Out.Keeps z (execPipePark pipe s) := by
  unfold execPipePark
  exact Out.keeps_next (State.parkPipe_keeps hs)

theorem execLeadExpiry_keeps {z : State} {q : QuadId} {s : State} (hs : Keeps z s) : Out.Keeps z (execLeadExpiry q s) := by
  unfold execLeadExpiry
  refine Out.keeps_ite ?_ (Out.keeps_next hs)
  extract_lets +onlyGivenNames x1 x2
  have h3 : Keeps z x2 := Keeps.foldl (fun x4 => fun x5 => fun h6 => State.modPart_keeps h6) hs
  clear_value x1 x2
  exact Out.keeps_next (State.wr_keeps (State.wr_keeps h3))

theorem execLdadvZeroHoldEnd_keeps {z : State} {q : QuadId} {s : State} (hs : Keeps z s) : Out.Keeps z (execLdadvZeroHoldEnd q s) := by
  unfold execLdadvZeroHoldEnd
  extract_lets +onlyGivenNames x1
  clear_value x1
  exact Out.keeps_next (State.announce_keeps (State.modLa_keeps hs))

end Sys2Proof.Machine
end

