-- ==== Sys2Proof/Laws/KeepsMem.lean ====
section
/-! SUPPORT. What page commands, upkeep, events, the network, the DMA engines and Ethernet keep: one lemma for each operation and each meaning. -/

namespace Sys2Proof.Machine

theorem execShootdownComplete_keeps {z : State} {p : PartId} {s : State} (hs : Keeps z s) : Out.Keeps z (execShootdownComplete p s) := by
  unfold execShootdownComplete
  exact Out.keeps_next (State.modPart_keeps hs)

theorem State.modSes_keeps {z s : State} {n : Nat} {f : Sess → Sess} (hs : Keeps z s) : Keeps z (State.modSes s n f) := by
  unfold State.modSes
  exact State.modN_keeps hs

theorem State.dropSes_keeps {z s : State} {n st : Nat} (hs : Keeps z s) : Keeps z (State.dropSes s n st) := by
  unfold State.dropSes
  exact State.wr_keeps (State.modSes_keeps hs)

theorem State.emit_keeps {z s : State} {n : Nat} {f : OutFrame} (hs : Keeps z s) : Keeps z (State.emit s n f) := by
  unfold State.emit
  exact State.leave_keeps hs

theorem State.openSes_keeps {z s : State} {n : Nat} {f : KwtFrame} (hs : Keeps z s) : Keeps z (State.openSes s n f) := by
  unfold State.openSes
  extract_lets +onlyGivenNames x1 x3 x5 x6 x8
  have h2 : Keeps z x1 := State.dropSes_keeps hs
  have h4 : Keeps z x3.2 := State.fresh_keeps h2
  have h7 : Keeps z x6 := State.wr_keeps (State.wr_keeps (State.wr_keeps h4))
  have h9 : Keeps z x8 := State.modSes_keeps h7
  clear_value x1 x3 x5 x6 x8
  exact State.emit_keeps h9

theorem State.tokenCheck_keeps {z s : State} {f : KwtFrame} {right len : Nat} {bounded : Bool}
    (hs : Keeps z s) : Keeps z (State.tokenCheck s f right len bounded).2 := by
  unfold State.tokenCheck
  extract_lets +onlyGivenNames x1 x2 x3 x5 x7
  have h4 : Keeps z x3.2 := State.inject_keeps hs
  have h6 : Keeps z x5 := h4
  clear_value x1 x2 x3 x5 x7
  refine Keeps.ite2 (Keeps.mk2 (State.bucket_keeps (State.cntSat_keeps h6))) ?_
  extract_lets +onlyGivenNames x8 x9 x10
  clear_value x8 x9 x10
  exact Keeps.mk2 (Keeps.ite (State.cntSat_keeps h6) h6)

theorem State.stage2_keeps {z s : State} {f : KwtFrame} (hs : Keeps z s) : Keeps z (State.stage2 s f).2 := by
  unfold State.stage2
  extract_lets +onlyGivenNames x1 x2
  clear_value x1 x2
  exact Keeps.ite2 hs (Keeps.ite2 (State.tokenCheck_keeps hs) (Keeps.ite2 (State.tokenCheck_keeps hs) (Keeps.ite2 (State.tokenCheck_keeps hs) hs)))

theorem State.pump_keeps {z s : State} {n y2 : Nat} (hs : Keeps z s) : Keeps z (State.pump s n y2) := by
  revert hs; fun_induction State.pump s n y2 <;> intro hs
  · exact hs
  · exact hs
  · apply_assumption
    exact State.emit_keeps (State.modSes_keeps hs)
  · apply_assumption
    exact State.emit_keeps (State.modSes_keeps hs)
  · exact hs

theorem State.hostAck_keeps {z s : State} {n : Nat} {a : BitVec 32} {sack : Word} (hs : Keeps z s) : Keeps z (State.hostAck s n a sack) := by
  unfold State.hostAck
  extract_lets +onlyGivenNames x1 x2 x3 x5 x6
  have h4 : Keeps z x3 := State.modSes_keeps hs
  have h7 : Keeps z x6 := by
    unfold x6
    refine Keeps.foldl (fun x8 => fun x9 => fun h10 => ?_) h4
    extract_lets +onlyGivenNames x11 x12
    clear_value x11 x12
    exact State.emit_keeps (State.modSes_keeps h10)
  clear_value x1 x2 x3 x5 x6
  exact State.pump_keeps h7

theorem State.queueTx_keeps {z s : State} {n : Nat} {f : OutFrame} (hs : Keeps z s) : Keeps z (State.queueTx s n f) := by
  unfold State.queueTx
  extract_lets +onlyGivenNames x1 x2
  clear_value x1
  unfold x2
  extract_lets +onlyGivenNames x3 x5
  have h4 : Keeps z x3 := Keeps.ite (Keeps.same (s := s) hs ⟨rfl, rfl, rfl, rfl, rfl, rfl, rfl, rfl, rfl, rfl⟩) hs
  clear_value x3 x5
  refine Keeps.ite (State.emit_keeps h4) ?_
  extract_lets +onlyGivenNames x6
  have h7 : Keeps z x6 := State.modSes_keeps h4
  clear_value x6
  exact State.pump_keeps h7

theorem State.ackWith_keeps {z s : State} {n : Nat} {flags : BitVec 16} {resync : Nat}
    (hs : Keeps z s) : Keeps z (State.ackWith s n flags resync) := by
  unfold State.ackWith
  extract_lets +onlyGivenNames x1 x2
  have h3 : Keeps z x2 := State.modSes_keeps hs
  clear_value x1 x2
  exact State.queueTx_keeps h3

theorem State.ack_keeps {z s : State} {n : Nat} (hs : Keeps z s) : Keeps z (State.ack s n) := by
  unfold State.ack
  exact State.ackWith_keeps hs

theorem State.ackUnless_keeps {z s : State} {n before : Nat} (hs : Keeps z s) : Keeps z (State.ackUnless s n before) := by
  unfold State.ackUnless
  extract_lets +onlyGivenNames x1
  clear_value x1
  exact Keeps.ite (State.modSes_keeps hs) (State.ack_keeps hs)

theorem State.sendSeq_keeps {z s : State} {n : Nat} {op : Byte} {flags : BitVec 16} {off arg : Word} {payload : List Byte}
    (hs : Keeps z s) : Keeps z (State.sendSeq s n op flags off arg payload) := by
  unfold State.sendSeq
  extract_lets +onlyGivenNames x1
  clear_value x1
  exact State.queueTx_keeps (State.wr_keeps hs)

theorem State.resp_keeps {z s : State} {n : Nat} {flags : BitVec 16} {req : BitVec 32} {status fab : Byte} {off : Nat} {payload : List Byte}
    (hs : Keeps z s) : Keeps z (State.resp s n flags req status fab off payload) := by
  unfold State.resp
  exact State.sendSeq_keeps hs

theorem State.pages_keeps {z s : State} {a : Access} {va n : Nat} (hs : Keeps z s) : Keeps z (State.pages s a va n).2 := by
  unfold State.pages
  refine Keeps.foldl2 (fun x1 => fun x2 => fun h3 => ?_) hs
  split
  · extract_lets +onlyGivenNames x4
    have h5 : Keeps z x4.2 := State.translate_keeps h3
    clear_value x4
    split
    · exact h5
    · exact h5
    · exact h5
  · exact h3

theorem State.dmaWait_keeps {z s : State} {key : Nat} (hs : Keeps z s) : Keeps z (State.dmaWait s key) := by
  unfold State.dmaWait
  refine Keeps.ite ?_ hs
  extract_lets +onlyGivenNames x1
  have h2 : Keeps z x1.2 := State.fresh_keeps hs
  clear_value x1
  exact State.cnt_keeps h2

theorem State.getSpans_keeps {z s : State} {spans : List (Nat × Nat)} (hs : Keeps z s) : Keeps z (State.getSpans s spans).2.2 := by
  unfold State.getSpans
  refine Keeps.foldl3 (fun x1 => fun x2 => fun h3 => ?_) hs
  extract_lets +onlyGivenNames x4
  have h5 : Keeps z x4.2 := State.readBy_keeps (State.dmaWait_keeps h3)
  clear_value x4
  exact Keeps.mk2 (Keeps.ite (State.bucket_keeps h5) h5)

theorem State.readPiece_keeps {z s : State} {n : Nat} (hs : Keeps z s) : Keeps z (State.readPiece s n) := by
  unfold State.readPiece
  split
  · exact hs
  · extract_lets +onlyGivenNames x1 x2
    clear_value x1
    unfold x2
    extract_lets +onlyGivenNames x3
    have h4 : Keeps z x3.2 := State.pages_keeps hs
    clear_value x3
    split
    · extract_lets +onlyGivenNames x5
      have h6 : Keeps z x5.2.2 := State.getSpans_keeps h4
      clear_value x5
      refine Keeps.ite (State.resp_keeps (State.modSes_keeps h6)) ?_
      extract_lets +onlyGivenNames x7 x8
      have h9 : Keeps z x8 := State.modSes_keeps h6
      clear_value x7 x8
      exact State.resp_keeps h9
    · exact h4
    · exact State.resp_keeps (State.modSes_keeps h4)

theorem State.flushReads_keeps {z s : State} {n : Nat} (hs : Keeps z s) : Keeps z (State.flushReads s n) := by
  unfold State.flushReads
  extract_lets +onlyGivenNames x1
  clear_value x1
  exact Keeps.foldl (fun x2 => fun x3 => fun h4 => State.readPiece_keeps h4) hs

theorem State.advance_keeps {z s : State} {n : Nat} {f : KwtFrame} (hs : Keeps z s) : Keeps z (State.advance s n f) := by
  unfold State.advance
  extract_lets +onlyGivenNames x1
  have h2 : Keeps z x1 := State.wr_keeps hs
  clear_value x1
  exact State.modSes_keeps h2

theorem State.putSpans_keeps {z s : State} {spans : List (Nat × Nat)} {bs : List Byte} (hs : Keeps z s) : Keeps z (State.putSpans s spans bs) := by
  unfold State.putSpans
  exact Keeps.foldl2 (fun x1 => fun x2 => fun h3 => Keeps.mk2 (State.writeBy_keeps (State.dmaWait_keeps h3))) hs

theorem State.submit_keeps {z s : State} {f : KwtFrame} (hs : Keeps z s) : Keeps z (State.submit s f).2 := by
  unfold State.submit
  extract_lets +onlyGivenNames x1 x2
  clear_value x1 x2
  split
  · exact hs
  · refine Keeps.ite2 hs ?_
    extract_lets +onlyGivenNames x3 x4 x5
    clear_value x3 x4 x5
    refine Keeps.ite2 hs (Keeps.ite2 hs ?_)
    extract_lets +onlyGivenNames x6 x7 x8
    clear_value x6 x7 x8
    refine Keeps.ite2 hs (Keeps.ite2 hs ?_)
    extract_lets +onlyGivenNames x9 x10
    have h11 : Keeps z x10.2 := State.pages_keeps hs
    clear_value x9 x10
    split
    · exact Keeps.mk2 (State.wr_keeps (State.putSpans_keeps h11))
    · exact h11
    · exact h11

theorem State.thresh_keeps {z s : State} {f : KwtFrame} (hs : Keeps z s) : Keeps z (State.thresh s f) := by
  unfold State.thresh
  extract_lets +onlyGivenNames x1 x2 x3
  clear_value x1 x2 x3
  exact Keeps.ite (State.fire_keeps hs) hs

theorem NetHooks.none_keeps : NetHooks.none.Keeps := fun _ _ _ hs => ⟨⟨hs, fun _ ht => ht⟩, hs⟩

theorem State.perform_keeps {z s t : State} {h : NetHooks} {n : Nat} {f : KwtFrame} {status : Byte} (hh : h.Keeps)
    (e : s.perform h n f status = some t) (hs : Keeps z s) : Keeps z t := by
  unfold State.perform at e
  dsimp only at e
  have h1 : Keeps z (if f.op = 0x11 then s else s.flushReads n) := Keeps.ite hs (State.flushReads_keeps hs)
  have ans : ∀ u st, Keeps z u → Keeps z ((u.advance n f).resp n 0 f.seq st 0 0 []) := fun u st hu => State.resp_keeps (State.advance_keeps hu)
  split at e
  · cases e; exact ans _ _ h1
  · split at e
    · split at e
      · cases e; exact State.advance_keeps (State.putSpans_keeps (State.pages_keeps h1))
      · cases e
      · cases e; exact ans _ _ (State.pages_keeps h1)
    · split at e
      · cases e; exact State.modSes_keeps (State.advance_keeps h1)
      · split at e
        · split at e
          · cases e
          · split at e
            · cases e; exact State.thresh_keeps (State.advance_keeps (State.submit_keeps h1))
            · cases e; exact ans _ _ (State.submit_keeps h1)
        · split at e
          · cases e
            exact Keeps.ite (State.dropSes_keeps (State.ack_keeps (State.advance_keeps h1))) (State.modSes_keeps (State.advance_keeps h1))
          · cases e
            have hc := (hh z _ f h1).1
            exact hc.2 _ (State.resp_keeps (State.advance_keeps hc.1))

theorem State.runReqs_keeps {z s : State} {h : NetHooks} {n k : Nat} (hh : h.Keeps) (hs : Keeps z s) : Keeps z (State.runReqs h n k s) := by
  induction k generalizing s with
  | zero => exact hs
  | succ k ih =>
    unfold State.runReqs
    dsimp only
    refine Keeps.ite hs ?_
    split
    · exact hs
    · split
      · exact hs
      · exact ih (State.modSes_keeps (State.perform_keeps hh (by assumption) hs))

theorem State.acceptIn_keeps {z s : State} {h : NetHooks} {f : KwtFrame} {st : Byte} {n : Nat} (hh : h.Keeps) (hs : Keeps z s) :
    Keeps z (State.acceptIn h s f st n) := by
  unfold State.acceptIn
  extract_lets +onlyGivenNames x1 x2 x3 x5
  have h4 : Keeps z x3 := Keeps.ite (State.hostAck_keeps (State.modSes_keeps hs)) hs
  clear_value x1 x2 x3
  unfold x5
  refine Keeps.ite ?_ (Keeps.ite (State.ack_keeps h4) (Keeps.ite (State.cnt_keeps h4) ?_))
  · extract_lets +onlyGivenNames x6 x7
    have h8 : Keeps z x7 := Keeps.ite (State.ackUnless_keeps h4) h4
    clear_value x6 x7
    exact Keeps.ite (State.ackUnless_keeps h8) h8
  · extract_lets +onlyGivenNames x9
    have h10 : Keeps z x9 := State.modSes_keeps h4
    clear_value x9
    refine Keeps.ite ?_ ?_
    · extract_lets +onlyGivenNames x11 x12
      have h13 : Keeps z x12 := Keeps.ite (State.ackUnless_keeps (State.ack_keeps h10)) (State.ack_keeps h10)
      clear_value x11 x12
      exact Keeps.ite (State.ackUnless_keeps h13) h13
    · extract_lets +onlyGivenNames x14 x15
      have h16 : Keeps z x15 := Keeps.ite (State.ackUnless_keeps (State.runReqs_keeps ((by assumption)) h10)) (State.runReqs_keeps
          ((by assumption)) h10)
      clear_value x14 x15
      exact Keeps.ite (State.ackUnless_keeps h16) h16

theorem State.wlTrigger_keeps {z s : State} {stack : StackId} (hs : Keeps z s) : Keeps z (State.wlTrigger s stack) := by
  unfold State.wlTrigger
  exact State.modM_keeps hs

theorem State.heapWrite_keeps {z s : State} {p : PartId} {top : Bool} {v : Word} (hs : Keeps z s) : Keeps z (State.heapWrite s p top v) := by
  unfold State.heapWrite
  extract_lets +onlyGivenNames x1
  clear_value x1
  refine Keeps.ite ?_ (State.wr_keeps hs)
  extract_lets +onlyGivenNames x2
  have h3 : Keeps z x2 := Keeps.ite (State.wr_keeps hs) (State.wr_keeps hs)
  clear_value x2
  exact State.modPart_keeps h3

theorem State.hintStart_keeps {z s : State} {p : PartId} {f : State → State} (hs : Keeps z s)
    (hf : ∀ w0, Keeps z w0 → Keeps z (f w0)) : Keeps z (State.hintStart s p f) := by
  unfold State.hintStart
  refine Keeps.ite hs ?_
  extract_lets +onlyGivenNames x1
  have h2 : Keeps z x1 := State.wr_keeps (State.wr_keeps hs)
  clear_value x1
  exact hf _ (State.modPart_keeps h2)

theorem State.hintLeaves_keeps {z s : State} {p : PartId} {f : Word → Word} {moves : Word → Bool}
    (hs : Keeps z s) : Keeps z (State.hintLeaves s p f moves) := by
  unfold State.hintLeaves
  extract_lets +onlyGivenNames x1
  clear_value x1
  refine Keeps.foldl (fun x2 => fun x3 => fun h4 => ?_) hs
  extract_lets +onlyGivenNames x5 x6
  have h7 : Keeps z x6 := State.setPte_keeps h4
  clear_value x5 x6
  exact Keeps.ite (State.modPart_keeps h7) h7

theorem State.hintAdd_keeps {z s : State} {p : PartId} {k : HintKind} (hs : Keeps z s) : Keeps z (State.hintAdd s p k) := by
  unfold State.hintAdd
  extract_lets +onlyGivenNames x1
  clear_value x1
  exact State.modPart_keeps hs

theorem State.hintNear_keeps {z s : State} {p : PartId} (hs : Keeps z s) : Keeps z (State.hintNear s p) := by
  unfold State.hintNear
  exact State.hintStart_keeps hs (fun x1 => fun h2 => State.hintLeaves_keeps (State.hintAdd_keeps h2))

theorem State.hintCold_keeps {z s : State} {p : PartId} (hs : Keeps z s) : Keeps z (State.hintCold s p) := by
  unfold State.hintCold
  exact State.hintStart_keeps hs (fun x1 => fun h2 => State.hintLeaves_keeps (State.hintAdd_keeps h2))

theorem State.hintNone_keeps {z s : State} {p : PartId} (hs : Keeps z s) : Keeps z (State.hintNone s p) := by
  unfold State.hintNone
  exact State.hintStart_keeps hs (fun x1 => fun h2 => State.hintLeaves_keeps (State.hintAdd_keeps h2))

theorem State.hintLayout_keeps {z s : State} {p : PartId} {il : BitVec 2} {hash : BitVec 3} {size : BitVec 2}
    (hs : Keeps z s) : Keeps z (State.hintLayout s p il hash size) := by
  unfold State.hintLayout
  refine Keeps.ite hs ?_
  extract_lets +onlyGivenNames x1 x3 x4 x5
  have h2 : Keeps z x1 := State.wr_keeps (State.wr_keeps (State.wr_keeps hs))
  clear_value x1 x3 x4 x5
  exact Keeps.ite (State.wr_keeps h2) (State.hintStart_keeps h2 (fun x6 => fun h7 => State.hintLeaves_keeps (State.hintAdd_keeps h7)))

theorem State.hintPrefault_keeps {z s : State} {p : PartId} (hs : Keeps z s) : Keeps z (State.hintPrefault s p) := by
  unfold State.hintPrefault
  refine State.hintStart_keeps hs (fun x1 => fun h2 => ?_)
  extract_lets +onlyGivenNames x3 x4
  clear_value x3 x4
  refine Keeps.foldl2 (fun x5 => fun x6 => fun h7 => Keeps.ite2 h7 ?_) h2
  extract_lets +onlyGivenNames x8
  clear_value x8
  split
  · refine Keeps.ite2 h7 ?_
    extract_lets +onlyGivenNames x9
    have h10 : Keeps z x9.2 := State.walkReads_keeps h7
    clear_value x9
    refine Keeps.ite2 h10 ?_
    extract_lets +onlyGivenNames x11
    have h12 : Keeps z x11.2 := State.firstTouch_keeps h10
    clear_value x11
    split
    · exact Keeps.mk2 (State.wr_keeps h12)
    · exact h12
  · exact h7

theorem State.hintGuard_keeps {z s : State} {p : PartId} (hs : Keeps z s) : Keeps z (State.hintGuard s p) := by
  unfold State.hintGuard
  refine State.hintStart_keeps hs (fun x1 => fun h2 => ?_)
  extract_lets +onlyGivenNames x3 x4 x5 x6 x7
  have h8 : Keeps z x7 := State.hintAdd_keeps (State.shootdown_keeps h2)
  clear_value x3 x4 x5 x6 x7
  refine Keeps.foldl (fun x9 => fun x10 => fun h11 => ?_) h8
  extract_lets +onlyGivenNames x12 x13
  clear_value x12 x13
  refine Keeps.ite ?_ h11
  extract_lets +onlyGivenNames x14 x15 x20
  have h16 : Keeps z x15 := Keeps.foldl (fun x17 => fun x18 => fun h19 => State.freeSpan_keeps h19) h11
  have h21 : Keeps z x20 := State.modM_keeps h16
  clear_value x14 x15 x20
  exact State.freeSpan_keeps (State.setPte_keeps h21)

theorem State.hintUnguard_keeps {z s : State} {p : PartId} (hs : Keeps z s) : Keeps z (State.hintUnguard s p) := by
  unfold State.hintUnguard
  refine State.hintStart_keeps hs (fun x1 => fun h2 => ?_)
  extract_lets +onlyGivenNames x3 x4
  have h5 : Keeps z x4 := State.hintAdd_keeps h2
  clear_value x3 x4
  exact Keeps.foldl (fun x6 => fun x7 => fun h8 => Keeps.ite (State.setPte_keeps h8) h8) h5

theorem State.hintWrite_keeps {z s : State} {p : PartId} {v : Word} (hs : Keeps z s) : Keeps z (State.hintWrite s p v) := by
  unfold State.hintWrite
  extract_lets +onlyGivenNames x1 x2 x3 x4
  clear_value x1 x2 x3 x4
  refine Keeps.ite hs ?_
  extract_lets +onlyGivenNames x5
  have h6 : Keeps z x5 := State.wr_keeps (State.wr_keeps (State.wr_keeps hs))
  clear_value x5
  exact Keeps.ite (State.hintNear_keeps h6) (Keeps.ite (State.hintCold_keeps h6) (Keeps.ite (State.hintNone_keeps h6) (Keeps.ite
      (State.hintLayout_keeps h6) (Keeps.ite (State.hintPrefault_keeps h6) (Keeps.ite
      (State.hintGuard_keeps h6) (Keeps.ite (State.hintUnguard_keeps h6) h6))))))

theorem State.sessCtl_keeps {z s : State} {n : Nat} {v : BitVec 2} (hs : Keeps z s) : Keeps z (State.sessCtl s n v) := by
  unfold State.sessCtl
  extract_lets +onlyGivenNames x1
  have h2 : Keeps z x1 := State.wrB_keeps hs
  clear_value x1
  refine Keeps.ite h2 (Keeps.ite ?_ (State.dropSes_keeps (State.wr_keeps h2)))
  extract_lets +onlyGivenNames x3
  have h4 : Keeps z x3 := State.wr_keeps h2
  clear_value x3
  exact Keeps.ite (State.wr_keeps h4) h4

theorem State.notifyQueue_keeps {z s : State} {qs : Nat} {arg : Word} (hs : Keeps z s) : Keeps z (State.notifyQueue s qs arg) := by
  unfold State.notifyQueue
  extract_lets +onlyGivenNames x1
  clear_value x1
  refine Keeps.ite (State.wr_keeps hs) ?_
  extract_lets +onlyGivenNames x2
  clear_value x2
  exact State.modN_keeps hs

theorem State.setTok_keeps {z s : State} {i : Nat} {e : TokEnt} (hs : Keeps z s) : Keeps z (State.setTok s i e) := by
  unfold State.setTok
  exact State.modN_keeps hs

theorem State.tokBind_keeps {z s : State} {tp : Fin 17} (hs : Keeps z s) : Keeps z (State.tokBind s tp) := by
  unfold State.tokBind
  extract_lets +onlyGivenNames x1
  unfold x1
  extract_lets +onlyGivenNames x2 x3
  clear_value x2 x3
  refine Keeps.dite (fun h4 => ?_) (fun h21 => State.wr_keeps (State.wr_keeps hs))
  extract_lets +onlyGivenNames x5 x6
  have h7 : Keeps z x6.2 := State.translate_keeps hs
  clear_value x5 x6
  split
  · refine Keeps.ite (State.wr_keeps (State.wr_keeps h7)) ?_
    extract_lets +onlyGivenNames x8
    have h9 : Keeps z x8.2 := State.readBy_keeps h7
    clear_value x8
    refine Keeps.ite (State.wr_keeps (State.wr_keeps h9)) ?_
    extract_lets +onlyGivenNames x10 x12 x13
    have h11 : Keeps z x10.2 := State.readTag_keeps h9
    have h14 : Keeps z x13 := h11
    clear_value x10 x12 x13
    refine Keeps.ite (State.wr_keeps (State.wr_keeps h14)) (Keeps.ite (State.wr_keeps (State.wr_keeps h14)) (Keeps.ite (State.wr_keeps
        (State.wr_keeps h14)) ?_))
    split
    · exact State.wr_keeps (State.wr_keeps h14)
    · extract_lets +onlyGivenNames x15 x16 x17 x18 x19
      have h20 : Keeps z x19 := State.wr_keeps (State.wr_keeps (State.setTok_keeps h14))
      clear_value x15 x16 x17 x18 x19
      exact State.setReg_keeps (State.setReg_keeps h20)
  · exact State.wr_keeps (State.wr_keeps h7)

theorem State.tokUnbind_keeps {z s : State} {tp : Fin 17} {idx : Nat} (hs : Keeps z s) : Keeps z (State.tokUnbind s tp idx) := by
  unfold State.tokUnbind
  extract_lets +onlyGivenNames x1 x2
  have h3 : Keeps z x2 := Keeps.ite (State.setTok_keeps hs) hs
  clear_value x1 x2
  exact State.wr_keeps (State.wr_keeps h3)

theorem State.cuVal_keeps {z s : State} {n : EngId} {v : Word} (hs : Keeps z s) : Keeps z (State.cuVal s n v) := by
  unfold State.cuVal
  extract_lets +onlyGivenNames x1 x2
  clear_value x1 x2
  exact Keeps.ite (State.wr_keeps hs) (State.setReg_keeps hs)

theorem State.modDe_keeps {z s : State} {n : EngId} {f : DeSt → DeSt} (hs : Keeps z s) : Keeps z (State.modDe s n f) := by
  unfold State.modDe
  exact State.modN_keeps hs

theorem State.deQueue_keeps {z s : State} {n : EngId} {w3 : Word} (hs : Keeps z s) : Keeps z (State.deQueue s n w3) := by
  unfold State.deQueue
  exact Keeps.ite (State.wr_keeps hs) (State.modDe_keeps hs)

theorem State.deResume_keeps {z s : State} {n : EngId} (hs : Keeps z s) : Keeps z (State.deResume s n) := by
  unfold State.deResume
  exact State.wr_keeps hs

theorem State.deFlush_keeps {z s : State} {n : EngId} (hs : Keeps z s) : Keeps z (State.deFlush s n) := by
  unfold State.deFlush
  exact State.modDe_keeps hs

theorem State.swTrig_keeps {z s : State} {v : Word} (hs : Keeps z s) : Keeps z (State.swTrig s v) := by
  unfold State.swTrig
  exact Keeps.foldl (fun x1 => fun x2 => fun h3 => Keeps.ite (State.fire_keeps h3) h3) hs

theorem State.commitGo_keeps {z s : State} (hs : Keeps z s) : Keeps z (State.commitGo s) := by
  unfold State.commitGo
  exact Keeps.ite hs (State.modE_keeps (State.wr_keeps hs))

theorem State.groupEn_keeps {z s : State} {g : Fin 8} {on : Bool} (hs : Keeps z s) : Keeps z (State.groupEn s g on) := by
  unfold State.groupEn
  extract_lets +onlyGivenNames x1
  have h2 : Keeps z x1 := State.wrB_keeps hs
  clear_value x1
  exact Keeps.ite h2 (Keeps.foldl (fun x3 => fun x4 => fun h5 => State.wr_keeps h5) h2)

theorem State.bktWrite_keeps {z s : State} {b : Fin 32} {v : Word} (hs : Keeps z s) : Keeps z (State.bktWrite s b v) := by
  unfold State.bktWrite
  exact State.setReg_keeps hs

theorem State.arm_keeps {z s : State} (hs : Keeps z s) : Keeps z (State.arm s) := by
  unfold State.arm
  extract_lets +onlyGivenNames x1
  clear_value x1
  refine Keeps.ite hs (Keeps.ite (State.wr_keeps hs) ?_)
  extract_lets +onlyGivenNames x2
  have h3 : Keeps z x2 := State.wr_keeps hs
  clear_value x2
  refine Keeps.ite ?_ h3
  extract_lets +onlyGivenNames x4
  clear_value x4
  exact Keeps.ite (State.bucket_keeps (State.fired_keeps h3)) h3

theorem State.rawWriteNear_keeps {z s : State} {k : Nat} (hs : Keeps z s) : Keeps z (State.rawWriteNear s k) := by
  unfold State.rawWriteNear
  extract_lets +onlyGivenNames x1 x3 x4 x5 x6
  have h2 : Keeps z x1 := State.nearMove_keeps hs
  have h7 : Keeps z x6 := Keeps.foldl (fun x8 => fun x9 => fun h10 => State.setErr_keeps h10) h2
  clear_value x1 x3 x4 x5 x6
  exact State.dropResv_keeps (State.setErr_keeps (State.putBytes_keeps h7))

theorem State.rawReadNear_keeps {z s : State} {k : Nat} (hs : Keeps z s) : Keeps z (State.rawReadNear s k) := by
  unfold State.rawReadNear
  extract_lets +onlyGivenNames x1 x3 x4 x5 x6
  have h2 : Keeps z x1 := State.nearMove_keeps hs
  have h7 : Keeps z x6 := Keeps.foldl (fun x8 => fun x9 => fun h10 => State.setReg_keeps h10) h2
  clear_value x1 x3 x4 x5 x6
  exact State.setReg_keeps h7

theorem State.rawWriteCel_keeps {z s : State} {k : Nat} (hs : Keeps z s) : Keeps z (State.rawWriteCel s k) := by
  unfold State.rawWriteCel
  extract_lets +onlyGivenNames x1 x3 x4 x5 x6 x8
  have h2 : Keeps z x1 := State.celMove_keeps hs
  have h7 : Keeps z x6 := h2
  have h9 : Keeps z x8 := State.putBytes_keeps h2
  clear_value x1 x3 x4 x5 x6 x8
  refine State.dropResv_keeps (Keeps.foldl (fun x10 => fun x11 => fun h12 => ?_) h9)
  extract_lets +onlyGivenNames x13
  clear_value x13
  exact State.setErr_keeps h12

theorem State.rawReadCel_keeps {z s : State} {k : Nat} (hs : Keeps z s) : Keeps z (State.rawReadCel s k) := by
  unfold State.rawReadCel
  extract_lets +onlyGivenNames x1 x3 x4 x6
  have h2 : Keeps z x1 := State.celMove_keeps hs
  have h5 : Keeps z x4 := h2
  have h7 : Keeps z x6 := Keeps.foldl (fun x8 => fun x9 => fun h10 => State.setReg_keeps h10) h2
  clear_value x1 x3 x4 x6
  refine Keeps.foldl (fun x11 => fun x12 => fun h13 => ?_) h7
  extract_lets +onlyGivenNames x14 x15
  clear_value x14 x15
  exact State.setReg_keeps h13

theorem State.rawWriteSpad_keeps {z s : State} {k : Nat} (hs : Keeps z s) : Keeps z (State.rawWriteSpad s k) := by
  unfold State.rawWriteSpad
  extract_lets +onlyGivenNames x1 x2
  clear_value x1 x2
  exact State.writeTag_keeps (State.dropResv_keeps (State.setErr_keeps (State.putBytes_keeps hs)))

theorem State.rawReadSpad_keeps {z s : State} {k : Nat} (hs : Keeps z s) : Keeps z (State.rawReadSpad s k) := by
  unfold State.rawReadSpad
  extract_lets +onlyGivenNames x1 x2
  clear_value x1 x2
  exact State.setReg_keeps (State.setReg_keeps hs)

theorem State.rawAccess_keeps {z s : State} (hs : Keeps z s) : Keeps z (State.rawAccess s) := by
  unfold State.rawAccess
  extract_lets +onlyGivenNames x1 x2 x3 x4
  have h5 : Keeps z x4 := State.wr_keeps hs
  clear_value x1 x2 x3 x4
  refine Keeps.ite (State.wr_keeps h5) (Keeps.ite ?_ (Keeps.ite ?_ (Keeps.ite ?_ (State.wr_keeps h5))))
  · extract_lets +onlyGivenNames x6
    clear_value x6
    exact Keeps.ite (State.rawWriteNear_keeps h5) (State.rawReadNear_keeps h5)
  · extract_lets +onlyGivenNames x7
    clear_value x7
    exact Keeps.ite (State.rawWriteCel_keeps h5) (State.rawReadCel_keeps h5)
  · extract_lets +onlyGivenNames x8
    clear_value x8
    exact Keeps.ite (State.rawWriteSpad_keeps h5) (State.rawReadSpad_keeps h5)

theorem State.calResume_keeps {z s : State} (hs : Keeps z s) : Keeps z (State.calResume s) := by
  unfold State.calResume
  extract_lets +onlyGivenNames x1 x6
  have h2 : Keeps z x1 := Keeps.foldl (fun x3 => fun x4 => fun h5 => State.wr_keeps h5) hs
  have h7 : Keeps z x6 := Keeps.foldl (fun x8 => fun x9 => fun h10 => State.wr_keeps h10) h2
  clear_value x1 x6
  exact State.modM_keeps h7

theorem State.heldPass_keeps {z s : State} {k : Fin 64} (hs : Keeps z s) : Keeps z (State.heldPass s k) := by
  unfold State.heldPass
  exact Keeps.ite (State.chanOut_keeps (fun x1 => fun x2 => fun h3 => State.checkpointPart_keeps h3) (State.chanPass_keeps (State.wr_keeps hs))) hs

theorem State.fecCorr_keeps {z s : State} {p : Nat} (hs : Keeps z s) : Keeps z (State.fecCorr s p) := by
  unfold State.fecCorr
  refine Keeps.ite hs ?_
  extract_lets +onlyGivenNames x1
  have h2 : Keeps z x1.2 := State.fresh_keeps hs
  clear_value x1
  exact State.cnt_keeps h2

theorem State.dropOther_keeps {z s : State} {f : EthFrame} (hs : Keeps z s) : Keeps z (State.dropOther s f) := by
  unfold State.dropOther
  exact State.cntSat_keeps hs

theorem State.stage1_keeps {z s : State} {f : EthFrame} (hs : Keeps z s) : Keeps z (State.stage1 s f).2 := by
  unfold State.stage1
  extract_lets +onlyGivenNames x1
  clear_value x1
  refine Keeps.ite2 hs ?_
  extract_lets +onlyGivenNames x2 x4 x6 x7
  have h3 : Keeps z x2.2 := State.inject_keeps (State.fecCorr_keeps hs)
  have h5 : Keeps z x4 := h3
  clear_value x2 x4 x6 x7
  refine Keeps.ite2 (Keeps.mk2 (State.bucket_keeps (State.cntSat_keeps (State.cnt_keeps h5)))) (Keeps.ite2 (Keeps.mk2 (State.cntSat_keeps h5))
      (Keeps.ite2 (Keeps.mk2 (State.cntSat_keeps h5)) (Keeps.ite2 (Keeps.ite2 (Keeps.mk2 (State.dropOther_keeps h5)) ?_) (Keeps.ite2 (Keeps.mk2
      (State.cntSat_keeps h5)) h5))))
  extract_lets +onlyGivenNames x8
  have h9 : Keeps z x8.2 := State.inject_keeps h5
  clear_value x8
  exact Keeps.ite2 (Keeps.mk2 (State.bucket_keeps (State.cntSat_keeps h9))) h9

theorem State.arpIn_keeps {z s : State} {f : EthFrame} {target : BitVec 32} (hs : Keeps z s) : Keeps z (State.arpIn s f target) := by
  unfold State.arpIn
  exact Keeps.ite (State.leave_keeps hs) (State.dropOther_keeps hs)

theorem State.nsIn_keeps {z s : State} {f : EthFrame} {target : BitVec 128} (hs : Keeps z s) : Keeps z (State.nsIn s f target) := by
  unfold State.nsIn
  exact Keeps.ite (State.leave_keeps hs) (State.dropOther_keeps hs)

theorem State.echoIn_keeps {z s : State} {f : EthFrame} {v6 : Bool} (hs : Keeps z s) : Keeps z (State.echoIn s f v6) := by
  unfold State.echoIn
  extract_lets +onlyGivenNames x1
  clear_value x1
  exact Keeps.ite hs (Keeps.ite (State.leave_keeps hs) (State.dropOther_keeps hs))

theorem State.frameIn_keeps {z : State} {kwt : State → KwtFrame → State} {s : State} {f : EthFrame}
    (hkwt : ∀ w0 w1, Keeps z w0 → Keeps z (kwt w0 w1)) (hs : Keeps z s) : Keeps z (State.frameIn kwt s f) := by
  unfold State.frameIn
  refine Keeps.ite hs ?_
  extract_lets +onlyGivenNames x1
  have h2 : Keeps z x1.2 := State.stage1_keeps hs
  clear_value x1
  refine Keeps.ite h2 ?_
  split
  · exact State.arpIn_keeps h2
  · exact State.nsIn_keeps h2
  · exact State.echoIn_keeps h2
  · exact Keeps.ite (hkwt _ _ h2) (State.dropOther_keeps h2)
  · exact State.dropOther_keeps h2

theorem State.kwtIn_keeps {z s : State} {h : NetHooks} {f : KwtFrame} (hh : h.Keeps) (hs : Keeps z s) : Keeps z (State.kwtIn h s f) := by
  unfold State.kwtIn
  extract_lets +onlyGivenNames x1 x2 x3 x4
  clear_value x1 x2 x3
  unfold x4
  extract_lets +onlyGivenNames x5
  clear_value x5
  refine Keeps.ite (State.cntSat_keeps hs) (Keeps.ite (Keeps.ite (State.cntSat_keeps hs) (State.openSes_keeps (Keeps.ite (NetHooks.keeps_fwd
      (by assumption) hs) hs))) (Keeps.ite (State.cntSat_keeps hs) ?_))
  extract_lets +onlyGivenNames x6 x7
  clear_value x6 x7
  refine Keeps.ite (State.ack_keeps (State.cnt_keeps hs)) (Keeps.ite (State.cntSat_keeps hs) ?_)
  extract_lets +onlyGivenNames x8 x10 x12
  have h9 : Keeps z x8.2 := Keeps.ite2 hs (State.stage2_keeps hs)
  have h11 : Keeps z x10.2 := Keeps.ite2 (State.inject_keeps h9) h9
  have h13 : Keeps z x12 := h11
  clear_value x8 x10 x12
  exact Keeps.ite (State.ack_keeps (State.bucket_keeps (State.cntSat_keeps h13))) (State.acceptIn_keeps ((by assumption)) (Keeps.ite
      (NetHooks.keeps_fwd (by assumption) h13) h13))

theorem State.ptpShift_keeps {z s : State} {d : Int} (hs : Keeps z s) : Keeps z (State.ptpShift s d) := by
  unfold State.ptpShift
  extract_lets +onlyGivenNames x1 x2
  clear_value x1 x2
  exact State.wr_keeps (State.wr_keeps hs)

theorem execEvtOutPulseEnd_keeps {z : State} {n : Fin 4} {s : State} (hs : Keeps z s) : Out.Keeps z (execEvtOutPulseEnd n s) := by
  unfold execEvtOutPulseEnd
  exact Out.keeps_next (State.latchOut_keeps (State.modE_keeps hs))

theorem execIcmpEcho_keeps {z : State} {f : EthFrame} {s : State} (hs : Keeps z s) : Out.Keeps z (execIcmpEcho f s) := by
  unfold execIcmpEcho
  refine Out.keeps_next ?_
  split
  · refine Keeps.ite hs ?_
    extract_lets +onlyGivenNames x1
    have h2 : Keeps z x1.2 := State.stage1_keeps hs
    clear_value x1
    exact Keeps.ite (State.echoIn_keeps h2) h2
  · exact hs

theorem execPgHintPrefault_keeps {z : State} {p : PartId} {s : State} (hs : Keeps z s) : Out.Keeps z (execPgHintPrefault p s) := by
  unfold execPgHintPrefault
  exact Out.keeps_next (State.hintPrefault_keeps hs)

theorem execLatchDelivery_keeps {z : State} {consumer : BitVec 16} {s : State} (hs : Keeps z s) : Out.Keeps z (execLatchDelivery consumer s) := by
  unfold execLatchDelivery
  exact Out.keeps_next (Keeps.ite (State.latchOut_keeps hs) hs)

theorem execAckDelayExpiry_keeps {z : State} {n : SessId} {s : State} (hs : Keeps z s) : Out.Keeps z (execAckDelayExpiry n s) := by
  unfold execAckDelayExpiry
  exact Out.keeps_next (Keeps.ite (State.ack_keeps hs) hs)

theorem execTokenUnbind_keeps {z : State} {tp : Fin 17} {idx : BitVec 16} {s : State} (hs : Keeps z s) : Out.Keeps z (execTokenUnbind tp idx s) := by
  unfold execTokenUnbind
  exact Out.keeps_next (State.tokUnbind_keeps hs)

theorem execReadRespPiece_keeps {z : State} {n : SessId} {s : State} (hs : Keeps z s) : Out.Keeps z (execReadRespPiece n s) := by
  unfold execReadRespPiece
  exact Out.keeps_next (State.readPiece_keeps hs)

theorem execInjDisarm_keeps {z s : State} (hs : Keeps z s) : Out.Keeps z (execInjDisarm s) := by
  unfold execInjDisarm
  exact Out.keeps_next (State.wr_keeps hs)

theorem State.copyTags_keeps {z s : State} {p : PartId} {src : Nat} (hs : Keeps z s) : Keeps z (State.copyTags s p src).2 := by
  unfold State.copyTags
  refine Keeps.foldl2 (fun x1 => fun x2 => fun h3 => ?_) hs
  extract_lets +onlyGivenNames x4
  clear_value x4
  refine Keeps.ite2 ?_ h3
  extract_lets +onlyGivenNames x5
  have h6 : Keeps z x5.2 := State.readTag_keeps h3
  clear_value x5
  exact h6

theorem State.copyUnits_keeps {z s : State} {src : Nat} (hs : Keeps z s) : Keeps z (State.copyUnits s src).2 := by
  unfold State.copyUnits
  extract_lets +onlyGivenNames x1
  clear_value x1
  refine Keeps.foldl2 (fun x2 => fun x3 => fun h4 => ?_) hs
  extract_lets +onlyGivenNames x5
  clear_value x5
  refine Keeps.ite2 ?_ h4
  extract_lets +onlyGivenNames x6
  have h7 : Keeps z x6.2 := Keeps.ite2 (State.readNear_keeps h4) (State.readCel_keeps h4)
  clear_value x6
  exact h7

theorem State.migMove_keeps {z s : State} {src dst : Nat} {tags bad : List Nat} (hs : Keeps z s) : Keeps z (s.migMove src dst tags bad) := by
  unfold State.migMove
  extract_lets s1 s2
  have h1 : Keeps z s1 := State.moveGranules_keeps hs
  have h2 : Keeps z s2 := Keeps.mem h1 ⟨rfl, rfl, rfl, rfl⟩ fun hc => by
    have hc := (State.canonical_iff _).mp hc
    exact ⟨hc.1, mapWf_filter _ _ hc.2.1, mapWf_filter _ _ hc.2.2.1, hc.2.2.2⟩
  clear_value s2
  exact State.granFlip_keeps (Keeps.foldl (fun s u h => State.poisonUnit_keeps h) h2)

theorem State.migCopy_keeps {z s : State} {p : PartId} {src dst : Nat} (hs : Keeps z s) : Keeps z (s.migCopy p src dst) := by
  have h1 := State.copyUnits_keeps (src := src) (State.copyTags_keeps (p := p) (src := src) hs)
  unfold State.migCopy
  exact State.migMove_keeps h1

theorem State.scrubRead_keeps {z s : State} {key : Nat} (hs : Keeps z s) : Keeps z (State.scrubRead s key) := by
  unfold State.scrubRead
  split
  · exact Keeps.ite (State.nearMove_keeps hs) (State.readLine_keeps hs)
  · exact Keeps.ite (State.celMove_keeps hs) (State.readLine_keeps hs)
  · refine Keeps.ite hs ?_
    extract_lets +onlyGivenNames x1
    have h2 : Keeps z x1.2 := State.readGrid_keeps hs
    clear_value x1
    exact Keeps.ite (State.poisonUnit_keeps h2) h2

theorem execCuValWrite_keeps {z : State} {n : EngId} {v : Word} {s : State} (hs : Keeps z s) : Out.Keeps z (execCuValWrite n v s) := by
  unfold execCuValWrite
  exact Out.keeps_next (State.cuVal_keeps hs)

theorem State.laneRepair_keeps {z s : State} {stack : StackId} {pc : Fin 32} {sym : Nat}
    (hs : Keeps z s) : Keeps z (State.laneRepair s stack pc sym) := by
  unfold State.laneRepair
  extract_lets +onlyGivenNames x1 x2
  clear_value x1 x2
  refine Keeps.ite (State.bucket_keeps hs) ?_
  extract_lets +onlyGivenNames x3
  have h4 : Keeps z x3 := State.cntSat_keeps (State.wr_keeps (State.modM_keeps hs))
  clear_value x3
  exact State.seals_keeps h4

theorem execSweepNow_keeps {z s : State} (hs : Keeps z s) : Out.Keeps z (execSweepNow s) := by
  unfold execSweepNow
  exact Out.keeps_next (State.wr_keeps hs)

theorem execPgHintNone_keeps {z : State} {p : PartId} {s : State} (hs : Keeps z s) : Out.Keeps z (execPgHintNone p s) := by
  unfold execPgHintNone
  exact Out.keeps_next (State.hintNone_keeps hs)

theorem execInjArm_keeps {z s : State} (hs : Keeps z s) : Out.Keeps z (execInjArm s) := by
  unfold execInjArm
  exact Out.keeps_next (State.arm_keeps hs)

theorem State.deTail_keeps {z s : State} {n : EngId} {p : PartId} {poly : Nat} {d : Desc} {src dst v : Nat}
    (hs : Keeps z s) : Keeps z (State.deTail s n p poly d src dst v).2 := by
  unfold State.deTail
  extract_lets +onlyGivenNames x1 x2 x3 x5 x7
  have h4 : Keeps z x3.2 := Keeps.ite2 hs (State.inject_keeps hs)
  have h6 : Keeps z x5 := h4
  clear_value x1 x2 x3 x5 x7
  refine Keeps.ite2 (Keeps.ite2 h6 ?_) (Keeps.ite2 ?_ h6)
  · extract_lets +onlyGivenNames x8
    have h9 : Keeps z x8.2 := State.pages_keeps h6
    clear_value x8
    split
    · exact Keeps.mk2 (State.putSpans_keeps h9)
    · exact h9
  · extract_lets +onlyGivenNames x10 x12
    have h11 : Keeps z x10 := State.cnt_keeps h6
    have h13 : Keeps z x12.2 := State.pages_keeps h11
    clear_value x10 x12
    split
    · extract_lets +onlyGivenNames x14
      have h15 : Keeps z x14.2.2 := State.getSpans_keeps h13
      clear_value x14
      exact Keeps.ite2 h15 (Keeps.ite2 h15 (Keeps.mk2 (State.bucket_keeps (State.wr_keeps h15))))
    · exact h13

theorem State.flushPort_keeps {z s : State} {port : Nat} (hs : Keeps z s) : Keeps z (State.flushPort s port) := by
  unfold State.flushPort
  refine Keeps.ite hs ?_
  extract_lets +onlyGivenNames x1
  clear_value x1
  exact Keeps.foldl (fun x2 => fun x3 => fun h4 => State.leave_keeps h4) (State.modN_keeps hs)

theorem execPauseTimeExpiry_keeps {z : State} {port : PortId} {prio : Fin 8} {s : State} (hs : Keeps z s) : Out.Keeps z
    (execPauseTimeExpiry port prio s) := by
  unfold execPauseTimeExpiry
  extract_lets +onlyGivenNames x1
  clear_value x1
  exact Out.keeps_next (State.flushPort_keeps (State.wr_keeps hs))

theorem execSessionCloseComplete_keeps {z : State} {n : SessId} {s : State} (hs : Keeps z s) : Out.Keeps z (execSessionCloseComplete n s) := by
  unfold execSessionCloseComplete
  exact Out.keeps_next (Keeps.ite (State.dropSes_keeps (State.ack_keeps hs)) hs)

theorem State.deEnd_keeps {z s : State} {n : EngId} {st : Byte} {done : Nat} (hs : Keeps z s) : Keeps z (State.deEnd s n st done) := by
  unfold State.deEnd
  split
  · exact hs
  · extract_lets +onlyGivenNames x1 x3 x5 x7 x9
    have h2 : Keeps z x1 := State.modDe_keeps hs
    have h4 : Keeps z x3 := State.wr_keeps (State.wr_keeps h2)
    have h6 : Keeps z x5 := Keeps.ite h4 (State.wr_keeps h4)
    have h8 : Keeps z x7 := State.fire_keeps (State.modE_keeps h6)
    have h10 : Keeps z x9 := Keeps.ite h8 (State.fire_keeps h8)
    clear_value x1 x3 x5 x7 x9
    exact State.latchOut_keeps h10

theorem execSessCtlWrite_keeps {z : State} {n : SessId} {v : BitVec 2} {s : State} (hs : Keeps z s) : Out.Keeps z (execSessCtlWrite n v s) := by
  unfold execSessCtlWrite
  exact Out.keeps_next (State.sessCtl_keeps hs)

theorem execHeapWindowWrite_keeps {z : State} {p : PartId} {top : Bool} {v : Word} {s : State} (hs : Keeps z s) : Out.Keeps z
    (execHeapWindowWrite p top v s) := by
  unfold execHeapWindowWrite
  exact Out.keeps_next (State.heapWrite_keeps hs)

theorem execPgHintNear_keeps {z : State} {p : PartId} {s : State} (hs : Keeps z s) : Out.Keeps z (execPgHintNear p s) := by
  unfold execPgHintNear
  exact Out.keeps_next (State.hintNear_keeps hs)

theorem State.commitEnd_keeps {z s : State} (hs : Keeps z s) : Keeps z (State.commitEnd s) := by
  unfold State.commitEnd
  split
  · exact hs
  · extract_lets +onlyGivenNames x1
    have h2 : Keeps z x1 := State.modE_keeps hs
    clear_value x1
    split
    · extract_lets +onlyGivenNames x3 x5
      have h4 : Keeps z x3.2 := State.fresh_keeps h2
      have h6 : Keeps z x5.2 := by
        unfold x5
        split
        · exact h2
        · exact h4
      clear_value x3 x5
      exact State.wr_keeps (State.wr_keeps (State.wr_keeps h6))
    · split
      · exact State.wr_keeps (State.wr_keeps (State.wr_keeps h2))
      · exact State.modE_keeps (State.wr_keeps (State.wr_keeps (State.wr_keeps h2)))

theorem execEvtCommitDone_keeps {z s : State} (hs : Keeps z s) : Out.Keeps z (execEvtCommitDone s) := by
  unfold execEvtCommitDone
  exact Out.keeps_next (State.commitEnd_keeps hs)

theorem execGranuleZeroed_keeps {z : State} {tier : Tier} {s : State} (hs : Keeps z s) : Out.Keeps z (execGranuleZeroed tier s) := by
  unfold execGranuleZeroed
  extract_lets +onlyGivenNames x1
  clear_value x1
  exact Out.keeps_next (State.modM_keeps hs)

theorem State.sweepGranule_keeps {z s : State} {g : Nat} (hs : Keeps z s) : Keeps z (State.sweepGranule s g) := by
  unfold State.sweepGranule
  split
  · exact hs
  · extract_lets +onlyGivenNames x1
    have h2 : Keeps z x1.2 := State.readTag_keeps hs
    clear_value x1
    exact Keeps.ite (State.writeTag_keeps h2) h2

theorem State.sweepTags_keeps {z s : State} (hs : Keeps z s) : Keeps z (State.sweepTags s) := by
  unfold State.sweepTags
  exact Keeps.foldl (fun x1 => fun x2 => fun h3 => State.sweepGranule_keeps h3) hs

theorem State.dropLeaves_keeps {z s : State} {p : PartId} (hs : Keeps z s) : Keeps z (State.dropLeaves s p) := by
  unfold State.dropLeaves
  exact Keeps.foldl (fun x1 => fun x2 => fun h3 => Keeps.ite (State.setPte_keeps h3) h3) hs

theorem execSweepEpochClose_keeps {z s : State} (hs : Keeps z s) : Out.Keeps z (execSweepEpochClose s) := by
  unfold execSweepEpochClose
  refine Out.keeps_ite (Out.keeps_next hs) ?_
  extract_lets +onlyGivenNames x1 x6
  have h2 : Keeps z x1 := Keeps.foldl (fun x3 => fun x4 => fun h5 => State.qsetRead_keeps h5) (State.sweepTags_keeps hs)
  have h7 : Keeps z x6 := Keeps.foldl (fun x8 => fun x9 => fun h10 => State.modPart_keeps (State.dropLeaves_keeps h10)) h2
  clear_value x1 x6
  exact Out.keeps_next (State.openEpoch_keeps (State.wr_keeps (State.wr_keeps (State.wr_keeps h7))))

theorem State.readSamples_keeps {z s : State} (hs : Keeps z s) : Keeps z s.readSamples.2 := by
  unfold State.readSamples
  induction s.mst.samples with
  | nil => exact hs
  | cons x l ih =>
    rw [List.foldr_cons]
    exact Keeps.ite2 ih (Keeps.ite2 (State.bucket_keeps (State.capture_keeps ih)) (State.bucket_keeps ih))

theorem execHeatPeriodEnd_keeps {z s : State} (hs : Keeps z s) : Out.Keeps z (execHeatPeriodEnd s) := by
  unfold execHeatPeriodEnd
  extract_lets +onlyGivenNames x1 x3 x4 x6 x8
  have h2 : Keeps z x1.2 := State.readSamples_keeps hs
  have h5 : Keeps z x4 := h2
  clear_value x1 x3 x4
  have h7 : Keeps z x6 := Keeps.same (s := x4) h5 ⟨rfl, rfl, rfl, rfl, rfl, rfl, rfl, rfl, rfl, rfl⟩
  have h9 : Keeps z x8 := by
    unfold x8
    refine Keeps.foldl (fun x10 => fun x11 => fun h12 => Keeps.foldl (fun x13 => fun x14 => fun h15 => ?_) h12) h7
    extract_lets +onlyGivenNames x16 x17 x18 x19
    clear_value x16 x17 x18 x19
    exact State.setPte_keeps h15
  clear_value x6 x8
  exact Out.keeps_next (State.modM_keeps h9)

theorem State.turnGranule_keeps {z s t : State} {p : PartId} {tier il hash lcl a b : Nat}
    (e : s.turnGranule p tier il hash lcl = some (a, b, t)) (hs : Keeps z s) : Keeps z t := by
  unfold State.turnGranule at e
  dsimp only at e
  split at e
  · cases e; exact State.takeSpan_keeps hs
  · exact State.takeGranule_keeps e hs

theorem execMigrationStart_keeps {z : State} {p : PartId} {page : BitVec 40} {s : State} (hs : Keeps z s) : Out.Keeps z
    (execMigrationStart p page s) := by
  unfold execMigrationStart
  extract_lets +onlyGivenNames x1
  clear_value x1
  split
  · exact Out.keeps_next hs
  · extract_lets +onlyGivenNames x2
    clear_value x2
    refine Out.keeps_ite (Out.keeps_next hs) ?_
    split
    · exact Out.keeps_next hs
    · extract_lets +onlyGivenNames x3 x5 x6 x7 x8
      have h4 : Keeps z x3 := State.modPart_keeps hs
      clear_value x3 x5 x6 x7 x8
      refine Out.keeps_ite (Out.keeps_next h4) (Out.keeps_ite (Out.keeps_next h4) ?_)
      split
      · exact Out.keeps_next h4
      · extract_lets +onlyGivenNames x9 x10 x12
        have h11 : Keeps z x10 := State.modPart_keeps (State.turnGranule_keeps (by assumption) h4)
        have h13 : Keeps z x12 := State.modM_keeps h11
        clear_value x10 x12
        exact Out.keeps_next (State.setPte_keeps h13)

theorem execMigrationCopyDone_keeps {z : State} {p : PartId} {page : BitVec 40} {s : State} (hs : Keeps z s) : Out.Keeps z
    (execMigrationCopyDone p page s) := by
  unfold execMigrationCopyDone
  extract_lets +onlyGivenNames x1
  clear_value x1
  split
  · refine Out.keeps_ite (Out.keeps_next hs) ?_
    extract_lets +onlyGivenNames x2 x3
    have h4 : Keeps z x3 := State.migCopy_keeps hs
    clear_value x2 x3
    split
    · exact Out.keeps_next h4
    · extract_lets +onlyGivenNames x5 x6 x7 x9
      have h8 : Keeps z x7 := State.setPte_keeps (State.shootdown_keeps h4)
      have h10 : Keeps z x9 := State.modM_keeps h8
      clear_value x5 x6 x7 x9
      exact Out.keeps_next h10
  · exact Out.keeps_next hs

theorem execMigrationRelease_keeps {z : State} {p : PartId} {page : BitVec 40} {s : State} (hs : Keeps z s) : Out.Keeps z
    (execMigrationRelease p page s) := by
  unfold execMigrationRelease
  extract_lets +onlyGivenNames x1
  clear_value x1
  split
  · refine Out.keeps_ite (Out.keeps_next hs) ?_
    extract_lets +onlyGivenNames x2 x4
    have h3 : Keeps z x2 := State.freeSpan_keeps hs
    have h5 : Keeps z x4 := State.modM_keeps h3
    clear_value x2 x4
    exact Out.keeps_next (State.wakePage_keeps h5)
  · exact Out.keeps_next hs

theorem execPgHintCold_keeps {z : State} {p : PartId} {s : State} (hs : Keeps z s) : Out.Keeps z (execPgHintCold p s) := by
  unfold execPgHintCold
  exact Out.keeps_next (State.hintCold_keeps hs)

theorem execPgHintLayout_keeps {z : State} {p : PartId} {il : BitVec 2} {hash : BitVec 3} {size : BitVec 2} {s : State}
    (hs : Keeps z s) : Out.Keeps z (execPgHintLayout p il hash size s) := by
  unfold execPgHintLayout
  exact Out.keeps_next (State.hintLayout_keeps hs)

theorem execPgHintGuard_keeps {z : State} {p : PartId} {s : State} (hs : Keeps z s) : Out.Keeps z (execPgHintGuard p s) := by
  unfold execPgHintGuard
  exact Out.keeps_next (State.hintGuard_keeps hs)

theorem execPgHintUnguard_keeps {z : State} {p : PartId} {s : State} (hs : Keeps z s) : Out.Keeps z (execPgHintUnguard p s) := by
  unfold execPgHintUnguard
  exact Out.keeps_next (State.hintUnguard_keeps hs)

theorem execPgHintComplete_keeps {z : State} {p : PartId} {s : State} (hs : Keeps z s) : Out.Keeps z (execPgHintComplete p s) := by
  unfold execPgHintComplete
  exact Out.keeps_next (Keeps.ite (State.modPart_keeps (State.wr_keeps hs)) hs)

theorem execNearRefresh_keeps {z : State} {stack : StackId} {pc : Fin 32} {bank : Fin 48} {s : State} (hs : Keeps z s) : Out.Keeps z
    (execNearRefresh stack pc bank s) := by
  unfold execNearRefresh
  exact Out.keeps_next (Keeps.ite hs (State.refreshBank_keeps (State.sendCmd_keeps hs)))

theorem execRefreshManagement_keeps {z : State} {stack : StackId} {pc : Fin 32} {bank : Fin 48} {s : State} (hs : Keeps z s) : Out.Keeps z
    (execRefreshManagement stack pc bank s) := by
  unfold execRefreshManagement
  extract_lets +onlyGivenNames x1
  clear_value x1
  exact Out.keeps_next (Keeps.ite (State.rfm_keeps hs) hs)

theorem State.lanePeriod_keeps {z s : State} {stack : StackId} {pc : Fin 32} (hs : Keeps z s) : Keeps z (State.lanePeriod s stack pc) := by
  unfold State.lanePeriod
  extract_lets +onlyGivenNames x1 x2 x3
  have h4 : Keeps z x3 := by
    unfold x3
    refine Keeps.foldl (fun x5 => fun x6 => fun h7 => ?_) hs
    extract_lets +onlyGivenNames x8 x9
    exact Keeps.ite (State.modM_keeps h7) (Keeps.ite (State.modM_keeps h7) h7)
  clear_value x2 x3
  exact State.wr_keeps (State.modM_keeps h4)

theorem State.wlSlot_keeps {z s : State} {stack : StackId} {pc : Fin 32} (hs : Keeps z s) : Keeps z (State.wlSlot s stack pc) := by
  unfold State.wlSlot
  extract_lets +onlyGivenNames x1 x3
  have h2 : Keeps z x1 := Keeps.ite (State.wr_keeps (State.modM_keeps hs)) hs
  clear_value x1 x3
  refine Keeps.ite h2 ?_
  extract_lets +onlyGivenNames x4
  have h5 : Keeps z x4 := State.modM_keeps h2
  clear_value x4
  exact Keeps.ite (State.wr_keeps (State.cnt_keeps h5)) h5

theorem State.laneSlot_keeps {z s : State} {stack : StackId} {pc : Fin 32} (hs : Keeps z s) : Keeps z (State.laneSlot s stack pc) := by
  unfold State.laneSlot
  extract_lets +onlyGivenNames x1
  clear_value x1
  refine Keeps.foldl (fun x2 => fun x3 => fun h4 => ?_) hs
  extract_lets +onlyGivenNames x5 x6
  clear_value x5 x6
  exact Keeps.ite (State.modM_keeps h4) (Keeps.ite (State.laneRepair_keeps (State.modM_keeps h4)) h4)

theorem execCalibrationSlot_keeps {z : State} {stack : StackId} {pc : Fin 32} {eye lane : BitVec 8} {s : State} (hs : Keeps z s) : Out.Keeps z
    (execCalibrationSlot stack pc eye lane s) := by
  unfold execCalibrationSlot
  extract_lets +onlyGivenNames x1
  clear_value x1
  refine Out.keeps_next (Keeps.ite hs (Keeps.ite (State.cnt_keeps (State.wr_keeps (State.lanePeriod_keeps hs))) ?_))
  extract_lets +onlyGivenNames x2 x4 x6 x8
  have h3 : Keeps z x2.2 := State.inject_keeps hs
  have h5 : Keeps z x4 := Keeps.ite (State.chargeLane_keeps h3) h3
  have h7 : Keeps z x6 := State.wlSlot_keeps (State.laneSlot_keeps (State.lanePeriod_keeps h5))
  have h9 : Keeps z x8 := State.wr_keeps (State.wr_keeps h7)
  clear_value x2 x4 x6 x8
  exact State.cnt_keeps (State.modM_keeps h9)

theorem execWriteLevellingTrigger_keeps {z : State} {stack : StackId} {s : State} (hs : Keeps z s) : Out.Keeps z
    (execWriteLevellingTrigger stack s) := by
  unfold execWriteLevellingTrigger
  exact Out.keeps_next (State.wlTrigger_keeps hs)

theorem execWlNow_keeps {z : State} {stack : StackId} {s : State} (hs : Keeps z s) : Out.Keeps z (execWlNow stack s) := by
  unfold execWlNow
  exact Out.keeps_next (State.wlTrigger_keeps (State.wr_keeps hs))

theorem execStackTemperatureRead_keeps {z : State} {stack : StackId} {temp : BitVec 8} {s : State} (hs : Keeps z s) : Out.Keeps z
    (execStackTemperatureRead stack temp s) := by
  unfold execStackTemperatureRead
  extract_lets +onlyGivenNames x1 x2
  have h3 : Keeps z x2 := State.wrB_keeps (State.wr_keeps hs)
  clear_value x1 x2
  exact Out.keeps_next (Keeps.ite (Keeps.ite h3 (State.wlTrigger_keeps h3)) h3)

theorem execCalDeferLimit_keeps {z : State} {stack : StackId} {pc : Fin 32} {s : State} (hs : Keeps z s) : Out.Keeps z
    (execCalDeferLimit stack pc s) := by
  unfold execCalDeferLimit
  extract_lets +onlyGivenNames x1
  clear_value x1
  exact Out.keeps_next (Keeps.ite (State.modM_keeps hs) hs)

theorem execCellarCalibrationSlot_keeps {z : State} {ch : ChanId} {sub : Fin 2} {s : State} (hs : Keeps z s) : Out.Keeps z
    (execCellarCalibrationSlot ch sub s) := by
  unfold execCellarCalibrationSlot
  extract_lets +onlyGivenNames x1 x2
  clear_value x1 x2
  exact Out.keeps_next (Keeps.ite hs (Keeps.ite (State.cnt_keeps (State.wr_keeps hs)) (State.cnt_keeps (State.modM_keeps hs))))

theorem execDimmTemperatureRead_keeps {z : State} {ch : ChanId} {dimm : Fin 2} {temp : BitVec 8} {s : State} (hs : Keeps z s) : Out.Keeps z
    (execDimmTemperatureRead ch dimm temp s) := by
  unfold execDimmTemperatureRead
  extract_lets +onlyGivenNames x1
  have h2 : Keeps z x1 := State.modM_keeps hs
  clear_value x1
  exact Out.keeps_next (Keeps.foldl (fun x3 => fun x4 => fun h5 => State.wrB_keeps h5) h2)

theorem execCommandParityReissue_keeps {z : State} {tier : Tier} {unit : Fin 16} {s : State} (hs : Keeps z s) : Out.Keeps z
    (execCommandParityReissue tier unit s) := by
  unfold execCommandParityReissue
  refine Out.keeps_next ?_
  split
  · exact State.parityReissue_keeps hs
  · exact Keeps.ite (State.parityReissue_keeps hs) hs

theorem execGridWriteback_keeps {z : State} {key : BitVec 44} {s : State} (hs : Keeps z s) : Out.Keeps z (execGridWriteback key s) := by
  unfold execGridWriteback
  exact Out.keeps_next (State.modM_keeps hs)

theorem State.sweepUnit_keeps {z s : State} {key n : Nat} (hs : Keeps z s) : Keeps z (State.sweepUnit s key n) := by
  unfold State.sweepUnit
  exact Keeps.ite hs (Keeps.foldl (fun x1 => fun x2 => fun h3 => State.sweepGranule_keeps h3) hs)

theorem execScrubStep_keeps {z : State} {tier : Tier} {s : State} (hs : Keeps z s) : Out.Keeps z (execScrubStep tier s) := by
  unfold execScrubStep
  refine Out.keeps_next (Keeps.ite hs ?_)
  extract_lets +onlyGivenNames x1 x2 x3 x4
  clear_value x1 x2 x3 x4
  refine Keeps.ite hs ?_
  extract_lets +onlyGivenNames x5 x6 x8 x9
  have h7 : Keeps z x6 := Keeps.ite (State.scrubRead_keeps hs) (Keeps.ite hs (State.sweepUnit_keeps (State.scrubRead_keeps hs)))
  have h10 : Keeps z x9 := State.modM_keeps h7
  clear_value x5 x6 x8 x9
  exact Keeps.ite (State.cnt_keeps h10) h10

theorem State.scrubWord_keeps {z s : State} {e : Err} {inst idx : Nat} (hs : Keeps z s) : Keeps z (State.scrubWord s e inst idx).2 := by
  unfold State.scrubWord
  refine Keeps.ite2 hs ?_
  extract_lets +onlyGivenNames x1
  clear_value x1
  exact Keeps.ite2 hs (Keeps.ite2 (Keeps.mk2 (State.bucket_keeps (State.capture_keeps hs))) (Keeps.mk2 (State.bucket_keeps hs)))

theorem scrubNth_keeps {z : State} {α : Type} {l : List α} {n : Nat} {get : α → Err} {put : α → Err → α} {inst : Nat} {s : State}
    (hs : Keeps z s) : Keeps z (scrubNth l n get put inst s).2 := by
  unfold scrubNth
  split
  · exact hs
  · extract_lets +onlyGivenNames x1
    have h2 : Keeps z x1.2 := State.scrubWord_keeps hs
    clear_value x1
    exact h2

theorem State.scrubArray_keeps {z s : State} {cl : ClusterId} {a : OnDie} {n : Nat} (hs : Keeps z s) : Keeps z (State.scrubArray s cl a n) := by
  unfold State.scrubArray
  extract_lets +onlyGivenNames x1
  clear_value x1
  split
  · exact State.scrubRead_keeps hs
  · extract_lets +onlyGivenNames x2 x3
    have h4 : Keeps z x3.2 := State.scrubWord_keeps hs
    clear_value x2 x3
    exact State.setErr_keeps h4
  · exact State.scrubRead_keeps hs
  · extract_lets +onlyGivenNames x5 x6
    have h7 : Keeps z x6.2 := State.scrubWord_keeps hs
    clear_value x5 x6
    exact State.modCp_keeps h7
  · extract_lets +onlyGivenNames x8 x9
    have h10 : Keeps z x9.2 := State.scrubWord_keeps hs
    clear_value x9
    exact State.modA_keeps h10
  · extract_lets +onlyGivenNames x11
    have h12 : Keeps z x11.2 := scrubNth_keeps hs
    clear_value x11
    exact State.modVq_keeps h12
  · extract_lets +onlyGivenNames x13
    have h14 : Keeps z x13.2 := scrubNth_keeps hs
    clear_value x13
    exact State.modCp_keeps h14
  · extract_lets +onlyGivenNames x15
    have h16 : Keeps z x15.2 := scrubNth_keeps hs
    clear_value x15
    exact State.modCp_keeps h16
  · extract_lets +onlyGivenNames x17
    have h18 : Keeps z x17.2 := scrubNth_keeps hs
    clear_value x17
    exact State.modM_keeps h18
  · split
    · exact hs
    · extract_lets +onlyGivenNames x19
      have h20 : Keeps z x19.2 := scrubNth_keeps hs
      clear_value x19
      exact State.modPart_keeps h20
  · extract_lets +onlyGivenNames x21
    have h22 : Keeps z x21.2 := scrubNth_keeps hs
    clear_value x21
    exact State.modM_keeps h22

theorem execArrayScrub_keeps {z : State} {cl : ClusterId} {x : ScrubAt} {s : State} (hs : Keeps z s) : Out.Keeps z
    (execArrayScrub cl x s) := by
  unfold execArrayScrub
  exact Out.keeps_next (Keeps.ite hs (State.scrubArray_keeps hs))

theorem execBucketLeakTick_keeps {z : State} {b : Fin 32} {s : State} (hs : Keeps z s) : Out.Keeps z (execBucketLeakTick b s) := by
  unfold execBucketLeakTick
  exact Out.keeps_next (Keeps.ite hs (State.wr_keeps hs))

theorem execBktCfgWrite_keeps {z : State} {b : Fin 32} {v : BitVec 32} {s : State} (hs : Keeps z s) : Out.Keeps z (execBktCfgWrite b v s) := by
  unfold execBktCfgWrite
  exact Out.keeps_next (State.bktWrite_keeps hs)

theorem execRawAccess_keeps {z s : State} (hs : Keeps z s) : Out.Keeps z (execRawAccess s) := by
  unfold execRawAccess
  exact Out.keeps_next (State.rawAccess_keeps hs)

theorem execRateGateReopen_keeps {z : State} {k : Fin 64} {s : State} (hs : Keeps z s) : Out.Keeps z (execRateGateReopen k s) := by
  unfold execRateGateReopen
  exact Out.keeps_next (State.heldPass_keeps hs)

theorem execEvtSwtrig_keeps {z : State} {v : Word} {s : State} (hs : Keeps z s) : Out.Keeps z (execEvtSwtrig v s) := by
  unfold execEvtSwtrig
  exact Out.keeps_next (State.swTrig_keeps hs)

theorem execEvtCommitGo_keeps {z s : State} (hs : Keeps z s) : Out.Keeps z (execEvtCommitGo s) := by
  unfold execEvtCommitGo
  exact Out.keeps_next (State.commitGo_keeps hs)

theorem execArpRequest_keeps {z : State} {f : EthFrame} {s : State} (hs : Keeps z s) : Out.Keeps z (execArpRequest f s) := by
  unfold execArpRequest
  refine Out.keeps_next ?_
  split
  · refine Keeps.ite hs ?_
    extract_lets +onlyGivenNames x1
    have h2 : Keeps z x1.2 := State.stage1_keeps hs
    clear_value x1
    exact Keeps.ite (State.arpIn_keeps h2) h2
  · exact hs

theorem execNeighbourSolicitation_keeps {z : State} {f : EthFrame} {s : State} (hs : Keeps z s) : Out.Keeps z (execNeighbourSolicitation f s) := by
  unfold execNeighbourSolicitation
  refine Out.keeps_next ?_
  split
  · refine Keeps.ite hs ?_
    extract_lets +onlyGivenNames x1
    have h2 : Keeps z x1.2 := State.stage1_keeps hs
    clear_value x1
    exact Keeps.ite (State.nsIn_keeps h2) h2
  · exact hs

theorem execPauseFrame_keeps {z : State} {port : PortId} {pfc : Bool} {mask : BitVec 8} {quanta : Vector (BitVec 16) 8} {s : State}
    (hs : Keeps z s) : Out.Keeps z (execPauseFrame port pfc mask quanta s) := by
  unfold execPauseFrame
  extract_lets +onlyGivenNames x1 x2 x3 x4
  clear_value x1 x2 x3 x4
  exact Out.keeps_next (Keeps.ite hs (State.flushPort_keeps (State.wr_keeps hs)))

theorem execReceiveQueueFlowControl_keeps {z : State} {port : PortId} {level : BitVec 7} {s : State} (hs : Keeps z s) : Out.Keeps z
    (execReceiveQueueFlowControl port level s) := by
  unfold execReceiveQueueFlowControl
  extract_lets +onlyGivenNames x1 x2
  have h3 : Keeps z x2 := State.modN_keeps hs
  clear_value x1 x2
  exact Out.keeps_next (Keeps.ite h3 (Keeps.ite (State.leave_keeps (State.modN_keeps h3)) (Keeps.ite (State.leave_keeps (State.modN_keeps h3)) h3)))

theorem execPtpMessage_keeps {z : State} {port : PortId} {offset : BitVec 64} {s : State} (hs : Keeps z s) : Out.Keeps z
    (execPtpMessage port offset s) := by
  unfold execPtpMessage
  exact Out.keeps_next (Keeps.ite (State.ptpShift_keeps hs) hs)

theorem execPtpSecondBoundary_keeps {z s : State} (hs : Keeps z s) : Out.Keeps z (execPtpSecondBoundary s) := by
  unfold execPtpSecondBoundary
  exact Out.keeps_next (State.fire_keeps (State.wr_keeps (State.wr_keeps hs)))

theorem execPtpStep_keeps {z : State} {step : BitVec 32} {s : State} (hs : Keeps z s) : Out.Keeps z (execPtpStep step s) := by
  unfold execPtpStep
  exact Out.keeps_next (State.ptpShift_keeps hs)

theorem execLinkStateChange_keeps {z : State} {port : PortId} {sub : Fin 8} {up : Bool} {lanes : BitVec 4} {reversed : Bool} {s : State}
    (hs : Keeps z s) : Out.Keeps z (execLinkStateChange port sub up lanes reversed s) := by
  unfold execLinkStateChange
  extract_lets +onlyGivenNames x1 x2 x3
  clear_value x1 x2 x3
  exact Out.keeps_next (State.fire_keeps (State.wr_keeps (State.wrB_keeps (State.wr_keeps (State.wr_keeps (State.wr_keeps hs))))))

theorem execRetransmissionTimeout_keeps {z : State} {n : SessId} {q : BitVec 32} {s : State} (hs : Keeps z s) : Out.Keeps z
    (execRetransmissionTimeout n q s) := by
  unfold execRetransmissionTimeout
  extract_lets +onlyGivenNames x1
  clear_value x1
  refine Out.keeps_next (Keeps.ite hs ?_)
  split
  · exact hs
  · exact Keeps.ite (State.dropSes_keeps hs) (State.emit_keeps (State.modSes_keeps hs))

theorem execTokenBind_keeps {z : State} {tp : Fin 17} {s : State} (hs : Keeps z s) : Out.Keeps z (execTokenBind tp s) := by
  unfold execTokenBind
  exact Out.keeps_next (State.tokBind_keeps hs)

theorem execNotifyQueue_keeps {z : State} {qs : BitVec 8} {arg : Word} {s : State} (hs : Keeps z s) : Out.Keeps z (execNotifyQueue qs arg s) := by
  unfold execNotifyQueue
  exact Out.keeps_next (State.notifyQueue_keeps hs)

theorem execNotifySend_keeps {z : State} {qs : BitVec 8} {s : State} (hs : Keeps z s) : Out.Keeps z (execNotifySend qs s) := by
  unfold execNotifySend
  extract_lets +onlyGivenNames x1
  clear_value x1
  split
  · extract_lets +onlyGivenNames x2 x4
    have h3 : Keeps z x2 := State.modN_keeps hs
    clear_value x2
    unfold x4
    extract_lets +onlyGivenNames x5 x6 x7 x8 x9 x10
    clear_value x5 x6 x7 x8 x9 x10
    refine Out.keeps_next (Keeps.ite (State.wr_keeps (State.wr_keeps h3)) (Keeps.ite (State.wr_keeps (State.wr_keeps h3)) (Keeps.ite
        (State.wr_keeps (State.wr_keeps h3)) (Keeps.ite (State.wr_keeps (State.wr_keeps h3)) ?_))))
    extract_lets +onlyGivenNames x11
    have h12 : Keeps z x11.2 := State.pages_keeps h3
    clear_value x11
    split
    · extract_lets +onlyGivenNames x13
      have h14 : Keeps z x13.2.2 := State.getSpans_keeps h12
      clear_value x13
      exact Keeps.ite (State.wr_keeps (State.wr_keeps h14)) (State.sendSeq_keeps h14)
    · exact State.modN_keeps h3
    · exact State.wr_keeps (State.wr_keeps h12)
  · exact Out.keeps_next hs

theorem execDmaDescriptorQueue_keeps {z : State} {n : EngId} {w3 : Word} {s : State} (hs : Keeps z s) : Out.Keeps z
    (execDmaDescriptorQueue n w3 s) := by
  unfold execDmaDescriptorQueue
  exact Out.keeps_next (State.deQueue_keeps hs)

theorem execDmaDescriptorStart_keeps {z : State} {n : EngId} {s : State} (hs : Keeps z s) : Out.Keeps z (execDmaDescriptorStart n s) := by
  unfold execDmaDescriptorStart
  extract_lets +onlyGivenNames x1
  clear_value x1
  refine Out.keeps_next ?_
  split
  · refine Keeps.ite hs ?_
    extract_lets +onlyGivenNames x2 x4 x5
    have h3 : Keeps z x2 := Keeps.ite (State.modE_keeps hs) hs
    clear_value x2 x4 x5
    refine Keeps.ite (State.deEnd_keeps h3) ?_
    extract_lets +onlyGivenNames x6
    have h7 : Keeps z x6 := State.modE_keeps (State.modDe_keeps h3)
    clear_value x6
    exact Keeps.ite (State.setReg_keeps h7) h7
  · exact hs

theorem deCopy_keeps {z : State} {p : PartId} {poly src dst len n : Nat} {nodata : Bool} {r : CopyOut} (hs : Keeps z r.s) :
    Keeps z (deCopy p poly nodata src dst len n r).s := by
  induction n generalizing r with
  | zero => exact hs
  | succ n ih =>
    unfold deCopy
    split
    · exact hs
    · extract_lets a b m x
      have h1 : Keeps z x.2 := State.translate_keeps hs
      split
      · extract_lets q bs y
        have h2 : Keeps z q.2 := State.readBy_keeps (State.dmaWait_keeps h1)
        have h3 : Keeps z y.2 := Keeps.ite2 h2 (State.translate_keeps h2)
        split
        · split
          · exact Keeps.ite (State.bucket_keeps h3)
              (State.poisonUnit_keeps (State.writeBy_keeps (State.dmaWait_keeps (State.bucket_keeps h3))))
          · exact ih (Keeps.ite h3 (State.writeBy_keeps (State.dmaWait_keeps h3)))
        · exact h3
      · exact h1

theorem execDmaDescriptorComplete_keeps {z : State} {n : EngId} {s : State} (hs : Keeps z s) : Out.Keeps z (execDmaDescriptorComplete n s) := by
  unfold execDmaDescriptorComplete
  extract_lets +onlyGivenNames x1
  clear_value x1
  refine Out.keeps_next ?_
  split
  · refine Keeps.ite hs ?_
    extract_lets +onlyGivenNames x2 x3 x4 x5 x7
    have h6 : Keeps z x5.s := deCopy_keeps hs
    have h8 : Keeps z x7 := Keeps.ite h6 (State.setReg_keeps h6)
    clear_value x2 x3 x4 x5 x7
    refine Keeps.ite (State.deEnd_keeps h8) ?_
    extract_lets +onlyGivenNames x9
    have h10 : Keeps z x9.2 := State.deTail_keeps h8
    clear_value x9
    exact State.deEnd_keeps h10
  · exact hs

theorem execDeResume_keeps {z : State} {n : EngId} {s : State} (hs : Keeps z s) : Out.Keeps z (execDeResume n s) := by
  unfold execDeResume
  exact Out.keeps_next (State.deResume_keeps hs)

theorem execDeFlush_keeps {z : State} {n : EngId} {s : State} (hs : Keeps z s) : Out.Keeps z (execDeFlush n s) := by
  unfold execDeFlush
  exact Out.keeps_next (State.deFlush_keeps hs)

theorem execSameBankRefresh_keeps {z : State} {ch : ChanId} {x : SameBank} {s : State} (hs : Keeps z s) : Out.Keeps z
    (execSameBankRefresh ch x s) := by
  unfold execSameBankRefresh
  exact Out.keeps_next (Keeps.ite hs (Keeps.foldl (fun x1 => fun x2 => fun h3 => State.refreshBank_keeps h3) (State.sendCmd_keeps hs)))

end Sys2Proof.Machine
end

