-- ==== Sys2Proof/Laws/KeepsSys.lean ====
section
/-! SUPPORT. What images, live changes, the pair, shedding, power, boot, debug and the board keep: one lemma for each operation and each meaning. -/

namespace Sys2Proof.Machine

theorem State.selfRefresh_keeps {z s : State} {on : Bool} (hs : Keeps z s) : Keeps z (State.selfRefresh s on) := by
  unfold State.selfRefresh
  extract_lets +onlyGivenNames x1 x6
  have h2 : Keeps z x1 := Keeps.foldl (fun x3 => fun x4 => fun h5 => State.wrB_keeps h5) hs
  have h7 : Keeps z x6 := Keeps.foldl (fun x8 => fun x9 => fun h10 => State.wrB_keeps h10) h2
  clear_value x1 x6
  exact Keeps.ite h7 (State.modM_keeps h7)

theorem State.darken_keeps {z s : State} (hs : Keeps z s) : Keeps z s.darken := by
  unfold State.darken
  extract_lets s1
  have h1 : Keeps z s1 := State.modE_keeps (State.selfRefresh_keeps hs)
  clear_value s1
  refine Keeps.ite h1 (Keeps.mem h1 ⟨rfl, rfl, rfl, rfl⟩ fun hc => ?_)
  have hc := (State.canonical_iff _).mp hc
  exact ⟨mapWf_filter _ _ hc.1, mapWf_filter _ _ hc.2.1, mapWf_filter _ _ hc.2.2.1, hc.2.2.2⟩

theorem State.loadSnap_keeps {z s : State} {x : PairSnap} (hs : Keeps z s) : Keeps z (s.loadSnap x) := by
  unfold State.loadSnap
  refine Keeps.foldl (fun s e h => Keeps.dite (fun _ => State.modPart_keeps h) (fun _ => h)) ?_
  refine Keeps.mem hs ⟨rfl, rfl, rfl, rfl⟩ fun hc => ?_
  have hc := (State.canonical_iff _).mp hc
  exact ⟨hc.1, hc.2.1, hc.2.2.1, mapWf_puts _ _ _ _ (mapWf_filter _ _ hc.2.2.2.1), hc.2.2.2.2⟩

theorem State.loadTwin_keeps {z s : State} {t : TwinImg} (ht : s.canonical = true → t.wf = true) (hs : Keeps z s) : Keeps z (s.loadTwin t) := by
  unfold State.loadTwin
  refine State.loadSnap_keeps (Keeps.mem hs ⟨rfl, rfl, rfl, rfl⟩ fun hc => ?_)
  have h := ht hc
  have hc := (State.canonical_iff _).mp hc
  simp only [TwinImg.wf, Bool.and_eq_true] at h
  exact ⟨h.1, h.2, hc.2.2.1, hc.2.2.2.1, hc.2.2.2.2⟩

theorem State.stage4_keeps {z s : State} {f : KwtFrame} (hs : Keeps z s) : Keeps z (State.stage4 s f) := by
  unfold State.stage4
  extract_lets +onlyGivenNames x1
  clear_value x1
  refine Keeps.ite (State.openSes_keeps hs) (Keeps.ite hs ?_)
  extract_lets +onlyGivenNames x2
  have h3 : Keeps z x2.2 := Keeps.ite2 hs (State.stage2_keeps hs)
  clear_value x2
  exact State.acceptIn_keeps NetHooks.none_keeps h3

theorem State.replay_keeps {z s : State} (hs : Keeps z s) : Keeps z (State.replay s) := by
  unfold State.replay
  exact Keeps.foldl (fun x1 => fun x2 => fun h3 => State.stage4_keeps h3) hs

theorem State.twinFail_keeps {z s : State} {no : Nat} (hs : Keeps z s) : Keeps z (State.twinFail s no) := by
  unfold State.twinFail
  extract_lets +onlyGivenNames x1 x3
  have h2 : Keeps z x1 := State.detLost_keeps (State.bucket_keeps (State.cnt_keeps hs))
  clear_value x1 x3
  refine Keeps.ite (State.modN_keeps (State.modPair_keeps rfl rfl (State.wr_keeps h2))) ?_
  extract_lets +onlyGivenNames x4
  have h5 : Keeps z x4 := by
    unfold x4
    split
    · exact State.loadTwin_keeps (fun hc => by have := (State.canonical_iff _).mp hc; simp_all) h2
    · exact h2
  clear_value x4
  exact State.replay_keeps (State.modPairT_keeps (fun hc => by (repeat' split) <;> simp [(State.canonical_iff _).mp hc, State.twinImg_wf hc]) h5)

theorem State.dackTo_keeps {z s : State} {rx : List (Nat × BitVec 32)} (hs : Keeps z s) : Keeps z (State.dackTo s rx) := by
  unfold State.dackTo
  refine Keeps.foldl (fun x1 => fun x2 => fun h3 => Keeps.ite h3 ?_) hs
  extract_lets +onlyGivenNames x4 x6 x7
  have h5 : Keeps z x4 := State.wr_keeps h3
  have h8 : Keeps z x7 := State.modSes_keeps h5
  clear_value x4 x6 x7
  exact Keeps.ite (State.ack_keeps h8) h8

theorem State.releaseTo_keeps {z s : State} {k : Option Nat} (hs : Keeps z s) : Keeps z (State.releaseTo s k) := by
  unfold State.releaseTo
  refine Keeps.foldl (fun x1 => fun x2 => fun h3 => ?_) hs
  extract_lets +onlyGivenNames x4
  have h5 : Keeps z x4 := State.modSes_keeps h3
  clear_value x4
  exact State.pump_keeps h5

theorem State.setEvent_keeps {z s : State} {a : Nat} {v : Word} (hs : Keeps z s) : Keeps z (State.setEvent s a v) := by
  unfold State.setEvent
  extract_lets +onlyGivenNames x1
  clear_value x1
  exact State.modE_keeps (State.setReg_keeps hs)

theorem State.liveEvents_keeps {z s : State} {a b : Plan} (hs : Keeps z s) : Keeps z (State.liveEvents s a b) := by
  unfold State.liveEvents
  extract_lets +onlyGivenNames x1 x2
  clear_value x1 x2
  exact Keeps.foldl (fun x3 => fun x4 => fun h5 => Keeps.ite (State.setEvent_keeps h5) h5) hs

theorem State.setParts_keeps {z s : State} {w : Plan} (hs : Keeps z s) : Keeps z (State.setParts s w) := by
  unfold State.setParts
  extract_lets +onlyGivenNames x1 x10 x11 x13 x15
  have h2 : Keeps z x1 := by
    unfold x1
    refine Keeps.foldl (fun x3 => fun x4 => fun h5 => ?_) hs
    extract_lets +onlyGivenNames x6 x7 x9
    have h8 : Keeps z x7 := State.modPart_keeps h5
    clear_value x6 x7 x9
    exact State.setReg_keeps h8
  have h12 : Keeps z x11 := State.wr_keeps h2
  have h14 : Keeps z x13 := State.wr_keeps h12
  have h16 : Keeps z x15 := State.wr_keeps h14
  clear_value x1 x10 x11 x13 x15
  exact State.wrB_keeps h16

theorem State.abortTx_keeps {z s : State} {cls : List ClusterId} (hs : Keeps z s) : Keeps z (State.abortTx s cls) := by
  unfold State.abortTx
  exact Keeps.same (s := s) hs ⟨rfl, rfl, rfl, rfl, rfl, rfl, rfl, rfl, rfl, rfl⟩

theorem State.unlight_keeps {z s : State} {n : ClusterId} (hs : Keeps z s) : Keeps z (State.unlight s n) := by
  unfold State.unlight
  exact Keeps.foldl (fun x1 => fun x2 => fun h3 => State.modPart_keeps h3) hs

theorem State.clearCluster_keeps {z s : State} {n : ClusterId} (hs : Keeps z s) : Keeps z (s.clearCluster n) := by
  unfold State.clearCluster
  refine Keeps.foldl (fun _ _ h => State.modCp_keeps h) ?_
  refine Keeps.mem hs ⟨rfl, rfl, rfl, rfl⟩ fun hc => ?_
  have hc := (State.canonical_iff _).mp hc
  exact ⟨mapWf_filter _ _ hc.1, mapWf_filter _ _ hc.2.1, mapWf_filter _ _ hc.2.2.1, hc.2.2.2⟩

theorem State.dropSlots_keeps {z s : State} {p : PartId} (hs : Keeps z s) : Keeps z (State.dropSlots s p) := by
  unfold State.dropSlots
  exact State.modPart_keeps (Keeps.foldl (fun x1 => fun x2 => fun h3 => State.freeSpan_keeps h3) hs)

theorem State.unbindOf_keeps {z s : State} {ps : List Nat} (hs : Keeps z s) : Keeps z (State.unbindOf s ps) := by
  unfold State.unbindOf
  exact State.modN_keeps hs

theorem State.dropPart_keeps {z s : State} {p : PartId} (hs : Keeps z s) : Keeps z (State.dropPart s p) := by
  unfold State.dropPart
  exact State.modPart_keeps (State.modM_keeps hs)

theorem State.takeRegion_keeps {z s : State} {p : PartId} (hs : Keeps z s) : Keeps z (s.takeRegion p) := by
  unfold State.takeRegion
  dsimp only
  have h1 : Keeps z (((s.part p).prog.foldl (fun (s : State) x => s.freeSpan x 1) s).modPart p (fun x => { x with prog := [] })) :=
    State.modPart_keeps (Keeps.foldl (fun _ _ h => State.freeSpan_keeps h) hs)
  split
  · exact h1
  · refine State.modPart_keeps (Keeps.foldl (fun _ _ h => ?_) h1)
    split
    · exact State.modPart_keeps (State.takeGranule_keeps (by assumption) h)
    · exact h

theorem State.loadRegion_keeps {z s : State} {p : PartId} (hs : Keeps z s) : Keeps z (State.loadRegion s p) := by
  unfold State.loadRegion
  extract_lets +onlyGivenNames x1 x2
  have h3 : Keeps z x2 := Keeps.foldl (fun x4 => fun x5 => fun h6 => State.zeroGranule_keeps h6) hs
  clear_value x1 x2
  split
  · exact Keeps.foldl (fun x7 => fun x8 => fun h9 => State.writeRange_keeps h9) h3
  · exact h3

theorem State.setQsDe_keeps {z s : State} {q : Nat} (hs : Keeps z s) : Keeps z (State.setQsDe s q) := by
  unfold State.setQsDe
  split
  · exact State.wr_keeps hs
  · exact hs

theorem State.setStructRegs_keeps {z s : State} {w : Plan} (hs : Keeps z s) : Keeps z (State.setStructRegs s w) := by
  unfold State.setStructRegs
  extract_lets +onlyGivenNames x1 x3 x8
  have h2 : Keeps z x1 := State.wr_keeps (State.wr_keeps (State.wr_keeps hs))
  have h4 : Keeps z x3 := Keeps.foldl (fun x5 => fun x6 => fun h7 => State.wr_keeps h7) h2
  have h9 : Keeps z x8 := State.wrB_keeps (State.wr_keeps h4)
  clear_value x1 x3 x8
  exact State.wrB_keeps h9

theorem State.undrain_keeps {z s : State} {p : PartId} (hs : Keeps z s) : Keeps z (State.undrain s p) := by
  unfold State.undrain
  extract_lets +onlyGivenNames x1 x2 x4
  have h3 : Keeps z x2 := State.setReg_keeps hs
  have h5 : Keeps z x4 := State.setReg_keeps h3
  clear_value x1 x2 x4
  exact Keeps.ite (Keeps.foldl (fun x6 => fun x7 => fun h8 => State.releaseCp_keeps h8) h5) h5

theorem State.liveEnd_keeps {z s : State} {st code : Nat} (hs : Keeps z s) : Keeps z (State.liveEnd s st code) := by
  unfold State.liveEnd
  extract_lets +onlyGivenNames x1 x3 x4 x6
  have h2 : Keeps z x1 := State.wr_keeps (State.wr_keeps hs)
  clear_value x1 x3
  have h5 : Keeps z x4 := State.modSec_keeps rfl h2
  clear_value x4
  unfold x6
  extract_lets +onlyGivenNames x7
  have h8 : Keeps z x7 := Keeps.same (s := x4) h5 ⟨rfl, rfl, rfl, rfl, rfl, rfl, rfl, rfl, rfl, rfl⟩
  clear_value x7
  exact Keeps.foldl (fun x9 => fun x10 => fun h11 => State.undrain_keeps h11) h8

theorem State.applyLive_keeps {z s : State} (hs : Keeps z s) : Keeps z (State.applyLive s) := by
  unfold State.applyLive
  split
  · exact hs
  · extract_lets +onlyGivenNames x1 x2 x3 x4 x5 x6 x8 x10 x11 x16 x21 x22 x32 x34 x39 x44 x46 x48 x50
    have h7 : Keeps z x6 := Keeps.ite hs (State.liveEvents_keeps hs)
    clear_value x1 x2 x3 x4 x5 x6
    have h9 : Keeps z x8 := State.setParts_keeps (State.modSec_keeps rfl h7)
    have h12 : Keeps z x11 := State.abortTx_keeps (Keeps.foldl (fun x13 => fun x14 => fun h15 => State.unlight_keeps (State.clearCluster_keeps
        h15)) h9)
    have h17 : Keeps z x16 := Keeps.foldl (fun x18 => fun x19 => fun h20 => State.dropSlots_keeps h20) (State.unbindOf_keeps h12)
    have h23 : Keeps z x22 := by
      unfold x22
      refine Keeps.foldl (fun x24 => fun x25 => fun h26 => ?_) h17
      extract_lets +onlyGivenNames x27 x28 x30
      have h29 : Keeps z x28 := Keeps.ite (State.dropPart_keeps h26) h26
      have h31 : Keeps z x30 := Keeps.ite (State.modM_keeps (State.takeRegion_keeps h29)) h29
      clear_value x27 x28 x30
      exact Keeps.ite (State.loadRegion_keeps h31) h31
    have h33 : Keeps z x32 := State.modN_keeps h23
    have h35 : Keeps z x34 := Keeps.foldl (fun x36 => fun x37 => fun h38 => Keeps.ite h38 (State.setQsDe_keeps h38)) h33
    have h40 : Keeps z x39 := Keeps.foldl (fun x41 => fun x42 => fun h43 => Keeps.ite (State.dropSes_keeps h43) h43) h35
    have h45 : Keeps z x44 := State.wrB_keeps (State.setStructRegs_keeps h40)
    have h47 : Keeps z x46 := State.wr_keeps (State.wrB_keeps (State.wrB_keeps h45))
    have h49 : Keeps z x48 := State.wr_keeps (State.wr_keeps h47)
    have h51 : Keeps z x50 := Keeps.foldl (fun x52 => fun x53 => fun h54 => Keeps.ite (Keeps.foldl (fun x55 => fun x56 => fun h57
        => State.releaseCp_keeps h57) h54) h54) h49
    clear_value x8 x10 x11 x16 x21 x22 x32 x34 x39 x44 x46 x48 x50
    exact State.liveEnd_keeps h51

theorem State.applyPair_keeps {z s : State} (hs : Keeps z s) : Keeps z (State.applyPair s) := by
  have ha : Keeps s (State.applyLive s) := State.applyLive_keeps (Keeps.refl s)
  refine hs.trans ⟨ha.1, ha.2, ha.3, ha.4, fun hc => ?_⟩
  have h1 := (State.canonical_iff _).mp (ha.5 hc)
  refine (State.canonical_iff _).mpr ⟨h1.1, h1.2.1, h1.2.2.1, h1.2.2.2.1, ?_, h1.2.2.2.2.2⟩
  have h2 := ((State.canonical_iff _).mp hc).2.2.2.2.1
  show (s.pair.twin.map (fun t => (s.loadTwin t).applyLive.twinImg)).all TwinImg.wf = true
  cases ht : s.pair.twin with
  | none => rfl
  | some t =>
    rw [ht] at h2
    exact State.twinImg_wf ((State.applyLive_keeps (State.loadTwin_keeps (fun _ => h2) (Keeps.refl s))).5 hc)

theorem State.ctl_keeps {z s : State} {n : Nat} (hs : Keeps z s) : Keeps z (State.ctl s n) := by
  unfold State.ctl
  exact State.uboriSeq_keeps hs

theorem State.clearDirty_keeps {z s : State} {pages : List (PartId × Nat)} (hs : Keeps z s) : Keeps z (State.clearDirty s pages) := by
  unfold State.clearDirty
  extract_lets +onlyGivenNames x1 x6
  have h2 : Keeps z x1 := by
    unfold x1
    refine Keeps.foldl (fun x3 => fun x4 => fun h5 => ?_) hs
    split
    · exact Keeps.ite (State.setPte_keeps h5) h5
    · exact h5
  have h7 : Keeps z x6 := Keeps.foldl (fun x8 => fun x9 => fun h10 => State.modPart_keeps h10) h2
  clear_value x1 x6
  exact State.modPair_keeps rfl rfl h7

theorem State.cutNow_keeps {z s : State} (hs : Keeps z s) : Keeps z (State.cutNow s) := by
  unfold State.cutNow
  extract_lets +onlyGivenNames x1 x12 x13 x15 x17 x18 x19 x20 x21 x22 x24
  have h2 : Keeps z x1 := by
    unfold x1
    refine Keeps.foldl (fun x3 => fun x4 => fun h5 => Keeps.ite ?_ h5) hs
    extract_lets +onlyGivenNames x6
    have h7 : Keeps z x6 := State.stopCompare_keeps h5
    exact Keeps.ite h7 (State.checkpointWith_keeps (fun x8 => fun x9 => fun x10 => fun h11 => State.bucket_keeps h11) h7)
  have h14 : Keeps z x13.2 := State.fresh_keeps h2
  have h16 : Keeps z x15 := State.wr_keeps h14
  have h23 : Keeps z x22 := State.clearDirty_keeps h16
  clear_value x1 x12 x13 x15 x17 x18 x19 x20 x21 x22
  have h25 : Keeps z x24 := State.modPair_keeps rfl rfl h23
  clear_value x24
  refine Keeps.ite ?_ ?_
  · extract_lets +onlyGivenNames x26
    unfold x26
    exact State.uboriSeq_keeps (State.modPairT_keeps (fun hc => by (repeat' split) <;> simp [(State.canonical_iff _).mp hc, State.twinImg_wf hc]) h25)
  · extract_lets +onlyGivenNames x27
    unfold x27
    beta_reduce
    exact Keeps.foldl (fun x28 => fun x29 => fun h30 => State.cowSettle_keeps h30) (State.pressSettle_keeps (State.modE_keeps (State.modPairT_keeps
        (fun hc => by (repeat' split) <;> simp [(State.canonical_iff _).mp hc, State.twinImg_wf hc]) h25)))

theorem State.cut_keeps {z s : State} (hs : Keeps z s) : Keeps z (State.cut s) := by
  unfold State.cut
  extract_lets +onlyGivenNames x1
  have h2 : Keeps z x1 := State.modE_keeps hs
  clear_value x1
  exact Keeps.ite h2 (Keeps.ite (State.modPair_keeps rfl rfl h2) (State.cutNow_keeps h2))

theorem State.twinPass_keeps {z s : State} {no : Nat} (hs : Keeps z s) : Keeps z (State.twinPass s no) := by
  unfold State.twinPass
  extract_lets +onlyGivenNames x1 x3 x4 x6 x8 x10
  have h2 : Keeps z x1 := State.modPairT_keeps (fun hc => by (repeat' split) <;> simp [(State.canonical_iff _).mp hc, State.twinImg_wf hc]) hs
  have h5 : Keeps z x4 := State.dackTo_keeps (State.fire_keeps (State.wr_keeps h2))
  have h7 : Keeps z x6 := State.releaseTo_keeps h5
  have h9 : Keeps z x8 := Keeps.ite (State.applyPair_keeps h7) h7
  clear_value x1 x3 x4 x6 x8
  have h11 : Keeps z x10 := Keeps.ite (State.modPair_keeps rfl rfl (State.ctl_keeps h9)) h9
  clear_value x10
  exact Keeps.ite (State.cut_keeps h11) h11

theorem State.twinCompare_keeps {z s : State} (hs : Keeps z s) : Keeps z (State.twinCompare s) := by
  unfold State.twinCompare
  split
  · refine Keeps.ite hs ?_
    extract_lets +onlyGivenNames x1 x3 x4 x6
    have h2 : Keeps z x1.2 := State.inject_keeps hs
    have h5 : Keeps z x4 := State.cnt_keeps h2
    have h7 : Keeps z x6 := Keeps.ite (State.uboriSeq_keeps h5) h5
    clear_value x1 x3 x4 x6
    exact Keeps.ite (State.twinFail_keeps h7) (Keeps.ite (State.twinPass_keeps h7) h7)
  · exact hs

theorem execMirrorCheckpointCut_keeps {z s : State} (hs : Keeps z s) : Out.Keeps z (execMirrorCheckpointCut s) := by
  unfold execMirrorCheckpointCut
  exact Out.keeps_next (State.twinCompare_keeps (State.cut_keeps hs))

theorem State.crDebug_keeps {z s : State} {c : CpId} {n : Nat} {v : Word} (hs : Keeps z s) : Keeps z (State.crDebug s c n v) := by
  unfold State.crDebug
  extract_lets +onlyGivenNames x1 x2
  have h3 : Keeps z x2 := State.crWrite_keeps hs
  clear_value x1 x2
  split
  · exact State.modCp_keeps h3
  · exact h3

theorem State.regDataWrite_keeps {z s : State} {c0 : CpId} {v : Word} (hs : Keeps z s) : Keeps z (State.regDataWrite s c0 v).2 := by
  unfold State.regDataWrite
  extract_lets +onlyGivenNames x1 x2 x3
  clear_value x1
  refine Keeps.ite2 hs (Keeps.mk2 (Keeps.ite (State.modA_keeps hs) (Keeps.ite (State.modA_keeps hs) (Keeps.ite (State.modA_keeps hs) (Keeps.ite ?_
      (Keeps.ite (State.crDebug_keeps hs) (Keeps.ite (Keeps.foldl (fun x6 => fun x7 => fun h8 => ?_) hs) (State.modA_keeps hs))))))))
  · extract_lets +onlyGivenNames x4 x5
    clear_value x4 x5
    exact Keeps.ite (State.setD_keeps hs) (State.setDPart_keeps hs)
  · extract_lets +onlyGivenNames x9
    clear_value x9
    exact Keeps.ite (State.storeRamBit_keeps h8) (State.writeBit_keeps h8)

theorem State.queuesStop_keeps {z s : State} (hs : Keeps z s) : Keeps z (State.queuesStop s) := by
  unfold State.queuesStop
  exact Keeps.foldl (fun x1 => fun x2 => fun h3 => Keeps.ite (State.stopCompare_keeps (State.modVq_keeps h3)) h3) hs

theorem State.askWitness_keeps {z s : State} {op : Byte} (hs : Keeps z s) : Keeps z (State.askWitness s op) := by
  unfold State.askWitness
  refine Keeps.ite hs ?_
  extract_lets +onlyGivenNames x1
  clear_value x1
  exact State.leave_keeps (State.modPair_keeps rfl rfl hs)

theorem State.signalFailover_keeps {z s : State} (hs : Keeps z s) : Keeps z (State.signalFailover s) := by
  unfold State.signalFailover
  exact State.wr_keeps (State.ctl_keeps (State.askWitness_keeps hs))

theorem State.sendHeartbeat_keeps {z s : State} (hs : Keeps z s) : Keeps z (State.sendHeartbeat s) := by
  unfold State.sendHeartbeat
  exact State.uboriNow_keeps hs

theorem State.preserve_keeps {z s : State} (hs : Keeps z s) : Keeps z (State.preserve s) := by
  unfold State.preserve
  extract_lets +onlyGivenNames x1 x3 x5
  have h2 : Keeps z x1 := State.queuesStop_keeps hs
  have h4 : Keeps z x3 := Keeps.ite (State.modPwr_keeps (State.cut_keeps h2)) (Keeps.ite (State.signalFailover_keeps h2) (Keeps.ite (State.wr_keeps
      (State.sendHeartbeat_keeps h2)) h2))
  have h6 : Keeps z x5 := Keeps.foldl (fun x7 => fun x8 => fun h9 => Keeps.ite (State.checkpointWith_keeps (fun x10 => fun x11 => fun x12 => fun
      h13 => State.bucket_keeps h13) h9) h9) h4
  clear_value x1 x3 x5
  exact State.selfRefresh_keeps h6

theorem State.writeSlot_keeps {z s : State} {slot : Nat} {img : List Byte} (hs : Keeps z s) : Keeps z (State.writeSlot s slot img) := by
  unfold State.writeSlot
  exact State.modSec_keeps rfl (State.flashPut_keeps (State.flashErase_keeps hs))

theorem State.breakApply_keeps {z s : State} (hs : Keeps z s) : Keeps z (State.breakApply s) := by
  unfold State.breakApply
  split
  · exact Keeps.ite hs (State.liveEnd_keeps (State.writeSlot_keeps hs))
  · exact hs

theorem State.dropShip_keeps {z s : State} (hs : Keeps z s) : Keeps z (State.dropShip s) := by
  unfold State.dropShip
  extract_lets +onlyGivenNames x1 x6 x7
  have h2 : Keeps z x1 := by
    unfold x1
    split
    · exact Keeps.foldl (fun x3 => fun x4 => fun h5 => State.freeSpan_keeps h5) hs
    · exact hs
  clear_value x1 x6
  have h8 : Keeps z x7 := Keeps.foldl (fun x9 => fun x10 => fun h11 => State.cowSettle_keeps h11) (State.modPair_keeps rfl rfl h2)
  clear_value x7
  exact State.latchOut_keeps (State.pressSettle_keeps (State.modE_keeps h8))

theorem State.outOfSync_keeps {z s : State} (hs : Keeps z s) : Keeps z (State.outOfSync s) := by
  unfold State.outOfSync
  extract_lets +onlyGivenNames x1
  have h2 : Keeps z x1 := State.releaseTo_keeps (State.modPair_keeps rfl rfl (State.dropShip_keeps (State.wr_keeps hs)))
  clear_value x1
  exact Keeps.ite (State.applyPair_keeps h2) h2

theorem State.linkDown_keeps {z s : State} (hs : Keeps z s) : Keeps z (State.linkDown s) := by
  unfold State.linkDown
  refine Keeps.ite hs ?_
  extract_lets +onlyGivenNames x1 x3 x5
  have h2 : Keeps z x1 := State.modPair_keeps rfl rfl (State.wr_keeps (State.wr_keeps hs))
  have h4 : Keeps z x3 := State.fire_keeps h2
  clear_value x1 x3 x5
  exact Keeps.ite (State.wr_keeps h4) (Keeps.ite (State.outOfSync_keeps h4) (Keeps.ite (State.wr_keeps h4) h4))

theorem State.powerLost_keeps {z s : State} (hs : Keeps z s) : Keeps z s.powerLost := by
  unfold State.powerLost
  refine State.linkDown_keeps (State.modPair_keeps rfl rfl (State.dropShip_keeps (State.modPwr_keeps (Keeps.foldl (fun s p h => State.modPart_keeps
      h) ?_))))
  refine Keeps.mem hs ⟨rfl, rfl, rfl, rfl⟩ fun hc => ?_
  have hc := (State.canonical_iff _).mp hc
  exact ⟨rfl, rfl, rfl, hc.2.2.2⟩

theorem State.enterLevel_keeps {z s : State} {k : Nat} (hs : Keeps z s) : Keeps z (State.enterLevel s k) := by
  unfold State.enterLevel
  refine Keeps.ite (State.detLost_keeps hs) (Keeps.ite (Keeps.foldl (fun x1 => fun x2 => fun h3 => Keeps.ite (State.wr_keeps (Keeps.foldl (fun x4
      => fun x5 => fun h6 => State.stopCompare_keeps h6) h3)) h3) hs) (Keeps.ite ?_ (Keeps.ite (State.queuesStop_keeps hs) (Keeps.ite
      (State.preserve_keeps (State.breakApply_keeps hs)) (Keeps.ite (State.powerLost_keeps hs) hs)))))
  extract_lets +onlyGivenNames x7
  have h8 : Keeps z x7 := Keeps.foldl (fun x9 => fun x10 => fun h11 => Keeps.ite (State.parkPipe_keeps h11) h11) hs
  clear_value x7
  exact Keeps.foldl (fun x12 => fun x13 => fun h14 => Keeps.ite (State.stopCompare_keeps h14) h14) h8

theorem State.leaveLevel_keeps {z s : State} {k : Nat} (hs : Keeps z s) : Keeps z (State.leaveLevel s k) := by
  unfold State.leaveLevel
  refine Keeps.ite ?_ (Keeps.ite (State.calResume_keeps hs) hs)
  extract_lets +onlyGivenNames x1 x3
  have h2 : Keeps z x1 := State.selfRefresh_keeps hs
  have h4 : Keeps z x3 := Keeps.foldl (fun x5 => fun x6 => fun h7 => State.modCp_keeps h7) h2
  clear_value x1 x3
  exact Keeps.ite (Keeps.ite (State.modN_keeps (State.modPair_keeps rfl rfl (State.outOfSync_keeps (State.wr_keeps h4)))) (Keeps.ite
      (State.outOfSync_keeps h4) h4)) h4

theorem State.shedTo_keeps {z s : State} {n : Nat} {trip : Bool} (hs : Keeps z s) : Keeps z (State.shedTo s n trip) := by
  unfold State.shedTo
  extract_lets +onlyGivenNames x1
  clear_value x1
  refine Keeps.ite hs ?_
  extract_lets +onlyGivenNames x2 x4 x6 x11
  have h3 : Keeps z x2 := State.wr_keeps (State.wr_keeps hs)
  clear_value x2
  have h5 : Keeps z x4 := Keeps.ite (State.modPair_keeps rfl rfl (State.modPwr_keeps (State.wr_keeps (State.wr_keeps (State.wr_keeps h3))))) h3
  have h7 : Keeps z x6 := Keeps.foldl (fun x8 => fun x9 => fun h10 => Keeps.ite (State.irq_keeps h10) h10) h5
  have h12 : Keeps z x11 := Keeps.ite (Keeps.foldl (fun x13 => fun x14 => fun h15 => State.enterLevel_keeps h15) h7) (State.leaveLevel_keeps h7)
  clear_value x4 x6 x11
  exact State.fire_keeps h12

theorem State.settleShed_keeps {z s : State} (hs : Keeps z s) : Keeps z (State.settleShed s) := by
  unfold State.settleShed
  extract_lets +onlyGivenNames x1
  clear_value x1
  exact Keeps.ite hs (Keeps.ite (State.shedTo_keeps hs) (Keeps.ite (State.shedTo_keeps (State.wr_keeps (State.modSec_keeps rfl hs))) hs))

theorem State.demand_keeps {z s : State} {src lvl : Nat} (hs : Keeps z s) : Keeps z (State.demand s src lvl) := by
  unfold State.demand
  extract_lets +onlyGivenNames x1
  clear_value x1
  exact State.wr_keeps hs

theorem State.setFloor_keeps {z s : State} {l : Nat} (hs : Keeps z s) : Keeps z (State.setFloor s l) := by
  unfold State.setFloor
  exact State.settleShed_keeps (State.demand_keeps (State.wr_keeps hs))

theorem State.sleepRefuse_keeps {z s : State} {r : Nat} (hs : Keeps z s) : Keeps z (State.sleepRefuse s r) := by
  unfold State.sleepRefuse
  exact State.modPair_keeps rfl rfl (State.wr_keeps (State.wr_keeps (State.wr_keeps hs)))

theorem State.sleepReq_keeps {z s : State} (hs : Keeps z s) : Keeps z (State.sleepReq s) := by
  unfold State.sleepReq
  refine Keeps.ite hs (Keeps.ite (State.sleepRefuse_keeps hs) ?_)
  extract_lets +onlyGivenNames x1
  have h2 : Keeps z x1 := State.wr_keeps (State.wr_keeps (State.wr_keeps hs))
  clear_value x1
  exact Keeps.ite (State.modPwr_keeps h2) (Keeps.ite (State.ctl_keeps h2) (State.cut_keeps (State.modPair_keeps rfl rfl h2)))

theorem State.ckptNow_keeps {z s : State} (hs : Keeps z s) : Keeps z (State.ckptNow s) := by
  unfold State.ckptNow
  exact State.twinCompare_keeps (State.cut_keeps hs)

theorem State.startResync_keeps {z s : State} (hs : Keeps z s) : Keeps z (State.startResync s) := by
  unfold State.startResync
  exact State.modPair_keeps rfl rfl (State.wr_keeps (State.outOfSync_keeps hs))

theorem State.resync_keeps {z s : State} (hs : Keeps z s) : Keeps z (State.resync s) := by
  unfold State.resync
  exact Keeps.ite (Keeps.ite (State.startResync_keeps hs) hs) (Keeps.ite (State.sendHeartbeat_keeps (State.wr_keeps hs)) hs)

theorem State.takeIdentity_keeps {z s : State} (hs : Keeps z s) : Keeps z (State.takeIdentity s) := by
  unfold State.takeIdentity
  exact State.leave_keeps (State.leave_keeps (State.modN_keeps hs))

theorem State.restart_keeps {z s : State} (hs : Keeps z s) : Keeps z (State.restart s) := by
  unfold State.restart
  exact Keeps.ite hs (State.takeIdentity_keeps (State.wr_keeps (State.wr_keeps (State.modPair_keeps rfl rfl hs))))

theorem State.relinquish_keeps {z s : State} (hs : Keeps z s) : Keeps z (State.relinquish s) := by
  unfold State.relinquish
  exact Keeps.ite (State.cut_keeps (State.modPair_keeps rfl rfl hs)) hs

theorem State.pairCtl_keeps {z s : State} {cmd : Nat} (hs : Keeps z s) : Keeps z (State.pairCtl s cmd) := by
  unfold State.pairCtl
  exact Keeps.ite (State.ckptNow_keeps hs) (Keeps.ite (State.resync_keeps hs) (Keeps.ite (State.restart_keeps hs) (Keeps.ite
      (State.relinquish_keeps hs) hs)))

theorem State.dbgRefuse_keeps {z s : State} {c : CpId} (hs : Keeps z s) : Keeps z (State.dbgRefuse s c) := by
  unfold State.dbgRefuse
  exact State.wr_keeps hs

theorem State.dbgHalt_keeps {z s : State} {c0 : CpId} (hs : Keeps z s) : Keeps z (State.dbgHalt s c0) := by
  unfold State.dbgHalt
  extract_lets +onlyGivenNames x1 x2
  clear_value x1 x2
  refine Keeps.ite (State.dbgRefuse_keeps hs) ?_
  split
  · exact hs
  · exact hs
  · exact State.haltCp_keeps hs
  · extract_lets +onlyGivenNames x3
    have h4 : Keeps z x3 := State.modCp_keeps hs
    clear_value x3
    exact Keeps.ite (State.boundary_keeps (State.modCp_keeps h4)) h4

theorem State.thaw_keeps {z s : State} (hs : Keeps z s) : Keeps z (State.thaw s) := by
  unfold State.thaw
  extract_lets +onlyGivenNames x1
  have h2 : Keeps z x1 := Keeps.foldl (fun x3 => fun x4 => fun h5 => Keeps.ite (State.heldPass_keeps h5) h5) hs
  clear_value x1
  exact Keeps.foldl (fun x6 => fun x7 => fun h8 => Keeps.ite (State.runReqs_keeps NetHooks.none_keeps h8) h8) h2

theorem State.releaseCompare_keeps {z s : State} {c : CpId} (hs : Keeps z s) : Keeps z (State.releaseCompare s c) := by
  unfold State.releaseCompare
  exact State.compareWith_keeps (fun x1 => fun x2 => fun x3 => fun h4 => State.bucket_keeps h4) hs

theorem State.unhalt_keeps {z s : State} {c : CpId} {step : Bool} (hs : Keeps z s) : Keeps z (State.unhalt s c step) := by
  unfold State.unhalt
  exact State.modCp_keeps hs

theorem State.dbgResume_keeps {z s : State} {c0 : CpId} (hs : Keeps z s) : Keeps z (State.dbgResume s c0) := by
  unfold State.dbgResume
  extract_lets +onlyGivenNames x1
  clear_value x1
  exact Keeps.ite (State.dbgRefuse_keeps hs) (Keeps.ite hs (State.thaw_keeps (State.holdSync_keeps (State.releaseCompare_keeps
      (State.tracePkt_keeps (State.unhalt_keeps hs))))))

theorem State.dbgStep_keeps {z s : State} {c0 : CpId} (hs : Keeps z s) : Keeps z (State.dbgStep s c0) := by
  unfold State.dbgStep
  extract_lets +onlyGivenNames x1
  clear_value x1
  exact Keeps.ite (State.dbgRefuse_keeps hs) (Keeps.ite hs (State.releaseCompare_keeps (State.unhalt_keeps hs)))

theorem State.dbgCtl_keeps {z s : State} {c : CpId} {v : Word} (hs : Keeps z s) : Keeps z (State.dbgCtl s c v) := by
  unfold State.dbgCtl
  extract_lets +onlyGivenNames x1
  have h2 : Keeps z x1 := State.wrB_keeps (State.wrB_keeps hs)
  clear_value x1
  exact Keeps.ite (State.dbgHalt_keeps h2) (Keeps.ite (State.dbgResume_keeps h2) (Keeps.ite (State.dbgStep_keeps h2) h2))

theorem State.traceCfg_keeps {z s : State} {cl : ClusterId} {v : Word} (hs : Keeps z s) : Keeps z (s.traceCfg cl v) := by
  unfold State.traceCfg
  have h1 : Keeps z (((s.setReg (TRACE_CFG.adr cl) (v &&& 0xFFFFFFFF00000007)).wr (TRACE_STAT.WPTR cl) 0).wr (TRACE_STAT.FULL cl) 0) :=
    State.wr_keeps (State.wr_keeps (State.setReg_keeps hs))
  refine Keeps.ite (Keeps.mem h1 ⟨rfl, rfl, rfl, rfl⟩ fun hc => ?_) h1
  have hc := (State.canonical_iff _).mp hc
  exact ⟨mapWf_filter _ _ hc.1, mapWf_filter _ _ hc.2.1, mapWf_filter _ _ hc.2.2.1, hc.2.2.2⟩

theorem State.drainWrite_keeps {z s : State} {v : BitVec 16} (hs : Keeps z s) : Keeps z (State.drainWrite s v) := by
  unfold State.drainWrite
  refine Keeps.foldl (fun x1 => fun x2 => fun h3 => ?_) hs
  extract_lets +onlyGivenNames x4 x5
  clear_value x4 x5
  exact Keeps.ite (State.fire_keeps (State.setReg_keeps h3)) (Keeps.ite (State.modSec_keeps rfl h3) (Keeps.ite h3 (Keeps.ite (State.modSec_keeps
      rfl h3) (State.undrain_keeps h3))))

theorem State.keyFail_keeps {z s : State} {a : Option Nat} {b : List Byte} (hs : Keeps z s) : Keeps z (State.keyFail s a b).2 := by
  unfold State.keyFail
  extract_lets +onlyGivenNames x1
  clear_value x1
  refine Keeps.ite2 hs (Keeps.ite2 hs (Keeps.ite2 hs ?_))
  extract_lets +onlyGivenNames x2
  have h3 : Keeps z x2.2 := State.verify_keeps hs
  clear_value x2
  exact Keeps.ite2 h3 (Keeps.ite2 h3 (Keeps.ite2 h3 (Keeps.ite2 h3 (Keeps.ite2 h3 h3))))

theorem State.earlyFail_keeps {z s : State} {a : Option Nat} {b : List Byte} (hs : Keeps z s) : Keeps z (State.earlyFail s a b).2 := by
  unfold State.earlyFail
  exact Keeps.ite2 hs (Keeps.ite2 hs (State.keyFail_keeps hs))

theorem State.imgFail_keeps {z s : State} {a : Option Nat} {b : List Byte} (hs : Keeps z s) : Keeps z (State.imgFail s a b).2 := by
  unfold State.imgFail
  extract_lets +onlyGivenNames x1
  have h2 : Keeps z x1.2 := State.earlyFail_keeps hs
  clear_value x1
  exact Keeps.ite2 h2 h2

theorem State.liveRefusal_keeps {z s : State} {img : List Byte} {drains : Bool} (hs : Keeps z s) : Keeps z (State.liveRefusal s img drains).2 := by
  unfold State.liveRefusal
  extract_lets +onlyGivenNames x1 x3 x5 x6
  have h2 : Keeps z x1.2 := State.imgFail_keeps hs
  have h4 : Keeps z x3 := h2
  clear_value x1 x3 x5 x6
  exact h4

theorem State.liveApply_keeps {z s : State} (hs : Keeps z s) : Keeps z (State.liveApply s) := by
  unfold State.liveApply
  refine Keeps.ite hs (Keeps.ite (State.liveEnd_keeps hs) ?_)
  extract_lets +onlyGivenNames x1 x2
  have h3 : Keeps z x2.2 := State.liveRefusal_keeps hs
  clear_value x1 x2
  exact Keeps.ite (State.liveEnd_keeps h3) (State.modSec_keeps rfl (State.wr_keeps (State.wr_keeps h3)))

theorem State.regDataRead_keeps {z s : State} {c0 : CpId} (hs : Keeps z s) : Keeps z (State.regDataRead s c0).2.2 := by
  unfold State.regDataRead
  extract_lets +onlyGivenNames x1 x2 x3 x4
  clear_value x1 x4
  refine Keeps.ite3 hs (Keeps.ite3 hs (Keeps.ite3 hs (Keeps.ite3 hs (Keeps.ite3 ?_ (Keeps.ite3 hs (Keeps.ite3 ?_ ?_))))))
  · extract_lets +onlyGivenNames x5
    clear_value x5
    exact hs
  · extract_lets +onlyGivenNames x6
    have h7 : Keeps z x6.2.2 := by
      unfold x6
      refine Keeps.foldl3 (fun x8 => fun x9 => fun h10 => ?_) hs
      extract_lets +onlyGivenNames x11
      have h12 : Keeps z x11.2 := State.readBit_keeps h10
      clear_value x11
      exact h12
    clear_value x6
    exact Keeps.ite3 h7 h7
  · extract_lets +onlyGivenNames x13
    have h14 : Keeps z x13.2 := State.fresh_keeps hs
    clear_value x13
    exact h14

theorem State.wakeUp_keeps {z s : State} (hs : Keeps z s) : Keeps z (State.wakeUp s) := by
  unfold State.wakeUp
  extract_lets +onlyGivenNames x1 x2 x4 x6 x8 x13 x18
  clear_value x1
  have h3 : Keeps z x2 := State.wr_keeps (State.wr_keeps (State.modSec_keeps rfl hs))
  have h5 : Keeps z x4 := State.modPwr_keeps h3
  have h7 : Keeps z x6 := State.modE_keeps (State.selfRefresh_keeps h5)
  have h9 : Keeps z x8 := Keeps.ite h7 (Keeps.foldl (fun x10 => fun x11 => fun h12 => Keeps.ite (State.releaseCp_keeps h12) h12) h7)
  have h14 : Keeps z x13 := Keeps.ite (Keeps.foldl (fun x15 => fun x16 => fun h17 => Keeps.ite (State.latchOut_keeps h17) h17) h9) h5
  have h19 : Keeps z x18 := Keeps.ite (State.ctl_keeps h14) h14
  clear_value x2 x4 x6 x8 x13 x18
  exact State.modPwr_keeps h19

theorem State.wakeEvent_keeps {z s : State} (hs : Keeps z s) : Keeps z (State.wakeEvent s) := by
  unfold State.wakeEvent
  extract_lets +onlyGivenNames x1
  have h2 : Keeps z x1 := State.modE_keeps hs
  clear_value x1
  exact Keeps.ite (State.wakeUp_keeps h2) (Keeps.ite (State.modPwr_keeps h2) h2)

theorem State.readFuses_keeps {z s : State} (hs : Keeps z s) : Keeps z (State.readFuses s).2 := by
  unfold State.readFuses
  refine Keeps.foldl2 (fun x1 => fun x2 => fun h3 => Keeps.ite2 h3 ?_) hs
  split
  · exact Keeps.mk2 (State.wr_keeps h3)
  · exact Keeps.mk2 (State.wr_keeps h3)
  · extract_lets +onlyGivenNames x4
    have h5 : Keeps z x4 := Keeps.ite (State.wr_keeps (State.wr_keeps h3)) h3
    clear_value x4
    exact Keeps.mk2 (Keeps.ite (State.wr_keeps (State.wr_keeps (State.burn_keeps h5))) h5)

theorem State.enterSys_keeps {z s : State} {x : Sys} (hs : Keeps z s) : Keeps z (State.enterSys s x) := by
  unfold State.enterSys
  exact State.modSec_keeps rfl (State.wr_keeps hs)

theorem State.recover_keeps {z s : State} {cause : Nat} (hs : Keeps z s) : Keeps z (State.recover s cause) := by
  unfold State.recover
  extract_lets +onlyGivenNames x1 x3 x5
  have h2 : Keeps z x1 := State.enterSys_keeps (State.wr_keeps hs)
  have h4 : Keeps z x3 := State.modPwr_keeps h2
  have h6 : Keeps z x5 := State.wr_keeps (State.wr_keeps h4)
  clear_value x1 x3 x5
  exact State.wr_keeps (State.wr_keeps h6)

theorem State.showKeys_keeps {z s : State} (hs : Keeps z s) : Keeps z (State.showKeys s) := by
  unfold State.showKeys
  extract_lets +onlyGivenNames x1 x2
  have h3 : Keeps z x2 := State.modN_keeps hs
  clear_value x1 x2
  exact Keeps.foldl (fun x4 => fun x5 => fun h6 => State.wrB_keeps h6) h3

theorem State.showAddrs_keeps {z s : State} (hs : Keeps z s) : Keeps z (State.showAddrs s) := by
  unfold State.showAddrs
  extract_lets +onlyGivenNames x1
  have h2 : Keeps z x1 := Keeps.foldl (fun x3 => fun x4 => fun h5 => State.wr_keeps h5) hs
  clear_value x1
  exact Keeps.foldl (fun x6 => fun x7 => fun h8 => State.wr_keeps (State.wr_keeps h8)) h2

theorem State.showSettings_keeps {z s : State} (hs : Keeps z s) : Keeps z (State.showSettings s) := by
  unfold State.showSettings
  extract_lets +onlyGivenNames x1 x2 x4 x6
  have h3 : Keeps z x2 := State.wrB_keeps (State.wrB_keeps (State.wr_keeps hs))
  have h5 : Keeps z x4 := State.wr_keeps (State.wrB_keeps (State.wrB_keeps h3))
  have h7 : Keeps z x6 := State.setReg_keeps h5
  clear_value x1 x2 x4 x6
  exact State.showKeys_keeps (State.showAddrs_keeps h7)

theorem State.unseal_keeps {z s : State} (hs : Keeps z s) : Keeps z (State.unseal s).2 := by
  unfold State.unseal
  split
  · exact hs
  · extract_lets +onlyGivenNames x1 x3
    have h2 : Keeps z x1.2 := State.rand_keeps hs
    clear_value x1
    have h4 : Keeps z x3 := State.modSec_keeps rfl h2
    clear_value x3
    split
    · exact Keeps.mk2 (State.showSettings_keeps (State.wr_keeps (State.modSec_keeps rfl h4)))
    · extract_lets +onlyGivenNames x5
      clear_value x5
      refine Keeps.ite2 h4 ?_
      split
      · exact Keeps.mk2 (State.showSettings_keeps (State.modSec_keeps rfl h4))
      · exact h4

theorem State.setMacs_keeps {z s : State} {base : Nat} (hs : Keeps z s) : Keeps z (State.setMacs s base) := by
  unfold State.setMacs
  exact Keeps.foldl (fun x1 => fun x2 => fun h3 => State.wr_keeps h3) (State.wr_keeps hs)

theorem State.fuseMacs_keeps {z s : State} (hs : Keeps z s) : Keeps z (State.fuseMacs s) := by
  unfold State.fuseMacs
  exact Keeps.ite hs (State.setMacs_keeps hs)

theorem State.fwHeadFail_keeps {z s : State} {y1 : List Byte} (hs : Keeps z s) : Keeps z (State.fwHeadFail s y1).2 := by
  unfold State.fwHeadFail
  extract_lets +onlyGivenNames x1 x2
  clear_value x1 x2
  refine Keeps.ite2 hs (Keeps.ite2 hs (Keeps.ite2 hs ?_))
  extract_lets +onlyGivenNames x3
  have h4 : Keeps z x3.2 := State.verify_keeps hs
  clear_value x3
  exact Keeps.ite2 h4 h4

theorem State.bankFail_keeps {z s : State} {b : Nat} (hs : Keeps z s) : Keeps z (State.bankFail s b).2 := by
  unfold State.bankFail
  refine Keeps.ite2 hs (Keeps.ite2 hs ?_)
  extract_lets +onlyGivenNames x1 x2
  have h3 : Keeps z x2.2 := State.fwHeadFail_keeps hs
  clear_value x1 x2
  exact Keeps.ite2 h3 (Keeps.ite2 h3 (Keeps.ite2 h3 h3))

theorem State.sealBcr_keeps {z s : State} {x : SetSlot} (hs : Keeps z s) : Keeps z (State.sealBcr s x) := by
  unfold State.sealBcr
  extract_lets +onlyGivenNames x1
  clear_value x1
  exact State.modSec_keeps rfl hs

theorem State.pickBank_keeps {z s : State} {okA okB : Bool} (hs : Keeps z s) : Keeps z (State.pickBank s okA okB).2 := by
  unfold State.pickBank
  extract_lets +onlyGivenNames x1 x2 x3
  clear_value x1 x2 x3
  refine Keeps.ite2 hs ?_
  extract_lets +onlyGivenNames x4
  unfold x4
  split
  · split
    · exact hs
    · exact hs
  · split
    · split
      · exact hs
      · exact hs
    · refine Keeps.ite2 (Keeps.mk2 (State.sealBcr_keeps hs)) ?_
      split
      · exact Keeps.mk2 (State.sealBcr_keeps hs)
      · exact Keeps.mk2 (State.sealBcr_keeps hs)

theorem State.verifyDl_keeps {z s : State} {d : Download} (hs : Keeps z s) : Keeps z (State.verifyDl s d) := by
  unfold State.verifyDl
  refine Keeps.ite ?_ (State.wr_keeps hs)
  extract_lets +onlyGivenNames x1
  have h2 : Keeps z x1.2 := State.imgFail_keeps hs
  clear_value x1
  exact State.wr_keeps (State.wr_keeps h2)

theorem State.showDl_keeps {z s : State} (hs : Keeps z s) : Keeps z (State.showDl s) := by
  unfold State.showDl
  split
  · exact State.wr_keeps (State.wr_keeps (State.wr_keeps hs))
  · extract_lets +onlyGivenNames x1
    have h2 : Keeps z x1 := State.wr_keeps (State.wr_keeps (State.wr_keeps (State.wrB_keeps hs)))
    clear_value x1
    exact Keeps.ite (State.verifyDl_keeps h2) h2

theorem State.convert_keeps {z s : State} {pk : BankPick} {fmt prev : Nat} (hs : Keeps z s) : Keeps z (State.convert s pk fmt prev) := by
  unfold State.convert
  split
  · exact Keeps.ite (State.modSec_keeps rfl hs) (Keeps.ite hs (State.modSec_keeps rfl hs))
  · exact hs

theorem State.enterBoot_keeps {z s : State} {pk : BankPick} (hs : Keeps z s) : Keeps z (State.enterBoot s pk) := by
  unfold State.enterBoot
  extract_lets +onlyGivenNames x1 x2 x4 x5 x7 x9 x11
  have h3 : Keeps z x2 := State.enterSys_keeps hs
  have h6 : Keeps z x5 := State.wr_keeps (State.wrB_keeps (State.wr_keeps h3))
  have h8 : Keeps z x7 := State.wr_keeps (State.wr_keeps (State.wr_keeps h6))
  have h10 : Keeps z x9 := State.wr_keeps (State.wrB_keeps (State.wrB_keeps h8))
  have h12 : Keeps z x11 := State.fuseMacs_keeps (State.wr_keeps (State.wr_keeps h10))
  clear_value x1 x2 x4 x5 x7 x9 x11
  exact State.modSec_keeps rfl (State.showDl_keeps (State.convert_keeps h12))

theorem State.coldStart_keeps {z s : State} (hs : Keeps z s) : Keeps z (State.coldStart s) := by
  unfold State.coldStart
  refine Keeps.ite hs ?_
  extract_lets +onlyGivenNames x1
  have h2 : Keeps z x1.2 := State.readFuses_keeps hs
  clear_value x1
  refine Keeps.ite (State.recover_keeps h2) ?_
  extract_lets +onlyGivenNames x3 x5 x7
  have h4 : Keeps z x3 := State.wr_keeps (State.wrB_keeps h2)
  clear_value x3
  have h6 : Keeps z x5 := Keeps.same (s := x3) h4 ⟨rfl, rfl, rfl, rfl, rfl, rfl, rfl, rfl, rfl, rfl⟩
  have h8 : Keeps z x7.2 := State.unseal_keeps h6
  clear_value x5 x7
  refine Keeps.ite (State.recover_keeps (State.fuseMacs_keeps h8)) ?_
  extract_lets +onlyGivenNames x9 x11 x13
  have h10 : Keeps z x9.2 := State.bankFail_keeps h8
  have h12 : Keeps z x11.2 := State.bankFail_keeps h10
  have h14 : Keeps z x13 := State.wr_keeps (State.wr_keeps h12)
  clear_value x9 x11 x13
  split
  · exact State.recover_keeps (State.fuseMacs_keeps (Keeps.eq2 (by assumption) (State.pickBank_keeps h14)))
  · exact State.enterBoot_keeps (Keeps.eq2 (by assumption) (State.pickBank_keeps h14))

theorem State.breakWrite_keeps {z s : State} (hs : Keeps z s) : Keeps z (State.breakWrite s) := by
  unfold State.breakWrite
  split
  · exact Keeps.ite hs (State.writeSlot_keeps hs)
  · exact hs

theorem State.wiped_keeps {z s : State} {to_ : Sys} (hs : Keeps z s) : Keeps z (s.wiped to_) := by
  unfold State.wiped
  extract_lets s1 e
  have h1 : Keeps z s1 := State.breakWrite_keeps hs
  refine Keeps.mem h1 ⟨rfl, rfl, rfl, rfl⟩ fun _ => ?_
  exact ⟨rfl, rfl, rfl, mapWf_put _ _ _ (mapWf_put _ _ _ rfl), rfl, rfl⟩

theorem State.coldHeld_keeps {z s : State} {src : Nat} (hs : Keeps z s) : Keeps z (State.coldHeld s src) := by
  unfold State.coldHeld
  extract_lets +onlyGivenNames x1 x2
  have h3 : Keeps z x2 := State.wr_keeps (State.wr_keeps (State.wiped_keeps hs))
  clear_value x1 x2
  exact State.wr_keeps h3

theorem State.coldReset_keeps {z s : State} {src : Nat} (hs : Keeps z s) : Keeps z (State.coldReset s src) := by
  unfold State.coldReset
  exact State.coldStart_keeps (State.coldHeld_keeps hs)

theorem State.latchAll_keeps {z s : State} (hs : Keeps z s) : Keeps z (State.latchAll s) := by
  unfold State.latchAll
  extract_lets +onlyGivenNames x1
  clear_value x1
  exact Keeps.foldl (fun x2 => fun x3 => fun h4 => Keeps.ite (State.latchOut_keeps h4) h4) hs

theorem State.negotiate_keeps {z s : State} (hs : Keeps z s) : Keeps z (State.negotiate s) := by
  unfold State.negotiate
  refine Keeps.ite hs ?_
  extract_lets +onlyGivenNames x1 x3
  have h2 : Keeps z x1.2 := State.rand_keeps hs
  clear_value x1
  have h4 : Keeps z x3 := State.wr_keeps (State.modPair_keeps rfl rfl h2)
  clear_value x3
  exact State.uboriNow_keeps h4

theorem State.enterPair_keeps {z s : State} {w : Plan} (hs : Keeps z s) : Keeps z (State.enterPair s w) := by
  unfold State.enterPair
  extract_lets +onlyGivenNames x1 x3
  have h2 : Keeps z x1 := State.modN_keeps (State.wr_keeps (State.wr_keeps hs))
  clear_value x1
  have h4 : Keeps z x3 := Keeps.ite (State.modPair_keeps rfl rfl h2) h2
  clear_value x3
  exact State.negotiate_keeps h4

theorem State.enterRun_keeps {z s : State} {w : Plan} (hs : Keeps z s) : Keeps z (State.enterRun s w) := by
  unfold State.enterRun
  extract_lets +onlyGivenNames x1 x3 x5 x10 x12 x14
  have h2 : Keeps z x1 := State.modSec_keeps rfl (State.enterSys_keeps hs)
  have h4 : Keeps z x3 := State.modE_keeps h2
  have h6 : Keeps z x5 := Keeps.foldl (fun x7 => fun x8 => fun h9 => Keeps.ite (State.releaseCp_keeps h9) h9) h4
  clear_value x1 x3 x5
  have h11 : Keeps z x10 := State.modPair_keeps rfl rfl h6
  have h13 : Keeps z x12 := Keeps.ite (State.setReg_keeps (State.seals_keeps h11)) h11
  have h15 : Keeps z x14 := by
    unfold x14
    split
    · exact State.wr_keeps (State.seals_keeps h13)
    · exact h13
  clear_value x10 x12 x14
  exact State.settleShed_keeps (State.latchAll_keeps (Keeps.ite h15 (State.enterPair_keeps h15)))

theorem State.setClockRec_keeps {z s : State} {w : Plan} {q : QuadId} (hs : Keeps z s) : Keeps z (State.setClockRec s w q) := by
  unfold State.setClockRec
  extract_lets +onlyGivenNames x1 x2 x3 x4 x5 x6 x7 x9 x11 x12 x14 x16
  have h8 : Keeps z x7 := State.setReg_keeps hs
  have h10 : Keeps z x9 := State.wr_keeps (State.wr_keeps h8)
  have h13 : Keeps z x12 := State.modPwr_keeps h10
  have h15 : Keeps z x14 := State.wrB_keeps (State.useRate_keeps h13)
  have h17 : Keeps z x16 := State.modPwr_keeps h15
  clear_value x1 x2 x3 x4 x5 x6 x7 x9 x11 x12 x14 x16
  exact State.wr_keeps h17

theorem State.setFabric_keeps {z s : State} {w : Plan} (hs : Keeps z s) : Keeps z (State.setFabric s w) := by
  unfold State.setFabric
  refine Keeps.foldl (fun x1 => fun x2 => fun h3 => ?_) hs
  extract_lets +onlyGivenNames x4 x5
  clear_value x4 x5
  exact State.setReg_keeps h3

theorem State.setPins_keeps {z s : State} {w : Plan} (hs : Keeps z s) : Keeps z (State.setPins s w) := by
  unfold State.setPins
  extract_lets +onlyGivenNames x1 x6
  have h2 : Keeps z x1 := Keeps.foldl (fun x3 => fun x4 => fun h5 => State.setReg_keeps h5) hs
  have h7 : Keeps z x6 := Keeps.foldl (fun x8 => fun x9 => fun h10 => State.wr_keeps h10) h2
  clear_value x1 x6
  exact Keeps.foldl (fun x11 => fun x12 => fun h13 => State.wr_keeps h13) h7

theorem State.setEvents_keeps {z s : State} {on : List (Nat × Word)} (hs : Keeps z s) : Keeps z (State.setEvents s on) := by
  unfold State.setEvents
  extract_lets +onlyGivenNames x1 x2
  have h3 : Keeps z x2 := Keeps.foldl (fun x4 => fun x5 => fun h6 => State.setReg_keeps h6) hs
  clear_value x1 x2
  exact State.modE_keeps h3

theorem State.setNet_keeps {z s : State} {w : Plan} (hs : Keeps z s) : Keeps z (State.setNet s w) := by
  unfold State.setNet
  extract_lets +onlyGivenNames x1 x3 x8 x10
  have h2 : Keeps z x1 := State.modN_keeps hs
  have h4 : Keeps z x3 := Keeps.foldl (fun x5 => fun x6 => fun h7 => State.setQsDe_keeps h7) h2
  have h9 : Keeps z x8 := State.wr_keeps h4
  have h11 : Keeps z x10 := Keeps.foldl (fun x12 => fun x13 => fun h14 => State.wrB_keeps h14) h9
  clear_value x1 x3 x8 x10
  exact Keeps.foldl (fun x15 => fun x16 => fun h17 => State.wr_keeps (State.wr_keeps h17)) h11

theorem State.applyPlan_keeps {z s : State} {w : Plan} (hs : Keeps z s) : Keeps z (State.applyPlan s w) := by
  unfold State.applyPlan
  extract_lets +onlyGivenNames x1 x6 x8 x10 x15 x17 x19 x21
  have h2 : Keeps z x1 := Keeps.foldl (fun x3 => fun x4 => fun h5 => State.setClockRec_keeps h5) (State.setStructRegs_keeps hs)
  have h7 : Keeps z x6 := State.setFabric_keeps (State.modM_keeps (State.setPins_keeps h2))
  clear_value x1 x6
  have h9 : Keeps z x8 := State.modSec_keeps rfl (State.setParts_keeps h7)
  have h11 : Keeps z x10 := Keeps.foldl (fun x12 => fun x13 => fun h14 => State.loadRegion_keeps (State.takeRegion_keeps h14)) h9
  have h16 : Keeps z x15 := State.modM_keeps h11
  have h18 : Keeps z x17 := State.setEvents_keeps (State.setNet_keeps h16)
  have h20 : Keeps z x19 := State.modPwr_keeps h18
  clear_value x8 x10 x15 x17 x19
  have h22 : Keeps z x21 := Keeps.same (s := x19) h20 ⟨rfl, rfl, rfl, rfl, rfl, rfl, rfl, rfl, rfl, rfl⟩
  clear_value x21
  exact State.modPair_keeps rfl rfl h22

theorem State.bootKeys_keeps {z s : State} (hs : Keeps z s) : Keeps z (State.bootKeys s) := by
  unfold State.bootKeys
  extract_lets +onlyGivenNames x1 x3
  have h2 : Keeps z x1.2 := State.rand_keeps hs
  have h4 : Keeps z x3.2 := State.fresh_keeps h2
  clear_value x1 x3
  exact State.modM_keeps (State.modN_keeps h4)

theorem State.configure_keeps {z s : State} {img : List Byte} {w : Plan} (hs : Keeps z s) : Keeps z (State.configure s img w) := by
  unfold State.configure
  extract_lets +onlyGivenNames x1
  have h2 : Keeps z x1 := State.modSec_keeps rfl (State.enterSys_keeps hs)
  clear_value x1
  exact State.enterRun_keeps (State.applyPlan_keeps (State.bootKeys_keeps h2))

theorem State.showCopy_keeps {z s : State} {i : Nat} {img : List Byte} {fail : Nat} {chosen : Bool}
    (hs : Keeps z s) : Keeps z (State.showCopy s i img fail chosen) := by
  unfold State.showCopy
  extract_lets +onlyGivenNames x1
  clear_value x1
  exact State.wr_keeps (State.wrB_keeps (State.wrB_keeps (State.wr_keeps hs)))

theorem State.chooseStruct_keeps {z s : State} (hs : Keeps z s) : Keeps z (State.chooseStruct s) := by
  unfold State.chooseStruct
  extract_lets +onlyGivenNames x1 x2 x3 x5 x7 x8 x9 x11 x12 x13
  have h4 : Keeps z x3.2 := State.earlyFail_keeps hs
  have h6 : Keeps z x5.2 := State.earlyFail_keeps h4
  have h10 : Keeps z x9 := h6
  have h14 : Keeps z x13 := State.showCopy_keeps (State.showCopy_keeps h10)
  clear_value x1 x2 x3 x5 x7 x8 x9 x11 x12 x13
  refine Keeps.ite (State.recover_keeps h14) ?_
  split
  · exact State.configure_keeps h14
  · exact State.configure_keeps h14
  · exact State.configure_keeps h14

theorem State.startStruct_keeps {z s : State} (hs : Keeps z s) : Keeps z (State.startStruct s) := by
  unfold State.startStruct
  exact Keeps.ite (State.configure_keeps hs) (State.chooseStruct_keeps hs)

theorem State.loadPatch_keeps {z s : State} (hs : Keeps z s) : Keeps z (State.loadPatch s) := by
  unfold State.loadPatch
  extract_lets +onlyGivenNames x1 x2
  clear_value x1 x2
  split
  · exact hs
  · exact State.takePatch_keeps hs

theorem State.railsUp_keeps {z s : State} (hs : Keeps z s) : Keeps z (State.railsUp s) := by
  unfold State.railsUp
  exact Keeps.ite (State.startStruct_keeps hs) (State.loadPatch_keeps hs)

theorem State.identify_keeps {z s : State} {q : QuadId} (hs : Keeps z s) : Keeps z (State.identify s q) := by
  unfold State.identify
  extract_lets +onlyGivenNames x1 x2 x3 x4 x5
  have h6 : Keeps z x5 := Keeps.ite (State.wr_keeps (State.wr_keeps (State.wr_keeps hs))) (State.wr_keeps (State.wr_keeps (State.wr_keeps hs)))
  clear_value x1 x2 x3 x4 x5
  exact State.wr_keeps (State.wrB_keeps h6)

theorem State.warmReset_keeps {z s : State} {src : Nat} (hs : Keeps z s) : Keeps z (s.warmReset src) := by
  unfold State.warmReset
  extract_lets s1 off _ cps m _ _ _ _ _ _ r r1 r2 r3
  have h1 : Keeps z s1 := State.breakWrite_keeps hs
  have hr : Keeps z r := Keeps.mem h1 ⟨rfl, rfl, rfl, rfl⟩ fun hc => by
    have hc := (State.canonical_iff _).mp hc
    exact ⟨mapWf_filter _ _ hc.1, mapWf_filter _ _ hc.2.1, mapWf_filter _ _ hc.2.2.1, mapWf_puts _ _ _ _ rfl, rfl, rfl⟩
  have hr1 : Keeps z r1 := State.enterSys_keeps (State.wr_keeps (State.wr_keeps hr))
  have hr2 : Keeps z r2 := State.showSettings_keeps (State.setMacs_keeps hr1)
  have hr3 : Keeps z r3 := Keeps.ite (State.setReg_keeps (State.setReg_keeps hr2)) hr2
  exact Keeps.ite hr3 (State.railsUp_keeps (Keeps.foldl (fun _ _ h => State.identify_keeps h) hr3))

theorem State.applyPage_keeps {z s : State} {x : PageImg} (hs : Keeps z s) : Keeps z (State.applyPage s x) := by
  unfold State.applyPage
  extract_lets +onlyGivenNames x1 x2
  have h3 : Keeps z x2 := by
    unfold x2
    split
    · exact Keeps.ite hs (State.firstTouch_keeps (State.ensureRoot_keeps hs))
    · exact hs
  clear_value x1 x2
  split
  · exact h3
  · extract_lets +onlyGivenNames x4 x6
    have h5 : Keeps z x4 := State.putBytes_keeps (State.zeroGranule_keeps h3)
    have h7 : Keeps z x6 := Keeps.foldl (fun x8 => fun x9 => fun h10 => Keeps.ite (State.setTag_keeps h10) h10) h5
    clear_value x4 x6
    split
    · exact State.setPte_keeps h7
    · exact h7

theorem execRestart_keeps {z s : State} (hs : Keeps z s) : Out.Keeps z (execRestart s) := by
  unfold execRestart
  exact Out.keeps_next (State.restart_keeps hs)

theorem execEvtInEdge_keeps {z : State} {n : Fin 4} {rising : Bool} {s : State} (hs : Keeps z s) : Out.Keeps z (execEvtInEdge n rising s) := by
  unfold execEvtInEdge
  exact Out.keeps_next (Keeps.ite (State.fire_keeps hs) hs)

theorem State.setEpoch_keeps {z s : State} {e : Word} (hs : Keeps z s) : Keeps z (State.setEpoch s e) := by
  unfold State.setEpoch
  exact State.seals_keeps (State.setReg_keeps hs)

theorem State.sawEpoch_keeps {z s : State} {e : Word} (hs : Keeps z s) : Keeps z (State.sawEpoch s e) := by
  unfold State.sawEpoch
  exact Keeps.ite hs (Keeps.ite (State.modPair_keeps rfl rfl hs) (Keeps.ite (State.setEpoch_keeps hs) hs))

theorem State.uboriAck_keeps {z s : State} {a : BitVec 32} (hs : Keeps z s) : Keeps z (State.uboriAck s a) := by
  unfold State.uboriAck
  extract_lets +onlyGivenNames x1 x2 x3
  clear_value x1 x2 x3
  refine Keeps.ite hs ?_
  extract_lets +onlyGivenNames x4 x5
  clear_value x4
  have h6 : Keeps z x5 := State.modPair_keeps rfl rfl hs
  clear_value x5
  exact Keeps.foldl (fun x7 => fun x8 => fun h9 => State.leave_keeps h9) h6

theorem State.linkAck_keeps {z s : State} (hs : Keeps z s) : Keeps z (State.linkAck s) := by
  unfold State.linkAck
  exact State.uboriNow_keeps hs

theorem State.uboriIn_keeps {z s : State} {type : Byte} {f : UboriFrame} {sequenced : Bool} {body : State → State} (hs : Keeps z s)
    (hbody : ∀ w0, Keeps z w0 → Keeps z (body w0)) : Keeps z (State.uboriIn s type f sequenced body) := by
  unfold State.uboriIn
  refine Keeps.ite hs ?_
  extract_lets +onlyGivenNames x1 x3
  have h2 : Keeps z x1.2 := State.inject_keeps hs
  have h4 : Keeps z x3 := h2
  clear_value x1 x3
  refine Keeps.ite (State.bucket_keeps (State.cnt_keeps h4)) ?_
  extract_lets +onlyGivenNames x5
  have h6 : Keeps z x5 := State.sawEpoch_keeps (State.uboriAck_keeps h4)
  clear_value x5
  exact Keeps.ite (hbody _ h6) (Keeps.ite (State.linkAck_keeps (hbody _ (State.modPair_keeps rfl rfl h6))) (State.linkAck_keeps h6))

theorem execLinkack_keeps {z : State} {f : UboriFrame} {s : State} (hs : Keeps z s) : Out.Keeps z (execLinkack f s) := by
  unfold execLinkack
  exact Out.keeps_next (State.uboriIn_keeps hs (fun x1 => fun h2 => Keeps.ident h2))

theorem execShedFloorWrite_keeps {z : State} {level : BitVec 3} {s : State} (hs : Keeps z s) : Out.Keeps z (execShedFloorWrite level s) := by
  unfold execShedFloorWrite
  exact Out.keeps_next (State.setFloor_keeps hs)

theorem State.stimWrite_keeps {z s : State} {c : CpId} {n : Nat} {v : Word} (hs : Keeps z s) : Keeps z (State.stimWrite s c n v) := by
  unfold State.stimWrite
  extract_lets +onlyGivenNames x1 x2
  clear_value x2
  exact Keeps.ite hs (Keeps.ite (State.cntSat_keeps (State.modTrc_keeps hs)) (State.tracePkt_keeps hs))

theorem State.fwdInput_keeps {z s : State} {f : KwtFrame} (hs : Keeps z s) : Keeps z (State.fwdInput s f) := by
  unfold State.fwdInput
  extract_lets +onlyGivenNames x1
  clear_value x1
  exact State.uboriSeq_keeps (State.modPair_keeps rfl rfl hs)

theorem State.traceStore_keeps {z s : State} {cl : ClusterId} {k : TracePkt} (hs : Keeps z s) : Keeps z (State.traceStore s cl k) := by
  unfold State.traceStore
  extract_lets +onlyGivenNames x1 x2 x3 x5 x7
  have h4 : Keeps z x3 := State.modTrc_keeps hs
  have h6 : Keeps z x5 := State.writeRange_keeps h4
  have h8 : Keeps z x7 := State.wr_keeps h6
  clear_value x1 x2 x3 x5 x7
  exact Keeps.ite (State.wr_keeps h8) h8

theorem execEstimatorUpdate_keeps {z : State} {q : QuadId} {sum : BitVec 32} {s : State} (hs : Keeps z s) : Out.Keeps z
    (execEstimatorUpdate q sum s) := by
  unfold execEstimatorUpdate
  exact Out.keeps_next (State.modPwr_keeps hs)

theorem execShed7Exit_keeps {z s : State} (hs : Keeps z s) : Out.Keeps z (execShed7Exit s) := by
  unfold execShed7Exit
  refine Out.keeps_next ?_
  extract_lets +onlyGivenNames x1
  clear_value x1
  exact Keeps.ite hs (Keeps.ite (State.warmReset_keeps hs) (Keeps.ite (State.coldReset_keeps hs) hs))

theorem execStateFrame_keeps {z : State} {f : UboriFrame} {s : State} (hs : Keeps z s) : Out.Keeps z (execStateFrame f s) := by
  unfold execStateFrame
  exact Out.keeps_next (State.uboriIn_keeps hs (fun x1 => fun h2 => State.modPair_keeps rfl rfl h2))

theorem execSigFrame_keeps {z : State} {f : UboriFrame} {s : State} (hs : Keeps z s) : Out.Keeps z (execSigFrame f s) := by
  unfold execSigFrame
  refine Out.keeps_next (State.uboriIn_keeps hs (fun x1 => fun h2 => ?_))
  extract_lets +onlyGivenNames x3
  have h4 : Keeps z x3 := State.modPair_keeps rfl rfl h2
  clear_value x3
  exact State.twinCompare_keeps (Keeps.ite (State.cut_keeps h4) h4)

theorem execDbgRegdataAccess_keeps {z : State} {c : CpId} {write : Bool} {v : Word} {s : State} (hs : Keeps z s) : Out.Keeps z
    (execDbgRegdataAccess c write v s) := by
  unfold execDbgRegdataAccess
  refine Out.keeps_next (Keeps.ite ?_ ?_)
  · extract_lets +onlyGivenNames x1
    have h2 : Keeps z x1.2 := State.regDataWrite_keeps hs
    clear_value x1
    exact Keeps.ite (State.setReg_keeps h2) h2
  · extract_lets +onlyGivenNames x3
    have h4 : Keeps z x3.2.2 := State.regDataRead_keeps hs
    clear_value x3
    exact Keeps.ite (State.setReg_keeps h4) h4

theorem State.persist_keeps {z s : State} {key : Nat} {past : Bool} (hs : Keeps z s) : Keeps z (State.persist s key past) := by
  unfold State.persist
  exact State.modPwr_keeps hs

theorem State.monitor_keeps {z s : State} {m : MonSample} (hs : Keeps z s) : Keeps z (State.monitor s m) := by
  unfold State.monitor
  extract_lets +onlyGivenNames x1 x3 x4 x6 x7 x8 x9 x11 x12 x22 x23
  have h2 : Keeps z x1.2 := State.inject_keeps hs
  have h5 : Keeps z x4 := State.modPwr_keeps h2
  have h10 : Keeps z x9 := State.wr_keeps h5
  have h13 : Keeps z x12 := by
    unfold x12
    refine Keeps.foldl (fun x14 => fun x15 => fun h16 => ?_) h10
    extract_lets +onlyGivenNames x17
    have h18 : Keeps z x17 := Keeps.foldl (fun x19 => fun x20 => fun h21 => State.persist_keeps h21) h16
    clear_value x17
    exact State.demand_keeps h18
  have h24 : Keeps z x23 := Keeps.foldl (fun x25 => fun x26 => fun h27 => State.persist_keeps h27) h13
  clear_value x1 x3 x4 x6 x7 x8 x9 x11 x12 x22 x23
  exact State.settleShed_keeps (State.demand_keeps h24)

theorem execMonitorSample_keeps {z : State} {m : MonSample} {s : State} (hs : Keeps z s) : Out.Keeps z (execMonitorSample m s) := by
  unfold execMonitorSample
  exact Out.keeps_next (Keeps.ite (State.monitor_keeps hs) hs)

theorem execPowerClockStepUp_keeps {z s : State} (hs : Keeps z s) : Out.Keeps z (execPowerClockStepUp s) := by
  unfold execPowerClockStepUp
  extract_lets +onlyGivenNames x1
  clear_value x1
  exact Out.keeps_next (Keeps.ite (Keeps.foldl (fun x2 => fun x3 => fun h4 => Keeps.ite (State.modPwr_keeps h4) h4) hs) hs)

theorem State.applyPiece_keeps {z s : State} {off : Nat} {bs : List Byte} (hs : Keeps z s) : Keeps z (State.applyPiece s off bs) := by
  unfold State.applyPiece
  split
  · exact hs
  · extract_lets +onlyGivenNames x1 x2
    clear_value x1
    have h3 : Keeps z x2 := State.modPair_keeps rfl rfl hs
    clear_value x2
    refine Keeps.ite h3 ?_
    extract_lets +onlyGivenNames x4 x6
    have h5 : Keeps z x4.2 := State.liveRefusal_keeps h3
    have h7 : Keeps z x6 := h5
    clear_value x4 x6
    refine Keeps.ite (State.uboriSeq_keeps h7) ?_
    extract_lets +onlyGivenNames x8
    clear_value x8
    exact State.modSec_keeps rfl (State.modPair_keeps rfl rfl (State.writeSlot_keeps h7))

theorem execCtlApply_keeps {z : State} {f : UboriFrame} {s : State} (hs : Keeps z s) : Out.Keeps z (execCtlApply f s) := by
  unfold execCtlApply
  exact Out.keeps_next (State.uboriIn_keeps hs (fun x1 => fun h2 => Keeps.ite h2 (Keeps.ite (Keeps.ite (State.liveEnd_keeps h2) h2) (Keeps.ite
      (State.applyPiece_keeps h2) h2))))

theorem execModuleWatchdogExpiry_keeps {z s : State} (hs : Keeps z s) : Out.Keeps z (execModuleWatchdogExpiry s) := by
  unfold execModuleWatchdogExpiry
  exact Out.keeps_next (Keeps.ite hs (State.coldReset_keeps hs))

theorem execModuleWatchdogWarning_keeps {z s : State} (hs : Keeps z s) : Out.Keeps z (execModuleWatchdogWarning s) := by
  unfold execModuleWatchdogWarning
  exact Out.keeps_next (Keeps.ite hs (State.fire_keeps hs))

theorem execClockRaise_keeps {z : State} {q : QuadId} {s : State} (hs : Keeps z s) : Out.Keeps z (execClockRaise q s) := by
  unfold execClockRaise
  refine Out.keeps_next ?_
  split
  · exact Keeps.ite (State.modPwr_keeps hs) hs
  · exact hs

theorem State.droop_keeps {z s : State} {q : QuadId} (hs : Keeps z s) : Keeps z (State.droop s q) := by
  unfold State.droop
  exact Keeps.ite hs (State.bucket_keeps (State.fire_keeps (State.wr_keeps (State.cnt_keeps hs))))

theorem State.glitch_keeps {z s : State} {src : Nat} (hs : Keeps z s) : Keeps z (State.glitch s src) := by
  unfold State.glitch
  refine Keeps.ite hs ?_
  extract_lets +onlyGivenNames x1 x3
  have h2 : Keeps z x1 := State.coldHeld_keeps (State.zeroise_keeps hs)
  clear_value x1 x3
  exact State.wr_keeps (State.modSec_keeps rfl h2)

theorem execExcursionLimit_keeps {z s : State} (hs : Keeps z s) : Out.Keeps z (execExcursionLimit s) := by
  unfold execExcursionLimit
  exact Out.keeps_next (Keeps.ite (State.wr_keeps hs) hs)

theorem State.denied_keeps {z s : State} (hs : Keeps z s) : Keeps z (State.denied s) := by
  unfold State.denied
  extract_lets +onlyGivenNames x1
  have h2 : Keeps z x1 := State.modPair_keeps rfl rfl (State.wr_keeps hs)
  clear_value x1
  exact Keeps.ite (State.modN_keeps (State.outOfSync_keeps (State.wr_keeps (State.modPair_keeps rfl rfl h2)))) (Keeps.ite (State.modPair_keeps rfl
      rfl (State.wr_keeps h2)) h2)

theorem State.fullResync_keeps {z s : State} (hs : Keeps z s) : Keeps z (State.fullResync s) := by
  unfold State.fullResync
  exact Keeps.ite (State.cut_keeps (State.modPair_keeps rfl rfl (State.wr_keeps hs))) hs

theorem execFullResync_keeps {z s : State} (hs : Keeps z s) : Out.Keeps z (execFullResync s) := by
  unfold execFullResync
  exact Out.keeps_next (State.fullResync_keeps hs)

theorem State.traceOverflow_keeps {z s : State} {cl : ClusterId} (hs : Keeps z s) : Keeps z (State.traceOverflow s cl) := by
  unfold State.traceOverflow
  refine Keeps.foldl (fun x1 => fun x2 => fun h3 => ?_) hs
  extract_lets +onlyGivenNames x4 x5 x6
  clear_value x4 x5 x6
  exact Keeps.ite (State.tracePkt_keeps (State.modTrc_keeps h3)) h3

theorem execRelinquish_keeps {z s : State} (hs : Keeps z s) : Out.Keeps z (execRelinquish s) := by
  unfold execRelinquish
  exact Out.keeps_next (State.relinquish_keeps hs)

theorem execUboriRetransmit_keeps {z s : State} (hs : Keeps z s) : Out.Keeps z (execUboriRetransmit s) := by
  unfold execUboriRetransmit
  refine Out.keeps_next (Keeps.ite hs (Keeps.ite (State.linkDown_keeps hs) ?_))
  extract_lets +onlyGivenNames x1 x2
  clear_value x1
  have h3 : Keeps z x2 := State.modPair_keeps rfl rfl (State.cnt_keeps hs)
  clear_value x2
  exact Keeps.foldl (fun x4 => fun x5 => fun h6 => State.leave_keeps h6) h3

theorem State.carryApply_keeps {z s : State} {no : Nat} (hs : Keeps z s) : Keeps z (State.carryApply s no) := by
  unfold State.carryApply
  split
  · refine Keeps.ite hs ?_
    extract_lets +onlyGivenNames x1
    have h2 : Keeps z x1 := Keeps.foldl (fun x3 => fun x4 => fun h5 => State.uboriSeq_keeps h5) hs
    clear_value x1
    exact State.modPair_keeps rfl rfl h2
  · exact hs

theorem State.shipStep_keeps {z s : State} (hs : Keeps z s) : Keeps z (State.shipStep s) := by
  unfold State.shipStep
  split
  · exact hs
  · refine Keeps.ite hs (Keeps.ite (State.modPair_keeps rfl rfl (State.carryApply_keeps (State.uboriSeq_keeps hs))) ?_)
    extract_lets +onlyGivenNames x1 x2
    clear_value x1
    unfold x2
    refine Keeps.ite (State.modPair_keeps rfl rfl (State.uboriSeq_keeps hs)) ?_
    split
    · exact State.modPair_keeps rfl rfl (State.uboriSeq_keeps hs)
    · extract_lets +onlyGivenNames x3 x4 x5
      clear_value x3 x4 x5
      refine Keeps.ite (State.modPair_keeps rfl rfl (State.uboriSeq_keeps hs)) ?_
      extract_lets +onlyGivenNames x6 x8
      have h7 : Keeps z x6 := State.modPair_keeps rfl rfl (State.uboriSeq_keeps hs)
      have h9 : Keeps z x8 := by
        unfold x8
        split
        · exact State.freeSpan_keeps h7
        · exact h7
      clear_value x6 x8
      exact State.wakePage_keeps (State.pressSettle_keeps (State.cowSettle_keeps h9))

theorem State.inputIn_keeps {z s : State} {arg : Word} {body : List Byte} (hs : Keeps z s) : Keeps z (State.inputIn s arg body) := by
  unfold State.inputIn
  refine Keeps.ite hs ?_
  extract_lets +onlyGivenNames x1 x2
  clear_value x1
  have h3 : Keeps z x2 := State.modPair_keeps rfl rfl hs
  clear_value x2
  exact Keeps.ite (State.stage4_keeps h3) h3

theorem execInputFrame_keeps {z : State} {f : UboriFrame} {s : State} (hs : Keeps z s) : Out.Keeps z (execInputFrame f s) := by
  unfold execInputFrame
  exact Out.keeps_next (State.uboriIn_keeps hs (fun x1 => fun h2 => State.inputIn_keeps h2))

theorem execHoldFrame_keeps {z : State} {f : UboriFrame} {s : State} (hs : Keeps z s) : Out.Keeps z (execHoldFrame f s) := by
  unfold execHoldFrame
  exact Out.keeps_next (State.uboriIn_keeps hs (fun x1 => fun h2 => Keeps.ite h2 (State.wr_keeps h2)))

theorem execRailPowerUpRetry_keeps {z s : State} (hs : Keeps z s) : Out.Keeps z (execRailPowerUpRetry s) := by
  unfold execRailPowerUpRetry
  exact Out.keeps_next (Keeps.ite (State.modPwr_keeps hs) hs)

theorem State.busOff_keeps {z s : State} {bus : Nat} (hs : Keeps z s) : Keeps z (State.busOff s bus) := by
  unfold State.busOff
  exact State.wr_keeps (State.wr_keeps (State.wr_keeps hs))

theorem State.readFru_keeps {z s : State} {fru : Option (BitVec 16 × BitVec 48)} (hs : Keeps z s) : Keeps z (State.readFru s fru) := by
  unfold State.readFru
  split
  · exact State.setMacs_keeps (State.wr_keeps (State.wr_keeps hs))
  · exact hs

theorem State.busOn_keeps {z s : State} {bus : Fin 8} {r : ProbeResult} (hs : Keeps z s) : Keeps z (State.busOn s bus r) := by
  unfold State.busOn
  extract_lets +onlyGivenNames x1 x3
  have h2 : Keeps z x1 := State.wr_keeps (State.wr_keeps (State.wr_keeps hs))
  have h4 : Keeps z x3 := Keeps.ite (State.bucket_keeps (State.wr_keeps h2)) h2
  clear_value x1 x3
  exact Keeps.ite (State.wr_keeps h4) (Keeps.ite (State.wr_keeps (State.wr_keeps h4)) h4)

theorem execSidebandProbe_keeps {z : State} {bus : Fin 8} {r : ProbeResult} {s : State} (hs : Keeps z s) : Out.Keeps z
    (execSidebandProbe bus r s) := by
  unfold execSidebandProbe
  refine Out.keeps_next (Keeps.ite hs ?_)
  extract_lets +onlyGivenNames x1 x3 x5 x6
  have h2 : Keeps z x1.2 := State.inject_keeps hs
  have h4 : Keeps z x3 := State.wr_keeps h2
  clear_value x1 x3 x5
  unfold x6
  split
  · exact State.bucket_keeps (State.wr_keeps (State.busOff_keeps h4))
  · exact State.bucket_keeps (State.wr_keeps (State.busOff_keeps h4))
  · exact State.bucket_keeps (State.wr_keeps (State.busOff_keeps h4))
  · exact State.bucket_keeps (State.wr_keeps (State.busOff_keeps h4))
  · exact Keeps.ite (State.bucket_keeps (State.wr_keeps (State.busOff_keeps h4))) (Keeps.ite (State.readFru_keeps (State.busOn_keeps h4))
      (State.busOn_keeps h4))
  · exact Keeps.ite (State.bucket_keeps (State.wr_keeps (State.busOff_keeps h4))) (Keeps.ite (State.readFru_keeps (State.busOn_keeps h4))
      (State.busOn_keeps h4))
  · exact Keeps.ite (State.bucket_keeps (State.wr_keeps (State.busOff_keeps h4))) (State.busOn_keeps h4)

theorem execRailNeverReady_keeps {z s : State} (hs : Keeps z s) : Out.Keeps z (execRailNeverReady s) := by
  unfold execRailNeverReady
  exact Out.keeps_next (Keeps.ite (State.modPwr_keeps (State.wr_keeps hs)) hs)

theorem execSleepRequest_keeps {z : State} {sramRet : Bool} {s : State} (hs : Keeps z s) : Out.Keeps z (execSleepRequest sramRet s) := by
  unfold execSleepRequest
  exact Out.keeps_next (State.sleepReq_keeps (State.wrB_keeps hs))

theorem execResync_keeps {z s : State} (hs : Keeps z s) : Out.Keeps z (execResync s) := by
  unfold execResync
  exact Out.keeps_next (State.resync_keeps hs)

theorem execCtlSleepReq_keeps {z : State} {f : UboriFrame} {s : State} (hs : Keeps z s) : Out.Keeps z (execCtlSleepReq f s) := by
  unfold execCtlSleepReq
  exact Out.keeps_next (State.uboriIn_keeps hs (fun x1 => fun h2 => Keeps.ite h2 (Keeps.ite (State.modPwr_keeps (State.wr_keeps (State.wr_keeps
      (State.wr_keeps (State.ctl_keeps h2))))) (State.ctl_keeps h2))))

theorem execCtlSleepAck_keeps {z : State} {f : UboriFrame} {s : State} (hs : Keeps z s) : Out.Keeps z (execCtlSleepAck f s) := by
  unfold execCtlSleepAck
  exact Out.keeps_next (State.uboriIn_keeps hs (fun x1 => fun h2 => Keeps.ite (State.modPwr_keeps h2) h2))

theorem execWake_keeps {z s : State} (hs : Keeps z s) : Out.Keeps z (execWake s) := by
  unfold execWake
  exact Out.keeps_next (State.wakeEvent_keeps hs)

theorem execPartitionDrained_keeps {z : State} {p : PartId} {s : State} (hs : Keeps z s) : Out.Keeps z (execPartitionDrained p s) := by
  unfold execPartitionDrained
  refine Out.keeps_next (Keeps.ite ?_ hs)
  extract_lets +onlyGivenNames x1
  have h2 : Keeps z x1 := State.setReg_keeps hs
  clear_value x1
  exact Keeps.foldl (fun x3 => fun x4 => fun h5 => State.holdCp_keeps h5) h2

theorem State.lastGood_keeps {z s : State} (hs : Keeps z s) : Keeps z (State.lastGood s) := by
  unfold State.lastGood
  refine Keeps.ite ?_ ?_
  · split
    · exact State.modPair_keeps rfl rfl (State.loadTwin_keeps (fun hc => by have := (State.canonical_iff _).mp hc; simp_all) hs)
    · exact hs
  · split
    · exact State.loadSnap_keeps hs
    · exact hs

theorem State.resyncSessions_keeps {z s : State} (hs : Keeps z s) : Keeps z (State.resyncSessions s) := by
  unfold State.resyncSessions
  refine Keeps.foldl (fun x1 => fun x2 => fun h3 => ?_) hs
  extract_lets +onlyGivenNames x4
  clear_value x4
  refine Keeps.ite h3 ?_
  extract_lets +onlyGivenNames x5 x7 x9
  have h6 : Keeps z x5 := State.modSes_keeps h3
  have h8 : Keeps z x7 := State.wr_keeps h6
  have h10 : Keeps z x9 := Keeps.foldl (fun x11 => fun x12 => fun h13 => State.emit_keeps h13) h8
  clear_value x5 x7 x9
  exact State.ackWith_keeps h10

theorem State.failover_keeps {z s : State} (hs : Keeps z s) : Keeps z (State.failover s) := by
  unfold State.failover
  extract_lets +onlyGivenNames x1 x3 x5
  have h2 : Keeps z x1 := State.setEpoch_keeps (State.fire_keeps hs)
  clear_value x1
  have h4 : Keeps z x3 := State.modPair_keeps rfl rfl (State.cnt_keeps h2)
  clear_value x3
  unfold x5
  extract_lets +onlyGivenNames x6 x8 x10 x12 x14
  have h7 : Keeps z x6 := Keeps.same (s := x3) h4 ⟨rfl, rfl, rfl, rfl, rfl, rfl, rfl, rfl, rfl, rfl⟩
  have h9 : Keeps z x8 := State.lastGood_keeps h7
  have h11 : Keeps z x10 := State.wr_keeps (State.wr_keeps h9)
  have h13 : Keeps z x12.2 := State.fresh_keeps h11
  have h15 : Keeps z x14 := State.takeIdentity_keeps (State.modN_keeps h13)
  clear_value x6 x8 x10 x12 x14
  exact State.releaseTo_keeps (State.resyncSessions_keeps h15)

theorem State.granted_keeps {z s : State} (hs : Keeps z s) : Keeps z (State.granted s) := by
  unfold State.granted
  extract_lets +onlyGivenNames x1
  have h2 : Keeps z x1 := State.modPair_keeps rfl rfl (State.wr_keeps hs)
  clear_value x1
  exact Keeps.ite (Keeps.ite (State.modN_keeps (State.wr_keeps (State.modPair_keeps rfl rfl h2))) h2) (Keeps.ite (State.failover_keeps h2)
      (Keeps.ite (State.takeIdentity_keeps (State.modPair_keeps rfl rfl (State.wr_keeps h2))) h2))

theorem State.powerUp_keeps {z s : State} (hs : Keeps z s) : Keeps z (State.powerUp s) := by
  unfold State.powerUp
  exact State.coldStart_keeps (State.wr_keeps (State.modSec_keeps rfl hs))

theorem execSysRstLRelease_keeps {z s : State} (hs : Keeps z s) : Out.Keeps z (execSysRstLRelease s) := by
  unfold execSysRstLRelease
  refine Out.keeps_next ?_
  extract_lets +onlyGivenNames x1
  have h2 : Keeps z x1 := State.modSec_keeps rfl hs
  clear_value x1
  exact Keeps.ite (State.powerUp_keeps h2) (State.coldStart_keeps h2)

theorem execDroopTrip_keeps {z : State} {q : QuadId} {s : State} (hs : Keeps z s) : Out.Keeps z (execDroopTrip q s) := by
  unfold execDroopTrip
  exact Out.keeps_next (State.droop_keeps hs)

theorem execDebugStep_keeps {z : State} {c : CpId} {s : State} (hs : Keeps z s) : Out.Keeps z (execDebugStep c s) := by
  unfold execDebugStep
  exact Out.keeps_next (State.dbgStep_keeps hs)

theorem execPageFrame_keeps {z : State} {f : UboriFrame} {s : State} (hs : Keeps z s) : Out.Keeps z (execPageFrame f s) := by
  unfold execPageFrame
  exact Out.keeps_next (State.uboriIn_keeps hs (fun x1 => fun h2 => State.modPair_keeps rfl rfl h2))

theorem State.giveUp_keeps {z s : State} (hs : Keeps z s) : Keeps z (State.giveUp s) := by
  unfold State.giveUp
  extract_lets +onlyGivenNames x1
  have h2 : Keeps z x1 := State.ctl_keeps (State.askWitness_keeps hs)
  clear_value x1
  exact State.modN_keeps (State.modPair_keeps rfl rfl (State.outOfSync_keeps (State.wr_keeps (State.wr_keeps h2))))

theorem execGlitchBackoffExpiry_keeps {z s : State} (hs : Keeps z s) : Out.Keeps z (execGlitchBackoffExpiry s) := by
  unfold execGlitchBackoffExpiry
  exact Out.keeps_next (Keeps.ite (State.coldStart_keeps (State.modSec_keeps rfl hs)) hs)

theorem execVauxPowerUp_keeps {z : State} {straps : BitVec 5} {s : State} (hs : Keeps z s) : Out.Keeps z (execVauxPowerUp straps s) := by
  unfold execVauxPowerUp
  refine Out.keeps_next (Keeps.ite hs ?_)
  extract_lets +onlyGivenNames x1
  have h2 : Keeps z x1 := State.setReg_keeps hs
  clear_value x1
  exact Keeps.ite (State.powerUp_keeps h2) h2

theorem execVauxPowerLoss_keeps {z s : State} (hs : Keeps z s) : Out.Keeps z (execVauxPowerLoss s) := by
  unfold execVauxPowerLoss
  exact Out.keeps_next (State.modSec_keeps rfl (State.wiped_keeps hs))

theorem execSysRstLAssert_keeps {z s : State} (hs : Keeps z s) : Out.Keeps z (execSysRstLAssert s) := by
  unfold execSysRstLAssert
  refine Out.keeps_next ?_
  extract_lets +onlyGivenNames x1
  have h2 : Keeps z x1 := State.modSec_keeps rfl hs
  clear_value x1
  exact Keeps.ite h2 (State.coldHeld_keeps h2)

theorem execGlitchDetection_keeps {z s : State} (hs : Keeps z s) : Out.Keeps z (execGlitchDetection s) := by
  unfold execGlitchDetection
  exact Out.keeps_next (State.coldStart_keeps (State.glitch_keeps hs))

theorem execClockMonitorTrip_keeps {z s : State} (hs : Keeps z s) : Out.Keeps z (execClockMonitorTrip s) := by
  unfold execClockMonitorTrip
  exact Out.keeps_next (State.modSec_keeps rfl (State.glitch_keeps hs))

theorem execRindClockValid_keeps {z s : State} (hs : Keeps z s) : Out.Keeps z (execRindClockValid s) := by
  unfold execRindClockValid
  exact Out.keeps_next (Keeps.ite hs (State.coldStart_keeps (State.modSec_keeps rfl hs)))

theorem State.regulator_keeps {z s : State} {q : QuadId} {pecOk : Bool} {cap : Vector Byte 6}
    (hs : Keeps z s) : Keeps z (State.regulator s q pecOk cap) := by
  unfold State.regulator
  extract_lets +onlyGivenNames x1
  clear_value x1
  exact State.identify_keeps (Keeps.same (s := s) hs ⟨rfl, rfl, rfl, rfl, rfl, rfl, rfl, rfl, rfl, rfl⟩)

theorem execRailEnable_keeps {z : State} {pecOk : Bool} {cap : Vector Byte 6} {s : State} (hs : Keeps z s) : Out.Keeps z
    (execRailEnable pecOk cap s) := by
  unfold execRailEnable
  refine Out.keeps_next (Keeps.ite hs ?_)
  extract_lets +onlyGivenNames x1 x2 x9
  have h3 : Keeps z x2 := by
    unfold x2
    refine Keeps.dite (fun h4 => ?_) (fun h8 => hs)
    extract_lets +onlyGivenNames x5 x6
    have h7 : Keeps z x6 := Keeps.ite (State.bucket_keeps (State.wr_keeps hs)) hs
    clear_value x5 x6
    exact State.regulator_keeps h7
  have h10 : Keeps z x9 := State.modPwr_keeps h3
  clear_value x2 x9
  exact Keeps.ite (State.railsUp_keeps h10) h10

theorem State.trained_keeps {z s : State} (hs : Keeps z s) : Keeps z (State.trained s) := by
  unfold State.trained
  exact Keeps.ite (State.startStruct_keeps hs) hs

theorem execNearTrainingDone_keeps {z : State} {res : Vector StackResult 16} {ids : Vector StackIdent 16} {s : State} (hs : Keeps z s) : Out.Keeps z
    (execNearTrainingDone res ids s) := by
  unfold execNearTrainingDone
  refine Out.keeps_next (Keeps.ite hs ?_)
  extract_lets +onlyGivenNames x1
  have h2 : Keeps z x1 := by
    unfold x1
    refine Keeps.foldl (fun x3 => fun x4 => fun h5 => ?_) hs
    extract_lets +onlyGivenNames x6 y6 x7 x9
    have h8 : Keeps z x7 := State.setReg_keeps (State.setReg_keeps h5)
    clear_value x6 y6 x7 x9
    exact State.wrB_keeps (State.wr_keeps (State.wrB_keeps (State.wr_keeps h8)))
  clear_value x1
  refine Keeps.ite (State.recover_keeps h2) ?_
  extract_lets +onlyGivenNames x10
  have h11 : Keeps z x10 := State.modM_keeps h2
  clear_value x10
  exact State.trained_keeps (State.modSec_keeps rfl h11)

theorem execCellarTrainingDone_keeps {z : State} {dimms : Vector Dimm 16} {s : State} (hs : Keeps z s) : Out.Keeps z
    (execCellarTrainingDone dimms s) := by
  unfold execCellarTrainingDone
  refine Out.keeps_next (Keeps.ite hs ?_)
  extract_lets +onlyGivenNames x1 x2 x17 x18 x20 x22 x23
  have h3 : Keeps z x2 := by
    unfold x2
    refine Keeps.foldl (fun x4 => fun x5 => fun h6 => ?_) hs
    extract_lets +onlyGivenNames x7 x12 x14 x15
    have h8 : Keeps z x7 := by
      unfold x7
      refine Keeps.foldl (fun x9 => fun x10 => fun h11 => ?_) h6
      split
      · exact State.setReg_keeps h11
      · exact h11
    have h13 : Keeps z x12 := State.wrB_keeps h8
    have h16 : Keeps z x15 := State.modM_keeps h13
    clear_value x7 x12 x14 x15
    exact State.wr_keeps h16
  have h19 : Keeps z x18 := State.wr_keeps (State.wr_keeps (State.wr_keeps h3))
  have h21 : Keeps z x20 := State.wr_keeps h19
  have h24 : Keeps z x23 := State.modM_keeps h21
  clear_value x1 x2 x17 x18 x20 x22 x23
  exact State.trained_keeps (State.modSec_keeps rfl h24)

theorem execFuseReread_keeps {z s : State} (hs : Keeps z s) : Out.Keeps z (execFuseReread s) := by
  unfold execFuseReread
  extract_lets +onlyGivenNames x1 x3
  have h2 : Keeps z x1.2 := State.inject_keeps hs
  clear_value x1 x3
  exact Out.keeps_next (Keeps.ite hs (Keeps.ite (State.coldReset_keeps h2) hs))

theorem execStructDrainWrite_keeps {z : State} {v : BitVec 16} {s : State} (hs : Keeps z s) : Out.Keeps z (execStructDrainWrite v s) := by
  unfold execStructDrainWrite
  exact Out.keeps_next (State.drainWrite_keeps hs)

theorem execStructLiveApply_keeps {z : State} {cmd : BitVec 2} {s : State} (hs : Keeps z s) : Out.Keeps z (execStructLiveApply cmd s) := by
  unfold execStructLiveApply
  exact Out.keeps_next (Keeps.ite (State.liveApply_keeps hs) hs)

theorem execLiveApplyFlashDone_keeps {z : State} {ok : Bool} {s : State} (hs : Keeps z s) : Out.Keeps z (execLiveApplyFlashDone ok s) := by
  unfold execLiveApplyFlashDone
  refine Out.keeps_next ?_
  split
  · exact hs
  · refine Keeps.ite hs (Keeps.ite (State.liveEnd_keeps (State.cnt_keeps (State.writeSlot_keeps hs))) ?_)
    extract_lets +onlyGivenNames x1
    have h2 : Keeps z x1 := State.writeSlot_keeps hs
    clear_value x1
    exact Keeps.ite (Keeps.same (s := x1) h2 ⟨rfl, rfl, rfl, rfl, rfl, rfl, rfl, rfl, rfl, rfl⟩) (State.applyLive_keeps h2)

theorem execGpioEdge_keeps {z : State} {n : Fin 16} {rising : Bool} {s : State} (hs : Keeps z s) : Out.Keeps z (execGpioEdge n rising s) := by
  unfold execGpioEdge
  refine Out.keeps_next (Keeps.ite hs ?_)
  extract_lets +onlyGivenNames x1
  have h2 : Keeps z x1 := State.wr_keeps hs
  clear_value x1
  exact Keeps.ite (State.fire_keeps h2) h2

theorem State.calibrate_keeps {z s : State} {q : QuadId} {iout : Nat} (hs : Keeps z s) : Keeps z (State.calibrate s q iout) := by
  unfold State.calibrate
  refine Keeps.ite hs (Keeps.ite ?_ (State.wr_keeps hs))
  extract_lets +onlyGivenNames x1
  have h2 : Keeps z x1.2 := State.fresh_keeps hs
  clear_value x1
  exact State.wr_keeps h2

theorem State.pollQuad_keeps {z s : State} {q : QuadId} {iout : Nat} {good : Bool} (hs : Keeps z s) : Keeps z (State.pollQuad s q iout good) := by
  unfold State.pollQuad
  exact Keeps.ite (State.calibrate_keeps (State.wr_keeps (State.wr_keeps hs))) (State.wr_keeps hs)

theorem execTelemetryPoll_keeps {z : State} {t : Telemetry} {s : State} (hs : Keeps z s) : Out.Keeps z (execTelemetryPoll t s) := by
  unfold execTelemetryPoll
  extract_lets +onlyGivenNames x1
  have h2 : Keeps z x1 := Keeps.foldl (fun x3 => fun x4 => fun h5 => State.pollQuad_keeps h5) hs
  clear_value x1
  exact Out.keeps_next (State.modPwr_keeps h2)

theorem execAvsbusSetpointWrite_keeps {z : State} {q : QuadId} {mhz25 : BitVec 7} {acked : Bool} {s : State} (hs : Keeps z s) : Out.Keeps z
    (execAvsbusSetpointWrite q mhz25 acked s) := by
  unfold execAvsbusSetpointWrite
  extract_lets +onlyGivenNames x1
  clear_value x1
  refine Out.keeps_next (Keeps.ite ?_ (Keeps.ite (State.modPwr_keeps hs) ?_))
  · extract_lets +onlyGivenNames x2
    clear_value x2
    exact State.modPwr_keeps (State.wr_keeps hs)
  · extract_lets +onlyGivenNames x3
    have h4 : Keeps z x3 := State.bucket_keeps (State.modPwr_keeps hs)
    clear_value x3
    exact Keeps.ite (State.detLost_keeps h4) h4

theorem State.vrrdyDemand_keeps {z s : State} (hs : Keeps z s) : Keeps z (State.vrrdyDemand s) := by
  unfold State.vrrdyDemand
  exact State.settleShed_keeps (State.demand_keeps hs)

theorem execVrrdyFall_keeps {z : State} {q : QuadId} {s : State} (hs : Keeps z s) : Out.Keeps z (execVrrdyFall q s) := by
  unfold execVrrdyFall
  refine Out.keeps_next (Keeps.ite hs ?_)
  extract_lets +onlyGivenNames x1
  have h2 : Keeps z x1 := State.modPwr_keeps hs
  clear_value x1
  exact Keeps.ite (State.vrrdyDemand_keeps (State.modPwr_keeps h2)) h2

theorem execVrrdyLowTimeout_keeps {z : State} {q : QuadId} {s : State} (hs : Keeps z s) : Out.Keeps z (execVrrdyLowTimeout q s) := by
  unfold execVrrdyLowTimeout
  exact Out.keeps_next (Keeps.ite (State.vrrdyDemand_keeps (State.modPwr_keeps hs)) hs)

theorem execVrrdyRise_keeps {z : State} {q : QuadId} {s : State} (hs : Keeps z s) : Out.Keeps z (execVrrdyRise q s) := by
  unfold execVrrdyRise
  refine Out.keeps_next ?_
  extract_lets +onlyGivenNames x1
  have h2 : Keeps z x1 := State.modPwr_keeps hs
  clear_value x1
  exact Keeps.ite (State.vrrdyDemand_keeps (State.modPwr_keeps h2)) h2

theorem execRemoteSenseOpen_keeps {z : State} {q : QuadId} {s : State} (hs : Keeps z s) : Out.Keeps z (execRemoteSenseOpen q s) := by
  unfold execRemoteSenseOpen
  extract_lets +onlyGivenNames x1
  clear_value x1
  exact Out.keeps_next (Keeps.ite hs (State.bucket_keeps (State.modPwr_keeps (State.wr_keeps hs))))

theorem execDroopHoldEnd_keeps {z : State} {q : QuadId} {s : State} (hs : Keeps z s) : Out.Keeps z (execDroopHoldEnd q s) := by
  unfold execDroopHoldEnd
  exact Out.keeps_next (State.wr_keeps hs)

theorem State.pwrDown_keeps {z s : State} (hs : Keeps z s) : Keeps z (State.pwrDown s) := by
  unfold State.pwrDown
  refine Keeps.foldl (fun x1 => fun x2 => fun h3 => ?_) hs
  extract_lets +onlyGivenNames x4
  clear_value x4
  exact Keeps.ite h3 (State.detLost_keeps (State.modPwr_keeps h3))

theorem execPowerEstimate_keeps {z : State} {watts : BitVec 12} {s : State} (hs : Keeps z s) : Out.Keeps z (execPowerEstimate watts s) := by
  unfold execPowerEstimate
  extract_lets +onlyGivenNames x1 x2 x3 x4 x5 x6 x7 x8 x9 x11 x13 x15
  have h10 : Keeps z x9 := State.wr_keeps (State.wr_keeps hs)
  have h12 : Keeps z x11 := State.modPwr_keeps h10
  have h14 : Keeps z x13 := Keeps.ite (Keeps.ite (State.wr_keeps h12) h12) (State.modPwr_keeps (State.wr_keeps h10))
  have h16 : Keeps z x15 := State.modPwr_keeps h14
  clear_value x1 x2 x3 x4 x5 x6 x7 x8 x9 x11 x13 x15
  exact Out.keeps_next (Keeps.ite (State.pwrDown_keeps h16) h16)

theorem execPowerClockStepDown_keeps {z s : State} (hs : Keeps z s) : Out.Keeps z (execPowerClockStepDown s) := by
  unfold execPowerClockStepDown
  exact Out.keeps_next (Keeps.ite (State.pwrDown_keeps hs) hs)

theorem State.thermDown_keeps {z s : State} {q : QuadId} {c : Nat} (hs : Keeps z s) : Keeps z (State.thermDown s q c) := by
  unfold State.thermDown
  exact Keeps.ite (State.modPwr_keeps hs) (State.detLost_keeps (State.modPwr_keeps hs))

theorem State.throttle_keeps {z s : State} {q : QuadId} (hs : Keeps z s) : Keeps z (State.throttle s q) := by
  unfold State.throttle
  extract_lets +onlyGivenNames x1 x2
  have h3 : Keeps z x2 := State.thermDown_keeps (State.modPwr_keeps hs)
  clear_value x1 x2
  exact State.bucket_keeps (State.fire_keeps (State.cnt_keeps (State.wr_keeps h3)))

theorem State.tripOff_keeps {z s : State} (hs : Keeps z s) : Keeps z (State.tripOff s) := by
  unfold State.tripOff
  extract_lets +onlyGivenNames x1
  have h2 : Keeps z x1 := State.demand_keeps (State.modPwr_keeps (State.wr_keeps hs))
  clear_value x1
  exact Keeps.ite (State.shedTo_keeps h2) (Keeps.ite (State.settleShed_keeps h2) (State.modPwr_keeps h2))

theorem execThermalConversion_keeps {z : State} {temps : Vector (BitVec 8) 20} {s : State} (hs : Keeps z s) : Out.Keeps z
    (execThermalConversion temps s) := by
  unfold execThermalConversion
  refine Out.keeps_ite (Out.keeps_next hs) ?_
  extract_lets +onlyGivenNames x1 x8 x9 x10 x12 x17 x19
  have h2 : Keeps z x1.2 := by
    unfold x1
    refine Keeps.foldl2 (fun x3 => fun x4 => fun h5 => ?_) hs
    extract_lets +onlyGivenNames x6
    have h7 : Keeps z x6.2 := State.inject_keeps h5
    clear_value x6
    exact h7
  have h11 : Keeps z x10 := State.wr_keeps (State.wr_keeps h2)
  have h13 : Keeps z x12 := Keeps.foldl (fun x14 => fun x15 => fun h16 => State.wr_keeps h16) h11
  have h18 : Keeps z x17 := State.wrB_keeps (State.modPwr_keeps h13)
  have h20 : Keeps z x19 := Keeps.ite (Keeps.foldl (fun x21 => fun x22 => fun h23 => Keeps.ite (State.throttle_keeps h23) h23) h18) h18
  clear_value x1 x8 x9 x10 x12 x17 x19
  exact Out.keeps_next (Keeps.ite (State.tripOff_keeps h20) (State.settleShed_keeps (State.demand_keeps h20)))

theorem execThrottleStepDown_keeps {z : State} {q : QuadId} {s : State} (hs : Keeps z s) : Out.Keeps z (execThrottleStepDown q s) := by
  unfold execThrottleStepDown
  refine Out.keeps_next ?_
  split
  · exact Keeps.ite (State.thermDown_keeps hs) hs
  · exact hs

theorem execThrottleStepUp_keeps {z : State} {q : QuadId} {s : State} (hs : Keeps z s) : Out.Keeps z (execThrottleStepUp q s) := by
  unfold execThrottleStepUp
  refine Out.keeps_next ?_
  split
  · refine Keeps.ite ?_ hs
    extract_lets +onlyGivenNames x1
    clear_value x1
    refine Keeps.ite (State.modPwr_keeps hs) ?_
    extract_lets +onlyGivenNames x2
    have h3 : Keeps z x2 := State.modPwr_keeps hs
    clear_value x2
    exact State.wrB_keeps h3
  · exact hs

theorem State.shedRise_keeps {z s : State} (hs : Keeps z s) : Keeps z (State.shedRise s) := by
  unfold State.shedRise
  extract_lets +onlyGivenNames x1 x2
  have h3 : Keeps z x2 := State.settleShed_keeps (State.modE_keeps hs)
  clear_value x1 x2
  exact Keeps.ite (State.shedTo_keeps h3) h3

theorem execShedLevelRise_keeps {z s : State} (hs : Keeps z s) : Out.Keeps z (execShedLevelRise s) := by
  unfold execShedLevelRise
  exact Out.keeps_next (State.shedRise_keeps hs)

theorem execShedLevelFall_keeps {z s : State} (hs : Keeps z s) : Out.Keeps z (execShedLevelFall s) := by
  unfold execShedLevelFall
  extract_lets +onlyGivenNames x1
  clear_value x1
  exact Out.keeps_next (Keeps.ite hs (State.shedTo_keeps hs))

theorem execFinalCheckpointAbandon_keeps {z s : State} (hs : Keeps z s) : Out.Keeps z (execFinalCheckpointAbandon s) := by
  unfold execFinalCheckpointAbandon
  exact Out.keeps_next (Keeps.ite (State.signalFailover_keeps (State.modPair_keeps rfl rfl (State.dropShip_keeps (State.modPwr_keeps hs)))) hs)

theorem execSleepEntryComplete_keeps {z s : State} (hs : Keeps z s) : Out.Keeps z (execSleepEntryComplete s) := by
  unfold execSleepEntryComplete
  refine Out.keeps_next (Keeps.ite hs ?_)
  extract_lets +onlyGivenNames x1 x3 x4 x6 x8
  have h2 : Keeps z x1 := State.queuesStop_keeps hs
  clear_value x1 x3
  have h5 : Keeps z x4 := State.modSec_keeps rfl (State.wr_keeps (State.wr_keeps h2))
  have h7 : Keeps z x6 := State.modPwr_keeps h5
  have h9 : Keeps z x8 := Keeps.ite h7 (State.darken_keeps h7)
  clear_value x4 x6 x8
  exact Keeps.ite (State.wakeUp_keeps h9) h9

theorem execWakeTimerExpiry_keeps {z s : State} (hs : Keeps z s) : Out.Keeps z (execWakeTimerExpiry s) := by
  unfold execWakeTimerExpiry
  exact Out.keeps_next (Keeps.ite (State.wakeEvent_keeps (State.fire_keeps hs)) hs)

theorem execUboriLinkUp_keeps {z : State} {lanes : BitVec 4} {s : State} (hs : Keeps z s) : Out.Keeps z (execUboriLinkUp lanes s) := by
  unfold execUboriLinkUp
  refine Out.keeps_next (Keeps.ite hs ?_)
  extract_lets +onlyGivenNames x1 x3
  have h2 : Keeps z x1 := State.wr_keeps (State.wr_keeps hs)
  clear_value x1
  have h4 : Keeps z x3 := State.modPair_keeps rfl rfl h2
  clear_value x3
  exact State.negotiate_keeps (State.fire_keeps h4)

theorem execUboriLinkDown_keeps {z s : State} (hs : Keeps z s) : Out.Keeps z (execUboriLinkDown s) := by
  unfold execUboriLinkDown
  exact Out.keeps_next (State.linkDown_keeps hs)

theorem execUboriLinkRetrain_keeps {z : State} {working : BitVec 8} {s : State} (hs : Keeps z s) : Out.Keeps z (execUboriLinkRetrain working s) := by
  unfold execUboriLinkRetrain
  extract_lets +onlyGivenNames x1
  clear_value x1
  exact Out.keeps_next (Keeps.ite (State.linkDown_keeps hs) (Keeps.ite (State.wr_keeps hs) hs))

theorem State.refusePair_keeps {z s : State} {code : Nat} (hs : Keeps z s) : Keeps z (State.refusePair s code) := by
  unfold State.refusePair
  extract_lets +onlyGivenNames x1
  have h2 : Keeps z x1 := State.wr_keeps (State.wr_keeps hs)
  clear_value x1
  exact Keeps.ite (State.askWitness_keeps (State.modPair_keeps rfl rfl h2)) h2

theorem State.helloAuth_keeps {z s : State} {y1 : HelloRec} {a : PairAuth} (hs : Keeps z s) : Keeps z (State.helloAuth s y1 a).2 := by
  unfold State.helloAuth
  extract_lets +onlyGivenNames x1
  clear_value x1
  exact Keeps.ite2 hs (State.verify_keeps hs)

theorem State.serveFirst_keeps {z s : State} (hs : Keeps z s) : Keeps z (State.serveFirst s) := by
  unfold State.serveFirst
  refine Keeps.ite (State.askWitness_keeps (State.modPair_keeps rfl rfl (State.wr_keeps (State.wr_keeps hs)))) ?_
  extract_lets +onlyGivenNames x1 x2
  clear_value x1
  have h3 : Keeps z x2 := State.modPair_keeps rfl rfl (State.wr_keeps (State.wr_keeps hs))
  clear_value x2
  exact Keeps.ite (State.takeIdentity_keeps h3) h3

theorem State.serveSecond_keeps {z s : State} (hs : Keeps z s) : Keeps z (State.serveSecond s) := by
  unfold State.serveSecond
  exact State.modN_keeps (State.modPairT_keeps (fun hc => by (repeat' split) <;> simp [(State.canonical_iff _).mp hc, State.twinImg_wf hc])
      (State.wr_keeps (State.wr_keeps hs)))

theorem State.helloIn_keeps {z s : State} {y1 : HelloRec} {a : PairAuth} (hs : Keeps z s) : Keeps z (State.helloIn s y1 a) := by
  unfold State.helloIn
  refine Keeps.ite (State.wr_keeps (State.modPair_keeps rfl rfl hs)) (Keeps.ite hs ?_)
  extract_lets +onlyGivenNames x1 x2 x4 x6
  clear_value x1
  have h3 : Keeps z x2 := State.modPair_keeps rfl rfl hs
  have h5 : Keeps z x4 := Keeps.ite (State.wr_keeps h3) (Keeps.ite h3 (State.bucket_keeps (State.wr_keeps h3)))
  clear_value x2 x4 x6
  refine Keeps.ite (State.refusePair_keeps h5) ?_
  extract_lets +onlyGivenNames x7 x9 x11 x12 x13
  have h8 : Keeps z x7.2 := State.rand_keeps h5
  have h10 : Keeps z x9 := h8
  have h14 : Keeps z x13 := State.uboriNow_keeps h10
  clear_value x7 x9 x11 x12 x13
  refine Keeps.ite h14 ?_
  extract_lets +onlyGivenNames x15 x17
  have h16 : Keeps z x15.2 := State.helloAuth_keeps h14
  have h18 : Keeps z x17 := h16
  clear_value x15 x17
  refine Keeps.ite (State.refusePair_keeps h18) ?_
  extract_lets +onlyGivenNames x19 x20 x21 x22 x23 x25
  clear_value x19 x20 x21 x22
  have h24 : Keeps z x23 := State.modN_keeps (State.modPair_keeps rfl rfl h18)
  have h26 : Keeps z x25 := State.wr_keeps h24
  clear_value x23 x25
  exact Keeps.ite (State.serveFirst_keeps h26) (State.serveSecond_keeps h26)

theorem execHelloFrame_keeps {z : State} {f : UboriFrame} {hello : HelloRec} {auth : PairAuth} {s : State} (hs : Keeps z s) : Out.Keeps z
    (execHelloFrame f hello auth s) := by
  unfold execHelloFrame
  exact Out.keeps_next (State.uboriIn_keeps hs (fun x1 => fun h2 => State.helloIn_keeps h2))

theorem execHeartbeatSend_keeps {z s : State} (hs : Keeps z s) : Out.Keeps z (execHeartbeatSend s) := by
  unfold execHeartbeatSend
  exact Out.keeps_next (Keeps.ite (State.sendHeartbeat_keeps hs) hs)

theorem State.heartbeatIn_keeps {z s : State} {arg : Word} (hs : Keeps z s) : Keeps z (State.heartbeatIn s arg) := by
  unfold State.heartbeatIn
  extract_lets +onlyGivenNames x1 x2 x3
  clear_value x1 x2
  have h4 : Keeps z x3 := State.modPair_keeps rfl rfl hs
  clear_value x3
  exact Keeps.ite (Keeps.ite (Keeps.ite (State.outOfSync_keeps h4) h4) (Keeps.ite (State.startResync_keeps h4) h4)) h4

theorem execHeartbeatFrame_keeps {z : State} {f : UboriFrame} {s : State} (hs : Keeps z s) : Out.Keeps z (execHeartbeatFrame f s) := by
  unfold execHeartbeatFrame
  exact Out.keeps_next (State.uboriIn_keeps hs (fun x1 => fun h2 => State.heartbeatIn_keeps h2))

theorem execPairHbOutToggle_keeps {z s : State} (hs : Keeps z s) : Out.Keeps z (execPairHbOutToggle s) := by
  unfold execPairHbOutToggle
  exact Out.keeps_next (State.modPair_keeps rfl rfl hs)

theorem State.ckptBegin_keeps {z s : State} {no : BitVec 32} (hs : Keeps z s) : Keeps z (State.ckptBegin s no) := by
  unfold State.ckptBegin
  extract_lets +onlyGivenNames x1 x3
  have h2 : Keeps z x1 := Keeps.ite (State.wr_keeps (State.modPair_keeps rfl rfl hs)) hs
  have h4 : Keeps z x3 := Keeps.ite h2 (State.wr_keeps h2)
  clear_value x1 x3
  exact State.modPair_keeps rfl rfl h4

theorem execCkptBegin_keeps {z : State} {f : UboriFrame} {s : State} (hs : Keeps z s) : Out.Keeps z (execCkptBegin f s) := by
  unfold execCkptBegin
  exact Out.keeps_next (State.uboriIn_keeps hs (fun x1 => fun h2 => State.ckptBegin_keeps h2))

theorem State.ckptEnd_keeps {z s : State} {no : BitVec 32} {body : List Byte} (hs : Keeps z s) : Keeps z (State.ckptEnd s no body) := by
  unfold State.ckptEnd
  split
  · exact hs
  · extract_lets +onlyGivenNames x1 x2
    clear_value x1
    have h3 : Keeps z x2 := State.modPair_keeps rfl rfl hs
    clear_value x2
    split
    · extract_lets +onlyGivenNames x4 x9 x11 x13 x15 x17 x19 x21
      have h5 : Keeps z x4 := Keeps.foldl (fun x6 => fun x7 => fun h8 => State.applyPage_keeps h8) h3
      clear_value x4
      have h10 : Keeps z x9 := State.modPair_keeps rfl rfl h5
      have h12 : Keeps z x11 := State.modN_keeps h10
      have h14 : Keeps z x13 := State.fire_keeps (State.wr_keeps h12)
      have h16 : Keeps z x15 := Keeps.ite (State.setEpoch_keeps (State.wr_keeps h14)) h14
      have h18 : Keeps z x17 := State.uboriSeq_keeps h16
      have h20 : Keeps z x19 := Keeps.ite (State.loadSnap_keeps h18) h18
      have h22 : Keeps z x21 := Keeps.ite (State.applyPair_keeps h20) h20
      clear_value x9 x11 x13 x15 x17 x19 x21
      exact Keeps.ite (State.replay_keeps (State.modPairT_keeps (fun hc => by (repeat' split) <;> simp [(State.canonical_iff _).mp hc,
          State.twinImg_wf hc]) h22)) h22
    · exact State.wr_keeps h3

theorem execCkptEnd_keeps {z : State} {f : UboriFrame} {s : State} (hs : Keeps z s) : Out.Keeps z (execCkptEnd f s) := by
  unfold execCkptEnd
  exact Out.keeps_next (State.uboriIn_keeps hs (fun x1 => fun h2 => State.ckptEnd_keeps h2))

theorem State.ckptDone_keeps {z s : State} {no : BitVec 32} (hs : Keeps z s) : Keeps z (State.ckptDone s no) := by
  unfold State.ckptDone
  split
  · exact hs
  · refine Keeps.ite hs ?_
    extract_lets +onlyGivenNames x1 x3 x5 x7 x9 x10 x12 x14 x16 x18
    have h2 : Keeps z x1 := State.wr_keeps (State.wr_keeps hs)
    have h4 : Keeps z x3 := Keeps.ite (State.setEpoch_keeps (State.wr_keeps h2)) h2
    have h6 : Keeps z x5 := State.dropShip_keeps (State.fire_keeps h4)
    have h8 : Keeps z x7 := State.releaseTo_keeps (State.dackTo_keeps h6)
    clear_value x1 x3 x5 x7 x9
    have h11 : Keeps z x10 := Keeps.ite (State.signalFailover_keeps (Keeps.same (s := x7) h8 ⟨rfl, rfl, rfl, rfl, rfl, rfl, rfl, rfl, rfl, rfl⟩)) h8
    have h13 : Keeps z x12 := Keeps.ite (State.modPairT_keeps (fun hc => by (repeat' split) <;> simp [(State.canonical_iff _).mp hc,
        State.twinImg_wf hc]) h11) h11
    have h15 : Keeps z x14 := Keeps.ite (State.applyPair_keeps h13) h13
    have h17 : Keeps z x16 := Keeps.ite (State.giveUp_keeps h15) h15
    clear_value x10 x12 x14 x16
    have h19 : Keeps z x18 := Keeps.ite (State.modPair_keeps rfl rfl (State.ctl_keeps h17)) h17
    clear_value x18
    exact Keeps.ite (State.cut_keeps h19) h19

theorem execCkptDone_keeps {z : State} {f : UboriFrame} {s : State} (hs : Keeps z s) : Out.Keeps z (execCkptDone f s) := by
  unfold execCkptDone
  exact Out.keeps_next (State.uboriIn_keeps hs (fun x1 => fun h2 => State.ckptDone_keeps h2))

theorem execCheckpointShip_keeps {z s : State} (hs : Keeps z s) : Out.Keeps z (execCheckpointShip s) := by
  unfold execCheckpointShip
  exact Out.keeps_next (State.shipStep_keeps hs)

theorem execVerdictFrame_keeps {z : State} {f : UboriFrame} {s : State} (hs : Keeps z s) : Out.Keeps z (execVerdictFrame f s) := by
  unfold execVerdictFrame
  refine Out.keeps_next (State.uboriIn_keeps hs (fun x1 => fun h2 => ?_))
  extract_lets +onlyGivenNames x3
  clear_value x3
  split
  · exact Keeps.ite h2 (Keeps.ite (State.twinPass_keeps h2) (State.twinFail_keeps h2))
  · exact h2

theorem execReleaseFrame_keeps {z : State} {f : UboriFrame} {s : State} (hs : Keeps z s) : Out.Keeps z (execReleaseFrame f s) := by
  unfold execReleaseFrame
  exact Out.keeps_next (State.uboriIn_keeps hs (fun x1 => fun h2 => State.wr_keeps h2))

theorem execCtlFailover_keeps {z : State} {f : UboriFrame} {s : State} (hs : Keeps z s) : Out.Keeps z (execCtlFailover f s) := by
  unfold execCtlFailover
  refine Out.keeps_next (State.uboriIn_keeps hs (fun x1 => fun h2 => Keeps.ite h2 ?_))
  extract_lets +onlyGivenNames x3
  have h4 : Keeps z x3 := State.modPair_keeps rfl rfl h2
  clear_value x3
  exact Keeps.ite (State.askWitness_keeps h4) (State.failover_keeps h4)

theorem execCtlSleepRefuse_keeps {z : State} {f : UboriFrame} {s : State} (hs : Keeps z s) : Out.Keeps z (execCtlSleepRefuse f s) := by
  unfold execCtlSleepRefuse
  exact Out.keeps_next (State.uboriIn_keeps hs (fun x1 => fun h2 => Keeps.ite (State.sleepRefuse_keeps h2) h2))

theorem execCtlWake_keeps {z : State} {f : UboriFrame} {s : State} (hs : Keeps z s) : Out.Keeps z (execCtlWake f s) := by
  unfold execCtlWake
  exact Out.keeps_next (State.uboriIn_keeps hs (fun x1 => fun h2 => Keeps.ite (State.wakeEvent_keeps h2) h2))

theorem State.suspectCheck_keeps {z s : State} (hs : Keeps z s) : Keeps z (State.suspectCheck s) := by
  unfold State.suspectCheck
  exact Keeps.ite (State.modPair_keeps rfl rfl (State.wr_keeps hs)) (Keeps.ite (State.askWitness_keeps hs) (Keeps.ite hs (State.failover_keeps hs)))

theorem execHeartbeatSuspicion_keeps {z s : State} (hs : Keeps z s) : Out.Keeps z (execHeartbeatSuspicion s) := by
  unfold execHeartbeatSuspicion
  refine Out.keeps_next (Keeps.ite hs ?_)
  extract_lets +onlyGivenNames x1
  have h2 : Keeps z x1 := Keeps.ite hs (State.fire_keeps (State.modPair_keeps rfl rfl hs))
  clear_value x1
  exact State.suspectCheck_keeps h2

theorem execWitnessRenew_keeps {z s : State} (hs : Keeps z s) : Out.Keeps z (execWitnessRenew s) := by
  unfold execWitnessRenew
  exact Out.keeps_next (Keeps.ite (State.askWitness_keeps hs) (Keeps.ite (State.askWitness_keeps hs) hs))

theorem execWitnessReply_keeps {z : State} {r : WitnessReply} {s : State} (hs : Keeps z s) : Out.Keeps z (execWitnessReply r s) := by
  unfold execWitnessReply
  exact Out.keeps_next (Keeps.ite hs (Keeps.ite (State.modPair_keeps rfl rfl hs) (Keeps.ite (State.granted_keeps hs) (State.denied_keeps hs))))

theorem execFence_keeps {z s : State} (hs : Keeps z s) : Out.Keeps z (execFence s) := by
  unfold execFence
  exact Out.keeps_next (Keeps.ite hs (State.modN_keeps (State.modPair_keeps rfl rfl (State.wr_keeps (State.wr_keeps (State.outOfSync_keeps hs))))))

theorem execCkptNow_keeps {z s : State} (hs : Keeps z s) : Out.Keeps z (execCkptNow s) := by
  unfold execCkptNow
  exact Out.keeps_next (State.ckptNow_keeps hs)

theorem execDebugHalt_keeps {z : State} {c : CpId} {s : State} (hs : Keeps z s) : Out.Keeps z (execDebugHalt c s) := by
  unfold execDebugHalt
  exact Out.keeps_next (State.dbgHalt_keeps hs)

theorem execDebugResume_keeps {z : State} {c : CpId} {s : State} (hs : Keeps z s) : Out.Keeps z (execDebugResume c s) := by
  unfold execDebugResume
  exact Out.keeps_next (State.dbgResume_keeps hs)

theorem State.traceSend_keeps {z s : State} {cl : ClusterId} (hs : Keeps z s) : Keeps z (State.traceSend s cl) := by
  unfold State.traceSend
  extract_lets +onlyGivenNames x1 x2 x3
  clear_value x1 x2 x3
  exact State.leave_keeps (State.modTrc_keeps hs)

theorem execTracePacketOut_keeps {z : State} {cl : ClusterId} {s : State} (hs : Keeps z s) : Out.Keeps z (execTracePacketOut cl s) := by
  unfold execTracePacketOut
  split
  · exact Out.keeps_next hs
  · extract_lets +onlyGivenNames x1
    unfold x1
    extract_lets +onlyGivenNames x2
    have h3 : Keeps z x2 := Keeps.ite (Keeps.ite (State.traceSend_keeps hs) (State.cntSat_keeps (State.modTrc_keeps hs))) (Keeps.ite
        (State.cntSat_keeps (State.modTrc_keeps hs)) (State.traceStore_keeps hs))
    clear_value x2
    exact Out.keeps_next (State.traceOverflow_keeps h3)

theorem execTraceCfgWrite_keeps {z : State} {cl : ClusterId} {v : Word} {s : State} (hs : Keeps z s) : Out.Keeps z (execTraceCfgWrite cl v s) := by
  unfold execTraceCfgWrite
  exact Out.keeps_next (State.traceCfg_keeps hs)

theorem execSidebandTransaction_keeps {z : State} {bus : Fin 8} {r : SbOutcome} {s : State} (hs : Keeps z s) : Out.Keeps z
    (execSidebandTransaction bus r s) := by
  unfold execSidebandTransaction
  refine Out.keeps_next (Keeps.ite hs ?_)
  split
  · exact State.modBoard_keeps hs
  · exact State.cnt_keeps (State.modBoard_keeps hs)
  · extract_lets +onlyGivenNames x1
    have h2 : Keeps z x1 := State.modBoard_keeps hs
    clear_value x1
    exact Keeps.ite (State.wr_keeps (State.busOff_keeps h2)) h2

theorem execSb7StatusBlock_keeps {z s : State} (hs : Keeps z s) : Out.Keeps z (execSb7StatusBlock s) := by
  unfold execSb7StatusBlock
  exact Out.keeps_next (Keeps.ite (State.modBoard_keeps hs) hs)

theorem execSb7IdkHash_keeps {z s : State} (hs : Keeps z s) : Out.Keeps z (execSb7IdkHash s) := by
  unfold execSb7IdkHash
  exact Out.keeps_next (Keeps.ite (State.modBoard_keeps hs) hs)

theorem State.wireFault_keeps {z s : State} {f : Fld} {k : Nat} (hs : Keeps z s) : Keeps z (State.wireFault s f k) := by
  unfold State.wireFault
  extract_lets +onlyGivenNames x1
  clear_value x1
  exact Keeps.ite hs (State.bucket_keeps (State.wr_keeps hs))

theorem execOutputReadbackFault_keeps {z : State} {o : OutputPin} {s : State} (hs : Keeps z s) : Out.Keeps z (execOutputReadbackFault o s) := by
  unfold execOutputReadbackFault
  refine Out.keeps_next (Keeps.ite hs ?_)
  split
  · exact Keeps.ite (State.wireFault_keeps hs) hs
  · exact Keeps.ite (State.wireFault_keeps hs) hs
  · exact State.modPair_keeps rfl rfl (State.wr_keeps (State.wireFault_keeps hs))
  · exact Keeps.ite (State.wireFault_keeps hs) hs
  · exact Keeps.ite (State.wireFault_keeps hs) hs

theorem execVinmonOpenDetect_keeps {z s : State} (hs : Keeps z s) : Out.Keeps z (execVinmonOpenDetect s) := by
  unfold execVinmonOpenDetect
  exact Out.keeps_next (Keeps.ite (State.settleShed_keeps (State.demand_keeps (State.wireFault_keeps hs))) hs)

theorem execPairHbInEdge_keeps {z s : State} (hs : Keeps z s) : Out.Keeps z (execPairHbInEdge s) := by
  unfold execPairHbInEdge
  exact Out.keeps_next (State.wr_keeps (State.modPair_keeps rfl rfl hs))

theorem execPartnerSilentSinceBoot_keeps {z s : State} (hs : Keeps z s) : Out.Keeps z (execPartnerSilentSinceBoot s) := by
  unfold execPartnerSilentSinceBoot
  exact Out.keeps_next (Keeps.ite hs (State.takeIdentity_keeps (State.wr_keeps (State.wr_keeps hs))))

theorem execModuleWatchdogReload_keeps {z s : State} (hs : Keeps z s) : Out.Keeps z (execModuleWatchdogReload s) := by
  unfold execModuleWatchdogReload
  exact Out.keeps_next (State.modSec_keeps rfl hs)

end Sys2Proof.Machine
end

