-- ==== Sys2Proof/Laws/KeepsPorts.lean ====
section
/-! SUPPORT. What the Control Space, the Custodian, ports, the fabric and the tick keep: one lemma for each operation and each meaning. -/

namespace Sys2Proof.Machine

theorem State.fabAnswer_keeps {z s : State} {t : FabTx} {status : Nat} {v : Word} (hs : Keeps z s) : Keeps z (State.fabAnswer s t status v) := by
  unfold State.fabAnswer
  exact State.modFab_keeps hs

theorem State.detach_keeps {z s : State} (hs : Keeps z s) : Keeps z (State.detach s) := by
  unfold State.detach
  extract_lets +onlyGivenNames x1
  have h2 : Keeps z x1 := State.wr_keeps (State.wr_keeps hs)
  clear_value x1
  exact Keeps.ite (State.darken_keeps (State.modPwr_keeps h2)) h2

theorem State.twdAttach_keeps {z s : State} {on : Bool} (hs : Keeps z s) : Keeps z (State.twdAttach s on) := by
  unfold State.twdAttach
  exact Keeps.ite (State.modSec_keeps rfl (State.wr_keeps (State.wr_keeps hs))) (State.detach_keeps hs)

theorem execTwdAttach_keeps {z : State} {on : Bool} {s : State} (hs : Keeps z s) : Out.Keeps z (execTwdAttach on s) := by
  unfold execTwdAttach
  exact Out.keeps_next (Keeps.ite (State.twdAttach_keeps hs) hs)

theorem State.decodeErr_keeps {z s : State} {m a : Nat} {write : Bool} (hs : Keeps z s) : Keeps z (State.decodeErr s m a write) := by
  unfold State.decodeErr
  extract_lets +onlyGivenNames x1
  have h2 : Keeps z x1 := State.cntSat_keeps hs
  clear_value x1
  exact Keeps.ite h2 (State.wr_keeps (State.wrB_keeps (State.wr_keeps (State.wr_keeps h2))))

theorem State.putPlain_keeps {z s : State} {a : Nat} {v : Word} (hs : Keeps z s) : Keeps z (State.putPlain s a v) := by
  unfold State.putPlain
  split
  · exact State.setReg_keeps hs
  · exact hs

theorem State.putCluster_keeps {z s : State} {a : Nat} {v : Word} (hs : Keeps z s) : Keeps z (State.putCluster s a v) := by
  unfold State.putCluster
  extract_lets +onlyGivenNames x1 x2 x3
  clear_value x1 x2 x3
  exact Keeps.ite (Keeps.ite (State.releaseCp_keeps hs) hs) (Keeps.ite (Keeps.ite (State.modCp_keeps hs) hs) (Keeps.ite (State.doorbell_keeps hs)
      (State.putPlain_keeps hs)))

theorem State.putSched_keeps {z s : State} {a : Nat} {v : Word} (hs : Keeps z s) : Keeps z (State.putSched s a v) := by
  unfold State.putSched
  extract_lets +onlyGivenNames x1 x2
  clear_value x1
  refine Keeps.ite ?_ ?_
  · extract_lets +onlyGivenNames x3 x4 x5
    clear_value x3 x4 x5
    exact Keeps.ite hs (Keeps.ite (State.vqCommand_keeps hs) (State.wr_keeps hs))
  · extract_lets +onlyGivenNames x6
    have h7 : Keeps z x6 := State.putPlain_keeps hs
    clear_value x6
    exact Keeps.ite (Keeps.foldl (fun x8 => fun x9 => fun h10 => State.vqSettle_keeps (State.modVq_keeps h10)) h7) h7

theorem State.putMem_keeps {z s : State} {a : Nat} {v : Word} (hs : Keeps z s) : Keeps z (State.putMem s a v) := by
  unfold State.putMem
  refine Keeps.ite ?_ (Keeps.ite (State.putPlain_keeps hs) (State.putPlain_keeps hs))
  extract_lets +onlyGivenNames x1
  clear_value x1
  exact Keeps.ite (State.putPlain_keeps hs) (Keeps.ite (Keeps.ite (State.wlTrigger_keeps (State.wr_keeps hs)) hs) (State.putPlain_keeps hs))

theorem State.putPaging_keeps {z s : State} {a : Nat} {v : Word} (hs : Keeps z s) : Keeps z (State.putPaging s a v) := by
  unfold State.putPaging
  extract_lets +onlyGivenNames x1
  clear_value x1
  exact Keeps.ite (State.putPlain_keeps hs) (Keeps.ite (State.heapWrite_keeps hs) (Keeps.ite (State.heapWrite_keeps hs) (Keeps.ite
      (State.hintWrite_keeps hs) (State.putPlain_keeps hs))))

theorem State.ethCfg_keeps {z s : State} {p : Nat} {v : Word} (hs : Keeps z s) : Keeps z (State.ethCfg s p v) := by
  unfold State.ethCfg
  extract_lets +onlyGivenNames x1 x2 x3 x4
  clear_value x1 x2 x3 x4
  exact State.putPlain_keeps hs

theorem State.ptpStep_keeps {z s : State} {v : Word} (hs : Keeps z s) : Keeps z (State.ptpStep s v) := by
  unfold State.ptpStep
  extract_lets +onlyGivenNames x1 x2
  clear_value x1 x2
  exact State.wr_keeps (State.wr_keeps hs)

theorem State.putKwt_keeps {z s : State} {a : Nat} {v : Word} (hs : Keeps z s) : Keeps z (State.putKwt s a v) := by
  unfold State.putKwt
  refine Keeps.ite (State.ptpStep_keeps hs) (Keeps.ite (Keeps.ite (State.sessCtl_keeps hs) (State.putPlain_keeps hs)) (Keeps.ite ?_ (Keeps.dite
      (fun h2 => ?_) (fun h4 => State.putPlain_keeps hs))))
  · extract_lets +onlyGivenNames x1
    clear_value x1
    exact Keeps.ite (Keeps.ite hs (State.putPlain_keeps hs)) (Keeps.ite (State.notifyQueue_keeps hs) (Keeps.ite (State.setReg_keeps hs)
        (State.putPlain_keeps hs)))
  · extract_lets +onlyGivenNames x3
    clear_value x3
    exact Keeps.ite (State.tokBind_keeps hs) (Keeps.ite (State.tokUnbind_keeps hs) hs)

theorem State.putDma_keeps {z s : State} {a : Nat} {v : Word} (hs : Keeps z s) : Keeps z (State.putDma s a v) := by
  unfold State.putDma
  extract_lets +onlyGivenNames x1 x2
  clear_value x1 x2
  exact Keeps.ite (Keeps.ite (State.cuVal_keeps hs) (State.putPlain_keeps hs)) (Keeps.ite (State.setReg_keeps hs) (Keeps.ite (State.deQueue_keeps
      hs) (Keeps.ite (Keeps.ite (State.deResume_keeps hs) (Keeps.ite (State.deFlush_keeps hs) hs)) (State.putPlain_keeps hs))))

theorem State.putEvt_keeps {z s : State} {a : Nat} {v : Word} (hs : Keeps z s) : Keeps z (State.putEvt s a v) := by
  unfold State.putEvt
  refine Keeps.ite (State.swTrig_keeps hs) (Keeps.ite (Keeps.ite (State.commitGo_keeps hs) hs) (Keeps.ite ?_ (State.putPlain_keeps hs)))
  extract_lets +onlyGivenNames x1
  clear_value x1
  exact State.groupEn_keeps (State.putPlain_keeps hs)

theorem State.injCtl_keeps {z s : State} {v : Word} (hs : Keeps z s) : Keeps z (State.injCtl s v) := by
  unfold State.injCtl
  extract_lets +onlyGivenNames x1 x3
  have h2 : Keeps z x1 := State.setReg_keeps hs
  have h4 : Keeps z x3 := Keeps.ite (State.arm_keeps h2) h2
  clear_value x1 x3
  exact Keeps.ite (State.wr_keeps h4) h4

theorem State.putErr_keeps {z s : State} {a : Nat} {v : Word} (hs : Keeps z s) : Keeps z (State.putErr s a v) := by
  unfold State.putErr
  refine Keeps.ite (State.bktWrite_keeps hs) (Keeps.ite (Keeps.ite hs (State.putPlain_keeps hs)) (Keeps.ite (State.injCtl_keeps hs) (Keeps.ite ?_
      (State.putPlain_keeps hs))))
  extract_lets +onlyGivenNames x1
  have h2 : Keeps z x1 := State.putPlain_keeps hs
  clear_value x1
  exact Keeps.ite (State.rawAccess_keeps h2) h2

theorem State.laCfg_keeps {z s : State} {q : QuadId} {v : Word} (hs : Keeps z s) : Keeps z (State.laCfg s q v) := by
  unfold State.laCfg
  extract_lets +onlyGivenNames x1 x2
  have h3 : Keeps z x2 := State.wr_keeps hs
  clear_value x1 x2
  exact State.wr_keeps h3

theorem State.putPower_keeps {z s : State} {a : Nat} {v : Word} (hs : Keeps z s) : Keeps z (State.putPower s a v) := by
  unfold State.putPower
  extract_lets +onlyGivenNames x1
  clear_value x1
  refine Keeps.ite (State.setFloor_keeps hs) (Keeps.ite (State.putPlain_keeps hs) (Keeps.ite ?_ (Keeps.ite (Keeps.ite (State.laCfg_keeps hs)
      (Keeps.ite (State.putPlain_keeps hs) (Keeps.ite ?_ (State.putPlain_keeps hs)))) (State.putPlain_keeps hs))))
  · extract_lets +onlyGivenNames x2
    have h3 : Keeps z x2 := State.wrB_keeps hs
    clear_value x2
    exact Keeps.ite (State.sleepReq_keeps h3) h3
  · extract_lets +onlyGivenNames x4
    clear_value x4
    exact State.wr_keeps hs

theorem State.mbxCtl_keeps {z s : State} {v : Word} (hs : Keeps z s) : Keeps z (State.mbxCtl s v) := by
  unfold State.mbxCtl
  refine Keeps.ite hs ?_
  extract_lets +onlyGivenNames x1 x2
  have h3 : Keeps z x2 := State.wr_keeps hs
  clear_value x1 x2
  exact Keeps.ite h3 (Keeps.ite (State.wr_keeps (State.wr_keeps (State.wr_keeps h3))) (State.wr_keeps h3))

theorem State.putSec_keeps {z s : State} {a : Nat} {v : Word} (hs : Keeps z s) : Keeps z (State.putSec s a v) := by
  unfold State.putSec
  refine Keeps.ite (State.mbxCtl_keeps hs) (Keeps.ite (Keeps.ite (State.seals_keeps (State.wr_keeps hs)) hs) (Keeps.ite ?_ (State.putPlain_keeps hs)))
  extract_lets +onlyGivenNames x1
  have h2 : Keeps z x1 := State.putPlain_keeps hs
  clear_value x1
  exact State.seals_keeps h2

theorem State.putDebug_keeps {z s : State} {a : Nat} {v : Word} (hs : Keeps z s) : Keeps z (State.putDebug s a v) := by
  unfold State.putDebug
  split
  · exact Keeps.ite (State.dbgCtl_keeps hs) (Keeps.ite (State.thaw_keeps (State.putPlain_keeps hs)) (State.putPlain_keeps hs))
  · exact Keeps.ite (State.traceCfg_keeps hs) (State.putPlain_keeps hs)

theorem State.putMode_keeps {z s : State} {a : Nat} {v : Word} (hs : Keeps z s) : Keeps z (State.putMode s a v) := by
  unfold State.putMode
  exact Keeps.ite (State.drainWrite_keeps hs) (Keeps.ite (Keeps.ite (State.liveApply_keeps hs) hs) (State.putPlain_keeps hs))

theorem State.put_keeps {z s : State} {a : Nat} {v : Word} (hs : Keeps z s) : Keeps z (State.put s a v) := by
  unfold State.put
  exact Keeps.ite (State.putCluster_keeps hs) (Keeps.ite (State.putSched_keeps hs) (Keeps.ite (State.putMem_keeps hs) (Keeps.ite
      (State.putPaging_keeps hs) (Keeps.ite (Keeps.ite (State.ethCfg_keeps hs) (State.putPlain_keeps hs)) (Keeps.ite (State.putKwt_keeps hs)
      (Keeps.ite (State.putDma_keeps hs) (Keeps.ite (State.putEvt_keeps hs) (Keeps.ite (State.putPlain_keeps hs) (Keeps.ite (State.putErr_keeps hs)
      (Keeps.ite (State.putPower_keeps hs) (Keeps.ite (State.pairCtl_keeps hs) (Keeps.ite (State.putPlain_keeps hs) (Keeps.ite (State.putSec_keeps
      hs) (Keeps.ite (State.putDebug_keeps hs) (Keeps.ite (State.putPlain_keeps hs) (Keeps.ite (State.putMode_keeps hs) (State.putPlain_keeps
      hs)))))))))))))))))

theorem State.csWrite_keeps {z s : State} {m : Nat} {part : Option PartId} {addr : Nat} {v : Word}
    (hs : Keeps z s) : Keeps z (State.csWrite s m part addr v).2 := by
  unfold State.csWrite
  extract_lets +onlyGivenNames x1 x2
  clear_value x1 x2
  refine Keeps.ite2 (Keeps.mk2 (State.decodeErr_keeps hs)) (Keeps.ite2 hs ?_)
  split
  · exact Keeps.mk2 (State.pramStore_keeps hs)
  · split
    · extract_lets +onlyGivenNames x3
      have h4 : Keeps z x3.2 := State.regDataWrite_keeps hs
      clear_value x3
      exact Keeps.mk2 (Keeps.ite (State.setReg_keeps h4) h4)
    · exact Keeps.mk2 (State.put_keeps hs)

theorem State.consumeReg_keeps {z s : State} {row : RegRow} {a : Nat} (hs : Keeps z s) : Keeps z (State.consumeReg s row a) := by
  unfold State.consumeReg
  extract_lets +onlyGivenNames x1
  have h2 : Keeps z x1 := State.setReg_keeps hs
  clear_value x1
  refine Keeps.ite ?_ h2
  extract_lets +onlyGivenNames x3
  clear_value x3
  exact State.modM_keeps h2

theorem State.csRead_keeps {z s : State} {m : Nat} {part : Option PartId} {consume : Bool} {addr : Nat}
    (hs : Keeps z s) : Keeps z (State.csRead s m part consume addr).2.2 := by
  unfold State.csRead
  extract_lets +onlyGivenNames x1 x2
  clear_value x1 x2
  refine Keeps.ite3 (Keeps.mk2 (State.decodeErr_keeps hs)) (Keeps.ite3 hs ?_)
  split
  · extract_lets +onlyGivenNames x3
    have h4 : Keeps z x3.2 := State.pramRead_keeps hs
    clear_value x3
    split
    · exact h4
    · exact h4
  · split
    · extract_lets +onlyGivenNames x5
      have h6 : Keeps z x5.2.2 := State.regDataRead_keeps hs
      clear_value x5
      exact Keeps.mk2 (Keeps.ite (State.setReg_keeps h6) h6)
    · split
      · exact Keeps.mk2 (Keeps.ite (State.consumeReg_keeps hs) hs)
      · exact hs

theorem State.mgmtReg_keeps {z s : State} {write : Bool} {body : List Byte} (hs : Keeps z s) : CustAns.Keeps z (State.mgmtReg s write body) := by
  unfold State.mgmtReg
  refine CustAns.keeps_ite ?_ ?_
  · extract_lets +onlyGivenNames x1
    have h2 : Keeps z x1.2 := State.csWrite_keeps hs
    clear_value x1
    exact CustAns.keeps_mk h2 (fun x3 => fun h4 => Keeps.ident h4)
  · extract_lets +onlyGivenNames x5
    have h6 : Keeps z x5.2.2 := State.csRead_keeps hs
    clear_value x5
    exact CustAns.keeps_mk h6 (fun x7 => fun h8 => Keeps.ident h8)

theorem custOk_keeps {z s : State} {payload : List Byte} (hs : Keeps z s) : CustAns.Keeps z (custOk s payload) := by
  unfold custOk
  exact CustAns.keeps_mk hs (fun x1 => fun h2 => Keeps.ident h2)

theorem State.getId_keeps {z s : State} (hs : Keeps z s) : CustAns.Keeps z (State.getId s) := by
  unfold State.getId
  extract_lets +onlyGivenNames x1
  clear_value x1
  exact custOk_keeps hs

theorem State.getNonce_keeps {z s : State} {sess : Nat} (hs : Keeps z s) : CustAns.Keeps z (State.getNonce s sess) := by
  unfold State.getNonce
  extract_lets +onlyGivenNames x1
  have h2 : Keeps z x1.2 := State.rand_keeps hs
  clear_value x1
  exact custOk_keeps (State.modSec_keeps rfl h2)

theorem State.attest_keeps {z s : State} {nonce : List Byte} (hs : Keeps z s) : CustAns.Keeps z (State.attest s nonce) := by
  unfold State.attest
  extract_lets +onlyGivenNames x1
  clear_value x1
  exact custOk_keeps hs

theorem custBad_keeps {z s : State} {st : Byte} (hs : Keeps z s) : CustAns.Keeps z (custBad s st) := by
  unfold custBad
  exact CustAns.keeps_mk hs (fun x1 => fun h2 => Keeps.ident h2)

theorem State.useNonce_keeps {z s : State} {sess : Nat} {n : List Byte} (hs : Keeps z s) : Keeps z (State.useNonce s sess n).2 := by
  unfold State.useNonce
  exact Keeps.mk2 (State.modSec_keeps rfl hs)

theorem State.claimOwner_keeps {z s : State} {q : MgmtReq} {body : List Byte} (hs : Keeps z s) : CustAns.Keeps z (State.claimOwner s q body) := by
  unfold State.claimOwner
  refine CustAns.keeps_ite (custBad_keeps hs) ?_
  extract_lets +onlyGivenNames x1 x2 x3
  have h4 : Keeps z x3.2 := State.inject_keeps hs
  clear_value x1 x2 x3
  split
  · refine CustAns.keeps_ite (custBad_keeps (State.bucket_keeps h4)) ?_
    extract_lets +onlyGivenNames x5 x6
    have h7 : Keeps z x6 := State.seals_keeps (State.useNonce_keeps h4)
    clear_value x5 x6
    exact custOk_keeps (State.wr_keeps (State.wr_keeps h7))
  · exact custBad_keeps (State.bucket_keeps h4)

theorem State.eraseOwned_keeps {z s : State} (hs : Keeps z s) : Keeps z (State.eraseOwned s) := by
  unfold State.eraseOwned
  exact State.flashErase_keeps (State.flashErase_keeps (State.flashErase_keeps (State.modSec_keeps rfl hs)))

theorem State.mgmtReset_keeps {z : State} {cold : Bool} {s : State} (hs : Keeps z s) : Keeps z (State.mgmtReset cold s) := by
  unfold State.mgmtReset
  exact Keeps.ite (State.coldReset_keeps hs) (Keeps.ite (State.coldReset_keeps hs) (State.warmReset_keeps hs))

theorem State.getKem_keeps {z s : State} (hs : Keeps z s) : CustAns.Keeps z (State.getKem s) := by
  unfold State.getKem
  extract_lets +onlyGivenNames x1
  clear_value x1
  exact custOk_keeps hs

theorem State.setKey_keeps {z s : State} {body : List Byte} (hs : Keeps z s) : CustAns.Keeps z (State.setKey s body) := by
  unfold State.setKey
  extract_lets +onlyGivenNames x1 x2
  clear_value x1 x2
  refine CustAns.keeps_ite (custBad_keeps hs) ?_
  extract_lets +onlyGivenNames x3 x4 x5 x6
  clear_value x3 x4 x5 x6
  refine CustAns.keeps_ite (custBad_keeps (State.bucket_keeps hs)) ?_
  extract_lets +onlyGivenNames x7
  clear_value x7
  exact custOk_keeps (State.showKeys_keeps (State.seals_keeps hs))

theorem State.closeDbg_keeps {z s : State} (hs : Keeps z s) : Keeps z (State.closeDbg s) := by
  unfold State.closeDbg
  extract_lets +onlyGivenNames x1 x3 x5
  have h2 : Keeps z x1 := State.detach_keeps (State.wr_keeps (State.burn_keeps hs))
  clear_value x1
  have h4 : Keeps z x3 := Keeps.same (s := x1) h2 ⟨rfl, rfl, rfl, rfl, rfl, rfl, rfl, rfl, rfl, rfl⟩
  have h6 : Keeps z x5 := Keeps.foldl (fun x7 => fun x8 => fun h9 => Keeps.ite (State.unhalt_keeps h9) h9) (State.wr_keeps h4)
  clear_value x3 x5
  exact State.thaw_keeps (State.holdSync_keeps h6)

theorem State.setAddrs_keeps {z s : State} {body : List Byte} (hs : Keeps z s) : CustAns.Keeps z (State.setAddrs s body) := by
  unfold State.setAddrs
  extract_lets +onlyGivenNames x1 x2 x3 x4
  clear_value x1 x2 x3 x4
  exact CustAns.keeps_ite (custBad_keeps hs) (custOk_keeps (State.showAddrs_keeps (State.seals_keeps hs)))

theorem State.mgmtRun_keeps {z s : State} {q : MgmtReq} {cmd : Nat} {body : List Byte} (hs : Keeps z s) : CustAns.Keeps z
    (State.mgmtRun s q cmd body) := by
  unfold State.mgmtRun
  refine CustAns.keeps_ite (State.mgmtReg_keeps hs) (CustAns.keeps_ite (State.mgmtReg_keeps hs) (CustAns.keeps_ite (custOk_keeps (Keeps.ite
      (State.wakeEvent_keeps (State.fire_keeps hs)) hs)) (CustAns.keeps_ite (State.getId_keeps hs) (CustAns.keeps_ite (State.getNonce_keeps hs)
      (CustAns.keeps_ite (State.attest_keeps hs) (CustAns.keeps_ite (State.claimOwner_keeps hs) (CustAns.keeps_ite (CustAns.keeps_mk
      (State.eraseOwned_keeps hs) (fun x1 => fun h2 => State.coldReset_keeps h2)) (CustAns.keeps_ite (CustAns.keeps_mk hs (fun x3 => fun h4
      => State.mgmtReset_keeps h4)) (CustAns.keeps_ite (State.getKem_keeps hs) (CustAns.keeps_ite (State.setKey_keeps hs) (CustAns.keeps_ite ?_
      (CustAns.keeps_ite (custOk_keeps (State.closeDbg_keeps hs)) (CustAns.keeps_ite (State.setAddrs_keeps hs) (CustAns.keeps_ite (custOk_keeps
      (State.seals_keeps hs)) (CustAns.keeps_ite (custOk_keeps hs) (CustAns.keeps_mk (State.modSec_keeps rfl hs) (fun x6 => fun h7
      => State.coldReset_keeps h7)))))))))))))))))
  extract_lets +onlyGivenNames x5
  clear_value x5
  exact custOk_keeps (State.seals_keeps (State.wrB_keeps hs))

theorem State.authOk_keeps {z s : State} {q : MgmtReq} (hs : Keeps z s) : Keeps z (State.authOk s q).2 := by
  unfold State.authOk
  extract_lets +onlyGivenNames x1 x2 x3 x4 x6 x8
  have h5 : Keeps z x4.2 := State.useNonce_keeps hs
  have h7 : Keeps z x6.2 := State.verify_keeps h5
  clear_value x1 x2 x3 x4 x6 x8
  exact Keeps.mk2 (Keeps.ite h7 (State.bucket_keeps h7))

theorem State.mgmt_keeps {z s : State} {q : MgmtReq} (hs : Keeps z s) : CustAns.Keeps z (State.mgmt s q) := by
  unfold State.mgmt
  extract_lets +onlyGivenNames x1 x2 x3 x4
  clear_value x1 x2 x3 x4
  refine CustAns.keeps_ite (custBad_keeps hs) ?_
  extract_lets +onlyGivenNames x5
  have h6 : Keeps z x5.2 := Keeps.ite2 (State.authOk_keeps hs) hs
  clear_value x5
  exact CustAns.keeps_ite (custBad_keeps h6) (State.mgmtRun_keeps h6)

theorem State.updAns_keeps {z s : State} {extra : List Byte} {after : State → State} (hs : Keeps z s)
    (hafter : ∀ w0, Keeps z w0 → Keeps z (after w0)) : CustAns.Keeps z (State.updAns s extra after) := by
  unfold State.updAns
  exact CustAns.keeps_mk hs ((by assumption))

theorem State.updCode_keeps {z s : State} {c : Nat} (hs : Keeps z s) : Keeps z (State.updCode s c) := by
  unfold State.updCode
  exact State.wr_keeps (Keeps.ite hs (State.wr_keeps hs))

theorem State.updEnd_keeps {z s : State} {c : Nat} (hs : Keeps z s) : CustAns.Keeps z (State.updEnd s c) := by
  unfold State.updEnd
  exact State.updAns_keeps (State.updCode_keeps hs) (fun x1 => fun h2 => Keeps.ident h2)

theorem State.beginFw_keeps {z s : State} {head : List Byte} (hs : Keeps z s) : CustAns.Keeps z (State.beginFw s head) := by
  unfold State.beginFw
  split
  · exact CustAns.keeps_ite (State.updEnd_keeps (State.showDl_keeps hs)) (State.updEnd_keeps hs)
  · extract_lets +onlyGivenNames x1
    have h2 : Keeps z x1.2 := State.fwHeadFail_keeps hs
    clear_value x1
    refine CustAns.keeps_ite (State.updEnd_keeps h2) ?_
    extract_lets +onlyGivenNames x3 x4
    have h5 : Keeps z x4 := State.flashPut_keeps (State.flashPut_keeps (State.flashErase_keeps h2))
    clear_value x3 x4
    exact State.updEnd_keeps (State.showDl_keeps (State.modSec_keeps rfl h5))

theorem State.beginStruct_keeps {z s : State} {head : List Byte} (hs : Keeps z s) : CustAns.Keeps z (State.beginStruct s head) := by
  unfold State.beginStruct
  extract_lets +onlyGivenNames x1
  clear_value x1
  split
  · exact CustAns.keeps_ite (State.updEnd_keeps (State.showDl_keeps hs)) (State.updEnd_keeps hs)
  · refine CustAns.keeps_ite ?_ (State.updEnd_keeps (State.showDl_keeps (State.wr_keeps (State.modSec_keeps rfl (State.flashErase_keeps hs)))))
    extract_lets +onlyGivenNames x2
    have h3 : Keeps z x2.2 := State.imgFail_keeps hs
    clear_value x2
    exact State.updEnd_keeps (State.wr_keeps h3)

theorem State.piece_keeps {z s : State} {i : Nat} {payload : List Byte} (hs : Keeps z s) : CustAns.Keeps z (State.piece s i payload) := by
  unfold State.piece
  split
  · exact State.updEnd_keeps hs
  · extract_lets +onlyGivenNames x1
    clear_value x1
    refine CustAns.keeps_ite (State.updEnd_keeps hs) (CustAns.keeps_ite (State.updEnd_keeps hs) ?_)
    extract_lets +onlyGivenNames x2 x4 x5
    have h3 : Keeps z x2.2 := State.fresh_keeps hs
    have h6 : Keeps z x5 := State.flashErase_keeps h3
    clear_value x2 x4 x5
    refine CustAns.keeps_ite (State.updEnd_keeps (State.cnt_keeps h6)) ?_
    extract_lets +onlyGivenNames x7 x8
    clear_value x7
    have h9 : Keeps z x8 := State.showDl_keeps (State.modSec_keeps rfl (State.flashPut_keeps h6))
    clear_value x8
    exact CustAns.keeps_ite (State.updEnd_keeps h9) (State.updEnd_keeps h9)

theorem State.updStatus_keeps {z s : State} (hs : Keeps z s) : CustAns.Keeps z (State.updStatus s) := by
  unfold State.updStatus
  extract_lets +onlyGivenNames x1
  clear_value x1
  exact State.updAns_keeps hs (fun x2 => fun h3 => Keeps.ident h3)

theorem State.copyWritten_keeps {z s : State} {slot : Nat} {img : List Byte} (hs : Keeps z s) : Keeps z (State.copyWritten s slot img) := by
  unfold State.copyWritten
  extract_lets +onlyGivenNames x1
  have h2 : Keeps z x1 := State.writeSlot_keeps hs
  clear_value x1
  exact State.wr_keeps (State.wr_keeps (State.wr_keeps h2))

theorem State.copyBank_keeps {z s : State} {src dst : Nat} (hs : Keeps z s) : Keeps z (State.copyBank s src dst) := by
  unfold State.copyBank
  extract_lets +onlyGivenNames x1 x3 x4
  have h2 : Keeps z x1 := State.flashErase_keeps hs
  clear_value x1 x3 x4
  exact State.modSec_keeps rfl h2

theorem State.recoverWith_keeps {z s : State} {d : Download} (hs : Keeps z s) : CustAns.Keeps z (State.recoverWith s d) := by
  unfold State.recoverWith
  refine CustAns.keeps_ite ?_ ?_
  · extract_lets +onlyGivenNames x1
    clear_value x1
    exact State.updAns_keeps (State.updCode_keeps (State.modSec_keeps rfl (State.copyWritten_keeps (State.copyWritten_keeps hs)))) (fun x2 => fun
        h3 => State.coldReset_keeps h3)
  · extract_lets +onlyGivenNames x4
    have h5 : Keeps z x4.2 := State.bankFail_keeps hs
    clear_value x4
    refine CustAns.keeps_ite (State.updEnd_keeps h5) ?_
    extract_lets +onlyGivenNames x6 x7
    have h8 : Keeps z x7 := State.sealAll_keeps (State.copyBank_keeps h5)
    clear_value x6 x7
    exact State.updAns_keeps (State.updCode_keeps (State.modSec_keeps rfl h8)) (fun x9 => fun h10 => State.coldReset_keeps h10)

theorem State.activateStruct_keeps {z s : State} (hs : Keeps z s) : CustAns.Keeps z (State.activateStruct s) := by
  unfold State.activateStruct
  exact CustAns.keeps_ite (State.updEnd_keeps hs) (CustAns.keeps_ite (State.updEnd_keeps hs) (CustAns.keeps_ite (State.updEnd_keeps hs)
      (State.updEnd_keeps (State.copyWritten_keeps hs))))

theorem State.sealTrial_keeps {z s : State} {trial : BitVec 2} (hs : Keeps z s) : Keeps z (State.sealTrial s trial) := by
  unfold State.sealTrial
  split
  · exact State.sealBcr_keeps hs
  · exact State.sealAll_keeps hs

theorem State.activateFail_keeps {z s : State} {c : Nat} (hs : Keeps z s) : Keeps z (State.activateFail s c) := by
  unfold State.activateFail
  exact State.showDl_keeps (State.updCode_keeps (State.modPair_keeps rfl rfl (State.sealTrial_keeps hs)))

theorem State.activateGo_keeps {z s : State} (hs : Keeps z s) : Keeps z (State.activateGo s) := by
  unfold State.activateGo
  exact Keeps.ite hs (Keeps.ite (Keeps.ite hs (State.activateFail_keeps hs)) (Keeps.ite (State.activateFail_keeps hs) (State.coldReset_keeps hs)))

theorem State.activateFw_keeps {z s : State} {d : Download} (hs : Keeps z s) : CustAns.Keeps z (State.activateFw s d) := by
  unfold State.activateFw
  extract_lets +onlyGivenNames x1
  clear_value x1
  refine CustAns.keeps_ite (State.updEnd_keeps hs) ?_
  extract_lets +onlyGivenNames x2
  have h3 : Keeps z x2 := State.wr_keeps (State.updCode_keeps (State.sealTrial_keeps hs))
  clear_value x2
  exact State.updAns_keeps (State.relinquish_keeps h3) (fun x4 => fun h5 => State.activateGo_keeps h5)

theorem State.activate_keeps {z s : State} (hs : Keeps z s) : CustAns.Keeps z (State.activate s) := by
  unfold State.activate
  split
  · exact State.updEnd_keeps hs
  · exact CustAns.keeps_ite (State.updEnd_keeps hs) (CustAns.keeps_ite (State.recoverWith_keeps hs) (CustAns.keeps_ite (State.activateStruct_keeps
      hs) (State.activateFw_keeps hs)))

theorem State.confirm_keeps {z s : State} (hs : Keeps z s) : Keeps z (State.confirm s) := by
  unfold State.confirm
  extract_lets +onlyGivenNames x1 x2 x4 x6 x7
  have h3 : Keeps z x2 := State.sealAll_keeps hs
  clear_value x1 x2
  have h5 : Keeps z x4 := Keeps.ite (State.modSec_keeps rfl h3) h3
  have h8 : Keeps z x7 := Keeps.ite (State.burn_keeps h5) h5
  clear_value x4 x6 x7
  exact State.wr_keeps (State.wr_keeps (State.wr_keeps (State.wr_keeps h8)))

theorem State.abort_keeps {z s : State} (hs : Keeps z s) : CustAns.Keeps z (State.abort s) := by
  unfold State.abort
  exact CustAns.keeps_ite (State.updAns_keeps (State.updCode_keeps (State.sealTrial_keeps hs)) (fun x1 => fun h2 => State.coldReset_keeps h2))
      (State.updEnd_keeps (State.showDl_keeps (State.modSec_keeps rfl hs)))

theorem State.update_keeps {z s : State} {q : MgmtReq} {arg : Word} (hs : Keeps z s) : CustAns.Keeps z (State.update s q arg) := by
  unfold State.update
  extract_lets +onlyGivenNames x1 x2 x3 x4
  clear_value x1 x2 x3 x4
  refine CustAns.keeps_ite (custBad_keeps hs) (CustAns.keeps_ite (custBad_keeps hs) ?_)
  extract_lets +onlyGivenNames x5
  have h6 : Keeps z x5.2 := Keeps.ite2 (State.authOk_keeps hs) hs
  clear_value x5
  refine CustAns.keeps_ite (custBad_keeps h6) ?_
  extract_lets +onlyGivenNames x7
  have h8 : Keeps z x7 := h6
  clear_value x7
  exact CustAns.keeps_ite (CustAns.keeps_ite (State.beginFw_keeps h8) (CustAns.keeps_ite (State.beginStruct_keeps h8) (custBad_keeps h8)))
      (CustAns.keeps_ite (State.piece_keeps h8) (CustAns.keeps_ite (State.updStatus_keeps h8) (CustAns.keeps_ite (State.activate_keeps h8)
      (CustAns.keeps_ite (CustAns.keeps_ite (State.updEnd_keeps (State.confirm_keeps h8)) (State.updEnd_keeps h8)) (State.abort_keeps h8)))))

theorem State.cust_keeps {z s : State} {f : KwtFrame} (hs : Keeps z s) : CustAns.Keeps z (State.cust s f) := by
  unfold State.cust
  extract_lets +onlyGivenNames x1
  clear_value x1
  exact CustAns.keeps_ite (State.mgmt_keeps hs) (State.update_keeps hs)

theorem netHooks_keeps : netHooks.Keeps := fun _ _ _ hs => ⟨State.cust_keeps hs, State.fwdInput_keeps hs⟩

theorem State.kwtRx_keeps {z s : State} {f : KwtFrame} (hs : Keeps z s) : Keeps z (s.kwtRx f) := by
  unfold State.kwtRx
  refine Keeps.ite hs (Keeps.ite (Keeps.ite hs ?_) (State.kwtIn_keeps netHooks_keeps hs))
  extract_lets +onlyGivenNames x1
  have h2 : Keeps z x1.2 := State.authOk_keeps hs
  clear_value x1
  exact Keeps.ite (State.kwtIn_keeps netHooks_keeps hs) h2

theorem execFrameReceive_keeps {z : State} {f : EthFrame} {s : State} (hs : Keeps z s) : Out.Keeps z (execFrameReceive f s) := by
  unfold execFrameReceive
  exact Out.keeps_next (State.frameIn_keeps (fun x1 => fun x2 => fun h3 => State.kwtRx_keeps h3) hs)

theorem State.twdSay_keeps {z s : State} {tag status : Nat} {data : Option (Word × BitVec 16)}
    (hs : Keeps z s) : Keeps z (State.twdSay s tag status data) := by
  unfold State.twdSay
  exact Keeps.same (s := s) hs ⟨rfl, rfl, rfl, rfl, rfl, rfl, rfl, rfl, rfl, rfl⟩

theorem State.twdCode_keeps {z s : State} {code : Nat} (hs : Keeps z s) : Keeps z (State.twdCode s code) := by
  unfold State.twdCode
  exact Keeps.ite hs (State.wr_keeps hs)

theorem State.twdRead_keeps {z s : State} {k : TwdPacket} {tag : Nat} {consume : Bool}
    (hs : Keeps z s) : Keeps z (State.twdRead s k tag consume) := by
  unfold State.twdRead
  extract_lets +onlyGivenNames x1
  clear_value x1
  split
  · refine Keeps.ite (Keeps.ite (State.twdSay_keeps hs) (State.twdSay_keeps (State.twdCode_keeps hs))) ?_
    extract_lets +onlyGivenNames x2
    have h3 : Keeps z x2.2.2 := State.csRead_keeps hs
    clear_value x2
    refine State.twdSay_keeps ?_
    extract_lets +onlyGivenNames x4
    have h5 : Keeps z x4 := h3
    clear_value x4
    exact Keeps.same (s := x4) h5 ⟨rfl, rfl, rfl, rfl, rfl, rfl, rfl, rfl, rfl, rfl⟩
  · extract_lets +onlyGivenNames x6
    have h7 : Keeps z x6.2.2 := State.csRead_keeps hs
    clear_value x6
    refine State.twdSay_keeps ?_
    extract_lets +onlyGivenNames x8
    have h9 : Keeps z x8 := h7
    clear_value x8
    exact Keeps.same (s := x8) h9 ⟨rfl, rfl, rfl, rfl, rfl, rfl, rfl, rfl, rfl, rfl⟩

theorem execReadClear_keeps {z : State} {addr : BitVec 32} {m : Fin 37} {consume : Bool} {s : State} (hs : Keeps z s) : Out.Keeps z
    (execReadClear addr m consume s) := by
  unfold execReadClear
  extract_lets +onlyGivenNames x1
  have h2 : Keeps z x1.2.2 := State.csRead_keeps hs
  clear_value x1
  exact Out.keeps_next (State.modFab_keeps h2)

theorem execKwtUpdate_keeps {z : State} {f : KwtFrame} {s : State} (hs : Keeps z s) : Out.Keeps z (execKwtUpdate f s) := by
  unfold execKwtUpdate
  exact Out.keeps_next (State.kwtRx_keeps hs)

theorem execRegisterWrite_keeps {z : State} {addr : BitVec 32} {m : Fin 37} {v : Word} {s : State} (hs : Keeps z s) : Out.Keeps z
    (execRegisterWrite addr m v s) := by
  unfold execRegisterWrite
  extract_lets +onlyGivenNames x1
  have h2 : Keeps z x1.2 := State.csWrite_keeps hs
  clear_value x1
  exact Out.keeps_next (State.modFab_keeps h2)

theorem State.localRead_keeps {z s : State} {c : CpId} {p : Nat} (hs : Keeps z s) : Keeps z (State.localRead s c p).2 := by
  unfold State.localRead
  refine Keeps.ite2 hs (Keeps.ite2 ?_ (Keeps.ite2 hs (Keeps.ite2 hs (Keeps.ite2 hs (Keeps.ite2 hs (Keeps.ite2 hs (State.pramRead_keeps hs)))))))
  split
  · exact hs
  · exact hs

theorem doIn_keeps {z : State} {d : Reg} {p len : Nat} {s : State} {c : CpId} (hs : Keeps z s) : Flow.Keeps z (doIn d p len s c) := by
  unfold doIn
  refine Flow.keeps_ite (Flow.keeps_trap hs) (Flow.keeps_ite ?_ ?_)
  · extract_lets +onlyGivenNames x1
    have h2 : Keeps z x1.2 := State.localRead_keeps hs
    clear_value x1
    split
    · exact Flow.keeps_next (State.setG_keeps h2)
    · exact Flow.keeps_trap h2
  · extract_lets +onlyGivenNames x3
    have h4 : Keeps z x3.2 := State.compareWith_keeps (fun x5 => fun x6 => fun x7 => fun h8 => State.bucket_keeps h8) hs
    clear_value x3
    exact Flow.keeps_ite (Flow.keeps_done h4) (Flow.keeps_stall h4)

theorem execInx_keeps {z : State} {c : CpId} {d a : Reg} {sub : BitVec 4} {imm : BitVec 32} {s : State} (hs : Keeps z s) : Out.Keeps z
    (execInx c d a sub imm s) := by
  unfold execInx
  extract_lets +onlyGivenNames x1
  clear_value x1
  exact Out.keeps_next (State.runInsn_keeps hs (fun x2 => fun x3 => fun h4 => doIn_keeps h4))

theorem State.injectNow_keeps {z s : State} {point inst : Nat} (hs : Keeps z s) : Keeps z (State.injectNow s point inst) := by
  unfold State.injectNow
  extract_lets +onlyGivenNames x1 x2
  clear_value x1 x2
  exact Keeps.ite (State.droop_keeps hs) (Keeps.ite (State.bucket_keeps (State.wr_keeps (State.wr_keeps (State.wr_keeps hs)))) (Keeps.ite
      (Keeps.ite (State.wdgExpire_keeps hs) hs) (Keeps.ite (State.coldStart_keeps (State.glitch_keeps hs)) (State.modSec_keeps rfl
      (State.glitch_keeps hs)))))

theorem execInjectionFire_keeps {z s : State} (hs : Keeps z s) : Out.Keeps z (execInjectionFire s) := by
  unfold execInjectionFire
  extract_lets +onlyGivenNames x1 x2 x3
  clear_value x1 x2 x3
  exact Out.keeps_next (Keeps.ite (State.injectNow_keeps (State.fired_keeps hs)) hs)

theorem execKwtWrite_keeps {z : State} {f : KwtFrame} {s : State} (hs : Keeps z s) : Out.Keeps z (execKwtWrite f s) := by
  unfold execKwtWrite
  exact Out.keeps_next (State.kwtRx_keeps hs)

theorem State.modTimer_keeps {z s : State} {c : CpId} {n : Fin 4} {f : Timer → Timer} (hs : Keeps z s) : Keeps z (State.modTimer s c n f) := by
  unfold State.modTimer
  exact State.modCp_keeps hs

theorem State.timerWrite_keeps {z s : State} {c : CpId} {n : Fin 4} {r : Nat} {v : Word} (hs : Keeps z s) : Keeps z (State.timerWrite s c n r v) := by
  unfold State.timerWrite
  exact State.modTimer_keeps hs

theorem State.wdgWrite_keeps {z s : State} {c : CpId} {p : Nat} {v : Word} (hs : Keeps z s) : Keeps z (State.wdgWrite s c p v) := by
  unfold State.wdgWrite
  exact State.modWdg_keeps hs

theorem State.pramWrite_keeps {z s : State} {c : CpId} {w : BitVec 56} (hs : Keeps z s) : Keeps z (State.pramWrite s c w) := by
  unfold State.pramWrite
  exact State.modCp_keeps (State.pramStore_keeps hs)

theorem State.localWrite_keeps {z s : State} {c : CpId} {p : Nat} {v : Word} (hs : Keeps z s) : Keeps z (State.localWrite s c p v) := by
  unfold State.localWrite
  refine Keeps.ite ?_ (Keeps.ite (State.wdgCtl_keeps hs) (Keeps.ite (State.wdgKey_keeps hs) (Keeps.ite (State.wdgWrite_keeps hs) (Keeps.ite ?_
      (Keeps.ite hs (Keeps.ite (State.stimWrite_keeps hs) (Keeps.ite (State.modCp_keeps hs) (State.pramWrite_keeps hs))))))))
  · split
    · exact State.timerWrite_keeps hs
    · exact hs
  · extract_lets +onlyGivenNames x1
    clear_value x1
    exact State.modCp_keeps hs

theorem State.outDone_all {z s : State} {c : CpId} {len : Nat} (hs : Keeps z s) :
    Keeps z (s.outDone c len).2 ∧ ∀ t, (s.outDone c len).1 = some t → Keeps z t := by
  have h0 : ∀ k, Keeps z (s.compareWith State.bucket c 5 k).2 := fun _ => State.compareWith_keeps (fun _ _ _ h => State.bucket_keeps h) hs
  unfold State.outDone
  dsimp only
  split
  · split
    · exact ⟨h0 _, fun t ht => by cases ht⟩
    · exact ⟨h0 _, fun t ht => by cases ht; exact State.lstepSave_keeps (State.retire_keeps (h0 _))⟩
  · exact ⟨hs, fun t ht => by cases ht; exact State.retire_keeps hs⟩

theorem doOut_keeps {z s : State} {d : Reg} {p len : Nat} {c : CpId} (hs : Keeps z s) : Flow.Keeps z (doOut d p len s c) := by
  have h0 : Keeps z (s.compareWith State.bucket c 2 p).2 := State.compareWith_keeps (fun _ _ _ h => State.bucket_keeps h) hs
  have late : ∀ t : State, Keeps z t → Flow.Keeps z (.done (t.raise c cBus (portInfo p true) (t.cp c).a.pc.toNat)) :=
    fun t ht => Flow.keeps_done (State.raise_keeps ht)
  unfold doOut
  dsimp only
  refine Flow.keeps_ite (Flow.keeps_trap hs) (Flow.keeps_ite ?_ ?_)
  · have h1 : Keeps z (s.retire c len none) := State.retire_keeps hs
    exact Flow.keeps_ite (Flow.keeps_done (State.localWrite_keeps h1)) (late _ h1)
  · refine Flow.keeps_ite (Flow.keeps_done h0) ?_
    have h2 := State.outDone_all (c := c) (len := len) h0
    split
    · rename_i e; exact Flow.keeps_done (Keeps.eq2 e h2.1)
    · rename_i e
      have h3 := h2.2 _ (by rw [e])
      exact Flow.keeps_ite (Flow.keeps_done (State.csWrite_keeps h3)) (late _ (State.csWrite_keeps h3))

theorem execOutx_keeps {z : State} {c : CpId} {d a : Reg} {sub : BitVec 4} {imm : BitVec 32} {s : State} (hs : Keeps z s) : Out.Keeps z
    (execOutx c d a sub imm s) := by
  unfold execOutx
  extract_lets +onlyGivenNames x1
  clear_value x1
  exact Out.keeps_next (State.runInsn_keeps hs (fun x2 => fun x3 => fun h4 => doOut_keeps h4))

theorem execKwtSubmit_keeps {z : State} {f : KwtFrame} {s : State} (hs : Keeps z s) : Out.Keeps z (execKwtSubmit f s) := by
  unfold execKwtSubmit
  exact Out.keeps_next (State.kwtRx_keeps hs)

theorem State.mbxPut_keeps {z s : State} {b : List Byte} (hs : Keeps z s) : Keeps z (State.mbxPut s b) := by
  unfold State.mbxPut
  refine Keeps.foldl (fun x1 => fun x2 => fun h3 => ?_) hs
  extract_lets +onlyGivenNames x4 x5
  clear_value x4 x5
  exact State.setReg_keeps h3

theorem State.mbxRun_keeps {z s : State} (hs : Keeps z s) : Keeps z (State.mbxRun s) := by
  unfold State.mbxRun
  extract_lets +onlyGivenNames x1 x3
  have h2 : CustAns.Keeps z x1 := State.mgmt_keeps hs
  have h4 : Keeps z x3 := State.wr_keeps (State.mbxPut_keeps (CustAns.keeps_s (by assumption)))
  clear_value x1 x3
  exact CustAns.keeps_after (by assumption) (State.wr_keeps (State.wr_keeps h4))

theorem State.inAnswer_keeps {z s : State} {c : CpId} {status : Nat} {v : Word} (hs : Keeps z s) : Keeps z (State.inAnswer s c status v) := by
  unfold State.inAnswer
  split
  · extract_lets +onlyGivenNames x1 x3
    have h2 : Keeps z x1 := State.modCp_keeps hs
    clear_value x1 x3
    exact State.finish_keeps h2 (Flow.keeps_ite (nextSaved_keeps (State.setG_keeps h2)) (Flow.keeps_trap h2))
  · exact hs

theorem State.toErr_keeps {z s : State} {m a : Nat} {write : Bool} (hs : Keeps z s) : Keeps z (State.toErr s m a write) := by
  unfold State.toErr
  extract_lets +onlyGivenNames x1
  have h2 : Keeps z x1 := State.cntSat_keeps hs
  clear_value x1
  exact Keeps.ite h2 (State.wr_keeps (State.wrB_keeps (State.wr_keeps (State.wr_keeps h2))))

theorem execFabricTimeout_keeps {z : State} {m : Fin 37} {id : Fin 32} {s : State} (hs : Keeps z s) : Out.Keeps z (execFabricTimeout m id s) := by
  unfold execFabricTimeout
  refine Out.keeps_next ?_
  split
  · exact State.fabAnswer_keeps (State.toErr_keeps hs)
  · extract_lets +onlyGivenNames x1
    clear_value x1
    split
    · exact Keeps.ite (State.inAnswer_keeps (State.toErr_keeps hs)) hs
    · exact hs

theorem execLineReset_keeps {z s : State} (hs : Keeps z s) : Out.Keeps z (execLineReset s) := by
  unfold execLineReset
  exact Out.keeps_next (Keeps.same (s := s) hs ⟨rfl, rfl, rfl, rfl, rfl, rfl, rfl, rfl, rfl, rfl⟩)

theorem execKwtClose_keeps {z : State} {f : KwtFrame} {s : State} (hs : Keeps z s) : Out.Keeps z (execKwtClose f s) := by
  unfold execKwtClose
  exact Out.keeps_next (State.kwtRx_keeps hs)

theorem State.twdSilent_keeps {z s : State} (hs : Keeps z s) : Keeps z (State.twdSilent s) := by
  unfold State.twdSilent
  exact Keeps.same (s := s) hs ⟨rfl, rfl, rfl, rfl, rfl, rfl, rfl, rfl, rfl, rfl⟩

theorem State.twdRegWrite_keeps {z s : State} {off : Nat} {v : Word} (hs : Keeps z s) : Keeps z (State.twdRegWrite s off v) := by
  unfold State.twdRegWrite
  exact Keeps.ite (State.setReg_keeps hs) (Keeps.ite (State.twdAttach_keeps hs) hs)

theorem State.twdWrite_keeps {z s : State} {k : TwdPacket} {tag op : Nat} (hs : Keeps z s) : Keeps z (State.twdWrite s k tag op) := by
  unfold State.twdWrite
  extract_lets +onlyGivenNames x1
  have h2 : Keeps z x1 := State.twdSay_keeps hs
  clear_value x1
  refine Keeps.ite (State.wr_keeps h2) (Keeps.ite (State.twdRegWrite_keeps h2) ?_)
  extract_lets +onlyGivenNames x3
  have h4 : Keeps z x3.2 := State.csWrite_keeps h2
  clear_value x3
  exact Keeps.ite h4 (State.twdCode_keeps (State.wr_keeps h4))

theorem execTwdPacket_keeps {z : State} {k : TwdPacket} {s : State} (hs : Keeps z s) : Out.Keeps z (execTwdPacket k s) := by
  unfold execTwdPacket
  extract_lets +onlyGivenNames x1 x2 x3 x4
  clear_value x1 x2 x3 x4
  refine Out.keeps_next (Keeps.ite (State.twdSilent_keeps hs) (Keeps.ite (State.twdSay_keeps (State.wr_keeps hs)) (Keeps.ite (State.twdSay_keeps
      hs) (Keeps.ite ?_ (Keeps.ite (State.twdSay_keeps hs) (Keeps.ite (State.twdRead_keeps hs) (State.twdWrite_keeps hs)))))))
  split
  · exact State.twdSay_keeps hs
  · exact Keeps.ite (State.twdSay_keeps hs) (State.twdWrite_keeps hs)

theorem execInResponse_keeps {z : State} {c0 : CpId} {s : State} (hs : Keeps z s) : Out.Keeps z (execInResponse c0 s) := by
  unfold execInResponse
  extract_lets +onlyGivenNames x1
  clear_value x1
  refine Out.keeps_next ?_
  split
  · extract_lets +onlyGivenNames x2
    have h3 : Keeps z x2.2.2 := State.csRead_keeps hs
    clear_value x2
    exact State.inAnswer_keeps h3
  · exact hs

theorem execInPort_keeps {z : State} {c : CpId} {d a : Reg} {off : BitVec 12} {s : State} (hs : Keeps z s) : Out.Keeps z
    (execInPort c d a off s) := by
  unfold execInPort
  exact Out.keeps_next (State.runInsn_keeps hs (fun x1 => fun x2 => fun h3 => doIn_keeps h3))

theorem execOutPort_keeps {z : State} {c : CpId} {d a : Reg} {off : BitVec 12} {s : State} (hs : Keeps z s) : Out.Keeps z
    (execOutPort c d a off s) := by
  unfold execOutPort
  exact Out.keeps_next (State.runInsn_keeps hs (fun x1 => fun x2 => fun h3 => doOut_keeps h3))

theorem execPramDataWrite_keeps {z : State} {c : CpId} {w : BitVec 56} {s : State} (hs : Keeps z s) : Out.Keeps z (execPramDataWrite c w s) := by
  unfold execPramDataWrite
  exact Out.keeps_next (State.pramWrite_keeps hs)

theorem State.fabPerform_keeps {z s : State} {port : Nat} {r : FabReq} (hs : Keeps z s) : Keeps z (State.fabPerform s port r) := by
  unfold State.fabPerform
  extract_lets +onlyGivenNames x1 x2 x3 x5 x7
  have h4 : Keeps z x3.2 := State.csWrite_keeps hs
  have h6 : Keeps z x5.2.2 := Keeps.ite3 h4 (State.csRead_keeps hs)
  clear_value x1 x2 x3 x5 x7
  exact State.modFab_keeps h6

theorem execFabricTransaction_keeps {z : State} {port : Fin 35} {fresh : Option FabReq} {s : State} (hs : Keeps z s) : Out.Keeps z
    (execFabricTransaction port fresh s) := by
  unfold execFabricTransaction
  extract_lets +onlyGivenNames x1
  have h2 : Keeps z x1 := by
    unfold x1
    split
    · exact Keeps.ite (State.modFab_keeps hs) hs
    · exact hs
  clear_value x1
  refine Out.keeps_next ?_
  split
  · exact State.fabPerform_keeps (State.modFab_keeps h2)
  · exact h2

theorem execFabricResponse_keeps {z : State} {m : Fin 37} {id : Fin 32} {s : State} (hs : Keeps z s) : Out.Keeps z (execFabricResponse m id s) := by
  unfold execFabricResponse
  refine Out.keeps_next ?_
  split
  · exact State.fabAnswer_keeps hs
  · exact hs

theorem execKwtOpen_keeps {z : State} {f : KwtFrame} {s : State} (hs : Keeps z s) : Out.Keeps z (execKwtOpen f s) := by
  unfold execKwtOpen
  exact Out.keeps_next (State.kwtRx_keeps hs)

theorem execKwtRead_keeps {z : State} {f : KwtFrame} {s : State} (hs : Keeps z s) : Out.Keeps z (execKwtRead f s) := by
  unfold execKwtRead
  exact Out.keeps_next (State.kwtRx_keeps hs)

theorem execKwtMgmt_keeps {z : State} {f : KwtFrame} {s : State} (hs : Keeps z s) : Out.Keeps z (execKwtMgmt f s) := by
  unfold execKwtMgmt
  exact Out.keeps_next (State.kwtRx_keeps hs)

theorem execKwtAck_keeps {z : State} {f : KwtFrame} {s : State} (hs : Keeps z s) : Out.Keeps z (execKwtAck f s) := by
  unfold execKwtAck
  exact Out.keeps_next (State.kwtRx_keeps hs)

theorem execMbxRequest_keeps {z s : State} (hs : Keeps z s) : Out.Keeps z (execMbxRequest s) := by
  unfold execMbxRequest
  refine Out.keeps_next ?_
  extract_lets +onlyGivenNames x1
  have h2 : Keeps z x1 := State.mbxCtl_keeps hs
  clear_value x1
  exact Keeps.ite (State.mbxRun_keeps h2) h2

theorem execAutoConfirmExpiry_keeps {z s : State} (hs : Keeps z s) : Out.Keeps z (execAutoConfirmExpiry s) := by
  unfold execAutoConfirmExpiry
  exact Out.keeps_next (Keeps.ite (State.confirm_keeps hs) hs)

theorem State.timerTick_keeps {z s : State} {c : CpId} {n : Fin 4} (hs : Keeps z s) : Keeps z (State.timerTick s c n) := by
  unfold State.timerTick
  extract_lets +onlyGivenNames x1
  clear_value x1
  exact Keeps.ite hs (Keeps.ite (State.timerHit_keeps hs) (State.modTimer_keeps hs))

theorem State.wdgTick_keeps {z s : State} {c : CpId} (hs : Keeps z s) : Keeps z (State.wdgTick s c) := by
  unfold State.wdgTick
  extract_lets +onlyGivenNames x1
  clear_value x1
  refine Keeps.ite hs ?_
  extract_lets +onlyGivenNames x2
  have h3 : Keeps z x2.2 := State.inject_keeps hs
  clear_value x2
  exact Keeps.ite (State.wdgExpire_keeps h3) (Keeps.ite (State.wdgWarn_keeps h3) (State.modWdg_keeps h3))

theorem State.cpTick_keeps {z s : State} {c : CpId} (hs : Keeps z s) : Keeps z (State.cpTick s c) := by
  unfold State.cpTick
  refine Keeps.ite hs ?_
  extract_lets +onlyGivenNames x1 x2
  have h3 : Keeps z x2 := Keeps.ite hs (Keeps.foldl (fun x4 => fun x5 => fun h6 => State.timerTick_keeps h6) (State.modCp_keeps hs))
  clear_value x1 x2
  exact Keeps.ite (State.wdgTick_keeps h3) h3

theorem State.settleDue_keeps {z s : State} (hs : Keeps z s) : Keeps z (State.settleDue s) := by
  unfold State.settleDue
  extract_lets +onlyGivenNames x1 x3 x5
  have h2 : Keeps z x1 := Keeps.ite (State.twinCompare_keeps (State.cut_keeps hs)) hs
  have h4 : Keeps z x3 := Keeps.ite (State.shedRise_keeps h2) h2
  have h6 : Keeps z x5 := Keeps.ite (State.wakeEvent_keeps h4) h4
  clear_value x1 x3 x5
  exact State.activateGo_keeps h6

theorem State.ptpTick_keeps {z s : State} (hs : Keeps z s) : Keeps z (State.ptpTick s) := by
  unfold State.ptpTick
  extract_lets +onlyGivenNames x1
  clear_value x1
  refine Keeps.ite hs ?_
  extract_lets +onlyGivenNames x2 x3
  clear_value x2 x3
  exact Keeps.ite (State.wr_keeps hs) (State.fire_keeps (State.wr_keeps (State.wr_keeps hs)))

/-- A tick is operations that keep the relation, and the time goes on by 1 ns. -/
theorem State.tick_keeps (s : State) : ∃ t, Keeps s t ∧ s.tick = { t with now := s.now + 1 } := by
  unfold State.tick
  split
  · exact ⟨s, Keeps.refl s, rfl⟩
  · extract_lets t u
    have h : Keeps s u := State.settleDue_keeps (State.ptpTick_keeps (Keeps.foldl (fun _ c h => State.cpTick_keeps (c := c) h) (Keeps.refl s)))
    exact ⟨u, h, by rw [h.now]⟩

end Sys2Proof.Machine
end

