-- ==== Sys2Proof/Laws/Run.lean ====
section
/-! SUPPORT. What running an instruction does, once: under `State.starts` an instruction is its body on the state after the
fetch, and a body that answers `.next` is followed by the advance of the program counter. -/

namespace Sys2Proof.Machine

@[simp] theorem cp_modCp (s : State) (c : CpId) (f : Cp → Cp) : (s.modCp c f).cp c = f (s.cp c) := by
  simp [State.cp, State.modCp, vecUpd]

theorem cp_modCp_ne (s : State) {c e : CpId} (f : Cp → Cp) (h : e ≠ c) : (s.modCp c f).cp e = s.cp e := by
  have : c.val ≠ e.val := fun hh => h (Fin.ext hh.symm)
  simp [State.cp, State.modCp, vecUpd, this]

@[simp] theorem cp_modA (s : State) (c : CpId) (f : CpArch → CpArch) :
    (s.modA c f).cp c = { (s.cp c) with a := f (s.cp c).a } := by simp [State.modA]

@[simp] theorem modCp_modCp (s : State) (c : CpId) (f g : Cp → Cp) :
    (s.modCp c f).modCp c g = s.modCp c (fun p => g (f p)) := by
  simp [State.modCp, vecUpd]

theorem modCp_congr (s : State) (c : CpId) (f g : Cp → Cp) (h : f (s.cp c) = g (s.cp c)) : s.modCp c f = s.modCp c g := by
  have h' : f s.cps[c.val] = g s.cps[c.val] := h
  simp [State.modCp, vecUpd, h']

@[simp] theorem cp_atInsn (s : State) (c : CpId) : (s.atInsn c).cp c = { (s.cp c) with entryWin := none } := by
  simp [State.atInsn]

/-- An instruction boundary with no debug event leaves the state as it is. -/
theorem boundary_calm (s : State) (c : CpId) (h : (s.cp c).calm) : s.boundary c = s := by
  obtain ⟨h1, h2, h3, h4⟩ := h
  simp only [State.boundary, h1, h2, h3, h4]
  split <;> rfl

/-- Where no breakpoint matches, none halts and none traces. -/
theorem breaks_none {s : State} {c : CpId} {i : Insn} (h : s.noBreak c i) : (s.atInsn c).breaks c i = (none, []) := by
  have e : ∀ n, (s.atInsn c).breaksAt c n = s.breaksAt c n := fun _ => rfl
  simp only [State.breaks, e, cp_atInsn]
  rcases h with h | ⟨h1, h2⟩
  · simp [h]
  · have h1' : s.breaksAt c (s.cp c).a.pc.toNat = [] := List.head?_eq_none_iff.mp h1
    cases hd : i.dly
    · simp [h1']
    · have h2' : s.breaksAt c ((s.cp c).a.pc.toNat + i.len) = [] := List.head?_eq_none_iff.mp (h2 hd)
      simp [h1', h2']

/-- A CP whose turn it is executes the body of its instruction on the state after the fetch. -/
theorem runInsn_starts {s f : State} {c0 c : CpId} {i : Insn} (h : s.starts c0 c i f) (body : State → CpId → Flow) :
    s.runInsn c0 i body = f.finish c i (body f c) := by
  obtain ⟨⟨hl, hg, hi, hc, hq⟩, hb, hf, -, ⟨hgs, hfs⟩, -⟩ := h
  have hgo : (s.cpsGo || s.lockGo c) = true := by simpa using hg
  have hany1 : i.gs.any (fun n => (s.cp c).vq.writesG n) = false := by
    simpa [List.any_eq_false] using hgs
  have hany2 : i.fs.any (fun n => (s.cp c).vq.writesF n) = false := by
    simpa [List.any_eq_false] using hfs
  have hb' : (s.modCp c (fun p => { p with entryWin := none })).breaks c i = (none, []) := breaks_none hb
  have hf' : (s.modCp c (fun p => { p with entryWin := none })).fetch c i = (none, f) := hf
  unfold State.runInsn
  simp [hl, hgo, hi, hc, hq, hb', hf', hany1, hany2]

/-- An instruction whose fetch or decoding raises a cause takes its exception in place of the instruction. -/
theorem runInsn_faults {s f : State} {c0 c : CpId} {i : Insn} {x : Nat × Word} (ht : s.turn c0 c) (hb : s.noBreak c i)
    (hf : (s.atInsn c).fetch c i = (some x, f)) (body : State → CpId → Flow) :
    s.runInsn c0 i body = (f.raise c x.1 x.2 (s.pc c)).boundary c := by
  obtain ⟨hl, hg, hi, hc, hq⟩ := ht
  have hgo : (s.cpsGo || s.lockGo c) = true := by simpa using hg
  have hb' : (s.modCp c (fun p => { p with entryWin := none })).breaks c i = (none, []) := breaks_none hb
  have hf' : (s.modCp c (fun p => { p with entryWin := none })).fetch c i = (some x, f) := hf
  unfold State.runInsn
  simp [hl, hgo, hi, hc, hq, hb', hf', State.pc]

/-- The retirement of an instruction with no debug event at its boundary. -/
theorem retire_calm (t : State) (c : CpId) (len : Nat) (target : Option Nat) (hc : (t.cp c).calm) :
    t.retire c len target = t.modCp c (fun p => { p with
      a := p.a.advance len target, pf := p.flow target, instret := p.instret + 1, lock := p.lock - 1, skipBp := false }) := by
  unfold State.retire
  rw [boundary_calm]
  · rfl
  · obtain ⟨h1, h2, h3, h4⟩ := hc
    simp only [cp_modCp]
    exact ⟨h1, h2, h3, h4⟩

/-- A body that goes on in sequence: the advance of the program counter. -/
theorem finish_next (f t : State) (c : CpId) (i : Insn) (hc : (t.cp c).calm) :
    f.finish c i (.next t) = t.ran c i.len (fun a => a) := retire_calm t c i.len none hc

/-- A taken branch: the program counter takes the target. -/
theorem finish_jump (f t : State) (c : CpId) (i : Insn) (n : Nat) (hc : (t.cp c).calm) :
    f.finish c i (.jump t n) = t.ranTo c i.len n (fun a => a) := retire_calm t c i.len (some n) hc

/-- An instruction that changes architectural registers alone. -/
theorem finish_modA (f : State) (c : CpId) (i : Insn) (u : CpArch → CpArch) (hc : (f.cp c).calm) :
    f.finish c i (.next (f.modA c u)) = f.ran c i.len u := by
  rw [finish_next]
  · simp only [State.modA, State.ran, modCp_modCp]
  · simpa [Cp.calm] using hc

/-- A branch that changes architectural registers alone. -/
theorem finish_jump_modA (f : State) (c : CpId) (i : Insn) (n : Nat) (u : CpArch → CpArch) (hc : (f.cp c).calm) :
    f.finish c i (.jump (f.modA c u) n) = f.ranTo c i.len n u := by
  rw [finish_jump]
  · simp only [State.modA, State.ranTo, modCp_modCp]
  · simpa [Cp.calm] using hc

end Sys2Proof.Machine
end

