-- ==== Sys2Proof/Laws/State.lean ====
section
/-! SUPPORT. What each update of the state leaves in each of its fields, and what registers and memory read after a write. -/

namespace Sys2Proof.Machine

section
variable (s : State)

@[simp] theorem State.setReg_csr (a : Nat) (v : Word) : (s.setReg a v).csr = mapPut regReset s.csr a v := rfl
@[simp] theorem State.setReg_mem (a : Nat) (v : Word) : (s.setReg a v).mem = s.mem := rfl
@[simp] theorem State.setReg_tags (a : Nat) (v : Word) : (s.setReg a v).tags = s.tags := rfl
@[simp] theorem State.setReg_errs (a : Nat) (v : Word) : (s.setReg a v).errs = s.errs := rfl
@[simp] theorem State.setReg_now (a : Nat) (v : Word) : (s.setReg a v).now = s.now := rfl
@[simp] theorem State.setReg_free (a : Nat) (v : Word) : (s.setReg a v).free = s.free := rfl
@[simp] theorem State.setReg_cps (a : Nat) (v : Word) : (s.setReg a v).cps = s.cps := rfl
@[simp] theorem State.setReg_parts (a : Nat) (v : Word) : (s.setReg a v).parts = s.parts := rfl
@[simp] theorem State.setReg_mst (a : Nat) (v : Word) : (s.setReg a v).mst = s.mst := rfl
@[simp] theorem State.setReg_evt (a : Nat) (v : Word) : (s.setReg a v).evt = s.evt := rfl
@[simp] theorem State.setReg_trc (a : Nat) (v : Word) : (s.setReg a v).trc = s.trc := rfl
@[simp] theorem State.setReg_dbgPol (a : Nat) (v : Word) : (s.setReg a v).dbgPol = s.dbgPol := rfl
@[simp] theorem State.setReg_pwr (a : Nat) (v : Word) : (s.setReg a v).pwr = s.pwr := rfl
@[simp] theorem State.setReg_net (a : Nat) (v : Word) : (s.setReg a v).net = s.net := rfl
@[simp] theorem State.setReg_pair (a : Nat) (v : Word) : (s.setReg a v).pair = s.pair := rfl
@[simp] theorem State.setReg_sec (a : Nat) (v : Word) : (s.setReg a v).sec = s.sec := rfl
@[simp] theorem State.setReg_twd (a : Nat) (v : Word) : (s.setReg a v).twd = s.twd := rfl
@[simp] theorem State.setReg_board (a : Nat) (v : Word) : (s.setReg a v).board = s.board := rfl
@[simp] theorem State.setReg_fab (a : Nat) (v : Word) : (s.setReg a v).fab = s.fab := rfl
@[simp] theorem State.setReg_mesh (a : Nat) (v : Word) : (s.setReg a v).mesh = s.mesh := rfl
@[simp] theorem State.setReg_uc (a : Nat) (v : Word) : (s.setReg a v).uc = s.uc := rfl
@[simp] theorem State.setReg_pending (a : Nat) (v : Word) : (s.setReg a v).pending = s.pending := rfl

@[simp] theorem State.wr_mem (f : Fld) (v : Nat) : (s.wr f v).mem = s.mem := rfl
@[simp] theorem State.wr_tags (f : Fld) (v : Nat) : (s.wr f v).tags = s.tags := rfl
@[simp] theorem State.wr_errs (f : Fld) (v : Nat) : (s.wr f v).errs = s.errs := rfl
@[simp] theorem State.wr_now (f : Fld) (v : Nat) : (s.wr f v).now = s.now := rfl
@[simp] theorem State.wr_free (f : Fld) (v : Nat) : (s.wr f v).free = s.free := rfl
@[simp] theorem State.wr_cps (f : Fld) (v : Nat) : (s.wr f v).cps = s.cps := rfl
@[simp] theorem State.wr_parts (f : Fld) (v : Nat) : (s.wr f v).parts = s.parts := rfl
@[simp] theorem State.wr_mst (f : Fld) (v : Nat) : (s.wr f v).mst = s.mst := rfl
@[simp] theorem State.wr_evt (f : Fld) (v : Nat) : (s.wr f v).evt = s.evt := rfl
@[simp] theorem State.wr_trc (f : Fld) (v : Nat) : (s.wr f v).trc = s.trc := rfl
@[simp] theorem State.wr_dbgPol (f : Fld) (v : Nat) : (s.wr f v).dbgPol = s.dbgPol := rfl
@[simp] theorem State.wr_pwr (f : Fld) (v : Nat) : (s.wr f v).pwr = s.pwr := rfl
@[simp] theorem State.wr_net (f : Fld) (v : Nat) : (s.wr f v).net = s.net := rfl
@[simp] theorem State.wr_pair (f : Fld) (v : Nat) : (s.wr f v).pair = s.pair := rfl
@[simp] theorem State.wr_sec (f : Fld) (v : Nat) : (s.wr f v).sec = s.sec := rfl
@[simp] theorem State.wr_twd (f : Fld) (v : Nat) : (s.wr f v).twd = s.twd := rfl
@[simp] theorem State.wr_board (f : Fld) (v : Nat) : (s.wr f v).board = s.board := rfl
@[simp] theorem State.wr_fab (f : Fld) (v : Nat) : (s.wr f v).fab = s.fab := rfl
@[simp] theorem State.wr_mesh (f : Fld) (v : Nat) : (s.wr f v).mesh = s.mesh := rfl
@[simp] theorem State.wr_uc (f : Fld) (v : Nat) : (s.wr f v).uc = s.uc := rfl
@[simp] theorem State.wr_pending (f : Fld) (v : Nat) : (s.wr f v).pending = s.pending := rfl

@[simp] theorem State.wrB_mem (f : Fld) (b : Bool) : (s.wrB f b).mem = s.mem := rfl
@[simp] theorem State.wrB_tags (f : Fld) (b : Bool) : (s.wrB f b).tags = s.tags := rfl
@[simp] theorem State.wrB_errs (f : Fld) (b : Bool) : (s.wrB f b).errs = s.errs := rfl
@[simp] theorem State.wrB_now (f : Fld) (b : Bool) : (s.wrB f b).now = s.now := rfl
@[simp] theorem State.wrB_free (f : Fld) (b : Bool) : (s.wrB f b).free = s.free := rfl
@[simp] theorem State.wrB_cps (f : Fld) (b : Bool) : (s.wrB f b).cps = s.cps := rfl
@[simp] theorem State.wrB_parts (f : Fld) (b : Bool) : (s.wrB f b).parts = s.parts := rfl
@[simp] theorem State.wrB_mst (f : Fld) (b : Bool) : (s.wrB f b).mst = s.mst := rfl
@[simp] theorem State.wrB_evt (f : Fld) (b : Bool) : (s.wrB f b).evt = s.evt := rfl
@[simp] theorem State.wrB_trc (f : Fld) (b : Bool) : (s.wrB f b).trc = s.trc := rfl
@[simp] theorem State.wrB_dbgPol (f : Fld) (b : Bool) : (s.wrB f b).dbgPol = s.dbgPol := rfl
@[simp] theorem State.wrB_pwr (f : Fld) (b : Bool) : (s.wrB f b).pwr = s.pwr := rfl
@[simp] theorem State.wrB_net (f : Fld) (b : Bool) : (s.wrB f b).net = s.net := rfl
@[simp] theorem State.wrB_pair (f : Fld) (b : Bool) : (s.wrB f b).pair = s.pair := rfl
@[simp] theorem State.wrB_sec (f : Fld) (b : Bool) : (s.wrB f b).sec = s.sec := rfl
@[simp] theorem State.wrB_twd (f : Fld) (b : Bool) : (s.wrB f b).twd = s.twd := rfl
@[simp] theorem State.wrB_board (f : Fld) (b : Bool) : (s.wrB f b).board = s.board := rfl
@[simp] theorem State.wrB_fab (f : Fld) (b : Bool) : (s.wrB f b).fab = s.fab := rfl
@[simp] theorem State.wrB_mesh (f : Fld) (b : Bool) : (s.wrB f b).mesh = s.mesh := rfl
@[simp] theorem State.wrB_uc (f : Fld) (b : Bool) : (s.wrB f b).uc = s.uc := rfl
@[simp] theorem State.wrB_pending (f : Fld) (b : Bool) : (s.wrB f b).pending = s.pending := rfl

@[simp] theorem State.putByte_csr (k : Nat) (b : Byte) : (s.putByte k b).csr = s.csr := rfl
@[simp] theorem State.putByte_mem (k : Nat) (b : Byte) : (s.putByte k b).mem = mapPut memDefault s.mem k b := rfl
@[simp] theorem State.putByte_tags (k : Nat) (b : Byte) : (s.putByte k b).tags = s.tags := rfl
@[simp] theorem State.putByte_errs (k : Nat) (b : Byte) : (s.putByte k b).errs = s.errs := rfl
@[simp] theorem State.putByte_now (k : Nat) (b : Byte) : (s.putByte k b).now = s.now := rfl
@[simp] theorem State.putByte_free (k : Nat) (b : Byte) : (s.putByte k b).free = s.free := rfl
@[simp] theorem State.putByte_cps (k : Nat) (b : Byte) : (s.putByte k b).cps = s.cps := rfl
@[simp] theorem State.putByte_parts (k : Nat) (b : Byte) : (s.putByte k b).parts = s.parts := rfl
@[simp] theorem State.putByte_mst (k : Nat) (b : Byte) : (s.putByte k b).mst = s.mst := rfl
@[simp] theorem State.putByte_evt (k : Nat) (b : Byte) : (s.putByte k b).evt = s.evt := rfl
@[simp] theorem State.putByte_trc (k : Nat) (b : Byte) : (s.putByte k b).trc = s.trc := rfl
@[simp] theorem State.putByte_dbgPol (k : Nat) (b : Byte) : (s.putByte k b).dbgPol = s.dbgPol := rfl
@[simp] theorem State.putByte_pwr (k : Nat) (b : Byte) : (s.putByte k b).pwr = s.pwr := rfl
@[simp] theorem State.putByte_net (k : Nat) (b : Byte) : (s.putByte k b).net = s.net := rfl
@[simp] theorem State.putByte_pair (k : Nat) (b : Byte) : (s.putByte k b).pair = s.pair := rfl
@[simp] theorem State.putByte_sec (k : Nat) (b : Byte) : (s.putByte k b).sec = s.sec := rfl
@[simp] theorem State.putByte_twd (k : Nat) (b : Byte) : (s.putByte k b).twd = s.twd := rfl
@[simp] theorem State.putByte_board (k : Nat) (b : Byte) : (s.putByte k b).board = s.board := rfl
@[simp] theorem State.putByte_fab (k : Nat) (b : Byte) : (s.putByte k b).fab = s.fab := rfl
@[simp] theorem State.putByte_mesh (k : Nat) (b : Byte) : (s.putByte k b).mesh = s.mesh := rfl
@[simp] theorem State.putByte_uc (k : Nat) (b : Byte) : (s.putByte k b).uc = s.uc := rfl
@[simp] theorem State.putByte_pending (k : Nat) (b : Byte) : (s.putByte k b).pending = s.pending := rfl

@[simp] theorem State.setTag_csr (g : Nat) (b : Bool) : (s.setTag g b).csr = s.csr := rfl
@[simp] theorem State.setTag_mem (g : Nat) (b : Bool) : (s.setTag g b).mem = s.mem := rfl
@[simp] theorem State.setTag_tags (g : Nat) (b : Bool) : (s.setTag g b).tags = mapPut tagDefault s.tags g b := rfl
@[simp] theorem State.setTag_errs (g : Nat) (b : Bool) : (s.setTag g b).errs = s.errs := rfl
@[simp] theorem State.setTag_now (g : Nat) (b : Bool) : (s.setTag g b).now = s.now := rfl
@[simp] theorem State.setTag_free (g : Nat) (b : Bool) : (s.setTag g b).free = s.free := rfl
@[simp] theorem State.setTag_cps (g : Nat) (b : Bool) : (s.setTag g b).cps = s.cps := rfl
@[simp] theorem State.setTag_parts (g : Nat) (b : Bool) : (s.setTag g b).parts = s.parts := rfl
@[simp] theorem State.setTag_mst (g : Nat) (b : Bool) : (s.setTag g b).mst = s.mst := rfl
@[simp] theorem State.setTag_evt (g : Nat) (b : Bool) : (s.setTag g b).evt = s.evt := rfl
@[simp] theorem State.setTag_trc (g : Nat) (b : Bool) : (s.setTag g b).trc = s.trc := rfl
@[simp] theorem State.setTag_dbgPol (g : Nat) (b : Bool) : (s.setTag g b).dbgPol = s.dbgPol := rfl
@[simp] theorem State.setTag_pwr (g : Nat) (b : Bool) : (s.setTag g b).pwr = s.pwr := rfl
@[simp] theorem State.setTag_net (g : Nat) (b : Bool) : (s.setTag g b).net = s.net := rfl
@[simp] theorem State.setTag_pair (g : Nat) (b : Bool) : (s.setTag g b).pair = s.pair := rfl
@[simp] theorem State.setTag_sec (g : Nat) (b : Bool) : (s.setTag g b).sec = s.sec := rfl
@[simp] theorem State.setTag_twd (g : Nat) (b : Bool) : (s.setTag g b).twd = s.twd := rfl
@[simp] theorem State.setTag_board (g : Nat) (b : Bool) : (s.setTag g b).board = s.board := rfl
@[simp] theorem State.setTag_fab (g : Nat) (b : Bool) : (s.setTag g b).fab = s.fab := rfl
@[simp] theorem State.setTag_mesh (g : Nat) (b : Bool) : (s.setTag g b).mesh = s.mesh := rfl
@[simp] theorem State.setTag_uc (g : Nat) (b : Bool) : (s.setTag g b).uc = s.uc := rfl
@[simp] theorem State.setTag_pending (g : Nat) (b : Bool) : (s.setTag g b).pending = s.pending := rfl

@[simp] theorem State.setErr_csr (w : Nat) (e : Err) : (s.setErr w e).csr = s.csr := rfl
@[simp] theorem State.setErr_mem (w : Nat) (e : Err) : (s.setErr w e).mem = s.mem := rfl
@[simp] theorem State.setErr_tags (w : Nat) (e : Err) : (s.setErr w e).tags = s.tags := rfl
@[simp] theorem State.setErr_errs (w : Nat) (e : Err) : (s.setErr w e).errs = mapPut errDefault s.errs w e := rfl
@[simp] theorem State.setErr_now (w : Nat) (e : Err) : (s.setErr w e).now = s.now := rfl
@[simp] theorem State.setErr_free (w : Nat) (e : Err) : (s.setErr w e).free = s.free := rfl
@[simp] theorem State.setErr_cps (w : Nat) (e : Err) : (s.setErr w e).cps = s.cps := rfl
@[simp] theorem State.setErr_parts (w : Nat) (e : Err) : (s.setErr w e).parts = s.parts := rfl
@[simp] theorem State.setErr_mst (w : Nat) (e : Err) : (s.setErr w e).mst = s.mst := rfl
@[simp] theorem State.setErr_evt (w : Nat) (e : Err) : (s.setErr w e).evt = s.evt := rfl
@[simp] theorem State.setErr_trc (w : Nat) (e : Err) : (s.setErr w e).trc = s.trc := rfl
@[simp] theorem State.setErr_dbgPol (w : Nat) (e : Err) : (s.setErr w e).dbgPol = s.dbgPol := rfl
@[simp] theorem State.setErr_pwr (w : Nat) (e : Err) : (s.setErr w e).pwr = s.pwr := rfl
@[simp] theorem State.setErr_net (w : Nat) (e : Err) : (s.setErr w e).net = s.net := rfl
@[simp] theorem State.setErr_pair (w : Nat) (e : Err) : (s.setErr w e).pair = s.pair := rfl
@[simp] theorem State.setErr_sec (w : Nat) (e : Err) : (s.setErr w e).sec = s.sec := rfl
@[simp] theorem State.setErr_twd (w : Nat) (e : Err) : (s.setErr w e).twd = s.twd := rfl
@[simp] theorem State.setErr_board (w : Nat) (e : Err) : (s.setErr w e).board = s.board := rfl
@[simp] theorem State.setErr_fab (w : Nat) (e : Err) : (s.setErr w e).fab = s.fab := rfl
@[simp] theorem State.setErr_mesh (w : Nat) (e : Err) : (s.setErr w e).mesh = s.mesh := rfl
@[simp] theorem State.setErr_uc (w : Nat) (e : Err) : (s.setErr w e).uc = s.uc := rfl
@[simp] theorem State.setErr_pending (w : Nat) (e : Err) : (s.setErr w e).pending = s.pending := rfl

@[simp] theorem State.modCp_csr (c : CpId) (f : Cp → Cp) : (s.modCp c f).csr = s.csr := rfl
@[simp] theorem State.modCp_mem (c : CpId) (f : Cp → Cp) : (s.modCp c f).mem = s.mem := rfl
@[simp] theorem State.modCp_tags (c : CpId) (f : Cp → Cp) : (s.modCp c f).tags = s.tags := rfl
@[simp] theorem State.modCp_errs (c : CpId) (f : Cp → Cp) : (s.modCp c f).errs = s.errs := rfl
@[simp] theorem State.modCp_now (c : CpId) (f : Cp → Cp) : (s.modCp c f).now = s.now := rfl
@[simp] theorem State.modCp_free (c : CpId) (f : Cp → Cp) : (s.modCp c f).free = s.free := rfl
@[simp] theorem State.modCp_cps (c : CpId) (f : Cp → Cp) : (s.modCp c f).cps = vecUpd s.cps c f := rfl
@[simp] theorem State.modCp_parts (c : CpId) (f : Cp → Cp) : (s.modCp c f).parts = s.parts := rfl
@[simp] theorem State.modCp_mst (c : CpId) (f : Cp → Cp) : (s.modCp c f).mst = s.mst := rfl
@[simp] theorem State.modCp_evt (c : CpId) (f : Cp → Cp) : (s.modCp c f).evt = s.evt := rfl
@[simp] theorem State.modCp_trc (c : CpId) (f : Cp → Cp) : (s.modCp c f).trc = s.trc := rfl
@[simp] theorem State.modCp_dbgPol (c : CpId) (f : Cp → Cp) : (s.modCp c f).dbgPol = s.dbgPol := rfl
@[simp] theorem State.modCp_pwr (c : CpId) (f : Cp → Cp) : (s.modCp c f).pwr = s.pwr := rfl
@[simp] theorem State.modCp_net (c : CpId) (f : Cp → Cp) : (s.modCp c f).net = s.net := rfl
@[simp] theorem State.modCp_pair (c : CpId) (f : Cp → Cp) : (s.modCp c f).pair = s.pair := rfl
@[simp] theorem State.modCp_sec (c : CpId) (f : Cp → Cp) : (s.modCp c f).sec = s.sec := rfl
@[simp] theorem State.modCp_twd (c : CpId) (f : Cp → Cp) : (s.modCp c f).twd = s.twd := rfl
@[simp] theorem State.modCp_board (c : CpId) (f : Cp → Cp) : (s.modCp c f).board = s.board := rfl
@[simp] theorem State.modCp_fab (c : CpId) (f : Cp → Cp) : (s.modCp c f).fab = s.fab := rfl
@[simp] theorem State.modCp_mesh (c : CpId) (f : Cp → Cp) : (s.modCp c f).mesh = s.mesh := rfl
@[simp] theorem State.modCp_uc (c : CpId) (f : Cp → Cp) : (s.modCp c f).uc = s.uc := rfl
@[simp] theorem State.modCp_pending (c : CpId) (f : Cp → Cp) : (s.modCp c f).pending = s.pending := rfl

@[simp] theorem State.modA_csr (c : CpId) (f : CpArch → CpArch) : (s.modA c f).csr = s.csr := rfl
@[simp] theorem State.modA_mem (c : CpId) (f : CpArch → CpArch) : (s.modA c f).mem = s.mem := rfl
@[simp] theorem State.modA_tags (c : CpId) (f : CpArch → CpArch) : (s.modA c f).tags = s.tags := rfl
@[simp] theorem State.modA_errs (c : CpId) (f : CpArch → CpArch) : (s.modA c f).errs = s.errs := rfl
@[simp] theorem State.modA_now (c : CpId) (f : CpArch → CpArch) : (s.modA c f).now = s.now := rfl
@[simp] theorem State.modA_free (c : CpId) (f : CpArch → CpArch) : (s.modA c f).free = s.free := rfl
@[simp] theorem State.modA_parts (c : CpId) (f : CpArch → CpArch) : (s.modA c f).parts = s.parts := rfl
@[simp] theorem State.modA_mst (c : CpId) (f : CpArch → CpArch) : (s.modA c f).mst = s.mst := rfl
@[simp] theorem State.modA_evt (c : CpId) (f : CpArch → CpArch) : (s.modA c f).evt = s.evt := rfl
@[simp] theorem State.modA_trc (c : CpId) (f : CpArch → CpArch) : (s.modA c f).trc = s.trc := rfl
@[simp] theorem State.modA_dbgPol (c : CpId) (f : CpArch → CpArch) : (s.modA c f).dbgPol = s.dbgPol := rfl
@[simp] theorem State.modA_pwr (c : CpId) (f : CpArch → CpArch) : (s.modA c f).pwr = s.pwr := rfl
@[simp] theorem State.modA_net (c : CpId) (f : CpArch → CpArch) : (s.modA c f).net = s.net := rfl
@[simp] theorem State.modA_pair (c : CpId) (f : CpArch → CpArch) : (s.modA c f).pair = s.pair := rfl
@[simp] theorem State.modA_sec (c : CpId) (f : CpArch → CpArch) : (s.modA c f).sec = s.sec := rfl
@[simp] theorem State.modA_twd (c : CpId) (f : CpArch → CpArch) : (s.modA c f).twd = s.twd := rfl
@[simp] theorem State.modA_board (c : CpId) (f : CpArch → CpArch) : (s.modA c f).board = s.board := rfl
@[simp] theorem State.modA_fab (c : CpId) (f : CpArch → CpArch) : (s.modA c f).fab = s.fab := rfl
@[simp] theorem State.modA_mesh (c : CpId) (f : CpArch → CpArch) : (s.modA c f).mesh = s.mesh := rfl
@[simp] theorem State.modA_uc (c : CpId) (f : CpArch → CpArch) : (s.modA c f).uc = s.uc := rfl
@[simp] theorem State.modA_pending (c : CpId) (f : CpArch → CpArch) : (s.modA c f).pending = s.pending := rfl

@[simp] theorem State.modVq_csr (c : CpId) (f : VQueue → VQueue) : (s.modVq c f).csr = s.csr := rfl
@[simp] theorem State.modVq_mem (c : CpId) (f : VQueue → VQueue) : (s.modVq c f).mem = s.mem := rfl
@[simp] theorem State.modVq_tags (c : CpId) (f : VQueue → VQueue) : (s.modVq c f).tags = s.tags := rfl
@[simp] theorem State.modVq_errs (c : CpId) (f : VQueue → VQueue) : (s.modVq c f).errs = s.errs := rfl
@[simp] theorem State.modVq_now (c : CpId) (f : VQueue → VQueue) : (s.modVq c f).now = s.now := rfl
@[simp] theorem State.modVq_free (c : CpId) (f : VQueue → VQueue) : (s.modVq c f).free = s.free := rfl
@[simp] theorem State.modVq_parts (c : CpId) (f : VQueue → VQueue) : (s.modVq c f).parts = s.parts := rfl
@[simp] theorem State.modVq_mst (c : CpId) (f : VQueue → VQueue) : (s.modVq c f).mst = s.mst := rfl
@[simp] theorem State.modVq_evt (c : CpId) (f : VQueue → VQueue) : (s.modVq c f).evt = s.evt := rfl
@[simp] theorem State.modVq_trc (c : CpId) (f : VQueue → VQueue) : (s.modVq c f).trc = s.trc := rfl
@[simp] theorem State.modVq_dbgPol (c : CpId) (f : VQueue → VQueue) : (s.modVq c f).dbgPol = s.dbgPol := rfl
@[simp] theorem State.modVq_pwr (c : CpId) (f : VQueue → VQueue) : (s.modVq c f).pwr = s.pwr := rfl
@[simp] theorem State.modVq_net (c : CpId) (f : VQueue → VQueue) : (s.modVq c f).net = s.net := rfl
@[simp] theorem State.modVq_pair (c : CpId) (f : VQueue → VQueue) : (s.modVq c f).pair = s.pair := rfl
@[simp] theorem State.modVq_sec (c : CpId) (f : VQueue → VQueue) : (s.modVq c f).sec = s.sec := rfl
@[simp] theorem State.modVq_twd (c : CpId) (f : VQueue → VQueue) : (s.modVq c f).twd = s.twd := rfl
@[simp] theorem State.modVq_board (c : CpId) (f : VQueue → VQueue) : (s.modVq c f).board = s.board := rfl
@[simp] theorem State.modVq_fab (c : CpId) (f : VQueue → VQueue) : (s.modVq c f).fab = s.fab := rfl
@[simp] theorem State.modVq_mesh (c : CpId) (f : VQueue → VQueue) : (s.modVq c f).mesh = s.mesh := rfl
@[simp] theorem State.modVq_uc (c : CpId) (f : VQueue → VQueue) : (s.modVq c f).uc = s.uc := rfl
@[simp] theorem State.modVq_pending (c : CpId) (f : VQueue → VQueue) : (s.modVq c f).pending = s.pending := rfl

@[simp] theorem State.modPart_csr (p : PartId) (f : Part → Part) : (s.modPart p f).csr = s.csr := rfl
@[simp] theorem State.modPart_mem (p : PartId) (f : Part → Part) : (s.modPart p f).mem = s.mem := rfl
@[simp] theorem State.modPart_tags (p : PartId) (f : Part → Part) : (s.modPart p f).tags = s.tags := rfl
@[simp] theorem State.modPart_errs (p : PartId) (f : Part → Part) : (s.modPart p f).errs = s.errs := rfl
@[simp] theorem State.modPart_now (p : PartId) (f : Part → Part) : (s.modPart p f).now = s.now := rfl
@[simp] theorem State.modPart_free (p : PartId) (f : Part → Part) : (s.modPart p f).free = s.free := rfl
@[simp] theorem State.modPart_cps (p : PartId) (f : Part → Part) : (s.modPart p f).cps = s.cps := rfl
@[simp] theorem State.modPart_parts (p : PartId) (f : Part → Part) : (s.modPart p f).parts = vecUpd s.parts p f := rfl
@[simp] theorem State.modPart_mst (p : PartId) (f : Part → Part) : (s.modPart p f).mst = s.mst := rfl
@[simp] theorem State.modPart_evt (p : PartId) (f : Part → Part) : (s.modPart p f).evt = s.evt := rfl
@[simp] theorem State.modPart_trc (p : PartId) (f : Part → Part) : (s.modPart p f).trc = s.trc := rfl
@[simp] theorem State.modPart_dbgPol (p : PartId) (f : Part → Part) : (s.modPart p f).dbgPol = s.dbgPol := rfl
@[simp] theorem State.modPart_pwr (p : PartId) (f : Part → Part) : (s.modPart p f).pwr = s.pwr := rfl
@[simp] theorem State.modPart_net (p : PartId) (f : Part → Part) : (s.modPart p f).net = s.net := rfl
@[simp] theorem State.modPart_pair (p : PartId) (f : Part → Part) : (s.modPart p f).pair = s.pair := rfl
@[simp] theorem State.modPart_sec (p : PartId) (f : Part → Part) : (s.modPart p f).sec = s.sec := rfl
@[simp] theorem State.modPart_twd (p : PartId) (f : Part → Part) : (s.modPart p f).twd = s.twd := rfl
@[simp] theorem State.modPart_board (p : PartId) (f : Part → Part) : (s.modPart p f).board = s.board := rfl
@[simp] theorem State.modPart_fab (p : PartId) (f : Part → Part) : (s.modPart p f).fab = s.fab := rfl
@[simp] theorem State.modPart_mesh (p : PartId) (f : Part → Part) : (s.modPart p f).mesh = s.mesh := rfl
@[simp] theorem State.modPart_uc (p : PartId) (f : Part → Part) : (s.modPart p f).uc = s.uc := rfl
@[simp] theorem State.modPart_pending (p : PartId) (f : Part → Part) : (s.modPart p f).pending = s.pending := rfl

@[simp] theorem State.modM_csr (f : MemSt → MemSt) : (s.modM f).csr = s.csr := rfl
@[simp] theorem State.modM_mem (f : MemSt → MemSt) : (s.modM f).mem = s.mem := rfl
@[simp] theorem State.modM_tags (f : MemSt → MemSt) : (s.modM f).tags = s.tags := rfl
@[simp] theorem State.modM_errs (f : MemSt → MemSt) : (s.modM f).errs = s.errs := rfl
@[simp] theorem State.modM_now (f : MemSt → MemSt) : (s.modM f).now = s.now := rfl
@[simp] theorem State.modM_free (f : MemSt → MemSt) : (s.modM f).free = s.free := rfl
@[simp] theorem State.modM_cps (f : MemSt → MemSt) : (s.modM f).cps = s.cps := rfl
@[simp] theorem State.modM_parts (f : MemSt → MemSt) : (s.modM f).parts = s.parts := rfl
@[simp] theorem State.modM_mst (f : MemSt → MemSt) : (s.modM f).mst = f s.mst := rfl
@[simp] theorem State.modM_evt (f : MemSt → MemSt) : (s.modM f).evt = s.evt := rfl
@[simp] theorem State.modM_trc (f : MemSt → MemSt) : (s.modM f).trc = s.trc := rfl
@[simp] theorem State.modM_dbgPol (f : MemSt → MemSt) : (s.modM f).dbgPol = s.dbgPol := rfl
@[simp] theorem State.modM_pwr (f : MemSt → MemSt) : (s.modM f).pwr = s.pwr := rfl
@[simp] theorem State.modM_net (f : MemSt → MemSt) : (s.modM f).net = s.net := rfl
@[simp] theorem State.modM_pair (f : MemSt → MemSt) : (s.modM f).pair = s.pair := rfl
@[simp] theorem State.modM_sec (f : MemSt → MemSt) : (s.modM f).sec = s.sec := rfl
@[simp] theorem State.modM_twd (f : MemSt → MemSt) : (s.modM f).twd = s.twd := rfl
@[simp] theorem State.modM_board (f : MemSt → MemSt) : (s.modM f).board = s.board := rfl
@[simp] theorem State.modM_fab (f : MemSt → MemSt) : (s.modM f).fab = s.fab := rfl
@[simp] theorem State.modM_mesh (f : MemSt → MemSt) : (s.modM f).mesh = s.mesh := rfl
@[simp] theorem State.modM_uc (f : MemSt → MemSt) : (s.modM f).uc = s.uc := rfl
@[simp] theorem State.modM_pending (f : MemSt → MemSt) : (s.modM f).pending = s.pending := rfl

@[simp] theorem State.modE_csr (f : EvtSt → EvtSt) : (s.modE f).csr = s.csr := rfl
@[simp] theorem State.modE_mem (f : EvtSt → EvtSt) : (s.modE f).mem = s.mem := rfl
@[simp] theorem State.modE_tags (f : EvtSt → EvtSt) : (s.modE f).tags = s.tags := rfl
@[simp] theorem State.modE_errs (f : EvtSt → EvtSt) : (s.modE f).errs = s.errs := rfl
@[simp] theorem State.modE_now (f : EvtSt → EvtSt) : (s.modE f).now = s.now := rfl
@[simp] theorem State.modE_free (f : EvtSt → EvtSt) : (s.modE f).free = s.free := rfl
@[simp] theorem State.modE_cps (f : EvtSt → EvtSt) : (s.modE f).cps = s.cps := rfl
@[simp] theorem State.modE_parts (f : EvtSt → EvtSt) : (s.modE f).parts = s.parts := rfl
@[simp] theorem State.modE_mst (f : EvtSt → EvtSt) : (s.modE f).mst = s.mst := rfl
@[simp] theorem State.modE_evt (f : EvtSt → EvtSt) : (s.modE f).evt = f s.evt := rfl
@[simp] theorem State.modE_trc (f : EvtSt → EvtSt) : (s.modE f).trc = s.trc := rfl
@[simp] theorem State.modE_dbgPol (f : EvtSt → EvtSt) : (s.modE f).dbgPol = s.dbgPol := rfl
@[simp] theorem State.modE_pwr (f : EvtSt → EvtSt) : (s.modE f).pwr = s.pwr := rfl
@[simp] theorem State.modE_net (f : EvtSt → EvtSt) : (s.modE f).net = s.net := rfl
@[simp] theorem State.modE_pair (f : EvtSt → EvtSt) : (s.modE f).pair = s.pair := rfl
@[simp] theorem State.modE_sec (f : EvtSt → EvtSt) : (s.modE f).sec = s.sec := rfl
@[simp] theorem State.modE_twd (f : EvtSt → EvtSt) : (s.modE f).twd = s.twd := rfl
@[simp] theorem State.modE_board (f : EvtSt → EvtSt) : (s.modE f).board = s.board := rfl
@[simp] theorem State.modE_fab (f : EvtSt → EvtSt) : (s.modE f).fab = s.fab := rfl
@[simp] theorem State.modE_mesh (f : EvtSt → EvtSt) : (s.modE f).mesh = s.mesh := rfl
@[simp] theorem State.modE_uc (f : EvtSt → EvtSt) : (s.modE f).uc = s.uc := rfl
@[simp] theorem State.modE_pending (f : EvtSt → EvtSt) : (s.modE f).pending = s.pending := rfl

@[simp] theorem State.modTrc_csr (c : ClusterId) (f : Trc → Trc) : (s.modTrc c f).csr = s.csr := rfl
@[simp] theorem State.modTrc_mem (c : ClusterId) (f : Trc → Trc) : (s.modTrc c f).mem = s.mem := rfl
@[simp] theorem State.modTrc_tags (c : ClusterId) (f : Trc → Trc) : (s.modTrc c f).tags = s.tags := rfl
@[simp] theorem State.modTrc_errs (c : ClusterId) (f : Trc → Trc) : (s.modTrc c f).errs = s.errs := rfl
@[simp] theorem State.modTrc_now (c : ClusterId) (f : Trc → Trc) : (s.modTrc c f).now = s.now := rfl
@[simp] theorem State.modTrc_free (c : ClusterId) (f : Trc → Trc) : (s.modTrc c f).free = s.free := rfl
@[simp] theorem State.modTrc_cps (c : ClusterId) (f : Trc → Trc) : (s.modTrc c f).cps = s.cps := rfl
@[simp] theorem State.modTrc_parts (c : ClusterId) (f : Trc → Trc) : (s.modTrc c f).parts = s.parts := rfl
@[simp] theorem State.modTrc_mst (c : ClusterId) (f : Trc → Trc) : (s.modTrc c f).mst = s.mst := rfl
@[simp] theorem State.modTrc_evt (c : ClusterId) (f : Trc → Trc) : (s.modTrc c f).evt = s.evt := rfl
@[simp] theorem State.modTrc_trc (c : ClusterId) (f : Trc → Trc) : (s.modTrc c f).trc = vecUpd s.trc c f := rfl
@[simp] theorem State.modTrc_dbgPol (c : ClusterId) (f : Trc → Trc) : (s.modTrc c f).dbgPol = s.dbgPol := rfl
@[simp] theorem State.modTrc_pwr (c : ClusterId) (f : Trc → Trc) : (s.modTrc c f).pwr = s.pwr := rfl
@[simp] theorem State.modTrc_net (c : ClusterId) (f : Trc → Trc) : (s.modTrc c f).net = s.net := rfl
@[simp] theorem State.modTrc_pair (c : ClusterId) (f : Trc → Trc) : (s.modTrc c f).pair = s.pair := rfl
@[simp] theorem State.modTrc_sec (c : ClusterId) (f : Trc → Trc) : (s.modTrc c f).sec = s.sec := rfl
@[simp] theorem State.modTrc_twd (c : ClusterId) (f : Trc → Trc) : (s.modTrc c f).twd = s.twd := rfl
@[simp] theorem State.modTrc_board (c : ClusterId) (f : Trc → Trc) : (s.modTrc c f).board = s.board := rfl
@[simp] theorem State.modTrc_fab (c : ClusterId) (f : Trc → Trc) : (s.modTrc c f).fab = s.fab := rfl
@[simp] theorem State.modTrc_mesh (c : ClusterId) (f : Trc → Trc) : (s.modTrc c f).mesh = s.mesh := rfl
@[simp] theorem State.modTrc_uc (c : ClusterId) (f : Trc → Trc) : (s.modTrc c f).uc = s.uc := rfl
@[simp] theorem State.modTrc_pending (c : ClusterId) (f : Trc → Trc) : (s.modTrc c f).pending = s.pending := rfl

@[simp] theorem State.modPwr_csr (f : PwrSt → PwrSt) : (s.modPwr f).csr = s.csr := rfl
@[simp] theorem State.modPwr_mem (f : PwrSt → PwrSt) : (s.modPwr f).mem = s.mem := rfl
@[simp] theorem State.modPwr_tags (f : PwrSt → PwrSt) : (s.modPwr f).tags = s.tags := rfl
@[simp] theorem State.modPwr_errs (f : PwrSt → PwrSt) : (s.modPwr f).errs = s.errs := rfl
@[simp] theorem State.modPwr_now (f : PwrSt → PwrSt) : (s.modPwr f).now = s.now := rfl
@[simp] theorem State.modPwr_free (f : PwrSt → PwrSt) : (s.modPwr f).free = s.free := rfl
@[simp] theorem State.modPwr_cps (f : PwrSt → PwrSt) : (s.modPwr f).cps = s.cps := rfl
@[simp] theorem State.modPwr_parts (f : PwrSt → PwrSt) : (s.modPwr f).parts = s.parts := rfl
@[simp] theorem State.modPwr_mst (f : PwrSt → PwrSt) : (s.modPwr f).mst = s.mst := rfl
@[simp] theorem State.modPwr_evt (f : PwrSt → PwrSt) : (s.modPwr f).evt = s.evt := rfl
@[simp] theorem State.modPwr_trc (f : PwrSt → PwrSt) : (s.modPwr f).trc = s.trc := rfl
@[simp] theorem State.modPwr_dbgPol (f : PwrSt → PwrSt) : (s.modPwr f).dbgPol = s.dbgPol := rfl
@[simp] theorem State.modPwr_pwr (f : PwrSt → PwrSt) : (s.modPwr f).pwr = f s.pwr := rfl
@[simp] theorem State.modPwr_net (f : PwrSt → PwrSt) : (s.modPwr f).net = s.net := rfl
@[simp] theorem State.modPwr_pair (f : PwrSt → PwrSt) : (s.modPwr f).pair = s.pair := rfl
@[simp] theorem State.modPwr_sec (f : PwrSt → PwrSt) : (s.modPwr f).sec = s.sec := rfl
@[simp] theorem State.modPwr_twd (f : PwrSt → PwrSt) : (s.modPwr f).twd = s.twd := rfl
@[simp] theorem State.modPwr_board (f : PwrSt → PwrSt) : (s.modPwr f).board = s.board := rfl
@[simp] theorem State.modPwr_fab (f : PwrSt → PwrSt) : (s.modPwr f).fab = s.fab := rfl
@[simp] theorem State.modPwr_mesh (f : PwrSt → PwrSt) : (s.modPwr f).mesh = s.mesh := rfl
@[simp] theorem State.modPwr_uc (f : PwrSt → PwrSt) : (s.modPwr f).uc = s.uc := rfl
@[simp] theorem State.modPwr_pending (f : PwrSt → PwrSt) : (s.modPwr f).pending = s.pending := rfl

@[simp] theorem State.modN_csr (f : NetSt → NetSt) : (s.modN f).csr = s.csr := rfl
@[simp] theorem State.modN_mem (f : NetSt → NetSt) : (s.modN f).mem = s.mem := rfl
@[simp] theorem State.modN_tags (f : NetSt → NetSt) : (s.modN f).tags = s.tags := rfl
@[simp] theorem State.modN_errs (f : NetSt → NetSt) : (s.modN f).errs = s.errs := rfl
@[simp] theorem State.modN_now (f : NetSt → NetSt) : (s.modN f).now = s.now := rfl
@[simp] theorem State.modN_free (f : NetSt → NetSt) : (s.modN f).free = s.free := rfl
@[simp] theorem State.modN_cps (f : NetSt → NetSt) : (s.modN f).cps = s.cps := rfl
@[simp] theorem State.modN_parts (f : NetSt → NetSt) : (s.modN f).parts = s.parts := rfl
@[simp] theorem State.modN_mst (f : NetSt → NetSt) : (s.modN f).mst = s.mst := rfl
@[simp] theorem State.modN_evt (f : NetSt → NetSt) : (s.modN f).evt = s.evt := rfl
@[simp] theorem State.modN_trc (f : NetSt → NetSt) : (s.modN f).trc = s.trc := rfl
@[simp] theorem State.modN_dbgPol (f : NetSt → NetSt) : (s.modN f).dbgPol = s.dbgPol := rfl
@[simp] theorem State.modN_pwr (f : NetSt → NetSt) : (s.modN f).pwr = s.pwr := rfl
@[simp] theorem State.modN_net (f : NetSt → NetSt) : (s.modN f).net = f s.net := rfl
@[simp] theorem State.modN_pair (f : NetSt → NetSt) : (s.modN f).pair = s.pair := rfl
@[simp] theorem State.modN_sec (f : NetSt → NetSt) : (s.modN f).sec = s.sec := rfl
@[simp] theorem State.modN_twd (f : NetSt → NetSt) : (s.modN f).twd = s.twd := rfl
@[simp] theorem State.modN_board (f : NetSt → NetSt) : (s.modN f).board = s.board := rfl
@[simp] theorem State.modN_fab (f : NetSt → NetSt) : (s.modN f).fab = s.fab := rfl
@[simp] theorem State.modN_mesh (f : NetSt → NetSt) : (s.modN f).mesh = s.mesh := rfl
@[simp] theorem State.modN_uc (f : NetSt → NetSt) : (s.modN f).uc = s.uc := rfl
@[simp] theorem State.modN_pending (f : NetSt → NetSt) : (s.modN f).pending = s.pending := rfl

@[simp] theorem State.modPair_csr (f : PairSt → PairSt) : (s.modPair f).csr = s.csr := rfl
@[simp] theorem State.modPair_mem (f : PairSt → PairSt) : (s.modPair f).mem = s.mem := rfl
@[simp] theorem State.modPair_tags (f : PairSt → PairSt) : (s.modPair f).tags = s.tags := rfl
@[simp] theorem State.modPair_errs (f : PairSt → PairSt) : (s.modPair f).errs = s.errs := rfl
@[simp] theorem State.modPair_now (f : PairSt → PairSt) : (s.modPair f).now = s.now := rfl
@[simp] theorem State.modPair_free (f : PairSt → PairSt) : (s.modPair f).free = s.free := rfl
@[simp] theorem State.modPair_cps (f : PairSt → PairSt) : (s.modPair f).cps = s.cps := rfl
@[simp] theorem State.modPair_parts (f : PairSt → PairSt) : (s.modPair f).parts = s.parts := rfl
@[simp] theorem State.modPair_mst (f : PairSt → PairSt) : (s.modPair f).mst = s.mst := rfl
@[simp] theorem State.modPair_evt (f : PairSt → PairSt) : (s.modPair f).evt = s.evt := rfl
@[simp] theorem State.modPair_trc (f : PairSt → PairSt) : (s.modPair f).trc = s.trc := rfl
@[simp] theorem State.modPair_dbgPol (f : PairSt → PairSt) : (s.modPair f).dbgPol = s.dbgPol := rfl
@[simp] theorem State.modPair_pwr (f : PairSt → PairSt) : (s.modPair f).pwr = s.pwr := rfl
@[simp] theorem State.modPair_net (f : PairSt → PairSt) : (s.modPair f).net = s.net := rfl
@[simp] theorem State.modPair_pair (f : PairSt → PairSt) : (s.modPair f).pair = f s.pair := rfl
@[simp] theorem State.modPair_sec (f : PairSt → PairSt) : (s.modPair f).sec = s.sec := rfl
@[simp] theorem State.modPair_twd (f : PairSt → PairSt) : (s.modPair f).twd = s.twd := rfl
@[simp] theorem State.modPair_board (f : PairSt → PairSt) : (s.modPair f).board = s.board := rfl
@[simp] theorem State.modPair_fab (f : PairSt → PairSt) : (s.modPair f).fab = s.fab := rfl
@[simp] theorem State.modPair_mesh (f : PairSt → PairSt) : (s.modPair f).mesh = s.mesh := rfl
@[simp] theorem State.modPair_uc (f : PairSt → PairSt) : (s.modPair f).uc = s.uc := rfl
@[simp] theorem State.modPair_pending (f : PairSt → PairSt) : (s.modPair f).pending = s.pending := rfl

@[simp] theorem State.modSec_csr (f : SecSt → SecSt) : (s.modSec f).csr = s.csr := rfl
@[simp] theorem State.modSec_mem (f : SecSt → SecSt) : (s.modSec f).mem = s.mem := rfl
@[simp] theorem State.modSec_tags (f : SecSt → SecSt) : (s.modSec f).tags = s.tags := rfl
@[simp] theorem State.modSec_errs (f : SecSt → SecSt) : (s.modSec f).errs = s.errs := rfl
@[simp] theorem State.modSec_now (f : SecSt → SecSt) : (s.modSec f).now = s.now := rfl
@[simp] theorem State.modSec_free (f : SecSt → SecSt) : (s.modSec f).free = s.free := rfl
@[simp] theorem State.modSec_cps (f : SecSt → SecSt) : (s.modSec f).cps = s.cps := rfl
@[simp] theorem State.modSec_parts (f : SecSt → SecSt) : (s.modSec f).parts = s.parts := rfl
@[simp] theorem State.modSec_mst (f : SecSt → SecSt) : (s.modSec f).mst = s.mst := rfl
@[simp] theorem State.modSec_evt (f : SecSt → SecSt) : (s.modSec f).evt = s.evt := rfl
@[simp] theorem State.modSec_trc (f : SecSt → SecSt) : (s.modSec f).trc = s.trc := rfl
@[simp] theorem State.modSec_dbgPol (f : SecSt → SecSt) : (s.modSec f).dbgPol = s.dbgPol := rfl
@[simp] theorem State.modSec_pwr (f : SecSt → SecSt) : (s.modSec f).pwr = s.pwr := rfl
@[simp] theorem State.modSec_net (f : SecSt → SecSt) : (s.modSec f).net = s.net := rfl
@[simp] theorem State.modSec_pair (f : SecSt → SecSt) : (s.modSec f).pair = s.pair := rfl
@[simp] theorem State.modSec_sec (f : SecSt → SecSt) : (s.modSec f).sec = f s.sec := rfl
@[simp] theorem State.modSec_twd (f : SecSt → SecSt) : (s.modSec f).twd = s.twd := rfl
@[simp] theorem State.modSec_board (f : SecSt → SecSt) : (s.modSec f).board = s.board := rfl
@[simp] theorem State.modSec_fab (f : SecSt → SecSt) : (s.modSec f).fab = s.fab := rfl
@[simp] theorem State.modSec_mesh (f : SecSt → SecSt) : (s.modSec f).mesh = s.mesh := rfl
@[simp] theorem State.modSec_uc (f : SecSt → SecSt) : (s.modSec f).uc = s.uc := rfl
@[simp] theorem State.modSec_pending (f : SecSt → SecSt) : (s.modSec f).pending = s.pending := rfl

@[simp] theorem State.modBoard_csr (f : BoardSt → BoardSt) : (s.modBoard f).csr = s.csr := rfl
@[simp] theorem State.modBoard_mem (f : BoardSt → BoardSt) : (s.modBoard f).mem = s.mem := rfl
@[simp] theorem State.modBoard_tags (f : BoardSt → BoardSt) : (s.modBoard f).tags = s.tags := rfl
@[simp] theorem State.modBoard_errs (f : BoardSt → BoardSt) : (s.modBoard f).errs = s.errs := rfl
@[simp] theorem State.modBoard_now (f : BoardSt → BoardSt) : (s.modBoard f).now = s.now := rfl
@[simp] theorem State.modBoard_free (f : BoardSt → BoardSt) : (s.modBoard f).free = s.free := rfl
@[simp] theorem State.modBoard_cps (f : BoardSt → BoardSt) : (s.modBoard f).cps = s.cps := rfl
@[simp] theorem State.modBoard_parts (f : BoardSt → BoardSt) : (s.modBoard f).parts = s.parts := rfl
@[simp] theorem State.modBoard_mst (f : BoardSt → BoardSt) : (s.modBoard f).mst = s.mst := rfl
@[simp] theorem State.modBoard_evt (f : BoardSt → BoardSt) : (s.modBoard f).evt = s.evt := rfl
@[simp] theorem State.modBoard_trc (f : BoardSt → BoardSt) : (s.modBoard f).trc = s.trc := rfl
@[simp] theorem State.modBoard_dbgPol (f : BoardSt → BoardSt) : (s.modBoard f).dbgPol = s.dbgPol := rfl
@[simp] theorem State.modBoard_pwr (f : BoardSt → BoardSt) : (s.modBoard f).pwr = s.pwr := rfl
@[simp] theorem State.modBoard_net (f : BoardSt → BoardSt) : (s.modBoard f).net = s.net := rfl
@[simp] theorem State.modBoard_pair (f : BoardSt → BoardSt) : (s.modBoard f).pair = s.pair := rfl
@[simp] theorem State.modBoard_sec (f : BoardSt → BoardSt) : (s.modBoard f).sec = s.sec := rfl
@[simp] theorem State.modBoard_twd (f : BoardSt → BoardSt) : (s.modBoard f).twd = s.twd := rfl
@[simp] theorem State.modBoard_board (f : BoardSt → BoardSt) : (s.modBoard f).board = f s.board := rfl
@[simp] theorem State.modBoard_fab (f : BoardSt → BoardSt) : (s.modBoard f).fab = s.fab := rfl
@[simp] theorem State.modBoard_mesh (f : BoardSt → BoardSt) : (s.modBoard f).mesh = s.mesh := rfl
@[simp] theorem State.modBoard_uc (f : BoardSt → BoardSt) : (s.modBoard f).uc = s.uc := rfl
@[simp] theorem State.modBoard_pending (f : BoardSt → BoardSt) : (s.modBoard f).pending = s.pending := rfl

@[simp] theorem State.modFab_csr (f : FabSt → FabSt) : (s.modFab f).csr = s.csr := rfl
@[simp] theorem State.modFab_mem (f : FabSt → FabSt) : (s.modFab f).mem = s.mem := rfl
@[simp] theorem State.modFab_tags (f : FabSt → FabSt) : (s.modFab f).tags = s.tags := rfl
@[simp] theorem State.modFab_errs (f : FabSt → FabSt) : (s.modFab f).errs = s.errs := rfl
@[simp] theorem State.modFab_now (f : FabSt → FabSt) : (s.modFab f).now = s.now := rfl
@[simp] theorem State.modFab_free (f : FabSt → FabSt) : (s.modFab f).free = s.free := rfl
@[simp] theorem State.modFab_cps (f : FabSt → FabSt) : (s.modFab f).cps = s.cps := rfl
@[simp] theorem State.modFab_parts (f : FabSt → FabSt) : (s.modFab f).parts = s.parts := rfl
@[simp] theorem State.modFab_mst (f : FabSt → FabSt) : (s.modFab f).mst = s.mst := rfl
@[simp] theorem State.modFab_evt (f : FabSt → FabSt) : (s.modFab f).evt = s.evt := rfl
@[simp] theorem State.modFab_trc (f : FabSt → FabSt) : (s.modFab f).trc = s.trc := rfl
@[simp] theorem State.modFab_dbgPol (f : FabSt → FabSt) : (s.modFab f).dbgPol = s.dbgPol := rfl
@[simp] theorem State.modFab_pwr (f : FabSt → FabSt) : (s.modFab f).pwr = s.pwr := rfl
@[simp] theorem State.modFab_net (f : FabSt → FabSt) : (s.modFab f).net = s.net := rfl
@[simp] theorem State.modFab_pair (f : FabSt → FabSt) : (s.modFab f).pair = s.pair := rfl
@[simp] theorem State.modFab_sec (f : FabSt → FabSt) : (s.modFab f).sec = s.sec := rfl
@[simp] theorem State.modFab_twd (f : FabSt → FabSt) : (s.modFab f).twd = s.twd := rfl
@[simp] theorem State.modFab_board (f : FabSt → FabSt) : (s.modFab f).board = s.board := rfl
@[simp] theorem State.modFab_fab (f : FabSt → FabSt) : (s.modFab f).fab = f s.fab := rfl
@[simp] theorem State.modFab_mesh (f : FabSt → FabSt) : (s.modFab f).mesh = s.mesh := rfl
@[simp] theorem State.modFab_uc (f : FabSt → FabSt) : (s.modFab f).uc = s.uc := rfl
@[simp] theorem State.modFab_pending (f : FabSt → FabSt) : (s.modFab f).pending = s.pending := rfl

@[simp] theorem State.fresh_csr : s.fresh.2.csr = s.csr := rfl
@[simp] theorem State.fresh_mem : s.fresh.2.mem = s.mem := rfl
@[simp] theorem State.fresh_tags : s.fresh.2.tags = s.tags := rfl
@[simp] theorem State.fresh_errs : s.fresh.2.errs = s.errs := rfl
@[simp] theorem State.fresh_now : s.fresh.2.now = s.now := rfl
@[simp] theorem State.fresh_free : s.fresh.2.free = s.free + 1 := rfl
@[simp] theorem State.fresh_cps : s.fresh.2.cps = s.cps := rfl
@[simp] theorem State.fresh_parts : s.fresh.2.parts = s.parts := rfl
@[simp] theorem State.fresh_mst : s.fresh.2.mst = s.mst := rfl
@[simp] theorem State.fresh_evt : s.fresh.2.evt = s.evt := rfl
@[simp] theorem State.fresh_trc : s.fresh.2.trc = s.trc := rfl
@[simp] theorem State.fresh_dbgPol : s.fresh.2.dbgPol = s.dbgPol := rfl
@[simp] theorem State.fresh_pwr : s.fresh.2.pwr = s.pwr := rfl
@[simp] theorem State.fresh_net : s.fresh.2.net = s.net := rfl
@[simp] theorem State.fresh_pair : s.fresh.2.pair = s.pair := rfl
@[simp] theorem State.fresh_sec : s.fresh.2.sec = s.sec := rfl
@[simp] theorem State.fresh_twd : s.fresh.2.twd = s.twd := rfl
@[simp] theorem State.fresh_board : s.fresh.2.board = s.board := rfl
@[simp] theorem State.fresh_fab : s.fresh.2.fab = s.fab := rfl
@[simp] theorem State.fresh_mesh : s.fresh.2.mesh = s.mesh := rfl
@[simp] theorem State.fresh_uc : s.fresh.2.uc = s.uc := rfl
@[simp] theorem State.fresh_pending : s.fresh.2.pending = s.pending := rfl

end

/-! ### Registers -/

/-- A register after a write of a register. -/
theorem reg_setReg (s : State) (a b : Nat) (v : Word) :
    (s.setReg a v).reg b = if b = a then v else s.reg b := mapGet_put regReset s.csr a b v

/-- Another register is as it was, in every state. -/
theorem reg_setReg_ne (s : State) {a b : Nat} (v : Word) (h : b ≠ a) : (s.setReg a v).reg b = s.reg b := mapGet_put_ne regReset s.csr v h

@[simp] theorem reg_modCp (s : State) (c : CpId) (f : Cp → Cp) (a : Nat) : (s.modCp c f).reg a = s.reg a := rfl
@[simp] theorem reg_modA (s : State) (c : CpId) (f : CpArch → CpArch) (a : Nat) : (s.modA c f).reg a = s.reg a := rfl
@[simp] theorem reg_modPart (s : State) (p : PartId) (f : Part → Part) (a : Nat) : (s.modPart p f).reg a = s.reg a := rfl
@[simp] theorem reg_modM (s : State) (f : MemSt → MemSt) (a : Nat) : (s.modM f).reg a = s.reg a := rfl
@[simp] theorem reg_modE (s : State) (f : EvtSt → EvtSt) (a : Nat) : (s.modE f).reg a = s.reg a := rfl
@[simp] theorem reg_modN (s : State) (f : NetSt → NetSt) (a : Nat) : (s.modN f).reg a = s.reg a := rfl
@[simp] theorem reg_modPwr (s : State) (f : PwrSt → PwrSt) (a : Nat) : (s.modPwr f).reg a = s.reg a := rfl
@[simp] theorem reg_modSec (s : State) (f : SecSt → SecSt) (a : Nat) : (s.modSec f).reg a = s.reg a := rfl
@[simp] theorem reg_modPair (s : State) (f : PairSt → PairSt) (a : Nat) : (s.modPair f).reg a = s.reg a := rfl
@[simp] theorem reg_putByte (s : State) (k : Nat) (b : Byte) (a : Nat) : (s.putByte k b).reg a = s.reg a := rfl
@[simp] theorem reg_setTag (s : State) (g : Nat) (b : Bool) (a : Nat) : (s.setTag g b).reg a = s.reg a := rfl
@[simp] theorem reg_setErr (s : State) (w : Nat) (e : Err) (a : Nat) : (s.setErr w e).reg a = s.reg a := rfl

/-! ### Memory -/

/-- A byte after a byte is stored. -/
theorem rawByte_putByte (s : State) (k a : Nat) (b : Byte) :
    (s.putByte k b).rawByte a = if a = k then b else s.rawByte a := mapGet_put memDefault s.mem k a b

/-- Every other byte is as it was, in every state. -/
theorem rawByte_putByte_ne (s : State) {k a : Nat} (b : Byte) (h : a ≠ k) : (s.putByte k b).rawByte a = s.rawByte a :=
  mapGet_put_ne memDefault s.mem b h

/-- A tag after a tag is set. -/
theorem tagAt_setTag (s : State) (g a : Nat) (b : Bool) :
    (s.setTag g b).tagAt a = if a = g then b else s.tagAt a := mapGet_put tagDefault s.tags g a b

/-- A check error after one is set. -/
theorem err_setErr (s : State) (w a : Nat) (e : Err) :
    (s.setErr w e).err a = if a = w then e else s.err a := mapGet_put errDefault s.errs w a e

/-- Bytes past a run of stored bytes are as they were. -/
theorem rawByte_putBytes (l : List Byte) (s : State) (k a : Nat) (h : a < k ∨ k + l.length ≤ a) :
    (State.putBytes l k s).rawByte a = s.rawByte a := by
  induction l generalizing s k with
  | nil => rfl
  | cons b l ih =>
    simp only [List.length_cons] at h
    show (State.putBytes l (k + 1) (s.putByte k b)).rawByte a = _
    rw [ih (s.putByte k b) (k + 1) (by omega), rawByte_putByte_ne s b (by omega)]

/-- The bytes that were stored are read back. -/
theorem rawByte_putBytes_in (l : List Byte) (s : State) (k i : Nat) (hi : i < l.length) :
    (State.putBytes l k s).rawByte (k + i) = l[i] := by
  induction l generalizing s k i with
  | nil => cases hi
  | cons b l ih =>
    show (State.putBytes l (k + 1) (s.putByte k b)).rawByte (k + i) = _
    cases i with
    | zero =>
      rw [rawByte_putBytes l _ _ _ (by omega), rawByte_putByte]
      simp
    | succ i =>
      have e : k + (i + 1) = k + 1 + i := by omega
      rw [e, ih (s.putByte k b) (k + 1) i (by simpa using hi)]
      rfl

/-- Storing bytes keeps the canonical form of memory, of its tags and of its check errors. -/
theorem wf_putBytes (l : List Byte) {s : State} (k : Nat) (h : Memory.wf s = true) : Memory.wf (State.putBytes l k s) = true := by
  induction l generalizing s k with
  | nil => exact h
  | cons b l ih =>
    refine ih (k + 1) ?_
    simp only [Memory.wf, Bool.and_eq_true] at h ⊢
    exact ⟨⟨mapWf_put memDefault k b h.1.1, h.1.2⟩, h.2⟩

theorem wf_setTag {s : State} (g : Nat) (b : Bool) (h : Memory.wf s = true) : Memory.wf (s.setTag g b) = true := by
  simp only [Memory.wf, Bool.and_eq_true] at h ⊢
  exact ⟨⟨h.1.1, mapWf_put tagDefault g b h.1.2⟩, h.2⟩

theorem wf_setErr {s : State} (w : Nat) (e : Err) (h : Memory.wf s = true) : Memory.wf (s.setErr w e) = true := by
  simp only [Memory.wf, Bool.and_eq_true] at h ⊢
  exact ⟨h.1, mapWf_put errDefault w e h.2⟩

theorem wf_emptyGranule {s : State} (g : Nat) (h : Memory.wf s = true) : Memory.wf (s.emptyGranule g) = true := by
  simp only [Memory.wf, Bool.and_eq_true] at h ⊢
  exact ⟨⟨mapWf_filter memDefault _ h.1.1, mapWf_filter tagDefault _ h.1.2⟩, mapWf_filter errDefault _ h.2⟩

end Sys2Proof.Machine
end

