-- ==== Sys2Proof/WellFormed.lean ====
section
/-! DEFINITION. Which commands are well formed. The types of the operands already give every field its width, so only what
joins two operands is checked here: the lengths of packets and frames, what only the debug port may carry, and the number
of a latched consumer. The machine takes ill-formed commands too, as the spec says what becomes of such a packet. -/

namespace Sys2Proof

/-- A KWT datagram whose LEN is the length of its payload (R445). -/
def KwtFrame.wf (f : KwtFrame) : Bool := f.payload.length == f.len.toNat

/-- A Ubori frame whose LEN is the length of its body (R531). -/
def UboriFrame.wf (f : UboriFrame) : Bool := f.body.length == f.len.toNat

/-- An Ethernet frame: the datagram that it carries is well formed and carries the same port and sub-port (R438, R440). -/
def EthFrame.wf (f : EthFrame) : Bool :=
  match f.body with
  | .udp _ _ _ _ _ k => k.wf && k.port == f.port && k.sub == f.sub && k.srcMac == f.srcMac
  | _ => true

/-- A request of the fast matrix: only a cluster port's master carries a partition, and only the debug port peeks (R409). -/
def FabReq.wf (r : FabReq) : Bool := (decide (r.m.val < 16) || r.part.isNone) && (r.consume || r.m.val == 35)

/-- Whether a command is well formed. -/
def Instr.wf (i : Instr) : Bool :=
  match i with
  | .vauxPowerUp _ => true
  | .vauxPowerLoss => true
  | .sysRstLAssert => true
  | .glitchDetection => true
  | .clockMonitorTrip => true
  | .glitchBackoffExpiry => true
  | .rindClockValid => true
  | .railEnable _ _ => true
  | .railNeverReady => true
  | .railPowerUpRetry => true
  | .nearTrainingDone _ _ => true
  | .cellarTrainingDone _ => true
  | .moduleWatchdogWarning => true
  | .moduleWatchdogExpiry => true
  | .fuseReread => true
  | .structDrainWrite _ => true
  | .partitionDrained _ => true
  | .structLiveApply _ => true
  | .liveApplyFlashDone _ => true
  | .mov _ _ _ => true
  | .add _ _ _ => true
  | .sub _ _ _ => true
  | .and _ _ _ => true
  | .or _ _ _ => true
  | .xor _ _ _ => true
  | .adc _ _ _ => true
  | .sbc _ _ _ => true
  | .cmp _ _ _ => true
  | .shl _ _ _ => true
  | .shr _ _ _ => true
  | .sar _ _ _ => true
  | .mvgf _ _ _ => true
  | .mvfg _ _ _ => true
  | .not _ _ => true
  | .neg _ _ => true
  | .dadj _ _ => true
  | .clz _ _ => true
  | .ctz _ _ => true
  | .popc _ _ => true
  | .sextb _ _ => true
  | .sexth _ _ => true
  | .zexth _ _ => true
  | .bswap _ _ => true
  | .nop _ => true
  | .syncc _ => true
  | .vsync _ => true
  | .vsyncComplete _ => true
  | .retx _ => true
  | .chkpt _ => true
  | .waitIrq _ => true
  | .waitEnd _ => true
  | .lock _ _ => true
  | .lockWindowTimeout _ => true
  | .setb _ _ => true
  | .clrb _ _ => true
  | .tglb _ _ => true
  | .tstb _ _ => true
  | .add3 _ _ _ _ _ => true
  | .sub3 _ _ _ _ _ => true
  | .and3 _ _ _ _ _ => true
  | .or3 _ _ _ _ _ => true
  | .xor3 _ _ _ _ _ => true
  | .shl3 _ _ _ _ _ => true
  | .shr3 _ _ _ _ _ => true
  | .sar3 _ _ _ _ _ => true
  | .mul _ _ _ _ _ => true
  | .mulhu _ _ _ _ _ => true
  | .mulhs _ _ _ _ _ => true
  | .idstep _ _ _ _ _ => true
  | .dadd _ _ _ _ _ => true
  | .dsub _ _ _ _ _ => true
  | .pack _ _ _ _ _ => true
  | .unpk _ _ _ _ _ => true
  | .addi _ _ _ => true
  | .andi _ _ _ => true
  | .ori _ _ _ => true
  | .xori _ _ _ => true
  | .movi _ _ _ => true
  | .cmpi _ _ _ => true
  | .shiShl _ _ _ _ _ => true
  | .shiShr _ _ _ _ _ => true
  | .shiSar _ _ _ _ _ => true
  | .shiRor _ _ _ _ _ => true
  | .ldb _ _ _ _ => true
  | .ldh _ _ _ _ => true
  | .ldhs _ _ _ _ => true
  | .ldw _ _ _ _ => true
  | .stb _ _ _ _ => true
  | .sth _ _ _ _ => true
  | .stw _ _ _ _ => true
  | .storeRelease _ => true
  | .ldf _ _ _ _ => true
  | .stf _ _ _ _ => true
  | .ldk _ _ _ _ => true
  | .stk _ _ _ _ => true
  | .ldl _ _ _ _ => true
  | .stc _ _ _ _ => true
  | .ldd _ _ _ _ => true
  | .std _ _ _ _ => true
  | .inPort _ _ _ _ => true
  | .inResponse _ => true
  | .outPort _ _ _ _ => true
  | .movc _ _ _ _ => true
  | .movcr _ _ _ _ => true
  | .kmov _ _ _ _ => true
  | .kadd _ _ _ _ => true
  | .kbnd _ _ _ _ => true
  | .kmask _ _ _ _ => true
  | .klock _ _ _ _ => true
  | .kopen _ _ _ _ => true
  | .krdc _ _ _ _ => true
  | .krdb _ _ _ _ => true
  | .krdl _ _ _ _ => true
  | .krdp _ _ _ _ => true
  | .krdt _ _ _ _ => true
  | .krdv _ _ _ _ => true
  | .calloc _ _ _ _ => true
  | .cfree _ _ _ _ => true
  | .cfreeResume _ => true
  | .kpcc _ _ _ _ => true
  | .kdrop _ _ _ _ => true
  | .band _ _ _ => true
  | .bor _ _ _ => true
  | .bxor _ _ _ => true
  | .bmov _ _ _ => true
  | .loopSetup _ _ _ => true
  | .br _ _ => true
  | .brD _ _ => true
  | .call _ _ => true
  | .callD _ _ => true
  | .jr _ _ _ _ => true
  | .jrD _ _ _ _ => true
  | .callr _ _ _ _ => true
  | .callrD _ _ _ _ => true
  | .trap _ _ _ _ _ => true
  | .bbc _ _ _ => true
  | .bbcD _ _ _ => true
  | .bbs _ _ _ => true
  | .bbsD _ _ _ => true
  | .movi32 _ _ _ _ _ => true
  | .movhi32 _ _ _ _ _ => true
  | .addi32 _ _ _ _ _ => true
  | .andi32 _ _ _ _ _ => true
  | .ori32 _ _ _ _ _ => true
  | .xori32 _ _ _ _ _ => true
  | .cmpi32 _ _ _ _ _ => true
  | .setbx _ _ _ _ _ => true
  | .clrbx _ _ _ _ _ => true
  | .tglbx _ _ _ _ _ => true
  | .tstbx _ _ _ _ _ => true
  | .bandx _ _ _ _ _ => true
  | .borx _ _ _ _ _ => true
  | .bxorx _ _ _ _ _ => true
  | .bmovx _ _ _ _ _ => true
  | .bbcx _ _ _ _ _ => true
  | .bbcxD _ _ _ _ _ => true
  | .bbsx _ _ _ _ _ => true
  | .bbsxD _ _ _ _ _ => true
  | .jmpa _ _ _ _ _ => true
  | .calla _ _ _ _ _ => true
  | .mvgfx _ _ _ _ _ => true
  | .mvfgx _ _ _ _ _ => true
  | .inx _ _ _ _ _ => true
  | .outx _ _ _ _ _ => true
  | .pramDataWrite _ _ => true
  | .timerMatch _ _ => true
  | .interruptAccept _ => true
  | .entryTakeover _ => true
  | .cpReset _ => true
  | .cpDoorbell _ _ => true
  | .wdgCtlWrite _ _ => true
  | .wdgKick _ _ => true
  | .wdgWarning _ => true
  | .wdgExpiry _ => true
  | .vfadd _ _ => true
  | .vfsub _ _ => true
  | .vfmul _ _ => true
  | .vfmin _ _ => true
  | .vfmax _ _ => true
  | .vfabs _ _ => true
  | .vfneg _ _ => true
  | .vfcpys _ _ => true
  | .vfma _ _ => true
  | .vfms _ _ => true
  | .vfnma _ _ => true
  | .vfnms _ _ => true
  | .vfcvt _ _ => true
  | .vfcvti _ _ => true
  | .vicvtf _ _ => true
  | .vadd _ _ => true
  | .vsub _ _ => true
  | .vadds _ _ => true
  | .vsubs _ _ => true
  | .vmul _ _ => true
  | .vmulh _ _ => true
  | .vmin _ _ => true
  | .vmax _ _ => true
  | .vand _ _ => true
  | .vor _ _ => true
  | .vxor _ _ => true
  | .vandn _ _ => true
  | .vnot _ _ => true
  | .vshl _ _ => true
  | .vshr _ _ => true
  | .vsar _ _ => true
  | .vabs _ _ => true
  | .vneg _ _ => true
  | .vpopc _ _ => true
  | .vclz _ _ => true
  | .vsel _ _ => true
  | .vcvti _ _ => true
  | .vmov _ _ => true
  | .vfill _ _ => true
  | .viota _ _ => true
  | .vwmul _ _ => true
  | .vwma _ _ => true
  | .vdot4 _ _ => true
  | .vdot4su _ _ => true
  | .vfdot2 _ _ => true
  | .vcmpeq _ _ => true
  | .vcmpne _ _ => true
  | .vcmplt _ _ => true
  | .vcmple _ _ => true
  | .vcmpgt _ _ => true
  | .vcmpge _ _ => true
  | .vcmpun _ _ => true
  | .vtest _ _ => true
  | .vcompress _ _ => true
  | .vexpand _ _ => true
  | .vgather _ _ => true
  | .vscatter _ _ => true
  | .vrev _ _ => true
  | .vlds _ _ => true
  | .vsts _ _ => true
  | .vrsum _ _ => true
  | .vrmin _ _ => true
  | .vrmax _ _ => true
  | .vrand _ _ => true
  | .vror _ _ => true
  | .vrxor _ _ => true
  | .vrsumo _ _ => true
  | .vrcnt _ _ => true
  | .vrfirst _ _ => true
  | .vrsumd _ _ => true
  | .vdadd _ _ => true
  | .vdsub _ _ => true
  | .vdaddc _ _ => true
  | .vdsubc _ _ => true
  | .vdshl _ _ => true
  | .vdshr _ _ => true
  | .vdmul1 _ _ => true
  | .vcvtbd _ _ => true
  | .vcvtdb _ _ => true
  | .vidstep _ _ => true
  | .vfrseed _ _ => true
  | .vfrstep _ _ => true
  | .vfrsqseed _ _ => true
  | .vfrsqstep _ _ => true
  | .vddstep _ _ => true
  | .vectorIssueResume _ => true
  | .svfadd _ _ => true
  | .svfsub _ _ => true
  | .svfmul _ _ => true
  | .svfmin _ _ => true
  | .svfmax _ _ => true
  | .svfabs _ _ => true
  | .svfneg _ _ => true
  | .svfcpys _ _ => true
  | .svfma _ _ => true
  | .svfms _ _ => true
  | .svfnma _ _ => true
  | .svfnms _ _ => true
  | .svfcvt _ _ => true
  | .svfcvti _ _ => true
  | .svicvtf _ _ => true
  | .svadd _ _ => true
  | .svsub _ _ => true
  | .svadds _ _ => true
  | .svsubs _ _ => true
  | .svmul _ _ => true
  | .svmulh _ _ => true
  | .svmin _ _ => true
  | .svmax _ _ => true
  | .svand _ _ => true
  | .svor _ _ => true
  | .svxor _ _ => true
  | .svandn _ _ => true
  | .svnot _ _ => true
  | .svshl _ _ => true
  | .svshr _ _ => true
  | .svsar _ _ => true
  | .svabs _ _ => true
  | .svneg _ _ => true
  | .svpopc _ _ => true
  | .svclz _ _ => true
  | .svsel _ _ => true
  | .svcvti _ _ => true
  | .svmov _ _ => true
  | .svfill _ _ => true
  | .sviota _ _ => true
  | .svcmpeq _ _ => true
  | .svcmpne _ _ => true
  | .svcmplt _ _ => true
  | .svcmple _ _ => true
  | .svcmpgt _ _ => true
  | .svcmpge _ _ => true
  | .svcmpun _ _ => true
  | .svtest _ _ => true
  | .svrsum _ _ => true
  | .svrmin _ _ => true
  | .svrmax _ _ => true
  | .svrand _ _ => true
  | .svror _ _ => true
  | .svrxor _ _ => true
  | .svrsumo _ _ => true
  | .svrcnt _ _ => true
  | .svrfirst _ _ => true
  | .svrsumd _ _ => true
  | .svld _ _ => true
  | .svst _ _ => true
  | .svperm _ _ => true
  | .svbcast _ _ => true
  | .svdot4 _ _ => true
  | .svwmul _ _ => true
  | .dsetc _ _ => true
  | .dseto _ _ => true
  | .dsets _ _ => true
  | .dsetf _ _ => true
  | .dadv _ _ => true
  | .dget _ _ => true
  | .dgetc _ _ => true
  | .dcopy _ _ => true
  | .chainWaitExpiry _ => true
  | .stripDispatch _ => true
  | .stealWaitExpiry _ => true
  | .stripCommit _ _ => true
  | .stripFault _ _ => true
  | .vectorQueueFreeze _ => true
  | .vqResume _ => true
  | .vqFlush _ => true
  | .vqStop _ => true
  | .vqStopDone _ => true
  | .vqStart _ => true
  | .vsave _ _ => true
  | .vrestore _ _ => true
  | .vqDiscard _ _ => true
  | .pipePark _ => true
  | .leadExpiry _ => true
  | .rampEnd _ => true
  | .ldadvReadbackFault _ => true
  | .granuleZeroed _ => true
  | .sweepEpochClose => true
  | .sweepNow => true
  | .heatPeriodEnd => true
  | .migrationStart _ _ => true
  | .migrationCopyDone _ _ => true
  | .migrationRelease _ _ => true
  | .pgHintNear _ => true
  | .pgHintCold _ => true
  | .pgHintNone _ => true
  | .pgHintLayout _ _ _ _ => true
  | .pgHintPrefault _ => true
  | .pgHintGuard _ => true
  | .pgHintUnguard _ => true
  | .pgHintComplete _ => true
  | .shootdownComplete _ => true
  | .heapWindowWrite _ _ _ => true
  | .nearRefresh _ _ _ => true
  | .refreshManagement _ _ _ => true
  | .calibrationSlot _ _ _ _ => true
  | .writeLevellingTrigger _ => true
  | .wlNow _ => true
  | .stackTemperatureRead _ _ => true
  | .calDeferLimit _ _ => true
  | .cellarCalibrationSlot _ _ => true
  | .dimmTemperatureRead _ _ _ => true
  | .commandParityReissue _ _ => true
  | .flitForward _ _ _ => true
  | .gridWriteback _ => true
  | .scrubStep _ => true
  | .arrayScrub _ _ => true
  | .bucketLeakTick _ => true
  | .bktCfgWrite _ _ => true
  | .injArm => true
  | .injDisarm => true
  | .injectionFire => true
  | .rawAccess => true
  | .fabricTransaction _ fresh => match fresh with | some r => r.wf | none => true
  | .fabricResponse _ _ => true
  | .fabricTimeout _ _ => true
  | .rateGateReopen _ => true
  | .latchDelivery consumer => decide (consumer.toNat < 8385)
  | .evtSwtrig _ => true
  | .evtCommitGo => true
  | .evtCommitDone => true
  | .evtOutPulseEnd _ => true
  | .evtInEdge _ _ => true
  | .gpioEdge _ _ => true
  | .frameReceive f => f.wf
  | .arpRequest f => f.wf
  | .neighbourSolicitation f => f.wf
  | .icmpEcho f => f.wf
  | .pauseFrame _ _ _ _ => true
  | .receiveQueueFlowControl _ _ => true
  | .ptpMessage _ _ => true
  | .ptpSecondBoundary => true
  | .ptpStep _ => true
  | .linkStateChange _ _ _ _ _ => true
  | .kwtOpen f => f.wf
  | .kwtClose f => f.wf
  | .sessionCloseComplete _ => true
  | .kwtWrite f => f.wf
  | .kwtRead f => f.wf
  | .readRespPiece _ => true
  | .kwtSubmit f => f.wf
  | .kwtMgmt f => f.wf
  | .kwtUpdate f => f.wf
  | .kwtAck f => f.wf
  | .ackDelayExpiry _ => true
  | .retransmissionTimeout _ _ => true
  | .sessCtlWrite _ _ => true
  | .tokenBind _ => true
  | .tokenUnbind _ _ => true
  | .notifyQueue _ _ => true
  | .notifySend _ => true
  | .dmaDescriptorQueue _ _ => true
  | .dmaDescriptorStart _ => true
  | .dmaDescriptorComplete _ => true
  | .deResume _ => true
  | .deFlush _ => true
  | .cuValWrite _ _ => true
  | .mbxRequest => true
  | .autoConfirmExpiry => true
  | .telemetryPoll _ => true
  | .estimatorUpdate _ _ => true
  | .avsbusSetpointWrite _ _ _ => true
  | .clockRaise _ => true
  | .vrrdyFall _ => true
  | .vrrdyLowTimeout _ => true
  | .vrrdyRise _ => true
  | .remoteSenseOpen _ => true
  | .droopTrip _ => true
  | .droopHoldEnd _ => true
  | .powerEstimate _ => true
  | .powerClockStepDown => true
  | .powerClockStepUp => true
  | .excursionLimit => true
  | .thermalConversion _ => true
  | .throttleStepDown _ => true
  | .throttleStepUp _ => true
  | .monitorSample _ => true
  | .shedLevelRise => true
  | .shedLevelFall => true
  | .shed7Exit => true
  | .finalCheckpointAbandon => true
  | .shedFloorWrite _ => true
  | .sleepRequest _ => true
  | .sleepEntryComplete => true
  | .wake => true
  | .wakeTimerExpiry => true
  | .uboriLinkUp _ => true
  | .uboriLinkDown => true
  | .uboriLinkRetrain _ => true
  | .uboriRetransmit => true
  | .helloFrame f _ _ => f.wf
  | .heartbeatSend => true
  | .heartbeatFrame f => f.wf
  | .pairHbOutToggle => true
  | .mirrorCheckpointCut => true
  | .ckptBegin f => f.wf
  | .pageFrame f => f.wf
  | .stateFrame f => f.wf
  | .ckptEnd f => f.wf
  | .ckptDone f => f.wf
  | .checkpointShip => true
  | .inputFrame f => f.wf
  | .sigFrame f => f.wf
  | .verdictFrame f => f.wf
  | .holdFrame f => f.wf
  | .releaseFrame f => f.wf
  | .ctlFailover f => f.wf
  | .ctlSleepReq f => f.wf
  | .ctlSleepAck f => f.wf
  | .ctlSleepRefuse f => f.wf
  | .ctlWake f => f.wf
  | .ctlApply f => f.wf
  | .linkack f => f.wf
  | .heartbeatSuspicion => true
  | .witnessRenew => true
  | .witnessReply _ => true
  | .fence => true
  | .fullResync => true
  | .ckptNow => true
  | .resync => true
  | .restart => true
  | .relinquish => true
  | .twdPacket _ => true
  | .lineReset => true
  | .twdAttach _ => true
  | .debugHalt _ => true
  | .debugResume _ => true
  | .debugStep _ => true
  | .dbgRegdataAccess _ _ _ => true
  | .tracePacketOut _ => true
  | .traceCfgWrite _ _ => true
  | .sidebandProbe _ _ => true
  | .sidebandTransaction _ _ => true
  | .sb7StatusBlock => true
  | .sb7IdkHash => true
  | .outputReadbackFault _ => true
  | .vinmonOpenDetect => true
  | .readClear _ m consume => consume || m.val == 35
  | .registerWrite _ _ _ => true
  | .sysRstLRelease => true
  | .pairHbInEdge => true
  | .partnerSilentSinceBoot => true
  | .moduleWatchdogReload => true
  | .cpWaitOnVectorEnd _ => true
  | .sameBankRefresh _ _ => true
  | .pauseTimeExpiry _ _ => true
  | .ldadvZeroHoldEnd _ => true

end Sys2Proof
end

