-- ==== Sys2Proof/Tests/Slice0.lean ====
section
/-! SUPPORT. Tests: ill-formed terms, examples of the spec, and for each statement states and operands that meet its hypotheses. -/

open Sys2Proof Sys2Proof.Machine

namespace Sys2Proof.Tests

set_option Elab.async false

/-! ### States for the tests -/

/-- A partition of cluster 0 with 64 near granules. -/
def readyPart : PartRec := ⟨1, false, false, false, false, 0, 0, false, false, false, 1, 0, 64, 0, 0, 0⟩

/-- Permissions 0 to 13 on the first 4 MiB of the scratchpad window, at offset 0x100. -/
def dataCap : Cap := mkCap (spadWin + 0x100) 0x3FFF 0 10 0 0x1000 true

/-- Streams on `dataCap`: D0 to D11 of the type of that number, D12 and D13 of type 11, D14 and D15 of type 2; D13 has two fields. -/
def readyD (t : Nat) : DReg :=
  if t < 12 then ⟨dataCap, 0, if t = 0xA then 0 else BitVec.ofNat 48 (etypeSize t), BitVec.ofNat 4 t, 0, false, Err.zero⟩
  else if t = 12 then ⟨dataCap, 0x1000, 16, 0xB, 0, false, Err.zero⟩
  else if t = 13 then ⟨dataCap, 0x2000, 32, 0xB, 1, false, Err.zero⟩
  else ⟨dataCap, 0x1000, 8, 2, 0, false, Err.zero⟩

/-- CP 0 runs in Split at address 0 of its Program RAM, in the partition above. -/
def ready : State :=
  { State.reset with
    sec := { State.reset.sec with sys := .run }
    pwr := { State.reset.pwr with rails := 12, vrrdy := 15 }
    mst := { State.reset.mst with nearGran := 64, zNear := 8 }
    parts := State.reset.parts.set 0 { Part.reset with rcd := some readyPart }
    cps := State.reset.cps.set 0 { Cp.reset with
      run := .running
      pf := (List.range 4).map (fun i => ⟨i, 0, false⟩)
      a := { CpArch.release readyPart with
        vl := 8
        g := Vector.ofFn (fun i : Fin 16 => BitVec.ofNat 64 (i.val * 0x123456789))
        k := (CpArch.release readyPart).k.set 3 dataCap
        d := Vector.ofFn (fun i : Fin 16 => readyD i.val) } } }

theorem ready_turn : ready.turn 0 0 := by
  refine ⟨?_, ?_, ?_, ?_, ?_⟩ <;> decide +kernel

theorem ready_calm : (ready.cp 0).calm := by
  refine ⟨?_, ?_, ?_, ?_⟩ <;> decide +kernel

theorem ready_fetches : ∀ n : Fin 5, (ready.atInsn 0).fetchFault 0 (ready.pc 0) n.val = (none, ready) := by decide +kernel

theorem ready_no_break : ∀ n : Fin 5, ready.breakAt 0 (ready.pc 0 + n.val) = none := by decide +kernel

/-- Whether an instruction is one that `ready` takes: no reserved field is set, and its dispatch entry is in use. -/
def taken (i : Insn) : Bool := decide (i.len < 5) && !i.rsv && !i.ill && i.vop.all (fun op => ready.dispKind op != 2)

theorem ready_lens {i : Insn} (h : i.len < 5) : ready.noBreak 0 i ∧ ready.reads 0 i ready :=
  ⟨.inr ⟨ready_no_break 0, fun _ => ready_no_break ⟨i.len, h⟩⟩, ready_fetches ⟨i.len, h⟩⟩

theorem ready_armed (p u : Nat) : ready.armed p u = false := by
  have h : ready.rdB INJ_STAT.ARMED = false := by decide +kernel
  simp [State.armed, h]

/-- The hypotheses of every statement about an instruction that traps at decode. -/
theorem ready_begins (i : Insn) (h : i.len < 5) (hv : i.vop.all (fun op => ready.dispKind op != 2) = true) : ready.begins 0 0 i ready :=
  ⟨ready_turn, (ready_lens h).1, (ready_lens h).2, fun op h => ⟨ready_armed _ _, by rw [h] at hv; simpa using hv⟩⟩

/-- The hypothesis of every statement about an instruction that completes: CP 0 of `ready` starts any instruction of the part. -/
theorem ready_starts (i : Insn) (h : taken i = true) : ready.starts 0 0 i ready := by
  simp only [taken, Bool.and_eq_true, decide_eq_true_eq, Bool.not_eq_true'] at h
  obtain ⟨⟨⟨h1, h2⟩, h3⟩, h4⟩ := h
  have hd : (ready.cp 0).a.delay = none := by decide +kernel
  have hl : (ready.cp 0).a.loopcnt = 0 := by decide +kernel
  refine ⟨ready_turn, (ready_lens h1).1, ?_, ⟨h2, h3, fun _ => hd, fun h _ => absurd hl h⟩, ⟨fun n _ => rfl, fun n _ => rfl⟩, ready_calm⟩
  have hr : (ready.atInsn 0).fetchFault 0 (((ready.atInsn 0).cp 0).a.pc.toNat) i.len = (none, ready) := (ready_lens h1).2
  unfold State.fetches State.fetch
  rw [hr]
  simp only [Option.isSome_none, Bool.false_eq_true, if_false, State.decodeFault, h2, h3, hd, hl]
  split
  · simp
  · rename_i op e
    rw [e] at h4
    have h5 : ready.dispKind op ≠ 2 := by simpa using h4
    simp [State.dispRead, State.inject, ready_armed, h5]


/-! ### How loads and stores pass -/

theorem passes_of {f : State} {c : CpId} {k w : Nat} (h : (f.compareWith State.bucket c k w).1 = false) :
    f.passes c k w (f.compareWith State.bucket c k w).2 := Prod.ext h rfl

theorem loads_of {f : State} {c : CpId} {r : Reg} {addr : Int} {n align : Nat} {bs : List Byte} {sp : List (Nat × Nat)}
    (h1 : (f.k c r).check [permR] addr n align = none)
    (h2 : (f.spans (f.cpAccess c r.val (f.k c r) false) addr.toNat n).1 = .ok sp)
    (h3 : (((f.spans (f.cpAccess c r.val (f.k c r) false) addr.toNat n).2.loadSpans c addr.toNat sp).1.toOption = some bs))
    (h4 : ((((f.spans (f.cpAccess c r.val (f.k c r) false) addr.toNat n).2.loadSpans c addr.toNat sp).2.watchAccess
      c false addr.toNat n).cp c).calm) :
    ∃ w, f.loads c r addr n align bs ((spanKeys sp).getD 0 0) w := by
  refine ⟨_, h1, sp, _, _, Prod.ext h2 rfl, Prod.ext ?_ rfl, rfl, rfl, h4⟩
  revert h3
  cases ((f.spans (f.cpAccess c r.val (f.k c r) false) addr.toNat n).2.loadSpans c addr.toNat sp).1 with
  | error e => intro h; cases h
  | ok b => intro h; cases h; rfl

theorem stores_of {f f1 : State} {c : CpId} {kind : StoreKind} {r kr : Reg} {addr : Int} {data : StoreData}
    {sp : List (Nat × Nat)}
    (h1 : (f1.k c kr).check (if data.tag = some true then [permW, permStoreCap] else [permW]) addr data.size
      (match kind with | .k => 16 | .d => 32 | _ => 0) = none)
    (h0 : f.storeData c kind r = (some data, f1))
    (h2 : data.tag = some true → f1.storedGlobal c kind r = true)
    (h3 : ((f1.modVq c VQueue.close).cp c).vq.holdsStore addr.toNat (addr.toNat + data.size) = false)
    (h4 : ((f1.modVq c VQueue.close).spans ((f1.modVq c VQueue.close).cpAccess c kr.val (f1.k c kr) true) addr.toNat data.size).1 =
      .ok sp)
    (h5 : ((((f1.modVq c VQueue.close).spans ((f1.modVq c VQueue.close).cpAccess c kr.val (f1.k c kr) true) addr.toNat
      data.size).2).compareWith State.bucket c 0 addr.toNat).1 = false) :
    ∃ g, f.stores c kind r kr addr data sp g :=
  ⟨_, f1, h0, h1, h2, h3, _, Prod.ext h4 rfl, passes_of h5⟩

/-! ### The integer instructions -/

theorem witness_RegisterAndUnaryResults :
    ready.starts 0 0 (i1 1 15 0) ready ∧ ready.starts 0 0 (mkInsn 1 (enc1 0xC 15 0) false false [0] [15]) ready ∧
    ready.starts 0 0 (iUnary 9 15) ready ∧ ready.starts 0 0 (iCtl 0 false) ready :=
  ⟨ready_starts _ rfl, ready_starts _ rfl, ready_starts _ rfl, ready_starts _ rfl⟩

theorem witness_ThreeRegisterAndImmediateResults :
    ready.starts 0 0 (iRRR 0 15 0 14 0) ready ∧ ready.starts 0 0 (iRRR 15 15 0 14 31) ready ∧
    ready.starts 0 0 (iRRR 12 15 0 14 1) ready ∧ ready.starts 0 0 (iRRR 11 15 0 14 32) ready ∧ (15 : Reg) ≠ 14 ∧
    ready.starts 0 0 (iRI 16 15 0x8000) ready ∧ ready.starts 0 0 (iShi 0 15 0 0 63) ready ∧
    ready.starts 0 0 (iX 0x302 15 14 0 0x80000000 [15, 14] []) ready :=
  ⟨ready_starts _ rfl, ready_starts _ rfl, ready_starts _ rfl, ready_starts _ rfl, by decide,
   ready_starts _ rfl, ready_starts _ rfl, ready_starts _ rfl⟩

theorem witness_ReservedFieldTraps :
    ready.begins 0 0 (iRRR 0 1 2 3 1) ready ∧ ready.begins 0 0 (iRRR 15 1 2 3 32) ready ∧ ready.begins 0 0 (iRRR 12 1 2 3 2) ready ∧
    ready.begins 0 0 (iRRR 11 1 2 3 33) ready ∧ ready.begins 0 0 (iRRR 11 1 2 3 64) ready ∧ ready.begins 0 0 (iRRR 11 3 2 3 1) ready ∧
    ready.begins 0 0 (iShi 0 1 1 0 0) ready ∧ ready.begins 0 0 (iX 0x300 1 2 1 0 [1] []) ready :=
  ⟨ready_begins _ (by decide) rfl, ready_begins _ (by decide) rfl, ready_begins _ (by decide) rfl, ready_begins _ (by decide) rfl,
   ready_begins _ (by decide) rfl, ready_begins _ (by decide) rfl, ready_begins _ (by decide) rfl, ready_begins _ (by decide) rfl⟩

theorem witness_DecimalAdjust : ready.starts 0 0 (iUnary 2 1) ready ∧ decOk 16 0x9999999999999999 = true ∧ decOk 16 1 = true :=
  ⟨ready_starts _ rfl, by decide, by decide⟩

/-- R98's example: 0x4739 + 0x0588 is 0x4CC1 with a nibble carry out of digit 0 alone, and DADJ makes it 0x5327. -/
theorem test_dadj_example :
    let q := (CpArch.reset).flagsAdd 0x4739 0x0588 false
    q.1 = 0x4CC1 ∧ q.2.ncy = 1 ∧ (q.2.dadj q.1).1 = 0x5327 ∧ (q.2.dadj q.1).2.flag flC = false := by decide +kernel

theorem witness_SequencingRules :
    let a := { CpArch.reset with pc := 0xFFFFFC }
    let l := { CpArch.reset with pc := 8, loopend := 8, loopbeg := 4 }
    a.pc.toNat + 4 ≤ 0x1000000 ∧ a.delay = none ∧ ({ a with delay := some (5, 2) }).delay = some (5, 2) ∧
    l.pc.toNat = l.loopend.toNat ∧ 1 < ({ l with loopcnt := 2 }).loopcnt.toNat ∧ ({ l with loopcnt := 1 }).loopcnt = 1 := by decide

/-! ### Boundaries and exceptions -/

/-- CP 0 holds interrupt 5 of priority 7, enabled and pending. -/
def readyIrq : State := ready.modCp 0 (fun p => { p with pendBits := 32, enabBits := 32, iprio := p.iprio.set 0 0x700000 })

/-- CP 0 stands in the delay slot of a branch at address 0. -/
def readySlot : State := ready.modA 0 (fun a => { a with delay := some (64, 0), pc := 2 })

/-- `ready` with an empty prefetch queue. -/
def readyEmpty : State := ready.modCp 0 (fun p => { p with pf := [] })

theorem witness_InstructionBoundary :
    ((0 < (iCtl 0 false).len ∧ (iCtl 0 false).len ≤ 4 ∧ ready.pc 0 + (iCtl 0 false).len ≤ 0x10000) ∧ (ready.cp 0).allowed (iCtl 0 false) ∧
      ready.decodes 0 (iCtl 0 false) ∧ (ready.cp 0).primed ∧ (readyEmpty.cp 0).pf = [] ∧ readyEmpty.cleanRam 0 (readyEmpty.pc 0 / 4)) ∧
    ((ready.cp 0).pf.find? (fun e => e.w == 3) = some ⟨3, 0, false⟩ ∧ (ready.cp 0).a.delay = none ∧ (readySlot.cp 0).a.delay = some (64, 0)) ∧
    (State.reset.lead 3 = 3 ∧ (State.reset.cp 3).run ≠ .running) ∧
    (readyIrq.lead 0 = 0 ∧ readyIrq.cpsGo = true ∧ (readyIrq.cp 0).issues = true ∧ readyIrq.cutStops 0 = false ∧
      readyIrq.irqBefore 0 = some (5, 7)) ∧
    (ready.begins 0 0 ((iRRR 0 1 2 3 1).zero 1) ready ∧ ((iRRR 0 1 2 3 1).zero 1).rsv = true) ∧
    (readySlot.begins 0 0 (iBr 0x31 0 false false) readySlot ∧ (iBr 0x31 0 false false).rsv = false ∧
      ¬ (readySlot.cp 0).allowed (iBr 0x31 0 false false)) := by
  refine ⟨⟨by decide +kernel, (ready_starts (iCtl 0 false) rfl).2.2.2.1, (ready_begins (iCtl 0 false) (by decide) rfl).2.2.2, ?_, by decide +kernel, ?_⟩,
    by decide +kernel, by decide +kernel, by decide +kernel, ⟨ready_begins _ (by decide) rfl, rfl⟩,
    ⟨⟨?_, ?_, ?_, ?_⟩, .inr ⟨?_, ?_⟩, ?_, ?_⟩, rfl, ?_⟩
  · unfold Cp.primed; decide +kernel
  · unfold State.cleanRam; decide +kernel
  · decide +kernel
  · decide +kernel
  · decide +kernel
  · exact ⟨by decide +kernel, by decide +kernel⟩
  · decide +kernel
  · decide +kernel
  · unfold State.reads; decide +kernel
  · intro op h; cases h
  · intro h; exact absurd (h.2.2.1 rfl) (by decide +kernel)

/-- `ready` with the frame register K3, above a frame's room, and the handler at address 0x40. -/
def readyFrame : State :=
  ready.modA 0 (fun a => { a with xframe := 0x13, xframeOn := 0x13, xvec := 0x40, xvecOn := 0x40, xmask := 2 })

theorem witness_ExceptionEntryRules :
    (readyFrame.lockstepCl (clOf 0) = false ∧
      (let s0 := readyFrame.modCp 0 (fun p => { p.sync with stall := .none, vq := p.vq.close });
        (s0.writeFrame 0 (s0.cp 0).a 0).any (fun q =>
          q.1 == spadWin + 0x80 && decide ((q.2.cp 0).a.xvecOn.toNat / 4 + 3 < 0x4000) && (List.range 4).all (fun i =>
            q.2.err ((pramBase + 0 * 0x20000 + 8 * ((q.2.cp 0).a.xvecOn.toNat / 4 + i)) / 8) == Err.zero)) = true)) ∧
    ((readyFrame.cp 0).a.xmask.toNat < 6 ∧ cTrap ≠ cReturn) ∧
    ((ready.modA 0 (fun a => { a with xmask := 6 })).cp 0).a.xmask.toNat = 6 ∧
    (let v := ready.modCp 0 (fun p => { p with a := { p.a with mode := 2, modeOn := 2 }, vq := { p.vq with pend := true } });
      (v.cp 0).a.vfi = true ∧ (v.cp 0).vq.pend = true) ∧
    ((ready.modA 0 (fun a => { a with xmask := 7 })).cp 0).a.xmask = 7 ∧
    ((ready.cp 0).a.xmask.toNat < 7 ∧ bitOf (ready.cp 0).a.xframe 4 = false) := by decide +kernel

/-! ### Bits and branches -/

theorem bit_free (n : Nat) : ready.bitFree 0 n := ⟨rfl, rfl⟩

theorem witness_BitInstructionResults :
    (ready.bitFree 0 0x3FF ∧ ready.starts 0 0 (iBL 0x2C 0x3FF 0) ready ∧ ready.starts 0 0 (iBit 0 0x3FF) ready) ∧
    (∃ g, ready.passes 0 3 0x1000 g ∧ ((g.writeBit 0 0x1000 true).cp 0).calm) ∧
    ((ready.readBit 0 0xFFFF).1 = some false ∧ ((ready.readBit 0 0xFFFF).2.cp 0).calm ∧ (ready.readBit 0 0xFFFF).2.bitFree 0 0x1000) ∧
    ready.starts 0 0 (iX 0x30C 1 2 0 0x1000FFFF [] []) ready ∧
    (ready.lockstepCl (clOf 0) = false ∧ ready.armed 0x04 0 = false ∧ (ready.cp 0).bitErr = [] ∧
      mapWf tagDefault (ready.cp 0).bitram = true) := by
  refine ⟨⟨bit_free _, ready_starts _ rfl, ready_starts _ rfl⟩, ⟨_, passes_of (by decide +kernel), ?_, ?_, ?_, ?_⟩,
    ⟨by decide +kernel, ⟨?_, ?_, ?_, ?_⟩, ?_, ?_⟩, ready_starts _ rfl, by decide +kernel⟩
  iterate 10 decide +kernel

theorem witness_BranchAndBitBranchResults :
    ready.starts 0 0 (iBr 0x32 0x80000 true false) ready ∧ ready.starts 0 0 (iJr 3 1 2 3) ready ∧
    ready.starts 0 0 (iXB 0x315 1 2 0 0xFFFFFF false [15]) ready ∧ (0xFFFFFF : BitVec 32).toNat < 0x1000000 ∧
    (ready.bitFree 0 0x3FF ∧ ready.starts 0 0 (iBB 0x3C 0x3FF 0x200) ready) ∧
    (ready.bitFree 0 0xFFFF ∧ (ready.readBit 0 0xFFFF).1 = some false ∧ ((ready.readBit 0 0xFFFF).2.cp 0).calm ∧
      ready.starts 0 0 (iXB 0x311 1 2 0 0xFFFF8000 true []) ready) := by
  refine ⟨ready_starts _ rfl, ready_starts _ rfl, ready_starts _ rfl, by decide,
    ⟨bit_free _, ready_starts _ rfl⟩, bit_free _, by decide +kernel, ⟨?_, ?_, ?_, ?_⟩, ready_starts _ rfl⟩
  iterate 4 decide +kernel

theorem witness_LoopAndTrapResults :
    (ready.starts 0 0 (mkInsn 2 (enc2 0x30 (1 * 2 ^ 16 + 0xFFFF)) true false [1] []) ready ∧ ready.g 0 1 ≠ 0) ∧
    (ready.starts 0 0 (mkInsn 2 (enc2 0x30 (0 * 2 ^ 16 + 0xFFFF)) true false [0] []) ready ∧ ready.g 0 0 = 0) ∧
    ready.starts 0 0 (mkInsn 2 (enc2 0x36 (lowRRR 0 0 0 255)) true false [] []) ready := by
  refine ⟨⟨ready_starts _ rfl, ?_⟩, ⟨ready_starts _ rfl, ?_⟩, ready_starts _ rfl⟩ <;> decide +kernel

/-! ### Loads and stores -/

theorem witness_LoadResults :
    ready.starts 0 0 (iMem 0x1B 1 3 0) ready ∧ ready.starts 0 0 (iMemF 0x1F 1 3 0) ready ∧ ready.starts 0 0 (iMemK 0x21 1 3 0) ready ∧
    (ready.k 0 3).cursor + (0 : BitVec 12).toInt * 8 = (spadWin + 0x100 : Int) ∧
    (∃ w, ready.loads 0 3 (spadWin + 0x100 : Int) 1 0 [0] (spadBase + 0x100) w) ∧
    (∃ w, ready.loads 0 3 (spadWin + 0x100 : Int) 8 0 (List.replicate 8 0) (spadBase + 0x100) w) ∧
    (∃ w, ready.loads 0 3 (spadWin + 0x100 : Int) 32 32 (List.replicate 32 0) (spadBase + 0x100) w ∧
      (w.readTag ((spadBase + 0x100) / 16)).1 = false ∧ ((w.readTag ((spadBase + 0x100) / 16)).2.cp 0).calm) := by
  refine ⟨ready_starts _ rfl, ready_starts _ rfl, ready_starts _ rfl, by decide +kernel,
    loads_of (sp := [(spadBase + 0x100, 1)]) (by decide +kernel) (by decide +kernel) (by decide +kernel) ?_,
    loads_of (sp := [(spadBase + 0x100, 8)]) (by decide +kernel) (by decide +kernel) (by decide +kernel) ?_,
    _, ⟨by decide +kernel, [(spadBase + 0x100, 32)], _, _, Prod.ext (by decide +kernel) rfl, Prod.ext rfl rfl, rfl, rfl, ?_⟩, ?_, ?_⟩
  · refine ⟨?_, ?_, ?_, ?_⟩ <;> decide +kernel
  · refine ⟨?_, ?_, ?_, ?_⟩ <;> decide +kernel
  · refine ⟨?_, ?_, ?_, ?_⟩ <;> decide +kernel
  · decide +kernel
  · refine ⟨?_, ?_, ?_, ?_⟩ <;> decide +kernel


theorem witness_StoreInstructionResults :
    (∃ g, ready.stores 0 .w 1 3 (spadWin + 0x100 : Int) ⟨leBytes 8 0x123456789, none, 8⟩ [(spadBase + 0x100, 8)] g) ∧
    (∃ g, ready.stores 0 .k 3 3 (spadWin + 0x100 : Int) ⟨leBytes 16 dataCap.bits.toNat, some true, 16⟩ [(spadBase + 0x100, 16)] g) ∧
    (∃ g, ready.stores 0 .d 2 3 (spadWin + 0x100 : Int)
      ⟨leBytes 16 dataCap.bits.toNat ++ leBytes 16 (ready.d 0 2).high, some true, 32⟩ [(spadBase + 0x100, 32)] g) ∧
    ready.starts 0 0 (iMem 0x1E 1 3 0) ready ∧ (ready.d 0 2).err = Err.zero := by
  refine ⟨stores_of (by decide +kernel) rfl (by decide) (by decide +kernel) (by decide +kernel) (by decide +kernel),
    stores_of (f1 := ready) (by decide +kernel) (by decide +kernel) (by decide +kernel) (by decide +kernel) (by decide +kernel) (by decide +kernel),
    stores_of (f1 := ready) (by decide +kernel) (by decide +kernel) (by decide +kernel) (by decide +kernel) (by decide +kernel) (by decide +kernel),
    ready_starts _ rfl, by decide +kernel⟩

/-- A CP that waits with a store of G1 through K3, or with another kind of work. -/
def readyStall (x : Stall) : State := ready.modCp 0 (fun p => { p with stall := x })

theorem witness_ConditionalStoreResults :
    ready.starts 0 0 (iMem 0x24 1 3 0) ready ∧
    (∃ g, ready.stores 0 .c 1 3 (spadWin + 0x100 : Int) ⟨leBytes 8 0x123456789, none, 8⟩ [(spadBase + 0x100, 8)] g ∧
      (g.cp 0).resv ≠ some ((spadBase + 0x100) / 64)) ∧
    (∃ g, (ready.modCp 0 (fun p => { p with resv := some ((spadBase + 0x100) / 64) })).stores 0 .c 1 3 (spadWin + 0x100 : Int)
      ⟨leBytes 8 0x123456789, none, 8⟩ [(spadBase + 0x100, 8)] g ∧ (g.cp 0).resv = some ((spadBase + 0x100) / 64)) ∧
    ((readyStall (.store .w 1 3 0 (BitVec.allOnes 64))).lead 0 = 0 ∧
      ((readyStall (.store .w 1 3 0 (BitVec.allOnes 64))).cp 0).stall = .store .w 1 3 0 (BitVec.allOnes 64) ∧
      ((readyStall (.store .w 1 3 0 (BitVec.allOnes 64))).cp 0).run = .running) := by
  refine ⟨ready_starts _ rfl, ?_, ?_, by decide +kernel⟩
  · refine ⟨_, ⟨ready, by decide +kernel, by decide +kernel, by decide, by decide +kernel, _, Prod.ext (by decide +kernel) rfl,
      passes_of (by decide +kernel)⟩, ?_⟩
    decide +kernel
  · refine ⟨_, ⟨_, rfl, by decide +kernel, by decide, by decide +kernel, _, Prod.ext (by decide +kernel) rfl,
      passes_of (by decide +kernel)⟩, ?_⟩
    decide +kernel

theorem witness_CapabilityChecks :
    Cap.null.tag = false ∧ (dataCap.tag = true ∧ dataCap.otype = 0 ∧ (∀ p ∈ [permR, permW], dataCap.has p = true)) ∧
    ({ dataCap.withType 5 true with tag := true }).otype ≠ 0 ∧ dataCap.has 14 = false ∧
    ((spadWin + 0x400000 : Int) = dataCap.top ∧ (spadWin : Int) = dataCap.base) ∧
    (ready.starts 0 0 (iMem 0x1B 1 4 0) ready ∧ (ready.k 0 4).check [permR] (memAddr (ready.k 0 4) 0 8) 8 0 = some 1) := by
  refine ⟨by decide, by decide, by decide, by decide, by decide, ready_starts _ rfl, by decide +kernel⟩

theorem witness_MemoryReadBackAndFrames :
    mapWf memDefault ready.mem = true ∧ mapWf tagDefault ready.tags = true ∧ ready.errs = [] ∧ ready.rdB INJ_STAT.ARMED = false ∧
    ready.lockstepCl (clOf 0) = false ∧ ([1, 2] : List Byte) ≠ [] ∧ ((State.reset.modA 0 (fun a => { a with modeOn := 0 })).cp 0).a.dce = false ∧
    State.reset.mesh.bad = [] := by decide +kernel

/-! ### Capabilities, heap, control registers -/

/-- `dataCap` sealed with type 0. -/
def sealedCap : Cap := dataCap.withType 7 true

/-- `ready` with an authority over the heap in K4, the sealing root at 7 in K5, and `dataCap` sealed with type 7 in K6. -/
def readyCaps : State :=
  ready.modA 0 (fun a => { a with
    k := ((a.k.set 4 (mkCap 0x80000000000000 0x3FFF 0 41 0x4000 0x4000 true)).set 5 (rootSeal.at 7)).set 6 sealedCap
    g := (a.g.set 8 0x10001).set 9 0x1000 })

theorem readyCaps_starts (i : Insn) (h : taken i = true) (hv : i.vop = none) : readyCaps.starts 0 0 i readyCaps := by
  simp only [taken, Bool.and_eq_true, decide_eq_true_eq, Bool.not_eq_true'] at h
  obtain ⟨⟨⟨h1, h2⟩, h3⟩, _⟩ := h
  have hb : ∀ n : Fin 5, readyCaps.breakAt 0 (readyCaps.pc 0 + n.val) = none := by decide +kernel
  have hf : ∀ n : Fin 5, (readyCaps.atInsn 0).fetchFault 0 (((readyCaps.atInsn 0).cp 0).a.pc.toNat) n.val = (none, readyCaps) := by decide +kernel
  have hd : (readyCaps.cp 0).a.delay = none := by decide +kernel
  have hl : (readyCaps.cp 0).a.loopcnt = 0 := by decide +kernel
  refine ⟨⟨?_, ?_, ?_, ?_, ?_⟩, .inr ⟨hb 0, fun _ => hb ⟨i.len, h1⟩⟩, ?_, ⟨h2, h3, fun _ => hd, fun h _ => absurd hl h⟩,
    ⟨fun n _ => rfl, fun n _ => rfl⟩, ⟨?_, ?_, ?_, ?_⟩⟩
  iterate 5 decide +kernel
  · unfold State.fetches State.fetch
    rw [hf ⟨i.len, h1⟩]
    simp [State.decodeFault, h2, h3, hd, hl, hv]
  iterate 4 decide +kernel

theorem witness_CapabilityResults :
    readyCaps.starts 0 0 (iCap 0x00 1 3 0 []) readyCaps ∧ ¬ ((readyCaps.k 0 3).tag = true ∧ (readyCaps.k 0 3).otype ≠ 0) ∧
    (readyCaps.k 0 5).sealCheck permSeal = none ∧
    (tightBounds (readyCaps.k 0 3).cursor (readyCaps.g 0 9).toNat = some (0, spadWin + 0x100, spadWin + 0x1100) ∧
      ¬ ((readyCaps.k 0 3).tag = true ∧ (spadWin + 0x100 < (readyCaps.k 0 3).base ∨ (readyCaps.k 0 3).top < spadWin + 0x1100))) ∧
    (tightBounds (2 ^ 56 - 1) (2 ^ 63) = none ∧ (readyCaps.k 0 8).tag = false) ∧
    ((readyCaps.k 0 5).sealCheck permUnseal = none ∧ (readyCaps.k 0 5).cursor = (readyCaps.k 0 6).otype ∧ (readyCaps.k 0 6).otype < hwType) := by
  refine ⟨readyCaps_starts _ rfl rfl, ?_, ?_, ?_, ?_, ?_⟩ <;> decide +kernel

/-- R117's example: at 0x4_68A0_0000_0000 a region of 0x61A9 × 8 bytes needs the exponent 3. -/
theorem test_kbnd_example :
    tightBounds (0x468A * 8) (0x61A9 * 8) = some (3, 0x468A * 8, (0x468A + 0x61A9) * 8) ∧
    (Cap.null.bound 3 (0x468A * 8) ((0x468A + 0x61A9) * 8) false).lm = 0x61A9 := by decide +kernel

theorem witness_DerivedCapabilityRights :
    Cap.null.tag = false ∧ (7 : Nat) < 2 ^ 18 ∧ tightBounds 5 0 = some (0, 5, 5) ∧ tightBounds 0 0 = none ∧ tightBounds 0x1001 0x20000 = some (2, 0x1000, 0x21004) ∧
    (0 : Nat) < 0x20000 ∧ (1 : Nat) < 2 := by decide +kernel

theorem witness_HeapAllocationResults :
    (let p := (readyCaps.cpPart 0).getD 0
     let kb := readyCaps.k 0 4
     kb.tag = true ∧ kb.otype = 0 ∧ kb.has permAlloc = true ∧ readyCaps.g 0 8 ≠ 0 ∧ (readyCaps.g 0 8).toNat ≤ 2 ^ 40 ∧
     ((readyCaps.part p).heapTake (readyCaps.heapWin p) 0x20000).any (fun q =>
       decide (kb.base ≤ q.1) && decide (q.1 + 0x20000 ≤ kb.top) && (regionCap q.1 0x20000 kb.perms.toNat).isSome) = true) ∧
    readyCaps.starts 0 0 (iCap 0x0C 1 8 4 [8]) readyCaps ∧
    (let ka := mkCap 0x80000000000000 0x3FFF 0 1 0 0x8000 true
     ka.tag = true ∧ ka.otype = 0 ∧ ka.has permAlloc = true ∧ (ready.heapWin 0).1 ≤ ka.base ∧ ka.top ≤ (ready.heapWin 0).2 ∧
     (ready.part 0).inQuarantine (ka.base, ka.top - ka.base) = false ∧ (ready.cp 0).vq.entries = [] ∧ (ready.cp 0).vq.pend = false ∧
     (ready.part 0).qFull = false ∧ ((ready.cfree 0 ka.base ka.top).cp 0).wp = none) ∧
    ((readyStall (.cfree 3)).cp 0).stall = .cfree 3 := by
  refine ⟨?_, readyCaps_starts _ rfl rfl, ?_, ?_⟩ <;> decide +kernel

/-- `ready` under a program capability without SYSTEM. -/
def readyUser : State := ready.modA 0 (fun a => { a with pcc := a.pcc.withPerms 4 })

theorem witness_ControlRegisterAccess :
    ready.starts 0 0 (iCreg 0x29 1 1 0) ready ∧ crListed 1 = true ∧ crListed 0x0B = true ∧ crSystem 1 = true ∧
    (ready.cp 0).a.sys = true ∧ (ready.cp 0).vq.pend = false ∧ (readyUser.turn 0 0 ∧ (readyUser.cp 0).a.sys = false) := by
  refine ⟨ready_starts _ rfl, by decide, by decide, by decide, by decide +kernel, by decide +kernel, ⟨?_, ?_, ?_, ?_, ?_⟩, ?_⟩ <;>
    decide +kernel

/-! ### Synchronisation, interrupts, timers, ports -/

/-- An add of one I64 stream. -/
def anyEntry : VEntry :=
  { op := 0x40, v := ⟨2, 2, 2, 0, 0, 2, 0, true, false, 0⟩, pc := 0, vl := 2048, ct := false, det := false, rnd := 0, ftz := false,
    daz := false, scalar := none, dD := some (readyD 2), dA := some (readyD 2), dB := some (readyD 2), dC := none, dM := none, ex := [],
    joins := false, cut := false, partials := [], flags := 0, err := Err.zero }

/-- `ready` with that add in the queue of CP 0. -/
def readyQueue : State := ready.modVq 0 (fun q => { q with entries := [anyEntry] })

theorem witness_SynchronisationAndWaitResults :
    (ready.starts 0 0 (iCtl 0x01 false) ready ∧ ready.lead 0 = 0 ∧ ¬ ((ready.cp 0).sync.a.vfi = true ∧ (ready.cp 0).vq.pend = true)) ∧
    (let v := ready.modCp 0 (fun p => { p with a := { p.a with mode := 2 }, vq := { p.vq with pend := true } });
      (v.cp 0).sync.a.vfi = true ∧ (v.cp 0).vq.pend = true) ∧
    ((ready.cp 0).vq.entries = [] ∧ (ready.cp 0).vq.pend = false ∧ (readyQueue.cp 0).vq.entries ≠ []) ∧
    ready.lockstepCl (clOf 0) = false ∧ (readyIrq.cp 0).anyIrq = true ∧ (ready.cp 0).anyIrq = false ∧ (ready.cp 0).run = .running ∧
    (ready.starts 0 0 (iCtl (0x10 + 3) true) ready ∧ (ready.cp 0).lock = 0) ∧
    ((ready.modCp 0 (fun p => { p with lock := 4 })).cp 0).lock ≠ 0 ∧
    ((readyStall .vsync).cp 0).stall = .vsync ∧ ((readyStall .vector).cp 0).stall = .vector ∧
    (let w := readyIrq.modCp 0 (fun p => { p with stall := .wait });
      (w.cp 0).stall = .wait ∧ (w.cp 0).anyIrq = true ∧ (w.modCp 0 (fun p => { p with stall := .none })).irqBefore 0 = some (5, 7)) ∧
    (let w := (readyIrq.modA 0 (fun a => { a with xmask := 7 })).modCp 0 (fun p => { p with stall := .wait });
      (w.cp 0).anyIrq = true ∧ (w.modCp 0 (fun p => { p with stall := .none })).irqBefore 0 = none) := by
  refine ⟨⟨ready_starts _ rfl, ?_, ?_⟩, ?_, ?_, ?_, ?_, ?_, ?_, ⟨ready_starts _ rfl, ?_⟩, ?_, ?_, ?_, ?_, ?_⟩ <;>
    decide +kernel

/-- Inside a handler that an entry from `readyFrame` began: K3 has moved to its frame. -/
def readyHandler : State := (readyFrame.raise 0 cTrap 0 2)

theorem witness_ReturnFromException :
    ready.starts 0 0 (iCtl 0x03 true) ready ∧
    (let a := (ready.cp 0).a; (!bitOf a.xframeOn 4 || !(a.k[0]).tag) = true) ∧
    (let f := readyHandler
     let a := (f.cp 0).a
     let k := a.k[3]
     frameReg a = 3 ∧ k.tag = true ∧ k.otype = 0 ∧ k.has permR = true ∧ k.has permW = true ∧ k.has permLoadCap = true ∧
     k.cursor = spadWin + 0x80 ∧ k.base ≤ k.cursor ∧ k.cursor + 128 ≤ k.top ∧
     (f.spans (f.cpAccess 0 3 k false) k.cursor 128).1 = .ok [(spadBase + 0x80, 64), (spadBase + 0xC0, 64)] ∧
     (f.spans (f.cpAccess 0 3 k true) k.cursor 16).1 = .ok [(spadBase + 0x80, 16)] ∧
     (f.readTag ((spadBase + 0x80) / 16)).1 = true ∧ (f.readTag ((spadBase + 0x90) / 16)).1 = true ∧
     (let sw := capOfBytes (f.bytesAt (spadBase + 0x80) 16) true
      sw.otype = 0x3FFFF ∧ sw.base = k.cursor ∧ sw.top = k.cursor + 128) ∧
     pccCheck (f.filterTag 0 (capOfBytes (f.bytesAt (spadBase + 0x90) 16) true)) a.pcc = none ∧
     (f.cp 0).run = .running ∧ a.xpc = 2 ∧ (f.compareWith State.bucket 0 4 2).1 = false) := by
  refine ⟨ready_starts _ rfl, ?_, ?_⟩ <;> decide +kernel


theorem witness_InterruptDeliveryResults :
    (readyIrq.lead 0 = 0 ∧ readyIrq.cpsGo = true ∧ (readyIrq.cp 0).run = .running ∧ (readyIrq.cp 0).stall.takesIrq = true ∧
      readyIrq.irqBefore 0 = some (5, 7) ∧ ready.irqBefore 0 = none) ∧
    (let w := readyIrq.modCp 0 (fun p => { p with entryWin := some ⟨9⟩ });
      (w.cp 0).entryWin = some ⟨9⟩ ∧ (w.cp 0).topIrq (w.cp 0).a.xmask.toNat = some (5, 7) ∧ (5 : Nat) < 256 ∧ 5 ≠ (9 : Byte).toNat) ∧
    ((ready.cp 0).entryWin = none ∧ (readyIrq.cp 0).topIrq 6 = some (5, 7) ∧ (readyIrq.cp 0).topIrq 7 = none) := by decide +kernel

theorem witness_CpResetAndTimerResults :
    ready.lead 0 = 0 ∧ (ready.cp 5).run = .inReset ∧ ready.lead 5 = 5 ∧ (ready.cp 0).run ≠ .inReset ∧
    (let t := ready.modCp 0 (fun p => { p with timers := p.timers.set 3 ⟨7, 7, true, true, false⟩ });
      ((t.cp 0).timers[3]).en = true ∧ (t.cp 0).run ≠ .halted ∧ ((ready.cp 0).timers[3]).en = false) ∧
    (let w := ready.modCp 0 (fun p => { p with wdg := { p.wdg with en := true, warn := 5, lock := true } });
      (w.cp 0).wdg.lock = true ∧ (w.cp 0).wdg.en = true ∧ (w.cp 0).wdg.warn ≠ 0 ∧ (w.cp 0).run ≠ .inReset ∧ w.wdgFrozen 0 = false ∧
      (ready.cp 0).wdg.lock = false ∧ (ready.cp 0).wdg.en = false ∧ (ready.cp 0).wdg.action = false) ∧ (0x4B1D : BitVec 16) ≠ 0x4B1C := by
  decide +kernel

theorem witness_PortResults :
    (portOf (ready.g 0 0) 0x100 = 0x800 ∧ portSystem 0x800 = true ∧ (ready.cp 0).a.sys = true ∧ localPort 0x800 = true ∧
      portKnown 0x800 = true ∧ (ready.localRead 0 0x800).1.isSome = true ∧ ((ready.localRead 0 0x800).2.cp 0).wp = none) ∧
    (portSystem 0x10000 = true ∧ localPort 0x10000 = false ∧ (∃ g, ready.passes 0 2 0x10000 g) ∧ (ready.cp 0).stepping = false) ∧
    ((readyUser.cp 0).a.sys = false ∧ ready.starts 0 0 (iPort 0x27 1 0 0x100) ready ∧ ready.starts 0 0 (iX 0x323 1 0 0 0x800 [1] []) ready) ∧
    (let w := readyStall (.inPort 1 0x03200010 2);
      (w.cp 0).stall = .inPort 1 0x03200010 2 ∧ (w.cp 0).run = .running ∧ (w.csRead (clOf 0).val (w.cpPart 0) true 0x03200010).1 = 0 ∧
      ((w.csRead (clOf 0).val (w.cpPart 0) true 0x03200010).2.2.cp 0).stall = .inPort 1 0x03200010 2) := by
  refine ⟨?_, ⟨?_, ?_, ⟨_, passes_of ?_⟩, ?_⟩, ⟨?_, ready_starts _ rfl, ready_starts _ rfl⟩, ?_⟩ <;> decide +kernel

/-! ### Vector instructions -/

/-- The register of `readyD` for an operand. -/
def pickD (o : Option VOperand) (t : Nat) : Reg :=
  match o with
  | some x => (match x.ty.types t with | y :: _ => ⟨y % 16, by omega⟩ | [] => 0)
  | none => 0

/-- An encoding of a long-vector opcode that is not reserved and whose streams are those of `readyD`. -/
def vecCase (op : Nat) : VecFields :=
  match vrow op with
  | none => ⟨0, 0, 0, 0, 0, 0, 0, false, false, 0⟩
  | some r =>
    let t := if op = 0x80 ∨ op = 0x81 ∨ op = 0x84 then 1 else if op = 0x82 ∨ op = 0x83 then 6
      else if op = 0xE0 ∨ op = 0xE1 then 0xB else r.ts.headD 0
    let imm : Nat :=
      if op = 0x57 ∨ op = 0x58 ∨ op = 0xC0 ∨ op = 0x103 ∨ op = 0x104 ∨ op = 0x105 ∨ op = 0x107 ∨ op = 0x108 ∨ op = 0x184 then 0x1000
      else if op = 0x100 ∨ op = 0x101 ∨ op = 0x102 ∨ op = 0x106 then 0x2000 else if op = 0x109 then 0x3000 else if op = 0x146 then 0x80
      else if op = 0x180 then 0xE01 else if op = 0x185 then 0xC01 else 0
    ⟨if op = 0xE1 then 13 else pickD r.d t, if op = 0xE0 then 13 else pickD r.a t, if imm = 0x1000 ∧ op ≠ 0xC0 then 0 else pickD r.b t,
     pickD r.c t, 0, BitVec.ofNat 4 t, 0, false, false, BitVec.ofNat 14 imm⟩

/-- The checks of `State.vecIssues` on `ready`, as a Bool. -/
def issueOk (op : Nat) (v : VecFields) : Bool :=
  match vrow op with
  | none => false
  | some r =>
    match vDecode r v with
    | none => false
    | some im =>
      let run := if op = 0x0E0 then (ready.d 0 v.da).fields.toNat + 1 else if op = 0x0E1 then (ready.d 0 v.dd).fields.toNat + 1 else 1
      let l := (ready.vecStreams 0 op v r im).1
      (ready.readDs 0 ((streamsOf r im op v run).map (·.num))).1 == none && formChecks l (ready.cp 0).a.vl.toNat == none &&
        capChecks l v.tw == none

/-- The long-vector opcodes. -/
def longOps : List Nat :=
  List.range 0x0F ++ (List.range 0x19).map (0x40 + ·) ++ (List.range 5).map (0x80 + ·) ++ (List.range 8).map (0xA0 + ·) ++
  (List.range 5).map (0xC0 + ·) ++ [0xE0, 0xE1] ++ (List.range 10).map (0x100 + ·) ++ (List.range 9).map (0x140 + ·) ++
  (List.range 6).map (0x180 + ·)

/-- Every long-vector opcode has an encoding and streams that pass its checks: what `vecIssues` asks of the operands. -/
theorem witness_VectorIssueResults : longOps.all (fun op => issueOk op (vecCase op)) = true ∧ longOps.length = 85 := by decide +kernel

/-- One of them with the rest of its hypotheses: VADD I64. -/
theorem witness_VectorIssueResults_whole :
    ready.starts 0 0 (iVec 0x40 (vecCase 0x40) [] []) ready ∧
    (∃ im l g, ready.vecIssues 0 0x40 (vecCase 0x40) im l g ∧ ((g.enqueue 0 (ready.vecEntry g 0 0x40 (vecCase 0x40) im l)).cp 0).calm) := by
  refine ⟨ready_starts _ rfl, ⟨none, none, true⟩, _, _, ⟨rowBin tsInt .idu 0, by decide, by decide, by decide +kernel, rfl, by decide +kernel,
    by decide +kernel, by decide +kernel, by decide +kernel, by decide +kernel, passes_of (by decide +kernel), by decide +kernel⟩, ?_⟩
  refine ⟨?_, ?_, ?_, ?_⟩ <;> decide +kernel

theorem witness_VectorWaitAndQueueResults :
    (let w := readyStall (.issue 0x40 (vecCase 0x40)); w.lead 0 = 0 ∧ (w.cp 0).stall = .issue 0x40 (vecCase 0x40) ∧ (w.cp 0).run = .running) ∧
    (let w := (readyStall (.issue 0x40 (vecCase 0x40))).modVq 0 (fun q => { q with entries := List.replicate 32 anyEntry });
      32 ≤ (w.cp 0).vq.entries.length ∧ (w.cp 0).vq.flt = false ∧ (w.cp 0).stall = .issue 0x40 (vecCase 0x40)) ∧
    (0 < anyEntry.vl.toNat ∧ anyEntry.partials = [] ∧ (ready.cp 0).vq.entries = [] ∧ (ready.cp 0).vq.lo = 0 ∧ (ready.cp 0).vq.map = 0 ∧
      ready.rdB INJ_STAT.ARMED = false ∧ anyEntry.cut = false) := by decide +kernel

/-- An encoding of a short-vector opcode that is not reserved. -/
def shortCase (op : Nat) : VecFields :=
  match shortRow op with
  | none => ⟨0, 0, 0, 0, 0, 0, 0, false, false, 0⟩
  | some r =>
    let t := if op = 0x2D6 then 6 else if op = 0x2D7 then 1 else r.ts.headD 0
    let imm : Nat :=
      if op = 0x2B7 ∨ op = 0x2B8 ∨ op = 0x2D5 ∨ op = 0x2CB ∨ op = 0x2CC ∨ op = 0x2CD ∨ op = 0x2CF ∨ op = 0x2D0 then 0x1000
      else if op = 0x2C8 ∨ op = 0x2C9 ∨ op = 0x2CA ∨ op = 0x2CE then 0x2000 else if op = 0x2D1 then 0x3000 else 0
    ⟨0, 0, 0, 0, 0, BitVec.ofNat 4 t, 0, false, false, BitVec.ofNat 14 imm⟩

/-- The short-vector opcodes but SVLD and SVST. -/
def shortOps : List Nat :=
  (List.range 0x0F).map (0x280 + ·) ++ (List.range 0x19).map (0x2A0 + ·) ++ (List.range 0x12).map (0x2C0 + ·) ++ [0x2D4, 0x2D5, 0x2D6, 0x2D7]

theorem witness_ShortVectorResults :
    shortOps.all (fun op => (shortRow op).any (fun r => (shortDecode op r (shortCase op)).isSome)) = true ∧ shortOps.length = 62 ∧
    ready.starts 0 0 (iVec 0x2A0 (shortCase 0x2A0) (shortUses 0x2A0 (shortCase 0x2A0)).1 (shortUses 0x2A0 (shortCase 0x2A0)).2) ready := by
  refine ⟨?_, ?_, ready_starts _ rfl⟩ <;> decide +kernel

theorem witness_ShortVectorElementResults :
    (let x : ShortOps := { op := 0x40, t := 2, dt := 2, ct := 2, a := 3, b := 4, c := 0, scalar := none, imm := 0, env := ⟨0, false, false⟩ };
      x.op ≠ 0x054 ∧ 0 < tyWidth x.dt ∧ 7 < laneCount x.dt ∧ ((x.lane 0 true).map (·.d)) = some 7) ∧
    (memReserved ⟨0, 0, 3, 0, 0, 2, 0, false, false, 0⟩ 0 0 = false ∧ memAddr (ready.k 0 3) 0 64 = (spadWin + 0x100 : Int)) ∧
    (∃ w, ready.loads 0 3 (spadWin + 0x100 : Int) 64 0 (List.replicate 64 0) (spadBase + 0x100) w) ∧
    (∃ g, ready.stores 0 .v 0 3 (spadWin + 0x100 : Int) ⟨List.replicate 64 0, none, 64⟩ [(spadBase + 0x100, 64)] g) := by
  refine ⟨by decide +kernel, by decide +kernel, ⟨_, by decide +kernel, [(spadBase + 0x100, 64)], _, _,
    Prod.ext (by decide +kernel) rfl, Prod.ext rfl rfl, rfl, rfl, ?_⟩,
    stores_of (f1 := ready) (by decide +kernel) (by decide +kernel) (by decide) (by decide +kernel) (by decide +kernel) (by decide +kernel)⟩
  refine ⟨?_, ?_, ?_, ?_⟩ <;> decide +kernel

theorem witness_DescriptorInstructionResults :
    (descReserved ⟨1, 2, 0, 0, 0, 0, 0, false, false, 0⟩ true 0 = false ∧ descReserved ⟨1, 0, 0, 0, 0, 0, 0, false, false, 0x7C⟩ false 0x7F = false ∧
      (0x7C : BitVec 14).toNat % 16 < 13 ∧ descReserved ⟨1, 0, 0, 0, 0, 0, 0, false, false, 0x1500⟩ false 0x1FFF = false ∧
      nbits (0x1500 : BitVec 14).toNat 0 8 = 0 ∧ immSk (0x1500 : BitVec 14).toNat = 1 ∧
      descReserved ⟨1, 2, 0, 0, 0, 0, 0, false, false, 2⟩ true 2 = false) ∧
    ready.starts 0 0 (iDesc 0x2F0 ⟨1, 2, 0, 0, 0, 0, 0, false, false, 0⟩ []) ready ∧ (ready.readD 0 1).1 = some (readyD 1) ∧
    ready.rdB INJ_STAT.ARMED = false := by
  refine ⟨by decide +kernel, ready_starts _ rfl, ?_, ?_⟩ <;> decide +kernel


/-! ### The vector queue and the Issue Scheduler -/

/-- `ready` with the add of two strips in flight on pipes 0 and 1 as strips 0 and 1. -/
def readyFlights : State := ready.modVq 0 (fun q => { q with
  entries := [{ anyEntry with vl := 8, v := ⟨2, 2, 2, 0, 0, 2, 0, false, false, 0⟩ }], flights := [⟨0, 0, Err.zero⟩] })

/-- The same with streams at address 0, which no access may reach. -/
def readyFaulty : State := ready.modVq 0 (fun q => { q with
  entries := [{ anyEntry with vl := 8, dA := some { readyD 2 with cap := dataCap.move 0 } }], flights := [⟨0, 0, Err.zero⟩] })

/-- A saved queue in slot 63. -/
def readySlots : State := ready.modPart 0 (fun x => { x with slots := [⟨63, { VQueue.reset with entries := [anyEntry] }⟩], slotGrans := [(15, 9)] })

theorem witness_VectorQueueResults :
    (ready.lead 0 = 0 ∧ ready.cpPart 0 = some 0 ∧ ready.rd (VQ_CTL.STATE 0 0) ≠ 1 ∧ (ready.wr (VQ_CTL.STATE 0 0) 1).rd (VQ_CTL.STATE 0 0) = 1) ∧
    ((readyFlights.cp 0).vq.flights ≠ [] ∧ (readyQueue.cp 0).vq.flights = [] ∧ (readyQueue.cp 0).vq.win = [] ∧ (readyQueue.cp 0).vq.cow = [] ∧
      (readyQueue.cp 0).vq.entries ≠ [] ∧ (ready.cp 0).vq.entries = [] ∧ (ready.part 0).slots.find? (fun t => t.slot == 63) = none) ∧
    (((readySlots.part 0).slots.find? (fun t => t.slot == 63)).any (fun t => !t.vq.pend) = true ∧ (readySlots.cp 0).vq.entries = [] ∧
      (readySlots.part 0).slots.any (fun t => t.slot == 63) = true ∧ mapFind (readySlots.part 0).slotGrans (63 / 4) ≠ none) ∧
    (let w := readyQueue.modVq 0 (fun q => { q with stopping := true });
      (w.cp 0).vq.stopping = true ∧ (w.cp 0).vq.flights = [] ∧ (readyQueue.cp 0).vq.stopping = false) := by decide +kernel

/-- Whether a strip completes, and whether it meets a fault. -/
def isOk (x : VAcc SOut) : Bool := match x with | .ok _ => true | _ => false
/-- Whether a strip meets a fault. -/
def isFault (x : VAcc SOut) : Bool := match x with | .fault .. => true | _ => false

/-- A Lockstep partition, so that it has one logical CP, with a queue of one closed group and its pipes lit. -/
def readyOne (lit : Word) (entries : List VEntry) : State :=
  { readyFlights with
    parts := readyFlights.parts.set 0 { Part.reset with rcd := some { readyPart with lockstep := true }, lit := lit }
    cps := readyFlights.cps.set 0 { (readyFlights.cp 0) with vq := { VQueue.reset with entries := entries } } }

theorem witness_SchedulerResults :
    (readyFlights.lead 0 = 0 ∧ readyFlights.cpPart 0 = some 0 ∧ ((readyFlights.cp 0).vq.flights.find? (fun f => f.strip == 0)).isSome = true ∧
      (readyFlights.cp 0).vq.sLo = 0 ∧ readyFlights.shadowOn 0 = false ∧ isOk (readyFlights.runStrip 0 ⟨0, 0, Err.zero⟩ false).1 = true) ∧
    ((readyFaulty.cp 0).vq.sLo = 0 ∧ readyFaulty.shadowOn 0 = false ∧ isFault (readyFaulty.runStrip 0 ⟨0, 0, Err.zero⟩ false).1 = true) ∧
    (let w := readyQueue.modVq 0 (fun q => { q with faults := [⟨0, 0, 3, 8, 0⟩] });
      (w.cp 0).vq.faults = [⟨0, 0, 3, 8, 0⟩] ∧ (w.cp 0).vq.flights = [] ∧ (w.cp 0).vq.win = [] ∧ (w.cp 0).vq.cow = [] ∧
      ((w.cp 0).vq.group[0]?).isSome = true) ∧
    ((readyQueue.cp 0).vq.isOpen = true ∧ (ready.cp 0).vq.isOpen = false) ∧
    (let w := readyOne 1 [{ anyEntry with v := ⟨2, 2, 2, 0, 0, 2, 0, false, false, 0⟩ }];
      w.cpsOf 0 = [0] ∧ w.readyStrip 0 = some 0 ∧ (w.serveOrder 0 [0]).map (·.1) = [0] ∧ (w.place 0 0 0).isSome = true ∧
      w.pair.pressHold = false) ∧
    (let w := readyOne 0 [{ anyEntry with v := ⟨2, 2, 2, 0, 0, 2, 0, false, false, 0⟩ }];
      w.cpsOf 0 = [0] ∧ w.readyStrip 0 = some 0 ∧ w.place 0 0 0 = none) ∧
    (let w := readyOne 1 []; w.cpsOf 0 = [0] ∧ w.readyStrip 0 = none ∧ w.serveOrder 0 [] = []) ∧
    ((ready.wr (LA_STAT.LEAD 3) 1).rdB (LA_STAT.LEAD 3) = true ∧ (ready.wr (LA_STAT.RAMP 3) 1).rdB (LA_STAT.RAMP 3) = true ∧
      ready.pwr.la[3].wait = []) ∧
    ((bitOf ((readyOne (1#64 <<< 63) []).part 0).lit 63 = true ∧ (readyOne (1#64 <<< 63) []).onPipe 0 63 = 0 ∧
      (readyOne 1 []).rd (SCHED_CFG.PARK_IDLE 0) ≠ 0) ∧ readyFlights.onPipe 0 0 ≠ 0) := by decide +kernel

/-! ### Paging -/

/-- `ready` with 64 Cellar granules, the root table of partition 0, in granules 0 to 15. -/
def readyRoot : State :=
  { ready with
    mst := { ready.mst with celGran := 64, zCellar := 8, granules := (List.range 16).map (fun g => (g, ⟨0, 0, 0, .table⟩)) }
    parts := ready.parts.set 0 { ready.parts[0] with root := some 0 } }

/-- Page 2 is mapped to near granule 17, by tables in granule 16; its A and D bits are set. -/
def readyPage : State :=
  { readyRoot with
    mem := [(0, 1), (2, 16), (1048576, 1), (1048577, 16), (1048578, 16), (1052672, 1), (1052673, 32), (1052674, 16), (1056784, 3), (1056785, 12),
      (1056786, 17)]
    mst := { readyRoot.mst with granules := (List.range 18).map (fun g => (g, ⟨0, 0, 0, if g = 17 then .data else .table⟩)) }
    parts := ready.parts.set 0 { ready.parts[0] with root := some 0, tables := [(1048576, 4096), (1052672, 4096), (1056768, 256)] } }

/-- Page 2 migrates to a Cellar granule; with its writes held. -/
def readyMigr (held : Bool) : State :=
  readyPage.modM (fun m => { m with migr := [⟨0, 2, celGran0, held⟩], granules := mapInsert m.granules celGran0 ⟨0, 0, 0, .data⟩ })

/-- Page 2 with a bit of its leaf set, and asked to move. -/
def readyLeaf (bit : Nat) : State :=
  match readyPage.leafOf 0 2 with
  | some (ea, _, e) => ((readyPage.setPte ea (setBitOf e bit true)).modPart 0 (fun x => { x with moveQ := [2], turnOn := true })).wr TURN_CFG.PERIOD_MS 4
  | none => readyPage

theorem witness_MigrationAndSweepResults :
    ((ready.wr REV_STAT.OPEN 1).rdB REV_STAT.OPEN = true ∧ (ready.wr REV_STAT.OPEN 1).sweepPaused = false ∧
      ready.cps.toList.any (fun x => if x.vq.flt then decide (x.vq.group.length < x.vq.preSweep) else decide (x.vq.preSweep ≠ 0)) = false ∧
      ready.parts.toList.any (fun x => !x.slots.isEmpty) = false ∧ ready.rdB REV_STAT.OPEN = false ∧ mapWf tagDefault ready.tags = true ∧
      ready.errs = [] ∧ ready.rdB INJ_STAT.ARMED = false ∧ ready.mst.tagc.isEmpty = true ∧ ready.mst.samples.isEmpty = true) ∧
    ((readyPage.leafOf 0 2).any (fun l => turnable l.2.2 l.2.1 && decide (nbits l.2.2.toNat 2 1 = 0)) = true ∧ readyPage.pair.ship = none) ∧
    ((readyLeaf 9).leafOf 0 2).any (fun l =>
      turnable l.2.2 l.2.1 && (readyLeaf 9).turnTo 0 2 l.2.2 == some (1, false) && nbits l.2.2.toNat 2 1 == 0 &&
      (let w := (readyLeaf 9).modPart 0 (fun x => { x with moveQ := x.moveQ.filter (fun g => g ≠ 2) });
        (w.part 0).hint 2 (fun k => match k with | .layout .. => true | _ => false) == none && w.canSupply 0 1 1 &&
        (w.turnGranule 0 1 (nbits l.2.2.toNat 3 2) (nbits l.2.2.toNat 5 3) (nbits l.2.2.toNat 43 4)).isSome)) = true ∧
    ((readyLeaf 13).leafOf 0 2).any (fun l => !turnable l.2.2 l.2.1) = true ∧
    ((readyMigr false).migrOf 0 2 = some ⟨0, 2, celGran0, false⟩) ∧
    (readyMigr true).migrOf 0 2 = some ⟨0, 2, celGran0, true⟩ ∧ readyPage.migrOf 0 2 = none := by decide +kernel

/-- Without a tag or an error in the page, the copy leaves the list of granules. -/
theorem witness_MigrationAndSweepResults_copy :
    ((readyMigr false).migCopy 0 17 celGran0).mst.granules = (readyMigr false).mst.granules ∧
    (mapFind (readyMigr false).mst.granules celGran0).isSome = true ∧
    ((readyMigr false).leafOf 0 2).any (fun l => nbits l.2.2.toNat 16 27 == 17) = true :=
  ⟨quiet_copy (by decide +kernel) rfl rfl _ _ _, by decide +kernel, by decide +kernel⟩

theorem witness_PagingCommandResults :
    (ready.rd (PG_HINT.STATE 0) ≠ 1 ∧ (ready.wr (PG_HINT.STATE 0) 1).rd (PG_HINT.STATE 0) = 1 ∧ ready.rd (PG_HINT_LEN.PAGES 0) = 0) ∧
    (let w := (readyRoot.wr (PG_HINT_BASE.ADDR 0) 5).wr (PG_HINT_LEN.PAGES 0) 1;
      w.rd (PG_HINT_BASE.ADDR 0) = 5 ∧ w.rd (PG_HINT_LEN.PAGES 0) = 1 ∧ (w.part 0).guarded 5 = false ∧
      (w.part 0).inQuarantine (5 * 65536, 65536) = false ∧ (match w.walk 0 (5 * 65536) with | .missing _ _ => true | _ => false) = true ∧
      w.leavesIn 0 (6 * 65536) 0x1000000 (5 * 65536) = [] ∧ 5 % 32 ≠ 0) ∧
    (((ready.modPart 0 (fun x => { x with hintBusy := some (1, 1) })).part 0).hintBusy ≠ none ∧ (ready.part 0).hintBusy = none) ∧
    (ready.rd (ALLOC_STAT.LIVE 0) = 0 ∧ (ready.part 0).qActive = [] ∧ (ready.part 0).qNext = [] ∧
      (ready.wr (ALLOC_STAT.LIVE 0) 1).rd (ALLOC_STAT.LIVE 0) ≠ 0) := by decide +kernel


/-! ### Upkeep, injections, events -/

theorem witness_UpkeepAndScrubResults :
    (let w := ready.wr (NM_STAT.TRAINED 15) 1; w.rdB (NM_STAT.TRAINED 15) = true ∧ w.rdB (NM_STAT.SELFREF 15) = false ∧ w.shed = 0 ∧
      w.armed 0x1C 15 = false ∧ w.mst.slotAgain.contains 511 = false) ∧
    (let w := (ready.wr (NM_STAT.TRAINED 15) 1).wr SHED_LEVEL.LEVEL 1; 1 ≤ w.shed ∧ w.shed ≤ 5) ∧
    (let w := ready.modM (fun m => { m with acts := [(bankKey 1 2 3, 512)] });
      64 * max 4 (w.rd (NM_CFG.RH_THRESH 1)) ≤ mapGet (fun _ => 0) w.mst.acts (bankKey 1 2 3) ∧
      mapGet (fun _ => 0) w.mst.acts (bankKey 1 2 4) < 64 * max 4 (w.rd (NM_CFG.RH_THRESH 1))) ∧
    (ready.rd (NM_TEMP.WLTEMP 0) < (0x55 : BitVec 8).toNat + 5 ∧ (0x04 : BitVec 8).toNat < ready.rd (NM_TEMP.WLTEMP 0) + 5 ∧
      ready.rd (NM_TEMP.WLTEMP 0) + 5 ≤ (0x05 : BitVec 8).toNat ∧ bitOf ready.mst.wlPend 0 = false) ∧
    ((ready.wr (CC_STAT.TRAINED 7) 1).rdB (CC_STAT.TRAINED 7) = true ∧ (ready.wr (CC_STAT.TRAINED 7) 1).rdB (CC_STAT.SELFREF 7) = false) ∧
    (ready.armed 0x1B 15 = false ∧ (15 : Nat) < 16 ∧ (7 : Fin 16).val < 8) ∧
    (let w := ready.wr SCRUB_CFG.EN 1; w.scrubStopped = false ∧ w.rdB SCRUB_CFG.EN = true ∧ 0 < w.mst.nearGran ∧
      w.inMigration (w.mst.nearPos * 32) = false) ∧
    (let w := (ready.wr SCRUB_CFG.EN 1).modM (fun m => { m with celGran := 1, celPos := 1023 });
      w.scrubStopped = false ∧ 0 < w.mst.celGran ∧ w.inMigration (celBase + w.mst.celPos * 64) = false ∧ ¬ w.mst.celPos + 1 < w.mst.celGran * 1024) ∧
    ((ready.wr SHED_LEVEL.LEVEL 4).scrubStopped = true) ∧
    ((ready.wr (BKT_CFG.LEAK_MS 31) 1).rd (BKT_CFG.LEAK_MS 31) ≠ 0 ∧ (ready.wr (BKT_CFG.LEAK_MS 31) 0).rd (BKT_CFG.LEAK_MS 31) = 0) ∧
    (ready.rdB INJ_STAT.ARMED = false ∧ ready.rd INJ_SEL.POINT ≠ 0x22 ∧ ¬ (0x40 ≤ ready.rd INJ_SEL.POINT) ∧ ready.rdB ERR_CTL.RAW_EN = false ∧
      (ready.wr INJ_STAT.ARMED 1).rdB INJ_STAT.ARMED = true) ∧
    (let w := { ready with csr := [(INJ_SEL.adr, INJ_SEL.POINT.setIn 0 0x45), (SEC_STAT.adr, SEC_STAT.DBG_CLOSED.setIn 0 1)] };
      0x40 ≤ w.rd INJ_SEL.POINT ∧ w.rd INJ_SEL.POINT ≤ 0x45 ∧ w.rdB SEC_STAT.DBG_CLOSED = true) ∧
    (let w (n : Nat) := (ready.wr ERR_CTL.RAW_EN 1).wr RAW_CTL.TARGET n;
      (w 3).rd RAW_CTL.TARGET = 3 ∧ (w 3).rdB ERR_CTL.RAW_EN = true ∧ (w 0).rd RAW_CTL.TARGET = 0 ∧ (w 2).rd RAW_CTL.TARGET = 2 ∧
      (w 0).rd RAW_ADDR.ADDR < (w 0).mst.nearGran * 65536 ∧ (w 2).rdB RAW_CTL.WRITE = false ∧ ((w 2).wr RAW_CTL.WRITE 1).rdB RAW_CTL.WRITE = true ∧
      mapWf memDefault (w 2).mem = true ∧ mapWf errDefault (w 2).errs = true) ∧
    (let w := (((ready.wr ERR_CTL.RAW_EN 1).wr RAW_CTL.TARGET 1).wr RAW_ADDR.ADDR celBase).modM (fun m => { m with celGran := 1 });
      w.rd RAW_CTL.TARGET = 1 ∧ celBase ≤ w.rd RAW_ADDR.ADDR ∧ w.rd RAW_ADDR.ADDR < celBase + w.mst.celGran * 65536) := by decide +kernel

/-- Consumer 0x2000, STRIP_GO of CP 0, selects line 5. -/
def readyEvt : State := ready.modE (fun e => { e with on := [(EVT_SEL.adr 0x2000, 5)], dark := false })

theorem witness_EventRouterResults :
    (let w := ready.modE (fun e => { e with fired := [(5, 0)] });
      mapFind w.evt.fired 5 = some 0 ∧ w.now < 0 + max 16 (w.rd (EVT_PROD.REFRACT_NS 5))) ∧
    (ready.consumerBusy 0x2090 = false ∧ (readyEvt.modE (fun e => { e with pulse := 1 })).consumerBusy 0x2090 = true ∧
      ready.rdB (EVT_SEL.PEND 0x2090) = false ∧ (ready.wr (EVT_SEL.PEND 0x2090) 1).rdB (EVT_SEL.PEND 0x2090) = true) ∧
    (mapFind readyEvt.evt.fired 5 = none ∧ (∀ k : Fin 64, readyEvt.chanTakes k.val 5 = false) ∧ readyEvt.consumersOf 5 = [0x2000]) ∧
    ((ready.wr EVT_COMMIT.STATE 1).rd EVT_COMMIT.STATE = 1 ∧ ready.rd EVT_COMMIT.STATE ≠ 1) ∧
    (reservedSetting [(EVT_SEL.adr 0x2000, 0x1FFF)] = some (some 0x2000) ∧ reservedSetting [(EVT_SEL.adr 0x2000, 5)] = none ∧
      ungatedLoop [(EVT_SEL.adr 0x2000, 5)] = none ∧
      reservedSetting [(EVT_SEL.adr 0x2040, 0x1C0)] = none ∧ ungatedLoop [(EVT_SEL.adr 0x2040, 0x1C0)] = some 0x2040) ∧
    ((let w := (ready.wr (EVT_CH_STAT.HELD 63) 1).wr (EVT_GRP.EN 7) 1;
      w.rdB (EVT_CH_STAT.HELD 63) = true ∧ w.rdB (EVT_GRP.EN (63 / 8)) = true ∧ w.chanFrozen 63 = false) ∧ ready.rdB (EVT_CH_STAT.HELD 63) = false) ∧
    consumerOk 0x2090 = true := by decide +kernel


/-! ### The transport -/

theorem leBytes_leNat (l : List Byte) : leBytes l.length (leNat l) = l := by
  induction l with
  | nil => rfl
  | cons b bs ih =>
    simp only [List.length_cons, leBytes, leNat]
    have h1 : (b.toNat + 256 * leNat bs) / 256 = leNat bs := by omega
    have h2 : BitVec.ofNat 8 (b.toNat + 256 * leNat bs) = b := by
      apply BitVec.eq_of_toNat_eq
      rw [BitVec.toNat_ofNat]
      omega
    rw [h1, h2, ih]

theorem leNat_lt (l : List Byte) : leNat l < 256 ^ l.length := by
  induction l with
  | nil => decide
  | cons b bs ih =>
    have := b.isLt
    simp only [List.length_cons, leNat, Nat.pow_succ]
    omega

/-- The number of a tag: that of the token with the first four bytes `hd`, under an empty key. -/
def tagNat (hd : Nat) : Nat := leNat (tokenTag [] (leBytes 4 hd))

theorem tagNat_lt (hd : Nat) : tagNat hd < 2 ^ 96 := by
  have h := leNat_lt (tokenTag [] (leBytes 4 hd))
  have l : (tokenTag [] (leBytes 4 hd)).length = 12 := by simp [tokenTag]
  rw [l] at h
  exact h

/-- A token with its tag. -/
def token (hd : Nat) : BitVec 128 := BitVec.ofNat 128 (hd + 2 ^ 32 * tagNat hd)

theorem token_toNat {hd : Nat} (h : hd < 2 ^ 32) : (token hd).toNat = hd + 2 ^ 32 * tagNat hd := by
  have := tagNat_lt hd
  rw [token, BitVec.toNat_ofNat]
  exact Nat.mod_eq_of_lt (by omega)

theorem token_tag {hd : Nat} (h : hd < 2 ^ 32) :
    leBytes 12 ((token hd).toNat / 2 ^ 32) = tokenTag [] (leBytes 4 ((token hd).toNat % 2 ^ 32)) := by
  rw [token_toNat h]
  have h1 : (hd + 2 ^ 32 * tagNat hd) / 2 ^ 32 = tagNat hd := by omega
  have h2 : (hd + 2 ^ 32 * tagNat hd) % 2 ^ 32 = hd := by omega
  have l : (tokenTag [] (leBytes 4 hd)).length = 12 := by simp [tokenTag]
  rw [h1, h2, tagNat, ← l]
  exact leBytes_leNat _

theorem token_index {hd : Nat} (h : hd < 2 ^ 32) : (token hd).toNat % 2 ^ 16 = hd % 2 ^ 16 := by rw [token_toNat h]; omega

theorem token_bits {hd lo n : Nat} (h : hd < 2 ^ 32) (hn : lo + n ≤ 32) : nbits (token hd).toNat lo n = nbits hd lo n := by
  rw [token_toNat h]
  simp only [nbits]
  obtain ⟨k, hk⟩ : ∃ k, 32 = lo + n + k := ⟨32 - (lo + n), by omega⟩
  have e : 2 ^ 32 * tagNat hd = 2 ^ lo * (2 ^ n * (2 ^ k * tagNat hd)) := by
    rw [hk, Nat.pow_add, Nat.pow_add]; simp [Nat.mul_assoc]
  rw [e, Nat.add_mul_div_left _ _ (Nat.two_pow_pos lo), Nat.add_mul_mod_self_left]

/-- A token that its tag and the entry of the table let pass (R460). -/
theorem token_passes {s : State} {f : KwtFrame} {right len : Nat} {bounded : Bool} {hd : Nat} (h : hd < 2 ^ 32) (hk : s.net.tokKey = [])
    (ht : f.token = token hd) (ha : s.armed 0x43 (s.rd INJ_SEL.INST) = false) (hr : nbits hd 16 3 = (s.tokEnt (hd % 2 ^ 16)).rights.toNat)
    (hc : (s.tokEnt (hd % 2 ^ 16)).check (BitVec.ofNat 8 (nbits hd 24 8)) right
      (match s.sessHome f.session.toNat with | some x => x.1 | none => 0) (some f.session.toNat) f.offset.toNat len bounded = 0) :
    s.tokenCheck f right len bounded = (0, s) := by
  have h1 := token_tag h
  unfold State.tokenCheck State.inject
  simp only [ha, ht, hk, h1, token_index h, token_bits (lo := 16) (n := 3) h (by decide), token_bits (lo := 24) (n := 8) h (by decide), hr,
    true_or, if_true, Bool.false_eq_true, if_false, decide_true, Bool.not_false, Bool.and_self, Bool.not_true]
  exact Prod.ext hc (if_neg (fun e => absurd (hc.symm.trans e) (by decide)))

/-- Token 1 of session 16: WRITE, READ and SUBMIT on page 2; queue set 0 has a ring of 16 slots under token 2. -/
def readyNet : State :=
  (((((((((readyPage.wr (ETH_CFG.EN 0) 1).wr (ETH_CFG.EN 3) 1).wr (SESS_STAT.STATE 16) 2).wr (SESS_STAT.STATE 0) 2).wr (QS_CTL.EN 0) 1).wr
    (QS_CFG.SLOTS_M1 0) 15).wr (QS_CFG.RING_IDX 0) 2).wr (QS_CFG.RING_GEN 0) 3).wr (QS_HEAD.HEAD 0) 15).modN (fun e => { e with
      tok := [(1, ⟨true, 5, 0, 7, 0x21000, 0x21000, 0x23000, 0, none⟩), (2, ⟨true, 3, 0, 7, 0x23000, 0x23000, 0x25000, 0, none⟩)] })

/-- A frame of session 16 on E0. -/
def readyFrm (op : Byte) (len : BitVec 16) (arg : Word) : KwtFrame :=
  let bs := List.replicate len.toNat (7 : Byte)
  { port := 0, sub := 0, srcMac := 1, srcIp := 2, srcUdp := 3, ver := 1, op := op, flags := 2, session := 16, len := len, seq := 0,
    ack := 0, token := token 0x05070001, offset := 8, arg := arg, payload := bs, trailer := trailerOf bs }

theorem pages_of {s : State} {a : Access} {va n : Nat} (h : (match (s.pages a va n).1 with | .ok _ => true | _ => false) = true) :
    ∃ sp w, s.pages a va n = (.ok sp, w) := by
  revert h
  cases h : s.pages a va n with
  | mk o w =>
    cases o with
    | ok sp => intro _; exact ⟨sp, w, rfl⟩
    | wait => intro h; cases h
    | fault c i => intro h; cases h

/-- The state in which a request of the tests is answered: its sender and its ACK are taken where its status is 0. -/
def heard (s : State) (f : KwtFrame) (st : Byte) : State :=
  if st = 0 then (s.modSes f.session.toNat (fun x => { x with peer := some ⟨f.port, f.sub, f.srcMac, f.srcIp, f.srcUdp⟩ })).hostAck
    f.session.toNat f.ack 0 else s

/-- The state in which a request of the tests, in sequence, is performed. -/
def served (s : State) (f : KwtFrame) (st : Byte) : State :=
  (heard s f st).modSes f.session.toNat (fun x => { x with held := x.held ++ [⟨f, st⟩] })

/-- The conditions of a frame in sequence but its token. -/
abbrev inTurn (s : State) (f : KwtFrame) (st : Byte) : Prop :=
  (s.portHears f.port = true ∧ s.asleep = false ∧ f.payload.length = f.len.toNat ∧ f.ver = 1 ∧ f.session.toNat < 4096) ∧
  (s.sessPort f.session.toNat f.port.val = true ∧ s.sessState f.session.toNat = 2 ∧ f.trailer = trailerOf f.payload) ∧
  f.seq = BitVec.ofNat 32 (s.rd (SESS_SEQ.RX_NEXT f.session.toNat)) ∧ s.armed 0x31 (s.rd INJ_SEL.INST) = false ∧
  let n := f.session.toNat
  let v := heard s f st
  s.rd PAIR_STAT.ROLE ≠ 3 ∧ v.sessState n = 2 ∧ v.sessFrozen n = false ∧ ((v.ses n).reads.isEmpty = true ∧ (v.ses n).held.isEmpty = true) ∧
  f.seq = BitVec.ofNat 32 (v.rd (SESS_SEQ.RX_NEXT n))

theorem serves_of {s : State} {f : KwtFrame} {st : Byte} (h : inTurn s f st) (h0 : s.stage2 f = (st, s)) :
    s.kwtServes f st (served s f st) := by
  obtain ⟨⟨a1, a2, a3, a4, a5⟩, ⟨a6, a7, a8⟩, a9, a10, b1, b2, b3, ⟨b4, b5⟩, b6⟩ := h
  refine ⟨⟨a1, a2, a3, a4, a5, a6, a7⟩, a9, s, h0, fun _ => ⟨a8, a10⟩, fun h => absurd h b1, a9, b2, b3, List.isEmpty_iff.mp b4, ?_, b6, rfl⟩
  show ((heard s f st).ses f.session.toNat).held.any (fun x => x.f.seq == f.seq) = false
  rw [show ((heard s f st).ses f.session.toNat).held = [] by simpa using b5]
  rfl

theorem stage2_of {s : State} {f : KwtFrame} (h : s.opCheck f = 0) :
    (f.op = 1 → s.stage2 f = s.tokenCheck f 1 f.len.toNat true) ∧ (f.op = 2 → s.stage2 f = s.tokenCheck f 0 f.arg.toNat true) ∧
    (f.op = 3 → s.stage2 f = s.tokenCheck f 2 0 false) := by
  refine ⟨?_, ?_, ?_⟩ <;> (intro e; simp [State.stage2, h, e])

theorem readyFrm_token (op : Byte) (len : BitVec 16) (arg : Word) : (readyFrm op len arg).token = token 0x05070001 := rfl

theorem readyNet_token {f : KwtFrame} {right len : Nat} {bounded : Bool} (ht : f.token = token 0x05070001) (hs : f.session = 16)
    (ho : f.offset = 8) (h : (⟨true, 5, 0, 7, 0x21000, 0x21000, 0x23000, 0, none⟩ : TokEnt).check 5 right 0
      (some 16) 8 len bounded = 0) : readyNet.tokenCheck f right len bounded = (0, readyNet) := by
  refine token_passes (hd := 0x05070001) (by decide) rfl ht (by decide +kernel) (by decide +kernel) ?_
  rw [hs, ho]
  exact h

theorem witness_KwtRequestResults :
    (let f := readyFrm 1 0 0; f.op = 1 ∧ readyNet.kwtServes f 8 (served readyNet f 8)) ∧
    (let f := readyFrm 2 0 0; f.op = 2 ∧ readyNet.kwtServes f 8 (served readyNet f 8)) ∧
    (let f := { readyFrm 3 16 0 with session := 0, port := 3 }; f.op = 3 ∧ readyNet.kwtServes f 8 (served readyNet f 8)) ∧
    (let f := readyFrm 1 16 0
      let u := served readyNet f 0
      let e := u.tokEnt (f.token.toNat % 2 ^ 16)
      readyNet.kwtServes f 0 u ∧ e.part.val % 16 = 0 ∧ ∃ sp w, u.pages (u.engAccess 0 true) (e.cursor + f.offset.toNat) f.len.toNat = (.ok sp, w)) ∧
    (let f := readyFrm 2 0 16; readyNet.kwtServes f 0 (served readyNet f 0)) ∧
    (let f := readyFrm 3 16 0
      let u := served readyNet f 0
      let q := (u.tokEnt (f.token.toNat % 2 ^ 16)).qs.toNat
      let slots := u.rd (QS_CFG.SLOTS_M1 q) + 1
      let head := u.rd (QS_HEAD.HEAD q)
      let log := min 14 (max 8 (u.rd (QS_CFG.SLOTLOG q)))
      let ring := u.tokEnt (u.rd (QS_CFG.RING_IDX q))
      let off := head % slots * 2 ^ log
      readyNet.kwtServes f 0 u ∧
      (u.qsHome q = some 0 ∧ bitOf (u.reg STRUCT_DRAIN.adr) 0 = false ∧ u.rdB (QS_CTL.EN q) = true ∧ f.len.toNat + 32 ≤ 2 ^ log ∧
        (head + 2 ^ 32 - u.rd (QS_TAIL.TAIL q)) % 2 ^ 32 < slots ∧
        ring.check (BitVec.ofNat 8 (u.rd (QS_CFG.RING_GEN q))) 1 0 none off (2 ^ log) true = 0) ∧
      ∃ sp w, u.pages (u.engAccess 0 true) (ring.cursor + off) (u.slotBytes f).length = (.ok sp, w)) ∧
    (let f := { readyFrm 5 16 0 with session := 0, port := 3 }; readyNet.kwtServes f 0 (served readyNet f 0)) ∧
    (let f := { readyFrm 6 16 0 with session := 0, port := 3 }; readyNet.kwtServes f 0 (served readyNet f 0)) ∧
    (let f := readyFrm 0x11 0 0; readyNet.kwtServes f 0 (served readyNet f 0)) := by
  have hx : (token 0x05070001).toNat % 2 ^ 16 = 1 := token_index (hd := 0x05070001) (by decide)
  refine ⟨⟨rfl, serves_of (by decide +kernel) (Prod.ext (by decide +kernel) rfl)⟩, ⟨rfl, serves_of (by decide +kernel) (Prod.ext (by decide +kernel) rfl)⟩,
    ⟨rfl, serves_of (by decide +kernel) (Prod.ext (by decide +kernel) rfl)⟩, ⟨serves_of (by decide +kernel) ?_, ?_, ?_⟩,
    serves_of (by decide +kernel) ?_, ⟨serves_of (by decide +kernel) ?_, ?_, ?_⟩, serves_of (by decide +kernel) (Prod.ext (by decide +kernel) rfl),
    serves_of (by decide +kernel) (Prod.ext (by decide +kernel) rfl), serves_of (by decide +kernel) (Prod.ext (by decide +kernel) rfl)⟩
  · exact ((stage2_of (by decide +kernel)).1 rfl).trans (readyNet_token (readyFrm_token ..) rfl rfl (by decide +kernel))
  · rw [readyFrm_token, hx]
    decide +kernel
  · rw [readyFrm_token, hx]
    exact pages_of (by decide +kernel)
  · exact ((stage2_of (by decide +kernel)).2.1 rfl).trans (readyNet_token (readyFrm_token ..) rfl rfl (by decide +kernel))
  · exact ((stage2_of (by decide +kernel)).2.2 rfl).trans (readyNet_token (readyFrm_token ..) rfl rfl (by decide +kernel))
  · rw [readyFrm_token, hx]
    decide +kernel
  · rw [readyFrm_token, hx]
    exact pages_of (by decide +kernel)


theorem witness_TransportSessionResults :
    (let f := { readyFrm 0x10 0 0 with trailer := 0 };
      readyNet.portHears f.port = true ∧ readyNet.asleep = false ∧ f.payload = [] ∧ f.len = 0 ∧ f.ver = 1 ∧ f.session.toNat < 4096 ∧
      readyNet.sessPort f.session.toNat f.port.val = true ∧ readyNet.sessState f.session.toNat ≠ 0 ∧ f.trailer = 0 ∧
      (readyNet.rd PAIR_STAT.ROLE = 3 → f.session.toNat < 16)) ∧
    (let f := readyFrm 0x12 0 0;
      readyNet.hearsKwt f ∧ readyNet.armed 0x31 (readyNet.rd INJ_SEL.INST) = false ∧
      ((readyNet.modSes f.session.toNat (fun x => { x with peer := some ⟨f.port, f.sub, f.srcMac, f.srcIp, f.srcUdp⟩ })).hostAck
        f.session.toNat f.ack f.offset).rd PAIR_STAT.ROLE ≠ 3) ∧
    (let f := { readyFrm 1 2 0 with seq := 0xFFFFFFFF };
      readyNet.hearsKwt f ∧ 2 ^ 31 ≤ (f.seq - BitVec.ofNat 32 (readyNet.rd (SESS_SEQ.RX_NEXT f.session.toNat))).toNat) ∧
    (let f := { readyFrm 2 0 1 with seq := 64 };
      readyNet.hearsKwt f ∧ 64 ≤ (f.seq - BitVec.ofNat 32 (readyNet.rd (SESS_SEQ.RX_NEXT f.session.toNat))).toNat ∧
      (f.seq - BitVec.ofNat 32 (readyNet.rd (SESS_SEQ.RX_NEXT f.session.toNat))).toNat < 2 ^ 31) ∧
    (let f := { readyFrm 3 0 0 with session := 4095 };
      readyNet.portHears f.port = true ∧ readyNet.asleep = false ∧ readyNet.sessState f.session.toNat ≠ 2 ∧ ready.portHears f.port = false) ∧
    (let w := readyNet.modSes 16 (fun x => { x with closing := true });
      (w.ses 16).closing = true ∧ (w.ses 16).reads = [] ∧ w.sessState 16 = 2 ∧ (readyNet.ses 16).closing = false) ∧
    (let w := readyNet.modSes 16 (fun x => { x with firstAt := some 0, out := [⟨⟨0x13, 4, 0, 0, 0, []⟩, 0, 0, false⟩, ⟨⟨0x13, 5, 0, 0, 0, []⟩, 0, 6, false⟩] });
      w.sessState 16 = 2 ∧ (w.ses 16).firstAt ≠ none ∧ w.sessTimed 16 = true ∧ w.rd KWT_CFG.RETRIES = 6 ∧
      (w.ses 16).out.find? (fun r => r.f.seq == 4) = some ⟨⟨0x13, 4, 0, 0, 0, []⟩, 0, 0, false⟩ ∧
      (w.ses 16).out.find? (fun r => r.f.seq == 5) = some ⟨⟨0x13, 5, 0, 0, 0, []⟩, 0, 6, false⟩) ∧
    (readyNet.sessState 4095 = 0 ∧ bitOf (1 : BitVec 2) 0 = true ∧ bitOf (2 : BitVec 2) 0 = false) := by
  unfold State.hearsKwt
  decide +kernel

/-- Session 16 owes a READ of 8200 bytes. -/
def readyReads : State := readyNet.modSes 16 (fun x => { x with reads := [⟨9, 0, 0x21000, 8200, 8192⟩] })

/-- What a read of spans gives. -/
theorem spans_of {s : State} {sp : List (Nat × Nat)} (h : (s.getSpans sp).1 = false) : ∃ bs x, s.getSpans sp = (false, bs, x) :=
  ⟨(s.getSpans sp).2.1, (s.getSpans sp).2.2, Prod.ext h rfl⟩

theorem witness_TransportSessionResults_reads : (readyReads.ses 16).reads = [⟨9, 0, 0x21000, 8200, 8192⟩] ∧
    ∃ sp w bs x, readyReads.pages (readyReads.engAccess 0 false) (0x21000 + 8192) (min 8192 (8200 - 8192)) = (.ok sp, w) ∧
      w.getSpans sp = (false, bs, x) := by
  refine ⟨by decide +kernel, ?_⟩
  have h : (match readyReads.pages (readyReads.engAccess 0 false) (0x21000 + 8192) (min 8192 (8200 - 8192)) with
    | (.ok sp, w) => !(w.getSpans sp).1 | _ => false) = true := by decide +kernel
  revert h
  cases e : readyReads.pages (readyReads.engAccess 0 false) (0x21000 + 8192) (min 8192 (8200 - 8192)) with
  | mk o w =>
    cases o with
    | ok sp =>
      intro h
      obtain ⟨bs, x, hx⟩ := spans_of (s := w) (sp := sp) (by simpa using h)
      exact ⟨sp, w, bs, x, rfl, hx⟩
    | wait => intro h; cases h
    | fault c i => intro h; cases h

/-- `readyNet` with a capability in near store at the address that token port 0 names. -/
def readyTok (c : Cap) (rights : Nat) : State :=
  ((((readyNet.writeData (0x110200) (leBytes 16 c.bits.toNat)).setTag (0x11020) c.tag).wr (TOK_ADDR.ADDR 0)
    0x20200).wr (TOK_CFG.RIGHTS 0) rights)

/-- What BIND reads in `readyTok`. -/
def tokRead (s : State) (P : State → Cap → Bool) : Bool :=
  let a := s.rd (TOK_ADDR.ADDR 0)
  match s.translate (s.engAccess 0 false) a with
  | (.ok k, u) => match u.readRange k 16 with
    | (none, v) => match v.readTag (k / 16) with
      | (tag, w) => a % 16 == 0 && P w ⟨BitVec.ofNat 128 (leNat (w.bytesAt k 16)), tag⟩
    | _ => false
  | _ => false

theorem tokRead_reads {s : State} {P : State → Cap → Bool} (h : tokRead s P = true) :
    ∃ key u v w tag, s.translate (s.engAccess 0 false) (s.rd (TOK_ADDR.ADDR 0)) = (.ok key, u) ∧
      u.readRange key 16 = (none, v) ∧ v.readTag (key / 16) = (tag, w) ∧
      P w ⟨BitVec.ofNat 128 (leNat (w.bytesAt key 16)), tag⟩ = true := by
  simp only [tokRead] at h
  split at h
  · rename_i k u h1
    split at h
    · rename_i v h2
      exact ⟨k, u, v, (v.readTag (k / 16)).2, (v.readTag (k / 16)).1, h1, h2, rfl, (by simpa using h : _ ∧ _).2⟩
    · cases h
  · cases h

theorem witness_TokenResults :
    tokRead (readyTok { dataCap with tag := false } 3) (fun _ k => !k.tag) = true ∧
    tokRead (readyTok ⟨dataCap.bits ^^^ BitVec.ofNat 128 (1 <<< 72), true⟩ 3) (fun _ k => k.tag && k.otype != 0) = true ∧
    tokRead (readyTok (mkCap (spadWin + 0x100) 0x1001 0 10 0 0x1000 true) 3) (fun _ k =>
      k.tag && k.otype == 0 && decide (2 ≤ (readyTok dataCap 3).rd (TOK_CFG.RIGHTS 0)) && !k.has permW) = true ∧
    tokRead (readyTok dataCap 3) (fun w k =>
      k.tag && k.otype == 0 && k.has permNetwork && k.has permR && k.has permW && !(w.tokEnt 3).valid && (w.tokEnt 3).gen != 0xFF &&
        (w.tokEnt 1).valid && (w.tokEnt 2).valid) = true ∧
    (let d (gen : Nat) : Desc := ⟨BitVec.ofNat 64 (1 + gen * 2 ^ 16 + 16 * 2 ^ 24), 8, 100, 0⟩
      let w := readyNet.modN (fun e => { e with notify := [(0, [d 5, d 6]), (255, List.replicate 16 (d 5))] })
      let c (d : Desc) := (w.tokEnt (nbits d.w0.toNat 0 16)).check (BitVec.ofNat 8 (nbits d.w0.toNat 16 8)) 0 0
        (some (nbits d.w0.toNat 24 16)) (nbits d.w1.toNat 0 48) (nbits d.w2.toNat 0 14) true
      let t := w.modN (fun e => { e with notify := mapPut (fun _ => []) e.notify 0 [d 6] });
      (mapGet (fun _ => []) w.net.notify 255).length = 16 ∧ mapGet (fun _ => []) w.net.notify 0 = [d 5, d 6] ∧ w.qsHome 0 = some 0 ∧
      c (d 5) = 0 ∧ c (d 6) = stToken ∧ w.sessHome 16 = some (0, none) ∧ w.sessState 16 = 2 ∧
      (match t.pages (t.engAccess 0 false) (((w.tokEnt 1).cursor) + 8) 100 with | (.ok sp, x) => !(x.getSpans sp).1 | _ => false) = true) := by
  decide +kernel


/-! ### DMA engines, Ethernet, the fast matrix -/

/-- A descriptor that copies under token 1, whose GEN is 5; the destination's is given as `t`. -/
def readyDesc (t w3 : Nat) : Desc := ⟨BitVec.ofNat 64 (1 + 5 * 2 ^ 16 + 2 ^ 32 + t * 2 ^ 48), 8, 0x1000, BitVec.ofNat 64 w3⟩

/-- DMA engine 0 with a queue; whether its head runs. -/
def readyDma (run : Bool) (q : List Desc) : State :=
  (readyNet.modDe 0 (fun x => { x with run := run, queue := q })).modE (fun e => { e with dark := false })

/-- An engine is idle. -/
abbrev idleDma (s : State) : Prop :=
  s.net.de[0].run = false ∧ s.rdB (DE_STAT.HALTED 0) = false ∧ s.deFrozen 0 = false ∧ s.evt.dark = false

/-- What the copy of a descriptor by engine 0 did. -/
def copied (s : State) (d : Desc) : CopyOut :=
  deCopy 0 s.net.de[0].poly.toNat d.nodata ((s.tokEnt (nbits d.w0.toNat 0 16)).cursor + nbits d.w1.toNat 0 48)
    ((s.tokEnt (nbits d.w0.toNat 32 16)).cursor + nbits d.w2.toNat 0 48) d.len (d.len / 32768 + 4) ⟨0, s.rd (CU_VAL.VAL 0), 0, s⟩

theorem witness_DmaResults :
    (16 ≤ (readyDma false (List.replicate 16 (readyDesc 5 8))).net.de[0].queue.length ∧ readyNet.net.de[15].queue.length < 16 ∧
      readyNet.partOf 0 = some 0) ∧
    (let d := readyDesc 5 (8 + 2 ^ 35); idleDma (readyDma false [d]) ∧ d.hold = true ∧ bitOf (readyDma false [d]).evt.deTrig 0 = false) ∧
    (let d := readyDesc 6 8; idleDma (readyDma false [d]) ∧ d.hold = false ∧ (readyDma false [d]).deCheck 0 0 d ≠ 0) ∧
    (let d := readyDesc 5 (8 + 2 ^ 32); idleDma (readyDma false [d]) ∧ d.hold = false ∧
      (readyDma false [d]).deCheck 0 ((readyDma false [d]).rd (CU_CFG.POLY 0)) d = 0 ∧ d.crc = 1) ∧
    (let d := readyDesc 5 8; let w := readyDma true [d];
      w.net.de[0].run = true ∧ w.deFrozen 0 = false ∧ (copied w d).st = 0 ∧ d.crc < 3 ∧ d.crc = 0 ∧ (copied w d).s.armed 0x31 0 = false) ∧
    (let d := readyDesc 5 (8 + 2 ^ 32)
      let w := (readyDma true [d]).modN (fun e => { e with tok := [(1, ⟨true, 5, 0, 7, 0, 0, 0x3000, 0, none⟩)] });
      w.net.de[0].run = true ∧ w.deFrozen 0 = false ∧ (copied w d).st ≠ 0 ∧ d.crc ≠ 0) := by decide +kernel

/-- `readyNet` with addresses on M0, whose mode has no FEC, PAUSE and ICMP. -/
def readyEth : State := (((readyNet.wr (ETH_CFG.PAUSE_EN 3) 1).wr (ETH_IPV4.ADDR 3) 0x0A000001).wr (ETH_IPV6.ADDR 3 0) 7).wr KWT_CFG.ICMP 1

/-- A frame on M0. -/
def ethFrm (size : BitVec 16) (ip : BitVec 128) (b : EthBody) : EthFrame :=
  ⟨3, 0, size, false, true, true, false, false, 5, readyEth.subMac 3 0, ip, b⟩

theorem witness_PortResultsOfEthernet :
    (readyEth.portHears 3 = true ∧ readyEth.armed 0x30 3 = false ∧ readyEth.rdB (ETH_CFG.EN 3) = true ∧ (ethFrm 63 0 .other).fecOk = true ∧
      readyEth.rd (ETH_CFG.MAXFRAME 3) + 32 < (9249 : BitVec 16).toNat) ∧
    (let f := ethFrm 64 0 (.arp 0x0A000001); let r := readyEth.stage1 f;
      r.1 = true ∧ (0x0A000001 : BitVec 32).toNat = r.2.rd (ETH_IPV4.ADDR f.port) ∧ (0x0A000002 : BitVec 32).toNat ≠ r.2.rd (ETH_IPV4.ADDR f.port) ∧
      (7 : BitVec 128) = r.2.ip6 f.port ∧ (8 : BitVec 128) ≠ r.2.ip6 f.port) ∧
    (let f := ethFrm 64 7 (.echo true); let r := readyEth.stage1 f;
      r.1 = true ∧ r.2.asleep = false ∧ r.2.rdB KWT_CFG.ICMP = true ∧ f.dstMac = r.2.subMac f.port f.sub ∧ f.dstIp = r.2.ip6 f.port) ∧
    (let f := ethFrm 64 7 (.echo false); let w := readyEth.modSec (fun e => { e with sys := .sleep });
      w.portHears f.port = true ∧ (w.stage1 f).1 = true ∧ (w.stage1 f).2.asleep = true) ∧
    (let k := BitVec.ofNat 16 (readyEth.rd (ETH_KWTPORT.PORT 3)); let f := ethFrm 64 0x0A000001 (.udp false true k true false (readyFrm 1 8 0));
      (readyEth.stage1 f).1 = true ∧ (readyEth.stage1 f).2.udpOk f false true k true false = true) ∧
    (readyEth.rd (ETH_CFG.PFC_EN 3) = 0 ∧ readyEth.rdB (ETH_CFG.PAUSE_EN 3) = true ∧ readyEth.rdB (ETH_CFG.EN 1) = false ∧
      bitOf readyEth.net.xoff 0 = false ∧ bitOf (readyEth.modN (fun e => { e with xoff := 1 })).net.xoff 0 = true) ∧
    (let w := readyEth.modSec (fun e => { e with set := { e.set with ptpPort := 0 } }); 0 = w.sec.set.ptpPort.toNat ∧ w.portHears 0 = true) := by
  decide +kernel


/-! ### Ill-formed commands: one for each check of WellFormed, beside a well-formed one -/

/-- A Ubori frame with its CRC. -/
def uboriFrm (type : Byte) (seq : BitVec 32) (arg : Word) (body : List Byte) : UboriFrame :=
  uboriSeal ⟨1, type, 0, BitVec.ofNat 16 body.length, seq, 0, 5, arg, body, 0⟩

theorem test_kwt_length : (Instr.kwtWrite (readyFrm 0x12 4 0)).wf = true ∧ (Instr.kwtWrite { readyFrm 0x12 4 0 with len := 5 }).wf = false := by
  decide +kernel

theorem test_ethernet_datagram :
    let f (k : KwtFrame) : EthFrame := ⟨0, 0, 100, false, true, true, false, false, 1, 0, 0, .udp false true 0 false true k⟩
    let k := readyFrm 0x12 4 0;
    (Instr.frameReceive (f k)).wf = true ∧ (Instr.frameReceive (f { k with len := 3 })).wf = false ∧
      (Instr.frameReceive (f { k with port := 1 })).wf = false ∧ (Instr.frameReceive (f { k with sub := 1 })).wf = false ∧
      (Instr.frameReceive (f { k with srcMac := 2 })).wf = false := by decide +kernel

theorem test_ubori_length : (Instr.pageFrame (uboriFrm 4 0 0 [1, 2])).wf = true ∧
    (Instr.pageFrame { uboriFrm 4 0 0 [1, 2] with len := 1 }).wf = false := by decide +kernel

theorem test_matrix_master :
    let r : FabReq := ⟨3, 0, 0, false, 0, some 1, true⟩;
    (Instr.fabricTransaction 0 (some r)).wf = true ∧ (Instr.fabricTransaction 0 (some { r with m := 20 })).wf = false ∧
      (Instr.fabricTransaction 0 (some { r with consume := false })).wf = false ∧
      (Instr.fabricTransaction 0 (some { r with m := 35, part := none, consume := false })).wf = true := by decide +kernel

theorem test_peek_master : (Instr.readClear 0 35 false).wf = true ∧ (Instr.readClear 0 34 false).wf = false := by decide +kernel

theorem test_consumer_number : (Instr.latchDelivery 8384).wf = true ∧ (Instr.latchDelivery 8385).wf = false := by decide +kernel

/-! ### The fast matrix, the debug port, contacts -/

/-- The fuse word DBG_CLOSE of the part is as manufactured, with no bit blown: the fuses are constants of the part. -/
def dbgIntact : Prop := ∀ c, Config.fuseCopy 14 c = 0

theorem open_of {s : State} (h : dbgIntact) (hb : s.sec.burnt = []) : s.dbgClosed = false := by
  have hd (c : Nat) : s.fuseData 14 c = 0 := by simp [State.fuseData, h c, hb, mapGet, mapFind]
  have hi : s.fuseIntact 14 = [0, 0, 0] := by
    simp only [State.fuseIntact, hd]
    rfl
  simp only [State.dbgClosed, State.fuseVal, State.fuse, hi]
  decide +kernel

/-- `s` with a register listed: what the list holds is then read, also where the reset value is a constant of the part. -/
def listed (a : Nat) (v : Word) (s : State) : State :=
  { s with csr := s.csr.filter (fun e => decide (e.1 < a)) ++ [(a, v)] ++ s.csr.filter (fun e => decide (a < e.1)) }

/-- `s` with every strap low. -/
def strapped (s : State) : State := listed SB_STRAP.adr 0 s

/-- `readyNet` with every strap low and the debugger attached. -/
def readyDbg : State := strapped (readyNet.wr TWD_CTL.ATTACH 1)

/-- A request of a master of the matrix with identifier 31. -/
def fabReq (m : Fin 37) (a : BitVec 32) (w : Bool) : FabReq := ⟨m, 31, a, w, 0x123456789ABCDEF0, some 0, false⟩

/-- Its transaction, whose response is due. -/
def fabTx (r : FabReq) : FabTx := ⟨r, fabPort r, 0, 77, 0⟩

/-- The matrix with requests that wait and responses that are due, at a time. -/
def readyFab (wait : List (FabReq × Nat)) (due : List FabTx) (now : Nat) : State :=
  { (readyNet.modFab (fun f => { f with wait := wait, due := due })) with now := now }

theorem witness_FabricAndDebugPortResults_matrix :
    (let r := fabReq 16 0x04480008 false; let q := fabReq 34 0x04480008 false;
      readyNet.fab.wait = [] ∧ (readyFab [] (List.replicate 31 (fabTx r)) 0).outstanding 16 = 31 ∧
      (readyFab [] (List.replicate 7 (fabTx q)) 0).outstanding 34 = 7 ∧ readyNet.portRoom (fabPort r) = true ∧ fabPort r < 35 ∧
      (readyFab [] (List.replicate 32 (fabTx r)) 0).outstanding 16 = 32 ∧ (readyFab [] (List.replicate 8 (fabTx q)) 0).outstanding 34 = 8 ∧
      readyNet.fabGrant (fabPort r) = none ∧ (readyFab [] (List.replicate 4 ⟨r, 33, 0, 0, 0⟩) 0).portRoom 33 = false ∧
      (readyFab [] (List.replicate 3 ⟨r, 33, 0, 0, 0⟩) 0).portRoom 33 = true) ∧
    (let a := fabReq 1 0x01050000 true; let b := fabReq 9 0x01050000 false; let c := fabReq 34 0x01050000 true;
      max 1 (readyNet.rd FAB_AGE.CYC) = 512 ∧
      (readyFab [(a, 5), (b, 3), (c, 4)] [] 516).fabGrant (fabPort a) = some (b, 3) ∧
      ((readyFab [(a, 5), (b, 3), (c, 4)] [] 514).fabGrant (fabPort a)).isSome = true) ∧
    (let r := fabReq 36 0x04480008 false; (readyFab [] [fabTx r] 0).fabDue 36 31 = some (fabTx r)) := by decide +kernel

/-- A debug packet with its CRC, and with a wrong one. -/
def dbgPacket (h : BitVec 16) (bad : Bool) : TwdPacket :=
  ⟨h, 0x04480008, 77, twdCrc h 0x04480008 77 ^^^ (if bad then 1 else 0)⟩

theorem readyDbg_open (h : dbgIntact) : readyDbg.twdOpen = true := by
  have h1 : readyDbg.dbgClosed = false := open_of h (by decide +kernel)
  have h2 : (readyDbg.dbgPol.portEn && readyDbg.sec.sys != .off && !readyDbg.rdB SB_STRAP.TEST) = true := by decide +kernel
  simp only [State.twdOpen, h1, Bool.not_false, Bool.true_and, h2]

theorem witness_FabricAndDebugPortResults_port (h : dbgIntact) :
    readyDbg.twdOpen = true ∧ State.reset.twdOpen = false ∧
    (∀ w : BitVec 16, w = 0xD206 ∨ w = 0xD265 ∨ w = 0xD287 ∨ w = 0xD2C6 ∨ w = 0xD2A6 → w.toNat / 256 = 0xD2 ∧ twdParity w = true) ∧
    twdParity 0xD207 = false ∧ (0xD306 : BitVec 16).toNat / 256 ≠ 0xD2 ∧
    (nbits 0xD206 5 2 = 0 ∧ nbits 0xD265 5 2 = 3 ∧ nbits 0xD287 5 2 = 0 ∧ nbits 0xD2C6 5 2 = 2 ∧ nbits 0xD2A6 5 2 = 1) ∧
    (bitOf (0xD206 : BitVec 16) 7 = false ∧ bitOf (0xD287 : BitVec 16) 7 = true ∧ bitOf (0xD2C6 : BitVec 16) 7 = true ∧
      bitOf (0xD2A6 : BitVec 16) 7 = true) ∧
    (readyDbg.twdBarred 0x04480008 = false ∧ readyNet.twdBarred 0x04480008 = true) ∧
    ((dbgPacket 0xD206 true).crc ≠ twdCrc 0xD206 0x04480008 77 ∧ (dbgPacket 0xD206 false).crc = twdCrc 0xD206 0x04480008 77) ∧
    (readyDbg.twd.kept = none ∧ ({ readyDbg with twd := ⟨some (0xD287, 0x04480008, 0, 9), none⟩ } : State).twd.kept = some (0xD287, 0x04480008, 0, 9)) ∧
    (readyDbg.twdReg 0x18 = none ∧ readyDbg.twdReg 0x10 = some 1) := by
  refine ⟨readyDbg_open h, ?_, ?_⟩
  · have : (State.reset.sec.sys != Sys.off) = false := by decide +kernel
    simp only [State.twdOpen, this, Bool.and_false, Bool.false_and]
  · refine ⟨?_, by decide +kernel⟩
    rintro w (rfl | rfl | rfl | rfl | rfl) <;> decide +kernel

/-- `readyDbg` with the selections of EVT_IN0 and GPIO0. -/
def readyPins (a b : Nat) : State := (readyDbg.wr (PIN_FUNC.SEL 0x10) a).wr (PIN_FUNC.SEL 0) b

theorem witness_ContactResults :
    (readyDbg.wired = true ∧ readyDbg.rd (SB_STAT.STATE 2) = 0 ∧ readyDbg.armed 0x3C 2 = false ∧ riseMax (readyDbg.rd (SB_CFG.RATE 2)) = 300 ∧
      (readyDbg.rd (SB_STAT.STATE 6) = 0 ∧ readyDbg.armed 0x3C 6 = false ∧ riseMax (readyDbg.rd (SB_CFG.RATE 6)) < 1001)) ∧
    (let w := (readyDbg.wr (SB_STAT.STATE 4) 1).modBoard (fun b => { b with losses := #v[0, 1, 2, 3, 1, 2, 3, 4] })
      let v := (readyDbg.wr (SB_STAT.STATE 5) 1).modBoard (fun b => { b with losses := #v[0, 1, 2, 3, 1, 2, 3, 4] });
      w.wired = true ∧ w.rd (SB_STAT.STATE 4) = 1 ∧ w.board.losses[4] < 2 ∧ v.rd (SB_STAT.STATE 5) = 1 ∧ 2 ≤ v.board.losses[5]) ∧
    (readyDbg.rd (SB_STAT.STATE 7) ≠ 2 ∧ readyDbg.keysUp = true ∧
      (readyDbg.modSec (fun e => { e with sys := .standby })).keysUp = false ∧ (readyDbg.modSec (fun e => { e with sys := .standby })).wired = true) ∧
    ((readyPins 1 4).rd (PIN_FUNC.SEL 0) = 4 ∧ bitOf (BitVec.ofNat 16 ((readyPins 1 4).rd SB_WIRE.GPIO_OFF)) 0 = false ∧ (readyPins 1 4).wired = true) ∧
    (let t (a : Nat) := (readyPins 1 a).wr GPIO_IN.IN (setBitOf (BitVec.ofNat 16 ((readyPins 1 a).rd GPIO_IN.IN)) 0 true).toNat;
      (readyPins 1 3).rd (PIN_FUNC.SEL 0x10) = 1 ∧ (readyPins 2 3).rd (PIN_FUNC.SEL 0x10) = 2 ∧ (readyPins 3 3).rd (PIN_FUNC.SEL 0x10) = 3 ∧
      (t 1).rd (PIN_FUNC.SEL 0) = 1 ∧ (t 2).rd (PIN_FUNC.SEL 0) = 2 ∧ (t 3).rd (PIN_FUNC.SEL 0) = 3) ∧
    (let w := ((readyDbg.wr INJ_STAT.ARMED 1).wr INJ_SEL.POINT 0x3B).wr INJ_SEL.INST 3;
      w.rdB INJ_STAT.ARMED = true ∧ w.rd INJ_SEL.POINT = 0x3B ∧ w.rd INJ_SEL.INST = (3 : QuadId).val ∧ readyDbg.rdB INJ_STAT.ARMED = false) := by
  decide +kernel

/-! ### Resets, start-up, the structure -/

/-- `s` in a state of the part. -/
def inSys (k : Sys) (s : State) : State := s.modSec (fun e => { e with sys := k })

theorem witness_ResetResults (hf : ∀ w < 21, ∃ a b, ready.fuse w = .value a b false) :
    (ready.sec.live = none ∧ (255 : Nat) < 256 ∧ (ready.modPwr (fun w => { w with rails := 11 })).pwr.rails < 12) ∧
    (let w := ready.wr SHED_LEVEL.LEVEL 7; w.sec.sys = .run ∧ w.shed = 7 ∧ w.pwr.temps = none) ∧
    (let t : Vector (BitVec 8) 20 := (Vector.replicate 20 95).set 15 96;
      (ready.modPwr (fun w => { w with temps := some t })).pwr.temps = some t ∧ 95 < t[(15 : Fin 16).val].toNat) ∧
    (let e := strapped (inSys .standby ready)
      let one := listed SB_STRAP.adr (SB_STRAP.TEST.setIn 0 1) e;
      ready.sec.sys ≠ .standby ∧ (e.modSec (fun x => { x with rstHigh := false })).sec.rstHigh = false ∧
      (e.modSec (fun x => { x with clkOk := false })).sec.clkOk = false ∧ (e.modSec (fun x => { x with backoff := true })).sec.backoff = true ∧
      one.rdB SB_STRAP.TEST = true) ∧
    (State.reset.sec.sys = .off ∧ State.reset.sec.rstHigh = true ∧ (State.reset.modSec (fun x => { x with rstHigh := false })).sec.rstHigh = false) ∧
    (ready.armed 0x42 (ready.rd INJ_SEL.INST) = false ∧ ready.sec.sys = .run ∧ ∀ w < 21, ∃ a b, ready.fuse w = .value a b false) :=
  ⟨by decide +kernel, by decide +kernel, by decide +kernel, by decide +kernel, by decide +kernel, by decide +kernel, by decide +kernel, hf⟩

/-- The part in BOOT with a number of rails up and one not ready. -/
def readyBoot (rails : Nat) : State := (inSys .boot ready).modPwr (fun w => { w with rails := rails, vrrdy := 0 })

/-- The identity of a stack of the right organisation and rate. -/
def goodStack : StackIdent := ⟨48, 12, 80, 1, 2⟩

/-- A stack that answers and trained. -/
def goodResult : StackResult := ⟨true, true⟩

/-- Sixteen DIMMs of one kind. -/
def goodDimm : Dimm := ⟨true, true, true, true, 64, 2, 1, 16, 5600, 32⟩

theorem witness_StartResults :
    ((readyBoot 7).sec.sys = .boot ∧ (readyBoot 7).pwr.rails = 7 ∧ (readyBoot 0).pwr.rails = 0 ∧ (readyBoot 0).rd SB_WIRE.RAIL_FAIL = 0) ∧
    ((readyBoot 8).pwr.rails = 8 + (0 : QuadId).val ∧ bitOf (readyBoot 8).pwr.vrrdy 0 = false ∧ (readyBoot 10).pwr.rails = 8 + (2 : QuadId).val ∧
      bitOf (readyBoot 10).pwr.vrrdy 2 = false ∧ (readyBoot 11).pwr.rails = 11 ∧ bitOf (readyBoot 11).pwr.vrrdy 3 = false) ∧
    (ready.sec.sys ≠ .boot ∧ (readyBoot 12).pwr.rails = 12 ∧ (readyBoot 1).pwr.rails ≠ 0 ∧
      ((readyBoot 0).wr SB_WIRE.RAIL_FAIL 12).rd SB_WIRE.RAIL_FAIL ≠ 0 ∧ ((readyBoot 0).wr SB_WIRE.RAIL_FAIL 12).pwr.rails = 0) ∧
    ((readyBoot 12).sec.warm = false ∧ (readyBoot 12).sec.nearDone = false ∧ (readyBoot 12).sec.celDone = false ∧
      (∀ n : Fin 16, let x := (Vector.replicate 16 goodResult)[n.val]; let i := (Vector.replicate 16 goodStack)[n.val]
        x.answers = true ∧ i.gib = 48 ∧ i.height = 12 ∧ 80 ≤ i.rate.toNat ∧ x.trainOk = true) ∧
      (¬ 80 ≤ ({ goodStack with rate := 79 } : StackIdent).rate.toNat) ∧
      ((readyBoot 12).modSec (fun e => { e with nearDone := true })).sec.nearDone = true ∧
      ((readyBoot 12).modSec (fun e => { e with celDone := true })).sec.celDone = true) ∧
    (readyBoot 12).chanUsable (Vector.replicate 16 goodDimm) 7 = true ∧ (readyBoot 12).chanUsable (Vector.replicate 16 { goodDimm with x4 := false }) 7 = false := by
  decide +kernel

/-- `ready` with partition 0 to be drained. -/
def readyDrain : State := ready.setReg STRUCT_DRAIN.adr 1

theorem witness_StructureResults :
    (let u := (ready.setReg STRUCT_DRAIN.adr (setBitOf (ready.reg STRUCT_DRAIN.adr) 15 true)).fire (0x210 + 15);
      ready.reg STRUCT_DRAIN.adr = 0 ∧ u.reg STRUCT_DRAIN.adr = setBitOf (ready.reg STRUCT_DRAIN.adr) 15 true) ∧
    (let w := ready.setReg STRUCT_DRAIN.adr (1 <<< 15);
      w.reg STRUCT_DRAIN.adr = 1 <<< 15 ∧ w.rd STRUCT_LIVE.STATE ≠ 1 ∧ (w.undrain 15).reg STRUCT_DRAIN.adr = 0) ∧
    (bitOf (readyDrain.reg STRUCT_DRAIN.adr) 0 = true ∧ bitOf (readyDrain.reg STRUCT_DRAINED.adr) 0 = false ∧ readyDrain.drained 0 = true ∧
      readyDrain.sec.sys = .run ∧ readyFlights.drained 0 = false) ∧
    ((2 : BitVec 2) ≠ 1 ∧ (ready.wr STRUCT_LIVE.STATE 1).rd STRUCT_LIVE.STATE = 1 ∧ State.reset.sec.sys ≠ .run) ∧
    (ready.rd STRUCT_LIVE.STATE ≠ 1 ∧ ready.sec.sys = .run ∧ (ready.wr PAIR_STAT.ROLE 2).rd PAIR_STAT.ROLE = 2 ∧ ready.rd PAIR_STAT.ROLE ≠ 2 ∧
      (ready.liveRefusal (ready.imgAt 0x0C000000) true).1 ≠ 0) ∧
    (let w := ready.modSec (fun e => { e with live := some ([1], 1) }); let v := (w.wr PAIR_STAT.ROLE 1).wr PAIR_STAT.STATE 3;
      w.sec.live = some ([1], 1) ∧ w.pair.apply = none ∧ w.paired = false ∧ v.paired = true ∧ v.pair.apply = none ∧ ready.sec.live = none) := by
  decide +kernel

/-! ### Power, temperature, shedding, sleep -/

/-- `ready` with clocks in force, acknowledgements that failed, and raises that wait. -/
def readyVr : State := ready.modPwr (fun w => { w with avsFails := #v[2, 1, 0, 5], setClk := #v[40, 60, 68, 80], raise := #v[some 5, none, some 60, some 5] })

theorem witness_PowerDeliveryResults_regulators :
    (readyVr.pwr.setClk[(0 : QuadId).val] < (41 : BitVec 7).toNat ∧ (40 : BitVec 7).toNat ≤ readyVr.pwr.setClk[(0 : QuadId).val] ∧
      readyVr.pwr.avsFails[(1 : QuadId).val] < 2 ∧ 2 ≤ readyVr.pwr.avsFails[(0 : QuadId).val]) ∧
    (let f (w : PwrSt) : PwrSt := { w with avsFails := vecUpd w.avsFails (0 : QuadId) (fun _ => 0), raise := vecUpd w.raise (0 : QuadId) (fun _ => none) }
      let t := (readyVr.modPwr f).bucket 20 1
      t.pwr.setClk = readyVr.pwr.setClk) ∧
    (readyVr.pwr.raise[(3 : QuadId).val] = some 5 ∧ bitOf readyVr.pwr.vrrdy 3 = true ∧ readyVr.pwr.raise[(1 : QuadId).val] = none) ∧
    (bitOf ready.pwr.vrrdy 2 = true ∧ 8 + 2 < ready.pwr.rails ∧ ready.vrrdyBad 2 = false ∧ ready.pwr.vrrdyLong = 0) ∧
    (bitOf (ready.modPwr (fun w => { w with vrrdyLow := 8 })).pwr.vrrdyLow 3 = true ∧
      (ready.modPwr (fun w => { w with rails := 9 })).pwr.rails ≤ 8 + (1 : QuadId).val) ∧
    (bitOf ready.pwr.onDie 0 = false ∧ bitOf (ready.modPwr (fun w => { w with onDie := 8 })).pwr.onDie 3 = true) ∧
    (ready.rdB (DROOP_STAT.ACTIVE 0) = false ∧ ready.pwr.rails ≠ 0) := by decide +kernel

/-- Temperatures of 60 to 64 degrees. -/
def warmTemps : Vector (BitVec 8) 20 := Vector.ofFn (fun i => BitVec.ofNat 8 (60 + i.val % 5))

/-- A quadrant that throttles, at temperatures. -/
def readyHot (t : Nat) : State := ready.modPwr (fun w => { w with
  temps := some (Vector.replicate 20 (BitVec.ofNat 8 t)), throttled := 15, target := #v[80, 80, 80, 80], thermClk := #v[40, 32, 78, 80] })

theorem witness_PowerDeliveryResults_limits :
    (let tm : Telemetry := ⟨#v[100, 0, 300, 0xFFFF], #v[true, true, true, false], #v[false, false, true, false]⟩
      let w := ready.modPwr (fun w => { w with estSum := #v[1000, 20000, 5, 1], estN := #v[1, 2, 0, 7] });
      tm.ok[(0 : QuadId).val] = true ∧ tm.fault[(0 : QuadId).val] = false ∧ bitOf (w.reg SB_WIRE.adr) 6 = false ∧ w.shed < 6 ∧ 0 < w.estMean 0 ∧
      6 ≤ (w.wr SHED_LEVEL.LEVEL 6).shed ∧ tm.ok[(3 : QuadId).val] = false ∧ tm.fault[(2 : QuadId).val] = true ∧
      bitOf ((w.setReg SB_WIRE.adr 64).reg SB_WIRE.adr) 6 = true) ∧
    (let w := listed PWR_LIMIT.LIMIT_W.adr (PWR_LIMIT.WIN_MS.setIn (PWR_LIMIT.LIMIT_W.setIn 0 1250) 1000) ready; w.rd PWR_LIMIT.LIMIT_W < (1601 : BitVec 12).toNat ∧ (1250 : BitVec 12).toNat ≤ w.rd PWR_LIMIT.LIMIT_W ∧
      w.rd PWR_LIMIT.LIMIT_W < (w.wr PWR_STAT.PKG_W 1251).rd PWR_STAT.PKG_W ∧ w.rd PWR_STAT.PKG_W ≤ w.rd PWR_LIMIT.LIMIT_W ∧
      (let a := lastWatts (w.modPwr (fun x => { x with watts := [(1212, 5000000)] })).pwr.watts (1000 * w.rd PWR_LIMIT.WIN_MS);
        100 * a.1 ≤ 97 * w.rd PWR_LIMIT.LIMIT_W * a.2)) ∧
    ((ready.modPwr (fun w => { w with pwrOver := true })).pwr.pwrOver = true ∧ ready.pwr.pwrOver = false) ∧
    ((inSys .boot ready).rdB INJ_STAT.ARMED = false ∧ hottest warmTemps 0 16 < 110 ∧ (inSys .boot ready).pwr.trip = false) ∧
    (bitOf (readyHot 100).pwr.throttled 0 = true ∧ (readyHot 100).throttleC ≤ hottest (Vector.replicate 20 100) 0 4 ∧
      hottest (Vector.replicate 20 99) 12 4 < (readyHot 99).throttleC ∧
      (hottest (Vector.replicate 20 97) 8 4 + (readyHot 97).hystC ≤ (readyHot 97).throttleC ∧
        (readyHot 97).pwr.thermClk[(2 : QuadId).val] + 1 < (readyHot 97).pwr.target[(2 : QuadId).val]) ∧
      (readyHot 98).throttleC < hottest (Vector.replicate 20 98) 8 4 + (readyHot 98).hystC) := by decide +kernel

/-- `ready` as it enters SLEEP: agreed, with the debugger attached or not. -/
def readyRest (attached : Nat) : State := (listed SEC_STAT.adr (SEC_STAT.DBG_ATTACHED.setIn 0 attached) (ready.wr PWR_SLEEP.STATE 1)).modPwr (fun w => { w with agreed := true })

theorem witness_ShedAndSleepResults :
    (let d := ready.demand 4 3; let f := d.wr SHED_LEVEL.LEVEL 3;
      ready.evt.shedReq = 0 ∧ ready.topDemand ≤ ready.shed ∧ d.evt.shedReq = 0 ∧ d.shed < d.topDemand ∧ f.topDemand ≤ f.shed ∧
      f.shed ≠ 0 ∧ f.shed ≠ 7 ∧ f.sec.sys = .run ∧ f.returns f.shed = true ∧ (f.shed = 6 → f.pwr.final = false) ∧ ready.shed = 0) ∧
    ((ready.modPwr (fun w => { w with final := true })).pwr.final = true ∧ ready.pwr.final = false ∧ (inSys .standby ready).sec.sys = .standby) ∧
    (ready.rd PWR_SLEEP.STATE ≠ 1 ∧ 6 ≤ (ready.wr SHED_LEVEL.LEVEL 6).shed ∧ ready.shed < 6 ∧ ready.rd STRUCT_LIVE.STATE ≠ 1 ∧
      ready.rd UPD_STAT.STATE ≠ 5 ∧ ready.rd PAIR_STAT.STATE ≠ 3 ∧ ready.entering = false) ∧
    (let a := readyRest 1; let b := (readyRest 0).wr PWR_SLEEP.SRAM_RET 1;
      (a.entering = true ∧ a.cutReady = true ∧ a.pwr.wakeLatch = false ∧ a.rdB SEC_STAT.DBG_ATTACHED = true ∧ a.queuesStop.pwr.wakeLatch = false ∧
        a.queuesStop.rdB SEC_STAT.DBG_ATTACHED = true) ∧
      (b.entering = true ∧ b.cutReady = true ∧ b.rdB SEC_STAT.DBG_ATTACHED = false ∧ b.queuesStop.pwr.wakeLatch = false ∧
        b.queuesStop.rdB SEC_STAT.DBG_ATTACHED = false ∧ b.queuesStop.rdB PWR_SLEEP.SRAM_RET = true) ∧ a.rd PWR_SLEEP.STATE = 1) ∧
    ((inSys .sleep (ready.wr PWR_WAKETMR.MS 1)).rd PWR_WAKETMR.MS ≠ 0 ∧ (inSys .sleep ready).sec.sys = .sleep) := by decide +kernel

/-! ### The Ubori Link and the pair -/

/-- `s` with the link up, a role, a state and a PAIR record of a kind. -/
def paired (role state : Nat) (kind : BitVec 2) (s : State) : State :=
  (((s.wr PAIR_STAT.LINK 1).wr PAIR_STAT.ROLE role).wr PAIR_STAT.STATE state).modPair (fun p => { p with rec_ := { p.rec_ with kind := kind } })

/-- The state in which a Ubori frame is heard, and in which a sequenced one is taken. -/
def heardUbori (s : State) (f : UboriFrame) : State := (s.uboriAck f.ack).sawEpoch f.epoch
/-- The state in which a sequenced Ubori frame is taken. -/
def tookUbori (s : State) (f : UboriFrame) : State := (heardUbori s f).modPair (fun p => { p with rxSeq := p.rxSeq + 1 })

theorem uboriFrm_heard {s : State} {type : Byte} {seq : BitVec 32} {arg : Word} {body : List Byte} (hl : body.length < 65536)
    (h : s.rdB PAIR_STAT.LINK = true ∧ s.armed 0x2B (s.rd INJ_SEL.INST) = false) :
    s.hearsUbori type (uboriFrm type seq arg body) (heardUbori s (uboriFrm type seq arg body)) := by
  refine ⟨h.1, h.2, rfl, rfl, ?_, rfl, rfl⟩
  show body.length = (BitVec.ofNat 16 body.length).toNat
  rw [BitVec.toNat_ofNat, Nat.mod_eq_of_lt hl]

theorem uboriFrm_taken {s : State} {type : Byte} {seq : BitVec 32} {arg : Word} {body : List Byte} (hl : body.length < 65536)
    (h : s.rdB PAIR_STAT.LINK = true ∧ s.armed 0x2B (s.rd INJ_SEL.INST) = false) (hs : seq = (heardUbori s (uboriFrm type seq arg body)).pair.rxSeq) :
    s.takesUbori type (uboriFrm type seq arg body) (tookUbori s (uboriFrm type seq arg body)) :=
  ⟨heardUbori s (uboriFrm type seq arg body), uboriFrm_heard hl h, hs, rfl⟩

/-- What the two lemmas ask of a state and the next frame of a type. -/
def linkUp (s : State) (type : Byte) (arg : Word) (body : List Byte) : Bool :=
  s.rdB PAIR_STAT.LINK && !s.armed 0x2B (s.rd INJ_SEL.INST) && (heardUbori s (uboriFrm type 0 arg body)).pair.rxSeq == 0

theorem hears_of {s : State} {type : Byte} {arg : Word} {body : List Byte} (hl : body.length < 65536) (h : linkUp s type arg body = true) :
    s.hearsUbori type (uboriFrm type 0 arg body) (heardUbori s (uboriFrm type 0 arg body)) := by
  simp only [linkUp, Bool.and_eq_true, Bool.not_eq_true', beq_iff_eq] at h
  exact uboriFrm_heard hl h.1

theorem takes_of {s : State} {type : Byte} {arg : Word} {body : List Byte} (hl : body.length < 65536) (h : linkUp s type arg body = true) :
    s.takesUbori type (uboriFrm type 0 arg body) (tookUbori s (uboriFrm type 0 arg body)) := by
  simp only [linkUp, Bool.and_eq_true, Bool.not_eq_true', beq_iff_eq] at h
  exact uboriFrm_taken hl h.1 h.2.symm

/-- `ready` with the link up, frames not acknowledged, and times that they were sent. -/
def readyUnacked (n tries : Nat) : State := (ready.wr PAIR_STAT.LINK 1).modPair (fun p => { p with
  tries := tries, unacked := (List.range n).map (fun i => ⟨uboriFrm 3 (BitVec.ofNat 32 i) 0 [1], 0⟩) })

theorem witness_PairLinkResults_link :
    (ready.rdB PAIR_STAT.LINK = false ∧ laneWidth (8 : BitVec 4).toNat ≠ 0 ∧ laneWidth (2 : BitVec 4).toNat ≠ 0 ∧
      (readyUnacked 0 0).rdB PAIR_STAT.LINK = true) ∧
    (let s := readyUnacked 0 0
      let d := (((s.wr PAIR_STAT.LINK 0).wr PAIR_LINK.LANES 0).modPair (fun p => { p with unacked := [], tries := 0, staging := none })).fire 0x221
      d.rd PAIR_STAT.STATE = 0) ∧
    (laneWidth ((List.range 8).filter (fun i => bitOf (3 : BitVec 8) i)).length ≠ 0 ∧ laneWidth ((List.range 8).filter (fun i => bitOf (1 : BitVec 8) i)).length = 0) ∧
    ((readyUnacked 0 0).pair.unacked = [] ∧ (readyUnacked 1 16).pair.unacked ≠ [] ∧ 16 ≤ (readyUnacked 1 16).pair.tries ∧
      (readyUnacked 1 15).pair.tries < 16) ∧
    linkUp (readyUnacked 0 0) 0x0E 0 [] = true ∧
    (let f := { uboriFrm 0x0B 0 0 [] with crc := 0 }; uboriSeal f ≠ f) ∧
    (let f := uboriFrm 0x0B 1 0 []; f.seq ≠ (heardUbori (readyUnacked 0 0) f).pair.rxSeq) := by decide +kernel

/-- A witness reply with the tag that the key of the state gives it. -/
def replyOf (s : State) (grant : Bool) : WitnessReply :=
  let r : WitnessReply := ⟨0x57424F55, grant, 9, 0, 1, 4, 0⟩
  { r with tag := BitVec.ofNat 128 (leNat (kmac256 s.sec.set.witnessKey (witnessBytes r) [] 16)) }

theorem reply_ok {s : State} {grant : Bool} (h : (9 == s.pair.rec_.pairId && 4 == s.pair.reqNo && s.pair.reqAt.isSome) = true) :
    s.witnessOk (replyOf s grant) = true := by
  have hw : witnessBytes (replyOf s grant) = witnessBytes ⟨0x57424F55, grant, 9, 0, 1, 4, 0⟩ := rfl
  have ht : leBytes 16 (replyOf s grant).tag.toNat = kmac256 s.sec.set.witnessKey (witnessBytes (replyOf s grant)) [] 16 := by
    rw [hw]
    have l := leNat_lt (kmac256 s.sec.set.witnessKey (witnessBytes ⟨0x57424F55, grant, 9, 0, 1, 4, 0⟩) [] 16)
    have b := leBytes_leNat (kmac256 s.sec.set.witnessKey (witnessBytes ⟨0x57424F55, grant, 9, 0, 1, 4, 0⟩) [] 16)
    rw [kmac256_length] at l b
    have e : (replyOf s grant).tag.toNat = leNat (kmac256 s.sec.set.witnessKey (witnessBytes ⟨0x57424F55, grant, 9, 0, 1, 4, 0⟩) [] 16) := by
      show (BitVec.ofNat 128 _).toNat = _
      rw [BitVec.toNat_ofNat]
      exact Nat.mod_eq_of_lt (by simpa using l)
    rw [e, b]
  simp only [State.witnessOk, ht, decide_true, Bool.and_true]
  simpa [replyOf, Bool.and_assoc] using h

/-- A Mirror side with a witness, request 4 of an operation asked, and the suspicion raised or not. -/
def readyAsked (op : Byte) (suspect : Bool) : State := (paired 2 3 1 ready).modPair (fun p => { p with
  rec_ := { p.rec_ with wAddr := 7, pairId := 9 }, reqNo := 4, reqAt := some 0, reqOp := op, suspect := suspect })

theorem witness_PairLinkResults_replies :
    (ready.witnessOk ⟨0, true, 9, 0, 1, 4, 0⟩ = false) ∧
    ((readyAsked 1 true).witnessOk (replyOf (readyAsked 1 true) true) = true ∧ (readyAsked 1 true).pair.reqOp = 1 ∧ (readyAsked 1 true).pair.fenced = false) ∧
    ((readyAsked 2 true).witnessOk (replyOf (readyAsked 2 true) true) = true ∧ (readyAsked 2 true).witnessOk (replyOf (readyAsked 2 true) false) = true ∧
      (readyAsked 2 true).pair.reqOp = 2 ∧ (readyAsked 2 true).pair.suspect = true) :=
  ⟨by simp [State.witnessOk], ⟨reply_ok (by decide +kernel), by decide +kernel, by decide +kernel⟩,
    reply_ok (by decide +kernel), reply_ok (by decide +kernel), by decide +kernel, by decide +kernel⟩

/-- The HELLO of a partner of another pair. -/
def otherHello : HelloRec := ⟨8, 1, 0, 10, 0, 1, 3, 3, false, 0⟩

theorem witness_PairLinkResults_frames :
    ((heardUbori (paired 1 1 0 ready) (uboriFrm 1 0 0 [])).pair.rec_.kind = 0 ∧ linkUp (paired 1 1 0 ready) 1 0 [] = true) ∧
    (let s := strapped ((paired 1 1 1 ready).modPair (fun p => { p with hbIn := some 0 })); let u := heardUbori s (uboriFrm 1 0 0 []);
      linkUp s 1 0 [] = true ∧ u.pair.rec_.kind ≠ 0 ∧ u.rd PAIR_STAT.STATE = 1 ∧ u.rdB SB_STRAP.HBWIRE = false ∧ u.hbAlive = true ∧
      u.rdB SB_WIRE.HB_OUT_OFF = false ∧ u.pair.rec_.pairId ≠ otherHello.pairId) ∧
    (2 ≤ (paired 2 2 1 ready).rd PAIR_STAT.STATE ∧ ready.rd PAIR_STAT.STATE < 2) ∧
    (linkUp (paired 2 3 1 ready) 2 5 [] = true ∧ (heardUbori (paired 2 3 1 ready) (uboriFrm 2 0 5 [])).rd PAIR_STAT.ROLE = 2) ∧
    ((paired 2 3 1 ready).sec.sys = .run ∧ (paired 2 3 1 ready).shed ≤ 5 ∧ (paired 2 3 1 ready).pair.rec_.kind ≠ 0 ∧
      (paired 2 3 1 ready).rdB SB_WIRE.HB_OUT_OFF = false ∧ 5 < (ready.wr SHED_LEVEL.LEVEL 6).shed) ∧
    (let a := readyAsked 2 true; let b := a.modPair (fun p => { p with rec_ := { p.rec_ with wAddr := 0 } });
      a.rd PAIR_STAT.ROLE = 2 ∧ a.rd PAIR_STAT.STATE = 3 ∧ a.rdB PAIR_STAT.HOLD = false ∧ a.pwr.agreed = false ∧ a.pair.suspect = true ∧ a.hbAlive = false ∧
      a.pair.rec_.wAddr ≠ 0 ∧ b.rd PAIR_STAT.ROLE = 2 ∧ b.rd PAIR_STAT.STATE = 3 ∧ b.pair.suspect = true ∧ b.hbAlive = false ∧ b.pair.rec_.wAddr = 0) ∧
    (∀ n : Fin 6, linkUp (readyAsked 2 true) 0x0D (BitVec.ofNat 64 n.val) [] = true ∧ nbits (BitVec.ofNat 64 n.val).toNat 0 8 = n.val) ∧
    (linkUp (readyAsked 2 true) 0x0C 0 [] = true ∧ linkUp (readyAsked 2 true) 0x0B 0 [] = true) ∧
    (let u := tookUbori (readyAsked 2 true) (uboriFrm 0x0D 0 1 []);
      u.rd PAIR_STAT.ROLE = 2 ∧ u.rd PAIR_STAT.STATE = 3 ∧ u.pair.rec_.wAddr ≠ 0 ∧ u.sleepBar = 0 ∧ u.sec.sys = .run) ∧
    (let s := paired 2 4 1 ready; let u := tookUbori s (uboriFrm 0x0D 0 2 []); linkUp s 0x0D 2 [] = true ∧ u.rd PAIR_STAT.STATE ≠ 3) ∧
    (let s := (readyAsked 2 true).wr PWR_SLEEP.STATE 1; let u := tookUbori s (uboriFrm 0x0D 0 3 []);
      linkUp s 0x0D 3 [] = true ∧ linkUp s 0x0D 4 [] = true ∧ u.rd PWR_SLEEP.STATE = 1) ∧
    ((paired 1 3 1 ready).rd PAIR_STAT.ROLE = 1 ∧ (paired 3 3 2 ready).rd PAIR_STAT.ROLE = 3 ∧
      ((readyAsked 2 true).modPair (fun p => { p with claim := true })).pair.claim = true) ∧
    (let s := (paired 1 3 1 ready).modPair (fun p => { p with rec_ := { p.rec_ with wAddr := 7 } });
      s.rd PAIR_STAT.ROLE = 1 ∧ s.pair.rec_.wAddr ≠ 0 ∧ s.pair.fenced = false) ∧
    (let s := paired 2 1 1 ready; s.pair.rec_.kind = 1 ∧ s.pair.rec_.wAddr = 0 ∧ s.pair.lastHb = none ∧ s.pair.hbIn = none ∧ s.rd PAIR_STAT.ROLE = 2 ∧
      s.sec.sys = .run ∧ (s.modPair (fun p => { p with hbIn := some 5 })).pair.hbIn ≠ none) := by decide +kernel

/-- The HELLO above is refused, as of another pair. -/
theorem witness_PairLinkResults_refusal (s : State) (h : s.pair.rec_.pairId ≠ 8) : helloCode s.helloOwn otherHello = 1 := by
  have : s.helloOwn.pairId ≠ otherHello.pairId := h
  simp [helloCode, this]

/-- The holds of the pair, on a part whose debug fuse is intact. -/
theorem witness_PairLinkResults_hold (h : dbgIntact) : ((paired 2 3 1 ready).wr PAIR_STAT.HOLD 1).rdB PAIR_STAT.HOLD = true ∧
    ((paired 2 3 1 ready).wr PAIR_STAT.HOLD 1).dbgClosed = false ∧
    (tookUbori (readyAsked 2 true) (uboriFrm 0x0B 0 0 [])).dbgClosed = false :=
  ⟨by decide +kernel, open_of h (by decide +kernel), open_of h (by decide +kernel)⟩

/-! ### Checkpoints, run control, the Custodian -/

/-- A checkpoint that arrives, with its number and what was noted of its bodies. -/
def staging (no : BitVec 32) : Staging := ⟨no, [], [], 0, 0, 0, []⟩

/-- A side that has a checkpoint arriving. -/
def readyStage (role : Nat) : State := (paired role 3 1 ready).modPair (fun p => { p with staging := some (staging 3) })

/-- A checkpoint that ships. -/
def shipped (begun ended : Bool) : OpenCkpt := ⟨3, [], ready.pairSnap, [], 0, 0, begun, ended, 0⟩

/-- A Mirror side in sync that ships a checkpoint. -/
def readyShip (begun ended : Bool) : State := (paired 1 3 1 ready).modPair (fun p => { p with ship := some (shipped begun ended) })

/-- The state in which a cut takes what it lists: each CP's window has been compared or its checkpoint taken. -/
def cutBase (s : State) : State := (fins 32).foldl (fun s c =>
    if s.lead c = c then
      let s := s.stopCompare c
      if (s.cp c).run = .inReset then s else s.checkpointWith State.bucket c
    else s) s

theorem wr_role {s : State} {f : Fld} {v : Nat} (h : PAIR_STAT.ROLE.adr ≠ f.adr) : (s.wr f v).rd PAIR_STAT.ROLE = s.rd PAIR_STAT.ROLE := by
  simp only [State.rd, State.wr, reg_setReg, if_neg h]

theorem modPart_pair (f : Part → Part) (l : List PartId) (s : State) : (l.foldl (fun (s : State) p => s.modPart p f) s).pair = s.pair := by
  induction l generalizing s with
  | nil => rfl
  | cons a l ih => rw [List.foldl_cons, ih]; rfl

theorem clearDirty_sig (s : State) : (s.clearDirty []).pair.sig = s.pair.sig := by
  show ((fins 16).foldl (fun (s : State) p => s.modPart p (fun x => { x with winDirty := [] })) s).pair.sig = _
  rw [modPart_pair]

theorem pressSettle_sig (s : State) : s.pressSettle.pair.sig = s.pair.sig := by
  unfold State.pressSettle
  split <;> rfl

/-- A cut of the Active side leaves no signature. -/
theorem cutNow_sig {s : State} (hp : (cutBase s).cutPages = []) (hr : (cutBase s).rd PAIR_STAT.ROLE = 1) (hs : (cutBase s).pair.sig = none) :
    s.cutNow.pair.sig = none := by
  unfold State.cutNow
  unfold cutBase at *
  generalize (fins 32).foldl _ s = u at *
  have h1 : (u.fresh.2.wr PAIR_CKPT.PAUSE_US (u.fresh.1.toNat % 65536)).role = 1 := (wr_role (by decide +kernel)).trans hr
  simp only [hp, h1, List.foldl_nil]
  simp [pressSettle_sig, clearDirty_sig]
  exact hs
theorem witness_CheckpointResults_cuts :
    (ready.rd PAIR_STAT.ROLE = 0) ∧
    (let s := paired 1 3 1 readyFlights; s.rd PAIR_STAT.ROLE = 1 ∧ s.rd PAIR_STAT.STATE = 3 ∧ s.pair.sig = none ∧ s.cutReady = false) ∧
    (let s := paired 1 3 1 ready; s.pair.ship = none ∧ s.cutReady = true) ∧
    (let s := paired 1 4 1 readyFlights; s.rd PAIR_STAT.STATE = 4 ∧ s.rdB PAIR_STAT.LINK = true ∧ s.pair.sig = none ∧ s.cutReady = false) ∧
    ((paired 2 3 1 ready).rd PAIR_STAT.ROLE = 2 ∧ (paired 1 3 1 ready).rdB PAIR_STAT.LINK = true) ∧
    (ready.pair.divergent = false ∧ (ready.modPair (fun p => { p with divergent := true })).pair.divergent = true ∧ ready.pair.ship = none) ∧
    (let s := readyShip false false; s.pair.ship = some (shipped false false) ∧ s.rdB PAIR_STAT.LINK = true ∧ s.pair.unacked.length < 1024 ∧ s.sec.live = none) := by
  decide +kernel

theorem witness_CheckpointResults_cut : ((paired 1 3 1 ready).modE (fun e => { e with mirrorReq := false })).cutNow.pair.sig = none :=
  cutNow_sig (List.isEmpty_iff.mp (by decide +kernel)) (by decide +kernel) (Option.isNone_iff_eq_none.mp (by decide +kernel))

theorem witness_CheckpointResults_frames :
    (let s := paired 2 3 1 ready; let u := tookUbori s (uboriFrm 3 0 7 []); linkUp s 3 7 [] = true ∧ u.pair.divergent = false ∧ u.rd PAIR_STAT.STATE = 3) ∧
    (∀ n : Fin 3, let t := BitVec.ofNat 8 (4 + n.val)
      linkUp (readyStage 2) t 0x20000 [1, 2, 3] = true ∧ (tookUbori (readyStage 2) (uboriFrm t 0 0x20000 [1, 2, 3])).pair.staging = some (staging 3)) ∧
    (leNat (([1, 0, 0, 0] : List Byte).take 4) ≠ (staging 3).count) ∧
    (linkUp (readyShip true true) 7 4 [] = true ∧ linkUp (readyShip true true) 7 3 [] = true ∧
      (tookUbori (readyShip true true) (uboriFrm 7 0 4 [])).pair.ship = some (shipped true true) ∧ (shipped true true).no ≠ (4 : Word).setWidth 32 ∧
      (let u := tookUbori (readyShip true true) (uboriFrm 7 0 3 []); let o := shipped true true
        let w := ((((((u.wr PAIR_CKPT.COMPLETE o.no.toNat).wr PAIR_CKPT.SHIP_MS (min 65535 ((u.now - o.at_) / 1000000))).fire 0x223).dropShip).dackTo
          o.rxNext).releaseTo (some o.no.toNat))
        u.pair.ship = some o ∧ o.no = (3 : Word).setWidth 32 ∧ u.rd PAIR_STAT.STATE = 3 ∧ w.pwr.final = false ∧ w.rd PAIR_STAT.ROLE = 1 ∧ w.pair.apply = none ∧
        w.pair.giveUp = false ∧ w.pair.sleepAsk = false ∧ w.pair.due = false)) ∧
    (let s := paired 4 3 2 ready; let u := tookUbori s (uboriFrm 8 0 1 (List.replicate 80 0));
      linkUp s 8 1 (List.replicate 80 0) = true ∧ u.rd PAIR_STAT.ROLE = 4 ∧ u.rd PAIR_STAT.STATE = 3) ∧
    (let s := paired 2 3 1 ready; linkUp s 8 1 (List.replicate 80 0) = true ∧ (tookUbori s (uboriFrm 8 0 1 (List.replicate 80 0))).rd PAIR_STAT.ROLE ≠ 4) ∧
    (let s := (paired 4 3 2 ready).modPair (fun p => { p with sig := some (3, [1, 2]) });
      linkUp s 9 4 [1, 2] = true ∧ linkUp s 9 3 [1, 2] = true ∧ linkUp s 0x0A 0x301 [] = true ∧
      (let u := tookUbori s (uboriFrm 9 0 3 [1, 2]);
        u.pair.sig = some (3, [1, 2]) ∧ 3 ≠ (4 : Word).toNat % 2 ^ 32 ∧ 3 = (3 : Word).toNat % 2 ^ 32 ∧ u.rd PAIR_STAT.ROLE = 4 ∧
        u.armed 0x2A (u.rd INJ_SEL.INST) = false) ∧
      (let u := tookUbori s (uboriFrm 0x0A 0 0x301 []); u.pair.sig = some (3, [1, 2]) ∧ 3 = nbits (0x301 : Word).toNat 8 56 ∧ u.rd PAIR_STAT.ROLE = 4)) ∧
    (let s := (paired 1 3 1 ready).modPair (fun p => { p with apply := some 0 }); let u := tookUbori s (uboriFrm 0x0D 0 0x106 []);
      linkUp s 0x0D 0x106 [] = true ∧ nbits (0x106 : Word).toNat 0 8 = 6 ∧ nbits (0x106 : Word).toNat 8 1 = 1 ∧ u.rd PAIR_STAT.ROLE = 1 ∧ u.pair.apply ≠ none) ∧
    (let s := paired 2 3 1 ready; let u := tookUbori s (uboriFrm 0x0D 0 0x10006 [1]);
      linkUp s 0x0D 0x10006 [1] = true ∧ nbits (0x10006 : Word).toNat 8 1 = 0 ∧ u.rd PAIR_STAT.ROLE = 2) := by
  decide +kernel

/-- Where the bytes of a snapshot are those of an empty list (how a snapshot is written is a constant of the part), the end of the
checkpoint above completes it. -/
theorem witness_CheckpointResults_end (h : Config.stateOf [] = some ready.pairSnap) :
    linkUp (readyStage 2) 6 3 (List.replicate 16 0) = true ∧ Config.stateOf (staging 3).objs = some ready.pairSnap ∧
    (let f := uboriFrm 6 0 3 (List.replicate 16 0); let u := tookUbori (readyStage 2) f; let g := staging 3; let snap := ready.pairSnap
      let t := (((g.pages.foldl (fun (s : State) x => s.applyPage x) (u.modPair (fun p => { p with staging := none }))).modPair (fun p => { p with
        image := some (g.no, snap), next := g.no + 1 })).modN (fun e => { e with tokKey := snap.tokKey })).wr PAIR_CKPT.COMPLETE g.no.toNat
      u.pair.staging = some g ∧ f.arg.setWidth 32 = g.no ∧ leNat (f.body.take 4) = g.count ∧ leNat ((f.body.drop 4).take 4) = g.npages ∧
      leNat ((f.body.drop 8).take 8) = g.crc.toNat ∧ u.rd PAIR_STAT.ROLE = 2 ∧ u.rd PAIR_STAT.STATE = 3 ∧ (t.fire 0x223).rd PAIR_STAT.STATE = 3 ∧
      (t.fire 0x223).rd PAIR_STAT.ROLE = 2 ∧ ((t.fire 0x223).uboriSeq 0x07 (g.no.setWidth 64) []).pair.apply = none) :=
  ⟨by decide +kernel, h, by decide +kernel⟩

/-- `ready` with CP 0 in a state, and packets in the trace queue of its cluster. -/
def readyRun (r : CpRun) (q : List TracePkt) : State := (ready.modCp 0 (fun p => { p with run := r })).modTrc 0 (fun t => { t with queue := q })

/-- A packet of the trace. -/
def aPacket : TracePkt := ⟨5, 6, 0, 0, 1⟩

theorem witness_RunControlResults :
    (ready.lead 0 = 0 ∧ ready.haltable 0 = true ∧ (ready.cp 0).run = .running ∧ (ready.cp 0).stall.takesIrq = true ∧ (ready.cp 0).lock = 0 ∧ (ready.cp 0).a.delay = none ∧
      ((ready.modCp 0 (fun p => { p with lock := 1 })).cp 0).lock ≠ 0 ∧ ((readyRun .inReset []).cp 0).run = .inReset ∧ (readyRun .inReset []).haltable 0 = true ∧
      ({ ready with dbgPol := { ready.dbgPol with haltMask := 0xFFFE } } : State).haltable 0 = false) ∧
    ((readyRun .lockup []).haltable 0 = true ∧ ((readyRun .lockup []).cp 0).run = .lockup ∧ (readyRun .halted []).haltable 0 = true ∧
      ((readyRun .halted []).cp 0).run = .halted) ∧
    (let w := (readyRun .halted []).wr (DBG_REGSEL.NUM 0) 15; (w.cp 0).run = .halted ∧ w.rd (DBG_REGSEL.BANK 0) = 0 ∧ w.rd (DBG_REGSEL.NUM 0) = (15 : Fin 16).val) ∧
    (let s := readyRun .running [aPacket, aPacket]; let c := { s with dbgPol := { s.dbgPol with traceM0 := false } };
      s.trc[(0 : ClusterId).val].queue = aPacket :: [aPacket] ∧ ready.trc[(0 : ClusterId).val].queue = [] ∧
      (s.wr (TRACE_CFG.DEST 0) 1).rdB (TRACE_CFG.DEST 0) = true ∧ s.dbgPol.traceM0 = true ∧ c.dbgPol.traceM0 = false ∧
      s.rdB (TRACE_CFG.DEST 0) = false ∧ s.rdB (SPAD_CFG.TRACE 0) = false ∧ (s.wr (SPAD_CFG.TRACE 0) 1).rdB (SPAD_CFG.TRACE 0) = true ∧
      (s.wr (SPAD_CFG.TRACE 0) 1).rdB (TRACE_CFG.DEST 0) = false ∧ (s.wr (SPAD_CFG.TRACE 0) 1).rdB (TRACE_STAT.FULL 0) = false) ∧
    (traceKey 0 0 ≤ traceKey 0 0 + 0xFFFFF ∧ 0 < traceKey 0 0) := by decide +kernel

/-- A management request with a payload. -/
def mgmtReq (b : List Byte) : MgmtReq := ⟨16, [1, 2, 3, 4, 5, 6], false, b⟩

/-- The payload of a command with its length and zeros. -/
def mgmtBody (cmd : Nat) : List Byte :=
  leBytes 2 cmd ++ leBytes 2 0 ++ leBytes 4 (mgmtLen cmd) ++ List.replicate (mgmtLen cmd + if mgmtAuth cmd then 3328 else 0) 0

/-- The form that the statement asks of a request. -/
abbrev mgmtForm (s : State) (q : MgmtReq) : Prop :=
  let cmd := leAt q.payload 0 2
  q.payload.length = 8 + mgmtLen cmd + (if mgmtAuth cmd then 3328 else 0) ∧ leAt q.payload 2 2 = 0 ∧ leAt q.payload 4 4 = mgmtLen cmd ∧
    mgmtKnown (s.sec.sys == .recovery) cmd = true ∧ (s.sec.sys = .recovery → recoveryServes (s.rd RST_CAUSE.RCAUSE) cmd = true)

theorem witness_CustodianResults :
    (¬ mgmtForm ready (mgmtReq (mgmtBody 0x11 ++ [0])) ∧ ¬ mgmtForm ready (mgmtReq (mgmtBody 0x0F)) ∧ ¬ mgmtForm ready (mgmtReq (mgmtBody 0x20))) ∧
    (mgmtForm ready (mgmtReq (mgmtBody 0x11)) ∧ leAt (mgmtBody 0x11) 0 2 = 0x11 ∧
      mgmtForm ((inSys .recovery ready).wr RST_CAUSE.RCAUSE 9) (mgmtReq (mgmtBody 0x11))) ∧
    (mgmtForm ready (mgmtReq (mgmtBody 0x14)) ∧ mgmtAuth (leAt (mgmtBody 0x14) 0 2) = true ∧ leAt (mgmtBody 0x14) 0 2 = 0x14) ∧
    (nbits (0x100 : Word).toNat 0 8 = 0) ∧
    ((ready.wr MBX_STAT.STATE 1).rd MBX_STAT.STATE = 1 ∧ ready.rd MBX_STAT.STATE ≠ 1 ∧ ready.rd MBX_CTL.LEN = 0 ∧
      16384 < (ready.wr MBX_CTL.LEN 16385).rd MBX_CTL.LEN) ∧
    (let w := ((ready.wr UPD_STAT.TRIAL 1).wr UPD_CFG.AUTO 1); w.rdB UPD_STAT.TRIAL = true ∧ w.rdB UPD_CFG.AUTO = true ∧ w.sec.sys = .run ∧
      ready.rdB UPD_STAT.TRIAL = false) := by decide +kernel

/-- An authentication fails that uses a nonce the part never gave. -/
theorem witness_CustodianResults_auth : (ready.authOk (mgmtReq (mgmtBody 0x14))).1 = false := by
  have h : (ready.useNonce 16 ((List.replicate 3328 (0 : Byte)).take 16)).1 = false := by decide +kernel
  have e : (mgmtBody 0x14).drop ((mgmtBody 0x14).length - 3328) = List.replicate 3328 0 := by decide +kernel
  simp only [State.authOk, mgmtReq, e, h, Bool.false_and]

/-! ### The machine -/

/-- `ready` with a reserved encoding at its program counter. -/
def readyBad : State := ready.modCp 0 (fun p => { p with pf := [⟨0, 0x0FFF, false⟩] ++ p.pf.drop 1 })

theorem witness_InstructionsDecode :
    (∃ n w, instrBits (.add 0 1 2) = some (0, n, w)) ∧
    (ready.lead 0 = 0 ∧ ready.parcel 0 (ready.pc 0) = some 0 ∧ ready.parcels 0 (ready.pc 0) (parcelLen 0) 0 = some 0 ∧ (decodeInsn 0 (parcelLen 0) 0).isSome = true) ∧
    (readyBad.lead 0 = 0 ∧ readyBad.parcel 0 (readyBad.pc 0) = some 0x0FFF ∧ readyBad.parcels 0 (readyBad.pc 0) (parcelLen 0x0FFF) 0 = some 0x0FFF ∧
      decodeInsn 0 (parcelLen 0x0FFF) 0x0FFF = none) ∧
    readyBad.turn 0 0 ∧ readyBad.breakAt 0 (readyBad.pc 0) = none ∧ (readyBad.atInsn 0).fetchFault 0 (readyBad.pc 0) 1 = (none, readyBad) := by
  refine ⟨⟨_, _, rfl⟩, by decide +kernel, by decide +kernel, ⟨?_, ?_, ?_, ?_, ?_⟩, by decide +kernel, by decide +kernel⟩ <;> decide +kernel

theorem witness_StepTakesTheFront : ({ ready with pending := [.lineReset, .wake] } : State).pending = .lineReset :: [.wake] := rfl

theorem witness_EmptyQueuePassesTime : ready.pending = [] ∧ State.reset.sec.sys = .off ∧ ((ready.cp 0).timers[(3 : Fin 4).val]).en = false ∧
    (ready.cp 0).wdg.en = false := by decide +kernel

theorem witness_StepsKeepCanonicalForm : ready.canonical = true ∧ ∃ t, step { ready with pending := [.lineReset] } = .next t :=
  ⟨by decide +kernel, _, rfl⟩

theorem witness_CommandsKeepQueueTimeAndFuses : ∃ t, exec .lineReset ready = .next t := ⟨_, rfl⟩

/-! ### The scheduler and microcode, paging commands, upkeep, the mesh, tag caches: further clauses -/

/-- A microword with a class, a target, a kind and a SEQ. -/
def microword (cls target kind seq : Nat) : BitVec 32 := BitVec.ofNat 32 (cls * 2 ^ 28 + target * 2 ^ 14 + kind * 128 + seq)

/-- A patch set of the part's ROM with no words and one override. -/
def patchOf (o : UcOverride) : UcPatch := ⟨Config.romId, 1, 2, [], [o]⟩

theorem witness_SchedulerResults_settled :
    (let w := readyOne 1 [{ anyEntry with v := ⟨2, 2, 2, 0, 0, 2, 0, false, false, 0⟩ }]; w.vqSettle 0 = w) ∧
    (let w := readyOne 0 [{ anyEntry with v := ⟨2, 2, 2, 0, 0, 2, 0, false, false, 0⟩ }]; w.vqSettle 0 = w) ∧
    (let w := readyOne 1 []; w.vqSettle 0 = w) ∧
    (let w := readyOne 1 [{ anyEntry with v := ⟨2, 2, 2, 0, 0, 2, 0, false, false, 0⟩ }]; w.shadowBack 0 = w) ∧
    (let w := readyOne 0 [{ anyEntry with v := ⟨2, 2, 2, 0, 0, 2, 0, false, false, 0⟩ }]; w.shadowBack 0 = w) ∧
    (let w := readyOne 1 []; w.shadowBack 0 = w ∧ w.mesh.crossing (63 / 16) = false ∧ w.keepsLit 0 = false) := by decide +kernel

theorem witness_SchedulerResults_microcode (h : bitOf ready.fresh.1 0 = false) :
    (ready.armed 0x13 63 = false ∧ ucClass (microword 7 0x2001 0 0) = 7 ∧ ([5] : List Nat).length < 2 ∧ 2 ≤ ([5, 6] : List Nat).length ∧
      ucClass (microword 8 0x2001 0 0) = 8 ∧ ucClass (microword 6 0 0 0) < 7 ∧ ucKind (microword 6 0 0 0) = 0 ∧ ucClass (microword 1 0 1 0x77) < 7 ∧
      ucKind (microword 1 0 1 0x77) = 1 ∧ ucSeq (microword 1 0 1 0x78) % 16 = 8 ∧ ucKind (microword 1 0 2 1) = 2 ∧ ucSeq (microword 1 0 2 0) = 0 ∧
      ucSeq (microword 1 0 2 1) = 1 ∧ ucKind (microword 1 0 3 0) = 3) ∧
    (ready.rdB INJ_STAT.ARMED = false ∧ ready.dispStart 5 = none) ∧
    (1024 < (List.replicate 1025 (0 : BitVec 32)).length ∧ 9 ≤ ucClass (microword 9 0 0 0) ∧ 0x23FF < ucTarget (microword 8 0x2400 0 0) ∧
      romKind 0x280 = 1 ∧ (0x1FFF : BitVec 16).toNat < 0x2000 ∧ 0x23FF < (0x2400 : BitVec 16).toNat) ∧
    (ucPatchBad (patchOf ⟨5, 0x2000, 9, 3⟩) = false ∧ bitOf ready.fresh.1 0 = false ∧ (patchOf ⟨5, 0x2000, 9, 3⟩).ovr = [⟨5, 0x2000, 9, 3⟩] ∧
      ∃ k, k ≠ 5) := by
  refine ⟨by decide +kernel, by decide +kernel, by decide +kernel, ?_, h, rfl, 6, by decide⟩
  have e : romKind 5 = 0 := by decide +kernel
  simp [ucPatchBad, patchOf, ucOverBad, e]

theorem witness_PagingCommandResults_layout :
    (let w := ((readyRoot.wr (PG_HINT_BASE.ADDR 0) 5).wr (PG_HINT_LEN.PAGES 0) 1)
      let b := ((w.wr (PG_HINT.STATE 0) 1).wr (PG_HINT.PARTIAL 0) 0).modPart 0 (fun x => { x with hintBusy := some (5, 1) });
      0 < w.rd (PG_HINT_BASE.ADDR 0) ∧ (match b.walk 0 (5 * 65536) with | .missing _ _ => true | _ => false) = true ∧
      (b.walkReads (b.walkPath (5 * 65536) ((b.part 0).root.getD 0) 3)).1 = none ∧
      5 % 32 ≠ 0 ∧ 5 % 1 = 0 ∧ 1 % 1 = 0) ∧
    (let w := ready.wr (PG_HINT_BASE.ADDR 0) 16384; w.rd (PG_HINT_BASE.ADDR 0) % 16384 = 0 ∧ w.rd (PG_HINT_LEN.PAGES 0) % 16384 = 0) := by decide +kernel

theorem witness_UpkeepAndScrubResults_slots :
    (let w := ((ready.wr (NM_STAT.TRAINED 15) 1).wr SHED_LEVEL.LEVEL 1)
      let v := w.modM (fun m => { m with slotAgain := [511] });
      1 ≤ w.shed ∧ w.mst.slotAgain.contains (15 * 32 + 31) = false ∧ v.mst.slotAgain.contains (15 * 32 + 31) = true ∧ v.armed 0x1C 15 = false ∧
      w.rdB (NM_STAT.TRAINED 0) = false ∧ (w.wr (NM_STAT.SELFREF 15) 1).rdB (NM_STAT.SELFREF 15) = true ∧ 5 < (w.wr SHED_LEVEL.LEVEL 6).shed) ∧
    (let w := ready.wr (CC_STAT.TRAINED 7) 1; let v := { w.wr SHED_LEVEL.LEVEL 1 with now := 2000000000 };
      mapWf (fun _ => 0) (w.sendCmd false 7).mst.acts = true ∧ w.rdB (CC_STAT.TRAINED 6) = false ∧
      ((w.wr SHED_LEVEL.LEVEL 1).mst.slotAgain.contains (512 + 2 * 7 + 1) = false ∧
        (w.wr SHED_LEVEL.LEVEL 1).now < mapGet (fun _ => 0) (w.wr SHED_LEVEL.LEVEL 1).mst.slotLast (512 + 2 * 7 + 1) + 2000000000) ∧
      1 ≤ v.shed ∧ mapGet (fun _ => 0) v.mst.slotLast (512 + 2 * 7 + 1) + 2000000000 ≤ v.now) := by decide +kernel

theorem witness_UpkeepAndScrubResults_scrub :
    (let w := ready.wr SCRUB_CFG.EN 1; w.scrubStopped = false ∧ w.rdB SCRUB_CFG.EN = true ∧ 0 < (w.scrubShape true).2.2.1 ∧
      w.mst.nearPos + 1 < ((w.scrubShape true).1 + (w.scrubShape true).2.1) * (w.scrubShape true).2.2.1 + (w.scrubShape true).2.2.2 ∧
      (w.scrubShape false).2.2.1 = 0 ∧
      ((w.scrubShape true).1 + (w.scrubShape true).2.1) * (w.scrubShape true).2.2.1 + (w.scrubShape true).2.2.2 ≤
        (w.modM (fun m => { m with nearPos := 10 ^ 12 })).mst.nearPos + 1) ∧
    (let e : Err := ⟨1, 0, false⟩; let w := ready.modA 0 (fun a => { a with d := a.d.set 5 { a.d[5] with err := e } });
      w.lead ⟨2 * (0 : ClusterId).val + (0 : Fin 2).val, by decide⟩ = 0 ∧ (0x45 : BitVec 19).toNat % 16 = (5 : Reg).val ∧ (w.cp 0).a.d[(5 : Reg).val].err = e ∧
      (gridRead e (List.range 8)).poison = false ∧ e ≠ Err.zero ∧ ready.errs = [] ∧ mapWf errDefault ready.errs = true) := by decide +kernel

/-- A flit from cluster 0 to near stack 15. -/
def aFlit : Flit := ⟨.cluster 0, .near 15, true, 77, false, 5⟩

/-- The mesh with the flit in the queue of its sender, on channel 3; and with it where it leaves. -/
def readyMesh (there : Bool) : State := { ready with mesh := { ready.mesh with
  inq := if there then [] else [(inKey 0 (.unit (.cluster 0)) 3, [aFlit, aFlit])], outq := if there then [(outKey (.near 15) 3, [aFlit])] else [] } }

theorem witness_UpkeepAndScrubResults_mesh :
    (let inq (t : State) (k : Nat) : List Flit := mapGet (fun _ => []) t.mesh.inq k; let s := readyMesh false; let t := readyMesh true;
      portOver .east 0 = some (1, .west) ∧ unitRouter aFlit.dst ≠ 0 ∧ flitOut { aFlit with dst := .near 0 } (unitRouter (.near 0)) = .unit (.near 0) ∧
      mapWf (fun _ => ([] : List Flit)) s.mesh.inq = true ∧ mapWf (fun _ => ([] : List Flit)) s.mesh.outq = true ∧
      mapWf (fun _ => ([] : List Flit)) t.mesh.outq = true ∧
      ((inputsAt 15).all (fun p => (inq s (inKey 15 p 3)).isEmpty) = true) ∧
      s.mesh.pick 0 .east 3 = some (.unit (.cluster 0)) ∧ (inq s (inKey 0 (.unit (.cluster 0)) 3)).head? = some aFlit ∧ s.mesh.credit 0 .east 3 = true ∧
      ({ s.mesh with inq := s.mesh.inq ++ [(inKey 1 .west 3, List.replicate 16 aFlit)] } : MeshSt).credit 0 .east 3 = false ∧
      s.armed 0x1B 0 = false ∧ (inq ready (inKey 0 (.unit (.cluster 0)) 3)).length < unitEntries (.cluster 0) ∧
      mapGet (fun _ => []) t.mesh.outq (outKey (.near 15) 3) = aFlit :: [] ∧
      (let w := (((ready.wr INJ_STAT.ARMED 1).wr INJ_SEL.POINT 0x1B).setReg INJ_MASK_D.adr 3);
        w.armed 0x1B 0 = true ∧ (gridRead w.injMask (List.range 8)).poison = true)) := by decide +kernel

/-- The tag line of near granule 5, fetched with a bad line. -/
def badLine : TagLine := ⟨(ready.tagPlace 80).1, false, true, Err.zero⟩

theorem witness_UpkeepAndScrubResults_tags :
    (ready.mst.tagc.filter (fun x => tagCtl x.key == tagCtl (ready.tagPlace 80).1)).length ≤ tagWays (ready.tagPlace 80).1 ∧
    (ready.errs = [] ∧ ready.rdB INJ_STAT.ARMED = false ∧ ready.mst.tagc.all (fun x => x.err == Err.zero && !x.bad) = true ∧
      mapWf tagDefault ready.tags = true) ∧
    (let w := ready.modM (fun m => { m with tagc := [badLine] });
      (w.rdB INJ_STAT.ARMED = false ∧ storeOf (16 * 5) = .near) ∧
      (w.tagFetch (w.tagPlace (16 * 5)).1 false).mst.tagc.find? (fun x => x.key == (w.tagPlace (16 * 5)).1) = some badLine ∧ badLine.bad = true) := by
  decide +kernel

theorem witness_ShortVectorElementResults_masked :
    ([1, 2, 3] : List Byte).length ≤ 64 ∧ mapWf memDefault ready.mem = true ∧ mapWf tagDefault ready.tags = true ∧ ready.errs = [] ∧
      ready.rdB INJ_STAT.ARMED = false ∧ ready.lockstepCl (clOf 0) = false ∧
      (let w := (ready.storeMasked 0 (spadWin + 0x100) [(spadBase + 0x100, 64)] (List.replicate 64 0) 0).watchAccess 0 true (spadWin + 0x100) 64;
        (w.cp 0).calm) := by
  refine ⟨by decide, by decide +kernel, by decide +kernel, by decide +kernel, by decide +kernel, by decide +kernel, ?_, ?_, ?_, ?_⟩ <;> decide +kernel

theorem witness_ArithmeticFlags : (63 : Nat) < 64 ∧ 0 < 63 := by decide

end Sys2Proof.Tests
end

section
/-! SUPPORT. The scope of the model: a step and its reset, the values at reset, and a load that the tag cache keeps from leaving memory
without check errors. -/

namespace Sys2Proof.Machine

/-! ### A step -/

theorem step_of_pending {s : State} {c : Instr} {rest : List Instr} (h : s.pending = c :: rest) :
    step s = exec c { s with pending := rest } := by
  simp only [step, h]

/-- Settles O55: the match of `step` on the queue, which `State.reset` leaves empty. -/
theorem stepTakesTheFront : Obligations.StepTakesTheFront :=
  ⟨fun _ _ _ => step_of_pending, fun _ _ => step_of_pending rfl, rfl, rfl, rfl⟩

/-! ### The values at reset -/

@[simp] theorem State.reset_cp (c : CpId) : State.reset.cp c = Cp.reset := Vector.getElem_replicate c.isLt

@[simp] theorem CpArch.reset_k (n : Fin 16) : CpArch.reset.k[n.val] = Cap.null := Vector.getElem_replicate n.isLt

theorem State.reset_reg (a : Nat) : State.reset.reg a = regReset a := rfl

theorem State.reset_rd (f : Fld) : State.reset.rd f = f.ofWord (regReset f.adr) := rfl

theorem cp_at_reset (c : CpId) : (State.reset.cp c).run = .inReset ∧ (State.reset.cp c).vq.entries = [] ∧
    ∀ n : Fin 16, ((State.reset.cp c).a.k[n.val]).tag = false := by
  rw [State.reset_cp]
  exact ⟨rfl, rfl, fun n => congrArg Cap.tag (CpArch.reset_k n)⟩

theorem fusedTdp_cases : Config.fusedTdp = 1250 ∨ Config.fusedTdp = 1050 := by
  unfold Config.fusedTdp
  cases Config.ceil20
  · exact .inr rfl
  · exact .inl rfl

/-- PWR_LIMIT as R514 gives it for a fused power: TDP_W and LIMIT_W at that power, WIN_MS at 1,000. -/
def powerLimitRow (tdp : BitVec 12) : RegRow :=
  ⟨PWR_LIMIT.adr, 1, 0, 1, 0, [⟨0, 12, .ro, tdp.toNat⟩, ⟨16, 12, .rw, tdp.toNat⟩, ⟨32, 12, .rw, 1000⟩]⟩

theorem regRowAt_powerLimit : regRowAt PWR_LIMIT.adr = some (powerLimitRow Config.fusedTdp) := rfl

theorem regReset_powerLimit : regReset PWR_LIMIT.adr = (powerLimitRow Config.fusedTdp).resetWord := by
  have h : specialReset PWR_LIMIT.adr = none := by decide +kernel
  simp only [regReset, h, regRowAt_powerLimit]

/-- The kernel cannot evaluate PWR_LIMIT, which holds a fused constant without a body: its two values are taken one by one. -/
theorem powerLimit_at_reset :
    State.reset.rd PWR_LIMIT.WIN_MS = 1000 ∧ State.reset.rd PWR_LIMIT.LIMIT_W = Config.fusedTdp.toNat := by
  have h : regReset PWR_LIMIT.WIN_MS.adr = (powerLimitRow Config.fusedTdp).resetWord := regReset_powerLimit
  have h' : regReset PWR_LIMIT.LIMIT_W.adr = (powerLimitRow Config.fusedTdp).resetWord := regReset_powerLimit
  rw [State.reset_rd, State.reset_rd, h, h']
  obtain e | e := fusedTdp_cases
  · rw [e]; decide
  · rw [e]; decide

/-- Settles O57: fields of `State.reset` as they are written, and registers of its tables evaluated. -/
theorem resetValues : Obligations.ResetValues := by
  obtain ⟨hwin, hlim⟩ := powerLimit_at_reset
  refine ⟨rfl, rfl, rfl, rfl, rfl, cp_at_reset, State.reset_reg, ?_, ?_, ?_, ?_, ?_, ?_, hwin, ?_, ?_, ?_, ?_, ?_, hlim⟩
  all_goals decide +kernel

/-! ### A load that poisons a tag unit -/

/-- A full tag cache of Cellar channel 0: 1,024 lines (R330; log entry 99), all clean but the one used least recently. That one was
changed, and INJ_TAGC flipped two bits of its first byte (R346), which the grid code cannot correct (R348). -/
def spoiltTagCache : List TagLine :=
  (List.range 1024).map (fun i => ⟨celTagBase + 64 * (i + 1), i == 1023, false, if i = 1023 then ⟨3, 0, true⟩ else Err.zero⟩)

/-- CP 0 with its data cache off, before the tag cache above. -/
def beforeSpoiltTags : State :=
  (State.reset.modA 0 (fun a => { a with modeOn := 0 })).modM (fun m => { m with tagc := spoiltTagCache })

/-- The load fetches the line of the tags of its unit; the line that makes room for it goes back to memory poisoned (R330, R360). -/
theorem load_poisons_evicted_tags :
    (beforeSpoiltTags.loadSpans 0 celBase [(celBase, 1)]).2.err ((celTagBase + 64 * 1024) / 8) = ⟨0, 0x5A5A, false⟩ := by
  decide +kernel

theorem err_of_errs_nil {s : State} (h : s.errs = []) (w : Nat) : s.err w = Err.zero := by
  simp [State.err, h, mapGet, mapFind, errDefault]

/-- The clause has no hypothesis on the tag caches: a line that leaves one can bring a check error into memory. -/
theorem not_loadFrame : ¬ Sys2Proof.Clauses.LoadFrame := by
  intro h
  obtain ⟨-, -, -, herrs, -⟩ := h beforeSpoiltTags 0 celBase celBase 1 (by decide +kernel) rfl (by decide +kernel) rfl
  have hzero := err_of_errs_nil herrs ((celTagBase + 64 * 1024) / 8)
  rw [load_poisons_evicted_tags] at hzero
  exact absurd hzero (by decide)

/-- Refutes O17: a load of one byte at the first Cellar address, with the data cache off, no check error in memory, no injection armed and
no poisoned flit, leaves a check error in memory, because the tag cache writes a spoilt line back to make room. -/
theorem not_memoryReadBackAndFrames : ¬ Obligations.MemoryReadBackAndFrames := by
  intro ⟨_, _, _, hload⟩
  exact not_loadFrame hload

end Sys2Proof.Machine
end

section
/-! SUPPORT. Fields of registers: which of them a write leaves, and what a one-bit field reads as. -/

namespace Sys2Proof.Machine

theorem lowMask_getLsbD (w i : Nat) : (lowMask w).getLsbD i = (decide (i < 64) && decide (i < w)) := by
  simp [lowMask, BitVec.getLsbD_ofNat, Nat.testBit_two_pow_sub_one]

theorem getLsbD_and_lt (v : Word) (n : Nat) : (v.getLsbD n && decide (n < 64)) = v.getLsbD n := by
  by_cases h : n < 64
  · simp [h]
  · simp [BitVec.getLsbD_of_ge v n (by omega)]

/-- A field that lies beside the one written reads as it did. -/
theorem Fld.ofWord_setIn_beside {f g : Fld} (h : f.lsb + f.width ≤ g.lsb ∨ g.lsb + g.width ≤ f.lsb) (v : Word) (x : Nat) :
    g.ofWord (f.setIn v x) = g.ofWord v := by
  unfold Fld.ofWord Fld.setIn
  congr 1
  apply BitVec.eq_of_getLsbD_eq
  intro i hi
  simp only [BitVec.getLsbD_and, BitVec.getLsbD_ushiftRight, BitVec.getLsbD_or, BitVec.getLsbD_not, BitVec.getLsbD_shiftLeft, lowMask_getLsbD]
  by_cases hg : i < g.width
  · by_cases hf : g.lsb + i < f.lsb
    · simp [hf, getLsbD_and_lt]
    · have : ¬ g.lsb + i - f.lsb < f.width := by omega
      simp [hf, this, getLsbD_and_lt]
  · simp [hg]

/-- A one-bit field reads as the bit that was put there. -/
theorem Fld.ofWord_setIn_bit {f : Fld} (hw : f.width = 1) (hl : f.lsb < 64) (v : Word) (b : Bool) :
    f.ofWord (f.setIn v (if b then 1 else 0)) = if b then 1 else 0 := by
  have e : ((f.setIn v (if b then 1 else 0)) >>> f.lsb) &&& lowMask f.width = if b then 1#64 else 0#64 := by
    apply BitVec.eq_of_getLsbD_eq
    intro i hi
    simp only [Fld.setIn, BitVec.getLsbD_and, BitVec.getLsbD_ushiftRight, BitVec.getLsbD_or, BitVec.getLsbD_not, BitVec.getLsbD_shiftLeft,
      lowMask_getLsbD, hw]
    obtain rfl | hi0 := Nat.eq_zero_or_pos i
    · cases b <;> simp [hl]
    · have : i ≠ 0 := by omega
      cases b <;> simp [this]
  unfold Fld.ofWord
  rw [e]
  cases b <;> rfl

theorem reg_wr_ne (s : State) {f : Fld} {a : Nat} (v : Nat) (h : a ≠ f.adr) : (s.wr f v).reg a = s.reg a := reg_setReg_ne s _ h

theorem reg_wr_self (s : State) (f : Fld) (v : Nat) : (s.wr f v).reg f.adr = f.setIn (s.reg f.adr) v := by
  rw [State.wr, reg_setReg, if_pos rfl]

/-- A field of another register reads as it did. -/
theorem rd_wr_ne (s : State) {f g : Fld} (v : Nat) (h : g.adr ≠ f.adr) : (s.wr f v).rd g = s.rd g := by
  rw [State.rd, reg_wr_ne s v h, State.rd]

theorem rdB_wr_ne (s : State) {f g : Fld} (v : Nat) (h : g.adr ≠ f.adr) : (s.wr f v).rdB g = s.rdB g := by
  rw [State.rdB, rd_wr_ne s v h, State.rdB]

/-- Another field of the same register reads as it did. -/
theorem rd_wr_beside (s : State) {f g : Fld} (v : Nat) (ha : g.adr = f.adr) (h : f.lsb + f.width ≤ g.lsb ∨ g.lsb + g.width ≤ f.lsb) :
    (s.wr f v).rd g = s.rd g := by
  rw [State.rd, ha, reg_wr_self, Fld.ofWord_setIn_beside h, State.rd, ha]

theorem rdB_wr_beside (s : State) {f g : Fld} (v : Nat) (ha : g.adr = f.adr) (h : f.lsb + f.width ≤ g.lsb ∨ g.lsb + g.width ≤ f.lsb) :
    (s.wr f v).rdB g = s.rdB g := by
  rw [State.rdB, rd_wr_beside s v ha h, State.rdB]

theorem rdB_wrB_self (s : State) {f : Fld} (hw : f.width = 1) (hl : f.lsb < 64) (b : Bool) : (s.wrB f b).rdB f = b := by
  rw [State.rdB, State.rd, State.wrB, reg_wr_self, Fld.ofWord_setIn_bit hw hl]
  cases b <;> rfl

end Sys2Proof.Machine
end

section
/-! SUPPORT. The fast matrix (R409 to R418) and the Two-Wire Debug port (R590 to R597). -/

namespace Sys2Proof.Machine

/-! ### Arbitration -/

/-- Only the empty list has no best. -/
theorem bestBy_eq_none {α : Type} {f : α → Nat} {l : List α} (h : bestBy f l = none) : l = [] := by
  cases l with
  | nil => rfl
  | cons a l =>
    simp only [bestBy] at h
    split at h
    · split at h <;> cases h
    · cases h

/-- The best of a list is in it, and nothing in it measures less. -/
theorem bestBy_spec {α : Type} (f : α → Nat) {l : List α} {a : α} (h : bestBy f l = some a) : a ∈ l ∧ ∀ b ∈ l, f a ≤ f b := by
  induction l generalizing a with
  | nil => cases h
  | cons x l ih =>
    simp only [bestBy] at h
    cases hl : bestBy f l with
    | none =>
      rw [hl] at h
      obtain rfl : x = a := Option.some.inj h
      simp [bestBy_eq_none hl]
    | some b =>
      obtain ⟨hb, hmin⟩ := ih hl
      rw [hl] at h
      simp only at h
      split at h <;> obtain rfl := Option.some.inj h
      · exact ⟨List.mem_cons_of_mem _ hb, fun y hy => by
          obtain rfl | hy := List.mem_cons.mp hy
          · omega
          · exact hmin y hy⟩
      · exact ⟨List.mem_cons_self, fun y hy => by
          obtain rfl | hy := List.mem_cons.mp hy
          · exact Nat.le_refl _
          · have := hmin y hy
            omega⟩

/-- Whether a request that waits has reached the age of R416. -/
def State.fabAged (s : State) (x : FabReq × Nat) : Bool := decide (max 1 (s.rd FAB_AGE.CYC) ≤ s.now - x.2)

/-- The measure by which a port chooses among requests that have not aged: the priority, then the rotation. -/
def State.fabRank (s : State) (port : Nat) (x : FabReq × Nat) : Nat :=
  (15 - s.fabPrio port x.1.m.val) * 64 + (x.1.m.val + 36 - (vecAt? s.fab.last port).getD 0) % 37

theorem fabGrant_eq (s : State) (port : Nat) : s.fabGrant port =
    if ((s.fabHeads port).filter s.fabAged).isEmpty then bestBy (s.fabRank port) (s.fabHeads port)
    else bestBy (fun x => x.2) ((s.fabHeads port).filter s.fabAged) := rfl

theorem fabPrio_lt (s : State) (port m : Nat) : s.fabPrio port m < 16 := Nat.mod_lt _ (by decide)

/-- A lower measure is no lower priority (R416). -/
theorem fabPrio_of_rank {s : State} {port : Nat} {x y : FabReq × Nat} (h : s.fabRank port x ≤ s.fabRank port y) :
    s.fabPrio port y.1.m.val ≤ s.fabPrio port x.1.m.val := by
  have hx := fabPrio_lt s port x.1.m.val
  have hy := fabPrio_lt s port y.1.m.val
  have rx := Nat.mod_lt (x.1.m.val + 36 - (vecAt? s.fab.last port).getD 0) (y := 37) (by decide)
  have ry := Nat.mod_lt (y.1.m.val + 36 - (vecAt? s.fab.last port).getD 0) (y := 37) (by decide)
  unfold State.fabRank at h
  omega

/-- What a port grants: an aged request, the oldest, where one has aged; else one of the highest priority (R416). -/
theorem fabGrant_spec {s : State} {port : Nat} {x : FabReq × Nat} (h : s.fabGrant port = some x) :
    x ∈ s.fabHeads port ∧
      ((∃ y ∈ s.fabHeads port, s.fabAged y = true) → s.fabAged x = true ∧ ∀ y ∈ s.fabHeads port, s.fabAged y = true → x.2 ≤ y.2) ∧
      ((∀ y ∈ s.fabHeads port, s.fabAged y ≠ true) → ∀ y ∈ s.fabHeads port, s.fabPrio port y.1.m.val ≤ s.fabPrio port x.1.m.val) := by
  rw [fabGrant_eq] at h
  split at h
  case isTrue hnone =>
    have hno : ∀ y ∈ s.fabHeads port, s.fabAged y ≠ true := by simpa [List.isEmpty_iff] using hnone
    obtain ⟨hx, hmin⟩ := bestBy_spec _ h
    exact ⟨hx, fun ⟨y, hy, ha⟩ => absurd ha (hno y hy), fun _ y hy => fabPrio_of_rank (hmin y hy)⟩
  case isFalse hsome =>
    obtain ⟨hx, hmin⟩ := bestBy_spec _ h
    obtain ⟨hx, ha⟩ := List.mem_filter.mp hx
    exact ⟨hx, fun _ => ⟨ha, fun y hy hya => hmin y (List.mem_filter.mpr ⟨hy, hya⟩)⟩, fun hno => absurd ha (hno x hx)⟩

theorem bestBy_singleton {α : Type} (f : α → Nat) (a : α) : bestBy f [a] = some a := rfl

/-- A list of options with one entry. -/
theorem filterMap_range_one {β : Type} {f : Nat → Option β} {x : β} {a n : Nat} (ha : a < n)
    (hf : ∀ m, f m = if m = a then some x else none) : (List.range n).filterMap f = [x] := by
  induction n with
  | zero => omega
  | succ n ih =>
    rw [List.range_succ, List.filterMap_append]
    obtain rfl | hn := Nat.eq_or_lt_of_le (Nat.le_of_lt_succ ha)
    · have hnil : (List.range a).filterMap f = [] := by
        refine List.filterMap_eq_nil_iff.mpr fun m hm => ?_
        have := List.mem_range.mp hm
        rw [hf, if_neg (by omega)]
      have hx : f a = some x := by rw [hf, if_pos rfl]
      simp [hnil, hx]
    · have hx : f n = none := by rw [hf, if_neg (by omega)]
      simp [ih hn, hx]

/-- A request that waits alone at its port is granted. -/
theorem fabGrant_alone {s : State} {port : Nat} {x : FabReq × Nat} (hw : s.fab.wait = [x]) (hp : fabPort x.1 = port) :
    s.fabGrant port = some x := by
  have hh : s.fabHeads port = [x] := by
    refine filterMap_range_one x.1.m.isLt fun m => ?_
    by_cases hm : m = x.1.m.val
    · simp [hw, hp, hm]
    · simp [hw, hp, hm, Ne.symm hm]
  rw [fabGrant_eq, hh]
  by_cases ha : s.fabAged x = true
  · simp [ha, bestBy_singleton]
  · simp [ha, bestBy_singleton]

/-! ### Commands of the matrix -/

theorem exec_fabricTransaction (port : Fin 35) (fresh : Option FabReq) (s : State) :
    exec (.fabricTransaction port fresh) s = execFabricTransaction port fresh s := rfl

theorem exec_fabricResponse (m : Fin 37) (id : Fin 32) (s : State) : exec (.fabricResponse m id) s = execFabricResponse m id s := rfl

theorem exec_fabricTimeout (m : Fin 37) (id : Fin 32) (s : State) : exec (.fabricTimeout m id) s = execFabricTimeout m id s := rfl

/-- A request that arrives where the master's queue is full stalls (R410). -/
theorem fabricTransaction_stalls {s : State} {port : Fin 35} {r : FabReq} (h : masterRoom r.m.val ≤ s.outstanding r.m.val) :
    exec (.fabricTransaction port (some r)) s = exec (.fabricTransaction port none) s := by
  have : ¬ (fabPort r = port.val ∧ s.outstanding r.m.val < masterRoom r.m.val) := by omega
  simp only [exec_fabricTransaction, execFabricTransaction, if_neg this]

/-- A request that arrives joins those that wait. -/
theorem fabricTransaction_arrives {s : State} {port : Fin 35} {r : FabReq} (hp : fabPort r = port.val)
    (h : s.outstanding r.m.val < masterRoom r.m.val) :
    exec (.fabricTransaction port (some r)) s =
      exec (.fabricTransaction port none) (s.modFab (fun f => { f with wait := f.wait ++ [(r, s.now)] })) := by
  simp only [exec_fabricTransaction, execFabricTransaction, if_pos (And.intro hp h)]

theorem fabricTransaction_idle {s : State} {port : Fin 35} (h : s.fabGrant port.val = none ∨ s.portRoom port.val = false) :
    exec (.fabricTransaction port none) s = .next s := by
  rw [exec_fabricTransaction, execFabricTransaction]
  rcases h with h | h <;> simp [h]

theorem fabricTransaction_grants {s : State} {port : Fin 35} {x : FabReq × Nat} (hroom : s.portRoom port.val = true)
    (h : s.fabGrant port.val = some x) : exec (.fabricTransaction port none) s =
      .next ((s.modFab (fun f => { f with wait := f.wait.filter (fun y => y != x) })).fabPerform port.val x.1) := by
  simp [exec_fabricTransaction, execFabricTransaction, hroom, h]

/-- A request that arrives where nothing waits is performed at once. -/
theorem fabricTransaction_alone {s : State} {port : Fin 35} {r : FabReq} (hw : s.fab.wait = [])
    (h : s.outstanding r.m.val < masterRoom r.m.val) (hroom : s.portRoom port.val = true) (hp : fabPort r = port.val) :
    exec (.fabricTransaction port (some r)) s = .next ((s.modFab (fun f => { f with wait := [] })).fabPerform port.val r) := by
  have hg : (s.modFab (fun f => { f with wait := f.wait ++ [(r, s.now)] })).fabGrant port.val = some (r, s.now) :=
    fabGrant_alone (by simp [hw]) hp
  rw [fabricTransaction_arrives hp h, fabricTransaction_grants (by exact hroom) hg]
  simp [State.modFab, hw]

/-- The record of a timeout: the count, and the access where it is the first (R412, R418). -/
theorem toErr_eq (s : State) (m a : Nat) (write : Bool) : s.toErr m a write =
    (let c := s.cntSat (FAB_ERR.COUNT 1) 1
      if s.rdB (FAB_ERR.VALID 1) then c
      else (((c.wr (FAB_ERR.ADDR 1) a).wr (FAB_ERR.MASTER 1) m).wrB (FAB_ERR.WRITE 1) write).wr (FAB_ERR.VALID 1) 1) := by
  have hv : (s.cntSat (FAB_ERR.COUNT 1) 1).rdB (FAB_ERR.VALID 1) = s.rdB (FAB_ERR.VALID 1) :=
    rdB_wr_beside s _ rfl (Or.inr (by decide))
  simp only [State.toErr, hv]

theorem fabricResponse_due {s : State} {m : Fin 37} {id : Fin 32} {t : FabTx} (h : s.fabDue m id = some t) :
    exec (.fabricResponse m id) s = .next (s.fabAnswer t t.status (if t.req.write then 0 else t.data)) := by
  simp only [exec_fabricResponse, execFabricResponse, h]

theorem fabricTimeout_due {s : State} {m : Fin 37} {id : Fin 32} {t : FabTx} (h : s.fabDue m id = some t) :
    exec (.fabricTimeout m id) s = .next ((s.toErr m.val t.req.addr.toNat t.req.write).fabAnswer t 4 0) := by
  simp only [exec_fabricTimeout, execFabricTimeout, h]

theorem matrixResults : Sys2Proof.Clauses.MatrixResults := by
  intro s port r m id t addr v consume
  refine ⟨fun hw ho hroom hp => fabricTransaction_alone hw ho hroom hp, fabricTransaction_stalls, fabricTransaction_idle,
    fun x => fabricTransaction_grants, fun x hg => ?_, fun ht => ⟨fabricResponse_due ht, ?_⟩, rfl, rfl⟩
  · simpa [State.fabAged] using fabGrant_spec hg
  · rw [fabricTimeout_due ht, toErr_eq]
    rfl

/-! ### The Two-Wire Debug port -/

theorem exec_twdPacket (k : TwdPacket) (s : State) : exec (.twdPacket k) s = execTwdPacket k s := rfl

/-- A packet with the start byte, on an open port. -/
def State.twdHears (s : State) (k : TwdPacket) : Prop := s.twdOpen = true ∧ k.header.toNat / 256 = 0xD2

/-- What a packet does that the port hears and whose parity holds, by the operation of its header (R593, R597). -/
def State.twdServe (s : State) (k : TwdPacket) : State :=
  let op := nbits k.header.toNat 5 2
  let tag := nbits k.header.toNat 1 4
  if op = 3 then s.twdSay tag 0xC none
  else if op = 1 then
    match s.twdReg k.addr.toNat with
    | none => s.twdSay tag 0xC none
    | some v => if bitOf k.header 7 then s.twdSay tag 0x6 (some (v, twdCrc k.header k.addr v)) else s.twdWrite k tag op
  else if s.twdBarred k.addr.toNat then s.twdSay tag 0xC none
  else if bitOf k.header 7 then s.twdRead k tag (op == 2)
  else s.twdWrite k tag op

theorem twdPacket_deaf {s : State} {k : TwdPacket} (h : ¬ s.twdHears k) : exec (.twdPacket k) s = .next s.twdSilent := by
  have : s.twdOpen = false ∨ k.header.toNat / 256 ≠ 0xD2 := by
    unfold State.twdHears at h
    cases ho : s.twdOpen <;> simp_all
  simp only [exec_twdPacket, execTwdPacket, Bool.not_eq_true', if_pos this]

theorem twdPacket_parity {s : State} {k : TwdPacket} (h : s.twdHears k) (hp : twdParity k.header = false) :
    exec (.twdPacket k) s = .next ((s.wr TWD_STAT.PAR_ERR 1).twdSay (nbits k.header.toNat 1 4) 0xC none) := by
  obtain ⟨ho, hs⟩ := h
  simp [exec_twdPacket, execTwdPacket, ho, hs, hp]

theorem twdPacket_serves {s : State} {k : TwdPacket} (h : s.twdHears k) (hp : twdParity k.header = true) :
    exec (.twdPacket k) s = .next (s.twdServe k) := by
  obtain ⟨ho, hs⟩ := h
  simp only [exec_twdPacket, execTwdPacket, ho, hs, hp]
  rfl

section
variable {s : State} {k : TwdPacket}

theorem twdServe_three (h : nbits k.header.toNat 5 2 = 3) : s.twdServe k = s.twdSay (nbits k.header.toNat 1 4) 0xC none := by
  simp only [State.twdServe, h, if_true]

theorem twdServe_noReg (h : nbits k.header.toNat 5 2 = 1) (hr : s.twdReg k.addr.toNat = none) :
    s.twdServe k = s.twdSay (nbits k.header.toNat 1 4) 0xC none := by
  simp [State.twdServe, h, hr]

theorem twdServe_regRead {v : Word} (h : nbits k.header.toNat 5 2 = 1) (hd : bitOf k.header 7 = true) (hr : s.twdReg k.addr.toNat = some v) :
    s.twdServe k = s.twdSay (nbits k.header.toNat 1 4) 0x6 (some (v, twdCrc k.header k.addr v)) := by
  simp [State.twdServe, h, hr, hd]

theorem twdServe_barred (h : nbits k.header.toNat 5 2 = 0) (hb : s.twdBarred k.addr.toNat = true) :
    s.twdServe k = s.twdSay (nbits k.header.toNat 1 4) 0xC none := by
  simp [State.twdServe, h, hb]

theorem twdServe_write (h : nbits k.header.toNat 5 2 = 0) (hb : s.twdBarred k.addr.toNat = false) (hd : bitOf k.header 7 = false) :
    s.twdServe k = s.twdWrite k (nbits k.header.toNat 1 4) 0 := by
  simp [State.twdServe, h, hb, hd]

/-- Operations 0 and 2 with the read bit read Control Space, operation 2 with its side effects (R595). -/
theorem twdServe_read (h : nbits k.header.toNat 5 2 = 0 ∨ nbits k.header.toNat 5 2 = 2) (hb : s.twdBarred k.addr.toNat = false)
    (hd : bitOf k.header 7 = true) : s.twdServe k = s.twdRead k (nbits k.header.toNat 1 4) (nbits k.header.toNat 5 2 == 2) := by
  rcases h with h | h <;> simp [State.twdServe, h, hb, hd]

theorem twdWrite_badCrc (tag : Nat) (h : k.crc ≠ twdCrc k.header k.addr k.data) :
    s.twdWrite k tag 0 = (s.twdSay tag 0x6 none).wr TWD_STAT.CRC_ERR 1 := by
  simp only [State.twdWrite, if_pos h]

/-- A write whose CRC holds is performed, and an answer other than OKAY is recorded (R596). -/
theorem twdWrite_goodCrc (tag : Nat) (h : k.crc = twdCrc k.header k.addr k.data) : s.twdWrite k tag 0 =
    (let q := (s.twdSay tag 0x6 none).csWrite 35 none k.addr.toNat k.data
      if q.1 = 0 then q.2 else (q.2.wr TWD_STAT.FAB_ERR 1).wr TWD_STAT.FSTATUS q.1) := by
  simp only [State.twdWrite, h, ne_eq, not_true_eq_false, if_false, zero_ne_one, State.twdCode]
  by_cases hq : ((s.twdSay tag 0x6 none).csWrite 35 none k.addr.toNat k.data).1 = 0
  · rw [if_pos hq, if_pos hq]
  · rw [if_neg hq, if_neg hq, if_neg hq]

theorem twdRead_first (tag : Nat) (consume : Bool) (h : s.twd.kept = none) : s.twdRead k tag consume =
    (let q := s.csRead 35 none consume k.addr.toNat
      let t : State := { q.2.2 with twd := { q.2.2.twd with kept := some (k.header, k.addr, q.1, q.2.1) } }
      t.twdSay tag 0x9 none) := by
  simp only [State.twdRead, h]

theorem twdRead_again {v : Word} (tag : Nat) (consume : Bool) (h : s.twd.kept = some (k.header, k.addr, 0, v)) :
    s.twdRead k tag consume = s.twdSay tag 0x6 (some (v, twdCrc k.header k.addr v)) := by
  simp [State.twdRead, h]

end

theorem debugPortResults : Sys2Proof.Clauses.DebugPortResults := by
  intro s k tag op say here good
  have serves : ∀ {t}, here → twdParity k.header = true → s.twdServe k = t → exec (.twdPacket k) s = .next t :=
    fun h hp e => e ▸ twdPacket_serves h hp
  refine ⟨twdPacket_deaf, twdPacket_parity, fun h hp ho => serves h hp (twdServe_three ho),
    fun h hp ho hb => serves h hp (twdServe_barred ho hb), ?_, ?_, ?_, fun h hp ho hr => serves h hp (twdServe_noReg ho hr),
    fun v h hp ho hd hr => serves h hp (twdServe_regRead ho hd hr), ?_, rfl, fun ho => ?_, fun ho on => ?_⟩
  · intro ⟨h, hp, hb⟩ ho hd hc
    exact serves h hp ((twdServe_write ho hb hd).trans (twdWrite_badCrc tag hc))
  · intro ⟨h, hp, hb⟩ ho hd hc
    exact serves h hp ((twdServe_write ho hb hd).trans (twdWrite_goodCrc tag hc))
  · intro ⟨h, hp, hb⟩ ho hd hk
    exact serves h hp ((twdServe_read ho hb hd).trans (twdRead_first tag _ hk))
  · intro ⟨h, hp, hb⟩ ho hd v hk
    exact serves h hp ((twdServe_read ho hb hd).trans (twdRead_again tag _ hk))
  · show execTwdAttach true s = _
    simp only [execTwdAttach, ho, State.twdAttach, if_true]
  · show execTwdAttach on s = _
    simp [execTwdAttach, ho]

/-- Settles O43: the rules of the fast matrix and of the Two-Wire Debug port, each from the lemma of its command. -/
theorem fabricAndDebugPortResults : Obligations.FabricAndDebugPortResults := ⟨matrixResults, debugPortResults⟩

end Sys2Proof.Machine
end

section
/-! SUPPORT. Refresh, calibration and temperatures of the memory (R315, R322 to R331, R335). -/

namespace Sys2Proof.Machine

/-! ### Injections that are not armed -/

theorem inject_unarmed {s : State} {point unit : Nat} (h : s.armed point unit = false) : s.inject point unit = (false, s) := by
  simp [State.inject, h]

theorem armed_disarmed {s : State} (h : s.rdB INJ_STAT.ARMED = false) (point unit : Nat) : s.armed point unit = false := by
  simp [State.armed, h]

theorem inject_disarmed {s : State} (h : s.rdB INJ_STAT.ARMED = false) (point unit : Nat) : s.inject point unit = (false, s) :=
  inject_unarmed (armed_disarmed h point unit)

/-! ### Refresh -/

theorem exec_nearRefresh (stack : StackId) (pc : Fin 32) (bank : Fin 48) (s : State) :
    exec (.nearRefresh stack pc bank) s = execNearRefresh stack pc bank s := rfl

theorem exec_calibrationSlot (stack : StackId) (pc : Fin 32) (eye lane : BitVec 8) (s : State) :
    exec (.calibrationSlot stack pc eye lane) s = execCalibrationSlot stack pc eye lane s := rfl

theorem exec_refreshManagement (stack : StackId) (pc : Fin 32) (bank : Fin 48) (s : State) :
    exec (.refreshManagement stack pc bank) s = execRefreshManagement stack pc bank s := rfl

theorem exec_sameBankRefresh (ch : ChanId) (x : SameBank) (s : State) :
    exec (.sameBankRefresh ch x) s = execSameBankRefresh ch x s := rfl

theorem exec_stackTemperatureRead (stack : StackId) (temp : BitVec 8) (s : State) :
    exec (.stackTemperatureRead stack temp) s = execStackTemperatureRead stack temp s := rfl

theorem exec_calDeferLimit (stack : StackId) (pc : Fin 32) (s : State) :
    exec (.calDeferLimit stack pc) s = execCalDeferLimit stack pc s := rfl

theorem exec_cellarCalibrationSlot (ch : ChanId) (sub : Fin 2) (s : State) :
    exec (.cellarCalibrationSlot ch sub) s = execCellarCalibrationSlot ch sub s := rfl

/-- What a refresh of the stack's bank does, where the stack does not refresh itself (R322, R323). -/
theorem nearRefresh_trained {s : State} {stack : StackId} (pc : Fin 32) (bank : Fin 48) (ht : s.rdB (NM_STAT.TRAINED stack) = true)
    (hr : s.rdB (NM_STAT.SELFREF stack) = false) :
    exec (.nearRefresh stack pc bank) s = .next ((s.sendCmd true stack.val).refreshBank (bankKey stack.val pc.val bank.val)) := by
  simp only [exec_nearRefresh, execNearRefresh, ht, hr, Bool.not_true, Bool.or_self, Bool.false_eq_true, if_false]

theorem untrained_or {a b : Bool} (h : a = false ∨ b = true) : (!a || b) = true := by
  rcases h with h | h <;> simp [h]

theorem bankKey_stack (stack : StackId) (pc : Fin 32) (bank : Fin 48) :
    bankKey stack.val pc.val bank.val < 24576 ∧ bankKey stack.val pc.val bank.val / 1536 = stack.val := by
  unfold bankKey
  omega

/-- The threshold of RFM of a near bank is that of its stack (R323). -/
theorem rfmLimit_near (s : State) (stack : StackId) (pc : Fin 32) (bank : Fin 48) :
    s.rfmLimit (bankKey stack.val pc.val bank.val) = 64 * max 4 (s.rd (NM_CFG.RH_THRESH stack)) := by
  obtain ⟨hlt, hdiv⟩ := bankKey_stack stack pc bank
  rw [State.rfmLimit, if_pos hlt, hdiv]

theorem rfm_near (s : State) (stack : StackId) (pc : Fin 32) (bank : Fin 48) : s.rfm (bankKey stack.val pc.val bank.val) =
    ((s.modM (fun m => { m with acts := mapPut (fun _ => 0) m.acts (bankKey stack.val pc.val bank.val) 0 })).sendCmd true stack.val).cnt
      (NM_RH.COUNT stack) 1 := by
  obtain ⟨hlt, hdiv⟩ := bankKey_stack stack pc bank
  rw [State.rfm, State.rfmSent, if_pos hlt, hdiv]

theorem refreshManagement_eq (s : State) (stack : StackId) (pc : Fin 32) (bank : Fin 48) :
    exec (.refreshManagement stack pc bank) s =
      .next (if 64 * max 4 (s.rd (NM_CFG.RH_THRESH stack)) ≤ mapGet (fun _ => 0) s.mst.acts (bankKey stack.val pc.val bank.val)
        then s.rfm (bankKey stack.val pc.val bank.val) else s) := by
  rw [exec_refreshManagement, execRefreshManagement, rfmLimit_near]

/-- Banks that are refreshed read no activations, and every other bank what it did. -/
theorem acts_refreshBanks (l : List Nat) (f : Nat → Nat) (s : State) (k : Nat) :
    mapGet (fun _ => 0) (l.foldl (fun s g => s.refreshBank (f g)) s).mst.acts k =
      if k ∈ l.map f then 0 else mapGet (fun _ => 0) s.mst.acts k := by
  induction l generalizing s with
  | nil => rfl
  | cons g l ih =>
    have hput : mapGet (fun _ => 0) (s.refreshBank (f g)).mst.acts k = if k = f g then 0 else mapGet (fun _ => 0) s.mst.acts k :=
      mapGet_put (fun _ => 0) s.mst.acts (f g) k 0
    rw [List.foldl_cons, ih, hput]
    by_cases hl : k ∈ l.map f
    · rw [if_pos hl, if_pos (by rw [List.map_cons]; exact List.mem_cons_of_mem _ hl)]
    · simp [List.map_cons, List.mem_cons, hl]

/-! ### Calibration -/

theorem slotDeferred_iff (s : State) (key : Nat) : s.slotDeferred key = true ↔ 1 ≤ s.shed ∧ s.mst.slotAgain.contains key = false := by
  simp [State.slotDeferred]

theorem calibrationSlot_deferred {s : State} {stack : StackId} {pc : Fin 32} (eye lane : BitVec 8) (ht : s.rdB (NM_STAT.TRAINED stack) = true)
    (hr : s.rdB (NM_STAT.SELFREF stack) = false) (hd : s.slotDeferred (stack.val * 32 + pc.val) = true) :
    exec (.calibrationSlot stack pc eye lane) s =
      .next (((s.lanePeriod stack pc).wr (NM_STAT.CAL_DEFER stack) 1).cnt (NM_CAL.DEFERRED stack) 1) := by
  simp [exec_calibrationSlot, execCalibrationSlot, ht, hr, hd]

/-- A slot that runs, with no injection of the margin armed (R324 to R328). -/
theorem calibrationSlot_runs {s : State} {stack : StackId} {pc : Fin 32} (eye lane : BitVec 8) (ht : s.rdB (NM_STAT.TRAINED stack) = true)
    (hr : s.rdB (NM_STAT.SELFREF stack) = false) (hd : s.slotDeferred (stack.val * 32 + pc.val) = false)
    (ha : s.armed 0x1C stack.val = false) :
    exec (.calibrationSlot stack pc eye lane) s =
      .next (((((((s.lanePeriod stack pc).laneSlot stack pc).wlSlot stack pc).wr (NM_MARGIN.EYE_MIN stack pc) eye.toNat).wr
        (NM_MARGIN.LANE stack pc) lane.toNat).modM
          (fun m => { m with slotLast := mapInsert m.slotLast (stack.val * 32 + pc.val) s.now })).cnt (NM_CAL.SLOTS stack) 1) := by
  have hnow : (((s.lanePeriod stack pc).laneSlot stack pc).wlSlot stack pc).now = s.now :=
    (State.wlSlot_keeps (State.laneSlot_keeps (State.lanePeriod_keeps (Keeps.refl s)))).now
  simp [exec_calibrationSlot, execCalibrationSlot, ht, hr, hd, inject_unarmed ha, hnow]

theorem calDeferLimit_eq (s : State) (stack : StackId) (pc : Fin 32) : exec (.calDeferLimit stack pc) s =
    .next (if 1 ≤ s.shed ∧ s.shed ≤ 5 then s.modM (fun m => { m with
      slotAgain := (stack.val * 32 + pc.val) :: m.slotAgain.filter (fun k => k ≠ stack.val * 32 + pc.val) }) else s) := rfl

/-- The slot of a Cellar sub-channel, where the DIMMs do not refresh themselves (R335): deferred under shedding, unless its slots run again
or 2 s have passed. -/
theorem cellarCalibrationSlot_trained {s : State} {ch : ChanId} (sub : Fin 2) (ht : s.rdB (CC_STAT.TRAINED ch) = true)
    (hr : s.rdB (CC_STAT.SELFREF ch) = false) :
    exec (.cellarCalibrationSlot ch sub) s =
      .next (if (1 ≤ s.shed ∧ s.mst.slotAgain.contains (512 + 2 * ch.val + sub.val) = false) ∧
          ¬ mapGet (fun _ => 0) s.mst.slotLast (512 + 2 * ch.val + sub.val) + 2000000000 ≤ s.now
        then (s.wr (CC_STAT.CAL_DEFER ch) 1).cnt (CC_CAL.DEFERRED ch) 1
        else (s.modM (fun m => { m with
          slotLast := mapInsert m.slotLast (512 + 2 * ch.val + sub.val) s.now
          slotAgain := if 1 ≤ s.shed then (512 + 2 * ch.val + sub.val) :: m.slotAgain.filter (fun k => k ≠ 512 + 2 * ch.val + sub.val)
            else m.slotAgain })).cnt (CC_CAL.SLOTS ch) 1) := by
  simp only [exec_cellarCalibrationSlot, execCellarCalibrationSlot, ht, hr, Bool.not_true, Bool.or_self, Bool.false_eq_true, if_false,
    Bool.and_eq_true, Bool.not_eq_true', decide_eq_false_iff_not, slotDeferred_iff]

/-! ### Temperatures -/

/-- A temperature as it is recorded for a stack, with HOT above 85 °C (R315, R322). -/
def State.recordTemp (s : State) (stack : StackId) (temp : BitVec 8) : State :=
  (s.wr (NM_TEMP.TEMP stack) temp.toNat).wrB (NM_STAT.HOT stack) (decide (85 < temp.toNat))

/-- A move of 5 °C from the last write levelling starts one, unless it waits already (R326). -/
theorem stackTemperatureRead_eq (s : State) (stack : StackId) (temp : BitVec 8) : exec (.stackTemperatureRead stack temp) s =
    .next (if s.rd (NM_TEMP.WLTEMP stack) + 5 ≤ temp.toNat ∨ temp.toNat + 5 ≤ s.rd (NM_TEMP.WLTEMP stack) then
      if bitOf s.mst.wlPend stack.val then s.recordTemp stack temp else (s.recordTemp stack temp).wlTrigger stack
    else s.recordTemp stack temp) := rfl

/-- Marking a list of Cellar channels as hot or not changes no memory state. -/
theorem markHot_mst (l : List (Fin 8)) (s : State) :
    (l.foldl (fun s (k : Fin 8) => s.wrB (CC_STAT.HOT k) (s.mst.dimmHot != 0)) s).mst = s.mst := by
  induction l generalizing s with
  | nil => rfl
  | cons x l ih => rw [List.foldl_cons, ih, State.wrB_mst]

theorem ccStat_adr_inj {i k : Fin 8} (h : i ≠ k) : CC_STAT.adr i ≠ CC_STAT.adr k := by
  have : i.val ≠ k.val := fun hh => h (Fin.ext hh)
  unfold CC_STAT.adr
  omega

/-- Each channel of the list reads as marked, and any other as it did (R331). -/
theorem markHot_rdB (l : List (Fin 8)) (s : State) (k : Fin 8) :
    (l.foldl (fun s (k : Fin 8) => s.wrB (CC_STAT.HOT k) (s.mst.dimmHot != 0)) s).rdB (CC_STAT.HOT k) =
      if k ∈ l then s.mst.dimmHot != 0 else s.rdB (CC_STAT.HOT k) := by
  induction l generalizing s with
  | nil => rfl
  | cons x l ih =>
    rw [List.foldl_cons, ih, State.wrB_mst]
    by_cases hx : k = x
    · subst hx
      have hself : (s.wrB (CC_STAT.HOT k) (s.mst.dimmHot != 0)).rdB (CC_STAT.HOT k) = (s.mst.dimmHot != 0) :=
        rdB_wrB_self s rfl (show (3 : Nat) < 64 by decide) _
      rw [hself, ite_self, if_pos List.mem_cons_self]
    · have : (s.wrB (CC_STAT.HOT x) (s.mst.dimmHot != 0)).rdB (CC_STAT.HOT k) = s.rdB (CC_STAT.HOT k) :=
        rdB_wr_ne s _ (ccStat_adr_inj hx)
      simp only [List.mem_cons, hx, false_or, this]

theorem upkeepResults : Sys2Proof.Clauses.UpkeepResults := by
  intro s stack pc bank eye lane temp ch sub dimm rank grp pk bk key trig
  refine ⟨fun ht hr => ⟨nearRefresh_trained pc bank ht hr, fun hs hc => ?_, fun hd ha => ⟨_, rfl, ?_⟩⟩, fun h => ⟨?_, ?_⟩, fun hl => ?_, fun hl => ?_,
    fun ht hr _ => ⟨_, ?_, fun k => acts_refreshBanks _ _ _ k⟩, fun h => ?_, rfl, rfl, fun h1 h2 => ?_, fun h hw => ?_, fun h1 h5 => ?_,
    fun h => ?_, fun ht hr => ⟨fun h0 => ?_, fun h1 hc hn => ?_, fun h1 hl => ?_⟩, ⟨_, rfl, ?_, fun k => ?_⟩⟩
  · exact calibrationSlot_deferred eye lane ht hr ((slotDeferred_iff s pk).mpr ⟨hs, hc⟩)
  · refine calibrationSlot_runs eye lane ht hr ?_ ha
    rw [Bool.eq_false_iff, ne_eq, slotDeferred_iff]
    rintro ⟨hs, hc⟩
    rcases hd with hd | hd
    · omega
    · exact absurd (hc.symm.trans hd) (by decide)
  · rw [exec_nearRefresh, execNearRefresh, if_pos (untrained_or h)]
  · rw [exec_calibrationSlot, execCalibrationSlot]
    exact congrArg _ (if_pos (untrained_or h))
  · rw [refreshManagement_eq, if_pos hl, rfm_near]
  · rw [refreshManagement_eq, if_neg (Nat.not_le.mpr hl)]
  · simp only [exec_sameBankRefresh, execSameBankRefresh, ht, hr, Bool.not_true, Bool.or_self, Bool.false_eq_true, if_false]
  · rw [exec_sameBankRefresh, execSameBankRefresh, if_pos (untrained_or h)]
  · rw [stackTemperatureRead_eq, if_neg (by omega)]
    rfl
  · rw [stackTemperatureRead_eq, if_pos (Or.inl h), hw]
    rfl
  · rw [calDeferLimit_eq, if_pos ⟨h1, h5⟩]
  · rw [calDeferLimit_eq, if_neg (by omega)]
  · rw [cellarCalibrationSlot_trained sub ht hr, if_neg (by omega)]
    simp only [h0]
    rfl
  · rw [cellarCalibrationSlot_trained sub ht hr, if_pos ⟨⟨h1, hc⟩, Nat.not_le.mpr hn⟩]
  · rw [cellarCalibrationSlot_trained sub ht hr, if_neg (fun h => h.2 hl)]
    simp only [h1, if_true]
    rfl
  · rw [markHot_mst]
    rfl
  · rw [markHot_rdB, if_pos (show k ∈ fins 8 from List.mem_finRange k), markHot_mst]

end Sys2Proof.Machine
end

section
/-! SUPPORT. Checking and scrubbing (R351, R362 to R366). -/

namespace Sys2Proof.Machine

/-! ### The pass of a tier -/

theorem exec_arrayScrub (cl : ClusterId) (x : ScrubAt) (s : State) : exec (.arrayScrub cl x) s = execArrayScrub cl x s := rfl

/-- Where the pass of a tier stands. -/
def State.scrubPos (s : State) (near : Bool) : Nat := if near then s.mst.nearPos else s.mst.celPos

/-- The state with the pass of a tier at a position. -/
def State.scrubTo (s : State) (near : Bool) (n : Nat) : State := s.modM (fun m => if near then { m with nearPos := n } else { m with celPos := n })

/-- The lines and units of a tier that a pass visits. -/
def State.scrubTotal (s : State) (near : Bool) : Nat :=
  ((s.scrubShape near).1 + (s.scrubShape near).2.1) * (s.scrubShape near).2.2.1 + (s.scrubShape near).2.2.2

/-- What a step of the pass does at the line or unit that it comes to: data is also swept, unless its page moves (R362, R363, R365). -/
def State.scrubVisit (s : State) (k : Nat × Bool) : State :=
  if !k.2 then s.scrubRead k.1 else if s.inMigration k.1 then s else (s.scrubRead k.1).sweepUnit k.1 (lineSize k.1)

/-- The state after a visit, with the pass at its next position: a pass that starts again is counted (R362). -/
def State.scrubNext (s : State) (near : Bool) (next : Nat) : State :=
  if next = 0 then (s.scrubTo near next).cnt (if near then SCRUB_STAT.NEAR_PASSES else SCRUB_STAT.CELLAR_PASSES) 1 else s.scrubTo near next

theorem scrubStep_eq (tier : Tier) (s : State) : exec (.scrubStep tier) s =
    .next (if s.scrubStopped || !(s.rdB SCRUB_CFG.EN || s.rdB REV_STAT.OPEN) then s
      else if (s.scrubShape (decide (tier = .near))).2.2.1 = 0 then s
      else (s.scrubVisit (s.scrubKey (decide (tier = .near)) (s.scrubPos (decide (tier = .near))))).scrubNext (decide (tier = .near))
        (if s.scrubPos (decide (tier = .near)) + 1 < s.scrubTotal (decide (tier = .near)) then s.scrubPos (decide (tier = .near)) + 1 else 0)) := rfl

theorem scrubStep_idle {s : State} {tier : Tier} (h : s.scrubStopped = true ∨ (s.rdB SCRUB_CFG.EN = false ∧ s.rdB REV_STAT.OPEN = false)) :
    exec (.scrubStep tier) s = .next s := by
  have : (s.scrubStopped || !(s.rdB SCRUB_CFG.EN || s.rdB REV_STAT.OPEN)) = true := by
    rcases h with h | ⟨h1, h2⟩
    · simp [h]
    · simp [h1, h2]
  rw [scrubStep_eq, if_pos this]

theorem scrubStep_empty {s : State} {tier : Tier} (h : (s.scrubShape (decide (tier = .near))).2.2.1 = 0) :
    exec (.scrubStep tier) s = .next s := by
  rw [scrubStep_eq, if_pos h, ite_self]

section
variable {s : State} {tier : Tier} (hs : s.scrubStopped = false) (he : s.rdB SCRUB_CFG.EN = true ∨ s.rdB REV_STAT.OPEN = true)
  (h0 : 0 < (s.scrubShape (decide (tier = .near))).2.2.1)
include hs he h0

/-- A step of a pass that goes on. -/
theorem scrubStep_goes : exec (.scrubStep tier) s =
    .next ((s.scrubVisit (s.scrubKey (decide (tier = .near)) (s.scrubPos (decide (tier = .near))))).scrubNext (decide (tier = .near))
      (if s.scrubPos (decide (tier = .near)) + 1 < s.scrubTotal (decide (tier = .near)) then s.scrubPos (decide (tier = .near)) + 1 else 0)) := by
  have hgo : ¬ (s.scrubStopped || !(s.rdB SCRUB_CFG.EN || s.rdB REV_STAT.OPEN)) = true := by
    rcases he with he | he <;> simp [hs, he]
  rw [scrubStep_eq, if_neg hgo, if_neg (Nat.ne_of_gt h0)]

theorem scrubStep_within (h : s.scrubPos (decide (tier = .near)) + 1 < s.scrubTotal (decide (tier = .near))) : exec (.scrubStep tier) s =
    .next ((s.scrubVisit (s.scrubKey (decide (tier = .near)) (s.scrubPos (decide (tier = .near))))).scrubTo (decide (tier = .near))
      (s.scrubPos (decide (tier = .near)) + 1)) := by
  rw [scrubStep_goes hs he h0, if_pos h, State.scrubNext, if_neg (Nat.succ_ne_zero _)]

theorem scrubStep_atEnd (h : s.scrubTotal (decide (tier = .near)) ≤ s.scrubPos (decide (tier = .near)) + 1) : exec (.scrubStep tier) s =
    .next (((s.scrubVisit (s.scrubKey (decide (tier = .near)) (s.scrubPos (decide (tier = .near))))).scrubTo (decide (tier = .near)) 0).cnt
      (if decide (tier = .near) then SCRUB_STAT.NEAR_PASSES else SCRUB_STAT.CELLAR_PASSES) 1) := by
  rw [scrubStep_goes hs he h0, if_neg (Nat.not_lt.mpr h), State.scrubNext, if_pos rfl]

end

/-- A visit as the statement of R362 puts it: by whether the line holds data. -/
theorem scrubVisit_eq (s : State) (k : Nat × Bool) : s.scrubVisit k =
    if k.2 = false then s.scrubRead k.1 else if s.inMigration k.1 then s else (s.scrubRead k.1).sweepUnit k.1 (lineSize k.1) := by
  unfold State.scrubVisit
  cases k.2 <;> rfl

/-! ### The scrubber of a cluster -/

/-- A marking counts as poison. -/
theorem gridRead_marking {e : Err} {js : List Nat} (h : (gridRead e js).marking = true) : (gridRead e js).poison = true := by
  revert h
  unfold gridRead
  split
  · exact fun h => h
  · refine List.foldlRecOn (motive := fun r : Decoded => r.marking = true → r.poison = true) js _ (fun h => h) fun r hr j _ => ?_
    dsimp only
    split
    case h_1 => exact hr
    case h_2 => exact fun _ => rfl
    case h_3 => exact fun _ => rfl
    case h_4 => exact hr

/-- A word with an error that reads neither marked nor uncorrectable is corrected and counted (R364). -/
theorem scrubWord_fixed {s : State} {e : Err} (inst idx : Nat) (he : e ≠ Err.zero) (hp : (gridRead e (List.range 8)).poison = false) :
    s.scrubWord e inst idx = (if (gridRead e (List.range 8)).left.d = 0 ∧ (gridRead e (List.range 8)).left.c = 0 then Err.zero
      else (gridRead e (List.range 8)).left, s.bucket 0 (gridRead e (List.range 8)).fixed) := by
  have hm : (gridRead e (List.range 8)).marking = false := Bool.eq_false_iff.mpr fun h => by simp [gridRead_marking h] at hp
  simp only [State.scrubWord, if_neg he, hm, hp, Bool.false_eq_true, if_false]

theorem arrayScrub_goes {s : State} (cl : ClusterId) (x : ScrubAt) (h : s.scrubStopped = false) :
    exec (.arrayScrub cl x) s = .next (s.scrubArray cl x.array x.word.toNat) := by
  simp only [exec_arrayScrub, execArrayScrub, h, Bool.false_eq_true, if_false]

theorem setErr_zero_of_nil {s : State} (h : s.errs = []) (w : Nat) : s.setErr w Err.zero = s := by
  obtain ⟨⟩ := s
  subst h
  rfl

/-- With no check error listed, the scrubber finds the scratchpad's tags clean. -/
theorem scrubArray_spadTags_clean {s : State} (h : s.errs = []) (cl : ClusterId) (n : Nat) : s.scrubArray cl .spadTags n = s := by
  have hz : ∀ w, s.err w = Err.zero := err_of_errs_nil h
  simp only [State.scrubArray, State.scrubWord, hz, if_true, setErr_zero_of_nil h]

/-- The scrubber leaves in a D register what the grid code leaves of its error. -/
theorem scrubArray_dRegs {s : State} {cl : ClusterId} {k : Fin 2} {cp : CpId} {word : Nat} {n : Reg}
    (hl : s.lead ⟨2 * cl.val + k.val, by omega⟩ = cp) (hn : word % 16 = n.val) (he : (s.cp cp).a.d[n.val].err ≠ Err.zero)
    (hp : (gridRead (s.cp cp).a.d[n.val].err (List.range 8)).poison = false) :
    (((s.scrubArray cl (.dRegs k) word).cp cp).a.d[n.val]).err =
      (let d := (gridRead (s.cp cp).a.d[n.val].err (List.range 8)).left; if d.d = 0 ∧ d.c = 0 then Err.zero else d) := by
  simp only [State.scrubArray, hl, hn, scrubWord_fixed _ _ he hp, cp_modA, vecUpd, Vector.getElem_set_self]

/-- A bucket's setting is written whole: both fields (R366). -/
theorem bktWrite_eq (s : State) (b : Fin 32) (v : BitVec 32) : s.bktWrite b (v.setWidth 64) = s.setReg (BKT_CFG.adr b) (v.setWidth 64) := by
  have : v.setWidth 64 &&& 0xFFFFFFFF#64 = v.setWidth 64 := by
    apply BitVec.eq_of_toNat_eq
    have hv := v.isLt
    have hm : (0xFFFFFFFF : Nat) = 2 ^ 32 - 1 := by decide
    simp only [BitVec.toNat_and, BitVec.toNat_setWidth, BitVec.toNat_ofNat]
    rw [Nat.mod_eq_of_lt (a := 0xFFFFFFFF) (by decide), hm, Nat.and_two_pow_sub_one_eq_mod, Nat.mod_eq_of_lt (a := v.toNat) (by omega)]
    exact Nat.mod_eq_of_lt hv
  rw [State.bktWrite]
  exact congrArg _ this

theorem scrubResults : Sys2Proof.Clauses.ScrubResults := by
  intro s tier unit cl cp key word b v
  refine ⟨rfl, fun h => ?_, rfl, scrubStep_idle, scrubStep_empty, ?_, fun hs => ⟨?_, fun k hl => ?_, fun k n e hl hn hd hp he => ?_, fun h _ => ?_⟩,
    fun hs a => ?_, fun h => ?_, fun h => ?_, ?_⟩
  · show Host.Outcome.next (if _ then _ else _) = _
    rw [if_pos h]
  · intro near h pos k visit on hs he h0
    have hvisit : s.scrubVisit k = visit := scrubVisit_eq s k
    exact ⟨fun hl => hvisit ▸ scrubStep_within hs he h0 hl, fun hl => hvisit ▸ scrubStep_atEnd hs he h0 hl⟩
  · rw [arrayScrub_goes cl _ hs]
    simp only [State.scrubArray, Nat.mod_eq_of_lt word.isLt]
  · rw [arrayScrub_goes cl _ hs]
    simp only [State.scrubArray, hl]
  · subst hd
    exact ⟨_, arrayScrub_goes cl _ hs, scrubArray_dRegs hl hn he hp⟩
  · rw [arrayScrub_goes cl _ hs, scrubArray_spadTags_clean h]
  · rw [exec_arrayScrub, execArrayScrub, if_pos hs]
  · show Host.Outcome.next (if _ then _ else _) = _
    rw [if_neg h]
  · show Host.Outcome.next (if _ then _ else _) = _
    rw [if_pos h]
  · exact congrArg _ (bktWrite_eq s b v)

end Sys2Proof.Machine
end

section
/-! SUPPORT. The stream network (R20 to R22, R27, R336 to R338). -/

namespace Sys2Proof.Machine

/-! ### Routers, links and units -/

theorem unitRouter_lt (u : MeshUnit) : unitRouter u < 16 := by
  cases u with
  | cc n => simp only [unitRouter]; split <;> omega
  | hub q => simp only [unitRouter]; omega
  | _ => exact Fin.isLt _

theorem unitNo_lt (u : MeshUnit) : unitNo u < 76 := by
  cases u <;> simp only [unitNo] <;> omega

theorem portNo_lt (p : MeshPort) : portNo p < 128 := by
  cases p with
  | unit u => have := unitNo_lt u; simp only [portNo]; omega
  | _ => simp only [portNo]; omega

/-- Queues at inputs of different routers have different numbers. -/
theorem inKey_ne {r n : Nat} (h : r ≠ n) (p q : MeshPort) (ch : Fin 8) : inKey r p ch ≠ inKey n q ch := by
  have := portNo_lt p
  have := portNo_lt q
  unfold inKey
  omega

/-- The four links of every router: each ends at the opposite port of a router one hop away. -/
theorem links_back : ∀ r : Fin 16, ∀ port ∈ [MeshPort.north, .south, .east, .west],
    (portOver port r.val).all (fun x => portOver x.2 x.1 == some (r.val, port) && meshHops r.val x.1 == 1) = true := by
  decide

theorem portOver_back {r : Fin 16} {port p : MeshPort} {n : Nat} (h : portOver port r.val = some (n, p)) :
    portOver p n = some (r.val, port) ∧ meshHops r.val n = 1 := by
  have hl : port ∈ [MeshPort.north, .south, .east, .west] := by
    cases port with
    | unit u => cases h
    | _ => simp
  have := links_back r port hl
  rw [h] at this
  simpa using this

theorem portOver_ne {r : Fin 16} {port p : MeshPort} {n : Nat} (h : portOver port r.val = some (n, p)) : r.val ≠ n := by
  intro e
  have := (portOver_back h).2
  rw [← e] at this
  simp [meshHops] at this

/-- The link that a flit for a unit at another router takes: along the row first (R21). -/
def linkTo (r d : Nat) : Option MeshPort :=
  if (meshXY r).1 < (meshXY d).1 then some .east else if (meshXY d).1 < (meshXY r).1 then some .west
  else if (meshXY r).2 < (meshXY d).2 then some .south else if (meshXY d).2 < (meshXY r).2 then some .north else none

theorem flitOut_eq (f : Flit) (r : Nat) : flitOut f r = (linkTo r (unitRouter f.dst)).getD (.unit f.dst) := by
  unfold flitOut linkTo
  dsimp only
  split
  · rfl
  · split
    · rfl
    · split
      · rfl
      · split <;> rfl

/-- Each link that a flit takes brings it one hop nearer, within its row as long as its column is another (R21). -/
theorem links_nearer : ∀ r d : Fin 16, d ≠ r → (linkTo r.val d.val).any (fun port => (portOver port r.val).any (fun x =>
    meshHops x.1 d.val + 1 == meshHops r.val d.val && ((meshXY r.val).1 == (meshXY d.val).1 || (meshXY x.1).2 == (meshXY r.val).2))) = true := by
  decide

theorem flitOut_nearer (f : Flit) (r : Fin 16) (h : unitRouter f.dst ≠ r.val) : ∃ n p, portOver (flitOut f r.val) r.val = some (n, p) ∧
    meshHops n (unitRouter f.dst) + 1 = meshHops r.val (unitRouter f.dst) ∧
      ((meshXY r.val).1 ≠ (meshXY (unitRouter f.dst)).1 → (meshXY n).2 = (meshXY r.val).2) := by
  have := links_nearer r ⟨unitRouter f.dst, unitRouter_lt f.dst⟩ (fun e => h (congrArg Fin.val e))
  simp only [Option.any_eq_true, Bool.and_eq_true, Bool.or_eq_true, beq_iff_eq] at this
  obtain ⟨port, hport, ⟨n, p⟩, hx, hhops, hrow⟩ := this
  exact ⟨n, p, by rw [flitOut_eq, hport]; exact hx, hhops, fun hne => hrow.resolve_left hne⟩

/-- A flit leaves the mesh at the router of its unit. -/
theorem flitOut_unit {f : Flit} {r : Fin 16} (h : flitOut f r.val = .unit f.dst) : unitRouter f.dst = r.val := by
  by_contra hne
  obtain ⟨n, p, hp, -⟩ := flitOut_nearer f r hne
  rw [h] at hp
  cases hp

/-! ### Queues -/

theorem qOf_eq (m : List (Nat × List Flit)) (k : Nat) : qOf m k = mapGet (fun _ => []) m k := rfl

theorem qPut_eq (m : List (Nat × List Flit)) (k : Nat) (l : List Flit) : qPut m k l = mapPut (fun _ => []) m k l := by
  cases l <;> rfl

theorem qOf_qPut (m : List (Nat × List Flit)) (a b : Nat) (l : List Flit) : qOf (qPut m a l) b = if b = a then l else qOf m b := by
  rw [qPut_eq]
  exact mapGet_put _ m a b l

theorem qPut_append (m : List (Nat × List Flit)) (k : Nat) (l : List Flit) (f : Flit) : qPut m k (l ++ [f]) = mapInsert m k (l ++ [f]) := by
  simp [qPut]

/-- The canonical form of a list of queues: no empty one is listed. -/
def queuesWf (m : List (Nat × List Flit)) : Prop := mapWf (fun _ => ([] : List Flit)) m = true

theorem queuesWf_qPut {m : List (Nat × List Flit)} (k : Nat) (l : List Flit) (h : queuesWf m) : queuesWf (qPut m k l) := by
  rw [qPut_eq]
  exact mapWf_put _ k l h

/-! ### The choice of a router, and the move of a flit -/

/-- The round robin picks an input of the router whose first flit takes the output (R338). -/
theorem pick_spec {m : MeshSt} {r : Nat} {out inp : MeshPort} {ch : Nat} (h : m.pick r out ch = some inp) :
    inp ∈ inputsAt r ∧ ∃ x, (qOf m.inq (inKey r inp ch)).head? = some x ∧ flitOut x r = out := by
  unfold MeshSt.pick at h
  have hmem := List.mem_of_find?_eq_some h
  have hhead := List.find?_some h
  refine ⟨?_, by simpa [Option.any_eq_true] using hhead⟩
  rcases List.mem_append.mp hmem with hm | hm
  · exact List.mem_of_mem_drop hm
  · exact List.mem_of_mem_take hm

/-- A credit is for a link with a free entry at its other end, or for a unit's queue with one (R337). -/
theorem credit_cases {m : MeshSt} {r : Nat} {out : MeshPort} {ch : Nat} (h : m.credit r out ch = true) :
    (∃ u, out = .unit u ∧ (qOf m.outq (outKey u ch)).length < unitEntries u) ∨
      ∃ n q, portOver out r = some (n, q) ∧ (qOf m.inq (inKey n q ch)).length < linkEntries r n := by
  cases out with
  | unit u => exact Or.inl ⟨u, rfl, by simpa [MeshSt.credit] using h⟩
  | _ =>
    refine Or.inr ?_
    simp only [MeshSt.credit] at h
    split at h
    · rename_i n q hp
      exact ⟨n, q, hp, of_decide_eq_true h⟩
    · cases h

theorem move_unit_inq (m : MeshSt) (r : Nat) (inp : MeshPort) (u : MeshUnit) (ch : Nat) (f : Flit) :
    (m.move r inp (.unit u) ch f).inq = qPut m.inq (inKey r inp ch) ((qOf m.inq (inKey r inp ch)).drop 1) := rfl

theorem move_unit_outq (m : MeshSt) (r : Nat) (inp : MeshPort) (u : MeshUnit) (ch : Nat) (f : Flit) :
    (m.move r inp (.unit u) ch f).outq = qPut m.outq (outKey u ch) (qOf m.outq (outKey u ch) ++ [f]) := rfl

section
variable {m : MeshSt} {r n : Nat} {inp out q : MeshPort} {ch : Nat} (f : Flit) (h : portOver out r = some (n, q))
include h

theorem move_link_inq : (m.move r inp out ch f).inq =
    (let inq := qPut m.inq (inKey r inp ch) ((qOf m.inq (inKey r inp ch)).drop 1);
      qPut inq (inKey n q ch) (qOf inq (inKey n q ch) ++ [f])) := by
  cases out with
  | unit u => cases h
  | _ => simp only [MeshSt.move, h]

theorem move_link_outq : (m.move r inp out ch f).outq = m.outq := by
  cases out with
  | unit u => cases h
  | _ => simp only [MeshSt.move, h]

end

/-- A move keeps the canonical form of the queues. -/
theorem queuesWf_move {m : MeshSt} {r : Nat} {inp out : MeshPort} {ch : Nat} (f : Flit) (hc : m.credit r out ch = true)
    (hi : queuesWf m.inq) (ho : queuesWf m.outq) : queuesWf (m.move r inp out ch f).inq ∧ queuesWf (m.move r inp out ch f).outq := by
  obtain ⟨u, rfl, -⟩ | ⟨n, q, hp, -⟩ := credit_cases hc
  · exact ⟨queuesWf_qPut _ _ hi, queuesWf_qPut _ _ ho⟩
  · rw [move_link_inq f hp, move_link_outq f hp]
    exact ⟨queuesWf_qPut _ _ (queuesWf_qPut _ _ hi), ho⟩

/-- A flit over a link leaves its queue, joins the one at the other end, and every other queue stays. -/
theorem qOf_move_link {m : MeshSt} {r : Fin 16} {n : Nat} {inp out q : MeshPort} {ch : Fin 8} (f : Flit) (h : portOver out r.val = some (n, q))
    (k : Nat) : qOf (m.move r.val inp out ch f).inq k = if k = inKey n q ch then qOf m.inq k ++ [f]
      else if k = inKey r.val inp ch then (qOf m.inq k).tail else qOf m.inq k := by
  have hne : inKey n q ch ≠ inKey r.val inp ch := inKey_ne (portOver_ne h).symm q inp ch
  rw [move_link_inq f h]
  dsimp only
  rw [qOf_qPut, qOf_qPut, if_neg hne, qOf_qPut]
  by_cases hk : k = inKey n q ch
  · rw [if_pos hk, if_pos hk, hk]
  · rw [if_neg hk, if_neg hk]
    by_cases hk' : k = inKey r.val inp ch
    · rw [if_pos hk', if_pos hk', hk', List.drop_one]
    · rw [if_neg hk', if_neg hk']

/-- A flit to a unit leaves its queue, and every other queue of inputs stays. -/
theorem qOf_move_unit (m : MeshSt) (r : Nat) (inp : MeshPort) (u : MeshUnit) (ch : Nat) (f : Flit) (k : Nat) :
    qOf (m.move r inp (.unit u) ch f).inq k = if k = inKey r inp ch then (qOf m.inq k).tail else qOf m.inq k := by
  rw [move_unit_inq, qOf_qPut]
  by_cases hk : k = inKey r inp ch
  · rw [if_pos hk, if_pos hk, hk, List.drop_one]
  · rw [if_neg hk, if_neg hk]

/-- The queue that a flit leaves holds what came after it. -/
theorem qOf_move_from {m : MeshSt} {r : Fin 16} {inp out : MeshPort} {ch : Fin 8} (f : Flit) (hc : m.credit r.val out ch = true) :
    qOf (m.move r.val inp out ch f).inq (inKey r.val inp ch) = (qOf m.inq (inKey r.val inp ch)).tail := by
  obtain ⟨u, rfl, -⟩ | ⟨n, q, hp, -⟩ := credit_cases hc
  · rw [qOf_move_unit, if_pos rfl]
  · rw [qOf_move_link f hp, if_neg (inKey_ne (portOver_ne hp) inp q ch), if_pos rfl]

/-! ### The command -/

/-- What a router does on a channel of an output: the flit that its round robin picks goes on when there is a credit (R336 to R338). -/
def State.flitGo (s : State) (r : ClusterId) (port : MeshPort) (ch : Fin 8) : State :=
  match s.mesh.pick r.val port ch.val with
  | none => s
  | some inp =>
    match qOf s.mesh.inq (inKey r.val inp ch.val) with
    | [] => s
    | f :: _ =>
      if !s.mesh.credit r.val port ch.val then s
      else { (s.flitRead r.val f).2 with mesh := s.mesh.move r.val inp port ch.val (s.flitRead r.val f).1 }

theorem flitForward_go (s : State) (r : ClusterId) (port : MeshPort) (ch : Fin 8) :
    exec (.flitForward r port ⟨ch, none, false⟩) s = .next (s.flitGo r port ch) := by
  cases port <;> rfl

theorem flitForward_fresh (s : State) (r : ClusterId) (port : MeshPort) (ch : Fin 8) (f : Flit) :
    exec (.flitForward r port ⟨ch, some f, false⟩) s = .next (({ s with mesh := s.mesh.enter f ch.val } : State).flitGo r port ch) := by
  cases port <;> rfl

theorem flitForward_taken (s : State) (r : ClusterId) (u : MeshUnit) (ch : Fin 8) :
    exec (.flitForward r (.unit u) ⟨ch, none, true⟩) s = .next (({ s with mesh := s.mesh.take u ch.val } : State).flitGo r (.unit u) ch) := rfl

section
variable {s : State} {r : ClusterId} {port inp : MeshPort} {ch : Fin 8} {f : Flit}

theorem flitGo_none (h : s.mesh.pick r.val port ch.val = none) : s.flitGo r port ch = s := by
  simp only [State.flitGo, h]

/-- With no first flit for the output, nothing moves. -/
theorem flitGo_idle (h : ∀ p ∈ inputsAt r.val, ∀ x, (qOf s.mesh.inq (inKey r.val p ch.val)).head? = some x → flitOut x r.val ≠ port) :
    s.flitGo r port ch = s := by
  cases hp : s.mesh.pick r.val port ch.val with
  | none => exact flitGo_none hp
  | some inp =>
    obtain ⟨hmem, x, hx, hout⟩ := pick_spec hp
    exact absurd hout (h inp hmem x hx)

theorem flitGo_blocked (hp : s.mesh.pick r.val port ch.val = some inp) (hf : (qOf s.mesh.inq (inKey r.val inp ch.val)).head? = some f)
    (hc : s.mesh.credit r.val port ch.val = false) : s.flitGo r port ch = s := by
  obtain ⟨rest, hq⟩ := List.head?_eq_some_iff.mp hf
  simp only [State.flitGo, hp, hq, hc, Bool.not_false, if_true]

theorem flitGo_moves (hp : s.mesh.pick r.val port ch.val = some inp) (hf : (qOf s.mesh.inq (inKey r.val inp ch.val)).head? = some f)
    (hc : s.mesh.credit r.val port ch.val = true) : s.flitGo r port ch =
      { (s.flitRead r.val f).2 with mesh := s.mesh.move r.val inp port ch.val (s.flitRead r.val f).1 } := by
  obtain ⟨rest, hq⟩ := List.head?_eq_some_iff.mp hf
  simp only [State.flitGo, hp, hq, hc, Bool.not_true, Bool.false_eq_true, if_false]

theorem flitRead_unarmed (h : s.armed 0x1B r.val = false) : s.flitRead r.val f = (f, s) := by
  simp [State.flitRead, inject_unarmed h]

/-- A flit that the injection spoils beyond correction goes on poisoned. -/
theorem flitRead_poisoned (h : s.armed 0x1B r.val = true) (hp : (gridRead s.injMask (List.range 8)).poison = true) :
    (s.flitRead r.val f).1 = { f with poison := true } := by
  simp [State.flitRead, State.inject, h, hp]

end

theorem enter_room {m : MeshSt} {f : Flit} {ch : Nat}
    (h : (qOf m.inq (inKey (unitRouter f.src) (.unit f.src) ch)).length < unitEntries f.src) : m.enter f ch =
      { m with
        inq := mapInsert m.inq (inKey (unitRouter f.src) (.unit f.src) ch)
          (qOf m.inq (inKey (unitRouter f.src) (.unit f.src) ch) ++ [f]) } := by
  simp only [MeshSt.enter, if_pos h, qPut_append]

theorem enter_full {m : MeshSt} {f : Flit} {ch : Nat}
    (h : unitEntries f.src ≤ (qOf m.inq (inKey (unitRouter f.src) (.unit f.src) ch)).length) : m.enter f ch = m := by
  simp only [MeshSt.enter, if_neg (Nat.not_lt.mpr h)]

theorem take_first {m : MeshSt} {u : MeshUnit} {ch : Nat} {f : Flit} {rest : List Flit} (h : qOf m.outq (outKey u ch) = f :: rest) :
    m.take u ch = { m with
      outq := if rest = [] then mapErase m.outq (outKey u ch) else mapInsert m.outq (outKey u ch) rest,
      bad := if f.poison then m.bad ++ [if f.write then (f.dst, true) else (f.src, false)] else m.bad } := by
  simp only [MeshSt.take, h, qPut, List.isEmpty_iff]

/-- The move of a flit with a credit, over a link or to a unit (R337, R338). -/
theorem flitForward_moves {s : State} {r : ClusterId} {port inp : MeshPort} {ch : Fin 8} {f : Flit}
    (hp : s.mesh.pick r.val port ch.val = some inp) (hf : (qOf s.mesh.inq (inKey r.val inp ch.val)).head? = some f)
    (hc : s.mesh.credit r.val port ch.val = true) : exec (.flitForward r port ⟨ch, none, false⟩) s =
      .next { (s.flitRead r.val f).2 with mesh := s.mesh.move r.val inp port ch.val (s.flitRead r.val f).1 } := by
  rw [flitForward_go, flitGo_moves hp hf hc]

/-- What the move of a flit over a link leaves in the queues. -/
theorem move_link_queues {m : MeshSt} {r : Fin 16} {n : Nat} {inp port p : MeshPort} {ch : Fin 8} (x : Flit)
    (hl : portOver port r.val = some (n, p)) (hc : m.credit r.val port ch = true) :
    qOf (m.move r.val inp port ch x).inq (inKey n p ch) = qOf m.inq (inKey n p ch) ++ [x] ∧
      (qOf (m.move r.val inp port ch x).inq (inKey n p ch)).length ≤ linkEntries r.val n ∧
      ∀ k, k ≠ inKey r.val inp ch → k ≠ inKey n p ch → qOf (m.move r.val inp port ch x).inq k = qOf m.inq k := by
  have hroom : (qOf m.inq (inKey n p ch)).length < linkEntries r.val n := by
    obtain ⟨u, rfl, -⟩ | ⟨n', p', hl', hroom⟩ := credit_cases hc
    · cases hl
    · obtain ⟨rfl, rfl⟩ := Prod.mk.inj (Option.some.inj (hl'.symm.trans hl))
      exact hroom
  have hjoin : qOf (m.move r.val inp port ch x).inq (inKey n p ch) = qOf m.inq (inKey n p ch) ++ [x] := by
    rw [qOf_move_link x hl, if_pos rfl]
  refine ⟨hjoin, ?_, fun k hk hk' => by rw [qOf_move_link x hl, if_neg hk', if_neg hk]⟩
  rw [hjoin, List.length_append]
  exact hroom

/-- What the move of a flit to a unit leaves in the queues. -/
theorem move_unit_queues {m : MeshSt} {r : Nat} {inp : MeshPort} {u : MeshUnit} {ch : Nat} (x : Flit) (hc : m.credit r (.unit u) ch = true) :
    qOf (m.move r inp (.unit u) ch x).outq (outKey u ch) = qOf m.outq (outKey u ch) ++ [x] ∧
      (qOf (m.move r inp (.unit u) ch x).outq (outKey u ch)).length ≤ unitEntries u ∧
      ∀ k, k ≠ inKey r inp ch → qOf (m.move r inp (.unit u) ch x).inq k = qOf m.inq k := by
  have hroom : (qOf m.outq (outKey u ch)).length < unitEntries u := of_decide_eq_true hc
  have hjoin : qOf (m.move r inp (.unit u) ch x).outq (outKey u ch) = qOf m.outq (outKey u ch) ++ [x] := by
    rw [move_unit_outq, qOf_qPut, if_pos rfl]
  refine ⟨hjoin, ?_, fun k hk => by rw [qOf_move_unit, if_neg hk]⟩
  rw [hjoin, List.length_append]
  exact hroom

theorem meshResults : Sys2Proof.Clauses.MeshResults := by
  intro s r port ch f inp u n p inq outq wf go dst
  refine ⟨fun q => ⟨?_, ?_, rfl⟩, portOver_back, flitOut_unit, flitOut_nearer f r, fun ⟨hi, ho⟩ => ⟨fun h => ?_, pick_spec,
    fun hp hf => ⟨fun hc => ?_, fun hc => ?_⟩, fun h => ?_, fun h => ?_, fun rest hu hq => ?_⟩⟩
  · simp only [unitRouter, Nat.mul_mod_right, if_true]
    omega
  · have : (2 * q.val + 1) % 2 ≠ 0 := by omega
    simp only [unitRouter, if_neg this]
    omega
  · exact (flitForward_go s r port ch).trans (congrArg _ (flitGo_idle h))
  · exact (flitForward_go s r port ch).trans (congrArg _ (flitGo_blocked hp hf hc))
  · refine ⟨_, (s.flitRead r.val f).1, flitForward_moves hp hf hc, queuesWf_move _ hc hi ho, qOf_move_from _ hc,
      fun hl => move_link_queues _ hl hc, fun hu => ?_, fun ha => ?_, flitRead_poisoned⟩
    · subst hu
      exact move_unit_queues _ hc
    · rw [flitRead_unarmed ha]
      exact ⟨rfl, rfl⟩
  · exact (flitForward_fresh s r port ch f).trans ((congrArg (fun m => Host.Outcome.next (State.flitGo { s with mesh := m } r port ch))
      (enter_room h)).trans (flitForward_go _ r port ch).symm)
  · exact (flitForward_fresh s r port ch f).trans ((congrArg (fun m => Host.Outcome.next (State.flitGo { s with mesh := m } r port ch))
      (enter_full h)).trans (flitForward_go _ r port ch).symm)
  · subst hu
    exact (flitForward_taken s r u ch).trans ((congrArg (fun m => Host.Outcome.next (State.flitGo { s with mesh := m } r (.unit u) ch))
      (take_first hq)).trans (flitForward_go _ r (.unit u) ch).symm)

end Sys2Proof.Machine
end

section
/-! SUPPORT. What events, errors and moves of lines leave in the state of memory (R323, R330, R366, R369, R420). -/

namespace Sys2Proof.Machine

/-! ### Events leave the state of memory as it is -/

/-- What every step of a fold keeps, the fold keeps. -/
theorem foldl_keeps {σ α β : Type} (φ : σ → β) {f : σ → α → σ} (hf : ∀ s x, φ (f s x) = φ s) (l : List α) (s : σ) : φ (l.foldl f s) = φ s := by
  induction l generalizing s with
  | nil => rfl
  | cons x l ih => rw [List.foldl_cons, ih, hf]

theorem ite_keeps {σ β : Type} (φ : σ → β) {p : Prop} [Decidable p] {a b : σ} {y : β} (ha : φ a = y) (hb : φ b = y) :
    φ (if p then a else b) = y := by
  split
  · exact ha
  · exact hb

theorem dite_keeps {σ β : Type} (φ : σ → β) {p : Prop} [Decidable p] {a : p → σ} {b : ¬p → σ} {y : β} (ha : ∀ h, φ (a h) = y)
    (hb : ∀ h, φ (b h) = y) : φ (if h : p then a h else b h) = y := by
  split
  · exact ha _
  · exact hb _

@[simp] theorem State.cnt_mst (s : State) (f : Fld) (n : Nat) : (s.cnt f n).mst = s.mst := by
  unfold State.cnt
  split <;> rfl

@[simp] theorem State.cntSat_mst (s : State) (f : Fld) (n : Nat) : (s.cntSat f n).mst = s.mst := rfl

@[simp] theorem State.fired_mst (s : State) : s.fired.mst = s.mst := rfl

@[simp] theorem State.inject_mst (s : State) (point unit : Nat) : (s.inject point unit).2.mst = s.mst := by
  unfold State.inject
  split <;> rfl

@[simp] theorem State.irq_mst (s : State) (c : CpId) (n : Nat) : (s.irq c n).mst = s.mst := rfl

@[simp] theorem State.capture_mst (s : State) (b inst synd : Nat) (marking inj : Bool) (addr : Nat) :
    (s.capture b inst synd marking inj addr).mst = s.mst := by
  unfold State.capture
  dsimp only
  split <;> rfl

section
variable {ck : PartId → State → State} (hck : ∀ p s, (ck p s).mst = s.mst)
include hck

theorem State.consume_mst (s : State) (c : Nat) : (s.consume ck c).mst = s.mst := by
  have hs := Eq.refl s.mst
  unfold State.consume
  refine dite_keeps State.mst (fun _ => ite_keeps State.mst (State.irq_mst ..) hs) fun _ => ite_keeps State.mst (State.modE_mst ..)
    (ite_keeps State.mst (ite_keeps State.mst (State.modE_mst ..) hs) (dite_keeps State.mst (fun _ => hck _ s) fun _ => ?_))
  refine ite_keeps State.mst (State.modE_mst ..) (ite_keeps State.mst (State.modE_mst ..) (ite_keeps State.mst ?_ ?_))
  · exact (State.setReg_mst ..).trans ((State.wr_mst ..).trans (State.wr_mst ..))
  · exact ite_keeps State.mst (State.modE_mst ..) (ite_keeps State.mst (State.modE_mst ..) (ite_keeps State.mst (State.modE_mst ..) hs))

theorem State.deliver_mst (s : State) (c : Nat) : (s.deliver ck c).mst = s.mst := by
  exact ite_keeps State.mst (ite_keeps State.mst (State.cnt_mst ..) rfl) (State.consume_mst hck s c)

end

@[simp] theorem State.flagChan_mst (s : State) (k : Nat) (coin : Bool) : (s.flagChan k coin).mst = s.mst := by
  refine foldl_keeps State.mst (fun s c => ?_) _ s
  split <;> rfl

@[simp] theorem State.chanEvent_mst (s : State) (k : Fin 64) : (s.chanEvent k).2.mst = s.mst := by
  unfold State.chanEvent
  dsimp only
  split_ifs <;> simp [State.modChan, State.chanPass]

@[simp] theorem State.groupEvent_mst (s : State) (srcs : List Nat) : (s.groupEvent srcs).mst = s.mst := by
  refine foldl_keeps State.mst (fun s g => ?_) _ s
  dsimp only
  split_ifs
  · exact (foldl_keeps State.mst (fun _ _ => by rfl) _ _).trans rfl
  · rfl
  · rfl

theorem State.route_mst {ck : PartId → State → State} (hck : ∀ p s, (ck p s).mst = s.mst) (s : State) (line : Nat) :
    (s.route ck line).mst = s.mst := by
  have hdel : ∀ (l : List Nat) (s : State), (l.foldl (State.deliver ck) s).mst = s.mst := foldl_keeps State.mst (State.deliver_mst hck)
  unfold State.route
  dsimp only
  refine ite_keeps State.mst (State.cnt_mst ..) ?_
  rw [State.groupEvent_mst, foldl_keeps State.mst (fun s k => hdel _ s), hdel]
  exact (foldl_keeps (fun r : List (Fin 64) × State => r.2.mst) (fun r k => State.chanEvent_mst r.2 k) _ _).trans rfl

theorem State.bucketWith_mst {fire : State → Nat → State} (hf : ∀ s n, (fire s n).mst = s.mst) (s : State) (b n : Nat) :
    (s.bucketWith fire b n).mst = s.mst := by
  unfold State.bucketWith
  dsimp only
  split <;> simp [hf]

theorem State.bucket0_mst (s : State) (b n : Nat) : (s.bucket0 b n).mst = s.mst := by
  refine State.bucketWith_mst (fun s n => State.route_mst (fun p s => ?_) s n) s b n
  dsimp only
  split <;> simp

theorem undoMem_mst (s : State) (u : Undo) (c : CpId) : (undoMem s u c).mst = s.mst := by
  cases u <;> rfl

@[simp] theorem State.detLost_mst (s : State) (code : Nat) (cs : List CpId) : (s.detLost code cs).mst = s.mst := by
  refine foldl_keeps State.mst (fun s c => ?_) _ s
  dsimp only
  split <;> rfl

theorem State.rollback_mst (s : State) (c : CpId) (kind wh : Nat) : (s.rollback State.bucket0 c kind wh).mst = s.mst := by
  unfold State.rollback
  extract_lets cl p u v w x
  have hu : u.mst = s.mst := foldl_keeps State.mst (fun s e => undoMem_mst s e c) _ s
  have hv : v.mst = u.mst := State.modCp_mst ..
  have hw : w.mst = v.mst := (State.wr_mst ..).trans ((State.wr_mst ..).trans (State.cnt_mst ..))
  have hx : x.mst = w.mst := (State.detLost_mst ..).trans (State.bucket0_mst ..)
  have h : x.mst = s.mst := hx.trans (hw.trans (hv.trans hu))
  clear_value x
  exact ite_keeps State.mst ((State.wr_mst ..).trans ((State.modCp_mst ..).trans h)) h

theorem State.checkpointPart_mst (p : PartId) (s : State) : (State.checkpointPart p s).mst = s.mst := by
  refine foldl_keeps State.mst (fun s c => ?_) _ s
  unfold State.checkpointWith State.compareWith
  dsimp only
  split_ifs <;> simp [State.rollback_mst, State.lstepSave]

@[simp] theorem State.bucket_mst (s : State) (b n : Nat) : (s.bucket b n).mst = s.mst :=
  State.bucketWith_mst (State.route_mst State.checkpointPart_mst) s b n

end Sys2Proof.Machine
end

section
/-! SUPPORT. The tag caches (R120, R330, R346). -/

namespace Sys2Proof.Machine

/-! ### Moves and reads of lines leave the tag caches as they are -/

theorem State.parityReissue_mst (s : State) (near : Bool) (unit : Nat) : (s.parityReissue near unit).mst = s.mst := by
  unfold State.parityReissue
  exact ite_keeps State.mst ((State.bucket_mst ..).trans (State.cnt_mst ..)) (State.bucket_mst ..)

@[simp] theorem State.sendCmd_mst (s : State) (near : Bool) (unit : Nat) : (s.sendCmd near unit).mst = s.mst := by
  have hi := State.inject_mst s (if near then 0x19 else 0x1A) unit
  exact ite_keeps State.mst ((State.parityReissue_mst ..).trans hi) (Eq.refl s.mst)

theorem State.rfmSent_mst (s : State) (bk : Nat) : (s.rfmSent bk).mst = s.mst := by
  unfold State.rfmSent
  split <;> simp

/-- To reach rows of banks changes what is known of banks alone. -/
theorem State.reachRows_mst (s : State) (bs : List (Nat × Nat)) : (s.reachRows bs).mst =
    (let r := bs.foldl (Rows.reach s.rfmLimit) ⟨s.mst.acts, s.mst.openRow, []⟩;
      { s.mst with acts := r.acts, openRow := r.openRow }) := by
  have hr : ∀ (l : List Nat) (u : State), (l.foldr (fun bk s => s.rfmSent bk) u).mst = u.mst := by
    intro l u
    induction l with
    | nil => rfl
    | cons x l ih => rw [List.foldr_cons, State.rfmSent_mst, ih]
  exact hr _ _

/-- The tag lines in the tag caches. -/
abbrev State.tagc (s : State) : List TagLine := s.mst.tagc

theorem State.tagc_of_mst {s t : State} (h : t.mst = s.mst) : t.tagc = s.tagc := congrArg MemSt.tagc h

theorem State.reachRows_tagc (s : State) (bs : List (Nat × Nat)) : (s.reachRows bs).tagc = s.tagc := by
  rw [State.tagc, State.reachRows_mst]

theorem State.nearMove_tagc (s : State) (key : Nat) : (s.nearMove key).tagc = s.tagc := by
  unfold State.nearMove
  exact (State.reachRows_tagc ..).trans (State.tagc_of_mst ((State.cnt_mst ..).trans (State.sendCmd_mst ..)))

theorem State.celMove_tagc (s : State) (key : Nat) : (s.celMove key).tagc = s.tagc := by
  unfold State.celMove
  exact (State.reachRows_tagc ..).trans (State.tagc_of_mst (State.sendCmd_mst ..))

theorem State.lineMove_tagc (s : State) (key : Nat) : (s.lineMove key).tagc = s.tagc := by
  unfold State.lineMove
  split
  · exact State.nearMove_tagc s key
  · exact State.celMove_tagc s key
  · rfl

theorem putBytes_mst (l : List Byte) (key : Nat) (s : State) : (State.putBytes l key s).mst = s.mst := by
  induction l generalizing key s with
  | nil => rfl
  | cons b l ih => exact ih (key + 1) (s.putByte key b)

theorem setErrs_mst (l : List Nat) (f : Nat → Nat) (e : State → Nat → Err) (s : State) :
    (l.foldl (fun s i => s.setErr (f i) (e s i)) s).mst = s.mst := foldl_keeps State.mst (fun s i => State.setErr_mst s (f i) (e s i)) l s

theorem State.settle_mst (s : State) (key n : Nat) (e : Err) : (s.settle key n e).mst = s.mst := by
  unfold State.settle
  exact (State.setErr_mst ..).trans ((putBytes_mst ..).trans (setErrs_mst _ (fun i => key / 8 + i) (fun _ _ => Err.zero) s))

theorem State.poisonUnit_mst (s : State) (key : Nat) : (s.poisonUnit key).mst = s.mst := by
  unfold State.poisonUnit
  split
  · exact State.settle_mst ..
  · exact (setErrs_mst _ (fun i => key / 64 * 64 / 8 + i) (fun _ _ => _) _).trans (State.settle_mst ..)
  · exact State.settle_mst ..

theorem State.chargeLane_tagc (s : State) (stack pc sym n : Nat) : (s.chargeLane stack pc sym n).tagc = s.tagc := rfl

theorem State.celCorrected_tagc (s : State) (key dev : Nat) : (s.celCorrected key dev).tagc = s.tagc := by
  unfold State.celCorrected
  dsimp only
  split_ifs <;> simp [State.tagc]

theorem State.readNear_tagc (s : State) (key : Nat) : (s.readNear key).2.tagc = s.tagc := by
  unfold State.readNear
  dsimp only
  refine ite_keeps (fun r : Bool × State => r.2.tagc) rfl ?_
  split
  · exact State.tagc_of_mst (State.settle_mst ..)
  · exact State.tagc_of_mst (State.capture_mst ..)
  · refine (State.tagc_of_mst ((State.bucket_mst ..).trans (State.settle_mst ..))).trans ?_
    refine foldl_keeps State.tagc (fun s x => ?_) _ _
    exact ite_keeps State.tagc (State.chargeLane_tagc ..) (State.chargeLane_tagc ..)
  · exact State.tagc_of_mst ((State.bucket_mst ..).trans ((State.capture_mst ..).trans (State.poisonUnit_mst ..)))

theorem State.readCel_tagc (s : State) (key : Nat) : (s.readCel key).2.tagc = s.tagc := by
  unfold State.readCel
  extract_lets k ch r u
  have hu : u.tagc = s.tagc := State.tagc_of_mst (State.inject_mst ..)
  clear_value u
  refine ite_keeps (fun r : Bool × State => r.2.tagc) ?_ (ite_keeps (fun r : Bool × State => r.2.tagc) hu ?_)
  · exact (State.tagc_of_mst ((State.bucket_mst ..).trans ((State.capture_mst ..).trans (State.poisonUnit_mst ..)))).trans hu
  · dsimp only
    split
    · exact (State.tagc_of_mst (State.settle_mst ..)).trans hu
    · exact (State.tagc_of_mst (State.capture_mst ..)).trans hu
    · refine (State.tagc_of_mst (State.bucket_mst ..)).trans ((State.celCorrected_tagc ..).trans ((State.tagc_of_mst (State.settle_mst ..)).trans ?_))
      refine ite_keeps State.tagc hu ((foldl_keeps State.tagc (fun s i => ?_) _ _).trans hu)
      rfl
    · exact (State.tagc_of_mst ((State.bucket_mst ..).trans ((State.capture_mst ..).trans (State.poisonUnit_mst ..)))).trans hu

theorem State.readLine_tagc (s : State) (key : Nat) : (s.readLine key).2.tagc = s.tagc := by
  unfold State.readLine
  split
  · exact (State.readNear_tagc ..).trans (State.nearMove_tagc ..)
  · exact (State.readCel_tagc ..).trans (State.celMove_tagc ..)

theorem State.flipLine_tagc (s : State) (key : Nat) : (s.flipLine key).tagc = s.tagc := by
  unfold State.flipLine
  refine ite_keeps State.tagc ?_ ?_
  · extract_lets r
    have hr : r.2.tagc = s.tagc := State.tagc_of_mst (State.inject_mst ..)
    clear_value r
    exact ite_keeps State.tagc hr (Eq.refl s.tagc)
  · extract_lets r
    have hr : r.2.tagc = s.tagc := State.tagc_of_mst (State.inject_mst ..)
    clear_value r
    refine ite_keeps State.tagc (ite_keeps State.tagc ?_ hr) (Eq.refl s.tagc)
    exact (foldl_keeps State.tagc (fun s i => by rfl) _ _).trans hr

theorem State.tagBack_tagc (s : State) (x : TagLine) : (s.tagBack x).tagc = s.tagc := by
  unfold State.tagBack
  refine ite_keeps State.tagc rfl ?_
  extract_lets d u v
  have hu : u.tagc = s.tagc := (State.tagc_of_mst (setErrs_mst _ (fun i => x.key / 8 + i) (fun _ _ => Err.zero) _)).trans (State.lineMove_tagc ..)
  have hv : v.tagc = s.tagc := ite_keeps State.tagc ((State.tagc_of_mst (State.poisonUnit_mst ..)).trans hu) hu
  exact (State.flipLine_tagc ..).trans (ite_keeps State.tagc hv ((State.tagc_of_mst (State.bucket_mst ..)).trans hv))

end Sys2Proof.Machine
end

section
/-! SUPPORT. Fetches into the tag caches, and tags that are read and written there (R120, R330, R346). -/

namespace Sys2Proof.Machine

/-! ### A fetch of a line of tags -/

/-- The lines of the tag cache that holds a key's line. -/
def tagOwn (l : List TagLine) (key : Nat) : List TagLine := l.filter (fun x => tagCtl x.key == tagCtl key)

/-- The state after the tag cache of a key has made room for a line (R330). -/
def State.tagRoom (s : State) (key : Nat) : State :=
  if (tagOwn s.mst.tagc key).length < tagWays key then s
  else match (tagOwn s.mst.tagc key).getLast? with
    | some t => (s.tagBack t).modM (fun m => { m with tagc := m.tagc.filter (fun x => x.key != t.key) })
    | none => s

/-- The line that a fetch brings in (R330, R346). -/
def State.tagFill (s : State) (key : Nat) (dirty : Bool) : TagLine :=
  ⟨key, dirty, (s.readLine key).1, if ((s.readLine key).2.inject 0x18 (tagCtl key % 16)).1 then s.injMask else Err.zero⟩

theorem tagFetch_hit {s : State} {key : Nat} {t : TagLine} (h : s.mst.tagc.find? (fun t => t.key == key) = some t) (dirty : Bool) :
    s.tagFetch key dirty = s.modM (fun m => { m with tagc := { t with dirty := t.dirty || dirty } :: m.tagc.filter (fun x => x.key != key) }) := by
  simp only [State.tagFetch, h]

theorem tagFetch_miss {s : State} {key : Nat} (h : s.mst.tagc.find? (fun t => t.key == key) = none) (dirty : Bool) :
    s.tagFetch key dirty = (((s.tagRoom key).readLine key).2.inject 0x18 (tagCtl key % 16)).2.modM (fun m => { m with
      tagc := (s.tagRoom key).tagFill key dirty :: m.tagc }) := by
  simp only [State.tagFetch, h]
  rfl

theorem tagFetch_miss_tagc {s : State} {key : Nat} (h : s.mst.tagc.find? (fun t => t.key == key) = none) (dirty : Bool) :
    (s.tagFetch key dirty).tagc = (s.tagRoom key).tagFill key dirty :: (s.tagRoom key).tagc := by
  rw [tagFetch_miss h]
  exact congrArg _ ((State.tagc_of_mst (State.inject_mst ..)).trans (State.readLine_tagc ..))

/-- A fetch leaves the line of the key in the cache, marked as changed where a write asks for it. -/
theorem tagFetch_mem (s : State) (key : Nat) (dirty : Bool) : ∃ x ∈ (s.tagFetch key dirty).tagc, x.key = key ∧ (dirty = true → x.dirty = true) := by
  cases h : s.mst.tagc.find? (fun t => t.key == key) with
  | some t =>
    rw [tagFetch_hit h]
    exact ⟨_, List.mem_cons_self, by simpa using List.find?_some h, fun hd => by simp [hd]⟩
  | none =>
    rw [tagFetch_miss_tagc h]
    exact ⟨_, List.mem_cons_self, rfl, id⟩

/-- Without the lines of a key that a cache holds, it holds fewer. -/
theorem tagOwn_drop_lt {l : List TagLine} {key : Nat} {t : TagLine} (ht : t ∈ tagOwn l key) :
    (tagOwn (l.filter (fun x => x.key != t.key)) key).length < (tagOwn l key).length := by
  have hcomm : tagOwn (l.filter (fun x => x.key != t.key)) key = (tagOwn l key).filter (fun x => x.key != t.key) := by
    simp only [tagOwn, List.filter_filter, Bool.and_comm]
  rw [hcomm]
  exact List.length_filter_lt_length_iff_exists.mpr ⟨t, ht, by simp⟩

theorem tagOwn_cons_self {l : List TagLine} {t : TagLine} : (tagOwn (t :: l) t.key).length = (tagOwn l t.key).length + 1 := by
  simp [tagOwn]

theorem tagWays_pos (key : Nat) : 0 < tagWays key := by
  unfold tagWays
  split <;> decide

/-- After making room a cache has a free place. -/
theorem tagRoom_free {s : State} {key : Nat} (h : (tagOwn s.tagc key).length ≤ tagWays key) :
    (tagOwn (s.tagRoom key).tagc key).length < tagWays key := by
  unfold State.tagRoom
  by_cases hlt : (tagOwn s.mst.tagc key).length < tagWays key
  · rw [if_pos hlt]
    exact hlt
  · rw [if_neg hlt]
    split
    · rename_i t ht
      have htc : ((s.tagBack t).modM (fun m => { m with tagc := m.tagc.filter (fun x => x.key != t.key) })).tagc =
          s.tagc.filter (fun x => x.key != t.key) := congrArg (List.filter _) (State.tagBack_tagc s t)
      rw [htc]
      exact Nat.lt_of_lt_of_le (tagOwn_drop_lt (List.mem_of_getLast? ht)) h
    · rename_i hnone
      rw [List.getLast?_eq_none_iff] at hnone
      exact absurd (by rw [hnone]; exact tagWays_pos key) hlt

/-- A fetch keeps a cache within its size. -/
theorem tagFetch_length {s : State} {key : Nat} (dirty : Bool) (h : (tagOwn s.tagc key).length ≤ tagWays key) :
    (tagOwn (s.tagFetch key dirty).tagc key).length ≤ tagWays key := by
  cases hf : s.mst.tagc.find? (fun t => t.key == key) with
  | some t =>
    have hk : t.key = key := by simpa using List.find?_some hf
    subst hk
    have hmem : t ∈ tagOwn s.tagc t.key := List.mem_filter.mpr ⟨List.mem_of_find?_eq_some hf, by simp⟩
    rw [tagFetch_hit hf]
    refine Nat.le_trans (Nat.le_of_eq (tagOwn_cons_self (t := { t with dirty := t.dirty || dirty }))) ?_
    exact Nat.le_trans (tagOwn_drop_lt hmem) h
  | none =>
    rw [tagFetch_miss_tagc hf]
    refine Nat.le_trans (Nat.le_of_eq (tagOwn_cons_self (t := (s.tagRoom key).tagFill key dirty))) ?_
    exact tagRoom_free h

/-! ### Without errors and injections -/

/-- A state with the granules, tags and check errors of another, and with no injection armed. -/
def stillAs (s t : State) : Prop := quietAs s t ∧ t.tags = s.tags ∧ t.errs = s.errs

/-- A line of a tag cache that nothing has spoilt. -/
def TagLine.sound (x : TagLine) : Prop := x.err = Err.zero ∧ x.bad = false

theorem stillAs_refl {s : State} (h : s.rdB INJ_STAT.ARMED = false) : stillAs s s := ⟨⟨rfl, h⟩, rfl, rfl⟩

theorem State.cnt_tags (s : State) (f : Fld) (n : Nat) : (s.cnt f n).tags = s.tags := by
  unfold State.cnt
  split <;> rfl

theorem State.cnt_errs (s : State) (f : Fld) (n : Nat) : (s.cnt f n).errs = s.errs := by
  unfold State.cnt
  split <;> rfl

section
variable {s t : State} (h : stillAs s t)
include h

theorem still_cnt {f : Fld} (ha : INJ_STAT.adr ≠ f.adr) (n : Nat) : stillAs s (t.cnt f n) := by
  obtain ⟨hq, ht, he⟩ := h
  exact ⟨quiet_cnt hq ha n, (State.cnt_tags t f n).trans ht, (State.cnt_errs t f n).trans he⟩

theorem still_modM {f : MemSt → MemSt} (hf : (f t.mst).granules = t.mst.granules) : stillAs s (t.modM f) := by
  obtain ⟨⟨hg, ha⟩, ht, he⟩ := h
  exact ⟨⟨hf.trans hg, ha⟩, ht, he⟩

theorem still_rfm (bk : Nat) : stillAs s (t.rfmSent bk) := by
  unfold State.rfmSent
  rw [quiet_send h.1, quiet_send h.1]
  split
  · exact still_cnt h (by simp only [NM_RH.COUNT, NM_RH.adr, INJ_STAT.adr]; omega) 1
  · exact h

end

theorem still_rows {s t : State} (h : stillAs s t) (bs : List (Nat × Nat)) : stillAs s (t.reachRows bs) := by
  have hb : ∀ (l : List Nat) (u : State), stillAs s u → stillAs s (l.foldr (fun bk s => s.rfmSent bk) u) := by
    intro l u hu
    induction l with
    | nil => exact hu
    | cons x l ih => exact still_rfm ih x
  exact hb _ _ (still_modM h rfl)

theorem still_nearMove {s t : State} (h : stillAs s t) (key : Nat) : stillAs s (t.nearMove key) := by
  simp only [State.nearMove, quiet_send h.1]
  exact still_rows (still_cnt h (by simp only [NM_LINES.COUNT, NM_LINES.adr, INJ_STAT.adr]; omega) 1) _

theorem still_celMove {s t : State} (h : stillAs s t) (key : Nat) : stillAs s (t.celMove key) := by
  simp only [State.celMove, quiet_send h.1]
  exact still_rows h _

theorem still_lineMove {s t : State} (h : stillAs s t) (key : Nat) : stillAs s (t.lineMove key) := by
  unfold State.lineMove
  split
  · exact still_nearMove h key
  · exact still_celMove h key
  · exact h

theorem errAny_nil {s : State} (h : s.errs = []) (key n : Nat) : s.errAny key n = false := by
  simp [State.errAny, err_of_errs_nil h]

theorem flipLine_disarmed {s : State} (h : s.rdB INJ_STAT.ARMED = false) (key : Nat) : s.flipLine key = s := by
  simp [State.flipLine, inject_disarmed h]

theorem gridRead_zero (js : List Nat) : gridRead Err.zero js = ⟨Err.zero, false, false, 0, 0⟩ := if_pos ⟨rfl, rfl⟩

theorem clearErrs_nil {s : State} (h : s.errs = []) (l : List Nat) (f : Nat → Nat) :
    l.foldl (fun s i => s.setErr (f i) Err.zero) s = s := by
  induction l with
  | nil => rfl
  | cons x l ih => rw [List.foldl_cons, setErr_zero_of_nil h, ih]

section
variable {s t : State} (h : stillAs s t) (he : s.errs = [])
include h he

/-- A line or unit without errors reads good, and the read leaves memory as it was. -/
theorem readLine_still (key : Nat) : (t.readLine key).1 = false ∧ stillAs s (t.readLine key).2 := by
  unfold State.readLine
  split
  · have hm := still_nearMove h key
    have hr : (t.nearMove key).readNear key = (false, t.nearMove key) := by
      rw [State.readNear, errAny_nil (hm.2.2.trans he)]
      rfl
    rw [hr]
    exact ⟨rfl, hm⟩
  · have hm := still_celMove h key
    have hr : (t.celMove key).readCel key = (false, t.celMove key) := by
      simp only [State.readCel, inject_disarmed hm.1.2, errAny_nil (hm.2.2.trans he), Bool.not_false, Bool.false_eq_true, if_false, if_true]
    rw [hr]
    exact ⟨rfl, hm⟩

/-- A sound line goes back without a trace. -/
theorem tagBack_still {x : TagLine} (hx : x.sound) : stillAs s (t.tagBack x) := by
  obtain ⟨hz, hb⟩ := hx
  unfold State.tagBack
  split
  · exact h
  · have hm := still_lineMove h x.key
    simp only [hz, gridRead_zero, hb, clearErrs_nil (hm.2.2.trans he), Bool.or_self, Bool.false_eq_true, if_false, if_true,
      flipLine_disarmed hm.1.2]
    exact hm

theorem tagRoom_still (hs : ∀ x ∈ t.tagc, x.sound) (key : Nat) : stillAs s (t.tagRoom key) ∧ ∀ x ∈ (t.tagRoom key).tagc, x.sound := by
  unfold State.tagRoom
  split
  · exact ⟨h, hs⟩
  · split
    · rename_i x hx
      have hsx : x.sound := hs x (List.mem_filter.mp (List.mem_of_getLast? hx)).1
      refine ⟨still_modM (tagBack_still h he hsx) rfl, fun y hy => hs y ?_⟩
      rw [← State.tagBack_tagc t x]
      exact (List.mem_filter.mp hy).1
    · exact ⟨h, hs⟩

/-- A fetch leaves tags, errors and sound lines as they are (R330). -/
theorem tagFetch_still (hs : ∀ x ∈ t.tagc, x.sound) (key : Nat) (dirty : Bool) :
    stillAs s (t.tagFetch key dirty) ∧ ∀ x ∈ (t.tagFetch key dirty).tagc, x.sound := by
  cases hf : t.mst.tagc.find? (fun x => x.key == key) with
  | some y =>
    rw [tagFetch_hit hf]
    refine ⟨still_modM h rfl, fun x hx => ?_⟩
    obtain rfl | hx := List.mem_cons.mp hx
    · exact hs y (List.mem_of_find?_eq_some hf)
    · exact hs x (List.mem_filter.mp hx).1
  | none =>
    obtain ⟨hr, hrs⟩ := tagRoom_still h he hs key
    obtain ⟨hgood, hl⟩ := readLine_still hr he key
    have hi := inject_disarmed hl.1.2 0x18 (tagCtl key % 16)
    refine ⟨?_, fun x hx => ?_⟩
    · rw [tagFetch_miss hf, hi]
      exact still_modM hl rfl
    · rw [tagFetch_miss_tagc hf] at hx
      obtain rfl | hx := List.mem_cons.mp hx
      · simp only [TagLine.sound, State.tagFill, hi, hgood, Bool.false_eq_true, if_false, and_self]
      · exact hrs x hx

end

/-! ### Tags -/

theorem tagAt_of_tags {s t : State} (h : t.tags = s.tags) (g : Nat) : t.tagAt g = s.tagAt g := by
  rw [State.tagAt, h, State.tagAt]

section
variable {s : State} {g : Nat} (ha : s.rdB INJ_STAT.ARMED = false) (hst : storeOf (16 * g) = .near ∨ storeOf (16 * g) = .cellar) {x : TagLine}
  (hx : (s.tagFetch (s.tagPlace (16 * g)).1 false).mst.tagc.find? (fun x => x.key == (s.tagPlace (16 * g)).1) = some x)
include ha hst hx

/-- In a line that was fetched poisoned every tag is lost (R330, R360). -/
theorem readTag_bad (hb : x.bad = true) : (s.readTag g).1 = false := by
  rcases hst with h | h <;> simp only [State.readTag, h, inject_disarmed ha, hx, hb, if_true, Bool.false_eq_true, if_false, State.tagLost]

/-- In a sound line a tag reads as it is. -/
theorem readTag_sound (hs : x.sound) :
    s.readTag g = ((s.tagFetch (s.tagPlace (16 * g)).1 false).tagAt g, s.tagFetch (s.tagPlace (16 * g)).1 false) := by
  obtain ⟨hz, hb⟩ := hs
  have hd : x.read (s.tagPlace (16 * g)).2 = ⟨Err.zero, false, false, 0, 0⟩ := by
    rw [TagLine.read, hz, gridRead_zero, gridRead_zero, ite_self]
  have hbit : ∀ n, bitOf Err.zero.d n = false := fun n => by simp [bitOf, Err.zero]
  rcases hst with h | h <;> simp only [State.readTag, h, inject_disarmed ha, hx, hb, hd, hbit, if_true, Bool.false_eq_true, if_false,
    Bool.and_false, Bool.bne_false]

end

theorem tagFetch_find (s : State) (key : Nat) (dirty : Bool) :
    ∃ x, (s.tagFetch key dirty).mst.tagc.find? (fun x => x.key == key) = some x := by
  obtain ⟨x, hx, hk, -⟩ := tagFetch_mem s key dirty
  exact Option.isSome_iff_exists.mp (List.find?_isSome.mpr ⟨x, hx, by simp [hk]⟩)

section
variable {s : State} (he : s.errs = []) (ha : s.rdB INJ_STAT.ARMED = false) (hs : ∀ x ∈ s.tagc, x.sound)
include he ha hs

/-- With no error and no injection a tag reads as it is, and the read changes no tag. -/
theorem readTag_still (g : Nat) : (s.readTag g).1 = s.tagAt g ∧ (s.readTag g).2.tags = s.tags := by
  have cached (hst : storeOf (16 * g) = .near ∨ storeOf (16 * g) = .cellar) :
      (s.readTag g).1 = s.tagAt g ∧ (s.readTag g).2.tags = s.tags := by
    obtain ⟨⟨-, ht, -⟩, hsound⟩ := tagFetch_still (stillAs_refl ha) he hs (s.tagPlace (16 * g)).1 false
    obtain ⟨x, hx⟩ := tagFetch_find s (s.tagPlace (16 * g)).1 false
    rw [readTag_sound ha hst hx (hsound x (List.mem_of_find?_eq_some hx))]
    exact ⟨tagAt_of_tags ht g, ht⟩
  cases hst : storeOf (16 * g) with
  | near => exact cached (Or.inl hst)
  | cellar => exact cached (Or.inr hst)
  | spad =>
    have hbit : ∀ n, bitOf Err.zero.d n = false := fun n => by simp [bitOf, Err.zero]
    simp only [State.readTag, hst, err_of_errs_nil he, gridRead_zero, hbit, if_true, Bool.false_eq_true, if_false, Bool.bne_false, and_self]
  | pram => simp only [State.readTag, hst, and_self]

/-- A write of a tag writes that tag and no other. -/
theorem writeTag_tags (g : Nat) (b : Bool) : (s.writeTag g b).tags = mapPut tagDefault s.tags g b := by
  have cached : ((s.tagFetch (s.tagPlace (16 * g)).1 true).setTag g b).tags = mapPut tagDefault s.tags g b := by
    obtain ⟨⟨-, ht, -⟩, -⟩ := tagFetch_still (stillAs_refl ha) he hs (s.tagPlace (16 * g)).1 true
    rw [State.setTag_tags, ht]
  cases hst : storeOf (16 * g) with
  | near => simpa only [State.writeTag, hst] using cached
  | cellar => simpa only [State.writeTag, hst] using cached
  | spad =>
    have hd : ∀ w e, ((s.setErr w e).setTag g b).rdB INJ_STAT.ARMED = false := fun _ _ => ha
    simp only [State.writeTag, hst, inject_disarmed (hd _ _), Bool.false_eq_true, if_false, ite_self, State.setTag_tags, State.setErr_tags]
  | pram => simp only [State.writeTag, hst, State.setTag_tags]

end

theorem tagCacheResults : Sys2Proof.Clauses.TagCacheResults := by
  intro s key g dirty b e
  refine ⟨tagFetch_mem s key dirty, tagFetch_length dirty, fun he ha hall => ?_, fun ha hst hx hb => readTag_bad ha hst hx hb⟩
  have hs : ∀ x ∈ s.tagc, x.sound := fun x hx => by
    have := List.all_eq_true.mp hall x hx
    simpa [TagLine.sound] using this
  refine ⟨fun _ => ?_, readTag_still he ha hs g⟩
  have hw : ∀ k, (s.writeTag g b).tagAt k = if k = g then b else s.tagAt k := fun k => by
    rw [State.tagAt, writeTag_tags he ha hs, mapGet_put, State.tagAt]
  exact ⟨(hw g).trans (if_pos rfl), fun k hk => (hw k).trans (if_neg hk)⟩

end Sys2Proof.Machine
end

section
/-! SUPPORT. Injections and the raw window (R370 to R374). -/

namespace Sys2Proof.Machine

/-! ### Arming -/

theorem exec_rawAccess (s : State) : exec .rawAccess s = .next s.rawAccess := rfl

theorem arm_armed {s : State} (h : s.rdB INJ_STAT.ARMED = true) : s.arm = s := by
  simp only [State.arm, h, if_true]

theorem securityPoint_iff (p : Nat) : securityPoint p = true ↔ 0x40 ≤ p ∧ p ≤ 0x45 := by
  simp [securityPoint]

theorem arm_refused {s : State} (h : s.rdB INJ_STAT.ARMED = false)
    (hs : 0x40 ≤ s.rd INJ_SEL.POINT ∧ s.rd INJ_SEL.POINT ≤ 0x45 ∧ s.rdB SEC_STAT.DBG_CLOSED = true) : s.arm = s.wr INJ_STAT.REFUSED 1 := by
  obtain ⟨hlo, hhi, hdbg⟩ := hs
  simp only [State.arm, h, (securityPoint_iff _).mpr ⟨hlo, hhi⟩, hdbg, Bool.and_self, Bool.false_eq_true, if_false, if_true]

/-- Another point than the bucket's arms (R370, R372). -/
theorem arm_arms {s : State} (h : s.rdB INJ_STAT.ARMED = false)
    (hs : ¬ (0x40 ≤ s.rd INJ_SEL.POINT ∧ s.rd INJ_SEL.POINT ≤ 0x45 ∧ s.rdB SEC_STAT.DBG_CLOSED = true)) (hb : s.rd INJ_SEL.POINT ≠ 0x22) :
    s.arm = s.wr INJ_STAT.ARMED 1 := by
  have hsec : ¬ (securityPoint (s.rd INJ_SEL.POINT) && s.rdB SEC_STAT.DBG_CLOSED) = true := by
    rw [Bool.and_eq_true, securityPoint_iff, and_assoc]
    exact hs
  simp only [State.arm, h, if_neg hsec, if_neg hb, Bool.false_eq_true, if_false]

/-! ### The raw window -/

section
variable {s : State}

/-- What a raw access does once it has cleared GO, by target and address. -/
theorem rawAccess_eq (s : State) : s.rawAccess =
    (let go := s.wr RAW_CTL.GO 0; let a := s.rd RAW_ADDR.ADDR; let t := s.rd RAW_CTL.TARGET;
      if !s.rdB ERR_CTL.RAW_EN then go.wr RAW_CTL.ERR 1
      else if t = 0 ∧ a < s.mst.nearGran * 65536 then
        if s.rdB RAW_CTL.WRITE then go.rawWriteNear (a / 32 * 32) else go.rawReadNear (a / 32 * 32)
      else if t = 1 ∧ celBase ≤ a ∧ a < celBase + s.mst.celGran * 65536 then
        if s.rdB RAW_CTL.WRITE then go.rawWriteCel (a / 64 * 64) else go.rawReadCel (a / 64 * 64)
      else if t = 2 ∧ a < 0x4000000 then
        if s.rdB RAW_CTL.WRITE then go.rawWriteSpad (spadBase + a / 8 * 8) else go.rawReadSpad (spadBase + a / 8 * 8)
      else go.wr RAW_CTL.ERR 1) := by
  have hen : (s.wr RAW_CTL.GO 0).rdB ERR_CTL.RAW_EN = s.rdB ERR_CTL.RAW_EN := rdB_wr_ne s 0 (by decide)
  simp only [State.rawAccess, hen]
  rfl

theorem rawAccess_disabled (h : s.rdB ERR_CTL.RAW_EN = false) : s.rawAccess = (s.wr RAW_CTL.GO 0).wr RAW_CTL.ERR 1 := by
  rw [rawAccess_eq, h]
  rfl

variable (h : s.rdB ERR_CTL.RAW_EN = true)
include h

theorem rawAccess_reserved (ht : s.rd RAW_CTL.TARGET = 3) : s.rawAccess = (s.wr RAW_CTL.GO 0).wr RAW_CTL.ERR 1 := by
  simp [rawAccess_eq, h, ht]

theorem rawAccess_near (ht : s.rd RAW_CTL.TARGET = 0) (ha : s.rd RAW_ADDR.ADDR < s.mst.nearGran * 65536) : s.rawAccess =
    if s.rdB RAW_CTL.WRITE then (s.wr RAW_CTL.GO 0).rawWriteNear (s.rd RAW_ADDR.ADDR / 32 * 32)
    else (s.wr RAW_CTL.GO 0).rawReadNear (s.rd RAW_ADDR.ADDR / 32 * 32) := by
  simp [rawAccess_eq, h, ht, ha]

theorem rawAccess_cellar (ht : s.rd RAW_CTL.TARGET = 1) (hlo : celBase ≤ s.rd RAW_ADDR.ADDR)
    (hhi : s.rd RAW_ADDR.ADDR < celBase + s.mst.celGran * 65536) : s.rawAccess =
    if s.rdB RAW_CTL.WRITE then (s.wr RAW_CTL.GO 0).rawWriteCel (s.rd RAW_ADDR.ADDR / 64 * 64)
    else (s.wr RAW_CTL.GO 0).rawReadCel (s.rd RAW_ADDR.ADDR / 64 * 64) := by
  simp [rawAccess_eq, h, ht, hlo, hhi]

theorem rawAccess_spad (ht : s.rd RAW_CTL.TARGET = 2) (ha : s.rd RAW_ADDR.ADDR < 0x4000000) : s.rawAccess =
    if s.rdB RAW_CTL.WRITE then (s.wr RAW_CTL.GO 0).rawWriteSpad (spadBase + s.rd RAW_ADDR.ADDR / 8 * 8)
    else (s.wr RAW_CTL.GO 0).rawReadSpad (spadBase + s.rd RAW_ADDR.ADDR / 8 * 8) := by
  simp [rawAccess_eq, h, ht, ha]

end

/-! ### A raw write of a scratchpad word -/

theorem leBytes_length (n v : Nat) : (leBytes n v).length = n := by
  induction n generalizing v with
  | zero => rfl
  | succ n ih => rw [leBytes, List.length_cons, ih]

theorem leNat_leBytes (n v : Nat) : leNat (leBytes n v) = v % 256 ^ n := by
  induction n generalizing v with
  | zero => simp [leBytes, leNat, Nat.mod_one]
  | succ n ih =>
    rw [leBytes, leNat, ih, Nat.pow_succ', Nat.mod_mul, BitVec.toNat_ofNat]

theorem inject_maps (s : State) (point unit : Nat) : (s.inject point unit).2.mem = s.mem ∧ (s.inject point unit).2.tags = s.tags ∧
    (s.inject point unit).2.errs = s.errs := by
  unfold State.inject
  split <;> exact ⟨rfl, rfl, rfl⟩

theorem err_of_errs {s t : State} (h : t.errs = s.errs) (w : Nat) : t.err w = s.err w := by
  rw [State.err, h, State.err]

/-- A state with the bytes of another, one tag of it written, and no error changed but that of one word. -/
def tagWritten (s : State) (g : Nat) (b : Bool) (w : Nat) (t : State) : Prop :=
  t.mem = s.mem ∧ t.tags = mapPut tagDefault s.tags g b ∧ ∀ x, x ≠ w → t.err x = s.err x

/-- A scratchpad tag is written with its check bits alone (R340, R346). -/
theorem writeTag_spad {s : State} {g : Nat} (h : storeOf (16 * g) = .spad) (b : Bool) :
    tagWritten s g b (spadTagAt g).1 (s.writeTag g b) := by
  have hset (e : Err) : tagWritten s g b (spadTagAt g).1 ((s.setErr (spadTagAt g).1 e).setTag g b) :=
    ⟨rfl, rfl, fun x hx => (err_setErr s _ x e).trans (if_neg hx)⟩
  have hflip (u : State) (e : Err) (hu : tagWritten s g b (spadTagAt g).1 u) :
      tagWritten s g b (spadTagAt g).1 ((u.inject 0x17 ((16 * g - spadBase) / 0x400000)).2.setErr (spadTagAt g).1 e) := by
    obtain ⟨hmem, htags, herr⟩ := hu
    obtain ⟨im, it, ie⟩ := inject_maps u 0x17 ((16 * g - spadBase) / 0x400000)
    exact ⟨im.trans hmem, it.trans htags, fun x hx =>
      (err_setErr _ _ x _).trans ((if_neg hx).trans ((err_of_errs ie x).trans (herr x hx)))⟩
  simp only [State.writeTag, h]
  refine iteInduction (motive := tagWritten s g b (spadTagAt g).1) (fun _ => ?_) fun _ => hset _
  exact iteInduction (motive := tagWritten s g b (spadTagAt g).1) (fun _ => hflip _ _ (hset _)) fun _ => hset _

theorem rawByte_of_mem {s t : State} (h : t.mem = s.mem) (k : Nat) : t.rawByte k = s.rawByte k := by
  rw [State.rawByte, h, State.rawByte]

/-- Bytes that were stored read back as the list that they were. -/
theorem rawBytes_putBytes (l : List Byte) (s : State) (k : Nat) :
    (List.range l.length).map (fun i => (State.putBytes l k s).rawByte (k + i)) = l := by
  refine List.ext_getElem (by simp) fun i hi hl => ?_
  simp only [List.getElem_map, List.getElem_range]
  exact rawByte_putBytes_in l s k i hl

section
variable {a : Nat} (ha : a < 0x4000000)
include ha

theorem storeOf_spadWord : storeOf (16 * ((spadBase + a / 8 * 8) / 16)) = .spad := by
  have hlo : ¬ 16 * ((spadBase + a / 8 * 8) / 16) < celBase := by unfold spadBase celBase; omega
  have hmid : ¬ 16 * ((spadBase + a / 8 * 8) / 16) < spadBase := by unfold spadBase; omega
  have hhi : 16 * ((spadBase + a / 8 * 8) / 16) < pramBase := by unfold spadBase pramBase; omega
  rw [storeOf, if_neg hlo, if_neg hmid, if_pos hhi]

/-- The tag array of the scratchpads lies behind their words. -/
theorem spadTagAt_ne : (spadBase + a / 8 * 8) / 8 ≠ (spadTagAt ((spadBase + a / 8 * 8) / 16)).1 := by
  simp only [spadTagAt, spadTagBase, spadBase]
  omega

end

/-- A scratchpad word reads back as it was written, and its granule's tag is clear (R374). -/
theorem rawWriteSpad_reads {s : State} {a : Nat} (ha : a < 0x4000000) :
    let k := spadBase + a / 8 * 8
    let t := s.rawWriteSpad k
    BitVec.ofNat 64 (leNat ((List.range 8).map (fun i => t.rawByte (k + i)))) = s.reg (RAW_DATA.adr 0) ∧ t.tagAt (k / 16) = false ∧
      gridCheckWord (s.reg (RAW_DATA.adr 0)) ^^^ (t.err (k / 8)).c = (s.reg (RAW_CHECK.adr 0)).setWidth 48 := by
  intro k t
  obtain ⟨hmem, htags, herr⟩ := writeTag_spad (s := ((State.putBytes (leBytes 8 (s.reg (RAW_DATA.adr 0)).toNat) k s).setErr (k / 8)
    ⟨0, (s.reg (RAW_CHECK.adr 0)).setWidth 48 ^^^ gridCheckWord (s.reg (RAW_DATA.adr 0)), false⟩).dropResv k 8) (storeOf_spadWord ha) false
  refine ⟨?_, ?_, ?_⟩
  · have hbytes : (List.range 8).map (fun i => t.rawByte (k + i)) = leBytes 8 (s.reg (RAW_DATA.adr 0)).toNat := by
      have hback := rawBytes_putBytes (leBytes 8 (s.reg (RAW_DATA.adr 0)).toNat) s k
      rw [leBytes_length] at hback
      exact (List.map_congr_left fun i _ => rawByte_of_mem hmem (k + i)).trans hback
    rw [hbytes, leNat_leBytes]
    apply BitVec.eq_of_toNat_eq
    rw [BitVec.toNat_ofNat, Nat.mod_mod_of_dvd _ (by decide)]
    exact Nat.mod_eq_of_lt (s.reg (RAW_DATA.adr 0)).isLt
  · exact (congrArg (fun m => mapGet tagDefault m (k / 16)) htags).trans ((mapGet_put ..).trans (if_pos rfl))
  · have he : t.err (k / 8) = ⟨0, (s.reg (RAW_CHECK.adr 0)).setWidth 48 ^^^ gridCheckWord (s.reg (RAW_DATA.adr 0)), false⟩ :=
      (herr (k / 8) (spadTagAt_ne ha)).trans ((err_setErr _ _ _ _).trans (if_pos rfl))
    rw [he, BitVec.xor_comm (BitVec.setWidth 48 _), ← BitVec.xor_assoc, BitVec.xor_self, BitVec.zero_xor]

theorem injectionAndRawResults : Sys2Proof.Clauses.InjectionAndRawResults := by
  intro s point secure go a
  refine ⟨fun h => ?_, fun h hs => ?_, fun h hs hb => ?_, rfl, fun h => ?_, fun h ht => ?_, fun h ht ha => ?_, fun h ht hlo hhi => ?_,
    fun h ht ha _ _ => ⟨fun hw => ?_, fun hw => ?_⟩⟩
  · exact congrArg _ (arm_armed h)
  · exact congrArg _ (arm_refused h hs)
  · exact congrArg _ (arm_arms h hs hb)
  · exact congrArg _ (rawAccess_disabled h)
  · exact congrArg _ (rawAccess_reserved h ht)
  · exact congrArg _ (rawAccess_near h ht ha)
  · exact congrArg _ (rawAccess_cellar h ht hlo hhi)
  · rw [exec_rawAccess, rawAccess_spad h ht ha, hw]
    rfl
  · have hd : go.reg (RAW_DATA.adr 0) = s.reg (RAW_DATA.adr 0) := reg_wr_ne s 0 (by decide)
    have hc : go.reg (RAW_CHECK.adr 0) = s.reg (RAW_CHECK.adr 0) := reg_wr_ne s 0 (by decide)
    obtain ⟨hdata, htag, hcheck⟩ := rawWriteSpad_reads (s := go) ha
    rw [hd] at hdata
    rw [hd, hc] at hcheck
    refine ⟨_, ?_, hdata, fun _ => htag, hcheck⟩
    rw [exec_rawAccess, rawAccess_spad h ht ha, hw]
    rfl

/-- Settles O36: the upkeep of memory, scrubbing, the stream network, the tag caches, and injections with the raw window, each from the lemmas
of its commands. -/
theorem upkeepAndScrubResults : Obligations.UpkeepAndScrubResults :=
  ⟨upkeepResults, scrubResults, meshResults, tagCacheResults, injectionAndRawResults⟩

end Sys2Proof.Machine
end

section
/-! SUPPORT. Draining and live application of a structure image (R65 to R69). -/

namespace Sys2Proof.Machine

/-! ### One bit among others -/

theorem bitOf_zero (n i : Nat) : bitOf (0 : BitVec n) i = false := BitVec.getLsbD_zero

theorem bitOf_one_shiftLeft (n i j : Nat) : bitOf (1#n <<< i) j = (decide (i < n) && decide (i = j)) := by
  rw [bitOf, ← BitVec.twoPow_eq, BitVec.getLsbD_twoPow]

theorem bitOf_one_shiftLeft_self {n i : Nat} (h : i < n) : bitOf (1#n <<< i) i = true := by
  rw [bitOf_one_shiftLeft, decide_eq_true h, decide_eq_true rfl, Bool.and_self]

theorem bitOf_one_shiftLeft_ne {n i j : Nat} (h : j ≠ i) : bitOf (1#n <<< i) j = false := by
  rw [bitOf_one_shiftLeft, decide_eq_false h.symm, Bool.and_false]

/-- A bit that is set leaves the others. -/
theorem bitOf_setBitOf_true_ne {n i j : Nat} (v : BitVec n) (h : j ≠ i) : bitOf (setBitOf v i true) j = bitOf v j :=
  (BitVec.getLsbD_or ..).trans ((congrArg (v.getLsbD j || ·) (bitOf_one_shiftLeft_ne h)).trans (Bool.or_false _))

/-! ### A fold that one element alone moves -/

theorem foldl_fixed_mem {σ α : Type} {f : σ → α → σ} {s : σ} {l : List α} (h : ∀ q ∈ l, f s q = s) : l.foldl f s = s :=
  List.foldlRecOn (motive := (· = s)) l f rfl fun _ ht q hq => ht ▸ h q hq

/-- Where the elements beside one leave the state before it and the state after it, the fold is the step of that one. -/
theorem foldl_single {σ α : Type} {f : σ → α → σ} {s : σ} {l : List α} {p : α} (hp : p ∈ l) (hl : l.Nodup)
    (hbefore : ∀ q, q ≠ p → f s q = s) (hafter : ∀ q, q ≠ p → f (f s p) q = f s p) : l.foldl f s = f s p := by
  obtain ⟨a, b, rfl⟩ := List.append_of_mem hp
  have hne : ∀ q ∈ a ++ b, q ≠ p := fun q hq e => (List.nodup_middle.mp hl).notMem (e ▸ hq)
  calc (a ++ p :: b).foldl f s = b.foldl f (f (a.foldl f s) p) := by rw [List.foldl_append, List.foldl_cons]
    _ = b.foldl f (f s p) := by rw [foldl_fixed_mem fun q hq => hbefore q (hne q (List.mem_append_left b hq))]
    _ = f s p := foldl_fixed_mem fun q hq => hafter q (hne q (List.mem_append_right a hq))

/-! ### Drain requests (R65, R69, R420) -/

theorem exec_structDrainWrite (v : BitVec 16) (s : State) : exec (.structDrainWrite v) s = .next (s.drainWrite v) := rfl

/-- What a write of STRUCT_DRAIN does for one partition. -/
def State.drainBit (v : BitVec 16) (s : State) (p : PartId) : State :=
  if bitOf v p.val ∧ !bitOf (s.reg STRUCT_DRAIN.adr) p.val then
    (s.setReg STRUCT_DRAIN.adr (setBitOf (s.reg STRUCT_DRAIN.adr) p.val true)).fire (0x210 + p.val)
  else if bitOf v p.val then s.modSec (fun e => { e with undrain := setBitOf e.undrain p.val false })
  else if !bitOf (s.reg STRUCT_DRAIN.adr) p.val then s
  else if s.rd STRUCT_LIVE.STATE = 1 then s.modSec (fun e => { e with undrain := setBitOf e.undrain p.val true })
  else s.undrain p

theorem drainWrite_eq_foldl (s : State) (v : BitVec 16) : s.drainWrite v = (fins 16).foldl (State.drainBit v) s := rfl

section
variable {s : State} {v : BitVec 16} {p : PartId}

theorem drainBit_none (hv : bitOf v p.val = false) (hr : bitOf (s.reg STRUCT_DRAIN.adr) p.val = false) : s.drainBit v p = s := by
  simp [State.drainBit, hv, hr]

theorem drainBit_request (hv : bitOf v p.val = true) (hr : bitOf (s.reg STRUCT_DRAIN.adr) p.val = false) :
    s.drainBit v p = (s.setReg STRUCT_DRAIN.adr (setBitOf (s.reg STRUCT_DRAIN.adr) p.val true)).fire (0x210 + p.val) := by
  simp [State.drainBit, hv, hr]

theorem drainBit_clear (hv : bitOf v p.val = false) (hr : bitOf (s.reg STRUCT_DRAIN.adr) p.val = true)
    (hbusy : s.rd STRUCT_LIVE.STATE ≠ 1) : s.drainBit v p = s.undrain p := by
  simp [State.drainBit, hv, hr, hbusy]

/-- A write that asks for no drain, where none stands, changes nothing. -/
theorem drainWrite_none (hv : ∀ q : PartId, bitOf v q.val = false) (hr : ∀ q : PartId, bitOf (s.reg STRUCT_DRAIN.adr) q.val = false) :
    s.drainWrite v = s :=
  (drainWrite_eq_foldl s v).trans (foldl_fixed_mem fun q _ => drainBit_none (hv q) (hr q))

/-- A write that concerns one partition alone: no other is written to, none stands before and none after. -/
theorem drainWrite_single (hv : ∀ q : PartId, q ≠ p → bitOf v q.val = false)
    (hbefore : ∀ q : PartId, q ≠ p → bitOf (s.reg STRUCT_DRAIN.adr) q.val = false)
    (hafter : ∀ q : PartId, q ≠ p → bitOf ((s.drainBit v p).reg STRUCT_DRAIN.adr) q.val = false) : s.drainWrite v = s.drainBit v p :=
  (drainWrite_eq_foldl s v).trans (foldl_single (List.mem_finRange p) (List.nodup_finRange 16)
    (fun q h => drainBit_none (hv q h) (hbefore q h)) fun q h => drainBit_none (hv q h) (hafter q h))

/-- The first request: it stands, and its line fires. -/
theorem drainWrite_first_request (hr : s.reg STRUCT_DRAIN.adr = 0)
    (hfire : ((s.setReg STRUCT_DRAIN.adr (setBitOf (s.reg STRUCT_DRAIN.adr) p.val true)).fire (0x210 + p.val)).reg STRUCT_DRAIN.adr =
      setBitOf (s.reg STRUCT_DRAIN.adr) p.val true) :
    s.drainWrite (1#16 <<< p.val) =
      (s.setReg STRUCT_DRAIN.adr (setBitOf (s.reg STRUCT_DRAIN.adr) p.val true)).fire (0x210 + p.val) := by
  have hnone (q : Nat) : bitOf (s.reg STRUCT_DRAIN.adr) q = false := hr ▸ bitOf_zero 64 q
  have hstep := drainBit_request (s := s) (bitOf_one_shiftLeft_self p.isLt) (hnone p.val)
  refine (drainWrite_single (fun q h => bitOf_one_shiftLeft_ne (Fin.val_ne_of_ne h)) (fun q _ => hnone q.val) fun q h => ?_).trans hstep
  rw [hstep, hfire, bitOf_setBitOf_true_ne _ (Fin.val_ne_of_ne h)]
  exact hnone q.val

/-- The last request is withdrawn while no apply is busy. -/
theorem drainWrite_last_clear (hr : s.reg STRUCT_DRAIN.adr = 1 <<< p.val) (hbusy : s.rd STRUCT_LIVE.STATE ≠ 1)
    (hgone : (s.undrain p).reg STRUCT_DRAIN.adr = 0) : s.drainWrite 0 = s.undrain p := by
  have hset : bitOf (s.reg STRUCT_DRAIN.adr) p.val = true := by
    rw [hr]
    exact bitOf_one_shiftLeft_self (Nat.lt_trans p.isLt (by decide))
  have hstep := drainBit_clear (bitOf_zero 16 p.val) hset hbusy
  refine (drainWrite_single (fun q _ => bitOf_zero 16 q.val) (fun q h => ?_) fun q _ => ?_).trans hstep
  · rw [hr]
    exact bitOf_one_shiftLeft_ne (Fin.val_ne_of_ne h)
  · rw [hstep, hgone]
    exact bitOf_zero 64 q.val

/-! ### A drained partition (R65) -/

theorem partitionDrained_drains (hr : bitOf (s.reg STRUCT_DRAIN.adr) p.val = true) (hd : bitOf (s.reg STRUCT_DRAINED.adr) p.val = false)
    (hempty : s.drained p = true) (hrun : s.sec.sys = .run) :
    exec (.partitionDrained p) s = .next ((s.cpsOf p).foldl (fun (s : State) c => s.holdCp c)
      (s.setReg STRUCT_DRAINED.adr (setBitOf (s.reg STRUCT_DRAINED.adr) p.val true))) :=
  congrArg Host.Outcome.next (if_pos ⟨hr, by rw [hd]; rfl, hempty, hrun⟩)

theorem partitionDrained_waits (h : s.drained p = false) : exec (.partitionDrained p) s = .next s :=
  congrArg Host.Outcome.next (if_neg fun ⟨_, _, hempty, _⟩ => absurd hempty (by simp [h]))

end

/-! ### An APPLY (R66, R68) -/

section
variable {s : State}

theorem exec_structLiveApply (s : State) : exec (.structLiveApply 1) s = .next s.liveApply := rfl

theorem structLiveApply_reserved {cmd : BitVec 2} (h : cmd ≠ 1) : exec (.structLiveApply cmd) s = .next s :=
  congrArg Host.Outcome.next (if_neg h)

theorem liveApply_ignored (h : s.rd STRUCT_LIVE.STATE = 1 ∨ s.sec.sys ≠ .run) : s.liveApply = s := if_pos h

section
variable (hbusy : s.rd STRUCT_LIVE.STATE ≠ 1) (hrun : s.sec.sys = .run)
include hbusy hrun

theorem not_apply_ignored : ¬ (s.rd STRUCT_LIVE.STATE = 1 ∨ s.sec.sys ≠ .run) := by
  rintro (h | h)
  · exact hbusy h
  · exact h hrun

/-- A Standby refuses with 0x26. -/
theorem liveApply_standby (hrole : s.rd PAIR_STAT.ROLE = 2) : s.liveApply = s.liveEnd 3 0x26 := by
  rw [State.liveApply, if_neg (not_apply_ignored hbusy hrun), if_pos hrole]

variable (hrole : s.rd PAIR_STAT.ROLE ≠ 2)
include hrole

theorem liveApply_refused (hcode : (s.liveRefusal (s.imgAt 0x0C000000) true).1 ≠ 0) :
    s.liveApply = (s.liveRefusal (s.imgAt 0x0C000000) true).2.liveEnd 3 (s.liveRefusal (s.imgAt 0x0C000000) true).1 := by
  rw [State.liveApply, if_neg (not_apply_ignored hbusy hrun), if_neg hrole]
  exact if_pos hcode

theorem liveApply_begins (hcode : (s.liveRefusal (s.imgAt 0x0C000000) true).1 = 0) :
    s.liveApply = (((s.liveRefusal (s.imgAt 0x0C000000) true).2.wr STRUCT_LIVE.STATE 1).wr STRUCT_LIVE.RESULT 0).modSec
      (fun e => { e with live := some (s.imgAt 0x0C000000, (s.liveRefusal (s.imgAt 0x0C000000) true).2.lowerSlot) }) := by
  rw [State.liveApply, if_neg (not_apply_ignored hbusy hrun), if_neg hrole]
  exact if_neg (not_not.mpr hcode)

end

/-! ### The slot is written (R67, R68) -/

theorem exec_liveApplyFlashDone (ok : Bool) (s : State) : exec (.liveApplyFlashDone ok) s = execLiveApplyFlashDone ok s := rfl

/-- The write of a slot leaves the registers, and with them whether a partner is in sync. -/
theorem paired_writeSlot (s : State) (slot : Nat) (img : List Byte) : (s.writeSlot slot img).paired = s.paired := rfl

theorem liveApplyFlashDone_idle (h : s.sec.live = none) (ok : Bool) : exec (.liveApplyFlashDone ok) s = .next s := by
  simp only [exec_liveApplyFlashDone, execLiveApplyFlashDone, h]

section
variable {img : List Byte} {slot : Nat} (hlive : s.sec.live = some (img, slot)) (hpair : s.pair.apply = none)
include hlive hpair

theorem liveApplyFlashDone_failed :
    exec (.liveApplyFlashDone false) s = .next (((s.writeSlot slot []).cnt FLASH_STAT.PROG_ERR 1).liveEnd 3 0x25) := by
  simp [exec_liveApplyFlashDone, execLiveApplyFlashDone, hlive, hpair]

/-- Without a partner in sync the image is put in force at once. -/
theorem liveApplyFlashDone_alone (h : s.paired = false) :
    exec (.liveApplyFlashDone true) s = .next (s.writeSlot slot img).applyLive := by
  simp [exec_liveApplyFlashDone, execLiveApplyFlashDone, hlive, hpair, paired_writeSlot, h]

/-- With a partner in sync the image waits for its checkpoint or compare. -/
theorem liveApplyFlashDone_paired (h : s.paired = true) :
    exec (.liveApplyFlashDone true) s =
      .next { s.writeSlot slot img with pair := { (s.writeSlot slot img).pair with apply := some 0 } } := by
  simp [exec_liveApplyFlashDone, execLiveApplyFlashDone, hlive, hpair, paired_writeSlot, h]

end

end

/-- Settles O47: a fold over the partitions that one of them alone moves, for the drain requests, and the branches of an APPLY and of the
end of its write. -/
theorem structureResults : Obligations.StructureResults := by
  intro s p cmd img slot bit
  refine ⟨fun hr hfire => ?_, fun hr => ?_, fun hr hbusy hgone => ?_, partitionDrained_drains, partitionDrained_waits, structLiveApply_reserved,
    fun h => ?_, fun hbusy hrun hrole => ?_, fun hbusy hrun hrole => ⟨fun hcode => ?_, fun hcode => ?_⟩,
    fun hlive hpair => ⟨liveApplyFlashDone_failed hlive hpair, liveApplyFlashDone_alone hlive hpair, liveApplyFlashDone_paired hlive hpair⟩,
    liveApplyFlashDone_idle⟩
  · rw [exec_structDrainWrite, drainWrite_first_request hr hfire]
  · rw [exec_structDrainWrite, drainWrite_none (bitOf_zero 16 ·.val) (hr ▸ bitOf_zero 64 ·.val)]
  · rw [exec_structDrainWrite, drainWrite_last_clear hr hbusy hgone]
  · rw [exec_structLiveApply, liveApply_ignored h]
  · rw [exec_structLiveApply, liveApply_standby hbusy hrun hrole]
  · rw [exec_structLiveApply, liveApply_refused hbusy hrun hrole hcode]
  · rw [exec_structLiveApply, liveApply_begins hbusy hrun hrole hcode]

end Sys2Proof.Machine
end

section
/-! SUPPORT. A fetch that rolls its CP back: the Program RAM word of the instruction holds a correctable error, whose bucket event asks for the
CP checkpoints of the partition (R366, R421), and the state-signature compare of such a checkpoint differs, so that the CP goes back to its last
checkpoint, its program counter with it (R521). The instruction that was being fetched is then decoded at another program counter. -/

namespace Sys2Proof.Machine

/-! ### Decoding a scalar instruction -/

theorem eq_of_fst {α β : Type} {x : α × β} {a : α} (h : x.1 = a) : x = (a, x.2) := Prod.ext h rfl

theorem decodeFault_reserved (s : State) (c : CpId) {i : Insn} (hr : i.rsv = true) (hv : i.vop = none) :
    s.decodeFault c i = (some (cReserved, i.info), s) := by
  simp [State.decodeFault, hr, hv]

theorem decodeFault_allowed {s : State} {c : CpId} {i : Insn} (ha : (s.cp c).allowed i) (hv : i.vop = none) :
    s.decodeFault c i = (none, s) := by
  obtain ⟨hr, hi, hctl, hend⟩ := ha
  have hc : ((s.cp c).a.delay.isSome && i.ctl) = false := by
    cases h : i.ctl
    · simp
    · simp [hctl h]
  simpa [State.decodeFault, hr, hi, hv, hc] using hend

/-- After a fetch of its parcels the cause of an instruction is that of its decoding. -/
theorem fetch_of_reads {s f : State} {c : CpId} {i : Insn} (h : s.reads c i f) : (s.atInsn c).fetch c i = f.decodeFault c i := by
  have h' : (s.atInsn c).fetchFault c (s.cp c).a.pc.toNat i.len = (none, f) := h
  simp [State.fetch, h']

/-- A reserved encoding traps with the program counter that stood before its fetch (R111, R389). -/
theorem runInsn_reserved {s f : State} {c0 c : CpId} {i : Insn} (ht : s.turn c0 c) (hb : s.noBreak c i) (hf : s.reads c i f)
    (hr : i.rsv = true) (hv : i.vop = none) (body : State → CpId → Flow) :
    s.runInsn c0 i body = (f.raise c cReserved i.info (s.pc c)).boundary c :=
  runInsn_faults ht hb ((fetch_of_reads hf).trans (decodeFault_reserved f c hr hv)) body

/-- A CP that has fetched and decoded an instruction without a cause executes its body, whatever stood before the fetch. -/
theorem runInsn_fetched {s f : State} {c0 c : CpId} {i : Insn} (ht : s.turn c0 c) (hb : s.noBreak c i) (hf : s.fetches c i f)
    (hfree : (s.cp c).free i) (body : State → CpId → Flow) : s.runInsn c0 i body = f.finish c i (body f c) := by
  obtain ⟨hl, hg, hi, hc, hq⟩ := ht
  obtain ⟨hgs, hfs⟩ := hfree
  have hgo : (s.cpsGo || s.lockGo c) = true := by simpa using hg
  have hany1 : i.gs.any (fun n => (s.cp c).vq.writesG n) = false := by simpa [List.any_eq_false] using hgs
  have hany2 : i.fs.any (fun n => (s.cp c).vq.writesF n) = false := by simpa [List.any_eq_false] using hfs
  have hb' : (s.modCp c (fun p => { p with entryWin := none })).breaks c i = (none, []) := breaks_none hb
  have hf' : (s.modCp c (fun p => { p with entryWin := none })).fetch c i = (none, f) := hf
  unfold State.runInsn
  simp [hl, hgo, hi, hc, hq, hb', hf', hany1, hany2]

/-! ### The state before and after such a fetch -/

/-- The last checkpoint of CP 0: it is at parcel 0, and K3 holds a frame in the scratchpad of cluster 0, which XFRAME names. -/
def checkpointed : CpArch :=
  { CpArch.reset with
    k := CpArch.reset.k.set 3 (mkCap (spadWin + 0x1000) (2 ^ permW + 2 ^ permStoreCap) 0 41 0 0x8000 true)
    xframe := 0x13 }

/-- Partition 0: cluster 0 in Lockstep. -/
def lockstepPart : PartRec :=
  { mask := 1, lockstep := true, shadow := false, det := false, ct := false, il := 0, hash := 0, rootTr := false, rootPn := false,
    rootCt := false, progMib := 0, entry := 0, nearReserve := 0, nearLimit := 0, celReserve := 0, celLimit := 0 }

/-- CP 0 since its checkpoint: it stands at parcel 4, in a delay slot. -/
def slotCp : Cp :=
  { Cp.reset with run := .running, skipBp := true, a := { checkpointed with pc := 4, delay := some (0, 0) }, ckpt := some checkpointed }

/-- Program word 1 spells 0x0F06 first, a reserved encoding (R91), and one of its check bits is wrong; bucket 0 overflows at one event and its line
asks for the checkpoints of partition 0; INJ_LSTEP of cluster 0 is armed. -/
def beforeMismatch : State :=
  { State.reset with
    csr := (((State.reset.wr INJ_STAT.ARMED 1).wr INJ_SEL.POINT 0x28).wr (BKT_CFG.THRESH 0) 1).csr
    mem := [(pramBase + 8, 0x06), (pramBase + 9, 0x0F)]
    errs := [((pramBase + 8) / 8, ⟨0, 1, false⟩)]
    evt := { EvtSt.reset with on := [(EVT_SEL.adr 0x2050, 0x1E0)], dark := false }
    sec := { SecSt.reset with sys := .run }
    parts := State.reset.parts.set 0 { Part.reset with rcd := some lockstepPart }
    cps := State.reset.cps.set 0 slotCp }

/-- The state after the fetch of n parcels at parcel 4. -/
def afterMismatch (n : Nat) : State := ((beforeMismatch.atInsn 0).fetchFault 0 4 n).2

theorem turn_beforeMismatch : beforeMismatch.turn 0 0 := by
  unfold State.turn
  decide +kernel

theorem noBreak_beforeMismatch (i : Insn) : beforeMismatch.noBreak 0 i := .inl rfl

theorem pc_beforeMismatch : beforeMismatch.pc 0 = 4 := by decide +kernel

theorem reads_beforeMismatch {i : Insn} (h : i.len = 1 ∨ i.len = 2) : beforeMismatch.reads 0 i (afterMismatch i.len) := by
  have hn : ∀ n ∈ [1, 2], ((beforeMismatch.atInsn 0).fetchFault 0 4 n).1 = none := by decide +kernel
  unfold State.reads
  rw [pc_beforeMismatch]
  exact eq_of_fst (hn _ (by simpa using h))

/-- A trap of the instruction at parcel 4 names parcel 4, and one at parcel 0, where CP 0 now stands, names parcel 0. -/
theorem xpc_afterMismatch : ∀ x ∈ [(1, (mkInsn 1 0xF06 false false [] []).info), (2, (iRRR 0 0 0 0 1).info)], ∀ pc ∈ [0, 4],
    ((((afterMismatch x.1).raise 0 cReserved x.2 pc).boundary 0).cp 0).a.xpc = BitVec.ofNat 24 pc := by decide +kernel

/-- What the statements name as the exception of a reserved encoding is not what CP 0 takes after the fetch. -/
theorem trapped_afterMismatch_ne {x : Nat × Word} (hx : x ∈ [(1, (mkInsn 1 0xF06 false false [] []).info), (2, (iRRR 0 0 0 0 1).info)]) :
    ((afterMismatch x.1).raise 0 cReserved x.2 (beforeMismatch.pc 0)).boundary 0 ≠ (afterMismatch x.1).trapped 0 cReserved x.2 := by
  have hpc : (afterMismatch x.1).pc 0 = 0 := by
    have h : ∀ n ∈ [1, 2], (afterMismatch n).pc 0 = 0 := by decide +kernel
    refine h _ ?_
    simp only [List.mem_cons, List.not_mem_nil, or_false] at hx
    obtain rfl | rfl := hx <;> simp
  rw [State.trapped, hpc, pc_beforeMismatch]
  intro h
  have h4 := xpc_afterMismatch x hx 4 (by simp)
  have h0 := xpc_afterMismatch x hx 0 (by simp)
  rw [h, h0] at h4
  exact absurd h4 (by decide)

/-! ### The statements that the fetch refutes -/

/-- Refutes O3: ADD3 with a reserved field at parcel 4, whose fetch takes the CP back to parcel 0; the exception names parcel 4. -/
theorem not_reservedFieldTraps : ¬ Obligations.ReservedFieldTraps := by
  unfold Obligations.ReservedFieldTraps
  intro h
  obtain ⟨hadd, -⟩ := h beforeMismatch (afterMismatch 2) 0 0 0 0 0 1 0 0 0 0 0
  have hread : ∀ i : Insn, i.len = 2 → beforeMismatch.reads 0 i (afterMismatch 2) := fun i hi => hi ▸ reads_beforeMismatch (.inr hi)
  have hclaim := hadd (by decide) (0, .add3 0 0 0 0 1) (by simp) turn_beforeMismatch (noBreak_beforeMismatch _) (hread _ rfl)
    (fun _ hv => nomatch hv)
  have hrun := runInsn_reserved (i := (iRRR 0 0 0 0 1).zero 1) turn_beforeMismatch (noBreak_beforeMismatch _) (hread _ rfl) rfl rfl
    (fun st c => aluTo st c 0 (fun a => a.flagsAdd a.g[0] a.g[0] false))
  have hsame := (congrArg Host.Outcome.next hrun).symm.trans hclaim
  exact trapped_afterMismatch_ne (x := (2, (iRRR 0 0 0 0 1).info)) (by simp) (Host.Outcome.next.inj hsame)

/-- A program whose parcels spell no instruction traps as a reserved encoding (R111). -/
theorem runProgram_reserved {s : State} {c0 c : CpId} {x : BitVec 14} {w : Nat} (hl : s.lead c0 = c) (hx : s.parcel c (s.pc c) = some x)
    (hw : s.parcels c (s.pc c) (parcelLen x) 0 = some w) (hd : decodeInsn c (parcelLen x) w = none) :
    s.runProgram c0 = .next (s.runReserved c (parcelLen x) w) := by
  simp [State.runProgram, State.nextInsn, hl, hx, hw, hd]

/-- Refutes O54: the parcel at parcel 4 spells nothing, and its fetch takes the CP back to parcel 0; the exception names parcel 4. -/
theorem not_instructionsDecode : ¬ Obligations.InstructionsDecode := by
  unfold Obligations.InstructionsDecode
  intro ⟨_, hprog⟩
  have hlead : beforeMismatch.lead 0 = 0 := turn_beforeMismatch.1
  have hx : beforeMismatch.parcel 0 (beforeMismatch.pc 0) = some 0xF06 := by decide +kernel
  have hw : beforeMismatch.parcels 0 (beforeMismatch.pc 0) (parcelLen 0xF06) 0 = some 0xF06 := by decide +kernel
  have hnone : decodeInsn 0 (parcelLen 0xF06) 0xF06 = none := rfl
  have hread : ∀ i : Insn, i.len = 1 → beforeMismatch.reads 0 i (afterMismatch 1) := fun i hi => hi ▸ reads_beforeMismatch (.inl hi)
  obtain ⟨-, hclaim⟩ := hprog beforeMismatch 0 0 0xF06 0xF06 hlead hx hw
  have htrap := hclaim hnone turn_beforeMismatch (noBreak_beforeMismatch _) (afterMismatch 1) (hread _ rfl) (fun h => absurd h (by decide))
  rw [runProgram_reserved hlead hx hw hnone] at htrap
  have hrun := runInsn_reserved (i := { mkInsn 1 0xF06 false false [] [] with rsv := true }) turn_beforeMismatch (noBreak_beforeMismatch _)
    (hread _ rfl) rfl rfl (fun s _ => .next s)
  have hsame := (congrArg Host.Outcome.next hrun).symm.trans htrap
  exact trapped_afterMismatch_ne (x := (1, (mkInsn 1 0xF06 false false [] []).info)) (by simp) (Host.Outcome.next.inj hsame)

/-- An instruction that may not stand in a delay slot is carried out at parcel 4, a delay slot: after the fetch CP 0 stands at parcel 0. -/
theorem slot_runs_afterMismatch (body : State → CpId → Flow) :
    beforeMismatch.runInsn 0 (mkInsn 1 0 true false [] []) body =
      (afterMismatch 1).finish 0 (mkInsn 1 0 true false [] []) (body (afterMismatch 1) 0) := by
  have hok : ((afterMismatch 1).cp 0).allowed (mkInsn 1 0 true false [] []) := by
    unfold Cp.allowed
    decide +kernel
  refine runInsn_fetched turn_beforeMismatch (noBreak_beforeMismatch _) ?_ (by simp [Cp.free, mkInsn]) body
  exact (fetch_of_reads (reads_beforeMismatch (.inl rfl))).trans (decodeFault_allowed hok rfl)

theorem boundary_reset (n : Nat) (c : CpId) : ({ State.reset with now := n } : State).boundary c = { State.reset with now := n } := by
  have h : (({ State.reset with now := n } : State).cp c).run ≠ .running := by
    rw [show ({ State.reset with now := n } : State).cp c = Cp.reset from State.reset_cp c]
    decide
  simp [State.boundary, h]

/-- Refutes O8: a branch in the delay slot at parcel 4, whose fetch takes the CP back to a checkpoint outside the slot, is carried out. -/
theorem not_instructionBoundary : ¬ Obligations.InstructionBoundary := by
  intro ⟨_, _, _, _, hill⟩
  have hslot : ¬ (beforeMismatch.cp 0).allowed (mkInsn 1 0 true false [] []) := by
    unfold Cp.allowed
    decide +kernel
  have hbegins : beforeMismatch.begins 0 0 (mkInsn 1 0 true false [] []) (afterMismatch 1) :=
    ⟨turn_beforeMismatch, noBreak_beforeMismatch _, reads_beforeMismatch (.inl rfl), fun _ h => nomatch h⟩
  have htrap := fun n => (hill _ _ 0 0 _ (fun _ _ => .done { State.reset with now := n }) hbegins).2 rfl hslot
  have hrun := fun n => slot_runs_afterMismatch (fun _ _ => .done { State.reset with now := n })
  have hsame : ({ State.reset with now := 0 } : State) = { State.reset with now := 1 } := by
    rw [← boundary_reset 0 0, ← boundary_reset 1 0]
    exact ((hrun 0).symm.trans (htrap 0)).trans ((htrap 1).symm.trans (hrun 1))
  exact absurd (congrArg State.now hsame) (by decide)

end Sys2Proof.Machine
end

section
/-! SUPPORT. What an instruction that starts does, by what its body answers: it goes on, jumps, takes a .D branch, traps, waits or has set the
flow itself (R101 to R104, R389). Every result of a CP instruction below is one of these rules and the body's own value. -/

namespace Sys2Proof.Machine

section
variable {s f t : State} {c0 c : CpId} {i : Insn} {x : Instr} {body : State → CpId → Flow} {n : Nat}

theorem calm_of_starts (h : s.starts c0 c i f) : (f.cp c).calm := by
  obtain ⟨-, -, -, -, -, hc⟩ := h
  exact hc

theorem exec_starts (h : s.starts c0 c i f) (hx : exec x s = .next (s.runInsn c0 i body)) : exec x s = .next (f.finish c i (body f c)) :=
  hx.trans (congrArg Host.Outcome.next (runInsn_starts h body))

/-- An update that agrees on the registers of the CP leaves the same state. -/
theorem ran_congr {u v : CpArch → CpArch} (h : u (f.cp c).a = v (f.cp c).a) : f.ran c n u = f.ran c n v :=
  modCp_congr f c _ _ (by simp only [h])

theorem ran_modA (f : State) (c : CpId) (n : Nat) (u v : CpArch → CpArch) : (f.modA c u).ran c n v = f.ran c n (fun a => v (u a)) := by
  simp only [State.modA, State.ran, modCp_modCp]

/-- The body goes on in another state. -/
theorem exec_next (h : s.starts c0 c i f) (hx : exec x s = .next (s.runInsn c0 i body)) (hn : i.len = n) (hb : body f c = .next t)
    (hc : (t.cp c).calm) : exec x s = .next (t.ran c n id) := by
  rw [exec_starts h hx, hb, finish_next f t c i hc, hn]
  rfl

/-- The body changes architectural registers alone, from another state. -/
theorem exec_next_modA {v : CpArch → CpArch} (h : s.starts c0 c i f) (hx : exec x s = .next (s.runInsn c0 i body)) (hn : i.len = n)
    (hb : body f c = .next (t.modA c v)) (hc : (t.cp c).calm) : exec x s = .next (t.ran c n v) := by
  rw [exec_next h hx hn hb (by rw [cp_modA]; exact hc), ran_modA]
  rfl

/-- The body changes architectural registers alone. -/
theorem exec_modA {u v : CpArch → CpArch} (h : s.starts c0 c i f) (hx : exec x s = .next (s.runInsn c0 i body)) (hn : i.len = n)
    (hb : body f c = .next (f.modA c v)) (hv : v (f.cp c).a = u (f.cp c).a) : exec x s = .next (f.ran c n u) := by
  rw [exec_next_modA h hx hn hb (calm_of_starts h), ran_congr hv]

/-- The body traps without an effect. -/
theorem exec_trap {code : Nat} {info : Word} (h : s.starts c0 c i f) (hx : exec x s = .next (s.runInsn c0 i body))
    (hb : body f c = .trap f code info false) : exec x s = .next (f.trapped c code info) := by
  rw [exec_starts h hx, hb]
  rfl

end

/-! ### Values of the flag computations -/

@[simp] theorem flagsAdd_fst_false (a : CpArch) (x y : Word) : (a.flagsAdd x y false).1 = x + y := BitVec.add_zero (x + y)

@[simp] theorem flagsSub_fst_false (a : CpArch) (x y : Word) : (a.flagsSub x y false).1 = x - y := BitVec.sub_zero (x - y)

end Sys2Proof.Machine
end

section
/-! SUPPORT. The register, unary, three-register and immediate forms (R91 to R100). -/

namespace Sys2Proof.Machine

/-- Each body is one change of the registers; ADD, SUB and CMP compute with no carry-in. -/
theorem registerFormResults : Sys2Proof.Clauses.RegisterFormResults := by
  intro s f c0 c d r
  exact ⟨fun h => exec_modA h rfl rfl rfl rfl, fun h => exec_modA h rfl rfl rfl (by simp), fun h => exec_modA h rfl rfl rfl (by simp),
    fun h => exec_modA h rfl rfl rfl rfl, fun h => exec_modA h rfl rfl rfl rfl, fun h => exec_modA h rfl rfl rfl rfl,
    fun h => exec_modA h rfl rfl rfl rfl, fun h => exec_modA h rfl rfl rfl rfl, fun h => exec_modA h rfl rfl rfl rfl,
    fun h => exec_modA h rfl rfl rfl rfl, fun h => exec_modA h rfl rfl rfl rfl, fun h => exec_modA h rfl rfl rfl rfl,
    fun h => exec_modA h rfl rfl rfl rfl, fun h => exec_modA h rfl rfl rfl rfl⟩

/-- NEG subtracts from 0; the others set what they compute. -/
theorem unaryFormResults : Sys2Proof.Clauses.UnaryFormResults := by
  intro s f c0 c r
  exact ⟨fun h => exec_modA h rfl rfl rfl rfl, fun h => exec_modA h rfl rfl rfl (by simp), fun h => exec_modA h rfl rfl rfl rfl,
    fun h => exec_modA h rfl rfl rfl rfl, fun h => exec_modA h rfl rfl rfl rfl, fun h => exec_modA h rfl rfl rfl rfl,
    fun h => exec_modA h rfl rfl rfl rfl, fun h => exec_modA h rfl rfl rfl rfl, fun h => exec_modA h rfl rfl rfl rfl,
    fun h => exec_modA h rfl rfl rfl rfl, fun h => exec_next h rfl rfl rfl (calm_of_starts h)⟩

/-- Settles O1: every form is one change of the registers, retired with no debug event. -/
theorem registerAndUnaryResults : Obligations.RegisterAndUnaryResults := ⟨registerFormResults, unaryFormResults⟩

/-! ### Forms with a reserved field at zero -/

/-- A reserved field that is zero reserves nothing (R111). -/
theorem zero_of_eq {i : Insn} {n : Nat} (h : n = 0) : i.zero n = i := by simp [Insn.zero, Insn.reserve, h]

theorem reserve_false (i : Insn) : i.reserve false = i := by simp [Insn.reserve]

/-- An instruction whose fields reserve nothing runs as its form. -/
theorem exec_of_insn {x : Instr} {s : State} {c0 : CpId} {i j : Insn} {body : State → CpId → Flow} (h : exec x s = .next (s.runInsn c0 j body))
    (hij : j = i) : exec x s = .next (s.runInsn c0 i body) := hij ▸ h

theorem low_six (fn : BitVec 8) : nbits fn.toNat 0 6 = fn.toNat % 64 := by simp [nbits]

/-- IDSTEP reserves equal state registers and a count of 0 or above 32 (R268). -/
theorem idstep_defined {d b : Reg} {fn : BitVec 8} (hd : d ≠ b) (h0 : 0 < fn.toNat % 64) (h32 : fn.toNat % 64 ≤ 32) :
    (d == b || nbits fn.toNat 0 6 == 0 || decide (32 < nbits fn.toNat 0 6)) = false := by
  simp [low_six, hd]
  omega

/-- The forms with fn at zero, and those whose fn selects: UNPK, DADD, DSUB and IDSTEP. -/
theorem threeRegisterResults : Sys2Proof.Clauses.ThreeRegisterResults := by
  intro s f c0 c d a b
  refine ⟨fun h => exec_modA h rfl rfl rfl (by simp), fun h => exec_modA h rfl rfl rfl (by simp), fun h => exec_modA h rfl rfl rfl rfl,
    fun h => exec_modA h rfl rfl rfl rfl, fun h => exec_modA h rfl rfl rfl rfl, fun h => exec_modA h rfl rfl rfl rfl,
    fun h => exec_modA h rfl rfl rfl rfl, fun h => exec_modA h rfl rfl rfl rfl, fun h => exec_modA h rfl rfl rfl rfl,
    fun h => exec_modA h rfl rfl rfl rfl, fun h => exec_modA h rfl rfl rfl rfl, fun h => exec_modA h rfl rfl rfl rfl, ?_, ?_, ?_, ?_⟩
  · exact fun fn hfn h => exec_modA h (exec_of_insn rfl (zero_of_eq (Nat.div_eq_of_lt hfn))) rfl rfl rfl
  · exact fun fn hfn h => exec_modA h (exec_of_insn rfl (zero_of_eq (Nat.div_eq_of_lt hfn))) rfl rfl rfl
  · exact fun fn hfn h => exec_modA h (exec_of_insn rfl (zero_of_eq (Nat.div_eq_of_lt hfn))) rfl rfl rfl
  · intro fn hdb h0 h32 h
    refine exec_modA h (exec_of_insn rfl ?_) rfl rfl ?_
    · rw [idstep_defined hdb h0 h32, reserve_false]
    · simp only [low_six, State.g]

theorem f64_low_six (imm : BitVec 32) : f64 (imm.setWidth 6) = ⟨imm.toNat % 64, by omega⟩ := by simp [f64]

/-- MOVHI32 puts the immediate above the low half of its register. -/
theorem movhi32_value (x : Word) (imm : BitVec 32) : (x &&& ((0xFFFFFFFF : Nat) : Word)) ||| (zextW imm <<< 32) = imm ++ x.setWidth 32 := by
  have hmask : ((0xFFFFFFFF : Nat) : Word) = lowMask 32 := rfl
  rw [hmask]
  apply BitVec.eq_of_getLsbD_eq
  intro i hi
  simp only [zextW, BitVec.getLsbD_or, BitVec.getLsbD_and, lowMask_getLsbD, BitVec.getLsbD_shiftLeft, BitVec.getLsbD_append,
    BitVec.getLsbD_setWidth]
  by_cases hlow : i < 32
  · simp [hlow, hi]
  · have hlow' : i - 32 < 64 := by omega
    simp [hlow, hlow', hi]

theorem immediateResults : Sys2Proof.Clauses.ImmediateResults := by
  intro s f c0 c d a
  refine ⟨fun imm => ⟨fun h => exec_modA h rfl rfl rfl (by simp [sextW]), fun h => exec_modA h rfl rfl rfl rfl,
      fun h => exec_modA h rfl rfl rfl rfl, fun h => exec_modA h rfl rfl rfl rfl, fun h => exec_modA h rfl rfl rfl rfl,
      fun h => exec_modA h rfl rfl rfl rfl⟩,
    fun amt => ⟨fun h => exec_modA h rfl rfl rfl rfl, fun h => exec_modA h rfl rfl rfl rfl, fun h => exec_modA h rfl rfl rfl rfl,
      fun h => exec_modA h rfl rfl rfl rfl⟩,
    fun imm => ⟨fun h => exec_modA h rfl rfl rfl rfl, fun h => exec_modA h rfl rfl rfl ?_,
      fun h => exec_modA h rfl rfl rfl (by simp [sextW]), fun h => exec_modA h rfl rfl rfl rfl, fun h => exec_modA h rfl rfl rfl rfl,
      fun h => exec_modA h rfl rfl rfl rfl, fun h => exec_modA h rfl rfl rfl rfl, fun h => exec_modA h rfl rfl rfl ?_,
      fun h => exec_modA h rfl rfl rfl ?_⟩⟩
  · exact congrArg ((f.cp c).a.setG d) (movhi32_value _ imm)
  · simp only [f64_low_six, State.g]
  · simp only [f64_low_six, State.f]

/-- Settles O2: every form is one change of the registers; a reserved field at zero reserves nothing. -/
theorem threeRegisterAndImmediateResults : Obligations.ThreeRegisterAndImmediateResults := ⟨threeRegisterResults, immediateResults⟩

end Sys2Proof.Machine
end

section
/-! SUPPORT. Branches, LOOP and TRAP (R101 to R104, R388), and the bit space (R88, R89). -/

namespace Sys2Proof.Machine

section
variable {s f t : State} {c0 c : CpId} {i : Insn} {x : Instr} {body : State → CpId → Flow} {n tgt : Nat}

/-- The body jumps from another state. -/
theorem exec_jump (h : s.starts c0 c i f) (hx : exec x s = .next (s.runInsn c0 i body)) (hn : i.len = n) (hb : body f c = .jump t tgt)
    (hc : (t.cp c).calm) : exec x s = .next (t.ranTo c n tgt id) := by
  rw [exec_starts h hx, hb, finish_jump f t c i tgt hc, hn]
  rfl

/-- The body changes architectural registers and jumps. -/
theorem exec_jump_modA {v : CpArch → CpArch} (h : s.starts c0 c i f) (hx : exec x s = .next (s.runInsn c0 i body)) (hn : i.len = n)
    (hb : body f c = .jump (f.modA c v) tgt) : exec x s = .next (f.ranTo c n tgt v) := by
  rw [exec_starts h hx, hb, finish_jump_modA f c i tgt v (calm_of_starts h), hn]

/-- The body takes a .D branch, or passes it. -/
theorem exec_delayed {tgt : Option Nat} (h : s.starts c0 c i f) (hx : exec x s = .next (s.runInsn c0 i body)) (hn : i.len = n)
    (hb : body f c = .delayed t tgt) : exec x s = .next (t.ranDelayed c n tgt id) := by
  rw [exec_starts h hx, hb, ← hn]
  rfl

end

/-- The program space of a CP does not depend on its G registers. -/
theorem parcel_setG (f : State) (c : CpId) (d : Reg) (v : Word) (pa : Nat) : (f.setG c d v).parcel c pa = f.parcel c pa := by
  have hcp : (f.setG c d v).cp c = { (f.cp c) with a := (f.cp c).a.setG d v } := cp_modA ..
  have hpeek : (f.setG c d v).peekWord c (pa / 4) = f.peekWord c (pa / 4) := by
    unfold State.peekWord
    rw [hcp]
    rfl
  have hpresent : (f.setG c d v).wordPresent c (pa / 4) = f.wordPresent c (pa / 4) := rfl
  rw [State.parcel, State.parcel, hpeek, hpresent]

/-- A delayed CALL: its link register is written first. -/
theorem ranDelayed_setG (f : State) (c : CpId) (n : Nat) (tgt : Option Nat) (d : Reg) (v : Word) :
    (f.setG c d v).ranDelayed c n tgt id = f.ranDelayed c n tgt (fun a => a.setG d v) := by
  have hpc : (f.setG c d v).pc c = f.pc c := by simp [State.pc, State.setG, CpArch.setG]
  simp only [State.ranDelayed, parcel_setG, hpc]
  simp only [State.setG, State.modA, modCp_modCp, id]

theorem branchResults : Sys2Proof.Clauses.BranchResults := by
  intro s f c0 c disp d a b imm
  refine ⟨fun h => exec_jump h rfl rfl rfl (calm_of_starts h), fun h => exec_delayed h rfl rfl rfl,
    fun h => exec_jump_modA h rfl rfl rfl, fun h => (exec_delayed h rfl rfl rfl).trans (congrArg _ (ranDelayed_setG ..)),
    fun h => exec_jump h rfl rfl rfl (calm_of_starts h), fun h => exec_delayed h rfl rfl rfl,
    fun h => exec_jump_modA h rfl rfl rfl, fun h => (exec_delayed h rfl rfl rfl).trans (congrArg _ (ranDelayed_setG ..)), fun himm => ?_⟩
  have hz : ∀ i : Insn, i.zero (imm.toNat / 0x1000000) = i := fun i => zero_of_eq (Nat.div_eq_of_lt himm)
  have hm : imm.toNat % 0x1000000 = imm.toNat := Nat.mod_eq_of_lt himm
  exact ⟨fun h => exec_jump h (exec_of_insn rfl (hz _)) rfl (by rw [hm]; rfl) (calm_of_starts h),
    fun h => exec_jump_modA h (exec_of_insn rfl (hz _)) rfl (by rw [hm]; rfl)⟩

/-! ### Reading and writing a bit -/

/-- A bit that no outstanding vector work writes is read at once (R162). -/
theorem withBit_read {f g : State} {c : CpId} {n : Nat} {y : Bool} (hb : f.bitFree c n) (hr : f.readBit c n = (some y, g))
    (k : State → Bool → Flow) : withBit f c n k = k g y := by
  simp [withBit, hb.1, hr]

theorem readBit_status (f : State) (c : CpId) {n : Nat} (hn : n < 0x1000) : f.readBit c n = (some ((f.cp c).statusBit n), f) := by
  simp [State.readBit, hn]

/-- Ten bits reach the flags and the status bits alone (R91). -/
theorem bit10_lt (bit : BitVec 10) : bit.toNat < 0x1000 := by omega

section
variable {s f g : State} {c0 c : CpId} {i : Insn} {x : Instr} {body : State → CpId → Flow} {n bit tgt : Nat} {y want : Bool}

/-- A branch on a bit, taken where the bit has the wanted value. -/
theorem exec_branchBit (h : s.starts c0 c i f) (hx : exec x s = .next (s.runInsn c0 i body)) (hn : i.len = n)
    (hbody : body f c = branchBit f c bit want false tgt) (hb : f.bitFree c bit) (hr : f.readBit c bit = (some y, g)) (hc : (g.cp c).calm) :
    exec x s = .next (if y = want then g.ranTo c n tgt id else g.ran c n id) := by
  have hflow : body f c = if y = want then .jump g tgt else .next g := hbody.trans (withBit_read hb hr _)
  split
  · next hw => exact exec_jump h hx hn (hflow.trans (if_pos hw)) hc
  · next hw => exact exec_next h hx hn (hflow.trans (if_neg hw)) hc

/-- A .D branch on a bit: its slot follows either way. -/
theorem exec_branchBitD (h : s.starts c0 c i f) (hx : exec x s = .next (s.runInsn c0 i body)) (hn : i.len = n)
    (hbody : body f c = branchBit f c bit want true tgt) (hb : f.bitFree c bit) (hr : f.readBit c bit = (some y, g)) :
    exec x s = .next (g.ranDelayed c n (if y = want then some tgt else none) id) :=
  exec_delayed h hx hn (hbody.trans (withBit_read hb hr _))

end

theorem bitBranchResults : Sys2Proof.Clauses.BitBranchResults := by
  intro s f g c0 c bit disp d a imm y
  refine ⟨fun hb => ?_, fun hb hr hc => ?_⟩
  · have hr := readBit_status f c (bit10_lt bit)
    refine ⟨fun h => (exec_branchBit h rfl rfl rfl hb hr (calm_of_starts h)).trans ?_,
      fun h => (exec_branchBitD h rfl rfl rfl hb hr).trans ?_,
      fun h => exec_branchBit h rfl rfl rfl hb hr (calm_of_starts h), fun h => exec_branchBitD h rfl rfl rfl hb hr⟩
    · cases (f.cp c).statusBit bit.toNat <;> rfl
    · cases (f.cp c).statusBit bit.toNat <;> rfl
  · refine ⟨fun h => (exec_branchBit h rfl rfl rfl hb hr hc).trans ?_, fun h => (exec_branchBitD h rfl rfl rfl hb hr).trans ?_,
      fun h => exec_branchBit h rfl rfl rfl hb hr hc, fun h => exec_branchBitD h rfl rfl rfl hb hr⟩
    · cases y <;> rfl
    · cases y <;> rfl

/-- Settles O11: the branches that are always taken, and those on a bit. -/
theorem branchAndBitBranchResults : Obligations.BranchAndBitBranchResults := ⟨branchResults, bitBranchResults⟩

/-- Settles O12: the body of LOOP by its count, and TRAP after its instruction. -/
theorem loopAndTrapResults : Obligations.LoopAndTrapResults := by
  intro s f c0 c d a b len fn
  refine ⟨fun h => ⟨fun hcount => ?_, fun hcount => ?_⟩, fun h => (exec_starts h rfl).trans rfl⟩
  · exact exec_modA h rfl rfl (if_neg hcount) rfl
  · exact exec_jump_modA h rfl rfl (if_pos hcount)

end Sys2Proof.Machine
end

section
/-! SUPPORT. The bit instructions and what a write of a bit does (R88, R89, R91, R93, R95). -/

namespace Sys2Proof.Machine

/-! ### Writing a bit of the state -/

theorem bitOf_setBitOf_ne {w i j : Nat} (v : BitVec w) (b : Bool) (h : j ≠ i) : bitOf (setBitOf v i b) j = bitOf v j := by
  cases b
  · have hone : (1#w <<< i).getLsbD j = false := bitOf_one_shiftLeft_ne h
    have hlt : v.getLsbD j = true → j < w := BitVec.lt_of_getLsbD
    simp only [bitOf, setBitOf, Bool.false_eq_true, if_false, BitVec.getLsbD_and, BitVec.getLsbD_not, hone]
    cases hv : v.getLsbD j
    · rfl
    · simp [hlt hv]
  · exact bitOf_setBitOf_true_ne v h

theorem bitOf_setBitOf_self {w i : Nat} (v : BitVec w) (b : Bool) (h : i < w) : bitOf (setBitOf v i b) i = b := by
  have hone : (1#w <<< i).getLsbD i = true := bitOf_one_shiftLeft_self h
  cases b
  · simp only [bitOf, setBitOf, Bool.false_eq_true, if_false, BitVec.getLsbD_and, BitVec.getLsbD_not, hone]
    simp
  · simp only [bitOf, setBitOf, if_true, BitVec.getLsbD_or, hone, Bool.or_true]

/-- The bit addresses below 0x1000 that a write changes (R88, R89). -/
def bitWritable (n : Nat) : Prop := n < 8 ∨ (0x100 ≤ n ∧ n < 0x180) ∨ (0x200 ≤ n ∧ n < 0x400)

/-- What a write of a bit outside the bit-variable RAM changes of a CP (R89). -/
def Cp.putStatus (p : Cp) (n : Nat) (b : Bool) : Cp :=
  if n < 8 then { p with a := p.a.setFlag n b }
  else if n < 0x140 then { p with watch := setBitOf p.watch (n - 0x100) b }
  else if n < 0x180 then { p with coin := setBitOf p.coin (n - 0x140) b }
  else if n < 0x300 then { p with pendBits := setBitOf p.pendBits (n - 0x200) b }
  else { p with enabBits := setBitOf p.enabBits (n - 0x300) b }

theorem writeBit_status (s : State) (c : CpId) {n : Nat} (b : Bool) (h : bitWritable n) :
    s.writeBit c n b = s.modCp c (fun p => p.putStatus n b) := by
  unfold bitWritable at h
  unfold State.writeBit Cp.putStatus
  rw [if_neg (by omega)]
  by_cases h8 : n < 8
  · simp only [h8, if_true]
    rfl
  by_cases h140 : n < 0x140
  · rw [if_neg h8, if_pos (by omega)]
    simp only [h8, h140, if_true, if_false]
  by_cases h180 : n < 0x180
  · rw [if_neg h8, if_neg (by omega), if_pos (by omega)]
    simp only [h8, h140, h180, if_true, if_false]
  by_cases h300 : n < 0x300
  · rw [if_neg h8, if_neg (by omega), if_neg (by omega), if_pos (by omega)]
    simp only [h8, h140, h180, h300, if_true, if_false]
  · rw [if_neg h8, if_neg (by omega), if_neg (by omega), if_neg (by omega), if_pos (by omega)]
    simp only [h8, h140, h180, h300, if_false]

theorem writeBit_ignored (s : State) (c : CpId) {n : Nat} (b : Bool) (hn : n < 0x1000) (h : ¬ bitWritable n) : s.writeBit c n b = s := by
  unfold bitWritable at h
  unfold State.writeBit
  repeat rw [if_neg (by omega)]

theorem statusBit_putStatus_self (p : Cp) {n : Nat} (b : Bool) (h : bitWritable n) : (p.putStatus n b).statusBit n = b := by
  unfold bitWritable at h
  unfold Cp.putStatus
  split_ifs with h8 h140 h180 h300
  · simp only [Cp.statusBit, h8, if_true]
    exact bitOf_setBitOf_self _ _ (by omega)
  all_goals
    unfold Cp.statusBit
    simp (disch := omega) only [if_pos, if_neg, bitOf_setBitOf_self]

theorem statusBit_putStatus_ne (p : Cp) {n k : Nat} (b : Bool) (h : bitWritable n) (hk : k ≠ n) :
    (p.putStatus n b).statusBit k = p.statusBit k := by
  unfold bitWritable at h
  unfold Cp.putStatus
  split_ifs with h8 h140 h180 h300
  · by_cases hin : k < 8
    · simp only [Cp.statusBit, hin, if_true]
      exact bitOf_setBitOf_ne _ _ hk
    · simp only [Cp.statusBit, hin, if_false]
      rfl
  · by_cases hin : 0x100 ≤ k ∧ k < 0x140
    · simp (disch := omega) only [Cp.statusBit, hin, if_neg, bitOf_setBitOf_ne]
    · simp only [Cp.statusBit, hin, if_false]
  · by_cases hin : 0x140 ≤ k ∧ k < 0x180
    · simp (disch := omega) only [Cp.statusBit, hin, if_neg, bitOf_setBitOf_ne]
    · simp only [Cp.statusBit, hin, if_false]
  · by_cases hin : 0x200 ≤ k ∧ k < 0x300
    · simp (disch := omega) only [Cp.statusBit, hin, if_neg, bitOf_setBitOf_ne]
    · simp only [Cp.statusBit, hin, if_false]
  · by_cases hin : 0x300 ≤ k ∧ k < 0x400
    · simp (disch := omega) only [Cp.statusBit, hin, if_neg, bitOf_setBitOf_ne]
    · simp only [Cp.statusBit, hin, if_false]

/-- A write of a bit leaves the debug events of its CP. -/
theorem putStatus_calm {p : Cp} (n : Nat) (b : Bool) (h : p.calm) : (p.putStatus n b).calm := by
  obtain ⟨hwp, hbp, hstep, hhalt⟩ := h
  unfold Cp.putStatus
  split_ifs <;> exact ⟨hwp, hbp, hstep, hhalt⟩

theorem writeBit_calm {s : State} {c : CpId} {n : Nat} (b : Bool) (hn : n < 0x1000) (h : (s.cp c).calm) : ((s.writeBit c n b).cp c).calm := by
  by_cases hw : bitWritable n
  · rw [writeBit_status s c b hw, cp_modCp]
    exact putStatus_calm n b h
  · rwa [writeBit_ignored s c b hn hw]

theorem statusBitWrites : Sys2Proof.Clauses.StatusBitWrites := by
  intro s c n k b hn _
  by_cases hw : bitWritable n
  · rw [writeBit_status s c b hw]
    simp only [cp_modCp]
    exact ⟨fun _ => statusBit_putStatus_self _ b hw, fun hnot => absurd hw hnot, statusBit_putStatus_ne _ b hw,
      fun e he => cp_modCp_ne s _ he, rfl, rfl⟩
  · rw [writeBit_ignored s c b hn hw]
    exact ⟨fun h => absurd h hw, fun _ => rfl, fun _ => rfl, fun _ _ => rfl, rfl, rfl⟩

/-- A bit of the bit-variable RAM whose CP holds no error reads as it stands (R347). -/
theorem readBit_ram (s : State) (c : CpId) {n : Nat} (hn : 0x1000 ≤ n) (he : (s.cp c).bitErr = []) :
    s.readBit c n = (some (mapGet tagDefault (s.cp c).bitram n), s) := by
  have hz : mapGet errDefault (s.cp c).bitErr (n / 64) = Err.zero := by rw [he]; rfl
  simp only [State.readBit]
  rw [if_neg (by omega), if_pos hz]

theorem bitRamWrites : Sys2Proof.Clauses.BitRamWrites := by
  intro s c n k b hn hk hsplit hinj herr
  have hwrite : s.writeBit c n b = s.modCp c (fun p => { p with bitram := mapPut tagDefault p.bitram n b }) := by
    have hinj' : ∀ u : Cp → Cp, (s.modCp c u).inject 0x04 c.val = (false, s.modCp c u) := fun u => inject_unarmed hinj
    rw [State.writeBit, if_pos hn, State.writeRamBit, readBit_ram s c hn herr]
    simp [hsplit, State.storeRamBit, hinj']
  have herr' : ((s.writeBit c n b).cp c).bitErr = [] := by simp [hwrite, herr]
  refine ⟨?_, fun hkn => ?_, hwrite⟩
  · rw [readBit_ram _ c hn herr', hwrite]
    simp [mapGet_put]
  · rw [readBit_ram _ c hk herr', readBit_ram s c hk herr, hwrite]
    simp [mapGet_put, hkn]

/-! ### The instructions -/

/-- A bit that no outstanding vector work uses is written at once, after the Lockstep compare of the bit-variable RAM (R162, R518). -/
theorem putBit_free {f g : State} {c : CpId} {n : Nat} (b : Bool) (hb : f.bitFree c n) (hg : if 0x1000 ≤ n then f.passes c 3 n g else g = f) :
    putBit f c n b = .next (g.writeBit c n b) := by
  unfold putBit
  rw [hb.2, if_neg Bool.false_ne_true]
  split at hg
  · next hram =>
    have hp : f.compareWith State.bucket c 3 n = (false, g) := hg
    simp [hram, hp]
  · next hram => rw [if_neg hram, hg]

theorem putBit_status {f : State} {c : CpId} {n : Nat} (b : Bool) (hn : n < 0x1000) (hb : f.bitFree c n) :
    putBit f c n b = .next (f.writeBit c n b) := putBit_free b hb (by rw [if_neg (by omega)])

/-- The two-bit operations other than BMOV read the source, then the destination, and write it (R93). -/
theorem bitOp2_free {f f1 f2 g : State} {c : CpId} {m n op : Nat} {x y : Bool} (hop : op ≠ 3) (hb : f.bitFree c n)
    (hy : f.readBit c n = (some y, f1)) (hb1 : f1.bitFree c m) (hx : f1.readBit c m = (some x, f2)) (hb2 : f2.bitFree c m)
    (hg : if 0x1000 ≤ m then f2.passes c 3 m g else g = f2) :
    bitOp2 op f c m n = .next (g.writeBit c m (if op = 0 then x && y else if op = 1 then x || y else Bool.xor x y)) := by
  rw [bitOp2, withBit_read hb hy, if_neg hop, withBit_read hb1 hx, putBit_free _ hb2 hg]

theorem bitFormResults : Sys2Proof.Clauses.BitFormResults := by
  intro s f c0 c bit src hb hs
  have hbit := bit10_lt bit
  have hx := readBit_status f c hbit
  have hy := readBit_status f c (bit10_lt src)
  have hput := fun b => putBit_status b hbit hb
  have hread := withBit_read hb hx
  have hsrc := withBit_read hs hy
  have hcalm : ∀ {i : Insn} (h : s.starts c0 c i f) (b : Bool), ((f.writeBit c bit.toNat b).cp c).calm :=
    fun h b => writeBit_calm b hbit (calm_of_starts h)
  exact ⟨fun h => exec_next h rfl rfl (hput _) (hcalm h _), fun h => exec_next h rfl rfl (hput _) (hcalm h _),
    fun h => exec_next h rfl rfl ((hread _).trans (hput _)) (hcalm h _), fun h => exec_modA h rfl rfl (hread _) rfl,
    fun h => exec_next h rfl rfl ((hsrc _).trans ((hread _).trans (hput _))) (hcalm h _),
    fun h => exec_next h rfl rfl ((hsrc _).trans ((hread _).trans (hput _))) (hcalm h _),
    fun h => exec_next h rfl rfl ((hsrc _).trans ((hread _).trans (hput _))) (hcalm h _),
    fun h => exec_next h rfl rfl ((hsrc _).trans (hput _)) (hcalm h _)⟩

theorem extendedBitResults : Sys2Proof.Clauses.ExtendedBitResults := by
  intro s f f1 f2 g c0 c d a imm x y
  refine ⟨fun hb hg hc h => exec_next h rfl rfl (putBit_free _ hb hg) hc, fun hb hg hc h => exec_next h rfl rfl (putBit_free _ hb hg) hc,
    fun hb hr hb1 hg hc h => exec_next h rfl rfl ((withBit_read hb hr _).trans (putBit_free _ hb1 hg)) hc,
    fun hb hr hc h => exec_next_modA h rfl rfl (withBit_read hb hr _) hc, fun hb hy hb1 hx hb2 hg hc => ?_,
    fun hb hy hb1 hg hc h => exec_next h rfl rfl ((withBit_read hb hy _).trans (putBit_free _ hb1 hg)) hc⟩
  exact ⟨fun h => exec_next h rfl rfl (bitOp2_free (by decide) hb hy hb1 hx hb2 hg) (hc _),
    fun h => exec_next h rfl rfl (bitOp2_free (by decide) hb hy hb1 hx hb2 hg) (hc _),
    fun h => exec_next h rfl rfl (bitOp2_free (by decide) hb hy hb1 hx hb2 hg) (hc _)⟩

/-- Settles O10: the instructions by the reads and writes of their bits, and what a write changes. -/
theorem bitInstructionResults : Obligations.BitInstructionResults :=
  ⟨bitFormResults, extendedBitResults, statusBitWrites, bitRamWrites⟩

end Sys2Proof.Machine
end

section
/-! SUPPORT. Barriers, SYNC instructions and WAIT (R105 to R110), and what ends a wait. -/

namespace Sys2Proof.Machine

/-- An instruction whose CP does not step waits: nothing else changes. -/
theorem finish_stall (f : State) {t : State} {c : CpId} (i : Insn) (w : Stall) (h : (t.cp c).stepping = false) :
    f.finish c i (.stall t w) = t.modCp c (fun p => { p with stall := w }) := by
  simp [State.finish, h]

/-- A body that set its own flow ends at the boundary, which has no debug event. -/
theorem finish_done (f : State) {t : State} {c : CpId} (i : Insn) (h : (t.cp c).calm) : f.finish c i (.done t) = t :=
  boundary_calm t c h

/-- Closing an empty queue leaves the state. -/
theorem modVq_close_empty {s : State} {c : CpId} (h : (s.cp c).vq.entries = []) : s.modVq c VQueue.close = s := by
  have hclose : (s.cp c).vq.close = (s.cp c).vq := by simp [VQueue.close, h]
  calc s.modVq c VQueue.close = s.modCp c id := modCp_congr s c _ _ (by rw [hclose]; rfl)
    _ = s := by simp [State.modCp, vecUpd]

/-- Closing keeps what outstanding work there is. -/
theorem close_entries_isEmpty (q : VQueue) : q.close.entries.isEmpty = q.entries.isEmpty := by
  unfold VQueue.close
  split
  · next e he => cases hq : q.entries <;> simp_all
  · rfl

theorem close_pend (q : VQueue) : q.close.pend = q.pend := by
  unfold VQueue.close
  split <;> rfl

/-- VSYNC with nothing outstanding completes (R108). -/
theorem doVsync_empty {s : State} {c : CpId} (he : (s.cp c).vq.entries = []) (hp : (s.cp c).vq.pend = false) :
    doVsync s c = .next (s.modCp c Cp.vsynced) := by
  simp [doVsync, modVq_close_empty he, he, hp]

/-- VSYNC with work outstanding closes its group and waits (R108, R208). -/
theorem doVsync_waits {s : State} {c : CpId} (he : (s.cp c).vq.entries ≠ []) (hp : (s.cp c).vq.pend = false) :
    doVsync s c = .stall (s.modVq c VQueue.close) .vsync := by
  have hpend : ((s.modVq c VQueue.close).cp c).vq.pend = false := by simpa [State.modVq, close_pend] using hp
  have hempty : ((s.modVq c VQueue.close).cp c).vq.entries.isEmpty = false := by simpa [State.modVq, close_entries_isEmpty] using he
  simp [doVsync, hpend, hempty]

/-- A CP keeps what a completed instruction does not touch: its interrupts, its run state and its debug events. -/
theorem cp_ran (f : State) (c : CpId) (n : Nat) : ((f.ran c n id).cp c) = { (f.cp c) with
    a := (f.cp c).a.advance n none, pf := (f.cp c).flow none, instret := (f.cp c).instret + 1, lock := (f.cp c).lock - 1,
    skipBp := false } := by
  simp [State.ran]

theorem ran_calm {f : State} {c : CpId} (n : Nat) (h : (f.cp c).calm) : ((f.ran c n id).cp c).calm := by
  rw [cp_ran]
  exact h

theorem synchronisationResults : Sys2Proof.Clauses.SynchronisationResults := by
  intro s f c0 c n
  refine ⟨fun h hpend => ?_, fun h hlead hvfi hpend => ?_, fun h he hp => ?_, fun h he hp => ?_, fun h hsplit => ?_, fun h hirq => ?_,
    fun h hirq hrun => ?_, fun h hlock => ?_, fun h hlock => ?_⟩
  · have hc := calm_of_starts h
    refine exec_next h rfl rfl ?_ (t := f.modCp c Cp.sync) (by rw [cp_modCp]; exact hc)
    refine congrArg Flow.next (if_neg ?_)
    rw [cp_modCp]
    simpa [Cp.sync] using hpend
  · have hc := calm_of_starts h
    have hlead' : (f.modCp c Cp.sync).lead c = c := hlead
    refine exec_next h rfl rfl ?_ (t := (f.modCp c Cp.sync).irq c 8) (by rw [State.irq, hlead', cp_modCp, cp_modCp]; exact hc)
    refine congrArg Flow.next (if_pos ?_)
    rw [cp_modCp]
    simpa [Cp.sync] using ⟨hvfi, hpend⟩
  · refine exec_next h rfl rfl (doVsync_empty he hp) ?_
    rw [cp_modCp]
    exact calm_of_starts h
  · obtain ⟨-, -, hstep, -⟩ := calm_of_starts h
    rw [exec_starts h rfl, doVsync_waits he hp, finish_stall]
    · simp only [State.modVq, modCp_modCp]
    · simpa [State.modVq] using hstep
  · refine exec_next h rfl rfl ?_ (calm_of_starts h)
    exact if_neg (by simp [hsplit])
  · have hret : f.retire c 1 none = f.ran c 1 id := retire_calm f c 1 none (calm_of_starts h)
    have hirq' : ((f.ran c 1 id).cp c).anyIrq = true := by rw [cp_ran]; exact hirq
    rw [exec_starts h rfl]
    simp only [hret, hirq', Bool.true_or, if_true]
    rw [finish_done _ _ (ran_calm 1 (calm_of_starts h))]
  · have hret : f.retire c 1 none = f.ran c 1 id := retire_calm f c 1 none (calm_of_starts h)
    have hirq' : ((f.ran c 1 id).cp c).anyIrq = false := by rw [cp_ran]; exact hirq
    have hrun' : ((f.ran c 1 id).cp c).run = .running := by rw [cp_ran]; exact hrun
    have hcalm : (((f.ran c 1 id).modCp c (fun p => { p with stall := .wait })).cp c).calm := by
      rw [cp_modCp]
      exact ran_calm 1 (calm_of_starts h)
    rw [exec_starts h rfl]
    simp only [hret, hirq', hrun', bne_self_eq_false, Bool.or_false, Bool.false_eq_true, if_false]
    rw [finish_done _ _ hcalm]
  · refine exec_next h rfl rfl (if_neg (not_not.mpr hlock)) ?_
    rw [cp_modCp]
    exact calm_of_starts h
  · exact exec_trap h rfl (if_pos hlock)

theorem waitEnds : Sys2Proof.Clauses.WaitEnds := by
  intro s c0 c hlead
  subst hlead
  refine ⟨fun hst hrun he hp hc => ?_, fun hst => ?_, fun hst hrun hp => ?_, fun hst => ?_,
    fun hst hrun hirq => ⟨fun hno => ?_, fun n q hq => ?_⟩, fun hno => ?_, fun hc => ?_⟩
  · show execVsyncComplete c0 s = _
    have hflow := doVsync_empty (s := s.modCp (s.lead c0) (fun p => { p with stall := .none })) (c := s.lead c0) (by simpa using he)
      (by simpa using hp)
    simp only [execVsyncComplete, hst, hrun, hflow]
    rw [finish_next]
    · rfl
    · simp only [cp_modCp]
      exact hc
  · show execVsyncComplete c0 s = _
    simp only [execVsyncComplete]
    split
    · next h _ => exact absurd h hst
    · rfl
  · show execCpWaitOnVectorEnd c0 s = _
    simp [execCpWaitOnVectorEnd, hst, hrun, hp]
  · show execCpWaitOnVectorEnd c0 s = _
    simp only [execCpWaitOnVectorEnd]
    split
    · next h _ => exact absurd h hst
    · rfl
  · show execWaitEnd c0 s = _
    simp only [execWaitEnd, hst, hrun, hirq, hno, and_self, if_true]
  · show execWaitEnd c0 s = _
    simp only [execWaitEnd, hst, hrun, hirq, hq, and_self, if_true, cp_modCp]
    rfl
  · show execWaitEnd c0 s = _
    refine if_neg fun ⟨hst, _, hirq⟩ => ?_
    rcases hno with hno | hno
    · exact hno hst
    · rw [hno] at hirq
      exact Bool.false_ne_true hirq
  · refine congrArg Host.Outcome.next (boundary_calm _ _ ?_)
    rw [cp_modCp]
    exact hc

/-- Settles O22: what each instruction leaves, and what ends a wait. -/
theorem synchronisationAndWaitResults : Obligations.SynchronisationAndWaitResults := ⟨synchronisationResults, waitEnds⟩

end Sys2Proof.Machine
end

section
/-! SUPPORT. Loads and stores of the CP (R83, R84, R93, R105, R121, R122, R157, R218). -/

namespace Sys2Proof.Machine

/-! ### Loads -/

/-- A load that passes its checks, its translation and its codes goes on with the bytes found (R84, R122, R360). -/
theorem loadBytes_loads {f w : State} {c : CpId} {r : Reg} {addr : Int} {n align key : Nat} {bs : List Byte}
    (h : f.loads c r addr n align bs key w) (k : State → List Byte → Nat → Flow) : loadBytes f c r addr n align k = k w bs key := by
  obtain ⟨hcheck, sp, g, u, hspans, hload, hw, hkey, -⟩ := h
  simp [loadBytes, hcheck, hspans, hload, hw, hkey]

theorem calm_of_loads {f w : State} {c : CpId} {r : Reg} {addr : Int} {n align key : Nat} {bs : List Byte}
    (h : f.loads c r addr n align bs key w) : (w.cp c).calm := by
  obtain ⟨-, _, _, _, -, -, -, -, hc⟩ := h
  exact hc

@[simp] theorem inject_cp (s : State) (point unit : Nat) (c : CpId) : (s.inject point unit).2.cp c = s.cp c := by
  unfold State.inject
  split <;> rfl

theorem setD_calm {s : State} {c : CpId} (r : Reg) (v : DReg) (h : (s.cp c).calm) : ((s.setD c r v).cp c).calm := by
  rw [State.setD, cp_modA, inject_cp]
  exact h

section
variable {s f w w2 : State} {c0 c : CpId} {i : Insn} {x : Instr} {body : State → CpId → Flow} {k : Reg} {addr : Int} {n align key : Nat}
  {bs : List Byte} {cont : State → List Byte → Nat → Flow}

/-- A load goes on from the state after it with the bytes found. -/
theorem exec_loads {t : State} (hl : f.loads c k addr n align bs key w) (h : s.starts c0 c i f)
    (hx : exec x s = .next (s.runInsn c0 i body)) (hn : i.len = 2) (hb : body f c = loadBytes f c k addr n align cont)
    (hk : cont w bs key = .next t) (hc : (t.cp c).calm) : exec x s = .next (t.ran c 2 id) :=
  exec_next h hx hn (hb.trans ((loadBytes_loads hl cont).trans hk)) hc

/-- A load whose bytes change architectural registers alone. -/
theorem exec_loads_modA {v : CpArch → CpArch} (hl : f.loads c k addr n align bs key w) (h : s.starts c0 c i f)
    (hx : exec x s = .next (s.runInsn c0 i body)) (hn : i.len = 2) (hb : body f c = loadBytes f c k addr n align cont)
    (hk : cont w bs key = .next (w.modA c v)) : exec x s = .next (w.ran c 2 v) :=
  exec_next_modA h hx hn (hb.trans ((loadBytes_loads hl cont).trans hk)) (calm_of_loads hl)

end

/-- The tag rule of LDK and LDD holds (R118). -/
theorem tag_allowed {tag : Bool} {k : Cap} (h : tag = true → k.has permLoadCap = true) : ¬ (tag = true ∧ (!k.has permLoadCap) = true) := by
  rintro ⟨ht, hno⟩
  simp [h ht] at hno

/-- Settles O13: each load is its bytes and one change of the registers. -/
theorem loadResults : Obligations.LoadResults := by
  intro s f w c0 c d k off bs key
  refine ⟨fun hl h => exec_loads_modA hl h rfl rfl rfl rfl, fun hl h => exec_loads_modA hl h rfl rfl rfl rfl,
    fun hl h => exec_loads_modA hl h rfl rfl rfl rfl, fun hl h => exec_loads_modA hl h rfl rfl rfl rfl,
    fun hl h => exec_loads_modA hl h rfl rfl rfl rfl, fun hl h => ?_,
    fun tag w2 htag hcap hc => ⟨fun hl h => ?_, fun hl h => ?_⟩⟩
  · refine (exec_loads hl h rfl rfl rfl rfl ?_).trans ?_
    · rw [cp_modCp, State.setG, cp_modA]
      exact calm_of_loads hl
    · simp only [State.ran, State.setG, State.modA, modCp_modCp]
      rfl
  · refine exec_loads hl h rfl rfl rfl ?_ (by rw [State.setK, cp_modA]; exact hc)
    simp only [htag]
    exact if_neg (tag_allowed hcap)
  · refine exec_loads hl h rfl rfl rfl ?_ (setD_calm d _ hc)
    simp only [htag]
    exact if_neg (tag_allowed hcap)

/-! ### Stores -/

/-- A compare that finds no mismatch leaves the state (R518). -/
theorem eq_of_passes {f g : State} {c : CpId} {kind wh : Nat} (h : f.passes c kind wh g) : g = f := by
  simp only [State.passes, State.compareWith] at h
  split at h
  · split at h
    · exact nomatch congrArg Prod.fst h
    · exact (congrArg Prod.snd h).symm
  · exact (congrArg Prod.snd h).symm

/-- Only the data of STD change the state before the store: its descriptor register may be corrected (R360). -/
theorem storeData_state (f : State) (c : CpId) {kind : StoreKind} (r : Reg) (h : kind ≠ .d) : (f.storeData c kind r).2 = f := by
  cases kind with
  | d => exact absurd rfl h
  | _ => rfl

theorem storeMasked_all (s : State) (c : CpId) (a : Nat) (sp : List (Nat × Nat)) (bs : List Byte) :
    s.storeMasked c a sp bs (BitVec.allOnes 64) = s.storeSpans c a sp bs := if_pos rfl

/-- The state after the bytes of a store, and after the tag that STK and STD write. -/
def State.storeWhole (g : State) (c : CpId) (a : Nat) (sp : List (Nat × Nat)) (data : StoreData) : State :=
  match data.tag with
  | some b => (g.storeSpans c a sp data.bytes).writeTag ((spanKeys sp).getD 0 0 / 16) b
  | none => g.storeSpans c a sp data.bytes

section
variable {f g : State} {c : CpId} {kind : StoreKind} {r kr : Reg} {off : BitVec 12} {data : StoreData} {sp : List (Nat × Nat)}

/-- A store that passes: STC without its reservation only ends it, every other store writes its bytes (R84, R105, R121, R122). -/
theorem doStore_stores {addr : Int} (h : f.stores c kind r kr addr data sp g)
    (ha : ∀ f1, f.storeData c kind r = (some data, f1) → memAddr (f1.k c kr) off data.size = addr) :
    doStore kind r kr off (BitVec.allOnes 64) f c =
      if kind = .c ∧ (!((g.cp c).resv == some ((spanKeys sp).getD 0 0 / 64))) = true then
        .next ((g.modCp c (fun p => { p with resv := none, a := p.a.setFlag flT false })).watchAccess c false addr.toNat 8)
      else
        let t := g.storeWhole c addr.toNat sp data
        .next ((if kind = .c then t.modCp c (fun p => { p with resv := none, a := p.a.setFlag flT true }) else t).watchAccess
          c true addr.toNat data.size) := by
  obtain ⟨f1, hdata, hcheck, hglobal, hholds, f2, hspans, hpass⟩ := h
  obtain rfl := eq_of_passes hpass
  have hpass' : g.compareWith State.bucket c 0 addr.toNat = (false, g) := hpass
  have hlocal : ¬ ((data.tag == some true) = true ∧ (!f1.storedGlobal c kind r) = true) := by
    rintro ⟨htag, hno⟩
    simp [hglobal (by simpa using htag)] at hno
  have hperms : (if (data.tag == some true) = true then [permW, permStoreCap] else [permW]) =
      if data.tag = some true then [permW, permStoreCap] else [permW] := by simp
  simp only [doStore, hdata, ha f1 hdata, hperms]
  split
  · next sub hsub => exact nomatch hcheck.symm.trans hsub
  · simp only [hlocal, if_false, hholds, Bool.false_eq_true, hspans, hpass', storeMasked_all, State.storeWhole] <;> rfl

/-- A store other than STC writes its bytes and its tag. -/
theorem doStore_whole {addr : Int} (hc : kind ≠ .c) (h : f.stores c kind r kr addr data sp g)
    (ha : ∀ f1, f.storeData c kind r = (some data, f1) → memAddr (f1.k c kr) off data.size = addr) :
    doStore kind r kr off (BitVec.allOnes 64) f c =
      .next ((g.storeWhole c addr.toNat sp data).watchAccess c true addr.toNat data.size) := by
  simp only [doStore_stores h ha, hc, false_and, if_false]

/-- The data of a kind that reads no D register leave the address as it was. -/
theorem memAddr_storeData (hd : kind ≠ .d) (f1 : State) (hdata : f.storeData c kind r = (some data, f1)) :
    memAddr (f1.k c kr) off data.size = memAddr (f.k c kr) off data.size := by
  have hstate : f1 = f := (congrArg Prod.snd hdata).symm.trans (storeData_state f c r hd)
  rw [hstate]

/-- The data of an instruction that stores no capability carry no tag. -/
theorem storeWhole_untagged {a : Nat} (h : data.tag = none) : g.storeWhole c a sp data = g.storeSpans c a sp data.bytes := by
  simp [State.storeWhole, h]

theorem storeData_untagged (hk : kind ≠ .k) (hd : kind ≠ .d) (f1 : State) (hdata : f.storeData c kind r = (some data, f1)) : data.tag = none := by
  cases kind <;> simp [State.storeData] at hdata hk hd <;> rw [← hdata.1]

theorem tag_of_stores {addr : Int} (hk : kind ≠ .k) (hd : kind ≠ .d) (h : f.stores c kind r kr addr data sp g) : data.tag = none := by
  obtain ⟨f1, hdata, -⟩ := h
  exact storeData_untagged hk hd f1 hdata

section
variable {s : State} {c0 : CpId} {i : Insn} {x : Instr}

/-- A store instruction with no tag among its data. -/
theorem exec_stores (hk : kind ≠ .k) (hd : kind ≠ .d) (hc : kind ≠ .c)
    (hx : exec x s = .next (s.runInsn c0 i (doStore kind r kr off (BitVec.allOnes 64))))
    (hn : i.len = 2) (hst : f.stores c kind r kr (memAddr (f.k c kr) off data.size) data sp g) (h : s.starts c0 c i f)
    (hcalm : (((g.storeWhole c (memAddr (f.k c kr) off data.size).toNat sp data).watchAccess c true (memAddr (f.k c kr) off data.size).toNat
      data.size).cp c).calm) :
    exec x s = .next (((g.storeSpans c (memAddr (f.k c kr) off data.size).toNat sp data.bytes).watchAccess c true
      (memAddr (f.k c kr) off data.size).toNat data.size).ran c 2 id) := by
  rw [exec_next h hx hn (doStore_whole hc hst (memAddr_storeData hd)) hcalm, storeWhole_untagged (tag_of_stores hk hd hst)]

end

end

theorem storeResults : Sys2Proof.Clauses.StoreResults := by
  intro s f g c0 c d k off data sp at_ t tk seen hcalm
  exact ⟨fun hst h => exec_stores (by decide) (by decide) (by decide) rfl rfl hst h hcalm,
    fun hst h => exec_stores (by decide) (by decide) (by decide) rfl rfl hst h hcalm,
    fun hst h => exec_stores (by decide) (by decide) (by decide) rfl rfl hst h hcalm,
    fun hst h => exec_stores (by decide) (by decide) (by decide) rfl rfl hst h hcalm,
    fun hst h => exec_next h rfl rfl (doStore_whole (by decide) hst (memAddr_storeData (by decide))) hcalm,
    fun hst hk h => exec_next h rfl rfl (doStore_whole (by decide) hst (fun f1 hdata => by rw [hk f1 hdata]; rfl)) hcalm⟩

theorem storeDataRules : Sys2Proof.Clauses.StoreDataRules := by
  intro s c r
  refine ⟨rfl, rfl, rfl, rfl, rfl, rfl, fun herr => ?_⟩
  simp [State.storeData, State.readD, herr]

/-- Settles O14: a store that passes its checks writes its bytes and tags, and what its bytes are. -/
theorem storeInstructionResults : Obligations.StoreInstructionResults := ⟨storeResults, storeDataRules⟩

theorem size_of_stores_c {f g : State} {c : CpId} {r kr : Reg} {addr : Int} {data : StoreData} {sp : List (Nat × Nat)}
    (h : f.stores c .c r kr addr data sp g) : data.size = 8 := by
  obtain ⟨f1, hdata, -⟩ := h
  simp only [State.storeData, Prod.mk.injEq, Option.some.injEq] at hdata
  rw [← hdata.1]

theorem storeConditional : Sys2Proof.Clauses.StoreConditional := by
  intro s f g c0 c d k off data sp at_ granule h hst
  have hflow := doStore_stores hst (memAddr_storeData (by decide))
  refine ⟨fun hresv hc => ?_, fun hresv hc => ?_⟩
  · exact exec_next h rfl rfl (hflow.trans (if_pos ⟨rfl, by simpa only [Bool.not_eq_true', beq_eq_false_iff_ne] using hresv⟩)) hc
  · refine exec_next h rfl rfl (hflow.trans ((if_neg ?_).trans ?_)) hc
    · simpa only [Bool.not_eq_true', beq_eq_false_iff_ne, true_and, not_not] using hresv
    · simp only [if_true, storeWhole_untagged (tag_of_stores (by decide) (by decide) hst), size_of_stores_c hst]

theorem storeRelease : Sys2Proof.Clauses.StoreRelease := by
  intro s c0 c kind r k off mask hlead
  subst hlead
  have hexec : (s.cp (s.lead c0)).stall = .store kind r k off mask → (s.cp (s.lead c0)).run = .running →
      exec (.storeRelease c0) s = .next ((s.modCp (s.lead c0) (fun p => { p with stall := .none })).finish (s.lead c0)
        (iHeld (if kind = .v then 4 else 2))
        (doStore kind r k off mask (s.modCp (s.lead c0) (fun p => { p with stall := .none })) (s.lead c0))) := by
    intro hst hrun
    show execStoreRelease c0 s = _
    simp only [execStoreRelease, hst, hrun]
  refine ⟨hexec, fun hst => ?_, fun hst hrun hmask hkind data sp g hstores hk hc => ?_⟩
  · show execStoreRelease c0 s = _
    simp only [execStoreRelease]
    split
    · next h _ => exact hst _ _ _ _ _ h |>.elim
    · rfl
  · subst hmask
    rw [hexec hst hrun, doStore_whole hkind hstores (fun f1 hdata => by rw [hk f1 hdata])]
    exact congrArg Host.Outcome.next (finish_next _ _ _ _ hc)

/-- Settles O15: STC by its reservation, and a store that waited. -/
theorem conditionalStoreResults : Obligations.ConditionalStoreResults := ⟨storeConditional, storeRelease⟩

end Sys2Proof.Machine
end

section
/-! SUPPORT. MOVC and MOVCR (R74 to R76). -/

namespace Sys2Proof.Machine

/-- What every write of a control register keeps of the architectural state: the G, K and flag registers. -/
def CpArch.crKept (a b : CpArch) : Prop := b.g = a.g ∧ b.k = a.k ∧ b.flags = a.flags

theorem crKept_ite {P : Prop} [Decidable P] {a x y : CpArch} (hx : a.crKept x) (hy : a.crKept y) : a.crKept (if P then x else y) := by
  split
  · exact hx
  · exact hy

/-- A write of a control register changes its own CP alone, and of that neither its debug events nor the registers above (R74). -/
theorem crWrite_modCp (s : State) (c : CpId) (sys : Bool) (n : Nat) (v : Word) :
    ∃ u : Cp → Cp, s.crWrite c sys n v = s.modCp c u ∧ (s.cp c).a.crKept (u (s.cp c)).a ∧ ((s.cp c).calm → (u (s.cp c)).calm) := by
  have hsame : s = s.modCp c id := by simp [State.modCp, vecUpd]
  have hkept : ∀ a : CpArch, a.crKept a := fun _ => ⟨rfl, rfl, rfl⟩
  have hqueue : ∀ u : VQueue → VQueue, ∀ held : Bool, ∃ w : Cp → Cp, (if held then s.modVq c u else s) = s.modCp c w ∧
      (s.cp c).a.crKept (w (s.cp c)).a ∧ ((s.cp c).calm → (w (s.cp c)).calm) := by
    intro u held
    cases held
    · exact ⟨id, hsame, hkept _, id⟩
    · exact ⟨_, rfl, hkept _, fun h => h⟩
  unfold State.crWrite
  by_cases h9 : n = 9
  · rw [if_pos h9]
    exact hqueue _ _
  by_cases hA : n = 0xA
  · rw [if_neg h9, if_pos hA]
    exact hqueue _ _
  · rw [if_neg h9, if_neg hA]
    refine ⟨_, rfl, ?_, fun h => h⟩
    repeat' apply crKept_ite
    all_goals exact ⟨rfl, rfl, rfl⟩

theorem iCr_listed {major : Nat} {g : Reg} {num : BitVec 8} (h : crListed num.toNat = true) : iCr major g num 0 = iCreg major g num 0 := by
  rw [iCr, h]
  rfl

/-- A control register that the CP may use is used (R74, R389). -/
theorem crAccess_granted {num : BitVec 8} {s : State} {c : CpId} (h : crSystem num.toNat = true → (s.cp c).a.sys = true) (flow : Flow) :
    crAccess num s c flow = flow := by
  refine if_neg ?_
  cases hs : crSystem num.toNat
  · simp
  · simp [h hs]

theorem controlRegisterResults : Sys2Proof.Clauses.ControlRegisterResults := by
  intro s f c0 c g num hlist
  have hcr : ∀ major, iCr major g num 0 = iCreg major g num 0 := fun _ => iCr_listed hlist
  refine ⟨fun hsys => ⟨fun h => ?_, fun hnum h => ?_, fun hnum hpend h => ?_⟩, fun hmark hsys => ⟨fun h => ?_, fun h => ?_⟩⟩
  · refine exec_next h (exec_of_insn rfl (hcr _)) rfl (crAccess_granted hsys _) ?_
    obtain ⟨u, hu, -, hcalm⟩ := crWrite_modCp f c (f.cp c).a.sys num.toNat (f.g c g)
    rw [hu, cp_modCp]
    exact hcalm (calm_of_starts h)
  · exact exec_modA h (exec_of_insn rfl (hcr _)) rfl ((crAccess_granted hsys _).trans (if_neg hnum)) rfl
  · refine exec_next_modA h (exec_of_insn rfl (hcr _)) rfl ((crAccess_granted hsys _).trans ((if_pos hnum).trans (if_neg ?_))) ?_
    · simp [State.modVq, close_pend, hpend]
    · rw [State.modVq, cp_modCp]
      exact calm_of_starts h
  · exact exec_trap h (exec_of_insn rfl (hcr _)) (if_pos (by simp [hmark, hsys]))
  · exact exec_trap h (exec_of_insn rfl (hcr _)) (if_pos (by simp [hmark, hsys]))

theorem controlRegistersReadBack : Sys2Proof.Clauses.ControlRegistersReadBack := by
  intro s c v
  refine ⟨fun sys => ?_, ?_, ?_, fun sys n e he => ?_, fun sys n => ?_⟩
  · simp [State.crWrite, State.crRead]
  · simp [State.crWrite, State.crRead]
  · simp [State.crWrite, State.crRead]
  · obtain ⟨u, hu, -⟩ := crWrite_modCp s c sys n v
    rw [hu, cp_modCp_ne s u he]
  · obtain ⟨u, hu, ⟨hg, hk, hflags⟩, -⟩ := crWrite_modCp s c sys n v
    rw [hu, cp_modCp]
    exact ⟨rfl, hg, hk, hflags⟩

/-- Settles O21: the instructions by the write and the read of a control register, and what reads back. -/
theorem controlRegisterAccess : Obligations.ControlRegisterAccess := ⟨controlRegisterResults, controlRegistersReadBack⟩

end Sys2Proof.Machine
end

section
/-! SUPPORT. The flags of addition, subtraction, shifts and rotation (R89, R96, R97). -/

namespace Sys2Proof.Machine

/-! ### Flags and bits -/

theorem flag_setFlag_self (a : CpArch) {k : Nat} (b : Bool) (h : k < 8) : (a.setFlag k b).flag k = b := bitOf_setBitOf_self _ b h

theorem flag_setFlag_ne (a : CpArch) {j k : Nat} (b : Bool) (h : k ≠ j) : (a.setFlag j b).flag k = a.flag k := bitOf_setBitOf_ne _ b h

theorem flag_setZN_Z (a : CpArch) (r : Word) : (a.setZN r).flag flZ = (r == 0) :=
  (flag_setFlag_ne _ _ (by decide)).trans (flag_setFlag_self _ _ (by decide))

theorem flag_setZN_N (a : CpArch) (r : Word) : (a.setZN r).flag flN = r.msb := flag_setFlag_self _ _ (by decide)

theorem flag_setZN_ne (a : CpArch) (r : Word) {k : Nat} (h : 2 ≤ k) : (a.setZN r).flag k = a.flag k :=
  (flag_setFlag_ne _ _ (by unfold flN; omega)).trans (flag_setFlag_ne _ _ (by unfold flZ; omega))

/-- A bit of a word as its number gives it. -/
theorem bitOf_eq_decide {w : Nat} (x : BitVec w) (i : Nat) : bitOf x i = decide (x.toNat / 2 ^ i % 2 = 1) :=
  Nat.testBit_eq_decide_div_mod_eq

theorem b2n_eq_toNat (b : Bool) : b2n b = b.toNat := by cases b <;> rfl

/-- The sign of a word. -/
theorem bitOf_sign (x : Word) : bitOf x 63 = decide (2 ^ 63 ≤ x.toNat) := by
  have hx := x.isLt
  rw [bitOf_eq_decide, decide_eq_decide]
  omega

theorem toInt_word (x : Word) : x.toInt = if 2 ^ 63 ≤ x.toNat then (x.toNat : Int) - 2 ^ 64 else (x.toNat : Int) := by
  rw [BitVec.toInt_eq_toNat_cond]
  split <;> split <;> omega

/-- Signed overflow of a sum, by the signs of its terms and of its result. -/
theorem addition_overflow (x y r : Word) (cin : Bool) (hr : r.toNat = (x.toNat + y.toNat + cin.toNat) % 2 ^ 64) :
    (bitOf x 63 == bitOf y 63 && bitOf r 63 != bitOf x 63) = true ↔
      x.toInt + y.toInt + cin.toNat < -2 ^ 63 ∨ 2 ^ 63 ≤ x.toInt + y.toInt + cin.toNat := by
  have hx := x.isLt
  have hy := y.isLt
  have hc := cin.toNat_le
  simp only [toInt_word, bitOf_sign, Bool.and_eq_true, beq_iff_eq, bne_iff_ne, ne_eq, decide_eq_decide]
  split <;> split <;> omega

/-- Signed overflow of a difference, by the signs of its terms and of its result. -/
theorem subtraction_overflow (x y r : Word) (cin : Bool) (hr : (r.toNat : Int) = ((x.toNat : Int) - y.toNat - cin.toNat) % 2 ^ 64) :
    (bitOf x 63 != bitOf y 63 && bitOf r 63 != bitOf x 63) = true ↔
      x.toInt - y.toInt - cin.toNat < -2 ^ 63 ∨ 2 ^ 63 ≤ x.toInt - y.toInt - cin.toNat := by
  have hx := x.isLt
  have hy := y.isLt
  have hc := cin.toNat_le
  simp only [toInt_word, bitOf_sign, Bool.and_eq_true, bne_iff_ne, ne_eq, decide_eq_decide]
  split <;> split <;> omega

/-! ### Addition and subtraction -/

/-- The bits that a fold over the places sets. -/
theorem bitOf_foldl_setBitOf {w : Nat} (P : Nat → Bool) (n : Nat) {i : Nat} (hi : i < w) :
    bitOf ((List.range n).foldl (fun v j => setBitOf v j (P j)) (0 : BitVec w)) i = (decide (i < n) && P i) := by
  induction n with
  | zero => exact bitOf_zero w i
  | succ n ih =>
    rw [List.range_succ, List.foldl_concat]
    by_cases h : i = n
    · subst h
      simp [bitOf_setBitOf_self _ _ hi]
    · rw [bitOf_setBitOf_ne _ _ h, ih]
      have hlt : i < n + 1 ↔ i < n := by omega
      simp only [hlt]

theorem bitOf_nibbleCarries (x y : Word) (cin : Bool) {i : Nat} (hi : i < 16) :
    bitOf (nibbleCarries x y cin) i = decide (2 ^ (4 * i + 4) ≤ x.toNat % 2 ^ (4 * i + 4) + y.toNat % 2 ^ (4 * i + 4) + cin.toNat) := by
  rw [nibbleCarries, bitOf_foldl_setBitOf _ 16 hi, decide_eq_true hi, Bool.true_and, b2n_eq_toNat]

theorem toNat_carry (b : Bool) : (BitVec.ofNat 64 (b2n b)).toNat = b.toNat := by cases b <;> rfl

theorem additionFlags : Sys2Proof.Clauses.AdditionFlags := by
  intro a x y cin
  have hsum : (a.flagsAdd x y cin).1.toNat = (x.toNat + y.toNat + cin.toNat) % 2 ^ 64 := by
    simp [CpArch.flagsAdd, BitVec.toNat_add, b2n_eq_toNat]
  have hncy : ∀ k, (a.flagsAdd x y cin).2.flag k = (((a.setZN (a.flagsAdd x y cin).1).setFlag flC
      (decide (2 ^ 64 ≤ x.toNat + y.toNat + b2n cin))).setFlag flV
        (bitOf x 63 == bitOf y 63 && bitOf (a.flagsAdd x y cin).1 63 != bitOf x 63)).flag k := fun _ => rfl
  have hC : (a.flagsAdd x y cin).2.flag flC = decide (2 ^ 64 ≤ x.toNat + y.toNat + cin.toNat) := by
    rw [hncy, flag_setFlag_ne _ _ (by decide), flag_setFlag_self _ _ (by decide), b2n_eq_toNat]
  have hx := x.isLt
  have hy := y.isLt
  refine ⟨hsum, ?_, ?_, ?_, ?_, fun k hk => ?_, fun i hi => bitOf_nibbleCarries x y cin hi, ?_, ?_⟩
  · rw [hncy, flag_setFlag_ne _ _ (by decide), flag_setFlag_ne _ _ (by decide), flag_setZN_Z, beq_iff_eq]
  · rw [hncy, flag_setFlag_ne _ _ (by decide), flag_setFlag_ne _ _ (by decide), flag_setZN_N]
  · rw [hC, decide_eq_true_eq]
  · rw [hncy, flag_setFlag_self _ _ (by decide), addition_overflow x y _ cin hsum]
  · have hC' : k ≠ flC := by unfold flC; omega
    have hV' : k ≠ flV := by unfold flV; omega
    rw [hncy, flag_setFlag_ne _ _ hV', flag_setFlag_ne _ _ hC', flag_setZN_ne _ _ (by omega)]
  · rw [hC]
    refine (bitOf_nibbleCarries x y cin (by decide)).trans ?_
    rw [Nat.mod_eq_of_lt hx, Nat.mod_eq_of_lt hy]
  · simp only [CpArch.flagsAdd, CpArch.setZN, CpArch.setZ, CpArch.setFlag]

theorem subtractionFlags : Sys2Proof.Clauses.SubtractionFlags := by
  intro a x y cin
  have hdiff : ((a.flagsSub x y cin).1.toNat : Int) = ((x.toNat : Int) - y.toNat - cin.toNat) % 2 ^ 64 := by
    have hx := x.isLt
    have hy := y.isLt
    have hc := cin.toNat_le
    simp only [CpArch.flagsSub, BitVec.toNat_sub, toNat_carry]
    omega
  have hflag : ∀ k, (a.flagsSub x y cin).2.flag k = (((a.setZN (a.flagsSub x y cin).1).setFlag flC
      (decide (x.toNat < y.toNat + b2n cin))).setFlag flV
        (bitOf x 63 != bitOf y 63 && bitOf (a.flagsSub x y cin).1 63 != bitOf x 63)).flag k := fun _ => rfl
  refine ⟨hdiff, ?_, ?_, ?_, ?_, fun k hk => ?_, ?_⟩
  · rw [hflag, flag_setFlag_ne _ _ (by decide), flag_setFlag_ne _ _ (by decide), flag_setZN_Z, beq_iff_eq]
  · rw [hflag, flag_setFlag_ne _ _ (by decide), flag_setFlag_ne _ _ (by decide), flag_setZN_N]
  · rw [hflag, flag_setFlag_ne _ _ (by decide), flag_setFlag_self _ _ (by decide), b2n_eq_toNat, decide_eq_true_eq]
  · rw [hflag, flag_setFlag_self _ _ (by decide), subtraction_overflow x y _ cin hdiff]
  · have hC' : k ≠ flC := by unfold flC; omega
    have hV' : k ≠ flV := by unfold flV; omega
    rw [hflag, flag_setFlag_ne _ _ hV', flag_setFlag_ne _ _ hC', flag_setZN_ne _ _ (by omega)]
  · simp only [CpArch.flagsSub, CpArch.setZN, CpArch.setZ, CpArch.setFlag]

/-! ### Shifts and rotation -/

/-- Z, N and C of a shift, and what it keeps. -/
theorem flagsShift_flags (a : CpArch) {x r : Word} {n : Nat} (out : Bool) (hr : n = 0 → r = x) :
    ((a.flagsShift r n out).2.flag flZ = true ↔ (a.flagsShift r n out).1 = 0) ∧
    (a.flagsShift r n out).2.flag flN = (a.flagsShift r n out).1.msb ∧
    (n = 0 → (a.flagsShift r n out).1 = x ∧ (a.flagsShift r n out).2.flag flC = a.flag flC) ∧
    (∀ k, 3 ≤ k → (a.flagsShift r n out).2.flag k = a.flag k) ∧ ({ (a.flagsShift r n out).2 with flags := a.flags } : CpArch) = a := by
  by_cases hn : n = 0
  · have hq : a.flagsShift r n out = (r, a.setZN r) := by simp [CpArch.flagsShift, hn]
    rw [hq]
    exact ⟨by rw [flag_setZN_Z, beq_iff_eq], flag_setZN_N a r, fun _ => ⟨hr hn, flag_setZN_ne a r (by decide)⟩,
      fun k hk => flag_setZN_ne a r (by omega), by simp only [CpArch.setZN, CpArch.setZ, CpArch.setFlag]⟩
  · have hq : a.flagsShift r n out = (r, (a.setZN r).setFlag flC out) := by simp [CpArch.flagsShift, hn]
    rw [hq]
    refine ⟨?_, ?_, fun h => absurd h hn, fun k hk => ?_, by simp only [CpArch.setZN, CpArch.setZ, CpArch.setFlag]⟩
    · rw [flag_setFlag_ne _ _ (by decide), flag_setZN_Z, beq_iff_eq]
    · rw [flag_setFlag_ne _ _ (by decide), flag_setZN_N]
    · have hC' : k ≠ flC := by unfold flC; omega
      rw [flag_setFlag_ne _ _ hC', flag_setZN_ne _ _ (by omega)]

/-- The last bit that a shift moves out. -/
theorem flagsShift_C (a : CpArch) (x r : Word) {n i : Nat} (hn : 0 < n) :
    (a.flagsShift r n (bitOf x i)).2.flag flC = true ↔ x.toNat / 2 ^ i % 2 = 1 := by
  have hq : a.flagsShift r n (bitOf x i) = (r, (a.setZN r).setFlag flC (bitOf x i)) := by simp [CpArch.flagsShift, Nat.ne_of_gt hn]
  rw [hq, flag_setFlag_self _ _ (by decide), bitOf_eq_decide, decide_eq_true_eq]

theorem bitOf_rotateRight (x : Word) {n i : Nat} (hn : n < 64) (hi : i < 64) : bitOf (x.rotateRight n) i = bitOf x ((i + n) % 64) := by
  simp only [bitOf, BitVec.getLsbD_rotateRight, Nat.mod_eq_of_lt hn, hi, decide_true, Bool.true_and]
  by_cases h : i < 64 - n
  · rw [decide_eq_true h, cond_true, Nat.mod_eq_of_lt (by omega), Nat.add_comm]
  · have hwrap : i - (64 - n) = (i + n) % 64 := by omega
    rw [decide_eq_false h, cond_false, hwrap]

theorem rotateRight_none (x : Word) : x.rotateRight 0 = x :=
  BitVec.eq_of_getLsbD_eq fun i hi => (bitOf_rotateRight x (by decide) hi).trans (by rw [Nat.add_zero, Nat.mod_eq_of_lt hi]; rfl)

theorem shiftFlags : Sys2Proof.Clauses.ShiftFlags := by
  intro a x n hn
  refine ⟨?_, ?_, ?_, ?_, fun i hi => ?_, fun hpos => ⟨flagsShift_C a x _ hpos, ?_⟩⟩
  · simp only [List.forall_mem_cons]
    refine ⟨flagsShift_flags a _ fun h => ?_, flagsShift_flags a _ fun h => ?_, flagsShift_flags a _ fun h => ?_,
      flagsShift_flags a _ fun h => ?_, List.forall_mem_nil _⟩
    · rw [h, BitVec.shiftLeft_zero]
    · rw [h, BitVec.ushiftRight_zero]
    · rw [h, BitVec.sshiftRight_zero]
    · rw [h, rotateRight_none]
  · simp [CpArch.shl, CpArch.flagsShift, BitVec.toNat_shiftLeft, Nat.shiftLeft_eq]
  · simp [CpArch.shr, CpArch.flagsShift, Nat.shiftRight_eq_div_pow]
  · simp [CpArch.sar, CpArch.flagsShift, BitVec.toInt_sshiftRight, Int.shiftRight_eq_div_pow]
  · exact bitOf_rotateRight x hn hi
  · simp only [List.forall_mem_cons]
    exact ⟨flagsShift_C a x _ hpos, flagsShift_C a x _ hpos, flagsShift_C a x _ hpos, List.forall_mem_nil _⟩

/-- Settles O4: addition, subtraction and the shifts. -/
theorem arithmeticFlags : Obligations.ArithmeticFlags := ⟨additionFlags, subtractionFlags, shiftFlags⟩

end Sys2Proof.Machine
end

section
/-! SUPPORT. DADJ (R98): its digits, one nibble after the other, and the decimal sum that it makes of a binary one. -/

namespace Sys2Proof.Machine

/-! ### Digits -/

theorem two_pow_four_mul (i : Nat) : 2 ^ (4 * i) = 16 ^ i := pow_mul 2 4 i

theorem nbits_digit (v i : Nat) : nbits v (4 * i) 4 = v / 16 ^ i % 16 := by
  rw [nbits, two_pow_four_mul]
  rfl

/-- A digit of a word with the carry of the digit below, corrected (R98). -/
def dadjDigit (w : Nat) (ncy : BitVec 16) (i car : Nat) : Nat :=
  if bitOf ncy i = true ∨ 9 < w / 16 ^ i % 16 + car then w / 16 ^ i % 16 + car + 6 else w / 16 ^ i % 16 + car

/-- The carry into each digit (R98). -/
def dadjCar (w : Nat) (ncy : BitVec 16) : Nat → Nat
  | 0 => 0
  | i + 1 => if 16 ≤ dadjDigit w ncy i (dadjCar w ncy i) then 1 else 0

/-- The corrected digits below each place. -/
def dadjSum (w : Nat) (ncy : BitVec 16) : Nat → Nat
  | 0 => 0
  | i + 1 => dadjSum w ncy i + dadjDigit w ncy i (dadjCar w ncy i) % 16 * 16 ^ i

/-- The loop of DADJ makes the corrected digits and their carry. -/
theorem dadjLoop_eq (w : Nat) (ncy : BitVec 16) (k i : Nat) :
    dadjLoop w ncy k i (dadjCar w ncy i) (dadjSum w ncy i) = (dadjSum w ncy (i + k), dadjCar w ncy (i + k)) := by
  induction k generalizing i with
  | zero => rfl
  | succ k ih =>
    have hdigit : (if (bitOf ncy i || decide (9 < w / 16 ^ i % 16 + dadjCar w ncy i)) = true then w / 16 ^ i % 16 + dadjCar w ncy i + 6
        else w / 16 ^ i % 16 + dadjCar w ncy i) = dadjDigit w ncy i (dadjCar w ncy i) := by
      simp only [dadjDigit, Bool.or_eq_true, decide_eq_true_eq]
    rw [dadjLoop]
    simp only [hdigit]
    exact (ih (i + 1)).trans (by rw [Nat.add_right_comm, Nat.add_assoc])

theorem dadjSum_lt (w : Nat) (ncy : BitVec 16) (i : Nat) : dadjSum w ncy i < 16 ^ i := by
  induction i with
  | zero => exact Nat.one_pos
  | succ i ih =>
    have hd : dadjDigit w ncy i (dadjCar w ncy i) % 16 ≤ 15 := by omega
    have hmul := Nat.mul_le_mul_right (16 ^ i) hd
    rw [dadjSum, pow_succ]
    omega

/-- The digits of the corrected word. -/
theorem dadjSum_digit (w : Nat) (ncy : BitVec 16) {i n : Nat} (h : i < n) :
    dadjSum w ncy n / 16 ^ i % 16 = dadjDigit w ncy i (dadjCar w ncy i) % 16 := by
  induction n with
  | zero => omega
  | succ n ih =>
    have hpos : 0 < 16 ^ i := Nat.pow_pos (by decide)
    rw [dadjSum]
    by_cases hn : i = n
    · subst hn
      rw [Nat.add_mul_div_right _ _ hpos, Nat.div_eq_of_lt (dadjSum_lt w ncy i)]
      omega
    · obtain ⟨k, rfl⟩ : ∃ k, n = i + 1 + k := ⟨n - i - 1, by omega⟩
      have hsplit : dadjDigit w ncy (i + 1 + k) (dadjCar w ncy (i + 1 + k)) % 16 * 16 ^ (i + 1 + k) =
          16 * (dadjDigit w ncy (i + 1 + k) (dadjCar w ncy (i + 1 + k)) % 16 * 16 ^ k) * 16 ^ i := by ring
      rw [hsplit, Nat.add_mul_div_right _ _ hpos, Nat.add_mul_mod_self_left]
      exact ih (by omega)

/-- The word that DADJ gives, and its flags. -/
theorem dadj_eq (a : CpArch) (w : Word) : a.dadj w = (BitVec.ofNat 64 (dadjSum w.toNat a.ncy 16),
    (a.setFlag flZ (decide (BitVec.ofNat 64 (dadjSum w.toNat a.ncy 16) = 0))).setFlag flC
      (bitOf a.ncy 15 || decide (dadjCar w.toNat a.ncy 16 = 1))) := by
  have hloop : dadjLoop w.toNat a.ncy 16 0 0 0 = (dadjSum w.toNat a.ncy 16, dadjCar w.toNat a.ncy 16) := dadjLoop_eq w.toNat a.ncy 16 0
  simp only [CpArch.dadj, hloop]
  rfl

theorem toNat_dadjSum (w : Nat) (ncy : BitVec 16) : (BitVec.ofNat 64 (dadjSum w ncy 16)).toNat = dadjSum w ncy 16 :=
  (BitVec.toNat_ofNat _ _).trans (Nat.mod_eq_of_lt (lt_of_lt_of_eq (dadjSum_lt w ncy 16) (by norm_num)))

theorem dadjDigits : Sys2Proof.Clauses.DadjDigits := by
  intro s f c0 c r h
  refine ⟨BitVec.ofNat 64 (dadjSum (f.g c r).toNat (f.cp c).a.ncy 16), dadjCar (f.g c r).toNat (f.cp c).a.ncy, rfl, fun i hi => ?_,
    exec_modA h rfl rfl rfl ?_⟩
  · rw [toNat_dadjSum, nbits_digit, nbits_digit, dadjSum_digit _ _ hi]
    exact ⟨rfl, rfl⟩
  · simp only [dadj_eq]
    rfl

/-! ### Packed-decimal values -/

theorem decVal_succ (i x : Nat) : decVal (i + 1) x = decVal i x + 10 ^ i * (x / 16 ^ i % 16) := by
  induction i generalizing x with
  | zero => simp [decVal]
  | succ i ih =>
    rw [decVal, ih (x / 16), decVal, Nat.div_div_eq_div_mul, ← Nat.pow_succ', pow_succ' 10 i]
    ring

theorem decOf_succ (i v : Nat) : decOf (i + 1) v = decOf i v + 16 ^ i * (v / 10 ^ i % 10) := by
  induction i generalizing v with
  | zero => simp [decOf]
  | succ i ih =>
    rw [decOf, ih (v / 10), decOf, Nat.div_div_eq_div_mul, ← Nat.pow_succ', pow_succ' 16 i]
    ring

/-- The low digits of a number do not see what is added above them. -/
theorem decOf_add_pow (i v u : Nat) : decOf i (v + 10 ^ i * u) = decOf i v := by
  induction i generalizing v with
  | zero => rfl
  | succ i ih =>
    have hsplit : v + 10 ^ (i + 1) * u = v + 10 * (10 ^ i * u) := by ring
    rw [decOf, decOf, hsplit, Nat.add_mul_mod_self_left, Nat.add_mul_div_left _ _ (by decide), ih]

theorem decOk_digit {n x i : Nat} (h : decOk n x = true) (hi : i < n) : x / 16 ^ i % 16 < 10 := by
  induction n generalizing x i with
  | zero => omega
  | succ n ih =>
    simp only [decOk, Bool.and_eq_true, decide_eq_true_eq] at h
    cases i with
    | zero => simpa using h.1
    | succ i =>
      have hd := ih h.2 (Nat.lt_of_succ_lt_succ hi)
      rwa [Nat.div_div_eq_div_mul, ← Nat.pow_succ'] at hd

/-! ### The binary sum -/

/-- The carry into a nibble of a binary addition (R97). -/
def binCarry (x y i : Nat) : Nat := if 16 ^ i ≤ x % 16 ^ i + y % 16 ^ i then 1 else 0

theorem binCarry_zero (x y : Nat) : binCarry x y 0 = 0 := by simp [binCarry, Nat.mod_one]

/-- A nibble of the sum, with the carry into it. -/
theorem sum_digit (x y i : Nat) : (x + y) / 16 ^ i % 16 = (x / 16 ^ i % 16 + y / 16 ^ i % 16 + binCarry x y i) % 16 := by
  rw [Nat.add_div (Nat.pow_pos (by decide)), binCarry]
  omega

/-- The carry out of a nibble. -/
theorem binCarry_succ (x y i : Nat) :
    binCarry x y (i + 1) = if 16 ≤ x / 16 ^ i % 16 + y / 16 ^ i % 16 + binCarry x y i then 1 else 0 := by
  have hpos : 0 < 16 ^ i := Nat.pow_pos (by decide)
  have hlow : (x % 16 ^ i + y % 16 ^ i) / 16 ^ i = binCarry x y i := by
    have hx := Nat.mod_lt x hpos
    have hy := Nat.mod_lt y hpos
    unfold binCarry
    split
    · exact Nat.div_eq_of_lt_le (by omega) (by omega)
    · exact Nat.div_eq_of_lt (by omega)
  have hsum : (x % 16 ^ (i + 1) + y % 16 ^ (i + 1)) / 16 ^ i = x / 16 ^ i % 16 + y / 16 ^ i % 16 + binCarry x y i := by
    have hsplit : x % 16 ^ (i + 1) + y % 16 ^ (i + 1) = x % 16 ^ i + y % 16 ^ i + 16 ^ i * (x / 16 ^ i % 16 + y / 16 ^ i % 16) := by
      rw [Nat.mod_pow_succ, Nat.mod_pow_succ]
      ring
    rw [hsplit, Nat.add_mul_div_left _ _ hpos, hlow, Nat.add_comm]
  have hle : 16 ^ (i + 1) ≤ x % 16 ^ (i + 1) + y % 16 ^ (i + 1) ↔ 16 ≤ x / 16 ^ i % 16 + y / 16 ^ i % 16 + binCarry x y i := by
    rw [← hsum, Nat.le_div_iff_mul_le hpos, Nat.pow_succ']
  rw [binCarry]
  simp only [hle]

/-! ### The decimal sum -/

/-- One digit: the carry of the decimal sum is that of the binary one or that of DADJ, never both, and the digit is corrected to it. -/
theorem decimal_digit {d e b car : Nat} (hd : d < 10) (he : e < 10) (hk : b + car ≤ 1) :
    let n := (d + e + b) % 16 + car
    let m := if (if 16 ≤ d + e + b then 1 else 0) = 1 ∨ 9 < n then n + 6 else n
    m % 16 = (d + e + (b + car)) % 10 ∧
      (d + e + (b + car)) / 10 = (if 16 ≤ d + e + b then 1 else 0) + if 16 ≤ m then 1 else 0 := by
  intro n m
  by_cases hb : 16 ≤ d + e + b
  · have hm : m = n + 6 := if_pos (.inl (if_pos hb))
    rw [hm, if_pos hb, if_neg (by omega)]
    omega
  · by_cases h9 : 9 < n
    · have hm : m = n + 6 := if_pos (.inr h9)
      rw [hm, if_neg hb, if_pos (by omega)]
      omega
    · have hm : m = n := if_neg (by simp [hb, h9])
      rw [hm, if_neg hb, if_neg (by omega)]
      omega

section
variable {x y w : Nat} {ncy : BitVec 16}

/-- DADJ of a binary sum with its nibble carries: at every place the corrected digits are those of the decimal sum, and the carry of that sum
is the binary carry or the one of DADJ. -/
theorem dadjSum_decimal (hx : decOk 16 x = true) (hy : decOk 16 y = true) (hw : ∀ i < 16, w / 16 ^ i % 16 = (x + y) / 16 ^ i % 16)
    (hncy : ∀ i < 16, bitOf ncy i = true ↔ binCarry x y (i + 1) = 1) {i : Nat} (hi : i ≤ 16) :
    decOf i (decVal i x + decVal i y) = dadjSum w ncy i ∧
      (decVal i x + decVal i y) / 10 ^ i = binCarry x y i + dadjCar w ncy i ∧ binCarry x y i + dadjCar w ncy i ≤ 1 := by
  induction i with
  | zero => simp [decOf, dadjSum, decVal, binCarry_zero, dadjCar]
  | succ i ih =>
    obtain ⟨hsum, hcarry, hone⟩ := ih (by omega)
    have hpos : 0 < 10 ^ i := Nat.pow_pos (by decide)
    have hdx := decOk_digit hx (Nat.lt_of_succ_le hi)
    have hdy := decOk_digit hy (Nat.lt_of_succ_le hi)
    have hval : decVal (i + 1) x + decVal (i + 1) y = decVal i x + decVal i y + 10 ^ i * (x / 16 ^ i % 16 + y / 16 ^ i % 16) := by
      rw [decVal_succ, decVal_succ]
      ring
    have htop : (decVal (i + 1) x + decVal (i + 1) y) / 10 ^ i =
        x / 16 ^ i % 16 + y / 16 ^ i % 16 + (binCarry x y i + dadjCar w ncy i) := by
      rw [hval, Nat.add_mul_div_left _ _ hpos, hcarry, Nat.add_comm]
    obtain ⟨hdig, hcar⟩ := decimal_digit hdx hdy hone
    have hm : dadjDigit w ncy i (dadjCar w ncy i) = _ := if_congr (or_congr (hncy i (Nat.lt_of_succ_le hi)) Iff.rfl) rfl rfl
    rw [hw i (Nat.lt_of_succ_le hi), sum_digit, binCarry_succ] at hm
    rw [← hm] at hdig hcar
    have hdiv : (decVal (i + 1) x + decVal (i + 1) y) / 10 ^ (i + 1) = binCarry x y (i + 1) + dadjCar w ncy (i + 1) := by
      rw [Nat.pow_succ, ← Nat.div_div_eq_div_mul, htop, hcar, binCarry_succ, dadjCar]
    refine ⟨?_, hdiv, ?_⟩
    · rw [decOf_succ, htop, ← hdig, hval, decOf_add_pow, hsum, dadjSum, Nat.mul_comm]
    · rw [← hdiv, Nat.pow_succ, ← Nat.div_div_eq_div_mul, htop]
      omega

end

/-- A nibble of a word is that of the number that it truncates. -/
theorem digit_mod {i : Nat} (v : Nat) (hi : i < 16) : v % 2 ^ 64 / 16 ^ i % 16 = v / 16 ^ i % 16 := by
  obtain ⟨k, hk⟩ : ∃ k, 16 = i + (k + 1) := ⟨15 - i, by omega⟩
  have hpow : 2 ^ 64 = 16 ^ i * 16 ^ (k + 1) := by
    rw [← Nat.pow_add, ← hk]
    norm_num
  rw [hpow, Nat.mod_mul_right_div_self, Nat.mod_mod_of_dvd _ (Dvd.intro_left (16 ^ k) (pow_succ 16 k).symm)]

/-- A nibble carry of an addition with no carry-in. -/
theorem flagsAdd_ncy (a : CpArch) (x y : Word) {i : Nat} (hi : i < 16) :
    bitOf (a.flagsAdd x y false).2.ncy i = true ↔ binCarry x.toNat y.toNat (i + 1) = 1 := by
  have hbit := bitOf_nibbleCarries x y false hi
  have hpow : 2 ^ (4 * i + 4) = 16 ^ (i + 1) := two_pow_four_mul (i + 1)
  refine (Bool.eq_iff_iff.mp hbit).trans ?_
  rw [hpow, decide_eq_true_eq, binCarry, Bool.toNat_false, Nat.add_zero]
  split <;> simp_all

theorem decimalSum : Sys2Proof.Clauses.DecimalSum := by
  intro a x y hx hy q r
  have hq : q.1.toNat = (x.toNat + y.toNat) % 2 ^ 64 := by simp [q]
  have hw : ∀ i < 16, q.1.toNat / 16 ^ i % 16 = (x.toNat + y.toNat) / 16 ^ i % 16 := fun i hi => by rw [hq, digit_mod _ hi]
  have hncy : ∀ i < 16, bitOf q.2.ncy i = true ↔ binCarry x.toNat y.toNat (i + 1) = 1 := fun i hi => flagsAdd_ncy a x y hi
  obtain ⟨hsum, hcarry, hone⟩ := dadjSum_decimal hx hy hw hncy (Nat.le_refl 16)
  have hr : r = _ := dadj_eq q.2 q.1
  have hval : decVal 16 x.toNat + decVal 16 y.toNat = (decVal 16 x.toNat + decVal 16 y.toNat) % 10 ^ 16 +
      10 ^ 16 * ((decVal 16 x.toNat + decVal 16 y.toNat) / 10 ^ 16) := (Nat.mod_add_div _ _).symm
  rw [hr]
  refine ⟨?_, ?_, ?_, fun k hC hZ => ?_, rfl⟩
  · rw [toNat_dadjSum, ← hsum]
    conv_lhs => rw [hval, decOf_add_pow]
  · have hover : 10 ^ 16 ≤ decVal 16 x.toNat + decVal 16 y.toNat ↔
        1 ≤ binCarry x.toNat y.toNat 16 + dadjCar q.1.toNat q.2.ncy 16 := by
      rw [← hcarry, Nat.le_div_iff_mul_le (by decide), Nat.one_mul]
    have hlast : bitOf q.2.ncy 15 = true ↔ binCarry x.toNat y.toNat 16 = 1 := hncy 15 (by decide)
    rw [flag_setFlag_self _ _ (by decide), Bool.or_eq_true, hlast, decide_eq_true_eq, hover]
    omega
  · rw [flag_setFlag_ne _ _ (by decide), flag_setFlag_self _ _ (by decide), decide_eq_true_eq]
  · rw [flag_setFlag_ne _ _ hC, flag_setFlag_ne _ _ hZ]

/-- Settles O5: digit by digit, and the decimal sum of two packed-decimal words. -/
theorem decimalAdjust : Obligations.DecimalAdjust := ⟨dadjDigits, decimalSum⟩

end Sys2Proof.Machine
end

section
/-! SUPPORT. The F and V registers (R72): a V register is eight F registers, the first lowest. -/

namespace Sys2Proof.Machine

/-! ### Words side by side -/

/-- The number of the first n words, the first lowest. -/
def wordSum (F : Nat → Nat) : Nat → Nat
  | 0 => 0
  | n + 1 => wordSum F n + 2 ^ (64 * n) * F n

theorem wordSum_congr {F G : Nat → Nat} {n : Nat} (h : ∀ i < n, F i = G i) : wordSum F n = wordSum G n := by
  induction n with
  | zero => rfl
  | succ n ih => rw [wordSum, wordSum, ih (fun i hi => h i (Nat.lt_succ_of_lt hi)), h n (Nat.lt_succ_self n)]

theorem wordSum_lt {F : Nat → Nat} (hF : ∀ i, F i < 2 ^ 64) (n : Nat) : wordSum F n < 2 ^ (64 * n) := by
  induction n with
  | zero => exact Nat.one_pos
  | succ n ih =>
    have hmul := Nat.mul_le_mul_left (2 ^ (64 * n)) (Nat.le_sub_one_of_lt (hF n))
    have hpow : 2 ^ (64 * (n + 1)) = 2 ^ (64 * n) + 2 ^ (64 * n) * (2 ^ 64 - 1) := by
      rw [Nat.mul_succ, Nat.pow_add]
      omega
    rw [wordSum]
    omega

/-- A word of such a number. -/
theorem nbits_wordSum {F : Nat → Nat} (hF : ∀ i, F i < 2 ^ 64) {j n : Nat} (h : j < n) : nbits (wordSum F n) (64 * j) 64 = F j := by
  induction n with
  | zero => omega
  | succ n ih =>
    have hpos : 0 < 2 ^ (64 * j) := Nat.two_pow_pos _
    rw [nbits, wordSum]
    by_cases hn : j = n
    · subst hn
      rw [Nat.add_mul_div_left _ _ hpos, Nat.div_eq_of_lt (wordSum_lt hF j), Nat.zero_add, Nat.mod_eq_of_lt (hF j)]
    · obtain ⟨k, rfl⟩ : ∃ k, n = j + 1 + k := ⟨n - j - 1, by omega⟩
      have hsplit : 2 ^ (64 * (j + 1 + k)) * F (j + 1 + k) = 2 ^ (64 * j) * (2 ^ 64 * (2 ^ (64 * k) * F (j + 1 + k))) := by
        rw [Nat.mul_add, Nat.mul_add, Nat.pow_add, Nat.pow_add]
        ring
      rw [hsplit, Nat.add_mul_div_left _ _ hpos, Nat.add_mul_mod_self_left]
      exact ih (by omega)

/-- The words of a number give it back. -/
theorem wordSum_words (x n : Nat) : wordSum (fun i => x / 2 ^ (64 * i) % 2 ^ 64) n = x % 2 ^ (64 * n) := by
  induction n with
  | zero => rw [Nat.mul_zero, Nat.pow_zero, Nat.mod_one]; rfl
  | succ n ih => rw [wordSum, ih, Nat.mul_succ, Nat.pow_add, Nat.mod_mul]

theorem leNat_append (a b : List Byte) : leNat (a ++ b) = leNat a + 256 ^ a.length * leNat b := by
  induction a with
  | nil => simp [leNat]
  | cons x a ih =>
    rw [List.cons_append, leNat, leNat, ih, List.length_cons, Nat.pow_succ']
    ring

/-- The bytes of words, one word after the other. -/
theorem leNat_words {F : Nat → Nat} (hF : ∀ i, F i < 2 ^ 64) (n : Nat) :
    leNat ((List.range n).flatMap (fun i => leBytes 8 (F i))) = wordSum F n := by
  induction n with
  | zero => rfl
  | succ n ih =>
    have hlen : ((List.range n).flatMap (fun i => leBytes 8 (F i))).length = 8 * n := by
      simp [List.length_flatMap, leBytes_length, Nat.mul_comm]
    have hpow : 256 ^ (8 * n) = 2 ^ (64 * n) := by rw [Nat.pow_mul, Nat.pow_mul]
    rw [List.range_succ, List.flatMap_append, leNat_append, ih, hlen, hpow, wordSum, List.flatMap_singleton, leNat_leBytes,
      Nat.mod_eq_of_lt (lt_of_lt_of_eq (hF n) (by norm_num))]

/-! ### V registers -/

/-- The number of F register i of a CP, the one that the bytes of a V register give. -/
def State.fNum (s : State) (c : CpId) (i : Nat) : Nat := ((s.cp c).a.f[i]!).toNat

theorem fNum_lt (s : State) (c : CpId) (i : Nat) : s.fNum c i < 2 ^ 64 := ((s.cp c).a.f[i]!).isLt

theorem fNum_eq (s : State) (c : CpId) {i : Nat} (h : i < 64) : s.fNum c i = (s.f c ⟨i, h⟩).toNat :=
  congrArg BitVec.toNat (getElem!_pos (s.cp c).a.f i h)

section
variable {s t : State} {c : CpId} {m : Nat}

/-- A V register is its eight F registers (R72). -/
theorem vNum_eq (s : State) (c : CpId) (h : m < 8) : s.vNum c m = wordSum (fun i => s.fNum c (8 * m + i)) 8 := by
  have hmod : m % 8 = m := Nat.mod_eq_of_lt h
  have hv : s.vNum c m = wordSum (fun i => s.fNum c (8 * (m % 8) + i)) 8 := leNat_words (fun _ => fNum_lt s c _) 8
  rwa [hmod] at hv

theorem nbits_vNum (s : State) (c : CpId) (h : m < 8) {j : Nat} (hj : j < 8) :
    nbits (s.vNum c m) (64 * j) 64 = (s.f c ⟨8 * m + j, by omega⟩).toNat := by
  rw [vNum_eq s c h, nbits_wordSum (fun _ => fNum_lt s c _) hj, fNum_eq]

theorem vNum_congr (h : m < 8) (hf : ∀ j : Fin 64, j.val / 8 = m → t.f c j = s.f c j) : t.vNum c m = s.vNum c m := by
  rw [vNum_eq t c h, vNum_eq s c h]
  refine wordSum_congr fun i hi => ?_
  rw [fNum_eq t c (by omega), fNum_eq s c (by omega), hf _ (show (8 * m + i) / 8 = m by omega)]

end

/-- An F register after a write of one. -/
theorem f_setF (s : State) (c : CpId) (k : Fin 64) (w : Word) (j : Fin 64) : (s.setF c k w).f c j = if k = j then w else s.f c j := by
  simp only [State.setF, State.f, cp_modA, Vector.getElem_set, Fin.ext_iff]

/-- An F register after a write of consecutive ones. -/
theorem foldl_set_getElem (g : Nat → Word) (f : Vector Word 64) (base n : Nat) {j : Nat} (hj : j < 64) :
    ((List.range n).foldl (fun v i => v.set! (base + i) (g i)) f)[j] = if base ≤ j ∧ j < base + n then g (j - base) else f[j] := by
  induction n with
  | zero => rw [if_neg (by omega)]; rfl
  | succ n ih =>
    rw [List.range_succ, List.foldl_concat, Vector.getElem_set! hj, ih]
    by_cases h : base + n = j
    · subst h
      rw [if_pos rfl, if_pos (by omega), Nat.add_sub_cancel_left]
    · have hiff : base ≤ j ∧ j < base + (n + 1) ↔ base ≤ j ∧ j < base + n := by omega
      rw [if_neg h]
      simp only [hiff]

theorem f_setV (s : State) (c : CpId) (n : Fin 8) (x : Nat) (j : Fin 64) :
    (s.modA c (fun a => a.setV n.val x)).f c j =
      if j.val / 8 = n.val then BitVec.ofNat 64 (x / 2 ^ (64 * (j.val - 8 * n.val))) else s.f c j := by
  have hmod : n.val % 8 = n.val := Nat.mod_eq_of_lt n.isLt
  have hiff : 8 * n.val ≤ j.val ∧ j.val < 8 * n.val + 8 ↔ j.val / 8 = n.val := by omega
  simp only [State.f, cp_modA, CpArch.setV, hmod]
  rw [foldl_set_getElem _ _ _ _ j.isLt]
  simp only [hiff]

/-- Settles O6: what a write of an F and of a V register leaves of the F registers, and so of the V registers. -/
theorem fAndVRegistersOverlap : Obligations.FAndVRegistersOverlap := by
  intro s c k n w x
  refine ⟨⟨?_, ?_, fun j hj hne => ?_, fun m hm hne => ?_, fun j hne => ?_, ?_, fun e he => cp_modCp_ne s _ he, rfl⟩,
    ?_, fun j => ?_, fun j hne => ?_, fun m hm hne => ?_, ?_, fun e he => cp_modCp_ne s _ he, rfl⟩
  · rw [f_setF, if_pos rfl]
  · rw [nbits_vNum _ _ (by omega) (by omega), f_setF, if_pos (Fin.ext (by simp only; omega))]
  · rw [nbits_vNum _ _ (by omega) hj, nbits_vNum _ _ (by omega) hj, f_setF, if_neg (by rw [Fin.ext_iff]; simp only; omega)]
  · exact vNum_congr hm fun j hj => by rw [f_setF, if_neg (by rintro rfl; exact hne hj.symm)]
  · rw [f_setF, if_neg (Ne.symm hne)]
  · rw [State.setF, cp_modA]
  · have hwords : ∀ i < 8, (s.modA c (fun a => a.setV n.val x)).fNum c (8 * n.val + i) = x / 2 ^ (64 * i) % 2 ^ 64 := by
      intro i hi
      rw [fNum_eq _ _ (by omega), f_setV, if_pos (by simp only; omega), BitVec.toNat_ofNat]
      simp only [Nat.add_sub_cancel_left]
    rw [vNum_eq _ _ n.isLt, wordSum_congr hwords, wordSum_words]
  · rw [f_setV, if_pos (by simp only; omega)]
    simp only [Nat.add_sub_cancel_left]
  · rw [f_setV, if_neg hne]
  · exact vNum_congr hm fun j hj => by rw [f_setV, if_neg (by rw [hj]; exact hne)]
  · simp only [cp_modA, CpArch.setV]

end Sys2Proof.Machine
end

section
/-! SUPPORT. CALLOC and CFREE (R138, R139, R153), and where a range is placed. -/

namespace Sys2Proof.Machine

/-! ### Where a range is placed -/

theorem roundUp_le (lo e : Nat) : lo ≤ (lo + 2 ^ e - 1) / 2 ^ e * 2 ^ e := by
  have hpos : 0 < 2 ^ e := Nat.two_pow_pos e
  have hmod := Nat.mod_add_div' (lo + 2 ^ e - 1) (2 ^ e)
  have hlt := Nat.mod_lt (lo + 2 ^ e - 1) hpos
  omega

/-- A range that fits starts at or above the lowest place asked for, ends below the bound, is aligned and meets no fixed window (R116, R138,
R339). -/
theorem heapFit_placed {n e hi fuel lo a : Nat} (h : heapFit n e hi fuel lo = some a) :
    lo ≤ a ∧ a + n ≤ hi ∧ a % 2 ^ e = 0 ∧ ∀ w ∈ fixedWindows, a + n ≤ w.1 ∨ w.1 + w.2 ≤ a := by
  induction fuel generalizing lo with
  | zero => exact nomatch h
  | succ fuel ih =>
    have hlo := roundUp_le lo e
    rw [heapFit] at h
    generalize hstart : (lo + 2 ^ e - 1) / 2 ^ e * 2 ^ e = start at h hlo
    split at h
    · exact nomatch h
    · next hbound =>
      split at h
      · obtain ⟨hle, hrest⟩ := ih h
        have hblock := Nat.lt_div_mul_add (a := start) (Nat.two_pow_pos (e + 16))
        rw [Nat.add_mul, Nat.one_mul] at hle
        exact ⟨by omega, hrest⟩
      · split at h
        · next w hw =>
          obtain ⟨hle, hrest⟩ := ih h
          have hmeets := List.find?_some hw
          simp only [Bool.and_eq_true, decide_eq_true_eq] at hmeets
          exact ⟨by omega, hrest⟩
        · next hnone =>
          cases h
          refine ⟨hlo, by omega, by rw [← hstart, Nat.mul_mod_left], fun w hw => ?_⟩
          have hclear := List.find?_eq_none.mp hnone w hw
          simp only [Bool.and_eq_true, decide_eq_true_eq] at hclear
          omega

/-- A request that is granted fits above the bump pointer, or inside a range given back. -/
theorem heapTake_fits {x y : Part} {win : Nat × Nat} {n base : Nat} (h : x.heapTake win n = some (base, y)) :
    ∃ e, exactExp n = some e ∧ (heapFit n e win.2 8 (max x.bump win.1) = some base ∨
      ∃ r ∈ x.reuse, heapFit n e (min (r.1 + r.2) win.2) 8 (max r.1 win.1) = some base) := by
  unfold Part.heapTake at h
  split at h
  · exact nomatch h
  · next e he =>
    refine ⟨e, he, ?_⟩
    simp only at h
    split at h
    · next r a hreuse =>
      obtain ⟨q, hq, hfit⟩ := List.exists_of_findSome?_eq_some hreuse
      simp only [Option.map_eq_some_iff, Prod.mk.injEq] at hfit
      obtain ⟨b, hb, rfl, rfl⟩ := hfit
      cases h
      exact .inr ⟨q, hq, hb⟩
    · split at h
      · next a hfit =>
        cases h
        exact .inl hfit
      · exact nomatch h

theorem heapRangePlaced : Sys2Proof.Clauses.HeapRangePlaced := by
  intro x y win n base _ h
  obtain ⟨e, he, hfit | ⟨r, hr, hfit⟩⟩ := heapTake_fits h
  · obtain ⟨hlo, hhi, halign, hclear⟩ := heapFit_placed hfit
    exact ⟨by omega, hhi, ⟨e, he, halign⟩, hclear, .inl (by omega)⟩
  · obtain ⟨hlo, hhi, halign, hclear⟩ := heapFit_placed hfit
    exact ⟨by omega, by omega, ⟨e, he, halign⟩, hclear, .inr ⟨r, hr, by omega, by omega⟩⟩

/-! ### The instructions -/

@[simp] theorem cnt_cp (s : State) (fld : Fld) (n : Nat) (c : CpId) : (s.cnt fld n).cp c = s.cp c := by
  unfold State.cnt
  split <;> rfl

/-- CFREE with nothing outstanding and room in the next set gives the range back and clears the tag of K[a] (R139, R140). -/
theorem doCfree_frees {f : State} {c : CpId} {a : Reg} (htag : (f.k c a).tag = true) (hseal : (f.k c a).otype = 0)
    (hperm : (f.k c a).has permAlloc = true) (hlo : (f.heapWin ((f.cpPart c).getD 0)).1 ≤ (f.k c a).base)
    (hhi : (f.k c a).top ≤ (f.heapWin ((f.cpPart c).getD 0)).2)
    (hquar : (f.part ((f.cpPart c).getD 0)).inQuarantine ((f.k c a).base, (f.k c a).top - (f.k c a).base) = false)
    (hempty : (f.cp c).vq.entries = []) (hpend : (f.cp c).vq.pend = false) (hroom : (f.part ((f.cpPart c).getD 0)).qFull = false) :
    doCfree a f c = .next ((f.cfree ((f.cpPart c).getD 0) (f.k c a).base (f.k c a).top).modA c (fun v => { v with
      k := v.k.set a.val { ((f.cfree ((f.cpPart c).getD 0) (f.k c a).base (f.k c a).top).k c a) with tag := false } })) := by
  have hwin : ¬ ((f.k c a).base < (f.heapWin ((f.cpPart c).getD 0)).1 ∨ (f.heapWin ((f.cpPart c).getD 0)).2 < (f.k c a).top ∨
      (f.part ((f.cpPart c).getD 0)).inQuarantine ((f.k c a).base, (f.k c a).top - (f.k c a).base) = true) := by
    rintro (hbase | htop | hmeets)
    · omega
    · omega
    · exact Bool.false_ne_true (hquar.symm.trans hmeets)
  simp only [doCfree, htag, hseal, hperm, hwin, modVq_close_empty hempty, hempty, hpend, hroom, List.isEmpty_nil, Bool.not_true,
    Bool.false_eq_true, ne_eq, not_true_eq_false, if_false]
  rfl

theorem heapResults : Sys2Proof.Clauses.HeapResults := by
  intro s f c0 c d a b
  refine ⟨fun base x k htag hseal hperm hg0 hg htake hlo hhi hcap h => ?_,
    ⟨fun htag hseal hperm hlo hhi hquar hempty hpend hroom hc => ⟨fun h => ?_, fun hlead hst hrun hf => ?_⟩,
    fun hlead hst => ?_⟩⟩
  · refine exec_next_modA h rfl rfl ?_ (by rw [cnt_cp]; exact (calm_of_starts h : (f.cp c).calm))
    have hrange : ¬ ((f.g c a).toNat = 0 ∨ 2 ^ 40 < (f.g c a).toNat) := by
      rintro (h0 | hbig)
      · exact hg0 (BitVec.eq_of_toNat_eq h0)
      · omega
    have hin : ¬ (base < (f.k c b).base ∨ (f.k c b).top < base + ((f.g c a).toNat + 65535) / 65536 * 65536) := by omega
    simp only [htag, hseal, hperm, hrange, htake, hin, hcap, Bool.not_true, Bool.false_eq_true, ne_eq, not_true_eq_false, if_false]
    rfl
  · exact exec_next_modA h rfl rfl (doCfree_frees htag hseal hperm hlo hhi hquar hempty hpend hroom) hc
  · subst hlead
    show execCfreeResume c0 s = _
    have hflow := doCfree_frees htag hseal hperm hlo hhi hquar hempty hpend hroom
    simp only [execCfreeResume, hst, hrun, ← hf, hflow]
    exact congrArg Host.Outcome.next (finish_modA _ _ _ _ hc)
  · subst hlead
    show execCfreeResume c0 s = _
    simp only [execCfreeResume]
    split
    · next h _ => exact (hst _ h).elim
    · rfl

/-- Settles O20: the instructions, and where a range is placed. -/
theorem heapAllocationResults : Obligations.HeapAllocationResults := ⟨heapResults, heapRangePlaced⟩

end Sys2Proof.Machine
end

section
/-! SUPPORT. An event leaves the partitions (R366, R420 to R435, R519 to R521): it changes registers, CPs, the event router and, where a
checkpoint compare rolls back, memory. -/

namespace Sys2Proof.Machine

@[simp] theorem State.cnt_parts (s : State) (fld : Fld) (n : Nat) : (s.cnt fld n).parts = s.parts := by
  unfold State.cnt
  split <;> rfl

@[simp] theorem State.inject_parts (s : State) (point unit : Nat) : (s.inject point unit).2.parts = s.parts := by
  unfold State.inject
  split <;> rfl

section
variable {ck : PartId → State → State} (hck : ∀ p s, (ck p s).parts = s.parts)
include hck

theorem State.consume_parts (s : State) (n : Nat) : (s.consume ck n).parts = s.parts := by
  have hs := Eq.refl s.parts
  have hmodE : ∀ u, (s.modE u).parts = s.parts := fun u => State.modE_parts ..
  unfold State.consume
  refine dite_keeps State.parts (fun _ => ite_keeps State.parts (State.modCp_parts ..) hs) fun _ => ite_keeps State.parts (hmodE _)
    (ite_keeps State.parts (ite_keeps State.parts (hmodE _) hs) (dite_keeps State.parts (fun _ => hck _ s) fun _ =>
      ite_keeps State.parts (hmodE _) (ite_keeps State.parts (hmodE _) (ite_keeps State.parts ?_ ?_))))
  · exact (State.setReg_parts ..).trans ((State.wr_parts ..).trans (State.wr_parts ..))
  · exact ite_keeps State.parts (hmodE _) (ite_keeps State.parts (hmodE _) (ite_keeps State.parts (hmodE _) hs))

theorem State.deliver_parts (s : State) (n : Nat) : (s.deliver ck n).parts = s.parts :=
  ite_keeps State.parts (ite_keeps State.parts (State.cnt_parts ..) rfl) (State.consume_parts hck s n)

end

theorem State.flagChan_parts (s : State) (k : Nat) (coin : Bool) : (s.flagChan k coin).parts = s.parts := by
  refine foldl_keeps State.parts (fun s c => ?_) _ s
  split <;> rfl

theorem State.chanEvent_parts (s : State) (k : Fin 64) : (s.chanEvent k).2.parts = s.parts := by
  unfold State.chanEvent
  dsimp only
  split_ifs <;> simp [State.modChan, State.chanPass, State.cntSat, State.flagChan_parts]

theorem State.groupEvent_parts (s : State) (srcs : List Nat) : (s.groupEvent srcs).parts = s.parts := by
  refine foldl_keeps State.parts (fun s g => ?_) _ s
  dsimp only
  split_ifs
  · exact (foldl_keeps State.parts (fun _ _ => by rfl) _ _).trans rfl
  · rfl
  · rfl

theorem State.route_parts {ck : PartId → State → State} (hck : ∀ p s, (ck p s).parts = s.parts) (s : State) (line : Nat) :
    (s.route ck line).parts = s.parts := by
  have hdel : ∀ (l : List Nat) (s : State), (l.foldl (State.deliver ck) s).parts = s.parts :=
    foldl_keeps State.parts (State.deliver_parts hck)
  unfold State.route
  dsimp only
  refine ite_keeps State.parts (State.cnt_parts ..) ?_
  rw [State.groupEvent_parts, foldl_keeps State.parts (fun s k => hdel _ s), hdel]
  exact foldl_keeps (fun r : List (Fin 64) × State => r.2.parts) (fun r k => State.chanEvent_parts r.2 k) _ _

theorem State.bucketWith_parts {fire : State → Nat → State} (hf : ∀ s n, (fire s n).parts = s.parts) (s : State) (b n : Nat) :
    (s.bucketWith fire b n).parts = s.parts := by
  unfold State.bucketWith
  dsimp only
  split <;> simp [hf]

theorem State.bucket0_parts (s : State) (b n : Nat) : (s.bucket0 b n).parts = s.parts := by
  refine State.bucketWith_parts (fun s n => State.route_parts (fun p s => ?_) s n) s b n
  dsimp only
  split <;> simp

theorem State.detLost_parts (s : State) (code : Nat) (cs : List CpId) : (s.detLost code cs).parts = s.parts := by
  refine foldl_keeps State.parts (fun s c => ?_) _ s
  dsimp only
  split <;> rfl

theorem State.rollback_parts (s : State) (c : CpId) (kind wh : Nat) : (s.rollback State.bucket0 c kind wh).parts = s.parts := by
  unfold State.rollback
  extract_lets cl p u v w x
  have hu : u.parts = s.parts := foldl_keeps State.parts (fun s e => by cases e <;> rfl) _ s
  have hv : v.parts = u.parts := State.modCp_parts ..
  have hw : w.parts = v.parts := (State.wr_parts ..).trans ((State.wr_parts ..).trans (State.cnt_parts ..))
  have hx : x.parts = w.parts := (State.detLost_parts ..).trans (State.bucket0_parts ..)
  have h : x.parts = s.parts := hx.trans (hw.trans (hv.trans hu))
  clear_value x
  exact ite_keeps State.parts ((State.wr_parts ..).trans ((State.modCp_parts ..).trans h)) h

theorem State.checkpointPart_parts (p : PartId) (s : State) : (State.checkpointPart p s).parts = s.parts := by
  refine foldl_keeps State.parts (fun s c => ?_) _ s
  unfold State.checkpointWith State.compareWith
  dsimp only
  split_ifs <;> simp [State.rollback_parts, State.lstepSave]

/-- A line that fires leaves the partitions. -/
theorem State.fire_parts (s : State) (line : Nat) : (s.fire line).parts = s.parts := State.route_parts State.checkpointPart_parts s line

end Sys2Proof.Machine
end

section
/-! SUPPORT. The issue of a long-vector instruction (R163, R176, R217). -/

namespace Sys2Proof.Machine

/-- Whether a cluster runs Lockstep is a matter of the partitions alone (R41). -/
theorem lockstepCl_congr {s t : State} (h : t.parts = s.parts) (cl : ClusterId) : t.lockstepCl cl = s.lockstepCl cl := by
  simp only [State.lockstepCl, State.partOf, State.part, h]

theorem vqSettle_parts (s : State) (c : CpId) : (s.vqSettle c).parts = s.parts := by
  unfold State.vqSettle State.vqRetire
  refine ite_keeps State.parts rfl (ite_keeps State.parts (ite_keeps State.parts ?_ rfl) rfl)
  exact (State.fire_parts ..).trans (State.modCp_parts ..)

/-- An entry that is queued leaves the partitions. -/
theorem enqueue_parts (s : State) (c : CpId) (e : VEntry) : (s.enqueue c e).parts = s.parts := by
  unfold State.enqueue
  extract_lets q group able joins split r now entry rs
  have hsplit : split.parts = s.parts := by
    refine ite_keeps State.parts ?_ rfl
    cases s.cpPart c
    · rfl
    · exact State.cnt_parts ..
  exact (vqSettle_parts ..).trans ((State.modCp_parts ..).trans ((State.inject_parts ..).trans hsplit))

section
variable {f g : State} {c : CpId} {op : Nat} {v : VecFields} {im : ImmOut} {l : List (Strm × DReg)}

/-- A long-vector instruction whose immediate decodes is not reserved (R111). -/
theorem longReserved_of_issues (h : f.vecIssues c op v im l g) : longReserved op v = false := by
  obtain ⟨r, hrow, hdec, -⟩ := h
  simp [longReserved, hrow, hdec]

/-- One that passes its checks and finds room is queued (R163, R203, R217). -/
theorem doIssue_issues (h : f.vecIssues c op v im l g) : doIssue op v f c = .next (g.enqueue c (f.vecEntry g c op v im l)) := by
  obtain ⟨r, hrow, hdec, hpoison, hl, hform, hcap, hroom, hsaving, hscalar, hpass, hsplit⟩ := h
  subst hl
  simp only [doIssue, State.vecEntry, State.vecStreams, hrow, hdec] at hpoison hform hcap hroom hsaving hscalar hpass ⊢
  generalize (if op = 0x0E0 then (f.d c v.da).fields.toNat + 1 else if op = 0x0E1 then (f.d c v.dd).fields.toNat + 1 else 1) = run at *
  generalize f.readDs c ((streamsOf r im op v run).map (·.num)) = rd at *
  have hfull : ¬ (32 ≤ (rd.2.cp c).vq.entries.length ∨ (rd.2.cp c).vq.saving.isSome = true) := by
    simp only [hsaving, Option.isSome_none, Bool.false_eq_true, or_false]
    omega
  have hcompare : rd.2.compareWith State.bucket c 1 (f.cp c).a.pc.toNat = (false, g) := hpass
  have hqueued : ∀ e, nextSaved (g.enqueue c e) c 4 = .next (g.enqueue c e) := fun e =>
    if_neg (by rw [lockstepCl_congr (enqueue_parts g c e), hsplit]; exact Bool.false_ne_true)
  simp only [hform, hcap, hpoison, hfull, hscalar, hcompare, hqueued, Bool.false_eq_true, if_false]

end

/-- A long-vector instruction that is issued is queued, and its CP goes on. -/
theorem issue_issues {s f g : State} {c0 c : CpId} {op : Nat} {v : VecFields} {im : ImmOut} {l : List (Strm × DReg)} {x : Instr}
    (hx : exec x s = .next (issue op c0 v s)) (h : s.starts c0 c (iVec op v [] []) f) (hi : f.vecIssues c op v im l g)
    (hc : ((g.enqueue c (f.vecEntry g c op v im l)).cp c).calm) :
    exec x s = .next ((g.enqueue c (f.vecEntry g c op v im l)).ran c 4 id) := by
  have hrun : exec x s = .next (s.runInsn c0 (iVec op v [] []) (doIssue op v)) :=
    exec_of_insn hx (by rw [longReserved_of_issues hi, reserve_false])
  exact exec_next h hrun rfl (doIssue_issues hi) hc

/-- Settles O27: every long-vector instruction is an issue by its number. -/
theorem vectorIssueResults : Obligations.VectorIssueResults := by
  intro s f g c0 c v im l p hp h hi hc
  refine issue_issues ?_ h hi hc
  clear h hi hc
  revert p
  simp only [List.forall_mem_cons, List.not_mem_nil, false_implies, implies_true, and_true]
  repeat' apply And.intro
  all_goals rfl

end Sys2Proof.Machine
end

section
/-! SUPPORT. Every command and every tick keeps what `Keeps` lists, the canonical form of the sparse maps among it. -/

namespace Sys2Proof.Machine

theorem keeps_of_next {z t : State} {o : Out} (h : Out.Keeps z o) (ho : o = .next t) : Keeps z t := by
  subst ho
  exact h

/-- A command keeps what its meaning keeps. -/
theorem exec_keeps {z s : State} (hs : Keeps z s) : ∀ i : Instr, Out.Keeps z (exec i s)
  | .vauxPowerUp _ => execVauxPowerUp_keeps hs
  | .vauxPowerLoss => execVauxPowerLoss_keeps hs
  | .sysRstLAssert => execSysRstLAssert_keeps hs
  | .glitchDetection => execGlitchDetection_keeps hs
  | .clockMonitorTrip => execClockMonitorTrip_keeps hs
  | .glitchBackoffExpiry => execGlitchBackoffExpiry_keeps hs
  | .rindClockValid => execRindClockValid_keeps hs
  | .railEnable _ _ => execRailEnable_keeps hs
  | .railNeverReady => execRailNeverReady_keeps hs
  | .railPowerUpRetry => execRailPowerUpRetry_keeps hs
  | .nearTrainingDone _ _ => execNearTrainingDone_keeps hs
  | .cellarTrainingDone _ => execCellarTrainingDone_keeps hs
  | .moduleWatchdogWarning => execModuleWatchdogWarning_keeps hs
  | .moduleWatchdogExpiry => execModuleWatchdogExpiry_keeps hs
  | .fuseReread => execFuseReread_keeps hs
  | .structDrainWrite _ => execStructDrainWrite_keeps hs
  | .partitionDrained _ => execPartitionDrained_keeps hs
  | .structLiveApply _ => execStructLiveApply_keeps hs
  | .liveApplyFlashDone _ => execLiveApplyFlashDone_keeps hs
  | .mov _ _ _ => execMov_keeps hs
  | .add _ _ _ => execAdd_keeps hs
  | .sub _ _ _ => execSub_keeps hs
  | .and _ _ _ => execAnd_keeps hs
  | .or _ _ _ => execOr_keeps hs
  | .xor _ _ _ => execXor_keeps hs
  | .adc _ _ _ => execAdc_keeps hs
  | .sbc _ _ _ => execSbc_keeps hs
  | .cmp _ _ _ => execCmp_keeps hs
  | .shl _ _ _ => execShl_keeps hs
  | .shr _ _ _ => execShr_keeps hs
  | .sar _ _ _ => execSar_keeps hs
  | .mvgf _ _ _ => execMvgf_keeps hs
  | .mvfg _ _ _ => execMvfg_keeps hs
  | .not _ _ => execNot_keeps hs
  | .neg _ _ => execNeg_keeps hs
  | .dadj _ _ => execDadj_keeps hs
  | .clz _ _ => execClz_keeps hs
  | .ctz _ _ => execCtz_keeps hs
  | .popc _ _ => execPopc_keeps hs
  | .sextb _ _ => execSextb_keeps hs
  | .sexth _ _ => execSexth_keeps hs
  | .zexth _ _ => execZexth_keeps hs
  | .bswap _ _ => execBswap_keeps hs
  | .nop _ => execNop_keeps hs
  | .syncc _ => execSyncc_keeps hs
  | .vsync _ => execVsync_keeps hs
  | .vsyncComplete _ => execVsyncComplete_keeps hs
  | .retx _ => execRetx_keeps hs
  | .chkpt _ => execChkpt_keeps hs
  | .waitIrq _ => execWait_keeps hs
  | .waitEnd _ => execWaitEnd_keeps hs
  | .lock _ _ => execLock_keeps hs
  | .lockWindowTimeout _ => execLockWindowTimeout_keeps hs
  | .setb _ _ => execSetb_keeps hs
  | .clrb _ _ => execClrb_keeps hs
  | .tglb _ _ => execTglb_keeps hs
  | .tstb _ _ => execTstb_keeps hs
  | .add3 _ _ _ _ _ => execAdd3_keeps hs
  | .sub3 _ _ _ _ _ => execSub3_keeps hs
  | .and3 _ _ _ _ _ => execAnd3_keeps hs
  | .or3 _ _ _ _ _ => execOr3_keeps hs
  | .xor3 _ _ _ _ _ => execXor3_keeps hs
  | .shl3 _ _ _ _ _ => execShl3_keeps hs
  | .shr3 _ _ _ _ _ => execShr3_keeps hs
  | .sar3 _ _ _ _ _ => execSar3_keeps hs
  | .mul _ _ _ _ _ => execMul_keeps hs
  | .mulhu _ _ _ _ _ => execMulhu_keeps hs
  | .mulhs _ _ _ _ _ => execMulhs_keeps hs
  | .idstep _ _ _ _ _ => execIdstep_keeps hs
  | .dadd _ _ _ _ _ => execDadd_keeps hs
  | .dsub _ _ _ _ _ => execDsub_keeps hs
  | .pack _ _ _ _ _ => execPack_keeps hs
  | .unpk _ _ _ _ _ => execUnpk_keeps hs
  | .addi _ _ _ => execAddi_keeps hs
  | .andi _ _ _ => execAndi_keeps hs
  | .ori _ _ _ => execOri_keeps hs
  | .xori _ _ _ => execXori_keeps hs
  | .movi _ _ _ => execMovi_keeps hs
  | .cmpi _ _ _ => execCmpi_keeps hs
  | .shiShl _ _ _ _ _ => execShiShl_keeps hs
  | .shiShr _ _ _ _ _ => execShiShr_keeps hs
  | .shiSar _ _ _ _ _ => execShiSar_keeps hs
  | .shiRor _ _ _ _ _ => execShiRor_keeps hs
  | .ldb _ _ _ _ => execLdb_keeps hs
  | .ldh _ _ _ _ => execLdh_keeps hs
  | .ldhs _ _ _ _ => execLdhs_keeps hs
  | .ldw _ _ _ _ => execLdw_keeps hs
  | .stb _ _ _ _ => execStb_keeps hs
  | .sth _ _ _ _ => execSth_keeps hs
  | .stw _ _ _ _ => execStw_keeps hs
  | .storeRelease _ => execStoreRelease_keeps hs
  | .ldf _ _ _ _ => execLdf_keeps hs
  | .stf _ _ _ _ => execStf_keeps hs
  | .ldk _ _ _ _ => execLdk_keeps hs
  | .stk _ _ _ _ => execStk_keeps hs
  | .ldl _ _ _ _ => execLdl_keeps hs
  | .stc _ _ _ _ => execStc_keeps hs
  | .ldd _ _ _ _ => execLdd_keeps hs
  | .std _ _ _ _ => execStd_keeps hs
  | .inPort _ _ _ _ => execInPort_keeps hs
  | .inResponse _ => execInResponse_keeps hs
  | .outPort _ _ _ _ => execOutPort_keeps hs
  | .movc _ _ _ _ => execMovc_keeps hs
  | .movcr _ _ _ _ => execMovcr_keeps hs
  | .kmov _ _ _ _ => execKmov_keeps hs
  | .kadd _ _ _ _ => execKadd_keeps hs
  | .kbnd _ _ _ _ => execKbnd_keeps hs
  | .kmask _ _ _ _ => execKmask_keeps hs
  | .klock _ _ _ _ => execKlock_keeps hs
  | .kopen _ _ _ _ => execKopen_keeps hs
  | .krdc _ _ _ _ => execKrdc_keeps hs
  | .krdb _ _ _ _ => execKrdb_keeps hs
  | .krdl _ _ _ _ => execKrdl_keeps hs
  | .krdp _ _ _ _ => execKrdp_keeps hs
  | .krdt _ _ _ _ => execKrdt_keeps hs
  | .krdv _ _ _ _ => execKrdv_keeps hs
  | .calloc _ _ _ _ => execCalloc_keeps hs
  | .cfree _ _ _ _ => execCfree_keeps hs
  | .cfreeResume _ => execCfreeResume_keeps hs
  | .kpcc _ _ _ _ => execKpcc_keeps hs
  | .kdrop _ _ _ _ => execKdrop_keeps hs
  | .band _ _ _ => execBand_keeps hs
  | .bor _ _ _ => execBor_keeps hs
  | .bxor _ _ _ => execBxor_keeps hs
  | .bmov _ _ _ => execBmov_keeps hs
  | .loopSetup _ _ _ => execLoop_keeps hs
  | .br _ _ => execBr_keeps hs
  | .brD _ _ => execBrD_keeps hs
  | .call _ _ => execCall_keeps hs
  | .callD _ _ => execCallD_keeps hs
  | .jr _ _ _ _ => execJr_keeps hs
  | .jrD _ _ _ _ => execJrD_keeps hs
  | .callr _ _ _ _ => execCallr_keeps hs
  | .callrD _ _ _ _ => execCallrD_keeps hs
  | .trap _ _ _ _ _ => execTrap_keeps hs
  | .bbc _ _ _ => execBbc_keeps hs
  | .bbcD _ _ _ => execBbcD_keeps hs
  | .bbs _ _ _ => execBbs_keeps hs
  | .bbsD _ _ _ => execBbsD_keeps hs
  | .movi32 _ _ _ _ _ => execMovi32_keeps hs
  | .movhi32 _ _ _ _ _ => execMovhi32_keeps hs
  | .addi32 _ _ _ _ _ => execAddi32_keeps hs
  | .andi32 _ _ _ _ _ => execAndi32_keeps hs
  | .ori32 _ _ _ _ _ => execOri32_keeps hs
  | .xori32 _ _ _ _ _ => execXori32_keeps hs
  | .cmpi32 _ _ _ _ _ => execCmpi32_keeps hs
  | .setbx _ _ _ _ _ => execSetbx_keeps hs
  | .clrbx _ _ _ _ _ => execClrbx_keeps hs
  | .tglbx _ _ _ _ _ => execTglbx_keeps hs
  | .tstbx _ _ _ _ _ => execTstbx_keeps hs
  | .bandx _ _ _ _ _ => execBandx_keeps hs
  | .borx _ _ _ _ _ => execBorx_keeps hs
  | .bxorx _ _ _ _ _ => execBxorx_keeps hs
  | .bmovx _ _ _ _ _ => execBmovx_keeps hs
  | .bbcx _ _ _ _ _ => execBbcx_keeps hs
  | .bbcxD _ _ _ _ _ => execBbcxD_keeps hs
  | .bbsx _ _ _ _ _ => execBbsx_keeps hs
  | .bbsxD _ _ _ _ _ => execBbsxD_keeps hs
  | .jmpa _ _ _ _ _ => execJmpa_keeps hs
  | .calla _ _ _ _ _ => execCalla_keeps hs
  | .mvgfx _ _ _ _ _ => execMvgfx_keeps hs
  | .mvfgx _ _ _ _ _ => execMvfgx_keeps hs
  | .inx _ _ _ _ _ => execInx_keeps hs
  | .outx _ _ _ _ _ => execOutx_keeps hs
  | .pramDataWrite _ _ => execPramDataWrite_keeps hs
  | .timerMatch _ _ => execTimerMatch_keeps hs
  | .interruptAccept _ => execInterruptAccept_keeps hs
  | .entryTakeover _ => execEntryTakeover_keeps hs
  | .cpReset _ => execCpReset_keeps hs
  | .cpDoorbell _ _ => execCpDoorbell_keeps hs
  | .wdgCtlWrite _ _ => execWdgCtlWrite_keeps hs
  | .wdgKick _ _ => execWdgKick_keeps hs
  | .wdgWarning _ => execWdgWarning_keeps hs
  | .wdgExpiry _ => execWdgExpiry_keeps hs
  | .vfadd _ _ => execVfadd_keeps hs
  | .vfsub _ _ => execVfsub_keeps hs
  | .vfmul _ _ => execVfmul_keeps hs
  | .vfmin _ _ => execVfmin_keeps hs
  | .vfmax _ _ => execVfmax_keeps hs
  | .vfabs _ _ => execVfabs_keeps hs
  | .vfneg _ _ => execVfneg_keeps hs
  | .vfcpys _ _ => execVfcpys_keeps hs
  | .vfma _ _ => execVfma_keeps hs
  | .vfms _ _ => execVfms_keeps hs
  | .vfnma _ _ => execVfnma_keeps hs
  | .vfnms _ _ => execVfnms_keeps hs
  | .vfcvt _ _ => execVfcvt_keeps hs
  | .vfcvti _ _ => execVfcvti_keeps hs
  | .vicvtf _ _ => execVicvtf_keeps hs
  | .vadd _ _ => execVadd_keeps hs
  | .vsub _ _ => execVsub_keeps hs
  | .vadds _ _ => execVadds_keeps hs
  | .vsubs _ _ => execVsubs_keeps hs
  | .vmul _ _ => execVmul_keeps hs
  | .vmulh _ _ => execVmulh_keeps hs
  | .vmin _ _ => execVmin_keeps hs
  | .vmax _ _ => execVmax_keeps hs
  | .vand _ _ => execVand_keeps hs
  | .vor _ _ => execVor_keeps hs
  | .vxor _ _ => execVxor_keeps hs
  | .vandn _ _ => execVandn_keeps hs
  | .vnot _ _ => execVnot_keeps hs
  | .vshl _ _ => execVshl_keeps hs
  | .vshr _ _ => execVshr_keeps hs
  | .vsar _ _ => execVsar_keeps hs
  | .vabs _ _ => execVabs_keeps hs
  | .vneg _ _ => execVneg_keeps hs
  | .vpopc _ _ => execVpopc_keeps hs
  | .vclz _ _ => execVclz_keeps hs
  | .vsel _ _ => execVsel_keeps hs
  | .vcvti _ _ => execVcvti_keeps hs
  | .vmov _ _ => execVmov_keeps hs
  | .vfill _ _ => execVfill_keeps hs
  | .viota _ _ => execViota_keeps hs
  | .vwmul _ _ => execVwmul_keeps hs
  | .vwma _ _ => execVwma_keeps hs
  | .vdot4 _ _ => execVdot4_keeps hs
  | .vdot4su _ _ => execVdot4su_keeps hs
  | .vfdot2 _ _ => execVfdot2_keeps hs
  | .vcmpeq _ _ => execVcmpeq_keeps hs
  | .vcmpne _ _ => execVcmpne_keeps hs
  | .vcmplt _ _ => execVcmplt_keeps hs
  | .vcmple _ _ => execVcmple_keeps hs
  | .vcmpgt _ _ => execVcmpgt_keeps hs
  | .vcmpge _ _ => execVcmpge_keeps hs
  | .vcmpun _ _ => execVcmpun_keeps hs
  | .vtest _ _ => execVtest_keeps hs
  | .vcompress _ _ => execVcompress_keeps hs
  | .vexpand _ _ => execVexpand_keeps hs
  | .vgather _ _ => execVgather_keeps hs
  | .vscatter _ _ => execVscatter_keeps hs
  | .vrev _ _ => execVrev_keeps hs
  | .vlds _ _ => execVlds_keeps hs
  | .vsts _ _ => execVsts_keeps hs
  | .vrsum _ _ => execVrsum_keeps hs
  | .vrmin _ _ => execVrmin_keeps hs
  | .vrmax _ _ => execVrmax_keeps hs
  | .vrand _ _ => execVrand_keeps hs
  | .vror _ _ => execVror_keeps hs
  | .vrxor _ _ => execVrxor_keeps hs
  | .vrsumo _ _ => execVrsumo_keeps hs
  | .vrcnt _ _ => execVrcnt_keeps hs
  | .vrfirst _ _ => execVrfirst_keeps hs
  | .vrsumd _ _ => execVrsumd_keeps hs
  | .vdadd _ _ => execVdadd_keeps hs
  | .vdsub _ _ => execVdsub_keeps hs
  | .vdaddc _ _ => execVdaddc_keeps hs
  | .vdsubc _ _ => execVdsubc_keeps hs
  | .vdshl _ _ => execVdshl_keeps hs
  | .vdshr _ _ => execVdshr_keeps hs
  | .vdmul1 _ _ => execVdmul1_keeps hs
  | .vcvtbd _ _ => execVcvtbd_keeps hs
  | .vcvtdb _ _ => execVcvtdb_keeps hs
  | .vidstep _ _ => execVidstep_keeps hs
  | .vfrseed _ _ => execVfrseed_keeps hs
  | .vfrstep _ _ => execVfrstep_keeps hs
  | .vfrsqseed _ _ => execVfrsqseed_keeps hs
  | .vfrsqstep _ _ => execVfrsqstep_keeps hs
  | .vddstep _ _ => execVddstep_keeps hs
  | .vectorIssueResume _ => execVectorIssueResume_keeps hs
  | .svfadd _ _ => execSvfadd_keeps hs
  | .svfsub _ _ => execSvfsub_keeps hs
  | .svfmul _ _ => execSvfmul_keeps hs
  | .svfmin _ _ => execSvfmin_keeps hs
  | .svfmax _ _ => execSvfmax_keeps hs
  | .svfabs _ _ => execSvfabs_keeps hs
  | .svfneg _ _ => execSvfneg_keeps hs
  | .svfcpys _ _ => execSvfcpys_keeps hs
  | .svfma _ _ => execSvfma_keeps hs
  | .svfms _ _ => execSvfms_keeps hs
  | .svfnma _ _ => execSvfnma_keeps hs
  | .svfnms _ _ => execSvfnms_keeps hs
  | .svfcvt _ _ => execSvfcvt_keeps hs
  | .svfcvti _ _ => execSvfcvti_keeps hs
  | .svicvtf _ _ => execSvicvtf_keeps hs
  | .svadd _ _ => execSvadd_keeps hs
  | .svsub _ _ => execSvsub_keeps hs
  | .svadds _ _ => execSvadds_keeps hs
  | .svsubs _ _ => execSvsubs_keeps hs
  | .svmul _ _ => execSvmul_keeps hs
  | .svmulh _ _ => execSvmulh_keeps hs
  | .svmin _ _ => execSvmin_keeps hs
  | .svmax _ _ => execSvmax_keeps hs
  | .svand _ _ => execSvand_keeps hs
  | .svor _ _ => execSvor_keeps hs
  | .svxor _ _ => execSvxor_keeps hs
  | .svandn _ _ => execSvandn_keeps hs
  | .svnot _ _ => execSvnot_keeps hs
  | .svshl _ _ => execSvshl_keeps hs
  | .svshr _ _ => execSvshr_keeps hs
  | .svsar _ _ => execSvsar_keeps hs
  | .svabs _ _ => execSvabs_keeps hs
  | .svneg _ _ => execSvneg_keeps hs
  | .svpopc _ _ => execSvpopc_keeps hs
  | .svclz _ _ => execSvclz_keeps hs
  | .svsel _ _ => execSvsel_keeps hs
  | .svcvti _ _ => execSvcvti_keeps hs
  | .svmov _ _ => execSvmov_keeps hs
  | .svfill _ _ => execSvfill_keeps hs
  | .sviota _ _ => execSviota_keeps hs
  | .svcmpeq _ _ => execSvcmpeq_keeps hs
  | .svcmpne _ _ => execSvcmpne_keeps hs
  | .svcmplt _ _ => execSvcmplt_keeps hs
  | .svcmple _ _ => execSvcmple_keeps hs
  | .svcmpgt _ _ => execSvcmpgt_keeps hs
  | .svcmpge _ _ => execSvcmpge_keeps hs
  | .svcmpun _ _ => execSvcmpun_keeps hs
  | .svtest _ _ => execSvtest_keeps hs
  | .svrsum _ _ => execSvrsum_keeps hs
  | .svrmin _ _ => execSvrmin_keeps hs
  | .svrmax _ _ => execSvrmax_keeps hs
  | .svrand _ _ => execSvrand_keeps hs
  | .svror _ _ => execSvror_keeps hs
  | .svrxor _ _ => execSvrxor_keeps hs
  | .svrsumo _ _ => execSvrsumo_keeps hs
  | .svrcnt _ _ => execSvrcnt_keeps hs
  | .svrfirst _ _ => execSvrfirst_keeps hs
  | .svrsumd _ _ => execSvrsumd_keeps hs
  | .svld _ _ => execSvld_keeps hs
  | .svst _ _ => execSvst_keeps hs
  | .svperm _ _ => execSvperm_keeps hs
  | .svbcast _ _ => execSvbcast_keeps hs
  | .svdot4 _ _ => execSvdot4_keeps hs
  | .svwmul _ _ => execSvwmul_keeps hs
  | .dsetc _ _ => execDsetc_keeps hs
  | .dseto _ _ => execDseto_keeps hs
  | .dsets _ _ => execDsets_keeps hs
  | .dsetf _ _ => execDsetf_keeps hs
  | .dadv _ _ => execDadv_keeps hs
  | .dget _ _ => execDget_keeps hs
  | .dgetc _ _ => execDgetc_keeps hs
  | .dcopy _ _ => execDcopy_keeps hs
  | .chainWaitExpiry _ => execChainWaitExpiry_keeps hs
  | .stripDispatch _ => execStripDispatch_keeps hs
  | .stealWaitExpiry _ => execStealWaitExpiry_keeps hs
  | .stripCommit _ _ => execStripCommit_keeps hs
  | .stripFault _ _ => execStripFault_keeps hs
  | .vectorQueueFreeze _ => execVectorQueueFreeze_keeps hs
  | .vqResume _ => execVqResume_keeps hs
  | .vqFlush _ => execVqFlush_keeps hs
  | .vqStop _ => execVqStop_keeps hs
  | .vqStopDone _ => execVqStopDone_keeps hs
  | .vqStart _ => execVqStart_keeps hs
  | .vsave _ _ => execVsave_keeps hs
  | .vrestore _ _ => execVrestore_keeps hs
  | .vqDiscard _ _ => execVqDiscard_keeps hs
  | .pipePark _ => execPipePark_keeps hs
  | .leadExpiry _ => execLeadExpiry_keeps hs
  | .rampEnd _ => execRampEnd_keeps hs
  | .ldadvReadbackFault _ => execLdadvReadbackFault_keeps hs
  | .granuleZeroed _ => execGranuleZeroed_keeps hs
  | .sweepEpochClose => execSweepEpochClose_keeps hs
  | .sweepNow => execSweepNow_keeps hs
  | .heatPeriodEnd => execHeatPeriodEnd_keeps hs
  | .migrationStart _ _ => execMigrationStart_keeps hs
  | .migrationCopyDone _ _ => execMigrationCopyDone_keeps hs
  | .migrationRelease _ _ => execMigrationRelease_keeps hs
  | .pgHintNear _ => execPgHintNear_keeps hs
  | .pgHintCold _ => execPgHintCold_keeps hs
  | .pgHintNone _ => execPgHintNone_keeps hs
  | .pgHintLayout _ _ _ _ => execPgHintLayout_keeps hs
  | .pgHintPrefault _ => execPgHintPrefault_keeps hs
  | .pgHintGuard _ => execPgHintGuard_keeps hs
  | .pgHintUnguard _ => execPgHintUnguard_keeps hs
  | .pgHintComplete _ => execPgHintComplete_keeps hs
  | .shootdownComplete _ => execShootdownComplete_keeps hs
  | .heapWindowWrite _ _ _ => execHeapWindowWrite_keeps hs
  | .nearRefresh _ _ _ => execNearRefresh_keeps hs
  | .refreshManagement _ _ _ => execRefreshManagement_keeps hs
  | .calibrationSlot _ _ _ _ => execCalibrationSlot_keeps hs
  | .writeLevellingTrigger _ => execWriteLevellingTrigger_keeps hs
  | .wlNow _ => execWlNow_keeps hs
  | .stackTemperatureRead _ _ => execStackTemperatureRead_keeps hs
  | .calDeferLimit _ _ => execCalDeferLimit_keeps hs
  | .cellarCalibrationSlot _ _ => execCellarCalibrationSlot_keeps hs
  | .dimmTemperatureRead _ _ _ => execDimmTemperatureRead_keeps hs
  | .commandParityReissue _ _ => execCommandParityReissue_keeps hs
  | .flitForward _ _ _ => execFlitForward_keeps hs
  | .gridWriteback _ => execGridWriteback_keeps hs
  | .scrubStep _ => execScrubStep_keeps hs
  | .arrayScrub _ _ => execArrayScrub_keeps hs
  | .bucketLeakTick _ => execBucketLeakTick_keeps hs
  | .bktCfgWrite _ _ => execBktCfgWrite_keeps hs
  | .injArm => execInjArm_keeps hs
  | .injDisarm => execInjDisarm_keeps hs
  | .injectionFire => execInjectionFire_keeps hs
  | .rawAccess => execRawAccess_keeps hs
  | .fabricTransaction _ _ => execFabricTransaction_keeps hs
  | .fabricResponse _ _ => execFabricResponse_keeps hs
  | .fabricTimeout _ _ => execFabricTimeout_keeps hs
  | .rateGateReopen _ => execRateGateReopen_keeps hs
  | .latchDelivery _ => execLatchDelivery_keeps hs
  | .evtSwtrig _ => execEvtSwtrig_keeps hs
  | .evtCommitGo => execEvtCommitGo_keeps hs
  | .evtCommitDone => execEvtCommitDone_keeps hs
  | .evtOutPulseEnd _ => execEvtOutPulseEnd_keeps hs
  | .evtInEdge _ _ => execEvtInEdge_keeps hs
  | .gpioEdge _ _ => execGpioEdge_keeps hs
  | .frameReceive _ => execFrameReceive_keeps hs
  | .arpRequest _ => execArpRequest_keeps hs
  | .neighbourSolicitation _ => execNeighbourSolicitation_keeps hs
  | .icmpEcho _ => execIcmpEcho_keeps hs
  | .pauseFrame _ _ _ _ => execPauseFrame_keeps hs
  | .receiveQueueFlowControl _ _ => execReceiveQueueFlowControl_keeps hs
  | .ptpMessage _ _ => execPtpMessage_keeps hs
  | .ptpSecondBoundary => execPtpSecondBoundary_keeps hs
  | .ptpStep _ => execPtpStep_keeps hs
  | .linkStateChange _ _ _ _ _ => execLinkStateChange_keeps hs
  | .kwtOpen _ => execKwtOpen_keeps hs
  | .kwtClose _ => execKwtClose_keeps hs
  | .sessionCloseComplete _ => execSessionCloseComplete_keeps hs
  | .kwtWrite _ => execKwtWrite_keeps hs
  | .kwtRead _ => execKwtRead_keeps hs
  | .readRespPiece _ => execReadRespPiece_keeps hs
  | .kwtSubmit _ => execKwtSubmit_keeps hs
  | .kwtMgmt _ => execKwtMgmt_keeps hs
  | .kwtUpdate _ => execKwtUpdate_keeps hs
  | .kwtAck _ => execKwtAck_keeps hs
  | .ackDelayExpiry _ => execAckDelayExpiry_keeps hs
  | .retransmissionTimeout _ _ => execRetransmissionTimeout_keeps hs
  | .sessCtlWrite _ _ => execSessCtlWrite_keeps hs
  | .tokenBind _ => execTokenBind_keeps hs
  | .tokenUnbind _ _ => execTokenUnbind_keeps hs
  | .notifyQueue _ _ => execNotifyQueue_keeps hs
  | .notifySend _ => execNotifySend_keeps hs
  | .dmaDescriptorQueue _ _ => execDmaDescriptorQueue_keeps hs
  | .dmaDescriptorStart _ => execDmaDescriptorStart_keeps hs
  | .dmaDescriptorComplete _ => execDmaDescriptorComplete_keeps hs
  | .deResume _ => execDeResume_keeps hs
  | .deFlush _ => execDeFlush_keeps hs
  | .cuValWrite _ _ => execCuValWrite_keeps hs
  | .mbxRequest => execMbxRequest_keeps hs
  | .autoConfirmExpiry => execAutoConfirmExpiry_keeps hs
  | .telemetryPoll _ => execTelemetryPoll_keeps hs
  | .estimatorUpdate _ _ => execEstimatorUpdate_keeps hs
  | .avsbusSetpointWrite _ _ _ => execAvsbusSetpointWrite_keeps hs
  | .clockRaise _ => execClockRaise_keeps hs
  | .vrrdyFall _ => execVrrdyFall_keeps hs
  | .vrrdyLowTimeout _ => execVrrdyLowTimeout_keeps hs
  | .vrrdyRise _ => execVrrdyRise_keeps hs
  | .remoteSenseOpen _ => execRemoteSenseOpen_keeps hs
  | .droopTrip _ => execDroopTrip_keeps hs
  | .droopHoldEnd _ => execDroopHoldEnd_keeps hs
  | .powerEstimate _ => execPowerEstimate_keeps hs
  | .powerClockStepDown => execPowerClockStepDown_keeps hs
  | .powerClockStepUp => execPowerClockStepUp_keeps hs
  | .excursionLimit => execExcursionLimit_keeps hs
  | .thermalConversion _ => execThermalConversion_keeps hs
  | .throttleStepDown _ => execThrottleStepDown_keeps hs
  | .throttleStepUp _ => execThrottleStepUp_keeps hs
  | .monitorSample _ => execMonitorSample_keeps hs
  | .shedLevelRise => execShedLevelRise_keeps hs
  | .shedLevelFall => execShedLevelFall_keeps hs
  | .shed7Exit => execShed7Exit_keeps hs
  | .finalCheckpointAbandon => execFinalCheckpointAbandon_keeps hs
  | .shedFloorWrite _ => execShedFloorWrite_keeps hs
  | .sleepRequest _ => execSleepRequest_keeps hs
  | .sleepEntryComplete => execSleepEntryComplete_keeps hs
  | .wake => execWake_keeps hs
  | .wakeTimerExpiry => execWakeTimerExpiry_keeps hs
  | .uboriLinkUp _ => execUboriLinkUp_keeps hs
  | .uboriLinkDown => execUboriLinkDown_keeps hs
  | .uboriLinkRetrain _ => execUboriLinkRetrain_keeps hs
  | .uboriRetransmit => execUboriRetransmit_keeps hs
  | .helloFrame _ _ _ => execHelloFrame_keeps hs
  | .heartbeatSend => execHeartbeatSend_keeps hs
  | .heartbeatFrame _ => execHeartbeatFrame_keeps hs
  | .pairHbOutToggle => execPairHbOutToggle_keeps hs
  | .mirrorCheckpointCut => execMirrorCheckpointCut_keeps hs
  | .ckptBegin _ => execCkptBegin_keeps hs
  | .pageFrame _ => execPageFrame_keeps hs
  | .stateFrame _ => execStateFrame_keeps hs
  | .ckptEnd _ => execCkptEnd_keeps hs
  | .ckptDone _ => execCkptDone_keeps hs
  | .checkpointShip => execCheckpointShip_keeps hs
  | .inputFrame _ => execInputFrame_keeps hs
  | .sigFrame _ => execSigFrame_keeps hs
  | .verdictFrame _ => execVerdictFrame_keeps hs
  | .holdFrame _ => execHoldFrame_keeps hs
  | .releaseFrame _ => execReleaseFrame_keeps hs
  | .ctlFailover _ => execCtlFailover_keeps hs
  | .ctlSleepReq _ => execCtlSleepReq_keeps hs
  | .ctlSleepAck _ => execCtlSleepAck_keeps hs
  | .ctlSleepRefuse _ => execCtlSleepRefuse_keeps hs
  | .ctlWake _ => execCtlWake_keeps hs
  | .ctlApply _ => execCtlApply_keeps hs
  | .linkack _ => execLinkack_keeps hs
  | .heartbeatSuspicion => execHeartbeatSuspicion_keeps hs
  | .witnessRenew => execWitnessRenew_keeps hs
  | .witnessReply _ => execWitnessReply_keeps hs
  | .fence => execFence_keeps hs
  | .fullResync => execFullResync_keeps hs
  | .ckptNow => execCkptNow_keeps hs
  | .resync => execResync_keeps hs
  | .restart => execRestart_keeps hs
  | .relinquish => execRelinquish_keeps hs
  | .twdPacket _ => execTwdPacket_keeps hs
  | .lineReset => execLineReset_keeps hs
  | .twdAttach _ => execTwdAttach_keeps hs
  | .debugHalt _ => execDebugHalt_keeps hs
  | .debugResume _ => execDebugResume_keeps hs
  | .debugStep _ => execDebugStep_keeps hs
  | .dbgRegdataAccess _ _ _ => execDbgRegdataAccess_keeps hs
  | .tracePacketOut _ => execTracePacketOut_keeps hs
  | .traceCfgWrite _ _ => execTraceCfgWrite_keeps hs
  | .sidebandProbe _ _ => execSidebandProbe_keeps hs
  | .sidebandTransaction _ _ => execSidebandTransaction_keeps hs
  | .sb7StatusBlock => execSb7StatusBlock_keeps hs
  | .sb7IdkHash => execSb7IdkHash_keeps hs
  | .outputReadbackFault _ => execOutputReadbackFault_keeps hs
  | .vinmonOpenDetect => execVinmonOpenDetect_keeps hs
  | .readClear _ _ _ => execReadClear_keeps hs
  | .registerWrite _ _ _ => execRegisterWrite_keeps hs
  | .sysRstLRelease => execSysRstLRelease_keeps hs
  | .pairHbInEdge => execPairHbInEdge_keeps hs
  | .partnerSilentSinceBoot => execPartnerSilentSinceBoot_keeps hs
  | .moduleWatchdogReload => execModuleWatchdogReload_keeps hs
  | .cpWaitOnVectorEnd _ => execCpWaitOnVectorEnd_keeps hs
  | .sameBankRefresh _ _ => execSameBankRefresh_keeps hs
  | .pauseTimeExpiry _ _ => execPauseTimeExpiry_keeps hs
  | .ldadvZeroHoldEnd _ => execLdadvZeroHoldEnd_keeps hs
theorem canonical_tick {s : State} (h : s.canonical = true) : s.tick.canonical = true := by
  obtain ⟨t, hk, ht⟩ := State.tick_keeps s
  rw [ht]
  exact hk.canon h

/-- Settles O59: a step is a tick on an empty queue, and else the command in front on the rest of the queue. -/
theorem stepsKeepCanonicalForm : Obligations.StepsKeepCanonicalForm := by
  intro s t hs hstep
  cases hp : s.pending with
  | nil =>
    simp only [step, hp] at hstep
    exact Host.Outcome.next.inj hstep ▸ canonical_tick hs
  | cons c rest =>
    rw [step_of_pending hp] at hstep
    exact (keeps_of_next (exec_keeps (Keeps.refl { s with pending := rest }) c) hstep).canon hs

end Sys2Proof.Machine
end

section
/-! SUPPORT. The capability operations that make no access (R117, R125, R126). -/

namespace Sys2Proof.Machine

section
variable {s f : State} {c0 c : CpId} {a d : Reg} {i : Insn} {x : Instr} {body : State → CpId → Flow} {g : State → CpId → Cap → Flow} {v : Cap}

/-- The body sets a K register. -/
theorem exec_setK (h : s.starts c0 c i f) (hx : exec x s = .next (s.runInsn c0 i body)) (hn : i.len = 2) (hb : body f c = .next (f.setK c d v)) :
    exec x s = .next (f.ran c 2 (fun y => { y with k := y.k.set d.val v })) := exec_modA h hx hn hb rfl

/-- A modifying operation goes on where K[a] is not both tagged and sealed (R125). -/
theorem unlessSealed_open (h : ¬ ((f.k c a).tag = true ∧ (f.k c a).otype ≠ 0)) (g : Cap → Flow) : unlessSealed f c a g = g (f.k c a) := if_neg h

/-- A modifying operation whose checks pass sets K[d]. -/
theorem exec_unlessSealed (h : s.starts c0 c i f) (hx : exec x s = .next (s.runInsn c0 i (fun s c => unlessSealed s c a (g s c)))) (hn : i.len = 2)
    (hopen : ¬ ((f.k c a).tag = true ∧ (f.k c a).otype ≠ 0)) (hg : g f c (f.k c a) = .next (f.setK c d v)) :
    exec x s = .next (f.ran c 2 (fun y => { y with k := y.k.set d.val v })) :=
  exec_setK h hx hn ((unlessSealed_open hopen _).trans hg)

end

/-- Settles O18: each operation sets K[d] or G[d] once its checks pass. -/
theorem capabilityResults : Obligations.CapabilityResults := by
  intro s f c0 c d a b k kb toK toG
  refine ⟨fun h => exec_setK h rfl rfl rfl, fun hopen => ⟨fun h => exec_unlessSealed h rfl rfl hopen rfl,
      fun h => exec_unlessSealed h rfl rfl hopen rfl, fun hseal h => exec_unlessSealed h rfl rfl hopen ?_,
      fun e base top hb hin h => exec_unlessSealed h rfl rfl hopen ?_, fun hb htag h => exec_unlessSealed h rfl rfl hopen ?_⟩,
    fun hseal hcur hhw h => exec_setK h rfl rfl ?_,
    fun h => exec_modA h rfl rfl rfl rfl, fun h => exec_modA h rfl rfl rfl rfl, fun h => exec_modA h rfl rfl rfl rfl,
    fun h => exec_modA h rfl rfl rfl rfl, fun h => exec_modA h rfl rfl rfl rfl, fun h => exec_modA h rfl rfl rfl rfl,
    fun h => exec_setK h rfl rfl rfl, fun h => exec_setK h rfl rfl rfl⟩
  · simp only [kb] at hseal
    simp only [hseal]
    rfl
  · simp only [k] at hb hin
    simp only [hb, if_neg hin]
    rfl
  · have hk : ({ k with tag := false } : Cap) = k := by rw [← htag]
    simp only [k] at hb htag hk
    simp only [hb, htag, hk, Bool.false_eq_true, if_false]
    rfl
  · have hok : ¬ (kb.cursor ≠ k.otype ∨ hwType ≤ k.otype) := by
      simp only [hcur, ne_eq, not_true_eq_false, false_or]
      omega
    simp only [kb, k] at hseal hok
    simp only [hseal, if_neg hok]
    rfl

end Sys2Proof.Machine
end

section
/-! SUPPORT. PG_HINT, shootdowns and the heap window (R149, R150, R153). -/

namespace Sys2Proof.Machine

/-! ### Fields and partitions -/

/-- A field that fits its register reads as what was put there, cut to its width. -/
theorem Fld.ofWord_setIn_self {f : Fld} (h : f.lsb + f.width ≤ 64) (v : Word) {x : Nat} (hx : x < 2 ^ f.width) : f.ofWord (f.setIn v x) = x := by
  have hx64 : x < 2 ^ 64 := Nat.lt_of_lt_of_le hx (Nat.pow_le_pow_right (by decide) (by omega))
  have e : (f.setIn v x >>> f.lsb) &&& lowMask f.width = BitVec.ofNat 64 x := by
    apply BitVec.eq_of_getLsbD_eq
    intro i hi
    simp only [Fld.setIn, BitVec.getLsbD_and, BitVec.getLsbD_ushiftRight, BitVec.getLsbD_or, BitVec.getLsbD_not, BitVec.getLsbD_shiftLeft,
      lowMask_getLsbD, BitVec.getLsbD_ofNat]
    by_cases hw : i < f.width
    · have : f.lsb + i < 64 := by omega
      simp [hw, hi, this]
    · have : x.testBit i = false := Nat.testBit_lt_two_pow (Nat.lt_of_lt_of_le hx (Nat.pow_le_pow_right (by decide) (by omega)))
      simp [hw, this]
  rw [Fld.ofWord, e, BitVec.toNat_ofNat, Nat.mod_eq_of_lt hx64]

theorem rd_wr_self (s : State) {f : Fld} (h : f.lsb + f.width ≤ 64) {x : Nat} (hx : x < 2 ^ f.width) : (s.wr f x).rd f = x := by
  rw [State.rd, reg_wr_self, Fld.ofWord_setIn_self h _ hx]

@[simp] theorem part_modPart (s : State) (p : PartId) (f : Part → Part) : (s.modPart p f).part p = f (s.part p) := by
  simp [State.part, State.modPart, vecUpd]

theorem modPart_modPart (s : State) (p : PartId) (f g : Part → Part) : (s.modPart p f).modPart p g = s.modPart p (fun x => g (f x)) := by
  simp [State.modPart, vecUpd]

/-! ### A PG_HINT command that begins -/

/-- A command has begun: STATE is busy, PARTIAL is clear and its range is noted (R153). -/
def State.hintBegun (s : State) (p : PartId) : State :=
  ((s.wr (PG_HINT.STATE p) 1).wr (PG_HINT.PARTIAL p) 0).modPart p (fun x => { x with hintBusy := some (s.hintRange p) })

/-- The range of a command lies in other registers than PG_HINT. -/
theorem hintRange_wr (s : State) (p : PartId) {f : Fld} (v : Nat) (h : f.adr = PG_HINT.adr p) : (s.wr f v).hintRange p = s.hintRange p := by
  have hbase : (PG_HINT_BASE.ADDR p).adr ≠ f.adr := by
    simp only [h, PG_HINT_BASE.ADDR, PG_HINT_BASE.adr, PG_HINT.adr]
    omega
  have hlen : (PG_HINT_LEN.PAGES p).adr ≠ f.adr := by
    simp only [h, PG_HINT_LEN.PAGES, PG_HINT_LEN.adr, PG_HINT.adr]
    omega
  rw [State.hintRange, rd_wr_ne s v hbase, rd_wr_ne s v hlen, State.hintRange]

/-- Marking a command as begun leaves its range. -/
theorem hintRange_marked (s : State) (p : PartId) :
    ((s.wr (PG_HINT.STATE p) 1).wr (PG_HINT.PARTIAL p) 0).hintRange p = s.hintRange p := by
  rw [hintRange_wr (f := PG_HINT.PARTIAL p) _ p 0 rfl, hintRange_wr (f := PG_HINT.STATE p) s p 1 rfl]

/-- The range reads registers alone. -/
theorem hintRange_csr {s t : State} (p : PartId) (h : t.csr = s.csr) : t.hintRange p = s.hintRange p := by
  simp only [State.hintRange, State.rd, State.reg, h]

theorem hintRange_begun (s : State) (p : PartId) : (s.hintBegun p).hintRange p = s.hintRange p :=
  (hintRange_csr p (by rfl)).trans (hintRange_marked s p)

theorem hintStart_busy {s : State} {p : PartId} (h : s.rd (PG_HINT.STATE p) = 1) (f : State → State) : s.hintStart p f = s := if_pos h

theorem hintStart_begins {s : State} {p : PartId} (h : s.rd (PG_HINT.STATE p) ≠ 1) (f : State → State) :
    s.hintStart p f = f (s.hintBegun p) := by
  simp only [State.hintStart, if_neg h, hintRange_marked, State.hintBegun]

theorem hintAdd_begun (s : State) (p : PartId) (k : HintKind) : (s.hintBegun p).hintAdd p k =
    (s.hintBegun p).modPart p (fun x => { x with hints := ⟨(s.hintRange p).1, (s.hintRange p).2, k⟩ :: x.hints }) := by
  rw [State.hintAdd, hintRange_begun]

/-! ### The commands -/

/-- A command that has begun changes nothing in its partition but the range that is busy. -/
theorem hintBegun_part (s : State) (p : PartId) : (s.hintBegun p).part p = { (s.part p) with hintBusy := some (s.hintRange p) } :=
  part_modPart ..

theorem hintPrefault_none {s : State} {p : PartId} (h : s.rd (PG_HINT.STATE p) ≠ 1) (hr : (s.hintRange p).2 = 0) :
    s.hintPrefault p = s.hintBegun p := by
  simp only [State.hintPrefault, hintStart_begins h, hintRange_begun, hr, List.range_zero, List.foldl_nil]

/-- PREFAULT of one page that is not mapped, guarded or in quarantine makes its first touch (R149). -/
theorem hintPrefault_one {s u : State} {p : PartId} {ea level : Nat} {q : Tr × State} (h : s.rd (PG_HINT.STATE p) ≠ 1)
    (hr : (s.hintRange p).2 = 1) (hw : (s.hintBegun p).walk p ((s.hintRange p).1 * 65536) = .missing ea level) (h0 : 0 < (s.hintRange p).1)
    (hg : (s.part p).guarded (s.hintRange p).1 = false) (hq : (s.part p).inQuarantine ((s.hintRange p).1 * 65536, 65536) = false)
    (hread : (s.hintBegun p).walkReads ((s.hintBegun p).walkPath ((s.hintRange p).1 * 65536) (((s.hintBegun p).part p).root.getD 0) 3) = (none, u))
    (hf : u.firstTouch { part := p, cl := 0, num := 0, wr := false, pin := false, win := none } ((s.hintRange p).1 * 65536) level = q) :
    s.hintPrefault p = match q.1 with | .fault _ _ => q.2.wr (PG_HINT.PARTIAL p) 1 | _ => q.2 := by
  have hva : ¬ ((s.hintRange p).1 * 65536 < 0x10000) := by omega
  have hg' : ((s.hintBegun p).part p).guarded (s.hintRange p).1 = false := (congrArg (Part.guarded · _) (hintBegun_part s p)).trans hg
  have hq' : ((s.hintBegun p).part p).inQuarantine ((s.hintRange p).1 * 65536, 65536) = false :=
    (congrArg (Part.inQuarantine · _) (hintBegun_part s p)).trans hq
  have hone : List.range 1 = [0] := rfl
  simp only [State.hintPrefault, hintStart_begins h, hintRange_begun, hr, hone, List.foldl_cons, List.foldl_nil, Nat.add_zero, hw, hva,
    Nat.mul_div_cancel _ (show 0 < 65536 by decide), hg', hq', hread, hf, Option.isSome_none, Bool.false_eq_true, or_self, if_false]
  cases q.1 <;> rfl

/-- GUARD of a range without leaves (R149). -/
theorem hintGuard_unmapped {s : State} {p : PartId} (h : s.rd (PG_HINT.STATE p) ≠ 1)
    (hl : (s.hintBegun p).leavesIn p (((s.hintRange p).1 + (s.hintRange p).2) * 65536) 0x1000000 ((s.hintRange p).1 * 65536) = []) :
    s.hintGuard p = ((s.hintBegun p).shootdown p (s.hintRange p).1 (s.hintRange p).2).modPart p (fun x =>
      { x with hints := ⟨(s.hintRange p).1, (s.hintRange p).2, .guard⟩ :: x.hints }) := by
  have hr : ((s.hintBegun p).shootdown p (s.hintRange p).1 (s.hintRange p).2).hintRange p = s.hintRange p :=
    (hintRange_csr p rfl).trans (hintRange_begun s p)
  simp only [State.hintGuard, hintStart_begins h, hintRange_begun, hl, List.foldl_nil, State.hintAdd, hr]

/-- The fields of a LAYOUT command in its register. -/
def State.layoutFields (s : State) (p : PartId) (il : BitVec 2) (hash : BitVec 3) (size : BitVec 2) : State :=
  ((s.wr (PG_HINT.IL p) il.toNat).wr (PG_HINT.HASH p) hash.toNat).wr (PG_HINT.SIZE p) size.toNat

theorem hintRange_layoutFields (s : State) (p : PartId) (il : BitVec 2) (hash : BitVec 3) (size : BitVec 2) :
    (s.layoutFields p il hash size).hintRange p = s.hintRange p := by
  rw [State.layoutFields, hintRange_wr (f := PG_HINT.SIZE p) _ p _ rfl, hintRange_wr (f := PG_HINT.HASH p) _ p _ rfl,
    hintRange_wr (f := PG_HINT.IL p) s p _ rfl]

/-- STATE lies beside the fields of the command. -/
theorem hintState_layoutFields (s : State) (p : PartId) (il : BitVec 2) (hash : BitVec 3) (size : BitVec 2) :
    (s.layoutFields p il hash size).rd (PG_HINT.STATE p) = s.rd (PG_HINT.STATE p) := by
  rw [State.layoutFields, rd_wr_beside (f := PG_HINT.SIZE p) (g := PG_HINT.STATE p) _ _ rfl (.inl (show 8 + 2 ≤ 16 by decide)),
    rd_wr_beside (f := PG_HINT.HASH p) (g := PG_HINT.STATE p) _ _ rfl (.inl (show 5 + 3 ≤ 16 by decide)),
    rd_wr_beside (f := PG_HINT.IL p) (g := PG_HINT.STATE p) _ _ rfl (.inl (show 3 + 2 ≤ 16 by decide))]

/-- An interleave other than global is quadrant or local. -/
theorem layout_not_global (il : BitVec 2) : ((if il = 3 then 2 else il : BitVec 2) = 1 ∨ (if il = 3 then 2 else il : BitVec 2) = 2) ↔
    (if il = 3 then 2 else il : BitVec 2) ≠ 0 := by
  revert il
  decide

section
variable {s : State} {p : PartId} (il : BitVec 2) (hash : BitVec 3) (size : BitVec 2)

/-- What LAYOUT refuses (R153, R311). -/
def State.layoutRefused (s : State) (p : PartId) (il size : BitVec 2) : Prop :=
  size = 3 ∨ (size ≠ 0 ∧ (if il = 3 then 2 else il : BitVec 2) ≠ 0) ∨
    (s.hintRange p).1 % (if size = 1 then 32 else if size = 2 then 16384 else 1) ≠ 0 ∨
    (s.hintRange p).2 % (if size = 1 then 32 else if size = 2 then 16384 else 1) ≠ 0

theorem hintLayout_refused (h : s.rd (PG_HINT.STATE p) ≠ 1) (hbad : s.layoutRefused p il size) :
    s.hintLayout p il hash size = (s.layoutFields p il hash size).wr (PG_HINT.STATE p) 3 := by
  have hr := hintRange_layoutFields s p il hash size
  simp only [State.layoutFields] at hr
  simp only [State.hintLayout, if_neg h, hr, layout_not_global]
  exact if_pos hbad

theorem hintLayout_taken (h : s.rd (PG_HINT.STATE p) ≠ 1) (hok : ¬ s.layoutRefused p il size) :
    s.hintLayout p il hash size = (((s.layoutFields p il hash size).hintBegun p).hintAdd p (.layout (if il = 3 then 2 else il) hash size)).hintLeaves p id
      (fun e => nbits e.toNat 3 2 != (if il = 3 then 2 else il : BitVec 2).toNat || nbits e.toNat 5 3 != hash.toNat) := by
  have hr := hintRange_layoutFields s p il hash size
  have hs : (s.layoutFields p il hash size).rd (PG_HINT.STATE p) ≠ 1 := (hintState_layoutFields s p il hash size).symm ▸ h
  rw [← hintStart_begins hs (fun s => (s.hintAdd p (.layout (if il = 3 then 2 else il) hash size)).hintLeaves p id (fun e =>
    nbits e.toNat 3 2 != (if il = 3 then 2 else il : BitVec 2).toNat || nbits e.toNat 5 3 != hash.toNat))]
  simp only [State.layoutFields] at hr ⊢
  simp only [State.hintLayout, if_neg h, hr, layout_not_global]
  exact if_neg hok

end

/-- A command that records a hint and goes on from there. -/
theorem hintStart_notes {s : State} {p : PartId} (h : s.rd (PG_HINT.STATE p) ≠ 1) (k : HintKind) (g : State → State) :
    s.hintStart p (fun s => g (s.hintAdd p k)) =
      g ((s.hintBegun p).modPart p (fun x => { x with hints := ⟨(s.hintRange p).1, (s.hintRange p).2, k⟩ :: x.hints })) :=
  (hintStart_begins h _).trans (congrArg g (hintAdd_begun s p k))

theorem hintUnguard_unmaps {s : State} {p : PartId} (h : s.rd (PG_HINT.STATE p) ≠ 1) :
    s.hintUnguard p = (let t := (s.hintBegun p).modPart p (fun x => { x with hints := ⟨(s.hintRange p).1, (s.hintRange p).2, .unguard⟩ :: x.hints });
      (t.leavesIn p (((s.hintRange p).1 + (s.hintRange p).2) * 65536) 0x1000000 ((s.hintRange p).1 * 65536)).foldl (fun t l =>
        if bitOf l.2.2.2 15 && !bitOf l.2.2.2 14 then t.setPte l.2.1 0 else t) t) := by
  simp only [State.hintUnguard, hintStart_begins h, hintRange_begun, hintAdd_begun]

theorem pagingHintResults : Sys2Proof.Clauses.PagingHintResults := by
  intro s p il hash size r begun noted n
  refine ⟨fun h => ?_, fun h => ⟨?_, ?_, ?_, ?_, ?_, ?_, ?_,
    fun hbad => congrArg _ (hintLayout_refused il hash size h hbad), fun hok => congrArg _ ((hintLayout_taken il hash size h hok).trans ?_)⟩,
    fun h => congrArg _ (if_pos (Option.isSome_iff_ne_none.mpr h)), fun h => congrArg _ (if_neg (by simp [h])), rfl⟩
  · have busy := fun f => hintStart_busy h f
    exact ⟨congrArg _ (busy _), congrArg _ (busy _), congrArg _ (busy _), congrArg _ (if_pos h), congrArg _ (busy _), congrArg _ (busy _),
      congrArg _ (busy _)⟩
  · exact congrArg _ (hintStart_notes h .near (State.hintLeaves · p (setPlace true false) (fun e => bitOf e 2)))
  · exact congrArg _ (hintStart_notes h .cold (State.hintLeaves · p (setPlace false true) (fun e => !bitOf e 2)))
  · exact congrArg _ (hintStart_notes h .none (State.hintLeaves · p (setPlace false false) (fun _ => false)))
  · exact congrArg _ (hintUnguard_unmaps h)
  · exact fun h0 => congrArg _ (hintPrefault_none h h0)
  · exact fun h1 ea level q u hw h0 hg hq hread hf => congrArg _ (hintPrefault_one h h1 hw h0 hg hq hread hf)
  · exact fun hl => congrArg _ (hintGuard_unmapped h hl)
  · rw [hintAdd_begun, State.hintBegun, modPart_modPart, hintRange_layoutFields]
    rfl

/-- A write of a heap register takes effect on an empty heap alone (R153). -/
theorem heapWindowWrite_eq (s : State) (p : PartId) (top : Bool) (v : Word) : exec (.heapWindowWrite p top v) s = .next (
    if s.rd (ALLOC_STAT.LIVE p) = 0 ∧ (s.part p).qActive = [] ∧ (s.part p).qNext = [] then
      (let t := if top then s.wr (HEAP_TOP.ADDR p) (nbits v.toNat 16 40) else s.wr (HEAP_BASE.ADDR p) (nbits v.toNat 16 40);
        t.modPart p (fun x => { x with bump := t.rd (HEAP_BASE.ADDR p) * 65536, reuse := [] }))
    else s.wr (ALLOC_STAT.HEAP_LOCKED p) 1) := by
  show Host.Outcome.next (s.heapWrite p top v) = _
  simp only [State.heapWrite, List.isEmpty_iff]

theorem heapWindowWrites : Sys2Proof.Clauses.HeapWindowWrites := by
  intro s p v free
  have htop : (s.wr (HEAP_TOP.ADDR p) (nbits v.toNat 16 40)).rd (HEAP_BASE.ADDR p) = s.rd (HEAP_BASE.ADDR p) := by
    refine rd_wr_ne s _ ?_
    simp only [HEAP_BASE.ADDR, HEAP_BASE.adr, HEAP_TOP.ADDR, HEAP_TOP.adr]
    omega
  have hbase : (s.wr (HEAP_BASE.ADDR p) (nbits v.toNat 16 40)).rd (HEAP_BASE.ADDR p) = nbits v.toNat 16 40 :=
    rd_wr_self s (f := HEAP_BASE.ADDR p) (show 16 + 40 ≤ 64 by decide) (Nat.mod_lt _ (by decide))
  refine ⟨fun hfree => ⟨?_, ?_⟩, fun hbusy top => ?_⟩
  · rw [heapWindowWrite_eq, if_pos hfree]
    simp only [if_true, htop]
  · rw [heapWindowWrite_eq, if_pos hfree]
    simp only [Bool.false_eq_true, if_false, hbase]
  · rw [heapWindowWrite_eq, if_neg hbusy]

/-- Settles O35: each command by what it does once it has begun, and the two heap registers. -/
theorem pagingCommandResults : Obligations.PagingCommandResults := ⟨pagingHintResults, heapWindowWrites⟩

end Sys2Proof.Machine
end

section
/-! SUPPORT. Turning (R145 to R148): a page that moves, is copied and is released. -/

namespace Sys2Proof.Machine

/-! ### To take a granule leaves the count of the pages that moved -/

/-- The pages that have moved in a millisecond, as Turning counts them (R145). -/
abbrev State.turned (s : State) : Nat × Nat := s.mst.turned

theorem State.turned_of_mst {s t : State} (h : t.mst = s.mst) : t.turned = s.turned := congrArg MemSt.turned h

theorem reachRows_turned (s : State) (bs : List (Nat × Nat)) : (s.reachRows bs).turned = s.turned := by
  rw [State.turned, State.reachRows_mst]

theorem flipLine_mst (s : State) (key : Nat) : (s.flipLine key).mst = s.mst := by
  unfold State.flipLine
  refine ite_keeps State.mst ?_ ?_
  · extract_lets r
    have hr : r.2.mst = s.mst := State.inject_mst ..
    clear_value r
    exact ite_keeps State.mst hr rfl
  · extract_lets r
    have hr : r.2.mst = s.mst := State.inject_mst ..
    clear_value r
    refine ite_keeps State.mst (ite_keeps State.mst ?_ hr) rfl
    exact (foldl_keeps State.mst (fun s i => by rfl) _ _).trans hr

theorem granMove_turned (s : State) (gran : Nat) : (s.granMove gran).turned = s.turned := by
  unfold State.granMove
  refine ite_keeps State.turned ?_ (foldl_keeps State.turned (fun s i => ?_) _ s)
  · refine (reachRows_turned ..).trans (foldl_keeps State.turned (fun s k => ?_) _ s)
    exact State.turned_of_mst ((State.cnt_mst ..).trans (State.sendCmd_mst ..))
  · exact (reachRows_turned ..).trans (State.turned_of_mst (State.sendCmd_mst ..))

theorem granFlip_mst (s : State) (gran : Nat) : (s.granFlip gran).mst = s.mst := by
  unfold State.granFlip
  refine ite_keeps State.mst ?_ rfl
  split
  · exact flipLine_mst ..
  · rfl

theorem zeroGranule_turned (s : State) (gran : Nat) : (s.zeroGranule gran).turned = s.turned := by
  unfold State.zeroGranule
  exact (State.turned_of_mst (granFlip_mst ..)).trans (granMove_turned (s.emptyGranule gran) gran)

theorem takeSpan_turned (s : State) (g n : Nat) (x : Gran) : (s.takeSpan g n x).turned = s.turned := by
  unfold State.takeSpan
  refine foldl_keeps State.turned (fun s i => ?_) _ s
  rw [zeroGranule_turned]
  rfl

theorem takeGranule_turned {s t : State} {p : PartId} {tier kind a b : Nat} {hash : BitVec 3} {use : Use}
    (e : s.takeGranule p tier kind hash use = some (a, b, t)) : t.turned = s.turned := by
  unfold State.takeGranule at e
  obtain ⟨k, -, hk⟩ := List.exists_of_findSome?_eq_some e
  split at hk
  · cases hk
    exact (takeSpan_turned ..).trans (ite_keeps State.turned rfl (State.turned_of_mst (State.cnt_mst ..)))
  · cases hk

/-- To take the granule that Turning moves a page to leaves the time and the count of the pages that moved. -/
theorem turnGranule_movedNow {s t : State} {p : PartId} {tier il hash lcl a b : Nat}
    (e : s.turnGranule p tier il hash lcl = some (a, b, t)) : t.now = s.now ∧ t.movedNow = s.movedNow := by
  have hnow : t.now = s.now := (State.turnGranule_keeps e (Keeps.refl s)).now
  have hturned : t.turned = s.turned := by
    unfold State.turnGranule at e
    dsimp only at e
    split at e
    · cases e
      exact takeSpan_turned ..
    · exact takeGranule_turned e
  exact ⟨hnow, by simp only [State.movedNow, hnow, show t.mst.turned = s.mst.turned from hturned]⟩

/-! ### A page that Turning selects -/

/-- Whether the checkpoint that is being shipped lists a page that has no copy yet (R539). -/
def State.shipLists (s : State) (p : PartId) (pg : Nat) : Bool :=
  match s.pair.ship with
  | some o => o.pages.any (fun x => x.part == p && x.page == pg && x.copy.isNone)
  | none => false

def HintKind.isLayout : HintKind → Bool
  | .layout .. => true
  | _ => false

/-- The interleave and the hash of a page's new home: those of its layout hint, else those that it has (R146, R149). -/
def State.turnIl (s : State) (p : PartId) (pg : Nat) (e : Word) : Nat :=
  if ((s.part p).hint pg HintKind.isLayout).isSome then ((s.part p).layout pg).1 else nbits e.toNat 3 2

def State.turnHash (s : State) (p : PartId) (pg : Nat) (e : Word) : Nat :=
  if ((s.part p).hint pg HintKind.isLayout).isSome then ((s.part p).layout pg).2.1 else nbits e.toNat 5 3

/-- The migration of a page to a granule that has been taken begins (R145 to R147). -/
def State.turnBegins (u : State) (p : PartId) (pg ea : Nat) (e : Word) (tier g : Nat) (ex : Bool) : State :=
  ((u.modPart p (fun x => { x with
    exch := if ex then x.exch + 1 else if nbits e.toNat 2 1 = 1 ∧ tier = 0 then x.exch - 1 else x.exch })).modM (fun m => { m with
      migr := m.migr ++ [⟨p, pg, g, false⟩]
      turned := (u.now / 1000000, u.movedNow + 1)
      tlb := m.tlb.filter (fun t => !t.meets p pg 1) })).setPte ea (setBitOf e 13 true)

/-- A page that is sent to a tier and a layout: it stays where it is there already or finds no granule. -/
def State.turnPage (s : State) (p : PartId) (pg ea : Nat) (e : Word) (tier il hash : Nat) (ex : Bool) : Out :=
  if tier = nbits e.toNat 2 1 ∧ il = nbits e.toNat 3 2 ∧ hash = nbits e.toNat 5 3 then .next s
  else if !s.canSupply p tier 1 then .next s
  else match s.turnGranule p tier il hash (nbits e.toNat 43 4) with
    | none => .next s
    | some (g, _, u) => .next (u.turnBegins p pg ea e tier g ex)

section
variable {s : State} {p : PartId} {page : BitVec 40} {ea level : Nat} {e : Word}

theorem exec_migrationStart : exec (.migrationStart p page) s = execMigrationStart p page s := rfl

theorem migrationStart_unmapped (h : s.leafOf p page.toNat = none) : exec (.migrationStart p page) s = .next s := by
  simp only [exec_migrationStart, execMigrationStart, h]

theorem migrationStart_stays (hleaf : s.leafOf p page.toNat = some (ea, level, e))
    (h : turnable e level = false ∨ s.shipLists p page.toNat = true ∨ s.turnTo p page.toNat e = none) :
    exec (.migrationStart p page) s = .next s := by
  simp only [exec_migrationStart, execMigrationStart, hleaf]
  rcases h with h | h | h
  · exact if_pos (by rw [h]; rfl)
  · exact if_pos (Bool.or_eq_true_iff.mpr (.inr h))
  · simp only [h, ite_self]

theorem migrationStart_turns {tier : Nat} {ex : Bool} (hleaf : s.leafOf p page.toNat = some (ea, level, e)) (hturn : turnable e level = true)
    (hlist : s.shipLists p page.toNat = false) (hto : s.turnTo p page.toNat e = some (tier, ex)) :
    exec (.migrationStart p page) s =
      (let t := s.modPart p (fun x => { x with moveQ := x.moveQ.filter (fun g => g ≠ page.toNat) });
        t.turnPage p page.toNat ea e tier (t.turnIl p page.toNat e) (t.turnHash p page.toNat e) ex) := by
  have hfree : ¬ (!turnable e level || s.shipLists p page.toNat) = true := by simp [hturn, hlist]
  simp only [exec_migrationStart, execMigrationStart, hleaf]
  refine (if_neg hfree).trans ?_
  simp only [hto]
  rfl

end

section
variable {s u : State} {p : PartId} {pg ea : Nat} {e : Word} {tier il hash g k : Nat} {ex : Bool}

theorem turnPage_stays (h : (tier = nbits e.toNat 2 1 ∧ il = nbits e.toNat 3 2 ∧ hash = nbits e.toNat 5 3) ∨ s.canSupply p tier 1 = false ∨
    s.turnGranule p tier il hash (nbits e.toNat 43 4) = none) : s.turnPage p pg ea e tier il hash ex = .next s := by
  unfold State.turnPage
  rcases h with h | h | h
  · exact if_pos h
  · simp only [h, Bool.not_false, if_true, ite_self]
  · simp only [h, ite_self]

theorem turnPage_moves (hthere : ¬ (tier = nbits e.toNat 2 1 ∧ il = nbits e.toNat 3 2 ∧ hash = nbits e.toNat 5 3))
    (hsup : s.canSupply p tier 1 = true) (hg : s.turnGranule p tier il hash (nbits e.toNat 43 4) = some (g, k, u)) :
    s.turnPage p pg ea e tier il hash ex = .next (u.turnBegins p pg ea e tier g ex) := by
  unfold State.turnPage
  rw [if_neg hthere]
  simp only [hsup, hg, Bool.not_true, Bool.false_eq_true, if_false]

end

/-! ### The copy and the release -/

theorem migrationCopyDone_unmoved {s : State} {p : PartId} {page : BitVec 40} (h : s.migrOf p page.toNat = none) :
    exec (.migrationCopyDone p page) s = .next s := by
  show execMigrationCopyDone p page s = _
  simp only [execMigrationCopyDone, h]

theorem migrationCopyDone_held {s : State} {p : PartId} {page : BitVec 40} {m : Migr} (h : s.migrOf p page.toNat = some m) (hm : m.held = true) :
    exec (.migrationCopyDone p page) s = .next s := by
  show execMigrationCopyDone p page s = _
  cases hl : s.leafOf p page.toNat with
  | none => simp only [execMigrationCopyDone, h, hl]
  | some l => simp only [execMigrationCopyDone, h, hl, hm, if_true]

theorem turningResults : Sys2Proof.Clauses.TurningResults := by
  intro s u w p page ea level e tier g il ex m gr
  refine ⟨?_, migrationStart_unmapped, fun hm hheld hleaf hcopy hgran => ?_, migrationCopyDone_held, fun hm hheld => ?_, fun hm hheld => ?_,
    fun hm => ⟨migrationCopyDone_unmoved hm, ?_⟩⟩
  · intro listed s1 hinted want hash there hleaf
    refine ⟨migrationStart_stays hleaf, fun hturn hlist hto => ⟨fun hstay => ?_, fun hgo hsup hgran => ?_⟩⟩
    · exact (migrationStart_turns hleaf hturn hlist hto).trans (turnPage_stays hstay)
    · refine (migrationStart_turns hleaf hturn hlist hto).trans ((turnPage_moves hgo hsup hgran).trans ?_)
      obtain ⟨hnow, hmoved⟩ := turnGranule_movedNow hgran
      rw [State.turnBegins, hnow, hmoved]
      rfl
  · show execMigrationCopyDone p page s = _
    simp only [execMigrationCopyDone, hm, hleaf, hheld, hcopy, hgran, Bool.false_eq_true, if_false]
  · show execMigrationRelease p page s = _
    simp only [execMigrationRelease, hm, hheld, Bool.not_false, if_true]
  · show execMigrationRelease p page s = _
    simp only [execMigrationRelease, hm, hheld, Bool.not_true, Bool.false_eq_true, if_false]
  · show execMigrationRelease p page s = _
    simp only [execMigrationRelease, hm]

end Sys2Proof.Machine
end

section
/-! SUPPORT. What events and errors leave while no injection is armed (R366, R369, R370, R420 to R435, R519). -/

namespace Sys2Proof.Machine

/-- Memory, tags and check errors are those of another state, and no injection is armed. -/
structure Undisturbed (s t : State) : Prop where
  disarmed : t.rdB INJ_STAT.ARMED = false
  mem : t.mem = s.mem
  tags : t.tags = s.tags
  errs : t.errs = s.errs

theorem Undisturbed.refl {s : State} (h : s.rdB INJ_STAT.ARMED = false) : Undisturbed s s := ⟨h, rfl, rfl, rfl⟩

theorem Undisturbed.ite {s a b : State} {c : Prop} [Decidable c] (ha : Undisturbed s a) (hb : Undisturbed s b) :
    Undisturbed s (if c then a else b) := by
  split
  · exact ha
  · exact hb

theorem Undisturbed.dite {s : State} {c : Prop} [Decidable c] {a : c → State} {b : ¬c → State} (ha : ∀ h, Undisturbed s (a h))
    (hb : ∀ h, Undisturbed s (b h)) : Undisturbed s (if h : c then a h else b h) := by
  split
  · exact ha _
  · exact hb _

theorem Undisturbed.foldl {α : Type} {s : State} {f : State → α → State} {l : List α}
    (hf : ∀ x ∈ l, ∀ t, Undisturbed s t → Undisturbed s (f t x)) {t : State} (h : Undisturbed s t) : Undisturbed s (l.foldl f t) :=
  List.foldlRecOn (motive := Undisturbed s) l f h fun t ht x hx => hf x hx t ht

section
variable {s t : State} (h : Undisturbed s t)
include h

theorem Undisturbed.setReg {a : Nat} (ha : INJ_STAT.adr ≠ a) (v : Word) : Undisturbed s (t.setReg a v) :=
  ⟨(quiet_reg ⟨rfl, h.disarmed⟩ ha v t.free).2, h.mem, h.tags, h.errs⟩

theorem Undisturbed.wr {f : Fld} (ha : INJ_STAT.adr ≠ f.adr) (v : Nat) : Undisturbed s (t.wr f v) := h.setReg ha _

theorem Undisturbed.wrB {f : Fld} (ha : INJ_STAT.adr ≠ f.adr) (b : Bool) : Undisturbed s (t.wrB f b) := h.setReg ha _

theorem Undisturbed.cntSat {f : Fld} (ha : INJ_STAT.adr ≠ f.adr) (n : Nat) : Undisturbed s (t.cntSat f n) := h.setReg ha _

theorem Undisturbed.cnt {f : Fld} (ha : INJ_STAT.adr ≠ f.adr) (n : Nat) : Undisturbed s (t.cnt f n) := by
  unfold State.cnt
  exact .ite (h.wr ha _) (Undisturbed.wr (t := t.fresh.2) ⟨h.disarmed, h.mem, h.tags, h.errs⟩ ha _)

theorem Undisturbed.modM (f : MemSt → MemSt) : Undisturbed s (t.modM f) := ⟨h.disarmed, h.mem, h.tags, h.errs⟩

theorem Undisturbed.modE (f : EvtSt → EvtSt) : Undisturbed s (t.modE f) := ⟨h.disarmed, h.mem, h.tags, h.errs⟩

theorem Undisturbed.modCp (c : CpId) (f : Cp → Cp) : Undisturbed s (t.modCp c f) := ⟨h.disarmed, h.mem, h.tags, h.errs⟩

end

/-! ### The event router -/

theorem Undisturbed.flagChan {s t : State} (h : Undisturbed s t) (k : Nat) (coin : Bool) : Undisturbed s (t.flagChan k coin) :=
  .foldl (fun c _ _ hu => .ite (hu.modCp c _) hu) h

theorem injStat_ne_chStat (k : Fin 64) : INJ_STAT.adr ≠ EVT_CH_STAT.adr k := by
  simp only [INJ_STAT.adr, EVT_CH_STAT.adr]
  omega

theorem Undisturbed.chanPass {s t : State} (h : Undisturbed s t) (k : Fin 64) : Undisturbed s (t.chanPass k) := by
  have hc := (h.cntSat (f := EVT_CH_STAT.DELIVERED k) (injStat_ne_chStat k) 1).flagChan k.val false
  exact ⟨hc.disarmed, hc.mem, hc.tags, hc.errs⟩

theorem Undisturbed.chanEvent {s t : State} (h : Undisturbed s t) (k : Fin 64) : Undisturbed s (t.chanEvent k).2 := by
  have hadr := injStat_ne_chStat k
  have hm : ∀ f, Undisturbed s (t.modChan k f) := fun f => h.modE _
  unfold State.chanEvent
  dsimp only
  split_ifs
  · exact ((hm _).cntSat (f := EVT_CH_STAT.COINCIDENT k) hadr 1).flagChan _ _
  · exact hm _
  · exact (hm _).cntSat (f := EVT_CH_STAT.DROPPED k) hadr 1
  · exact (hm _).cntSat (f := EVT_CH_STAT.DROPPED k) hadr 1
  · exact (hm _).wr (f := EVT_CH_STAT.HELD k) hadr 1
  · exact (hm _).chanPass k

theorem Undisturbed.groupEvent {s t : State} (h : Undisturbed s t) (srcs : List Nat) : Undisturbed s (t.groupEvent srcs) := by
  refine .foldl (fun g _ u hu => ?_) h
  have hg := g.isLt
  have hen : INJ_STAT.adr ≠ EVT_GRP.adr g := by
    simp only [INJ_STAT.adr, EVT_GRP.adr]
    omega
  dsimp only
  refine .ite (.foldl (fun i hi v hv => hv.wr (f := EVT_CH_STAT.HELD (8 * g.val + i)) ?_ 0) ((hu.wr (f := EVT_GRP.EN g) hen 0).modE _))
    (.ite (hu.wr (f := EVT_GRP.EN g) hen 1) hu)
  have := List.mem_range.mp hi
  show INJ_STAT.adr ≠ EVT_CH_STAT.adr (8 * g.val + i)
  simp only [INJ_STAT.adr, EVT_CH_STAT.adr]
  omega

theorem lt_of_mem_consumersOf {s : State} {src c : Nat} (h : c ∈ s.consumersOf src) : c < 8385 := by
  obtain ⟨e, he, rfl⟩ := List.mem_map.mp h
  obtain ⟨⟨hlo, hhi⟩, -⟩ : (EVT_SEL.adr 0 ≤ e.1 ∧ e.1 < EVT_SEL.adr 8385) ∧ _ := by simpa using (List.mem_filter.mp he).2
  simp only [EVT_SEL.adr] at hlo hhi ⊢
  omega

section
variable {ck : PartId → State → State} {s : State} (hck : ∀ p t, Undisturbed s t → Undisturbed s (ck p t))
include hck

theorem Undisturbed.consume {t : State} (h : Undisturbed s t) (c : Nat) : Undisturbed s (t.consume ck c) := by
  unfold State.consume
  refine .dite (fun _ => .ite (h.modCp _ _) h) fun _ => .ite (h.modE _) (.ite (.ite (h.modE _) h) (.dite (fun _ => hck _ _ h) fun _ =>
    .ite (h.modE _) (.ite (h.modE _) ?_)))
  split_ifs with htsc
  · have hadr : INJ_STAT.adr ≠ EVT_TSC.adr (c - 0x2080) := by
      simp only [INJ_STAT.adr, EVT_TSC.adr]
      omega
    exact ((h.wr (f := EVT_TSC.NS (c - 0x2080)) hadr _).wr (f := EVT_TSC.SEC (c - 0x2080)) hadr _).setReg (by decide) _
  · exact h.modE _
  · exact h.modE _
  · exact h.modE _
  · exact h

theorem Undisturbed.deliver {t : State} (h : Undisturbed s t) {c : Nat} (hc : c < 8385) : Undisturbed s (t.deliver ck c) := by
  refine .ite (.ite (h.cnt (f := EVT_STAT.LOST) (by decide) 1) (h.wr (f := EVT_SEL.PEND c) ?_ 1)) (h.consume hck c)
  simp only [INJ_STAT.adr, EVT_SEL.PEND, EVT_SEL.adr]
  omega

theorem Undisturbed.route {t : State} (h : Undisturbed s t) (line : Nat) : Undisturbed s (t.route ck line) := by
  have hdel : ∀ (u : State) (src : Nat) (t : State), Undisturbed s t → Undisturbed s ((u.consumersOf src).foldl (State.deliver ck) t) :=
    fun u src t ht => .foldl (fun c hc t ht => ht.deliver hck (lt_of_mem_consumersOf hc)) ht
  unfold State.route
  extract_lets refr again u chs r v w
  have hu : Undisturbed s u := h.modE _
  have hr : Undisturbed s r.2 :=
    List.foldlRecOn (motive := fun r : List (Fin 64) × State => Undisturbed s r.2) _ _ hu fun r hr k _ => hr.chanEvent k
  exact .ite (h.cnt (f := EVT_STAT.REFRACT) (by decide) 1) (Undisturbed.groupEvent (.foldl (fun k _ u hu => hdel u _ u hu) (hdel _ _ _ hr)) _)

end

/-- A CP checkpoint without an armed injection compares equal (R518, R519). -/
theorem Undisturbed.checkpointPart {s : State} (p : PartId) (t : State) (h : Undisturbed s t) :
    Undisturbed s (State.checkpointPart p t) := by
  refine .foldl (fun c _ u hu => ?_) h
  have hsame : u.compareWith State.bucket0 c 5 (u.cp c).a.pc.toNat = (false, u) := by
    simp only [State.compareWith, inject_disarmed hu.disarmed, Bool.false_eq_true, if_false, ite_self]
  have hadr : INJ_STAT.adr ≠ LSTEP_STAT.adr (clOf c) := by
    simp only [INJ_STAT.adr, LSTEP_STAT.adr]
    omega
  simp only [State.checkpointWith, hsame, Bool.false_eq_true, if_false]
  exact .ite ((hu.modCp _ _).cnt (f := LSTEP_STAT.CKPTS (clOf c)) hadr 1) hu

section
variable {s t : State} (h : Undisturbed s t)
include h

theorem Undisturbed.bucket {b : Nat} (hb : b < 16) (n : Nat) : Undisturbed s (t.bucket b n) := by
  have hadr : INJ_STAT.adr ≠ BKT_STAT.adr b := by
    simp only [INJ_STAT.adr, BKT_STAT.adr]
    omega
  have hc := h.cnt (f := BKT_STAT.COUNT b) hadr n
  have hover := ((hc.wr (f := BKT_STAT.COUNT b) hadr 0).wr (f := BKT_STAT.OVF b) hadr 1).cnt (f := BKT_STAT.OVFS b) hadr 1
  exact .ite (hover.route Undisturbed.checkpointPart _) hc

theorem Undisturbed.capture (b inst synd : Nat) (marking inj : Bool) (addr : Nat) : Undisturbed s (t.capture b inst synd marking inj addr) := by
  have put : ∀ (i : Nat), i < 2 → ∀ u, Undisturbed s u → Undisturbed s
      (((((((u.wr (ERR_INFO.BUCKET i) b).wr (ERR_INFO.INST i) inst).wr (ERR_INFO.SYND i) synd).wr (ERR_INFO.VALID i) 1).wrB
        (ERR_INFO.MARKING i) marking).wrB (ERR_INFO.INJECTED i) inj).wr (ERR_ADDR.ADDR i) addr) := by
    intro i hi u hu
    have hinfo : INJ_STAT.adr ≠ ERR_INFO.adr i := by
      simp only [INJ_STAT.adr, ERR_INFO.adr]
      omega
    refine ((((((hu.wr (f := ERR_INFO.BUCKET i) hinfo b).wr (f := ERR_INFO.INST i) hinfo inst).wr (f := ERR_INFO.SYND i) hinfo synd).wr
      (f := ERR_INFO.VALID i) hinfo 1).wrB (f := ERR_INFO.MARKING i) hinfo marking).wrB (f := ERR_INFO.INJECTED i) hinfo inj).wr
      (f := ERR_ADDR.ADDR i) ?_ addr
    simp only [INJ_STAT.adr, ERR_ADDR.ADDR, ERR_ADDR.adr]
    omega
  exact put 1 (by decide) _ (.ite h (put 0 (by decide) _ h))

/-! ### Moves of lines -/

theorem Undisturbed.rfmSent (bk : Nat) : Undisturbed s (t.rfmSent bk) := by
  unfold State.rfmSent
  rw [quiet_send ⟨rfl, h.disarmed⟩, quiet_send ⟨rfl, h.disarmed⟩]
  refine .ite (h.cnt (f := NM_RH.COUNT (bk / 1536)) ?_ 1) h
  simp only [NM_RH.COUNT, NM_RH.adr, INJ_STAT.adr]
  omega

theorem Undisturbed.reachRows (bs : List (Nat × Nat)) : Undisturbed s (t.reachRows bs) :=
  List.foldrRecOn (motive := Undisturbed s) _ _ (h.modM _) fun _ hu bk _ => hu.rfmSent bk

theorem Undisturbed.nearMove (key : Nat) : Undisturbed s (t.nearMove key) := by
  simp only [State.nearMove, quiet_send ⟨rfl, h.disarmed⟩]
  refine (h.cnt ?_ 1).reachRows _
  simp only [NM_LINES.COUNT, NM_LINES.adr, INJ_STAT.adr]
  omega

theorem Undisturbed.celMove (key : Nat) : Undisturbed s (t.celMove key) := by
  simp only [State.celMove, quiet_send ⟨rfl, h.disarmed⟩]
  exact h.reachRows _

theorem Undisturbed.lineMove (key : Nat) : Undisturbed s (t.lineMove key) := by
  unfold State.lineMove
  split
  · exact h.nearMove key
  · exact h.celMove key
  · exact h

end

end Sys2Proof.Machine
end

section
/-! SUPPORT. What reads, writes and tag fetches leave of the partitions, and of the tags while no injection is armed (R105, R120, R316, R330,
R353 to R358, R371). -/

namespace Sys2Proof.Machine

/-! ### States that no compare rolls back -/

/-- No injection is armed, no word from the scratchpads on holds an error, and no line of a tag cache that is stored there is spoilt: the marks of
devices then stay in their registers, so nothing arms an injection either (R346, R358). -/
structure State.Calm (s : State) : Prop where
  disarmed : s.rdB INJ_STAT.ARMED = false
  clean : ∀ w, spadBase / 8 ≤ w → s.err w = Err.zero
  sound : ∀ x ∈ s.tagc, spadBase ≤ x.key → x.sound

/-- The partitions stay, and a calm state stays calm with its tags. -/
structure Spares (z s : State) : Prop where
  parts : s.parts = z.parts
  calm : z.Calm → s.Calm ∧ s.tags = z.tags

theorem Spares.refl (s : State) : Spares s s := ⟨rfl, fun h => ⟨h, rfl⟩⟩

theorem Spares.trans {s t u : State} (h : Spares s t) (g : Spares t u) : Spares s u := by
  refine ⟨g.parts.trans h.parts, fun hs => ?_⟩
  obtain ⟨ht, etags⟩ := h.calm hs
  obtain ⟨hu, eu⟩ := g.calm ht
  exact ⟨hu, eu.trans etags⟩

theorem Spares.ite {s a b : State} {c : Prop} [Decidable c] (ha : Spares s a) (hb : Spares s b) : Spares s (if c then a else b) := by
  split
  · exact ha
  · exact hb

theorem Spares.ite2 {s : State} {a b : Bool × State} {c : Prop} [Decidable c] (ha : Spares s a.2) (hb : Spares s b.2) :
    Spares s (if c then a else b).2 := by
  split
  · exact ha
  · exact hb

theorem Spares.foldl {α : Type} {f : State → α → State} {l : List α} (hf : ∀ x ∈ l, ∀ s, Spares s (f s x)) (s : State) :
    Spares s (l.foldl f s) :=
  List.foldlRecOn (motive := Spares s) l f (.refl s) fun t ht x hx => ht.trans (hf x hx t)

/-- An event, and a move of a line, spare a state. -/
theorem spares_of_undisturbed {s t : State} (hp : t.parts = s.parts) (hm : t.tagc = s.tagc)
    (h : s.rdB INJ_STAT.ARMED = false → Undisturbed s t) : Spares s t := by
  refine ⟨hp, fun hs => ?_⟩
  obtain ⟨hdis, -, htags, herrs⟩ := h hs.disarmed
  exact ⟨⟨hdis, fun w hw => (err_of_errs herrs w).trans (hs.clean w hw), fun x hx => hs.sound x (hm ▸ hx)⟩, htags⟩

theorem bucket_parts (s : State) (b n : Nat) : (s.bucket b n).parts = s.parts := State.bucketWith_parts State.fire_parts s b n

theorem capture_parts (s : State) (b inst synd : Nat) (marking inj : Bool) (addr : Nat) :
    (s.capture b inst synd marking inj addr).parts = s.parts := by
  unfold State.capture
  dsimp only
  split <;> rfl

theorem bucket_spares (s : State) {b : Nat} (hb : b < 16) (n : Nat) : Spares s (s.bucket b n) :=
  spares_of_undisturbed (bucket_parts s b n) (State.tagc_of_mst (State.bucket_mst s b n)) fun h => (Undisturbed.refl h).bucket hb n

theorem capture_spares (s : State) (b inst synd : Nat) (marking inj : Bool) (addr : Nat) : Spares s (s.capture b inst synd marking inj addr) :=
  spares_of_undisturbed (capture_parts ..) (State.tagc_of_mst (State.capture_mst ..)) fun h => (Undisturbed.refl h).capture ..

/-! ### Moves of lines -/

theorem sendCmd_parts (s : State) (near : Bool) (unit : Nat) : (s.sendCmd near unit).parts = s.parts := by
  refine ite_keeps State.parts ?_ rfl
  refine Eq.trans ?_ (State.inject_parts s (if near then 0x19 else 0x1A) unit)
  exact ite_keeps State.parts ((bucket_parts ..).trans (State.cnt_parts ..)) (bucket_parts ..)

theorem reachRows_parts (s : State) (bs : List (Nat × Nat)) : (s.reachRows bs).parts = s.parts := by
  refine List.foldrRecOn (motive := fun t : State => t.parts = s.parts) _ _ rfl fun t ht bk _ => Eq.trans ?_ ht
  exact ite_keeps State.parts ((State.cnt_parts ..).trans (sendCmd_parts ..)) (sendCmd_parts ..)

theorem nearMove_spares (s : State) (key : Nat) : Spares s (s.nearMove key) :=
  spares_of_undisturbed ((reachRows_parts ..).trans ((State.cnt_parts ..).trans (sendCmd_parts ..))) (State.nearMove_tagc s key) fun h =>
    (Undisturbed.refl h).nearMove key

theorem celMove_spares (s : State) (key : Nat) : Spares s (s.celMove key) :=
  spares_of_undisturbed ((reachRows_parts ..).trans (sendCmd_parts ..)) (State.celMove_tagc s key) fun h => (Undisturbed.refl h).celMove key

theorem lineMove_spares (s : State) (key : Nat) : Spares s (s.lineMove key) := by
  unfold State.lineMove
  split
  · exact nearMove_spares s key
  · exact celMove_spares s key
  · exact .refl s

/-! ### Check errors and stored bytes -/

theorem setErr_spares (s : State) {w : Nat} {e : Err} (h : e = Err.zero ∨ w < spadBase / 8) : Spares s (s.setErr w e) := by
  refine ⟨rfl, fun hs => ⟨⟨hs.disarmed, fun a ha => ?_, hs.sound⟩, rfl⟩⟩
  rw [err_setErr]
  split
  · rename_i haw
    exact h.resolve_right (by omega)
  · exact hs.clean a ha

theorem setErrs_spares (s : State) (l : List Nat) (f : Nat → Nat) : Spares s (l.foldl (fun s i => s.setErr (f i) Err.zero) s) :=
  .foldl (fun _ _ t => setErr_spares t (.inl rfl)) s

theorem putBytes_spares (l : List Byte) (key : Nat) (s : State) : Spares s (State.putBytes l key s) := by
  induction l generalizing key s with
  | nil => exact .refl s
  | cons b l ih =>
    refine Spares.trans (t := s.putByte key b) ?_ (ih (key + 1) (s.putByte key b))
    exact ⟨rfl, fun hs => ⟨⟨hs.disarmed, hs.clean, hs.sound⟩, rfl⟩⟩

theorem settle_spares (s : State) (key n : Nat) {e : Err} (h : e = Err.zero ∨ key / 8 < spadBase / 8) : Spares s (s.settle key n e) :=
  (setErrs_spares s (List.range (n / 8)) (fun i => key / 8 + i)).trans ((putBytes_spares _ key _).trans (setErr_spares _ h))

theorem settle_parts (s : State) (key n : Nat) (e : Err) : (s.settle key n e).parts = s.parts :=
  ((setErrs_spares s (List.range (n / 8)) (fun i => key / 8 + i)).trans (putBytes_spares _ key _)).parts

theorem poisonUnit_parts (s : State) (key : Nat) : (s.poisonUnit key).parts = s.parts := by
  unfold State.poisonUnit
  split
  · exact settle_parts ..
  · exact (foldl_keeps State.parts (fun _ _ => by rfl) _ _).trans (settle_parts ..)
  · exact settle_parts ..

theorem lt_spadBase_of_storeOf {key : Nat} (h : storeOf key = .near ∨ storeOf key = .cellar) : key < spadBase := by
  by_contra hge
  have hcel : ¬key < celBase := fun hc => hge (Nat.lt_trans hc (by decide))
  rw [storeOf, if_neg hcel, if_neg hge] at h
  split_ifs at h <;> simp at h

theorem poisonUnit_spares (s : State) {key : Nat} (h : key < spadBase) : Spares s (s.poisonUnit key) := by
  unfold State.poisonUnit
  split
  · refine settle_spares s _ 32 (.inr ?_)
    simp only [spadBase] at h ⊢
    omega
  · refine (settle_spares s _ 64 (.inl rfl)).trans (.foldl (fun i hi t => setErr_spares t (.inr ?_)) _)
    have := List.mem_range.mp hi
    simp only [spadBase] at h ⊢
    omega
  · refine settle_spares s _ 8 (.inr ?_)
    simp only [spadBase] at h ⊢
    omega

end Sys2Proof.Machine
end

section
/-! SUPPORT. Reads, tag fetches and writes spare the partitions and the tags (R105, R316, R330, R353 to R358, R371). -/

namespace Sys2Proof.Machine

/-! ### Where a line lies -/

theorem nearAt_pc_lt (s : State) (key : Nat) : (s.nearAt key).2.1 < 32 := by
  unfold State.nearAt nearPlace
  split <;> exact Nat.mod_lt _ (by decide)

theorem celPlace_lt (pop il pa : Nat) : (celPlace pop il pa).1 < 8 := by
  have hn : ∀ v lsb, nbits v lsb 1 < 2 ∧ nbits v lsb 2 < 4 ∧ nbits v lsb 3 < 8 := fun v lsb =>
    ⟨Nat.mod_lt _ (by decide), Nat.mod_lt _ (by decide), Nat.mod_lt _ (by decide)⟩
  obtain ⟨h1, h2, h3⟩ := hn (pa - celBase) 8
  obtain ⟨-, h4, h5⟩ := hn (pa - celBase) 16
  obtain ⟨-, h6, -⟩ := hn (pa - celBase) 17
  unfold celPlace
  dsimp only
  split_ifs <;> dsimp only <;> omega

/-- A key below the scratchpads lies on one of the eight channels (R330, R333). -/
theorem celAt_lt (s : State) {key : Nat} (h : key < spadBase) : (s.celAt key).1 < 8 := by
  unfold State.celAt
  split
  · simp only [celTagBase, spadBase] at h ⊢
    omega
  · exact celPlace_lt ..

theorem nearDecode_fixed_lt {coef : List Nat} {syms : List (Nat × Nat)} (h : nearDecode coef = .fixed syms) : ∀ x ∈ syms, x.1 < 36 := by
  unfold nearDecode at h
  dsimp only at h
  split_ifs at h
  split at h
  · rename_i x hx
    cases h
    obtain ⟨p, hp, hsome⟩ := List.exists_of_findSome?_eq_some hx
    dsimp only at hsome
    split_ifs at hsome
    cases hsome
    simpa using hp
  · split at h
    · rename_i x y hxy
      cases h
      obtain ⟨q, hq, hsome⟩ := List.exists_of_findSome?_eq_some hxy
      obtain ⟨p, hp, hsome⟩ := List.exists_of_findSome?_eq_some hsome
      dsimp only at hsome
      split_ifs at hsome
      cases hsome
      simp only [List.mem_range] at hp hq
      simp only [List.mem_cons, List.not_mem_nil, or_false, forall_eq_or_imp, forall_eq]
      omega
    · cases h

/-! ### Reads under the codes -/

theorem chargeLane_spares (s : State) (stack : Nat) {pc : Nat} (hpc : pc < 32) (sym n : Nat) : Spares s (s.chargeLane stack pc sym n) := by
  refine spares_of_undisturbed rfl (State.chargeLane_tagc ..) fun h => ((Undisturbed.refl h).modM _).wr ?_ _
  show INJ_STAT.adr ≠ NM_MARGIN.adr stack pc
  simp only [INJ_STAT.adr, NM_MARGIN.adr]
  omega

theorem readNear_spares (s : State) {key : Nat} (hk : key < celBase) : Spares s (s.readNear key).2 := by
  have hw : ∀ i, i < 4 → key / 32 * 32 / 8 + i < spadBase / 8 := fun i hi => by
    simp only [celBase, spadBase] at hk ⊢
    omega
  unfold State.readNear
  dsimp only
  refine .ite2 (.refl s) ?_
  split
  · exact settle_spares s _ 32 (.inl rfl)
  · exact capture_spares ..
  · rename_i syms hsyms
    refine Spares.trans (.foldl (fun x hx t => ?_) s) ((settle_spares _ _ 32 (.inl rfl)).trans (bucket_spares _ (by decide) 1))
    refine (chargeLane_spares t _ (nearAt_pc_lt s _) x.1 1).trans (.ite (.refl _) (setErr_spares _ (.inr (hw _ ?_))))
    have := nearDecode_fixed_lt hsyms x hx
    omega
  · have hlt : key / 32 * 32 < spadBase := by
      simp only [celBase, spadBase] at hk ⊢
      omega
    exact (poisonUnit_spares s hlt).trans ((capture_spares ..).trans (bucket_spares _ (by decide) 1))

theorem wr_spares (s : State) {f : Fld} (ha : INJ_STAT.adr ≠ f.adr) (v : Nat) : Spares s (s.wr f v) :=
  spares_of_undisturbed rfl rfl fun h => (Undisturbed.refl h).wr ha v

theorem modM_spares (s : State) {f : MemSt → MemSt} (hf : (f s.mst).tagc = s.mst.tagc) : Spares s (s.modM f) :=
  spares_of_undisturbed rfl hf fun h => (Undisturbed.refl h).modM f

theorem celCorrected_spares (s : State) {key : Nat} (hk : key < spadBase) (dev : Nat) : Spares s (s.celCorrected key dev) := by
  have hadr : INJ_STAT.adr ≠ CEL_MARK.adr (s.celAt key).1 := by
    have := celAt_lt s hk
    simp only [INJ_STAT.adr, CEL_MARK.adr]
    omega
  have hmark : ∀ (t : State) (a b c : Fld) (m n : Nat), a.adr = CEL_MARK.adr (s.celAt key).1 → b.adr = a.adr → c.adr = a.adr →
      Spares t ((((t.wr a 1).wr b m).wr c n).bucket 6 1) := fun t a b c m n ha hb hc =>
    (wr_spares t (ha ▸ hadr) 1).trans ((wr_spares _ (hb ▸ ha ▸ hadr) m).trans ((wr_spares _ (hc ▸ ha ▸ hadr) n).trans
      (bucket_spares _ (by decide) 1)))
  have hbkt : ∀ t : State, Spares t (t.bucket 6 1) := fun t => bucket_spares t (by decide) 1
  unfold State.celCorrected
  dsimp only
  refine .ite (modM_spares s rfl) ?_
  have hall : ∀ (t : State) (f g : MemSt → MemSt), (f s.mst).tagc = s.mst.tagc → (g (f s.mst)).tagc = (f s.mst).tagc →
      Spares ((s.modM f).modM g) t → Spares s t := fun t f g hf hg ht => (modM_spares s hf).trans ((modM_spares _ hg).trans ht)
  refine hall _ _ _ ?_ ?_ (.ite (.ite (hbkt _) (hmark _ _ _ _ _ _ rfl rfl rfl)) (.ite (hbkt _) (hmark _ _ _ _ _ _ rfl rfl rfl)))
  · rfl
  · rfl

theorem celCorrected_parts (s : State) (key dev : Nat) : (s.celCorrected key dev).parts = s.parts := by
  unfold State.celCorrected
  dsimp only
  split_ifs <;> simp [bucket_parts]

theorem readCel_parts (s : State) (key : Nat) : (s.readCel key).2.parts = s.parts := by
  unfold State.readCel
  extract_lets k ch r u
  have hu : u.parts = s.parts := State.inject_parts ..
  clear_value u
  have hbad : ∀ inj, (((u.poisonUnit k).capture 5 ch 0xFF false inj k).bucket 5 1).parts = s.parts := fun inj =>
    (bucket_parts ..).trans ((capture_parts ..).trans ((poisonUnit_parts ..).trans hu))
  refine ite_keeps (fun r : Bool × State => r.2.parts) (hbad true) (ite_keeps (fun r : Bool × State => r.2.parts) hu ?_)
  dsimp only
  split
  · exact (settle_parts ..).trans hu
  · exact (capture_parts ..).trans hu
  · refine (bucket_parts ..).trans ((celCorrected_parts ..).trans ((settle_parts ..).trans ?_))
    exact ite_keeps State.parts hu ((foldl_keeps State.parts (fun s i => by rfl) _ _).trans hu)
  · exact hbad _

theorem errAny_of_calm {s : State} (h : s.Calm) {key : Nat} (hk : spadBase ≤ key) : s.errAny (key / 64 * 64) 64 = false := by
  have hz : ∀ i, s.err (key / 64 * 64 / 8 + i) = Err.zero := fun i => h.clean _ (by simp only [spadBase] at hk ⊢; omega)
  simp [State.errAny, hz]

/-- In a calm state a unit stored from the scratchpads on reads good and stays as it is. -/
theorem readCel_of_calm {s : State} (h : s.Calm) {key : Nat} (hk : spadBase ≤ key) : s.readCel key = (false, s) := by
  simp only [State.readCel, inject_disarmed h.disarmed, errAny_of_calm h hk, Bool.not_false, Bool.false_eq_true, if_false, if_true]

theorem readCel_spares (s : State) (key : Nat) : Spares s (s.readCel key).2 := by
  refine ⟨readCel_parts s key, fun hs => ?_⟩
  rcases Nat.lt_or_ge key spadBase with hk | hk
  · have hlt : key / 64 * 64 < spadBase := Nat.lt_of_le_of_lt (Nat.div_mul_le_self key 64) hk
    suffices h : Spares s (s.readCel key).2 from h.calm hs
    simp only [State.readCel, inject_disarmed hs.disarmed, Bool.false_eq_true, if_false]
    refine .ite2 (.refl s) ?_
    split
    · exact settle_spares s _ 64 (.inl rfl)
    · exact capture_spares ..
    · refine Spares.trans (.ite (.refl s) (.foldl (fun i hi t => setErr_spares t (.inr ?_)) s)) ((settle_spares _ _ 64 (.inl rfl)).trans
        ((celCorrected_spares _ hlt _).trans (bucket_spares _ (by decide) 1)))
      have := List.mem_range.mp hi
      simp only [spadBase] at hk ⊢
      omega
    · exact (poisonUnit_spares s hlt).trans ((capture_spares ..).trans (bucket_spares _ (by decide) 1))
  · rw [readCel_of_calm hs hk]
    exact ⟨hs, rfl⟩

theorem readLine_spares (s : State) (key : Nat) : Spares s (s.readLine key).2 := by
  unfold State.readLine
  split
  · rename_i hk
    exact (nearMove_spares s key).trans (readNear_spares _ hk)
  · exact (celMove_spares s key).trans (readCel_spares _ key)

theorem readLine_good {s : State} (h : s.Calm) {key : Nat} (hk : spadBase ≤ key) : (s.readLine key).1 = false := by
  have hcel : ¬key < celBase := fun hc => absurd (Nat.lt_of_lt_of_le hc (by decide)) (Nat.not_lt.mpr hk)
  rw [State.readLine, if_neg hcel, readCel_of_calm ((celMove_spares s key).calm h).1 hk]

/-! ### Tag fetches -/

theorem flipLine_parts (s : State) (key : Nat) : (s.flipLine key).parts = s.parts := by
  unfold State.flipLine
  refine ite_keeps State.parts ?_ ?_
  · extract_lets r
    have hr : r.2.parts = s.parts := State.inject_parts ..
    clear_value r
    exact ite_keeps State.parts hr rfl
  · extract_lets r
    have hr : r.2.parts = s.parts := State.inject_parts ..
    clear_value r
    refine ite_keeps State.parts (ite_keeps State.parts ?_ hr) rfl
    exact (foldl_keeps State.parts (fun s i => by rfl) _ _).trans hr

theorem flipLine_spares (s : State) (key : Nat) : Spares s (s.flipLine key) :=
  ⟨flipLine_parts s key, fun hs => by rw [flipLine_disarmed hs.disarmed]; exact ⟨hs, rfl⟩⟩

theorem tagBack_parts (s : State) (x : TagLine) : (s.tagBack x).parts = s.parts := by
  unfold State.tagBack
  refine ite_keeps State.parts rfl ?_
  extract_lets d u v
  have hu : u.parts = s.parts := ((lineMove_spares s x.key).trans (setErrs_spares _ _ (fun i => x.key / 8 + i))).parts
  have hv : v.parts = s.parts := ite_keeps State.parts ((poisonUnit_parts ..).trans hu) hu
  exact (flipLine_parts ..).trans (ite_keeps State.parts hv ((bucket_parts ..).trans hv))

theorem tagBack_spares {s : State} {x : TagLine} (hx : x ∈ s.tagc) : Spares s (s.tagBack x) := by
  refine ⟨tagBack_parts s x, fun hs => ?_⟩
  suffices h : Spares s (s.tagBack x) from h.calm hs
  have hmove := (lineMove_spares s x.key).trans (setErrs_spares _ (List.range (lineSize x.key / 8)) (fun i => x.key / 8 + i))
  have hpoison : ∀ t, Spares t (if (gridRead x.err (List.range 8)).poison || x.bad then t.poisonUnit x.key else t) := fun t => by
    rcases Nat.lt_or_ge x.key spadBase with hk | hk
    · exact .ite (poisonUnit_spares t hk) (.refl t)
    · obtain ⟨hz, hb⟩ := hs.sound x hx hk
      rw [hz, hb, gridRead_zero]
      exact .refl t
  unfold State.tagBack
  refine .ite (.refl s) (hmove.trans ((hpoison _).trans (.trans ?_ (flipLine_spares _ _))))
  exact .ite (.refl _) (bucket_spares _ (by decide) _)

theorem tagRoom_spares (s : State) (key : Nat) : Spares s (s.tagRoom key) := by
  unfold State.tagRoom
  refine .ite (.refl s) ?_
  split
  · rename_i x hx
    refine (tagBack_spares (List.mem_filter.mp (List.mem_of_getLast? hx)).1).trans ⟨rfl, fun hs => ⟨⟨hs.disarmed, hs.clean, ?_⟩, rfl⟩⟩
    exact fun y hy => hs.sound y (List.mem_filter.mp hy).1
  · exact .refl s

theorem tagFetch_spares (s : State) (key : Nat) (dirty : Bool) : Spares s (s.tagFetch key dirty) := by
  cases hf : s.mst.tagc.find? (fun t => t.key == key) with
  | some x =>
    rw [tagFetch_hit hf]
    refine ⟨rfl, fun hs => ⟨⟨hs.disarmed, hs.clean, fun y hy hk => ?_⟩, rfl⟩⟩
    obtain rfl | hy := List.mem_cons.mp hy
    · exact hs.sound x (List.mem_of_find?_eq_some hf) hk
    · exact hs.sound y (List.mem_filter.mp hy).1 hk
  | none =>
    have hroom := (tagRoom_spares s key).trans (readLine_spares (s.tagRoom key) key)
    refine ⟨?_, fun hs => ?_⟩
    · rw [tagFetch_miss hf]
      exact (State.inject_parts ..).trans hroom.parts
    · obtain ⟨hcalm, htags⟩ := hroom.calm hs
      have hi := inject_disarmed hcalm.disarmed 0x18 (tagCtl key % 16)
      rw [tagFetch_miss hf, hi]
      refine ⟨⟨hcalm.disarmed, hcalm.clean, fun y hy hk => ?_⟩, htags⟩
      obtain rfl | hy := List.mem_cons.mp hy
      · exact ⟨by simp only [State.tagFill, hi, Bool.false_eq_true, if_false], readLine_good ((tagRoom_spares s key).calm hs).1 hk⟩
      · exact hcalm.sound y hy hk

end Sys2Proof.Machine
end

section
/-! SUPPORT. Reads and writes of ranges spare the partitions and the tags (R105, R316, R338, R348, R351, R371). -/

namespace Sys2Proof.Machine

theorem takeBad_spares (s : State) (u : MeshUnit) (w : Bool) : Spares s (s.takeBad u w).2 :=
  .ite2 ⟨rfl, fun hs => ⟨⟨hs.disarmed, hs.clean, hs.sound⟩, rfl⟩⟩ (.refl s)

theorem ite2_parts {s : State} {a b : Bool × State} {c : Prop} [Decidable c] (ha : a.2.parts = s.parts) (hb : b.2.parts = s.parts) :
    (if c then a else b).2.parts = s.parts := ite_keeps (fun r : Bool × State => r.2.parts) ha hb

theorem readGrid_parts (s : State) (w : Nat) (js : List Nat) : (s.readGrid w js).2.parts = s.parts := by
  unfold State.readGrid
  extract_lets +onlyGivenNames e
  refine ite2_parts rfl ?_
  extract_lets +onlyGivenNames r inst t
  have ht : t.parts = s.parts := ite_keeps State.parts rfl (bucket_parts ..)
  exact ite2_parts (ite2_parts ((capture_parts ..).trans ht) ((bucket_parts ..).trans ((capture_parts ..).trans ht))) ht

/-- In a calm state the words from the scratchpads on hold no error, so that a read of one leaves the state. -/
theorem readGrid_spares (s : State) {w : Nat} (hw : spadBase / 8 ≤ w) (js : List Nat) : Spares s (s.readGrid w js).2 := by
  refine ⟨readGrid_parts s w js, fun hs => ?_⟩
  have hr : s.readGrid w js = (false, s) := by simp only [State.readGrid, hs.clean w hw, if_true]
  rw [hr]
  exact ⟨hs, rfl⟩

theorem spadBase_le_of_storeOf {key : Nat} (hn : storeOf key ≠ .near) (hc : storeOf key ≠ .cellar) : spadBase ≤ key := by
  by_contra hlt
  unfold storeOf at hn hc
  by_cases hcel : key < celBase
  · exact hn (if_pos hcel)
  · exact hc (by rw [if_neg hcel, if_pos (Nat.not_le.mp hlt)])

theorem readUnit_spares (s : State) (key lo hi : Nat) : Spares s (s.readUnit key lo hi).2 := by
  have hline : Spares s (((s.tagFetch (s.tagPlace key).1 false).readLine key).2.takeBad (s.ctlOf key) false).2 :=
    (tagFetch_spares s _ false).trans ((readLine_spares _ key).trans (takeBad_spares _ _ _))
  unfold State.readUnit
  split
  · exact hline
  · exact hline
  · rename_i hn hc
    exact readGrid_spares s (Nat.div_le_div_right (spadBase_le_of_storeOf hn hc)) _

/-! ### Writes -/

theorem setByte_zero (j : Nat) : Err.zero.setByte j 0 0 = Err.zero := by
  simp [Err.setByte, Err.zero]

theorem prepUnit_spares (s : State) (key lo hi : Nat) : Spares s (s.prepUnit key lo hi) := by
  unfold State.prepUnit
  split
  · exact .ite (setErrs_spares s _ (fun i => key / 8 + i)) (readUnit_spares ..)
  · exact .ite (setErrs_spares s _ (fun i => key / 8 + i)) (readUnit_spares ..)
  · rename_i hn hc
    refine ⟨rfl, fun hs => (setErr_spares s (.inl ?_)).calm hs⟩
    have hz : s.err (key / 8) = Err.zero := hs.clean _ (Nat.div_le_div_right (spadBase_le_of_storeOf hn hc))
    rw [hz, foldl_fixed_mem (s := Err.zero) fun j _ => by rw [setByte_zero, ite_self]]
    exact if_pos ⟨rfl, rfl⟩

theorem flipUnit_parts (s : State) (key : Nat) : (s.flipUnit key).parts = s.parts := by
  unfold State.flipUnit
  dsimp only
  split
  · exact flipLine_parts ..
  · exact flipLine_parts ..
  · exact ite_keeps State.parts (ite_keeps State.parts (State.inject_parts ..) rfl) rfl
  · exact ite_keeps State.parts (State.inject_parts ..) rfl

theorem flipUnit_spares (s : State) (key : Nat) : Spares s (s.flipUnit key) := by
  refine ⟨flipUnit_parts s key, fun hs => ?_⟩
  have hf : s.flipUnit key = s := by
    unfold State.flipUnit
    split <;> simp only [flipLine_disarmed hs.disarmed, inject_disarmed hs.disarmed, Bool.false_eq_true, if_false, ite_self]
  rw [hf]
  exact ⟨hs, rfl⟩

theorem writeRange_spares (s : State) (key : Nat) (bs : List Byte) : Spares s (s.writeRange key bs) := by
  have hflit : ∀ (t : State) (u : Nat), u < spadBase → Spares t (let b := (t.lineMove u).takeBad (t.ctlOf u) true;
      if b.1 then b.2.poisonUnit u else b.2) := fun t u hu =>
    (lineMove_spares t u).trans ((takeBad_spares _ _ true).trans (.ite (poisonUnit_spares _ hu) (.refl _)))
  unfold State.writeRange
  refine .ite (.refl s) ?_
  extract_lets us t u v
  have ht : Spares s t := .foldl (fun x _ t => prepUnit_spares t x key (key + bs.length)) s
  have hu : Spares t u := putBytes_spares bs key t
  have hv : Spares u v := by
    refine .foldl (fun x _ t => Spares.trans ?_ (flipUnit_spares _ x)) u
    split
    · rename_i h
      exact hflit t x (lt_spadBase_of_storeOf (.inl h))
    · rename_i h
      exact hflit t x (lt_spadBase_of_storeOf (.inr h))
    · exact .refl t
  exact ht.trans (hu.trans (hv.trans ⟨rfl, fun hs => ⟨⟨hs.disarmed, hs.clean, hs.sound⟩, rfl⟩⟩))

theorem setPte_spares (s : State) (a : Nat) (e : Word) : Spares s (s.setPte a e) := writeRange_spares s a _

/-! ### Tags -/

theorem tagLost_parts (s : State) (g synd : Nat) (inj : Bool) : (s.tagLost g synd inj).2.parts = s.parts := by
  refine (bucket_parts ..).trans ((capture_parts ..).trans ?_)
  unfold State.poisonGranule
  split
  · exact poisonUnit_parts ..
  · exact poisonUnit_parts ..
  · exact (poisonUnit_parts ..).trans (poisonUnit_parts ..)

theorem readTag_parts (s : State) (g : Nat) : (s.readTag g).2.parts = s.parts := by
  unfold State.readTag
  extract_lets +onlyGivenNames key
  split
  case h_1 | h_2 =>
    extract_lets +onlyGivenNames r
    refine ite2_parts ((tagLost_parts ..).trans (State.inject_parts ..)) ?_
    extract_lets +onlyGivenNames p t
    have ht : t.parts = s.parts := (tagFetch_spares s p.1 false).parts
    split
    · refine ite2_parts ((tagLost_parts ..).trans ht) (ite2_parts ((tagLost_parts ..).trans ht) ?_)
      exact ite_keeps State.parts ht ((bucket_parts ..).trans ht)
    · exact ht
  case h_3 => exact ite2_parts (tagLost_parts ..) (ite_keeps State.parts rfl (bucket_parts ..))
  case h_4 => rfl

theorem writeTag_parts (s : State) (g : Nat) (b : Bool) : (s.writeTag g b).parts = s.parts := by
  unfold State.writeTag
  dsimp only
  split
  · exact (tagFetch_spares ..).parts
  · exact (tagFetch_spares ..).parts
  · exact ite_keeps State.parts (ite_keeps State.parts (State.inject_parts ..) rfl) rfl
  · rfl

end Sys2Proof.Machine
end

section
/-! SUPPORT. The sweep of tags where nothing is spoilt (R141, step 3). -/

namespace Sys2Proof.Machine

/-- No word holds an error, no injection is armed, and no line of a tag cache is spoilt. -/
structure State.Clean (s : State) : Prop where
  errs : s.errs = []
  disarmed : s.rdB INJ_STAT.ARMED = false
  sound : ∀ x ∈ s.tagc, x.sound

theorem State.Clean.calm {s : State} (h : s.Clean) : s.Calm :=
  ⟨h.disarmed, fun w _ => err_of_errs_nil h.errs w, fun x hx _ => h.sound x hx⟩

/-! ### Fetches leave memory -/

section
variable {s t : State} (h : Undisturbed s t) (he : t.errs = [])
include h he

theorem Undisturbed.readLine (key : Nat) : Undisturbed s (t.readLine key).2 := by
  unfold State.readLine
  split
  · have hm := h.nearMove key
    rw [State.readNear, errAny_nil (hm.errs.trans (h.errs.symm.trans he))]
    exact hm
  · have hm := h.celMove key
    simp only [State.readCel, inject_disarmed hm.disarmed, errAny_nil (hm.errs.trans (h.errs.symm.trans he)), Bool.not_false,
      Bool.false_eq_true, if_false, if_true]
    exact hm

theorem Undisturbed.tagBack {x : TagLine} (hx : x.sound) : Undisturbed s (t.tagBack x) := by
  obtain ⟨hz, hb⟩ := hx
  have hm := h.lineMove x.key
  unfold State.tagBack
  refine .ite h ?_
  simp only [hz, gridRead_zero, hb, clearErrs_nil (hm.errs.trans (h.errs.symm.trans he)), Bool.or_self, Bool.false_eq_true, if_false, if_true,
    flipLine_disarmed hm.disarmed]
  exact hm

theorem Undisturbed.tagRoom (hs : ∀ x ∈ t.tagc, x.sound) (key : Nat) : Undisturbed s (t.tagRoom key) := by
  unfold State.tagRoom
  refine .ite h ?_
  split
  · rename_i x hx
    exact (h.tagBack he (hs x (List.mem_filter.mp (List.mem_of_getLast? hx)).1)).modM _
  · exact h

theorem Undisturbed.tagFetch (hs : ∀ x ∈ t.tagc, x.sound) (key : Nat) (dirty : Bool) : Undisturbed s (t.tagFetch key dirty) := by
  cases hf : t.mst.tagc.find? (fun x => x.key == key) with
  | some y =>
    rw [tagFetch_hit hf]
    exact h.modM _
  | none =>
    have hr := h.tagRoom he hs key
    have hl := hr.readLine (hr.errs.trans (h.errs.symm.trans he)) key
    rw [tagFetch_miss hf, inject_disarmed hl.disarmed]
    exact hl.modM _

end

/-! ### One granule -/

/-- What a sweep keeps of a clean state: everything that decides whose a granule is and what capability it holds, but tags. -/
structure SweptFrom (z s : State) : Prop where
  clean : s.Clean
  mem : s.mem = z.mem
  parts : s.parts = z.parts
  granules : s.mst.granules = z.mst.granules
  cleared : ∀ k, s.tagAt k = z.tagAt k ∨ s.tagAt k = false

theorem SweptFrom.refl {s : State} (h : s.Clean) : SweptFrom s s := ⟨h, rfl, rfl, rfl, fun _ => .inl rfl⟩

theorem SweptFrom.trans {s t u : State} (h : SweptFrom s t) (g : SweptFrom t u) : SweptFrom s u := by
  refine ⟨g.clean, g.mem.trans h.mem, g.parts.trans h.parts, g.granules.trans h.granules, fun k => ?_⟩
  rcases g.cleared k with e | e
  · rw [e]
    exact h.cleared k
  · exact .inr e

theorem SweptFrom.stays_clear {s t : State} (h : SweptFrom s t) {g : Nat} (hg : s.tagAt g = false) : t.tagAt g = false :=
  (h.cleared g).elim (fun e => e.trans hg) id

/-- The capability of a granule differs by its tag alone. -/
theorem SweptFrom.capAt {z s : State} (hz : z.Clean) (h : SweptFrom z s) {g : Nat} (hg : s.tagAt g = true) : s.capAt g = z.capAt g := by
  have htag : z.tagAt g = true := by
    rcases h.cleared g with e | e
    · exact e ▸ hg
    · rw [hg] at e
      cases e
  have hbytes : s.bytesAt (16 * g) 16 = z.bytesAt (16 * g) 16 := by
    simp only [State.bytesAt, State.byteAt, err_of_errs_nil h.clean.errs, err_of_errs_nil hz.errs, rawByte_of_mem h.mem]
  rw [State.capAt, hbytes, hg, State.capAt, htag]

theorem SweptFrom.tagOwner {z s : State} (h : SweptFrom z s) (g : Nat) : s.tagOwner g = z.tagOwner g := by
  simp only [State.tagOwner, h.granules, State.part, h.parts]

theorem tagFetch_swept {s : State} (h : s.Clean) (key : Nat) (dirty : Bool) :
    SweptFrom s (s.tagFetch key dirty) ∧ (s.tagFetch key dirty).tags = s.tags := by
  obtain ⟨⟨⟨hgran, hdis⟩, htags, herrs⟩, hsound⟩ := tagFetch_still (stillAs_refl h.disarmed) h.errs h.sound key dirty
  have hmem := ((Undisturbed.refl h.disarmed).tagFetch h.errs h.sound key dirty).mem
  exact ⟨⟨⟨herrs.trans h.errs, hdis, hsound⟩, hmem, (tagFetch_spares s key dirty).parts, hgran, fun k => .inl (tagAt_of_tags htags k)⟩, htags⟩

theorem readTag_swept {s : State} (h : s.Clean) (g : Nat) : SweptFrom s (s.readTag g).2 := by
  have cached (hst : storeOf (16 * g) = .near ∨ storeOf (16 * g) = .cellar) : SweptFrom s (s.readTag g).2 := by
    obtain ⟨hf, -⟩ := tagFetch_swept h (s.tagPlace (16 * g)).1 false
    obtain ⟨x, hx⟩ := tagFetch_find s (s.tagPlace (16 * g)).1 false
    rw [readTag_sound h.disarmed hst hx (hf.clean.sound x (List.mem_of_find?_eq_some hx))]
    exact hf
  cases hst : storeOf (16 * g) with
  | near => exact cached (Or.inl hst)
  | cellar => exact cached (Or.inr hst)
  | spad =>
    simp only [State.readTag, hst, err_of_errs_nil h.errs, gridRead_zero, Bool.false_eq_true, if_false, if_true]
    exact .refl h
  | pram =>
    simp only [State.readTag, hst]
    exact .refl h

/-- The tag of a granule that is cleared. -/
theorem setTag_swept {z s : State} (h : SweptFrom z s) (g : Nat) : SweptFrom z (s.setTag g false) := by
  obtain ⟨⟨herrs, hdis, hsound⟩, hmem, hparts, hgran, hclear⟩ := h
  refine ⟨⟨herrs, hdis, hsound⟩, hmem, hparts, hgran, fun k => ?_⟩
  rw [tagAt_setTag]
  split
  · exact .inr rfl
  · exact hclear k

theorem writeTag_swept {s : State} (h : s.Clean) (g : Nat) : SweptFrom s (s.writeTag g false) := by
  have cached : SweptFrom s ((s.tagFetch (s.tagPlace (16 * g)).1 true).setTag g false) :=
    setTag_swept (tagFetch_swept h _ true).1 g
  cases hst : storeOf (16 * g) with
  | near => simpa only [State.writeTag, hst] using cached
  | cellar => simpa only [State.writeTag, hst] using cached
  | spad =>
    have hd : (s.setTag g false).rdB INJ_STAT.ARMED = false := h.disarmed
    have he : (if (Err.zero.setByte (spadTagAt g).2 0 0).d = 0 ∧ (Err.zero.setByte (spadTagAt g).2 0 0).c = 0 then Err.zero
        else Err.zero.setByte (spadTagAt g).2 0 0) = Err.zero := by rw [setByte_zero, ite_self]
    simp only [State.writeTag, hst, err_of_errs_nil h.errs, he, setErr_zero_of_nil h.errs, inject_disarmed hd, Bool.false_eq_true, if_false,
      ite_self]
    exact setTag_swept (.refl h) g
  | pram =>
    simp only [State.writeTag, hst]
    exact setTag_swept (.refl h) g

theorem sweepGranule_swept {s : State} (h : s.Clean) (g : Nat) : SweptFrom s (s.sweepGranule g) := by
  unfold State.sweepGranule
  split
  · exact .refl h
  · have hr := readTag_swept h g
    dsimp only
    split
    · exact hr.trans (writeTag_swept hr.clean g)
    · exact hr

/-- The sweep of a granule clears its tag where its capability meets the active set of its partition (R141). -/
theorem sweepGranule_clears {z s : State} (hz : z.Clean) (h : SweptFrom z s) {g : Nat} {o : PartId} (ho : z.tagOwner g = some o)
    (hp : ((z.capAt g).purge (z.part o).qActive).tag = false) : (s.sweepGranule g).tagAt g = false := by
  obtain ⟨hread, htags⟩ := readTag_still h.clean.errs h.clean.disarmed h.clean.sound g
  have hr := h.trans (readTag_swept h.clean g)
  simp only [State.sweepGranule, h.tagOwner g, ho, hread]
  cases htag : s.tagAt g with
  | false =>
    rw [Bool.false_and, if_neg Bool.false_ne_true, tagAt_of_tags htags, htag]
  | true =>
    have hcap : (s.readTag g).2.capAt g = z.capAt g := hr.capAt hz ((tagAt_of_tags htags g).trans htag)
    have hset : (s.readTag g).2.part o = z.part o := by simp only [State.part, hr.parts]
    rw [hcap, hset, hp, Bool.not_false, Bool.and_self, if_pos rfl, State.tagAt, writeTag_tags hr.clean.errs hr.clean.disarmed hr.clean.sound,
      mapGet_put, if_pos rfl]

/-! ### The sweep -/

theorem sweepFold_swept {s : State} (h : s.Clean) (l : List (Nat × Bool)) : SweptFrom s (l.foldl (fun s e => s.sweepGranule e.1) s) :=
  List.foldlRecOn (motive := SweptFrom s) l _ (.refl h) fun _ ht e _ => ht.trans (sweepGranule_swept ht.clean e.1)

theorem mem_of_mapFind {α : Type} {m : List (Nat × α)} {a : Nat} {v : α} (h : mapFind m a = some v) : (a, v) ∈ m := by
  induction m with
  | nil => cases h
  | cons e m ih =>
    obtain ⟨k, w⟩ := e
    simp only [mapFind] at h
    split at h
    · rename_i hk
      cases h
      exact hk ▸ List.mem_cons_self
    · exact List.mem_cons_of_mem _ (ih h)

theorem mem_tags_of_tagAt {s : State} {g : Nat} (h : s.tagAt g = true) : (g, true) ∈ s.tags := by
  unfold State.tagAt mapGet at h
  cases hf : mapFind s.tags g with
  | none =>
    rw [hf] at h
    cases h
  | some b =>
    rw [hf] at h
    cases h
    exact mem_of_mapFind hf

theorem sweepTags_swept {s : State} (h : s.Clean) : SweptFrom s s.sweepTags := sweepFold_swept h s.tags

/-- The sweep of memory clears the tag of every capability into the active set of its partition (R141). -/
theorem sweepTags_clears {s : State} (h : s.Clean) {g : Nat} {o : PartId} (ho : s.tagOwner g = some o)
    (hp : ((s.capAt g).purge (s.part o).qActive).tag = false) : s.sweepTags.tagAt g = false := by
  cases htag : s.tagAt g with
  | false => exact (sweepTags_swept h).stays_clear htag
  | true =>
    obtain ⟨a, b, hab⟩ := List.append_of_mem (mem_tags_of_tagAt htag)
    have ha := sweepFold_swept h a
    have hg := ha.trans (sweepGranule_swept ha.clean g)
    rw [State.sweepTags, hab, List.foldl_append, List.foldl_cons]
    exact (sweepFold_swept hg.clean b).stays_clear (sweepGranule_clears h ha ho hp)

theorem sweepGranule_parts (s : State) (g : Nat) : (s.sweepGranule g).parts = s.parts := by
  unfold State.sweepGranule
  split
  · rfl
  · exact ite_keeps State.parts ((writeTag_parts ..).trans (readTag_parts ..)) (readTag_parts ..)

theorem sweepTags_parts (s : State) : s.sweepTags.parts = s.parts :=
  foldl_keeps State.parts (fun s (e : Nat × Bool) => sweepGranule_parts s e.1) s.tags s

end Sys2Proof.Machine
end

section
/-! SUPPORT. The close of a sweep epoch, zeroing and the end of a HEAT period (R130, R135, R141, R144). -/

namespace Sys2Proof.Machine

/-! ### Calm states through the close of an epoch -/

/-- A calm state stays calm with its tags. -/
def Tame (s t : State) : Prop := s.Calm → t.Calm ∧ t.tags = s.tags

theorem Tame.refl (s : State) : Tame s s := fun h => ⟨h, rfl⟩

theorem Tame.trans {s t u : State} (h : Tame s t) (g : Tame t u) : Tame s u := fun hs => by
  obtain ⟨ht, etags⟩ := h hs
  obtain ⟨hu, eu⟩ := g ht
  exact ⟨hu, eu.trans etags⟩

theorem Tame.foldl {α : Type} {f : State → α → State} (hf : ∀ s x, Tame s (f s x)) (l : List α) (s : State) : Tame s (l.foldl f s) :=
  List.foldlRecOn (motive := Tame s) l f (.refl s) fun t ht x _ => ht.trans (hf t x)

theorem wr_tame (s : State) {f : Fld} (ha : INJ_STAT.adr ≠ f.adr) (v : Nat) : Tame s (s.wr f v) := (wr_spares s ha v).calm

theorem modPart_tame (s : State) (p : PartId) (f : Part → Part) : Tame s (s.modPart p f) :=
  fun h => ⟨⟨h.disarmed, h.clean, h.sound⟩, rfl⟩

/-- The read of a partition's quarantine sets before their errors are dropped. -/
theorem qsetRead_eq (s : State) (p : PartId) : ∃ t, Spares s t ∧ s.qsetRead p = t.modPart p (fun x => { x with qErr := [] }) := by
  refine ⟨_, .foldl (fun e _ t => ?_) s, rfl⟩
  exact .ite ((capture_spares ..).trans (bucket_spares _ (by decide) 1)) (bucket_spares t (by decide) _)

theorem qsetRead_tame (s : State) (p : PartId) : Tame s (s.qsetRead p) := by
  obtain ⟨t, ht, e⟩ := qsetRead_eq s p
  rw [e]
  exact Tame.trans ht.calm (modPart_tame t p _)

theorem dropLeaves_spares (s : State) (p : PartId) : Spares s (s.dropLeaves p) :=
  .foldl (fun l _ t => .ite (setPte_spares t l.2.1 0) (.refl t)) s

/-- The ranges of a partition's active set join its reuse list, and their leaves go (R141, step 5). -/
def State.giveRanges (s : State) (p : PartId) : State :=
  (s.dropLeaves p).modPart p (fun x => { x with reuse := x.qActive.foldl addRange x.reuse, qActive := [] })

theorem giveRanges_tame (s : State) (p : PartId) : Tame s (s.giveRanges p) := Tame.trans (dropLeaves_spares s p).calm (modPart_tame _ p _)

theorem purgeRegs_tame (s : State) (p : PartId) : Tame s (s.purgeRegs p) := by
  unfold State.purgeRegs
  dsimp only
  split
  · exact .refl s
  · exact .foldl (f := fun t c => t.modA c _) (fun t c h => ⟨⟨h.disarmed, h.clean, h.sound⟩, rfl⟩) _ s

theorem purgeTokens_tame (s : State) : Tame s s.purgeTokens := fun h => ⟨⟨h.disarmed, h.clean, h.sound⟩, rfl⟩

theorem openEpoch_tame (s : State) : Tame s s.openEpoch := by
  unfold State.openEpoch
  split
  · exact .refl s
  · extract_lets a b c d
    have ha : Tame s a := Tame.trans (wr_tame s (f := REV_STAT.EPOCH) (by decide) _) (.trans (wr_tame _ (f := REV_STAT.OPEN) (by decide) 1)
      (wr_tame _ (f := REV_STAT.PAUSED) (by decide) _))
    have hb : Tame a b := .foldl qsetRead_tame (fins 16) a
    clear_value b
    have hd : Tame b d := fun h => ⟨⟨h.disarmed, h.clean, h.sound⟩, rfl⟩
    clear_value d
    have he : Tame d ((fins 16).foldl (fun s p => s.purgeRegs p) d) := .foldl purgeRegs_tame (fins 16) d
    exact ha.trans (hb.trans (hd.trans (he.trans (purgeTokens_tame _))))

/-! ### The sets and the reuse list of a partition -/

/-- The ranges that a partition has to reuse, its active set and its next set. -/
def State.rangesOf (s : State) (p : PartId) : List (Nat × Nat) × List (Nat × Nat) × List (Nat × Nat) :=
  ((s.part p).reuse, (s.part p).qActive, (s.part p).qNext)

theorem rangesOf_congr {s t : State} (h : t.parts = s.parts) (p : PartId) : t.rangesOf p = s.rangesOf p := by
  simp only [State.rangesOf, State.part, h]

theorem part_modPart_ne (s : State) {p q : PartId} (h : p ≠ q) (f : Part → Part) : (s.modPart q f).part p = s.part p :=
  Vector.getElem_set_ne q.isLt p.isLt (fun e => h (Fin.ext e.symm))

theorem qsetRead_rangesOf (s : State) (p q : PartId) : (s.qsetRead q).rangesOf p = s.rangesOf p := by
  obtain ⟨t, ht, e⟩ := qsetRead_eq s q
  rw [e, ← rangesOf_congr ht.parts p]
  by_cases hpq : p = q
  · subst hpq
    simp only [State.rangesOf, part_modPart]
  · simp only [State.rangesOf, part_modPart_ne t hpq]

theorem giveRanges_rangesOf (s : State) (p : PartId) :
    (s.giveRanges p).rangesOf p = ((s.rangesOf p).2.1.foldl addRange (s.rangesOf p).1, [], (s.rangesOf p).2.2) := by
  rw [← rangesOf_congr (dropLeaves_spares s p).parts p]
  simp only [State.giveRanges, State.rangesOf, part_modPart]

theorem giveRanges_rangesOf_ne (s : State) {p q : PartId} (h : p ≠ q) : (s.giveRanges q).rangesOf p = s.rangesOf p := by
  rw [← rangesOf_congr (dropLeaves_spares s q).parts p]
  simp only [State.giveRanges, State.rangesOf, part_modPart_ne _ h]

/-- Where one element of a list alone changes what is read, the fold changes it as that one does. -/
theorem foldl_changes_at {σ α β : Type} (φ : σ → β) {g : β → β} {f : σ → α → σ} {l : List α} {p : α} (hp : p ∈ l) (hl : l.Nodup)
    (hne : ∀ s q, p ≠ q → φ (f s q) = φ s) (heq : ∀ s, φ (f s p) = g (φ s)) (s : σ) : φ (l.foldl f s) = g (φ s) := by
  obtain ⟨a, b, rfl⟩ := List.append_of_mem hp
  have hnot : ∀ q ∈ a ++ b, p ≠ q := fun q hq e => (List.nodup_middle.mp hl).notMem (e ▸ hq)
  have hpart : ∀ (m : List α), (∀ q ∈ m, p ≠ q) → ∀ s, φ (m.foldl f s) = φ s := fun m hm s =>
    List.foldlRecOn (motive := fun t => φ t = φ s) m f rfl fun t ht q hq => (hne t q (hm q hq)).trans ht
  rw [List.foldl_append, List.foldl_cons, hpart b fun q hq => hnot q (List.mem_append_right a hq), heq,
    hpart a fun q hq => hnot q (List.mem_append_left b hq)]

theorem purgeRegs_parts (s : State) (p : PartId) : (s.purgeRegs p).parts = s.parts := by
  unfold State.purgeRegs
  exact ite_keeps State.parts rfl (foldl_keeps State.parts (fun _ _ => by rfl) _ s)

theorem purgeTokens_parts (s : State) : s.purgeTokens.parts = s.parts := rfl

/-- The opening of an epoch leaves the reuse lists, and an active set that was empty stays so where no set waits (R141). -/
theorem openEpoch_rangesOf (s : State) (p : PartId) : (s.openEpoch.rangesOf p).1 = (s.rangesOf p).1 ∧
    ((s.rangesOf p).2.1 = [] → (s.rangesOf p).2.2 = [] → (s.openEpoch.rangesOf p).2.1 = []) := by
  unfold State.openEpoch
  split
  · exact ⟨rfl, fun h _ => h⟩
  · extract_lets a b c d
    have hb : b.rangesOf p = s.rangesOf p := foldl_keeps (fun s => s.rangesOf p) (fun s q => qsetRead_rangesOf s p q) (fins 16) a
    have hc : c.rangesOf p = ((b.rangesOf p).1, (b.rangesOf p).2.2, []) := by
      simp only [State.rangesOf, State.part, c, Vector.getElem_map]
    have hd : ((fins 16).foldl (fun s p => s.purgeRegs p) d).parts = d.parts := foldl_keeps State.parts purgeRegs_parts (fins 16) d
    have he : ((fins 16).foldl (fun s p => s.purgeRegs p) d).purgeTokens.parts = c.parts := (purgeTokens_parts _).trans hd
    have hall : ((fins 16).foldl (fun s p => s.purgeRegs p) d).purgeTokens.rangesOf p = ((s.rangesOf p).1, (s.rangesOf p).2.2, []) := by
      rw [rangesOf_congr (s := c) he, hc, hb]
    rw [hall]
    exact ⟨rfl, fun _ h => h⟩

end Sys2Proof.Machine
end

section
/-! SUPPORT. The zeroed pool, the close of a sweep epoch and the end of a HEAT period (R130, R135, R141, R144). -/

namespace Sys2Proof.Machine

/-! ### The closed epoch -/

/-- The state that a sweep pass leaves as it closes its epoch (R141). -/
def State.sweepClosed (s : State) : State :=
  (((((fins 16).foldl State.giveRanges ((fins 16).foldl State.qsetRead s.sweepTags)).wr REV_STAT.OPEN 0).wr REV_STAT.PAUSED 0).wr
    REV_CTL.SWEEP_NOW 0).openEpoch

theorem exec_sweepEpochClose_closes {s : State} (hopen : s.rdB REV_STAT.OPEN = true) (hpause : s.sweepPaused = false)
    (hwork : (s.cps.any (fun x => x.vq.sweepHeld) || s.parts.any (fun x => x.slots.any (fun t => t.vq.sweepHeld))) = false) :
    exec .sweepEpochClose s = .next s.sweepClosed := by
  show execSweepEpochClose s = _
  rw [execSweepEpochClose, if_neg]
  · rfl
  · simp only [hopen, hpause, Bool.not_true, Bool.false_or, hwork, Bool.false_eq_true, not_false_eq_true]

theorem exec_sweepEpochClose_waits {s : State} (h : s.rdB REV_STAT.OPEN = false ∨ s.sweepPaused = true ∨
    (s.cps.any (fun x => x.vq.sweepHeld) || s.parts.any (fun x => x.slots.any (fun t => t.vq.sweepHeld))) = true) :
    exec .sweepEpochClose s = .next s := by
  show execSweepEpochClose s = _
  rw [execSweepEpochClose, if_pos]
  rcases h with h | h | h
  · simp only [h, Bool.not_false, Bool.true_or]
  · simp only [h, Bool.or_true, Bool.true_or]
  · simp only [Bool.or_assoc] at h ⊢
    simp only [h, Bool.or_true]

theorem sweepClosed_rangesOf (s : State) (p : PartId) : (s.sweepClosed.rangesOf p).1 = (s.rangesOf p).2.1.foldl addRange (s.rangesOf p).1 ∧
    ((s.rangesOf p).2.2 = [] → (s.sweepClosed.rangesOf p).2.1 = []) := by
  have hread : ((fins 16).foldl State.qsetRead s.sweepTags).rangesOf p = s.rangesOf p :=
    (foldl_keeps (fun s => s.rangesOf p) (fun s q => qsetRead_rangesOf s p q) (fins 16) _).trans (rangesOf_congr (sweepTags_parts s) p)
  have hgive := foldl_changes_at (fun s => s.rangesOf p) (l := fins 16) (g := fun r => (r.2.1.foldl addRange r.1, [], r.2.2)) (List.mem_finRange p)
    (List.nodup_finRange 16) (fun s q h => giveRanges_rangesOf_ne s h) (fun s => giveRanges_rangesOf s p)
    ((fins 16).foldl State.qsetRead s.sweepTags)
  have hregs : ∀ t : State, (((t.wr REV_STAT.OPEN 0).wr REV_STAT.PAUSED 0).wr REV_CTL.SWEEP_NOW 0).rangesOf p = t.rangesOf p := fun _ => rfl
  unfold State.sweepClosed
  rw [← hread]
  generalize (fins 16).foldl State.giveRanges ((fins 16).foldl State.qsetRead s.sweepTags) = t at hgive ⊢
  obtain ⟨hreuse, hactive⟩ := openEpoch_rangesOf (((t.wr REV_STAT.OPEN 0).wr REV_STAT.PAUSED 0).wr REV_CTL.SWEEP_NOW 0) p
  simp only [hregs, hgive, forall_const] at hreuse hactive
  exact ⟨hreuse, hactive⟩

theorem sweepClosed_tame (s : State) : Tame s.sweepTags s.sweepClosed :=
  (Tame.foldl qsetRead_tame (fins 16) _).trans ((Tame.foldl giveRanges_tame (fins 16) _).trans
    ((wr_tame _ (f := REV_STAT.OPEN) (by decide) 0).trans ((wr_tame _ (f := REV_STAT.PAUSED) (by decide) 0).trans
      ((wr_tame _ (f := REV_CTL.SWEEP_NOW) (by decide) 0).trans (openEpoch_tame _)))))

/-- No capability into an active set survives the close of its epoch (R141). -/
theorem sweepClosed_clears {s : State} (h : s.Clean) {g : Nat} {o : PartId} (ho : s.tagOwner g = some o)
    (hp : ((s.capAt g).purge (s.part o).qActive).tag = false) : s.sweepClosed.tagAt g = false := by
  obtain ⟨-, htags⟩ := sweepClosed_tame s (sweepTags_swept h).clean.calm
  exact (tagAt_of_tags htags g).trans (sweepTags_clears h ho hp)

/-! ### Samples -/

/-- Samples without an error are all read, and nothing is reported (R154). -/
theorem readSamples_clean {s : State} (h : ∀ x ∈ s.mst.samples, x.err = Err.zero) : s.readSamples = (s.mst.samples, s) := by
  unfold State.readSamples
  generalize s.mst.samples = l at h ⊢
  induction l with
  | nil => rfl
  | cons x l ih => rw [List.foldr_cons, ih fun y hy => h y (List.mem_cons_of_mem x hy), if_pos (h x List.mem_cons_self)]

theorem sweepAndZeroResults : Sys2Proof.Clauses.SweepAndZeroResults := by
  intro s tier p
  dsimp only
  refine ⟨fun h => ?_, fun h => ?_, rfl, fun hopen hpause hwork => ?_, exec_sweepEpochClose_waits, ?_, fun h => ?_⟩
  · subst h
    rfl
  · subst h
    rfl
  · obtain ⟨hreuse, hactive⟩ := sweepClosed_rangesOf s p
    refine ⟨s.sweepClosed, exec_sweepEpochClose_closes hopen hpause hwork, hreuse, hactive, fun _ herrs hdis hall g o ho hp => ?_⟩
    have hsound : ∀ x ∈ s.tagc, x.sound := fun x hx => by simpa [TagLine.sound] using List.all_eq_true.mp hall x hx
    exact sweepClosed_clears ⟨herrs, hdis, hsound⟩ ho hp
  · rfl
  · exact readSamples_clean fun x hx => by simpa using List.all_eq_true.mp h x hx

/-- Settles O34: the zeroed pool, the sweep and the HEAT period, and Turning. -/
theorem migrationAndSweepResults : Obligations.MigrationAndSweepResults := ⟨sweepAndZeroResults, turningResults⟩

end Sys2Proof.Machine
end

section
/-! SUPPORT. The descriptor instructions (R156, R197, R204). -/

namespace Sys2Proof.Machine

/-! ### Writes of a descriptor -/

/-- With no injection armed a descriptor register takes what is written, and nothing else changes (R204). -/
theorem setD_disarmed {s : State} (h : s.rdB INJ_STAT.ARMED = false) (c : CpId) (r : Reg) (d : DReg) :
    s.setD c r d = s.modA c (fun a => { a with d := a.d.set r.val { d with err := Err.zero } }) := by
  simp [State.setD, inject_disarmed h]

theorem setDPart_calm {s : State} {c : CpId} (r : Reg) (v : DReg) (h : (s.cp c).calm) : ((s.setDPart c r v).cp c).calm := by
  rw [State.setDPart, cp_modA]
  exact setD_calm r v h

/-- A descriptor register after a write of one. -/
theorem d_modA_set (s : State) (c : CpId) (r k : Reg) (d : DReg) :
    (s.modA c (fun a => { a with d := a.d.set r.val d })).d c k = if r = k then d else s.d c k := by
  simp only [State.d, cp_modA, Vector.getElem_set, Fin.ext_iff]

/-- A descriptor register without a check error reads as it is (R347). -/
theorem readD_of_clean {s : State} {c : CpId} {r : Reg} (h : (s.d c r).err = Err.zero) : s.readD c r = (some (s.d c r), s) := by
  simp [State.readD, h]

theorem descriptorReadBack : Sys2Proof.Clauses.DescriptorReadBack := by
  intro s c r k d hdis t
  have ht : t = s.modA c (fun a => { a with d := a.d.set r.val { d with err := Err.zero } }) := setD_disarmed hdis c r d
  have hd : ∀ j, t.d c j = if r = j then { d with err := Err.zero } else s.d c j := fun j => by rw [ht, d_modA_set]
  have hr : t.d c r = { d with err := Err.zero } := (hd r).trans (if_pos rfl)
  refine ⟨?_, fun hk => (hd k).trans (if_neg (Ne.symm hk)), ht⟩
  rw [readD_of_clean (congrArg DReg.err hr), hr]

/-! ### The instructions -/

section
variable {s f t : State} {c0 c : CpId} {x : Instr} {op : Nat} {v : VecFields} {gs : List Nat} {rsv : Bool} {body : State → CpId → Flow}

/-- A descriptor instruction without a reserved field runs as its form (R111, R197). -/
theorem exec_desc (hr : rsv = false) (hs : s.starts c0 c (iDesc op v gs) f)
    (hx : exec x s = .next (s.runInsn c0 ((iDesc op v gs).reserve rsv) body)) (hb : body f c = .next t) (hc : (t.cp c).calm) :
    exec x s = .next (t.ran c 4 id) :=
  exec_next hs (exec_of_insn hx (by rw [hr, reserve_false])) rfl hb hc

/-- One that changes architectural registers alone. -/
theorem exec_desc_modA {u : CpArch → CpArch} (hr : rsv = false) (hs : s.starts c0 c (iDesc op v gs) f)
    (hx : exec x s = .next (s.runInsn c0 ((iDesc op v gs).reserve rsv) body)) (hb : body f c = .next (t.modA c u)) (hc : (t.cp c).calm) :
    exec x s = .next (t.ran c 4 u) :=
  exec_next_modA hs (exec_of_insn hx (by rw [hr, reserve_false])) rfl hb hc

end

/-- Each descriptor instruction is its body: one write of a descriptor, or one of a register with what a descriptor read. -/
theorem descriptorResults : Sys2Proof.Clauses.DescriptorResults := by
  intro s f h c0 c v d n
  refine ⟨fun hr => ⟨fun hs => ?_, fun hs => ?_, fun hs => ?_, fun hs hd hc => ?_, fun hs hd hc => ?_⟩, fun hr hty hs => ?_,
    fun hr hlow hsk hd hc hs => ?_, fun hr hd hc hs => ?_⟩
  · exact exec_desc hr hs rfl rfl (setD_calm _ _ (calm_of_starts hs))
  · exact exec_desc hr hs rfl rfl (setDPart_calm _ _ (calm_of_starts hs))
  · exact exec_desc hr hs rfl rfl (setDPart_calm _ _ (calm_of_starts hs))
  · exact exec_desc_modA hr hs rfl (by simp only [hd]; rfl) hc
  · exact exec_desc hr hs rfl (by simp only [hd]) (setD_calm _ _ hc)
  · exact exec_desc (by simpa [hr] using hty) hs rfl rfl (setDPart_calm _ _ (calm_of_starts hs))
  · exact exec_desc (by simpa [hr, hlow] using hsk) hs rfl (by simp only [hd]; rfl) (setD_calm _ _ hc)
  · exact exec_desc_modA hr hs rfl (by simp only [hd]; rfl) hc

/-- Settles O31: each descriptor instruction is its body, and a descriptor that is written reads back. -/
theorem descriptorInstructionResults : Obligations.DescriptorInstructionResults := ⟨descriptorResults, descriptorReadBack⟩

end Sys2Proof.Machine
end

section
/-! SUPPORT. The short-vector instructions on registers (R198 to R200). -/

namespace Sys2Proof.Machine

/-! ### Free choices change no more than their count -/

/-- A state differs from another by the count of free values alone. -/
def State.SameButFree (s t : State) : Prop := { t with free := s.free } = s

theorem State.SameButFree.refl (s : State) : s.SameButFree s := rfl

theorem State.SameButFree.trans {s t u : State} (h : s.SameButFree t) (g : t.SameButFree u) : s.SameButFree u := by
  have hg : ({ u with free := s.free } : State) = { t with free := s.free } := congrArg (fun x : State => { x with free := s.free }) g
  exact hg.trans h

theorem State.SameButFree.fresh {s t : State} (h : s.SameButFree t) : s.SameButFree t.fresh.2 := h

theorem State.SameButFree.cp {s t : State} (h : s.SameButFree t) (c : CpId) : t.cp c = s.cp c :=
  (congrArg (fun u : State => u.cp c) h :)

theorem State.SameButFree.calm {s t : State} (h : s.SameButFree t) {c : CpId} (hc : (s.cp c).calm) : (t.cp c).calm := h.cp c ▸ hc

theorem shortMask_free (s : State) (c : CpId) (v : VecFields) (lanes : Nat) : s.SameButFree (s.shortMask c v lanes).2 := by
  unfold State.shortMask
  dsimp only
  split
  · exact .refl s
  · exact List.foldlRecOn (motive := fun r : Nat × State => s.SameButFree r.2) _ _ (.refl s) fun _ h _ _ => h.fresh

theorem pickType_free (s : State) (ts : List Nat) : s.SameButFree (s.pickType ts).2 := by
  unfold State.pickType
  split
  · exact .refl s
  · exact .refl s
  · exact (State.SameButFree.refl s).fresh

theorem shortLanes_free (x : ShortOps) (act : Nat → Bool) (dst : Nat) (s : State) : s.SameButFree (shortLanes x act dst s).2.2 := by
  refine List.foldlRecOn (motive := fun r : Nat × Nat × State => s.SameButFree r.2.2) _ _ (.refl s) fun r h l _ => ?_
  dsimp only
  split
  · exact h
  · split
    · exact h
    · exact h.fresh

/-! ### The instructions -/

/-- An encoding that decodes is not reserved (R111). -/
theorem shortReserved_of_decodes {op : Nat} {v : VecFields} {r : VRow} {im : ImmOut} (hrow : shortRow op = some r)
    (hdec : shortDecode op r v = some im) : shortReserved op v = false := by
  simp [shortReserved, hrow, hdec]

section
variable {s f t : State} {c0 c : CpId} {op : Nat} {v : VecFields} {r : VRow} {im : ImmOut} {x : Instr} {u : CpArch → CpArch}

/-- A short-vector instruction that is not reserved changes registers of its CP, from a state in which no more than free values were drawn. -/
theorem exec_short (hrow : shortRow op = some r) (hdec : shortDecode op r v = some im)
    (h : s.starts c0 c (iVec op v (shortUses op v).1 (shortUses op v).2) f) (hx : exec x s = .next (short op c0 v s))
    (hb : doShort op v f c = .next (t.modA c u)) (ht : f.SameButFree t) : exec x s = .next (t.ran c 4 u) :=
  exec_next_modA h (exec_of_insn hx (by rw [shortReserved_of_decodes hrow hdec, reserve_false])) rfl hb (ht.calm (calm_of_starts h))

end

/-- Settles O29: the instructions on lanes, by their opcodes neither compares nor reductions nor SVPERM. -/
theorem shortVectorResults : Obligations.ShortVectorResults := by
  intro s f c0 c v r im p hp h hrow hdec
  have hx : exec p.2 s = .next (short p.1 c0 v s) := by fin_cases hp <;> rfl
  have hrange : p.1 < 0x2C0 ∨ 0x2D5 ≤ p.1 := by fin_cases hp <;> simp
  intro t ty mk x o
  refine exec_short hrow hdec h hx ?_ ((pickType_free f _).trans ((shortMask_free _ c v _).trans (shortLanes_free x mk.1 _ mk.2)))
  have hred : ¬(0x2C8 ≤ p.1 ∧ p.1 < 0x2D2) := by omega
  have hperm : p.1 ≠ 0x2D4 := by omega
  have hcmp : ¬(0x2C0 ≤ p.1 ∧ p.1 < 0x2C8) := by omega
  simp only [doShort, hrow, hdec, hred, hperm, hcmp, if_false]
  rfl

end Sys2Proof.Machine
end

section
/-! SUPPORT. The lanes of V registers (R198), and the compares, reductions and SVPERM (R199, R200). -/

namespace Sys2Proof.Machine

/-! ### Lanes -/

/-- A V register with a lane replaced: what lies below the lane, the new lane, and what lies above it. -/
theorem setLane_split (w x i y : Nat) :
    setLane w x i y = x % 2 ^ (w * i) + 2 ^ (w * i) * (y % 2 ^ w + 2 ^ w * (x / 2 ^ (w * (i + 1)))) := by
  have hlow := Nat.mod_add_div x (2 ^ (w * i))
  have hhigh := Nat.mod_add_div (x / 2 ^ (w * i)) (2 ^ w)
  have hdiv : x / 2 ^ (w * i) / 2 ^ w = x / 2 ^ (w * (i + 1)) := by rw [Nat.div_div_eq_div_mul, ← Nat.pow_add, Nat.mul_succ]
  rw [hdiv] at hhigh
  rw [← hhigh, Nat.mul_add] at hlow
  rw [setLane, laneAt, Nat.mul_add, Nat.mul_comm _ (2 ^ (w * i)), Nat.mul_comm (y % 2 ^ w)]
  omega

/-- Lanes in the part of a number above a lane. -/
theorem laneAt_above (w x i k : Nat) : laneAt w x (i + 1 + k) = laneAt w (x / 2 ^ (w * (i + 1))) k := by
  rw [laneAt, laneAt, Nat.div_div_eq_div_mul, ← Nat.pow_add, Nat.mul_add]

/-- Lanes in the part of a number below a lane. -/
theorem laneAt_below {w j i : Nat} (x : Nat) (h : j < i) : laneAt w x j = laneAt w (x % 2 ^ (w * i)) j := by
  obtain ⟨k, rfl⟩ : ∃ k, i = j + 1 + k := ⟨i - j - 1, by omega⟩
  have hpow : 2 ^ (w * (j + 1 + k)) = 2 ^ (w * j) * (2 ^ w * 2 ^ (w * k)) := by
    rw [Nat.mul_add, Nat.mul_succ, Nat.pow_add, Nat.pow_add, Nat.mul_assoc]
  rw [laneAt, laneAt, hpow, Nat.mod_mul_right_div_self, Nat.mod_mul_right_mod]

theorem laneAt_setLane_self (w x i y : Nat) : laneAt w (setLane w x i y) i = y % 2 ^ w := by
  rw [setLane_split, laneAt, Nat.add_mul_div_left _ _ (Nat.two_pow_pos _), Nat.div_eq_of_lt (Nat.mod_lt _ (Nat.two_pow_pos _)), Nat.zero_add,
    Nat.add_mul_mod_self_left, Nat.mod_mod]

theorem setLane_mod (w x i y : Nat) : setLane w x i y % 2 ^ (w * i) = x % 2 ^ (w * i) := by
  rw [setLane_split, Nat.add_mul_mod_self_left, Nat.mod_mod]

theorem setLane_div (w x i y : Nat) : setLane w x i y / 2 ^ (w * (i + 1)) = x / 2 ^ (w * (i + 1)) := by
  have hlane : (y % 2 ^ w + 2 ^ w * (x / 2 ^ (w * (i + 1)))) / 2 ^ w = x / 2 ^ (w * (i + 1)) := by
    rw [Nat.add_mul_div_left _ _ (Nat.two_pow_pos _), Nat.div_eq_of_lt (Nat.mod_lt _ (Nat.two_pow_pos _)), Nat.zero_add]
  have hpow : 2 ^ (w * (i + 1)) = 2 ^ (w * i) * 2 ^ w := by rw [Nat.mul_succ, Nat.pow_add]
  rw [setLane_split, hpow, ← Nat.div_div_eq_div_mul, Nat.add_mul_div_left _ _ (Nat.two_pow_pos _),
    Nat.div_eq_of_lt (Nat.mod_lt _ (Nat.two_pow_pos _)), Nat.zero_add, ← hpow, hlane]

/-- Every other lane is as it was. -/
theorem laneAt_setLane_ne (w x y : Nat) {i j : Nat} (h : j ≠ i) : laneAt w (setLane w x i y) j = laneAt w x j := by
  rcases Nat.lt_or_gt_of_ne h with hlt | hgt
  · rw [laneAt_below _ hlt, setLane_mod, ← laneAt_below x hlt]
  · obtain ⟨k, rfl⟩ : ∃ k, j = i + 1 + k := ⟨j - i - 1, by omega⟩
    rw [laneAt_above, setLane_div, ← laneAt_above]

/-! ### The lanes of a result -/

/-- One lane of a result: what `shortLanes` makes of the register, the flags and the state (R198, R199). -/
def laneStep (x : ShortOps) (act : Nat → Bool) (r : Nat × Nat × State) (l : Nat) : Nat × Nat × State :=
  if !act l && x.op != 0x054 then r
  else match x.lane l (act l) with
    | some o => (setLane (tyWidth x.dt) r.1 l o.d, r.2.1 ||| o.flags, r.2.2)
    | none => (setLane (tyWidth x.dt) r.1 l r.2.2.fresh.1.toNat, r.2.1, r.2.2.fresh.2)

theorem shortLanes_eq (x : ShortOps) (act : Nat → Bool) (dst : Nat) (s : State) :
    shortLanes x act dst s = (List.range (laneCount x.dt)).foldl (laneStep x act) (dst, 0, s) := rfl

/-- One lane leaves the others. -/
theorem laneStep_ne (x : ShortOps) (act : Nat → Bool) (r : Nat × Nat × State) {l j : Nat} (h : j ≠ l) :
    laneAt (tyWidth x.dt) (laneStep x act r l).1 j = laneAt (tyWidth x.dt) r.1 j := by
  unfold laneStep
  split
  · rfl
  · split <;> exact laneAt_setLane_ne _ _ _ h

/-- The lanes before and after one leave it as its own step made it of what it was. -/
theorem foldl_laneStep (x : ShortOps) (act : Nat → Bool) (r : Nat × Nat × State) {l n : Nat} (h : l < n) :
    ∃ q : Nat × Nat × State, laneAt (tyWidth x.dt) q.1 l = laneAt (tyWidth x.dt) r.1 l ∧
      laneAt (tyWidth x.dt) ((List.range n).foldl (laneStep x act) r).1 l = laneAt (tyWidth x.dt) (laneStep x act q l).1 l := by
  have hskip : ∀ m ≤ l, laneAt (tyWidth x.dt) ((List.range m).foldl (laneStep x act) r).1 l = laneAt (tyWidth x.dt) r.1 l := by
    intro m
    induction m with
    | zero => exact fun _ => rfl
    | succ m ih =>
      intro hm
      rw [List.range_succ, List.foldl_concat, laneStep_ne x act _ (by omega), ih (by omega)]
  refine ⟨(List.range l).foldl (laneStep x act) r, hskip l (Nat.le_refl l), ?_⟩
  induction n with
  | zero => omega
  | succ n ih =>
    rw [List.range_succ, List.foldl_concat]
    by_cases hn : l = n
    · rw [hn]
    · rw [laneStep_ne x act _ hn, ih (by omega)]

theorem shortVectorLanes : Sys2Proof.Clauses.ShortVectorLanes := by
  intro x act dst s l hop _ hl o
  obtain ⟨q, hq, hlane⟩ := foldl_laneStep x act (dst, 0, s) hl
  rw [← shortLanes_eq] at hlane
  refine ⟨fun hact => ?_, fun e hact he => ?_, shortLanes_free x act dst s⟩
  · have hstep : laneStep x act q l = q := if_pos (by simp [hact, hop])
    rw [hlane, hstep, hq]
  · have hstep : (laneStep x act q l).1 = setLane (tyWidth x.dt) q.1 l e.d := by simp [laneStep, hact, he]
    rw [hlane, hstep, laneAt_setLane_self]

/-! ### Compares, reductions and SVPERM -/

/-- The result of a compare is one bit for each lane (R188, R199). -/
theorem compare_row {op : Nat} (hlo : 0x2C0 ≤ op) (hhi : op < 0x2C8) {r : VRow} (hrow : shortRow op = some r) :
    ∃ o, r.d = some o ∧ ∀ t, o.ty.types t = [0xA] := by
  interval_cases op <;> cases hrow <;> exact ⟨_, rfl, fun _ => rfl⟩

theorem pickType_one (s : State) (t : Nat) : s.pickType [t] = (t, s) := rfl

theorem shortVectorOthers : Sys2Proof.Clauses.ShortVectorOthers := by
  intro s f c0 c v r im t n mk
  have hmask : f.SameButFree mk.2 := shortMask_free f c v n
  refine ⟨fun p hp h hrow hdec => ?_, fun p hp h hrow hdec => ?_, fun h hrow hdec => ?_⟩
  · have hx : exec p.2 s = .next (short p.1 c0 v s) := by fin_cases hp <;> rfl
    obtain ⟨hlo, hhi⟩ : 0x2C0 ≤ p.1 ∧ p.1 < 0x2C8 := by fin_cases hp <;> simp
    intro x old o
    refine exec_short hrow hdec h hx ?_ hmask
    have hred : ¬(0x2C8 ≤ p.1 ∧ p.1 < 0x2D2) := by omega
    have hperm : p.1 ≠ 0x2D4 := by omega
    obtain ⟨b, hd, hty⟩ := compare_row hlo hhi hrow
    simp only [doShort, hrow, hdec, hred, hperm, hlo, hhi, hd, hty, pickType_one, and_self, if_false, if_true]
    rfl
  · have hx : exec p.2 s = .next (short p.1 c0 v s) := by fin_cases hp <;> rfl
    have hrange : 0x2C8 ≤ p.1 ∧ p.1 < 0x2D2 := by fin_cases hp <;> simp
    intro k num ls w o
    refine exec_short hrow hdec h hx ?_ hmask
    simp only [doShort, hrow, hdec, hrange, and_self, if_true]
    rfl
  · intro d
    refine exec_short hrow hdec h rfl ?_ hmask
    simp only [doShort, hrow, hdec]
    rfl

end Sys2Proof.Machine
end

section
/-! SUPPORT. The store of a V register under a mask, as SVST makes it (R199, R200, R218). -/

namespace Sys2Proof.Machine

/-- A store of a V register that passes its checks writes the bytes that its mask selects (R84, R121, R122, R199). -/
theorem doStore_masked {f g : State} {c : CpId} {r kr : Reg} {off : BitVec 12} {addr : Int} {data : StoreData} {sp : List (Nat × Nat)}
    (ha : memAddr (f.k c kr) off 64 = addr) (h : f.stores c .v r kr addr data sp g) (mask : Word) :
    doStore .v r kr off mask f c = .next ((g.storeMasked c addr.toNat sp data.bytes mask).watchAccess c true addr.toNat data.size) := by
  subst ha
  obtain ⟨f1, hdata, hcheck, -, hholds, f2, hspans, hpass⟩ := h
  obtain rfl := eq_of_passes hpass
  have hpass' : g.compareWith State.bucket c 0 (memAddr (f.k c kr) off 64).toNat = (false, g) := hpass
  have htag : (none == some true : Bool) = false := rfl
  cases hdata
  simp only [reduceCtorEq, if_false] at hcheck hholds hspans
  simp only [doStore, State.storeData, htag, Bool.false_eq_true, false_and, if_false, reduceCtorEq, hholds, hspans, hpass']
  split
  · next sub hsub => exact nomatch hcheck.symm.trans hsub
  · rfl

end Sys2Proof.Machine
end

section
/-! SUPPORT. Check errors that no read corrects: markings of poison, and what part of a marking is left (R350, R354, R357). A memory that holds no
other keeps its bytes and its tags under every read. -/

namespace Sys2Proof.Machine

/-! ### Patterns that decode to no correction -/

/-- The check bytes of a word's error, where its data hold none: in a near line nothing or the marking (R354), elsewhere the same pattern in the
first two, as nothing, the marking of a Cellar unit and that of the grid code have them (R350, R357). -/
def Err.inert (w : Nat) (e : Err) : Prop :=
  if w < celBase / 8 then e.c = 0 ∨ e.c = 0x5A5A5A5A else e.c.toNat % 256 = e.c.toNat / 256 % 256

theorem zero_inert (w : Nat) : Err.zero.inert w := by
  unfold Err.inert
  split
  · exact .inl rfl
  · rfl

theorem gfMul_zero_left (b : Nat) : gfMul 0 b = 0 := by
  have haux : ∀ n b, gfMulAux n 0 b = 0 := by
    intro n
    induction n with
    | zero => exact fun _ => rfl
    | succ n ih => intro b; simp [gfMulAux, gfDouble, ih]
  exact haux 8 b

/-- The first syndrome of a Cellar codeword with the same check bytes and no data is 0. -/
theorem rsSyndrome_same (a : Nat) : rsSyndrome 0 [a, a, 0, 0, 0, 0, 0, 0, 0, 0] = 0 := by
  have hone : gfMul 1 (gfAlpha 0) = 1 := rfl
  simp [rsSyndrome, hone, gfMul_zero_left]

/-- A Cellar unit whose first syndromes are all 0 is not corrected (R357, R358). -/
theorem celDecode_ne_fixed {words : List (List Nat)} (h : ∀ w ∈ words, rsSyndrome 0 w = 0) (mark : Option Nat) (pos : Nat) :
    celDecode words mark ≠ .fixed pos := by
  unfold celDecode
  extract_lets +onlyGivenNames syn
  have hsyn : ∀ x ∈ syn, x.1 = 0 := by
    intro x hx
    obtain ⟨w, hw, rfl⟩ := List.mem_map.mp hx
    exact h w hw
  split_ifs with hclean hmarking
  · simp
  · simp
  · cases mark with
    | some p =>
      have hnot : ¬(syn.all (fun x => decide (x.2 = gfMul x.1 (gfAlpha p))) = true) := by
        intro hall
        refine hclean (List.all_eq_true.mpr fun x hx => ?_)
        have h2 := List.all_eq_true.mp hall x hx
        simpa [hsyn x hx, gfMul_zero_left] using h2
      simp [hnot]
    | none =>
      have hlocs : ∀ o ∈ (syn.map (fun x => celLocate x.1 x.2)).filterMap id, o = none := by
        intro o ho
        obtain ⟨q, hq, hqo⟩ := List.mem_filterMap.mp ho
        obtain ⟨x, hx, rfl⟩ := List.mem_map.mp hq
        simp only [celLocate, hsyn x hx, id, true_and, true_or, if_true] at hqo
        split at hqo
        · cases hqo
        · exact (Option.some.inj hqo).symm
      dsimp only
      generalize (syn.map (fun x => celLocate x.1 x.2)).filterMap id = locs at hlocs
      cases locs with
      | nil => simp
      | cons o rest =>
        obtain rfl := hlocs o List.mem_cons_self
        simp

/-- No injection is armed, no word's data hold an error, and of the words of a set the check bytes hold none that a read corrects. -/
structure State.Inert (p : Nat → Prop) (s : State) : Prop where
  disarmed : s.rdB INJ_STAT.ARMED = false
  flat : ∀ w, (s.err w).d = 0
  inert : ∀ w, p w → (s.err w).inert w

theorem State.Inert.mono {p q : Nat → Prop} {s : State} (h : s.Inert p) (hq : ∀ w, q w → p w) : s.Inert q :=
  ⟨h.disarmed, h.flat, fun w hw => h.inert w (hq w hw)⟩

/-- An array without errors in the data reads as the bytes stored. -/
theorem byteAt_of_flat {s : State} (h : ∀ w, (s.err w).d = 0) (a : Nat) : s.byteAt a = s.rawByte a := by
  simp [State.byteAt, Err.byte, h]

/-- A state that is inert on a set of words and has the bytes and the tags of another. -/
structure Retains (p : Nat → Prop) (z s : State) : Prop where
  inert : s.Inert p
  tags : s.tags = z.tags
  bytes : ∀ a, s.rawByte a = z.rawByte a

theorem Retains.refl {p : Nat → Prop} {s : State} (h : s.Inert p) : Retains p s s := ⟨h, rfl, fun _ => rfl⟩

theorem Retains.ite {p : Nat → Prop} {z a b : State} {c : Prop} [Decidable c] (ha : Retains p z a) (hb : Retains p z b) :
    Retains p z (if c then a else b) := by
  split
  · exact ha
  · exact hb

theorem Retains.ite2 {p : Nat → Prop} {z : State} {a b : Bool × State} {c : Prop} [Decidable c] (ha : Retains p z a.2) (hb : Retains p z b.2) :
    Retains p z (if c then a else b).2 := by
  split
  · exact ha
  · exact hb

theorem Retains.foldl {α : Type} {p : Nat → Prop} {z : State} {f : State → α → State} {l : List α}
    (hf : ∀ x ∈ l, ∀ t, Retains p z t → Retains p z (f t x)) {t : State} (h : Retains p z t) : Retains p z (l.foldl f t) :=
  List.foldlRecOn (motive := Retains p z) l f h fun t ht x hx => hf x hx t ht

section
variable {p : Nat → Prop} {z t : State} (h : Retains p z t)
include h

/-- What leaves memory, tags, errors and the injections retains the state. -/
theorem Retains.undisturbed {u : State} (hu : t.rdB INJ_STAT.ARMED = false → Undisturbed t u) : Retains p z u := by
  obtain ⟨hdis, hmem, htags, herrs⟩ := hu h.inert.disarmed
  refine ⟨⟨hdis, fun w => ?_, fun w hw => ?_⟩, htags.trans h.tags, fun a => (rawByte_of_mem hmem a).trans (h.bytes a)⟩
  · rw [err_of_errs herrs]
    exact h.inert.flat w
  · rw [err_of_errs herrs]
    exact h.inert.inert w hw

theorem Retains.bucket {b : Nat} (hb : b < 16) (n : Nat) : Retains p z (t.bucket b n) := h.undisturbed fun hd => (Undisturbed.refl hd).bucket hb n

theorem Retains.capture (b inst synd : Nat) (marking inj : Bool) (addr : Nat) : Retains p z (t.capture b inst synd marking inj addr) :=
  h.undisturbed fun hd => (Undisturbed.refl hd).capture ..

theorem Retains.lineMove (key : Nat) : Retains p z (t.lineMove key) := h.undisturbed fun hd => (Undisturbed.refl hd).lineMove key

theorem Retains.takeBad (u : MeshUnit) (w : Bool) : Retains p z (t.takeBad u w).2 :=
  .ite2 ⟨⟨h.inert.disarmed, h.inert.flat, h.inert.inert⟩, h.tags, h.bytes⟩ h

theorem Retains.modM (f : MemSt → MemSt) : Retains p z (t.modM f) := h.undisturbed fun hd => (Undisturbed.refl hd).modM f

/-! ### Check errors that are set -/

theorem Retains.setErr {w : Nat} {e : Err} (hd : e.d = 0) (he : p w → e.inert w) : Retains p z (t.setErr w e) := by
  refine ⟨⟨h.inert.disarmed, fun a => ?_, fun a ha => ?_⟩, h.tags, h.bytes⟩
  · rw [err_setErr]
    split
    · exact hd
    · exact h.inert.flat a
  · rw [err_setErr]
    split
    · rename_i haw
      subst haw
      exact he ha
    · exact h.inert.inert a ha

theorem Retains.clearErrs (l : List Nat) (f : Nat → Nat) : Retains p z (l.foldl (fun s i => s.setErr (f i) Err.zero) t) :=
  .foldl (fun i _ _ hu => hu.setErr rfl fun _ => zero_inert (f i)) h

/-- To store what the array reads changes no byte. -/
theorem Retains.settle {key n : Nat} {e : Err} (hd : e.d = 0) (he : p (key / 8) → e.inert (key / 8)) : Retains p z (t.settle key n e) := by
  have hclear := h.clearErrs (List.range (n / 8)) (fun i => key / 8 + i)
  have hput : ∀ (l : List Byte) (k : Nat) (u : State), Retains p z u → (∀ i (hi : i < l.length), l[i] = z.rawByte (k + i)) →
      Retains p z (State.putBytes l k u) := by
    intro l
    induction l with
    | nil => exact fun _ _ hu _ => hu
    | cons b l ih =>
      intro k u hu hl
      refine ih (k + 1) (u.putByte k b) ⟨⟨hu.inert.disarmed, hu.inert.flat, hu.inert.inert⟩, hu.tags, fun a => ?_⟩ fun i hi => ?_
      · rw [rawByte_putByte]
        split
        · rename_i ha
          subst ha
          exact hl 0 (by simp)
        · exact hu.bytes a
      · have := hl (i + 1) (by simpa using hi)
        rw [show k + 1 + i = k + (i + 1) by omega, ← this]
        rfl
  refine Retains.setErr (hput _ key _ hclear fun i hi => ?_) hd he
  simp only [State.bytesAt, List.getElem_map, List.getElem_range, byteAt_of_flat h.inert.flat, h.bytes]

/-- A marking of poison is inert (R350, R354, R357). -/
theorem Retains.poisonUnit (key : Nat) : Retains p z (t.poisonUnit key) := by
  have hcel {k : Nat} {c : BitVec 48} {inj : Bool} (hk : ¬k < celBase / 8) (hc : c.toNat % 256 = c.toNat / 256 % 256) :
      (⟨0, c, inj⟩ : Err).inert k := by
    rw [Err.inert, if_neg hk]
    exact hc
  unfold State.poisonUnit
  split
  · rename_i hst
    refine h.settle rfl fun _ => ?_
    have hk : key / 32 * 32 / 8 < celBase / 8 := by
      unfold storeOf at hst
      split_ifs at hst
      simp only [celBase] at *
      omega
    rw [Err.inert, if_pos hk]
    exact .inr rfl
  · rename_i hst
    have hk : ¬key < celBase := by
      intro hlt
      rw [storeOf, if_pos hlt] at hst
      cases hst
    refine .foldl (fun i _ _ hu => hu.setErr rfl fun _ => hcel ?_ rfl) (h.settle rfl fun _ => zero_inert _)
    simp only [celBase] at *
    omega
  · rename_i hst _
    have hk : ¬key < celBase := fun hlt => hst (if_pos hlt)
    refine h.settle rfl fun _ => hcel ?_ rfl
    simp only [celBase] at *
    omega

end

end Sys2Proof.Machine
end

section
/-! SUPPORT. Reads and writes of lines and units where no error is corrected (R316, R330, R348, R353 to R358, R371). -/

namespace Sys2Proof.Machine

/-! ### Reads -/

/-- The words of a key's 64 bytes are among those of a set. -/
def wordsIn (p : Nat → Prop) (key : Nat) : Prop := ∀ w, w / 8 = key / 64 → p w

theorem nearDecode_clean : nearDecode ((leBytes 4 (0 : BitVec 48).toNat).map BitVec.toNat ++ List.replicate 32 0) = .clean := by decide +kernel

/-- The marking of a near line decodes as one (R353, R354). -/
theorem nearDecode_marking :
    nearDecode ((leBytes 4 (0x5A5A5A5A : BitVec 48).toNat).map BitVec.toNat ++ List.replicate 32 0) = .marking := by decide +kernel

section
variable {p : Nat → Prop} {z t : State} (h : Retains p z t)
include h

theorem nearCoef_flat (key : Nat) : t.nearCoef key = (leBytes 4 (t.err (key / 8)).c.toNat).map BitVec.toNat ++ List.replicate 32 0 := by
  simp only [State.nearCoef, h.inert.flat]
  rfl

/-- A near line without errors or with the marking is not corrected (R353, R354). -/
theorem Retains.readNear {key : Nat} (hk : key < celBase) (hp : wordsIn p key) : Retains p z (t.readNear key).2 := by
  have hw : key / 32 * 32 / 8 < celBase / 8 := by
    simp only [celBase] at hk ⊢
    omega
  have hc := h.inert.inert _ (hp (key / 32 * 32 / 8) (by omega))
  rw [Err.inert, if_pos hw] at hc
  unfold State.readNear
  dsimp only
  refine .ite2 h ?_
  rw [nearCoef_flat h]
  rcases hc with hc | hc
  · rw [hc, nearDecode_clean]
    exact h.settle rfl fun _ => zero_inert _
  · rw [hc, nearDecode_marking]
    exact h.capture ..

/-- The first syndromes of an inert unit of the Cellar code are 0. -/
theorem celCoef_syndrome {key : Nat} (hk : celBase ≤ key) (hp : wordsIn p key) {i : Nat} (hi : i < 8) :
    rsSyndrome 0 (t.celCoef (key / 64 * 64) i) = 0 := by
  have hw : ¬key / 64 * 64 / 8 + i < celBase / 8 := by
    simp only [celBase] at hk ⊢
    omega
  have hc := h.inert.inert _ (hp (key / 64 * 64 / 8 + i) (by omega))
  rw [Err.inert, if_neg hw] at hc
  have hcoef : t.celCoef (key / 64 * 64) i = [(t.err (key / 64 * 64 / 8 + i)).c.toNat % 256, (t.err (key / 64 * 64 / 8 + i)).c.toNat % 256,
      0, 0, 0, 0, 0, 0, 0, 0] := by
    simp only [State.celCoef, h.inert.flat, leBytes, List.map_cons, BitVec.toNat_ofNat, hc]
    rfl
  rw [hcoef, rsSyndrome_same]

/-- An inert unit of the Cellar code is not corrected (R357, R358). -/
theorem Retains.readCel {key : Nat} (hk : celBase ≤ key) (hp : wordsIn p key) : Retains p z (t.readCel key).2 := by
  have hsyn : ∀ w ∈ (List.range 8).map (fun i => t.celCoef (key / 64 * 64) i), rsSyndrome 0 w = 0 := by
    intro w hw
    obtain ⟨i, hi, rfl⟩ := List.mem_map.mp hw
    exact celCoef_syndrome h hk hp (List.mem_range.mp hi)
  simp only [State.readCel, inject_disarmed h.inert.disarmed, Bool.false_eq_true, if_false]
  refine .ite2 h ?_
  split
  · exact h.settle rfl fun _ => zero_inert _
  · exact h.capture ..
  · rename_i pos hfixed
    exact absurd hfixed (celDecode_ne_fixed hsyn _ pos)
  · exact ((h.poisonUnit _).capture ..).bucket (by decide) 1

theorem Retains.readLine {key : Nat} (hp : wordsIn p key) : Retains p z (t.readLine key).2 := by
  unfold State.readLine
  split
  · rename_i hk
    exact (h.undisturbed fun hd => (Undisturbed.refl hd).nearMove key).readNear hk hp
  · rename_i hk
    exact (h.undisturbed fun hd => (Undisturbed.refl hd).celMove key).readCel (Nat.not_lt.mp hk) hp

/-! ### Lines of tags -/

theorem Retains.tagBack (x : TagLine) : Retains p z (t.tagBack x) := by
  have hclear := (h.lineMove x.key).clearErrs (List.range (lineSize x.key / 8)) (fun i => x.key / 8 + i)
  unfold State.tagBack
  refine .ite h ?_
  extract_lets d u v
  have hv : Retains p z v := .ite (hclear.poisonUnit _) hclear
  have hfix : Retains p z (if d.fixed = 0 then v else v.bucket 0 d.fixed) := .ite hv (hv.bucket (by decide) _)
  rw [flipLine_disarmed hfix.inert.disarmed]
  exact hfix

theorem Retains.tagRoom (key : Nat) : Retains p z (t.tagRoom key) := by
  unfold State.tagRoom
  refine .ite h ?_
  split
  · exact (h.tagBack _).modM _
  · exact h

theorem Retains.tagFetch {key : Nat} (hp : wordsIn p key) (dirty : Bool) : Retains p z (t.tagFetch key dirty) := by
  cases hf : t.mst.tagc.find? (fun x => x.key == key) with
  | some x =>
    rw [tagFetch_hit hf]
    exact h.modM _
  | none =>
    have hl := (h.tagRoom key).readLine hp
    rw [tagFetch_miss hf, inject_disarmed hl.inert.disarmed]
    exact hl.modM _

end

/-! ### Writes -/

/-- What a write at a key reads lies in a set of words, and where it clears check errors byte by byte the word lies outside (R316, R347). -/
structure Reaches (p : Nat → Prop) (key : Nat) : Prop where
  unit : key < spadBase → wordsIn p key
  tags : key < spadBase → ∀ s : State, wordsIn p (s.tagPlace key).1
  grid : spadBase ≤ key → ¬p (key / 8)

theorem flipUnit_disarmed {s : State} (h : s.rdB INJ_STAT.ARMED = false) (key : Nat) : s.flipUnit key = s := by
  unfold State.flipUnit
  split <;> simp only [flipLine_disarmed h, inject_disarmed h, Bool.false_eq_true, if_false, ite_self]

theorem setByte_d {e : Err} (h : e.d = 0) (j : Nat) : (e.setByte j 0 0).d = 0 := by
  simp [Err.setByte, h]

section
variable {p : Nat → Prop} {z t : State} (h : Retains p z t)
include h

theorem Retains.readUnit {key : Nat} (hk : key < spadBase) (hr : Reaches p key) (lo hi : Nat) : Retains p z (t.readUnit key lo hi).2 := by
  have hline := ((h.tagFetch (hr.tags hk t) false).readLine (hr.unit hk)).takeBad (t.ctlOf key) false
  unfold State.readUnit
  split
  · exact hline
  · exact hline
  · rename_i hn hc
    exact absurd hk (Nat.not_lt.mpr (spadBase_le_of_storeOf hn hc))

theorem Retains.prepUnit {key : Nat} (hr : Reaches p key) (lo hi : Nat) : Retains p z (t.prepUnit key lo hi) := by
  unfold State.prepUnit
  split
  · rename_i hst
    exact .ite (h.clearErrs _ fun i => key / 8 + i) (h.readUnit (lt_spadBase_of_storeOf (.inl hst)) hr lo hi)
  · rename_i hst
    exact .ite (h.clearErrs _ fun i => key / 8 + i) (h.readUnit (lt_spadBase_of_storeOf (.inr hst)) hr lo hi)
  · rename_i hn hc
    refine h.setErr ?_ fun hp => absurd hp (hr.grid (spadBase_le_of_storeOf hn hc))
    split
    · rfl
    · refine List.foldlRecOn (motive := fun e : Err => e.d = 0) _ _ (h.inert.flat _) fun e he j _ => ?_
      split
      · exact setByte_d he j
      · exact he

/-- The write of a tag writes that tag alone. -/
theorem Retains.writeTag {g : Nat} (b : Bool) (htags : 16 * g < spadBase → ∀ s : State, wordsIn p (s.tagPlace (16 * g)).1)
    (hgrid : spadBase ≤ 16 * g → ¬p (spadTagAt g).1) : ∃ u : State, Retains p z u ∧ t.writeTag g b = u.setTag g b := by
  unfold State.writeTag
  dsimp only
  split
  · rename_i hst
    exact ⟨_, h.tagFetch (htags (lt_spadBase_of_storeOf (.inl hst)) t) true, rfl⟩
  · rename_i hst
    exact ⟨_, h.tagFetch (htags (lt_spadBase_of_storeOf (.inr hst)) t) true, rfl⟩
  · rename_i hst
    have hk : spadBase ≤ 16 * g := spadBase_le_of_storeOf (by simp [hst]) (by simp [hst])
    have hd : ∀ w e, ((t.setErr w e).setTag g b).rdB INJ_STAT.ARMED = false := fun _ _ => h.inert.disarmed
    simp only [inject_disarmed (hd _ _), Bool.false_eq_true, if_false, ite_self]
    refine ⟨_, h.setErr ?_ fun hp => absurd hp (hgrid hk), rfl⟩
    split
    · rfl
    · exact setByte_d (h.inert.flat _) _
  · exact ⟨t, h, rfl⟩

end

end Sys2Proof.Machine
end

section
/-! SUPPORT. Data that are written where no error is corrected: the bytes and the tags that a store leaves (R84, R121, R338). -/

namespace Sys2Proof.Machine

/-! ### Bytes and tags alone -/

/-- The granules that n bytes at a key touch. -/
def granulesAt (key n : Nat) : List Nat := if n = 0 then [] else (List.range ((key + n - 1) / 16 - key / 16 + 1)).map (key / 16 + ·)

theorem mem_granulesAt {key n g : Nat} : g ∈ granulesAt key n ↔ ∃ i < n, (key + i) / 16 = g := by
  unfold granulesAt
  split
  · simp_all
  · simp only [List.mem_map, List.mem_range]
    constructor
    · rintro ⟨i, hi, rfl⟩
      exact ⟨if i = 0 then 0 else 16 * (key / 16 + i) - key, by split <;> omega, by split <;> omega⟩
    · rintro ⟨i, hi, rfl⟩
      exact ⟨(key + i) / 16 - key / 16, by omega, by omega⟩

/-- A plain data write without any code: the bytes, and the tags of their granules clear (R121). -/
def State.putData (s : State) (key : Nat) (bs : List Byte) : State :=
  (granulesAt key bs.length).foldl (fun s g => s.setTag g false) (State.putBytes bs key s)

theorem tagAt_clear (l : List Nat) (s : State) (a : Nat) :
    (l.foldl (fun s g => s.setTag g false) s).tagAt a = if a ∈ l then false else s.tagAt a := by
  induction l generalizing s with
  | nil => rfl
  | cons g l ih =>
    rw [List.foldl_cons, ih, tagAt_setTag]
    by_cases ha : a = g <;> simp [ha]

theorem rawByte_putData (s : State) (key : Nat) (bs : List Byte) (a : Nat) :
    (s.putData key bs).rawByte a = if key ≤ a ∧ a < key + bs.length then bs.getD (a - key) 0 else s.rawByte a := by
  have hclear : (s.putData key bs).rawByte a = (State.putBytes bs key s).rawByte a :=
    foldl_keeps (fun s : State => s.rawByte a) (f := fun s g => s.setTag g false) (fun _ _ => rfl) _ _
  rw [hclear]
  split
  · rename_i h
    obtain ⟨i, rfl⟩ : ∃ i, a = key + i := ⟨a - key, by omega⟩
    have hi : i < bs.length := by omega
    rw [rawByte_putBytes_in bs s key i hi, Nat.add_sub_cancel_left, List.getD_eq_getElem _ _ hi]
  · exact rawByte_putBytes bs s key a (by omega)

theorem tagAt_putData (s : State) (key : Nat) (bs : List Byte) (g : Nat) :
    (s.putData key bs).tagAt g = if ∃ i < bs.length, (key + i) / 16 = g then false else s.tagAt g := by
  have hput : (State.putBytes bs key s).tagAt g = s.tagAt g := by
    induction bs generalizing key s with
    | nil => rfl
    | cons b bs ih => exact ih (s.putByte key b) (key + 1)
  rw [State.putData, tagAt_clear, hput]
  simp only [mem_granulesAt]

section
variable {p : Nat → Prop} {z t : State} (h : Retains p z t)
include h

theorem Retains.trans {q : Nat → Prop} {u : State} (g : Retains q t u) : Retains q z u :=
  ⟨g.inert, g.tags.trans h.tags, fun a => (g.bytes a).trans (h.bytes a)⟩

theorem Retains.mono {q : Nat → Prop} (hq : ∀ w, q w → p w) : Retains q z t := ⟨h.inert.mono hq, h.tags, h.bytes⟩

theorem Retains.setTag (g : Nat) (b : Bool) : Retains p (z.setTag g b) (t.setTag g b) :=
  ⟨⟨h.inert.disarmed, h.inert.flat, h.inert.inert⟩, by rw [State.setTag_tags, State.setTag_tags, h.tags], h.bytes⟩

theorem Retains.putBytes (bs : List Byte) (key : Nat) : Retains p (State.putBytes bs key z) (State.putBytes bs key t) := by
  induction bs generalizing key z t with
  | nil => exact h
  | cons b bs ih =>
    refine ih (z := z.putByte key b) (t := t.putByte key b) ⟨⟨h.inert.disarmed, h.inert.flat, h.inert.inert⟩, h.tags, fun a => ?_⟩ (key + 1)
    rw [rawByte_putByte, rawByte_putByte, h.bytes]

theorem Retains.clearTags (l : List Nat) :
    Retains p (l.foldl (fun s g => s.setTag g false) z) (l.foldl (fun s g => s.setTag g false) t) := by
  induction l generalizing z t with
  | nil => exact h
  | cons g l ih => exact ih (h.setTag g false)

theorem Retains.putData (key : Nat) (bs : List Byte) : Retains p (z.putData key bs) (t.putData key bs) := (h.putBytes bs key).clearTags _

end

/-! ### Writes under the codes -/

/-- What a write of n bytes at a key reads lies in a set of words, and where it clears check errors byte by byte the word lies outside. -/
structure ReachesAll (p : Nat → Prop) (key n : Nat) : Prop where
  units : ∀ u ∈ unitsOf key n, Reaches p u
  tags : ∀ g ∈ granulesAt key n, 16 * g < spadBase → ∀ s : State, wordsIn p (s.tagPlace (16 * g)).1
  grid : ∀ g ∈ granulesAt key n, spadBase ≤ 16 * g → ¬p (spadTagAt g).1

theorem clearTags_eq (s : State) (key n : Nat) : s.clearTags key n = (granulesAt key n).foldl (fun s g => s.writeTag g false) s := by
  unfold State.clearTags granulesAt
  split
  · rfl
  · rw [List.foldl_map]

section
variable {p : Nat → Prop} {z t : State} (h : Retains p z t)
include h

theorem Retains.writeRange {key : Nat} {bs : List Byte} (hr : ReachesAll p key bs.length) :
    Retains p (State.putBytes bs key z) (t.writeRange key bs) := by
  unfold State.writeRange
  split
  · rename_i hempty
    rw [List.isEmpty_iff.mp hempty]
    exact h
  · extract_lets us u v w
    have hu : Retains p z u := .foldl (fun x hx _ ht => ht.prepUnit (hr.units x hx) key (key + bs.length)) h
    have hv : Retains p (State.putBytes bs key z) v := hu.putBytes bs key
    have hline {x : Nat} {y : State} (hy : Retains p (State.putBytes bs key z) y) :
        Retains p (State.putBytes bs key z) (let b := (y.lineMove x).takeBad (y.ctlOf x) true; if b.1 then b.2.poisonUnit x else b.2) := by
      have htake := (hy.lineMove x).takeBad (y.ctlOf x) true
      exact .ite (htake.poisonUnit x) htake
    have hw : Retains p (State.putBytes bs key z) w := by
      refine .foldl (fun x _ y hy => ?_) hv
      split
      · rw [flipUnit_disarmed (hline hy).inert.disarmed]
        exact hline hy
      · rw [flipUnit_disarmed (hline hy).inert.disarmed]
        exact hline hy
      · rw [flipUnit_disarmed hy.inert.disarmed]
        exact hy
    exact ⟨⟨hw.inert.disarmed, hw.inert.flat, hw.inert.inert⟩, hw.tags, hw.bytes⟩

/-- Tags that are cleared one after the other. -/
theorem Retains.writeTags {l : List Nat} (htags : ∀ g ∈ l, 16 * g < spadBase → ∀ s : State, wordsIn p (s.tagPlace (16 * g)).1)
    (hgrid : ∀ g ∈ l, spadBase ≤ 16 * g → ¬p (spadTagAt g).1) :
    Retains p (l.foldl (fun s g => s.setTag g false) z) (l.foldl (fun s g => s.writeTag g false) t) := by
  induction l generalizing z t with
  | nil => exact h
  | cons g l ih =>
    obtain ⟨u, hu, hw⟩ := h.writeTag false (htags g List.mem_cons_self) (hgrid g List.mem_cons_self)
    rw [List.foldl_cons, List.foldl_cons, hw]
    exact ih (hu.setTag g false) (fun x hx => htags x (List.mem_cons_of_mem g hx)) fun x hx => hgrid x (List.mem_cons_of_mem g hx)

/-- A write from a cluster, or from outside, leaves its bytes and clears the tags of its granules (R121, R338). -/
theorem Retains.writeBy {key : Nat} {bs : List Byte} (hr : ReachesAll p key bs.length) (cl : Option ClusterId) :
    Retains p (z.putData key bs) (t.writeBy cl key bs) := by
  have hdata : Retains p (z.putData key bs) (t.writeData key bs) := by
    rw [State.writeData, clearTags_eq]
    exact (h.writeRange hr).writeTags hr.tags hr.grid
  have htake := hdata.takeBad (spadCl key) true
  exact .ite (.ite (htake.poisonUnit key) htake) hdata

end

theorem clearTags_parts (s : State) (key n : Nat) : (s.clearTags key n).parts = s.parts :=
  ite_keeps State.parts rfl (foldl_keeps State.parts (fun s _ => writeTag_parts s _ false) _ _)

theorem writeBy_parts (s : State) (cl : Option ClusterId) (key : Nat) (bs : List Byte) : (s.writeBy cl key bs).parts = s.parts := by
  have hdata : (s.writeData key bs).parts = s.parts := (clearTags_parts ..).trans (writeRange_spares s key bs).parts
  have htake : ((s.writeData key bs).takeBad (spadCl key) true).2.parts = s.parts := (takeBad_spares ..).parts.trans hdata
  exact ite_keeps State.parts (ite_keeps State.parts ((poisonUnit_parts ..).trans htake) htake) hdata

end Sys2Proof.Machine
end

section
/-! SUPPORT. What a store of at most 64 bytes reads: below the scratchpads whatever its units and their tags hold, from the scratchpads on nothing
(R316, R330, R347). -/

namespace Sys2Proof.Machine

/-! ### Words that a store may read -/

/-- All words. -/
def allWords (_ : Nat) : Prop := True

/-- No word. -/
def noWord (_ : Nat) : Prop := False

/-- The words that a store across the end of the Cellar may read: not the first word of the scratchpads, which it writes, and no word of the tag
arrays. -/
def edgeWords (w : Nat) : Prop := w ≠ spadBase / 8 ∧ w < spadTagBase / 8

theorem rd_lt (s : State) {f : Fld} (h : f.width = 16) : s.rd f < 65536 := by
  have hmask : (lowMask 16).toNat = 65535 := by decide
  rw [State.rd, Fld.ofWord, h, BitVec.toNat_and, hmask]
  exact Nat.lt_of_le_of_lt Nat.and_le_right (by decide)

/-- The tag unit of the last Cellar unit is not at the start of the scratchpads, and lies below their tag arrays (R330). -/
theorem tagPlace_edge (s : State) {key : Nat} (hlo : spadBase - 64 ≤ key) (hhi : key < spadBase) : wordsIn edgeWords (s.tagPlace key).1 := by
  have h0 := rd_lt s (f := CC_DIMM.GIB 7 0) rfl
  have h1 := rd_lt s (f := CC_DIMM.GIB 7 1) rfl
  have hcel : ¬key < celBase := by
    simp only [spadBase, celBase] at hlo ⊢
    omega
  have htag : celTagBase ≤ key := by
    simp only [spadBase, celTagBase] at hlo ⊢
    omega
  have hch : (key - celTagBase) / 2 ^ 32 = 7 := by
    simp only [spadBase, celTagBase] at hlo hhi ⊢
    omega
  have hunit : (key - celTagBase) % 2 ^ 32 / 64 = 67108863 := by
    simp only [spadBase, celTagBase] at hlo hhi ⊢
    omega
  intro w hw
  simp only [State.tagPlace, if_neg hcel, State.celAt, if_pos htag, hch, hunit, State.celUnits] at hw
  generalize s.rd (CC_DIMM.GIB 7 0) = m at *
  generalize s.rd (CC_DIMM.GIB 7 1) = n at *
  simp only [edgeWords, celTagBase, spadBase, spadTagBase] at hw ⊢
  omega

theorem reaches_all {key : Nat} (h : key < spadBase) : Reaches allWords key :=
  ⟨fun _ _ _ => trivial, fun _ _ _ _ => trivial, fun hge => absurd h (Nat.not_lt.mpr hge)⟩

theorem reaches_none {key : Nat} (h : spadBase ≤ key) : Reaches noWord key :=
  ⟨fun hlt => absurd hlt (Nat.not_lt.mpr h), fun hlt => absurd hlt (Nat.not_lt.mpr h), fun _ => id⟩

/-- The two units of a store across the end of the Cellar. -/
theorem reaches_edge {key : Nat} (h : key = spadBase - 64 ∨ key = spadBase) : Reaches edgeWords key := by
  refine ⟨fun hlt w hw => ?_, fun hlt s => tagPlace_edge s ?_ hlt, fun hge hp => ?_⟩
  · simp only [spadBase, edgeWords, spadTagBase] at *
    omega
  · simp only [spadBase] at *
    omega
  · obtain ⟨hne, -⟩ := hp
    simp only [spadBase] at *
    omega

/-- A unit that a range touches is aligned, and starts in it or holds its first key. -/
theorem mem_unitsOf {key n u : Nat} (h : u ∈ unitsOf key n) :
    key / unitSize (storeOf key) * unitSize (storeOf key) ≤ u ∧ unitSize (storeOf key) ∣ u ∧ u < key + n := by
  unfold unitsOf at h
  split at h
  · cases h
  · obtain ⟨i, hi, rfl⟩ := List.mem_map.mp h
    have hi' := List.mem_range.mp hi
    refine ⟨Nat.mul_le_mul_right _ (Nat.le_add_right _ _), Nat.dvd_mul_left _ _, ?_⟩
    have hle : key / unitSize (storeOf key) + i ≤ (key + n - 1) / unitSize (storeOf key) := by
      have := Nat.div_le_div_right (c := unitSize (storeOf key)) (show key ≤ key + n - 1 by omega)
      omega
    have := (Nat.mul_le_mul_right (unitSize (storeOf key)) hle).trans (Nat.div_mul_le_self _ _)
    omega

theorem mem_granulesAt_bounds {key n g : Nat} (h : g ∈ granulesAt key n) : key < 16 * g + 16 ∧ 16 * g < key + n := by
  obtain ⟨i, hi, rfl⟩ := mem_granulesAt.mp h
  omega

theorem spadTagAt_ge (g : Nat) : spadTagBase / 8 ≤ (spadTagAt g).1 := Nat.div_le_div_right (Nat.le_add_right _ _)

theorem reachesAll_below {key n : Nat} (h : key + n < spadBase) : ReachesAll allWords key n :=
  ⟨fun u hu => reaches_all ((mem_unitsOf hu).2.2.trans h), fun _ _ _ _ _ _ => trivial,
    fun g hg hge => by
      have := (mem_granulesAt_bounds hg).2
      omega⟩

theorem reachesAll_above {key n : Nat} (h : spadBase ≤ key) : ReachesAll noWord key n := by
  have hcel : ¬key < celBase := by
    simp only [celBase, spadBase] at *
    omega
  have hsize : unitSize (storeOf key) = 8 := by
    rw [storeOf, if_neg hcel, if_neg (Nat.not_lt.mpr h)]
    split <;> rfl
  refine ⟨fun u hu => reaches_none ?_, fun g hg hlt => ?_, fun _ _ _ => id⟩
  · have := (mem_unitsOf hu).1
    rw [hsize] at this
    simp only [spadBase] at h ⊢
    omega
  · have := (mem_granulesAt_bounds hg).1
    simp only [spadBase] at h hlt
    omega

theorem reachesAll_edge {key n : Nat} (hn : n ≤ 64) (hlo : key < spadBase) (hhi : spadBase ≤ key + n) : ReachesAll edgeWords key n := by
  have hsize : unitSize (storeOf key) = 64 := by
    have hcel : ¬key < celBase := by
      simp only [celBase, spadBase] at *
      omega
    rw [storeOf, if_neg hcel, if_pos hlo]
    rfl
  refine ⟨fun u hu => reaches_edge ?_, fun g hg hlt s => tagPlace_edge s ?_ hlt, fun g _ _ hp => ?_⟩
  · obtain ⟨hle, hdvd, hlt⟩ := mem_unitsOf hu
    rw [hsize] at hle hdvd
    simp only [spadBase] at *
    omega
  · have := (mem_granulesAt_bounds hg).1
    simp only [spadBase] at *
    omega
  · exact absurd hp.2 (Nat.not_lt.mpr (spadTagAt_ge g))

/-! ### One store -/

/-- A state in which a store at a key meets nothing that a read corrects. -/
def State.openAt (s : State) (key : Nat) : Prop := key < spadBase → s.Inert allWords

/-- A store of at most 64 bytes leaves its bytes, with the tags of their granules clear, and opens the keys after it. -/
theorem writeBy_retains {s : State} (hs : s.Inert noWord) {key : Nat} {bs : List Byte} (hlen : bs.length ≤ 64) (hopen : s.openAt key)
    (cl : Option ClusterId) : Retains noWord (s.putData key bs) (s.writeBy cl key bs) ∧ (s.writeBy cl key bs).openAt (key + bs.length) := by
  by_cases hbelow : key + bs.length < spadBase
  · have hall := (Retains.refl (hopen (by omega))).writeBy (reachesAll_below hbelow) cl
    exact ⟨hall.mono fun _ => False.elim, fun _ => hall.inert⟩
  · refine ⟨?_, fun h => absurd h hbelow⟩
    by_cases hin : key < spadBase
    · have hedge := (Retains.refl ((hopen hin).mono (q := edgeWords) fun _ _ => trivial)).writeBy
        (reachesAll_edge hlen hin (Nat.not_lt.mp hbelow)) cl
      exact hedge.mono fun _ => False.elim
    · exact (Retains.refl hs).writeBy (reachesAll_above (Nat.not_lt.mp hin)) cl

/-- A store of a CP outside Lockstep that lies in one span. -/
theorem storeSpans_retains {s : State} (hs : s.Inert noWord) {c : CpId} (hsplit : s.lockstepCl (clOf c) = false) {key : Nat} {bs : List Byte}
    (hlen : bs.length ≤ 64) (hopen : s.openAt key) (a : Nat) :
    Retains noWord (s.putData key bs) (s.storeSpans c a [(key, bs.length)] bs) ∧
      (s.storeSpans c a [(key, bs.length)] bs).openAt (key + bs.length) := by
  obtain ⟨⟨⟨hdis, hflat, hinert⟩, htags, hbytes⟩, hafter⟩ := writeBy_retains hs hlen hopen (some (clOf c))
  have hlog : s.undoLog c [(key, bs.length)] = s := by simp [State.undoLog, hsplit]
  have heq : s.storeSpans c a [(key, bs.length)] bs = (s.writeBy (some (clOf c)) key bs).dWrite c a bs := by
    simp only [State.storeSpans, hlog, List.foldl_cons, List.foldl_nil, List.take_length]
  rw [heq]
  refine ⟨⟨⟨hdis, hflat, hinert⟩, htags, hbytes⟩, fun hlt => ?_⟩
  obtain ⟨hd, hf, hi⟩ := hafter hlt
  exact ⟨hd, hf, hi⟩

theorem storeSpans_lockstepCl {s : State} {c : CpId} (hsplit : s.lockstepCl (clOf c) = false) (a : Nat) (sp : List (Nat × Nat)) (bs : List Byte) :
    (s.storeSpans c a sp bs).lockstepCl (clOf c) = false := by
  have hlog : s.undoLog c sp = s := by simp [State.undoLog, hsplit]
  have hparts : (s.storeSpans c a sp bs).parts = s.parts := by
    simp only [State.storeSpans, hlog]
    exact foldl_keeps (fun r : List Byte × State => r.2.parts) (fun r q => writeBy_parts r.2 _ _ _) sp (bs, s)
  rw [lockstepCl_congr hparts, hsplit]

end Sys2Proof.Machine
end

section
/-! SUPPORT. Stores under a mask: each run of selected bytes is a store of its own (R121, R199, R355). -/

namespace Sys2Proof.Machine

/-! ### Runs of a mask -/

/-- Whether a byte lies in one of the runs. -/
def inRuns (l : List (Nat × Nat)) (i : Nat) : Prop := ∃ r ∈ l, r.1 ≤ i ∧ i < r.1 + r.2

/-- Runs that follow each other between two bytes. -/
def Runs (lo hi : Nat) : List (Nat × Nat) → Prop
  | [] => True
  | r :: l => lo ≤ r.1 ∧ 0 < r.2 ∧ r.1 + r.2 ≤ hi ∧ Runs (r.1 + r.2) hi l

theorem Runs.weaken {lo lo' hi : Nat} {l : List (Nat × Nat)} (h : Runs lo hi l) (hlo : lo' ≤ lo) : Runs lo' hi l := by
  cases l with
  | nil => trivial
  | cons r l => exact ⟨hlo.trans h.1, h.2⟩

theorem inRuns_nil (i : Nat) : ¬inRuns [] i := by simp [inRuns]

theorem inRuns_cons (r : Nat × Nat) (l : List (Nat × Nat)) (i : Nat) : inRuns (r :: l) i ↔ (r.1 ≤ i ∧ i < r.1 + r.2) ∨ inRuns l i := by
  simp [inRuns]

/-- One byte joins the runs of a mask above it. -/
def runStep (mask : Word) (i : Nat) (r : List (Nat × Nat)) : List (Nat × Nat) :=
  if !bitOf mask i then r
  else match r with
    | (j, m) :: l => if j = i + 1 then (i, m + 1) :: l else (i, 1) :: (j, m) :: l
    | [] => [(i, 1)]

theorem runStep_runs {mask : Word} {i hi : Nat} {r : List (Nat × Nat)} (h : Runs (i + 1) hi r) (hi' : i < hi) : Runs i hi (runStep mask i r) := by
  unfold runStep
  split
  · exact h.weaken (Nat.le_succ i)
  · split
    · rename_i j m l
      obtain ⟨hlo, hpos, hup, hrest⟩ := h
      dsimp only at hlo hup hrest
      split
      · rename_i hj
        subst hj
        rw [show i + 1 + m = i + (m + 1) by omega] at hup hrest
        exact ⟨Nat.le_refl i, Nat.succ_pos m, hup, hrest⟩
      · exact ⟨Nat.le_refl i, Nat.one_pos, hi', hlo, hpos, hup, hrest⟩
    · exact ⟨Nat.le_refl i, Nat.one_pos, hi', trivial⟩

theorem inRuns_runStep (mask : Word) (i : Nat) (r : List (Nat × Nat)) (k : Nat) :
    inRuns (runStep mask i r) k ↔ (k = i ∧ bitOf mask i = true) ∨ inRuns r k := by
  unfold runStep
  cases hbit : bitOf mask i with
  | false => simp
  | true =>
    simp only [Bool.not_true, Bool.false_eq_true, if_false, and_true]
    split
    · split
      · rename_i j m l hj
        subst hj
        simp only [inRuns_cons, ← or_assoc]
        refine or_congr_left ?_
        omega
      · rw [inRuns_cons]
        refine or_congr_left ?_
        dsimp only
        omega
    · simp only [inRuns_cons, inRuns_nil, or_false]
      omega

/-- The runs of a mask follow each other, and hold the bytes that it selects. -/
theorem maskRuns_spec (mask : Word) (n : Nat) :
    Runs 0 n (maskRuns mask n) ∧ ∀ k, inRuns (maskRuns mask n) k ↔ k < n ∧ bitOf mask k = true := by
  have hall : ∀ m lo, Runs lo (lo + m) ((List.range' lo m).foldr (runStep mask) []) ∧
      ∀ k, inRuns ((List.range' lo m).foldr (runStep mask) []) k ↔ (lo ≤ k ∧ k < lo + m) ∧ bitOf mask k = true := by
    intro m
    induction m with
    | zero => exact fun lo => ⟨trivial, fun k => by simp [inRuns_nil]⟩
    | succ m ih =>
      intro lo
      obtain ⟨hruns, hin⟩ := ih (lo + 1)
      rw [List.range'_succ, List.foldr_cons]
      rw [show lo + 1 + m = lo + (m + 1) by omega] at hruns hin
      refine ⟨runStep_runs hruns (by omega), fun k => ?_⟩
      rw [inRuns_runStep, hin]
      by_cases hk : k = lo
      · subst hk
        simp
      · have hiff : lo + 1 ≤ k ↔ lo ≤ k := by omega
        simp [hk, hiff]
  have heq : maskRuns mask n = (List.range' 0 n).foldr (runStep mask) [] := by
    rw [← List.range_eq_range']
    rfl
  obtain ⟨hruns, hin⟩ := hall n 0
  rw [Nat.zero_add] at hruns hin
  rw [heq]
  exact ⟨hruns, fun k => by simpa using hin k⟩

/-! ### The bytes of the runs -/

/-- A run of an access in one span is one span. -/
theorem cutSpans_one {k n lo m : Nat} (hm : lo + m ≤ n) (h0 : 0 < m) : cutSpans [(k, n)] lo m = [(k + lo, m)] := by
  have hlo : lo < n := by omega
  simp [cutSpans, hlo, hm]

/-- The data of a run. -/
def runBytes (b : List Byte) (r : Nat × Nat) : List Byte := (b.drop r.1).take r.2

theorem runBytes_length {b : List Byte} {r : Nat × Nat} (h : r.1 + r.2 ≤ b.length) : (runBytes b r).length = r.2 := by
  simp only [runBytes, List.length_take, List.length_drop]
  omega

/-- The bytes of runs at a key, and the tags of their granules clear. -/
def State.putRuns (s : State) (k : Nat) (b : List Byte) (l : List (Nat × Nat)) : State :=
  l.foldl (fun s r => s.putData (k + r.1) (runBytes b r)) s

open scoped Classical in
theorem rawByte_putRuns {b : List Byte} {l : List (Nat × Nat)} {lo : Nat} (hl : Runs lo b.length l) (s : State) (k a : Nat) :
    (s.putRuns k b l).rawByte a = if k ≤ a ∧ inRuns l (a - k) then b.getD (a - k) 0 else s.rawByte a := by
  induction l generalizing s lo with
  | nil => exact (if_neg fun h => inRuns_nil _ h.2).symm
  | cons r l ih =>
    obtain ⟨-, -, hup, hrest⟩ := hl
    have hput := rawByte_putData s (k + r.1) (runBytes b r) a
    rw [runBytes_length hup] at hput
    refine (ih hrest (s.putData (k + r.1) (runBytes b r))).trans ?_
    rw [hput, inRuns_cons]
    by_cases hr : k ≤ a ∧ inRuns l (a - k)
    · rw [if_pos hr, if_pos ⟨hr.1, .inr hr.2⟩]
    · rw [if_neg hr]
      by_cases hin : k + r.1 ≤ a ∧ a < k + r.1 + r.2
      · have hget : (runBytes b r).getD (a - (k + r.1)) 0 = b.getD (r.1 + (a - (k + r.1))) 0 := by
          simp only [runBytes, List.getD_eq_getElem?_getD, List.getElem?_take, List.getElem?_drop]
          rw [if_pos (by omega)]
        rw [if_pos hin, if_pos ⟨by omega, .inl ⟨by omega, by omega⟩⟩, hget, show r.1 + (a - (k + r.1)) = a - k by omega]
      · rw [if_neg hin, if_neg]
        rintro ⟨hk, ⟨h1, h2⟩ | h⟩
        · exact hin ⟨by omega, by omega⟩
        · exact hr ⟨hk, h⟩

open scoped Classical in
theorem tagAt_putRuns {b : List Byte} {l : List (Nat × Nat)} {lo : Nat} (hl : Runs lo b.length l) (s : State) (k g : Nat) :
    (s.putRuns k b l).tagAt g = if ∃ i, inRuns l i ∧ (k + i) / 16 = g then false else s.tagAt g := by
  induction l generalizing s lo with
  | nil => exact (if_neg fun ⟨i, h, _⟩ => inRuns_nil i h).symm
  | cons r l ih =>
    obtain ⟨-, -, hup, hrest⟩ := hl
    have hput := tagAt_putData s (k + r.1) (runBytes b r) g
    rw [runBytes_length hup] at hput
    refine (ih hrest (s.putData (k + r.1) (runBytes b r))).trans ?_
    rw [hput]
    by_cases hr : ∃ i, inRuns l i ∧ (k + i) / 16 = g
    · obtain ⟨i, hi, hg⟩ := hr
      rw [if_pos ⟨i, hi, hg⟩, if_pos ⟨i, (inRuns_cons r l i).mpr (.inr hi), hg⟩]
    · rw [if_neg hr]
      by_cases hin : ∃ i < r.2, (k + r.1 + i) / 16 = g
      · obtain ⟨i, hi, hg⟩ := hin
        rw [if_pos ⟨i, hi, hg⟩, if_pos ⟨r.1 + i, (inRuns_cons r l _).mpr (.inl ⟨by omega, by omega⟩), by rw [← hg, Nat.add_assoc]⟩]
      · rw [if_neg hin, if_neg]
        rintro ⟨i, hi, hg⟩
        obtain ⟨h1, h2⟩ | h := (inRuns_cons r l i).mp hi
        · exact hin ⟨i - r.1, by omega, by rw [← hg, show k + r.1 + (i - r.1) = k + i by omega]⟩
        · exact hr ⟨i, h, hg⟩

theorem putRuns_retains {p : Nat → Prop} {z t : State} (h : Retains p z t) (k : Nat) (b : List Byte) (l : List (Nat × Nat)) :
    Retains p (z.putRuns k b l) (t.putRuns k b l) := by
  induction l generalizing z t with
  | nil => exact h
  | cons r l ih => exact ih (h.putData (k + r.1) (runBytes b r))

/-- The stores of runs leave the bytes of the runs (R121, R199). -/
theorem storeRuns_retains {b : List Byte} (hlen : b.length ≤ 64) {c : CpId} {l : List (Nat × Nat)} {lo : Nat} (hl : Runs lo b.length l) {s : State}
    (hs : s.Inert noWord) (hsplit : s.lockstepCl (clOf c) = false) (a k : Nat) (hopen : s.openAt (k + lo)) :
    Retains noWord (s.putRuns k b l)
      (l.foldl (fun s r => s.storeSpans c (a + r.1) (cutSpans [(k, b.length)] r.1 r.2) ((b.drop r.1).take r.2)) s) := by
  induction l generalizing s lo with
  | nil => exact .refl hs
  | cons r l ih =>
    obtain ⟨hlo, hpos, hup, hrest⟩ := hl
    have hlen' := runBytes_length hup
    have hopen' : s.openAt (k + r.1) := fun h => hopen (by omega)
    obtain ⟨hstore, hafter⟩ := storeSpans_retains hs hsplit (bs := runBytes b r) (by omega) hopen' (a + r.1)
    rw [hlen'] at hstore hafter
    rw [List.foldl_cons, cutSpans_one hup hpos]
    rw [Nat.add_assoc] at hafter
    exact (putRuns_retains hstore k b l).trans (ih hrest hstore.inert (storeSpans_lockstepCl hsplit _ _ _) hafter)

/-- A store under a mask, outside Lockstep and where no word holds an error: the bytes that the mask selects, and the tags of their
granules clear (R121, R199). -/
theorem storeMasked_results {f : State} {c : CpId} {b : List Byte} (hlen : b.length ≤ 64) (herrs : f.errs = [])
    (hdis : f.rdB INJ_STAT.ARMED = false) (hsplit : f.lockstepCl (clOf c) = false) (a k : Nat) (m : Word) :
    ∃ l, Runs 0 b.length l ∧ (∀ i, inRuns l i ↔ i < b.length ∧ bitOf m i = true) ∧
      Retains noWord (f.putRuns k b l) (f.storeMasked c a [(k, b.length)] b m) := by
  have hall : f.Inert allWords :=
    ⟨hdis, fun w => by rw [err_of_errs_nil herrs]; rfl, fun w _ => by rw [err_of_errs_nil herrs]; exact zero_inert w⟩
  have hnone : f.Inert noWord := hall.mono fun _ => False.elim
  unfold State.storeMasked
  split
  · rename_i hones
    subst hones
    have hbit : ∀ i, i < b.length → bitOf (BitVec.allOnes 64) i = true := fun i hi => by
      simp only [bitOf, BitVec.getLsbD_allOnes, decide_eq_true_eq]
      omega
    have hstore := (storeSpans_retains hnone hsplit hlen (fun _ => hall) (key := k) a).1
    by_cases h0 : b.length = 0
    · refine ⟨[], trivial, fun i => by simp [inRuns_nil, h0], ?_⟩
      obtain rfl := List.eq_nil_of_length_eq_zero h0
      exact hstore
    · refine ⟨[(0, b.length)], ⟨Nat.le_refl 0, Nat.pos_of_ne_zero h0, by omega, trivial⟩, fun i => ?_, ?_⟩
      · simp only [inRuns_cons, inRuns_nil, or_false, Nat.zero_le, Nat.zero_add, true_and]
        exact ⟨fun h => ⟨h, hbit i h⟩, fun h => h.1⟩
      · simpa [State.putRuns, runBytes] using hstore
  · obtain ⟨hruns, hin⟩ := maskRuns_spec m b.length
    exact ⟨_, hruns, hin, storeRuns_retains hlen hruns hnone hsplit a k fun _ => hall⟩

/-- SVLD goes on with the bytes found, SVST stores those that its mask selects, and what such a store leaves. -/
theorem shortVectorMemory : Sys2Proof.Clauses.ShortVectorMemory := by
  intro s f w g c0 c v bs key data sp at_ wd
  refine ⟨fun hr hl h => ?_, fun hr h => ?_, fun a k b m hlen _ _ herrs hdis hsplit => ?_⟩
  · intro mk d
    exact exec_next_modA h (exec_of_insn rfl (by rw [hr, reserve_false])) rfl (loadBytes_loads hl _)
      ((shortMask_free w c v _).calm (calm_of_loads hl))
  · intro mk m hst t hc
    have ha : memAddr (mk.2.k c v.db) (v.imm.setWidth 12) 64 = at_ := by rw [State.k, (shortMask_free f c v _).cp, ← State.k]
    exact exec_next h (exec_of_insn rfl (by rw [hr, reserve_false])) rfl (doStore_masked ha hst m) hc
  · intro t
    obtain ⟨l, hl, hin, ⟨-, hflat, -⟩, htags, hbytes⟩ := storeMasked_results hlen herrs hdis hsplit a k m
    have hbyte : ∀ j, t.byteAt j = (f.putRuns k b l).rawByte j := fun j => (byteAt_of_flat hflat j).trans (hbytes j)
    have hbefore : ∀ j, f.byteAt j = f.rawByte j := byteAt_of_flat fun e => by rw [err_of_errs_nil herrs]; rfl
    refine ⟨fun i hi => ?_, fun j hj => ?_, fun n => ?_⟩
    · rw [hbyte, hbefore, rawByte_putRuns hl, Nat.add_sub_cancel_left, hin]
      simp [hi]
    · rw [hbyte, hbefore, rawByte_putRuns hl, if_neg]
      rintro ⟨hk, hj'⟩
      have := ((hin _).mp hj').1
      omega
    · rw [tagAt_of_tags htags, tagAt_putRuns hl]
      simp only [hin, and_assoc]

/-- Settles O30: lane by lane, by the instructions on masks and reductions, and by the bytes that a store under a mask leaves. -/
theorem shortVectorElementResults : Obligations.ShortVectorElementResults := ⟨shortVectorLanes, shortVectorOthers, shortVectorMemory⟩

end Sys2Proof.Machine
end

section
/-! SUPPORT. Contacts and sideband buses (R420, R638 to R646), and an injection whose operation is the passing of time (R370, R373). -/

namespace Sys2Proof.Machine

/-! ### The probe of a bus (R643, R645, R646) -/

theorem exec_sidebandProbe (bus : Fin 8) (r : ProbeResult) (s : State) : exec (.sidebandProbe bus r) s = execSidebandProbe bus r s := rfl

/-- The reason noted for lines that fail their probe, whatever their rise time. -/
def lineFault (bus : Nat) (o : ProbeOutcome) : Option Fld :=
  match o with
  | .stuck => some (SB_STAT.STUCK bus)
  | .noPull => some (SB_STAT.NOPULL bus)
  | .short => some (SB_STAT.SHORT bus)
  | .riseFail => some (SB_STAT.RISE_FAIL bus)
  | .normal | .swapped | .noDevice => none

/-- The rise time that is noted leaves the rate by which it is judged. -/
theorem rate_wr_riseNs (s : State) (bus v : Nat) : (s.wr (SB_STAT.RISE_NS bus) v).rd (SB_CFG.RATE bus) = s.rd (SB_CFG.RATE bus) := by
  refine rd_wr_ne s v ?_
  simp only [SB_CFG.RATE, SB_CFG.adr, SB_STAT.RISE_NS, SB_STAT.adr]
  omega

/-- A bus without an identity to read, its lines not exchanged, runs and has what answered noted. -/
theorem busOn_plain {s : State} {bus : Fin 8} {r : ProbeResult} (hnormal : r.outcome = .normal) (hbus : bus.val = 2) :
    s.busOn bus r = ((s.wr (SB_STAT.STATE bus) 1).wr (SB_CFG.EN bus) 1).wr (SB_STAT.FOUND bus) r.found.toNat := by
  obtain rfl : bus = 2 := Fin.ext hbus
  simp [State.busOn, hnormal]

section
variable {s : State} {bus : Fin 8} {r : ProbeResult} (hwired : s.wired = true) (hnew : s.rd (SB_STAT.STATE bus) = 0)
  (hinj : s.armed 0x3C bus.val = false)
include hwired hnew hinj

theorem sidebandProbe_lineFault {f : Fld} (hf : lineFault bus r.outcome = some f) : exec (.sidebandProbe bus r) s =
    .next ((((s.wr (SB_STAT.RISE_NS bus) r.riseNs.toNat).busOff bus.val).wr f 1).bucket 20 1) := by
  cases ho : r.outcome <;> rw [ho] at hf
  case stuck | noPull | short | riseFail =>
    obtain rfl := Option.some.inj hf
    simp [exec_sidebandProbe, execSidebandProbe, hwired, hnew, inject_unarmed hinj, ho]
  case normal | swapped | noDevice => cases hf

variable (hnormal : r.outcome = .normal)
include hnormal

/-- Lines that rise later than RISE_MAX fail, but on SB7, where the part is the target. -/
theorem sidebandProbe_slow (hbus : bus ≠ 7) (hslow : riseMax (s.rd (SB_CFG.RATE bus)) < r.riseNs.toNat) : exec (.sidebandProbe bus r) s =
    .next ((((s.wr (SB_STAT.RISE_NS bus) r.riseNs.toNat).busOff bus.val).wr (SB_STAT.RISE_FAIL bus) 1).bucket 20 1) := by
  simp [exec_sidebandProbe, execSidebandProbe, hwired, hnew, inject_unarmed hinj, hnormal, hbus, rate_wr_riseNs, hslow]

theorem sidebandProbe_passes (hbus : bus ≠ 3) (hfast : r.riseNs.toNat ≤ riseMax (s.rd (SB_CFG.RATE bus))) :
    exec (.sidebandProbe bus r) s = .next ((s.wr (SB_STAT.RISE_NS bus) r.riseNs.toNat).busOn bus r) := by
  simp [exec_sidebandProbe, execSidebandProbe, hwired, hnew, inject_unarmed hinj, hnormal, hbus, rate_wr_riseNs, Nat.not_lt.mpr hfast]

end

/-! ### A transaction on a bus that runs (R645) -/

theorem exec_sidebandTransaction (bus : Fin 8) (o : SbOutcome) (s : State) :
    exec (.sidebandTransaction bus o) s = execSidebandTransaction bus o s := rfl

/-- `s` with the count of the arbitrations that a bus lost in a row changed. -/
def State.modLosses (s : State) (bus : Fin 8) (f : Nat → Nat) : State := s.modBoard (fun b => { b with losses := vecUpd b.losses bus f })

theorem losses_modLosses (s : State) (bus : Fin 8) (f : Nat → Nat) :
    (s.modLosses bus f).board.losses[bus.val] = f s.board.losses[bus.val] := Vector.getElem_set_self ..

section
variable {s : State} {bus : Fin 8} (hwired : s.wired = true) (hbus : bus ≠ 7) (hon : s.rd (SB_STAT.STATE bus) = 1)
include hwired hbus hon

theorem sidebandTransaction_acked : exec (.sidebandTransaction bus .acked) s = .next (s.modLosses bus fun _ => 0) := by
  simp [exec_sidebandTransaction, execSidebandTransaction, hwired, hbus, hon, State.modLosses]

theorem sidebandTransaction_nacked :
    exec (.sidebandTransaction bus .nacked) s = .next ((s.modLosses bus fun _ => 0).cnt (SB_STAT.NACKS bus) 1) := by
  simp [exec_sidebandTransaction, execSidebandTransaction, hwired, hbus, hon, State.modLosses]

theorem sidebandTransaction_arbLost : exec (.sidebandTransaction bus .arbLost) s =
    .next (if 3 ≤ s.board.losses[bus.val] + 1 then ((s.modLosses bus (· + 1)).busOff bus.val).wr (SB_STAT.SHORT bus) 1
      else s.modLosses bus (· + 1)) := by
  rw [← losses_modLosses s bus (· + 1)]
  rw [exec_sidebandTransaction, execSidebandTransaction, if_neg (by simp [hwired, hbus, hon])]
  rfl

end

/-! ### SB7 (R644) -/

theorem exec_sb7StatusBlock (s : State) : exec .sb7StatusBlock s = execSb7StatusBlock s := rfl

theorem exec_sb7IdkHash (s : State) : exec .sb7IdkHash s = execSb7IdkHash s := rfl

theorem sb7Up_iff {s : State} : s.sb7Up = true ↔ s.wired = true ∧ s.rd (SB_STAT.STATE 7) ≠ 2 := by
  simp [State.sb7Up]

section
variable {s : State} (hup : s.sb7Up = true)
include hup

theorem sb7StatusBlock_given : exec .sb7StatusBlock s = .next (s.modBoard fun b => { b with sb7 := s.statusBlock }) := by
  rw [exec_sb7StatusBlock, execSb7StatusBlock, if_pos hup]

theorem sb7IdkHash_given : exec .sb7IdkHash s =
    .next (s.modBoard fun b => { b with sb7 := if s.keysUp then s.idkHash else List.replicate 32 0 }) := by
  rw [exec_sb7IdkHash, execSb7IdkHash, if_pos hup]

end

/-! ### Outputs and inputs (R420, R639, R645) -/

theorem exec_outputReadbackFault (o : OutputPin) (s : State) : exec (.outputReadbackFault o) s = execOutputReadbackFault o s := rfl

theorem exec_vinmonOpenDetect (s : State) : exec .vinmonOpenDetect s = execVinmonOpenDetect s := rfl

theorem exec_evtInEdge (n : Fin 4) (rising : Bool) (s : State) : exec (.evtInEdge n rising) s = execEvtInEdge n rising s := rfl

theorem exec_gpioEdge (g : Fin 16) (rising : Bool) (s : State) : exec (.gpioEdge g rising) s = execGpioEdge g rising s := rfl

/-- A wiring fault that SB_WIRE does not show yet is noted. -/
theorem wireFault_first {s : State} {f : Fld} {k : Nat} (h : bitOf (BitVec.ofNat 16 (s.rd f)) k = false) :
    s.wireFault f k = (s.wr f (setBitOf (BitVec.ofNat 16 (s.rd f)) k true).toNat).bucket 20 1 := by
  simp [State.wireFault, h]

/-- A selection takes rising edges, falling edges, or both. -/
theorem edgeTaken_iff {sel : Nat} {rising : Bool} :
    edgeTaken sel rising = true ↔ (sel = 1 ∧ rising = true) ∨ (sel = 2 ∧ rising = false) ∨ sel = 3 := by
  simp [edgeTaken, or_assoc]

/-- `s` with a GPIO read at a level. -/
def State.gpioReads (s : State) (g : Fin 16) (level : Bool) : State :=
  s.wr GPIO_IN.IN (setBitOf (BitVec.ofNat 16 (s.rd GPIO_IN.IN)) g.val level).toNat

section
variable {s : State} (hwired : s.wired = true)
include hwired

/-- A GPIO that the part drives is given up when it reads back wrong. -/
theorem outputReadbackFault_gpio {g : Fin 16} (hsel : 4 ≤ s.rd (PIN_FUNC.SEL g.val)) :
    exec (.outputReadbackFault (.gpio g)) s = .next (s.wireFault SB_WIRE.GPIO_OFF g.val) := by
  simp [exec_outputReadbackFault, execOutputReadbackFault, hwired, hsel]

theorem vinmonOpenDetect_wired : exec .vinmonOpenDetect s = .next (((s.wireFault SB_WIRE.VINMON_OPEN 0).demand 5 0).settleShed) := by
  rw [exec_vinmonOpenDetect, execVinmonOpenDetect, if_pos hwired]

theorem evtInEdge_wired (n : Fin 4) (rising : Bool) : exec (.evtInEdge n rising) s =
    .next (if edgeTaken (s.rd (PIN_FUNC.SEL (0x10 + n.val))) rising then s.fire (0x240 + n.val) else s) := by
  rw [exec_evtInEdge, execEvtInEdge, hwired, Bool.true_and]

theorem gpioEdge_wired (g : Fin 16) (rising : Bool) : exec (.gpioEdge g rising) s =
    .next (if edgeTaken ((s.gpioReads g rising).rd (PIN_FUNC.SEL g.val)) rising then (s.gpioReads g rising).fire (0x230 + g.val)
      else s.gpioReads g rising) := by
  rw [exec_gpioEdge, execGpioEdge, if_neg (by simp [hwired])]
  rfl

end

/-! ### An injection by the passing of time (R370, R373) -/

theorem exec_injectionFire (s : State) : exec .injectionFire s = execInjectionFire s := rfl

theorem injectionFire_disarmed {s : State} (h : s.rdB INJ_STAT.ARMED = false) : exec .injectionFire s = .next s := by
  simp [exec_injectionFire, execInjectionFire, h]

/-- An injection into a Load Advance driver concerns a quadrant, and fires. -/
theorem injectionFire_driver {s : State} (harmed : s.rdB INJ_STAT.ARMED = true) (hpoint : s.rd INJ_SEL.POINT = 0x3B) {q : QuadId}
    (hinst : s.rd INJ_SEL.INST = q.val) : exec .injectionFire s = .next (s.fired.injectNow 0x3B q.val) := by
  simp [exec_injectionFire, execInjectionFire, harmed, hpoint, hinst, q.isLt]

/-- The driver reads back wrong: it is given up, and the quadrant goes without Load Advance. -/
theorem injectNow_driver (s : State) (q : QuadId) : s.injectNow 0x3B q.val =
    (((s.wr (LA_STAT.DRV_OFF q) 1).wr (LA_STAT.CODE q) 0).wr (LA_STAT.DIDT_USED q) 50).bucket 20 1 := by
  simp [State.injectNow, Nat.mod_eq_of_lt q.isLt]

/-- Settles O44: each clause is the lemma of its command. -/
theorem contactResults : Obligations.ContactResults := by
  intro s bus r n g rising off
  refine ⟨fun hw hnew hinj => ?_, fun hw hbus hon => ?_, fun hw hon => ?_, fun hw hsel hbit => ?_, vinmonOpenDetect_wired, fun hw => ?_,
    fun harmed hpoint q hinst => ?_, injectionFire_disarmed⟩
  · have hfault {f : Fld} := sidebandProbe_lineFault (r := r) hw hnew hinj (f := f)
    refine ⟨fun ho => hfault (by rw [ho, lineFault]), fun ho => hfault (by rw [ho, lineFault]), fun ho => hfault (by rw [ho, lineFault]),
      fun ho => hfault (by rw [ho, lineFault]), sidebandProbe_slow hw hnew hinj, fun ho hbus hfast => ?_⟩
    rw [sidebandProbe_passes hw hnew hinj ho (fun h => absurd (h ▸ hbus) (by decide)) hfast, busOn_plain ho hbus]
  · refine ⟨sidebandTransaction_acked hw hbus hon, sidebandTransaction_nacked hw hbus hon, fun hfew => ?_, fun hmany => ?_⟩
    · rw [sidebandTransaction_arbLost hw hbus hon, if_neg (by omega)]
      rfl
    · rw [sidebandTransaction_arbLost hw hbus hon, if_pos (by omega)]
      rfl
  · have hup : s.sb7Up = true := sb7Up_iff.mpr ⟨hw, hon⟩
    refine ⟨sb7StatusBlock_given hup, fun hkeys => ?_, fun hkeys => ?_⟩
    · rw [sb7IdkHash_given hup, if_pos hkeys]
    · rw [sb7IdkHash_given hup, if_neg (Bool.eq_false_iff.mp hkeys)]
  · rw [outputReadbackFault_gpio hw hsel, wireFault_first hbit]
  · simp only [← edgeTaken_iff]
    rw [evtInEdge_wired hw, gpioEdge_wired hw]
    exact ⟨fun h => congrArg _ (if_pos h), fun h => congrArg _ (if_neg h), fun h => congrArg _ (if_pos h), fun h => congrArg _ (if_neg h)⟩
  · rw [injectionFire_driver harmed hpoint hinst, injectNow_driver]

end Sys2Proof.Machine
end

section
/-! SUPPORT. RETX (R394) restores G14 and G15, so it waits while vector work that writes one of them is outstanding (R203). -/

namespace Sys2Proof.Machine

/-- An instruction waits for vector work that has not faulted and writes a G register that it uses (R203). -/
theorem runInsn_waits {s f : State} {c0 c : CpId} {i : Insn} (ht : s.turn c0 c) (hb : s.noBreak c i) (hf : s.fetches c i f)
    (hbusy : i.gs.any (fun n => (s.cp c).vq.writesG n) = true) (hpend : (s.cp c).vq.pend = false) (body : State → CpId → Flow) :
    s.runInsn c0 i body = f.finish c i (.stall f .vector) := by
  obtain ⟨hl, hg, hi, hc, hq⟩ := ht
  have hgo : (s.cpsGo || s.lockGo c) = true := by simpa using hg
  have hb' : (s.modCp c (fun p => { p with entryWin := none })).breaks c i = (none, []) := breaks_none hb
  have hf' : (s.modCp c (fun p => { p with entryWin := none })).fetch c i = (none, f) := hf
  unfold State.runInsn
  simp [hl, hgo, hi, hc, hq, hb', hf', hbusy, hpend]

/-- RETX waits for vector work that writes G14 or G15 (R203, R394). -/
theorem exec_retx_waits {s f : State} {c0 c : CpId} (h : s.starts c0 c (iCtl 0x03 true) f)
    (hbusy : (s.cp c).vq.writesG 14 = true ∨ (s.cp c).vq.writesG 15 = true) (hpend : (s.cp c).vq.pend = false) :
    exec (.retx c0) s = .next (f.modCp c (fun p => { p with stall := .vector })) := by
  obtain ⟨-, -, hstep, -⟩ := calm_of_starts h
  obtain ⟨ht, hb, hf, -, -, -⟩ := h
  have hany : [14, 15].any (fun n => (s.cp c).vq.writesG n) = true := by simpa using hbusy
  have hrun := runInsn_waits (i := { iCtl 0x03 true with gs := [14, 15] }) ht hb hf hany hpend doRetx
  exact congrArg Host.Outcome.next (hrun.trans (finish_stall f _ .vector hstep))

/-- A reduction into G14 (R171). -/
def reductionIntoG14 : VEntry :=
  { op := 0x100, v := ⟨0, 0, 0, 0, 0, 0, 0, false, false, 0x1E00⟩, pc := 0, vl := 1, ct := false, det := false, rnd := 0, ftz := false,
    daz := false, scalar := none, dD := none, dA := some DReg.null, dB := none, dC := none, dM := none, ex := [],
    joins := false, cut := false, partials := [], flags := 0, err := Err.zero }

/-- CP 0 stands at parcel 0 of its Program RAM with that reduction outstanding, and has no frame register (R386). -/
def beforeRetx : State :=
  { State.reset with
    sec := { SecSt.reset with sys := .run }
    cps := State.reset.cps.set 0 { Cp.reset with run := .running, vq := { VQueue.reset with entries := [reductionIntoG14] } } }

/-- The state after its fetch. -/
def fetchedRetx : State := ((beforeRetx.atInsn 0).fetch 0 (iCtl 0x03 true)).2

theorem starts_beforeRetx : beforeRetx.starts 0 0 (iCtl 0x03 true) fetchedRetx := by
  unfold State.starts State.turn State.noBreak Cp.allowed Cp.free Cp.calm
  refine ⟨by decide +kernel, by decide +kernel, eq_of_fst (by decide +kernel), by decide +kernel, by decide +kernel, by decide +kernel⟩

/-- The exception that the statement names ends any wait: without a frame register CP 0 locks up (R392, R396). -/
theorem trapped_fetchedRetx_stall : ((fetchedRetx.trapped 0 cReturn 1).cp 0).stall = .none := by decide +kernel

/-- Refutes O23: with no frame register and a reduction into G14 outstanding, RETX waits for the reduction (R203) and raises
nothing. The statement gives `State.starts` an instruction that uses no G register, which leaves such work outstanding. -/
theorem not_returnFromException : ¬ Obligations.ReturnFromException := by
  unfold Obligations.ReturnFromException
  intro h
  obtain ⟨hbad, -⟩ := h beforeRetx fetchedRetx fetchedRetx fetchedRetx fetchedRetx fetchedRetx 0 0 [] [] [] false false fetchedRetx
    fetchedRetx starts_beforeRetx
  have hinfo : BitVec.ofNat 64 (1 + ((fetchedRetx.cp 0).a.k[(frameReg (fetchedRetx.cp 0).a).val]).cursor % 2 ^ 56 * 16) = 1 := by decide +kernel
  have htrap := hbad (by decide +kernel)
  rw [exec_retx_waits starts_beforeRetx (.inl (by decide +kernel)) (by decide +kernel), hinfo] at htrap
  have hstall := trapped_fetchedRetx_stall
  rw [← Host.Outcome.next.inj htrap, cp_modCp] at hstall
  exact absurd hstall (by decide)

end Sys2Proof.Machine
end

section
/-! SUPPORT. Interrupts (R393, R400): the one that is accepted, its entry, and the takeover of an entry. -/

namespace Sys2Proof.Machine

/-! ### The interrupt that is accepted -/

/-- An interrupt is acceptable above a level: pending, enabled and of a higher priority (R400). -/
def Cp.acceptable (p : Cp) (level n : Nat) : Prop := bitOf p.pendBits n = true ∧ bitOf p.enabBits n = true ∧ level < p.prio n

/-- One step of the search in `Cp.topIrq`: an acceptable interrupt takes the place of one of lower priority. -/
def Cp.irqStep (p : Cp) (level : Nat) (r : Option (Nat × Nat)) (n : Nat) : Option (Nat × Nat) :=
  if bitOf (p.pendBits &&& p.enabBits) n && decide (level < p.prio n) && decide ((r.map (·.2)).getD 0 < p.prio n) then some (n, p.prio n)
  else r

theorem topIrq_eq (p : Cp) (level : Nat) : p.topIrq level = (List.range 256).foldl (p.irqStep level) none := rfl

theorem irqStep_pos {p : Cp} {level n : Nat} {r : Option (Nat × Nat)} (h : p.acceptable level n) (hr : (r.map (·.2)).getD 0 < p.prio n) :
    p.irqStep level r n = some (n, p.prio n) := by
  obtain ⟨hpend, henab, hprio⟩ := h
  simp only [bitOf] at hpend henab
  simp [Cp.irqStep, bitOf, hpend, henab, hprio, hr]

theorem irqStep_neg {p : Cp} {level n : Nat} {r : Option (Nat × Nat)} (h : p.acceptable level n → p.prio n ≤ (r.map (·.2)).getD 0) :
    p.irqStep level r n = r := by
  refine if_neg fun hc => ?_
  simp only [bitOf, BitVec.getLsbD_and, Bool.and_eq_true, decide_eq_true_eq] at hc
  obtain ⟨⟨⟨hpend, henab⟩, hprio⟩, hr⟩ := hc
  exact absurd (h ⟨hpend, henab, hprio⟩) (Nat.not_le.mpr hr)

/-- An interrupt comes no later in the order of acceptance than another: of higher priority, or of the same and no higher number (R400). -/
def Cp.irqFirst (p : Cp) (n m : Nat) : Prop := p.prio m < p.prio n ∨ (p.prio m = p.prio n ∧ n ≤ m)

/-- What the search has found among the interrupts below k: the first acceptable one, with its priority, or that there is none. -/
def Cp.irqBest (p : Cp) (level k : Nat) : Option (Nat × Nat) → Prop
  | none => ∀ m < k, ¬ p.acceptable level m
  | some (n, q) => n < k ∧ p.acceptable level n ∧ q = p.prio n ∧ ∀ m < k, p.acceptable level m → p.irqFirst n m

theorem irqBest_step {p : Cp} {level k : Nat} {r : Option (Nat × Nat)} (h : p.irqBest level k r) :
    p.irqBest level (k + 1) (p.irqStep level r k) := by
  match r, h with
  | none, hnone =>
    by_cases hk : p.acceptable level k
    · obtain ⟨-, -, hlevel⟩ := id hk
      rw [irqStep_pos (r := none) hk (Nat.zero_lt_of_lt hlevel)]
      refine ⟨k.lt_succ_self, hk, rfl, fun m hm hacc => ?_⟩
      obtain hm | rfl := Nat.lt_succ_iff_lt_or_eq.mp hm
      · exact absurd hacc (hnone m hm)
      · exact .inr ⟨rfl, le_rfl⟩
    · rw [irqStep_neg (fun h => absurd h hk)]
      intro m hm hacc
      obtain hm | rfl := Nat.lt_succ_iff_lt_or_eq.mp hm
      · exact hnone m hm hacc
      · exact hk hacc
  | some (n, q), ⟨hn, hacc, hq, hfirst⟩ =>
    subst hq
    by_cases hk : p.acceptable level k ∧ p.prio n < p.prio k
    · obtain ⟨hk, hlt⟩ := hk
      rw [irqStep_pos (r := some (n, p.prio n)) hk hlt]
      refine ⟨k.lt_succ_self, hk, rfl, fun m hm hm' => ?_⟩
      obtain hm | rfl := Nat.lt_succ_iff_lt_or_eq.mp hm
      · obtain h | ⟨h, -⟩ := hfirst m hm hm'
        · exact .inl (h.trans hlt)
        · exact .inl (h ▸ hlt)
      · exact .inr ⟨rfl, le_rfl⟩
    · have hle : p.acceptable level k → p.prio k ≤ p.prio n := fun h => Nat.not_lt.mp fun hlt => hk ⟨h, hlt⟩
      rw [irqStep_neg hle]
      refine ⟨hn.trans k.lt_succ_self, hacc, rfl, fun m hm hm' => ?_⟩
      obtain hm | rfl := Nat.lt_succ_iff_lt_or_eq.mp hm
      · exact hfirst m hm hm'
      · exact (Nat.lt_or_eq_of_le (hle hm')).imp id fun h => ⟨h, hn.le⟩

/-- The search finds the first acceptable interrupt. -/
theorem irqBest_range (p : Cp) (level k : Nat) : p.irqBest level k ((List.range k).foldl (p.irqStep level) none) := by
  induction k with
  | zero => exact fun m hm => absurd hm m.not_lt_zero
  | succ k ih =>
    rw [List.range_succ, List.foldl_append]
    exact irqBest_step ih

theorem highestPriorityInterrupt : Sys2Proof.Clauses.HighestPriorityInterrupt := by
  intro p level n q h
  have hbest := irqBest_range p level 256
  rw [← topIrq_eq, h] at hbest
  obtain ⟨hn, ⟨hpend, henab, hprio⟩, rfl, hfirst⟩ := hbest
  exact ⟨hn, hpend, henab, hprio, rfl, fun m hm hmpend hmenab hmprio => hfirst m hm ⟨hmpend, hmenab, hmprio⟩⟩

/-! ### Acceptance and takeover -/

theorem interruptAccept_takes {s : State} {c0 c : CpId} {n q : Nat} (hlead : s.lead c0 = c) (hgo : s.cpsGo = true)
    (hrun : (s.cp c).run = .running) (hstall : (s.cp c).stall.takesIrq = true) (hirq : s.irqBefore c = some (n, q)) :
    exec (.interruptAccept c0) s = .next ((s.accept c n q (s.pc c)).boundary c) := by
  subst hlead
  show execInterruptAccept c0 s = _
  simp only [execInterruptAccept, hgo, hrun, hstall, hirq, and_self, if_true]
  rfl

theorem interruptAccept_none {s : State} {c0 c : CpId} (hlead : s.lead c0 = c) (hirq : s.irqBefore c = none) :
    exec (.interruptAccept c0) s = .next s := by
  subst hlead
  show execInterruptAccept c0 s = _
  simp only [execInterruptAccept, hirq, ite_self]

/-- The CP after interrupt n of priority q, which brings no vector fault, has taken over the entry of interrupt w (R393). -/
def Cp.takenOver (p : Cp) (w : EntryWin) (n q : Nat) : Cp :=
  { p with
    a := { p.a with xcause := xcauseOf cInterrupt true false false n, xinfo := 0, xmask := BitVec.ofNat 3 q }
    vq := { p.vq with pend := p.vq.pend || nbits p.a.xcause.toNat 0 8 = cVector }
    pendBits := setBitOf (setBitOf p.pendBits w.irq.toNat true) n false
    taken := BitVec.ofNat 8 n :: p.taken.erase w.irq
    entryWin := some ⟨BitVec.ofNat 8 n⟩ }

theorem entryTakeover_takes {s : State} {c0 c : CpId} {w : EntryWin} {n q : Nat} (hlead : s.lead c0 = c) (hwin : (s.cp c).entryWin = some w)
    (htop : (s.cp c).topIrq (s.cp c).a.xmask.toNat = some (n, q)) (hvec : ¬ (n = 8 ∧ (s.cp c).a.vfi = true ∧ (s.cp c).vq.pend = true)) :
    exec (.entryTakeover c0) s = .next (s.modCp c (fun p => p.takenOver w n q)) := by
  subst hlead
  show execEntryTakeover c0 s = _
  simp only [execEntryTakeover, hwin, htop, hvec, if_false]
  rfl

theorem entryTakeover_none {s : State} {c0 c : CpId} (hlead : s.lead c0 = c) (hwin : (s.cp c).entryWin = none) :
    exec (.entryTakeover c0) s = .next s := by
  subst hlead
  show execEntryTakeover c0 s = _
  simp only [execEntryTakeover, hwin]

theorem interruptResults : Sys2Proof.Clauses.InterruptResults := by
  intro s c0 c n q hlead
  refine ⟨fun hgo hrun hstall => ⟨interruptAccept_takes hlead hgo hrun hstall, interruptAccept_none hlead⟩, fun w hwin htop hn hne hvec => ?_,
    entryTakeover_none hlead⟩
  refine ⟨_, entryTakeover_takes hlead hwin htop hvec, ?_, ?_, ?_, rfl, fun e he => cp_modCp_ne s _ he⟩
  · rw [cp_modCp]
    exact bitOf_setBitOf_self _ false hn
  · rw [cp_modCp]
    exact (bitOf_setBitOf_ne _ false hne.symm).trans (bitOf_setBitOf_self _ true w.irq.isLt)
  · rw [cp_modCp]
    rfl

/-- Settles O24: the entry and the takeover of an interrupt, and the search for the one that is accepted. -/
theorem interruptDeliveryResults : Obligations.InterruptDeliveryResults := ⟨interruptResults, highestPriorityInterrupt⟩

end Sys2Proof.Machine
end

section
/-! SUPPORT. The shed ladder (R504 to R511) and deep sleep (R512, R513, R607), and the sparse maps at reset. -/

namespace Sys2Proof.Machine

/-! ### The sparse maps at reset -/

/-- Settles O58: at reset every sparse map lists nothing, and a Twin side keeps no image. -/
theorem resetIsCanonical : Obligations.ResetIsCanonical :=
  ⟨(State.canonical_iff _).mpr ⟨rfl, rfl, rfl, rfl, rfl, rfl⟩, rfl⟩

/-! ### The shed level (R504 to R509) -/

theorem exec_shedLevelRise (s : State) : exec .shedLevelRise s = .next s.shedRise := rfl

theorem exec_shedLevelFall (s : State) : exec .shedLevelFall s = execShedLevelFall s := rfl

theorem exec_finalCheckpointAbandon (s : State) : exec .finalCheckpointAbandon s = execFinalCheckpointAbandon s := rfl

theorem exec_shedFloorWrite (level : BitVec 3) (s : State) : exec (.shedFloorWrite level) s = .next (s.setFloor level.toNat) := rfl

theorem exec_monitorSample (m : MonSample) (s : State) : exec (.monitorSample m) s = execMonitorSample m s := rfl

@[simp] theorem topDemand_modE (s : State) (f : EvtSt → EvtSt) : (s.modE f).topDemand = s.topDemand := rfl

@[simp] theorem shed_modE (s : State) (f : EvtSt → EvtSt) : (s.modE f).shed = s.shed := rfl

theorem settleShed_stays {s : State} (h : s.topDemand ≤ s.shed) : s.settleShed = s := by
  simp only [State.settleShed, if_pos h]

theorem settleShed_rises {s : State} (h : s.shed < s.topDemand) (hrun : s.sec.sys = .run) : s.settleShed = s.shedTo s.topDemand false := by
  simp only [State.settleShed, if_neg (Nat.not_le.mpr h), if_pos hrun]

/-- Where no event asks for a level of its own, the level settles on the demands as they stand. -/
theorem shedRise_unasked {s : State} (h : s.evt.shedReq = 0) : s.shedRise = (s.modE (fun e => { e with shedReq := 0 })).settleShed := by
  simp [State.shedRise, h]

section
variable {s : State} (hasks : s.evt.shedReq = 0)
include hasks

theorem shedLevelRise_stays (h : s.topDemand ≤ s.shed) : exec .shedLevelRise s = .next (s.modE (fun e => { e with shedReq := 0 })) := by
  rw [exec_shedLevelRise, shedRise_unasked hasks, settleShed_stays (s := s.modE _) h]

theorem shedLevelRise_rises (h : s.shed < s.topDemand) (hrun : s.sec.sys = .run) :
    exec .shedLevelRise s = .next ((s.modE (fun e => { e with shedReq := 0 })).shedTo s.topDemand false) := by
  rw [exec_shedLevelRise, shedRise_unasked hasks, settleShed_rises (s := s.modE _) h hrun, topDemand_modE]

end

/-- Level 6 is left only when the last checkpoint is over (R509, R511). -/
theorem shedLevelFall_falls {s : State} (h0 : s.shed ≠ 0) (h7 : s.shed ≠ 7) (hrun : s.sec.sys = .run) (hret : s.returns s.shed = true)
    (hfinal : s.shed = 6 → s.pwr.final = false) : exec .shedLevelFall s = .next (s.shedTo (s.shed - 1) false) := by
  have hsteps : ¬ (s.shed = 6 ∧ s.pwr.final = true) := fun ⟨h6, hf⟩ => by simp [hfinal h6] at hf
  simp [exec_shedLevelFall, execShedLevelFall, h0, h7, hrun, hret, hsteps]

theorem shedLevelFall_stays {s : State} (h : s.shed = 0 ∨ s.shed = 7 ∨ s.sec.sys ≠ .run) : exec .shedLevelFall s = .next s := by
  rw [exec_shedLevelFall, execShedLevelFall, if_pos]
  obtain h0 | h7 | hrun := h
  · exact .inl h0
  · exact .inr (.inl h7)
  · exact .inr (.inr (.inl hrun))

theorem finalCheckpointAbandon_pending {s : State} (h : s.pwr.final = true) : exec .finalCheckpointAbandon s = .next
    (((s.modPwr (fun w => { w with final := false })).dropShip.modPair (fun p => { p with due := false })).signalFailover) := by
  rw [exec_finalCheckpointAbandon, execFinalCheckpointAbandon, if_pos h]

theorem finalCheckpointAbandon_none {s : State} (h : s.pwr.final = false) : exec .finalCheckpointAbandon s = .next s := by
  rw [exec_finalCheckpointAbandon, execFinalCheckpointAbandon, if_neg (Bool.eq_false_iff.mp h)]

theorem monitorSample_taken {s : State} (m : MonSample) (h : s.sec.sys = .configure ∨ s.sec.sys = .run ∨ s.sec.sys = .sleep) :
    exec (.monitorSample m) s = .next (s.monitor m) := by
  rw [exec_monitorSample, execMonitorSample, if_pos h]

theorem monitorSample_early {s : State} (m : MonSample) (h : s.sec.sys = .boot ∨ s.sec.sys = .standby) :
    exec (.monitorSample m) s = .next s := by
  rw [exec_monitorSample, execMonitorSample, if_neg]
  obtain h | h := h <;> simp [h]

/-! ### A sleep request (R512) -/

theorem exec_sleepRequest (ret : Bool) (s : State) : exec (.sleepRequest ret) s = .next (s.wrB PWR_SLEEP.SRAM_RET ret).sleepReq := rfl

/-- What bars sleep and what asks the partner stand in other registers than PWR_SLEEP. -/
theorem sleepBar_wr (s : State) {f : Fld} (hf : f.adr = PWR_SLEEP.adr) (v : Nat) : (s.wr f v).sleepBar = s.sleepBar := by
  have hshed : (s.wr f v).shed = s.shed := rd_wr_ne s v (by rw [hf]; decide)
  have hlive : (s.wr f v).rd STRUCT_LIVE.STATE = s.rd STRUCT_LIVE.STATE := rd_wr_ne s v (by rw [hf]; decide)
  have hupd : (s.wr f v).rd UPD_STAT.STATE = s.rd UPD_STAT.STATE := rd_wr_ne s v (by rw [hf]; decide)
  rw [State.sleepBar, hshed, hlive, hupd, State.sleepBar]

theorem pstate_wr (s : State) {f : Fld} (hf : f.adr = PWR_SLEEP.adr) (v : Nat) : (s.wr f v).pstate = s.pstate :=
  rd_wr_ne s v (by rw [hf]; decide)

/-- SRAM_RET lies beside STATE. -/
theorem sleepState_wrB_sramRet (s : State) (ret : Bool) : (s.wrB PWR_SLEEP.SRAM_RET ret).rd PWR_SLEEP.STATE = s.rd PWR_SLEEP.STATE :=
  rd_wr_beside s _ rfl (.inl (show 1 + 1 ≤ 8 by decide))

theorem sleepBar_shed {s : State} (h : 6 ≤ s.shed) : s.sleepBar = 1 := if_pos h

theorem sleepBar_none {s : State} (hshed : s.shed < 6) (hlive : s.rd STRUCT_LIVE.STATE ≠ 1) (hupd : s.rd UPD_STAT.STATE ≠ 5) : s.sleepBar = 0 := by
  simp only [State.sleepBar, if_neg (Nat.not_le.mpr hshed), if_neg hlive, if_neg hupd]

section
variable {s : State} (hrun : s.sec.sys = .run) (hidle : s.rd PWR_SLEEP.STATE ≠ 1)
include hrun hidle

theorem sleepReq_refused (h : s.sleepBar ≠ 0) : s.sleepReq = s.sleepRefuse s.sleepBar := by
  simp [State.sleepReq, hrun, hidle, h]

/-- A side that is not in sync asks nobody: entry begins. -/
theorem sleepReq_begins (h : s.sleepBar = 0) (halone : s.pstate ≠ 3) : s.sleepReq =
    (((s.wr PWR_SLEEP.STATE 1).wr PWR_SLEEP.RESULT 0).wr PWR_SLEEP.REQ 1).modPwr (fun w => { w with agreed := true }) := by
  have hp : (((s.wr PWR_SLEEP.STATE 1).wr PWR_SLEEP.RESULT 0).wr PWR_SLEEP.REQ 1).pstate ≠ 3 := by
    rwa [pstate_wr (f := PWR_SLEEP.REQ) _ rfl, pstate_wr (f := PWR_SLEEP.RESULT) _ rfl, pstate_wr (f := PWR_SLEEP.STATE) _ rfl]
  have hbusy : ¬ (s.sec.sys ≠ .run ∨ s.rd PWR_SLEEP.STATE = 1) := fun hb => hb.elim (· hrun) hidle
  simp only [State.sleepReq, if_neg hbusy, h, ne_eq, not_true_eq_false, if_false]
  exact if_pos (.inl hp)

theorem sleepRequest_refused (ret : Bool) (h : 6 ≤ s.shed) : exec (.sleepRequest ret) s = .next ((s.wrB PWR_SLEEP.SRAM_RET ret).sleepRefuse 1) := by
  have hbar : (s.wrB PWR_SLEEP.SRAM_RET ret).sleepBar = 1 := (sleepBar_wr s rfl _).trans (sleepBar_shed h)
  rw [exec_sleepRequest, sleepReq_refused (s := s.wrB PWR_SLEEP.SRAM_RET ret) hrun (by rwa [sleepState_wrB_sramRet]) (by rw [hbar]; decide), hbar]

theorem sleepRequest_begins (ret : Bool) (hshed : s.shed < 6) (hlive : s.rd STRUCT_LIVE.STATE ≠ 1) (hupd : s.rd UPD_STAT.STATE ≠ 5)
    (halone : s.rd PAIR_STAT.STATE ≠ 3) : exec (.sleepRequest ret) s = .next
      (((((s.wrB PWR_SLEEP.SRAM_RET ret).wr PWR_SLEEP.STATE 1).wr PWR_SLEEP.RESULT 0).wr PWR_SLEEP.REQ 1).modPwr
        (fun w => { w with agreed := true })) := by
  have hbar : (s.wrB PWR_SLEEP.SRAM_RET ret).sleepBar = 0 := (sleepBar_wr s rfl _).trans (sleepBar_none hshed hlive hupd)
  have hp : (s.wrB PWR_SLEEP.SRAM_RET ret).pstate ≠ 3 := (pstate_wr s rfl _).trans_ne halone
  rw [exec_sleepRequest, sleepReq_begins (s := s.wrB PWR_SLEEP.SRAM_RET ret) hrun (by rwa [sleepState_wrB_sramRet]) hbar hp]

end

/-! ### Self-refresh and darkness (R344, R512) -/

/-- Entry to self-refresh writes SELFREF of each stack and channel, and nothing else. -/
theorem selfRefresh_on_keeps {β : Type} (φ : State → β) (hn : ∀ s (n : Fin 16), φ (s.wrB (NM_STAT.SELFREF n) true) = φ s)
    (hc : ∀ s (n : Fin 8), φ (s.wrB (CC_STAT.SELFREF n) true) = φ s) (s : State) : φ (s.selfRefresh true) = φ s :=
  (foldl_keeps φ hc _ _).trans (foldl_keeps φ hn _ _)

@[simp] theorem selfRefresh_on_sec (s : State) : (s.selfRefresh true).sec = s.sec :=
  selfRefresh_on_keeps State.sec (fun s _ => s.wrB_sec _ _) (fun s _ => s.wrB_sec _ _) s

@[simp] theorem selfRefresh_on_pwr (s : State) : (s.selfRefresh true).pwr = s.pwr :=
  selfRefresh_on_keeps State.pwr (fun s _ => s.wrB_pwr _ _) (fun s _ => s.wrB_pwr _ _) s

@[simp] theorem selfRefresh_on_mem (s : State) : (s.selfRefresh true).mem = s.mem :=
  selfRefresh_on_keeps State.mem (fun s _ => s.wrB_mem _ _) (fun s _ => s.wrB_mem _ _) s

@[simp] theorem selfRefresh_on_cps (s : State) : (s.selfRefresh true).cps = s.cps :=
  selfRefresh_on_keeps State.cps (fun s _ => s.wrB_cps _ _) (fun s _ => s.wrB_cps _ _) s

theorem nmStat_adr_inj {i k : Fin 16} (h : i ≠ k) : NM_STAT.adr i ≠ NM_STAT.adr k := by
  have : i.val ≠ k.val := fun e => h (Fin.ext e)
  unfold NM_STAT.adr
  omega

theorem nmStat_ne_ccStat (i : Fin 16) (k : Fin 8) : NM_STAT.adr i ≠ CC_STAT.adr k := by
  unfold NM_STAT.adr CC_STAT.adr
  omega

@[simp] theorem rdB_modE (s : State) (f : EvtSt → EvtSt) (g : Fld) : (s.modE f).rdB g = s.rdB g := rfl

/-- PWR_SLEEP lies past the registers of the stacks and channels. -/
theorem sramRet_selfRefresh_on (s : State) : (s.selfRefresh true).rdB PWR_SLEEP.SRAM_RET = s.rdB PWR_SLEEP.SRAM_RET := by
  refine selfRefresh_on_keeps (State.rdB · PWR_SLEEP.SRAM_RET) (fun s n => rdB_wr_ne s _ ?_) (fun s n => rdB_wr_ne s _ ?_) s
  · simp only [PWR_SLEEP.SRAM_RET, PWR_SLEEP.adr, NM_STAT.SELFREF, NM_STAT.adr]
    omega
  · simp only [PWR_SLEEP.SRAM_RET, PWR_SLEEP.adr, CC_STAT.SELFREF, CC_STAT.adr]
    omega

/-- Each stack is written once with a one, and no channel lies at its register. -/
theorem nearSelfRef_selfRefresh_on (s : State) (n : Fin 16) : (s.selfRefresh true).rdB (NM_STAT.SELFREF n) = true := by
  have hbit (s : State) : (s.wrB (NM_STAT.SELFREF n) true).rdB (NM_STAT.SELFREF n) = true :=
    rdB_wrB_self s rfl (show (1 : Nat) < 64 by decide) true
  have hother (s : State) (k : Fin 16) (h : n ≠ k) : (s.wrB (NM_STAT.SELFREF k) true).rdB (NM_STAT.SELFREF n) = s.rdB (NM_STAT.SELFREF n) :=
    rdB_wr_ne s _ (nmStat_adr_inj h)
  have hchan (s : State) (k : Fin 8) : (s.wrB (CC_STAT.SELFREF k) true).rdB (NM_STAT.SELFREF n) = s.rdB (NM_STAT.SELFREF n) :=
    rdB_wr_ne s _ (nmStat_ne_ccStat n k)
  exact (foldl_keeps (State.rdB · (NM_STAT.SELFREF n)) hchan _ _).trans (foldl_changes_at (State.rdB · (NM_STAT.SELFREF n)) (g := fun _ => true)
    (List.mem_finRange n) (List.nodup_finRange 16) hother hbit s)

/-- The part in darkness reads as in self-refresh, whether SRAM_RET keeps the CPs and the scratchpad or not. -/
theorem darken_keeps {β : Type} (φ : State → β) (hdark : ∀ s, φ (s.modE (fun e => { e with dark := true })) = φ s)
    (hlost : ∀ s cps mst mem tags errs, φ { s with cps := cps, mst := mst, mem := mem, tags := tags, errs := errs } = φ s) (s : State) :
    φ s.darken = φ (s.selfRefresh true) :=
  ite_keeps φ (hdark _) ((hlost _ _ _ _ _ _).trans (hdark _))

@[simp] theorem darken_sec (s : State) : s.darken.sec = s.sec :=
  (darken_keeps State.sec (fun _ => rfl) (fun _ _ _ _ _ _ => rfl) s).trans (selfRefresh_on_sec s)

@[simp] theorem darken_pwr (s : State) : s.darken.pwr = s.pwr :=
  (darken_keeps State.pwr (fun _ => rfl) (fun _ _ _ _ _ _ => rfl) s).trans (selfRefresh_on_pwr s)

theorem darken_dark (s : State) : s.darken.evt.dark = true := ite_keeps (fun s : State => s.evt.dark) rfl rfl

theorem nearSelfRef_darken (s : State) (n : Fin 16) : s.darken.rdB (NM_STAT.SELFREF n) = true :=
  (darken_keeps (State.rdB · (NM_STAT.SELFREF n)) (fun _ => rfl) (fun _ _ _ _ _ _ => rfl) s).trans (nearSelfRef_selfRefresh_on s n)

theorem darken_sramRet {s : State} (h : s.rdB PWR_SLEEP.SRAM_RET = true) : s.darken = (s.selfRefresh true).modE (fun e => { e with dark := true }) := by
  have hret : ((s.selfRefresh true).modE (fun e => { e with dark := true })).rdB PWR_SLEEP.SRAM_RET = true := by
    rw [rdB_modE, sramRet_selfRefresh_on, h]
  simp only [State.darken, if_pos hret]

/-! ### Entry to SLEEP (R512, R607) -/

/-- The part in SLEEP, emulated or not, its rails still on. -/
def State.toSleep (s : State) (emu : Bool) : State :=
  (((s.wr PWR_SLEEP.STATE 0).wr SYS_STATE.LAST 4).modSec (fun e => { e with sys := .sleep })).modPwr (fun w => { w with emu := emu })

/-- The part has entered SLEEP from a state whose queues have stopped; a wake event that came meanwhile still waits. -/
def State.slept (s : State) : State :=
  if s.rdB SEC_STAT.DBG_ATTACHED then s.toSleep true else (s.toSleep false).darken

theorem exec_sleepEntryComplete (s : State) : exec .sleepEntryComplete s = execSleepEntryComplete s := rfl

theorem sleepEntryComplete_idle {s : State} (h : s.entering = false) : exec .sleepEntryComplete s = .next s := by
  simp [exec_sleepEntryComplete, execSleepEntryComplete, h]

/-- With its conditions met, entry ends in SLEEP, and a wake event that waits reverses it at once (R513). -/
theorem sleepEntryComplete_enters {s : State} (hrun : s.sec.sys = .run) (hent : s.entering = true) (hcut : s.cutReady = true) :
    exec .sleepEntryComplete s =
      .next (if s.queuesStop.slept.pwr.wakeLatch then s.queuesStop.slept.wakeUp else s.queuesStop.slept) := by
  have hready : ¬ (s.sec.sys ≠ .run ∨ (!s.entering) = true ∨ (!s.cutReady) = true) := by simp [hrun, hent, hcut]
  rw [exec_sleepEntryComplete, execSleepEntryComplete, if_neg hready]
  cases h : s.queuesStop.rdB SEC_STAT.DBG_ATTACHED <;> simp only [State.slept, h, if_true, Bool.false_eq_true, if_false] <;> rfl

theorem slept_attached {s : State} (h : s.rdB SEC_STAT.DBG_ATTACHED = true) : s.slept = s.toSleep true := if_pos h

theorem slept_detached {s : State} (h : s.rdB SEC_STAT.DBG_ATTACHED = false) : s.slept = (s.toSleep false).darken :=
  if_neg (Bool.eq_false_iff.mp h)

theorem sleepState_toSleep (s : State) (emu : Bool) : (s.toSleep emu).rd PWR_SLEEP.STATE = 0 :=
  (rd_wr_ne (f := SYS_STATE.LAST) (g := PWR_SLEEP.STATE) (s.wr PWR_SLEEP.STATE 0) 4 (by decide)).trans
    (rd_wr_self s (f := PWR_SLEEP.STATE) (by decide) (by decide))

/-- SRAM_RET lies beside STATE, and SYS_STATE is another register. -/
theorem sramRet_toSleep (s : State) (emu : Bool) : (s.toSleep emu).rdB PWR_SLEEP.SRAM_RET = s.rdB PWR_SLEEP.SRAM_RET :=
  (rdB_wr_ne (f := SYS_STATE.LAST) (g := PWR_SLEEP.SRAM_RET) (s.wr PWR_SLEEP.STATE 0) 4 (by decide)).trans
    (rdB_wr_beside (f := PWR_SLEEP.STATE) (g := PWR_SLEEP.SRAM_RET) s 0 rfl (.inr (by decide)))

theorem slept_latch (s : State) : s.slept.pwr.wakeLatch = s.pwr.wakeLatch :=
  ite_keeps (fun s : State => s.pwr.wakeLatch) rfl (by rw [darken_pwr]; rfl)

/-- Entry while a debugger is attached is emulated: memory stays as it is. -/
theorem slept_emulated {s : State} (h : s.rdB SEC_STAT.DBG_ATTACHED = true) :
    s.slept.sec.sys = .sleep ∧ s.slept.pwr.emu = true ∧ s.slept.rd PWR_SLEEP.STATE = 0 ∧ s.slept.mem = s.mem := by
  rw [slept_attached h]
  exact ⟨rfl, rfl, sleepState_toSleep s true, rfl⟩

/-- Entry without a debugger darkens the part; SRAM_RET keeps memory and the CPs. -/
theorem slept_dark {s : State} (h : s.rdB SEC_STAT.DBG_ATTACHED = false) :
    s.slept.sec.sys = .sleep ∧ s.slept.pwr.emu = false ∧ s.slept.evt.dark = true ∧ (∀ n : Fin 16, s.slept.rdB (NM_STAT.SELFREF n) = true) ∧
      (s.rdB PWR_SLEEP.SRAM_RET = true → s.slept.mem = s.mem ∧ s.slept.cps = s.cps) := by
  rw [slept_detached h]
  refine ⟨by rw [darken_sec]; rfl, by rw [darken_pwr]; rfl, darken_dark _, nearSelfRef_darken _, fun hret => ?_⟩
  rw [darken_sramRet ((sramRet_toSleep s false).trans hret), State.modE_mem, State.modE_cps, selfRefresh_on_mem, selfRefresh_on_cps]
  exact ⟨rfl, rfl⟩

/-- A wake event that does not wait leaves the part in SLEEP. -/
theorem sleepEntryComplete_sleeps {s : State} (hrun : s.sec.sys = .run) (hent : s.entering = true) (hcut : s.cutReady = true) {P : State → Prop}
    {q : Prop} (h : q → P s.queuesStop.slept) : ∃ t, exec .sleepEntryComplete s = .next t ∧ (s.queuesStop.pwr.wakeLatch = false → q → P t) := by
  refine ⟨_, sleepEntryComplete_enters hrun hent hcut, fun hlatch hq => ?_⟩
  rw [slept_latch, hlatch, if_neg Bool.false_ne_true]
  exact h hq

/-! ### Wake sources (R513) -/

theorem exec_wake (s : State) : exec .wake s = .next s.wakeEvent := rfl

theorem exec_wakeTimerExpiry (s : State) : exec .wakeTimerExpiry s = execWakeTimerExpiry s := rfl

theorem wakeEvent_asleep {s : State} (h : s.sec.sys = .sleep) : s.wakeEvent = (s.modE (fun e => { e with wakeReq := false })).wakeUp := if_pos h

section
variable {s : State} (hrun : s.sec.sys = .run)
include hrun

theorem wakeEvent_awake : s.wakeEvent = if s.rd PWR_SLEEP.STATE = 1 then
      (s.modE (fun e => { e with wakeReq := false })).modPwr (fun w => { w with wakeLatch := true })
    else s.modE (fun e => { e with wakeReq := false }) :=
  if_neg (show s.sec.sys ≠ .sleep by simp [hrun])

theorem wakeTimerExpiry_awake : exec .wakeTimerExpiry s = .next s := by
  simp [exec_wakeTimerExpiry, execWakeTimerExpiry, hrun]

end

theorem wakeTimerExpiry_asleep {s : State} (h : s.sec.sys = .sleep) (hms : s.rd PWR_WAKETMR.MS ≠ 0) :
    exec .wakeTimerExpiry s = .next (s.fire 0x270).wakeEvent := by
  rw [exec_wakeTimerExpiry, execWakeTimerExpiry, if_pos ⟨h, hms⟩]

/-- Settles O49: each clause is the lemma of its command. -/
theorem shedAndSleepResults : Obligations.ShedAndSleepResults := by
  intro s m level ret
  refine ⟨shedLevelRise_stays, shedLevelRise_rises, shedLevelFall_falls, shedLevelFall_stays, finalCheckpointAbandon_pending,
    finalCheckpointAbandon_none, exec_shedFloorWrite level s, monitorSample_taken m, monitorSample_early m,
    fun hrun hidle => ⟨sleepRequest_refused hrun hidle ret, sleepRequest_begins hrun hidle ret⟩, sleepEntryComplete_idle,
    fun hrun hent hcut _ _ => sleepEntryComplete_sleeps hrun hent hcut slept_emulated,
    fun hrun hent hcut _ => sleepEntryComplete_sleeps hrun hent hcut slept_dark, fun h => ?_, fun hrun hst => ?_, fun hrun hst => ?_,
    wakeTimerExpiry_asleep, wakeTimerExpiry_awake⟩
  · rw [exec_wake, wakeEvent_asleep h]
  · rw [exec_wake, wakeEvent_awake hrun, if_pos hst]
  · rw [exec_wake, wakeEvent_awake hrun, if_neg hst]

end Sys2Proof.Machine
end

section
/-! SUPPORT. A KWT request at RX_NEXT: its way to stage 4, and what stage 4 does (R450 to R456). -/

namespace Sys2Proof.Machine

/-! ### The commands of datagrams -/

theorem exec_kwtOpen (f : KwtFrame) (s : State) : exec (.kwtOpen f) s = .next (s.kwtRx { f with op := 0x10 }) := rfl

theorem exec_kwtClose (f : KwtFrame) (s : State) : exec (.kwtClose f) s = .next (s.kwtRx { f with op := 0x11 }) := rfl

theorem exec_kwtWrite (f : KwtFrame) (s : State) : exec (.kwtWrite f) s = .next (s.kwtRx { f with op := 1 }) := rfl

theorem exec_kwtRead (f : KwtFrame) (s : State) : exec (.kwtRead f) s = .next (s.kwtRx { f with op := 2 }) := rfl

theorem exec_kwtSubmit (f : KwtFrame) (s : State) : exec (.kwtSubmit f) s = .next (s.kwtRx { f with op := 3 }) := rfl

theorem exec_kwtMgmt (f : KwtFrame) (s : State) : exec (.kwtMgmt f) s = .next (s.kwtRx { f with op := 5 }) := rfl

theorem exec_kwtUpdate (f : KwtFrame) (s : State) : exec (.kwtUpdate f) s = .next (s.kwtRx { f with op := 6 }) := rfl

theorem exec_kwtAck (f : KwtFrame) (s : State) : exec (.kwtAck f) s = .next (s.kwtRx { f with op := 0x12 }) := rfl

theorem kwtRx_awake {s : State} {f : KwtFrame} (hp : s.portHears f.port = true) (ha : s.asleep = false) :
    s.kwtRx f = s.kwtIn netHooks f := by
  simp [State.kwtRx, hp, ha]

theorem kwtRx_unheard {s : State} {f : KwtFrame} (hp : s.portHears f.port = false) : s.kwtRx f = s := by
  simp [State.kwtRx, hp]

/-! ### A session after a change -/

@[simp] theorem ses_modSes (s : State) (n : Nat) (g : Sess → Sess) : (s.modSes n g).ses n = g (s.ses n) := by
  simp [State.ses, State.modSes, mapGet_put]

@[simp] theorem sessState_modSes (s : State) (n m : Nat) (g : Sess → Sess) : (s.modSes n g).sessState m = s.sessState m := rfl

@[simp] theorem sessFrozen_modSes (s : State) (n m : Nat) (g : Sess → Sess) : (s.modSes n g).sessFrozen m = s.sessFrozen m := rfl

@[simp] theorem rd_modSes (s : State) (n : Nat) (g : Sess → Sess) (x : Fld) : (s.modSes n g).rd x = s.rd x := rfl

/-! ### From its arrival to stage 4 -/

/-- The operations that take a SEQ (R446). -/
def kwtRequests : List Byte := [1, 2, 3, 5, 6, 0x11]

/-- Stage 3 of a frame whose stage 2 gave a status and a state (R454): the trailer, the copy of a Twin Leader, and what follows. -/
def State.stage3 (s : State) (h : NetHooks) (f : KwtFrame) (c : Byte × State) : State :=
  let i := if c.1 = 0 then c.2.inject 0x31 (c.2.rd INJ_SEL.INST) else (false, c.2)
  if c.1 = 0 ∧ (i.1 = true ∨ f.trailer ≠ trailerOf f.payload) then ((i.2.cntSat KWT_STAT.CRCFAIL 1).bucket 17 1).ack f.session.toNat
  else (if i.2.rd PAIR_STAT.ROLE = 3 ∧ 16 ≤ f.session.toNat then h.fwd i.2 f else i.2).acceptIn h f c.1 s.net.sent.length

section
variable {s : State} {f : KwtFrame} {h : NetHooks} (hs : s.hearsKwt f)
include hs

/-- The rules of sequence come before stage 2 (R451, R454). -/
theorem kwtIn_request (hop : f.op ∈ kwtRequests) : s.kwtIn h f =
    if 2 ^ 31 ≤ (f.seq - BitVec.ofNat 32 (s.rd (SESS_SEQ.RX_NEXT f.session.toNat))).toNat then (s.cnt KWT_DUP.DUP 1).ack f.session.toNat
    else if 64 ≤ (f.seq - BitVec.ofNat 32 (s.rd (SESS_SEQ.RX_NEXT f.session.toNat))).toNat then s.cntSat KWT_STAT.BADSEQ 1
    else s.stage3 h f (s.stage2 f) := by
  obtain ⟨-, -, hlen, hver, hn, hport, hopen⟩ := hs
  have hn' : ¬ 4096 ≤ f.session.toNat := by omega
  simp only [kwtRequests, List.mem_cons, List.not_mem_nil, or_false] at hop
  obtain e | e | e | e | e | e := hop <;> simp [State.kwtIn, State.stage3, hlen, hver, hn', hport, hopen, e]

/-- An ACK frame takes no SEQ and has no stage 2. -/
theorem kwtIn_ack (hop : f.op = 0x12) : s.kwtIn h f = s.stage3 h f (0, s) := by
  obtain ⟨-, -, hlen, hver, hn, hport, hopen⟩ := hs
  have hn' : ¬ 4096 ≤ f.session.toNat := by omega
  simp [State.kwtIn, State.stage3, hlen, hver, hn', hport, hopen, hop]

theorem kwtRx_heard : s.kwtRx f = s.kwtIn netHooks f := by
  obtain ⟨hp, ha, -⟩ := hs
  exact kwtRx_awake hp ha

end

theorem stage3_accepts {s : State} {h : NetHooks} {f : KwtFrame} {c : Byte × State}
    (hok : c.1 = 0 → f.trailer = trailerOf f.payload ∧ c.2.armed 0x31 (c.2.rd INJ_SEL.INST) = false)
    (hrole : c.2.rd PAIR_STAT.ROLE = 3 → f.session.toNat < 16) :
    s.stage3 h f c = c.2.acceptIn h f c.1 s.net.sent.length := by
  have hi : (if c.1 = 0 then c.2.inject 0x31 (c.2.rd INJ_SEL.INST) else (false, c.2)) = (false, c.2) :=
    ite_eq_right_iff.mpr fun h0 => inject_unarmed (hok h0).2
  have ht : ¬ (c.1 = 0 ∧ ((false : Bool) = true ∨ f.trailer ≠ trailerOf f.payload)) := fun ⟨h0, hor⟩ => by
    simp [(hok h0).1] at hor
  have hr : ¬ (c.2.rd PAIR_STAT.ROLE = 3 ∧ 16 ≤ f.session.toNat) := fun ⟨h3, h16⟩ => absurd (hrole h3) (by omega)
  rw [State.stage3, hi, if_neg ht, if_neg hr]

theorem stage3_badTrailer {s : State} {h : NetHooks} {f : KwtFrame} {t : State} (ht : f.trailer ≠ trailerOf f.payload)
    (ha : t.armed 0x31 (t.rd INJ_SEL.INST) = false) :
    s.stage3 h f (0, t) = ((t.cntSat KWT_STAT.CRCFAIL 1).bucket 17 1).ack f.session.toNat := by
  simp [State.stage3, inject_unarmed ha, ht]

/-! ### Stage 4 -/

/-- A request at RX_NEXT that stage 4 performs is no longer held, and the frames that follow it are performed (R451). -/
theorem runReqs_performs {h : NetHooks} {u w : State} {n k : Nat} {x : HeldFrame} (hopen : u.sessState n = 2) (hfrz : u.sessFrozen n = false)
    (hheld : (u.ses n).held.find? (fun y => y.f.seq == BitVec.ofNat 32 (u.rd (SESS_SEQ.RX_NEXT n))) = some x)
    (hp : u.perform h n x.f x.status = some w) : State.runReqs h n (k + 1) u =
      State.runReqs h n k (w.modSes n (fun y => { y with held := y.held.filter (fun z =>
        z.f.seq != BitVec.ofNat 32 (u.rd (SESS_SEQ.RX_NEXT n))) })) := by
  simp [State.runReqs, hopen, hfrz, hheld, hp]

theorem flushReads_none {s : State} {n : Nat} (h : (s.ses n).reads = []) : s.flushReads n = s := by
  simp [State.flushReads, h]

/-- The frame that joined the held ones is found where none of them has its SEQ. -/
theorem find?_concat_of_any_eq_false {α : Type} {p : α → Bool} {l : List α} {a : α} (hl : l.any p = false) (ha : p a = true) :
    (l ++ [a]).find? p = some a := by
  have hnone : l.find? p = none := List.find?_eq_none.mpr fun x hx hpx => by
    simp only [List.any_eq_false] at hl
    exact hl x hx hpx
  simp [List.find?_append, hnone, ha]

/-- The state in which a frame's sender and its ACK have been taken, where stage 2 passed it. -/
def State.senderTaken (c : State) (f : KwtFrame) (st : Byte) (sack : Word) : State :=
  if st = 0 then
    (c.modSes f.session.toNat (fun x => { x with peer := some ⟨f.port, f.sub, f.srcMac, f.srcIp, f.srcUdp⟩ })).hostAck f.session.toNat f.ack sack
  else c

theorem senderTaken_op (c : State) (f : KwtFrame) (op st : Byte) (sack : Word) :
    c.senderTaken { f with op := op } st sack = c.senderTaken f st sack := rfl

theorem kwtEnd_op (s : State) (n before : Nat) (f : KwtFrame) (op : Byte) : s.kwtEnd n before { f with op := op } = s.kwtEnd n before f := rfl

/-- A frame at RX_NEXT joins the held ones and is performed from there. -/
theorem acceptIn_request {h : NetHooks} {c : State} {f : KwtFrame} {st : Byte} {before : Nat} (hop : f.op ∈ kwtRequests)
    (hseq : f.seq = BitVec.ofNat 32 (c.rd (SESS_SEQ.RX_NEXT f.session.toNat)))
    (hheld : ((c.senderTaken f st 0).ses f.session.toNat).held.any (fun x => x.f.seq == f.seq) = false) :
    c.acceptIn h f st before = (State.runReqs h f.session.toNat 65 ((c.senderTaken f st 0).modSes f.session.toNat
      (fun x => { x with held := x.held ++ [⟨f, st⟩] }))).kwtEnd f.session.toNat before f := by
  have hne : f.op ≠ 0x12 := fun e => absurd (e ▸ hop) (by decide)
  have hd : (f.seq - BitVec.ofNat 32 (c.rd (SESS_SEQ.RX_NEXT f.session.toNat))).toNat = 0 := by simp [← hseq]
  unfold State.senderTaken at hheld ⊢
  simp only [State.acceptIn, if_neg hne, hheld, hd, Nat.lt_irrefl, false_and, if_false, Bool.false_eq_true, heldFuel]
  rfl

theorem acceptIn_ack {h : NetHooks} {c : State} {f : KwtFrame} {before : Nat} (hop : f.op = 0x12) :
    c.acceptIn h f 0 before = (c.senderTaken f 0 f.offset).kwtEnd f.session.toNat before f := by
  simp only [State.acceptIn, State.senderTaken, hop, if_true]
  rfl

section
variable {s u w : State} {f : KwtFrame} {st : Byte}

theorem State.kwtServes.reads_nil (hs : s.kwtServes f st u) : (u.ses f.session.toNat).reads = [] := by
  obtain ⟨-, -, c, -, -, -, -, -, -, hreads, -, -, rfl⟩ := hs
  rw [ses_modSes]
  exact hreads

/-- A request that reaches stage 4, and is performed there, is served. -/
theorem kwtRx_served (hop : f.op ∈ kwtRequests) (hs : s.kwtServes f st u) (hp : u.perform netHooks f.session.toNat f st = some w) :
    s.kwtRx f = s.kwtServed f w := by
  obtain ⟨hears, hseq, c, hc, hok, hrole, hseq', hopen, hfrz, -, hheld, hrx, hu⟩ := hs
  have hd : (f.seq - BitVec.ofNat 32 (s.rd (SESS_SEQ.RX_NEXT f.session.toNat))).toNat = 0 := by simp [← hseq]
  have hfind : (u.ses f.session.toNat).held.find? (fun y => y.f.seq == BitVec.ofNat 32 (u.rd (SESS_SEQ.RX_NEXT f.session.toNat))) =
      some ⟨f, st⟩ := by
    subst hu
    rw [ses_modSes, rd_modSes, ← hrx]
    exact find?_concat_of_any_eq_false hheld (by simp)
  have hseq4 : f.seq = BitVec.ofNat 32 (u.rd (SESS_SEQ.RX_NEXT f.session.toNat)) := by rw [hu]; exact hrx
  calc s.kwtRx f = s.stage3 netHooks f (st, c) := by
        rw [kwtRx_heard hears, kwtIn_request hears hop, hd, hc]
        rfl
    _ = c.acceptIn netHooks f st s.net.sent.length := stage3_accepts hok hrole
    _ = (State.runReqs netHooks f.session.toNat 65 u).kwtEnd f.session.toNat s.net.sent.length f := by
        rw [acceptIn_request hop hseq' hheld, hu]
        rfl
    _ = s.kwtServed f w := by
        rw [runReqs_performs (by rw [hu, sessState_modSes]; exact hopen) (by rw [hu, sessFrozen_modSes]; exact hfrz) hfind hp, ← hseq4]
        rfl

end

/-! ### What stage 4 does with a request -/

section
variable {h : NetHooks} {u w : State} {n : Nat} {f : KwtFrame} (hr : (u.ses n).reads = [])
include hr

theorem perform_refused {st : Byte} (hst : st ≠ 0) : u.perform h n f st = some ((u.advance n f).resp n 0 f.seq st 0 0 []) := by
  simp only [State.perform, flushReads_none hr, ite_self, if_pos hst]

theorem perform_write {sp : List (Nat × Nat)} (hop : f.op = 1)
    (hp : u.pages (u.engAccess ⟨(u.tokEnt (f.token.toNat % 2 ^ 16)).part.val % 16, by omega⟩ true)
      ((u.tokEnt (f.token.toNat % 2 ^ 16)).cursor + f.offset.toNat) f.len.toNat = (.ok sp, w)) :
    u.perform h n f 0 = some ((w.putSpans sp f.payload).advance n f) := by
  simp [State.perform, hop, flushReads_none hr, hp, -Nat.reducePow]

theorem perform_write_fault {code : Nat} {info : Word} (hop : f.op = 1)
    (hp : u.pages (u.engAccess ⟨(u.tokEnt (f.token.toNat % 2 ^ 16)).part.val % 16, by omega⟩ true)
      ((u.tokEnt (f.token.toNat % 2 ^ 16)).cursor + f.offset.toNat) f.len.toNat = (.fault code info, w)) :
    u.perform h n f 0 = some ((w.advance n f).resp n 0 f.seq stFault 0 0 []) := by
  simp [State.perform, hop, flushReads_none hr, hp, -Nat.reducePow]

theorem perform_read (hop : f.op = 2) : u.perform h n f 0 = some ((u.advance n f).modSes n (fun x => { x with
    reads := x.reads ++ [⟨f.seq, ⟨(u.tokEnt (f.token.toNat % 2 ^ 16)).part.val % 16, by omega⟩,
      (u.tokEnt (f.token.toNat % 2 ^ 16)).cursor + f.offset.toNat, f.arg.toNat, 0⟩] })) := by
  simp [State.perform, hop, flushReads_none hr]

theorem perform_submit (hop : f.op = 3) (hp : u.submit f = (some 0, w)) : u.perform h n f 0 = some ((w.advance n f).thresh f) := by
  simp [State.perform, hop, flushReads_none hr, hp]

theorem perform_cust (hop : f.op = 5 ∨ f.op = 6) : u.perform h n f 0 = some ((h.cust u f).after
    (((h.cust u f).s.advance n f).resp n 0 f.seq (h.cust u f).status (h.cust u f).fab 0 (h.cust u f).payload)) := by
  obtain e | e := hop
  · simp [State.perform, e, flushReads_none hr]
  · simp [State.perform, e, flushReads_none hr]

theorem perform_close (hop : f.op = 0x11) : u.perform h n f 0 = some (((u.advance n f).ack n).dropSes n 1) := by
  simp [State.perform, hop, hr]

end

/-- A SUBMIT whose checks pass fills the slot at HEAD, and HEAD advances (R467). -/
theorem submit_fills {u w : State} {f : KwtFrame} {p : PartId} {sp : List (Nat × Nat)} {q slots head log off : Nat} {ring : TokEnt}
    (hq : q = (u.tokEnt (f.token.toNat % 2 ^ 16)).qs.toNat) (hslots : slots = u.rd (QS_CFG.SLOTS_M1 q) + 1) (hhead : head = u.rd (QS_HEAD.HEAD q))
    (hlog : log = min 14 (max 8 (u.rd (QS_CFG.SLOTLOG q)))) (hring : ring = u.tokEnt (u.rd (QS_CFG.RING_IDX q))) (hoff : off = head % slots * 2 ^ log)
    (home : u.qsHome q = some p) (hdrain : bitOf (u.reg STRUCT_DRAIN.adr) p.val = false) (hen : u.rdB (QS_CTL.EN q) = true)
    (hlen : f.len.toNat + 32 ≤ 2 ^ log) (hroom : (head + 2 ^ 32 - u.rd (QS_TAIL.TAIL q)) % 2 ^ 32 < slots)
    (hchk : ring.check (BitVec.ofNat 8 (u.rd (QS_CFG.RING_GEN q))) 1 p none off (2 ^ log) true = 0)
    (hp : u.pages (u.engAccess p true) (ring.cursor + off) (u.slotBytes f).length = (.ok sp, w)) :
    u.submit f = (some 0, (w.putSpans sp (u.slotBytes f)).wr (QS_HEAD.HEAD q) ((head + 1) % 2 ^ 32)) := by
  subst hq hslots hhead hlog hring hoff
  have hlen' := Nat.not_lt.mpr hlen
  have hroom' := Nat.not_le.mpr hroom
  have hb : (0 : Byte) ≠ stBounds := by decide
  simp only [State.submit, home, hdrain, hen, gt_iff_lt, hlen', hroom', hchk, hp, hb]
  simp

end Sys2Proof.Machine
end

section
/-! SUPPORT. Requests of the transport in sequence (R450, R452, R456, R467). -/

namespace Sys2Proof.Machine

theorem next_of_served {s u w : State} {f : KwtFrame} {st op : Byte} (hop : op ∈ kwtRequests) (hs : s.kwtServes { f with op := op } st u)
    (hp : u.perform netHooks f.session.toNat { f with op := op } st = some w) :
    (.next (s.kwtRx { f with op := op }) : Out) = .next (s.kwtServed { f with op := op } w) :=
  congrArg Host.Outcome.next (kwtRx_served hop hs hp)

/-- Settles O38: a request that reaches stage 4 is served with what stage 4 does, operation by operation. -/
theorem kwtRequestResults : Obligations.KwtRequestResults := by
  intro s u w f st sp p n as_ e
  refine ⟨fun hst => ⟨fun hs => ?_, fun hs => ?_, fun hs => ?_⟩, fun hs hp => ?_, fun code info hs hp => ?_, fun hs => ?_, ?_,
    fun hs => ?_, fun hs => ?_, fun hs => ?_⟩
  · exact (exec_kwtWrite f s).trans (next_of_served (by decide) hs (perform_refused hs.reads_nil hst))
  · exact (exec_kwtRead f s).trans (next_of_served (by decide) hs (perform_refused hs.reads_nil hst))
  · exact (exec_kwtSubmit f s).trans (next_of_served (by decide) hs (perform_refused hs.reads_nil hst))
  · exact (exec_kwtWrite f s).trans (next_of_served (by decide) hs (perform_write hs.reads_nil rfl hp))
  · exact (exec_kwtWrite f s).trans (next_of_served (by decide) hs (perform_write_fault hs.reads_nil rfl hp))
  · exact (exec_kwtRead f s).trans (next_of_served (by decide) hs (perform_read hs.reads_nil rfl))
  · intro q slots head log ring off hs home hdrain hen hlen hroom hchk hp
    have hfill : u.submit (as_ 3) = _ := submit_fills rfl rfl rfl rfl rfl rfl home hdrain hen hlen hroom hchk hp
    exact (exec_kwtSubmit f s).trans (next_of_served (by decide) hs (perform_submit hs.reads_nil rfl hfill))
  · exact (exec_kwtMgmt f s).trans (next_of_served (by decide) hs (perform_cust hs.reads_nil (.inl rfl)))
  · exact (exec_kwtUpdate f s).trans (next_of_served (by decide) hs (perform_cust hs.reads_nil (.inr rfl)))
  · exact (exec_kwtClose f s).trans (next_of_served (by decide) hs (perform_close hs.reads_nil rfl))

end Sys2Proof.Machine
end

section
/-! SUPPORT. The sessions of the transport: OPEN, ACK, the rules of sequence and a session's own events (R450 to R456, R480). -/

namespace Sys2Proof.Machine

/-! ### OPEN, ACK and frames out of sequence -/

theorem kwtIn_open {s : State} {h : NetHooks} {f : KwtFrame} (hop : f.op = 0x10) (hpay : f.payload = []) (hlen : f.len = 0) (hver : f.ver = 1)
    (hn : f.session.toNat < 4096) (hport : s.sessPort f.session.toNat f.port.val = true) (hen : s.sessState f.session.toNat ≠ 0)
    (ht : f.trailer = 0) (hrole : s.rd PAIR_STAT.ROLE = 3 → f.session.toNat < 16) : s.kwtIn h f = s.openSes f.session.toNat f := by
  have hn' : ¬ 4096 ≤ f.session.toNat := by omega
  have hr : ¬ (s.rd PAIR_STAT.ROLE = 3 ∧ 16 ≤ f.session.toNat) := fun ⟨h3, h16⟩ => absurd (hrole h3) (by omega)
  simp [State.kwtIn, hpay, hlen, hver, hn', hport, hop, hen, ht, hr]

/-- A frame of a session that is not OPEN, but for OPEN, is counted; so is one that names none or whose form is wrong. -/
theorem kwtIn_unopened {s : State} {h : NetHooks} {f : KwtFrame} (hop : f.op ≠ 0x10) (hst : s.sessState f.session.toNat ≠ 2) :
    s.kwtIn h f = s.cntSat KWT_STAT.NOSESS 1 := by
  have hop' : f.op.toNat ≠ 0x10 := fun e => hop (BitVec.eq_of_toNat_eq e)
  simp [State.kwtIn, hop', hst]

section
variable {s : State} {f : KwtFrame}

theorem kwtAck_taken (hs : s.hearsKwt f) (ht : f.trailer = trailerOf f.payload) (ha : s.armed 0x31 (s.rd INJ_SEL.INST) = false)
    (hrole : s.rd PAIR_STAT.ROLE = 3 → f.session.toNat < 16) :
    exec (.kwtAck f) s = .next ((s.senderTaken f 0 f.offset).kwtEnd f.session.toNat s.net.sent.length f) := by
  have hs' : s.hearsKwt { f with op := 0x12 } := hs
  rw [exec_kwtAck, kwtRx_heard hs', kwtIn_ack hs' rfl, stage3_accepts (f := { f with op := 0x12 }) (c := (0, s)) (fun _ => ⟨ht, ha⟩) hrole,
    acceptIn_ack rfl, senderTaken_op, kwtEnd_op]

theorem kwtAck_badTrailer (hs : s.hearsKwt f) (ht : f.trailer ≠ trailerOf f.payload) (ha : s.armed 0x31 (s.rd INJ_SEL.INST) = false) :
    exec (.kwtAck f) s = .next (((s.cntSat KWT_STAT.CRCFAIL 1).bucket 17 1).ack f.session.toNat) := by
  have hs' : s.hearsKwt { f with op := 0x12 } := hs
  rw [exec_kwtAck, kwtRx_heard hs', kwtIn_ack hs' rfl, stage3_badTrailer (f := { f with op := 0x12 }) ht ha]

theorem kwtRx_duplicate (hs : s.hearsKwt f) (hop : f.op ∈ kwtRequests)
    (hd : 2 ^ 31 ≤ (f.seq - BitVec.ofNat 32 (s.rd (SESS_SEQ.RX_NEXT f.session.toNat))).toNat) :
    s.kwtRx f = (s.cnt KWT_DUP.DUP 1).ack f.session.toNat := by
  rw [kwtRx_heard hs, kwtIn_request hs hop, if_pos hd]

theorem kwtRx_beyond (hs : s.hearsKwt f) (hop : f.op ∈ kwtRequests)
    (hd : 64 ≤ (f.seq - BitVec.ofNat 32 (s.rd (SESS_SEQ.RX_NEXT f.session.toNat))).toNat)
    (hd' : (f.seq - BitVec.ofNat 32 (s.rd (SESS_SEQ.RX_NEXT f.session.toNat))).toNat < 2 ^ 31) :
    s.kwtRx f = s.cntSat KWT_STAT.BADSEQ 1 := by
  rw [kwtRx_heard hs, kwtIn_request hs hop, if_neg (Nat.not_le.mpr hd'), if_pos hd]

theorem kwtRx_unopened (hp : s.portHears f.port = true) (ha : s.asleep = false) (hop : f.op ≠ 0x10)
    (hst : s.sessState f.session.toNat ≠ 2) : s.kwtRx f = s.cntSat KWT_STAT.NOSESS 1 := by
  rw [kwtRx_awake hp ha, kwtIn_unopened hop hst]

end

theorem kwtSessionResults : Sys2Proof.Clauses.KwtSessionResults := by
  intro s f n d
  refine ⟨fun hp ha hpay hlen hver hn hport hen ht hrole => ?_, kwtAck_taken, kwtAck_badTrailer, fun hs hd => ⟨?_, ?_⟩,
    fun hs hd hd' => ⟨?_, ?_⟩, fun hp ha hst => ⟨?_, ?_⟩, fun hp => ⟨?_, ?_⟩⟩
  · rw [exec_kwtOpen, kwtRx_awake (f := { f with op := 0x10 }) hp ha, kwtIn_open (f := { f with op := 0x10 }) rfl hpay hlen hver hn hport hen ht hrole]
    rfl
  · rw [exec_kwtWrite, kwtRx_duplicate (f := { f with op := 1 }) hs (by decide : (1 : Byte) ∈ kwtRequests) hd]
  · rw [exec_kwtMgmt, kwtRx_duplicate (f := { f with op := 5 }) hs (by decide : (5 : Byte) ∈ kwtRequests) hd]
  · rw [exec_kwtRead, kwtRx_beyond (f := { f with op := 2 }) hs (by decide : (2 : Byte) ∈ kwtRequests) hd hd']
  · rw [exec_kwtUpdate, kwtRx_beyond (f := { f with op := 6 }) hs (by decide : (6 : Byte) ∈ kwtRequests) hd hd']
  · rw [exec_kwtClose, kwtRx_unopened (f := { f with op := 0x11 }) hp ha (by decide : (0x11 : Byte) ≠ 0x10) hst]
  · rw [exec_kwtSubmit, kwtRx_unopened (f := { f with op := 3 }) hp ha (by decide : (3 : Byte) ≠ 0x10) hst]
  · rw [exec_kwtWrite, kwtRx_unheard (f := { f with op := 1 }) hp]
  · rw [exec_kwtOpen, kwtRx_unheard (f := { f with op := 0x10 }) hp]

/-! ### A session's own events -/

theorem exec_sessionCloseComplete (n : SessId) (s : State) : exec (.sessionCloseComplete n) s =
    .next (if (s.ses n.val).closing ∧ (s.ses n.val).reads.isEmpty ∧ s.sessState n.val = 2 then (s.ack n.val).dropSes n.val 1 else s) := rfl

theorem exec_ackDelayExpiry (n : SessId) (s : State) : exec (.ackDelayExpiry n) s =
    .next (if s.sessState n.val = 2 ∧ (s.ses n.val).firstAt.isSome ∧ s.sec.sys ≠ .sleep ∧ s.shed < 7 then s.ack n.val else s) := rfl

theorem exec_retransmissionTimeout (n : SessId) (q : BitVec 32) (s : State) :
    exec (.retransmissionTimeout n q) s = execRetransmissionTimeout n q s := rfl

theorem exec_sessCtlWrite (n : SessId) (v : BitVec 2) (s : State) : exec (.sessCtlWrite n v) s = .next (s.sessCtl n.val v) := rfl

section
variable {s w x : State} {n : Nat} {j : ReadJob} {rest : List ReadJob} {sp : List (Nat × Nat)} {bs : List Byte}

theorem readPiece_none (hr : (s.ses n).reads = []) : s.readPiece n = s := by
  simp only [State.readPiece, hr]

section
variable (hr : (s.ses n).reads = j :: rest)
  (hp : s.pages (s.engAccess j.part false) (j.base + j.pos) (min 8192 (j.len - j.pos)) = (.ok sp, w))
include hr hp

/-- A piece without poison leaves as a RESP, and ends the READ where it is the last. -/
theorem readPiece_sends (hg : w.getSpans sp = (false, bs, x)) : s.readPiece n =
    if j.len ≤ j.pos + min 8192 (j.len - j.pos) then (x.modSes n (fun y => { y with reads := rest })).resp n 4 j.seq 0 0 j.pos bs
    else (x.modSes n (fun y => { y with reads := { j with pos := j.pos + min 8192 (j.len - j.pos) } :: rest })).resp n 0 j.seq 0 0 j.pos bs := by
  simp only [State.readPiece, hr, hp, hg, decide_eq_true_eq, Bool.false_eq_true, if_false]
  split <;> rfl

theorem readPiece_poisoned (hg : w.getSpans sp = (true, bs, x)) : s.readPiece n =
    (x.modSes n (fun y => { y with reads := rest })).resp n 0 j.seq stPoison 0 j.pos [] := by
  simp only [State.readPiece, hr, hp, hg, if_true]

end
end

section
variable {s : State} {n : SessId} {q : BitVec 32} {r : TxRec} (ht : s.sessTimed n.val = true)
  (hr : (s.ses n.val).out.find? (fun r => r.f.seq == q) = some r)
include ht hr

theorem retransmissionTimeout_breaks (h : s.rd KWT_CFG.RETRIES ≤ r.tries) :
    exec (.retransmissionTimeout n q) s = .next (s.dropSes n.val 3) := by
  simp only [exec_retransmissionTimeout, execRetransmissionTimeout, ht, hr, h, Bool.not_true, Bool.false_eq_true, if_false, if_true]

theorem retransmissionTimeout_resends (h : r.tries < s.rd KWT_CFG.RETRIES) : exec (.retransmissionTimeout n q) s = .next
    ((s.modSes n.val (fun y => { y with out := y.out.map (fun z => if z.f.seq = q then { z with tries := z.tries + 1, last := s.now } else z) })).emit
      n.val { r.f with flags := setBitOf r.f.flags 5 true }) := by
  simp only [exec_retransmissionTimeout, execRetransmissionTimeout, ht, hr, Nat.not_le.mpr h, Bool.not_true, Bool.false_eq_true, if_false]

end

/-- The registers SESS_CTL and SESS_STAT of a session lie apart. -/
theorem sessState_wr_ctl (s : State) (n : Nat) {f : Fld} (hf : f.adr = SESS_CTL.adr n) (v : Nat) : (s.wr f v).sessState n = s.sessState n :=
  rd_wr_ne s v (by rw [hf]; simp [SESS_STAT.STATE, SESS_STAT.adr, SESS_CTL.adr])

section
variable (s : State) {n : Nat} {v : BitVec 2}

theorem sessCtl_management (hn : n < 16) : s.sessCtl n v = s.wrB (SESS_CTL.OUTCOMMIT n) (bitOf v 1) := if_pos hn

theorem sessCtl_enables (hn : 16 ≤ n) (hv : bitOf v 0 = true) : s.sessCtl n v =
    if s.sessState n = 0 then ((s.wrB (SESS_CTL.OUTCOMMIT n) (bitOf v 1)).wr (SESS_CTL.EN n) 1).wr (SESS_STAT.STATE n) 1
    else (s.wrB (SESS_CTL.OUTCOMMIT n) (bitOf v 1)).wr (SESS_CTL.EN n) 1 := by
  have hst : ((s.wrB (SESS_CTL.OUTCOMMIT n) (bitOf v 1)).wr (SESS_CTL.EN n) 1).sessState n = s.sessState n :=
    (sessState_wr_ctl _ n rfl 1).trans (sessState_wr_ctl s n rfl _)
  simp only [State.sessCtl, if_neg (Nat.not_lt.mpr hn), hv, if_true, hst]

theorem sessCtl_disables (hn : 16 ≤ n) (hv : bitOf v 0 = false) : s.sessCtl n v =
    ((s.wrB (SESS_CTL.OUTCOMMIT n) (bitOf v 1)).wr (SESS_CTL.EN n) 0).dropSes n 0 := by
  simp only [State.sessCtl, if_neg (Nat.not_lt.mpr hn), hv, Bool.false_eq_true, if_false]

end

theorem kwtSessionEvents : Sys2Proof.Clauses.KwtSessionEvents := by
  intro s w n q v j rest sp bs x r
  refine ⟨fun hc hr ho => ?_, fun hc => ?_, fun hr hp hg => congrArg _ (readPiece_sends hr hp hg),
    fun hr hp hg => congrArg _ (readPiece_poisoned hr hp hg), fun hr => congrArg _ (readPiece_none hr), fun ho hf hs hl => ?_,
    fun ht hr => ⟨retransmissionTimeout_breaks ht hr, retransmissionTimeout_resends ht hr⟩, fun hn hv h0 => ?_, fun hn hv h0 => ?_,
    fun hn hv => congrArg _ (sessCtl_disables s hn hv), fun hn => congrArg _ (sessCtl_management s hn)⟩
  · rw [exec_sessionCloseComplete, if_pos ⟨hc, by rw [hr]; rfl, ho⟩]
  · rw [exec_sessionCloseComplete, if_neg (by simp [hc])]
  · rw [exec_ackDelayExpiry, if_pos ⟨ho, Option.isSome_iff_ne_none.mpr hf, hs, hl⟩]
  · rw [exec_sessCtlWrite, sessCtl_enables s hn hv, if_pos h0]
  · rw [exec_sessCtlWrite, sessCtl_enables s hn hv, if_neg h0]

/-- Settles O39: frames by the rules of sequence, and a session's own events one by one. -/
theorem transportSessionResults : Obligations.TransportSessionResults := ⟨kwtSessionResults, kwtSessionEvents⟩

end Sys2Proof.Machine
end

section
/-! SUPPORT. Tokens and NOTIFY (R459 to R461, R469). -/

namespace Sys2Proof.Machine

theorem exec_notifySend (qs : BitVec 8) (s : State) : exec (.notifySend qs) s = execNotifySend qs s := rfl

/-! ### BIND -/

/-- A BIND that is refused gives its RESULT. -/
def State.bindRefused (s : State) (tp : Fin 17) (r : Nat) : State := (s.wr (TOK_STAT.STATE tp) 3).wr (TOK_STAT.RESULT tp) r

/-- The lowest index that is free and whose GEN is not 0xFF, less one: index 0 is none (R459). -/
def State.freeToken (s : State) : Option Nat :=
  (List.range 65535).find? (fun i => let e := s.tokEnt (i + 1); !e.valid && e.gen != 0xFF)

/-- The entry that BIND makes at an index for a capability. -/
def State.boundEntry (s : State) (tp : Fin 17) (rights : Nat) (k : Cap) (i : Nat) : TokEnt :=
  ⟨true, (s.tokEnt i).gen, tp, BitVec.ofNat 3 rights, k.cursor, k.base, k.top,
   BitVec.ofNat 8 (64 * s.rd (TOK_CFG.PORT tp) + s.rd (TOK_CFG.QS tp)),
   if s.rdB (TOK_CFG.ANYSESS tp) then none else some (BitVec.ofNat 12 (s.rd (TOK_CFG.SESSION tp)))⟩

/-- BIND at an index: the entry is set and the token given (R461). -/
def State.bound (s : State) (tp : Fin 17) (rights : Nat) (k : Cap) (i : Nat) : State :=
  let tk := leNat (tokenBytes s.net.tokKey i (BitVec.ofNat 3 rights) (s.tokEnt i).gen)
  ((((s.setTok i (s.boundEntry tp rights k i)).wr (TOK_STAT.STATE tp) 2).wr (TOK_STAT.RESULT tp) 0).setReg (TOK_OUT.adr tp 0)
    (BitVec.ofNat 64 tk)).setReg (TOK_OUT.adr tp 1) (BitVec.ofNat 64 (tk / 2 ^ 64))

/-- A capability misses a right that BIND asks for. -/
def Cap.lacks (k : Cap) (rights : Nat) : Bool :=
  !k.has permNetwork || (rights % 2 == 1 && !k.has permR) || (decide (2 ≤ rights) && !k.has permW)

/-- BIND of a capability that has been read: the checks of R461 in their order. -/
def State.bindCap (s : State) (tp : Fin 17) (rights : Nat) (k : Cap) : State :=
  if !k.tag then s.bindRefused tp 1
  else if k.otype ≠ 0 then s.bindRefused tp 2
  else if k.lacks rights then s.bindRefused tp 3
  else match s.freeToken with
    | none => s.bindRefused tp 4
    | some i => s.bound tp rights k (i + 1)

/-- No partition has token port 16. -/
theorem tokBind_port16 (s : State) {tp : Fin 17} (h : tp.val = 16) : s.tokBind tp = s.bindRefused tp 5 := dif_neg (by omega)

section
variable {s u v w : State} {tp : Fin 17} {p : PartId} {key : Nat} {tag : Bool} (hp : tp.val = p.val)
  (ht : s.translate (s.engAccess p false) (s.rd (TOK_ADDR.ADDR tp)) = (.ok key, u))
include hp ht

theorem tokBind_unaligned (ha : s.rd (TOK_ADDR.ADDR tp) % 16 ≠ 0) : s.tokBind tp = u.bindRefused tp 5 := by
  have hlt : tp.val < 16 := hp ▸ p.isLt
  obtain rfl : p = ⟨tp.val, hlt⟩ := Fin.ext hp.symm
  simp only [State.tokBind, dif_pos hlt, ht, if_pos ha]
  rfl

theorem tokBind_reads (ha : s.rd (TOK_ADDR.ADDR tp) % 16 = 0) (hr : u.readBy none key 16 = (none, v)) (hg : v.readTag (key / 16) = (tag, w)) :
    s.tokBind tp = w.bindCap tp (s.rd (TOK_CFG.RIGHTS tp)) ⟨BitVec.ofNat 128 (leNat (w.bytesAt key 16)), tag⟩ := by
  have hlt : tp.val < 16 := hp ▸ p.isLt
  obtain rfl : p = ⟨tp.val, hlt⟩ := Fin.ext hp.symm
  cases hf : w.freeToken <;> unfold State.freeToken at hf <;>
    simp only [State.tokBind, dif_pos hlt, ht, ha, hr, hg, hf, ne_eq, not_true_eq_false, if_false, Option.isSome_none, Bool.false_eq_true,
      State.bindCap, State.bindRefused, Cap.lacks, State.freeToken, State.bound, State.boundEntry]

end

theorem lacks_iff {k : Cap} {rights : Nat} : k.lacks rights = true ↔
    k.has permNetwork = false ∨ (rights % 2 = 1 ∧ k.has permR = false) ∨ (2 ≤ rights ∧ k.has permW = false) := by
  simp [Cap.lacks, or_assoc]

/-- A capability with NETWORK and the rights asked for lacks none. -/
theorem lacks_eq_false {k : Cap} {rights : Nat} (hn : k.has permNetwork = true) (hr : rights % 2 = 1 → k.has permR = true)
    (hw : 2 ≤ rights → k.has permW = true) : k.lacks rights = false := by
  refine Bool.eq_false_iff.mpr fun h => ?_
  obtain h | ⟨h1, h⟩ | ⟨h2, h⟩ := lacks_iff.mp h
  · simp [hn] at h
  · simp [hr h1] at h
  · simp [hw h2] at h

section
variable {w : State} {tp : Fin 17} {rights : Nat} {k : Cap}

theorem bindCap_untagged (ht : k.tag = false) : w.bindCap tp rights k = w.bindRefused tp 1 := by
  simp [State.bindCap, ht]

variable (ht : k.tag = true)
include ht

theorem bindCap_sealed (ho : k.otype ≠ 0) : w.bindCap tp rights k = w.bindRefused tp 2 := by
  simp [State.bindCap, ht, ho]

variable (ho : k.otype = 0)
include ho

theorem bindCap_lacks (hl : k.lacks rights = true) : w.bindCap tp rights k = w.bindRefused tp 3 := by
  simp [State.bindCap, ht, ho, hl]

theorem bindCap_full (hl : k.lacks rights = false) (hf : w.freeToken = none) : w.bindCap tp rights k = w.bindRefused tp 4 := by
  simp [State.bindCap, ht, ho, hl, hf]

theorem bindCap_binds {i : Nat} (hl : k.lacks rights = false) (hf : w.freeToken = some i) :
    w.bindCap tp rights k = w.bound tp rights k (i + 1) := by
  simp [State.bindCap, ht, ho, hl, hf]

end

/-! ### NOTIFY -/

theorem notifyQueue_full {s : State} {qs : Nat} {arg : Word} (h : 16 ≤ (mapGet (fun _ => []) s.net.notify qs).length) :
    s.notifyQueue qs arg = s.wr (QS_CTL.NFULL qs) 1 := if_pos h

theorem notifyQueue_joins {s : State} {qs : Nat} {arg : Word} (h : (mapGet (fun _ => []) s.net.notify qs).length < 16) :
    s.notifyQueue qs arg = s.modN (fun e => { e with notify := mapPut (fun _ => []) e.notify qs (mapGet (fun _ => []) s.net.notify qs ++
      [⟨s.reg (QS_NOTIFY.adr qs 0), s.reg (QS_NOTIFY.adr qs 1), s.reg (QS_NOTIFY.adr qs 2), arg⟩]) }) := if_neg (Nat.not_le.mpr h)

/-- The oldest NOTIFY of a queue set has been taken, and the others wait. -/
def State.notifyTaken (s : State) (qs : Nat) (rest : List Desc) : State :=
  s.modN (fun e => { e with notify := mapPut (fun _ => []) e.notify qs rest })

/-- The status of the token check of a NOTIFY (R460, R469). -/
def State.notifyCheck (s : State) (p : PartId) (d : Desc) : Byte :=
  (s.tokEnt (nbits d.w0.toNat 0 16)).check (BitVec.ofNat 8 (nbits d.w0.toNat 16 8)) 0 p (some (nbits d.w0.toNat 24 16)) (nbits d.w1.toNat 0 48)
    (nbits d.w2.toNat 0 14) true

section
variable {s u x : State} {qs : BitVec 8} {d : Desc} {rest : List Desc} {p : PartId}
  (hq : mapGet (fun _ => []) s.net.notify qs.toNat = d :: rest) (home : s.qsHome qs.toNat = some p)
include hq home

theorem notifySend_badToken (hst : s.notifyCheck p d = stToken) : exec (.notifySend qs) s = .next
    (((s.notifyTaken qs.toNat rest).wr (QS_CTL.NERR qs.toNat) stToken.toNat).wr (QS_CTL.NERR_V qs.toNat) 1) := by
  have hst' : ((s.notifyTaken qs.toNat rest).notifyCheck p d) = stToken := hst
  unfold State.notifyTaken State.notifyCheck at *
  simp only [exec_notifySend, execNotifySend, hq, home, hst', if_true]

theorem notifySend_sends {port : Option Nat} {sp : List (Nat × Nat)} {bs : List Byte} (hst : s.notifyCheck p d = 0)
    (hs : s.sessHome (nbits d.w0.toNat 24 16) = some (p, port)) (hport : ∀ y, port = some y → y = qs.toNat / 64)
    (ho : s.sessState (nbits d.w0.toNat 24 16) = 2) (hlen : nbits d.w2.toNat 0 14 ≤ 8192)
    (hp : (s.notifyTaken qs.toNat rest).pages ((s.notifyTaken qs.toNat rest).engAccess p false)
      ((s.tokEnt (nbits d.w0.toNat 0 16)).cursor + nbits d.w1.toNat 0 48) (nbits d.w2.toNat 0 14) = (.ok sp, u))
    (hg : u.getSpans sp = (false, bs, x)) :
    exec (.notifySend qs) s = .next (x.sendSeq (nbits d.w0.toNat 24 16) 0x04 0 0 d.w3 bs) := by
  have hst' : ((s.notifyTaken qs.toNat rest).notifyCheck p d) = 0 := hst
  have hs' : (s.notifyTaken qs.toNat rest).sessHome (nbits d.w0.toNat 24 16) = some (p, port) := hs
  have ho' : (s.notifyTaken qs.toNat rest).sessState (nbits d.w0.toNat 24 16) = 2 := ho
  have hp' : (s.notifyTaken qs.toNat rest).pages ((s.notifyTaken qs.toNat rest).engAccess p false)
      (((s.notifyTaken qs.toNat rest).tokEnt (nbits d.w0.toNat 0 16)).cursor + nbits d.w1.toNat 0 48) (nbits d.w2.toNat 0 14) = (.ok sp, u) := hp
  have hne : ¬ 0#8 = stToken := by decide
  unfold State.notifyTaken State.notifyCheck at *
  cases port with
  | none => simp [exec_notifySend, execNotifySend, hq, home, hst', hs', ho', hp', hg, hne, Nat.not_lt.mpr hlen]
  | some y => simp [exec_notifySend, execNotifySend, hq, home, hst', hs', ho', hp', hg, hne, Nat.not_lt.mpr hlen, hport y rfl]

end

/-- Settles O40: a BIND by its checks in their order, UNBIND, and a NOTIFY that is queued or leaves. -/
theorem tokenResults : Obligations.TokenResults := by
  intro s u v w x p tp key tag i idx qs arg a rights k no
  refine ⟨fun h => congrArg _ (tokBind_port16 s h), fun hp ha ht => congrArg _ (tokBind_unaligned hp ht ha), fun hp ha ht hr hg => ?_, rfl,
    fun h => congrArg _ (notifyQueue_full h), fun h => congrArg _ (notifyQueue_joins h), ?_⟩
  · have hb : exec (.tokenBind tp) s = .next (w.bindCap tp rights k) := congrArg _ (tokBind_reads hp ht ha hr hg)
    refine ⟨fun hk => ?_, fun hk ho => ?_, fun hk ho hl => ?_, fun hk ho hn hrd hwr hf => ?_, fun hk ho hn hrd hwr hf => ?_⟩
    · rw [hb, bindCap_untagged hk]
      rfl
    · rw [hb, bindCap_sealed hk ho]
      rfl
    · rw [hb, bindCap_lacks hk ho (lacks_iff.mpr hl)]
      rfl
    · rw [hb, bindCap_full hk ho (lacks_eq_false hn hrd hwr) hf]
      rfl
    · rw [hb, bindCap_binds hk ho (lacks_eq_false hn hrd hwr) hf]
      rfl
  · intro d rest port sp bs hq home
    refine ⟨fun hst => ?_, fun hst hs hport ho hlen hp hg => notifySend_sends hq home hst hs hport ho hlen hp hg⟩
    rw [notifySend_badToken hq home hst]
    exact congrArg _ (by rw [hst]; rfl)

end Sys2Proof.Machine
end

section
/-! SUPPORT. The DMA engines and the CRC units (R460, R471 to R474, R483). -/

namespace Sys2Proof.Machine

theorem exec_dmaDescriptorStart (n : EngId) (s : State) : exec (.dmaDescriptorStart n) s = execDmaDescriptorStart n s := rfl

theorem exec_dmaDescriptorComplete (n : EngId) (s : State) : exec (.dmaDescriptorComplete n) s = execDmaDescriptorComplete n s := rfl

/-! ### The queue -/

theorem deQueue_full {s : State} {n : EngId} {w3 : Word} (h : 16 ≤ (s.net.de[n.val]).queue.length) :
    s.deQueue n w3 = s.wr (DE_STAT.OVF n) 1 := if_pos h

theorem deQueue_joins {s : State} {n : EngId} {w3 : Word} (h : (s.net.de[n.val]).queue.length < 16) :
    s.deQueue n w3 = s.modDe n (fun d => { d with
      queue := d.queue ++ [⟨s.reg (DE_DESC.adr n 0), s.reg (DE_DESC.adr n 1), s.reg (DE_DESC.adr n 2), w3⟩] }) := if_neg (Nat.not_le.mpr h)

/-- Two changes of an engine that agree on it as it stands are one. -/
theorem modDe_congr {s : State} {n : EngId} {f g : DeSt → DeSt} (h : f s.net.de[n.val] = g s.net.de[n.val]) : s.modDe n f = s.modDe n g := by
  simp only [State.modDe, State.modN, vecUpd]
  rw [h]

theorem deFlush_idle {s : State} {n : EngId} (hr : (s.net.de[n.val]).run = false) :
    s.deFlush n = s.modDe n (fun d => { d with queue := [] }) :=
  modDe_congr (by simp [hr])

theorem deFlush_running {s : State} {n : EngId} (hr : (s.net.de[n.val]).run = true) :
    s.deFlush n = s.modDe n (fun d => { d with queue := d.queue.take 1 }) :=
  modDe_congr (by simp [hr])

/-! ### The start of a descriptor -/

/-- The head of an engine's queue starts, its trigger taken: its checks, and then the CRC unit from its initial value (R472, R473). -/
def State.deStart (s : State) (n : EngId) (p : PartId) (d : Desc) : State :=
  if s.deCheck p (s.rd (CU_CFG.POLY n)) d ≠ 0 then s.deEnd n (s.deCheck p (s.rd (CU_CFG.POLY n)) d) 0
  else
    let t := (s.modDe n (fun x => { x with run := true, poly := BitVec.ofNat 2 (s.rd (CU_CFG.POLY n)) })).modE (fun e =>
      { e with deRun := setBitOf e.deRun n.val true })
    if d.crc = 1 ∨ d.crc = 3 ∨ d.crc = 5 then t.setReg (CU_VAL.adr n) (BitVec.ofNat 64 (crcInit (s.rd (CU_CFG.POLY n)))) else t

section
variable {s : State} {n : EngId} {p : PartId} {d : Desc} {rest : List Desc} (hq : (s.net.de[n.val]).queue = d :: rest)
  (hp : s.partOf n = some p)
include hq hp

section
variable (hi : (s.net.de[n.val]).run = false ∧ s.rdB (DE_STAT.HALTED n) = false ∧ s.deFrozen n = false ∧ s.evt.dark = false)
include hi

theorem dmaDescriptorStart_waits (hh : d.hold = true) (ht : bitOf s.evt.deTrig n.val = false) : exec (.dmaDescriptorStart n) s = .next s := by
  obtain ⟨hrun, hhalt, hfrz, hdark⟩ := hi
  simp [exec_dmaDescriptorStart, execDmaDescriptorStart, State.dePart, hq, hp, hrun, hhalt, hfrz, hdark, hh, ht]

theorem dmaDescriptorStart_free (hh : d.hold = false) : exec (.dmaDescriptorStart n) s = .next (s.deStart n p d) := by
  obtain ⟨hrun, hhalt, hfrz, hdark⟩ := hi
  simp only [exec_dmaDescriptorStart, execDmaDescriptorStart, State.dePart, hq, hp, hrun, hhalt, hfrz, hdark, hh, Bool.or_self, Bool.false_and,
    Bool.false_eq_true, if_false]
  rfl

theorem dmaDescriptorStart_triggered (hh : d.hold = true) (ht : bitOf s.evt.deTrig n.val = true) : exec (.dmaDescriptorStart n) s =
    .next ((s.modE (fun e => { e with deTrig := setBitOf e.deTrig n.val false })).deStart n p d) := by
  obtain ⟨hrun, hhalt, hfrz, hdark⟩ := hi
  simp only [exec_dmaDescriptorStart, execDmaDescriptorStart, State.dePart, hq, hp, hrun, hhalt, hfrz, hdark, hh, ht, Bool.or_self, Bool.not_true,
    Bool.and_false, Bool.false_eq_true, if_false, if_true]
  rfl

end

/-! ### The end of a descriptor -/

/-- What the copy of a descriptor has done by its end. -/
def State.deCopied (s : State) (n : EngId) (p : PartId) (d : Desc) : CopyOut :=
  deCopy p (s.net.de[n.val]).poly.toNat d.nodata ((s.tokEnt (nbits d.w0.toNat 0 16)).cursor + nbits d.w1.toNat 0 48)
    ((s.tokEnt (nbits d.w0.toNat 32 16)).cursor + nbits d.w2.toNat 0 48) d.len (d.len / 32768 + 4)
    ⟨0, s.rd (CU_VAL.VAL n) % 2 ^ (8 * crcLen (s.net.de[n.val]).poly.toNat), 0, s⟩

/-- The state in which the running CRC of a copy stands in CU_VAL. -/
def CopyOut.crcLeft (r : CopyOut) (n : EngId) (d : Desc) : State :=
  if d.crc = 0 then r.s else r.s.setReg (CU_VAL.adr n) (BitVec.ofNat 64 r.crc)

section
variable (hrun : (s.net.de[n.val]).run = true) (hfrz : s.deFrozen n = false)
include hrun hfrz

theorem dmaDescriptorComplete_fails (hst : (s.deCopied n p d).st ≠ 0) : exec (.dmaDescriptorComplete n) s =
    .next (((s.deCopied n p d).crcLeft n d).deEnd n (s.deCopied n p d).st (s.deCopied n p d).done) := by
  unfold State.deCopied CopyOut.crcLeft at *
  simp only [exec_dmaDescriptorComplete, execDmaDescriptorComplete, State.dePart, State.cuRun, hq, hp, hrun, hfrz, Bool.not_true, Bool.or_self,
    Bool.false_eq_true, if_false, ne_eq, hst, not_false_eq_true, if_true]

theorem dmaDescriptorComplete_copied {t : Byte × State} (hst : (s.deCopied n p d).st = 0)
    (ht : ((s.deCopied n p d).crcLeft n d).deTail n p (s.net.de[n.val]).poly.toNat d
      ((s.tokEnt (nbits d.w0.toNat 0 16)).cursor + nbits d.w1.toNat 0 48) ((s.tokEnt (nbits d.w0.toNat 32 16)).cursor + nbits d.w2.toNat 0 48)
      (s.deCopied n p d).crc = t) :
    exec (.dmaDescriptorComplete n) s = .next (t.2.deEnd n t.1 (s.deCopied n p d).done) := by
  subst ht
  unfold State.deCopied CopyOut.crcLeft at *
  simp only [exec_dmaDescriptorComplete, execDmaDescriptorComplete, State.dePart, State.cuRun, hq, hp, hrun, hfrz, Bool.not_true, Bool.or_self,
    Bool.false_eq_true, if_false, hst, ne_eq, not_true_eq_false]

end
end

section
variable {w x y : State} {n : EngId} {p : PartId} {poly : Nat} {d : Desc} {src dst v : Nat} {sp : List (Nat × Nat)} {bs : List Byte}
  (ha : w.armed 0x31 n.val = false)
include ha

theorem deTail_plain (hc : d.crc < 3) : w.deTail n p poly d src dst v = (0, w) := by
  have h3 : ¬ (d.crc = 3 ∨ d.crc = 4) := by omega
  have h5 : ¬ 5 ≤ d.crc := by omega
  simp [State.deTail, inject_unarmed ha, h3, h5]

/-- The CRC follows the bytes at the destination. -/
theorem deTail_appends (hc : d.crc = 3 ∨ d.crc = 4) (hd : d.nodata = false)
    (hp : w.pages (w.engAccess p true) (dst + d.len) (crcLen poly) = (.ok sp, x)) :
    w.deTail n p poly d src dst v = (0, x.putSpans sp (crcBytes poly (v ^^^ crcXorOut poly))) := by
  have h0 : d.crc ≠ 0 := by omega
  simp [State.deTail, inject_unarmed ha, hc, hd, h0, hp]

/-- The bytes that follow the source are compared with the CRC. -/
theorem deTail_checks (hc : 5 ≤ d.crc)
    (hp : (w.cnt (CU_STAT.CHECKS n) 1).pages ((w.cnt (CU_STAT.CHECKS n) 1).engAccess p false) (src + d.len) (crcLen poly) = (.ok sp, x))
    (hg : x.getSpans sp = (false, bs, y)) : w.deTail n p poly d src dst v =
      if bs = crcBytes poly (v ^^^ crcXorOut poly) then (0, y) else (stCrc, (y.wr (CU_STAT.MISMATCH n) 1).bucket 17 1) := by
  have h0 : d.crc ≠ 0 := by omega
  have h3 : ¬ (d.crc = 3 ∨ d.crc = 4) := by omega
  simp [State.deTail, inject_unarmed ha, hc, h0, h3, hp, hg]

end

/-! ### CU_VAL -/

theorem cuVal_busy {s : State} {n : EngId} {v : Word} {d : Desc} {rest : List Desc} (hr : (s.net.de[n.val]).run = true)
    (hq : (s.net.de[n.val]).queue = d :: rest) (hc : d.crc ≠ 0) : s.cuVal n v = s.wr (CU_STAT.WRBUSY n) 1 := by
  simp [State.cuVal, hq, hr, hc]

theorem cuVal_free {s : State} {n : EngId} {v : Word} {d : Desc} {rest : List Desc}
    (h : (s.net.de[n.val]).run = false ∨ (s.net.de[n.val]).queue = [] ∨ ((s.net.de[n.val]).queue = d :: rest ∧ d.crc = 0)) :
    s.cuVal n v = s.setReg (CU_VAL.adr n) (BitVec.ofNat 64 (v.toNat % 2 ^ (8 * crcLen (s.rd (CU_CFG.POLY n))))) := by
  obtain hr | hq | ⟨hq, hc⟩ := h
  · cases hq : (s.net.de[n.val]).queue with
    | nil => simp [State.cuVal, hq]
    | cons d rest => simp [State.cuVal, hq, hr]
  · simp [State.cuVal, hq]
  · simp [State.cuVal, hq, hc]

/-- Settles O41: the queue, the start of its head by the gate and the checks, its end by what was copied and the CRC mode, and the commands. -/
theorem dmaResults : Obligations.DmaResults := by
  intro s n w3 v p d rest e idle poly
  refine ⟨fun h => congrArg _ (deQueue_full h), fun h => congrArg _ (deQueue_joins h), fun hq hp => ⟨fun hi hh ht => ?_, fun hi hh hc => ?_,
    fun hi hh hc => ?_, ?_, ?_⟩, rfl, fun hr => congrArg _ (deFlush_idle hr), fun hr _ => congrArg _ (deFlush_running hr),
    fun hr hq hc => congrArg _ (cuVal_busy hr hq hc), fun h => congrArg _ (cuVal_free h)⟩
  · exact dmaDescriptorStart_waits hq hp hi hh ht
  · rw [dmaDescriptorStart_free hq hp hi hh, State.deStart, if_pos hc]
  · rw [dmaDescriptorStart_free hq hp hi hh, State.deStart, if_neg (not_not.mpr hc)]
  · intro hi hh ht t hc
    rw [dmaDescriptorStart_triggered hq hp hi hh ht]
    exact congrArg _ (if_pos hc)
  · intro hrun hfrz src dst r k crc w
    refine ⟨dmaDescriptorComplete_fails hq hp hrun hfrz, fun hst ha => ⟨fun hc => ?_, fun sp x hc hd hpg => ?_, fun sp x bs y hc hpg hg => ?_⟩⟩
    · exact dmaDescriptorComplete_copied hq hp hrun hfrz hst (deTail_plain ha hc)
    · exact dmaDescriptorComplete_copied hq hp hrun hfrz hst (deTail_appends ha hc hd hpg)
    · have hend := deTail_checks (v := r.crc) (dst := dst) ha hc hpg hg
      by_cases h : bs = crc
      · rw [if_pos h, dmaDescriptorComplete_copied hq hp hrun hfrz hst (hend.trans (if_pos h))]
        rfl
      · rw [if_neg h, dmaDescriptorComplete_copied hq hp hrun hfrz hst (hend.trans (if_neg h))]
        rfl

end Sys2Proof.Machine
end

section
/-! SUPPORT. The Ethernet ports and the time base (R436 to R444, R478). -/

namespace Sys2Proof.Machine

theorem exec_frameReceive (f : EthFrame) (s : State) : exec (.frameReceive f) s = .next (s.frameIn State.kwtRx f) := rfl

theorem exec_arpRequest (f : EthFrame) (s : State) : exec (.arpRequest f) s = execArpRequest f s := rfl

theorem exec_neighbourSolicitation (f : EthFrame) (s : State) : exec (.neighbourSolicitation f) s = execNeighbourSolicitation f s := rfl

theorem exec_icmpEcho (f : EthFrame) (s : State) : exec (.icmpEcho f) s = execIcmpEcho f s := rfl

theorem exec_pauseFrame (port : PortId) (pfc : Bool) (mask : BitVec 8) (quanta : Vector (BitVec 16) 8) (s : State) :
    exec (.pauseFrame port pfc mask quanta) s = execPauseFrame port pfc mask quanta s := rfl

theorem exec_receiveQueueFlowControl (port : PortId) (level : BitVec 7) (s : State) :
    exec (.receiveQueueFlowControl port level) s = execReceiveQueueFlowControl port level s := rfl

theorem exec_ptpMessage (port : PortId) (offset : BitVec 64) (s : State) : exec (.ptpMessage port offset) s =
    .next (if port.val = s.sec.set.ptpPort.toNat ∧ s.portHears port then s.ptpShift (-offset.toInt) else s) := rfl

/-! ### Stage 1 -/

theorem portHears_enabled {s : State} {p : Nat} (h : s.portHears p = true) : s.rdB (ETH_CFG.EN p) = true := by
  simp only [State.portHears, State.portUp, Bool.and_eq_true] at h
  exact h.2.1

theorem cnt_net (s : State) (f : Fld) (n : Nat) : (s.cnt f n).net = s.net := by
  unfold State.cnt
  exact ite_keeps State.net rfl rfl

theorem reg_cnt_ne (s : State) {f : Fld} {a : Nat} (n : Nat) (h : a ≠ f.adr) : (s.cnt f n).reg a = s.reg a := by
  unfold State.cnt
  split
  · exact reg_wr_ne s _ h
  · exact reg_wr_ne s.fresh.2 _ h

@[simp] theorem fecCorr_net (s : State) (p : Nat) : (s.fecCorr p).net = s.net := by
  unfold State.fecCorr
  exact ite_keeps State.net rfl (cnt_net ..)

/-- The count of corrected codewords changes its own register. -/
theorem reg_fecCorr (s : State) {p a : Nat} (h : a ≠ ETH_FEC.adr p) : (s.fecCorr p).reg a = s.reg a := by
  unfold State.fecCorr
  split
  · rfl
  · exact reg_cnt_ne s.fresh.2 _ h

theorem rd_fecCorr (s : State) {p : Nat} {f : Fld} (h : f.adr ≠ ETH_FEC.adr p) : (s.fecCorr p).rd f = s.rd f := by
  rw [State.rd, reg_fecCorr s h, State.rd]

@[simp] theorem rd_fecCorr_maxFrame (s : State) (p : Nat) : (s.fecCorr p).rd (ETH_CFG.MAXFRAME p) = s.rd (ETH_CFG.MAXFRAME p) :=
  rd_fecCorr s (by simp [ETH_CFG.MAXFRAME, ETH_CFG.adr, ETH_FEC.adr])

@[simp] theorem rdB_fecCorr_require (s : State) (p : Nat) : (s.fecCorr p).rdB (ETH_MACSEC.REQUIRE p) = s.rdB (ETH_MACSEC.REQUIRE p) := by
  rw [State.rdB, rd_fecCorr s (by simp [ETH_MACSEC.REQUIRE, ETH_MACSEC.adr, ETH_FEC.adr]), State.rdB]

@[simp] theorem armed_fecCorr (s : State) (p : PortId) (point unit : Nat) : (s.fecCorr p.val).armed point unit = s.armed point unit := by
  have hp := p.isLt
  have hsel : INJ_SEL.adr ≠ ETH_FEC.adr p.val := by simp only [INJ_SEL.adr, ETH_FEC.adr]; omega
  have hstat : INJ_STAT.adr ≠ ETH_FEC.adr p.val := by simp only [INJ_STAT.adr, ETH_FEC.adr]; omega
  have harmed : (s.fecCorr p.val).rd INJ_STAT.ARMED = s.rd INJ_STAT.ARMED := rd_fecCorr s hstat
  have hpoint : (s.fecCorr p.val).rd INJ_SEL.POINT = s.rd INJ_SEL.POINT := rd_fecCorr s hsel
  have hinst : (s.fecCorr p.val).rd INJ_SEL.INST = s.rd INJ_SEL.INST := rd_fecCorr s hsel
  rw [State.armed, State.armed, State.rdB, State.rdB, harmed, hpoint, hinst]

/-- A frame is longer than its port takes. -/
def State.tooLong (s : State) (f : EthFrame) : Prop := s.rd (ETH_CFG.MAXFRAME f.port.val) + (if f.secured then 32 else 0) < f.size.toNat

section
variable {s : State} {f : EthFrame} (hp : s.portHears f.port.val = true) (ha : s.armed 0x30 f.port.val = false)
include hp ha

theorem stage1_uncorrectable (hfec : f.fecOk = false) : s.stage1 f =
    (false, (((s.fecCorr f.port.val).cnt (ETH_FEC.UNCORR f.port.val) 1).cntSat (ETH_RXDROP.FCS f.port.val) 1).bucket 17 1) := by
  simp [State.stage1, portHears_enabled hp, inject_unarmed ((armed_fecCorr ..).trans ha), hfec]

variable (hfec : f.fecOk = true)
include hfec

theorem stage1_badFrame (h : f.fcsOk = false ∨ f.size.toNat < 64 ∨ s.tooLong f) :
    s.stage1 f = (false, (s.fecCorr f.port.val).cntSat (ETH_RXDROP.FCS f.port.val) 1) := by
  have h' : (!f.fcsOk) = true ∨ f.size.toNat < 64 ∨ s.rd (ETH_CFG.MAXFRAME f.port.val) + (if f.secured then 32 else 0) < f.size.toNat := by
    simpa [State.tooLong] using h
  simp only [State.stage1, portHears_enabled hp, inject_unarmed ((armed_fecCorr ..).trans ha), hfec, rd_fecCorr_maxFrame, if_pos h', Bool.not_true,
    Bool.not_false, Bool.and_self, Bool.false_eq_true, if_false]

variable (hfcs : f.fcsOk = true) (hsize : 64 ≤ f.size.toNat) (hlong : ¬ s.tooLong f)
include hfcs hsize hlong

theorem stage1_overrun (hq : 64 ≤ (s.net.rxLevel[f.port.val]).toNat) :
    s.stage1 f = (false, (s.fecCorr f.port.val).cntSat (ETH_RXDROP.OVERRUN f.port.val) 1) := by
  have hlong' := hlong
  unfold State.tooLong at hlong'
  have hsize' := Nat.not_lt.mpr hsize
  simp [State.stage1, portHears_enabled hp, inject_unarmed ((armed_fecCorr ..).trans ha), hfec, hfcs, hsize', hlong', hq]

variable (hq : (s.net.rxLevel[f.port.val]).toNat < 64) (hsec : f.secured = false)
include hq hsec

theorem stage1_plain : s.stage1 f = if s.rdB (ETH_MACSEC.REQUIRE f.port.val) then
      (false, (s.fecCorr f.port.val).cntSat (ETH_RXDROP.MACSEC f.port.val) 1)
    else (true, s.fecCorr f.port.val) := by
  have hlong' : ¬ s.rd (ETH_CFG.MAXFRAME f.port.val) < f.size.toNat := by simpa [State.tooLong, hsec] using hlong
  have hsize' := Nat.not_lt.mpr hsize
  have hq' := Nat.not_le.mpr hq
  simp [State.stage1, portHears_enabled hp, inject_unarmed ((armed_fecCorr ..).trans ha), hfec, hfcs, hsize', hlong', hq', hsec]

end

/-! ### Frames that a port delivers -/

theorem frameIn_unheard {kwt : State → KwtFrame → State} {s : State} {f : EthFrame} (hp : s.portHears f.port = false) : s.frameIn kwt f = s := by
  simp [State.frameIn, hp]

section
variable {s w : State} {f : EthFrame} (hp : s.portHears f.port = true)
include hp

theorem frameReceive_dropped (h1 : s.stage1 f = (false, w)) : exec (.frameReceive f) s = .next w := by
  simp [exec_frameReceive, State.frameIn, hp, h1]

variable (h1 : s.stage1 f = (true, w))
include h1

theorem frameReceive_udp {v6 plain zero ok : Bool} {dst : BitVec 16} {k : KwtFrame} (hb : f.body = .udp v6 plain dst zero ok k) :
    exec (.frameReceive f) s = .next (if w.udpOk f v6 plain dst zero ok then w.kwtRx { k with port := f.port, sub := f.sub, srcMac := f.srcMac }
      else w.cntSat (ETH_RXDROP.OTHER f.port) 1) := by
  simp [exec_frameReceive, State.frameIn, hp, h1, hb, State.dropOther]

theorem frameReceive_other (hb : f.body = .other) : exec (.frameReceive f) s = .next (w.cntSat (ETH_RXDROP.OTHER f.port) 1) := by
  simp [exec_frameReceive, State.frameIn, hp, h1, hb, State.dropOther]

theorem arpRequest_arp {a : BitVec 32} (hb : f.body = .arp a) : exec (.arpRequest f) s =
    .next (if a.toNat = w.rd (ETH_IPV4.ADDR f.port) then w.leave (.arp f.port f.sub f.srcMac) else w.cntSat (ETH_RXDROP.OTHER f.port) 1) := by
  simp [exec_arpRequest, execArpRequest, hp, h1, hb, State.arpIn, State.dropOther]

theorem neighbourSolicitation_neighbour {a : BitVec 128} (hb : f.body = .neighbour a) : exec (.neighbourSolicitation f) s =
    .next (if a = w.ip6 f.port then w.leave (.neighbour f.port f.sub f.srcMac) else w.cntSat (ETH_RXDROP.OTHER f.port) 1) := by
  simp [exec_neighbourSolicitation, execNeighbourSolicitation, hp, h1, hb, State.nsIn, State.dropOther]

theorem icmpEcho_echo {v6 : Bool} (hb : f.body = .echo v6) : exec (.icmpEcho f) s = .next (w.echoIn f v6) := by
  simp [exec_icmpEcho, execIcmpEcho, hp, h1, hb]

end

theorem echoIn_asleep {w : State} {f : EthFrame} {v6 : Bool} (ha : w.asleep = true) : w.echoIn f v6 = w := by
  simp [State.echoIn, ha]

theorem echoIn_answers {w : State} {f : EthFrame} {v6 : Bool} (ha : w.asleep = false) (hi : w.rdB KWT_CFG.ICMP = true)
    (hm : f.dstMac = w.subMac f.port f.sub)
    (hown : if v6 then f.dstIp = w.ip6 f.port else f.dstIp.toNat = w.rd (ETH_IPV4.ADDR f.port)) :
    w.echoIn f v6 = w.leave (.echo f.port f.sub f.srcMac) := by
  cases v6
  · have h4 : f.dstIp.toNat = w.rd (ETH_IPV4.ADDR f.port) := by simpa using hown
    simp [State.echoIn, ha, hi, hm, h4]
  · have h6 : f.dstIp = w.ip6 f.port := by simpa using hown
    simp [State.echoIn, ha, hi, hm, h6]

theorem ethernetFrames : Sys2Proof.Clauses.EthernetFrames := by
  intro s w f v6 plain zero ok dst a4 a6 k p c long unprotected
  refine ⟨fun hp ha => ⟨fun hfec => ?_, fun hfec h => ?_, fun hfec hfcs hsize hlong => ⟨fun hq => ?_, fun hq ho => ?_, fun hq hreq hsec => ?_⟩⟩,
    fun hp => congrArg _ (frameIn_unheard hp), fun hp h1 => ⟨fun hb h => ?_, fun hb h => ?_, fun hb h => ?_, fun hb h => ?_,
      fun hb ha hi hm hown => ?_, fun hb ha => ?_, fun hb h => ?_, fun hb h => ?_, frameReceive_other hp h1⟩⟩
  · exact frameReceive_dropped hp (stage1_uncorrectable hp ha hfec)
  · exact frameReceive_dropped hp (stage1_badFrame hp ha hfec h)
  · exact frameReceive_dropped hp (stage1_overrun hp ha hfec hfcs hsize hlong hq)
  · obtain ⟨hreq, hsec⟩ := ho
    rw [stage1_plain hp ha hfec hfcs hsize hlong hq hsec, hreq]
    rfl
  · have h1 := stage1_plain hp ha hfec hfcs hsize hlong hq hsec
    rw [hreq, if_pos rfl] at h1
    exact frameReceive_dropped hp h1
  · rw [arpRequest_arp hp h1 hb, if_pos h]
  · rw [arpRequest_arp hp h1 hb, if_neg h]
  · rw [neighbourSolicitation_neighbour hp h1 hb, if_pos h]
  · rw [neighbourSolicitation_neighbour hp h1 hb, if_neg h]
  · rw [icmpEcho_echo hp h1 hb, echoIn_answers ha hi hm hown]
  · rw [icmpEcho_echo hp h1 hb, echoIn_asleep ha]
  · rw [frameReceive_udp hp h1 hb, if_pos h]
  · rw [frameReceive_udp hp h1 hb, if_neg (by simp [h])]

/-! ### Flow control -/

/-- The bits that a fold over distinct places sets where a condition holds. -/
theorem bitOf_foldl_setBitOf_if {w : Nat} (P Q : Nat → Bool) (v : BitVec w) (l : List (Fin w)) (hl : l.Nodup) (i : Fin w) :
    bitOf (l.foldl (fun v j => if P j.val then setBitOf v j.val (Q j.val) else v) v) i.val =
      if i ∈ l ∧ P i.val then Q i.val else bitOf v i.val := by
  induction l generalizing v with
  | nil => simp
  | cons j l ih =>
    obtain ⟨hj, hl⟩ := List.nodup_cons.mp hl
    rw [List.foldl_cons, ih _ hl]
    by_cases hi : i = j
    · subst hi
      cases hP : P i.val <;> simp [hj, bitOf_setBitOf_self _ _ i.isLt]
    · have hv : bitOf (if P j.val then setBitOf v j.val (Q j.val) else v) i.val = bitOf v i.val := by
        split
        · exact bitOf_setBitOf_ne v _ (fun h => hi (Fin.ext h))
        · rfl
      simp [hi, hv]

/-- Some priority has flow control of its own. -/
theorem pfcEnabled (s : State) {p : Nat} (h : s.rd (ETH_CFG.PFC_EN p) ≠ 0) : BitVec.ofNat 8 (s.rd (ETH_CFG.PFC_EN p)) ≠ 0 := by
  intro he
  have hlt : s.rd (ETH_CFG.PFC_EN p) < 2 ^ 8 := by
    rw [State.rd, Fld.ofWord, BitVec.toNat_and]
    exact Nat.lt_of_le_of_lt Nat.and_le_right (by decide : (lowMask 8).toNat < 2 ^ 8)
  have hz := congrArg BitVec.toNat he
  rw [BitVec.toNat_ofNat, Nat.mod_eq_of_lt hlt] at hz
  exact h hz

section
variable {s : State} {port : PortId} {mask : BitVec 8} {quanta : Vector (BitVec 16) 8}

theorem pauseFrame_disabled (he : s.rdB (ETH_CFG.EN port.val) = false) (pfc : Bool) : exec (.pauseFrame port pfc mask quanta) s = .next s := by
  simp [exec_pauseFrame, execPauseFrame, he]

variable (he : s.rdB (ETH_CFG.EN port.val) = true)
include he

theorem pauseFrame_all (h0 : s.rd (ETH_CFG.PFC_EN port.val) = 0) (hp : s.rdB (ETH_CFG.PAUSE_EN port.val) = true) :
    exec (.pauseFrame port false mask quanta) s =
      .next ((s.wr (ETH_STAT.PAUSED port.val) (if quanta[0] = 0 then 0 else 0xFF)).flushPort port.val) := by
  have hn : (if quanta[0] = 0#16 then 0#8 else 0xFF#8).toNat = if quanta[0] = 0#16 then 0 else 0xFF := by
    split <;> rfl
  simp [exec_pauseFrame, execPauseFrame, he, h0, hp, hn]

/-- The priorities that a PFC frame leaves paused. -/
def State.pfcPaused (s : State) (p : Nat) (mask : BitVec 8) (quanta : Vector (BitVec 16) 8) : BitVec 8 :=
  (fins 8).foldl (fun v (i : Fin 8) =>
    if bitOf (BitVec.ofNat 8 (s.rd (ETH_CFG.PFC_EN p)) &&& mask) i.val then setBitOf v i.val (quanta[i.val] != 0) else v)
    (BitVec.ofNat 8 (s.rd (ETH_STAT.PAUSED p)))

theorem pauseFrame_priorities (h0 : s.rd (ETH_CFG.PFC_EN port.val) ≠ 0) : exec (.pauseFrame port true mask quanta) s =
    .next ((s.wr (ETH_STAT.PAUSED port.val) (s.pfcPaused port.val mask quanta).toNat).flushPort port.val) := by
  simp only [exec_pauseFrame, execPauseFrame, he, if_pos (pfcEnabled s h0), Bool.not_true, Bool.false_eq_true, if_false, if_true]
  rfl

end

/-- PFC takes the time of each priority that it enables and the frame names, and leaves the others. -/
theorem bitOf_pfcPaused (s : State) (p : Nat) (mask : BitVec 8) (quanta : Vector (BitVec 16) 8) (i : Fin 8) :
    bitOf (s.pfcPaused p mask quanta) i.val = if bitOf (BitVec.ofNat 8 (s.rd (ETH_CFG.PFC_EN p)) &&& mask) i.val then quanta[i.val] != 0
      else bitOf (BitVec.ofNat 8 (s.rd (ETH_STAT.PAUSED p))) i.val := by
  have h := bitOf_foldl_setBitOf_if (fun j => bitOf (BitVec.ofNat 8 (s.rd (ETH_CFG.PFC_EN p)) &&& mask) j) (fun j => quanta[j]! != 0)
    (BitVec.ofNat 8 (s.rd (ETH_STAT.PAUSED p))) (fins 8) (List.nodup_finRange 8) i
  have hq (j : Fin 8) : quanta[j.val]! = quanta[j.val] := getElem!_pos quanta j.val j.isLt
  simpa [State.pfcPaused, fins, hq] using h

/-- The receive queue of a port holds a number of entries. -/
def State.rxHolds (s : State) (port : PortId) (level : BitVec 7) : State :=
  s.modN (fun e => { e with rxLevel := vecUpd e.rxLevel port (fun _ => level) })

section
variable {s : State} {port : PortId} {level : BitVec 7}

theorem flowControl_off (hp : s.rdB (ETH_CFG.PAUSE_EN port.val) = false) (h0 : s.rd (ETH_CFG.PFC_EN port.val) = 0) :
    exec (.receiveQueueFlowControl port level) s = .next (s.rxHolds port level) := by
  simp [exec_receiveQueueFlowControl, execReceiveQueueFlowControl, hp, h0, State.rxHolds]

variable (hon : s.rdB (ETH_CFG.PAUSE_EN port.val) = true ∨ s.rd (ETH_CFG.PFC_EN port.val) ≠ 0)
include hon

/-- XOFF at 48 entries, XON at 16, each once (R439). -/
theorem flowControl_on : exec (.receiveQueueFlowControl port level) s = .next (
    if 48 ≤ level.toNat ∧ (!bitOf s.net.xoff port.val) = true then
      ((s.rxHolds port level).modN (fun e => { e with xoff := setBitOf e.xoff port.val true })).leave (.pause port true)
    else if level.toNat ≤ 16 ∧ bitOf s.net.xoff port.val = true then
      ((s.rxHolds port level).modN (fun e => { e with xoff := setBitOf e.xoff port.val false })).leave (.pause port false)
    else s.rxHolds port level) := by
  have hon' : (s.rdB (ETH_CFG.PAUSE_EN port.val) || s.rd (ETH_CFG.PFC_EN port.val) != 0) = true := by simpa using hon
  rw [exec_receiveQueueFlowControl, execReceiveQueueFlowControl, hon']
  rfl

end

theorem portEventResults : Sys2Proof.Clauses.PortEventResults := by
  intro s port prio sub mask quanta level up reversed lanes offset step p xoff moved
  refine ⟨pauseFrame_all, fun he h0 => ⟨_, pauseFrame_priorities he h0, bitOf_pfcPaused s p mask quanta⟩, pauseFrame_disabled, rfl,
    ⟨fun hon => ⟨fun hl hx => ?_, fun hl hx => ?_, fun hlo hhi => ?_⟩, flowControl_off⟩, rfl, fun hp hh => ?_, rfl, rfl⟩
  · rw [flowControl_on hon, if_pos ⟨hl, by rw [hx]; rfl⟩]
    rfl
  · rw [flowControl_on hon, if_neg (fun h => absurd h.1 (by omega)), if_pos ⟨hl, hx⟩]
    rfl
  · have h48 : ¬ (48 ≤ level.toNat ∧ (!bitOf s.net.xoff p) = true) := by
      rintro ⟨hl, hx⟩
      obtain h | h := hhi
      · omega
      · simp [h] at hx
    have h16 : ¬ (level.toNat ≤ 16 ∧ bitOf s.net.xoff p = true) := by
      rintro ⟨hl, hx⟩
      obtain h | h := hlo
      · omega
      · simp [hx] at h
    rw [flowControl_on hon, if_neg h48, if_neg h16]
    rfl
  · rw [exec_ptpMessage, if_pos ⟨hp, hh⟩]
    rfl

/-- Settles O42: frames by stage 1 and what their port answers, and flow control, links and the time base. -/
theorem portResultsOfEthernet : Obligations.PortResultsOfEthernet := ⟨ethernetFrames, portEventResults⟩

end Sys2Proof.Machine
end

section
/-! PROOFS. Warm and cold resets, and what starts the ROM (R506, R557, R564, R614, R638). -/

namespace Sys2Proof.Machine

/-! ### What a reset keeps of the state before it -/

/-- Breaking off the write of a structure image touches flash alone (R69). -/
theorem breakWrite_flash (s : State) : ∃ flash bad written,
    s.breakWrite = s.modSec (fun e => { e with flash := flash, flashBad := bad, slotWritten := written }) := by
  unfold State.breakWrite
  split
  · split
    · exact ⟨_, _, _, rfl⟩
    · exact ⟨_, _, _, rfl⟩
  · exact ⟨_, _, _, rfl⟩

theorem breakWrite_idle {s : State} (h : s.sec.live = none) : s.breakWrite = s := by
  rw [State.breakWrite, h]

/-- The strap register outlives a cold reset (R638). -/
theorem reg_wiped_strap (s : State) (x : Sys) : (s.wiped x).reg SB_STRAP.adr = s.reg SB_STRAP.adr := by
  obtain ⟨flash, bad, written, hb⟩ := breakWrite_flash s
  unfold State.wiped
  rw [hb]
  exact (mapGet_put_ne regReset _ _ (by decide)).trans ((mapGet_put regReset _ _ _ _).trans (if_pos rfl))

/-- The registers that a cold reset writes last: its source, the state before it and the glitches. -/
theorem reg_coldHeld_ne (s : State) (src : Nat) {a : Nat} (h : a ∉ [RST_CAUSE.adr, SYS_STATE.adr, SEC_STAT.adr]) :
    (s.coldHeld src).reg a = (s.wiped .standby).reg a := by
  simp only [List.mem_cons, List.not_mem_nil, or_false, not_or] at h
  obtain ⟨hcause, hstate, hsec⟩ := h
  exact (reg_wr_ne _ _ hsec).trans ((reg_wr_ne _ _ hstate).trans (reg_wr_ne _ _ hcause))

theorem rd_coldHeld_src (s : State) {src : Nat} (h : src < 256) : (s.coldHeld src).rd RST_CAUSE.SRC = src :=
  (rd_wr_ne _ _ (by decide)).trans ((rd_wr_ne _ _ (by decide)).trans (rd_wr_self _ (by decide) h))

theorem Sys.code_lt (x : Sys) : x.code < 2 ^ SYS_STATE.LAST.width := by
  cases x <;> decide

theorem rd_coldHeld_last (s : State) (src : Nat) : (s.coldHeld src).rd SYS_STATE.LAST = s.sec.sys.code :=
  (rd_wr_ne _ _ (by decide)).trans (rd_wr_self _ (by decide) s.sec.sys.code_lt)

/-- A cold reset field by field. -/
theorem coldHeld_fields (s : State) (src : Nat) :
    let t := s.coldHeld src
    t.mem = [] ∧ t.tags = [] ∧ t.errs = [] ∧ t.cps = State.reset.cps ∧ t.parts = State.reset.parts ∧ t.evt = State.reset.evt ∧
    t.sec.sys = .standby ∧ t.sec.burnt = s.sec.burnt ∧ (s.sec.live = none → t.sec.flash = s.sec.flash) ∧ t.sec.slots = s.sec.slots ∧
    t.pending = s.pending ∧ t.now = s.now := by
  obtain ⟨flash, bad, written, hb⟩ := breakWrite_flash s
  have hburnt : s.breakWrite.sec.burnt = s.sec.burnt := by rw [hb]; rfl
  have hslots : s.breakWrite.sec.slots = s.sec.slots := by rw [hb]; rfl
  have hpending : s.breakWrite.pending = s.pending := by rw [hb]; rfl
  have hnow : s.breakWrite.now = s.now := by rw [hb]; rfl
  have hflash (hl : s.sec.live = none) : s.breakWrite.sec.flash = s.sec.flash := by rw [breakWrite_idle hl]
  exact ⟨rfl, rfl, rfl, rfl, rfl, rfl, rfl, hburnt, hflash, hslots, hpending, hnow⟩

/-! ### What the sealed settings write -/

/-- From one state to another, only registers beside one at `a` and the network have changed. -/
structure WritesBeside (a : Nat) (s t : State) : Prop where
  rest : t = { s with csr := t.csr, net := t.net }
  reg : t.reg a = s.reg a

namespace WritesBeside
variable {a : Nat} {z s : State}

theorem refl (s : State) : WritesBeside a s s := ⟨rfl, rfl⟩

theorem setReg (h : WritesBeside a z s) {b : Nat} (v : Word) (hb : a ≠ b) : WritesBeside a z (s.setReg b v) :=
  ⟨by rw [h.rest]; rfl, (reg_setReg_ne s v hb).trans h.reg⟩

theorem wr (h : WritesBeside a z s) {f : Fld} (v : Nat) (hf : a ≠ f.adr) : WritesBeside a z (s.wr f v) := h.setReg _ hf

theorem wrB (h : WritesBeside a z s) {f : Fld} (b : Bool) (hf : a ≠ f.adr) : WritesBeside a z (s.wrB f b) := h.wr _ hf

theorem modN (h : WritesBeside a z s) (f : NetSt → NetSt) : WritesBeside a z (s.modN f) := ⟨by rw [h.rest]; rfl, h.reg⟩

theorem foldl {α : Type} {f : State → α → State} {l : List α} (hf : ∀ x ∈ l, ∀ t, WritesBeside a z t → WritesBeside a z (f t x))
    (h : WritesBeside a z s) : WritesBeside a z (l.foldl f s) := by
  induction l generalizing s with
  | nil => exact h
  | cons x l ih => exact ih (fun y hy => hf y (List.mem_cons_of_mem _ hy)) (hf x List.mem_cons_self s h)

/-! No register that the settings write is RST_CAUSE: a MAC address is that of one of four ports, and the other registers of a port have an
offset of their own into its block, whatever number a setting gives the port. -/

theorem setMacs (h : WritesBeside RST_CAUSE.adr z s) (base : Nat) : WritesBeside RST_CAUSE.adr z (s.setMacs base) := by
  have hmac : ∀ p ∈ List.range 4, RST_CAUSE.adr ≠ ETH_MAC.adr p := by decide
  exact foldl (fun p hp _ ht => ht.wr _ (hmac p hp)) (h.wr _ (by decide))

theorem showKeys (h : WritesBeside RST_CAUSE.adr z s) : WritesBeside RST_CAUSE.adr z s.showKeys := by
  have hkey (p : Nat) : RST_CAUSE.adr ≠ ETH_MACSEC.adr p := by unfold RST_CAUSE.adr ETH_MACSEC.adr; omega
  exact foldl (fun p _ _ ht => ht.wrB _ (hkey p)) (h.modN _)

theorem showAddrs (h : WritesBeside RST_CAUSE.adr z s) : WritesBeside RST_CAUSE.adr z s.showAddrs := by
  have h4 (p : Nat) : RST_CAUSE.adr ≠ ETH_IPV4.adr p := by unfold RST_CAUSE.adr ETH_IPV4.adr; omega
  have h6 (p : Nat) {j : Nat} (hj : j < 2) : RST_CAUSE.adr ≠ ETH_IPV6.adr p j := by unfold RST_CAUSE.adr ETH_IPV6.adr; omega
  exact foldl (fun x _ _ ht => (ht.wr _ (h6 x.1 (by decide))).wr _ (h6 x.1 (by decide))) (foldl (fun x _ _ ht => ht.wr _ (h4 x.1)) h)

theorem showSettings (h : WritesBeside RST_CAUSE.adr z s) : WritesBeside RST_CAUSE.adr z s.showSettings := by
  refine (showAddrs (setReg ?_ _ (by decide))).showKeys
  exact (((((h.wr _ (by decide)).wrB _ (by decide)).wrB _ (by decide)).wrB _ (by decide)).wrB _ (by decide)).wr _ (by decide)

end WritesBeside

/-! ### The warm reset -/

/-- A warm reset with a rail down: what is cleared at once, the causes and the state, and the registers of the settings. -/
theorem warmReset_of_rails_down {s : State} (src : Nat) (hr : s.pwr.rails < 12) (hl : s.sec.live = none) : ∃ r : State,
    WritesBeside RST_CAUSE.adr (((r.wr RST_CAUSE.KIND 2).wr RST_CAUSE.SRC src).enterSys .boot) (s.warmReset src) ∧
    r.mem = s.mem.filter (fun e => decide (e.1 < celBase)) ∧ r.tags = s.tags.filter (fun e => decide (16 * e.1 < celBase)) ∧
    r.parts = State.reset.parts ∧ (∀ c, (r.cp c).run = .inReset ∧ (r.cp c).a = CpArch.reset) ∧
    r.sec.burnt = s.sec.burnt ∧ r.sec.flash = s.sec.flash := by
  unfold State.warmReset
  simp only [breakWrite_idle hl, hr, decide_true, if_true]
  refine ⟨_, (((WritesBeside.refl _).setMacs _).showSettings.setReg _ (by decide)).setReg _ (by decide), rfl, rfl, rfl, fun c => ?_, rfl, rfl⟩
  simp [State.cp, Cp.reset]

theorem warmReset_results {s : State} {src : Nat} (hsrc : src < 256) (hr : s.pwr.rails < 12) (hl : s.sec.live = none) :
    let t := s.warmReset src
    t.mem = s.mem.filter (fun e => decide (e.1 < celBase)) ∧ t.tags = s.tags.filter (fun e => decide (16 * e.1 < celBase)) ∧
    t.parts = State.reset.parts ∧ (∀ c, (t.cp c).run = .inReset ∧ (t.cp c).a = CpArch.reset) ∧ t.sec.sys = .boot ∧
    t.rd RST_CAUSE.KIND = 2 ∧ t.rd RST_CAUSE.SRC = src ∧ t.sec.burnt = s.sec.burnt ∧ t.sec.flash = s.sec.flash := by
  obtain ⟨r, ⟨hrest, hreg⟩, hmem, htags, hparts, hcps, hburnt, hflash⟩ := warmReset_of_rails_down src hr hl
  have hkind : (s.warmReset src).rd RST_CAUSE.KIND = 2 := calc
    _ = (((r.wr RST_CAUSE.KIND 2).wr RST_CAUSE.SRC src).enterSys .boot).rd RST_CAUSE.KIND := congrArg RST_CAUSE.KIND.ofWord hreg
    _ = ((r.wr RST_CAUSE.KIND 2).wr RST_CAUSE.SRC src).rd RST_CAUSE.KIND := rd_wr_ne _ _ (by decide)
    _ = (r.wr RST_CAUSE.KIND 2).rd RST_CAUSE.KIND := rd_wr_beside _ _ rfl (by decide)
    _ = 2 := rd_wr_self _ (by decide) (by decide)
  have hcause : (s.warmReset src).rd RST_CAUSE.SRC = src := calc
    _ = (((r.wr RST_CAUSE.KIND 2).wr RST_CAUSE.SRC src).enterSys .boot).rd RST_CAUSE.SRC := congrArg RST_CAUSE.SRC.ofWord hreg
    _ = ((r.wr RST_CAUSE.KIND 2).wr RST_CAUSE.SRC src).rd RST_CAUSE.SRC := rd_wr_ne _ _ (by decide)
    _ = src := rd_wr_self _ (by decide) hsrc
  generalize s.warmReset src = t at *
  refine ⟨?_, ?_, ?_, fun c => ?_, ?_, hkind, hcause, ?_, ?_⟩ <;> rw [hrest]
  exacts [hmem, htags, hparts, hcps c, rfl, hburnt, hflash]

/-! ### SHED7_EXIT -/

theorem exec_shed7Exit (s : State) : exec .shed7Exit s = execShed7Exit s := rfl

theorem shed7Exit_warm {s : State} (hrun : s.sec.sys = .run) (h7 : s.shed = 7) (ht : s.pwr.temps = none) :
    exec .shed7Exit s = .next (s.warmReset 0x0A) := by
  simp [exec_shed7Exit, execShed7Exit, hrun, h7, ht]

theorem shed7Exit_hot {s : State} {temps : Vector (BitVec 8) 20} (ht : s.pwr.temps = some temps) (hhot : ∃ i : Fin 16, 95 < temps[i.val].toNat) :
    exec .shed7Exit s = .next s := by
  obtain ⟨i, hi⟩ := hhot
  have hat : vecAt? temps i.val = some temps[i.val] := dif_pos (by omega)
  have hcool : (List.range 16).all (fun i => decide (((vecAt? temps i).getD 0).toNat ≤ 95)) = false :=
    List.all_eq_false.mpr ⟨i.val, List.mem_range.mpr i.isLt, by simpa [hat] using hi⟩
  simp only [exec_shed7Exit, execShed7Exit, ht, hcool, Bool.not_false, if_true]

/-! ### The start of the ROM and what leads to it -/

theorem coldStart_held {t : State}
    (h : t.sec.sys ≠ .standby ∨ t.sec.rstHigh = false ∨ t.sec.clkOk = false ∨ t.sec.backoff = true ∨ t.rdB SB_STRAP.TEST = true) :
    t.coldStart = t := by
  unfold State.coldStart
  rw [if_pos (by simpa using h)]

theorem glitch_powered {s : State} (h : s.sec.sys ≠ .off) (src : Nat) :
    let t := s.zeroise.coldHeld src
    s.glitch src = (t.modSec (fun e => { e with glitches := t.sec.glitches + 1, backoff := decide (2 ≤ t.sec.glitches + 1) })).wr
      SEC_STAT.GLITCHES (min 255 (t.sec.glitches + 1)) := if_neg h

theorem sysRstLAssert_powered {s : State} (h : s.sec.sys ≠ .off) :
    exec .sysRstLAssert s = .next ((s.modSec (fun e => { e with rstHigh := false })).coldHeld 2) := congrArg Host.Outcome.next (if_neg h)

theorem sysRstLAssert_off {s : State} (h : s.sec.sys = .off) :
    exec .sysRstLAssert s = .next (s.modSec (fun e => { e with rstHigh := false })) := congrArg Host.Outcome.next (if_pos h)

theorem sysRstLRelease_powered {s : State} (h : s.sec.sys ≠ .off) :
    exec .sysRstLRelease s = .next (s.modSec (fun e => { e with rstHigh := true })).coldStart := congrArg Host.Outcome.next (if_neg h)

theorem moduleWatchdogWarning_powered {s : State} (h : s.sec.sys ≠ .off) : exec .moduleWatchdogWarning s = .next (s.fire 0x250) :=
  congrArg Host.Outcome.next (if_neg h)

theorem moduleWatchdogExpiry_powered {s : State} (h : s.sec.sys ≠ .off) : exec .moduleWatchdogExpiry s = .next (s.coldHeld 3).coldStart :=
  congrArg Host.Outcome.next (if_neg h)

theorem moduleWatchdogExpiry_off {s : State} (h : s.sec.sys = .off) : exec .moduleWatchdogExpiry s = .next s :=
  congrArg Host.Outcome.next (if_pos h)

theorem vauxPowerUp_powered {s : State} (h : s.sec.sys ≠ .off) (straps : BitVec 5) : exec (.vauxPowerUp straps) s = .next s :=
  congrArg Host.Outcome.next (if_pos h)

/-- VAUX_POWER_UP in OFF: the straps are sampled, and the part leaves OFF where SYS_RST_L is high (R614, R638). -/
theorem vauxPowerUp_off {s : State} (h : s.sec.sys = .off) (straps : BitVec 5) : exec (.vauxPowerUp straps) s =
    .next (if s.sec.rstHigh then (s.setReg SB_STRAP.adr (straps.setWidth 64)).powerUp else s.setReg SB_STRAP.adr (straps.setWidth 64)) :=
  congrArg Host.Outcome.next (if_neg (fun hn => hn h))

/-- VAUX_POWER_LOSS: memory and the glitch history end, the fuses stay (R564, R614). -/
theorem vauxPowerLoss_results (s : State) :
    ∃ t, exec .vauxPowerLoss s = .next t ∧ t.sec.sys = .off ∧ t.mem = [] ∧ t.sec.burnt = s.sec.burnt ∧ t.sec.glitches = 0 := by
  obtain ⟨flash, bad, written, hb⟩ := breakWrite_flash s
  have hburnt : s.breakWrite.sec.burnt = s.sec.burnt := by rw [hb]; rfl
  exact ⟨_, rfl, rfl, rfl, hburnt, rfl⟩

theorem glitchBackoffExpiry_waiting {s : State} (h : s.sec.backoff = true) :
    exec .glitchBackoffExpiry s = .next (s.modSec (fun e => { e with backoff := false })).coldStart := congrArg Host.Outcome.next (if_pos h)

theorem rindClockValid_waiting {s : State} (h : s.sec.clkOk = false) :
    exec .rindClockValid s = .next (s.modSec (fun e => { e with clkOk := true })).coldStart :=
  congrArg Host.Outcome.next (if_neg (by simp [h]))

theorem exec_fuseReread (s : State) : exec .fuseReread s = execFuseReread s := rfl

/-- FUSE_REREAD leaves the part as it is where every word is decided and needs no burn (R561). -/
theorem fuseReread_agrees {s : State} (ha : s.armed 0x42 (s.rd INJ_SEL.INST) = false)
    (hw : ∀ w < 21, ∃ a b, s.fuse w = .value a b false) : exec .fuseReread s = .next s := by
  rw [exec_fuseReread, execFuseReread, inject_unarmed ha]
  refine congrArg _ (ite_eq_left_iff.mpr fun _ => if_neg ?_)
  simp only [Bool.false_or, List.any_eq_true, List.mem_range]
  rintro ⟨w, hlt, hburn⟩
  obtain ⟨a, b, hv⟩ := hw w hlt
  simp [hv] at hburn

/-- Settles O45: what the two resets leave, what holds the ROM in STANDBY, and each command that resets or starts the part. -/
theorem resetResults : Obligations.ResetResults := by
  intro s straps
  refine ⟨fun src => ?_, fun src hsrc hr hl => warmReset_results hsrc hr hl, shed7Exit_warm, fun temps ht hhot => shed7Exit_hot ht hhot,
    fun t => coldStart_held, fun h => ?_, fun h => ?_, vauxPowerLoss_results s, glitchBackoffExpiry_waiting, rindClockValid_waiting, rfl,
    fun _ => fuseReread_agrees⟩
  · obtain ⟨hmem, htags, herrs, hcps, hparts, hevt, hsys, hburnt, hflash, hslots, hpending, hnow⟩ := coldHeld_fields s src
    exact ⟨hmem, htags, herrs, hcps, hparts, hevt, hsys, hburnt, hflash, hslots, hpending, hnow, rd_coldHeld_src s, rd_coldHeld_last s src,
      (reg_coldHeld_ne s src (by decide)).trans (reg_wiped_strap s .standby)⟩
  · exact ⟨sysRstLAssert_powered h, sysRstLRelease_powered h, moduleWatchdogWarning_powered h, moduleWatchdogExpiry_powered h, rfl, rfl,
      glitch_powered h 4, vauxPowerUp_powered h straps⟩
  · refine ⟨sysRstLAssert_off h, moduleWatchdogExpiry_off h, fun hhigh => ?_, fun hlow => ?_⟩
    · rw [vauxPowerUp_off h, if_pos hhigh]
      rfl
    · rw [vauxPowerUp_off h, if_neg (by simp [hlow])]

end Sys2Proof.Machine
end

section
/-! SUPPORT. What no command takes back: the queue, the time, the free values used, and blown fuses (R560). -/

namespace Sys2Proof.Machine

/-- What the operations of a command keep holds every part of `State.keeps`. -/
theorem Keeps.keeps {s t : State} (h : Keeps s t) : s.keeps t := ⟨h.pending, h.now, h.free, h.fuses⟩

/-- Settles O60: every meaning keeps the queue, the time and the fuses, and never lowers the count of free values. -/
theorem commandsKeepQueueTimeAndFuses : Obligations.CommandsKeepQueueTimeAndFuses := by
  intro c s t h
  exact (keeps_of_next (exec_keeps (Keeps.refl s) c) h).keeps

end Sys2Proof.Machine
end

section
/-! SUPPORT. The Ubori Link, negotiation, heartbeats and the witness (R509, R530 to R537, R541 to R546, R626). -/

namespace Sys2Proof.Machine

/-! ### Frames that arrive (R531 to R533) -/

section
variable {s u : State} {type : Byte} {f : UboriFrame}

/-- A frame that takes no sequence number has its effect on the state its ACK and EPOCH leave. -/
theorem uboriIn_heard (h : s.hearsUbori type f u) (body : State → State) : s.uboriIn type f false body = body u := by
  obtain ⟨hlink, harm, hver, htype, hlen, hseal, rfl⟩ := h
  simp [State.uboriIn, hlink, inject_unarmed harm, hver, htype, hlen, hseal]

/-- A sequenced frame that is the next one has its effect and is acknowledged. -/
theorem uboriIn_taken (h : s.takesUbori type f u) (body : State → State) : s.uboriIn type f true body = (body u).linkAck := by
  obtain ⟨v, ⟨hlink, harm, hver, htype, hlen, hseal, rfl⟩, hseq, rfl⟩ := h
  simp [State.uboriIn, hlink, inject_unarmed harm, hver, htype, hlen, hseal, hseq]

/-- A sequenced frame out of order is only acknowledged. -/
theorem uboriIn_outOfOrder (h : s.hearsUbori type f u) (hseq : f.seq ≠ u.pair.rxSeq) (body : State → State) :
    s.uboriIn type f true body = u.linkAck := by
  obtain ⟨hlink, harm, hver, htype, hlen, hseal, rfl⟩ := h
  simp [State.uboriIn, hlink, inject_unarmed harm, hver, htype, hlen, hseal, hseq]

/-- A frame that fails its check is dropped and counted. -/
theorem uboriIn_failed (hlink : s.rdB PAIR_STAT.LINK = true) (harm : s.armed 0x2B (s.rd INJ_SEL.INST) = false) (hseal : uboriSeal f ≠ f)
    (type : Byte) (sequenced : Bool) (body : State → State) :
    s.uboriIn type f sequenced body = (s.cnt PAIR_LINK.CRCFAIL 1).bucket 17 1 := by
  simp [State.uboriIn, hlink, inject_unarmed harm, hseal]

end

/-! ### The frames by their effects -/

theorem exec_linkack (f : UboriFrame) (s : State) : exec (.linkack f) s = .next (s.uboriIn 0x0E f false id) := rfl

theorem exec_helloFrame (f : UboriFrame) (h : HelloRec) (a : PairAuth) (s : State) :
    exec (.helloFrame f h a) s = .next (s.uboriIn 0x01 f false (fun s => s.helloIn h a)) := rfl

theorem exec_heartbeatFrame (f : UboriFrame) (s : State) :
    exec (.heartbeatFrame f) s = .next (s.uboriIn 0x02 f false (fun s => s.heartbeatIn f.arg)) := rfl

theorem exec_holdFrame (f : UboriFrame) (s : State) :
    exec (.holdFrame f) s = .next (s.uboriIn 0x0B f true (fun s => if s.dbgClosed then s else s.wr PAIR_STAT.HOLD 1)) := rfl

theorem exec_releaseFrame (f : UboriFrame) (s : State) :
    exec (.releaseFrame f) s = .next (s.uboriIn 0x0C f true (fun s => s.wr PAIR_STAT.HOLD 0)) := rfl

theorem exec_ctlFailover (f : UboriFrame) (s : State) : exec (.ctlFailover f) s = execCtlFailover f s := rfl

theorem exec_ctlSleepReq (f : UboriFrame) (s : State) : exec (.ctlSleepReq f) s = execCtlSleepReq f s := rfl

theorem exec_ctlSleepAck (f : UboriFrame) (s : State) : exec (.ctlSleepAck f) s = execCtlSleepAck f s := rfl

theorem exec_ctlSleepRefuse (f : UboriFrame) (s : State) : exec (.ctlSleepRefuse f) s = execCtlSleepRefuse f s := rfl

theorem exec_ctlWake (f : UboriFrame) (s : State) : exec (.ctlWake f) s = execCtlWake f s := rfl

theorem isCtl_of {f : UboriFrame} {n : Nat} (h : nbits f.arg.toNat 0 8 = n) : isCtl f n = true := by
  rw [isCtl, h, beq_self_eq_true]

theorem hasWitness_of {s : State} (h : s.pair.rec_.wAddr ≠ 0) : s.hasWitness = true := bne_iff_ne.mpr h

theorem hasWitness_none {s : State} (h : s.pair.rec_.wAddr = 0) : s.hasWitness = false := by simp [State.hasWitness, h]

/-! ### The link (R530, R533) -/

theorem exec_uboriLinkDown (s : State) : exec .uboriLinkDown s = .next s.linkDown := rfl

theorem exec_uboriLinkRetrain (working : BitVec 8) (s : State) : exec (.uboriLinkRetrain working) s = execUboriLinkRetrain working s := rfl

theorem exec_uboriRetransmit (s : State) : exec .uboriRetransmit s = execUboriRetransmit s := rfl

section
variable {s : State} {lanes : BitVec 4}

theorem uboriLinkUp_down (hlink : s.rdB PAIR_STAT.LINK = false) (hw : laneWidth lanes.toNat ≠ 0) : exec (.uboriLinkUp lanes) s = .next
    (((((s.wr PAIR_STAT.LINK 1).wr PAIR_LINK.LANES (laneWidth lanes.toNat)).modPair (fun p => { p with
      txSeq := 0, rxSeq := 0, unacked := [], tries := 0 })).fire 0x220).negotiate) :=
  congrArg Host.Outcome.next (if_neg (by simp [hlink, hw]))

theorem uboriLinkUp_up (hlink : s.rdB PAIR_STAT.LINK = true) : exec (.uboriLinkUp lanes) s = .next s :=
  congrArg Host.Outcome.next (if_pos (.inl hlink))

theorem linkDown_down (hlink : s.rdB PAIR_STAT.LINK = false) : s.linkDown = s := by
  rw [State.linkDown, if_pos (by simp [hlink])]

/-- The state a link that goes down leaves before the state of the pair follows (R530). -/
def State.linkLost (s : State) : State :=
  (((s.wr PAIR_STAT.LINK 0).wr PAIR_LINK.LANES 0).modPair (fun p => { p with unacked := [], tries := 0, staging := none })).fire 0x221

/-- An unpaired side only loses the link. -/
theorem linkDown_unpaired (hlink : s.rdB PAIR_STAT.LINK = true) (hst : s.linkLost.pstate = 0) : s.linkDown = s.linkLost := by
  unfold State.linkLost at *
  simp [State.linkDown, hlink, hst]

theorem uboriLinkRetrain_narrower {working : BitVec 8} (hlink : s.rdB PAIR_STAT.LINK = true)
    (hw : laneWidth ((List.range 8).filter (fun i => bitOf working i)).length ≠ 0) : exec (.uboriLinkRetrain working) s =
      .next (s.wr PAIR_LINK.LANES (laneWidth ((List.range 8).filter (fun i => bitOf working i)).length)) :=
  congrArg Host.Outcome.next ((if_neg hw).trans (if_pos hlink))

theorem uboriLinkRetrain_lost {working : BitVec 8} (hw : laneWidth ((List.range 8).filter (fun i => bitOf working i)).length = 0) :
    exec (.uboriLinkRetrain working) s = .next s.linkDown := congrArg Host.Outcome.next (if_pos hw)

theorem uboriRetransmit_none (h : s.pair.unacked = []) : exec .uboriRetransmit s = .next s :=
  congrArg Host.Outcome.next (if_pos (.inl (by simp [h])))

section
variable (hlink : s.rdB PAIR_STAT.LINK = true) (hwait : s.pair.unacked ≠ [])
include hlink hwait

theorem retransmits : ¬ (s.pair.unacked.isEmpty = true ∨ (!s.rdB PAIR_STAT.LINK) = true) := by simp [hlink, hwait]

theorem uboriRetransmit_givesUp (ht : 16 ≤ s.pair.tries) : exec .uboriRetransmit s = .next s.linkDown :=
  congrArg Host.Outcome.next ((if_neg (retransmits hlink hwait)).trans (if_pos ht))

theorem uboriRetransmit_sends (ht : s.pair.tries < 16) : exec .uboriRetransmit s = .next
    ((s.pair.unacked.take 1024).foldl (fun s r => s.leave (.ubori (uboriSeal { r.f with flags := 1 })))
      ((s.cnt PAIR_LINK.RETX (s.pair.unacked.take 1024).length).modPair (fun p => { p with
        tries := p.tries + 1, unacked := p.unacked.map (fun r => { r with last := s.now }) }))) := by
  rw [exec_uboriRetransmit, execUboriRetransmit, if_neg (retransmits hlink hwait), if_neg (Nat.not_le.mpr ht)]

end

end

theorem linkResults : Sys2Proof.Clauses.LinkResults := by
  intro s u lanes working f
  refine ⟨uboriLinkUp_down, uboriLinkUp_up, fun hlink => ?_, fun hlink hst => ?_, uboriLinkRetrain_narrower, uboriLinkRetrain_lost,
    uboriRetransmit_none, uboriRetransmit_givesUp, uboriRetransmit_sends, fun h => ?_, fun hlink harm hseal => ⟨?_, ?_⟩, fun h hseq => ?_⟩
  · rw [exec_uboriLinkDown, linkDown_down hlink]
  · exact congrArg Host.Outcome.next (linkDown_unpaired hlink hst)
  · rw [exec_linkack, uboriIn_heard h, id]
  · rw [exec_linkack, uboriIn_failed hlink harm hseal]
  · rw [exec_holdFrame, uboriIn_failed hlink harm hseal]
  · rw [exec_holdFrame, uboriIn_outOfOrder h hseq]

/-! ### Negotiation and heartbeats (R534 to R537, R541, R626) -/

section
variable {s u : State} {f : UboriFrame} {h : HelloRec} {a : PairAuth}

theorem helloIn_unpaired (hkind : s.pair.rec_.kind = 0) :
    s.helloIn h a = (s.modPair (fun p => { p with hello := some h })).wr PAIR_STAT.REFUSE 2 := if_pos hkind

/-- A HELLO that does not match, over a heartbeat wire that is sound, is refused with its code (R535). -/
theorem helloIn_refused (hkind : s.pair.rec_.kind ≠ 0) (hst : s.pstate = 1) (hstrap : s.rdB SB_STRAP.HBWIRE = false) (hhb : s.hbAlive = true)
    (hout : s.rdB SB_WIRE.HB_OUT_OFF = false) (hcode : helloCode s.helloOwn h ≠ 0) :
    s.helloIn h a = (s.modPair (fun p => { p with hello := some h })).refusePair (helloCode s.helloOwn h) := by
  have hstrap' : (s.modPair (fun p => { p with hello := some h })).rdB SB_STRAP.HBWIRE = false := hstrap
  have hwire : ((s.modPair (fun p => { p with hello := some h })).hbAlive && !(s.modPair (fun p => { p with hello := some h })).rdB
      SB_WIRE.HB_OUT_OFF) = true := by
    rw [show (s.modPair (fun p => { p with hello := some h })).hbAlive = true from hhb,
      show (s.modPair (fun p => { p with hello := some h })).rdB SB_WIRE.HB_OUT_OFF = false from hout]
    rfl
  rw [State.helloIn, if_neg hkind, if_neg (not_not.mpr hst)]
  simp only [hstrap', hwire, if_pos hcode, Bool.false_eq_true, if_false, if_true]

theorem heartbeatSend_paired (hst : 2 ≤ s.pstate) : exec .heartbeatSend s = .next s.sendHeartbeat := congrArg Host.Outcome.next (if_pos hst)

theorem heartbeatSend_unpaired (hst : s.pstate < 2) : exec .heartbeatSend s = .next s :=
  congrArg Host.Outcome.next (if_neg (Nat.not_le.mpr hst))

/-- A Standby only notes the heartbeat and its level. -/
theorem heartbeatIn_standby (hrole : s.role = 2) (arg : Word) : s.heartbeatIn arg = s.modPair (fun p => { p with
    lastHb := some s.now, pLevel := BitVec.ofNat 3 (nbits arg.toNat 0 3), suspect := false }) := by
  have hserves : ¬ (s.role = 1 ∨ s.role = 3) := by simp [hrole]
  exact if_neg hserves

theorem exec_pairHbOutToggle (s : State) : exec .pairHbOutToggle s = execPairHbOutToggle s := rfl

theorem pairHbOutToggle_toggles (hrun : s.sec.sys = .run) (hshed : s.shed ≤ 5) (hkind : s.pair.rec_.kind ≠ 0)
    (hout : s.rdB SB_WIRE.HB_OUT_OFF = false) : exec .pairHbOutToggle s = .next (s.modPair (fun p => { p with hbOut := !p.hbOut })) := by
  have hpaired : (s.pair.rec_.kind != 0) = true := bne_iff_ne.mpr hkind
  simp only [exec_pairHbOutToggle, execPairHbOutToggle, State.modPair, hrun, hshed, hpaired, hout, beq_self_eq_true, decide_true,
    Bool.not_false, Bool.true_and]

theorem pairHbOutToggle_low (hshed : 5 < s.shed) : exec .pairHbOutToggle s = .next (s.modPair (fun p => { p with hbOut := false })) := by
  simp [exec_pairHbOutToggle, execPairHbOutToggle, State.modPair, Nat.not_le.mpr hshed]

end

/-! ### Suspicion (R544) -/

theorem exec_heartbeatSuspicion (s : State) : exec .heartbeatSuspicion s = execHeartbeatSuspicion s := rfl

theorem heartbeatSuspicion_held {s : State} (hhold : s.rdB PAIR_STAT.HOLD = true) (hopen : s.dbgClosed = false) :
    exec .heartbeatSuspicion s = .next s := congrArg Host.Outcome.next (if_pos (by simp [hhold, hopen]))

section
variable {s : State} (hrole : s.role = 2) (hst : s.pstate = 3) (hhold : s.rdB PAIR_STAT.HOLD = false) (hagreed : s.pwr.agreed = false)
  (hsuspect : s.pair.suspect = true) (halive : s.hbAlive = false)

include hrole hst hhold hagreed hsuspect in
/-- A suspicion that stands is checked again. -/
theorem heartbeatSuspicion_stands : exec .heartbeatSuspicion s = .next s.suspectCheck := by
  simp [exec_heartbeatSuspicion, execHeartbeatSuspicion, hrole, hst, hhold, hagreed, hsuspect]

include halive in
theorem suspectCheck_witness (hw : s.pair.rec_.wAddr ≠ 0) : s.suspectCheck = s.askWitness 2 := by
  simp [State.suspectCheck, halive, hasWitness_of hw]

include halive in
theorem suspectCheck_alone (hw : s.pair.rec_.wAddr = 0) : s.suspectCheck = s.failover := by
  simp [State.suspectCheck, halive, hasWitness_none hw]

end

/-! ### HOLD, RELEASE and CTL (R544, R626) -/

section
variable {s u : State} {f : UboriFrame}

theorem holdFrame_taken (h : s.takesUbori 0x0B f u) (hopen : u.dbgClosed = false) :
    exec (.holdFrame f) s = .next (u.wr PAIR_STAT.HOLD 1).linkAck := by
  rw [exec_holdFrame, uboriIn_taken h, if_neg (Bool.eq_false_iff.mp hopen)]

theorem releaseFrame_taken (h : s.takesUbori 0x0C f u) : exec (.releaseFrame f) s = .next (u.wr PAIR_STAT.HOLD 0).linkAck := by
  rw [exec_releaseFrame, uboriIn_taken h]

variable (h : s.takesUbori 0x0D f u)
include h

theorem ctlFailover_asks (hctl : nbits f.arg.toNat 0 8 = 1) (hrole : u.role = 2) (hst : u.pstate = 3) (hw : u.pair.rec_.wAddr ≠ 0) :
    exec (.ctlFailover f) s = .next ((u.modPair (fun p => { p with suspect := true })).askWitness 2).linkAck := by
  have hwit : (u.modPair (fun p => { p with suspect := true })).hasWitness = true := hasWitness_of hw
  rw [exec_ctlFailover, execCtlFailover, uboriIn_taken h]
  simp [isCtl_of hctl, hrole, hst, hwit]

theorem ctlSleepReq_agrees (hctl : nbits f.arg.toNat 0 8 = 2) (hst : u.pstate = 3) (hbar : u.sleepBar = 0) (hrun : u.sec.sys = .run) :
    exec (.ctlSleepReq f) s = .next (((((u.ctl 3).wr PWR_SLEEP.STATE 1).wr PWR_SLEEP.RESULT 0).wr PWR_SLEEP.REQ 1).modPwr (fun w => { w with
      agreed := true })).linkAck := by
  rw [exec_ctlSleepReq, execCtlSleepReq, uboriIn_taken h]
  simp only [isCtl_of hctl, Bool.not_true, Bool.false_eq_true, if_false, if_pos (And.intro hst (And.intro hbar hrun))]

theorem ctlSleepReq_refuses (hctl : nbits f.arg.toNat 0 8 = 2) (hst : u.pstate ≠ 3) :
    exec (.ctlSleepReq f) s = .next (u.ctl 4).linkAck := by
  rw [exec_ctlSleepReq, execCtlSleepReq, uboriIn_taken h]
  simp [isCtl_of hctl, hst]

theorem ctlSleepAck_agrees (hctl : nbits f.arg.toNat 0 8 = 3) (hst : u.rd PWR_SLEEP.STATE = 1) :
    exec (.ctlSleepAck f) s = .next (u.modPwr (fun w => { w with agreed := true })).linkAck := by
  rw [exec_ctlSleepAck, execCtlSleepAck, uboriIn_taken h, if_pos ⟨isCtl_of hctl, hst⟩]

theorem ctlSleepRefuse_ends (hctl : nbits f.arg.toNat 0 8 = 4) (hst : u.rd PWR_SLEEP.STATE = 1) : exec (.ctlSleepRefuse f) s = .next
    ((((u.wr PWR_SLEEP.STATE 3).wr PWR_SLEEP.RESULT 4).wr PWR_SLEEP.REQ 0).modPair (fun p => { p with sleepAsk := false })).linkAck := by
  rw [exec_ctlSleepRefuse, execCtlSleepRefuse, uboriIn_taken h, if_pos ⟨isCtl_of hctl, hst⟩, State.sleepRefuse]

theorem ctlWake_wakes (hctl : nbits f.arg.toNat 0 8 = 5) : exec (.ctlWake f) s = .next u.wakeEvent.linkAck := by
  rw [exec_ctlWake, execCtlWake, uboriIn_taken h, if_pos (isCtl_of hctl)]

end

/-! ### The witness and the fence (R537, R545, R546) -/

theorem exec_witnessReply (r : WitnessReply) (s : State) : exec (.witnessReply r) s = execWitnessReply r s := rfl

section
variable {s : State}

theorem witnessRenew_serving (hrole : s.role = 1 ∨ s.role = 3) : exec .witnessRenew s = .next (s.askWitness 1) :=
  congrArg Host.Outcome.next (if_pos hrole)

theorem witnessRenew_claims (hrole : s.role = 2) (hclaim : s.pair.claim = true) : exec .witnessRenew s = .next (s.askWitness 2) := by
  have hserves : ¬ (s.role = 1 ∨ s.role = 3) := by simp [hrole]
  exact congrArg Host.Outcome.next ((if_neg hserves).trans (if_pos hclaim))

theorem fence_fences (hrole : s.role = 1) (hw : s.pair.rec_.wAddr ≠ 0) (hfenced : s.pair.fenced = false) : exec .fence s = .next
    ((((s.outOfSync.wr PAIR_STAT.STATE 5).wr PAIR_STAT.LEASE 0).modPair (fun p => { p with fenced := true, grantAt := none })).modN
      (fun e => { e with silent := true })) :=
  congrArg Host.Outcome.next (if_neg (by simp [hrole, hasWitness_of hw, hfenced]))

theorem partnerSilentSinceBoot_serves (hkind : s.pair.rec_.kind = 1) (hw : s.pair.rec_.wAddr = 0) (hhb : s.pair.lastHb = none)
    (hedge : s.pair.hbIn = none) (hrole : s.role = 2) (hrun : s.sec.sys = .run) : exec .partnerSilentSinceBoot s = .next
      (((s.wr PAIR_STAT.ROLE 1).wr PAIR_STAT.STATE 0).takeIdentity) := by
  have hserve : ¬ (s.pair.rec_.kind = 0 ∨ s.hasWitness ∨ s.pair.lastHb.isSome ∨ s.pair.hbIn.isSome ∨ s.role ≠ 2 ∨ s.sec.sys ≠ .run) := by
    simp [hkind, hasWitness_none hw, hhb, hedge, hrole, hrun]
  refine congrArg Host.Outcome.next ((if_neg hserve).trans ?_)
  rw [if_neg (by simp [hkind])]

theorem partnerSilentSinceBoot_heard (hedge : s.pair.hbIn ≠ none) : exec .partnerSilentSinceBoot s = .next s :=
  congrArg Host.Outcome.next (if_pos (.inr (.inr (.inr (.inl (Option.isSome_iff_ne_none.mpr hedge))))))

variable {r : WitnessReply}

theorem witnessReply_dropped (hok : s.witnessOk r = false) : exec (.witnessReply r) s = .next s :=
  congrArg Host.Outcome.next (if_pos (by simp [hok]))

/-- A reply to a request for the lease gives or takes it. -/
theorem witnessReply_answers (hok : s.witnessOk r = true) (hop : s.pair.reqOp ≠ 3) :
    exec (.witnessReply r) s = .next (if r.grant then s.granted else s.denied) := by
  rw [exec_witnessReply, execWitnessReply, if_neg (by simp [hok]), if_neg hop]

theorem granted_renews (hop : s.pair.reqOp = 1) (hfenced : s.pair.fenced = false) :
    s.granted = (s.wr PAIR_STAT.LEASE 1).modPair (fun p => { p with grantAt := some s.now, reqAt := none }) := by
  simp [State.granted, hop, hfenced]

theorem granted_failover (hop : s.pair.reqOp = 2) (hsuspect : s.pair.suspect = true) :
    s.granted = ((s.wr PAIR_STAT.LEASE 1).modPair (fun p => { p with grantAt := some s.now, reqAt := none })).failover := by
  simp [State.granted, hop, hsuspect]

theorem denied_suspecting (hop : s.pair.reqOp = 2) (hsuspect : s.pair.suspect = true) :
    s.denied = ((s.wr PAIR_STAT.LEASE 0).modPair (fun p => { p with reqAt := none, suspect := false })).wr PAIR_STAT.STATE 4 := by
  have hop' : ((s.wr PAIR_STAT.LEASE 0).modPair (fun p => { p with reqAt := none })).pair.reqOp ≠ 1 := by simp [hop]
  exact (if_neg hop').trans (if_pos hsuspect)

end

theorem pairControlResults : Sys2Proof.Clauses.PairControlResults := by
  intro s u f h a r
  refine ⟨fun hf hkind => ?_, fun hf hkind hst hstrap hhb hout hcode => ?_, heartbeatSend_paired, heartbeatSend_unpaired, fun hf hrole => ?_, rfl,
    pairHbOutToggle_toggles, pairHbOutToggle_low, fun hrole hst hhold hagreed hsus halive hw => ?_,
    fun hrole hst hhold hagreed hsus halive hw => ?_, heartbeatSuspicion_held, holdFrame_taken, releaseFrame_taken, ctlFailover_asks,
    ctlSleepReq_agrees, ctlSleepReq_refuses, ctlSleepAck_agrees, ctlSleepRefuse_ends, ctlWake_wakes, witnessRenew_serving, witnessRenew_claims,
    witnessReply_dropped, fun hok hop hfenced hg => ?_, fun hok hop hsus hg => ?_, fun hok hop hsus hg => ?_, fence_fences,
    partnerSilentSinceBoot_serves, partnerSilentSinceBoot_heard⟩
  · rw [exec_helloFrame, uboriIn_heard hf, helloIn_unpaired hkind]
  · rw [exec_helloFrame, uboriIn_heard hf, helloIn_refused hkind hst hstrap hhb hout hcode]
  · rw [exec_heartbeatFrame, uboriIn_heard hf, heartbeatIn_standby hrole]
  · rw [heartbeatSuspicion_stands hrole hst hhold hagreed hsus, suspectCheck_witness halive hw]
  · rw [heartbeatSuspicion_stands hrole hst hhold hagreed hsus, suspectCheck_alone halive hw]
  · rw [witnessReply_answers hok (by simp [hop]), if_pos hg, granted_renews hop hfenced]
  · rw [witnessReply_answers hok (by simp [hop]), if_pos hg, granted_failover hop hsus]
  · rw [witnessReply_answers hok (by simp [hop]), if_neg (by simp [hg]), denied_suspecting hop hsus]

/-- Settles O50: the link by its state, its lanes and its tries; frames by the rule of arrival and the effect of each; the witness by the
request its reply answers. -/
theorem pairLinkResults : Obligations.PairLinkResults := ⟨linkResults, pairControlResults⟩

end Sys2Proof.Machine
end

section
/-! SUPPORT. Run control and trace (R599 to R601, R605, R609 to R612). -/

namespace Sys2Proof.Machine

/-! ### HALT, RESUME and STEP (R599 to R601) -/

theorem exec_debugHalt (c0 : CpId) (s : State) : exec (.debugHalt c0) s = .next (s.dbgHalt c0) := rfl

theorem exec_debugResume (c0 : CpId) (s : State) : exec (.debugResume c0) s = .next (s.dbgResume c0) := rfl

theorem exec_debugStep (c0 : CpId) (s : State) : exec (.debugStep c0) s = .next (s.dbgStep c0) := rfl

section
variable {s : State} {c0 c : CpId} (hlead : s.lead c0 = c)
include hlead

/-- A CP that the policy does not open is refused, whatever the command (R599). -/
theorem debug_refused (hpol : s.haltable c = false) :
    exec (.debugHalt c0) s = .next (s.dbgRefuse c0) ∧ exec (.debugResume c0) s = .next (s.dbgRefuse c0) ∧
      exec (.debugStep c0) s = .next (s.dbgRefuse c0) := by
  subst hlead
  have hshut : (!s.haltable (s.lead c0)) = true := by simp [hpol]
  exact ⟨congrArg Host.Outcome.next (if_pos hshut), congrArg Host.Outcome.next (if_pos hshut), congrArg Host.Outcome.next (if_pos hshut)⟩

variable (hpol : s.haltable c = true)
include hpol

theorem debug_open : ¬ (!s.haltable (s.lead c0)) = true := by simp [hlead, hpol]

theorem debugHalt_inReset (hrun : (s.cp c).run = .inReset) : exec (.debugHalt c0) s = .next s := by
  rw [exec_debugHalt, State.dbgHalt, if_neg (debug_open hlead hpol), hlead]
  simp only [hrun]

theorem debugHalt_lockup (hrun : (s.cp c).run = .lockup) : exec (.debugHalt c0) s = .next (s.haltCp c 1 0 false) := by
  rw [exec_debugHalt, State.dbgHalt, if_neg (debug_open hlead hpol), hlead]
  simp only [hrun]

/-- HALT of a running CP: at once where it waits outside a LOCK window and a delay slot, else at its next boundary (R600). -/
theorem debugHalt_running (hrun : (s.cp c).run = .running) : exec (.debugHalt c0) s = .next
    (if (s.cp c).stall.takesIrq && (s.cp c).lock == 0 && (s.cp c).a.delay.isNone then
      ((s.modCp c (fun p => { p with haltReq := true })).modCp c (fun p => { p with stall := .none })).boundary c
    else s.modCp c (fun p => { p with haltReq := true })) := by
  rw [exec_debugHalt, State.dbgHalt, if_neg (debug_open hlead hpol), hlead]
  simp only [hrun]

theorem debugHalt_requested (hrun : (s.cp c).run = .running)
    (hbusy : (s.cp c).stall.takesIrq = false ∨ (s.cp c).lock ≠ 0 ∨ (s.cp c).a.delay ≠ none) :
    exec (.debugHalt c0) s = .next (s.modCp c (fun p => { p with haltReq := true })) := by
  have hwaits : ¬ ((s.cp c).stall.takesIrq && (s.cp c).lock == 0 && (s.cp c).a.delay.isNone) = true := by
    simp only [Bool.and_eq_true, beq_iff_eq, Option.isNone_iff_eq_none]
    rintro ⟨⟨hstall, hlock⟩, hdelay⟩
    obtain h | h | h := hbusy
    · simp [h] at hstall
    · exact h hlock
    · exact h hdelay
  rw [debugHalt_running hlead hpol hrun, if_neg hwaits]

theorem debugHalt_waiting (hrun : (s.cp c).run = .running) (hstall : (s.cp c).stall.takesIrq = true) (hlock : (s.cp c).lock = 0)
    (hdelay : (s.cp c).a.delay = none) : exec (.debugHalt c0) s = .next
      (((s.modCp c (fun p => { p with haltReq := true })).modCp c (fun p => { p with stall := .none })).boundary c) := by
  rw [debugHalt_running hlead hpol hrun, if_pos (by simp [hstall, hlock, hdelay])]

theorem debug_notHalted (hrun : (s.cp c).run ≠ .halted) :
    exec (.debugResume c0) s = .next s ∧ exec (.debugStep c0) s = .next s := by
  have hopen := debug_open hlead hpol
  subst hlead
  exact ⟨congrArg Host.Outcome.next ((if_neg hopen).trans (if_pos hrun)), congrArg Host.Outcome.next ((if_neg hopen).trans (if_pos hrun))⟩

theorem debug_halted (hrun : (s.cp c).run = .halted) :
    exec (.debugResume c0) s = .next ((((s.unhalt c false).tracePkt c 5 0 (BitVec.ofNat 64 (s.cp c).a.pc.toNat)).releaseCompare c).holdSync).thaw ∧
      exec (.debugStep c0) s = .next ((s.unhalt c true).releaseCompare c) := by
  have hopen := debug_open hlead hpol
  subst hlead
  have hhalt : ¬ (s.cp (s.lead c0)).run ≠ .halted := not_not.mpr hrun
  exact ⟨congrArg Host.Outcome.next ((if_neg hopen).trans (if_neg hhalt)), congrArg Host.Outcome.next ((if_neg hopen).trans (if_neg hhalt))⟩

end

/-! ### Registers of a halted CP (R605) -/

theorem exec_dbgRegdataAccess (c0 : CpId) (w : Bool) (v : Word) (s : State) :
    exec (.dbgRegdataAccess c0 w v) s = execDbgRegdataAccess c0 w v s := rfl

section
variable {s : State} {c0 c : CpId} (hlead : s.lead c0 = c)
include hlead

theorem dbgRegdataAccess_notHalted (hrun : (s.cp c).run ≠ .halted) (w : Bool) (v : Word) : exec (.dbgRegdataAccess c0 w v) s = .next s := by
  subst hlead
  have hread : s.regDataRead c0 = (2, 0, s) := if_pos (.inl hrun)
  have hwrite : s.regDataWrite c0 v = (2, s) := if_pos (.inl hrun)
  cases w with
  | false => simp [exec_dbgRegdataAccess, execDbgRegdataAccess, hread]
  | true => simp [exec_dbgRegdataAccess, execDbgRegdataAccess, hwrite]

variable (hrun : (s.cp c).run = .halted) (hbank : s.rd (DBG_REGSEL.BANK c0) = 0) {n : Fin 16} (hnum : s.rd (DBG_REGSEL.NUM c0) = n.val)
include hrun hbank hnum

theorem regDataRead_g : s.regDataRead c0 = (0, (s.cp c).a.g[n.val], s) := by
  subst hlead
  simp [State.regDataRead, State.regSel, hrun, hbank, hnum, selOk, Nat.mod_eq_of_lt n.isLt]

theorem regDataWrite_g (v : Word) : s.regDataWrite c0 v = (0, s.modA c (fun a => { a with g := vecUpd a.g n (fun _ => v) })) := by
  subst hlead
  simp [State.regDataWrite, State.regSel, hrun, hbank, hnum, selOk, Nat.mod_eq_of_lt n.isLt]

/-- Bank 0 selects the G registers. -/
theorem dbgRegdataAccess_g (v : Word) :
    exec (.dbgRegdataAccess c0 false v) s = .next (s.setReg (DBG_REGDATA.adr c0) (s.cp c).a.g[n.val]) ∧
      exec (.dbgRegdataAccess c0 true v) s = .next ((s.modA c (fun a => { a with g := vecUpd a.g n (fun _ => v) })).setReg (DBG_REGDATA.adr c0) v) := by
  constructor
  · simp [exec_dbgRegdataAccess, execDbgRegdataAccess, regDataRead_g hlead hrun hbank hnum]
  · simp [exec_dbgRegdataAccess, execDbgRegdataAccess, regDataWrite_g hlead hrun hbank hnum]

end

/-! ### Packets that leave the trace queue (R611) -/

theorem exec_tracePacketOut (cl : ClusterId) (s : State) : exec (.tracePacketOut cl) s = execTracePacketOut cl s := rfl

/-- The oldest packet is lost: it leaves the queue and is counted. -/
def State.traceLost (s : State) (cl : ClusterId) (rest : List TracePkt) : State :=
  (s.modTrc cl (fun t => { t with queue := rest })).cntSat (TRACE_STAT.LOST cl) 1

theorem tracePacketOut_empty {s : State} {cl : ClusterId} (hq : s.trc[cl.val].queue = []) : exec (.tracePacketOut cl) s = .next s := by
  simp only [exec_tracePacketOut, execTracePacketOut, hq]

section
variable {s : State} {cl : ClusterId} {k : TracePkt} {rest : List TracePkt} (hq : s.trc[cl.val].queue = k :: rest)
include hq

theorem modTrc_tail : s.modTrc cl (fun t => { t with queue := t.queue.tail }) = s.modTrc cl (fun t => { t with queue := rest }) := by
  simp [State.modTrc, vecUpd, hq]

/-- Where the oldest packet of a trace queue goes. -/
theorem execTracePacketOut_cons : exec (.tracePacketOut cl) s = .next
    ((if s.rdB (TRACE_CFG.DEST cl) then (if s.dbgPol.traceM0 then s.traceSend cl else s.traceLost cl rest)
      else if !s.rdB (SPAD_CFG.TRACE cl) ∨ s.rdB (TRACE_STAT.FULL cl) then s.traceLost cl rest
      else s.traceStore cl k).traceOverflow cl) := by
  simp only [exec_tracePacketOut, execTracePacketOut, hq, modTrc_tail hq, State.traceLost]

theorem tracePacketOut_sends (hdest : s.rdB (TRACE_CFG.DEST cl) = true) (hm0 : s.dbgPol.traceM0 = true) :
    exec (.tracePacketOut cl) s = .next ((s.traceSend cl).traceOverflow cl) := by
  rw [execTracePacketOut_cons hq, if_pos hdest, if_pos hm0]

theorem tracePacketOut_shut (hdest : s.rdB (TRACE_CFG.DEST cl) = true) (hm0 : s.dbgPol.traceM0 = false) :
    exec (.tracePacketOut cl) s = .next ((s.traceLost cl rest).traceOverflow cl) := by
  rw [execTracePacketOut_cons hq, if_pos hdest, if_neg (Bool.eq_false_iff.mp hm0)]

theorem tracePacketOut_noCarveOut (hdest : s.rdB (TRACE_CFG.DEST cl) = false) (hspad : s.rdB (SPAD_CFG.TRACE cl) = false) :
    exec (.tracePacketOut cl) s = .next ((s.traceLost cl rest).traceOverflow cl) := by
  rw [execTracePacketOut_cons hq, if_neg (Bool.eq_false_iff.mp hdest), if_pos (.inl (by simp [hspad]))]

theorem tracePacketOut_stores (hdest : s.rdB (TRACE_CFG.DEST cl) = false) (hspad : s.rdB (SPAD_CFG.TRACE cl) = true)
    (hfull : s.rdB (TRACE_STAT.FULL cl) = false) : exec (.tracePacketOut cl) s = .next ((s.traceStore cl k).traceOverflow cl) := by
  rw [execTracePacketOut_cons hq, if_neg (Bool.eq_false_iff.mp hdest), if_neg (by simp [hspad, hfull])]

end

/-! ### A write of TRACE_CFG (R612) -/

theorem exec_traceCfgWrite (cl : ClusterId) (v : Word) (s : State) : exec (.traceCfgWrite cl v) s = .next (s.traceCfg cl v) := rfl

/-- An address whose entries a filter drops reads as an unlisted one. -/
theorem mapGet_filter_out {α : Type} (d : Nat → α) (m : List (Nat × α)) {p : Nat → Bool} {a : Nat} (h : p a = false) :
    mapGet d (m.filter (fun e => p e.1)) a = d a := by
  have hfind : mapFind (m.filter (fun e => p e.1)) a = none := by
    induction m with
    | nil => rfl
    | cons x m ih =>
      obtain ⟨k, w⟩ := x
      by_cases hk : p k = true
      · have hne : a ≠ k := fun e => by simp [e, hk] at h
        simpa [hk, mapFind, hne] using ih
      · simpa [hk] using ih
  rw [mapGet, hfind, Option.getD_none]

/-- An address whose entries a filter keeps reads as it did. -/
theorem mapGet_filter_in {α : Type} (d : Nat → α) (m : List (Nat × α)) {p : Nat → Bool} {a : Nat} (h : p a = true) :
    mapGet d (m.filter (fun e => p e.1)) a = mapGet d m a := by
  have hfind : mapFind (m.filter (fun e => p e.1)) a = mapFind m a := by
    induction m with
    | nil => rfl
    | cons x m ih =>
      obtain ⟨k, w⟩ := x
      by_cases hk : p k = true
      · simp [hk, mapFind, ih]
      · have hne : a ≠ k := fun e => hk (e ▸ h)
        simpa [hk, mapFind, hne] using ih
  rw [mapGet, hfind, mapGet]

/-- The registers of a trace that starts again: TRACE_CFG as written, WPTR and FULL at 0. -/
def State.traceFresh (s : State) (cl : ClusterId) (v : Word) : State :=
  ((s.setReg (TRACE_CFG.adr cl) (v &&& 0xFFFFFFFF00000007)).wr (TRACE_STAT.WPTR cl) 0).wr (TRACE_STAT.FULL cl) 0

section
variable {s : State} {cl : ClusterId} {v : Word}

theorem rdB_traceFresh_spad (s : State) (cl : ClusterId) (v : Word) : (s.traceFresh cl v).rdB (SPAD_CFG.TRACE cl) = s.rdB (SPAD_CFG.TRACE cl) := by
  have hstat : ∀ cl : ClusterId, SPAD_CFG.adr cl ≠ TRACE_STAT.adr cl := by decide
  have hcfg : ∀ cl : ClusterId, SPAD_CFG.adr cl ≠ TRACE_CFG.adr cl := by decide
  rw [State.traceFresh, rdB_wr_ne _ _ (hstat cl), rdB_wr_ne _ _ (hstat cl), State.rdB, State.rd]
  exact congrArg (fun w => (SPAD_CFG.TRACE cl).ofWord w != 0) (reg_setReg_ne s _ (hcfg cl))

theorem rd_traceFresh_wptr (s : State) (cl : ClusterId) (v : Word) : (s.traceFresh cl v).rd (TRACE_STAT.WPTR cl) = 0 := by
  rw [State.traceFresh, rd_wr_beside _ _ (g := TRACE_STAT.WPTR cl) (f := TRACE_STAT.FULL cl) rfl (.inr (Nat.le_refl 16)),
    rd_wr_self _ (show 0 + 16 ≤ 64 by decide) (Nat.two_pow_pos _)]

theorem traceCfgWrite_noCarveOut (hspad : s.rdB (SPAD_CFG.TRACE cl) = false) : exec (.traceCfgWrite cl v) s = .next (s.traceFresh cl v) :=
  congrArg Host.Outcome.next (if_neg (Bool.eq_false_iff.mp ((rdB_traceFresh_spad s cl v).trans hspad)))

/-- Whether a key lies in a cluster's carve-out (R343). -/
def inCarveOut (cl : ClusterId) (k : Nat) : Bool := decide (traceKey cl.val 0 ≤ k) && decide (k < traceKey cl.val 0 + 0x100000)

/-- The carve-out of a cluster emptied: nothing is listed for it. -/
def State.carveOutCleared (s : State) (cl : ClusterId) : State :=
  { s with mem := s.mem.filter (fun e => !inCarveOut cl e.1), errs := s.errs.filter (fun e => !inCarveOut cl (8 * e.1)),
           tags := s.tags.filter (fun e => !inCarveOut cl (16 * e.1)) }

theorem traceCfgWrite_carveOut (hspad : s.rdB (SPAD_CFG.TRACE cl) = true) :
    exec (.traceCfgWrite cl v) s = .next ((s.traceFresh cl v).carveOutCleared cl) :=
  congrArg Host.Outcome.next (if_pos ((rdB_traceFresh_spad s cl v).trans hspad))

theorem rawByte_carveOutCleared_in (s : State) {a : Nat} (h : inCarveOut cl a = true) : (s.carveOutCleared cl).rawByte a = memDefault a :=
  mapGet_filter_out (p := fun k => !inCarveOut cl k) memDefault s.mem (by simp [h])

theorem rawByte_carveOutCleared_out (s : State) {a : Nat} (h : inCarveOut cl a = false) : (s.carveOutCleared cl).rawByte a = s.rawByte a :=
  mapGet_filter_in (p := fun k => !inCarveOut cl k) memDefault s.mem (by simp [h])

/-- A carve-out starts again: its bytes go, all others stay. -/
theorem traceCfgWrite_restarts (hspad : s.rdB (SPAD_CFG.TRACE cl) = true) (v : Word) :
    ∃ t, exec (.traceCfgWrite cl v) s = .next t ∧ t.rd (TRACE_STAT.WPTR cl) = 0 ∧
      (∀ a, traceKey cl.val 0 ≤ a → a < traceKey cl.val 0 + 0x100000 → t.rawByte a = memDefault a) ∧
      ∀ a, (a < traceKey cl.val 0 ∨ traceKey cl.val 0 + 0x100000 ≤ a) → t.rawByte a = s.rawByte a := by
  refine ⟨_, traceCfgWrite_carveOut hspad, rd_traceFresh_wptr s cl v, fun a hlo hhi => ?_, fun a hout => ?_⟩
  · exact rawByte_carveOutCleared_in _ (by simp [inCarveOut, hlo, hhi])
  · have hnot : inCarveOut cl a = false := by
      simp only [inCarveOut, Bool.and_eq_false_iff, decide_eq_false_iff_not]
      omega
    exact rawByte_carveOutCleared_out _ hnot

end

/-- Settles O52: the commands of run control by what the CP does, the G registers of a halted CP, and the packets and the carve-out of a
trace. -/
theorem runControlResults : Obligations.RunControlResults := by
  intro s c0 c cl v k rest
  refine ⟨fun hlead => ⟨debug_refused hlead, fun hpol hrun => ⟨debugHalt_requested hlead hpol hrun, debugHalt_waiting hlead hpol hrun⟩,
      debugHalt_inReset hlead, debugHalt_lockup hlead, debug_notHalted hlead, debug_halted hlead,
      fun hrun hbank n hnum => dbgRegdataAccess_g hlead hrun hbank hnum v, fun hrun w => dbgRegdataAccess_notHalted hlead hrun w v⟩,
    fun hq => ⟨tracePacketOut_sends hq, tracePacketOut_shut hq, tracePacketOut_noCarveOut hq, tracePacketOut_stores hq⟩,
    tracePacketOut_empty, traceCfgWrite_noCarveOut, fun hspad => traceCfgWrite_restarts hspad v⟩

end Sys2Proof.Machine
end
